-- ==== Sys2Proof/Word.lean ====
section
/-! DEFINITION. The word types of the GDN7232: 32-bit registers (R10) and bytes. -/

namespace Sys2Proof

/-- A register word: registers are 32 bits wide (R10). -/
abbrev Word := BitVec 32

/-- A byte of a cluster SRAM, of the trace memory or of an I2C transfer. -/
abbrev Byte := BitVec 8

end Sys2Proof
end

