-- ==== Sys2Proof/Syntax.lean ====
section
/-! DEFINITION. The commands: one constructor for every row of spec/opcode_table.json, with the operands that come from
outside the package. Operand names: p a port (Fin 2: 0 the host port, 1 the maintenance port; Fin 11: 0 to 8 the core of that
cluster, 9 the host port, 10 the maintenance port); c a cluster; w a work; k a slot; n a channel, output, timer or counter; m a
modulator or comparator; e a jig engine; r a fabric port or a ring; addr and v the address and the word of an access; link false
when the die link's transfer of the access ended in LINK_FAULT; ecc what the word's check found (0 good, 1 corrected, 2
uncorrectable); d, s, t, b, h, imm the fields of a Walend word (R179); a and imm the fields A and IMM of a jig word (R302); pins
the qualified levels of the engine's eight pins; ts and stamp a time in TCLK (jig and timer stamps: SVCLK). -/

namespace Sys2Proof

/-- The end of a pulse: its wheel and its width in TCLK (R54). -/
structure PulseEnd where
  wheel : Fin 3
  width : Nat
  deriving DecidableEq, Repr

/-- A qualified edge: its timestamp and the level of the pin that tells the direction (R53). -/
structure EdgeAt where
  ts : Nat
  level : Bool
  deriving DecidableEq, Repr

/-- What the check of the sealed counts found, a bit per counter: corrected, uncorrectable (R336). -/
structure SealFound where
  ce : BitVec 16
  bad : BitVec 16
  deriving DecidableEq, Repr

/-- What the self-test finds at the edge generator: whether the vernier calibration succeeds, and the lines whose echo fails (R453). -/
structure EchoResult where
  cal : Bool
  bad : List (Fin 56)
  deriving DecidableEq, Repr

/-- A command to the package. -/
inductive Instr where
  /-- POWER_ON_RESET (R452): The last of VMAIN, VBKUP and VIO0 becomes good; power-on reset is asserted and the straps are sampled at its release. -/
  | powerOnReset
  /-- POR_RELEASE (R452): 200 µs after reset assertion, power-on reset is released, the bucks start and the device enters SELFTEST. -/
  | porRelease (nid : Fin 32) (ma : Fin 8) (test : Bool)
  /-- PLL_LOCK (R452): The PLL locks, TCLK runs and the power-up or wake self-test begins. -/
  | pllLock
  /-- SELFTEST_END (R453): The self-test ends and the device enters READY, or SIDELINES if a fatal item failed; SYS_ST.DONE is set. -/
  | selftestEnd (fails : BitVec 16) (stores : Bool) (echo : EchoResult) (drvLink : Bool)
  /-- SUPPLY_LOST (R444): VMAIN, VBKUP or VIO0 falls below its lost threshold; pending sealed increments are added, scribe VALID is cleared and the device enters OFF. -/
  | supplyLost (which : Fin 3)
  /-- VIO_BANK_LOST (R443): VIO1, VIO2 or VIO3 is lost; its outputs go high-impedance and its inputs read inactive. -/
  | vioBankLost (b : Fin 3)
  /-- VBAT_LOST (R445): VBAT falls below its lost threshold; the driver die turns every drive off and reports DRV_SAFE, placing the package in the safe actuation state. -/
  | vbatLost
  /-- PLL_UNLOCK_TIMEOUT (R447): The PLL lock detector stays dropped for 1 µs. -/
  | pllUnlockTimeout
  /-- REFERENCE_WINDOW_END (R447): A window of 64 SCLK periods ends; the reference cycle count is compared with 48,828.125 and CLOCK_FAIL is raised beyond ±98 cycles. -/
  | referenceWindowEnd (cycles : Nat)
  /-- SCLK_SILENCE (R447): SCLK gives no edge for 100 µs and the clock monitor raises CLOCK_FAIL. -/
  | sclkSilence
  /-- SYS_RUN (R451): SYS_CMD command RUN with CONFIRM 5AFEh moves READY to RUN, or returns busy. -/
  | sysRun (p : Fin 2) (confirm : BitVec 16)
  /-- SYS_READY (R451): SYS_CMD command READY moves RUN to READY, or returns busy. -/
  | sysReady (p : Fin 2) (confirm : BitVec 16)
  /-- SYS_STANDBY (R455): SYS_CMD command STANDBY, accepted only in READY or SIDELINES with combined sync NOSYNC, starts the STANDBY entry sequence. -/
  | sysStandby (p : Fin 2) (confirm : BitVec 16)
  /-- STANDBY_COMPLETE (R455): The last step of the STANDBY entry completes: bucks, oscillator and PLL stop and the wake sources are armed. -/
  | standbyComplete
  /-- SYS_RETEST (R454): SYS_CMD command RETEST from SIDELINES repeats the power-up self-test in full, including trace-memory initialisation. -/
  | sysRetest (p : Fin 2) (confirm : BitVec 16)
  /-- WAKE_PIN (R457): The WAKE ball reaches the level set by PINPOL while the PIN wake source is enabled. -/
  | wakePin
  /-- WAKE_WHL (R457): The first WHL0 edge counted by the wake logic in STANDBY is a wake event. -/
  | wakeWhl (aux0 : Bool)
  /-- WAKE_ALARM (R457): The slow counter reaches WAKE_ALARM while the ALARM wake source is enabled. -/
  | wakeAlarm
  /-- WAKE_MNT (R457): A START followed by the unit's own I2C address is seen in STANDBY, without acknowledgement. -/
  | wakeMnt (addr : BitVec 7)
  /-- WAKE_BEGIN (R458): At the next SCLK edge after a wake event, SRC is recorded, the bucks start and the device enters SELFTEST. -/
  | wakeBegin
  /-- STANDBY_EDGE (R461): The wake logic counts a WHL0 active edge into EDGES, updating DIRK and VALID by direction and overflow. -/
  | standbyEdge (aux0 : Bool)
  /-- MEAS_GATE_WRITE (R448): A host write of SYS_GATE.MEAS gates or ungates the measurement region in READY or RUN, or returns busy in other states. -/
  | measGateWrite (p : Fin 2) (gate : Bool)
  /-- UNGATE_DONE (R20): 40 µs after ungating, the measurement region restarts with empty filters and resampler and MEASRDY reads 1. -/
  | ungateDone
  /-- HEARTBEAT_SEND (R18): The control die sends a DDL heartbeat frame after 8 µs with no other DDL traffic. -/
  | heartbeatSend
  /-- DDL_SILENCE (R18): No valid DDL frame reaches the driver die for 64 µs, and the driver die enters the safe actuation state on its own. -/
  | ddlSilence
  /-- DDL_RELEASE (R18): The driver die receives the DDL release command and leaves the safe actuation state, or refuses, and answers over the DDL. -/
  | ddlRelease
  /-- RELEASE_ANSWER (R423): The control die receives the driver die's answer to a release and clears FLT_STAT.SAFE, or reasserts the safe lines on a refusal. -/
  | releaseAnswer
  /-- DDL_TRANSFER (R37): A DDL transfer arrives; its CRC-16 is checked and a retry is requested on failure. -/
  | ddlTransfer (ok : Bool)
  /-- MDL_TRANSFER (R282): The MDL controller starts its next transfer, chosen among host accesses, ring writes and scrub reads, with CRC and retry. -/
  | mdlTransfer (ok : Bool)
  /-- EDGE_ECHO_CHECK (R17): 8 TCLK after an edge-line transition, the edge generator compares the echo line with the edge line. -/
  | edgeEchoCheck (line : Fin 56) (same : Bool)
  /-- REGISTER_WRITE (R12): A host or core write to a register without a row of its own is performed according to the field access codes and ownership. -/
  | registerWrite (p : Fin 11) (addr : BitVec 40) (v : BitVec 32) (link : Bool)
  /-- LOCK_SET (R12): A W1S write to a lock register locks the RWL fields it covers until power-on reset or wake. -/
  | lockSet (p : Fin 2) (addr : BitVec 40) (v : BitVec 32) (link : Bool)
  /-- SHADOW_READ (R113): A read of a shadowing register copies its companion words of the same instant into the reader's shadows. -/
  | shadowRead (p : Fin 11) (addr : BitVec 40) (link : Bool)
  /-- CHAN_OWNER_WRITE (R218): A host write of CHAN_OWNER_n moves a channel's ownership when the channel is idle. -/
  | chanOwnerWrite (p : Fin 2) (n : Fin 32) (v : BitVec 32) (link : Bool)
  /-- IGN_OWNER_WRITE (R218): A host write of IGN_OWNER_n moves an ignition output's ownership when it is idle. -/
  | ignOwnerWrite (p : Fin 2) (n : Fin 24) (v : BitVec 32) (link : Bool)
  /-- MEAS_OWNER_WRITE (R273): A host write of MEAS_OWNER_n moves a modulator, goalpost or window to a new owner when it is idle. -/
  | measOwnerWrite (p : Fin 2) (n : Fin 40) (v : BitVec 32)
  /-- JIG_OWNER_WRITE (R315): A host write of JIG_OWNER_n moves a jig engine's ownership when EN = 0. -/
  | jigOwnerWrite (p : Fin 2) (n : Fin 8) (v : BitVec 32)
  /-- TMR_OWNER_WRITE (R331): A host write of TMR_OWNER_n moves a timer's ownership when EN = 0. -/
  | tmrOwnerWrite (p : Fin 2) (n : Fin 16) (v : BitVec 32)
  /-- CLUSTER_SRAM_WRITE (R35): A host write to a cluster's instruction or data SRAM is applied atomically, or refused busy while the cluster is TESTING. -/
  | clusterSramWrite (p : Fin 2) (addr : BitVec 40) (v : BitVec 32)
  /-- CLUSTER_SRAM_READ (R435): A host read of a cluster SRAM word returns it, or returns DATAERR on an uncorrectable error. -/
  | clusterSramRead (p : Fin 2) (addr : BitVec 40) (ecc : Fin 3)
  /-- CRANK_EDGE (R65): A qualified WHL0 edge is timestamped, run through the matcher and judged against the prediction. -/
  | crankEdge (ts : Nat) (lvl : Bool)
  /-- PULSE_END_RELABEL (R54): With DIRMODE 01b, the pulse end decodes a direction that differs, and the tooth is re-labelled and the predictor restarted. -/
  | pulseEndRelabel (x : PulseEnd)
  /-- DOWEL_TOOTH (R70): No edge arrives by DOWELK times Q, so a dowel tooth is synthesised at the predicted instant and counts as a bad tooth. -/
  | dowelTooth
  /-- STOP_TIMEOUT (R64): No qualified WHL0 edge for STOPMS drops the sync to NOSYNC and ends coast tracking. -/
  | stopTimeout
  /-- CAM_EDGE (R66): A qualified edge of the phase-source cam wheel is given a crank angle and compared with the cam pattern. -/
  | camEdge (c : Fin 2) (x : EdgeAt)
  /-- CAM_MISSING (R67): A whole cycle passes in FULL with no cam edge and class-1 CAM_MISSING is emitted. -/
  | camMissing
  /-- AUX_EDGE (R56): A qualified AUX active edge updates AUXm_PER and AUXm_CNT. -/
  | auxEdge (m : Fin 2) (ts : Nat)
  /-- WHL_ENABLE (R60): Setting WHLn_CFG.EN checks the wheel's pattern and leaves EN at 0 with PATTERN_BAD if it fails. -/
  | whlEnable (p : Fin 2) (n : Fin 3) (v : BitVec 32)
  /-- WHL_DISABLE (R64): Clearing WHL0_CFG.EN drops the sync to NOSYNC. -/
  | whlDisable (p : Fin 2) (n : Fin 3) (v : BitVec 32)
  /-- RESYNC (R88): WHL_CMD.RESYNC drops to NOSYNC with SYNC_LOST reason 5h, or QS_ROLLBACK reason Bh. -/
  | resync (p : Fin 2)
  /-- MAP_SHADOW_DONE (R104): The shadow map update completes and is compared with the checking instance's shadow. -/
  | mapShadowDone
  /-- PREDICTOR_CHECK_FAIL (R108): A residue check or comparison between the predictor instances fails. -/
  | predictorCheckFail (actBad : Bool) (chkBad : Bool)
  /-- RIP_GAIN_WRITE (R100): A host write to RIPn_GAIN takes effect only while GLRN_EN = 0 or FREEZE = 1. -/
  | ripGainWrite (p : Fin 2) (i : Fin 24) (v : BitVec 32)
  /-- TOOTH_MAP_WRITE (R105): A host write to a tooth-map word takes effect only in NOSYNC or while FREEZE = 1. -/
  | toothMapWrite (p : Fin 2) (i : Fin 1024) (v : BitVec 32)
  /-- MAP_CLEAR (R105): PRD_MAP_CTL.CLEAR sets every CORR and CONF to 0 under the write condition of the map. -/
  | mapClear (p : Fin 2)
  /-- PEG_COMMIT (R123): 16 TCLK before its instant a peg commits to the edge generator, after the checks of R134. -/
  | pegCommit (w : Fin 9) (k : Fin 32)
  /-- PEG_DRIVE (R140): At the peg's lead, the edge generator checks the SELACK and drives the edge line. -/
  | pegDrive (w : Fin 9) (k : Fin 32)
  /-- PEG_FIRE (R132): At its instant a peg takes effect, its slot is released or passes to DWELLING, and any PEG cue and log record follow. -/
  | pegFire (w : Fin 9) (k : Fin 32)
  /-- SELECT_RECEIVE (R225): The driver die receives a SELECT, checks the set's consistency and answers with SELACK. -/
  | selectReceive
  /-- SELACK_RECEIVE (R225): The edge generator receives a SELACK and records the accepted SEQ or the refusal. -/
  | selackReceive
  /-- DWELL_MAX (R143): No spark is committed 16 TCLK before DMAX, so the coil goes to soft-off or sparks at DMAX. -/
  | dwellMax (w : Fin 9) (k : Fin 32)
  /-- SOFTOFF_COMMAND (R144): The driver die accepts the DDL soft-off command and ramps the coil current over SOFT, asserting IGSOFTg. -/
  | softoffCommand
  /-- SOFTOFF_COMPLETE (R144): The soft-off ramp ends and the driver die reports completion. -/
  | softoffComplete (n : Fin 24)
  /-- SOFTOFF_LINE_DROP (R144): 16 TCLK after completion, the dwell line is driven inactive, the slot freed and the COIL_SOFTOFF note emitted. -/
  | softoffLineDrop (n : Fin 24)
  /-- SOFTOFF_TIMEOUT (R422): With no completion report, a held coil's dwell line is driven inactive SOFT + 64 µs after the soft-off decision. -/
  | softoffTimeout (n : Fin 24)
  /-- VERNIER_CALIBRATION (R139): Every 1 ms the delay lines are calibrated on a replica line, setting or clearing CALOK. -/
  | vernierCalibration (ok : Bool)
  /-- CUE_DISPATCH (R164): An idle core dispatches the lowest-numbered pending enabled cue and starts its handler. -/
  | cueDispatch (c : Fin 9) (ecc : Fin 3)
  /-- ANGLE_CUE_FIRE (R165): ANG_NOW crosses an armed comparator's angle and the comparator raises its ANG cue. -/
  | angleCueFire (w : Fin 9) (m : Fin 16)
  /-- COMPARATOR_REARM (R166): A REPEAT comparator is armed again once ANG_NOW lies more than half a cycle past its angle. -/
  | comparatorRearm (w : Fin 9) (m : Fin 16)
  /-- BUDGET (R169): A handler run reaches HBUDGET and the next instruction is abandoned with the BUDGET exception. -/
  | budget (c : Fin 9)
  /-- DONE (R168): DONE ends the handler, writes the context block atomically, increments DONES and clears the run log. -/
  | wDone (c : Fin 9)
  /-- DONEW (R187): DONEW ends the handler as DONE and sets CUE_EN from a register in its last TCLK. -/
  | wDonew (c : Fin 9) (s : Fin 16)
  /-- NOP (R184): NOP does nothing for 1 TCLK. -/
  | wNop (c : Fin 9)
  /-- TRAP (R187): TRAP writes CLU_EADDR and raises the TRAP exception. -/
  | wTrap (c : Fin 9) (imm : BitVec 16)
  /-- BCOND (R186): A conditional branch tests the flags and moves PC by the offset when taken. -/
  | wBcond (c : Fin 9) (cond : Fin 16) (off : BitVec 16)
  /-- JMP (R187): JMP sets PC to the target. -/
  | wJmp (c : Fin 9) (target : BitVec 12)
  /-- JAL (R187): JAL stores PC + 1 in a register and jumps. -/
  | wJal (c : Fin 9) (d : Fin 16) (target : BitVec 12)
  /-- JR (R187): JR jumps to the word index held in a register. -/
  | wJr (c : Fin 9) (s : Fin 16)
  /-- MFF (R187): MFF copies the flags into a register. -/
  | wMff (c : Fin 9) (d : Fin 16)
  /-- LDI (R188): LDI loads a sign-extended immediate. -/
  | wLdi (c : Fin 9) (d : Fin 16) (imm : BitVec 16)
  /-- LDHI (R188): LDHI loads the upper half of a register. -/
  | wLdhi (c : Fin 9) (d : Fin 16) (imm : BitVec 16)
  /-- MOV (R188): MOV copies one g register to another. -/
  | wMov (c : Fin 9) (d : Fin 16) (s : Fin 16)
  /-- LD (R188): LD loads a word from the work's data SRAM. -/
  | wLd (c : Fin 9) (d : Fin 16) (b : Fin 16) (a : Bool) (imm : BitVec 16) (ecc : Fin 3)
  /-- ST (R188): ST stores a word in the data SRAM outside the context block. -/
  | wSt (c : Fin 9) (d : Fin 16) (b : Fin 16) (a : Bool) (imm : BitVec 16)
  /-- LDX (R189): LDX reads a register of the register space, stalling until it completes. -/
  | wLdx (c : Fin 9) (d : Fin 16) (b : Fin 16) (a : Bool) (imm : BitVec 16) (stall : Nat) (link : Bool)
  /-- STX (R189): STX writes a register of a unit the cluster owns, stalling until it completes. -/
  | wStx (c : Fin 9) (d : Fin 16) (b : Fin 16) (a : Bool) (imm : BitVec 16) (stall : Nat) (link : Bool)
  /-- ADD (R190): ADD adds two registers and sets Z N C V. -/
  | wAdd (c : Fin 9) (d : Fin 16) (s : Fin 16) (t : Fin 16)
  /-- SUB (R190): SUB subtracts two registers and sets Z N C V. -/
  | wSub (c : Fin 9) (d : Fin 16) (s : Fin 16) (t : Fin 16)
  /-- AND (R190): AND forms the bitwise and of two registers. -/
  | wAnd (c : Fin 9) (d : Fin 16) (s : Fin 16) (t : Fin 16)
  /-- OR (R190): OR forms the bitwise or of two registers. -/
  | wOr (c : Fin 9) (d : Fin 16) (s : Fin 16) (t : Fin 16)
  /-- XOR (R190): XOR forms the bitwise exclusive or of two registers. -/
  | wXor (c : Fin 9) (d : Fin 16) (s : Fin 16) (t : Fin 16)
  /-- SHL (R190): SHL shifts left by a register amount. -/
  | wShl (c : Fin 9) (d : Fin 16) (s : Fin 16) (t : Fin 16)
  /-- SHR (R190): SHR shifts right logically by a register amount. -/
  | wShr (c : Fin 9) (d : Fin 16) (s : Fin 16) (t : Fin 16)
  /-- ASR (R190): ASR shifts right arithmetically by a register amount. -/
  | wAsr (c : Fin 9) (d : Fin 16) (s : Fin 16) (t : Fin 16)
  /-- MIN (R190): MIN takes the signed minimum of two registers. -/
  | wMin (c : Fin 9) (d : Fin 16) (s : Fin 16) (t : Fin 16)
  /-- MAX (R190): MAX takes the signed maximum of two registers. -/
  | wMax (c : Fin 9) (d : Fin 16) (s : Fin 16) (t : Fin 16)
  /-- CMP (R190): CMP sets the flags from a subtraction without writing a register. -/
  | wCmp (c : Fin 9) (s : Fin 16) (t : Fin 16)
  /-- MUL (R190): MUL writes the low 32 bits of a product. -/
  | wMul (c : Fin 9) (d : Fin 16) (s : Fin 16) (t : Fin 16)
  /-- MULH (R190): MULH writes the high 32 bits of a signed product. -/
  | wMulh (c : Fin 9) (d : Fin 16) (s : Fin 16) (t : Fin 16)
  /-- DIVU (R191): DIVU writes the unsigned quotient, with V on division by zero. -/
  | wDivu (c : Fin 9) (d : Fin 16) (s : Fin 16) (t : Fin 16)
  /-- DIVS (R191): DIVS writes the signed quotient truncated toward zero, with V on the special cases. -/
  | wDivs (c : Fin 9) (d : Fin 16) (s : Fin 16) (t : Fin 16)
  /-- ADDI (R190): ADDI adds a sign-extended immediate. -/
  | wAddi (c : Fin 9) (d : Fin 16) (s : Fin 16) (imm : BitVec 16)
  /-- CMPI (R190): CMPI sets the flags from a subtraction of an immediate. -/
  | wCmpi (c : Fin 9) (s : Fin 16) (imm : BitVec 16)
  /-- ANDI (R190): ANDI ands with a zero-extended immediate. -/
  | wAndi (c : Fin 9) (d : Fin 16) (s : Fin 16) (imm : BitVec 16)
  /-- ORI (R190): ORI ors with a zero-extended immediate. -/
  | wOri (c : Fin 9) (d : Fin 16) (s : Fin 16) (imm : BitVec 16)
  /-- XORI (R190): XORI exclusive-ors with a zero-extended immediate. -/
  | wXori (c : Fin 9) (d : Fin 16) (s : Fin 16) (imm : BitVec 16)
  /-- SHLI (R190): SHLI shifts left by an immediate amount. -/
  | wShli (c : Fin 9) (d : Fin 16) (s : Fin 16) (imm : BitVec 16)
  /-- SHRI (R190): SHRI shifts right logically by an immediate amount. -/
  | wShri (c : Fin 9) (d : Fin 16) (s : Fin 16) (imm : BitVec 16)
  /-- ASRI (R190): ASRI shifts right arithmetically by an immediate amount. -/
  | wAsri (c : Fin 9) (d : Fin 16) (s : Fin 16) (imm : BitVec 16)
  /-- MINI (R190): MINI takes the signed minimum with an immediate. -/
  | wMini (c : Fin 9) (d : Fin 16) (s : Fin 16) (imm : BitVec 16)
  /-- MAXI (R190): MAXI takes the signed maximum with an immediate. -/
  | wMaxi (c : Fin 9) (d : Fin 16) (s : Fin 16) (imm : BitVec 16)
  /-- RDFIG (R202): RDFIG reads a cycle figure of a window with its FRESH state into C. -/
  | wRdfig (c : Fin 9) (d : Fin 16) (w : Fin 16) (fig : Fin 32) (rg : Bool)
  /-- RDRES (R203): RDRES reads a modulator result, its sequence number and FRESH into a register pair. -/
  | wRdres (c : Fin 9) (d : Fin 16) (m : Fin 16) (rg : Bool)
  /-- SEND (R205): SEND queues a fabric message of 1 to 4 words and reports its status. -/
  | wSend (c : Fin 9) (s : Fin 16) (g : Fin 16) (n : Fin 4)
  /-- FABRD (R207): FABRD reads a payload word of the FAB message being handled. -/
  | wFabrd (c : Fin 9) (d : Fin 16) (k : Fin 4)
  /-- CUESET (R193): CUESET sets bits of CUE_EN. -/
  | wCueset (c : Fin 9) (s : Fin 16)
  /-- CUECLR (R193): CUECLR clears bits of CUE_EN. -/
  | wCueclr (c : Fin 9) (s : Fin 16)
  /-- CUEWR (R193): CUEWR writes CUE_EN. -/
  | wCuewr (c : Fin 9) (s : Fin 16)
  /-- MOVA (R192): MOVA reduces a g register modulo the cycle into an angle register. -/
  | wMova (c : Fin 9) (d : Fin 16) (s : Fin 16)
  /-- ADDA (R192): ADDA adds a signed distance to an angle modulo the cycle. -/
  | wAdda (c : Fin 9) (d : Fin 16) (s : Fin 16) (t : Fin 16)
  /-- SUBA (R192): SUBA subtracts a signed distance from an angle modulo the cycle. -/
  | wSuba (c : Fin 9) (d : Fin 16) (s : Fin 16) (t : Fin 16)
  /-- DIFA (R192): DIFA forms the signed angle difference reduced into half a cycle. -/
  | wDifa (c : Fin 9) (d : Fin 16) (s : Fin 16) (t : Fin 16)
  /-- GETA (R192): GETA reads ANG_NOW, setting V when it is invalid. -/
  | wGeta (c : Fin 9) (d : Fin 16)
  /-- MOVG (R192): MOVG copies an angle register to a g register. -/
  | wMovg (c : Fin 9) (d : Fin 16) (s : Fin 16)
  /-- ADDAI (R192): ADDAI adds a signed immediate to an angle modulo the cycle. -/
  | wAddai (c : Fin 9) (d : Fin 16) (s : Fin 16) (imm : BitVec 16)
  /-- SETAC (R193): SETAC sets and arms an angle cue comparator. -/
  | wSetac (c : Fin 9) (m : Fin 16) (s : Fin 16) (rpt : Bool) (prov : Bool)
  /-- CLRAC (R193): CLRAC disarms a comparator and ends any repeat wait. -/
  | wClrac (c : Fin 9) (m : Fin 16)
  /-- ARM (R197): ARM checks a descriptor and fills a free peg slot, judging it against the horizon. -/
  | wArm (c : Fin 9) (d : Fin 16) (b : Fin 16) (t : Fin 16) (src : Fin 4)
  /-- REAIM (R198): REAIM changes a peg's angle and time offset and judges it again. -/
  | wReaim (c : Fin 9) (h : Fin 16) (t : Fin 16) (o : Fin 16) (src : Fin 4) (sett : Bool)
  /-- CANCEL (R199): CANCEL frees an uncommitted peg or starts soft-off of a dwelling coil. -/
  | wCancel (c : Fin 9) (h : Fin 16)
  /-- QUERY (R200): QUERY returns a peg's PEG_STAT word. -/
  | wQuery (c : Fin 9) (d : Fin 16) (h : Fin 16)
  /-- OVFC (R201): OVFC reads and clears the work's OVF. -/
  | wOvfc (c : Fin 9) (d : Fin 16)
  /-- CLU_ROLE_START (R174): A host write of ROLE = 1h to a STOPPED cluster loads its context and raises START. -/
  | cluRoleStart (p : Fin 2) (c : Fin 9)
  /-- CLU_ROLE_STOP (R174): A host write of ROLE = 0h stops an ACTIVE cluster once idle or makes a SPARE STOPPED. -/
  | cluRoleStop (p : Fin 2) (c : Fin 9)
  /-- CLUSTER_STOP (R174): At the first idle TCLK after a stop request, cues are discarded, pegs freed and dwelling coils soft-offed. -/
  | clusterStop (c : Fin 9)
  /-- CLU_ROLE_SPARE (R436): A host write of ROLE = 2h makes a STOPPED cluster a SPARE. -/
  | cluRoleSpare (p : Fin 2) (c : Fin 9)
  /-- DOORBELL (R162): A host write to CLU_DOORBELL raises the HOST cue with the written value. -/
  | doorbell (p : Fin 2) (c : Fin 9) (v : BitVec 32)
  /-- CUE_EN_WRITE (R178): A host write to CLU_CUE_EN sets the cluster's cue enables, standing over a core write in the same TCLK. -/
  | cueEnWrite (p : Fin 2) (c : Fin 9) (v : BitVec 32)
  /-- CLUSTER_FAIL (R433): A residue failure in a cluster retires it and chooses a taker for its work. -/
  | clusterFail (c : Fin 9) (why : Fin 4)
  /-- MIRROR_LOAD_DONE (R148): The taker finishes loading the 32 mirror entries and starts its pass over the loaded pegs. -/
  | mirrorLoadDone (w : Fin 9) (bad : BitVec 32)
  /-- SCHEDULER_LIVE (R148): The taker's pass completes, its scheduler goes live and the core resumes the work. -/
  | schedulerLive (w : Fin 9)
  /-- HANDOVER_SWITCH (R150): At the first idle TCLK after the receiver has loaded the section, giver and receiver switch. -/
  | handoverSwitch
  /-- START_EDGE (R232): The driver die takes a start edge at the next DCLK and runs its checks in order. -/
  | startEdge (n : Fin 32)
  /-- BANK_GRANT (R233): A waiting start is granted the bank once the lead is released and GAP has passed. -/
  | bankGrant (n : Fin 32)
  /-- BANK_DEFER_EXPIRE (R233): A start still waiting DEFER after its start edge is refused. -/
  | bankDeferExpire (n : Fin 32)
  /-- BOOST_RAIL_READY (R235): The boost rail becomes ready for a granted start waiting for it, and BOOST begins. -/
  | boostRailReady (n : Fin 32)
  /-- BOOST_WAIT_EXPIRE (R235): BST_WAIT ends with the rail not ready, so the shot is skipped or boosted from the battery. -/
  | boostWaitExpire (n : Fin 32)
  /-- IBOOST_REACHED (R219): The current reaches IBOOST and the shot passes from BOOST to PEAK. -/
  | iboostReached (n : Fin 32)
  /-- TBOOST_EXPIRE (R223): TBOOST elapses before IBOOST and the shot goes to PEAK. -/
  | tboostExpire (n : Fin 32) (cur : Nat)
  /-- TPEAK_EXPIRE (R219): TPEAK elapses, the lead is released and the shot enters BYPASS. -/
  | tpeakExpire (n : Fin 32)
  /-- IHOLD_REACHED (R219): The current falls to IHOLD in BYPASS and the shot enters HOLD. -/
  | iholdReached (n : Fin 32)
  /-- TBYP_EXPIRE (R219): TBYP elapses in BYPASS and the shot enters HOLD. -/
  | tbypExpire (n : Fin 32)
  /-- CHOP_COMPARATOR (R221): The regulation comparator reaches a bound and the regulating switch turns off or on. -/
  | chopComparator (n : Fin 32) (upper : Bool)
  /-- OFF_COMMAND (R222): The edge line falls for an OFF; the shot enters RECOVERY, or a waiting start is withdrawn. -/
  | offCommand (n : Fin 32)
  /-- TMAX_EXPIRE (R222): TMAX is reached; the drive ends and HOLDEND is sent. -/
  | tmaxExpire (n : Fin 32)
  /-- FAST_DECAY_END (R228): The recovery current falls to IZERO and the watch stage begins. -/
  | fastDecayEnd (n : Fin 32)
  /-- RECOVERY_END (R241): TRCV ends; the closing search concludes and the closing record is sent. -/
  | recoveryEnd (n : Fin 32)
  /-- CLOSE_RECORD (R241): A closing record reaches the control die and raises the CLOSE cue in the owning cluster. -/
  | closeRecord
  /-- REFUSE_RECEIVE (R232): The edge generator receives REFUSE and drives that channel's line inactive. -/
  | refuseReceive
  /-- HOLDEND_RECEIVE (R140): The edge generator receives HOLDEND and drives that channel's line inactive. -/
  | holdendReceive
  /-- BOOST_RAIL_MEASURE (R229): The boost rail is measured every 1 µs to set readiness, switching and overvoltage. -/
  | boostRailMeasure (k : Fin 2) (v : Nat)
  /-- BOOST_ILIM_REACHED (R229): The boost switch current reaches ILIM and the on-time ends. -/
  | boostIlimReached (k : Fin 2)
  /-- BOOST_TOFF_EXPIRE (R229): The boost off-time TOFF ends and the switch may turn on again. -/
  | boostToffExpire (k : Fin 2)
  /-- DUTY_BUCKET_CLOSE (R236): A duty bucket of WIN/16 ms closes and the oldest drops out of the sum. -/
  | dutyBucketClose (n : Fin 32)
  /-- SHORT_BAT (R244): A channel current above ISC turns LS off, ends the shot and latches FLT. -/
  | shortBat (n : Fin 32)
  /-- SHORT_GND (R244): Bank high-side current exceeds the channel sum by IDIFF for 2 DCLK, ending every shot and latching FAULT. -/
  | shortGnd (b : Fin 8)
  /-- IGN_NOCUR (R242): IGFBn does not become active within FBT of the dwell start and class-1 IGN_NOCUR is emitted. -/
  | ignNocur (n : Fin 24)
  /-- IGN_NOSPARK (R242): IGFBn does not become inactive within SPKW of the spark and class-1 IGN_NOSPARK is emitted. -/
  | ignNospark (n : Fin 24)
  /-- GATE_STUCK (R414): In the safe actuation state a gate drive stays on for 4 DCLK and class-3 GATE_STUCK is emitted. -/
  | gateStuck (cluster : Fin 16) (unit : Fin 16) (n : Fin 32)
  /-- SHORT_BAT_CLEAR (R247): A W1C of CHn_DIAG.SHORT_BAT clears FLT and lets the channel start again. -/
  | shortBatClear (p : Fin 2) (n : Fin 32) (link : Bool)
  /-- BANK_FAULT_CLEAR (R237): A W1C of BNKb_DIAG.FAULT lets the bank accept starts again. -/
  | bankFaultClear (p : Fin 2) (b : Fin 8) (link : Bool)
  /-- MOD_START (R253): MODm_CMD.START starts the modulator's sequence at entry 0. -/
  | modStart (p : Fin 11) (m : Fin 8)
  /-- MOD_STOP (R253): MODm_CMD.STOP abandons the running entry, clears the latch and idles the modulator. -/
  | modStop (p : Fin 11) (m : Fin 8)
  /-- MOD_URG (R256): MODm_CMD.URG requests the urgent entry, or latches it if the modulator is busy. -/
  | modUrg (p : Fin 11) (m : Fin 8)
  /-- ATRG_TRIGGER (R256): A qualified ATRG pin edge requests the urgent entry or a sequence pass on MOD6 or MOD7. -/
  | atrgTrigger (k : Fin 2)
  /-- ENTRY_COMPLETE (R253): A sequence or urgent entry keeps its last sample; the result is written and the next entry or latched run begins. -/
  | entryComplete (m : Fin 8)
  /-- SAMPLE_READY (R250): A decimated sample becomes available with its stamp and feeds results, streams, checkers and goalposts. -/
  | sampleReady (m : Fin 8) (v : Int) (stamp : Nat) (sat : Bool) (bad : Bool)
  /-- FIGURES_PUBLISH (R267): At a window end the figure engine publishes the computable figures in one TCLK and raises FIG. -/
  | figuresPublish (bad : Bool)
  /-- RESULT_READ (R269): A host read of a result register returns it with this port's FRESH and shadows RSQ and RTS. -/
  | resultRead (p : Fin 11) (m : Fin 8)
  /-- FIGURE_READ (R269): A host read of a figure returns it with this port's FRESH; a read of figure 0 shadows the others. -/
  | figureRead (p : Fin 11) (w : Fin 16) (f : Fin 32)
  /-- TRACE_INIT_DONE (R280): The memory die finishes writing every word with zero data and valid check bits and INIT reads 1. -/
  | traceInitDone
  /-- SCRUB_READ (R285): Every IV µs the scrubber reads one 64-byte block and judges each word. -/
  | scrubRead (errs : List (Nat × Fin 3))
  /-- TRACE_HOST_READ (R284): A host read of trace memory returns the checked data, or busy above INITMB, or DATAERR. -/
  | traceHostRead (p : Fin 2) (addr : BitVec 40) (ecc : Fin 3) (link : Bool)
  /-- TRACE_HOST_WRITE (R283): A host write to trace memory outside enabled rings is performed, with read-merge-write under 64 bits. -/
  | traceHostWrite (p : Fin 2) (addr : BitVec 40) (v : BitVec 32) (ecc : Fin 3) (link : Bool)
  /-- RING_ENABLE (R287): Setting TRCr_CFG.EN enables a ring and resets WP, RP and SEQ, or is refused. -/
  | ringEnable (p : Fin 2) (r : Fin 3) (v : BitVec 32)
  /-- RING_DISABLE (R287): Clearing EN stops the ring after the slot being written. -/
  | ringDisable (p : Fin 2) (r : Fin 3) (v : BitVec 32)
  /-- RING_FREEZE (R289): TRCr_CMD.FREEZE triggers a ring freeze after POST × 256 further slots. -/
  | ringFreeze (p : Fin 2) (r : Fin 3)
  /-- RING_RESUME (R289): TRCr_CMD.RESUME clears FROZEN and writing continues at WP. -/
  | ringResume (p : Fin 2) (r : Fin 3)
  /-- RING_POST_DONE (R289): The POST count after a freeze trigger is exhausted and the ring is FROZEN. -/
  | ringPostDone (r : Fin 3)
  /-- JIG_START (R299): JIG_CMD START resets the named engines' state and issues their first tick. -/
  | jigStart (p : Fin 2) (mask : BitVec 8)
  /-- JIG_HALT (R299): JIG_CMD HALT stops the named engines at once and idles their pins. -/
  | jigHalt (p : Fin 2) (mask : BitVec 8)
  /-- JIG_REALIGN (R299): JIG_CMD REALIGN zeroes the phase of the named running engines and issues a tick. -/
  | jigRealign (p : Fin 2) (mask : BitVec 8)
  /-- JIG_NOP (R302): The jig NOP does nothing for one tick. -/
  | jigNop (e : Fin 8) (a : BitVec 10) (imm : BitVec 16)
  /-- JIG_IDLE (R302): The jig IDLE holds the engine for n ticks. -/
  | jigIdle (e : Fin 8) (a : BitVec 10) (imm : BitVec 16)
  /-- JIG_IDLE_EXPIRE (R302): The IDLE count is exhausted and the engine proceeds at the next tick. -/
  | jigIdleExpire (e : Fin 8)
  /-- JIG_PINS (R302): PINS sets the output level of the masked pins. -/
  | jigPins (e : Fin 8) (a : BitVec 10) (imm : BitVec 16)
  /-- JIG_DIRS (R302): DIRS sets the direction of the masked pins. -/
  | jigDirs (e : Fin 8) (a : BitVec 10) (imm : BitVec 16)
  /-- JIG_WAITL (R305): WAITL waits until a pin is at a level, with an optional timeout. -/
  | jigWaitl (e : Fin 8) (a : BitVec 10) (imm : BitVec 16) (pins : BitVec 8)
  /-- JIG_WAITE (R305): WAITE waits for a qualified pin edge, optionally capturing the interval into X. -/
  | jigWaite (e : Fin 8) (a : BitVec 10) (imm : BitVec 16)
  /-- JIG_WAITG (R306): WAITG waits for the peg trigger, optionally realigning the rate generator. -/
  | jigWaitg (e : Fin 8) (a : BitVec 10) (imm : BitVec 16)
  /-- JIG_WAIT_END (R305): A jig wait's condition is met and F is cleared. -/
  | jigWaitEnd (e : Fin 8) (stamp : Nat)
  /-- JIG_WAIT_TIMEOUT (R305): A jig wait's timeout expires and F is set. -/
  | jigWaitTimeout (e : Fin 8)
  /-- JIG_SHIN (R307): SHIN shifts bits from a pin or X into S, optionally pushing the word to RXF. -/
  | jigShin (e : Fin 8) (a : BitVec 10) (imm : BitVec 16) (bits : BitVec 32)
  /-- JIG_SHOUT (R307): SHOUT shifts bits of S to a pin or X, optionally fetching from TXF. -/
  | jigShout (e : Fin 8) (a : BitVec 10) (imm : BitVec 16)
  /-- JIG_PUSH (R308): PUSH writes S to RXF, or discards it with DROP. -/
  | jigPush (e : Fin 8) (a : BitVec 10) (imm : BitVec 16)
  /-- JIG_PULL (R308): PULL loads S from TXF. -/
  | jigPull (e : Fin 8) (a : BitVec 10) (imm : BitVec 16)
  /-- JIG_STALL_END (R307): A stalled shift, push or pull finds room or a word and completes. -/
  | jigStallEnd (e : Fin 8)
  /-- JIG_MOV (R303): The jig MOV copies a source register to a destination. -/
  | jigMov (e : Fin 8) (a : BitVec 10) (imm : BitVec 16) (pins : BitVec 8)
  /-- JIG_MOVI (R302): MOVI loads an immediate into the low or high half of a register. -/
  | jigMovi (e : Fin 8) (a : BitVec 10) (imm : BitVec 16)
  /-- JIG_ADDI (R302): The jig ADDI adds a signed immediate within the register's width. -/
  | jigAddi (e : Fin 8) (a : BitVec 10) (imm : BitVec 16)
  /-- JIG_SUB (R302): The jig SUB subtracts a source from a destination. -/
  | jigSub (e : Fin 8) (a : BitVec 10) (imm : BitVec 16) (pins : BitVec 8)
  /-- JIG_TEST (R302): TEST sets F from a comparison of a register with an immediate. -/
  | jigTest (e : Fin 8) (a : BitVec 10) (imm : BitVec 16)
  /-- JIG_BR (R304): BR branches when its condition holds. -/
  | jigBr (e : Fin 8) (a : BitVec 10) (imm : BitVec 16) (pins : BitVec 8)
  /-- JIG_LOOP (R304): LOOP decrements C and branches while C is not 0. -/
  | jigLoop (e : Fin 8) (a : BitVec 10) (imm : BitVec 16)
  /-- JIG_RECIP (R309): RECIP forms a scaled reciprocal of X into Y. -/
  | jigRecip (e : Fin 8) (a : BitVec 10) (imm : BitVec 16)
  /-- JIG_MULQ (R309): MULQ multiplies X by Y scaled by 2^-24. -/
  | jigMulq (e : Fin 8) (a : BitVec 10) (imm : BitVec 16)
  /-- JIG_SIG (R310): SIG pulses an event line of the engine and sets EV0 or EV1. -/
  | jigSig (e : Fin 8) (a : BitVec 10) (imm : BitVec 16)
  /-- JIG_YIELD (R313): YIELD is a commit point at which a pending swap takes effect. -/
  | jigYield (e : Fin 8) (a : BitVec 10) (imm : BitVec 16)
  /-- JIG_SWAP_REQUEST (R313): JIGn_CTL.SWAP sets SWPEND, swapping at once on a stopped engine. -/
  | jigSwapRequest (p : Fin 11) (e : Fin 8)
  /-- JIG_FORCE_SWAP (R314): JIGn_CTL.FSWAP forces the swap at the next tick, discarding bits in S. -/
  | jigForceSwap (p : Fin 11) (e : Fin 8)
  /-- JIG_FLUSH (R316): JIGn_CTL.FLUSH empties RXF and TXF. -/
  | jigFlush (p : Fin 11) (e : Fin 8)
  /-- JIG_TRGCLR (R316): JIGn_CTL.TRGCLR clears TRGL. -/
  | jigTrgclr (p : Fin 11) (e : Fin 8)
  /-- JIG_PROGRAM_WRITE (R312): A write to the program window lands in the inactive bank, or is refused while a swap is pending. -/
  | jigProgramWrite (p : Fin 11) (e : Fin 8) (i : Fin 64) (v : BitVec 32)
  /-- JIG_TXF_WRITE (R308): An owner write of JIGn_TXF appends a word, or sets TXOVF when full. -/
  | jigTxfWrite (p : Fin 11) (e : Fin 8) (v : BitVec 32)
  /-- JIG_RXF_READ (R308): A read of JIGn_RXF returns the oldest word, popping it for the owner. -/
  | jigRxfRead (p : Fin 11) (e : Fin 8)
  /-- JIG_DISABLE (R311): Writing EN = 0 clears FAULT and makes a pending swap take effect. -/
  | jigDisable (p : Fin 11) (e : Fin 8)
  /-- TIMER_ENABLE (R332): A write of TMRn_CFG.EN starts or stops the timer, applying new source settings or clearing FAULT. -/
  | timerEnable (p : Fin 11) (n : Fin 16) (v : BitVec 32)
  /-- TIMER_COMPARE (R322): An increment brings the count to the armed compare value, applying the pin action and raising the event. -/
  | timerCompare (n : Fin 16)
  /-- TIMER_WRAP (R319): The count wraps, setting WRAPF and raising the wrap event. -/
  | timerWrap (n : Fin 16)
  /-- TIMER_CAPTURE (R325): A capture event stores the count in TMRn_CAP and sets CAPF. -/
  | timerCapture (n : Fin 16) (stamp : Nat)
  /-- TIMER_CMPV_WRITE (R322): A write of TMRn_CMPV arms the compare, firing at once where LATEARM allows. -/
  | timerCmpvWrite (p : Fin 11) (n : Fin 16) (v : BitVec 32)
  /-- TIMER_CAPALL (R326): TMR_CAPALL.GO copies every enabled timer's count into its snapshot at one edge. -/
  | timerCapall (p : Fin 2)
  /-- TMR_FAULT (R320): A timer residue failure sets FAULT, idles TPn and emits class-1 TMR_FAULT. -/
  | tmrFault (n : Fin 16)
  /-- SEAL_SEALED (R334): Setting SEALn_CFG.SEALED starts the counter and fixes its source fields. -/
  | sealSealed (p : Fin 2) (n : Fin 16) (v : BitVec 32)
  /-- SEAL_ADD_WRITE (R335): A host write of SEALn_ADD queues an increment of that value for an ADD counter. -/
  | sealAddWrite (p : Fin 2) (n : Fin 16) (v : BitVec 32)
  /-- SEAL_INCREMENT_ADD (R335): At the next SCLK edge, gathered increments are added to the sealed counts. -/
  | sealIncrementAdd (x : SealFound)
  /-- SEAL_REPORT (R339): SEAL_CTL.REPORT snapshots the counts and starts building a signed report. -/
  | sealReport (p : Fin 2)
  /-- SEAL_REPORT_DONE (R339): The report and its HMAC are complete and RDY is set. -/
  | sealReportDone
  /-- SEAL_BURN (R338): A write of 5EA1_B0A7h to SEAL_BURN burns the key into OTP and publishes KCV. -/
  | sealBurn (p : Fin 2) (v : BitVec 32)
  /-- PORT_TRAIN (R348): 1 ms after entering DOWN with PEN and EN set, a port enters TRAIN. -/
  | portTrain (r : Fin 3)
  /-- PORT_HELLO (R348): After 256 consecutive good symbols, a port enters HELLO. -/
  | portHello (r : Fin 3)
  /-- PORT_UP (R348): After 100 µs of HELLO without code errors, a port enters UP with full credits and issues a new record. -/
  | portUp (r : Fin 3)
  /-- PORT_SILENCE (R348): No valid symbol for 40 symbol times takes the port DOWN with cause 1h. -/
  | portSilence (r : Fin 3)
  /-- PORT_CODE_ERRORS (R348): 8 code or disparity errors within 256 symbols take the port DOWN or back to TRAIN. -/
  | portCodeErrors (r : Fin 3)
  /-- HELLO_SEND (R345): Every 2 µs a port in HELLO or UP sends a HELLO frame. -/
  | helloSend (r : Fin 3)
  /-- HELLO_RECEIVE (R345): A whole HELLO frame is received with the peer's ID, rank and serial. -/
  | helloReceive (r : Fin 3) (seq : Fin 256) (id : Fin 32) (idv : Bool) (bench : Bool) (rank : Fin 4) (serial : BitVec 64)
  /-- MSG_RECEIVE (R357): A whole MSG frame is routed on or delivered to the FAB queue of the cluster carrying DWORK. -/
  | msgReceive (r : Fin 3) (seq : Fin 256) (vc : Bool) (dst : Fin 32) (src : Fin 32) (dwork : Fin 16) (swork : Fin 16) (type : BitVec 16) (lun : Fin 256) (pay : List (BitVec 32))
  /-- BEACON_RECEIVE (R369): A whole BEACON is received, refreshing captain freshness and acting on RESIGN and HAND. -/
  | beaconReceive (r : Fin 3) (seq : Fin 256) (bs : List Nat) (ts : Nat)
  /-- ASEG_RECEIVE (R361): A whole ASEG frame gives the node the captain's newest model segment. -/
  | asegReceive (r : Fin 3) (seq : Fin 256) (bs : List Nat)
  /-- DREQ_RECEIVE (R359): A DREQ is stamped on arrival and answered by a DRSP carrying t2 and t3. -/
  | dreqReceive (r : Fin 3) (seq : Fin 256) (ts : Nat)
  /-- DRSP_RECEIVE (R359): A DRSP is stamped and the system-time map's offset and rate are corrected. -/
  | drspReceive (r : Fin 3) (seq : Fin 256) (bs : List Nat) (ts : Nat)
  /-- LREC_RECEIVE (R351): A link record newer than the one held is kept and forwarded on every other UP port. -/
  | lrecReceive (r : Fin 3) (seq : Fin 256) (bs : List Nat)
  /-- ACK_RECEIVE (R347): An ACK control set releases acknowledged frames held for retransmission. -/
  | ackReceive (r : Fin 3) (seq : Fin 256)
  /-- NAK_RECEIVE (R347): A NAK control set retransmits from the frame expected next. -/
  | nakReceive (r : Fin 3) (seq : Fin 256)
  /-- CREDIT_ANGLE (R349): A CREDIT angle set returns angle-VC credits to the sender. -/
  | creditAngle (r : Fin 3) (n : Fin 256)
  /-- CREDIT_BULK (R349): A CREDIT bulk set returns bulk-VC credits to the sender. -/
  | creditBulk (r : Fin 3) (n : Fin 256)
  /-- CONTROL_SET_REPEAT (R346): ACK and CREDIT sets are sent within 1 µs of a change and repeated at least every 2 µs. -/
  | controlSetRepeat (r : Fin 3)
  /-- ACK_TIMEOUT (R347): A frame unacknowledged 4 µs after its EOF is retransmitted; the 8th failed retry takes the port DOWN. -/
  | ackTimeout (r : Fin 3)
  /-- FRAME_FORWARD (R349): A frame eligible at an output port is chosen by VC and round robin and transmitted. -/
  | frameForward (r : Fin 3)
  /-- LINEUP_COMMIT (R353): With all reachable records held and 2 µs quiet, the node commits the line-up and tree and settles the captain. -/
  | lineupCommit
  /-- BEACON_SEND (R369): The captain sends a BEACON every 10 µs. -/
  | beaconSend
  /-- TIME_EXCHANGE (R359): Every TSYNC a node sends a DREQ toward the captain, stamping its SOF. -/
  | timeExchange
  /-- CAPTAIN_TIMEOUT (R372): The captain's beacon goes stale or reports lost sync for CAPTO, changing the combined state and triggering a reserve. -/
  | captainTimeout
  /-- HOLDOVER_EXPIRE (R366): HOLDMAX passes in holdover and the combined state drops with reason 9h. -/
  | holdoverExpire
  /-- FAB_LINEUP_CMD (R351): FAB_CMD.LINEUP makes the node issue a new link record. -/
  | fabLineupCmd (p : Fin 2)
  /-- FAB_HANDOVER (R374): FAB_CMD.HANDOVER at the captain sets HAND naming TGT in its beacons. -/
  | fabHandover (p : Fin 2) (tgt : Fin 32)
  /-- HANDOVER_TIMEOUT (R374): A handover not taken within 100 µs clears HAND and emits FAB_TAKEOVER with cause 7h. -/
  | handoverTimeout
  /-- FAB_DIFFCLR (R364): FAB_CMD.DIFFCLR ends DIFFSTOP. -/
  | fabDiffclr (p : Fin 2)
  /-- HOST_READ (R385): A READ frame reads n words at consecutive addresses after its CRC passes. -/
  | hostRead (addr : BitVec 40) (len : BitVec 8) (crc : BitVec 16) (link : Option (Fin 16))
  /-- HOST_READF (R385): A READF frame reads n words all at one address. -/
  | hostReadf (addr : BitVec 40) (len : BitVec 8) (crc : BitVec 16) (link : Option (Fin 16))
  /-- HOST_WRITE (R385): A WRITE frame writes n words at consecutive addresses after its CRC passes. -/
  | hostWrite (addr : BitVec 40) (len : BitVec 8) (ws : List (BitVec 32)) (crc : BitVec 16) (link : Option (Fin 16))
  /-- HOST_WRITEF (R385): A WRITEF frame writes n words all at one address. -/
  | hostWritef (addr : BitVec 40) (len : BitVec 8) (ws : List (BitVec 32)) (crc : BitVec 16) (link : Option (Fin 16))
  /-- HOST_INTR (R385): An INTR frame returns HINT_PEND. -/
  | hostIntr (crc : BitVec 16)
  /-- HOST_BAD_OPCODE (R385): A frame with an unknown opcode is ignored, counted and noted as HOST_CRC. -/
  | hostBadOpcode (op : BitVec 8)
  /-- HOST_ABORT (R391): HCS# rises before the last CRC byte; the frame has no effect and a class-0 HOST_ABORT note is emitted. -/
  | hostAbort
  /-- MNT_WRITE (R399): An I2C write sets the pointer and writes bytes at it, committing wide fields at their highest byte. -/
  | mntWrite (addr : BitVec 7) (bs : List (BitVec 8))
  /-- MNT_READ (R399): An I2C read returns bytes from the pointer, shadowing wide fields at their lowest byte. -/
  | mntRead (addr : BitVec 7) (n : Nat)
  /-- MNT_BYTE_ABANDON (R401): A START or STOP in a byte or its ACK slot abandons that byte and counts ABANDON. -/
  | mntByteAbandon (unitAck : Bool)
  /-- MNT_STRETCH_TIMEOUT (R403): A clock stretch reaches 1 ms; MSCL is released and ICTL.STAT reads BUSY. -/
  | mntStretchTimeout
  /-- MNT_SCL_TIMEOUT (R404): MSCL low for 30 ms within a transfer releases MSDA and abandons the byte. -/
  | mntSclTimeout
  /-- MNT_INDIRECT_READ (R406): ICTL.RD starts a read of the word at IADDR into IDATA with host rights. -/
  | mntIndirectRead (inc : Bool)
  /-- MNT_INDIRECT_WRITE (R406): ICTL.WR starts a write of IDATA to IADDR with host rights. -/
  | mntIndirectWrite (inc : Bool)
  /-- MNT_INDIRECT_DONE (R406): An indirect access completes; STAT is set, PEND clears and IADDR advances with INC. -/
  | mntIndirectDone (link : Bool)
  /-- ALERT_RESPONSE (R408): A read of address 0Ch while the latch is set sends the unit's address with arbitration, clearing the latch if it wins. -/
  | alertResponse (seen : BitVec 8)
  /-- ASTAT_CLEAR (R407): A W1C write to ASTAT clears bits and clears the alert latch if no enabled bit remains. -/
  | astatClear (v : BitVec 8)
  /-- TEST_MODE_OPEN (R409): Writing the test key to TKEY opens factory test mode only when unfused with the strap high. -/
  | testModeOpen (key : BitVec 64)
  /-- COLLECTOR_ACCEPT (R416): Each SVCLK the collector accepts the highest-ranked waiting message, assigns SEQ, stores it and takes its class action. -/
  | collectorAccept
  /-- SHOT_CLOCK (R421): The shot clock reaches LIMIT; the package enters the safe actuation state and class-2 SHOT_CLOCK is emitted. -/
  | shotClock
  /-- FLT_POP (R418): FLT_CTL.POP removes the oldest collector FIFO entry. -/
  | fltPop (p : Fin 2)
  /-- FLT_SAFE (R422): FLT_CTL.SAFE places the package in the safe actuation state. -/
  | fltSafe (p : Fin 2)
  /-- FLT_RELEASE (R423): FLT_CTL.RELEASE, when its conditions hold, deasserts the safe lines and sends the DDL release. -/
  | fltRelease (p : Fin 2)
  /-- FLT_ACK (R420): A write of FLT_ACK equal to LAST2 stops the shot clock. -/
  | fltAck (p : Fin 2) (v : BitVec 32)
  /-- SAFE_LINE (R414): A safe line's read-back differs from its command for 2 SVCLK and class-3 SAFE_LINE is emitted. -/
  | safeLine (levels : BitVec 2)
  /-- COLL_FAULT (R414): A residue or SECDED failure in the collector emits class-3 COLL_FAULT. -/
  | collFault
  /-- OVER_SLOT (R427): Every GAP µs the BIST controller starts an over, behind a planned handover for active clusters. -/
  | overSlot
  /-- OVER_END (R426): An over completes and its signature is compared with the expected value. -/
  | overEnd (pass : Bool)
  /-- OVER_OVERRUN (R426): An over runs beyond 5,000 TCLK and fails. -/
  | overOverrun
  /-- BIST_DEFER_TIMEOUT (R430): The cluster's core is not idle within 1 ms of the slot, so the over is deferred. -/
  | bistDeferTimeout
  /-- INNINGS_START (R427): Every 250 ms a new innings begins, ending an unfinished one. -/
  | inningsStart
  /-- BIST_CMD (R438): In factory test mode, BIST_CMD runs one over on the named unit at once. -/
  | bistCmd (p : Fin 2) (u : Fin 16)
  /-- FI_RESIDUE (R439): Injection 1h inverts the residue of the named unit's next result. -/
  | fiResidue (p : Fin 2)
  /-- FI_BIT_FLIP (R439): Injection 2h flips one bit in a stored word of the named unit. -/
  | fiBitFlip (p : Fin 2)
  /-- FI_DOUBLE_FLIP (R439): Injection 3h flips two bits in a stored word of the named unit. -/
  | fiDoubleFlip (p : Fin 2)
  /-- FI_DDL_CRC (R439): Injection 4h corrupts the CRC of the next DDL transfer. -/
  | fiDdlCrc (p : Fin 2)
  /-- FI_MDL_CRC (R439): Injection 5h corrupts the CRC of the next MDL transfer. -/
  | fiMdlCrc (p : Fin 2)
  /-- FI_DDL_SILENCE (R439): Injection 6h suppresses DDL heartbeats and traffic for a set time. -/
  | fiDdlSilence (p : Fin 2)
  /-- FI_OVER_FAIL (R439): Injection 7h forces the next over of the named unit to fail. -/
  | fiOverFail (p : Fin 2)
  /-- FI_ECHO_MISMATCH (R439): Injection 8h forces an echo mismatch on the named edge line. -/
  | fiEchoMismatch (p : Fin 2)
  /-- FI_MESSAGE (R439): Injection 9h emits FI_MSG as if from its SOURCE. -/
  | fiMessage (p : Fin 2)
  /-- TIMER_INCREMENT (R319): An increment of the timer's selected source (prescaled SVCLK, SCLK, pin edge, jig line or tooth) advances the count. -/
  | timerIncrement (n : Fin 16)
  /-- VBAT_GOOD (R443): VBAT rises above its good threshold and SYS_SUP.VBATOK becomes 1, so a release can be taken again. -/
  | vbatGood
  /-- VIO_BANK_GOOD (R443): VIO1, VIO2 or VIO3 returns above its good threshold, and its outputs and inputs work again. -/
  | vioBankGood (b : Fin 3)
  /-- CAPTURE_SAMPLE (R238): A bank's capture converter takes its 250 ns sample for the shot that holds it, and writes a SIG slot once 28 samples are held. -/
  | captureSample (b : Fin 8) (v : Int)
  /-- TCHOPMIN_EXPIRE (R221): The blanking time TBLANK or the minimum on/off time TCHOPMIN of a regulating switch runs out, so a deferred switching takes place. -/
  | tchopminExpire (n : Fin 32)
  /-- FRAME_RECEIVE_BAD (R347): A received frame that is not whole (bad code, length or CRC) or carries a reserved type is discarded, and a NAK is sent where required. -/
  | frameReceiveBad (r : Fin 3)
  /-- OWN_NODE_MESSAGE (R357): A message that SEND addressed to the own node is delivered from its send queue to the FAB queue of the cluster carrying DWORK, within 1 µs. -/
  | ownNodeMessage (w : Fin 9) (vc : Bool)
  /-- INITMB_ADVANCE (R280): The memory die finishes initialising one more MiB and TRC_STAT.INITMB increments, opening that range to host access and rings. -/
  | initmbAdvance
  /-- RESERVED_OPCODE (R180): The core executes a word whose opcode is reserved and raises ILLEGAL. -/
  | wReservedOpcode (c : Fin 9) (w : BitVec 32)
  /-- JIG_RESERVED_OPCODE (R311): A jig engine executes a word whose opcode is reserved, stops, idles its pins and emits JIG_ILLEGAL. -/
  | jigReservedOpcode (e : Fin 8) (w : BitVec 32)
  deriving DecidableEq, Repr

end Sys2Proof
end

