-- ==== Sys2Proof/Machine/Bits.lean ====
section
/-! DEFINITION. Bit fields, signed fields, nearest-end clamps, rounding and the CRC that the other files use. -/

namespace Sys2Proof.Machine

/-- Bits [hi:lo] of a word, as a number (R10). -/
def fld (w : Word) (hi lo : Nat) : Nat := w.toNat / 2 ^ lo % 2 ^ (hi + 1 - lo)

/-- Bit n of a word (R10). -/
def bit (w : Word) (n : Nat) : Bool := w.toNat.testBit n

/-- The word with bits [hi:lo] replaced by the low bits of v. -/
def setFld (w : Word) (hi lo v : Nat) : Word :=
  let m := (2 ^ (hi + 1 - lo) - 1) * 2 ^ lo
  BitVec.ofNat 32 (w.toNat &&& (0xFFFFFFFF ^^^ m) ||| v % 2 ^ (hi + 1 - lo) * 2 ^ lo)

/-- A Boolean as a bit at place n. -/
def bitAt (b : Bool) (n : Nat) : Nat := if b then 2 ^ n else 0

/-- The two's complement reading of the low n bits (R9). -/
def sx (n v : Nat) : Int :=
  let u := v % 2 ^ n
  if u < 2 ^ (n - 1) then (u : Int) else (u : Int) - (2 : Int) ^ n

/-- An integer as an n-bit two's complement field. -/
def unsx (n : Nat) (i : Int) : Nat := (i % (2 : Int) ^ n).toNat

/-- An integer as a word. -/
def wordI (i : Int) : Word := BitVec.ofInt 32 i

/-- A number as a word. -/
def wordN (n : Nat) : Word := BitVec.ofNat 32 n

/-- A value outside its range acts as the nearer end (the phrase of the register tables). -/
def nearer (lo hi v : Nat) : Nat := if v < lo then lo else if v > hi then hi else v

/-- The same for integers. -/
def clampI (lo hi v : Int) : Int := if v < lo then lo else if v > hi then hi else v

/-- The nearest integer to a rational, halves upward. -/
def roundQ (q : Rat) : Int := (q + 1 / 2).floor

/-- The nearest natural number to a rational, 0 below. -/
def roundN (q : Rat) : Nat := (roundQ q).toNat

/-- The magnitude of a rational. -/
def magQ (q : Rat) : Rat := if q < 0 then -q else q

/-- A square root to 64 binary places (DESIGN CHOICE, log entry 12). -/
def sqrtQ (q : Rat) : Rat := (Nat.sqrt ((q * 2 ^ 128).floor.toNat) : Rat) / 2 ^ 64

/-- x reduced into the range from minus half to plus half of m. -/
def wrapHalf (m x : Int) : Int :=
  let r := x % m
  if 2 * r > m then r - m else r

/-- One octet into a CRC-16 with polynomial 1021h, no reflection (R37). -/
def crc16Byte (crc : Nat) (b : Nat) : Nat :=
  (List.range 8).foldl (fun c i =>
    let top := (c / 2 ^ 15 + b / 2 ^ (7 - i)) % 2
    let sh := c * 2 % 2 ^ 16
    if top = 1 then sh ^^^ 0x1021 else sh) crc

/-- CRC-16 of R37: initial value FFFFh, no final inversion. -/
def crc16 (bs : List Nat) : Nat := bs.foldl crc16Byte 0xFFFF

/-- One octet into a CRC-32 with the bit-reflected polynomial EDB88320h. -/
def crc32Byte (crc : Nat) (b : Nat) : Nat :=
  (List.range 8).foldl (fun c _ => if c % 2 = 1 then (c / 2) ^^^ 0xEDB88320 else c / 2) (crc ^^^ b)

/-- The mod-3 residue that every arithmetic value carries (R31). -/
def residue3 (n : Nat) : Nat := n % 3

/-- Replace the element at index i of a vector by its image under f. -/
def upd {α : Type} {n : Nat} (v : Vector α n) (i : Fin n) (f : α → α) : Vector α n :=
  v.set i.val (f v[i.val]) i.isLt

/-- The words of a list of little-endian bytes. -/
def leNat : List Nat → Nat
  | [] => 0
  | b :: bs => b % 256 + 256 * leNat bs

/-- The n little-endian bytes of a number. -/
def leBytes : Nat → Nat → List Nat
  | 0, _ => []
  | n + 1, v => v % 256 :: leBytes n (v / 256)

end Sys2Proof.Machine
end

