-- ==== Sys2Proof/Config.lean ====
section
/-! DEFINITION. What an implementation fixes and the spec leaves open: opaque constants, so that no proof can see a value. -/

namespace Sys2Proof.Config

/-- A 32-bit value the spec leaves open; the index makes each use a fresh value (log entry 11). -/
opaque freeWord : Nat → BitVec 32

/-- The level of the IGFBn ball at a TCLK, which lies outside the device (R243, log entry 11). -/
opaque igfb : Nat → Nat → Bool

/-- The level at the ball of TPn at a TCLK while it is no output, which lies outside the device (R332, log entry 11). -/
opaque tpLevel : Nat → Nat → Bool

/-- The vernier step within a TCLK at which the SOF of a frame leaves a fabric port; the symbol clock's phase is not given (R342, R359,
log entry 57). -/
opaque sofStep : Nat → Nat → Fin 16

/-- The fused 64-bit serial number of the package (R7). -/
opaque serial : BitVec 64

/-- The 64-bit key that opens factory test mode (R409). -/
opaque testKey : BitVec 64

end Sys2Proof.Config
end

