-- ==== Sys2Proof/Machine/RegMap.lean ====
section
/-! DEFINITION. The register map: one row per register or register array of the spec's register tables, with its host
address (R44), its strides, the bits each access code covers (R12) and its reset word. Fields that the model holds as
typed state are left out of the stored masks; Machine/Access.lean answers them. -/

namespace Sys2Proof.Machine

/-- A register or array of registers: address, two strides with their counts, the bits stored under RW, RWL, W1C and
W1S (R12), the reset word of the stored bits, and the address of the lock register that covers its RWL fields (0: none). -/
structure RegRow where
  base : Nat
  s1 : Nat
  n1 : Nat
  s2 : Nat
  n2 : Nat
  rw : Nat
  rwl : Nat
  w1c : Nat
  w1s : Nat
  rst : Nat
  lock : Nat
  deriving DecidableEq, Repr

/-- The host address of element (i, j) of a row. -/
def RegRow.addr (r : RegRow) (i j : Nat) : Nat := r.base + r.s1 * i + r.s2 * j

/-- The element of a row that stands at an address, if one does. -/
def RegRow.find (r : RegRow) (a : Nat) : Option (Nat × Nat) :=
  if a < r.base then none
  else
    let d := a - r.base
    let i := if r.n1 ≤ 1 then 0 else if r.n2 ≤ 1 ∨ r.s1 ≥ r.s2 then d / r.s1 else d % r.s2 / r.s1
    let e := d - r.s1 * i
    let j := if r.n2 ≤ 1 then 0 else e / r.s2
    if i < r.n1 ∧ j < max r.n2 1 ∧ r.addr i j = a then some (i, j) else none

namespace Reg

/-- WHLn_CFG (R55, 02_wheels_and_sync.md): EN [0] RWL; DIFF [1] RWL; HYST [5:2] RWL; EDGE [6] RWL; FLT [17:8] RWL; DIRMODE [19:18]
RWL; DIRPOL [20] RWL. -/
def whlxCfg : RegRow := ⟨0x10000000, 0x40, 3, 0x0, 1, 0x0, 0x1FFF7F, 0x0, 0x0, 0x4010, 0x10000210⟩

/-- WHLn_PATCFG (R58, 02_wheels_and_sync.md): COUNT [9:0] RWL; SPAN [10] RWL. -/
def whlxPatcfg : RegRow := ⟨0x10000004, 0x40, 3, 0x0, 1, 0x0, 0x7FF, 0x0, 0x0, 0x0, 0x10000210⟩

/-- WHLn_DIR (R55, 02_wheels_and_sync.md): PWTH [19:0] RWL. -/
def whlxDir : RegRow := ⟨0x10000008, 0x40, 3, 0x0, 1, 0x0, 0xFFFFF, 0x0, 0x0, 0x41EB, 0x10000210⟩

/-- WHLn_PER (R55, 02_wheels_and_sync.md): PERIOD [29:0] RO; DIR [30] RO; VAL [31] RO. -/
def whlxPer : RegRow := ⟨0x1000000C, 0x40, 3, 0x0, 1, 0x0, 0x0, 0x0, 0x0, 0x0, 0x0⟩

/-- AUXm_CFG (R56, 02_wheels_and_sync.md): EN [0] RWL; DIFF [1] RWL; HYST [5:2] RWL; EDGE [6] RWL; FLT [17:8] RWL. -/
def auxCfg : RegRow := ⟨0x10000100, 0x40, 2, 0x0, 1, 0x0, 0x3FF7F, 0x0, 0x0, 0x4010, 0x10000210⟩

/-- AUXm_PER (R56, 02_wheels_and_sync.md): PERIOD [29:0] RO; DIR [30] RO; VAL [31] RO. -/
def auxPer : RegRow := ⟨0x10000104, 0x40, 2, 0x0, 1, 0x0, 0x0, 0x0, 0x0, 0x0, 0x0⟩

/-- AUXm_CNT (R56, 02_wheels_and_sync.md): COUNT [31:0] RO. -/
def auxCnt : RegRow := ⟨0x10000108, 0x40, 2, 0x0, 1, 0x0, 0x0, 0x0, 0x0, 0x0, 0x0⟩

/-- WHL_SYNC_CFG (R88, 02_wheels_and_sync.md): STROKE [0] RWL; PHSRC [2:1] RWL; QS_EN [3] RWL; QS_UNDIR [4] RWL; CAMTOL [15:8] RWL;
CAMMISS [19:16] RWL; FWDTEETH [23:20] RWL. -/
def whlSyncCfg : RegRow := ⟨0x10000200, 0x0, 1, 0x0, 1, 0x0, 0xFFFF1F, 0x0, 0x0, 0x442002, 0x10000210⟩

/-- WHL_THR (R88, 02_wheels_and_sync.md): DOWELK [3:0] RWL; BADWIN [8:4] RWL; GAPTOL [12:9] RWL; QSLIM [23:16] RWL. -/
def whlThr : RegRow := ⟨0x10000204, 0x0, 1, 0x0, 1, 0x0, 0xFF1FFF, 0x0, 0x0, 0x81084, 0x10000210⟩

/-- WHL0_ZERO (R62, 02_wheels_and_sync.md): OFFSET [23:0] RWL. -/
def whl0Zero : RegRow := ⟨0x10000208, 0x0, 1, 0x0, 1, 0x0, 0xFFFFFF, 0x0, 0x0, 0x0, 0x10000210⟩

/-- WHL_STOP (R88, 02_wheels_and_sync.md): STOPMS [11:0] RWL. -/
def whlStop : RegRow := ⟨0x1000020C, 0x0, 1, 0x0, 1, 0x0, 0xFFF, 0x0, 0x0, 0x3E8, 0x10000210⟩

/-- WHL_LOCK (R88, 02_wheels_and_sync.md): LOCK [0] W1S. -/
def whlLock : RegRow := ⟨0x10000210, 0x0, 1, 0x0, 1, 0x0, 0x0, 0x0, 0x1, 0x0, 0x0⟩

/-- WHL_CMD (R88, 02_wheels_and_sync.md): RESYNC [0] WO. -/
def whlCmd : RegRow := ⟨0x10000214, 0x0, 1, 0x0, 1, 0x0, 0x0, 0x0, 0x0, 0x0, 0x0⟩

/-- WHL_SYNC_STAT (R88, 02_wheels_and_sync.md): STATE [1:0] RO; REV [2] RO; RATEV [3] RO; POS [13:4] RO; HALF [14] RO; BADPEND [15]
RO; SUSP [16] RO; PHSCR [17] RO; COAST [18] RO; FUELSUP [19] RO. -/
def whlSyncStat : RegRow := ⟨0x10000220, 0x0, 1, 0x0, 1, 0x0, 0x0, 0x0, 0x0, 0x0, 0x0⟩

/-- WHL_EVT (R88, 02_wheels_and_sync.md): SUSPECT [0] W1C; DOWEL [1] W1C; LOST [2] W1C; QSCONF [3] W1C; QSROLL [4] W1C; GAPFAIL [5]
W1C; CAMMIS [6] W1C; REVERSE [7] W1C; PHASE [8] W1C. -/
def whlEvt : RegRow := ⟨0x10000224, 0x0, 1, 0x0, 1, 0x0, 0x0, 0x1FF, 0x0, 0x0, 0x0⟩

/-- WHL_CNT (R88, 02_wheels_and_sync.md): DOWELS [15:0] RW; SUSPECTS [31:16] RW. -/
def whlCnt : RegRow := ⟨0x10000228, 0x0, 1, 0x0, 1, 0xFFFFFFFF, 0x0, 0x0, 0x0, 0x0, 0x0⟩

/-- PRD_CFG (R112, 03_spline_predictor.md): LRN_EN [0] RWL; RIP_EN [1] RWL; GLRN_EN [2] RWL; MASS_EN [3] RWL; LRATE [7:4] RWL; GRATE
[11:8] RWL. -/
def prdCfg : RegRow := ⟨0x10000400, 0x0, 1, 0x0, 1, 0x0, 0xFFF, 0x0, 0x0, 0x860, 0x10000414⟩

/-- PRD_LRN (R112, 03_spline_predictor.md): MINRPM [11:0] RWL; ACCG [15:12] RWL; CLIP [27:16] RWL. -/
def prdLrn : RegRow := ⟨0x10000404, 0x0, 1, 0x0, 1, 0x0, 0xFFFFFFF, 0x0, 0x0, 0x80050C8, 0x10000414⟩

/-- PRD_MAP_CTL (R112, 03_spline_predictor.md): FREEZE [0] RW; CLEAR [1] WO. -/
def prdMapCtl : RegRow := ⟨0x10000408, 0x0, 1, 0x0, 1, 0x1, 0x0, 0x0, 0x0, 0x0, 0x0⟩

/-- PRD_MASS (R112, 03_spline_predictor.md): MASSK [15:0] RWL. -/
def prdMass : RegRow := ⟨0x1000040C, 0x0, 1, 0x0, 1, 0x0, 0xFFFF, 0x0, 0x0, 0x0, 0x10000414⟩

/-- PRD_STAT (R112, 03_spline_predictor.md): ACT [0] RO; CHKON [1] RO; RETA [2] RO; RETB [3] RO; CONV [4] RO; HOLD [5] RO; MINCONF
[15:8] RO. -/
def prdStat : RegRow := ⟨0x10000410, 0x0, 1, 0x0, 1, 0x0, 0x0, 0x0, 0x0, 0x0, 0x0⟩

/-- PRD_LOCK (R112, 03_spline_predictor.md): LOCK [0] W1S. -/
def prdLock : RegRow := ⟨0x10000414, 0x0, 1, 0x0, 1, 0x0, 0x0, 0x0, 0x1, 0x0, 0x0⟩

/-- PRD_ANG (R113, 03_spline_predictor.md): ANG [23:0] RO; VALID [24] RO. -/
def prdAng : RegRow := ⟨0x10000420, 0x0, 1, 0x0, 1, 0x0, 0x0, 0x0, 0x0, 0x0, 0x0⟩

/-- PRD_RATE (R113, 03_spline_predictor.md): RATE [31:0] RO. -/
def prdRate : RegRow := ⟨0x10000424, 0x0, 1, 0x0, 1, 0x0, 0x0, 0x0, 0x0, 0x0, 0x0⟩

/-- PRD_ACC (R113, 03_spline_predictor.md): ACC [31:0] RO. -/
def prdAcc : RegRow := ⟨0x10000428, 0x0, 1, 0x0, 1, 0x0, 0x0, 0x0, 0x0, 0x0, 0x0⟩

/-- PRD_TS_LO (R113, 03_spline_predictor.md): TS [31:0] RO. -/
def prdTsLo : RegRow := ⟨0x1000042C, 0x0, 1, 0x0, 1, 0x0, 0x0, 0x0, 0x0, 0x0, 0x0⟩

/-- PRD_TS_HI (R113, 03_spline_predictor.md): TS [7:0] RO. -/
def prdTsHi : RegRow := ⟨0x10000430, 0x0, 1, 0x0, 1, 0x0, 0x0, 0x0, 0x0, 0x0, 0x0⟩

/-- PRD_Q (R113, 03_spline_predictor.md): Q [29:0] RO; QSAT [30] RO; QVAL [31] RO. -/
def prdQ : RegRow := ⟨0x10000434, 0x0, 1, 0x0, 1, 0x0, 0x0, 0x0, 0x0, 0x0, 0x0⟩

/-- PRD_QFR (R113, 03_spline_predictor.md): QFRAC [3:0] RO. -/
def prdQfr : RegRow := ⟨0x10000438, 0x0, 1, 0x0, 1, 0x0, 0x0, 0x0, 0x0, 0x0, 0x0⟩

/-- PRD_CNT (R113, 03_spline_predictor.md): LRNREV [15:0] RW; LRNSKIP [31:16] RW. -/
def prdCnt : RegRow := ⟨0x10000440, 0x0, 1, 0x0, 1, 0xFFFFFFFF, 0x0, 0x0, 0x0, 0x0, 0x0⟩

/-- WHLn_PAT (R57, 02_wheels_and_sync.md): ANGLE [23:0] RWL; PRESENT [24] RWL. -/
def whlxPat : RegRow := ⟨0x10001000, 0x1000, 3, 0x4, 1024, 0x0, 0x1FFFFFF, 0x0, 0x0, 0x0, 0x10000210⟩

/-- TOOTHMAP_p (R101, 03_spline_predictor.md): CORR [19:0] RW; CONF [27:20] RW. -/
def toothmap : RegRow := ⟨0x10004000, 0x4, 1024, 0x0, 1, 0xFFFFFFF, 0x0, 0x0, 0x0, 0x0, 0x0⟩

/-- RIPn_CFG (R114, 03_spline_predictor.md): TDC [23:0] RWL; EN [24] RWL. -/
def ripCfg : RegRow := ⟨0x10005000, 0x8, 24, 0x0, 1, 0x0, 0x1FFFFFF, 0x0, 0x0, 0x0, 0x10000414⟩

/-- RIPn_GAIN (R114, 03_spline_predictor.md): GAIN [23:0] RW. -/
def ripGain : RegRow := ⟨0x10005004, 0x8, 24, 0x0, 1, 0xFFFFFF, 0x0, 0x0, 0x0, 0x0, 0x0⟩

/-- SHAPE_i (R114, 03_spline_predictor.md): SHAPE_2i [15:0] RWL; SHAPE_2i+1 [31:16] RWL. -/
def shape : RegRow := ⟨0x10005100, 0x4, 16, 0x0, 1, 0x0, 0xFFFFFFFF, 0x0, 0x0, 0x0, 0x10000414⟩

/-- CLU_ROLE (R177, 05_walend_programming_model.md): ROLE [3:0] RW; WORK [7:4] RO. -/
def cluRole : RegRow := ⟨0x10008000, 0x100, 9, 0x0, 1, 0x0, 0x0, 0x0, 0x0, 0x0, 0x0⟩

/-- CLU_STAT (R177, 05_walend_programming_model.md): BUSY [0] RO; HALT [1] RO; REDO [2] RO; CUR [12:8] RO; DONES [31:16] RO. -/
def cluStat : RegRow := ⟨0x10008004, 0x100, 9, 0x0, 1, 0x0, 0x0, 0x0, 0x0, 0x0, 0x0⟩

/-- CLU_CUE_EN (R177, 05_walend_programming_model.md): EN0 [0] RO; EN [26:1] RW. -/
def cluCueEn : RegRow := ⟨0x10008008, 0x100, 9, 0x0, 1, 0x0, 0x0, 0x0, 0x0, 0x0, 0x0⟩

/-- CLU_CUE_PEND (R177, 05_walend_programming_model.md): PEND [26:0] RO. -/
def cluCuePend : RegRow := ⟨0x1000800C, 0x100, 9, 0x0, 1, 0x0, 0x0, 0x0, 0x0, 0x0, 0x0⟩

/-- CLU_CUE_CNT (R177, 05_walend_programming_model.md): MERGED [15:0] RW; LOST [31:16] RW. -/
def cluCueCnt : RegRow := ⟨0x10008010, 0x100, 9, 0x0, 1, 0xFFFFFFFF, 0x0, 0x0, 0x0, 0x0, 0x0⟩

/-- CLU_BUDGET (R177, 05_walend_programming_model.md): HBUDGET [19:0] RWL. -/
def cluBudget : RegRow := ⟨0x10008014, 0x100, 9, 0x0, 1, 0x0, 0xFFFFF, 0x0, 0x0, 0xC350, 0x10008024⟩

/-- CLU_DOORBELL (R177, 05_walend_programming_model.md): VALUE [31:0] WO. -/
def cluDoorbell : RegRow := ⟨0x10008018, 0x100, 9, 0x0, 1, 0x0, 0x0, 0x0, 0x0, 0x0, 0x0⟩

/-- CLU_EXC (R177, 05_walend_programming_model.md): CAUSE [3:0] RO; EPC [15:4] RO; COUNT [23:16] RW. -/
def cluExc : RegRow := ⟨0x1000801C, 0x100, 9, 0x0, 1, 0xFF0000, 0x0, 0x0, 0x0, 0x0, 0x0⟩

/-- CLU_EADDR (R177, 05_walend_programming_model.md): ADDR [31:0] RO. -/
def cluEaddr : RegRow := ⟨0x10008020, 0x100, 9, 0x0, 1, 0x0, 0x0, 0x0, 0x0, 0x0, 0x0⟩

/-- CLU_LOCK (R177, 05_walend_programming_model.md): LOCK [0] W1S. -/
def cluLock : RegRow := ⟨0x10008024, 0x100, 9, 0x0, 1, 0x0, 0x0, 0x0, 0x1, 0x0, 0x0⟩

/-- ACm_CFG (R177, 05_walend_programming_model.md): ANGLE [23:0] RO; ARM [24] RO; REPEAT [25] RO; PROV [26] RO. -/
def acCfg : RegRow := ⟨0x10008040, 0x100, 9, 0x4, 16, 0x0, 0x0, 0x0, 0x0, 0x0, 0x0⟩

/-- PEG_STAT (R151, 04_pegs_and_edges.md): STATE [3:0] RO; SUPP [4] RO; LAST [7:5] RO; LATEAMT [31:16] RO. -/
def pegStat : RegRow := ⟨0x11000010, 0x1000, 9, 0x20, 32, 0x0, 0x0, 0x0, 0x0, 0x0, 0x0⟩

/-- PEG_AIM_LO (R151, 04_pegs_and_edges.md): VSTEP [3:0] RO; TCLKL [31:4] RO. -/
def pegAimLo : RegRow := ⟨0x11000014, 0x1000, 9, 0x20, 32, 0x0, 0x0, 0x0, 0x0, 0x0, 0x0⟩

/-- PEG_AIM_HI (R151, 04_pegs_and_edges.md): TCLKH [11:0] RO; AVAL [31] RO. -/
def pegAimHi : RegRow := ⟨0x11000018, 0x1000, 9, 0x20, 32, 0x0, 0x0, 0x0, 0x0, 0x0, 0x0⟩

/-- SCHED_STAT (R152, 04_pegs_and_edges.md): OVF [0] W1C; FREE [13:8] RO; PEAK [21:16] RW. -/
def schedStat : RegRow := ⟨0x11000800, 0x1000, 9, 0x0, 1, 0x3F0000, 0x0, 0x0, 0x0, 0x0, 0x0⟩

/-- SCHED_CNT (R152, 04_pegs_and_edges.md): LATE [15:0] RW; SKIP [31:16] RW. -/
def schedCnt : RegRow := ⟨0x11000804, 0x1000, 9, 0x0, 1, 0xFFFFFFFF, 0x0, 0x0, 0x0, 0x0, 0x0⟩

/-- SCHED_FIRED (R152, 04_pegs_and_edges.md): FIRED [31:0] RW. -/
def schedFired : RegRow := ⟨0x11000808, 0x1000, 9, 0x0, 1, 0xFFFFFFFF, 0x0, 0x0, 0x0, 0x0, 0x0⟩

/-- DWSETi_TIME (R146, 04_pegs_and_edges.md): DWELL [15:0] RWL; SOFT [31:16] RWL. -/
def dwsetTime : RegRow := ⟨0x11009000, 0x10, 16, 0x0, 1, 0x0, 0xFFFFFFFF, 0x0, 0x0, 0x7D00BB8, 0x11009100⟩

/-- DWSETi_LIM (R146, 04_pegs_and_edges.md): DMIN [15:0] RWL; DMAX [31:16] RWL. -/
def dwsetLim : RegRow := ⟨0x11009004, 0x10, 16, 0x0, 1, 0x0, 0xFFFFFFFF, 0x0, 0x0, 0x138805DC, 0x11009100⟩

/-- DWSETi_CTL (R146, 04_pegs_and_edges.md): MAXACT [0] RWL. -/
def dwsetCtl : RegRow := ⟨0x11009008, 0x10, 16, 0x0, 1, 0x0, 0x1, 0x0, 0x0, 0x0, 0x11009100⟩

/-- DWSET_LOCK (R146, 04_pegs_and_edges.md): LOCK [0] W1S. -/
def dwsetLock : RegRow := ⟨0x11009100, 0x0, 1, 0x0, 1, 0x0, 0x0, 0x0, 0x1, 0x0, 0x0⟩

/-- EDG_STAT (R153, 04_pegs_and_edges.md): CALOK [0] RO; CALFAIL [15:8] RW. -/
def edgStat : RegRow := ⟨0x1100A000, 0x0, 1, 0x0, 1, 0xFF00, 0x0, 0x0, 0x0, 0x0, 0x0⟩

/-- DRV_STAT (R248, 07_actuator_drive.md): SAFE [0] RO; DDLOK [1] RO. -/
def drvStat : RegRow := ⟨0x20000000, 0x0, 1, 0x0, 1, 0x0, 0x0, 0x0, 0x0, 0x0, 0x0⟩

/-- DRV_LOCK (R248, 07_actuator_drive.md): LOCK [0] W1S. -/
def drvLock : RegRow := ⟨0x20000004, 0x0, 1, 0x0, 1, 0x0, 0x0, 0x0, 0x1, 0x0, 0x0⟩

/-- CHAN_OWNER_n (R218, 07_actuator_drive.md): OWNER [3:0] RW. -/
def chanOwner : RegRow := ⟨0x20000800, 0x4, 32, 0x0, 1, 0x0, 0x0, 0x0, 0x0, 0x0, 0x0⟩

/-- IGN_OWNER_n (R218, 07_actuator_drive.md): OWNER [3:0] RW. -/
def ignOwner : RegRow := ⟨0x20000900, 0x4, 24, 0x0, 1, 0x0, 0x0, 0x0, 0x0, 0x0, 0x0⟩

/-- CHn_CFG (R247, 07_actuator_drive.md): EN [0] RWL; CAP [1] RWL; CLSEN [2] RWL; ISC [17:8] RWL. -/
def chCfg : RegRow := ⟨0x20001000, 0x40, 32, 0x0, 1, 0x0, 0x3FF07, 0x0, 0x0, 0x3FF00, 0x20000004⟩

/-- CHn_DUTY (R247, 07_actuator_drive.md): LIM [9:0] RWL; WIN [23:16] RWL. -/
def chDuty : RegRow := ⟨0x20001004, 0x40, 32, 0x0, 1, 0x0, 0xFF03FF, 0x0, 0x0, 0x6400CD, 0x20000004⟩

/-- CHn_STAT (R247, 07_actuator_drive.md): PHASE [2:0] RO; SET [6:3] RO; LEAD [7] RO; SAFE [8] RO; FLT [9] RO; RSTW [10] RO. -/
def chStat : RegRow := ⟨0x20001008, 0x40, 32, 0x0, 1, 0x0, 0x0, 0x0, 0x0, 0x0, 0x0⟩

/-- CHn_SEL (R247, 07_actuator_drive.md): SET [3:0] RO; SEQ [15:4] RO; OWNER [27:16] RO; VAL [28] RO. -/
def chSel : RegRow := ⟨0x2000100C, 0x40, 32, 0x0, 1, 0x0, 0x0, 0x0, 0x0, 0x0, 0x0⟩

/-- CHn_CLS (R247, 07_actuator_drive.md): TIME [23:0] RO; DET [31] RO. -/
def chCls : RegRow := ⟨0x20001010, 0x40, 32, 0x0, 1, 0x0, 0x0, 0x0, 0x0, 0x0, 0x0⟩

/-- CHn_ACC (R247, 07_actuator_drive.md): ACC [10:0] RO. -/
def chAcc : RegRow := ⟨0x20001014, 0x40, 32, 0x0, 1, 0x0, 0x0, 0x0, 0x0, 0x0, 0x0⟩

/-- CHn_DIAG (R247, 07_actuator_drive.md): SHORT_BAT [0] W1C; OPEN [1] W1C; BSHORT [2] W1C; DUTY [3] W1C; CONFLICT [4] W1C; BNR [5]
W1C. -/
def chDiag : RegRow := ⟨0x20001018, 0x40, 32, 0x0, 1, 0x0, 0x0, 0x3F, 0x0, 0x0, 0x0⟩

/-- CHn_CNT (R247, 07_actuator_drive.md): SHOTS [15:0] RW; REFUSED [31:16] RW. -/
def chCnt : RegRow := ⟨0x2000101C, 0x40, 32, 0x0, 1, 0xFFFFFFFF, 0x0, 0x0, 0x0, 0x0, 0x0⟩

/-- PSi_CUR0 (R227, 07_actuator_drive.md): IBOOST [9:0] RWL; IPEAK [19:10] RWL; IHOLD [29:20] RWL. -/
def psCur0 : RegRow := ⟨0x20002000, 0x40, 16, 0x0, 1, 0x0, 0x3FFFFFFF, 0x0, 0x0, 0x0, 0x20000004⟩

/-- PSi_CUR1 (R227, 07_actuator_drive.md): IPHYS [9:0] RWL; IHHYS [19:10] RWL; IZERO [29:20] RWL. -/
def psCur1 : RegRow := ⟨0x20002004, 0x40, 16, 0x0, 1, 0x0, 0x3FFFFFFF, 0x0, 0x0, 0x805028, 0x20000004⟩

/-- PSi_TBOOST (R227, 07_actuator_drive.md): TBOOST [19:0] RWL. -/
def psTboost : RegRow := ⟨0x20002008, 0x40, 16, 0x0, 1, 0x0, 0xFFFFF, 0x0, 0x0, 0x186A, 0x20000004⟩

/-- PSi_TPEAK (R227, 07_actuator_drive.md): TPEAK [19:0] RWL. -/
def psTpeak : RegRow := ⟨0x2000200C, 0x40, 16, 0x0, 1, 0x0, 0xFFFFF, 0x0, 0x0, 0x249F, 0x20000004⟩

/-- PSi_TBYP (R227, 07_actuator_drive.md): TBYP [19:0] RWL. -/
def psTbyp : RegRow := ⟨0x20002010, 0x40, 16, 0x0, 1, 0x0, 0xFFFFF, 0x0, 0x0, 0xC35, 0x20000004⟩

/-- PSi_TMAX (R227, 07_actuator_drive.md): TMAX [23:0] RWL. -/
def psTmax : RegRow := ⟨0x20002014, 0x40, 16, 0x0, 1, 0x0, 0xFFFFFF, 0x0, 0x0, 0xF424, 0x20000004⟩

/-- PSi_TRCV (R227, 07_actuator_drive.md): TRCV [19:0] RWL. -/
def psTrcv : RegRow := ⟨0x20002018, 0x40, 16, 0x0, 1, 0x0, 0xFFFFF, 0x0, 0x0, 0x3D09, 0x20000004⟩

/-- PSi_MODE (R227, 07_actuator_drive.md): BYPFAST [0] RWL; BATFB [1] RWL; POL [2] RWL; TBLANK [11:4] RWL; TCHOPMIN [19:12] RWL. -/
def psMode : RegRow := ⟨0x2000201C, 0x40, 16, 0x0, 1, 0x0, 0xFFFF7, 0x0, 0x0, 0x20130, 0x20000004⟩

/-- PSi_CLS0 (R227, 07_actuator_drive.md): CSTART [19:0] RWL. -/
def psCls0 : RegRow := ⟨0x20002020, 0x40, 16, 0x0, 1, 0x0, 0xFFFFF, 0x0, 0x0, 0x4E2, 0x20000004⟩

/-- PSi_CLS1 (R227, 07_actuator_drive.md): CEND [19:0] RWL. -/
def psCls1 : RegRow := ⟨0x20002024, 0x40, 16, 0x0, 1, 0x0, 0xFFFFF, 0x0, 0x0, 0x3A98, 0x20000004⟩

/-- PSi_CLS2 (R227, 07_actuator_drive.md): CTHR [11:0] RWL. -/
def psCls2 : RegRow := ⟨0x20002028, 0x40, 16, 0x0, 1, 0x0, 0xFFF, 0x0, 0x0, 0x20, 0x20000004⟩

/-- BNKb_KERF (R237, 07_actuator_drive.md): DEFER [19:0] RWL; GAP [31:20] RWL. -/
def bnkKerf : RegRow := ⟨0x20003000, 0x20, 8, 0x0, 1, 0x0, 0xFFFFFFFF, 0x0, 0x0, 0x7D030D4, 0x20000004⟩

/-- BNKb_DIAG (R237, 07_actuator_drive.md): IDIFF [9:0] RWL; FAULT [10] W1C. -/
def bnkDiag : RegRow := ⟨0x20003004, 0x20, 8, 0x0, 1, 0x0, 0x3FF, 0x400, 0x0, 0x50, 0x20000004⟩

/-- BNKb_STAT (R237, 07_actuator_drive.md): LEAD [1:0] RO; LEADV [2] RO; LSREG [3] RO; WAITN [6:4] RO. -/
def bnkStat : RegRow := ⟨0x20003008, 0x20, 8, 0x0, 1, 0x0, 0x0, 0x0, 0x0, 0x0, 0x0⟩

/-- BNKb_CNT (R237, 07_actuator_drive.md): CONFLICT [15:0] RW; BNR [31:16] RW. -/
def bnkCnt : RegRow := ⟨0x2000300C, 0x20, 8, 0x0, 1, 0xFFFFFFFF, 0x0, 0x0, 0x0, 0x0, 0x0⟩

/-- BSTk_CFG (R230, 07_actuator_drive.md): EN [0] RWL; VSET [8:1] RWL; READY [16:9] RWL; OVP [24:17] RWL. -/
def bstCfg : RegRow := ⟨0x20003200, 0x20, 2, 0x0, 1, 0x0, 0x1FFFFFF, 0x0, 0x0, 0x19CCC0, 0x20000004⟩

/-- BSTk_CTL (R230, 07_actuator_drive.md): ILIM [9:0] RWL; TOFF [17:10] RWL. -/
def bstCtl : RegRow := ⟨0x20003204, 0x20, 2, 0x0, 1, 0x0, 0x3FFFF, 0x0, 0x0, 0x10190, 0x20000004⟩

/-- BSTk_WAIT (R230, 07_actuator_drive.md): WAIT [19:0] RWL. -/
def bstWait : RegRow := ⟨0x20003208, 0x20, 2, 0x0, 1, 0x0, 0xFFFFF, 0x0, 0x0, 0xC35, 0x20000004⟩

/-- BSTk_STAT (R230, 07_actuator_drive.md): VRAIL [9:0] RO; RDY [10] RO; OVP [11] RO; RUN [12] RO. -/
def bstStat : RegRow := ⟨0x2000320C, 0x20, 2, 0x0, 1, 0x0, 0x0, 0x0, 0x0, 0x0, 0x0⟩

/-- IGNn_CFG (R243, 07_actuator_drive.md): EN [0] RWL; FBEN [1] RWL; FBPOL [2] RWL; FBT [15:8] RWL; SPKW [23:16] RWL. -/
def ignCfg : RegRow := ⟨0x20004000, 0x10, 24, 0x0, 1, 0x0, 0xFFFF07, 0x0, 0x0, 0x143200, 0x20000004⟩

/-- IGNn_STAT (R243, 07_actuator_drive.md): DWELL [0] RO; SOFT [1] RO; FB [2] RO. -/
def ignStat : RegRow := ⟨0x20004004, 0x10, 24, 0x0, 1, 0x0, 0x0, 0x0, 0x0, 0x0, 0x0⟩

/-- IGNn_DIAG (R243, 07_actuator_drive.md): NOCUR [0] W1C; NOSPARK [1] W1C. -/
def ignDiag : RegRow := ⟨0x20004008, 0x10, 24, 0x0, 1, 0x0, 0x0, 0x3, 0x0, 0x0, 0x0⟩

/-- MEAS_OWNER_n (R274, 08_combustion_measurement.md): OWNER [3:0] RW. -/
def measOwner : RegRow := ⟨0x30000000, 0x4, 40, 0x0, 1, 0x0, 0x0, 0x0, 0x0, 0x0, 0x0⟩

/-- MEAS_LOCK (R274, 08_combustion_measurement.md): LOCK [0] W1S. -/
def measLock : RegRow := ⟨0x30000100, 0x0, 1, 0x0, 1, 0x0, 0x0, 0x0, 0x1, 0x0, 0x0⟩

/-- MODm_CFG (R275, 08_combustion_measurement.md): DEC [2:0] RWL; CONT [3] RWL; SATINV [4] RWL. -/
def modCfg : RegRow := ⟨0x30001000, 0x100, 8, 0x0, 1, 0x0, 0x1F, 0x0, 0x0, 0x2, 0x30000100⟩

/-- MODm_CMD (R275, 08_combustion_measurement.md): START [0] WO; STOP [1] WO; URG [2] WO. -/
def modCmd : RegRow := ⟨0x30001004, 0x100, 8, 0x0, 1, 0x0, 0x0, 0x0, 0x0, 0x0, 0x0⟩

/-- MODm_STAT (R275, 08_combustion_measurement.md): RUN [0] RO; ENTRY [4:1] RO; URGR [5] RO; LAT [6] RO; CHKF [7] RO; SAT [8] RO;
INVRES [31:16] RW. -/
def modStat : RegRow := ⟨0x30001008, 0x100, 8, 0x0, 1, 0xFFFF0000, 0x0, 0x0, 0x0, 0x0, 0x0⟩

/-- MODm_URG (R275, R252, 08_combustion_measurement.md): CH [4:0] RWL; SETTLE [9:5] RWL; COUNT [17:10] RWL; STRM [18] RWL; RES [19]
RWL; CUE [20] RWL; LAST [21] RWL. -/
def modUrg : RegRow := ⟨0x3000100C, 0x100, 8, 0x0, 1, 0x0, 0x3FFFFF, 0x0, 0x0, 0x419, 0x30000100⟩

/-- MODm_RES (R275, 08_combustion_measurement.md): VALUE [19:0] RO; CH [24:20] RO. -/
def modRes : RegRow := ⟨0x30001010, 0x100, 8, 0x0, 1, 0x0, 0x0, 0x0, 0x0, 0x0, 0x0⟩

/-- MODm_RSQ (R275, 08_combustion_measurement.md): SEQ [15:0] RO; FRESH [16] RO. -/
def modRsq : RegRow := ⟨0x30001014, 0x100, 8, 0x0, 1, 0x0, 0x0, 0x0, 0x0, 0x0, 0x0⟩

/-- MODm_RTS (R275, 08_combustion_measurement.md): TS [31:0] RO. -/
def modRts : RegRow := ⟨0x30001018, 0x100, 8, 0x0, 1, 0x0, 0x0, 0x0, 0x0, 0x0, 0x0⟩

/-- MODm_TRG (R275, 08_combustion_measurement.md): TRG_OVR [7:0] RW. -/
def modTrg : RegRow := ⟨0x3000101C, 0x100, 8, 0x0, 1, 0xFF, 0x0, 0x0, 0x0, 0x0, 0x0⟩

/-- SEQm_j (R252, 08_combustion_measurement.md): CH [4:0] RWL; SETTLE [9:5] RWL; COUNT [17:10] RWL; STRM [18] RWL; RES [19] RWL; CUE
[20] RWL; LAST [21] RWL. -/
def seq : RegRow := ⟨0x30001040, 0x100, 8, 0x4, 16, 0x0, 0x3FFFFF, 0x0, 0x0, 0x419, 0x30000100⟩

/-- PAIRp_CFG (R276, 08_combustion_measurement.md): SIM [0] RWL; PLCNT [15:8] RWL; PLTOL [31:16] RWL. -/
def pairCfg : RegRow := ⟨0x30002000, 0x10, 4, 0x0, 1, 0x0, 0xFFFFFF01, 0x0, 0x0, 0x4000400, 0x30000100⟩

/-- PAIRp_CHK (R276, 08_combustion_measurement.md): CHKTOL [15:0] RWL. -/
def pairChk : RegRow := ⟨0x30002004, 0x10, 4, 0x0, 1, 0x0, 0xFFFF, 0x0, 0x0, 0x800, 0x30000100⟩

/-- PAIRp_STAT (R276, 08_combustion_measurement.md): PLF [0] RO; NPLAUS [31:16] RW. -/
def pairStat : RegRow := ⟨0x30002008, 0x10, 4, 0x0, 1, 0xFFFF0000, 0x0, 0x0, 0x0, 0x0, 0x0⟩

/-- ATRGk_CFG (R276, 08_combustion_measurement.md): EN [0] RWL; EDGE [1] RWL; ACT [2] RWL; FLT [15:8] RWL. -/
def atrgCfg : RegRow := ⟨0x30002100, 0x4, 2, 0x0, 1, 0x0, 0xFF07, 0x0, 0x0, 0x400, 0x30000100⟩

/-- WINw_CFG (R277, 08_combustion_measurement.md): SRC [2:0] RWL; STEP [5:4] RWL; TRACE [6] RWL; VT [7] RWL; PEGEN [8] RWL; PEGN
[12:9] RWL; INVRUN [15:13] RWL. -/
def winCfg : RegRow := ⟨0x30004000, 0x40, 16, 0x0, 1, 0x0, 0xFFF7, 0x0, 0x0, 0x8E00, 0x30000100⟩

/-- WINw_TDC (R277, 08_combustion_measurement.md): TDC [23:0] RWL. -/
def winTdc : RegRow := ⟨0x30004004, 0x40, 16, 0x0, 1, 0x0, 0xFFFFFF, 0x0, 0x0, 0x0, 0x30000100⟩

/-- WINw_PEG (R277, 08_combustion_measurement.md): PEGANG [23:0] RWL. -/
def winPeg : RegRow := ⟨0x30004008, 0x40, 16, 0x0, 1, 0x0, 0xFFFFFF, 0x0, 0x0, 0x0, 0x30000100⟩

/-- WINw_PREF (R277, 08_combustion_measurement.md): PREF [31:0] RW. -/
def winPref : RegRow := ⟨0x3000400C, 0x40, 16, 0x0, 1, 0xFFFFFFFF, 0x0, 0x0, 0x0, 0x0, 0x0⟩

/-- WINw_MOT (R277, 08_combustion_measurement.md): MOTANG [23:0] RWL. -/
def winMot : RegRow := ⟨0x30004010, 0x40, 16, 0x0, 1, 0x0, 0xFFFFFF, 0x0, 0x0, 0x0, 0x30000100⟩

/-- WINw_KNK (R277, 08_combustion_measurement.md): KSTART [15:0] RWL; KEND [31:16] RWL. -/
def winKnk : RegRow := ⟨0x30004014, 0x40, 16, 0x0, 1, 0x0, 0xFFFFFFFF, 0x0, 0x0, 0x0, 0x30000100⟩

/-- WINw_HR (R277, 08_combustion_measurement.md): GAMMA [15:0] RWL. -/
def winHr : RegRow := ⟨0x30004018, 0x40, 16, 0x0, 1, 0x0, 0xFFFF, 0x0, 0x0, 0x551F, 0x30000100⟩

/-- WINw_MIS (R277, 08_combustion_measurement.md): MISTHR [31:0] RWL. -/
def winMis : RegRow := ⟨0x3000401C, 0x40, 16, 0x0, 1, 0x0, 0xFFFFFFFF, 0x0, 0x0, 0x0, 0x30000100⟩

/-- WINw_STAT (R277, 08_combustion_measurement.md): OPEN [0] RO; PUB [1] W1C; CYC [31:16] RO. -/
def winStat : RegRow := ⟨0x30004020, 0x40, 16, 0x0, 1, 0x0, 0x0, 0x2, 0x0, 0x0, 0x0⟩

/-- FIGw_f (R277, 08_combustion_measurement.md): FIG [31:0] RO. -/
def fig : RegRow := ⟨0x30006000, 0x80, 16, 0x4, 32, 0x0, 0x0, 0x0, 0x0, 0x0, 0x0⟩

/-- VTt_i (R277, 08_combustion_measurement.md): VT_2i [15:0] RWL; VT_2i+1 [31:16] RWL. -/
def vt : RegRow := ⟨0x30008000, 0x800, 2, 0x4, 512, 0x0, 0xFFFFFFFF, 0x0, 0x0, 0x0, 0x30000100⟩

/-- GPg_CFG (R278, 08_combustion_measurement.md): TYPE [1:0] RWL; UNIT [5:2] RWL; FIG [10:6] RWL; EN [11] RWL; DEB [15:12] RWL; ACT
[17:16] RWL. -/
def gpCfg : RegRow := ⟨0x3000A000, 0x20, 16, 0x0, 1, 0x0, 0x3FFFF, 0x0, 0x0, 0x1000, 0x30000100⟩

/-- GPg_LO (R278, 08_combustion_measurement.md): LO [31:0] RWL. -/
def gpLo : RegRow := ⟨0x3000A004, 0x20, 16, 0x0, 1, 0x0, 0xFFFFFFFF, 0x0, 0x0, 0x80000000, 0x30000100⟩

/-- GPg_HI (R278, 08_combustion_measurement.md): HI [31:0] RWL. -/
def gpHi : RegRow := ⟨0x3000A008, 0x20, 16, 0x0, 1, 0x0, 0xFFFFFFFF, 0x0, 0x0, 0x7FFFFFFF, 0x30000100⟩

/-- GPg_HYS (R278, 08_combustion_measurement.md): HYS [31:0] RWL. -/
def gpHys : RegRow := ⟨0x3000A00C, 0x20, 16, 0x0, 1, 0x0, 0xFFFFFFFF, 0x0, 0x0, 0x0, 0x30000100⟩

/-- GPg_STAT (R278, 08_combustion_measurement.md): ZONE [1:0] RO; EVTS [31:16] RW. -/
def gpStat : RegRow := ⟨0x3000A010, 0x20, 16, 0x0, 1, 0xFFFF0000, 0x0, 0x0, 0x0, 0x0, 0x0⟩

/-- JIGn_CFG (R316, 10_jig_engines.md): EN [0] RW; PBASE [5:1] RWL; SAFE [6] RWL; APUSH [7] RWL; PUSHAT [12:8] RWL; APULL [13] RWL;
ENTRY [21:16] RWL. -/
def jigCfg : RegRow := ⟨0x40000000, 0x100, 8, 0x0, 1, 0x1, 0x3F3FFE, 0x0, 0x0, 0x40, 0x40000F80⟩

/-- JIGn_DIV (R316, 10_jig_engines.md), which R298 calls JIGn_RATE: FRAC [7:0] and INT [23:8] RWL in the table, STEP [24:0] in
R298 (log entry 15). -/
def jigDiv : RegRow := ⟨0x40000004, 0x100, 8, 0x0, 1, 0x0, 0xFFFFFF, 0x0, 0x0, 0x100, 0x40000F80⟩

/-- JIGn_CTL (R316, 10_jig_engines.md): SWAP [0] WO; FSWAP [1] WO; FLUSH [2] WO; TRGCLR [3] WO. -/
def jigCtl : RegRow := ⟨0x40000008, 0x100, 8, 0x0, 1, 0x0, 0x0, 0x0, 0x0, 0x0, 0x0⟩

/-- JIGn_STAT (R316, 10_jig_engines.md): RUN [0] RO; BANK [1] RO; SWPEND [2] RO; STALL [3] RO; WAIT [4] RO; F [5] RO; PC [11:6] RO;
RXN [15:12] RO; TXN [19:16] RO; SC [25:20] RO; TRGL [26] RO; FAULT [27] RO. -/
def jigStat : RegRow := ⟨0x4000000C, 0x100, 8, 0x0, 1, 0x0, 0x0, 0x0, 0x0, 0x0, 0x0⟩

/-- JIGn_TXF (R316, 10_jig_engines.md): DATA [31:0] WO. -/
def jigTxf : RegRow := ⟨0x40000010, 0x100, 8, 0x0, 1, 0x0, 0x0, 0x0, 0x0, 0x0, 0x0⟩

/-- JIGn_RXF (R316, 10_jig_engines.md): DATA [31:0] RO. -/
def jigRxf : RegRow := ⟨0x40000014, 0x100, 8, 0x0, 1, 0x0, 0x0, 0x0, 0x0, 0x0, 0x0⟩

/-- JIGn_EVT (R316, 10_jig_engines.md): EV0 [0] W1C; EV1 [1] W1C; TXOVF [2] W1C; RXUND [3] W1C; SWAPD [4] W1C; LOST [5] W1C. -/
def jigEvt : RegRow := ⟨0x40000018, 0x100, 8, 0x0, 1, 0x0, 0x0, 0x3F, 0x0, 0x0, 0x0⟩

/-- JIGn_CNT (R316, 10_jig_engines.md): TRGOVR [15:0] RW; LOSTN [31:16] RW. -/
def jigCnt : RegRow := ⟨0x4000001C, 0x100, 8, 0x0, 1, 0xFFFFFFFF, 0x0, 0x0, 0x0, 0x0, 0x0⟩

/-- JIGn_X (R316, 10_jig_engines.md): VALUE [31:0] RO. -/
def jigX : RegRow := ⟨0x40000020, 0x100, 8, 0x0, 1, 0x0, 0x0, 0x0, 0x0, 0x0, 0x0⟩

/-- JIGn_Y (R316, 10_jig_engines.md): VALUE [31:0] RO. -/
def jigY : RegRow := ⟨0x40000024, 0x100, 8, 0x0, 1, 0x0, 0x0, 0x0, 0x0, 0x0, 0x0⟩

/-- JIGn_Z (R316, 10_jig_engines.md): VALUE [31:0] RO. -/
def jigZ : RegRow := ⟨0x40000028, 0x100, 8, 0x0, 1, 0x0, 0x0, 0x0, 0x0, 0x0, 0x0⟩

/-- JIGn_C (R316, 10_jig_engines.md): VALUE [15:0] RO. -/
def jigC : RegRow := ⟨0x4000002C, 0x100, 8, 0x0, 1, 0x0, 0x0, 0x0, 0x0, 0x0, 0x0⟩

/-- JIGn_LOSTB (R316, 10_jig_engines.md): LOSTB [5:0] RO. -/
def jigLostb : RegRow := ⟨0x40000030, 0x100, 8, 0x0, 1, 0x0, 0x0, 0x0, 0x0, 0x0, 0x0⟩

/-- JPk_CFG (R318, 10_jig_engines.md): SRC [3:0] RWL; IDLE [4] RWL; IDLEZ [5] RWL; FLT [15:8] RWL. -/
def jpCfg : RegRow := ⟨0x40000E00, 0x4, 24, 0x0, 1, 0x0, 0xFF3F, 0x0, 0x0, 0x22F, 0x40000F80⟩

/-- JIG_CMD (R318, 10_jig_engines.md): MASK [7:0] WO; ACTION [10:8] WO. -/
def jigCmd : RegRow := ⟨0x40000F00, 0x0, 1, 0x0, 1, 0x0, 0x0, 0x0, 0x0, 0x0, 0x0⟩

/-- JIG_OWNER_n (R318, 10_jig_engines.md): OWNER [3:0] RW. -/
def jigOwner : RegRow := ⟨0x40000F40, 0x4, 8, 0x0, 1, 0x0, 0x0, 0x0, 0x0, 0x0, 0x0⟩

/-- JIG_LOCK (R318, 10_jig_engines.md): LOCK [0] W1S. -/
def jigLock : RegRow := ⟨0x40000F80, 0x0, 1, 0x0, 1, 0x0, 0x0, 0x0, 0x1, 0x0, 0x0⟩

/-- JIGn_PROG (R317, 10_jig_engines.md): WORD [31:0] RW. -/
def jigProg : RegRow := ⟨0x40001000, 0x200, 8, 0x4, 128, 0x0, 0x0, 0x0, 0x0, 0x0, 0x0⟩

/-- TMRn_CFG (R332, 11_timers_and_sealed_counters.md): EN [0] RW; SRC [3:1] RWL; LINK [4] RWL; EDGE [6:5] RWL; JSEL [10:7] RWL; PRESC
[27:12] RWL. -/
def tmrCfg : RegRow := ⟨0x41000000, 0x40, 16, 0x0, 1, 0x1, 0xFFFF7FE, 0x0, 0x0, 0x20, 0x41000480⟩

/-- TMRn_CMP (R332, 11_timers_and_sealed_counters.md): LATEARM [0] RW; PINACT [3:1] RW; PINOUT [4] RWL; IDLE [5] RWL; SAFE [6] RWL;
LATE_WIN [31:16] RW. -/
def tmrCmp : RegRow := ⟨0x41000004, 0x40, 16, 0x0, 1, 0xFFFF000F, 0x70, 0x0, 0x0, 0x1000040, 0x41000480⟩

/-- TMRn_CMPV (R332, 11_timers_and_sealed_counters.md): VALUE [31:0] RW. -/
def tmrCmpv : RegRow := ⟨0x41000008, 0x40, 16, 0x0, 1, 0x0, 0x0, 0x0, 0x0, 0x0, 0x0⟩

/-- TMRn_CNT (R332, 11_timers_and_sealed_counters.md): COUNT [31:0] RW. -/
def tmrCnt : RegRow := ⟨0x4100000C, 0x40, 16, 0x0, 1, 0x0, 0x0, 0x0, 0x0, 0x0, 0x0⟩

/-- TMRn_CAP (R332, 11_timers_and_sealed_counters.md): VALUE [31:0] RO. -/
def tmrCap : RegRow := ⟨0x41000010, 0x40, 16, 0x0, 1, 0x0, 0x0, 0x0, 0x0, 0x0, 0x0⟩

/-- TMRn_CAPCFG (R332, 11_timers_and_sealed_counters.md): CSRC [1:0] RWL; FLT [15:8] RWL. -/
def tmrCapcfg : RegRow := ⟨0x41000014, 0x40, 16, 0x0, 1, 0x0, 0xFF03, 0x0, 0x0, 0x200, 0x41000480⟩

/-- TMRn_STAT (R332, 11_timers_and_sealed_counters.md): RUN [0] RO; CMPF [1] W1C; CAPF [2] W1C; WRAPF [3] W1C; FAULT [4] RO; PIN [5]
RO; CAPOVR [31:16] RW. -/
def tmrStat : RegRow := ⟨0x41000018, 0x40, 16, 0x0, 1, 0xFFFF0000, 0x0, 0xE, 0x0, 0x0, 0x0⟩

/-- TMRn_EVEN (R332, 11_timers_and_sealed_counters.md): CMP [0] RW; CAP [1] RW; WRAP [2] RW. -/
def tmrEven : RegRow := ⟨0x4100001C, 0x40, 16, 0x0, 1, 0x7, 0x0, 0x0, 0x0, 0x0, 0x0⟩

/-- TMRn_SNAP (R332, 11_timers_and_sealed_counters.md): VALUE [31:0] RO. -/
def tmrSnap : RegRow := ⟨0x41000020, 0x40, 16, 0x0, 1, 0x0, 0x0, 0x0, 0x0, 0x0, 0x0⟩

/-- TMR_CAPALL (R333, 11_timers_and_sealed_counters.md): GO [0] WO; SNAPSEQ [31:16] RO. -/
def tmrCapall : RegRow := ⟨0x41000400, 0x0, 1, 0x0, 1, 0x0, 0x0, 0x0, 0x0, 0x0, 0x0⟩

/-- TMR_OWNER_n (R333, 11_timers_and_sealed_counters.md): OWNER [3:0] RW. -/
def tmrOwner : RegRow := ⟨0x41000440, 0x4, 16, 0x0, 1, 0x0, 0x0, 0x0, 0x0, 0x0, 0x0⟩

/-- TMR_LOCK (R333, 11_timers_and_sealed_counters.md): LOCK [0] W1S. -/
def tmrLock : RegRow := ⟨0x41000480, 0x0, 1, 0x0, 1, 0x0, 0x0, 0x0, 0x1, 0x0, 0x0⟩

/-- SEAL_CTL (R341, 11_timers_and_sealed_counters.md): REPORT [0] WO. -/
def sealCtl : RegRow := ⟨0x41000800, 0x0, 1, 0x0, 1, 0x0, 0x0, 0x0, 0x0, 0x0, 0x0⟩

/-- SEAL_STAT (R341, 11_timers_and_sealed_counters.md): KEYSET [0] RO; BUSY [1] RO; RDY [2] W1C; NOKEY [3] W1C; EPEXH [4] RO. -/
def sealStat : RegRow := ⟨0x41000804, 0x0, 1, 0x0, 1, 0x0, 0x0, 0x0, 0x0, 0x0, 0x0⟩

/-- SEAL_EPOCH (R341, 11_timers_and_sealed_counters.md): EPOCH [11:0] RO. -/
def sealEpoch : RegRow := ⟨0x41000808, 0x0, 1, 0x0, 1, 0x0, 0x0, 0x0, 0x0, 0x0, 0x0⟩

/-- SEAL_RCNT (R341, 11_timers_and_sealed_counters.md): RCNT [31:0] RO. -/
def sealRcnt : RegRow := ⟨0x4100080C, 0x0, 1, 0x0, 1, 0x0, 0x0, 0x0, 0x0, 0x0, 0x0⟩

/-- SEAL_KCV (R341, 11_timers_and_sealed_counters.md): KCV [31:0] RO. -/
def sealKcv : RegRow := ⟨0x41000810, 0x0, 1, 0x0, 1, 0x0, 0x0, 0x0, 0x0, 0x0, 0x0⟩

/-- SEAL_NONCEi (R341, 11_timers_and_sealed_counters.md): NONCE [31:0] RW. -/
def sealNonce : RegRow := ⟨0x41000820, 0x4, 4, 0x0, 1, 0xFFFFFFFF, 0x0, 0x0, 0x0, 0x0, 0x0⟩

/-- SEAL_KEYWi (R341, 11_timers_and_sealed_counters.md): KEY [31:0] WO. -/
def sealKeyw : RegRow := ⟨0x41000840, 0x4, 8, 0x0, 1, 0x0, 0x0, 0x0, 0x0, 0x0, 0x0⟩

/-- SEAL_BURN (R341, 11_timers_and_sealed_counters.md): CONFIRM [31:0] WO. -/
def sealBurn : RegRow := ⟨0x41000860, 0x0, 1, 0x0, 1, 0x0, 0x0, 0x0, 0x0, 0x0, 0x0⟩

/-- SEALn_CFG (R341, 11_timers_and_sealed_counters.md): SRC [3:0] RW; SEALED [4] W1S; BROKEN [5] RO; SAT [6] RO; LOSS [7] RO; TSEL
[11:8] RW. -/
def sealxCfg : RegRow := ⟨0x41000900, 0x20, 16, 0x0, 1, 0xF0F, 0x0, 0x0, 0x10, 0x0, 0x0⟩

/-- SEALn_MASK (R341, 11_timers_and_sealed_counters.md): CHMASK [31:0] RW. -/
def sealxMask : RegRow := ⟨0x41000904, 0x20, 16, 0x0, 1, 0xFFFFFFFF, 0x0, 0x0, 0x0, 0x0, 0x0⟩

/-- SEALn_LO (R341, 11_timers_and_sealed_counters.md): COUNT [31:0] RO. -/
def sealxLo : RegRow := ⟨0x41000908, 0x20, 16, 0x0, 1, 0x0, 0x0, 0x0, 0x0, 0x0, 0x0⟩

/-- SEALn_HI (R341, 11_timers_and_sealed_counters.md): COUNT [31:0] RO. -/
def sealxHi : RegRow := ⟨0x4100090C, 0x20, 16, 0x0, 1, 0x0, 0x0, 0x0, 0x0, 0x0, 0x0⟩

/-- SEALn_ADD (R341, 11_timers_and_sealed_counters.md): VALUE [31:0] WO. -/
def sealxAdd : RegRow := ⟨0x41000910, 0x20, 16, 0x0, 1, 0x0, 0x0, 0x0, 0x0, 0x0, 0x0⟩

/-- SEAL_REPORTi (R340, 11_timers_and_sealed_counters.md): WORD [31:0] RO. -/
def sealReport : RegRow := ⟨0x41001000, 0x4, 84, 0x0, 1, 0x0, 0x0, 0x0, 0x0, 0x0, 0x0⟩

/-- FAB_CFG (R380, 12_saesh_fabric.md): EN [0] RW; PEN [3:1] RWL; RANK [5:4] RWL; IDUSE [6] RWL; SOFTID [11:7] RWL; CAPTO [19:12] RWL. -/
def fabCfg : RegRow := ⟨0x50000000, 0x0, 1, 0x0, 1, 0x1, 0xFFFFE, 0x0, 0x0, 0x28030, 0x5000000C⟩

/-- FAB_TIME (R380, 12_saesh_fabric.md): TSYNC [9:0] RWL. -/
def fabTime : RegRow := ⟨0x50000004, 0x0, 1, 0x0, 1, 0x0, 0x3FF, 0x0, 0x0, 0x14, 0x5000000C⟩

/-- FAB_ANGCFG (R380, 12_saesh_fabric.md): DOFSK [3:0] RWL; DTOL [11:4] RWL; DIFFN [15:12] RWL; HOLDMAX [31:16] RWL. -/
def fabAngcfg : RegRow := ⟨0x50000008, 0x0, 1, 0x0, 1, 0x0, 0xFFFFFFFF, 0x0, 0x0, 0x3E88086, 0x5000000C⟩

/-- FAB_LOCK (R380, 12_saesh_fabric.md): LOCK [0] W1S. -/
def fabLock : RegRow := ⟨0x5000000C, 0x0, 1, 0x0, 1, 0x0, 0x0, 0x0, 0x1, 0x0, 0x0⟩

/-- FAB_CMD (R380, 12_saesh_fabric.md): LINEUP [0] WO; HANDOVER [1] WO; DIFFCLR [2] WO; TGT [12:8] WO. -/
def fabCmd : RegRow := ⟨0x50000010, 0x0, 1, 0x0, 1, 0x0, 0x0, 0x0, 0x0, 0x0, 0x0⟩

/-- FAB_ID (R381, 12_saesh_fabric.md): ID [4:0] RO; IDV [5] RO; BENCH [6] RO; STRAP [12:8] RO; HOPS [17:13] RO. -/
def fabId : RegRow := ⟨0x50000020, 0x0, 1, 0x0, 1, 0x0, 0x0, 0x0, 0x0, 0x0, 0x0⟩

/-- FAB_STAT (R381, 12_saesh_fabric.md): CAPT [0] RO; CAPID [5:1] RO; CAPV [6] RO; CEP [14:7] RO; LUN [22:15] RO; LUBUSY [23] RO; HOLD
[24] RO; DV [25] RO; CSYNC [27:26] RO; DIFFSTOP [28] RO. -/
def fabStat : RegRow := ⟨0x50000024, 0x0, 1, 0x0, 1, 0x0, 0x0, 0x0, 0x0, 0x0, 0x0⟩

/-- FAB_MEMB (R381, 12_saesh_fabric.md): MASK [31:0] RO. -/
def fabMemb : RegRow := ⟨0x50000028, 0x0, 1, 0x0, 1, 0x0, 0x0, 0x0, 0x0, 0x0, 0x0⟩

/-- FAB_DOFS (R381, 12_saesh_fabric.md): DOFS [31:0] RO. -/
def fabDofs : RegRow := ⟨0x5000002C, 0x0, 1, 0x0, 1, 0x0, 0x0, 0x0, 0x0, 0x0, 0x0⟩

/-- FAB_SYS_LO (R381, 12_saesh_fabric.md): TCLK [31:0] RO. -/
def fabSysLo : RegRow := ⟨0x50000030, 0x0, 1, 0x0, 1, 0x0, 0x0, 0x0, 0x0, 0x0, 0x0⟩

/-- FAB_SYS_HI (R381, 12_saesh_fabric.md): TCLK [7:0] RO; VSTEP [11:8] RO. -/
def fabSysHi : RegRow := ⟨0x50000034, 0x0, 1, 0x0, 1, 0x0, 0x0, 0x0, 0x0, 0x0, 0x0⟩

/-- FAB_TERR (R381, 12_saesh_fabric.md): ERR [15:0] RO. -/
def fabTerr : RegRow := ⟨0x50000038, 0x0, 1, 0x0, 1, 0x0, 0x0, 0x0, 0x0, 0x0, 0x0⟩

/-- FAB_CNT (R381, 12_saesh_fabric.md): DISC [15:0] RW; DIFF [31:16] RW. -/
def fabCnt : RegRow := ⟨0x5000003C, 0x0, 1, 0x0, 1, 0xFFFFFFFF, 0x0, 0x0, 0x0, 0x0, 0x0⟩

/-- FAB_PORTp_STAT (R382, 12_saesh_fabric.md): STATE [1:0] RO; TREE [3:2] RO; PEER [8:4] RO; PEERV [9] RO. -/
def fabPortStat : RegRow := ⟨0x50000100, 0x20, 3, 0x0, 1, 0x0, 0x0, 0x0, 0x0, 0x0, 0x0⟩

/-- FAB_PORTp_DLY (R382, 12_saesh_fabric.md): DELAY [15:0] RO. -/
def fabPortDly : RegRow := ⟨0x50000104, 0x20, 3, 0x0, 1, 0x0, 0x0, 0x0, 0x0, 0x0, 0x0⟩

/-- FAB_PORTp_ERR (R382, 12_saesh_fabric.md): RETRY [15:0] RW; DOWNS [31:16] RW. -/
def fabPortErr : RegRow := ⟨0x50000108, 0x20, 3, 0x0, 1, 0xFFFFFFFF, 0x0, 0x0, 0x0, 0x0, 0x0⟩

/-- FAB_PORTp_CODE (R382, 12_saesh_fabric.md): CODEERR [15:0] RW. -/
def fabPortCode : RegRow := ⟨0x5000010C, 0x20, 3, 0x0, 1, 0xFFFF, 0x0, 0x0, 0x0, 0x0, 0x0⟩

/-- FLT_STAT (R440, 14_faults_and_self_test.md): COUNT [6:0] RO; OVF [15:8] RW; SHOT [16] RO; SAFE [17] RO; SC [18] RO; HOSTSAFE [19]
RO; DRVSAFE [20] RO; GRAVE [21] RO; STATE [22] RO. -/
def fltStat : RegRow := ⟨0x60000000, 0x0, 1, 0x0, 1, 0xFF00, 0x0, 0x0, 0x0, 0x0, 0x0⟩

/-- FLT_HEAD_LO (R440, 14_faults_and_self_test.md): MSG [31:0] RO. -/
def fltHeadLo : RegRow := ⟨0x60000004, 0x0, 1, 0x0, 1, 0x0, 0x0, 0x0, 0x0, 0x0, 0x0⟩

/-- FLT_HEAD_HI (R440, 14_faults_and_self_test.md): MSG [31:0] RO. -/
def fltHeadHi : RegRow := ⟨0x60000008, 0x0, 1, 0x0, 1, 0x0, 0x0, 0x0, 0x0, 0x0, 0x0⟩

/-- FLT_HEAD_TS (R440, 14_faults_and_self_test.md): TS [31:0] RO. -/
def fltHeadTs : RegRow := ⟨0x6000000C, 0x0, 1, 0x0, 1, 0x0, 0x0, 0x0, 0x0, 0x0, 0x0⟩

/-- FLT_CTL (R440, 14_faults_and_self_test.md): POP [0] WO; SAFE [1] WO; RELEASE [2] WO. -/
def fltCtl : RegRow := ⟨0x60000010, 0x0, 1, 0x0, 1, 0x0, 0x0, 0x0, 0x0, 0x0, 0x0⟩

/-- FLT_ACK (R440, 14_faults_and_self_test.md): SEQ [11:0] WO. -/
def fltAck : RegRow := ⟨0x60000014, 0x0, 1, 0x0, 1, 0x0, 0x0, 0x0, 0x0, 0x0, 0x0⟩

/-- FLT_SHOT (R440, 14_faults_and_self_test.md): LIMIT [16:0] RWL. -/
def fltShot : RegRow := ⟨0x60000018, 0x0, 1, 0x0, 1, 0x0, 0x1FFFF, 0x0, 0x0, 0x1388, 0x60000030⟩

/-- FLT_SHOTSTAT (R440, 14_faults_and_self_test.md): REMAIN [16:0] RO; LAST2 [31:20] RO. -/
def fltShotstat : RegRow := ⟨0x6000001C, 0x0, 1, 0x0, 1, 0x0, 0x0, 0x0, 0x0, 0x0, 0x0⟩

/-- FLT_CNT01 (R440, 14_faults_and_self_test.md): C0 [15:0] RW; C1 [31:16] RW. -/
def fltCnt01 : RegRow := ⟨0x60000020, 0x0, 1, 0x0, 1, 0xFFFFFFFF, 0x0, 0x0, 0x0, 0x0, 0x0⟩

/-- FLT_CNT23 (R440, 14_faults_and_self_test.md): C2 [15:0] RW; C3 [31:16] RW. -/
def fltCnt23 : RegRow := ⟨0x60000024, 0x0, 1, 0x0, 1, 0xFFFFFFFF, 0x0, 0x0, 0x0, 0x0, 0x0⟩

/-- FLT_LAST_LO (R440, 14_faults_and_self_test.md): MSG [31:0] RO. -/
def fltLastLo : RegRow := ⟨0x60000028, 0x0, 1, 0x0, 1, 0x0, 0x0, 0x0, 0x0, 0x0, 0x0⟩

/-- FLT_LAST_HI (R440, 14_faults_and_self_test.md): MSG [31:0] RO. -/
def fltLastHi : RegRow := ⟨0x6000002C, 0x0, 1, 0x0, 1, 0x0, 0x0, 0x0, 0x0, 0x0, 0x0⟩

/-- FLT_LOCK (R440, 14_faults_and_self_test.md): LOCK [0] W1S. -/
def fltLock : RegRow := ⟨0x60000030, 0x0, 1, 0x0, 1, 0x0, 0x0, 0x0, 0x1, 0x0, 0x0⟩

/-- BIST_CFG (R440, 14_faults_and_self_test.md): EN [0] RWL; GAP [11:1] RWL. -/
def bistCfg : RegRow := ⟨0x60001000, 0x0, 1, 0x0, 1, 0x0, 0xFFF, 0x0, 0x0, 0x7D1, 0x60000030⟩

/-- BIST_STAT (R440, 14_faults_and_self_test.md): UNIT [3:0] RO; OVER [7:4] RO; RUN [8] RO; INNINGS [31:16] RO. -/
def bistStat : RegRow := ⟨0x60001004, 0x0, 1, 0x0, 1, 0x0, 0x0, 0x0, 0x0, 0x0, 0x0⟩

/-- BIST_DONE (R440, 14_faults_and_self_test.md): MASK [9:0] RO; LAST [19:10] RO. -/
def bistDone : RegRow := ⟨0x60001008, 0x0, 1, 0x0, 1, 0x0, 0x0, 0x0, 0x0, 0x0, 0x0⟩

/-- BIST_CNT (R440, 14_faults_and_self_test.md): DEFER [15:0] RW; FAIL [31:16] RW. -/
def bistCnt : RegRow := ⟨0x6000100C, 0x0, 1, 0x0, 1, 0xFFFFFFFF, 0x0, 0x0, 0x0, 0x0, 0x0⟩

/-- FI_CTL (R441, 14_faults_and_self_test.md): ACTION [3:0] RW; GO [4] WO. -/
def fiCtl : RegRow := ⟨0x60002000, 0x0, 1, 0x0, 1, 0xF, 0x0, 0x0, 0x0, 0x0, 0x0⟩

/-- FI_SRC (R441, 14_faults_and_self_test.md): SOURCE [11:0] RW. -/
def fiSrc : RegRow := ⟨0x60002004, 0x0, 1, 0x0, 1, 0xFFF, 0x0, 0x0, 0x0, 0x0, 0x0⟩

/-- FI_ADDR (R441, 14_faults_and_self_test.md): ADDR [31:0] RW. -/
def fiAddr : RegRow := ⟨0x60002008, 0x0, 1, 0x0, 1, 0xFFFFFFFF, 0x0, 0x0, 0x0, 0x0, 0x0⟩

/-- FI_MSG_LO (R441, 14_faults_and_self_test.md): MSG [31:0] RW. -/
def fiMsgLo : RegRow := ⟨0x6000200C, 0x0, 1, 0x0, 1, 0xFFFFFFFF, 0x0, 0x0, 0x0, 0x0, 0x0⟩

/-- FI_MSG_HI (R441, 14_faults_and_self_test.md): MSG [31:0] RW. -/
def fiMsgHi : RegRow := ⟨0x60002010, 0x0, 1, 0x0, 1, 0xFFFFFFFF, 0x0, 0x0, 0x0, 0x0, 0x0⟩

/-- BIST_CMD (R441, 14_faults_and_self_test.md): UNIT [3:0] WO. -/
def bistCmd : RegRow := ⟨0x60002014, 0x0, 1, 0x0, 1, 0x0, 0x0, 0x0, 0x0, 0x0, 0x0⟩

/-- DEV_IDENT0 (R462, 15_power_clocks_startup.md): PART [15:0] RO; STEP [19:16] RO. -/
def devIdent0 : RegRow := ⟨0x70000000, 0x0, 1, 0x0, 1, 0x0, 0x0, 0x0, 0x0, 0x0, 0x0⟩

/-- DEV_IDENT1 (R462, 15_power_clocks_startup.md): SERIAL [31:0] RO. -/
def devIdent1 : RegRow := ⟨0x70000004, 0x0, 1, 0x0, 1, 0x0, 0x0, 0x0, 0x0, 0x0, 0x0⟩

/-- DEV_IDENT2 (R462, 15_power_clocks_startup.md): SERIAL [31:0] RO. -/
def devIdent2 : RegRow := ⟨0x70000008, 0x0, 1, 0x0, 1, 0x0, 0x0, 0x0, 0x0, 0x0, 0x0⟩

/-- SYS_STATE (R462, 15_power_clocks_startup.md): STATE [2:0] RO. -/
def sysState : RegRow := ⟨0x70000010, 0x0, 1, 0x0, 1, 0x0, 0x0, 0x0, 0x0, 0x0, 0x0⟩

/-- SYS_CMD (R462, 15_power_clocks_startup.md): CMD [3:0] WO; CONFIRM [31:16] WO. -/
def sysCmd : RegRow := ⟨0x70000014, 0x0, 1, 0x0, 1, 0x0, 0x0, 0x0, 0x0, 0x0, 0x0⟩

/-- SYS_ST (R462, 15_power_clocks_startup.md): CLU [8:0] RO; PRDA [9] RO; PRDB [10] RO; EDGE [11] RO; DDL [12] RO; DRV [13] RO; MEM
[14] RO; COLL [15] RO; DONE [16] RO; WAKE [17] RO. -/
def sysSt : RegRow := ⟨0x70000018, 0x0, 1, 0x0, 1, 0x0, 0x0, 0x0, 0x0, 0x0, 0x0⟩

/-- SYS_GATE (R462, 15_power_clocks_startup.md): MEAS [0] RW; MEASRDY [1] RO; DROPPED [31:16] RW. -/
def sysGate : RegRow := ⟨0x70000020, 0x0, 1, 0x0, 1, 0xFFFF0001, 0x0, 0x0, 0x0, 0x0, 0x0⟩

/-- LINK_RETRY (R462, 15_power_clocks_startup.md): DDL [15:0] W1C; MDL [31:16] W1C. -/
def linkRetry : RegRow := ⟨0x70000024, 0x0, 1, 0x0, 1, 0x0, 0x0, 0xFFFFFFFF, 0x0, 0x0, 0x0⟩

/-- SYS_SUP (R462, 15_power_clocks_startup.md): VMAINOK [0] RO; VBKUPOK [1] RO; VIOOK [5:2] RO; VBATOK [6] RO. -/
def sysSup : RegRow := ⟨0x70000028, 0x0, 1, 0x0, 1, 0x0, 0x0, 0x0, 0x0, 0x0, 0x0⟩

/-- CLK_STAT (R462, 15_power_clocks_startup.md): PLLLOCK [0] RO; REFOK [1] RO; REFERR [31:16] RO. -/
def clkStat : RegRow := ⟨0x70000030, 0x0, 1, 0x0, 1, 0x0, 0x0, 0x0, 0x0, 0x0, 0x0⟩

/-- SYS_LOCK (R462, 15_power_clocks_startup.md): LOCK [0] W1S. -/
def sysLock : RegRow := ⟨0x70000034, 0x0, 1, 0x0, 1, 0x0, 0x0, 0x0, 0x1, 0x0, 0x0⟩

/-- SLOW_LO (R463, 15_power_clocks_startup.md): COUNT [31:0] RO. -/
def slowLo : RegRow := ⟨0x70000100, 0x0, 1, 0x0, 1, 0x0, 0x0, 0x0, 0x0, 0x0, 0x0⟩

/-- SLOW_HI (R463, 15_power_clocks_startup.md): COUNT [15:0] RO. -/
def slowHi : RegRow := ⟨0x70000104, 0x0, 1, 0x0, 1, 0x0, 0x0, 0x0, 0x0, 0x0, 0x0⟩

/-- WAKE_CFG (R463, 15_power_clocks_startup.md): PIN [0] RWL; PINPOL [1] RWL; WHL [2] RWL; ALARM [3] RWL; MNT [4] RWL. -/
def wakeCfg : RegRow := ⟨0x70000108, 0x0, 1, 0x0, 1, 0x0, 0x1F, 0x0, 0x0, 0x0, 0x70000034⟩

/-- WAKE_ALARM_LO (R463, 15_power_clocks_startup.md): VALUE [31:0] RWL. -/
def wakeAlarmLo : RegRow := ⟨0x7000010C, 0x0, 1, 0x0, 1, 0x0, 0xFFFFFFFF, 0x0, 0x0, 0x0, 0x70000034⟩

/-- WAKE_ALARM_HI (R463, 15_power_clocks_startup.md): VALUE [15:0] RWL. -/
def wakeAlarmHi : RegRow := ⟨0x70000110, 0x0, 1, 0x0, 1, 0x0, 0xFFFF, 0x0, 0x0, 0x0, 0x70000034⟩

/-- WAKE_STAT (R463, 15_power_clocks_startup.md): SRC [2:0] RO. -/
def wakeStat : RegRow := ⟨0x70000114, 0x0, 1, 0x0, 1, 0x0, 0x0, 0x0, 0x0, 0x0, 0x0⟩

/-- SCRIBE (R463, 15_power_clocks_startup.md): RECORD [20:0] RO. -/
def scribe : RegRow := ⟨0x70000118, 0x0, 1, 0x0, 1, 0x0, 0x0, 0x0, 0x0, 0x0, 0x0⟩

/-- SCRIBE_CFG (R463, 15_power_clocks_startup.md): DIFF [0] RWL; EDGE [1] RWL; PHASE [2] RWL; PHPOL [3] RWL. -/
def scribeCfg : RegRow := ⟨0x7000011C, 0x0, 1, 0x0, 1, 0x0, 0xF, 0x0, 0x0, 0x0, 0x70000034⟩

/-- TRC_STAT (R294, 09_trace_memory.md): INIT [0] RO; INITMB [13:1] RO. -/
def trcStat : RegRow := ⟨0x70004000, 0x0, 1, 0x0, 1, 0x0, 0x0, 0x0, 0x0, 0x0, 0x0⟩

/-- TRC_SCRUB (R294, 09_trace_memory.md): IV [7:0] RWL. -/
def trcScrub : RegRow := ⟨0x70004004, 0x0, 1, 0x0, 1, 0x0, 0xFF, 0x0, 0x0, 0x8, 0x70004010⟩

/-- TRC_ECC (R294, 09_trace_memory.md): CE [15:0] RW; UE [31:16] RW. -/
def trcEcc : RegRow := ⟨0x70004008, 0x0, 1, 0x0, 1, 0xFFFFFFFF, 0x0, 0x0, 0x0, 0x0, 0x0⟩

/-- TRC_EADDR (R294, 09_trace_memory.md): WORD [28:0] RO. -/
def trcEaddr : RegRow := ⟨0x7000400C, 0x0, 1, 0x0, 1, 0x0, 0x0, 0x0, 0x0, 0x0, 0x0⟩

/-- TRC_LOCK (R294, 09_trace_memory.md): LOCK [0] W1S. -/
def trcLock : RegRow := ⟨0x70004010, 0x0, 1, 0x0, 1, 0x0, 0x0, 0x0, 0x1, 0x0, 0x0⟩

/-- TRCr_BASE (R294, 09_trace_memory.md): BASE [11:0] RWL. -/
def ringBase : RegRow := ⟨0x70004040, 0x20, 3, 0x0, 1, 0x0, 0xFFF, 0x0, 0x0, 0x0, 0x70004010⟩

/-- TRCr_CFG (R294, 09_trace_memory.md): EN [0] RW; SIZE [10:1] RWL; MODE [11] RWL; FZF [12] RWL; POST [31:16] RWL. -/
def ringCfg : RegRow := ⟨0x70004044, 0x20, 3, 0x0, 1, 0x1, 0xFFFF1FFE, 0x0, 0x0, 0x7FE, 0x70004010⟩

/-- TRCr_WP (R294, 09_trace_memory.md): WP [23:0] RO. -/
def ringWp : RegRow := ⟨0x70004048, 0x20, 3, 0x0, 1, 0x0, 0x0, 0x0, 0x0, 0x0, 0x0⟩

/-- TRCr_SEQ (R294, 09_trace_memory.md): SEQ [23:0] RO. -/
def ringSeq : RegRow := ⟨0x7000404C, 0x20, 3, 0x0, 1, 0x0, 0x0, 0x0, 0x0, 0x0, 0x0⟩

/-- TRCr_RP (R294, 09_trace_memory.md): RP [23:0] RW. -/
def ringRp : RegRow := ⟨0x70004050, 0x20, 3, 0x0, 1, 0xFFFFFF, 0x0, 0x0, 0x0, 0x0, 0x0⟩

/-- TRCr_STAT (R294, 09_trace_memory.md): FULL [0] RO; FROZEN [1] RO; WRAP [2] RO; POSTRUN [3] RO; DROP [31:16] RW. -/
def ringStat : RegRow := ⟨0x70004054, 0x20, 3, 0x0, 1, 0xFFFF0000, 0x0, 0x0, 0x0, 0x0, 0x0⟩

/-- TRCr_CMD (R294, 09_trace_memory.md): FREEZE [0] WO; RESUME [1] WO. -/
def ringCmd : RegRow := ⟨0x70004058, 0x20, 3, 0x0, 1, 0x0, 0x0, 0x0, 0x0, 0x0, 0x0⟩

/-- HOST_CFG (R396, 13_host_and_maintenance_ports.md): HPOL [0] RWL; HOD [1] RWL; FCLS [3:2] RWL. -/
def hostCfg : RegRow := ⟨0x70005000, 0x0, 1, 0x0, 1, 0x0, 0xF, 0x0, 0x0, 0x6, 0x7000501C⟩

/-- HOST_STAT (R396, 13_host_and_maintenance_ports.md): STCHG [0] W1C; FABCHG [1] W1C; CLUCHG [2] W1C. -/
def hostStat : RegRow := ⟨0x70005004, 0x0, 1, 0x0, 1, 0x0, 0x0, 0x7, 0x0, 0x0, 0x0⟩

/-- HINT_PEND (R396, 13_host_and_maintenance_ports.md): PEND [9:0] RO. -/
def hintPend : RegRow := ⟨0x70005008, 0x0, 1, 0x0, 1, 0x0, 0x0, 0x0, 0x0, 0x0, 0x0⟩

/-- HINT0_EN (R396, 13_host_and_maintenance_ports.md): EN [9:0] RW. -/
def hint0En : RegRow := ⟨0x7000500C, 0x0, 1, 0x0, 1, 0x3FF, 0x0, 0x0, 0x0, 0x1, 0x0⟩

/-- HINT1_EN (R396, 13_host_and_maintenance_ports.md): EN [9:0] RW. -/
def hint1En : RegRow := ⟨0x70005010, 0x0, 1, 0x0, 1, 0x3FF, 0x0, 0x0, 0x0, 0x0, 0x0⟩

/-- HINT_JIG (R396, 13_host_and_maintenance_ports.md): MASK [15:0] RW. -/
def hintJig : RegRow := ⟨0x70005014, 0x0, 1, 0x0, 1, 0xFFFF, 0x0, 0x0, 0x0, 0x0, 0x0⟩

/-- HOST_CNT (R396, 13_host_and_maintenance_ports.md): CRCERR [15:0] RW; ABORT [31:16] RW. -/
def hostCnt : RegRow := ⟨0x70005018, 0x0, 1, 0x0, 1, 0xFFFFFFFF, 0x0, 0x0, 0x0, 0x0, 0x0⟩

/-- HOST_LOCK (R396, 13_host_and_maintenance_ports.md): LOCK [0] W1S. -/
def hostLock : RegRow := ⟨0x7000501C, 0x0, 1, 0x0, 1, 0x0, 0x0, 0x0, 0x1, 0x0, 0x0⟩

/-- MNT_CFG (R410, 13_host_and_maintenance_ports.md): IREN [0] RWL; IWEN [1] RWL. -/
def mntCfg : RegRow := ⟨0x70005100, 0x0, 1, 0x0, 1, 0x0, 0x3, 0x0, 0x0, 0x3, 0x7000501C⟩

/-- MNT_STAT (R410, 13_host_and_maintenance_ports.md): ADDR [2:0] RO; ABANDON [15:8] RW; ARA [31:16] RW. -/
def mntStat : RegRow := ⟨0x70005104, 0x0, 1, 0x0, 1, 0xFFFFFF00, 0x0, 0x0, 0x0, 0x0, 0x0⟩

end Reg

/-- Rows of the register map, part 0. -/
def regRows0 : List RegRow := [Reg.whlxCfg, Reg.whlxPatcfg, Reg.whlxDir, Reg.whlxPer, Reg.auxCfg, Reg.auxPer, Reg.auxCnt, Reg.whlSyncCfg, Reg.whlThr, Reg.whl0Zero, Reg.whlStop, Reg.whlLock, Reg.whlCmd, Reg.whlSyncStat, Reg.whlEvt, Reg.whlCnt, Reg.prdCfg, Reg.prdLrn, Reg.prdMapCtl, Reg.prdMass, Reg.prdStat, Reg.prdLock, Reg.prdAng, Reg.prdRate, Reg.prdAcc, Reg.prdTsLo, Reg.prdTsHi, Reg.prdQ, Reg.prdQfr, Reg.prdCnt, Reg.whlxPat, Reg.toothmap, Reg.ripCfg, Reg.ripGain, Reg.shape, Reg.cluRole, Reg.cluStat, Reg.cluCueEn, Reg.cluCuePend, Reg.cluCueCnt, Reg.cluBudget, Reg.cluDoorbell, Reg.cluExc, Reg.cluEaddr, Reg.cluLock, Reg.acCfg, Reg.pegStat, Reg.pegAimLo, Reg.pegAimHi, Reg.schedStat, Reg.schedCnt, Reg.schedFired, Reg.dwsetTime, Reg.dwsetLim, Reg.dwsetCtl, Reg.dwsetLock, Reg.edgStat, Reg.drvStat, Reg.drvLock, Reg.chanOwner]

/-- Rows of the register map, part 1. -/
def regRows1 : List RegRow := [Reg.ignOwner, Reg.chCfg, Reg.chDuty, Reg.chStat, Reg.chSel, Reg.chCls, Reg.chAcc, Reg.chDiag, Reg.chCnt, Reg.psCur0, Reg.psCur1, Reg.psTboost, Reg.psTpeak, Reg.psTbyp, Reg.psTmax, Reg.psTrcv, Reg.psMode, Reg.psCls0, Reg.psCls1, Reg.psCls2, Reg.bnkKerf, Reg.bnkDiag, Reg.bnkStat, Reg.bnkCnt, Reg.bstCfg, Reg.bstCtl, Reg.bstWait, Reg.bstStat, Reg.ignCfg, Reg.ignStat, Reg.ignDiag, Reg.measOwner, Reg.measLock, Reg.modCfg, Reg.modCmd, Reg.modStat, Reg.modUrg, Reg.modRes, Reg.modRsq, Reg.modRts, Reg.modTrg, Reg.seq, Reg.pairCfg, Reg.pairChk, Reg.pairStat, Reg.atrgCfg, Reg.winCfg, Reg.winTdc, Reg.winPeg, Reg.winPref, Reg.winMot, Reg.winKnk, Reg.winHr, Reg.winMis, Reg.winStat, Reg.fig, Reg.vt, Reg.gpCfg, Reg.gpLo, Reg.gpHi]

/-- Rows of the register map, part 2. -/
def regRows2 : List RegRow := [Reg.gpHys, Reg.gpStat, Reg.jigCfg, Reg.jigDiv, Reg.jigCtl, Reg.jigStat, Reg.jigTxf, Reg.jigRxf, Reg.jigEvt, Reg.jigCnt, Reg.jigX, Reg.jigY, Reg.jigZ, Reg.jigC, Reg.jigLostb, Reg.jpCfg, Reg.jigCmd, Reg.jigOwner, Reg.jigLock, Reg.jigProg, Reg.tmrCfg, Reg.tmrCmp, Reg.tmrCmpv, Reg.tmrCnt, Reg.tmrCap, Reg.tmrCapcfg, Reg.tmrStat, Reg.tmrEven, Reg.tmrSnap, Reg.tmrCapall, Reg.tmrOwner, Reg.tmrLock, Reg.sealCtl, Reg.sealStat, Reg.sealEpoch, Reg.sealRcnt, Reg.sealKcv, Reg.sealNonce, Reg.sealKeyw, Reg.sealBurn, Reg.sealxCfg, Reg.sealxMask, Reg.sealxLo, Reg.sealxHi, Reg.sealxAdd, Reg.sealReport, Reg.fabCfg, Reg.fabTime, Reg.fabAngcfg, Reg.fabLock, Reg.fabCmd, Reg.fabId, Reg.fabStat, Reg.fabMemb, Reg.fabDofs, Reg.fabSysLo, Reg.fabSysHi, Reg.fabTerr, Reg.fabCnt, Reg.fabPortStat]

/-- Rows of the register map, part 3. -/
def regRows3 : List RegRow := [Reg.fabPortDly, Reg.fabPortErr, Reg.fabPortCode, Reg.fltStat, Reg.fltHeadLo, Reg.fltHeadHi, Reg.fltHeadTs, Reg.fltCtl, Reg.fltAck, Reg.fltShot, Reg.fltShotstat, Reg.fltCnt01, Reg.fltCnt23, Reg.fltLastLo, Reg.fltLastHi, Reg.fltLock, Reg.bistCfg, Reg.bistStat, Reg.bistDone, Reg.bistCnt, Reg.fiCtl, Reg.fiSrc, Reg.fiAddr, Reg.fiMsgLo, Reg.fiMsgHi, Reg.bistCmd, Reg.devIdent0, Reg.devIdent1, Reg.devIdent2, Reg.sysState, Reg.sysCmd, Reg.sysSt, Reg.sysGate, Reg.linkRetry, Reg.sysSup, Reg.clkStat, Reg.sysLock, Reg.slowLo, Reg.slowHi, Reg.wakeCfg, Reg.wakeAlarmLo, Reg.wakeAlarmHi, Reg.wakeStat, Reg.scribe, Reg.scribeCfg, Reg.trcStat, Reg.trcScrub, Reg.trcEcc, Reg.trcEaddr, Reg.trcLock, Reg.ringBase, Reg.ringCfg, Reg.ringWp, Reg.ringSeq, Reg.ringRp, Reg.ringStat, Reg.ringCmd, Reg.hostCfg, Reg.hostStat, Reg.hintPend]

/-- Rows of the register map, part 4. -/
def regRows4 : List RegRow := [Reg.hint0En, Reg.hint1En, Reg.hintJig, Reg.hostCnt, Reg.hostLock, Reg.mntCfg, Reg.mntStat]

/-- Every row of the register map. -/
def regRows : List RegRow := regRows0 ++ regRows1 ++ regRows2 ++ regRows3 ++ regRows4

/-- The row and element of a host address; none where no register stands (R46). -/
def findReg (a : Nat) : Option (RegRow × Nat × Nat) :=
  regRows.findSome? fun r => (r.find a).map fun ij => (r, ij.1, ij.2)

/-- The word a register holds after reset: the row's, but for the rings, whose BASE and SIZE differ (R294). -/
def resetWord (r : RegRow) (i : Nat) : Word :=
  if r.base = Reg.ringBase.base then wordN (match i with | 0 => 0x000 | 1 => 0x400 | _ => 0x800)
  else if r.base = Reg.ringCfg.base then wordN (if i = 2 then 0x03F * 2 else 0x3FF * 2)
  else wordN r.rst

/-- The lock register that covers element i of a row; CLU_LOCK is one per cluster (R177). -/
def lockAddr (r : RegRow) (i : Nat) : Nat :=
  if r.base = Reg.cluBudget.base then r.lock + r.s1 * i else r.lock

/-- The registers of the always-on domain, which keep their words through STANDBY (R456, R463, R334). -/
def alwaysOnReg (a : Nat) : Bool :=
  (0x70000100 ≤ a && a < 0x70000200) || (0x41000900 ≤ a && a < 0x41000B00)

end Sys2Proof.Machine
end

