-- ==== Sys2Proof/Machine/State.lean ====
section
/-! DEFINITION. The state of the package as plain data, with the reasons a command can stop and the state after reset.
Times are in TCLK (4 ns) unless a field says vernier steps (1/16 TCLK) or DCLK (4 TCLK). -/

namespace Sys2Proof.Machine

/-! ### Faults, links, power, the always-on domain (chapters Architecture, Faults, Power) -/

/-- A fault message of R411 with its emission TCLK and the TCLK at which it can be accepted (R21, R416). -/
structure Msg where
  cls : Nat
  kind : Nat
  src : Nat              -- SOURCE, 12 bits
  ctx : Word
  at_ : Nat
  ready : Nat
  ddl : Bool             -- still waits for its DDL transfer
  deriving DecidableEq, Repr

/-- An entry of the collector FIFO (R417): message, SEQ and acceptance TCLK. -/
structure Entry where
  msg : Msg
  seq : Nat
  ts : Nat
  deriving DecidableEq, Repr

/-- The write of FLT_CTL that waits for the driver die's answer, with the rest of its burst (R389, R423). -/
structure RelWait where
  port : Bool            -- the maintenance port wrote it
  a : Nat                -- address and step of the burst
  step : Nat
  link : Option Nat
  whole : Bool
  rest : List Word       -- words still to be written
  k : Nat                -- index of the waiting word
  deriving DecidableEq, Repr

/-- The status codes of an access (R388); waiting: it is not complete yet. -/
inductive Status where
  | ok | badcmd | addrerr | owner | busy | linkerr | dataerr | denied | crcerr | waiting
  deriving DecidableEq, Repr

/-- The acceptance made last: its SVCLK, the FIFO before it, and whether its message counted in OVF (R416 to R418). -/
structure AccRec where
  at_ : Nat
  before : List Entry
  lost : Bool
  deriving DecidableEq, Repr

/-- The fault collector (R415 to R425). -/
structure Collector where
  outbox : List Msg      -- ordinary places of every source, in emission order
  kept : List Msg        -- kept slots, at most one per source
  fifo : List Entry      -- oldest first, at most 64
  seq : Nat
  lastMsg : Option Entry
  last2 : Nat
  shot : Option Nat      -- TCLK at which the running shot clock began (R420)
  shotBy : Nat           -- SEQ of the message that started it
  safe : Bool
  cSC : Bool
  cHost : Bool
  cDrv : Bool
  cGrave : Bool
  cState : Bool
  lineA : Bool           -- safe lines, true: asserted
  lineB : Bool
  relPend : Bool         -- a RELEASE waits for the driver die's answer
  relWait : Option RelWait   -- the write that waits for that answer
  relDone : Option Status    -- the status with which it ends
  safeLineSeen : Bool    -- a SAFE_LINE message was accepted since power-on reset
  lastAcc : Option AccRec    -- the acceptance made last
  acked : Option (Nat × Nat × Nat)   -- SVCLK of the FLT_ACK that stopped the shot clock, with its start and shotBy (R420)
  entered : Option (Nat × Bool)      -- SVCLK of the last cause of entry, and whether the package was safe before it (R423)
  deriving DecidableEq, Repr

/-- A claim on a unit (R29): its TCLK, the address of the unit's owner register, the owner before, and whose it is: 0 the fault
collector's, 1 the BIST controller's, 2 a takeover's, 3 the host port's, 4 the maintenance port's. -/
structure Claim where
  at_ : Nat
  reg : Nat
  before : Nat
  rank : Nat
  deriving DecidableEq, Repr

/-- A closing record (R241). -/
structure CloseRec where
  ch : Fin 32
  seq : Nat
  owner : Nat
  time : Nat
  det : Bool
  deriving DecidableEq, Repr

/-- The transfers of the DDL (R18, R217, R423, R144). -/
inductive Xfer where
  | heartbeat
  | select (ch : Fin 32) (set seq owner : Nat)
  | selack (ch : Fin 32) (seq : Nat) (ok : Bool)
  | refuse (ch : Fin 32) (seq owner : Nat)
  | holdend (ch : Fin 32)
  | closerec (r : CloseRec)
  | softoff (n : Fin 24)
  | softval (n : Fin 24) (us seq : Nat)   -- SOFT for the dwell of the peg with this SEQ
  | softdone (n : Fin 24)
  | release
  | relAnswer (left : Bool)
  | message (m : Msg)
  | sealInc (n : Fin 16) (inc : Nat)
  | signature (slot : List Nat)           -- a captured slot of the signature ring (R16, R291)
  deriving DecidableEq, Repr

/-- The two die links (R37, R38). -/
structure Links where
  ddl : List Xfer        -- waiting transfers of both directions, oldest first
  ddlTries : Nat         -- failed retries of the head
  arrived : List Xfer    -- delivered, waiting for the receiver's step
  quietUntil : Nat       -- DDL suppressed by injection 6h until this TCLK
  lastGood : Option Nat  -- TCLK of the last valid DDL frame
  mdlTries : Nat
  mdlHead : Option (Option (Fin 3))   -- the MDL transfer that is being retried: a ring's write, or none for a scrub read
  deriving DecidableEq, Repr

/-- The device states of R449. -/
inductive DState where
  | off | selftest | sidelines | ready | run | standby | lockout
  deriving DecidableEq, Repr

/-- Supplies, clocks, self-test and gating (chapter Power). -/
structure Sys where
  st : DState
  vmain : Bool
  vbkup : Bool
  vio : Vector Bool 4
  vbat : Bool
  por : Bool             -- power-on reset asserted
  nid : Nat              -- straps NID4 to NID0
  ma : Nat               -- straps MA2 to MA0
  testPin : Bool         -- TESTMODE ball
  pll : Bool             -- the PLL runs, so TCLK runs
  lockd : Bool           -- its lock detector (CLK_STAT.PLLLOCK)
  refok : Bool
  referr : Int
  stBits : Nat           -- SYS_ST [15:0]
  stDone : Bool
  stWake : Bool
  wakeRun : Bool         -- the running self-test is a wake self-test
  measRdy : Bool
  stbyDone : Bool        -- STANDBY entry complete
  wakeLatch : List Nat   -- wake events latched, by source code
  cmdAt : Option Nat     -- SVCLK in which the host port's last command of R451 was taken
  cmdMnt : Option (Nat × DState)   -- SVCLK of the maintenance port's last RUN or READY taken, and the state before it (R451)
  stEndAt : Option Nat   -- SVCLK in which a self-test last ended (R451)
  deriving DecidableEq, Repr

/-- The scribe record of R459. -/
structure Scribe where
  nextpos : Nat
  half : Bool
  dirk : Bool
  valid : Bool
  edges : Nat
  deriving DecidableEq, Repr

/-- One sealed counter (R334 to R336). -/
structure SealCnt where
  count : BitVec 64
  broken : Bool
  sat : Bool
  loss : Bool
  gathered : Nat         -- increments waiting for the next SCLK edge
  deriving DecidableEq, Repr

/-- A timer's words in the retention store (R330). -/
structure TmrKeep where
  cnt : Word
  cmpv : Word
  armed : Bool
  regs : List (Nat × Word)
  deriving DecidableEq, Repr

/-- The always-on domain (R456, R463, R334). -/
structure AlwaysOn where
  slow : Nat             -- 48-bit slow counter
  slowPrev : Nat         -- its value before its last edge, which the other regions see for 3 TCLK more (R21)
  acc : Nat              -- TCLK phase of SCLK, in 1/2048 of 15,625,000
  scribe : Scribe
  scribeNext : Option Scribe   -- a scribe-record update on its way to the next SCLK edge (R21)
  scribeSeen : Scribe    -- the copy of the record that the other regions read, refreshed at every SCLK edge (R21, R463)
  scribePrev : Scribe    -- that copy before the last edge, which they see for 3 TCLK more (R21)
  counting : Bool        -- the wake logic counts WHL0 edges (R461)
  src : Nat              -- WAKE_STAT.SRC
  alarmLo : Word         -- staged WAKE_ALARM_LO
  staged : List (Nat × Word)  -- always-on writes waiting for the next SCLK edge
  seals : Vector SealCnt 16
  rcnt : Word
  kept : List TmrKeep    -- timer retention store
  keptS0 : Nat
  lost : Bool            -- the contents were lost since the last power-up
  deriving DecidableEq, Repr

/-- One-time-programmable contents (R5, R337, R338). -/
structure Otp where
  keyset : Bool
  key : List Word
  epoch : Nat
  epexh : Bool
  fused : Bool
  deriving DecidableEq, Repr

/-- The sealed bank's service-region side: report buffer and key entry (R338 to R341). -/
structure SealSvc where
  busy : Bool
  rdy : Bool
  nokey : Bool
  keyw : Vector Word 8
  kcv : Word             -- SEAL_KCV
  snap : List Word       -- report words being built
  buf : List Word        -- report buffer
  deriving DecidableEq, Repr

/-! ### Wheels, sync and the spline predictor (chapters Wheel Inputs and The Spline Predictor) -/

/-- The sync states of R63. -/
inductive Sync where
  | nosync | provisional | tooth | full
  deriving DecidableEq, Repr

/-- A wheel-class input: the time of its last qualified active edge, its period and its decoded direction (R50, R55). -/
structure WheelIn where
  last : Option Nat      -- TCLK of the last qualified active edge
  per : Nat              -- PERIOD
  val : Bool             -- VAL
  dir : Bool             -- DIR, true: reverse
  cnt : Word             -- COUNT of an AUX input
  level : Bool           -- qualified level (phase channel, R53)
  deriving DecidableEq, Repr

/-- The first bad tooth within its BADWIN (R71). -/
structure Bad where
  dowel : Bool
  left : Nat             -- accepted teeth still needed to clear it
  deriving DecidableEq, Repr

/-- The matcher of R65: candidate positions, ratios since the restart, and the newest period. -/
structure Matcher where
  cands : List Nat
  ratios : Nat
  per : Option Nat       -- newest period in TCLK, in the present direction
  prev : Option Nat      -- the period before it
  rev : Bool
  deriving DecidableEq, Repr

/-- The wheel logic (R63 to R86). -/
structure Wheels where
  whl : Vector WheelIn 3
  aux : Vector WheelIn 2
  sync : Sync
  rev : Bool
  ratev : Bool
  pos : Nat
  half : Bool
  bad : Option Bad
  susp : Option Nat      -- timestamp of the pending suspect
  phscr : Bool
  coast : Bool
  coastPos : Nat         -- the tracked position; out of coast, that of the last accepted tooth (R77)
  coastRev : Bool        -- direction of its edge
  coastHalf : Bool
  coastDirk : Bool       -- every edge that led there had a decoded direction (R81)
  fuelSup : Bool
  fwd : Nat              -- consecutive forward teeth since REV cleared
  camMis : Nat           -- consecutive cam mismatches
  validAt : Nat          -- TCLK from which ANG_NOW has been valid (R165)
  gone : List (Nat × Nat) -- ANG_NOW by TCLK in the last 4 TCLK before it became invalid (R21)
  firstAfterWake : Bool  -- the first edge after a wake has not been taken
  provEdges : Nat        -- edges taken since PROVISIONAL began (R84)
  provAng : Option Int   -- the angle up to which pegs kept out in PROVISIONAL have been skipped (R86), 1/256 at
  tooth : Nat            -- instant of the last accepted or dowel tooth, vernier steps (R68)
  dprev : Nat            -- the period that ended there, 0 where there is none (R73)
  m : Matcher
  deriving DecidableEq, Repr

/-- A model segment of R91 with Q: θ in 1/256 at, t in vernier steps, ω and α̂ exact (log entry 12). -/
structure Seg where
  θ : Int
  t : Nat
  ω : Rat
  α : Rat
  q : Nat                -- Q in vernier steps
  qsat : Bool
  p1 : Int               -- learned pitch to the next present position, 1/256 at
  rev : Bool
  deriving DecidableEq, Repr

/-- One pitch of the revolution being learned (R103). -/
structure LearnPitch where
  pos : Nat
  p : Int                -- learned pitch, 1/256 at
  d : Nat                -- duration in vernier steps
  deriving DecidableEq, Repr

/-- How many teeth the predictor holds (R95). -/
inductive PrdStage where
  | none | first | second | running
  deriving DecidableEq, Repr

/-- A hold of ANG_NOW (R93): the angle held, in 1/256 at, and the run since the tooth, in 1/256 at, at which the model reaches it. -/
structure Hold where
  ang : Int
  reach : Int
  deriving DecidableEq, Repr

/-- The published and hidden state of the predictors (R89 to R110). -/
structure Predictor where
  stage : PrdStage
  lastT : Nat            -- timestamp of the last real tooth, vernier steps
  lastθ : Option Int     -- its angle, 1/256 at; none where positions are unknown
  run : Int              -- pitches crossed forward, less those in reverse, 1/256 at (R166)
  lastW : Rat            -- w of the last real pitch
  lastD : Nat            -- duration of the last real pitch, vernier steps
  a : Rat                -- a_k
  seg : Option Seg
  old : Option Seg       -- the segment in force until pub
  oldHeld : Option Hold
  pub : Nat              -- publication TCLK of seg
  held : Option Hold     -- ANG_NOW is held until the model reaches the angle held (R93)
  rate : Nat             -- RATE published in NOSYNC (R96), UQ4.28
  abar : Rat
  act : Bool             -- false A, true B
  chkon : Bool
  retA : Bool
  retB : Bool
  retN : Vector Nat 2    -- times each instance has been retired
  overPassed : Bool      -- a retired or tested instance awaits its reload
  exchange : Bool        -- an innings completed: roles exchange at the next accepted tooth
  noInst : Bool          -- no instance is active (R108)
  noLearn : Nat          -- after PRED_DISAGREE: 2 a clean revolution is owed, 1 it is in progress, 0 none (R108)
  learnOk : Bool
  learn : List LearnPitch
  learnOpen : Bool       -- a gap-end tooth at position 0 opened the revolution being learned (R102)
  heldRegs : List (Nat × Word)   -- words as the model still reads them, until the next accepted tooth (R105, R115)
  shadow : Option (List (Nat × Word))   -- map words built by R104
  shadowDone : Bool
  deriving DecidableEq, Repr

/-! ### Pegs, works and clusters (chapters Pegs, Walend Programming Model) -/

/-- The slot states of R122. -/
inductive PegState where
  | free | armed | aimed | committed | driven | waiting | dwelling | softoff
  deriving DecidableEq, Repr

/-- The values of a dwell set that a COIL peg uses, in µs (R146). -/
structure DwellSet where
  dwell : Nat
  soft : Nat
  dmin : Nat
  dmax : Nat
  maxAct : Bool
  deriving DecidableEq, Repr

/-- One slot: the descriptor of R116 with its state, instant and outcome (R122, R151). -/
structure Peg where
  angle : Nat
  kind : Nat
  profile : Nat
  target : Nat
  latetol : Nat
  flags : Nat
  tofs : Int
  owner : Nat
  seq : Nat
  resBad : Bool          -- the stored RES no longer fits (R116, fault injection)
  mirBad : Bool          -- the mirror entry's own residue no longer fits (R147)
  st : PegState
  inst : Option Nat      -- fire instant, vernier steps
  ideal : Nat            -- ideal instant, vernier steps
  late : Option Nat      -- L when judged late
  base : Option Nat      -- a relative peg's base instant, vernier steps
  tD : Option Nat        -- dwell start of a coil
  spark : Bool           -- the commit in force is a spark
  mute : Nat             -- no line action: 1 suppressed (R79), 2 target held (R422), 3 SELECT not accepted (R225), 4 OFF to an inactive line (R140)
  early : Bool           -- spark made at DMAX (R143)
  reason : Nat           -- COIL_SOFTOFF reason
  last : Nat             -- PEG_STAT.LAST
  lateAmt : Nat          -- PEG_STAT.LATEAMT
  freedAt : Option Nat   -- TCLK of the release; free from the next TCLK (R121)
  dws : DwellSet         -- a coil's dwell values, as its last pass or its ARM read them (R146)
  armAngle : Nat         -- ANGLE as armed (R291)
  armTofs : Int          -- TOFS as armed (R291)
  deriving DecidableEq, Repr

/-- One cue occurrence with its arguments and stamp (R162, R163). -/
structure CueOcc where
  cue : Nat
  g14 : Word
  g12 : Word
  stamp : Nat
  ready : Nat            -- TCLK at which the cue reaches the cluster (R21)
  pay : List Word
  deriving DecidableEq, Repr

/-- An angle cue comparator (R165, R166). -/
structure Comp where
  angle : Nat
  arm : Bool
  rpt : Bool
  prov : Bool
  waiting : Bool         -- fired with REPEAT, waiting to be armed again
  since : Nat            -- TCLK of the SETAC; its setting counts from the next one (R166)
  fired : Int            -- travel of the crank at the fire that it waits after, 1/256 at (R166)
  was : Option (Nat × Bool)   -- ANGLE and PROV of the armed setting that it replaced
  deriving DecidableEq, Repr

/-- A stroke-program load with its peg-mirror section (R147, R175). -/
structure Work where
  slots : Vector Peg 32
  seq : Nat
  ovf : Bool
  cueEn : BitVec 27
  cues : List CueOcc
  comps : Vector Comp 16
  runLog : List Nat
  armed : List Nat       -- SEQ of the pegs armed in the present run (R175)
  ovfClr : Option Nat    -- TCLK in which a host write cleared a set OVF (R201)
  held : Bool            -- CORE_HALT holds the work's targets (R173)
  lost : Bool            -- no cluster carries it after SPARE_OUT or WORK_LOST
  deriving DecidableEq, Repr

/-- The roles of R22's table. -/
inductive Role where
  | stopped | active | spare | carrying | testing | unusable
  deriving DecidableEq, Repr

/-- A handler run (R164 to R169). -/
structure Run where
  cue : CueOcc
  redo : Bool
  exc : Bool             -- the exception handler
  start : Nat            -- TCLK in which its first instruction begins (R164)
  spent : Nat            -- TCLK since its first instruction
  deriving DecidableEq, Repr

/-- A cluster's core and its place in sparing (R154, R173, R174, R433). -/
structure Cluster where
  role : Role
  work : Option (Fin 9)
  g : Vector Word 16
  a : Vector (BitVec 24) 8
  z : Bool
  n : Bool
  c : Bool
  v : Bool
  w : Bool
  pc : Nat
  run : Option Run
  halt : Bool
  dones : Nat
  cause : Nat
  epc : Nat
  eaddr : Word
  stopReq : Bool
  redoCue : Option Run   -- a cut run's cue to be redelivered
  idleAt : Nat           -- TCLK of the last DONE (R164)
  cueEn : BitVec 27      -- CLU_CUE_EN while the cluster carries no work (R177)
  deriving DecidableEq, Repr

/-- A role command of the maintenance port: its TCLK, cluster and ROLE, and the cluster and its work as they stood before (R392). -/
structure RoleRec where
  at_ : Nat
  c : Fin 9
  code : Nat
  clu : Cluster
  work : Work
  deriving DecidableEq, Repr

/-- Where a takeover stands (R148). -/
inductive TakeStage where
  | loading | pass
  deriving DecidableEq, Repr

/-- A takeover in progress: the work, its taker, the failing TCLK and the run it cut. -/
structure Takeover where
  work : Fin 9
  taker : Fin 9
  t0 : Nat
  stage : TakeStage
  cut : Option Run
  wasTesting : Bool
  he : Option Int        -- HE_old of the first pass that it missed: the horizon end at t0, or the tooth of a later opening
  deriving DecidableEq, Repr

/-- What last happened to a channel's SELECT (R225). -/
inductive SelAck where
  | none | ok (seq : Nat) | bad (seq : Nat)
  deriving DecidableEq, Repr

/-- A SELECT: set, SEQ and OWNER of the next ON peg (R217, R224). -/
structure Sel where
  set : Nat
  seq : Nat
  owner : Nat
  deriving DecidableEq, Repr

/-- A start whose closing record is outstanding (R241). -/
structure Due where
  seq : Nat
  owner : Nat
  work : Fin 9
  at_ : Nat              -- instant of the start, vernier steps
  deriving DecidableEq, Repr

/-- The edge generator's part of a solenoid channel. -/
structure EdgeCh where
  owner : Nat
  line : Bool            -- the level commanded
  dip : Option Nat       -- TCLK at which the low of a restart began on it; it lasts 4 TCLK (R140)
  lastCmd : Option Nat   -- instant of the last command on the line
  fire : Option Nat      -- instant of the ON command that began the running shot (R136)
  sel : Option Sel       -- last SELECT sent
  ack : SelAck
  due : List Due         -- starts whose closing record is outstanding, oldest first
  prov : Bool            -- the running shot was started by a provisional peg (R85)
  deriving DecidableEq, Repr

/-- The edge generator's part of an ignition output. -/
structure EdgeIgn where
  owner : Nat
  line : Bool
  lastCmd : Option Nat
  barUntil : Nat         -- no new dwell before this TCLK (R144)
  softBy : Option Nat    -- TCLK by which the line falls without a report (R422)
  deriving DecidableEq, Repr

/-- The edge generator (R16, R17, R138 to R145). -/
structure EdgeGen where
  ch : Vector EdgeCh 32
  ign : Vector EdgeIgn 24
  calok : Bool
  heOld : Option Int     -- horizon end HE, 1/256 at; none: closed (R124, R125)
  reopen : Bool          -- the first pass in FULL, which sets HE_old to its tooth, is still to come (R125)
  deriving DecidableEq, Repr

/-! ### The driver die (chapter Actuator Drive) -/

/-- A profile set as copied into a channel at the shot start (R226, R227). -/
structure ProfileSet where
  iboost : Nat
  ipeak : Nat
  ihold : Nat
  iphys : Nat
  ihhys : Nat
  izero : Nat
  tboost : Nat
  tpeak : Nat
  tbyp : Nat
  tmax : Nat
  trcv : Nat
  bypfast : Bool
  batfb : Bool
  pol : Bool
  tblank : Nat
  tchopmin : Nat
  cstart : Nat
  cend : Nat
  cthr : Nat
  deriving DecidableEq, Repr

/-- The phases of a running shot (R219). -/
inductive Phase where
  | boost | peak | bypass | hold | recovery
  deriving DecidableEq, Repr

/-- A running shot. Times are in DCLK. -/
structure Shot where
  phase : Phase
  idx : Nat              -- set number
  set : ProfileSet
  seq : Nat
  owner : Nat
  rst : Bool             -- it began with a restart (R291)
  onAt : Nat             -- instant at which the switches of BOOST turned on, vernier steps (R220)
  start : Nat            -- shot start
  peakEnd : Nat
  driveEnd : Nat
  batt : Bool            -- BOOST from the battery rail
  watch : Bool           -- watch stage of RECOVERY
  claim : Bool           -- holds the capture converter in RECOVERY
  noRec : Bool           -- converter claim refused
  cut : Bool             -- the closing record is already out, or the edge generator delivers it (R234, R241)
  trunc : Bool           -- its drive capture was truncated (R239)
  sigs : Nat             -- SIG slots written for the shot
  swOn : Bool            -- the regulating switch is on
  blank : Nat            -- comparator ignored before this DCLK
  minEnd : Nat           -- earliest next switching
  deferred : Option Bool -- a switching that waits for minEnd
  accFrom : Nat          -- on-time counted up to this DCLK
  deriving DecidableEq, Repr

/-- A start that waits for its bank or its rail (R233, R235). -/
structure WaitStart where
  ch : Fin 4
  restart : Bool
  edge : Nat             -- DCLK of the start edge
  sel : Sel
  rail : Bool            -- granted, waits for the rail
  railFrom : Nat
  deriving DecidableEq, Repr

/-- The driver die's part of a solenoid channel. -/
structure DrvCh where
  shot : Option Shot
  sel : Option Sel       -- CHn_SEL
  flt : Bool
  clsTime : Nat
  clsDet : Bool
  buckets : List Nat     -- closed on-time buckets, newest first, at most 15
  open_ : Nat            -- on-time of the open bucket
  bucketAt : Nat         -- TCLK at which the open bucket began (R236)
  refMsg : Option Nat    -- TCLK of the last repeated refusal message
  startPend : Bool       -- the edge line rose; its start edge has not been taken
  offPend : Bool         -- the edge line fell; the OFF has not been taken
  deriving DecidableEq, Repr

/-- The capture converter of a bank (R238, R239). -/
structure Conv where
  ch : Option (Fin 4)
  recovery : Bool
  nextV : Bool           -- the next drive-phase sample is a voltage
  volt : List Int        -- voltage samples of the recovery, v_0 first
  held : List Nat        -- sample words not yet written to a SIG slot
  deriving DecidableEq, Repr

/-- A driver bank (R231 to R237). -/
structure Bank where
  lead : Option (Fin 4)
  released : Option Nat  -- DCLK of the last release of a lead
  waits : List WaitStart
  conv : Conv
  deriving DecidableEq, Repr

/-- A boost controller (R229, R230). -/
structure Boost where
  vrail : Nat            -- 0.1 V
  rdy : Bool
  ovp : Bool
  on : Bool
  toff : Option Nat      -- DCLK at which the fixed off-time ends
  deriving DecidableEq, Repr

/-- The driver die's part of an ignition output (R144, R242). -/
structure DrvIgn where
  gate : Bool
  soft : Option Nat      -- TCLK at which the soft-off ramp ends
  softUs : Nat           -- SOFT held for the output: that of the dwell begun last (R144)
  softNext : List (Nat × Nat)    -- SOFT and SEQ that arrived for dwells to come
  seq : Nat              -- SEQ of the COIL peg whose dwell began last
  owner : Nat            -- its OWNER
  dwellAt : Option Nat   -- TCLK of the dwell start, until IGFBn has been checked for it (R242)
  sparkAt : Option Nat   -- TCLK of the spark, until IGFBn has been checked for it
  deriving DecidableEq, Repr

/-- The driver die (R18, R214, R246). -/
structure Driver where
  safe : Bool
  ch : Vector DrvCh 32
  bank : Vector Bank 8
  bst : Vector Boost 2
  ign : Vector DrvIgn 24
  fresh : List (Nat × Nat × Word)   -- profile words written in a DCLK: the DCLK, the address and the word before (R226)
  deriving DecidableEq, Repr

/-! ### Combustion measurement and trace memory -/

/-- A decimated sample (R250, R251, R260) and the uninterrupted stream it belongs to (R263). -/
structure Sample where
  v : Int
  stamp : Nat
  valid : Bool
  good : Bool            -- valid but for CHKF, so that a check entry can pass again (R259)
  stream : Nat
  deriving DecidableEq, Repr

/-- What a latched or running request asks for (R256). -/
inductive Req where
  | urgent | pass
  deriving DecidableEq, Repr

/-- A modulator (R250 to R260). -/
structure Modulator where
  run : Bool             -- its sequence runs
  dec : Nat              -- DEC latched at START
  cont : Bool            -- CONT latched at START
  entry : Nat            -- current entry of the sequence
  word : Word            -- the entry as latched when it began
  skip : Nat             -- samples still to be discarded
  kept : List Sample     -- samples kept in the entry
  req : Option Req       -- a requested run in progress
  latch : Option Req
  broken : Option Nat    -- the sequence entry that the urgent entry interrupted
  ovlSent : Bool         -- MEAS_OVL emitted in this entry
  resBad : Bool          -- MEAS_RESIDUE: invalid until the next START
  chkf : Bool           -- its own check failed (R259)
  chkp : Bool           -- its VCHK result and its partner's disagree (R259)
  sat : Bool
  res : Int
  resCh : Nat
  rsq : Nat              -- results written; the sequence number is this modulo 65,536 (R269)
  rts : Nat
  vchk : Option Int      -- last VCHK result
  vchkOk : Bool
  hist : List Sample     -- last 64 samples of the stream, newest first
  stream : Nat
  stayDone : Bool        -- the stay entry has seen the end of its window (R254)
  deriving DecidableEq, Repr

/-- A checker pair (R258). -/
structure Pair where
  plf : Bool
  dis : Nat
  agr : Nat
  last : Option (Bool × Sample)  -- a sample held until its partner's with the same stamp is there; true: the odd modulator's
  since : Nat            -- stamp of the first of the consecutive disagreements
  deriving DecidableEq, Repr

/-- A resolved grid point (R263): its index from the window's first grid angle. -/
structure Point where
  k : Int
  v : Int
  valid : Bool
  deriving DecidableEq, Repr

/-- One opening of a measurement window, from its opening to its publication (R261 to R264, R266). -/
structure WinRun where
  cfg : Word             -- WINw_CFG and the words below, as latched at the opening
  tdc : Nat
  peg : Nat
  mot : Nat
  knk : Word
  hr : Nat
  mis : Word
  angle : Nat            -- ANGLE of the opening peg
  k0 : Int               -- grid index of the first point
  nextK : Int            -- next grid index to be placed
  endK : Option Int      -- last grid index, once the close is known
  placed : List (Int × Rat)   -- grid indices with their instants in TCLK, oldest first, not yet resolved
  lastT : Option Rat     -- instant placed last
  pts : List Point       -- resolved points, oldest first
  gridAt : Nat           -- points already written to the trace ring
  long : Bool
  fast : Bool
  aborted : Bool
  pref : Word            -- PREF as read at the close
  cyc : Nat
  openAt : Nat           -- TCLK of the opening
  deriving DecidableEq, Repr

/-- A measurement window (R261, R264, R269, R277). -/
structure Window where
  isOpen : Bool
  runs : List WinRun     -- openings not yet ended, oldest first; the last is the open one
  reopen : Option (Nat × Nat)  -- TCLK and angle of a WIN_OPEN that found the window open: a close of that TCLK goes before it (R264)
  cyc : Nat
  figs : Vector Word 32
  fseq : Vector Nat 32   -- publications of each figure; the sequence number is this modulo 65,536
  deriving DecidableEq, Repr

/-- The zones of a goalpost (R271). -/
inductive Zone where
  | inside | high | low | lost
  deriving DecidableEq, Repr

/-- A goalpost (R271, R272). -/
structure Goal where
  zone : Zone
  cand : Zone
  cnt : Nat
  deriving DecidableEq, Repr

/-- The measurement region (R249 to R278). -/
structure Meas where
  mod : Vector Modulator 8
  pair : Vector Pair 4
  win : Vector Window 16
  goal : Vector Goal 16
  owner : Vector Nat 40
  ends : List (Fin 16 × WinRun)   -- window ends in the order in which they occurred (R268)
  ready : Nat            -- TCLK from which the region has run since ungating
  deriving DecidableEq, Repr

/-- A ring (R286 to R289). A slot is its eight 64-bit words. -/
structure Ring where
  wp : Nat
  seq : Nat
  frozen : Bool
  wrap : Bool
  post : Option Nat      -- slots still to be written after a trigger
  q : List (List Nat)    -- staging queue, at most 16 slots
  trigAt : Option (Nat × Bool)   -- TCLK of the last trigger that found the ring FROZEN, or itself froze it (R289)
  loss : Bool            -- the next slot written has LOSS = 1
  deriving DecidableEq, Repr

/-- Trace memory (R279 to R289). -/
structure Trace where
  ring : Vector Ring 3
  init : Bool
  initMb : Nat
  memOk : Bool           -- the memory die passed its self-test
  eaddr : Nat
  scrub : Nat            -- next block of the scrubber
  served : Nat           -- ring served last
  sinceScrub : Nat       -- transfers since the last scrub
  scrubWait : Option (List (Nat × Fin 3))   -- a scrub read waits for its transfer, with the words found in error
  coming : List (Nat × List Nat)   -- trace-write requests of the measurement region with the TCLK at which they have crossed (R21)
  deriving DecidableEq, Repr

/-! ### Jig engines, timers, sealed counters -/

/-- What a jig engine waits for (R302, R305, R306). -/
inductive JWait where
  | level (pin : Fin 8) (lv : Bool)
  | edge (pin : Fin 8) (kind : Nat) (cap : Bool)
  | trigger (rln : Bool)
  deriving DecidableEq, Repr

/-- Why an engine stalls on a FIFO and what is left of the instruction (R307, R308). -/
inductive JStall where
  | shinEnd                                             -- the END write of a SHIN
  | shout (pin : Fin 8) (ord dstx : Bool) (left total acc : Nat)   -- a SHOUT whose FETCH load finds TXF empty
  | push
  | pull
  deriving DecidableEq, Repr

/-- A jig engine (R295 to R314). -/
structure Jig where
  owner : Nat
  run : Bool
  fault : Bool
  bank : Bool            -- active bank
  swpend : Bool
  pc : Nat
  x : Word
  y : Word
  z : Word
  c : BitVec 16
  s : Word
  sc : Nat
  f : Bool
  rxf : List Word
  txf : List Word
  trgl : Bool
  wait : Option JWait
  tmo : Nat              -- timeout of the wait in ticks, 0 none
  stall : Option JStall
  idle : Nat             -- ticks left of IDLE
  lastCap : Option Nat   -- stamp of the last capturing WAITE, SVCLK
  outs : BitVec 8
  dirs : BitVec 8
  lostb : Nat
  step : Nat             -- STEP in force (R298)
  align : Nat            -- SVCLK of the last START or REALIGN: the phase was 0 there (R299)
  tick : Nat             -- number, counted from there, of the first tick not yet used
  began : Nat            -- SVCLK of the tick at which the present wait began (R305)
  fswap : Bool           -- FSWAP acts at the tick of the next instruction (R314)
  trgAt : Option (Nat × Bool)        -- SVCLK of the last trigger that found no WAITG; it found TRGL set (R306)
  wgAt : Option (Nat × Bool)         -- SVCLK of the last WAITG that an older TRGL ended, and its RLN (R306)
  pushAt : Option Nat                -- SVCLK of the last word written to RXF (R308)
  wave : List (Nat × Fin 8 × Bool)   -- levels that the last SHOUT put on its pin, with the SVCLK of each, newest last (R307)
  nbMiss : Option (Nat × Bool × Bool)  -- SVCLK of a PUSH NB or PULL NB that failed; it was the PULL; F before it (R308)
  txMiss : Option (Nat × Word × Bool)  -- SVCLK and word of a write that found TXF full; TXOVF before it (R308)
  swapAt : Option (Nat × Bool)       -- SVCLK of the last SWAP request, and the bank that was active then (R312)
  prog0 : Vector Word 64
  prog1 : Vector Word 64
  deriving DecidableEq, Repr

/-- What a write of JIG_CMD did to an engine: its SVCLK, the rank of its action (1 REALIGN, 2 START, 3 HALT), and the engine before
the first write of that SVCLK (R299). -/
structure JigCmdRec where
  at_ : Nat
  rank : Nat
  was : Jig
  deriving DecidableEq, Repr

/-- The compare of a timer before the writes of one SVCLK: the increment of that SVCLK is judged against it (R323). -/
structure TmrPrior where
  at_ : Nat              -- the SVCLK
  lo : Word              -- compare value, and its high half of a linked pair
  hi : Word
  armed : Bool
  pin : Bool
  cmpf : Bool            -- TMRn_STAT.CMPF
  fired : Nat            -- compares that the writes fired at once
  deriving DecidableEq, Repr

/-- A timer (R319 to R331). -/
structure Timer where
  owner : Nat
  cnt : Word
  cmpv : Word
  stage : List (Nat × Word)   -- staged even CMPV writes by reader (R328)
  armed : Bool
  cap : Word
  snap : Word
  fault : Bool
  pin : Bool             -- level driven at TPn as an output
  src : Nat              -- SRC in force since the last write of EN = 1
  presc : Nat
  edge : Nat
  jsel : Nat
  prior : Option TmrPrior     -- the compare as it stood before the last write of a compare value (R323)
  capAt : Option Nat          -- SVCLK whose count the last capture took (R323, R325)
  recent : List (Nat × Word)  -- (TCLK, count) after each recent increment, newest first (R325)
  deriving DecidableEq, Repr

/-! ### Saesh fabric -/

/-- A frame (R344, R345): its type, virtual channel (true: angle) and header fields, with payload words or bytes. -/
structure Frame where
  ft : Nat
  vc : Bool
  dst : Nat
  src : Nat
  dwork : Nat
  swork : Nat
  type : Nat
  lun : Nat
  pay : List Word        -- MSG payload words
  bytes : List Nat       -- payload bytes of the unit's own frames
  tag : Nat              -- number of the received frame, which names its receive buffer; 0 for a frame of this node
  deriving DecidableEq, Repr

/-- A link record (R351). -/
structure LinkRec where
  id : Nat
  idv : Bool
  bench : Bool
  elig : Bool
  rank : Nat
  capt : Bool
  cep : Nat
  serial : BitVec 64
  rseq : Nat
  ports : List (Nat × Bool)   -- peer ID and UP bit of FP0 to FP2
  deriving DecidableEq, Repr

/-- Port states (R348). -/
inductive PortState where
  | down | train | hello | up
  deriving DecidableEq, Repr

/-- A fabric port (R342 to R349). -/
structure FPort where
  st : PortState
  peer : Nat
  peerIdv : Bool
  peerBench : Bool
  peerRank : Nat
  peerV : Bool
  tree : Nat             -- 0 spare, 1 parent, 2 child, 3 peer benched
  delay : Int            -- one-way delay in vernier steps
  lseq : Nat             -- next LSEQ to send
  expect : Nat           -- next LSEQ to receive
  held : List (Nat × Frame × Nat)   -- unacknowledged frames with LSEQ and retries, oldest first
  errs : List (Nat × Nat)           -- code errors counted within 256 symbols, with their TCLK (R348)
  crA : Nat              -- credits held
  crB : Nat
  freedA : Nat           -- buffers freed since UP, modulo 256
  freedB : Nat
  seenA : Nat            -- last CREDIT values received
  seenB : Nat
  nak : Bool             -- a NAK is to be sent
  out : List (Nat × Frame)   -- frames eligible at this output, with their input (0 to 2, 3 own unit, 4 own MSG)
  angRun : Nat           -- consecutive angle frames sent while a bulk frame waited
  turnA : Nat            -- angle VC: input served last (R349)
  turnB : Nat            -- bulk VC: input served last
  wturnA : Nat           -- angle VC: work served last on the own send path
  wturnB : Nat           -- bulk VC: work served last
  deriving DecidableEq, Repr

/-- The newest beacon held (R369). -/
structure BeaconRec where
  id : Nat
  rank : Nat
  resign : Bool
  cep : Nat
  bseq : Nat
  sync : Nat
  rev : Bool
  dev : Nat
  hand : Option Nat
  ts : Nat
  deriving DecidableEq, Repr

/-- The captain's newest segment (R361). -/
structure CapSeg where
  θ : Int
  t : Nat                -- system time in vernier steps
  ω : Nat                -- UQ4.28
  α : Int                -- 2^-40 at per TCLK squared
  sync : Nat
  rev : Bool
  sseq : Nat
  deriving DecidableEq, Repr

/-- The node's fabric state (R343 to R374). -/
structure Fabric where
  port : Vector FPort 3
  recs : List LinkRec    -- newest record of each other serial
  rseq : Nat
  bench : Bool
  lun : Nat
  members : List Nat
  lubusy : Bool
  capt : Bool
  capid : Nat
  capv : Bool
  cep : Nat
  hand : Option (Nat × Nat)   -- handover target and the TCLK at which it lapses
  resign : Bool
  bseq : Nat
  beacon : Option BeaconRec
  seenB : List (Nat × Nat)    -- CEP and sequence number of the beacons passed on, newest first
  seenS : List (Nat × Nat)    -- the same for segments
  sseq : Nat
  seg : Option CapSeg
  asegDue : Option Nat   -- TCLK at which the newest segment reaches the fabric ports (R21, R361)
  off : Int              -- map offset, vernier steps
  rate : Rat             -- map rate deviation
  base : Nat             -- local steps at which the map was last set
  t1 : Option Nat        -- stamp of the outstanding DREQ
  terr : Int
  csync : Sync
  hold : Option Nat      -- TCLK at which holdover began
  dv : Bool
  dvN : Nat
  dofs : Int             -- 1/256 at
  diffRun : Nat
  diffstop : Bool
  capFell : Bool         -- a captain has been FULL since the combined state last left FULL (R365)
  took : Bool            -- captain by a takeover whose HALF is carried on in TOOTH (R373)
  capAt : Nat            -- TCLK from which the present captain is known
  benchBy : Option (Nat × BitVec 64)   -- on the bench: the ID it yielded and the serial it yielded to (R352)
  sendQ : Vector (List Frame) 18   -- queue 2w + vc of each work
  route : List (Nat × Nat × Nat)   -- the tree of the last commit: member, output port, hops (R353, R356)
  issued : Nat           -- ID, RANK, BENCH and ELIG of the record issued last (R351)
  fellAt : Option Nat    -- TCLK from which the captain's beacons report NOSYNC or TOOTH after FULL (R372)
  resignAt : Option Nat  -- TCLK of the first beacon with RESIGN (R372)
  rxN : Nat              -- frames taken in order so far
  deriving DecidableEq, Repr

/-! ### Host port, maintenance port, self-test -/

/-- A reader's shadows and its FRESH memory (R113, R161, R269). -/
structure Reader where
  shadow : List (Nat × Word)
  seen : List (Nat × Nat)     -- value id and the sequence number last read
  deriving DecidableEq, Repr

/-- The maintenance port (R397 to R410). -/
structure Mnt where
  ptr : Nat
  stage : List (Nat × Nat)    -- bytes of a wide field not yet committed
  view : List (Nat × Nat)     -- shadow of the wide field being read
  iaddr : Nat
  idata : Word
  pend : Option (Bool × Bool) -- access in progress: write, INC
  istat : Status
  astat : Nat
  aen : Nat
  afcls : Nat
  latch : Bool
  fcnt : Vector Nat 4
  testOpen : Bool
  out : List Nat              -- bytes sent to the controller, newest last
  late : Bool                 -- a stretch lasted 1 ms: the next byte at 25h to 2Bh does not wait
  deriving DecidableEq, Repr

/-- The host port: what it sent last (R383 to R391). -/
structure HostPort where
  status : Status
  data : List Word
  index : Nat            -- INDEX of R387: the word that failed, 0 where the status is OK
  deriving DecidableEq, Repr

/-- How far an over has come (R426 to R428). -/
inductive OverStage where
  | prepare | running | back
  deriving DecidableEq, Repr

/-- The over in progress. -/
structure Over where
  unit : Nat             -- 0 to 8 SCn, 9 predictor A, 10 predictor B
  idx : Nat
  stage : OverStage
  spare : Option (Fin 9) -- the cluster that carries the work meanwhile
  work : Option (Fin 9)
  was : Role
  extra : Bool           -- started by BIST_CMD
  t0 : Nat
  deriving DecidableEq, Repr

/-- The BIST controller (R426 to R431). -/
structure Bist where
  ov : Option Over
  next : Nat             -- position within the innings, 0 to 151
  order : Nat            -- the unit with which the innings began
  done : Nat             -- units passed in this innings (BIST_DONE.MASK)
  lastDone : Nat
  innings : Nat
  running : Bool
  noSpare : Nat          -- clusters left untested in this innings for want of a spare (R430)
  failed : Nat           -- units that failed an over in this innings
  deriving DecidableEq, Repr

/-- Pending fault injections (R439). -/
structure Inject where
  residue : List Nat     -- sources whose next result has an inverted residue
  flips : List (Nat × Nat)    -- flipped words: address, bits flipped
  ddlCrc : Bool
  mdlCrc : Bool
  overFail : List Nat
  echo : List Nat
  deriving DecidableEq, Repr

/-- The output balls and the drives, which follow from the rest of the state after every step. -/
structure Pins where
  ls : BitVec 32         -- low-side drives
  hsb : BitVec 8
  hsv : BitVec 8
  ign : BitVec 24        -- ignition gates
  igsoft : BitVec 3
  igsoftz : BitVec 3     -- IGSOFT0 to IGSOFT2 at high impedance
  bst : BitVec 2         -- boost switches
  safeA : Bool
  safeB : Bool
  hint0 : Option Bool    -- level driven at HINT0, none: high impedance
  hint1 : Option Bool
  alert : Bool           -- ALERT# asserted
  jp : BitVec 24         -- jig pin levels
  jpz : BitVec 24        -- jig pins at high impedance
  tp : BitVec 16         -- timer pin levels
  tpz : BitVec 16
  deriving DecidableEq, Repr

/-! ### The whole machine -/

/-- The state of the GDN7232: everything the spec gives the package, and the queue of waiting commands. -/
structure State where
  pending : List Instr   -- commands waiting, first in, first out
  now : Nat              -- TCLK since TCLK started; the 40-bit count is this modulo 2^40
  sys : Sys
  ao : AlwaysOn
  otp : Otp
  was : List (Nat × Nat × Word)  -- TCLK, address, and the word before it, of writes that act after the events of their TCLK (R271, R288)
  regs : List (Nat × Word)    -- register words that differ from their reset words, by rising host address
  mem : List Host.Cell        -- bytes of cluster SRAM and trace memory that are not 0, by rising host address
  coll : Collector
  links : Links
  whl : Wheels
  prd : Predictor
  clu : Vector Cluster 9
  work : Vector Work 9
  take : List Takeover
  edg : EdgeGen
  drv : Driver
  ms : Meas
  trc : Trace
  jig : Vector Jig 8
  jigCmds : Vector (Option JigCmdRec) 8   -- the last action of JIG_CMD on each engine (R299)
  tmr : Vector Timer 16
  snapSeq : Nat
  snapAt : Option Nat    -- SVCLK of the last snapshot (R326)
  roleMnt : Option RoleRec    -- the last write of CLU_ROLE by the maintenance port (R392)
  tmrOvrSent : BitVec 16
  svc : SealSvc
  fab : Fabric
  host : HostPort
  mnt : Mnt
  readers : Vector Reader 11  -- cores 0 to 8, host port 9, maintenance port 10
  bist : Bist
  inj : Inject
  pins : Pins
  hwSet : List (Nat × Nat × Nat)   -- bits that an event of the unit set: its TCLK, the register's address, the bits (R13)
  claims : List Claim    -- claims on units in their TCLK (R29)
  free : Nat             -- the model's own: index of the next free value (log entry 11)
  deriving DecidableEq, Repr

/-- Reasons to stop with a fault. -/
inductive Fault where
  /-- Raised by no meaning of this model: the spec gives every command an effect in every state. Safe. -/
  | impossible
  deriving DecidableEq, Repr

/-- Reasons to refuse a command. -/
inductive Refusal where
  /-- Raised by the dispatch of a command that has no meaning yet. Safe. -/
  | notModelled (mnemonic : String)
  deriving DecidableEq, Repr

/-- What a meaning answers. -/
abbrev Out := Host.Outcome State Fault Refusal

/-- A free slot (R122, R151). -/
def Peg.empty : Peg :=
  ⟨0, 0, 0, 0, 0, 0, 0, 0, 0, false, false, .free, none, 0, none, none, none, false, 0, false, 0, 0, 0, none,
    ⟨3000, 2000, 1500, 5000, false⟩, 0, 0⟩

/-- A disarmed comparator (R177). -/
def Comp.empty : Comp := ⟨0, false, false, false, false, 0, 0, none⟩

/-- A work at reset: no peg, every cue enabled (R177). -/
def Work.empty : Work :=
  ⟨Vector.replicate 32 Peg.empty, 0, false, BitVec.allOnes 27, [], Vector.replicate 16 Comp.empty, [], [], none, false, false⟩

/-- A core at reset; SC8 is SPARE and carries no work (R22, R177). -/
def Cluster.reset (role : Role) (w : Option (Fin 9)) : Cluster :=
  ⟨role, w, Vector.replicate 16 0, Vector.replicate 8 0, false, false, false, false, false, 0, none, false, 0, 0, 0, 0,
    false, none, 0, BitVec.allOnes 27⟩

/-- A wheel input at reset (R55). -/
def WheelIn.empty : WheelIn := ⟨none, 0, false, false, 0, false⟩

/-- The matcher with no history (R65). -/
def Matcher.empty : Matcher := ⟨[], 0, none, none, false⟩

/-- The wheel logic at reset (R88): NOSYNC. -/
def Wheels.reset (afterWake : Bool) : Wheels :=
  ⟨Vector.replicate 3 WheelIn.empty, Vector.replicate 2 WheelIn.empty, .nosync, false, false, 0, false, none, none, false,
    false, 0, false, false, false, false, 0, 0, 0, [], afterWake, 0, none, 0, 0, Matcher.empty⟩

/-- The predictors at reset (R112, R113): instance A active, no model. -/
def Predictor.reset : Predictor :=
  ⟨PrdStage.none, 0, none, 0, 0, 0, 0, none, none, none, 0, none, 0, 0, false, false, false, false,
    Vector.replicate 2 0, false, false, false, 0, false, [], false, [], none, false⟩

/-- The edge generator at reset: every output owned by the fault collector (R27, R218). -/
def EdgeGen.reset : EdgeGen :=
  ⟨Vector.replicate 32 ⟨0xF, false, none, none, none, none, .none, [], false⟩,
    Vector.replicate 24 ⟨0xF, false, none, 0, none⟩, false, none, false⟩

/-- The driver die at reset: in the safe actuation state (R248), SOFT of R144. -/
def Driver.reset : Driver :=
  ⟨true, Vector.replicate 32 ⟨none, none, false, 0, false, [], 0, 0, none, false, false⟩,
    Vector.replicate 8 ⟨none, none, [], ⟨none, false, false, [], []⟩⟩,
    Vector.replicate 2 ⟨0, false, false, false, none⟩,
    Vector.replicate 24 ⟨false, none, 2000, [], 0, 0, none, none⟩, []⟩

/-- A modulator at reset (R275). -/
def Modulator.reset : Modulator :=
  ⟨false, 2, false, 0, 0, 0, [], none, none, none, false, false, false, false, false, 0, 0, 0, 0, none, true, [], 0, false⟩

/-- A closed window (R277). -/
def Window.reset : Window := ⟨false, [], none, 0, Vector.replicate 32 0, Vector.replicate 32 0⟩

/-- The measurement region at reset (R273 to R278). -/
def Meas.reset : Meas :=
  ⟨Vector.replicate 8 Modulator.reset, Vector.replicate 4 ⟨false, 0, 0, none, 0⟩, Vector.replicate 16 Window.reset,
    Vector.replicate 16 ⟨.inside, .inside, 0⟩, Vector.replicate 40 0xC, [], 0⟩

/-- Trace memory at reset: not initialised (R280, R294). -/
def Trace.reset : Trace :=
  ⟨Vector.replicate 3 ⟨0, 0, false, false, none, [], none, false⟩, false, 0, true, 0, 0, 2, 0, none, []⟩

/-- A jig engine at reset: stopped, both banks NOP (R316, R317); STEP as log entry 15. -/
def Jig.reset : Jig :=
  ⟨0xC, false, false, false, false, 0, 0, 0, 0, 0, 0, 0, false, [], [], false, none, 0, none, 0, none, 0, 0, 0,
    0x1000000, 0, 0, 0, false, none, none, none, [], none, none, none, Vector.replicate 64 0, Vector.replicate 64 0⟩

/-- A timer at reset (R332). -/
def Timer.reset : Timer := ⟨0xC, 0, 0, [], false, 0, 0, false, false, 0, 0, 1, 0, none, none, []⟩

/-- A fabric port at reset: DOWN (R382). -/
def FPort.reset : FPort :=
  ⟨.down, 0, false, false, 3, false, 0, 0, 0, 0, [], [], 0, 0, 0, 0, 0, 0, false, [], 0, 0, 0, 0, 0⟩

/-- The fabric at reset (R380, R381). -/
def Fabric.reset : Fabric :=
  ⟨Vector.replicate 3 FPort.reset, [], 0, false, 0, [], false, false, 0, false, 0, none, false, 0, none, [], [], 0,
    none, none, 0, 0, 0, none, 0, .nosync, none, false, 0, 0, 0, false, false, false, 0, none, Vector.replicate 18 [], [], 0, none, none, 0⟩

/-- The maintenance port at reset (R405). -/
def Mnt.reset : Mnt := ⟨0, [], [], 0, 0, none, .ok, 0, 3, 2, false, Vector.replicate 4 0, false, [], false⟩

/-- The BIST controller at reset (R440). -/
def Bist.reset : Bist := ⟨none, 0, 0, 0, 0, 0, false, 0, 0⟩

/-- The collector at reset: the package is in the safe actuation state with cause STATE (R440). -/
def Collector.reset : Collector :=
  ⟨[], [], [], 0, none, 0, none, 0, true, false, false, false, false, true, true, true, false, none, none, false, none, none, none⟩

/-- The always-on domain when VBKUP is first applied (R463, R334). -/
def AlwaysOn.reset : AlwaysOn :=
  ⟨0, 0, 0, ⟨0, false, false, false, 0⟩, none, ⟨0, false, false, false, 0⟩, ⟨0, false, false, false, 0⟩, false, 0, 0, [], Vector.replicate 16 ⟨0, false, false, false, 0⟩, 0, [], 0, false⟩

/-- The pins with every drive off, the lines inactive and the safe lines asserted. -/
def Pins.reset : Pins :=
  ⟨0, 0, 0, 0, 0, 0, 0, true, true, none, none, false, 0, BitVec.allOnes 24, 0, BitVec.allOnes 16⟩

/-- The machine right after power-on reset: SELFTEST, PLL locked (R452, R462). Supplies and straps that the spec leaves
open are as log entry 10 says. -/
def State.reset : State where
  pending := []
  now := 0
  sys := ⟨.selftest, true, true, Vector.replicate 4 true, true, false, 0, 0, false, true, true, true, 0, 0, false,
    false, false, true, false, [], none, none, none⟩
  ao := AlwaysOn.reset
  otp := ⟨false, List.replicate 8 0, 0, false, true⟩
  was := []
  regs := []
  mem := []
  coll := Collector.reset
  links := ⟨[], 0, [], 0, none, 0, none⟩
  whl := Wheels.reset false
  prd := Predictor.reset
  clu := Vector.ofFn fun i : Fin 9 =>
    if i.val = 8 then Cluster.reset .spare none else Cluster.reset .stopped (some i)
  work := Vector.replicate 9 Work.empty
  take := []
  edg := EdgeGen.reset
  drv := Driver.reset
  ms := Meas.reset
  trc := Trace.reset
  jig := Vector.replicate 8 Jig.reset
  jigCmds := Vector.replicate 8 none
  tmr := Vector.replicate 16 Timer.reset
  snapSeq := 0
  snapAt := none
  roleMnt := none
  tmrOvrSent := 0
  svc := ⟨false, false, false, Vector.replicate 8 0, 0, [], List.replicate 84 0⟩
  fab := Fabric.reset
  host := ⟨.ok, [], 0⟩
  mnt := Mnt.reset
  readers := Vector.replicate 11 ⟨[], []⟩
  bist := Bist.reset
  inj := ⟨[], [], false, false, [], []⟩
  pins := Pins.reset
  hwSet := []
  claims := []
  free := 0

end Sys2Proof.Machine
end

