-- ==== Sys2Proof/Machine/Ops.lean ====
section
/-! DEFINITION. The operations that every unit shares: the canonical sparse stores, the register words, time, fault
messages (R411 to R416), the die links' queues and the crossing into a gated region. -/

namespace Sys2Proof.Machine

/-! ### Sparse stores in canonical form -/

/-- What a sparse store holds at an address; d where nothing is listed. -/
def sparseGet {α : Type} (d : α) : List (Nat × α) → Nat → α
  | [], _ => d
  | (b, v) :: t, a => if a = b then v else sparseGet d t a

/-- Insert an address by its place. -/
def sparseIns {α : Type} (a : Nat) (v : α) : List (Nat × α) → List (Nat × α)
  | [] => [(a, v)]
  | (b, w) :: t => if a < b then (a, v) :: (b, w) :: t else (b, w) :: sparseIns a v t

/-- Put a value at an address: addresses stay strictly rising, and the value an unlisted address reads as is not listed. -/
def sparseSet {α : Type} [DecidableEq α] (d : α) (a : Nat) (v : α) (l : List (Nat × α)) : List (Nat × α) :=
  let m := l.filter fun x => decide (x.1 ≠ a)
  if v = d then m else sparseIns a v m

/-- The canonical form: strictly rising addresses, no listed default. -/
def sparseWf {α : Type} [DecidableEq α] (d : α) : List (Nat × α) → Bool
  | [] => true
  | [(_, v)] => decide (v ≠ d)
  | (a, v) :: (b, w) :: t => decide (v ≠ d) && decide (a < b) && sparseWf d ((b, w) :: t)

/-- The canonical form of byte memory: an unlisted byte reads as 0 (R184, R280; log entry 14). -/
def Memory.wf (m : List Host.Cell) : Bool := sparseWf 0 m

/-- One byte of memory by host address. -/
def State.byte (s : State) (a : Nat) : Byte := sparseGet 0 s.mem a

/-- Write one byte of memory. -/
def State.setByte (s : State) (a : Nat) (b : Byte) : State := { s with mem := sparseSet 0 a b s.mem }

/-- The little-endian word at an address (R10). -/
def State.word (s : State) (a : Nat) : Word :=
  wordN ((s.byte a).toNat + 256 * (s.byte (a + 1)).toNat + 65536 * (s.byte (a + 2)).toNat
    + 16777216 * (s.byte (a + 3)).toNat)

/-- Write the little-endian word at an address. -/
def State.setWord (s : State) (a : Nat) (w : Word) : State :=
  (((s.setByte a (BitVec.ofNat 8 w.toNat)).setByte (a + 1) (BitVec.ofNat 8 (w.toNat / 256))).setByte (a + 2)
    (BitVec.ofNat 8 (w.toNat / 65536))).setByte (a + 3) (BitVec.ofNat 8 (w.toNat / 16777216))

/-- Write words at consecutive word addresses. -/
def State.setWords (s : State) (a : Nat) : List Word → State
  | [] => s
  | w :: ws => (s.setWord a w).setWords (a + 4) ws

/-! ### Register words -/

/-- The stored word of element (i, j) of a register row. -/
def State.rg (s : State) (r : RegRow) (i : Nat := 0) (j : Nat := 0) : Word :=
  sparseGet (resetWord r i) s.regs (r.addr i j)

/-- Field [hi:lo] of a stored register word. -/
def State.rf (s : State) (r : RegRow) (i hi lo : Nat) : Nat := fld (s.rg r i) hi lo

/-- Bit n of a stored register word. -/
def State.rb (s : State) (r : RegRow) (i n : Nat) : Bool := bit (s.rg r i) n

/-- Store a register word. -/
def State.setRg (s : State) (r : RegRow) (i j : Nat) (w : Word) : State :=
  { s with regs := sparseSet (resetWord r i) (r.addr i j) w s.regs }

/-- A write of the present TCLK changes a word that the events of that TCLK still find as it was (R271, R288). -/
def State.keepWord (s : State) (a : Nat) (w : Word) : State :=
  let here := s.was.filter fun x => decide (x.1 = s.now)
  { s with was := if here.any fun x => decide (x.2.1 = a) then here else here ++ [(s.now, a, w)] }

/-- A register word as the events of the present TCLK find it. -/
def State.rgThen (s : State) (r : RegRow) (i : Nat) : Word :=
  match s.was.find? fun x => decide (x.1 = s.now) && decide (x.2.1 = r.addr i 0) with
  | some x => x.2.2
  | none => s.rg r i

/-- Store a field of a register word. -/
def State.setRf (s : State) (r : RegRow) (i hi lo v : Nat) : State :=
  s.setRg r i 0 (setFld (s.rg r i) hi lo v)

/-- An event of the unit sets bits of the register at an address in the present TCLK (R13). -/
def State.hw (s : State) (a m : Nat) : State :=
  { s with hwSet := (s.hwSet.filter fun x => decide (x.1 = s.now)) ++ [(s.now, a, m)] }

/-- The bits of a register that events of the present TCLK set; a write of the same TCLK clears none of them (R13). -/
def State.hwNow (s : State) (a : Nat) : Nat :=
  (s.hwSet.filter fun x => decide (x.1 = s.now) && decide (x.2.1 = a)).foldl (fun m x => m ||| x.2.2) 0

/-- The bits of a W1C value that a write may clear now (R13). -/
def State.w1cOpen (s : State) (a v : Nat) : Nat := v &&& ((v ||| s.hwNow a) ^^^ s.hwNow a)

/-- The claim of the present TCLK on the unit with an owner register (R29). -/
def State.claimed (s : State) (reg : Nat) : Option Claim := s.claims.find? fun x => decide (x.at_ = s.now) && decide (x.reg = reg)

/-- A claim of a rank on a unit takes effect: the collector's always, another only as the first or foremost of its TCLK (R29). -/
def State.mayClaim (s : State) (reg rank : Nat) : Bool :=
  match s.claimed reg with
  | some x => decide (rank = 0) || decide (rank < x.rank)
  | none => true

/-- The owner against which a claim of a rank is judged: the one before a claim that gives way to it. -/
def State.ownerBefore (s : State) (reg owner rank : Nat) : Nat :=
  match s.claimed reg with
  | some x => if rank < x.rank then x.before else owner
  | none => owner

/-- Count up a field of a register word, saturating at its full value; a W1C field keeps its new bits in this TCLK (R13, R38). -/
def State.bump (s : State) (r : RegRow) (i hi lo : Nat) : State :=
  let v := s.rf r i hi lo
  if v + 1 < 2 ^ (hi + 1 - lo) then
    let t := s.setRf r i hi lo (v + 1)
    if r.w1c = 0 then t else t.hw (r.addr i 0) ((v + 1) * 2 ^ lo)
  else s

/-- Count up a field of a register word, wrapping. -/
def State.bumpWrap (s : State) (r : RegRow) (i hi lo : Nat) : State := s.setRf r i hi lo (s.rf r i hi lo + 1)

/-- An event sets bit n of a register word (R13). -/
def State.setBit (s : State) (r : RegRow) (i n : Nat) : State := (s.setRf r i n n 1).hw (r.addr i 0) (2 ^ n)

/-! ### Fault messages (R411 to R413) -/

/-- SOURCE of a control-die message: region, cluster and unit fields. -/
def srcC (region cluster unit : Nat) : Nat := region % 4 * 256 + cluster % 16 * 16 + unit % 16

/-- SOURCE of a driver-die message (R245). -/
def srcD (cluster unit : Nat) : Nat := 0x400 + cluster % 16 * 16 + unit % 16

/-- SOURCE of the memory die. -/
def srcM : Nat := 0x800

namespace Kind
/-! The kinds of R413 by name. -/
def eccCe := 0x00
def eccUe := 0x01
def writeLocked := 0x02
def ownerBusy := 0x03
def badAddress := 0x04
def linkFault := 0x05
-- timing region
def cluFail := 0x05
def spareOut := 0x06
def workLost := 0x07
def coreExc := 0x08
def coreHalt := 0x09
def cueLost := 0x0A
def slotFull := 0x0B
def pegLate := 0x0C
def pegSkip := 0x0D
def provSkip := 0x0E
def revSuppressed := 0x0F
def measGated := 0x10
def coilSoftoff := 0x11
def sparkEarly := 0x12
def mirrorLost := 0x13
def edgeEcho := 0x14
def vernierCal := 0x15
def selectLate := 0x16
def profileBad := 0x17
def patternBad := 0x18
def badTooth := 0x19
def syncLost := 0x1A
def qsRollback := 0x1B
def camMismatch := 0x1C
def camMissing := 0x1D
def reverse := 0x1E
def mapBusy := 0x1F
def predSwap := 0x20
def predChkFail := 0x21
def predDisagree := 0x22
def predFail := 0x23
def predUnchecked := 0x24
-- measurement region
def measOvl := 0x05
def measResidue := 0x06
def trgOverrun := 0x07
def measPlaus := 0x08
def measCheck := 0x09
def winLong := 0x0A
def winAbort := 0x0B
def winState := 0x0C
def figResidue := 0x0D
def goalTrip := 0x0E
-- service region
def hostCrc := 0x05
def hostAbort := 0x06
def jigTrgOvr := 0x07
def jigIllegal := 0x08
def jigFault := 0x09
def jigBusy := 0x0A
def jigBitsLost := 0x0B
def tmrFault := 0x0C
def tmrCapOvr := 0x0D
def trcCfgBad := 0x0E
def trcDrop := 0x0F
def trcFrozen := 0x10
def trcBusy := 0x11
def fabLinkDown := 0x12
def fabDupId := 0x13
def fabBenched := 0x14
def fabRankDup := 0x15
def fabLineup := 0x16
def fabDiscard := 0x17
def fabHoldover := 0x18
def fabTakeover := 0x19
def fabAngDiff := 0x1A
def bistFail := 0x1B
def bistDefer := 0x1C
def bistNospare := 0x1D
def bistIncomplete := 0x1E
def shotClock := 0x1F
def safeLine := 0x20
def collFault := 0x21
def fiInject := 0x22
-- always-on region
def sealFault := 0x05
def clockFail := 0x06
-- driver die
def shortBat := 0x06
def shortGnd := 0x07
def openLoad := 0x08
def boostShort := 0x09
def bankConflict := 0x0A
def boostNotReady := 0x0B
def dutyLimit := 0x0C
def boostOvp := 0x0D
def ignNocur := 0x0E
def ignNospark := 0x0F
def holdLimit := 0x10
def shotWithdrawn := 0x11
def captureBusy := 0x12
def drvSafe := 0x13
def gateStuck := 0x14
-- memory die
def trcCe := 0x06
def trcUe := 0x07
end Kind

/-- TCLK from now to the next SCLK edge: SCLK is 32,768 Hz against 250 MHz, so 15,625,000 / 2,048 TCLK apart (R446). -/
def State.toSclk (s : State) : Nat := (15625000 - s.ao.acc % 15625000 + 2047) / 2048

/-- A message named by its kept source: the message that stands in the kept slot (R415). -/
def keptOf (c : Collector) (src : Nat) : Option Msg := c.kept.find? (·.src = src)

/-- Put a message into its source's outbox (R415); the Bool says that OVF counts. -/
def outboxPut (m : Msg) (c : Collector) : Collector × Bool :=
  let mine := c.outbox.filter (·.src = m.src)
  if mine.length < 4 then ({ c with outbox := c.outbox ++ [m] }, false)
  else
    match mine.find? (fun x => decide (x.cls < m.cls)) with
    | some old => ({ c with outbox := c.outbox.erase old ++ [m] }, true)
    | none =>
      if m.cls < 2 then (c, true)
      else
        match keptOf c m.src with
        | none => ({ c with kept := c.kept ++ [m] }, false)
        | some k =>
          ({ c with kept := c.kept.map fun x => if x = k then { x with cls := max x.cls m.cls } else x }, true)

/-- Change the collector. -/
def State.setColl (s : State) (f : Collector → Collector) : State := { s with coll := f s.coll }

/-- Append a transfer to the DDL queue (R37, R39). -/
def State.ddlSend (s : State) (x : Xfer) : State := { s with links := { s.links with ddl := s.links.ddl ++ [x] } }

/-- The TCLK from which the collector can accept a message emitted now (R21, R37, R416). -/
def State.msgReady (s : State) (kind src : Nat) : Nat :=
  if src / 1024 = 0 then
    match src / 256 % 4 with
    | 0 => s.now + 4
    | 1 => s.now + 4
    | 2 => s.now
    | _ => s.now + s.toSclk + 3
  else if kind = Kind.linkFault then s.now + 2
  else s.now

/-- Emit a fault message (R411, R415, R416); a driver-die message waits for its DDL transfer. -/
def State.emit (s : State) (cls kind src ctx : Nat) : State :=
  let viaDdl := decide (src / 1024 = 1) && decide (kind ≠ Kind.linkFault)
  let m : Msg := ⟨cls, kind, src, wordN ctx, s.now, s.msgReady kind src, viaDdl⟩
  let (c, lost) := outboxPut m s.coll
  let s1 := { s with coll := c }
  let s2 := if viaDdl then s1.ddlSend (.message m) else s1
  if lost then s2.bump Reg.fltStat 0 15 8 else s2

/-- The index among the readers of the host port and the maintenance port; cores are 0 to 8. -/
def hostP : Fin 11 := 9
def mntP : Fin 11 := 10

/-- The SOURCE of an access note: the port or cluster that made the access (R412). -/
def portSrc (p : Fin 11) : Nat :=
  if p.val = 9 then srcC 2 0 0xF else if p.val = 10 then srcC 2 1 0xF else srcC 0 p.val 0xF

/-- An access note of R412: class 0, the address in the context. -/
def State.note (s : State) (kind : Nat) (p : Fin 11) (addr : Nat) : State :=
  s.emit 0 kind (portSrc p) (addr % 2 ^ 32)

/-- The write of a port whose claim on a unit gives way to a claim of its TCLK is refused: OWNER_BUSY, and its access ends busy (R28, R29;
log entry 94). -/
def State.overtaken (s : State) (reg rank : Nat) : State :=
  match s.claimed reg with
  | none => s
  | some x =>
    if x.rank ≤ rank then s
    else if x.rank = 3 then { s.note Kind.ownerBusy hostP reg with host := { s.host with status := .busy } }
    else if x.rank = 4 then { s.note Kind.ownerBusy mntP reg with mnt := { s.mnt with istat := .busy } }
    else s

/-- A claim on a unit: f makes the change. -/
def State.claim (s : State) (reg owner rank : Nat) (f : State → State) : State :=
  if s.mayClaim reg rank then
    let t := s.overtaken reg rank
    f { t with claims := (s.claims.filter fun x => decide (x.at_ = s.now) && decide (x.reg ≠ reg))
        ++ [⟨s.now, reg, s.ownerBefore reg owner rank, rank⟩] }
  else s

/-- The SVCLK edge at or after the present TCLK. -/
def State.svclk (s : State) : Nat := (s.now + 1) / 2

/-- SOURCE of the collector itself (R412). -/
def srcColl : Nat := srcC 2 5 0xF

/-! ### Checked words (R31, R32, R439) -/

/-- Forget the flipped bits of a rewritten word; key is the host address of the stored word (R439). -/
def State.unflip (s : State) (key : Nat) : State :=
  { s with inj := { s.inj with flips := s.inj.flips.filter (·.1 ≠ key) } }

/-- What a word's check finds: the finding of the command, or the bits flipped by injection (R439): 0, 1 or 2. -/
def State.eccOf (s : State) (key : Nat) (found : Fin 3) : Nat :=
  max found.val (match s.inj.flips.find? (·.1 = key) with | some f => f.2 | none => 0)

/-- A unit reads a word of its SECDED store: a corrected error gives a class-0 note, an uncorrectable one makes the word absent with a
class-1 message; the Bool says that the word may be used. Injected flips stay until the word is rewritten (R31, R32, R414, R439). -/
def State.checkWord (s : State) (key src idx : Nat) (found : Fin 3 := 0) : State × Bool :=
  match s.eccOf key found with
  | 0 => (s, true)
  | 1 => (s.emit 0 Kind.eccCe src idx, true)
  | _ => (s.emit 1 Kind.eccUe src idx, false)

/-- The word at a key carries an uncorrectable error. -/
def State.wordBad (s : State) (key : Nat) : Bool := decide (2 ≤ s.eccOf key 0)

/-- The register word at a host address that stands under SECDED (R31): the unit that holds it and its index in that unit's store
(log entry 78). The key of such a word is its host address. -/
def secdedAt (a : Nat) : Option (Nat × Nat) :=
  if 0x40001000 ≤ a ∧ a < 0x40002000 then some (srcC 2 2 (a % 0x1000 / 0x200), a % 0x200 / 4)
  else if 0x10001000 ≤ a ∧ a < 0x10004000 then some (srcC 0 9 ((a - 0x10001000) / 0x1000), a % 0x1000 / 4)
  else if 0x10004000 ≤ a ∧ a < 0x10005000 then some (srcC 0 0xA 0, a % 0x1000 / 4)
  else if 0x20002000 ≤ a ∧ a < 0x20003000 then some (srcD 0xF 0xF, a % 0x1000 / 4)
  else if 0x20003000 ≤ a ∧ a < 0x20003100 ∧ a % 0x20 < 8 then some (srcD (a % 0x1000 / 0x20) 0xF, a % 0x20 / 4)
  else if 0x20001000 ≤ a ∧ a < 0x20001800 ∧ a % 0x40 = 4 then some (srcD (a % 0x1000 / 0x100) (a % 0x100 / 0x40), 0)
  else none

/-- A unit or a port reaches the register word at a host address (R31, R32). -/
def State.checkedAt (s : State) (a : Nat) (found : Fin 3 := 0) : State × Bool :=
  match secdedAt a with
  | some (src, i) => s.checkWord a src i found
  | none => (s, true)

/-- The always-on domain changes the scribe record, one on its way to it included; the word written anew carries no flipped bits
(R439). -/
def State.setScribe (s : State) (f : Scribe → Scribe) : State :=
  let t := s.unflip Reg.scribe.base
  { t with ao := { t.ao with scribe := f s.ao.scribe, scribeNext := s.ao.scribeNext.map f } }

/-- The wheel logic updates the scribe record: the record follows at the next SCLK edge, with no flipped bits (R21, R82, R439). -/
def State.scribePut (s : State) (f : Scribe → Scribe) : State :=
  let t := s.unflip Reg.scribe.base
  { t with ao := { t.ao with scribeNext := some (f (s.ao.scribeNext.getD s.ao.scribe)) } }

/-- The scribe record is read: an uncorrectable error sets VALID to 0 (R459). -/
def State.scribeCheck (s : State) (found : Fin 3 := 0) : State :=
  let a := Reg.scribe.base
  match s.eccOf a found with
  | 0 => s
  | 1 => s.emit 0 Kind.eccCe (srcC 3 0xF 0xF) 0
  | _ =>
    let t := s.emit 1 Kind.eccUe (srcC 3 0xF 0xF) 0
    t.setScribe fun r => { r with valid := false }

/-- The key of word i of the collector FIFO's entry with a SEQ (log entry 78). -/
def headKey (seq i : Nat) : Nat := 0x60010000 + 16 * (seq % 4096) + 4 * i

/-- A port reads the oldest entry of the collector FIFO under its check: a corrected word gives a note, an uncorrectable one COLL_FAULT;
the Bool says that data is returned (R31, R32, R414, R418). -/
def State.headCheck (s : State) (found : Fin 3) : State × Bool :=
  match s.coll.fifo with
  | [] => (s, true)
  | e :: _ =>
    let worst := (List.range 3).foldl (fun m i => max m (s.eccOf (headKey e.seq i) (if i = 0 then found else 0))) 0
    match worst with
    | 0 => (s, true)
    | 1 =>
      let i := ((List.range 3).find? fun i => decide (s.eccOf (headKey e.seq i) (if i = 0 then found else 0) = 1)).getD 0
      (s.emit 0 Kind.eccCe srcColl i, true)
    | _ => (s.emit 3 Kind.collFault srcColl 0, false)

/-! ### Failed transfers (R37, R38) -/

/-- LINK_FAULT names the die at the far end of the link (R37, R412). -/
def State.linkFault (s : State) (die : Nat) : State := s.emit 2 Kind.linkFault (die * 1024 + 0xFF) 0

/-- n retries of one link count in LINK_RETRY, [hi:lo] being its field (R38). -/
def State.retried (s : State) (hi lo : Nat) : Nat → State
  | 0 => s
  | n + 1 => (s.bump Reg.linkRetry 0 hi lo).retried hi lo n

/-! ### Time -/

/-- An address of the always-on system registers (R463). -/
def alwaysOnSys (a : Nat) : Bool := decide (0x70000100 ≤ a) && decide (a < 0x70000200)

/-- A staged write takes effect: WAKE_ALARM_LO waits for WAKE_ALARM_HI. -/
def State.commitOne (t : State) (a : Nat) (v : Word) : State :=
  if a = Reg.wakeAlarmLo.base then { t with ao := { t.ao with alarmLo := v } }
  else if a = Reg.wakeAlarmHi.base then (t.setRg Reg.wakeAlarmHi 0 0 v).setRg Reg.wakeAlarmLo 0 0 t.ao.alarmLo
  else if !alwaysOnSys a then t
  else
    match regRows.find? fun r => decide (r.base = a) with
    | some r => t.setRg r 0 0 v
    | none => t

/-- Register words of the always-on domain, and the scribe record with the copy that ports read, at an SCLK edge (R21, R463). -/
def State.commitStaged (s : State) : State :=
  let t := s.ao.staged.foldl (fun (t : State) (x : Nat × Word) => t.commitOne x.1 x.2) s
  let r := t.ao.scribeNext.getD t.ao.scribe
  { t with ao := { t.ao with staged := [], scribe := r, scribeNext := none, scribeSeen := r, scribePrev := t.ao.scribeSeen } }

/-- n SCLK edges pass: the slow counter counts and staged always-on writes take effect. -/
def State.sclkEdges (s : State) (n : Nat) : State :=
  if n = 0 then s
  else
    let t := s.commitStaged
    { t with ao := { t.ao with
        slow := (t.ao.slow + n) % 2 ^ 48, slowPrev := (t.ao.slow + n - 1) % 2 ^ 48
        scribePrev := if n = 1 then t.ao.scribePrev else t.ao.scribeSeen } }

/-- The last SCLK edge lies 3 TCLK or more back: what it brought has crossed from the always-on region (R21). -/
def State.sclkCrossed (s : State) : Bool := decide (6144 ≤ s.ao.acc)

/-- The scribe record as it has crossed to the other regions (R21, R463). -/
def State.scribeView (s : State) : Scribe := if s.sclkCrossed then s.ao.scribeSeen else s.ao.scribePrev

/-- Time passes to TCLK t; earlier instants change nothing. -/
def State.advanceTo (s : State) (t : Nat) : State :=
  if t ≤ s.now then s
  else
    let a := s.ao.acc + 2048 * (t - s.now)
    let s1 := s.sclkEdges (a / 15625000)
    { s1 with now := t, ao := { s1.ao with acc := a % 15625000 } }

/-- The DCLK edge at or after now (R15). -/
def State.dclk (s : State) : Nat := (s.now + 3) / 4

/-- The TCLK count of R446 as software sees it, low word. -/
def State.tclkLo (s : State) : Word := wordN s.now

/-- The 40-bit TCLK count as software sees it, high bits. -/
def State.tclkHi (s : State) : Word := wordN (s.now / 2 ^ 32 % 256)

/-! ### Regions and states -/

/-- The measurement region runs (R20, R448). -/
def State.measRuns (s : State) : Bool := s.sys.measRdy

/-- TCLK runs: the device is in neither OFF nor STANDBY (R446). -/
def State.clocked (s : State) : Bool :=
  s.sys.pll && decide (s.sys.st ≠ .off) && decide (s.sys.st ≠ .standby)

/-- The wheel logic runs in READY and RUN; in every other state no edge is processed (R63). -/
def State.wheelsRun (s : State) : Bool := decide (s.sys.st = .ready) || decide (s.sys.st = .run)

/-- The device is in READY or RUN. -/
def State.live (s : State) : Bool := decide (s.sys.st = .ready) || decide (s.sys.st = .run)

/-- A signal into the measurement region: discarded and counted while the region is gated (R36). -/
def State.intoMeas (s : State) (f : State → State) : State :=
  if s.measRuns then f s else s.bump Reg.sysGate 0 31 16

/-- The key of ASTAT, which has no host address, among the bits that events set. -/
def astatKey : Nat := 2 ^ 40

/-- Set HOST_STAT.STCHG, FABCHG or CLUCHG and the matching ASTAT bit (R395, R405, R407). -/
def State.hostEvent (s : State) (statBit astatBit : Nat) : State :=
  let t := (s.setBit Reg.hostStat 0 statBit).hw astatKey (2 ^ astatBit)
  let old := t.mnt.astat
  let new := old ||| 2 ^ astatBit
  let rise := decide (new ≠ old) && t.mnt.aen.testBit astatBit
  { t with mnt := { t.mnt with astat := new, latch := t.mnt.latch || rise } }

/-- Change the device state (R42, R395, R450). -/
def State.toState (s : State) (d : DState) : State :=
  if s.sys.st = d then s else ({ s with sys := { s.sys with st := d } } : State).hostEvent 0 1

/-- The free value used next (log entry 11): a word nothing constrains. -/
def State.freeW (s : State) : Word := Config.freeWord s.free

/-- Advance to the next free value. -/
def State.useFree (s : State) : State := { s with free := s.free + 1 }

end Sys2Proof.Machine
end

