-- ==== Sys2Proof/Machine/Pins.lean ====
section
/-! DEFINITION. What the balls show: drives, gates, safe lines, interrupt lines and pins follow from the rest of the
state, and every command ends by bringing them up to date. -/

namespace Sys2Proof.Machine

/-! ### Drives (R214, R219, R221) -/

/-- Channel n = 4b + k of bank b. -/
def chOf (b : Fin 8) (k : Fin 4) : Fin 32 := ⟨4 * b.val + k.val, by omega⟩

/-- The bank of a channel. -/
def bankOf (c : Fin 32) : Fin 8 := ⟨c.val / 4, by omega⟩

/-- The place of a channel within its bank. -/
def chIn (c : Fin 32) : Fin 4 := ⟨c.val % 4, by omega⟩

/-- The work that a cluster carries. -/
def State.workOf (s : State) (c : Fin 9) : Option (Fin 9) := s.clu[c].work

/-- The work behind an owner code: the one that cluster carries, none where the owner is no cluster (R27). -/
def State.ownerWork (s : State) (o : Nat) : Option (Fin 9) := if h : o < 9 then s.workOf ⟨o, h⟩ else none

/-- The owner's work is held by CORE_HALT (R173, R422). -/
def State.workHeld (s : State) (o : Nat) : Bool :=
  match s.ownerWork o with
  | some w => s.work[w].held
  | none => false

/-- A solenoid channel is held safe: by the package, by owner Fh, or by CORE_HALT (R422). -/
def State.chHeld (s : State) (c : Fin 32) : Bool :=
  s.coll.safe || decide (s.edg.ch[c].owner = 0xF) || s.workHeld s.edg.ch[c].owner

/-- An ignition output is held safe (R422). -/
def State.ignHeld (s : State) (n : Fin 24) : Bool :=
  s.coll.safe || decide (s.edg.ign[n].owner = 0xF) || s.workHeld s.edg.ign[n].owner

/-- A channel is energised: in BOOST, PEAK, BYPASS or HOLD (R221). -/
def DrvCh.energised (c : DrvCh) : Bool :=
  match c.shot with
  | some h => decide (h.phase ≠ .recovery)
  | none => false

/-- The energised channels of a bank. -/
def State.energised (s : State) (b : Fin 8) : List (Fin 4) :=
  (List.finRange 4).filter fun k => (s.drv.ch[chOf b k]).energised

/-- Regulation by LS (R221): more than one channel energised, or a lead other than the energised channel. -/
def State.lsReg (s : State) (b : Fin 8) : Bool :=
  match s.energised b with
  | [] => false
  | [k] => decide (s.drv.bank[b].lead ≠ none) && decide (s.drv.bank[b].lead ≠ some k)
  | _ => true

/-- The phase of a channel's shot. -/
def State.phase (s : State) (c : Fin 32) : Option Phase := (s.drv.ch[c].shot).map (·.phase)

/-- The driver die drives nothing: it is in the safe actuation state, sees a safe line, or is not supplied. -/
def State.drvOff (s : State) : Bool :=
  s.drv.safe || s.coll.lineA || s.coll.lineB || !s.clocked || !s.sys.vbat

/-- LS of a channel is on (R219, R221). -/
def State.lsOn (s : State) (c : Fin 32) : Bool :=
  !s.drvOff && !s.chHeld c &&
    match s.drv.ch[c].shot with
    | none => false
    | some h =>
      match h.phase with
      | .boost => true
      | .peak => if s.lsReg (bankOf c) then h.swOn else true
      | .hold => if s.lsReg (bankOf c) then h.swOn else true
      | .bypass => !h.set.bypfast && decide ((s.energised (bankOf c)).length = 1)
      | .recovery => false

/-- A channel of the bank boosts, from the battery rail when batt. -/
def State.boosting (s : State) (b : Fin 8) (batt : Bool) : Bool :=
  (List.finRange 4).any fun k =>
    match s.drv.ch[chOf b k].shot with
    | some h => decide (h.phase = .boost) && decide (h.batt = batt)
    | none => false

/-- HSB of a bank is on (R219, R221). -/
def State.hsbOn (s : State) (b : Fin 8) : Bool := !s.drvOff && s.boosting b false

/-- HSV of a bank is on (R219, R221, R235). -/
def State.hsvOn (s : State) (b : Fin 8) : Bool :=
  !s.drvOff &&
    (s.boosting b true ||
      (!s.boosting b false &&
        match s.energised b with
        | [] => false
        | [k] =>
          if s.lsReg b then true
          else
            match s.drv.ch[chOf b k].shot with
            | some h => (decide (h.phase = .peak) || decide (h.phase = .hold)) && h.swOn
            | none => false
        | _ => true))

/-- A boost switch is on (R229). -/
def State.bstOn (s : State) (k : Fin 2) : Bool := !s.drvOff && s.rb Reg.bstCfg k.val 0 && s.drv.bst[k].on

/-- An ignition gate is fully on (R242): a held output is off, or in its soft-off ramp (R144). -/
def State.ignOn (s : State) (n : Fin 24) : Bool :=
  !s.drvOff && !s.ignHeld n && s.drv.ign[n].gate && decide (s.drv.ign[n].soft = none)

/-- IGSOFTg is asserted while a coil of the group is in soft-off (R144). -/
def State.igsoftOn (s : State) (g : Fin 3) : Bool :=
  s.clocked && s.sys.vio[3] &&
    (List.finRange 24).any fun n => decide (n.val / 8 = g.val) && decide (s.drv.ign[n].soft ≠ none)

/-- IGSOFTg is at high impedance while bank VIO3 is lost, and driven low otherwise while it is not asserted (R443, R475). -/
def State.igsoftFloats (s : State) : Bool := !s.sys.vio[3]

/-! ### Interrupt lines (R393, R394, R407) -/

/-- HINT_PEND (R393). -/
def State.hintPend (s : State) : Nat :=
  let fcls := s.rf Reg.hostCfg 0 3 2
  let fault := s.coll.fifo.any fun e => decide (fcls ≤ e.msg.cls)
  let tmr := (List.finRange 16).any fun n =>
    decide (s.tmr[n].owner = 0xC) &&
      decide (s.rf Reg.tmrStat n 3 1 &&& s.rf Reg.tmrEven n 2 0 ≠ 0)
  let jig := (List.finRange 8).any fun n =>
    decide (s.rf Reg.jigEvt n 1 0 &&& s.rf Reg.hintJig 0 (2 * n.val + 1) (2 * n.val) ≠ 0)
  let goal := (List.finRange 16).any fun g =>
    s.rb Reg.gpCfg g 11 && decide (s.ms.owner[8 + g.val] = 0xC) && decide (s.rf Reg.gpStat g 31 16 ≠ 0)
  let win := (List.finRange 16).any fun w => decide (s.ms.owner[24 + w.val] = 0xC) && s.rb Reg.winStat w 1
  let trc := s.trc.ring.toList.any (·.frozen)
  bitAt fault 0 + bitAt tmr 1 + bitAt jig 2 + bitAt goal 3 + bitAt win 4 + bitAt (s.svc.rdy || s.svc.nokey) 5
    + bitAt trc 6 + bitAt (s.rb Reg.hostStat 0 0) 7 + bitAt (s.rb Reg.hostStat 0 1) 8 + bitAt (s.rb Reg.hostStat 0 2) 9

/-- HINT0 or HINT1 is active (R394). -/
def State.hintActive (s : State) (en : RegRow) : Bool := s.clocked && decide (s.hintPend &&& s.rf en 0 9 0 ≠ 0)

/-- The level driven at an interrupt line: HPOL and HOD of R396; none is high impedance (R394). -/
def State.hintLevel (s : State) (en : RegRow) : Option Bool :=
  if !s.clocked || !s.sys.vio[0] then none
  else
    let pol := s.rb Reg.hostCfg 0 0
    let lvl := if s.hintActive en then pol else !pol
    if s.rb Reg.hostCfg 0 1 && lvl then none else some lvl

/-- ALERT# is asserted while the alert latch is set (R397, R407). -/
def State.alertOn (s : State) : Bool := s.clocked && s.sys.vio[0] && s.mnt.latch

/-! ### Jig and timer pins (R295, R297, R321, R324) -/

/-- PBASE of an engine: 24 to 31 act as 0 (R316). -/
def State.pbase (s : State) (e : Nat) : Nat := let b := s.rf Reg.jigCfg e 5 1; if b < 24 then b else 0

/-- JPk as driven: its level and whether it is at high impedance. -/
def State.jpPin (s : State) (k : Fin 24) : Bool × Bool :=
  if !s.clocked || !s.sys.vio[2] then (false, true)
  else
    let src := s.rf Reg.jpCfg k 3 0
    let idle := (s.rb Reg.jpCfg k 4 && !s.rb Reg.jpCfg k 5, s.rb Reg.jpCfg k 5)
    if h : src < 8 then
      let e : Fin 8 := ⟨src, h⟩
      let i := (k.val + 24 - s.pbase src) % 24
      if s.jig[e].run && decide (i < 8) then
        if s.jig[e].dirs.getLsbD i then (s.jig[e].outs.getLsbD i, false) else (false, true)
      else idle
    else idle

/-- TMRn_CMP as it sets the pin: the timer retention store's copy while it holds one (R330). -/
def State.tmrCmpWord (s : State) (n : Fin 16) : Word :=
  match s.ao.kept[n.val]? with
  | some k => ((k.regs.find? fun x => decide (x.1 = Reg.tmrCmp.addr n 0)).map (·.2)).getD (s.rg Reg.tmrCmp n)
  | none => s.rg Reg.tmrCmp n

/-- TPn as driven: its level and whether it is at high impedance; in STANDBY an output is at its idle state (R321, R327, R330). -/
def State.tpPin (s : State) (n : Fin 16) : Bool × Bool :=
  let cmp := s.tmrCmpWord n
  let linkedOdd := decide (n.val % 2 = 1) && s.rb Reg.tmrCfg (n.val - 1) 4
  if decide (s.sys.st = .off) || !s.sys.vio[2] || !bit cmp 4 then (false, true)
  else if s.sys.st = .standby then (bit cmp 5, false)
  else if !s.clocked then (false, true)
  else if !s.rb Reg.tmrCfg n 0 || linkedOdd || s.tmr[n].fault || (s.coll.safe && bit cmp 6) || decide (s.tmr[n].owner = 0xF)
  then (bit cmp 5, false)
  else (s.tmr[n].pin, false)

/-- A vector of bits as a bit vector. -/
def bitsOf (n : Nat) (f : Fin n → Bool) : BitVec n :=
  BitVec.ofNat n ((List.finRange n).foldl (fun a i => a + bitAt (f i) i.val) 0)

/-- Every ball as the state determines it. -/
def State.pinsOf (s : State) : Pins where
  ls := bitsOf 32 s.lsOn
  hsb := bitsOf 8 s.hsbOn
  hsv := bitsOf 8 s.hsvOn
  ign := bitsOf 24 s.ignOn
  igsoft := bitsOf 3 s.igsoftOn
  igsoftz := bitsOf 3 fun _ => s.igsoftFloats
  bst := bitsOf 2 s.bstOn
  safeA := s.coll.lineA
  safeB := s.coll.lineB
  hint0 := s.hintLevel Reg.hint0En
  hint1 := s.hintLevel Reg.hint1En
  alert := s.alertOn
  jp := bitsOf 24 fun k => (s.jpPin k).1
  jpz := bitsOf 24 fun k => (s.jpPin k).2
  tp := bitsOf 16 fun n => (s.tpPin n).1
  tpz := bitsOf 16 fun n => (s.tpPin n).2

/-- Bring the balls up to date. -/
def State.settle (s : State) : State := { s with pins := s.pinsOf }

/-- How every meaning ends: the next state, with its balls up to date. -/
def finish (s : State) : Out := .next s.settle

end Sys2Proof.Machine
end

