-- ==== Sys2Proof/Machine/Cues.lean ====
section
/-! DEFINITION. Who carries which work, and the cues with their queues (R22, R147, R162, R163). -/

namespace Sys2Proof.Machine

/-- Replace a work's state. -/
def State.setWork (s : State) (w : Fin 9) (f : Work → Work) : State := { s with work := upd s.work w f }

/-- Replace a cluster's state. -/
def State.setClu (s : State) (c : Fin 9) (f : Cluster → Cluster) : State := { s with clu := upd s.clu c f }

/-- The cluster that stands behind a work, whatever its role. -/
def State.home (s : State) (w : Fin 9) : Option (Fin 9) := (List.finRange 9).find? fun c => decide (s.clu[c].work = some w)

/-- A cluster runs a stroke program: ACTIVE or CARRYING (R22). -/
def Cluster.runs (c : Cluster) : Bool := decide (c.role = .active) || decide (c.role = .carrying)

/-- The ACTIVE or CARRYING cluster that carries a work (R147). -/
def State.carrier (s : State) (w : Fin 9) : Option (Fin 9) :=
  (s.home w).filter fun c => s.clu[c].runs

/-- The work number that a STOPPED cluster stands for: its own, unless another cluster stands behind that work (R177; log entry 48). -/
def State.ownNumber (s : State) (c : Fin 9) : Option (Fin 9) := if (s.home c).any fun x => decide (x ≠ c) then none else some c

/-- A STOPPED cluster without a work gets its own number, and its enables move into that work (R177; log entries 48 and 85). -/
def State.takeNumber (s : State) (c : Fin 9) : State :=
  match s.ownNumber c with
  | some w => (s.setClu c fun x => { x with work := some w }).setWork w fun x => { x with cueEn := s.clu[c].cueEn }
  | none => s

/-- The works that ACTIVE and CARRYING clusters carry, by rising number. -/
def State.liveWorks (s : State) : List (Fin 9) := (List.finRange 9).filter fun w => (s.carrier w).isSome

/-- The cluster whose registers count for a work (R152, R177); the work's own where none carries it. -/
def State.counterOf (s : State) (w : Fin 9) : Fin 9 := (s.home w).getD w

/-- The depth of a cue's queue; none for a latched cue (R162). -/
def cueDepth (cue : Nat) : Option Nat :=
  match cue with
  | 1 => some 4
  | 18 => some 32
  | 19 => some 8
  | 21 => some 16
  | 22 => some 16
  | 23 => some 8
  | 24 => some 8
  | 25 => some 16
  | _ => none

/-- An occurrence of a cue reaches the work's queues (R163, R175). -/
def State.raiseCue (s : State) (w : Fin 9) (q : CueOcc) : State :=
  let cs := s.work[w].cues
  let c := s.counterOf w
  match cueDepth q.cue with
  | none =>
    if cs.any (·.cue = q.cue) then
      (s.setWork w fun k => { k with cues := k.cues.map fun x => if x.cue = q.cue then q else x }).bump Reg.cluCueCnt c 15 0
    else s.setWork w fun k => { k with cues := k.cues ++ [q] }
  | some d =>
    if (cs.filter (·.cue = q.cue)).length < d then s.setWork w fun k => { k with cues := k.cues ++ [q] }
    else (s.bump Reg.cluCueCnt c 31 16).emit 1 Kind.cueLost (srcC 0 c.val 0xF) q.cue

/-- The crossing latency of a cue from the region that raises it: measurement 2, service 4, timing 0; HOST comes with a register
access that has crossed already (R21; log entry 90). -/
def cueCross (n : Nat) : Nat :=
  if n = 21 ∨ n = 22 ∨ n = 23 then 2 else if n = 24 ∨ n = 25 then 4 else 0

/-- A cue with its arguments, stamped with the TCLK of its event. -/
def State.cue (s : State) (w : Fin 9) (n g14 g12 stamp : Nat) : State :=
  s.raiseCue w ⟨n, wordN g14, wordN g12, stamp, s.now + cueCross n, []⟩

/-- A cue for the work of an owner: nothing where the owner is no cluster with a work (R27, R162). -/
def State.cueOwner (s : State) (owner n g14 g12 stamp : Nat) : State :=
  match s.ownerWork owner with
  | some w => s.cue w n g14 g12 stamp
  | none => s

/-- A cue for every ACTIVE and CARRYING cluster (R64). -/
def State.cueAll (s : State) (n g14 g12 stamp : Nat) : State :=
  s.liveWorks.foldl (fun t w => t.cue w n g14 g12 stamp) s


end Sys2Proof.Machine
end

