-- ==== Sys2Proof/Machine/Predictor.lean ====
section
/-! DEFINITION. The wheel's pattern as angles, the spline predictor's model between teeth, ANG_NOW and the learned map (R57
to R61, R89 to R110). Angles are in 1/256 at, instants in vernier steps; rates are exact (log entry 12). -/

namespace Sys2Proof.Machine

/-! ### The cycle and the wheel (R8, R57 to R61) -/

/-- The cycle C in at (R8): WHL_SYNC_CFG.STROKE chooses. -/
def State.cycle (s : State) : Nat := if s.rb Reg.whlSyncCfg 0 0 then 0x5A0000 else 0xB40000

/-- The cycle in 1/256 at. -/
def State.cyc256 (s : State) : Int := 256 * (s.cycle : Int)

/-- Positions of a wheel's pattern (R58). -/
def State.patN (s : State) (n : Fin 3) : Nat := s.rf Reg.whlxPatcfg n 9 0 + 1

/-- ANGLE of position p of a wheel (R57). -/
def State.patAng (s : State) (n : Fin 3) (p : Nat) : Nat := fld (s.rg Reg.whlxPat n p) 23 0

/-- A tooth stands at position p of a wheel; an uncorrectable word counts as absent (R32, R57). -/
def State.patPresent (s : State) (n : Fin 3) (p : Nat) : Bool :=
  bit (s.rg Reg.whlxPat n p) 24 && !s.wordBad (Reg.whlxPat.addr n p)

/-- The present positions of WHL0, rising. -/
def State.present (s : State) : List Nat := (List.range (s.patN 0)).filter (s.patPresent 0)

/-- The present position after p in the direction of rotation. -/
def State.nextPos (s : State) (rev : Bool) (p : Nat) : Nat :=
  let n := s.patN 0
  let cand := (List.range n).map fun i => if rev then (p + 2 * n - 1 - i) % n else (p + 1 + i) % n
  (cand.find? (s.patPresent 0)).getD p

/-- HALF carried over a step from p to q (R61, R83): it changes where the step passes position 0. -/
def stepHalf (rev : Bool) (p q : Nat) (half : Bool) : Bool :=
  if rev then (if p ≤ q then !half else half) else (if q ≤ p then !half else half)

/-- The expected pitch of present position p in a direction, in at (R59, R78). Where no other position is present, which R60 lets pass on
a WHL0 pattern, the pitch is the whole span (DESIGN CHOICE, log entry 93). -/
def State.expPitch (s : State) (rev : Bool) (p : Nat) : Nat :=
  let q := s.nextPos (!rev) p
  let d := if rev then (s.patAng 0 q + 0x5A0000 - s.patAng 0 p) % 0x5A0000
    else (s.patAng 0 p + 0x5A0000 - s.patAng 0 q) % 0x5A0000
  if d = 0 then 0x5A0000 else d

/-- The expected ratio of present position p in a direction (R59, R65). -/
def State.expRatio (s : State) (rev : Bool) (p : Nat) : Rat :=
  (s.expPitch rev p : Rat) / (s.expPitch rev (s.nextPos (!rev) p) : Rat)

/-- Position p is a gap end in a direction: it follows a missing position (R59). -/
def State.gapEnd (s : State) (rev : Bool) (p : Nat) : Bool :=
  let n := s.patN 0
  !s.patPresent 0 (if rev then (p + 1) % n else (p + n - 1) % n)

/-- GAPTOL/32 as R73 and R65 use it (R88). -/
def State.gapTol (s : State) : Rat := (max 1 (s.rf Reg.whlThr 0 12 9) : Nat) / 32

/-- A measured ratio within E × (1 ± GAPTOL/32). -/
def State.ratioFits (s : State) (m e : Rat) : Bool := decide (e * (1 - s.gapTol) ≤ m) && decide (m ≤ e * (1 + s.gapTol))

/-- The acceptance test of R68, both in vernier steps. -/
def passes (m q : Nat) : Bool := decide (q ≤ 2 * m) && decide (m ≤ 2 * q)

/-- A register word as the model uses it: a changed word counts from the next accepted tooth on (R105, R115). -/
def State.pw (s : State) (r : RegRow) (i : Nat := 0) : Word :=
  match s.prd.heldRegs.find? fun x => decide (x.1 = r.addr i 0) with
  | some x => x.2
  | none => s.rg r i

/-- The model keeps the present word until the next accepted tooth. -/
def State.holdWord (s : State) (r : RegRow) (i : Nat := 0) : State :=
  if s.prd.heldRegs.any fun x => decide (x.1 = r.addr i 0) then s
  else { s with prd := { s.prd with heldRegs := s.prd.heldRegs ++ [(r.addr i 0, s.rg r i)] } }

/-- An accepted tooth: changed words come into use. -/
def State.freshWords (s : State) : State := { s with prd := { s.prd with heldRegs := [] } }

/-- CORR of a position, signed, in 1/16 at; position 0 is the anchor, and an uncorrectable word counts as absent (R32, R101). -/
def State.corr (s : State) (p : Nat) : Int :=
  if p = 0 ∨ s.wordBad (Reg.toothmap.addr p 0) then 0 else sx 20 (fld (s.pw Reg.toothmap p) 19 0)

/-- The angle of position p in half h, in 1/256 at: R61 with the learned correction. -/
def State.toothAng (s : State) (half : Bool) (p : Nat) : Int :=
  let h := if half && decide (s.cycle = 0xB40000) then 0x5A0000 else 0
  (((s.rf Reg.whl0Zero 0 23 0 + h + s.patAng 0 p) % s.cycle : Nat) * 256 + 16 * s.corr p) % s.cyc256

/-- The learned pitch from one angle to another in a direction, in 1/256 at. -/
def State.pitchTo (s : State) (rev : Bool) (x y : Int) : Int :=
  let d := if rev then (x - y) % s.cyc256 else (y - x) % s.cyc256
  if d = 0 then s.cyc256 else d

/-- The learned pitch from a tooth to the next present position. -/
def State.nextPitch (s : State) (rev half : Bool) (p : Nat) : Int :=
  let q := s.nextPos rev p
  s.pitchTo rev (s.toothAng half p) (s.toothAng (stepHalf rev p q half) q)

/-! ### Combined sync state (R63, R365) -/

/-- The sync state that the rules follow: the local one, or on a package in a system that is not captain the combined
one (R365, R373). -/
def State.sync (s : State) : Sync :=
  if !s.rb Reg.fabCfg 0 0 then s.whl.sync
  else if s.fab.capt then (if s.fab.took && decide (s.whl.sync = .tooth) then .full else s.whl.sync)
  else s.fab.csync

/-- The sync state's code (R63). -/
def Sync.code : Sync → Nat
  | .nosync => 0 | .provisional => 1 | .tooth => 2 | .full => 3

/-! ### The model (R91 to R96) -/

/-- Q as TCLK. -/
def Seg.qT (g : Seg) : Rat := (g.q : Rat) / 16

/-- Angle run since the tooth, in at, at tau TCLK (R91, R92). -/
def Seg.run (g : Seg) (tau : Rat) : Rat :=
  let q := g.qT
  if tau ≤ q then g.ω * tau + g.α * tau * tau / 2
  else g.ω * q + g.α * q * q / 2 + (g.ω + g.α * q) * (tau - q)

/-- The model rate at tau TCLK, in at per TCLK (R91, R92). -/
def Seg.rateAt (g : Seg) (tau : Rat) : Rat := if tau ≤ g.qT then g.ω + g.α * tau else g.ω + g.α * g.qT

/-- TCLK since the tooth at an instant in vernier steps. -/
def Seg.tau (g : Seg) (t : Nat) : Rat := ((t : Int) - (g.t : Int) : Int) / 16

/-- Angle run since the tooth at an instant in vernier steps, cut to 1/256 at so that the angle is cut downwards (log entry 12). -/
def Seg.run256 (g : Seg) (t : Nat) : Int :=
  let d : Rat := 256 * g.run (g.tau t)
  if g.rev then d.ceil else d.floor

/-- The model angle at an instant in vernier steps (R91). -/
def State.segAng (s : State) (g : Seg) (t : Nat) : Int := (if g.rev then g.θ - g.run256 t else g.θ + g.run256 t) % s.cyc256

/-- The segment in force at a TCLK: the newest from its publication on (R23, R93). -/
def State.segAt (s : State) (t : Nat) : Option Seg := if t < s.prd.pub then s.prd.old else s.prd.seg

/-- The TCLK from which the measurement region uses the newest segment: 2 after its publication to the clusters (R21, R23). -/
def State.pubMeas (s : State) : Nat := s.prd.pub + 2

/-- The segment that the measurement region uses at a TCLK. -/
def State.segMeas (s : State) (t : Nat) : Option Seg := if t < s.pubMeas then s.prd.old else s.prd.seg

/-- The model angle θ_m at a TCLK (R90, R131). -/
def State.modelAng (s : State) (t : Nat) : Option Int := (s.segAt t).map fun g => s.segAng g (16 * t)

/-- How far x lies ahead of y in a direction, reduced into ± half cycle. -/
def State.ahead (s : State) (rev : Bool) (x y : Int) : Int := wrapHalf s.cyc256 (if rev then y - x else x - y)

/-- ANG_NOW at a TCLK with its 8 further fractional bits, whether or not it is marked valid; a hold ends once the model reaches the
angle held (R89, R93). Where R91 gives a negative ω the model angle, and ANG_NOW with it, runs back (DESIGN CHOICE, log entry 93). -/
def State.angFine (s : State) (t : Nat) : Option Int :=
  let old := decide (t < s.prd.pub)
  let seg := if old then s.prd.old else s.prd.seg
  let held := if old then s.prd.oldHeld else s.prd.held
  seg.map fun g =>
    match held with
    | none => s.segAng g (16 * t)
    | some h => if g.run256 (16 * t) < h.reach then h.ang else s.segAng g (16 * t)

/-- How far the crank has travelled in the forward direction by now, in 1/256 at from an origin of the model's own (R166). -/
def State.travel (s : State) : Int :=
  s.prd.run + match s.prd.seg with
    | some g => if g.rev then -g.run256 (16 * s.now) else g.run256 (16 * s.now)
    | none => 0

/-- ANG_NOW is valid (R63, R108). -/
def State.angValid (s : State) : Bool :=
  !s.prd.noInst && s.prd.seg.isSome && (decide (s.sync = .full) || decide (s.sync = .provisional))

/-- ANG_NOW in at at a TCLK; none when invalid (R63, R89). -/
def State.angAt (s : State) (t : Nat) : Option Nat :=
  if s.angValid then (s.angFine t).map fun x => (x % s.cyc256 / 256).toNat else none

/-- ANG_NOW as the service region has it: that of 4 TCLK earlier, valid or not as it was then (R21). -/
def State.angLate (s : State) : Option Nat :=
  let t := s.now - 4
  match s.whl.gone.find? fun x => decide (x.1 = t) with
  | some x => some x.2
  | none => if s.whl.validAt ≤ t then s.angAt t else none

/-- ANG_NOW of the present TCLK. -/
def State.angNow (s : State) : Option Nat := s.angAt s.now

/-- RATE as published, the magnitude of the model rate (R89, R96), UQ4.28. -/
def State.rateNow (s : State) : Nat :=
  match s.segAt s.now with
  | some g => min (roundN (magQ (g.rateAt (g.tau (16 * s.now))) * 2 ^ 28)) (2 ^ 32 - 1)
  | none => s.prd.rate

/-- ACC as published (R89): 0 in NOSYNC. -/
def State.accNow (s : State) : Int :=
  match s.segAt s.now with
  | some g => clampI (-2147483648) 2147483647 (roundQ (g.α * 2 ^ 40))
  | none => 0

/-! ### The ripple model (R98) -/

/-- A rational approximation of π. -/
def piQ : Rat := 314159265358979323846 / 100000000000000000000

/-- The sine by its series to the 21st power, for an argument within ±π (log entry 12). -/
def sinQ (x : Rat) : Rat :=
  let r := (List.range 11).foldl (fun (acc : Rat × Rat) i =>
    let term := if i = 0 then x else -acc.2 * x * x / ((2 * i * (2 * i + 1) : Nat) : Rat)
    (acc.1 + term, term)) (0, 0)
  r.1

/-- SHAPE_j / 32768 (R98, R114). -/
def State.shapeAt (s : State) (j : Nat) : Rat :=
  if j ≥ 32 then 0
  else (sx 16 (fld (s.pw Reg.shape (j / 2)) (if j % 2 = 1 then 31 else 15) (if j % 2 = 1 then 16 else 0)) : Rat) / 32768

/-- The shape s(x) of R98; x in at, reduced. 5.625 °CA is 92,160 at. -/
def State.shapeS (s : State) (x : Rat) : Rat :=
  if x < -1474560 ∨ x > 1474560 then 0
  else
    let u := (x + 1474560) / 92160
    let j := u.floor.toNat
    s.shapeAt j + (s.shapeAt (j + 1) - s.shapeAt j) * (u - (j : Rat))

/-- The difference of an angle and a slot's TDC, reduced into ± half cycle, in 1/256 at and in at (R98). -/
def State.tdc256 (s : State) (θ : Int) (n : Nat) : Int := wrapHalf s.cyc256 (θ - 256 * (fld (s.pw Reg.ripCfg n) 23 0 : Int))
def State.tdcDiff (s : State) (θ : Int) (n : Nat) : Rat := (s.tdc256 θ n : Rat) / 256

/-- Slot n is enabled; its gain in at per TCLK squared (R98, R114). -/
def State.ripOn (s : State) (n : Nat) : Bool := bit (s.pw Reg.ripCfg n) 24
def State.ripGainQ (s : State) (n : Nat) : Rat := (sx 24 (fld (s.pw Reg.ripGain n) 23 0) : Rat) / 2 ^ 40

/-- MASSK / 65536, 0 while MASS_EN = 0 (R98). -/
def State.massQ (s : State) : Rat :=
  if bit (s.pw Reg.prdCfg) 3 then (sx 16 (fld (s.pw Reg.prdMass) 15 0) : Rat) / 65536 else 0

/-- RIP_EN as the model uses it. -/
def State.ripEn (s : State) : Bool := bit (s.pw Reg.prdCfg) 1

/-- Twice an angle difference x in 1/256 at as an angle in radians within ±π: 5,898,240 at are 2π (R98). -/
def twiceRad (x : Int) : Rat := (wrapHalf (256 * 5898240) (2 * x) : Rat) * 2 * piQ / (256 * 5898240)

/-- The ripple acceleration r(θ) of R98 at the model rate ω. -/
def State.ripple (s : State) (θ : Int) (ω : Rat) : Rat :=
  let slot (n : Nat) : Rat :=
    if !s.ripOn n then 0
    else s.ripGainQ n * s.shapeS (s.tdcDiff θ n) - s.massQ * ω * ω * (2 * piQ / 5898240) * sinQ (twiceRad (s.tdc256 θ n))
  (List.range 24).foldl (fun a n => a + slot n) 0

/-- Q in vernier steps, held at 2^29 TCLK, and whether it is held (R94). -/
def heldQ (q : Nat) : Nat × Bool := (min q (2 ^ 33), decide (2 ^ 33 < q))

/-- A segment from its tooth, rate and acceleration: R91's α̂ and Q with the limits of R92 and R94. Where the denominator of Q is
not positive the tooth is never reached, and Q is held (DESIGN CHOICE, log entry 81). -/
def State.mkSeg (s : State) (θ : Int) (t : Nat) (ω a : Rat) (p1 : Int) (rev plain : Bool) : Seg :=
  let p : Rat := (p1 : Rat) / 256
  let half := if rev then θ - p1 / 2 else θ + p1 / 2
  let α0 := if !plain && s.ripEn then a - s.ripple θ ω + s.ripple half ω else a
  let lo := (ω * ω / 4 - ω * ω) / (2 * p)
  let hi := (4 * ω * ω - ω * ω) / (2 * p)
  let α := if α0 < lo then lo else if α0 > hi then hi else α0
  let den := ω + sqrtQ (ω * ω + 2 * α * p)
  let q := if den ≤ 0 then (2 ^ 33, true) else heldQ (roundN (16 * (2 * p / den)))
  ⟨θ % s.cyc256, t, ω, α, q.1, q.2, p1, rev⟩

/-- Publish a new segment at TCLK pub, with the decision of R93; the gated measurement region discards its copy (R36). -/
def State.publish (s0 : State) (g : Seg) (pub : Nat) : State :=
  let s := s0.intoMeas id
  let before := s.angFine (pub - 1)
  let n := s.segAng g (16 * pub)
  let held := match before with
    | some a => let k := s.ahead g.rev a n; if 0 < k then some ⟨a, g.run256 (16 * pub) + k⟩ else none
    | none => none
  let settled := decide (s.prd.pub ≤ pub)
  { s with prd := { s.prd with
      old := if settled then s.segAt (pub - 1) else s.prd.old
      oldHeld := if s.prd.pub ≤ pub - 1 then s.prd.held else s.prd.oldHeld
      seg := some g, held := held, pub := pub } }

/-- A tooth in a direction other than that of the model in force (R78). -/
def State.turnedAt (s : State) (rev : Bool) : Bool :=
  match s.prd.seg with
  | some g => g.rev != rev
  | none => false

/-- The first qualified edge of R95: sets t; no rate; the angle is published at TCLK pub. θ is none where positions are unknown. The
gated measurement region discards its copy (R36). -/
def State.prdFirst (s0 : State) (t : Nat) (θ : Option Int) (δ : Int) (rev : Bool) (pub : Nat) : State :=
  let s := s0.intoMeas id
  let g : Option Seg := θ.map fun x => ⟨(x + δ) % s.cyc256, t, 0, 0, 0, false, 0, rev⟩
  { s with prd := { s.prd with
      stage := .first, lastT := t, lastθ := θ, seg := g, old := if s.now < pub then none else g, oldHeld := none, held := none,
      pub := pub } }

/-- The second edge of R95: w = P / D with zero acceleration, and the first Q is D scaled by e, the expected ratio of the next
position. θ is the local angle; δ carries it to the captain's (R363). -/
def State.prdSecond (s : State) (t : Nat) (θ δ p p1 : Int) (e : Rat) (rev : Bool) (pub : Nat) : State :=
  let d := t - s.prd.lastT
  let w : Rat := if d = 0 then 0 else (p : Rat) / 256 / ((d : Rat) / 16)
  let s1 : State := { s with prd := { s.prd with stage := .running, lastT := t, lastθ := some θ, lastW := w, lastD := d, a := 0 } }
  let q := heldQ (roundN ((d : Rat) * e))
  s1.publish { s1.mkSeg (θ + δ) t w 0 p1 rev true with q := q.1, qsat := q.2 } pub

/-- An accepted tooth under R91, with θ, δ and e as in prdSecond. P is taken between local angles on a disciplined node too (DESIGN
CHOICE, log entry 81). At a change of direction P and w of the pitches before count in the new direction (log entry 79). -/
def State.prdTooth (s : State) (t : Nat) (θ δ p1 : Int) (e : Rat) (rev : Bool) (pub : Nat) : State :=
  let turned := s.turnedAt rev
  let pitch (θ0 : Int) : Int := if turned then wrapHalf s.cyc256 (if rev then θ0 - θ else θ - θ0) else s.pitchTo rev θ0 θ
  match s.prd.lastθ, s.prd.stage with
  | some θ0, .running =>
    let p := pitch θ0
    let lastW := if turned then -s.prd.lastW else s.prd.lastW
    let d := t - s.prd.lastT
    let dT : Rat := (d : Rat) / 16
    let w : Rat := if d = 0 then 0 else (p : Rat) / 256 / dT
    let a : Rat := (w - lastW) / ((dT + (s.prd.lastD : Rat) / 16) / 2)
    let ω := w + a * dT / 2
    let s1 : State := { s with prd := { s.prd with lastT := t, lastθ := some θ, lastW := w, lastD := d, a := a } }
    s1.publish (s1.mkSeg (θ + δ) t ω a p1 rev false) pub
  | some θ0, .first => s.prdSecond t θ δ (pitch θ0) p1 e rev pub
  | _, _ => s.prdFirst t (some θ) δ rev pub

/-- A dowel tooth under R95: the predicted instant and the expected angle, the rate of the model there. -/
def State.prdDowel (s : State) (t : Nat) (θ p1 : Int) (pub : Nat) : State :=
  match s.prd.seg with
  | some g => s.publish (s.mkSeg θ t (g.rateAt (g.tau t)) s.prd.a p1 g.rev false) pub
  | none => s

/-- NOSYNC: positions are unknown; only the mean rate is published (R96), and nothing while no predictor is active (R108). The gated
measurement region discards its copy (R36). -/
def State.prdNosync (s0 : State) (t : Nat) (p1 p2 : Option Nat) : State :=
  let s := if p1.isSome && p2.isSome && !s0.prd.noInst then s0.intoMeas id else s0
  let rate := match p1, p2 with
    | some x, some y =>
      if min x y = 0 then 0 else roundN ((0x5A0000 : Rat) / (s.patN 0 : Rat) / ((min x y : Nat) : Rat) * 2 ^ 28)
    | _, _ => 0
  let rate := if s.prd.noInst then 0 else rate
  { s with prd := { s.prd with
      stage := .first, lastT := t, lastθ := none, seg := none, old := none, oldHeld := none, held := none, pub := s.now, rate := min rate (2 ^ 32 - 1) } }

/-- The clean revolution that a PRED_DISAGREE asks for has not been made: it begins anew (R108). -/
def Predictor.owed (p : Predictor) : Predictor := { p with noLearn := if p.noLearn = 0 then 0 else 2 }

/-- Forget the model: at a drop to NOSYNC the published angle is invalid (R75). A revolution that the drop cuts off does not count in
LRNSKIP (DESIGN CHOICE, log entry 91). -/
def State.prdDrop (s : State) : State :=
  { s with prd := { s.prd.owed with
      seg := none, old := none, held := none, oldHeld := none, pub := s.now, lastθ := none, learn := [], learnOk := false,
      learnOpen := false } }

/-- The model carried over by one crank revolution: what HALF found or taken over anew asks of the angles held (R66). -/
def State.prdTurn (s : State) : State :=
  let f (x : Int) : Int := (x + 256 * 0x5A0000) % s.cyc256
  { s with prd := { s.prd with
      lastθ := s.prd.lastθ.map f, seg := s.prd.seg.map fun g => { g with θ := f g.θ },
      old := s.prd.old.map fun g => { g with θ := f g.θ }, held := s.prd.held.map fun h => { h with ang := f h.ang }
      oldHeld := s.prd.oldHeld.map fun h => { h with ang := f h.ang } } }

/-- The last real tooth's angle in the other half of the cycle: HALF was found anew at the tooth that follows it (R363). -/
def State.prdOtherHalf (s : State) : State :=
  { s with prd := { s.prd with lastθ := s.prd.lastθ.map fun x => (x + 256 * 0x5A0000) % s.cyc256 } }

/-- The newest Q in vernier steps, for the tests of R68 to R70. -/
def State.qNew (s : State) : Option Nat :=
  match s.prd.seg with
  | some g => if g.q = 0 then none else some g.q
  | none => none

/-! ### Learning (R97, R100 to R105) -/

/-- The model rate as crank speed is at least MINRPM (R100, R102, R112). -/
def State.fastEnough (s : State) (ω : Rat) : Bool :=
  decide (((nearer 10 6000 (s.rf Reg.prdLrn 0 11 0) : Nat) : Rat) ≤ ω * 250000000 * 60 / 5898240)

/-- Learning is possible at all: a checker compares, no PRED_DISAGREE is being worked off, FREEZE is 0 (R97, R108, R109). -/
def State.mayLearn (s : State) : Bool :=
  s.prd.chkon && decide (s.prd.noLearn = 0) && !s.rb Reg.prdMapCtl 0 0 && decide (s.whl.sync = .full) && !s.whl.rev
    && !s.whl.fuelSup

/-- Gain learning at an accepted tooth (R100). -/
def State.gainLearn (s : State) : State :=
  match s.prd.seg with
  | none => s
  | some g =>
    if !(s.mayLearn && s.ripEn && s.rb Reg.prdCfg 0 2 && s.whl.bad.isNone && s.fastEnough g.ω) then s
    else
      let per := s.present.length * (if s.cycle = 0xB40000 then 2 else 1)
      let ee := s.prd.a - s.ripple g.θ g.ω - s.prd.abar
      let s1 : State := { s with prd := { s.prd with abar := s.prd.abar + ee / (max 1 per : Nat) } }
      let k := nearer 4 15 (s.rf Reg.prdCfg 0 11 8)
      (List.range 24).foldl (fun t n =>
        let sh := t.shapeS (t.tdcDiff g.θ n)
        if t.ripOn n ∧ sh ≠ 0 then
          let v := sx 24 (t.rf Reg.ripGain n 23 0)
          let v' := clampI (-8388608) 8388607 (roundQ ((v : Rat) + ee * 2 ^ 40 * sh / 2 ^ k))
          (t.holdWord Reg.ripGain n).setRf Reg.ripGain n 23 0 (unsx 24 v')
        else t) s1

/-- The cosine by its series to the 20th power, for an argument within ±π (log entry 12). -/
def cosQ (x : Rat) : Rat :=
  ((List.range 11).foldl (fun (acc : Rat × Rat) i =>
    let term := if i = 0 then 1 else -acc.2 * x * x / (((2 * i - 1) * (2 * i) : Nat) : Rat)
    (acc.1 + term, term)) (0, 0)).1

/-- A map word; an uncorrectable one counts as absent, so as 0 (R32). -/
def State.mapWord (s : State) (p : Nat) : Word := if s.wordBad (Reg.toothmap.addr p 0) then 0 else s.rg Reg.toothmap p

/-- Mean rate and mid time of a run of pitches that begins at step t0: (rate, mid, end). -/
def halfRate (t0 : Rat) (l : List LearnPitch) : Rat × Rat × Rat :=
  let p : Rat := (l.foldl (fun a x => a + x.p) 0 : Int)
  let d : Rat := (l.foldl (fun a x => a + x.d) 0 : Nat)
  (if d = 0 then 0 else p / d, t0 + d / 2, t0 + d)

/-- The first and second integrals of the shape s(x) of R98 from far below, x in at. -/
def State.shapeInt (s : State) (x : Rat) : Rat × Rat :=
  let h : Rat := 92160
  let cell (acc : Rat × Rat) (j : Nat) : Rat × Rat :=
    let v := (x + 1474560 - h * (j : Rat)) / h
    let u := if v < 0 then 0 else if 1 < v then 1 else v
    let a := s.shapeAt j
    let b := s.shapeAt (j + 1) - a
    (acc.1 + h * (a * u + b * u * u / 2), acc.2 + acc.1 * u * h + h * h * (a * u * u / 2 + b * u * u * u / 6))
  let r := (List.range 32).foldl cell (0, 0)
  if 1474560 < x then (r.1, r.2 + r.1 * (x - 1474560)) else r

/-- The same over the shape and its repetition one cycle later. -/
def State.shapeInt2 (s : State) (x : Rat) : Rat × Rat :=
  let a := s.shapeInt x
  let b := s.shapeInt (x - (s.cycle : Rat))
  (a.1 + b.1, a.2 + b.2)

/-- u of R103 in at per TCLK, d at past the revolution's start at θ0 (1/256 at), at the mean rate ω: the integral of r over angle
divided by ω, less its mean over the revolution; of the mass part that is a cosine (log entry 13). -/
def State.rippleU (s : State) (θ0 : Int) (ω d : Rat) : Rat :=
  let slot (n : Nat) : Rat :=
    if !s.ripOn n then 0
    else
      let x0 := s.tdcDiff θ0 n
      let mean := ((s.shapeInt2 (x0 + 5898240)).2 - (s.shapeInt2 x0).2) / 5898240
      let gas := if ω = 0 then 0 else s.ripGainQ n / ω * ((s.shapeInt2 (x0 + d)).1 - mean)
      gas + s.massQ * ω / 2 * cosQ (twiceRad (s.tdc256 (θ0 + roundQ (256 * d)) n))
  (List.range 24).foldl (fun a n => a + slot n) 0

/-- The map words that a learned revolution gives, in order of position (R103); θc is the angle of its closing tooth. The spec states
no result for a CORR beyond its 20 bits: it is a free value (log entry 91). -/
def State.mapUpdate (s : State) (l : List LearnPitch) (θc : Int) : List (Nat × Word) :=
  let n := l.length
  let h1 := halfRate 0 (l.take (n / 2))
  let h2 := halfRate h1.2.2 (l.drop (n / 2))
  let line (t : Rat) : Rat :=
    if h2.2.1 = h1.2.1 then h1.1 else h1.1 + (h2.1 - h1.1) * (t - h1.2.1) / (h2.2.1 - h1.2.1)
  let θ0 := θc - 256 * 0x5A0000
  let ω := (halfRate 0 l).1 / 16
  let u (x : Int) : Rat := if s.ripEn then 16 * s.rippleU θ0 ω ((x : Rat) / 256) else 0
  let est := (l.foldl (fun (acc : List Rat × Rat × Int) (x : LearnPitch) =>
    let d : Rat := x.d
    (acc.1 ++ [(line (acc.2.1 + d / 2) + u (acc.2.2 + x.p / 2)) * d], acc.2.1 + d, acc.2.2 + x.p)) ([], 0, 0)).1
  let tot := est.foldl (· + ·) 0
  let k : Rat := if tot = 0 then 0 else (0x5A0000 * 256 : Nat) / tot
  let clip : Rat := ((max 1 (s.rf Reg.prdLrn 0 27 16) : Nat) : Rat)
  let lr := nearer 2 12 (s.rf Reg.prdCfg 0 7 4)
  let go := (l.zip est).foldl (fun (acc : List (Nat × Word) × Rat) xe =>
    let r0 : Rat := (xe.2 * k - (xe.1.p : Rat)) / 256
    let r := if r0 < -clip then -clip else if r0 > clip then clip else r0
    let sum := acc.2 + r
    let w := s.mapWord xe.1.pos
    let conf := fld w 27 20
    let c : Rat := (sx 20 (fld w 19 0) : Rat) + (if conf < 8 then 16 * sum / 4 else 16 * sum / 2 ^ lr)
    let n := roundQ c
    let c' := if xe.1.pos = 0 then 0
      else if n < -524288 ∨ 524287 < n then (Config.freeWord (s.free + xe.1.pos)).toNat % 2 ^ 20
      else unsx 20 n
    (acc.1 ++ [(xe.1.pos, setFld (setFld w 19 0 c') 27 20 (min 255 (conf + 1)))], sum)) ([], 0)
  go.1

/-- The halves of a revolution differ by no more than ACCG/256 of their mean (R102). The halves, here and in R103, divide its pitches
by number (DESIGN CHOICE, log entry 81). -/
def State.steady (s : State) (l : List LearnPitch) : Bool :=
  let n := l.length
  let a := (halfRate 0 (l.take (n / 2))).1
  let b := (halfRate 0 (l.drop (n / 2))).1
  let g : Rat := ((max 1 (s.rf Reg.prdLrn 0 15 12) : Nat) : Rat)
  decide ((if a < b then b - a else a - b) ≤ g / 256 * ((a + b) / 2))

/-- A bad tooth, a suspect or a retroactive acceptance spoils the revolution being learned (R102). -/
def State.spoilLearn (s : State) : State := { s with prd := { s.prd with learnOk := false } }

/-- A turn of the crank spoils the revolution being learned, and the clean one that R108 asks for. -/
def State.spoilTurn (s : State) : State := { s with prd := { s.prd.owed with learnOk := false } }

/-- A revolution ends at a forward tooth of position 0 (R102 to R104); the next one begins there, and may be learned where the
sync is FULL and FUELSUP is 0. θ is the tooth's angle. LRN_EN, FREEZE and CHKON are asked at the close alone, and a revolution that
only a PRED_DISAGREE bars counts in LRNSKIP (DESIGN CHOICE, log entry 91). After a PRED_DISAGREE learning begins again once a
revolution from position 0 to position 0 has compared clean (R108). -/
def State.revClose (s : State) (θ : Int) : State :=
  let l := s.prd.learn
  let rate : Rat := (halfRate 0 l).1 * 16 / 256
  let whole := decide (l.length = s.present.length)
  let good := s.prd.learnOpen && s.rb Reg.prdCfg 0 0 && s.mayLearn && s.prd.learnOk && whole && s.fastEnough rate && s.steady l
  let s1 : State := { s with prd := { s.prd with
    learn := [], learnOpen := true, learnOk := decide (s.whl.sync = .full) && !s.whl.fuelSup
    noLearn := if s.prd.chkon then s.prd.noLearn - 1 else s.prd.owed.noLearn } }
  if good then { s1 with free := s.free + 1024, prd := { s1.prd with shadow := some (s.mapUpdate l θ), shadowDone := false } }
  else if s.prd.learnOpen then s1.bump Reg.prdCnt 0 31 16
  else s1

/-- A placed tooth for the map: the pitch is kept, and one at position 0 ends the revolution (R102 to R104); sup: FUELSUP stood
during the pitch. A reverse tooth spoils the revolution. -/
def State.mapLearn (s : State) (pos : Nat) (p : Int) (d : Nat) (θ : Int) (sup : Bool) : State :=
  if s.whl.rev then { s with prd := { s.prd.owed with learn := [], learnOk := false } }
  else
    let s1 : State := { s with prd := { s.prd with
      learn := s.prd.learn ++ [⟨pos, p, d⟩], learnOk := s.prd.learnOk && decide (s.whl.sync = .full) && !sup } }
    if pos = 0 then s1.revClose θ else s1

/-- A completed and matching map update takes effect at the first accepted tooth after its completion (R104): also where FREEZE was set,
the map written or the sync lost meanwhile (DESIGN CHOICE, log entry 91). -/
def State.mapApply (s : State) : State :=
  match s.prd.shadow with
  | some ws =>
    if s.prd.shadowDone then
      let s1 := ws.foldl (fun t x => (t.setRg Reg.toothmap x.1 0 x.2).unflip (Reg.toothmap.addr x.1 0)) s
      ({ s1 with prd := { s1.prd with shadow := none, shadowDone := false } } : State).bump Reg.prdCnt 0 15 0
    else s
  | none => s

/-- A retired or tested instance that passed its over is reloaded, and roles exchange, at an accepted tooth (R109, R110). -/
def State.prdInstances (s : State) : State :=
  let p := s.prd
  let p1 := if p.overPassed then { p with overPassed := false, chkon := !p.retA && !p.retB && !p.noInst } else p
  let p2 := if p1.exchange && p1.chkon then { p1 with exchange := false, act := !p1.act } else p1
  { s with prd := p2 }

end Sys2Proof.Machine
end

