-- ==== Sys2Proof/Machine/Trace.lean ====
section
/-! DEFINITION. Trace memory: the rings with their staging queues, freezing, the words' checks and the scrubber (chapter
Trace Memory). A staged slot is its eight 64-bit words, without the SEQ and LOSS that its write gives it. -/

namespace Sys2Proof.Machine

/-- Host address of trace memory (R44). -/
def traceBase : Nat := 0x100000000

/-- Slots of a ring (R286). -/
def State.ringSlots (s : State) (r : Fin 3) : Nat := (s.rf Reg.ringCfg r 10 1 + 1) * 16384

/-- The ring is enabled. -/
def State.ringEn (s : State) (r : Fin 3) : Bool := s.rb Reg.ringCfg r 0

/-- The MiB at which a ring begins and the MiB after its end. -/
def State.ringLo (s : State) (r : Fin 3) : Nat := s.rf Reg.ringBase r 11 0
def State.ringHi (s : State) (r : Fin 3) : Nat := s.ringLo r + s.rf Reg.ringCfg r 10 1 + 1

/-- FULL: with MODE = 1, advancing WP would make it equal RP, as it stood before a write of the present TCLK (R288). -/
def State.ringFull (s : State) (r : Fin 3) : Bool :=
  s.rb Reg.ringCfg r 11 && decide ((s.trc.ring[r].wp + 1) % s.ringSlots r = fld (s.rgThen Reg.ringRp r) 23 0)

/-- Replace a ring's state. -/
def State.setRing (s : State) (r : Fin 3) (f : Ring → Ring) : State :=
  { s with trc := { s.trc with ring := upd s.trc.ring r f } }

/-- A record turned away: DROP counts, the first drop emits TRC_DROP, and the next slot has LOSS (R288). -/
def State.ringDrop (s : State) (r : Fin 3) : State :=
  let s1 := if s.rf Reg.ringStat r 31 16 = 0 then s.emit 0 Kind.trcDrop (srcC 2 4 r) 0 else s
  (s1.bump Reg.ringStat r 31 16).setRing r fun g => { g with loss := true }

/-- Stage one slot for a ring (R286, R288). -/
def State.ringStage (s : State) (r : Fin 3) (slot : List Nat) : State :=
  if !s.ringEn r || s.trc.ring[r].frozen then s
  else if s.ringFull r || decide (16 ≤ s.trc.ring[r].q.length) then s.ringDrop r
  else s.setRing r fun g => { g with q := g.q ++ [slot] }

/-- The measurement region sends a slot of the cylinder ring; it reaches the MDL controller 4 TCLK later (R21, R292). -/
def State.traceSend (s : State) (slot : List Nat) : State :=
  { s with trc := { s.trc with coming := s.trc.coming ++ [(s.now + 4, slot)] } }

/-- The slots that will have crossed by TCLK n are staged, each at the TCLK of its arrival. -/
def State.traceBy (s : State) (n : Nat) : State :=
  (s.trc.coming.filter fun x => decide (x.1 ≤ n)).foldl
    (fun (t : State) x => { ({ t with now := x.1 } : State).ringStage 0 x.2 with now := s.now })
    { s with trc := { s.trc with coming := s.trc.coming.filter fun x => decide (n < x.1) } }

/-- The slots that have crossed are staged. -/
def State.traceNow (s : State) : State := s.traceBy s.now

/-- The slot header without LOSS and SEQ (R290). -/
def slotHead (type unit n tag : Nat) : Nat := type % 16 + unit % 16 * 16 + n % 32 * 256 + tag % 2 ^ 24 * 65536

/-- Eight words, padded with zeros. -/
def slotOf (ws : List Nat) : List Nat := (ws ++ List.replicate 8 0).take 8

/-- The freeze trigger of R289; one that finds the ring FROZEN, or freezes it at once, is kept for a RESUME of its TCLK, which goes before
it. -/
def State.ringTrigger (s : State) (r : Fin 3) : State :=
  let g := s.trc.ring[r]
  if !s.ringEn r || g.post.isSome then s
  else if g.frozen then s.setRing r fun g => { g with trigAt := if g.trigAt = some (s.now, true) then g.trigAt else some (s.now, false) }
  else
    let n := s.rf Reg.ringCfg r 31 16 * 256
    if n = 0 then (s.setRing r fun g => { g with frozen := true, trigAt := some (s.now, true) }).emit 0 Kind.trcFrozen (srcC 2 4 r) 0
    else s.setRing r fun g => { g with post := some n }

/-- The freeze of the rings with FZF = 1 when a class-2 or class-3 message is accepted (R289, R419). -/
def State.ringsFreeze (s : State) : State :=
  (List.finRange 3).foldl (fun (t : State) (r : Fin 3) => if t.rb Reg.ringCfg r 12 then t.ringTrigger r else t) s.traceNow

/-- A ring becomes FROZEN when its POST count is exhausted (R289). -/
def State.ringPostDone (s : State) (r : Fin 3) : State :=
  if s.trc.ring[r].post = some 0 then
    (s.setRing r fun g => { g with post := none, frozen := true }).emit 0 Kind.trcFrozen (srcC 2 4 r) 0
  else s

/-- Write one 64-bit word of trace memory at a byte offset. -/
def State.traceWord64 (s : State) (off v : Nat) : State :=
  (s.setWord (traceBase + off) (wordN v)).setWord (traceBase + off + 4) (wordN (v / 2 ^ 32))

/-- Write 64-bit words at consecutive offsets; a rewritten word carries no flipped bits (R439). -/
def State.traceWords64 (s : State) (off : Nat) : List Nat → State
  | [] => s
  | v :: vs => (s.traceWord64 off v).traceWords64 (off + 8) vs

/-- The write of the ring's oldest staged slot at WP; a ring that was stopped has none but the slot being written (R287, R288, R290). -/
def State.ringWrite (s : State) (r : Fin 3) : State :=
  match s.trc.ring[r].q with
  | [] => s
  | slot :: rest =>
    let s1 := s.setRing r fun g => { g with q := rest }
    let g := s1.trc.ring[r]
    if g.frozen then s1
    else if s1.ringFull r then s1.ringDrop r
    else
      let head := slot.headD 0 + bitAt g.loss 13 + g.seq % 2 ^ 24 * 2 ^ 40
      let off := s1.ringLo r * 2 ^ 20 + g.wp * 64
      let s2 := s1.traceWords64 off (head :: slot.tail)
      let s3 := (List.range 8).foldl (fun t i => t.unflip (traceBase + off + 8 * i)) s2
      let wp := (g.wp + 1) % s1.ringSlots r
      (s3.setRing r fun x =>
        { x with wp := wp, seq := (x.seq + 1) % 2 ^ 24, wrap := x.wrap || decide (wp = 0), loss := false,
                 post := x.post.map (· - 1) }).ringPostDone r

/-- Count a corrected word of trace memory (R284). -/
def State.traceCe (s : State) (word reader : Nat) : State :=
  (s.bump Reg.trcEcc 0 15 0).emit 0 Kind.trcCe srcM (word % 2 ^ 29 + reader * 2 ^ 29)

/-- Count an uncorrectable word of trace memory (R284). -/
def State.traceUe (s : State) (word reader : Nat) : State :=
  let s1 := (s.bump Reg.trcEcc 0 31 16).emit 1 Kind.trcUe srcM (word % 2 ^ 29 + reader * 2 ^ 29)
  { s1 with trc := { s1.trc with eaddr := word % 2 ^ 29 } }

/-- Judge one word of trace memory by R284: a corrected word is written back, so that it is rewritten; the Bool says that data is
returned. -/
def State.traceJudge (s : State) (off : Nat) (found : Fin 3) (reader : Nat) : State × Bool :=
  match s.eccOf (traceBase + off / 8 * 8) found with
  | 0 => (s, true)
  | 1 => ((s.unflip (traceBase + off / 8 * 8)).traceCe (off / 8) reader, true)
  | _ => (s.traceUe (off / 8) reader, false)

/-- The scrubber reads its next block (R285); errs lists the words in error by index, 1 corrected, 2 uncorrectable. -/
def State.scrubBlock (s : State) (errs : List (Nat × Fin 3)) : State :=
  if s.rf Reg.trcScrub 0 7 0 = 0 ∨ s.trc.initMb = 0 then s
  else
    let blocks := s.trc.initMb * 16384
    let b := if s.trc.scrub < blocks then s.trc.scrub else 0
    let found (w : Nat) : Fin 3 := match errs.find? (·.1 = w) with | some e => e.2 | none => 0
    let s1 := (List.range 8).foldl (fun t i => (t.traceJudge (b * 64 + i * 8) (found (b * 8 + i)) 1).1) s
    { s1 with trc := { s1.trc with scrub := (b + 1) % 67108864, sinceScrub := 0 } }

/-- The ring served next: in turn, starting after the ring served last (R282). -/
def State.nextRing (s : State) : Option (Fin 3) :=
  let at_ (i : Nat) : Fin 3 := ⟨(s.trc.served + 1 + i) % 3, by omega⟩
  [at_ 0, at_ 1, at_ 2].find? fun r => decide (s.trc.ring[r].q ≠ [])

/-- The scrub read that waits is made. -/
def State.scrubServe (s : State) : State :=
  match s.trc.scrubWait with
  | some errs => ({ s with trc := { s.trc with scrubWait := none } } : State).scrubBlock errs
  | none => s

/-- The transfer that the MDL controller makes while no host access waits: the one that is being retried, or the one it chooses: a ring
write, or none for the scrub read, which comes last but is given one transfer in 4,096 (R37, R282). -/
def State.mdlNext (s : State) : Option (Option (Fin 3)) :=
  if s.links.mdlHead.isSome then s.links.mdlHead
  else if 4095 ≤ s.trc.sinceScrub ∧ s.trc.scrubWait.isSome then some none
  else
    match s.nextRing with
    | some r => some (some r)
    | none => if s.trc.scrubWait.isSome then some none else none

/-- The next MDL transfer without host access (R282). -/
def State.mdlServe (s : State) : State :=
  let s0 : State := { s with links := { s.links with mdlTries := 0, mdlHead := none } }
  match s.mdlNext with
  | none => s0
  | some none => s0.scrubServe
  | some (some r) =>
    let s1 := ({ s0 with trc := { s.trc with sinceScrub := s.trc.sinceScrub + 1 } } : State).ringWrite r
    { s1 with trc := { s1.trc with served := r.val } }

/-- A failed MDL transfer: a retry of that same transfer, or after four failed retries LINK_FAULT and it is given up (R37, R38). -/
def State.mdlFail (s : State) : State :=
  match s.mdlNext with
  | none => s
  | some k =>
    if s.links.mdlTries < 4 then
      ({ s with links := { s.links with mdlTries := s.links.mdlTries + 1, mdlHead := some k } } : State).bump Reg.linkRetry 0 31 16
    else
      let s1 : State := { s with links := { s.links with mdlTries := 0, mdlHead := none } }
      let s2 : State := match k with
        | some r => s1.setRing r fun g => { g with q := g.q.tail }
        | none => { s1 with trc := { s1.trc with scrubWait := none } }
      s2.linkFault 2

/-- MDL_TRANSFER: the next ring write or scrub, retried on a bad CRC (R37, R282, R439). -/
def State.mdlAttempt (s : State) (ok : Bool) : State :=
  let s1 : State := { s with inj := { s.inj with mdlCrc := false } }
  if ok && !s.inj.mdlCrc then s1.mdlServe else s1.mdlFail

/-- SCRUB_READ: a scrub read is due. Where nothing else waits its transfer is made at once, and fails on an injected CRC (R282, R285,
R439). -/
def State.scrubDue (s0 : State) (errs : List (Nat × Fin 3)) : State :=
  let s := s0.traceNow
  let s1 : State := { s with trc := { s.trc with scrubWait := some errs } }
  if s1.mdlNext = some none ∧ s1.links.mdlHead = none then s1.mdlAttempt true else s1

end Sys2Proof.Machine
end

