-- ==== Sys2Proof/Machine/Drive.lean ====
section
/-! DEFINITION. The driver die's shots, banks, boost rails and closing search, and the closing records of the edge
generator (chapter Actuator Drive). -/

namespace Sys2Proof.Machine

/-! ### Updates by channel, bank and line -/

/-- Replace the driver die's part of a channel. -/
def State.setCh (s : State) (c : Fin 32) (f : DrvCh → DrvCh) : State := { s with drv := { s.drv with ch := upd s.drv.ch c f } }

/-- Replace a bank. -/
def State.setBank (s : State) (b : Fin 8) (f : Bank → Bank) : State :=
  { s with drv := { s.drv with bank := upd s.drv.bank b f } }

/-- Replace a boost controller. -/
def State.setBst (s : State) (k : Fin 2) (f : Boost → Boost) : State :=
  { s with drv := { s.drv with bst := upd s.drv.bst k f } }

/-- Replace the driver die's part of an ignition output. -/
def State.setDIgn (s : State) (n : Fin 24) (f : DrvIgn → DrvIgn) : State :=
  { s with drv := { s.drv with ign := upd s.drv.ign n f } }

/-- Replace the edge generator's part of a channel. -/
def State.setECh (s : State) (c : Fin 32) (f : EdgeCh → EdgeCh) : State :=
  { s with edg := { s.edg with ch := upd s.edg.ch c f } }

/-- Replace the edge generator's part of an ignition output. -/
def State.setEIgn (s : State) (n : Fin 24) (f : EdgeIgn → EdgeIgn) : State :=
  { s with edg := { s.edg with ign := upd s.edg.ign n f } }

/-! ### Profile sets (R225, R227) -/

/-- A profile set from its words, with values outside a stated range acting as the nearer end (R227). -/
def profileOf (w : RegRow → Word) : ProfileSet where
  iboost := fld (w Reg.psCur0) 9 0
  ipeak := fld (w Reg.psCur0) 19 10
  ihold := fld (w Reg.psCur0) 29 20
  iphys := fld (w Reg.psCur1) 9 0
  ihhys := fld (w Reg.psCur1) 19 10
  izero := fld (w Reg.psCur1) 29 20
  tboost := nearer 1 62500 (fld (w Reg.psTboost) 19 0)
  tpeak := nearer 1 625000 (fld (w Reg.psTpeak) 19 0)
  tbyp := nearer 0 62500 (fld (w Reg.psTbyp) 19 0)
  tmax := nearer 1 1250000 (fld (w Reg.psTmax) 23 0)
  trcv := nearer 63 62500 (fld (w Reg.psTrcv) 19 0)
  bypfast := bit (w Reg.psMode) 0
  batfb := bit (w Reg.psMode) 1
  pol := bit (w Reg.psMode) 2
  tblank := nearer 2 255 (fld (w Reg.psMode) 11 4)
  tchopmin := nearer 4 255 (fld (w Reg.psMode) 19 12)
  cstart := fld (w Reg.psCls0) 19 0
  cend := fld (w Reg.psCls1) 19 0
  cthr := max 1 (fld (w Reg.psCls2) 11 0)

/-- Profile set i as its registers stand. -/
def State.profile (s : State) (i : Nat) : ProfileSet := profileOf fun r => s.rg r i

/-- Profile set i as a shot start of the present DCLK copies it: a write of that DCLK comes after it (R226). -/
def State.profileCopy (s : State) (i : Nat) : ProfileSet :=
  profileOf fun r =>
    match s.drv.fresh.find? fun x => decide (x.1 = s.dclk) && decide (x.2.1 = r.addr i 0) with
    | some x => x.2.2
    | none => s.rg r i

/-- A profile word is about to be written: the word before stays with the DCLK of the write. -/
def State.profileWritten (s : State) (r : RegRow) (i : Nat) : State :=
  let k := s.now / 4
  let a := r.addr i 0
  let kept := s.drv.fresh.filter fun x => decide (x.1 = k)
  if kept.any fun x => decide (x.2.1 = a) then s
  else { s with drv := { s.drv with fresh := kept ++ [(k, a, s.rg r i)] } }

/-- The register words at these addresses are read with their checks; the Bool says that all may be used (R31, R32). -/
def State.wordsCheck (s : State) (as : List Nat) : State × Bool :=
  as.foldl (fun (x : State × Bool) a => let y := x.1.checkedAt a; (y.1, x.2 && y.2)) (s, true)

/-- The addresses of a profile set's words (R227). -/
def profileAddrs (i : Nat) : List Nat := (List.range 11).map fun n => Reg.psCur0.addr i 0 + 4 * n

/-- A set is consistent (R225). -/
def ProfileSet.consistent (p : ProfileSet) : Bool :=
  decide (p.ipeak ≤ p.iboost) && decide (p.ihold ≤ p.ipeak) && decide (p.iphys < p.ipeak) && decide (p.ihhys < p.ihold)
    && decide (p.tboost ≤ p.tpeak) && decide (p.tpeak ≤ p.tmax) && decide (p.cstart < p.cend) && decide (p.cend ≤ p.trcv)

/-! ### Messages and records -/

/-- A channel message of the driver die (R245). -/
def State.chMsg (s : State) (cls kind : Nat) (c : Fin 32) (seq owner cause : Nat) : State :=
  s.emit cls kind (srcD (c.val / 4) (c.val % 4)) (c.val + seq % 4096 * 32 + owner % 4096 * 2 ^ 17 + cause * 2 ^ 29)

/-- CHn_CFG.CLSEN and CAP. -/
def State.clsEn (s : State) (c : Fin 32) : Bool := s.rb Reg.chCfg c 2
def State.capEn (s : State) (c : Fin 32) : Bool := s.rb Reg.chCfg c 1

/-- The driver die closes the record of a shot: CHn_CLS keeps it and the DDL carries it (R241). -/
def State.closeRec (s : State) (c : Fin 32) (seq owner time : Nat) (det : Bool) : State :=
  if !s.clsEn c then s
  else (s.setCh c fun d => { d with clsTime := time, clsDet := det }).ddlSend (.closerec ⟨c, seq, owner, time, det⟩)

/-- A closing record reaches the cluster that carries the work, as the CLOSE cue (R162, R241). -/
def State.closeCue (s : State) (c : Fin 32) (seq owner : Nat) (w : Fin 9) (time : Nat) (det : Bool) : State :=
  if (s.carrier w).isSome then
    s.cue w 19 (seq % 4096 + owner % 4096 * 4096 + c.val * 2 ^ 24) (time % 2 ^ 24 + bitAt det 31) s.now
  else s

/-- Put a channel's outstanding start in its place in the order of the starts. -/
def dueInsert (x : Fin 32 × Due) : List (Fin 32 × Due) → List (Fin 32 × Due)
  | [] => [x]
  | y :: t => if x.2.at_ < y.2.at_ then x :: y :: t else y :: dueInsert x t

/-- The edge generator closes every outstanding start of the channels held, in the order of the starts (R241). -/
def State.closeDue (s : State) (cs : List (Fin 32)) : State :=
  let all := cs.flatMap fun c => s.edg.ch[c].due.map fun d => (c, d)
  let s1 := (all.foldl (fun l x => dueInsert x l) []).foldl (fun (t : State) (x : Fin 32 × Due) =>
    t.closeCue x.1 x.2.seq x.2.owner x.2.work 0 false) s
  cs.foldl (fun (t : State) c => t.setECh c fun e => { e with due := [] }) s1

/-! ### Signatures (R238, R239, R290 to R292) -/

/-- TAG of SHOT, SIG and SHEND slots. -/
def Shot.tag (h : Shot) (k : Fin 4) : Nat := h.seq % 4096 + k.val * 4096 + h.idx % 16 * 2 ^ 14 + bitAt h.rst 18

/-- The driver die sends a captured slot over the DDL; it is staged for the signature ring when it arrives (R16, R288). -/
def State.sigSend (s : State) (slot : List Nat) : State := s.ddlSend (.signature slot)

/-- ANG_NOW now, as trace records carry it (R291). -/
def State.ang40 (s : State) : Nat := (s.angNow.getD 0) * 2 ^ 40

/-- Four 16-bit samples to a word (R291). -/
def sigWords : List Nat → List Nat
  | a :: b :: c :: d :: t => (a + b * 2 ^ 16 + c * 2 ^ 32 + d * 2 ^ 48) :: sigWords t
  | [a, b, c] => [a + b * 2 ^ 16 + c * 2 ^ 32]
  | [a, b] => [a + b * 2 ^ 16]
  | [a] => [a]
  | [] => []

/-- Change a channel's shot. -/
def State.setShot (s : State) (c : Fin 32) (f : Shot → Shot) : State := s.setCh c fun d => { d with shot := d.shot.map f }

/-- The samples the bank's converter holds go out as one SIG slot (R292). -/
def State.sigFlush (s : State) (b : Fin 8) : State :=
  let v := s.drv.bank[b].conv
  match v.ch, v.held with
  | _, [] => s
  | none, _ => s
  | some k, held =>
    match s.drv.ch[chOf b k].shot with
    | none => s
    | some h =>
      let tag := h.seq % 4096 + h.sigs % 4096 * 4096
      let s1 := s.sigSend (slotOf (slotHead 5 b.val held.length tag :: sigWords held))
      (s1.setShot (chOf b k) fun h => { h with sigs := h.sigs + 1 }).setBank b fun x =>
        { x with conv := { x.conv with held := [] } }

/-- SHEND of a channel's shot (R291, R292). -/
def State.shend (s : State) (c : Fin 32) (time : Nat) (det : Bool) : State :=
  match s.drv.ch[c].shot with
  | none => s
  | some h =>
    if !s.capEn c then s
    else
      let w2 := time % 2 ^ 24 + bitAt det 31 + bitAt h.trunc 32 + bitAt (h.noRec || !h.claim) 33 + h.sigs % 4096 * 2 ^ 34
      s.sigSend (slotOf [slotHead 6 (bankOf c).val 0 (h.tag (chIn c)), 4 * h.driveEnd % 2 ^ 40, w2])

/-- The converter of a channel's bank lets the channel go (R239). -/
def State.convFree (s : State) (c : Fin 32) : State :=
  let b := bankOf c
  if s.drv.bank[b].conv.ch = some (chIn c) then
    (s.sigFlush b).setBank b fun x => { x with conv := ⟨none, false, false, [], []⟩ }
  else s

/-- The capture of a running shot is abandoned or ends: samples out, SHEND written, converter released. -/
def State.captureEnd (s : State) (c : Fin 32) (time : Nat) (det : Bool) : State := ((s.convFree c).shend c time det)

/-! ### On-time (R236) -/

/-- Bring the open bucket up to the present DCLK. -/
def State.account (s : State) (c : Fin 32) : State :=
  match s.drv.ch[c].shot with
  | none => s
  | some h =>
    if h.phase = .recovery then s
    else
      (s.setCh c fun d => { d with open_ := d.open_ + (s.dclk - h.accFrom) }).setShot c fun h => { h with accFrom := s.dclk }

/-- WIN in ms and LIM of a channel (R247). -/
def State.dutyWin (s : State) (c : Fin 32) : Nat := max 1 (s.rf Reg.chDuty c 23 16)
def State.dutyLim (s : State) (c : Fin 32) : Nat := max 1 (s.rf Reg.chDuty c 9 0)

/-- The sum over the 16 buckets in DCLK. -/
def State.onTime (s : State) (c : Fin 32) : Nat :=
  let d := (s.account c).drv.ch[c]
  d.open_ + d.buckets.foldl (· + ·) 0

/-- The duty check refuses (R236). -/
def State.dutyOver (s : State) (c : Fin 32) : Bool :=
  decide (s.dutyLim c * (s.dutyWin c * 62500) < s.onTime c * 1024)

/-- The open bucket closes WIN/16 ms, that is WIN × 15,625 TCLK, after it began, and drops out 16 buckets later (R236). -/
def State.bucketClose (s0 : State) (c : Fin 32) : State :=
  let t := s0.drv.ch[c].bucketAt + s0.dutyWin c * 15625
  let s := s0.advanceTo t
  (s.account c).setCh c fun d => { d with buckets := (d.open_ :: d.buckets).take 15, open_ := 0, bucketAt := t }

/-! ### Sealed increments (R335) -/

/-- An increment of the sealed counters with a source that count a channel, sent over the DDL. -/
def State.sealSend (s : State) (src inc : Nat) (c : Fin 32) : State :=
  (List.finRange 16).foldl (fun (t : State) (n : Fin 16) =>
    if t.rb Reg.sealxCfg n 4 && decide (t.rf Reg.sealxCfg n 3 0 = src) && bit (t.rg Reg.sealxMask n) c.val && decide (inc ≠ 0) then
      t.ddlSend (.sealInc n inc)
    else t) s

/-- ONTIME of the running shot, added at its drive end or at the restart that takes its place. -/
def State.sealOntime (s : State) (c : Fin 32) : State :=
  match s.drv.ch[c].shot with
  | some h => if h.phase = .recovery then s else s.sealSend 1 (s.dclk - h.start) c
  | none => s

/-! ### Lead, recovery and drive end (R219, R228, R231, R239) -/

/-- The lead is released (R231). -/
def State.releaseLead (s : State) (c : Fin 32) : State :=
  let b := bankOf c
  if s.drv.bank[b].lead = some (chIn c) then s.setBank b fun x => { x with lead := none, released := some s.dclk } else s

/-- A start of this channel has been granted and waits for its rail. -/
def State.railWait (s : State) (c : Fin 32) : Bool := s.drv.bank[bankOf c].waits.any fun x => decide (x.ch = chIn c) && x.rail

/-- The shot enters RECOVERY; safe: with the search abandoned (R219, R239, R246). -/
def State.toRecovery (s : State) (c : Fin 32) (safe : Bool) : State :=
  match s.drv.ch[c].shot with
  | none => s
  | some h =>
    if h.phase = .recovery then
      if safe && !h.cut then (s.captureEnd c 0 false).setShot c fun h => { h with cut := true, claim := false } else s
    else
      let b := bankOf c
      let s1 := ((s.account c).sealOntime c).setShot c fun h => { h with phase := .recovery, driveEnd := s.dclk, watch := false, swOn := false, deferred := none }
      let s2 := if s1.railWait c then s1 else s1.releaseLead c
      if safe then
        (s2.captureEnd c 0 false).setShot c fun h => { h with cut := true }
      else if !(s2.clsEn c || s2.capEn c) then s2.convFree c
      else
        let v := s2.drv.bank[b].conv
        if v.recovery then
          (s2.setShot c fun h => { h with noRec := true }).chMsg 0 Kind.captureBusy c h.seq h.owner 0
        else
          let s3 := match v.ch with
            | some k =>
              if k = chIn c then s2
              else (s2.sigFlush b).setShot (chOf b k) fun x => { x with trunc := true }
            | none => s2
          let held := if v.ch = some (chIn c) then v.held else []
          (s3.setBank b fun x => { x with conv := ⟨some (chIn c), true, false, [], held⟩ }).setShot c fun h => { h with claim := true }

/-! ### The closing search (R240) -/

/-- y_j over the voltage samples. -/
def closeY : List Int → List Int
  | a :: b :: c :: d :: t => (a + b + c + d) :: closeY (b :: c :: d :: t)
  | _ => []

/-- s_j over the y_j, before POL. -/
def closeS : List Int → List Int
  | a :: b :: c :: t => (c - 2 * b + a) :: closeS (b :: c :: t)
  | _ => []

/-- The candidate with the largest s_j, the earliest on a tie. -/
def closeBest (p : ProfileSet) : Nat → List Int → Option (Nat × Int) → Option (Nat × Int)
  | _, [], best => best
  | j, x :: t, best =>
    let t16 := (2 * j + 5) * 125
    let cand := decide (16 * p.cstart ≤ t16) && decide (t16 ≤ 16 * p.cend)
    let better : Bool := match best with
      | some b => decide (b.2 < x)
      | none => true
    closeBest p (j + 1) t (if cand && better then some (j, x) else best)

/-- The closing time in DCLK from the shot start, or none (R240). -/
def closeSearch (p : ProfileSet) (volt : List Int) (drive : Nat) : Option Nat :=
  let vs := volt.take ((8 * p.trcv + 124) / 125)
  let ss := (closeS (closeY vs)).map fun x => if p.pol then -x else x
  match closeBest p 0 ss none with
  | none => none
  | some (k, sk) =>
    if sk < (p.cthr : Int) then none
    else
      let frac : Rat :=
        if k = 0 ∨ ss.length ≤ k + 1 then 0
        else
          let a := ss.getD (k - 1) 0
          let b := ss.getD (k + 1) 0
          let den : Int := 2 * (a - 2 * sk + b)
          if den = 0 then 0
          else
            let f : Rat := ((a - b : Int) : Rat) / (den : Rat)
            if f < -1 / 2 then -1 / 2 else if f > 1 / 2 then 1 / 2 else f
      some (roundN ((drive : Rat) + ((k : Rat) + 5 / 2 + frac) * (125 / 8)))

/-- TRCV ends: the record goes out, the converter is released and the channel is idle (R219, R240, R241). -/
def State.recoveryEnd (s : State) (c : Fin 32) : State :=
  match s.drv.ch[c].shot with
  | none => s
  | some h =>
    if h.phase ≠ .recovery then s
    else
      let s1 := s.advanceTo (4 * (h.driveEnd + h.set.trcv))
      let found := if h.claim && s.clsEn c then closeSearch h.set s.drv.bank[bankOf c].conv.volt (h.driveEnd - h.start) else none
      let s2 := if h.cut then s1
        else (s1.captureEnd c (found.getD 0) found.isSome).closeRec c h.seq h.owner (found.getD 0) found.isSome
      s2.setCh c fun d => { d with shot := none }

/-- The closing search and the capture of the old shot end at a restart (R234, R241). -/
def State.cutRecord (s : State) (c : Fin 32) : State :=
  match s.drv.ch[c].shot with
  | none => s
  | some h =>
    if h.cut then s
    else
      ((s.captureEnd c 0 false).setShot c fun h => { h with cut := true, claim := false }).closeRec c h.seq h.owner 0 false

/-! ### Starts (R232 to R236) -/

/-- BOOST begins: a start that does not wait turns the switches on at its start edge, another one now, and the shot start is the first
DCLK edge from there on, where the set is copied (R219, R220, R226, R234, R291). -/
def State.boostFrom (s0 : State) (c : Fin 32) (sel : Sel) (batt restart : Bool) : State :=
  let s := s0.advanceTo (4 * s0.dclk)
  let b := bankOf c
  let s1 := (((s.account c).sealOntime c).sealSend 2 1 c).cutRecord c
  let fire := s1.edg.ch[c].fire.getD 0
  let h : Shot := ⟨.boost, sel.set, s1.profileCopy sel.set, sel.seq, sel.owner, restart,
    if 4 * ((fire + 63) / 64) = s0.now then fire else 16 * s0.now, s1.dclk, 0, 0, batt, false, false, false, false,
    false, 0, true, 0, 0, none, s1.dclk⟩
  let s2 := (s1.setCh c fun d => { d with shot := some h }).bumpWrap Reg.chCnt c 15 0
  let s3 := s2.setBank b fun x => { x with lead := some (chIn c), waits := x.waits.filter (·.ch ≠ chIn c) }
  if !s3.capEn c then s3
  else
    let s4 := s3.sigSend (slotOf [slotHead 4 b.val 0 (h.tag (chIn c)), 4 * h.start % 2 ^ 40 + s3.ang40, sel.owner % 4096])
    if s4.drv.bank[b].conv.ch = none then
      s4.setBank b fun x => { x with conv := ⟨some (chIn c), false, false, [], []⟩ }
    else s4

/-- A start is refused or withdrawn: counted, its record closed, REFUSE for a fresh start (R232, R241). -/
def State.refuse (s : State) (c : Fin 32) (sel : Sel) (fresh : Bool) : State :=
  let s1 := (s.bump Reg.chCnt c 31 16).closeRec c sel.seq sel.owner 0 false
  if fresh then s1.ddlSend (.refuse c sel.seq sel.owner) else s1

/-- The shot begins with the copy of its set; a set with an uncorrectable word is absent, and the start is refused (R32, R226; log
entry 78). -/
def State.beginBoost (s : State) (c : Fin 32) (sel : Sel) (batt restart : Bool) : State :=
  match s.wordsCheck (profileAddrs sel.set) with
  | (t, true) => t.boostFrom c sel batt restart
  | (t, false) =>
    let t1 := (t.setBank (bankOf c) fun x => { x with waits := x.waits.filter (·.ch ≠ chIn c) }).refuse c sel (!restart)
    if t1.phase c = some .boost ∨ t1.phase c = some .peak then t1 else t1.releaseLead c

/-- The boost controller of a bank (R214). -/
def railOf (b : Fin 8) : Fin 2 := ⟨b.val / 4, by omega⟩

/-- The grant of a start: BOOST if the rail is ready, else the channel is lead and waits (R235). -/
def State.grant (s : State) (c : Fin 32) (x : WaitStart) : State :=
  let b := bankOf c
  if s.drv.bst[railOf b].rdy then s.beginBoost c x.sel false x.restart
  else
    s.setBank b fun y =>
      { y with lead := some (chIn c),
               waits := { x with rail := true, railFrom := s.dclk } :: y.waits.filter (·.ch ≠ chIn c) }

/-- Cause 1h of a fresh start, 2h of a restart (R245). -/
def causeOf (restart : Bool) : Nat := if restart then 2 else 1

/-- 100 ms have passed since the channel's last repeated refusal message (R244). -/
def State.mayRepeat (s : State) (c : Fin 32) : Bool :=
  match s.drv.ch[c].refMsg with
  | none => true
  | some t => decide (t + 25000000 ≤ s.now)

/-- A refusal for FLT or FAULT repeats the message at most once per 100 ms and channel (R244). -/
def State.refuseLatched (s : State) (c : Fin 32) (sel : Sel) (kind : Nat) (fresh : Bool) : State :=
  let s1 := s.refuse c sel fresh
  if s.mayRepeat c then (s1.setCh c fun d => { d with refMsg := some s.now }).chMsg 1 kind c sel.seq sel.owner 3 else s1

/-- GAP has passed since the last release (R233). -/
def State.gapPassed (s : State) (b : Fin 8) : Bool :=
  match s.drv.bank[b].released with
  | none => true
  | some r => decide (r + s.rf Reg.bnkKerf b 31 20 ≤ s.dclk)

/-- BNK_DEFER in DCLK (R237). -/
def State.deferOf (s : State) (b : Fin 8) : Nat := nearer 0 125000 (s.rf Reg.bnkKerf b 19 0)

/-- Insert a waiting start in the order of start edges, then channels (R233). -/
def waitInsert (x : WaitStart) : List WaitStart → List WaitStart
  | [] => [x]
  | y :: t => if x.edge < y.edge ∨ (x.edge = y.edge ∧ x.ch < y.ch) then x :: y :: t else y :: waitInsert x t

/-- A bank refusal (R233, R244). -/
def State.bankConflict (s : State) (c : Fin 32) (x : WaitStart) : State :=
  let s1 := (s.refuse c x.sel (!x.restart)).bump Reg.bnkCnt (bankOf c) 15 0
  (s1.setBit Reg.chDiag c 4).chMsg 1 Kind.bankConflict c x.sel.seq x.sel.owner (causeOf x.restart)

/-- The bank check, and the grant of a start that passes it (R233, R234). An earlier start of the channel that still waits gives way:
its record is closed and it counts as withdrawn, without REFUSE or note, since the line stays active (DESIGN CHOICE, log entry
83). -/
def State.bankCheck (s0 : State) (c : Fin 32) (x : WaitStart) : State :=
  let b := bankOf c
  let s : State := match s0.drv.bank[b].waits.find? fun z => decide (z.ch = chIn c) with
    | some z => (s0.setBank b fun y => { y with waits := y.waits.filter (·.ch ≠ chIn c) }).refuse c z.sel false
    | none => s0
  let y := s.drv.bank[b]
  if y.lead = some (chIn c) ∨ (y.lead = none ∧ y.waits = [] ∧ s.gapPassed b) then s.grant c x
  else if s.deferOf b = 0 then s.bankConflict c x
  else s.setBank b fun z => { z with waits := waitInsert x z.waits }

/-- A restart that waits in RECOVERY ends the old shot's search; one refused at once leaves it (R234; DESIGN CHOICE, log entry 83). -/
def State.cutWaiting (s : State) (c : Fin 32) : State :=
  if s.phase c = some .recovery ∧ (s.drv.bank[bankOf c].waits.any fun z => decide (z.ch = chIn c)) then s.cutRecord c else s

/-- The DCLK of the start edge that a channel's line has made (R220). -/
def State.startDclk (s : State) (c : Fin 32) : Nat := ((s.edg.ch[c].fire.getD 0) + 63) / 64

/-- The driver die takes a start edge at the first DCLK edge at or after it, where it makes its checks (R220, R232, R234; log entry 44).
A duty or bank word that is absent leaves the check undecided, so the start is refused (R32; log entry 78). -/
def State.startTake (s0 : State) (c : Fin 32) : State :=
  if !s0.drv.ch[c].startPend then s0
  else
    let s1 := s0.advanceTo (4 * s0.startDclk c)
    let s := (s1.advanceTo (4 * s1.dclk)).setCh c fun d => { d with startPend := false }
    let d := s.drv.ch[c]
    match d.sel with
    | none => s
    | some sel =>
      let restart := d.shot.isSome
      let b := bankOf c
      if s.drvOff || !s.rb Reg.chCfg c 0 || s.chHeld c || decide (9 ≤ s.edg.ch[c].owner) then s
      else if d.flt then s.refuseLatched c sel Kind.shortBat (!restart)
      else if s.rb Reg.bnkDiag b 10 then s.refuseLatched c sel Kind.shortGnd (!restart)
      else
        match s.wordsCheck [Reg.bnkDiag.addr b.val 0, Reg.chDuty.addr c.val 0, Reg.bnkKerf.addr b.val 0] with
        | (u, false) => u.refuse c sel (!restart)
        | (u, true) =>
          if u.dutyOver c then
            ((u.refuse c sel (!restart)).setBit Reg.chDiag c 3).chMsg 1 Kind.dutyLimit c sel.seq sel.owner (causeOf restart)
          else (u.bankCheck c ⟨chIn c, restart, u.dclk, sel, false, 0⟩).cutWaiting c

/-- The start edges of lower channels of the bank that fall in the same DCLK and have not been taken (R233). -/
def State.startsBefore (s : State) (c : Fin 32) : List (Fin 32) :=
  (List.finRange 32).filter fun x => decide (x < c) && decide (bankOf x = bankOf c) && s.drv.ch[x].startPend
    && decide (s.startDclk x = s.startDclk c)

/-- A start edge is taken; of two that fall in one DCLK in a bank the lower channel's goes first (R233). -/
def State.startEdge (s : State) (c : Fin 32) : State :=
  if s.drv.ch[c].startPend then ((s.startsBefore c).foldl (fun (t : State) (x : Fin 32) => t.startTake x) s).startTake c else s

/-- The waiting start of a channel. -/
def State.waitOf (s : State) (c : Fin 32) : Option WaitStart := s.drv.bank[bankOf c].waits.find? (·.ch = chIn c)

/-- Drop the waiting start of a channel. -/
def State.dropWait (s : State) (c : Fin 32) : State :=
  s.setBank (bankOf c) fun x => { x with waits := x.waits.filter (·.ch ≠ chIn c) }

/-- An OFF reaches the driver die: a waiting start is withdrawn, a running drive ends (R219, R222). -/
def State.driverOff (s : State) (c : Fin 32) : State :=
  let s1 := match s.waitOf c with
    | none => s
    | some x =>
      let t := s.dropWait c
      let t1 := if x.rail then t.releaseLead c else t
      (t1.refuse c x.sel true).chMsg 0 Kind.shotWithdrawn c x.sel.seq x.sel.owner (causeOf x.restart)
  s1.toRecovery c false

/-- A channel held safe alone or with the package: drive off, lead released, search abandoned, waits gone (R246). -/
def State.driverHold (s : State) (c : Fin 32) : State :=
  ((s.dropWait c).toRecovery c true).releaseLead c

/-! ### Closing records at the edge generator, line commands -/

/-- The edge generator drives a channel's line inactive; the driver die takes the fall as an OFF, 14 TCLK later (R140,
R222). -/
def State.lineOff (s : State) (c : Fin 32) : State :=
  if s.edg.ch[c].line then
    (s.setECh c fun e => { e with line := false, lastCmd := some (16 * (s.now + 14)) }).setCh c fun d => { d with offPend := true }
  else s

/-- A channel enters the safe actuation state alone or with the package (R241, R246, R422). -/
def State.chSafe (s : State) (c : Fin 32) : State :=
  ((((s.driverHold c).closeDue [c]).setECh c fun e => { e with line := false })).setCh c fun d =>
    { d with startPend := false, offPend := false }

end Sys2Proof.Machine
end

