-- ==== Sys2Proof/Machine/Pegs.lean ====
section
/-! DEFINITION. Pegs: descriptors, the ends of a peg, aiming and late judgement, soft-off, holds and cancellations (chapter
Pegs, Horizon and Edge Placement). -/

namespace Sys2Proof.Machine

/-! ### Descriptors (R116 to R118) -/

/-- Replace a slot; its mirror entry is written with it, residue included (R123, R147). -/
def State.setPeg (s : State) (w : Fin 9) (k : Fin 32) (f : Peg → Peg) : State :=
  s.setWork w fun x => { x with slots := upd x.slots k fun p => { f p with mirBad := false } }

/-- FUEL_ON or ACT_ON; FUEL_OFF or ACT_OFF; a fuel or gas peg (R117). -/
def Peg.isOn (p : Peg) : Bool := decide (p.kind = 1) || decide (p.kind = 3)
def Peg.isOff (p : Peg) : Bool := decide (p.kind = 2) || decide (p.kind = 4)
def Peg.isFuel (p : Peg) : Bool := decide (p.kind = 1) || decide (p.kind = 2)
def Peg.isCoil (p : Peg) : Bool := decide (p.kind = 5)

/-- FLAGS of R118. -/
def Peg.prov (p : Peg) : Bool := p.flags.testBit 0
def Peg.rel (p : Peg) : Bool := p.flags.testBit 1
def Peg.wantsCue (p : Peg) : Bool := p.flags.testBit 2
def Peg.wantsLog (p : Peg) : Bool := p.flags.testBit 3

/-- The target as a channel, an ignition output, a window or a jig engine (R117). -/
def Peg.ach (p : Peg) : Option (Fin 32) :=
  if (p.isOn || p.isOff) then (if h : p.target < 32 then some ⟨p.target, h⟩ else none) else none
def Peg.ign (p : Peg) : Option (Fin 24) := if p.kind = 5 then (if h : p.target < 24 then some ⟨p.target, h⟩ else none) else none
def Peg.win (p : Peg) : Option (Fin 16) :=
  if p.kind = 6 ∨ p.kind = 7 then (if h : p.target < 16 then some ⟨p.target, h⟩ else none) else none
def Peg.jig (p : Peg) : Option (Fin 8) := if p.kind = 8 then (if h : p.target < 8 then some ⟨p.target, h⟩ else none) else none

/-- Descriptor bits [107:0] as one unsigned integer (R116). -/
def Peg.bits (p : Peg) : Nat :=
  p.angle % 2 ^ 24 + p.kind % 16 * 2 ^ 24 + p.profile % 16 * 2 ^ 28 + p.target % 256 * 2 ^ 32 + p.latetol % 65536 * 2 ^ 40
    + p.flags % 256 * 2 ^ 56 + unsx 16 p.tofs * 2 ^ 64 + p.owner % 4096 * 2 ^ 80 + p.seq % 4096 * 2 ^ 96

/-- The whole descriptor with RES (R116); a slot whose residue no longer fits reads another RES. -/
def Peg.desc (p : Peg) : Nat :=
  if p.kind = 0 then 0
  else p.bits + (if p.resBad then (residue3 p.bits + 1) % 3 else residue3 p.bits) * 2 ^ 108

/-- Word i of the descriptor (R116). -/
def Peg.word (p : Peg) (i : Nat) : Word := wordN (p.desc / 2 ^ (32 * i))

/-- A descriptor from its four words; SEQ and RES are ignored (R119). -/
def Peg.ofWords (d0 d1 d2 : Word) : Peg :=
  { Peg.empty with
    angle := fld d0 23 0, kind := fld d0 27 24, profile := fld d0 31 28, target := fld d1 7 0, latetol := fld d1 23 8,
    flags := fld d1 31 24, tofs := sx 16 (fld d2 15 0), owner := fld d2 27 16 }

/-- The code of a state (R122). -/
def PegState.code : PegState → Nat
  | .free => 0 | .armed => 1 | .aimed => 2 | .committed => 3 | .driven => 4 | .waiting => 5 | .dwelling => 6 | .softoff => 7

/-! ### Dwell sets (R146) -/

/-- DWELL, SOFT, DMIN and DMAX of a dwell set in µs, and MAXACT. -/
def State.dwell (s : State) (i : Nat) : Nat := nearer 100 20000 (s.rf Reg.dwsetTime i 15 0)
def State.softUs (s : State) (i : Nat) : Nat := nearer 200 10000 (s.rf Reg.dwsetTime i 31 16)
def State.dmin (s : State) (i : Nat) : Nat := nearer 100 20000 (s.rf Reg.dwsetLim i 15 0)
def State.dmax (s : State) (i : Nat) : Nat := nearer 100 20000 (s.rf Reg.dwsetLim i 31 16)
def State.maxAct (s : State) (i : Nat) : Bool := s.rb Reg.dwsetCtl i 0
def State.dwellSet (s : State) (i : Nat) : DwellSet := ⟨s.dwell i, s.softUs i, s.dmin i, s.dmax i, s.maxAct i⟩

/-- DMIN, DWELL and DMAX are in order (R119, R146). -/
def DwellSet.ordered (d : DwellSet) : Bool := decide (d.dmin ≤ d.dwell) && decide (d.dwell ≤ d.dmax)

/-- The dwell values of a coil from its next pass on: those of its dwell set, or those of its last pass where the set is not in order
(R146). -/
def State.passDwell (s : State) (p : Peg) : DwellSet :=
  if (s.dwellSet p.profile).ordered then s.dwellSet p.profile else p.dws

/-- A pass gives a coil the values of its dwell set (R146). -/
def State.takeDwell (s : State) (w : Fin 9) (k : Fin 32) : State :=
  s.setPeg w k fun p => if p.isCoil then { p with dws := s.passDwell p } else p

/-- µs as vernier steps: 250 TCLK of 16 steps. -/
def usSteps (us : Nat) : Nat := us * 4000

/-! ### Notes, log and cue of a peg (R118, R135, R162, R291) -/

/-- A note or message from a peg in the layout of R135. -/
def State.pegNote (s : State) (cls kind : Nat) (w : Fin 9) (k : Fin 32) (p : Peg) (reason : Nat) : State :=
  s.emit cls kind (srcC 0 (s.counterOf w).val (k.val % 16))
    (k.val + p.seq % 4096 * 32 + p.owner % 4096 * 2 ^ 17 + reason % 8 * 2 ^ 29)

/-- The peg as it was armed: a REAIM changes ANGLE and TOFS only (R131, R291). -/
def Peg.asArmed (p : Peg) : Peg := { p with angle := p.armAngle, tofs := p.armTofs }

/-- The PEG slot of the peg log (R291, R292). -/
def State.pegLog (s : State) (w : Fin 9) (k : Fin 32) (p : Peg) (outcome late reason : Nat) : State :=
  if !p.wantsLog then s
  else
    let t := (p.inst.getD (16 * s.now))
    let t' := if outcome = 1 ∨ outcome = 2 then t else 16 * s.now
    let tag := k.val + p.seq % 4096 * 32 + outcome % 8 * 2 ^ 17 + p.kind % 16 * 2 ^ 20
    let w3 := t' / 16 % 2 ^ 40 + t' % 16 * 2 ^ 40 + min late 65535 * 2 ^ 44 + reason % 16 * 2 ^ 60
    let w4 := s.angNow.getD 0 + bitAt s.angNow.isSome 24
    let w5 := match p.tD with
      | some d => if p.isCoil then d / 16 % 2 ^ 40 + d % 16 * 2 ^ 40 + 2 ^ 44 else 0
      | none => 0
    s.ringStage 2 (slotOf [slotHead 7 w.val 0 tag, p.asArmed.desc % 2 ^ 64, p.asArmed.desc / 2 ^ 64, w3, w4, w5])

/-- The PEG cue of an outcome (R118, R162). -/
def State.pegCue (s : State) (w : Fin 9) (k : Fin 32) (p : Peg) (outcome late : Nat) : State :=
  let mark := decide (p.kind = 9) && (decide (outcome = 1) || decide (outcome = 2))
  if mark || (p.wantsCue && decide (outcome ≠ 4) && decide (outcome ≠ 6)) then
    s.cue w 18 (k.val + p.seq % 4096 * 32 + outcome % 8 * 2 ^ 17 + p.owner % 4096 * 2 ^ 20)
      (if mark then p.target else if outcome = 2 then min late 65535 else 0) s.now
  else s

/-! ### The next ON peg of a channel (R224) -/

/-- The ON peg targeting a channel, AIMED or COMMITTED, with the earliest instant. -/
def State.nextOn (s : State) (c : Fin 32) : Option Sel :=
  let pick (best : Option (Nat × Sel)) (p : Peg) : Option (Nat × Sel) :=
    if p.isOn && decide (p.ach = some c) && (decide (p.st = .aimed) || decide (p.st = .committed)) then
      match p.inst, best with
      | some t, none => some (t, ⟨p.profile, p.seq, p.owner⟩)
      | some t, some b => if t < b.1 then some (t, ⟨p.profile, p.seq, p.owner⟩) else best
      | none, _ => best
    else best
  (s.work.toList.foldl (fun b (x : Work) => x.slots.toList.foldl pick b) none).map (·.2)

/-- A SELECT goes out for the next ON peg of a channel (R224). -/
def State.selSend (s : State) (c : Fin 32) : State :=
  let n := s.nextOn c
  let s1 := s.setECh c fun e => { e with sel := n }
  match n with
  | some x => s1.ddlSend (.select c x.set x.seq x.owner)
  | none => s1

/-- Whenever the next ON peg changes, a SELECT goes out for the new one (R224). -/
def State.selUpdate (s : State) (c : Fin 32) : State := if s.nextOn c = s.edg.ch[c].sel then s else s.selSend c

/-- The same for a peg's channel. -/
def State.selOf (s : State) (p : Peg) : State :=
  match p.ach with
  | some c => if p.isOn then s.selUpdate c else s
  | none => s

/-! ### The end of a peg (R122, R132, R136, R151, R152) -/

/-- A peg whose action issues an output: a MARK has none, nor has an OFF to an inactive line or an ON without its SELECT (R117,
R140, R152, R225). -/
def Peg.issues (p : Peg) : Bool := decide (p.kind ≠ 9) && decide (p.mute = 0)

/-- The next ON peg of the work to fire on a peg's target (R136): the one with the earliest instant; among pegs held by angle only the
one whose angle is reached first; then the lowest slot. -/
def State.nextBase (s : State) (w : Fin 9) (p : Peg) : Option (Fin 32) :=
  let key (q : Peg) : Nat × Nat := match q.inst, s.modelAng s.now with
    | some t, _ => (0, t)
    | none, some θ => (1, ((256 * (q.angle : Int) - θ) % s.cyc256).toNat)
    | none, none => (1, 0)
  let early (best : Option (Fin 32)) (k : Fin 32) : Option (Fin 32) :=
    let q := s.work[w].slots[k]
    if !(q.isOn && decide (q.ach = p.ach) && decide (q.st ≠ .free)) then best
    else
      match best with
      | none => some k
      | some b =>
        let x := key q
        let y := key s.work[w].slots[b]
        if x.1 < y.1 ∨ (x.1 = y.1 ∧ x.2 < y.2) then some k else best
  (List.finRange 32).foldl early none

/-- The slots of a work that are occupied. -/
def State.occupied (s : State) (w : Fin 9) : Nat :=
  ((List.finRange 32).filter fun k => decide (s.work[w].slots[k].st ≠ .free)).length

/-- SCHED_STAT.PEAK follows the occupied slots (R152). -/
def State.peakSlots (s : State) (w : Fin 9) : State :=
  let c := s.counterOf w
  if s.rf Reg.schedStat c 21 16 < s.occupied w then s.setRf Reg.schedStat c 21 16 (s.occupied w) else s

/-- Release a slot with its outcome; the words of the ended peg stand until the slot is armed again (R122, R196); quiet: no cue
and no log (R176). -/
def State.release (s : State) (w : Fin 9) (k : Fin 32) (outcome late reason : Nat) (quiet : Bool) : State :=
  let p := s.work[w].slots[k]
  let c := s.counterOf w
  let done : Peg := { p with
    st := .free, inst := none, ideal := 0, late := none, base := none, tD := none, spark := false, mute := 0,
    early := false, reason := 0, last := outcome, lateAmt := if outcome = 2 then min late 65535 else p.lateAmt,
    freedAt := some s.now }
  let s1 := s.setPeg w k fun _ => done
  let s1' := if p.issues then s1.bumpWrap Reg.schedFired c 31 0 else s1
  let s2 := match outcome with
    | 1 => s1'
    | 2 => s1'.bump Reg.schedCnt c 15 0
    | 3 => s1.bump Reg.schedCnt c 31 16
    | _ => s1
  let s3 := if quiet then s2 else (s2.pegLog w k p outcome late reason).pegCue w k p outcome late
  s3.selOf p

/-- A base that is skipped or cancelled releases the relative pegs that wait for it (R136, R199); was: that peg, where it was the
next ON peg to fire on its target. -/
def State.baseLost (s : State) (w : Fin 9) (was : Option Peg) (outcome : Nat) : State :=
  (List.finRange 32).foldl (fun (t : State) (j : Fin 32) =>
    let q := t.work[w].slots[j]
    if q.st = .waiting ∧ was.any fun p => decide (q.ach = p.ach) then
      (t.pegNote 0 Kind.pegSkip w j q 2).release w j (if outcome = 3 then 3 else 5) 0 2 false
    else t) s

/-- A peg, where it is the next ON peg to fire on its target (R136). -/
def State.asBase (s : State) (w : Fin 9) (k : Fin 32) : Option Peg :=
  let p := s.work[w].slots[k]
  if p.isOn ∧ s.nextBase w p = some k then some p else none

/-- Skip a peg with its note; the peg log has its L where it is skipped as late (R130, R134, R291). -/
def State.skip (s : State) (w : Fin 9) (k : Fin 32) (kind reason : Nat) : State :=
  let p := s.work[w].slots[k]
  let l := if kind = Kind.pegSkip ∧ reason = 1 then p.late.getD 0 else 0
  ((s.pegNote 0 kind w k p reason).release w k 3 l reason false).baseLost w (s.asBase w k) 3

/-- The unit or the program cancels a peg, without a note (R75, R133, R174). -/
def State.cancelPeg (s : State) (w : Fin 9) (k : Fin 32) (outcome : Nat) (quiet : Bool) : State :=
  (s.release w k outcome 0 0 quiet).baseLost w (s.asBase w k) outcome

/-! ### Soft-off (R144, R145) -/

/-- The soft-off command for an output, whose line falls in any case SOFT + 64 µs from now (R144, R422). -/
def State.softCmd (s : State) (n : Fin 24) : State :=
  (s.setEIgn n fun e => { e with softBy := some (s.now + s.drv.ign[n].softUs * 250 + 16000) }).ddlSend (.softoff n)

/-- Bring a coil down: the dwell line stays active and the driver die is commanded (R144). -/
def State.softOff (s : State) (w : Fin 9) (k : Fin 32) (reason : Nat) : State :=
  let p := s.work[w].slots[k]
  match p.ign with
  | none => s
  | some n =>
    (s.setPeg w k fun p => { p with st := .softoff, reason := reason, spark := false, inst := none }).softCmd n

/-- The driver die starts the ramp over the SOFT it holds, where the gate is on (R144, R246). -/
def State.rampDown (s : State) (n : Fin 24) : State :=
  if s.drv.ign[n].gate && decide (s.drv.ign[n].soft = none) then
    s.setDIgn n fun d => { d with soft := some (s.now + d.softUs * 250) }
  else s

/-! ### Aiming (R126, R129, R130, R141, R142) -/

/-- The signed angle distance of an angle from a segment's tooth, in 1/256 at (R126). -/
def State.distOf (s : State) (g : Seg) (angle : Nat) : Int := wrapHalf s.cyc256 (256 * (angle : Int) - g.θ)

/-- The ideal instant of an angle in vernier steps (R126). -/
def State.aim (s : State) (g : Seg) (angle : Nat) (tofs : Int) : Nat :=
  let d : Rat := (s.distOf g angle : Rat) / 256
  let p : Rat := (g.p1 : Rat) / 256
  let tau : Rat :=
    if d ≤ p then 2 * d / (g.ω + sqrtQ (g.ω * g.ω + 2 * g.α * d))
    else g.qT + (d - p) / (g.ω + g.α * g.qT)
  ((g.t : Int) + roundQ (16 * tau) + tofs).toNat

/-- Lateness in at, rounded up (R130). -/
def lateAt (g : Seg) (ideal fire : Nat) : Nat := (((fire - ideal : Nat) : Rat) / 16 * g.ω).ceil.toNat

/-- Lateness in DCLK, rounded up (R136). -/
def lateDclk (ideal fire : Nat) : Nat := (fire - ideal + 63) / 64

/-- The edge line of a peg: channel n or 32 + n for an ignition output. -/
def Peg.line (p : Peg) : Option Nat :=
  match p.ach, p.ign with
  | some c, _ => some c.val
  | none, some n => some (32 + n.val)
  | none, none => none

/-- The TCLK before which an ignition output takes no new dwell (R144): past the dwell's own TCLK while a soft-off is in progress. -/
def State.dwellBar (s : State) (n : Fin 24) (fire : Nat) : Nat :=
  if s.edg.ign[n].softBy.isNone then s.edg.ign[n].barUntil
  else max (fire + 1) (match s.drv.ign[n].soft with
    | some t => t + 266
    | none => s.now + s.drv.ign[n].softUs * 250 + 266)

/-- The earliest fire instant that R141 allows a peg on its line, in vernier steps: 16 TCLK after the previous command there,
driven or committed, and after a lower slot aimed at the same instant. A new dwell waits for the end of a soft-off on the output and
its 1 µs after that (R144); while the end is not known it is taken from the ramp (DESIGN CHOICE, log entry 82). -/
def State.lineFree (s : State) (w : Fin 9) (k : Fin 32) (fire : Nat) : Nat :=
  let p := s.work[w].slots[k]
  let base := match p.ach, p.ign with
    | some c, _ => (s.edg.ch[c].lastCmd.map (· + 256)).getD 0
    | none, some n =>
      max ((s.edg.ign[n].lastCmd.map (· + 256)).getD 0) (if p.tD.isNone then 16 * s.dwellBar n (fire / 16) else 0)
    | none, none => 0
  match p.line with
  | none => 0
  | some _ =>
    (List.finRange 9).foldl (fun (a : Nat) (v : Fin 9) =>
      (List.finRange 32).foldl (fun (a : Nat) (j : Fin 32) =>
        let q := s.work[v].slots[j]
        if (v = w ∧ j = k) ∨ q.line ≠ p.line then a
        else
          match q.st, q.inst with
          | .committed, some t => if t ≤ fire then max a (t + 256) else a
          | .driven, some t => if t ≤ fire then max a (t + 256) else a
          | .aimed, some t => if t = fire ∧ j < k then max a (t + 256) else a
          | .dwelling, some t => if t = fire ∧ j < k then max a (t + 256) else a
          | _, _ => a) a) base

/-- A peg receives its ideal instant and its fire instant, and is judged by R130; g is the model whose rate counts. -/
def State.settlePeg (s : State) (g : Seg) (w : Fin 9) (k : Fin 32) (ideal e : Nat) : State :=
  let p := s.work[w].slots[k]
  let f0 := max ideal e
  let f1 := match p.tD with
    | some d => if p.isCoil then max f0 (d + usSteps p.dws.dmin) else f0
    | none => f0
  let fire := max f1 (s.lineFree w k f1)
  let late := if fire ≤ ideal then none else some (if p.rel then lateDclk ideal fire else lateAt g ideal fire)
  let put (st : PegState) : State :=
    (s.setPeg w k fun p => { p with st := st, inst := some fire, ideal := ideal, late := late }).selOf p
  let judged := s.setPeg w k fun p => { p with late := late }
  if p.isCoil && p.tD.isNone then
    -- the dwell start: `ideal` is its own; the spark decides by DMIN (R142)
    let spark := s.aim g p.angle p.tofs
    if ideal < fire ∧ spark < fire + usSteps p.dws.dmin then s.skip w k Kind.pegSkip 3
    else
      match p.ign with
      | some n => (put .aimed).ddlSend (.softval n p.dws.soft p.seq)
      | none => put .aimed
  else if (late.getD 0) ≤ p.latetol then put (if p.isCoil then .dwelling else .aimed)
  else if p.isCoil then judged.softOff w k 1
  else judged.skip w k Kind.pegSkip 1

/-- A COIL at its turn or at an instruction: its dwell start, or its spark while it dwells (R131, R142). The entry range is (θ_m − half
cycle, HE]; the spark is inside the horizon with its dwell start where it too lies no farther than HE. A dwell start whose A_d, computed
anew, lies beyond HE is ARMED again (DESIGN CHOICE, log entry 82). The Bool says that the dwell start was passed. -/
def State.coilStep (s : State) (g : Seg) (w : Fin 9) (k : Fin 32) (turn : Nat) (he θm : Int) : State × Bool :=
  let p := s.work[w].slots[k]
  let e := 16 * (turn + 16)
  let far (x : Int) : Int := wrapHalf s.cyc256 (x - θm)
  if p.st = .dwelling then
    (if far (256 * (p.angle : Int)) ≤ far he then s.settlePeg g w k (s.aim g p.angle p.tofs) e else s, false)
  else
    let span := roundQ ((p.dws.dwell * 250 : Nat) * g.ω)
    let aD : Nat := (((p.angle : Int) - span) % (s.cycle : Int)).toNat
    let d := far (256 * (aD : Int))
    if far he < d then (s.setPeg w k fun p => { p with st := .armed, inst := none }, false)
    else
      let ideal := if d + 256 * span ≤ far he then s.aim g p.angle p.tofs - usSteps p.dws.dwell else s.aim g aD p.tofs
      (s.settlePeg g w k ideal e, decide (d ≤ 0))

/-- A peg's angle is kept out of the horizon in PROVISIONAL (R86). -/
def State.keptOut (s : State) (p : Peg) : Bool := decide (s.sync = .provisional) && !p.prov

/-- The judgement of ARM and REAIM (R131); the Bool says that the peg was judged passed. A peg ahead whose ideal instant is less than
16 TCLK away gets E as its fire instant, and R130 judges it, or R142 a dwell start (DESIGN CHOICE, log entry 82). -/
def State.judge (s : State) (w : Fin 9) (k : Fin 32) (arm : Bool) : State × Bool :=
  let p := s.work[w].slots[k]
  let back := s.setPeg w k fun p => { p with st := .armed, inst := none }
  match s.edg.heOld, s.segAt s.now with
  | some he, some g =>
    if s.keptOut p then (back, false)
    else
      let θm := s.segAng g (16 * s.now)
      if p.isCoil then s.coilStep g w k s.now he θm
      else
        let d := wrapHalf s.cyc256 (256 * (p.angle : Int) - θm)
        let passed := decide (d ≤ 0) && (!arm || decide (-d ≤ 256 * (p.latetol : Int)))
        let inside := decide (0 < d) && decide (d ≤ wrapHalf s.cyc256 (he - θm))
        if passed || inside then (s.settlePeg g w k (s.aim g p.angle p.tofs) (16 * (s.now + 16)), passed)
        else (back, false)
  | _, _ => (if arm then back else s, false)

/-- A relative peg's instant from its base (R136). -/
def State.settleRel (s : State) (w : Fin 9) (k : Fin 32) (base : Nat) : State :=
  let s1 := s.setPeg w k fun p => { p with base := some base }
  let p := s1.work[w].slots[k]
  let ideal := ((base : Int) + 64 * (p.angle : Int) + p.tofs).toNat
  s1.settlePeg ⟨0, 0, 0, 0, 0, false, 0, false⟩ w k ideal (16 * (s.now + 16))

/-! ### Holds (R134, R145, R246, R422) -/

/-- The target of a peg is held in the safe actuation state (R134, R422). -/
def State.pegHeld (s : State) (p : Peg) : Bool :=
  match p.ach, p.ign, p.win, p.jig with
  | some c, _, _, _ => s.chHeld c
  | _, some n, _, _ => s.ignHeld n
  | _, _, some v, _ => decide (s.ms.owner[24 + v.val] = 0xF) || s.workHeld s.ms.owner[24 + v.val]
  | _, _, _, some e => decide (s.jig[e].owner = 0xF)
  | _, _, _, _ => false

/-- Change every slot of every work. -/
def State.eachPeg (s : State) (f : State → Fin 9 → Fin 32 → State) : State :=
  (List.finRange 9).foldl (fun t w => (List.finRange 32).foldl (fun t k => f t w k) t) s

/-- A hold begins: COMMITTED and DRIVEN pegs on the target act no more and are skipped at their instant, and coils in dwell come down, a
DWELLING one with reason 6h (R123, R134, R145, R422). -/
def State.holdPegs (s : State) (on : Peg → Bool) : State :=
  s.eachPeg fun t w k =>
    let p := t.work[w].slots[k]
    if !on p then t
    else if p.st = .dwelling then t.softOff w k 6
    else if p.st = .committed ∨ p.st = .driven then
      let u := t.setPeg w k fun p => { p with mute := 2 }
      match p.ign with
      | some n => if p.spark then u.softCmd n else u
      | none => u
    else t

/-- A solenoid channel enters the safe actuation state (R246, R422). -/
def State.holdCh (s : State) (c : Fin 32) : State := (s.chSafe c).holdPegs fun p => decide (p.ach = some c)

/-- An ignition output enters the safe actuation state: its line falls at once unless its coil is in dwell (R246, R422). -/
def State.holdIgn (s : State) (n : Fin 24) : State :=
  let s1 := s.holdPegs fun p => decide (p.ign = some n)
  let s2 := s1.rampDown n
  if s2.drv.ign[n].gate then s2 else s2.setEIgn n fun e => { e with line := false }

/-- A jig engine enters the safe actuation state: its pegs trigger it no more (R134, R422). -/
def State.holdJig (s : State) (e : Fin 8) : State := s.holdPegs fun p => decide (p.jig = some e)

/-- A window enters the safe actuation state (R273, R422). -/
def State.holdWin (s : State) (v : Fin 16) : State := s.holdPegs fun p => decide (p.win = some v)

/-! ### Drops and reverse (R75, R79, R85, R125, R137, R145) -/

/-- Relative pegs first, so that they go as armed pegs and not as lost bases (R137). -/
def slotOrder (slots : Vector Peg 32) : List (Fin 32) :=
  let all := List.finRange 32
  all.filter (fun k => (slots[k]).rel) ++ all.filter (fun k => !(slots[k]).rel)

/-- A COIL whose dwell runs: DWELLING, or its spark COMMITTED (R145). -/
def Peg.inDwell (p : Peg) : Bool := p.isCoil && (decide (p.st = .dwelling) || (decide (p.st = .committed) && p.spark))

/-- The unit cancels a peg that is not DRIVEN; a coil in dwell comes down; a driven dwell start or provisional start is marked
(R75, R85, R123, R145). -/
def State.unitCancel (s : State) (w : Fin 9) (k : Fin 32) (reason : Nat) : State :=
  let p := s.work[w].slots[k]
  if p.inDwell then s.softOff w k reason
  else
    match p.st with
    | .armed => s.cancelPeg w k 5 false
    | .aimed => s.cancelPeg w k 5 false
    | .waiting => s.cancelPeg w k 5 false
    | .committed => s.cancelPeg w k 5 false
    | .driven => if p.isCoil && p.tD.isNone then s.setPeg w k fun p => { p with reason := reason } else s
    | _ => s

/-- The pegs of every carried work, in the order of R137. -/
def State.eachLive (s : State) (f : State → Fin 9 → Fin 32 → State) : State :=
  s.liveWorks.foldl (fun t w => (slotOrder t.work[w].slots).foldl (fun t k => f t w k) t) s

/-- The pegs at a drop of the sync (R75). -/
def State.dropPegs (s : State) : State := s.eachLive fun t w k => t.unitCancel w k 4

/-- At a contradiction every provisional peg goes and every profile it started ends at once (R85). -/
def State.dropProv (s : State) : State :=
  let s1 := s.eachLive fun t w k =>
    let p := t.work[w].slots[k]
    if p.prov && decide (p.st = .driven) && p.isOn then t.setPeg w k fun p => { p with reason := 4 } else t
  (List.finRange 32).foldl (fun t c => if t.edg.ch[c].prov then t.lineOff c else t) s1

/-- The pegs at the onset of reverse (R79, R125, R137, R145). -/
def State.reversePegs (s : State) : State :=
  s.eachLive fun t w k =>
    let p := t.work[w].slots[k]
    if p.st = .aimed ∧ !p.rel then (t.setPeg w k fun p => { p with st := .armed, inst := none, late := none }).selOf p
    else if p.inDwell then t.softOff w k 5
    else if p.rel ∧ (p.st = .aimed ∨ p.st = .waiting) then t.cancelPeg w k 5 false
    else if p.isFuel then (if p.st = .committed then t.setPeg w k fun p => { p with mute := 1 } else t)
    else if p.st = .committed then t.cancelPeg w k 5 false
    else if p.st = .driven ∧ p.isCoil ∧ p.tD.isNone then t.setPeg w k fun p => { p with reason := 5 }
    else t

/-! ### The pass (R124, R128, R129) -/

/-- Angle x lies in the half-open range (lo, hi], modulo the cycle (R124). -/
def State.inRange (s : State) (lo hi x : Int) : Bool :=
  let a := (x - lo) % s.cyc256
  decide (0 < a) && decide (a ≤ (hi - lo) % s.cyc256)

/-- Insert by distance, nearest first, then by slot. -/
def nearInsert (x : Nat × Fin 32) : List (Nat × Fin 32) → List (Nat × Fin 32)
  | [] => [x]
  | y :: t => if x.1 < y.1 then x :: y :: t else y :: nearInsert x t

/-- The pegs a pass takes in one work, nearest first (R128). -/
def State.passList (s : State) (g : Seg) (w : Fin 9) (heOld heNew : Int) : List (Fin 32) :=
  let add (l : List (Nat × Fin 32)) (k : Fin 32) : List (Nat × Fin 32) :=
    let p := s.work[w].slots[k]
    let x : Int := 256 * (p.angle : Int)
    let near := (s.distOf g p.angle).natAbs
    if p.rel || s.keptOut p then l
    else if p.isCoil then
      if p.st = .dwelling then nearInsert (near, k) l
      else if p.st = .armed ∨ p.st = .aimed then
        let aD : Int := (p.angle : Int) - roundQ (((s.passDwell p).dwell * 250 : Nat) * g.ω)   -- the values this pass gives it
        nearInsert ((s.distOf g (aD % (s.cycle : Int)).toNat).natAbs, k) l
      else l
    else if p.st = .aimed ∨ (p.st = .armed ∧ s.inRange heOld heNew x) then nearInsert (near, k) l
    else l
  ((List.finRange 32).foldl add []).map (·.2)

/-- One peg at its turn (R129). -/
def State.passStep (s : State) (g : Seg) (w : Fin 9) (k : Fin 32) (turn : Nat) (he : Int) : State :=
  let p := s.work[w].slots[k]
  let committed : Bool := match p.inst with
    | some t => decide (t / 16 ≤ turn + 16)
    | none => false
  if (decide (p.st = .aimed) || decide (p.st = .dwelling)) && committed then s
  else if p.isCoil then
    if p.st = .armed ∨ p.st = .aimed ∨ p.st = .dwelling then
      ((s.takeDwell w k).coilStep g w k turn he (s.segAng g (16 * turn))).1
    else s
  else if p.st = .armed ∨ p.st = .aimed then s.settlePeg g w k (s.aim g p.angle p.tofs) (16 * (turn + 16))
  else s

/-- The pass of one work from TCLK t0: 2 TCLK for each peg (R128). The Bool says that a descriptor's RES failed, at which the pass
ends (R116). -/
def State.passWork (s : State) (g : Seg) (t0 : Nat) (heOld heNew : Int) (w : Fin 9) : State × Bool :=
  let turn (acc : State × Nat × Bool) (k : Fin 32) : State × Nat × Bool :=
    if acc.2.2 then acc
    else if acc.1.work[w].slots[k].resBad then (acc.1, acc.2.1, true)
    else (acc.1.passStep g w k acc.2.1 heNew, acc.2.1 + 2, false)
  let r := (s.passList g w heOld heNew).foldl turn (s, t0 + 2, false)
  (r.1, r.2.2)

/-- The scheduler of a work is live: its cluster is not loading the section of a takeover (R148). -/
def State.schedLive (s : State) (w : Fin 9) : Bool := (s.carrier w).isSome && !s.take.any fun t => decide (t.work = w)

/-- A pass in every carried work whose scheduler is live; the horizon moves to HE_new (R124, R128). Also the works in which a RES
failed (R116). -/
def State.pass (s : State) (t0 : Nat) (heNew : Int) : State × List (Fin 9) :=
  match s.edg.heOld, s.prd.seg with
  | some old, some g =>
    let one (acc : State × List (Fin 9)) (w : Fin 9) : State × List (Fin 9) :=
      let r := acc.1.passWork g t0 old heNew w
      (r.1, if r.2 then acc.2 ++ [w] else acc.2)
    let (s1, bad) := (s.liveWorks.filter s.schedLive).foldl one (s, [])
    ({ s1 with edg := { s1.edg with heOld := some (heNew % s.cyc256) } }, bad)
  | _, _ => (s, [])

/-- In PROVISIONAL, an ARMED peg without PROV whose angle lies in (lo, hi] is skipped with PROV_SKIP (R86). -/
def State.provSkips (s : State) (lo hi : Int) : State :=
  s.eachLive fun t w k =>
    let p := t.work[w].slots[k]
    if p.st = .armed ∧ !p.prov ∧ !p.rel ∧ t.inRange lo hi (256 * (p.angle : Int)) then t.skip w k Kind.provSkip 0 else t

/-- In PROVISIONAL the angle has come to a: pegs kept out whose angle was passed since the last such step are skipped (R86). -/
def State.provTo (s : State) (a : Int) : State :=
  if s.sync ≠ .provisional ∨ s.whl.rev then { s with whl := { s.whl with provAng := none } }
  else
    match s.whl.provAng with
    | none => { s with whl := { s.whl with provAng := some a } }
    | some lo =>
      if s.ahead false a lo ≤ 0 then s
      else
        let t := s.provSkips lo a
        { t with whl := { t.whl with provAng := some a } }

/-- The same up to ANG_NOW of the present TCLK. -/
def State.provPass (s : State) : State :=
  match s.angFine s.now with
  | some a => s.provTo a
  | none => { s with whl := { s.whl with provAng := none } }

end Sys2Proof.Machine
end

