-- ==== Sys2Proof/Machine/Goals.lean ====
section
/-! DEFINITION. Goalposts, FRESH and the updates of the measurement region's units (R269 to R272). -/

namespace Sys2Proof.Machine

/-- Replace a modulator, a pair, a window or a goalpost. -/
def State.setMod (s : State) (m : Fin 8) (f : Modulator → Modulator) : State := { s with ms := { s.ms with mod := upd s.ms.mod m f } }
def State.setPair (s : State) (p : Fin 4) (f : Pair → Pair) : State := { s with ms := { s.ms with pair := upd s.ms.pair p f } }
def State.setWin (s : State) (w : Fin 16) (f : Window → Window) : State := { s with ms := { s.ms with win := upd s.ms.win w f } }
def State.setGoal (s : State) (g : Fin 16) (f : Goal → Goal) : State := { s with ms := { s.ms with goal := upd s.ms.goal g f } }

/-- SOURCE of the measurement region (R412). -/
def srcM1 (cluster unit : Nat) : Nat := srcC 1 cluster unit

/-- The partner of a modulator in its checker pair, and the pair (R258). -/
def pairOf (m : Fin 8) : Fin 4 := ⟨m.val / 2, by omega⟩
def partner (m : Fin 8) : Fin 8 := if m.val % 2 = 0 then ⟨m.val + 1 - m.val / 7, by omega⟩ else ⟨m.val - 1, by omega⟩

/-- The pair of a modulator is in simultaneous mode. -/
def State.simMode (s : State) (m : Fin 8) : Bool := s.rb Reg.pairCfg (pairOf m).val 0

/-- Owner of a modulator, a goalpost, a window (R273). -/
def State.modOwner (s : State) (m : Fin 8) : Nat := s.ms.owner[m.val]
def State.goalOwner (s : State) (g : Fin 16) : Nat := s.ms.owner[8 + g.val]
def State.winOwner (s : State) (w : Fin 16) : Nat := s.ms.owner[24 + w.val]

/-- The code of a zone (R278). -/
def Zone.code : Zone → Nat
  | .inside => 0 | .high => 1 | .low => 2 | .lost => 3

/-- The event code of a zone (R272). -/
def Zone.event : Zone → Nat
  | .high => 1 | .low => 2 | .inside => 3 | .lost => 4

/-- A goalpost's zone becomes z: an event; a goalpost of the host records it in GPg_STAT only (R272). -/
def State.goalEvent (s : State) (g : Fin 16) (z : Zone) : State :=
  let s1 := (s.setGoal g fun x => { x with zone := z, cand := z, cnt := 0 }).bump Reg.gpStat g 31 16
  let s2 := s1.cueOwner (s1.goalOwner g) 22 (g.val + z.event * 16) 0 s.now
  let act := fld (s.rgThen Reg.gpCfg g) 17 16
  if (act = 1 ∨ act = 2) ∧ z ≠ .inside ∧ s1.goalOwner g ≠ 0xC then s2.emit act Kind.goalTrip (srcM1 3 g) (g.val + z.event * 16) else s2

/-- The zone a value stands in; none between the limits and their hysteresis (R271). -/
def State.zoneOf (s : State) (g : Fin 16) (v : Int) : Option Zone :=
  let lo := sx 32 (s.rgThen Reg.gpLo g).toNat
  let hi := sx 32 (s.rgThen Reg.gpHi g).toNat
  let h : Int := (s.rgThen Reg.gpHys g).toNat
  if v > hi then some .high else if v < lo then some .low else if lo + h ≤ v ∧ v ≤ hi - h then some .inside else none

/-- A goalpost compares a value (R271). -/
def State.goalValue (s : State) (g : Fin 16) (v : Int) : State :=
  let x := s.ms.goal[g]
  match s.zoneOf g v with
  | none => s.setGoal g fun x => { x with cnt := 0 }
  | some z =>
    if z = x.zone then s.setGoal g fun x => { x with cnt := 0 }
    else
      let n := if x.cand = z then x.cnt + 1 else 1
      if max 1 (fld (s.rgThen Reg.gpCfg g) 15 12) ≤ n then s.goalEvent g z else s.setGoal g fun x => { x with cand := z, cnt := n }

/-- The enabled goalposts on a source, by their words before a write of the present TCLK (R271). -/
def State.goalsOn (s : State) (type unit : Nat) : List (Fin 16) :=
  (List.finRange 16).filter fun g =>
    let w := s.rgThen Reg.gpCfg g
    bit w 11 && decide (fld w 1 0 = type) && decide ((if type = 0 ∨ type = 3 then fld w 4 2 else fld w 5 2) = unit)

/-- Every goalpost on a source compares a value. -/
def State.goalsValue (s : State) (type unit : Nat) (v : Int) : State :=
  (s.goalsOn type unit).foldl (fun (t : State) (g : Fin 16) => t.goalValue g v) s

/-- Every goalpost on a figure compares it (R271). -/
def State.goalsFigure (s : State) (w f : Nat) (v : Int) : State :=
  (s.goalsOn 2 w).foldl (fun (t : State) (g : Fin 16) => if fld (t.rgThen Reg.gpCfg g) 10 6 = f then t.goalValue g v else t) s

/-- The source of some goalposts becomes invalid: LOST (R272). -/
def State.goalsLost (s : State) (types : List Nat) (unit : Nat) : State :=
  types.foldl (fun (t : State) ty => (t.goalsOn ty unit).foldl (fun (u : State) (g : Fin 16) => if u.ms.goal[g].zone = .lost then u else u.goalEvent g .lost) t) s

/-! ### FRESH (R204, R269) -/

/-- Replace a reader. -/
def State.setReader (s : State) (p : Fin 11) (f : Reader → Reader) : State := { s with readers := upd s.readers p f }

/-- A reader takes a value with a sequence number: whether it is new to that reader, and the reader remembers (R269). Value
ids: 0 to 7 results, 8 + 32 w + f figures. -/
def State.fresh (s : State) (p : Fin 11) (id seq : Nat) : State × Bool :=
  let last := sparseGet 0 s.readers[p].seen id
  (s.setReader p fun r => { r with seen := sparseSet 0 id seq r.seen }, decide (last ≠ seq))

/-- FRESH without taking the value. -/
def State.isFresh (s : State) (p : Fin 11) (id seq : Nat) : Bool := decide (sparseGet 0 s.readers[p].seen id ≠ seq)

end Sys2Proof.Machine
end

