-- ==== Sys2Proof/Machine/Windows.lean ====
section
/-! DEFINITION. Measurement windows and the angle resampler (R261 to R264, R291). Grid angles are in fifths of an at. -/

namespace Sys2Proof.Machine

/-- Grid step in fifths of an at (R261). -/
def WinRun.step5 (r : WinRun) : Int :=
  match fld r.cfg 5 4 with
  | 0 => 8192 | 1 => 16384 | 2 => 40960 | _ => 81920

/-- φ_k before the reduction modulo the cycle, in fifths of an at (R261). -/
def WinRun.phi5 (r : WinRun) (k : Int) : Int := 5 * (r.tdc : Int) + k * r.step5

/-- The cycle in fifths of an at. -/
def State.cyc5 (s : State) : Int := 5 * (s.cycle : Int)

/-- Ceiling of a quotient of integers, for a positive divisor. -/
def ceilDiv (a b : Int) : Int := -((-a) / b)

/-- The first grid index at or after an ANG angle, counted on from the grid angle before the window's first (R261, R266). -/
def State.gridFrom (s : State) (r : WinRun) (ang : Nat) : Int :=
  let base := (r.k0 - 1) * r.step5 + 1
  let x := base + (5 * (ang : Int) - 5 * (r.tdc : Int) - base) % s.cyc5
  ceilDiv x r.step5

/-- Change the newest opening of a window. -/
def Window.setLast (v : Window) (f : WinRun → WinRun) : Window :=
  match v.runs.reverse with
  | [] => v
  | r :: t => { v with runs := (f r :: t).reverse }

/-- WIN_STATE, WIN_LONG and WIN_ABORT notes (R264). -/
def State.winNote (s : State) (w : Fin 16) (kind : Nat) : State := s.emit 0 kind (srcM1 2 w) 0

/-! ### Placing grid angles (R262) -/

/-- The instant in TCLK of an angle in fifths of an at on a segment (R126, R262). -/
def State.instantOf (s : State) (g : Seg) (x5 : Int) : Rat :=
  let d : Rat := (wrapHalf (256 * s.cyc5) (256 * x5 - 5 * g.θ) : Rat) / 1280
  let p : Rat := (g.p1 : Rat) / 256
  let tau : Rat :=
    if d ≤ p then 2 * d / (g.ω + sqrtQ (g.ω * g.ω + 2 * g.α * d))
    else g.qT + (d - p) / (g.ω + g.α * g.qT)
  (g.t : Rat) / 16 + tau

/-- Place the grid angles that the model angle of TCLK t has reached, on segment g; n bounds the number. -/
def State.placeOn (s : State) (g : Seg) (t period : Nat) : Nat → WinRun → WinRun
  | 0, r => r
  | n + 1, r =>
    let k := r.nextK
    let done := match r.endK with
      | some e => decide (e < k)
      | none => false
    let θm := s.segAng g (16 * t)
    let reached := decide (wrapHalf (256 * s.cyc5) (256 * r.phi5 k - 5 * θm) ≤ 0)
    if done || !reached || decide (r.k0 + 4096 ≤ k) then r
    else
      let x := s.instantOf g (r.phi5 k)
      let fast := match r.lastT with
        | some y => decide (x - y < (period : Rat))
        | none => false
      s.placeOn g t period n { r with nextK := k + 1, placed := r.placed ++ [(k, x)], lastT := some x, fast := r.fast || fast }

/-- Output period of a decimation setting in TCLK (R250). -/
def decPeriod (dec : Nat) : Nat :=
  match dec with
  | 0 => 160 | 1 => 320 | 2 => 640 | 3 => 1280 | 4 => 2560 | 5 => 640 | 6 => 1280 | _ => 2560

/-- Output period of the source of an opening. -/
def State.srcPeriod (s : State) (r : WinRun) : Nat := decPeriod s.ms.mod[(⟨fld r.cfg 2 0, by unfold fld; omega⟩ : Fin 8)].dec

/-- Place every grid angle reached up to now: first those that an opening older than the newest publication to the measurement region
reached under the segment in force there before it, then those under the newest (R23, R262). -/
def State.placeAll (s : State) : State :=
  if !s.angValid then s
  else
    let go (r : WinRun) : WinRun :=
      let r1 := match s.prd.old with
        | some g => if r.openAt < s.pubMeas then s.placeOn g (min s.now (s.pubMeas - 1)) (s.srcPeriod r) 4096 r else r
        | none => r
      match s.prd.seg with
      | some g => if s.pubMeas ≤ s.now then s.placeOn g s.now (s.srcPeriod r) 4096 r1 else r1
      | none => r1
    { s with ms := { s.ms with win := s.ms.win.map fun v => { v with runs := v.runs.map go } } }

/-- A window that has reached 4,096 grid points closes at that point (R264). -/
def State.winLong (s : State) (w : Fin 16) : State :=
  let v := s.ms.win[w]
  let full := match v.runs.getLast? with
    | some r => decide (4096 ≤ r.nextK - r.k0) && r.endK.isNone
    | none => false
  if v.isOpen && full then
    (s.winNote w Kind.winLong).setWin w fun v => { v.setLast fun r => { r with
      endK := some (r.k0 + 4095), long := true, pref := s.rg Reg.winPref w } with isOpen := false }
  else s

/-- What the passing of time brings to the windows (R262, R264). -/
def State.windowsNow (s : State) : State :=
  if s.measRuns then (List.finRange 16).foldl (fun (t : State) (w : Fin 16) => t.winLong w) s.placeAll else s

/-- A window opens and latches its configuration (R261); CYC counts the openings (log entry 27). Grid angles already passed are placed
by the segment in force now (R262). -/
def State.winOpen (s : State) (w : Fin 16) (angle : Nat) : State :=
  if s.ms.win[w].isOpen then (s.winNote w Kind.winState).setWin w fun v => { v with reopen := some (s.now, angle) }
  else if s.winOwner w = 0xF then s
  else
    let cyc := (s.ms.win[w].cyc + 1) % 65536
    let r : WinRun := ⟨s.rg Reg.winCfg w, s.rf Reg.winTdc w 23 0, s.rf Reg.winPeg w 23 0, s.rf Reg.winMot w 23 0,
      s.rg Reg.winKnk w, s.rf Reg.winHr w 15 0, s.rg Reg.winMis w, angle, 0, 0, none, [], none, [], 0, false, false, false, 0,
      cyc, s.now⟩
    let k0 := ceilDiv (wrapHalf s.cyc5 (5 * ((angle : Int) - (r.tdc : Int)))) r.step5
    let r1 : WinRun := { r with k0 := k0, nextK := k0 }
    let r2 := match s.segMeas s.now with
      | some g => if s.angValid then s.placeOn g s.now (s.srcPeriod r1) 4096 r1 else r1
      | none => r1
    (s.setWin w fun v => { v with isOpen := true, cyc := cyc, runs := v.runs ++ [r2] }).winLong w


/-! ### Resolving grid points (R263) -/

/-- The value at instant t between adjacent samples of the history, newest first; none while no later sample is there. -/
def gridValue (t : Rat) : List Sample → Option (Int × Bool)
  | [] => none
  | [b] => if t < (b.stamp : Rat) then some (0, false) else none
  | b :: a :: rest =>
    if (b.stamp : Rat) ≤ t then none
    else if (a.stamp : Rat) ≤ t then
      if a.stream = b.stream ∧ a.valid ∧ b.valid then
        some (roundQ ((a.v : Rat) + ((b.v - a.v : Int) : Rat) * (t - a.stamp) / ((b.stamp - a.stamp : Nat) : Rat)), true)
      else some (0, false)
    else gridValue t (a :: rest)

/-- Resolve what the history allows, in order. -/
def resolveRun (hist : List Sample) : List (Int × Rat) → WinRun → WinRun × List Point
  | [], r => ({ r with placed := [] }, [])
  | (k, t) :: rest, r =>
    match gridValue t hist with
    | none => ({ r with placed := (k, t) :: rest }, [])
    | some (v, ok) =>
      let (r', ps) := resolveRun hist rest r
      (r', ⟨k, v, ok⟩ :: ps)

/-- Bits of a point in a GRID slot (R291). -/
def Point.bits (p : Point) : Nat := unsx 20 p.v + bitAt (!p.valid) 20

/-- Words 1 to 7 of a GRID slot. -/
def gridWords : List Point → List Nat
  | a :: b :: t => (a.bits + b.bits * 2 ^ 32) :: gridWords t
  | [a] => [a.bits]
  | [] => []

/-- Send the GRID slots that hold 14 points, and at the end the points left over (R292); n bounds the slots. -/
def State.gridSlots (s : State) (w : Fin 16) (last : Bool) : Nat → WinRun → State × WinRun
  | 0, r => (s, r)
  | n + 1, r =>
    let left := r.pts.length - r.gridAt
    if !bit r.cfg 6 || decide (left = 0) || (decide (left < 14) && !last) then (s, r)
    else
      let ps := (r.pts.drop r.gridAt).take 14
      let slot := slotOf (slotHead 1 w.val ps.length (r.gridAt % 4096 + r.cyc % 4096 * 4096) :: gridWords ps)
      (s.traceSend slot).gridSlots w last n { r with gridAt := r.gridAt + ps.length }

/-- A window's end: the engine takes it up in turn, and a stay entry of its source ends, its partner's with it in simultaneous mode
(R254, R258, R264, R268). -/
def State.winEnd (s : State) (w : Fin 16) (r : WinRun) : State :=
  let m : Fin 8 := ⟨fld r.cfg 2 0, by unfold fld; omega⟩
  let s1 := ({ s with ms := { s.ms with ends := s.ms.ends ++ [(w, r)] } } : State).setMod m fun x => { x with stayDone := true }
  if s1.simMode m then s1.setMod (partner m) fun x => { x with stayDone := true } else s1

/-- One opening after its points were resolved as far as the history goes: goalposts, GRID slots and the end. -/
def State.runResolve (s : State) (w : Fin 16) (hist : List Sample) (r : WinRun) : State × Option WinRun :=
  let (r1, ps) := resolveRun hist r.placed r
  let s1 := ps.foldl (fun (t : State) (p : Point) => if p.valid then t.goalsValue 1 w.val p.v else t) s
  let r2 := { r1 with pts := r1.pts ++ ps }
  let ended := match r2.endK with
    | some e => decide (e < r2.nextK) && decide (r2.placed = [])
    | none => false
  let (s3, r4) := s1.gridSlots w ended 300 r2
  if ended then (s3.winEnd w r4, none) else (s3, some r4)

/-- Resolve every opening of a window. -/
def State.winResolve (s : State) (w : Fin 16) : State :=
  s.ms.win[w].runs.foldl (fun (t : State) (r : WinRun) =>
    let m : Fin 8 := ⟨fld r.cfg 2 0, by unfold fld; omega⟩
    let (t1, keep) := t.runResolve w t.ms.mod[m].hist r
    t1.setWin w fun v => { v with runs := v.runs ++ keep.toList }) (s.setWin w fun v => { v with runs := [] })

/-- An opening whose last grid index is e, with PREF as read at the close: nothing placed or resolved beyond e stays (R261). -/
def WinRun.upTo (r : WinRun) (e : Int) (pref : Word) : WinRun :=
  let pts := r.pts.filter fun p => decide (p.k ≤ e)
  { r with
    endK := some e, pref := pref, nextK := max (min r.nextK (e + 1)) (min r.nextK r.k0),
    placed := r.placed.filter fun x => decide (x.1 ≤ e), pts := pts, gridAt := min r.gridAt pts.length }

/-- A window closes at its WIN_CLOSE peg: its last grid angle is the last before the peg's ANGLE, and what a late peg
let past it is no point of it. Where the last point is resolved already, the window ends with it (R254, R261, R264). The ANGLE is taken
in the cycle in which it lies nearest to the grid angle placed next. A WIN_OPEN of the same TCLK is applied after the close: one that
found the window open then opens it without its note, and one that found it closed leaves the close nothing to end. -/
def State.winClose (s : State) (w : Fin 16) (angle : Nat) : State :=
  if !s.ms.win[w].isOpen || s.ms.win[w].runs.getLast?.any fun r => decide (r.openAt = s.now) then s.winNote w Kind.winState
  else
    let put (r : WinRun) : WinRun :=
      let first := wrapHalf s.cyc5 (5 * ((r.angle : Int) - (r.tdc : Int))) + (5 * ((angle : Int) - (r.angle : Int))) % s.cyc5
      let turns := (2 * (r.nextK * r.step5 - first) + s.cyc5) / (2 * s.cyc5)
      let a5 := first + max 0 turns * s.cyc5
      r.upTo (min (ceilDiv a5 r.step5 - 1) (r.k0 + 4095)) (s.rg Reg.winPref w)
    let t := (s.setWin w fun v => { v.setLast put with isOpen := false, reopen := none }).winResolve w
    match s.ms.win[w].reopen.filter fun x => decide (x.1 = s.now) with
    | some (_, a) =>
      let noted (m : Msg) : Bool := decide (m.kind = Kind.winState) && decide (m.src = srcM1 2 w) && decide (m.at_ = s.now)
      (t.setColl fun c => { c with outbox := c.outbox.filter fun m => !noted m }).winOpen w a
    | none => t

/-- Place and resolve everything up to now (R262, R263). -/
def State.resample (s : State) : State :=
  if s.measRuns then (List.finRange 16).foldl (fun (t : State) (w : Fin 16) => t.winResolve w) s.windowsNow else s

/-! ### Aborts (R264) -/

/-- One opening is aborted: closed at once, its end with ABORT queued. -/
def State.runAbort (s : State) (w : Fin 16) (r : WinRun) : State :=
  let r1 := { r with aborted := true, placed := [], pref := s.rg Reg.winPref w }
  let (s1, r2) := (s.winNote w Kind.winAbort).gridSlots w true 300 r1
  (s1.winEnd w r2).goalsLost [1, 2] w.val

/-- Abort the openings of a window that the test picks. -/
def State.winAbortIf (s : State) (w : Fin 16) (p : Bool → WinRun → Bool) : State :=
  let v := s.ms.win[w]
  let n := v.runs.length
  (v.runs.zipIdx).foldl (fun (t : State) (ri : WinRun × Nat) =>
    let isLast := v.isOpen && decide (ri.2 + 1 = n)
    if p isLast ri.1 then
      (t.runAbort w ri.1).setWin w fun x => if isLast then { x with isOpen := false } else x
    else t.setWin w fun x => { x with runs := x.runs ++ [ri.1] }) (s.setWin w fun x => { x with runs := [] })

/-- ANG_NOW became invalid or reverse began: every window whose grid is not complete aborts (R264). -/
def State.winAbortAll (s : State) : State :=
  if !s.measRuns then s
  else
    (List.finRange 16).foldl (fun (t : State) (w : Fin 16) => t.winAbortIf w fun isOpen r =>
      isOpen || (match r.endK with | some e => decide (r.nextK ≤ e) | none => true)) s.resample

/-- An angle crosses to a window with a bad residue: an open window takes it as absent, as an invalid ANG_NOW (R21, R31, R32, R264; log
entry 78). -/
def State.winCrossBad (s : State) (w : Fin 16) : State :=
  if s.measRuns then s.resample.winAbortIf w fun isOpen _ => isOpen else s

/-- A modulator stopped: every window it feeds aborts (R264). -/
def State.winAbortMod (s : State) (m : Fin 8) : State :=
  (List.finRange 16).foldl (fun (t : State) (w : Fin 16) => t.winAbortIf w fun _ r => decide (fld r.cfg 2 0 = m.val)) s

end Sys2Proof.Machine
end

