-- ==== Sys2Proof/Machine/Figures.lean ====
section
/-! DEFINITION. The cycle-figure engine: volumes, filled points, the figures of R266 and their publication (R265 to R268).
Values are exact until a figure is rounded (log entry 12). -/

namespace Sys2Proof.Machine

/-- An entry of a volume table in 2^-14 of the displaced volume; the entry after the last is entry 0 (R265). -/
def State.vtEntry (s : State) (tab i : Nat) : Nat :=
  let j := i % 1024
  if j % 2 = 1 then fld (s.rg Reg.vt tab (j / 2)) 31 16 else fld (s.rg Reg.vt tab (j / 2)) 15 0

/-- V at grid index k (R265). -/
def State.volAt (s : State) (r : WinRun) (k : Int) : Rat :=
  let x : Rat := ((k * r.step5 : Int) : Rat) / 5 + 2949120
  let u := x / 5760
  let i := u.floor.toNat
  let tab := fld r.cfg 7 7
  let a : Rat := s.vtEntry tab i
  let b : Rat := s.vtEntry tab (i + 1)
  (a + (b - a) * (u - i)) / 16384

/-- The next valid point of a list with its distance. -/
def nextValid : Nat → List Point → Option (Nat × Int)
  | _, [] => none
  | n, p :: t => if p.valid then some (n, p.v) else nextValid (n + 1) t

/-- Values with runs of invalid points bridged by the line between their nearest valid neighbours, and the longest run; a run
at an end of the window takes its one neighbour's value (R266, log entry 28). -/
def fillPoints : Option Int → Nat → List Point → List Rat × Nat
  | _, _, [] => ([], 0)
  | prev, back, p :: t =>
    if p.valid then
      let (l, m) := fillPoints (some p.v) 0 t
      ((p.v : Rat) :: l, m)
    else
      let v : Rat := match prev, nextValid 1 t with
        | some a, some (n, b) => (a : Rat) + ((b - a : Int) : Rat) * ((back + 1 : Nat) : Rat) / ((back + 1 + n : Nat) : Rat)
        | some a, none => a
        | none, some (_, b) => b
        | none, none => 0
      let (l, m) := fillPoints prev (back + 1) t
      (v :: l, max m (back + 1))

/-- Central differences halved, one-sided at the ends (R266). -/
def diffs (a : Array Rat) : Array Rat :=
  (Array.range a.size).map fun i =>
    if a.size ≤ 1 then 0
    else if i = 0 then a.getD 1 0 - a.getD 0 0
    else if i + 1 = a.size then a.getD i 0 - a.getD (i - 1) 0
    else (a.getD (i + 1) 0 - a.getD (i - 1) 0) / 2

/-- The largest value of an array and the first index that has it. -/
def argMax (a : Array Rat) : Nat × Rat :=
  (List.range a.size).foldl (fun (b : Nat × Rat) i => if b.2 < a.getD i 0 then (i, a.getD i 0) else b) (0, a.getD 0 0)

/-- A sum saturates at the 32-bit range with every value added (R266). -/
def satAdd (a x : Rat) : Rat := if a + x < -2147483648 then -2147483648 else if 2147483647 < a + x then 2147483647 else a + x

/-- The sum of a list. -/
def satSum (l : List Rat) : Rat := l.foldl satAdd 0

/-- Running sums. -/
def prefixSums : Rat → List Rat → List Rat
  | _, [] => []
  | acc, x :: t => satAdd acc x :: prefixSums (satAdd acc x) t

/-- A figure value: rounded to the nearest integer and saturated at the 32-bit range (R266). -/
def figW (q : Rat) : Word := wordI (clampI (-2147483648) 2147483647 (roundQ q))

/-- An angle figure: the nearest at, below the cycle (R266). -/
def State.figAng (s : State) (x5 : Rat) : Word := wordI (roundQ (x5 / 5) % (s.cycle : Int))

/-- The angle at which Q first reaches a level, interpolated between its two grid points, in fifths of an at (R266). -/
def crossing (phi : Nat → Rat) (q : Array Rat) (lv : Rat) : Option Rat :=
  match (List.range q.size).find? fun i => decide (lv ≤ q.getD i 0) with
  | none => none
  | some 0 => some (phi 0)
  | some (i + 1) =>
    let a := q.getD i 0
    let b := q.getD (i + 1) 0
    some (phi i + (phi (i + 1) - phi i) * (lv - a) / (b - a))

/-- The figures of an ended opening that are published, with their values (R266, R267); bad: the engine's residue failed. -/
def State.figures (s : State) (r : WinRun) (bad : Bool) : List (Nat × Word) :=
  let n := r.pts.length
  let ninv := (r.pts.filter fun p => !p.valid).length
  let invrun := fld r.cfg 15 13
  let (vs, longest) := fillPoints none 0 r.pts
  let phi (i : Nat) : Rat := (r.phi5 (r.k0 + i) : Int)
  let halfTurn : Int := 5 * 2949120
  let lastK := r.k0 + (n : Int) - 1
  let novol := decide (r.k0 * r.step5 < -halfTurn) || decide (halfTurn < lastK * r.step5)
  let abort := r.aborted || bad
  let stat (misfire : Bool) : Nat × Word :=
    (0, wordN (bitAt (!abort) 0 + bitAt abort 1 + bitAt (decide (0 < ninv)) 2 + bitAt misfire 3 + bitAt r.long 5 + bitAt r.fast 6
      + bitAt novol 7 + r.cyc % 65536 * 65536))
  if abort then [stat false]
  else if invrun < longest then [stat false, (13, wordN n), (14, wordN ninv)]
  else
    let pegK := s.gridFrom r r.peg
    let pegIn := decide (r.k0 ≤ pegK) && decide (pegK ≤ lastK)
    let pegN := fld r.cfg 12 9 + 1
    let pegPts := ((r.pts.drop (pegK - r.k0).toNat).filter (·.valid)).take pegN
    let ofs : Rat :=
      if bit r.cfg 8 && pegIn && decide (pegPts ≠ []) then
        (sx 32 r.pref.toNat : Rat) - satSum (pegPts.map fun p => (p.v : Rat)) / (pegPts.length : Rat)
      else 0
    let p : Array Rat := (vs.map (· + ofs)).toArray
    let dp := diffs p
    let v : Array Rat := ((List.range n).map fun i => s.volAt r (r.k0 + i)).toArray
    let dv := diffs v
    let g : Rat := (nearer 0x4333 0x6666 r.hr : Nat) / 16384
    let pdv := (List.range n).map fun i => p.getD i 0 * dv.getD i 0
    let q : Array Rat :=
      (prefixSums 0 ((List.range n).map fun i =>
        g / (g - 1) * (p.getD i 0 * dv.getD i 0) + 1 / (g - 1) * (v.getD i 0 * dp.getD i 0))).toArray
    let (ip, pmax) := argMax p
    let (id, dpmax) := argMax dp
    let qmax := (argMax q).2
    let misfire := !novol && decide (0 < n) && decide (qmax < (sx 32 r.mis.toNat : Rat))
    let motK := s.gridFrom r r.mot
    let ks : Int := 5120 * sx 16 (fld r.knk 15 0)
    let ke : Int := 5120 * sx 16 (fld r.knk 31 16)
    let knocks := (List.range n).filterMap fun (i : Nat) =>
      let x := (r.k0 + (i : Int)) * r.step5
      if 4 ≤ i ∧ i + 4 < n ∧ ks ≤ x ∧ x ≤ ke then
        let mean := satSum ((List.range 9).map fun (j : Nat) => p.getD (i + j - 4) 0) / 9
        let d := p.getD i 0 - mean
        some (if d < 0 then -d else d)
      else none
    let ca (f lv : Nat) : List (Nat × Word) :=
      match crossing phi q (qmax * lv / 100) with
      | some x => if novol || misfire then [] else [(f, s.figAng x)]
      | none => []
    let some1 := decide (0 < n)
    [stat misfire]
      ++ (if some1 then [(1, figW pmax), (2, s.figAng (phi ip)), (3, figW dpmax), (4, s.figAng (phi id))] else [])
      ++ (if some1 && !novol then [(5, figW (satSum pdv)), (6, figW qmax)] else [])
      ++ ca 7 10 ++ ca 8 50 ++ ca 9 90
      ++ (if r.k0 ≤ motK ∧ motK ≤ lastK then [(10, figW (p.getD (motK - r.k0).toNat 0))] else [])
      ++ (if knocks ≠ [] then [(11, figW (knocks.foldl (fun a x => if a < x then x else a) 0))] else [])
      ++ (if bit r.cfg 8 then [(12, figW ofs)] else [])
      ++ [(13, wordN n), (14, wordN ninv)]
      ++ (if some1 then [(15, figW (satSum p.toList / (n : Rat)))] else [])

/-- Set an element of a vector by number; a number outside changes nothing. -/
def vset {α : Type} {n : Nat} (v : Vector α n) (i : Nat) (x : α) : Vector α n := if h : i < n then v.set i x h else v

/-- Two figures to a word of FIGA (R291). -/
def State.figPair (s : State) (w : Fin 16) (i : Nat) : Nat :=
  let f (j : Nat) : Nat := (s.ms.win[w].figs.toList.getD j 0).toNat
  f (2 * i) + f (2 * i + 1) * 2 ^ 32

/-- FIGA and FIGB, both queued in the TCLK of publication (R291, R292). -/
def State.figSlots (s : State) (w : Fin 16) (r : WinRun) (mask : Nat) : State :=
  if !bit r.cfg 6 then s
  else
    let a := slotOf (slotHead 2 w.val 14 r.cyc :: (List.range 7).map fun i => s.figPair w i)
    let b := slotOf [slotHead 3 w.val 2 r.cyc, s.figPair w 7, s.now % 2 ^ 40 + s.ang40, mask + bitAt s.angNow.isSome 16]
    (s.traceSend a).traceSend b

/-- The engine publishes the oldest window end: figures, sequences, goalposts, PUB, FIG and the trace slots (R266 to R269). -/
def State.publishFigures (s : State) (bad : Bool) : State :=
  match s.ms.ends with
  | [] => s
  | (w, r) :: rest =>
    let fi := decide (srcM1 4 0 ∈ s.inj.residue)
    let bad' := bad || fi
    let s0 : State := { s with
      ms := { s.ms with ends := rest },
      inj := { s.inj with residue := s.inj.residue.erase (srcM1 4 0) } }
    let s1 := if bad' then s0.emit 1 Kind.figResidue (srcM1 4 0) 0 else s0
    let figs := s1.figures r bad'
    let s2 := figs.foldl (fun (t : State) (fv : Nat × Word) =>
      t.setWin w fun v => { v with
        figs := vset v.figs fv.1 fv.2, fseq := vset v.fseq fv.1 (v.fseq.toList.getD fv.1 0 + 1) }) s1
    let s3 := figs.foldl (fun (t : State) (fv : Nat × Word) => t.goalsFigure w.val fv.1 (sx 32 fv.2.toNat)) s2
    let s4 := (s3.setBit Reg.winStat w 1).figSlots w r (figs.foldl (fun a (fv : Nat × Word) => a + 2 ^ fv.1) 0)
    s4.cueOwner (s4.winOwner w) 21 (w.val + r.cyc * 65536) 0 s.now

end Sys2Proof.Machine
end

