-- ==== Sys2Proof/Machine/Mods.lean ====
section
/-! DEFINITION. Modulators: sequences, requested runs, samples, checker pairs and results (R249 to R260, R269, R270). -/

namespace Sys2Proof.Machine

/-- The modulator whose configuration, sequence and urgent entry a modulator follows (R258). -/
def State.leader (s : State) (m : Fin 8) : Fin 8 := if s.simMode m && decide (m.val % 2 = 1) then partner m else m

/-- A command of a modulator: also its follower's in simultaneous mode; a follower's own command has no effect (R258). -/
def State.modBoth (s : State) (m : Fin 8) (f : State → Fin 8 → State) : State :=
  if s.leader m ≠ m then s
  else if s.simMode m then f (f s m) (partner m)
  else f s m

/-- Group delay of a decimation setting in TCLK (R250). -/
def groupDelay (dec : Nat) : Nat :=
  match dec with
  | 0 => 225 | 1 => 465 | 2 => 945 | 3 => 1905 | 4 => 3825 | 5 => 5585 | 6 => 11185 | _ => 22385

/-- Automatic discard of a decimation setting (R250). -/
def discardOf (dec : Nat) : Nat := if dec ≤ 4 then 3 else 19

/-- The modulator is in an entry. -/
def Modulator.active (x : Modulator) : Bool := x.run || x.req.isSome

/-- The modulator's present entry is the urgent one. -/
def Modulator.isUrgent (x : Modulator) : Bool := decide (x.req = some .urgent)

/-- COUNT of the latched entry: 0 is the stay entry, in the urgent entry it acts as 1 (R252). -/
def Modulator.count (x : Modulator) : Nat := if x.isUrgent then max 1 (fld x.word 17 10) else fld x.word 17 10

/-- The samples of a modulator are invalid by R251, R258 or R259. -/
def State.modInvalid (s : State) (m : Fin 8) : Bool :=
  let x := s.ms.mod[m]
  x.resBad || x.chkf || x.chkp || s.ms.pair[pairOf m].plf

/-- An entry begins: it is latched and the filter restarts, and a sample that the modulator left waiting for its partner's is gone
(R253, R255, R258); none is the urgent entry. -/
def State.beginEntry (s : State) (m : Fin 8) (j : Option Nat) : State :=
  let l := s.leader m
  let w := match j with
    | some i => s.rg Reg.seq l i
    | none => s.rg Reg.modUrg l
  let own (k : Bool × Sample) : Bool := k.1 = decide (m.val % 2 = 1)
  (s.setPair (pairOf m) fun q => { q with last := q.last.filter fun k => !own k }).setMod m fun x => { x with
    entry := j.getD x.entry, word := w, skip := discardOf x.dec + fld w 9 5, kept := [], ovlSent := false,
    stream := x.stream + 1, stayDone := false }

/-- A requested run starts on a modulator that is not busy, a follower with the DEC and CONT of its leader (R255, R256, R258). -/
def State.runRequest (s0 : State) (m : Fin 8) (r : Req) : State :=
  let l := s0.ms.mod[s0.leader m]
  let s := s0.setMod m fun x => { x with dec := l.dec, cont := l.cont }
  match r with
  | .urgent =>
    (s.setMod m fun x => { x with req := some .urgent, broken := if x.run then some x.entry else none }).beginEntry m none
  | .pass => (s.setMod m fun x => { x with req := some .pass }).beginEntry m (some 0)

/-- A further request: TRG_OVR counts, and its first count emits the note (R256). -/
def State.trgOverrun (s : State) (m : Fin 8) : State :=
  let s1 := if s.rf Reg.modTrg m 7 0 = 0 then s.emit 0 Kind.trgOverrun (srcM1 0 m) 0 else s
  s1.bump Reg.modTrg m 7 0

/-- A request reaches a modulator (R256). -/
def State.modRequest (s : State) (r : Req) (m : Fin 8) : State :=
  let x := s.ms.mod[m]
  if s.modOwner m = 0xF then s
  else if (r = .pass ∧ (x.run ∨ s.ms.mod[s.leader m].cont)) ∨ (x.req.isSome ∧ x.latch.isSome) then s.trgOverrun m
  else if x.req.isSome then s.setMod m fun x => { x with latch := some r }
  else s.runRequest m r

/-- MODm_CMD.START (R253): the sequence begins at entry 0 with the DEC and CONT of now. -/
def State.modStart1 (s : State) (m : Fin 8) : State :=
  let x := s.ms.mod[m]
  if s.modOwner m = 0xF || x.run || decide (x.req = some .pass) then s
  else
    let l := s.leader m
    let put (x : Modulator) : Modulator :=
      { x with run := true, resBad := false, dec := s.rf Reg.modCfg l 2 0, cont := s.rb Reg.modCfg l 3 }
    if x.isUrgent then s.setMod m fun x => { put x with broken := some 0 }
    else (s.setMod m put).beginEntry m (some 0)

/-- MODm_CMD.STOP (R253): the entry is abandoned, the latch cleared, the modulator idle; its windows abort (R264). -/
def State.modStop1 (s : State) (m : Fin 8) : State :=
  if !s.ms.mod[m].active then s
  else
    let s1 := (s.setPair (pairOf m) fun q => { q with last := none }).setMod m fun x => { x with
      run := false, req := none, latch := none, broken := none, kept := [], skip := 0, stream := x.stream + 1 }
    s1.winAbortMod m

/-- START, STOP and an urgent request, in the region when it runs. -/
def State.modStart (s : State) (m : Fin 8) : State := s.modBoth m State.modStart1
def State.modStop (s : State) (m : Fin 8) : State := s.modBoth m State.modStop1
def State.modUrg (s : State) (m : Fin 8) : State := s.modBoth m (State.modRequest · .urgent)

/-- A qualified pin trigger, which crosses in 4 TCLK (R21, R256, R257): pair 3 in simultaneous mode takes only ATRG0. -/
def State.atrg (s : State) (k : Fin 2) : State :=
  if !s.rb Reg.atrgCfg k 0 then s
  else
    let m : Fin 8 := ⟨6 + k.val, by omega⟩
    let r : Req := if s.rb Reg.atrgCfg k 2 then .pass else .urgent
    (s.advanceTo (s.now + 4)).intoMeas fun t => t.modBoth m (State.modRequest · r)

/-! ### Results (R253, R259, R269, R270) -/

/-- A result write (R269, R270, R271). -/
def State.resWrite (s : State) (m : Fin 8) (v : Int) (stamp : Nat) (cue : Bool) : State :=
  let s1 := s.setMod m fun x => { x with
    res := v, resCh := fld x.word 4 0, rsq := x.rsq + 1, rts := stamp % 2 ^ 32 }
  let s2 := s1.goalsValue 3 m v
  if cue then s2.cueOwner (s2.modOwner m) 23 (m.val + s2.ms.mod[m].rsq * 65536) 0 s.now else s2

/-- MEAS_PLAUS of a pair (R258, R259). -/
def State.measPlaus (s : State) (p : Fin 4) : State :=
  (s.bump Reg.pairStat p 31 16).emit 1 Kind.measPlaus (srcM1 1 p) 0

/-- The source of a modulator's goalposts became invalid (R272). -/
def State.modLost (s : State) (m : Fin 8) : State := s.goalsLost [0, 3] m.val

/-- PLTOL and CHKTOL in LSB (R276). -/
def State.plTol (s : State) (p : Fin 4) : Nat := max 1 (s.rf Reg.pairCfg p 31 16)
def State.chkTol (s : State) (p : Fin 4) : Nat := max 1 (s.rf Reg.pairChk p 15 0)

/-- The second check of R259: the last VCHK results of the two modulators agree within PLTOL. -/
def State.vchkPair (s : State) (m : Fin 8) : State :=
  let o := partner m
  match s.ms.mod[m].vchk, s.ms.mod[o].vchk with
  | some a, some b =>
    if s.plTol (pairOf m) < (a - b).natAbs then
      let fresh := !(s.ms.mod[m].chkp && s.ms.mod[o].chkp)
      let s1 := ((s.setMod m fun x => { x with chkp := true }).setMod o fun x => { x with chkp := true }).measPlaus (pairOf m)
      if fresh then (s1.modLost m).modLost o else s1
    else if s.ms.mod[m].vchkOk && s.ms.mod[o].vchkOk then
      (s.setMod m fun x => { x with chkp := false }).setMod o fun x => { x with chkp := false }
    else s
  | _, _ => s

/-- The checks of an entry on VCHK or AGND, its result being v (R259). -/
def State.checkEntry (s : State) (m : Fin 8) (v : Int) : State :=
  let ch := fld s.ms.mod[m].word 4 0
  if s.simMode m || decide (ch < 0x18) || decide (ch = 0x1A) then s
  else
    let vchk := decide (ch = 0x18)
    let ok := decide ((v - (if vchk then 393216 else 0)).natAbs ≤ s.chkTol (pairOf m))
    let s1 :=
      if ok then (if vchk then s.setMod m fun x => { x with chkf := false } else s)
      else
        let t := (s.setMod m fun x => { x with chkf := true }).emit 1 Kind.measCheck (srcM1 0 m) 0
        if s.ms.mod[m].chkf then t else t.modLost m
    if vchk then (s1.setMod m fun x => { x with vchk := some v, vchkOk := ok }).vchkPair m else s1

/-- The result of a completed entry with RES (R253): the mean of the kept samples, withheld where one is invalid. A check
entry is judged on samples that only R259 invalidates, so that a failed check can pass again. -/
def State.entryResult (s : State) (m : Fin 8) : State :=
  let x := s.ms.mod[m]
  match x.kept, x.kept.getLast? with
  | newest :: _, some oldest =>
    let n := x.kept.length
    let sum := x.kept.foldl (fun (a : Int) (k : Sample) => a + k.v) 0
    let v := roundQ ((sum : Rat) / (n : Rat))
    let stamp := (newest.stamp + oldest.stamp) / 2
    let s1 := if x.kept.all (·.valid) then s.resWrite m v stamp (bit x.word 20) else s.bump Reg.modStat m 31 16
    if x.kept.all (·.good) then s1.checkEntry m v else s1
  | _, _ => s

/-- What follows a completed run or entry: the latched request first, then the interrupted entry (R253, R255, R256). -/
def State.nextEntry (s : State) (m : Fin 8) : State :=
  let x := s.ms.mod[m]
  let free (t : State) : State :=
    match x.latch with
    | some r => (t.setMod m fun x => { x with req := none, latch := none }).modRequest r m
    | none => t.setMod m fun x => { x with req := none }
  let resume (t : State) : State :=
    let y := t.ms.mod[m]
    if y.req.isSome then t
    else
      match y.broken with
      | some j => (t.setMod m fun x => { x with broken := none, entry := j }).beginEntry m (some j)
      | none => if y.run then t else (t.setMod m fun x => { x with kept := [] }).winAbortMod m
  if x.isUrgent then
    let t := free s
    if t.ms.mod[m].req.isSome then t.setMod m fun y => { y with broken := x.broken } else resume t
  else if !(bit x.word 21 || decide (x.entry = 15)) then s.beginEntry m (some (x.entry + 1))
  else if x.req = some .pass then
    let t := free s
    if t.ms.mod[m].req.isSome then t else resume t
  else if x.cont then s.beginEntry m (some 0)
  else (s.setMod m fun x => { x with run := false, kept := [] }).winAbortMod m

/-- An entry keeps its last sample, or a stay entry has seen the end of its window (R253, R254). -/
def State.entryComplete (s : State) (m : Fin 8) : State :=
  let x := s.ms.mod[m]
  let stay := decide (x.count = 0)
  let done := if stay then x.stayDone else decide (x.count ≤ x.kept.length)
  if !s.measRuns || !x.active || !done then s
  else
    let s1 := if bit x.word 19 && !stay then s.entryResult m else s
    s1.nextEntry m

/-! ### Samples (R250, R251, R258, R260) -/

/-- A kept sample goes to the stream, the goalposts and, in a stay entry with RES, the result register and its check
(R254, R259, R260, R271). -/
def State.keepSample (s : State) (m : Fin 8) (y : Sample) : State :=
  let x := s.ms.mod[m]
  let stay := decide (x.count = 0)
  let s1 := s.setMod m fun x => { x with
    kept := if stay then [] else y :: x.kept, hist := if bit x.word 18 then (y :: x.hist).take 64 else x.hist }
  let s2 := if bit x.word 18 then s1.resample else s1
  let s3 := if y.valid then s2.goalsValue 0 m y.v else s2
  if stay && bit x.word 19 then
    let s4 := if y.valid then s3.resWrite m y.v y.stamp false else s3.bump Reg.modStat m 31 16
    if y.good then s4.checkEntry m y.v else s4
  else s3

/-- The two samples of a pair in simultaneous mode are compared; an invalid one is no value. The disagreement that reaches PLCNT makes
every sample from the first of its row on invalid (R258, R260). -/
def State.pairCompare (s : State) (m : Fin 8) (e y : Sample) : State :=
  let p := pairOf m
  if !e.good || !y.good then s
  else
    let n := max 1 (s.rf Reg.pairCfg p 15 8)
    let q := s.ms.pair[p]
    if s.plTol p < (e.v - y.v).natAbs then
      let first := if q.dis = 0 then min e.stamp y.stamp else q.since
      if q.plf || decide (q.dis + 1 < n) then s.setPair p fun q => { q with dis := q.dis + 1, agr := 0, since := first }
      else
        let spoil (k : Sample) : Sample := if first ≤ k.stamp then { k with valid := false, good := false } else k
        let mark (x : Modulator) : Modulator := { x with kept := x.kept.map spoil, hist := x.hist.map spoil }
        let s1 := (s.setPair p fun q => { q with plf := true, dis := q.dis + 1, agr := 0, since := first }).measPlaus p
        (((s1.setMod m mark).setMod (partner m) mark).modLost m).modLost (partner m)
    else if q.plf && decide (n ≤ q.agr + 1) then s.setPair p fun q => { q with plf := false, dis := 0, agr := 0 }
    else s.setPair p fun q => { q with dis := 0, agr := q.agr + 1 }

/-- A sample is kept, valid unless its modulator or its pair is marked; plf: the pair was marked when the sample came (R258 to
R260). -/
def State.sampleKeep (s : State) (m : Fin 8) (y : Sample) (plf : Bool) : State :=
  let x := s.ms.mod[m]
  let good := y.good && !x.resBad && !plf && !s.ms.pair[pairOf m].plf
  s.keepSample m { y with valid := good && !x.chkf && !x.chkp, good := good }

/-- A sample that is not discarded: in simultaneous mode the one that comes first waits for its partner's with the same stamp, and both
are compared before either is kept, the even modulator's first (R258). -/
def State.pairDeliver (s : State) (m : Fin 8) (y : Sample) : State :=
  let p := pairOf m
  let plf := s.ms.pair[p].plf
  if !s.simMode m || !s.ms.mod[partner m].active then s.sampleKeep m y plf
  else
    let odd := decide (m.val % 2 = 1)
    let s1 := s.setPair p fun q => { q with last := none }
    match s.ms.pair[p].last with
    | none => s.setPair p fun q => { q with last := some (odd, y) }
    | some (o, x) =>
      if o ≠ odd ∧ x.stamp = y.stamp then
        let (e, z) := if odd then (x, y) else (y, x)
        let em := if odd then partner m else m
        ((s1.pairCompare m e z).sampleKeep em e plf).sampleKeep (partner em) z plf
      else (s1.sampleKeep (if o = odd then m else partner m) x plf).setPair p fun q => { q with last := some (odd, y) }

/-- A decimated sample becomes available one group delay after its stamp; its saturation and its residue are judged whether or not it
is discarded (R250, R251, R253). -/
def State.sampleReady (s : State) (m : Fin 8) (v : Int) (stamp : Nat) (sat bad : Bool) : State :=
  let x := s.ms.mod[m]
  if !s.measRuns || !x.active || (decide (0 < x.count) && decide (x.count ≤ x.kept.length)) then s
  else
    let s0 := s.advanceTo (stamp + groupDelay x.dec)
    let cv := clampI (-524288) 524287 v
    let isSat := sat || decide (cv = -524288) || decide (cv = 524287)
    let poison := decide (srcM1 0 m ∈ s0.inj.residue)
    let s1 : State := { s0 with inj := { s0.inj with residue := s0.inj.residue.erase (srcM1 0 m) } }
    let s2 := if (bad || poison) && !x.resBad then
        (s1.setMod m fun x => { x with resBad := true }).emit 1 Kind.measResidue (srcM1 0 m) 0
      else s1
    let s3 := if isSat && !x.ovlSent then
        (s2.setMod m fun x => { x with ovlSent := true }).emit 0 Kind.measOvl (srcM1 0 m) 0
      else s2
    let s4 := s3.setMod m fun x => { x with sat := isSat }
    if 0 < x.skip then s4.setMod m fun x => { x with skip := x.skip - 1 }
    else
      let ok := !s4.ms.mod[m].resBad && !(isSat && s4.rb Reg.modCfg (s4.leader m) 4)
      s4.pairDeliver m ⟨cv, stamp, ok, ok, x.stream⟩

end Sys2Proof.Machine
end

