-- ==== Sys2Proof/Machine/Jig.lean ====
section
/-! DEFINITION. The jig engines: instructions, waits, stalls, triggers, banks and swaps (chapter Jig Engines). -/

namespace Sys2Proof.Machine

/-- Replace an engine. -/
def State.setJig (s : State) (e : Fin 8) (f : Jig → Jig) : State := { s with jig := upd s.jig e f }

/-- SOURCE of an engine's messages (R412). -/
def srcJig (e : Fin 8) : Nat := srcC 2 2 e.val

/-- The engine is at an instruction boundary: running, with no wait, stall or IDLE (R301). -/
def Jig.ready (g : Jig) : Bool := g.run && g.wait.isNone && g.stall.isNone && decide (g.idle = 0)

/-- An engine stops, its pins idle (R297); what held it is gone. -/
def Jig.stopped (g : Jig) : Jig := { g with run := false, wait := none, tmo := 0, stall := none, idle := 0, fswap := false }

/-- A word of a bank. -/
def Jig.prog (g : Jig) (bank : Bool) (i : Nat) : Word := ((if bank then g.prog1 else g.prog0).toList).getD (i % 64) 0

/-- The key under which flipped bits of a program word stand (R31, R439): bank 0 before bank 1 (log entry 78). -/
def jigKey (e : Fin 8) (bank : Bool) (i : Nat) : Nat := 0x40001000 + 0x200 * e.val + 4 * (i % 64 + if bank then 64 else 0)

/-- ENTRY as configured (R316). -/
def State.jigEntry (s : State) (e : Fin 8) : Nat := s.rf Reg.jigCfg e 21 16

/-- STEP as configured (R298): the step whose mean tick period is INT + FRAC/256 SVCLK, INT 0 acting as 1 (R316, log entry 15). -/
def State.jigStepCfg (s : State) (e : Fin 8) : Nat :=
  roundN (((2 ^ 32 : Nat) : Rat) / ((256 * max 1 (s.rf Reg.jigDiv e 23 8) + s.rf Reg.jigDiv e 7 0 : Nat) : Rat))

/-! ### The rate generator (R298, R299) -/

/-- The phase at an SVCLK, in 2^-24 ticks: STEP is added at every SVCLK edge and each tick takes one whole unit (R298). -/
def Jig.phaseAt (g : Jig) (v : Nat) : Nat := (v - g.align) * g.step % 2 ^ 24

/-- The SVCLK of tick k, tick 0 being the one that START or REALIGN issues: the first SVCLK at which the steps added since then
reach k whole units (R298). -/
def Jig.tickAt (g : Jig) (k : Nat) : Nat := g.align + (k * 2 ^ 24 + g.step - 1) / g.step

/-- The number of the first tick at or after an SVCLK. -/
def Jig.tickFrom (g : Jig) (v : Nat) : Nat := if v ≤ g.align then 0 else (v - g.align - 1) * g.step / 2 ^ 24 + 1

/-- The engine uses its next n ticks; time stands at the last of them (R301). -/
def State.jigSpan (s : State) (e : Fin 8) (n : Nat) : State :=
  if n = 0 then s
  else
    let g := s.jig[e]
    (s.advanceTo (2 * g.tickAt (g.tick + n - 1))).setJig e fun g => { g with tick := g.tick + n }

/-- The engine's next tick, the first that is not past (log entry 5). -/
def State.jigTick (s : State) (e : Fin 8) : State :=
  (s.setJig e fun g => { g with tick := max g.tick (g.tickFrom s.svclk) }).jigSpan e 1

/-- What held the engine completes now: the next instruction runs at the first tick after this SVCLK (R301). -/
def State.jigAfter (s : State) (e : Fin 8) : State :=
  s.setJig e fun g => { g with tick := max g.tick (g.tickFrom (s.svclk + 1)) }

/-- What is left of a count of ticks once some have been issued; a count still running keeps at least the tick it ends at. -/
def ticksLeft (n used : Nat) : Nat := if n = 0 then 0 else max 1 (n - used)

/-- A fault of R311: the engine stops, FAULT is set, the message carries PC and bank. -/
def State.jigFail (s : State) (e : Fin 8) (kind : Nat) : State :=
  let g := s.jig[e]
  (s.setJig e fun g => { g.stopped with fault := true }).emit 1 kind (srcJig e) (g.pc % 64 + bitAt g.bank 6)

/-- The engine is held in the safe actuation state (R297, R422). -/
def State.jigHeld (s : State) (e : Fin 8) : Bool :=
  !s.live || (s.coll.safe && s.rb Reg.jigCfg e 6) || decide (s.jig[e].owner = 0xF)

/-- Stop every engine that R297 stops now. -/
def State.jigHolds (s : State) : State :=
  (List.finRange 8).foldl (fun (t : State) (e : Fin 8) =>
    if t.jig[e].run && t.jigHeld e then t.setJig e Jig.stopped else t) s

/-! ### Swaps (R312 to R314) -/

/-- The other bank becomes active with PC = ENTRY (R313). -/
def State.jigSwap (s : State) (e : Fin 8) : State :=
  (s.setJig e fun g => { g with bank := !g.bank, pc := s.jigEntry e, swpend := false }).setBit Reg.jigEvt e 4

/-- A commit point: a pending swap takes effect (R313). -/
def State.jigCommit (s : State) (e : Fin 8) : State := if s.jig[e].swpend then s.jigSwap e else s

/-- A request (R313): at once on a stopped or disabled engine. -/
def State.jigSwapReq (s : State) (e : Fin 8) : State :=
  let g := s.jig[e]
  if g.swpend then s
  else
    let t := s.setJig e fun g => { g with swapAt := some (s.svclk, g.bank) }
    if !g.run || !s.rb Reg.jigCfg e 0 then t.jigSwap e
    else t.setJig e fun g => { g with swpend := true }

/-- PC moves on by one word, from 63 to 0 (R301). -/
def State.jigNext (s : State) (e : Fin 8) : State := s.setJig e fun g => { g with pc := (g.pc + 1) % 64 }

/-- The rate generator starts afresh: phase 0, a tick in this SVCLK, STEP as configured (R298, R299). A running IDLE or timeout goes
on counting ticks. -/
def State.jigRealign1 (s : State) (e : Fin 8) : State :=
  s.setJig e fun g =>
    let used := g.tickFrom s.svclk - g.tick
    { g with align := s.svclk, tick := 0, step := s.jigStepCfg e, idle := ticksLeft g.idle used, tmo := ticksLeft g.tmo used }

/-- The clearing and the count of a forced swap (R314). -/
def State.jigForced (s : State) (e : Fin 8) : State :=
  let n := s.jig[e].sc
  let s1 := (s.setJig e fun g => { g with
    lostb := n, s := 0, sc := 0, wait := none, tmo := 0, stall := none, idle := 0, fswap := false }).jigSwap e
  let s2 := s1.jigRealign1 e
  if n = 0 then s2
  else ((s2.setBit Reg.jigEvt e 5).bump Reg.jigCnt e 31 16).emit 0 Kind.jigBitsLost (srcJig e) n

/-! ### Registers and pins (R295, R303) -/

/-- Pin i of an engine as a jig pin. -/
def State.jigPin (s : State) (e i : Nat) : Nat := (s.pbase e + i) % 24

/-- The engine drives its pin i: JPk_CFG.SRC names it (R295). -/
def State.jigDrives (s : State) (e i : Nat) : Bool := decide (s.rf Reg.jpCfg (s.jigPin e i) 3 0 = e)

/-- Bits of the pins that the mask names and the engine drives. -/
def State.jigMask (s : State) (e : Fin 8) (mask : Nat) : BitVec 8 :=
  bitsOf 8 fun i => mask.testBit i.val && s.jigDrives e i.val

/-- Set output levels, or directions, of the masked pins. -/
def State.jigOuts (s : State) (e : Fin 8) (mask level : Nat) : State :=
  let m := s.jigMask e mask
  s.setJig e fun g => { g with outs := (g.outs &&& ~~~m) ||| (BitVec.ofNat 8 level &&& m) }
def State.jigDirSet (s : State) (e : Fin 8) (mask level : Nat) : State :=
  let m := s.jigMask e mask
  s.setJig e fun g => { g with dirs := (g.dirs &&& ~~~m) ||| (BitVec.ofNat 8 level &&& m) }

/-- A source register's value; the Bool says that it was ANG while ANG_NOW is invalid (R303). ANG is ANG_NOW of 4 TCLK earlier with
its validity, as it reaches the service region (R21). Code 7h is not valid. -/
def State.jigSrc (s : State) (e : Fin 8) (code : Nat) (pins : BitVec 8) : Word × Bool :=
  let g := s.jig[e]
  match code with
  | 0 => (g.x, false)
  | 1 => (g.y, false)
  | 2 => (g.z, false)
  | 3 => (wordN g.c.toNat, false)
  | 4 => (g.s, false)
  | 5 => (wordN pins.toNat, false)
  | _ => match s.angLate with
    | some a => (wordN a, false)
    | none => (0, true)

/-- Write a destination register (R303): C drops the upper half, S sets SC. -/
def Jig.put (g : Jig) (code : Nat) (v : Word) : Jig :=
  match code with
  | 0 => { g with x := v }
  | 1 => { g with y := v }
  | 2 => { g with z := v }
  | 3 => { g with c := BitVec.ofNat 16 v.toNat }
  | _ => { g with s := v, sc := 32 }

/-! ### Instructions (R302) -/

/-- The word at PC is fetched (R31, R32, R414): a corrected error is noted, an uncorrectable one reported; the Bool says that the word
may be used. -/
def State.jigFetch (s : State) (e : Fin 8) : State × Bool :=
  let g := s.jig[e]
  let i := g.pc % 64 + (if g.bank then 64 else 0)
  let key := jigKey e g.bank g.pc
  match s.eccOf key 0 with
  | 0 => (s, true)
  | 1 => (s.emit 0 Kind.eccCe (srcJig e) i, true)
  | _ => (s.emit 1 Kind.eccUe (srcJig e) i, false)

/-- FSWAP acts at this tick: a commit point in it has made an ordinary swap with LOSTB = 0; else the swap is forced (R314). -/
def State.jigFswapEnd (s : State) (e : Fin 8) (t : State) : State :=
  if t.jig[e].fault then t
  else if t.jig[e].swpend then s.jigForced e
  else t.setJig e fun g => { g with lostb := 0, fswap := false }

/-- The tick of an instruction: nothing unless the engine stands at one; an illegal word or a failed check stops it (R311). -/
def State.jigDo (s : State) (e : Fin 8) (legal : Bool) (f : State → State) : State :=
  if !s.jig[e].ready then s
  else
    let (t, ok) := (s.jigTick e).jigFetch e
    if !ok then t.jigFail e Kind.jigFault
    else if !legal then t.jigFail e Kind.jigIllegal
    else if srcJig e ∈ t.inj.residue then
      ({ t with inj := { t.inj with residue := t.inj.residue.erase (srcJig e) } } : State).jigFail e Kind.jigFault
    else if t.jig[e].fswap then t.jigFswapEnd e (f (t.setJig e fun g => { g with swpend := true }))
    else f t

/-- An instruction that changes registers and moves on, `more` ticks after its first (R302). -/
def State.jigReg (s : State) (e : Fin 8) (legal : Bool) (f : Jig → Jig) (more : Nat := 0) : State :=
  s.jigDo e legal fun t => ((t.jigSpan e more).setJig e f).jigNext e

/-- WAITL (R302, R305). -/
def State.jigWaitl (s : State) (e : Fin 8) (a imm : Nat) (pins : BitVec 8) : State :=
  s.jigDo e (decide (a < 16)) fun t =>
    let pin : Fin 8 := ⟨a % 8, by omega⟩
    let lv := a.testBit 3
    if pins.getLsbD pin.val = lv then (t.setJig e fun g => { g with f := false }).jigNext e
    else t.setJig e fun g => { g with wait := some (.level pin lv), tmo := imm, began := t.svclk }

/-- WAITE (R305): an edge later than this tick must follow. -/
def State.jigWaite (s : State) (e : Fin 8) (a imm : Nat) : State :=
  s.jigDo e (decide (a < 64) && decide (a / 8 % 4 ≠ 0)) fun t =>
    t.setJig e fun g => { g with wait := some (.edge ⟨a % 8, by omega⟩ (a / 8 % 4) (a.testBit 5)), tmo := imm, began := t.svclk }

/-- A trigger that came before the WAITG in its SVCLK counts for it: it is no overrun (R306). -/
def State.jigTrgUncount (s : State) (e : Fin 8) : State :=
  let n := s.rf Reg.jigCnt e 15 0
  let s1 := s.setRf Reg.jigCnt e 15 0 (n - 1)
  if n ≠ 1 then s1
  else s1.setColl fun c => { c with
    outbox := c.outbox.filter fun m => !(decide (m.kind = Kind.jigTrgOvr) && decide (m.src = srcJig e) && decide (m.at_ / 2 = s.svclk)) }

/-- WAITG (R306). A trigger that follows in the SVCLK of a WAITG that an older trigger ended counts for that WAITG too. -/
def State.jigWaitg (s : State) (e : Fin 8) (a imm : Nat) : State :=
  s.jigDo e (decide (a < 2)) fun t =>
    let here := t.jig[e].trgAt.filter fun x => decide (x.1 = t.svclk)
    if here.isSome && t.jig[e].trgl then
      let t0 := if here.any (·.2) then t.jigTrgUncount e else t
      let t1 := (t0.setJig e fun g => { g with trgl := false, f := false, trgAt := none }).jigNext e
      if a.testBit 0 then t1.jigRealign1 e else t1
    else if t.jig[e].trgl then
      (t.setJig e fun g => { g with trgl := false, f := false, wgAt := some (t.svclk, a.testBit 0) }).jigNext e
    else t.setJig e fun g => { g with wait := some (.trigger (a.testBit 0)), tmo := imm, began := t.svclk }

/-- The SVCLK at which a transition of a pin that is stamped is qualified: FLT samples later (R50, R296). -/
def State.jigSeen (s : State) (e : Fin 8) (pin : Fin 8) (stamp : Nat) : Nat := stamp + s.rf Reg.jpCfg (s.jigPin e pin) 15 8

/-- A wait's condition is met by a transition of its pin with this stamp: F = 0 once it is qualified; a capturing WAITE measures the
interval in SVCLK. An edge that is not later than the tick at which the WAITE began does not end it (R296, R305). -/
def State.jigWaitEnd (s : State) (e : Fin 8) (stamp : Nat) : State :=
  match s.jig[e].wait with
  | some (.level pin _) =>
    (((s.advanceTo (2 * s.jigSeen e pin stamp)).setJig e fun g => { g with wait := none, tmo := 0, f := false }).jigNext e).jigAfter e
  | some (.edge pin _ cap) =>
    if stamp ≤ s.jig[e].began then s else
    let s1 := s.advanceTo (2 * s.jigSeen e pin stamp)
    let put (g : Jig) : Jig :=
      if cap then
        let x : Nat := match g.lastCap with
          | some t => min (stamp - t) 0xFFFFFFFF
          | none => 0xFFFFFFFF
        { g with x := wordN x, lastCap := some stamp }
      else g
    ((s1.setJig e fun g => { put g with wait := none, tmo := 0, f := false }).jigNext e).jigAfter e
  | _ => s

/-- A wait's timeout expires, its ticks after the wait's own: F = 1, X unchanged (R305). -/
def State.jigWaitTimeout (s : State) (e : Fin 8) : State :=
  let g := s.jig[e]
  if g.wait.isSome && decide (g.tmo ≠ 0) then
    ((s.jigSpan e g.tmo).setJig e fun g => { g with wait := none, tmo := 0, f := true }).jigNext e
  else s

/-- A JIG peg asserts the engine's trigger (R306). -/
def State.jigTrigger (s : State) (e : Fin 8) : State :=
  let g := s.jig[e]
  match g.wait with
  | some (.trigger rln) =>
    let s1 := (s.setJig e fun g => { g with wait := none, tmo := 0, f := false }).jigNext e
    if rln then s1.jigRealign1 e else s1.jigAfter e
  | _ =>
    match g.wgAt.filter fun x => decide (x.1 = s.svclk) with
    | some (_, rln) =>
      let s1 := s.setJig e fun g => { g with wgAt := none }
      if rln then s1.jigRealign1 e else s1
    | none =>
    if g.trgl then
      let s1 := if s.rf Reg.jigCnt e 15 0 = 0 then s.emit 0 Kind.jigTrgOvr (srcJig e) 0 else s
      (s1.bump Reg.jigCnt e 15 0).setJig e fun g => { g with trgAt := some (s.svclk, decide (s.rf Reg.jigCnt e 15 0 < 65535)) }
    else s.setJig e fun g => { g with trgl := true, trgAt := some (s.svclk, false) }

/-! ### Shifts and FIFOs (R307, R308) -/

/-- One bit into S. -/
def shinBit (ord b : Bool) (v : Nat) : Nat := if ord then v / 2 + bitAt b 31 else (v * 2 + bitAt b 0) % 2 ^ 32

/-- n bits into S, the first from the lowest place of `bits` upward when `up`, else downward from place n − 1. -/
def shinBits (ord up : Bool) (bits n : Nat) : Nat → Nat → Nat
  | 0, v => v
  | i + 1, v =>
    let k := n - (i + 1)
    shinBits ord up bits n i (shinBit ord (bits.testBit (if up then k else n - 1 - k)) v)

/-- The END write of a SHIN, or a PUSH, in SVCLK v: S to RXF if it has room. -/
def Jig.pushS (g : Jig) (v : Nat) : Option Jig :=
  if g.rxf.length < 8 then some { g with rxf := g.rxf ++ [g.s], s := 0, sc := 0, pushAt := some v } else none

/-- RXF as a read in SVCLK v finds it: a pop goes before a push of the same SVCLK (R308). -/
def Jig.rxSeen (g : Jig) (v : Nat) : List Word := if g.pushAt = some v then g.rxf.dropLast else g.rxf

/-- A PULL: the oldest word of TXF to S. -/
def Jig.pullS (g : Jig) : Option Jig :=
  match g.txf with
  | [] => none
  | w :: t => some { g with txf := t, s := w, sc := 32 }

/-- The end of a shift: the next word, and a commit point (R313). -/
def State.jigShifted (s : State) (e : Fin 8) : State := (s.jigNext e).jigCommit e

/-- APUSH: a SHIN that brings SC to PUSHAT, 0 standing for 32, or beyond ends as with END = 1 (R316, log entry 86). -/
def State.jigAutoPush (s : State) (e : Fin 8) : Bool :=
  let at_ := s.rf Reg.jigCfg e 12 8
  s.rb Reg.jigCfg e 7 && decide ((if at_ = 0 then 32 else at_) ≤ s.jig[e].sc)

/-- SHIN (R307): n levels sampled from a pin, or n bits of X. -/
def State.jigShin (s : State) (e : Fin 8) (a imm bits : Nat) : State :=
  s.jigDo e (decide (a < 64) && decide (1 ≤ imm) && decide (imm ≤ 32)) fun t =>
    let ord := a.testBit 3
    let srcx := a.testBit 4
    let g := t.jig[e]
    let v :=
      if srcx then
        let x := g.x.toNat % 2 ^ imm
        if ord then g.s.toNat / 2 ^ imm + x * 2 ^ (32 - imm) else (g.s.toNat * 2 ^ imm + x) % 2 ^ 32
      else shinBits ord true bits imm imm g.s.toNat
    let took (g : Jig) : Jig := { g with s := wordN v, sc := min 32 (g.sc + imm) }
    let u := (t.jigSpan e (if srcx then 0 else imm - 1)).setJig e took
    if a.testBit 5 || u.jigAutoPush e then
      match u.jig[e].pushS u.svclk with
      | some g2 => (u.setJig e fun _ => g2).jigShifted e
      | none => u.setJig e fun g => { g with stall := some .shinEnd }
    else u.jigShifted e

/-- Shift out bit by bit: done bits leave S, an empty S loads from TXF with fetch; the bits taken are answered for the pin, newest
first. The answer's Nat is what is left when TXF is empty. -/
def shoutLoop (ord fetch : Bool) (total : Nat) : Nat → Jig → Nat → List Bool → Jig × Nat × Nat × List Bool
  | 0, g, acc, last => (g, 0, acc, last)
  | n + 1, g, acc, last =>
    let g' := if g.sc = 0 && fetch then g.pullS.getD g else g
    if fetch && decide (g'.sc = 0) then (g, n + 1, acc, last)
    else
      let v := g'.s.toNat
      let b := if g'.sc = 0 then false else if ord then v.testBit 0 else v.testBit 31
      let v' := if ord then v / 2 else v * 2 % 2 ^ 32
      let acc' := if ord then acc + bitAt b (total - (n + 1)) else acc * 2 + bitAt b 0
      shoutLoop ord fetch total n { g' with s := wordN v', sc := g'.sc - 1 } acc' (b :: last)

/-- A pull in SVCLK `at_` has made room in TXF for a write of it that found it full (R308). -/
def State.jigFreed (s : State) (e : Fin 8) (at_ : Nat) : State :=
  match s.jig[e].txMiss with
  | some (v, w, ovf) =>
    if v = at_ ∧ s.jig[e].txf.length < 8 then
      (s.setJig e fun g => { g with txf := g.txf ++ [w], txMiss := none }).setRf Reg.jigEvt e 2 2 (bitAt ovf 0)
    else s
  | none => s

/-- The rest of a SHOUT: to a pin, one bit at each tick, of which `had` has been issued; a pin that the engine drives shows the bits
one after another (R302, R307). The word that it pulls leaves TXF at the tick of the first bit beyond SC (R308). -/
def State.jigShoutGo (s : State) (e pin : Fin 8) (ord dstx fetch : Bool) (left total acc had : Nat) : State :=
  let h := s.jig[e]
  let (g, rest, acc', bits) := shoutLoop ord fetch total left h acc []
  let first := h.tick - had
  let shown := if dstx || !s.jigDrives e pin then [] else
    bits.reverse.zipIdx.map fun x => (h.tickAt (first + x.2), pin, x.1)
  let s1 := (s.jigSpan e (if dstx then 0 else left - rest - had)).setJig e fun h =>
    { h with s := g.s, sc := g.sc, txf := g.txf, stall := none, wave := if dstx then h.wave else if had = 0 then h.wave ++ shown else shown }
  let s2 := match bits with
    | b :: _ => if dstx then s1 else s1.jigOuts e (2 ^ pin.val) (bitAt b pin.val)
    | [] => s1
  let pulled := if dstx then s.svclk else h.tickAt (first + h.sc)
  let s2 := if g.txf.length < h.txf.length then s2.jigFreed e pulled else s2
  if rest = 0 then
    (if dstx then s2.setJig e fun g => { g with x := wordN acc' } else s2).jigShifted e
  else s2.setJig e fun g => { g with stall := some (.shout pin ord dstx rest total acc') }

/-- SHOUT (R307); APULL = 1 acts as FETCH = 1 (R316, log entry 86). -/
def State.jigShout (s : State) (e : Fin 8) (a imm : Nat) : State :=
  s.jigDo e (decide (a < 64) && decide (1 ≤ imm) && decide (imm ≤ 32)) fun t =>
    t.jigShoutGo e ⟨a % 8, by omega⟩ (a.testBit 3) (a.testBit 4) (a.testBit 5 || t.rb Reg.jigCfg e 13) imm imm 0 1

/-- PUSH (R308). -/
def State.jigPush (s : State) (e : Fin 8) (a imm : Nat) : State :=
  s.jigDo e (decide (a < 4) && decide (imm = 0)) fun t =>
    if a.testBit 1 then (t.setJig e fun g => { g with s := 0, sc := 0 }).jigNext e
    else
      match t.jig[e].pushS t.svclk with
      | some g => (t.setJig e fun _ => g).jigNext e
      | none =>
        if a.testBit 0 then (t.setJig e fun g => { g with f := true, nbMiss := some (t.svclk, false, g.f) }).jigNext e
        else t.setJig e fun g => { g with stall := some .push }

/-- PULL (R308). -/
def State.jigPull (s : State) (e : Fin 8) (a imm : Nat) : State :=
  s.jigDo e (decide (a < 2) && decide (imm = 0)) fun t =>
    match t.jig[e].pullS with
    | some g => ((t.setJig e fun _ => g).jigFreed e t.svclk).jigNext e
    | none =>
      if a.testBit 0 then (t.setJig e fun g => { g with f := true, nbMiss := some (t.svclk, true, g.f) }).jigNext e
      else t.setJig e fun g => { g with stall := some .pull }

/-- A PUSH NB or a PULL NB that failed in this SVCLK before the pop, or the append, that makes it succeed (R308). -/
def State.jigRetry (s : State) (e : Fin 8) (pull : Bool) : State :=
  let g := s.jig[e]
  match g.nbMiss with
  | some (v, was, f) =>
    if v = s.svclk ∧ was = pull then
      match if pull then g.pullS else g.pushS s.svclk with
      | some h => s.setJig e fun _ => { h with f := f, nbMiss := none }
      | none => s
    else s
  | none => s

/-- A stall that finds room or a word completes (R307, R308). A SHOUT to a pin goes on at a tick of this SVCLK, also at the one that
found TXF empty: an append goes before the pull of its SVCLK. -/
def State.jigStallEnd (s : State) (e : Fin 8) : State :=
  let g := s.jig[e]
  match g.stall with
  | none => s
  | some .shinEnd =>
    match g.pushS s.svclk with
    | some g1 => ((s.setJig e fun _ => { g1 with stall := none }).jigShifted e).jigAfter e
    | none => s
  | some .push =>
    match g.pushS s.svclk with
    | some g1 => ((s.setJig e fun _ => { g1 with stall := none }).jigNext e).jigAfter e
    | none => s
  | some .pull =>
    match g.pullS with
    | some g1 => ((s.setJig e fun _ => { g1 with stall := none }).jigNext e).jigAfter e
    | none => s
  | some (.shout pin ord dstx left total acc) =>
    if g.txf = [] then s
    else if dstx then (s.jigAfter e).jigShoutGo e pin ord dstx true left total acc 0
    else
      let next := if left = total then g.tick - 1 else g.tick
      (s.setJig e fun g => { g with tick := max next (g.tickFrom s.svclk) }).jigShoutGo e pin ord dstx true left total acc 0

/-- FLUSH empties both FIFOs; a stalled PUSH or END write then completes (R316). -/
def State.jigFlush (s : State) (e : Fin 8) : State :=
  let s1 := s.setJig e fun g => { g with rxf := [], txf := [] }
  match s1.jig[e].stall with
  | some .shinEnd => s1.jigStallEnd e
  | some .push => s1.jigStallEnd e
  | _ => s1

/-! ### Arithmetic (R302, R303, R309) -/

/-- MOV. -/
def State.jigMov (s : State) (e : Fin 8) (a imm : Nat) (pins : BitVec 8) : State :=
  let d := a % 8
  let src := a / 8 % 8
  s.jigDo e (decide (a < 64) && decide (imm = 0) && decide (d ≤ 4) && decide (src ≤ 6)) fun t =>
    let (v, inv) := t.jigSrc e src pins
    (t.setJig e fun g => { g.put d v with f := g.f || inv }).jigNext e

/-- MOVI. -/
def State.jigMovi (s : State) (e : Fin 8) (a imm : Nat) : State :=
  s.jigDo e (decide (a < 16) && decide (a % 8 ≤ 3)) fun t =>
    let old := (t.jigSrc e (a % 8) 0).1
    let v := if a.testBit 3 then wordN (old.toNat % 65536 + imm * 65536) else wordN imm
    (t.setJig e fun g => g.put (a % 8) v).jigNext e

/-- ADDI within the register's width; F: the result is 0. -/
def State.jigAddi (s : State) (e : Fin 8) (a imm : Nat) : State :=
  s.jigDo e (decide (a ≤ 3)) fun t =>
    let r := ((t.jigSrc e a 0).1.toNat : Int) + sx 16 imm
    let v := if a = 3 then wordI (r % 65536) else wordI r
    (t.setJig e fun g => { g.put a v with f := decide (v = 0) }).jigNext e

/-- SUB; F: the source was above the destination, or ANG was invalid. -/
def State.jigSub (s : State) (e : Fin 8) (a imm : Nat) (pins : BitVec 8) : State :=
  let d := a % 8
  let src := a / 8 % 8
  s.jigDo e (decide (a < 64) && decide (imm = 0) && decide (d ≤ 3) && decide (src ≤ 6)) fun t =>
    let x := (t.jigSrc e d 0).1
    let (v, inv) := t.jigSrc e src pins
    (t.setJig e fun g => { g.put d (x - v) with f := decide (x.toNat < v.toNat) || inv }).jigNext e

/-- TEST. -/
def State.jigTest (s : State) (e : Fin 8) (a imm : Nat) : State :=
  s.jigDo e (decide (a < 32) && decide (a % 8 ≤ 3)) fun t =>
    let x := (t.jigSrc e (a % 8) 0).1.toNat
    let r := match a / 8 with
      | 0 => decide (x = imm)
      | 1 => decide (x < imm)
      | 2 => decide (imm ≤ x)
      | _ => x.testBit (imm % 32)
    (t.setJig e fun g => { g with f := r }).jigNext e

/-- The condition of a BR (R304). -/
def Jig.cond (g : Jig) (cond pin : Nat) (pins : BitVec 8) : Bool :=
  match cond with
  | 0 => true
  | 1 => g.f
  | 2 => !g.f
  | 3 => pins.getLsbD pin
  | 4 => !pins.getLsbD pin
  | 5 => decide (g.rxf.length < 8)
  | 6 => decide (g.txf ≠ [])
  | _ => g.trgl

/-- BR. -/
def State.jigBr (s : State) (e : Fin 8) (a imm : Nat) (pins : BitVec 8) : State :=
  s.jigDo e (decide (a < 128) && decide (a % 16 ≤ 7) && decide (imm < 64)) fun t =>
    if t.jig[e].cond (a % 16) (a / 16) pins then t.setJig e fun g => { g with pc := imm } else t.jigNext e

/-- LOOP. -/
def State.jigLoop (s : State) (e : Fin 8) (a imm : Nat) : State :=
  s.jigDo e (decide (a = 0) && decide (imm < 64)) fun t =>
    let c := t.jig[e].c.toNat - 1
    let t1 := t.setJig e fun g => { g with c := BitVec.ofNat 16 c }
    if c = 0 then t1.jigNext e else t1.setJig e fun g => { g with pc := imm }

/-- RECIP. -/
def State.jigRecip (s : State) (e : Fin 8) (a imm : Nat) : State :=
  s.jigReg e (decide (a = 0)) (fun g =>
    if g.x = 0 then { g with y := 0xFFFFFFFF, f := true }
    else { g with y := wordN (min 0xFFFFFFFF (roundN (((imm * 2 ^ 24 : Nat) : Rat) / ((g.x.toNat : Nat) : Rat)))), f := false }) 19

/-- MULQ. -/
def State.jigMulq (s : State) (e : Fin 8) (a imm : Nat) : State :=
  s.jigReg e (decide (a = 0) && decide (imm = 0)) (fun g =>
    let r := roundN (((g.x.toNat * g.y.toNat : Nat) : Rat) / 2 ^ 24)
    if 0xFFFFFFFF < r then { g with x := 0xFFFFFFFF, f := true } else { g with x := wordN r, f := false }) 1

/-- SIG: the event line's bit (R310). -/
def State.jigSig (s : State) (e : Fin 8) (a imm : Nat) : State :=
  s.jigDo e (decide (a < 2) && decide (imm = 0)) fun t => (t.setBit Reg.jigEvt e a).jigNext e

/-- YIELD: a commit point (R313). -/
def State.jigYield (s : State) (e : Fin 8) (a imm : Nat) : State :=
  s.jigDo e (decide (a = 0) && decide (imm = 0)) fun t => t.jigShifted e

/-- FSWAP (R314): at the first tick after its SVCLK; a word that brings a commit point in that tick makes an ordinary swap instead. Of a
SHIN of one bit from a pin, the instruction itself brings the bit: the swap is made, or forced, with it. -/
def State.jigFswap (s0 : State) (e : Fin 8) : State :=
  let s : State := if s0.jig[e].run then s0.jigAfter e else s0
  let g : Jig := s.jig[e]
  let w : Nat := (g.prog g.bank g.pc).toNat
  let a : Nat := w / 2 ^ 16 % 2 ^ 10
  let imm : Nat := w % 2 ^ 16
  let op : Nat := w / 2 ^ 26
  if !g.run then s.jigForced e
  else if !g.ready then (s.jigTick e).jigForced e
  else if op = 7 ∧ !a.testBit 4 ∧ imm = 1 then s.setJig e fun g => { g with fswap := true }
  else
    let want := s.setJig e fun g => { g with fswap := true }
    let t :=
      if op = 0x15 then want.jigYield e a imm
      else if op = 7 ∧ a.testBit 4 then want.jigShin e a imm 0
      else if op = 8 ∧ (a.testBit 4 ∨ imm = 1) then want.jigShout e a imm
      else want.jigTick e
    if t.jig[e].fswap && !t.jig[e].fault then t.jigForced e else t

/-! ### JIG_CMD and EN (R299, R311) -/

/-- START on one engine. -/
def State.jigStart1 (s : State) (e : Fin 8) : State :=
  if !s.rb Reg.jigCfg e 0 || s.jig[e].fault || s.jigHeld e then s
  else
    (s.setJig e fun g => { g with
      run := true, x := 0, y := 0, z := 0, c := 0, s := 0, sc := 0, f := false, pc := s.jigEntry e, wait := none, tmo := 0,
      stall := none, idle := 0, lastCap := none, fswap := false }).jigRealign1 e

/-- One action of JIG_CMD on an engine: 1 START, 2 HALT, 3 REALIGN (R299). -/
def State.jigAct (s : State) (e : Fin 8) (action : Nat) : State :=
  match action with
  | 1 => s.jigStart1 e
  | 2 => s.setJig e Jig.stopped
  | 3 => if s.jig[e].run then s.jigRealign1 e else s
  | _ => s

/-- Precedence of the actions that reach an engine in one SVCLK: HALT over START over REALIGN (R299). -/
def jigRank (action : Nat) : Nat :=
  match action with
  | 1 => 2
  | 2 => 3
  | 3 => 1
  | _ => 0

/-- An action of JIG_CMD on one engine, with those of the same SVCLK: one of lower precedence gives way, and a HALT undoes a START that
came before it, the FIFOs and the trigger latch kept as they stand (R299; DESIGN CHOICE, log entry 89). -/
def State.jigCmd1 (s : State) (e : Fin 8) (action : Nat) : State :=
  let r := jigRank action
  let now := (s.jigCmds[e]).filter fun x => decide (x.at_ = s.svclk)
  let g := s.jig[e]
  let was := (now.map (·.was)).getD g
  if r = 0 ∨ now.any (fun x => decide (r < x.rank)) then s
  else
    let base := if r = 3 ∧ now.isSome then
        s.setJig e fun _ => { was with rxf := g.rxf, txf := g.txf, trgl := g.trgl, nbMiss := g.nbMiss, txMiss := g.txMiss }
      else s
    { base.jigAct e action with jigCmds := upd s.jigCmds e fun _ => some ⟨s.svclk, r, was⟩ }

/-- The action of JIG_CMD on every engine of a mask (R299). -/
def State.jigCmd (s : State) (mask action : Nat) : State :=
  (List.finRange 8).foldl (fun (t : State) (e : Fin 8) => if mask.testBit e.val then t.jigCmd1 e action else t) s

/-- EN written 0: the engine stops, FAULT clears and a pending swap takes effect, a forced one with its clearing and count (R311,
R314). -/
def State.jigDisable (s : State) (e : Fin 8) : State :=
  let t := if s.jig[e].fswap then s.jigForced e else s
  (t.setJig e fun g => { g.stopped with fault := false }).jigCommit e

end Sys2Proof.Machine
end

