-- ==== Sys2Proof/Machine/Sha.lean ====
section
/-! DEFINITION. SHA-256 and HMAC-SHA-256 over lists of octets, for the signed reports of R338 to R340. -/

namespace Sys2Proof.Machine

/-! ### The constants, computed from their definition: fractional parts of roots of the first primes -/

/-- n has no divisor from 2 below itself. -/
def isPrime (n : Nat) : Bool := decide (2 ≤ n) && (List.range n).all fun d => decide (d < 2) || decide (n % d ≠ 0)

/-- The first 64 primes. -/
def primes64 : List Nat := (List.range 312).filter isPrime

/-- The greatest r below 2^n, taken bit by bit on top of r, whose cube does not exceed x. -/
def cubeRoot (x : Nat) : Nat → Nat → Nat
  | 0, r => r
  | n + 1, r => cubeRoot x n (if (r + 2 ^ n) ^ 3 ≤ x then r + 2 ^ n else r)

/-- The round constants: 32 fractional bits of the cube roots of the primes. -/
def shaConsts : List Nat := primes64.map fun p => cubeRoot (p * 2 ^ 96) 36 0 % 2 ^ 32

/-- The chaining value at the start: 32 fractional bits of the square roots of the first eight primes. -/
def shaInit : List Nat := (primes64.take 8).map fun p => Nat.sqrt (p * 2 ^ 64) % 2 ^ 32

/-! ### One block -/

/-- Exclusive or of three rotations of a 32-bit number to the right; the last is a shift where cut is set. -/
def turned (x i j k : Nat) (cut : Bool) : Nat :=
  let rot (n : Nat) : Nat := x / 2 ^ n + x % 2 ^ n * 2 ^ (32 - n)
  rot i ^^^ rot j ^^^ (if cut then x / 2 ^ k else rot k)

/-- The eight working words after one more round with the sum of its constant and schedule word. -/
def shaStep (l : List Nat) (kw : Nat) : List Nat :=
  match l with
  | [a, b, c, d, e, f, g, h] =>
    let choice := (e &&& f) ||| ((2 ^ 32 - 1 - e) &&& g)
    let most := (a &&& b) ||| (c &&& (a ||| b))
    let u := h + turned e 6 11 25 false + choice + kw
    (u + turned a 2 13 22 false + most) % 2 ^ 32 :: a :: b :: c :: (d + u) % 2 ^ 32 :: [e, f, g]
  | l => l

/-- The message schedule, n words longer; the newest word stands first. -/
def schedule (l : List Nat) : Nat → List Nat
  | 0 => l
  | n + 1 =>
    let m := schedule l n
    let at_ (i : Nat) : Nat := m.getD (i - 1) 0
    (at_ 16 + turned (at_ 15) 7 18 3 true + at_ 7 + turned (at_ 2) 17 19 10 true) % 2 ^ 32 :: m

/-- Big-endian words of octets. -/
def beWords : List Nat → List Nat
  | a :: b :: c :: d :: t => (a * 16777216 + b * 65536 + c * 256 + d) :: beWords t
  | _ => []

/-- One block of 64 octets. -/
def shaBlock (s : List Nat) (blk : List Nat) : List Nat :=
  let kws := List.zipWith (· + ·) shaConsts (schedule (beWords blk).reverse 48).reverse
  List.zipWith (fun x y => (x + y) % 2 ^ 32) s (kws.foldl shaStep s)

/-- All blocks; n bounds their number. -/
def shaBlocks (s : List Nat) (l : List Nat) : Nat → List Nat
  | 0 => s
  | n + 1 => shaBlock (shaBlocks s l n) ((l.drop (64 * n)).take 64)

/-- The n big-endian octets of a number. -/
def beBytes (n v : Nat) : List Nat := (leBytes n v).reverse

/-- The message with its padding. -/
def shaPad (m : List Nat) : List Nat :=
  m ++ [0x80] ++ List.replicate ((119 - m.length % 64) % 64) 0 ++ beBytes 8 (8 * m.length)

/-- SHA-256 of octets, as octets. -/
def sha256 (m : List Nat) : List Nat :=
  let p := shaPad m
  (shaBlocks shaInit p (p.length / 64)).flatMap (beBytes 4)

/-- HMAC-SHA-256 with a key of at most 64 octets. -/
def hmac256 (key m : List Nat) : List Nat :=
  let k := key ++ List.replicate (64 - key.length) 0
  sha256 (k.map (· ^^^ 0x5c) ++ sha256 (k.map (· ^^^ 0x36) ++ m))

/-- Words of little-endian octets. -/
def leWords : List Nat → List Word
  | a :: b :: c :: d :: t => wordN (leNat [a, b, c, d]) :: leWords t
  | _ => []

end Sys2Proof.Machine
end

