-- ==== Sys2Proof/Machine/Timer.lean ====
section
/-! DEFINITION. Timers and the sealed counter bank (chapter Timers and Sealed Counters). -/

namespace Sys2Proof.Machine

/-! ### Timers (R319 to R331) -/

/-- Replace a timer. -/
def State.setTmr (s : State) (n : Fin 16) (f : Timer → Timer) : State := { s with tmr := upd s.tmr n f }

/-- SOURCE of a timer's messages (R412). -/
def srcTmr (n : Fin 16) : Nat := srcC 2 3 n.val

/-- The even and the odd timer of a pair (R327). -/
def tmrEvenOf (n : Fin 16) : Fin 16 := ⟨n.val / 2 * 2, by omega⟩
def tmrOddOf (n : Fin 16) : Fin 16 := ⟨n.val / 2 * 2 + 1, by omega⟩

/-- The pair of a timer is linked (R327). -/
def State.linked (s : State) (n : Fin 16) : Bool := s.rb Reg.tmrCfg (tmrEvenOf n).val 4

/-- The timer that a timer's count belongs to: of a linked pair the even one. -/
def State.tmrLead (s : State) (n : Fin 16) : Fin 16 := if s.linked n then tmrEvenOf n else n

/-- The timer counts: EN of it or of its pair, and no fault (R319, R320). -/
def State.tmrRuns (s : State) (n : Fin 16) : Bool := s.rb Reg.tmrCfg (s.tmrLead n).val 0 && !s.tmr[s.tmrLead n].fault

/-- The count, the compare value and their modulus: 64 bits for a linked pair (R327). -/
def State.tmrCount (s : State) (n : Fin 16) : Nat :=
  if s.linked n then s.tmr[tmrEvenOf n].cnt.toNat + s.tmr[tmrOddOf n].cnt.toNat * 2 ^ 32 else s.tmr[n].cnt.toNat
def State.tmrCmpv (s : State) (n : Fin 16) : Nat :=
  if s.linked n then s.tmr[tmrEvenOf n].cmpv.toNat + s.tmr[tmrOddOf n].cmpv.toNat * 2 ^ 32 else s.tmr[n].cmpv.toNat
def State.tmrMod (s : State) (n : Fin 16) : Nat := if s.linked n then 2 ^ 64 else 2 ^ 32

/-- An increment of the sealed counters with a source, gathered in the service region (R335). -/
def State.sealGather (s : State) (src : Nat) (pick : Fin 16 → Bool) (inc : Nat) : State :=
  let up (i : Fin 16) : SealCnt :=
    let c := s.ao.seals[i]
    let counts := s.rb Reg.sealxCfg i 4 && decide (s.rf Reg.sealxCfg i 3 0 = src) && pick i
    if counts then { c with gathered := c.gathered + inc } else c
  { s with ao := { s.ao with seals := Vector.ofFn up } }

/-- An event of a timer: its status bit, and the cue of a cluster owner (R331). Codes: 1 compare, 2 capture, 3 wrap, 4 compare
fired at once. -/
def State.tmrEvent (s : State) (n : Fin 16) (code : Nat) : State :=
  let b := if code = 2 then 2 else if code = 3 then 3 else 1
  let s1 := s.setBit Reg.tmrStat n.val b
  let s2 := if s1.rb Reg.tmrEven n.val (b - 1) then s1.cueOwner s1.tmr[n].owner 25 (n.val + code * 16) 0 s.now else s1
  if b = 1 then s2.sealGather 6 (fun i => decide (s2.rf Reg.sealxCfg i 11 8 = n.val)) 1 else s2

/-- A compare fires: the pin action and the event, once (R322, R324). -/
def State.tmrFire (s : State) (n : Fin 16) (code : Nat) : State :=
  let act := s.rf Reg.tmrCmp n.val 3 1
  (s.setTmr n fun t => { t with
    armed := false, pin := if act = 1 then true else if act = 2 then false else if act = 3 then !t.pin else t.pin }).tmrEvent n code

/-- Keep the increments of the last 256 SVCLK (R325). -/
def Timer.remember (t : Timer) (now : Nat) : Timer :=
  { t with recent := ((now, t.cnt) :: t.recent).filter fun x => decide (now ≤ x.1 + 512) }

/-- Store a count of a timer or a linked pair. -/
def State.setCount (s : State) (n : Fin 16) (v : Nat) : State :=
  if s.linked n then
    (s.setTmr (tmrEvenOf n) fun t => ({ t with cnt := wordN v } : Timer).remember s.now).setTmr (tmrOddOf n) fun t =>
      ({ t with cnt := wordN (v / 2 ^ 32) } : Timer).remember s.now
  else s.setTmr n fun t => ({ t with cnt := wordN v } : Timer).remember s.now

/-- TMR_FAULT (R320). -/
def State.tmrFault (s : State) (n : Fin 16) : State :=
  (s.setTmr n fun t => { t with fault := true, armed := false }).emit 1 Kind.tmrFault (srcTmr n) 0


/-- A compare value is written: it arms once, judged against the present count (R322). -/
def State.tmrArm (s : State) (n : Fin 16) : State :=
  let s1 := s.setTmr n fun t => { t with armed := true }
  let d := (s1.tmrCount n + s1.tmrMod n - s1.tmrCmpv n) % s1.tmrMod n
  if s1.rb Reg.tmrCmp n.val 0 && decide (d ≤ s1.rf Reg.tmrCmp n.val 31 16) && !s1.tmr[n].fault then s1.tmrFire n 4 else s1

/-! ### The order of one SVCLK (R323; DESIGN CHOICE, log entry 89) -/

/-- The compare of a timer before the first write of a compare value in this SVCLK. -/
def State.tmrPrior (s : State) (n : Fin 16) : Option TmrPrior := s.tmr[n].prior.filter fun x => decide (x.at_ = s.svclk)

/-- Write a compare value, lo and for a linked pair hi, keeping what stood before for an increment that follows in this SVCLK. -/
def State.tmrPut (s : State) (n : Fin 16) (lo hi : Word) : State :=
  let t := s.tmr[n]
  let old : TmrPrior := (s.tmrPrior n).getD
    ⟨s.svclk, t.cmpv, s.tmr[tmrOddOf n].cmpv, t.armed, t.pin, s.rb Reg.tmrStat n.val 1, 0⟩
  let s1 := s.setTmr n fun t => { t with cmpv := lo }
  let s2 := (if s.linked n then s1.setTmr (tmrOddOf n) fun t => { t with cmpv := hi } else s1).tmrArm n
  s2.setTmr n fun t => { t with prior := some { old with fired := if t.armed then old.fired else old.fired + 1 } }

/-- Take back one compare that a write fired at once in this SVCLK: its cue, still on its way, and its count. -/
def State.tmrUnfire (s : State) (n : Fin 16) : Nat → State
  | 0 => s
  | k + 1 =>
    let q : CueOcc := ⟨25, wordN (n.val + 64), 0, s.now, s.now + cueCross 25, []⟩
    let mine (x : CueOcc) : Bool := decide (x.cue = q.cue) && decide (x.g14 = q.g14) && decide ((x.stamp + 1) / 2 = s.svclk)
    let s1 := match s.ownerWork s.tmr[n].owner with
      | some w => s.setWork w fun x => { x with cues := match x.cues.reverse.find? mine with
          | some y => (x.cues.reverse.erase y).reverse
          | none => x.cues }
      | none => s
    let dec (i : Fin 16) : SealCnt :=
      let c := s.ao.seals[i]
      let counts := s.rb Reg.sealxCfg i 4 && decide (s.rf Reg.sealxCfg i 3 0 = 6) && decide (s.rf Reg.sealxCfg i 11 8 = n.val)
      if counts then { c with gathered := c.gathered - 1 } else c
    ({ s1 with ao := { s1.ao with seals := Vector.ofFn dec } } : State).tmrUnfire n k

/-- The compare of a timer as it stood before the writes of this SVCLK. -/
def State.tmrUnwrite (s : State) (n : Fin 16) (x : TmrPrior) : State :=
  let s1 := (s.tmrUnfire n x.fired).setTmr n fun t => { t with cmpv := x.lo, armed := x.armed, pin := x.pin, prior := none }
  let s2 := if s.linked n then s1.setTmr (tmrOddOf n) fun t => { t with cmpv := x.hi } else s1
  if x.fired = 0 then s2 else s2.setRf Reg.tmrStat n.val 1 1 (bitAt x.cmpf 0)

/-- The increment itself, judged against the armed compare value (R319, R322). -/
def State.tmrCountUp (s : State) (n : Fin 16) : State :=
  let v := (s.tmrCount n + 1) % s.tmrMod n
  let s1 := s.setCount n v
  let s2 := if v = 0 then s1.tmrEvent n 3 else s1
  if s2.tmr[n].armed && decide (v = s2.tmrCmpv n) then s2.tmrFire n 1 else s2

/-- A capture or a snapshot of this SVCLK takes the count after the increment. -/
def Timer.recount (t : Timer) (v : Nat) (snap : Bool) : Timer :=
  { t with cap := if t.capAt = some v then t.cnt else t.cap, snap := if snap then t.cnt else t.snap }

/-- One increment of the source (R319, R322, R323): a compare value that this SVCLK has written, and a capture or a snapshot that it has
made, are judged and made after it. -/
def State.tmrIncrement (s : State) (n : Fin 16) : State :=
  if s.tmrLead n ≠ n || !s.tmrRuns n then s
  else if srcTmr n ∈ s.inj.residue then
    ({ s with inj := { s.inj with residue := s.inj.residue.erase (srcTmr n) } } : State).tmrFault n
  else
    let lo := s.tmr[n].cmpv
    let hi := s.tmr[tmrOddOf n].cmpv
    let s1 := match s.tmrPrior n with
      | some x => ((s.tmrUnwrite n x).tmrCountUp n).tmrPut n lo hi
      | none => s.tmrCountUp n
    let snap := decide (s.snapAt = some s.svclk)
    let s2 := s1.setTmr n fun t => t.recount s.svclk snap
    if s.linked n then s2.setTmr (tmrOddOf n) fun t => t.recount s.svclk snap else s2

/-- The next increment brings the count to the armed compare value. -/
def State.tmrAtCompare (s : State) (n : Fin 16) : Bool :=
  s.tmr[n].armed && decide ((s.tmrCount n + 1) % s.tmrMod n = s.tmrCmpv n)

/-- The next increment wraps the count. -/
def State.tmrAtWrap (s : State) (n : Fin 16) : Bool := decide (s.tmrCount n + 1 = s.tmrMod n)

/-- A write of TMRn_CMPV by reader p: staged on the even timer of a linked pair, committed by the odd one (R328). -/
def State.tmrCmpvWrite (s : State) (p : Fin 11) (n : Fin 16) (v : Word) : State :=
  if !s.linked n then s.tmrPut n v 0
  else
    let e := tmrEvenOf n
    if n = e then s.setTmr e fun t => { t with stage := (p.val, v) :: t.stage.filter (·.1 ≠ p.val) }
    else
      let lo := match s.tmr[e].stage.find? (·.1 = p.val) with
        | some x => x.2
        | none => s.tmr[e].cmpv
      (s.setTmr e fun t => { t with stage := t.stage.filter (·.1 ≠ p.val) }).tmrPut e lo v

/-- The recent increments of a timer or a linked pair: TCLK and count after it, newest first. -/
def State.tmrRecent (s : State) (n : Fin 16) : List (Nat × Nat) :=
  if s.linked n then
    List.zipWith (fun x y => (x.1, x.2.toNat + y.2.toNat * 2 ^ 32)) s.tmr[tmrEvenOf n].recent s.tmr[tmrOddOf n].recent
  else s.tmr[n].recent.map fun x => (x.1, x.2.toNat)

/-- The count at a TCLK: after the last increment up to it, or before the first one kept (R325). -/
def State.countAt (s : State) (n : Fin 16) (at_ : Nat) : Nat :=
  match (s.tmrRecent n).find? fun x => decide (x.1 ≤ at_) with
  | some x => x.2
  | none => match (s.tmrRecent n).getLast? with
    | some x => (x.2 + s.tmrMod n - 1) % s.tmrMod n
    | none => s.tmrCount n

/-- A capture event (R325); stamp: SVCLK of a pin edge. -/
def State.tmrCapture (s : State) (n : Fin 16) (stamp : Nat) : State :=
  let csrc := s.rf Reg.tmrCapcfg n.val 1 0
  if s.tmrLead n ≠ n || !s.tmrRuns n || !(decide (csrc = 1) || decide (csrc = 2)) then s
  else
    let v := if csrc = 1 then s.countAt n (2 * stamp) else s.tmrCount n
    let at_ := some (if csrc = 1 then stamp else s.svclk)
    let s1 := s.setTmr n fun t => { t with cap := wordN v, capAt := at_ }
    let s2 := if s.linked n then s1.setTmr (tmrOddOf n) fun t => { t with cap := wordN (v / 2 ^ 32), capAt := at_ } else s1
    let s3 :=
      if s2.rb Reg.tmrStat n.val 2 then
        let t := if s2.rf Reg.tmrStat n.val 31 16 = 0 then s2.emit 0 Kind.tmrCapOvr (srcTmr n) 0 else s2
        t.bump Reg.tmrStat n.val 31 16
      else s2
    s3.tmrEvent n 2

/-- TMR_CAPALL: one snapshot in one SVCLK (R326). -/
def State.tmrCapall (s : State) : State :=
  if s.snapAt = some s.svclk then s
  else { s with
    snapAt := some s.svclk
    tmr := Vector.ofFn fun n : Fin 16 =>
      if s.rb Reg.tmrCfg (s.tmrLead n).val 0 then { s.tmr[n] with snap := s.tmr[n].cnt } else s.tmr[n]
    snapSeq := (s.snapSeq + 1) % 65536 }

/-- A write of TMRn_CFG after its RWL checks, old and new word: EN = 1 takes the source over, EN = 0 ends a fault (R319, R320). -/
def State.tmrCfgWritten (s : State) (n : Fin 16) (old : Word) : State :=
  let w := s.rg Reg.tmrCfg n.val
  if bit w 0 then
    s.setTmr n fun t => { t with
      src := fld w 3 1, edge := fld w 6 5, jsel := fld w 10 7, presc := fld w 27 12
      pin := if bit old 0 then t.pin else s.rb Reg.tmrCmp n.val 5
      recent := if bit old 0 then t.recent else [] }
  else s.setTmr n fun t => { t with fault := false, pin := s.rb Reg.tmrCmp n.val 5 }

/-- A LINK write that R327 refuses: the even timer's LINK would rise while EN or the owners forbid it. -/
def State.linkRefused (s : State) (n : Fin 16) (v : Word) : Bool :=
  decide (n.val % 2 = 0) && bit v 4 && !s.rb Reg.tmrCfg n.val 4
    && (s.rb Reg.tmrCfg n.val 0 || s.rb Reg.tmrCfg (tmrOddOf n).val 0
      || decide (s.tmr[n].owner ≠ s.tmr[tmrOddOf n].owner))

/-- Registers that the timer retention store keeps (R330). -/
def tmrKeepRows : List RegRow := [Reg.tmrCfg, Reg.tmrCmp, Reg.tmrCapcfg, Reg.tmrEven]

/-- The retention record at a command to STANDBY (R330). -/
def State.tmrRetain (s : State) : State :=
  { s with ao := { s.ao with
      keptS0 := s.ao.slow
      kept := (List.finRange 16).map fun n =>
        ⟨s.tmr[n].cnt, s.tmr[n].cmpv, s.tmr[n].armed,
          (tmrKeepRows.map fun r => (r.addr n.val 0, s.rg r n.val)) ++ [(Reg.tmrOwner.addr n.val 0, wordN s.tmr[n].owner)]⟩ } }

/-- A timer's count advanced at the wake by k increments, firing the compare and the wrap it crosses (R330). -/
def State.tmrAdvance (s : State) (n : Fin 16) (k : Nat) : State :=
  if s.tmrLead n ≠ n || !s.tmrRuns n || decide (k = 0) then s
  else
    let c := s.tmrCount n
    let m := s.tmrMod n
    let d := (s.tmrCmpv n + m - c) % m
    let dist := if d = 0 then m else d
    let s1 := s.setCount n ((c + k) % m)
    let s2 := if m ≤ c + k then s1.tmrEvent n 3 else s1
    if s2.tmr[n].armed && decide (dist ≤ k) then s2.tmrFire n 1 else s2

/-- At the wake the timers get their settings and counts back and are advanced by the elapsed slow count (R330). -/
def State.tmrRestore (s : State) : State :=
  let e := (s.ao.slow + 2 ^ 48 - s.ao.keptS0) % 2 ^ 48
  let back (t : State) (x : TmrKeep × Nat) : State :=
    if h : x.2 < 16 then
      let n : Fin 16 := ⟨x.2, h⟩
      let w (r : RegRow) : Word := match x.1.regs.find? (·.1 = r.addr n.val 0) with
        | some y => y.2
        | none => resetWord r n.val
      let t1 := tmrKeepRows.foldl (fun (u : State) (r : RegRow) => u.setRg r n.val 0 (w r)) t
      let cfg := w Reg.tmrCfg
      t1.setTmr n fun y => { y with
        cnt := x.1.cnt, cmpv := x.1.cmpv, armed := x.1.armed, owner := (w Reg.tmrOwner).toNat, src := fld cfg 3 1,
        edge := fld cfg 6 5, jsel := fld cfg 10 7, presc := fld cfg 27 12, pin := bit (w Reg.tmrCmp) 5 }
    else t
  let s1 := s.ao.kept.zipIdx.foldl back s
  let s2 := (List.finRange 16).foldl (fun (t : State) (n : Fin 16) =>
    let src := t.tmr[n].src
    let k := if src = 1 then e
      else if src = 2 ∨ src = 3 ∨ src = 4 then 0
      else e * 15625000 / (4096 * (t.tmr[n].presc + 1))
    t.tmrAdvance n k) s1
  { s2 with ao := { s2.ao with kept := [] } }

/-! ### Sealed counters (R334 to R340) -/

/-- Replace a sealed counter. -/
def State.setSeal (s : State) (n : Fin 16) (f : SealCnt → SealCnt) : State :=
  { s with ao := { s.ao with seals := upd s.ao.seals n f } }

/-- SEALn_CFG as read (R341). -/
def State.sealCfgWord (s : State) (n : Fin 16) : Word :=
  let c := s.ao.seals[n]
  wordN ((s.rg Reg.sealxCfg n.val).toNat + bitAt c.broken 5 + bitAt c.sat 6 + bitAt c.loss 7)

/-- A counter's count word fails its check (R336). -/
def State.sealBreak (s : State) (n : Fin 16) : State :=
  if s.ao.seals[n].broken then s
  else (s.setSeal n fun c => { c with broken := true, gathered := 0 }).emit 1 Kind.sealFault (srcC 3 0 n.val) 0

/-- The gathered increments of a counter are added, saturating (R334, R335). -/
def SealCnt.add (c : SealCnt) : SealCnt :=
  if c.broken then { c with gathered := 0 }
  else
    let v := c.count.toNat + c.gathered
    if 2 ^ 64 - 1 ≤ v ∧ 0 < c.gathered then { c with count := BitVec.allOnes 64, sat := true, gathered := 0 }
    else { c with count := BitVec.ofNat 64 v, gathered := 0 }

/-- Pending increments are added (R335); a count that is written anew carries no flipped bits (R439). -/
def State.sealFlush (s : State) : State :=
  let anew (key : Nat) : Bool := (List.finRange 16).any fun n =>
    !s.ao.seals[n].broken && decide (s.ao.seals[n].gathered ≠ 0)
      && (decide (key = Reg.sealxLo.addr n 0) || decide (key = Reg.sealxLo.addr n 0 + 4))
  { s with
    ao := { s.ao with seals := s.ao.seals.map SealCnt.add }
    inj := { s.inj with flips := s.inj.flips.filter fun f => !anew f.1 } }

/-- The key of half i of a count. -/
def sealKey (n : Fin 16) (i : Nat) : Nat := Reg.sealxLo.addr n 0 + 4 * i

/-- Half i of a count is read: a corrected one gives a note, an uncorrectable one ECC_UE and breaks the counter (R31, R32, R336,
R414). -/
def State.sealHalf (s : State) (n : Fin 16) (i : Nat) (found : Fin 3) : State :=
  if s.ao.seals[n].broken then s
  else
    match s.eccOf (sealKey n i) found with
    | 0 => s
    | 1 => s.emit 0 Kind.eccCe (srcC 3 0 n.val) i
    | _ => (s.emit 1 Kind.eccUe (srcC 3 0 n.val) i).sealBreak n

/-- Both halves of a count are read (R336). -/
def State.sealCheck (s : State) (n : Fin 16) (found : Fin 3) : State := (s.sealHalf n 0 found).sealHalf n 1 0

/-- A port reads SEALn_LO, which takes both halves, or SEALn_HI; the Bool says that data is returned (R32, R336, R341). -/
def State.sealRead (s : State) (n : Fin 16) (lo : Bool) (found : Fin 3) : State × Bool :=
  if lo then (s.sealCheck n found, decide (s.eccOf (sealKey n 0) found ≠ 2) && decide (s.eccOf (sealKey n 1) 0 ≠ 2))
  else (s.sealHalf n 1 found, decide (s.eccOf (sealKey n 1) found ≠ 2))

/-- The increments gathered are added to the counts, which are read for it (R335, R336). -/
def State.sealSum (s : State) : State :=
  ((List.finRange 16).foldl (fun (t : State) (n : Fin 16) =>
    if t.ao.seals[n].gathered = 0 then t else t.sealCheck n 0) s).sealFlush

/-- An SCLK edge at the bank: RUNTIME counts, gathered increments are added to the counts, which are read for it; ce and bad name
counters whose low half has a corrected and an uncorrectable error (R335, R336). -/
def State.sealEdge (s0 : State) (ce bad : BitVec 16) : State :=
  let s := if s0.clocked then s0.advanceTo (s0.now + s0.toSclk) else s0.sclkEdges 1
  let s1 := if s.sys.st = .run ∧ s.sync = .full then s.sealGather 4 (fun _ => true) 1 else s
  let s2 := (List.finRange 16).foldl (fun (t : State) (n : Fin 16) =>
    let found : Fin 3 := if bad.getLsbD n.val then 2 else if ce.getLsbD n.val then 1 else 0
    if found = 0 ∧ t.ao.seals[n].gathered = 0 then t else t.sealCheck n found) s1
  s2.sealFlush

/-- The node ID: SOFTID when IDUSE = 1, else the straps (R350). -/
def State.nodeId (s : State) : Nat := if s.rb Reg.fabCfg 0 6 then s.rf Reg.fabCfg 0 11 7 else s.sys.nid

/-- The words of a report up to the HMAC (R340). -/
def State.reportWords (s : State) : List Word :=
  [wordN 0x01500001, s.ao.rcnt, wordN Config.serial.toNat, wordN (Config.serial.toNat / 2 ^ 32),
    wordN (s.otp.epoch % 4096 + bitAt s.otp.epexh 12), wordN (1 + s.nodeId % 32 * 256),
    wordN s.ao.slow, wordN (s.ao.slow / 2 ^ 32 % 65536)]
    ++ (List.range 4).map (fun i => s.rg Reg.sealNonce i)
    ++ (List.finRange 16).map s.sealCfgWord
    ++ (List.range 16).map (fun i => s.rg Reg.sealxMask i)
    ++ (List.finRange 16).flatMap fun n =>
        [wordN s.ao.seals[n].count.toNat, wordN (s.ao.seals[n].count.toNat / 2 ^ 32)]

/-- The octets of words. -/
def wordBytes (l : List Word) : List Nat := l.flatMap fun w => leBytes 4 w.toNat

/-- SEAL_CTL.REPORT while no report is being built: the counts are read under their checks (R336, R339). -/
def State.sealReport (s : State) : State :=
  if !s.otp.keyset then ({ s with svc := { s.svc with nokey := true } } : State).hw Reg.sealStat.base 8
  else
    let t := (List.finRange 16).foldl (fun (t : State) (n : Fin 16) => t.sealCheck n 0) (s.sealEdge 0 0)
    let u : State := { t with ao := { t.ao with rcnt := t.ao.rcnt + 1 } }
    { u with svc := { u.svc with busy := true, snap := u.reportWords } }

/-- The report is complete with its HMAC (R339, R340). -/
def State.sealReportDone (s : State) : State :=
  if !s.svc.busy then s
  else
    let mac := leWords (hmac256 (wordBytes s.otp.key) (wordBytes s.svc.snap))
    ({ s with svc := { s.svc with busy := false, rdy := true, buf := s.svc.snap ++ mac, snap := [] } } : State).hw Reg.sealStat.base 4

/-- The burn of the key (R338). -/
def State.sealBurn (s : State) (v : Word) : State :=
  if v ≠ 0x5EA1B0A7 ∨ s.otp.keyset then s
  else
    let key := s.svc.keyw.toList
    { s with
      otp := { s.otp with
        keyset := true, key := key }
      svc := { s.svc with
        keyw := Vector.replicate 8 0, kcv := (leWords (hmac256 (wordBytes key) (List.replicate 32 0))).headD 0 } }

end Sys2Proof.Machine
end

