-- ==== Sys2Proof/Machine/Safe.lean ====
section
/-! DEFINITION. The safe actuation state in both scopes, ownership of targets, stops of clusters, lost works and takeovers
(chapters Faults and Self-Test, Walend Programming Model, Pegs). -/

namespace Sys2Proof.Machine

/-! ### The package scope (R18, R246, R422) -/

/-- SOURCE of a message of the driver die as a whole (log entry 16). -/
def srcDrv : Nat := srcD 0xF 0xF

/-- The driver die's part in the safe actuation state (R246). -/
def State.drvSafe (s : State) : State :=
  if s.drv.safe then s
  else
    let s1 := { s with drv := { s.drv with safe := true, bst := s.drv.bst.map fun b => { b with on := false, toff := none } } }
    let s2 := (List.finRange 32).foldl (fun (t : State) (c : Fin 32) =>
      (t.driverHold c).setCh c fun d => { d with startPend := false, offPend := false }) s1
    (List.finRange 24).foldl (fun (t : State) (n : Fin 24) => t.rampDown n) s2

/-- The driver die enters the safe actuation state on its own and reports it (R18, R246, R414). -/
def State.drvEnter (s : State) (cause : Nat) : State :=
  if s.drv.safe then s else s.drvSafe.emit 2 Kind.drvSafe srcDrv cause

/-- The package enters the safe actuation state, or a further cause joins (R420, R422); a release of the same SVCLK goes before the
entry (R423). -/
def State.pkgSafe (s : State) (cause : Collector → Collector) : State :=
  let was := s.coll.safe
  let before := match s.coll.entered with
    | some (k, b) => if k = s.svclk then b else was
    | none => was
  let s1 := { s with coll := { cause s.coll with
    safe := true, lineA := true, lineB := true, shot := none, entered := some (s.svclk, before) } }
  if was then s1.drvEnter 1
  else
    let s2 := s1.holdPegs fun p => p.ach.isSome || p.ign.isSome
    let s3 := (List.finRange 32).foldl (fun (t : State) (c : Fin 32) => t.chSafe c) (s2.closeDue (List.finRange 32))
    let s4 := s3.drvEnter 1
    let s5 := (List.finRange 24).foldl (fun (t : State) (n : Fin 24) =>
      if t.drv.ign[n].gate then t else t.setEIgn n fun e => { e with line := false }) s4
    s5.jigHolds

/-! ### Targets (R27, R148, R422) -/

/-- Owner codes of the host and of the fault collector (R218). -/
def ownHost : Nat := 0xC
def ownFault : Nat := 0xF

/-- A channel, an ignition output, a window, an engine moves to another owner; Fh begins the target hold (R246, R422). -/
def State.ownCh (s : State) (c : Fin 32) (o : Nat) (rank : Nat := 0) : State :=
  s.claim (Reg.chanOwner.addr c 0) s.edg.ch[c].owner rank fun t =>
    let s1 := t.setECh c fun e => { e with owner := o }
    if o = ownFault then s1.holdCh c else s1
def State.ownIgn (s : State) (n : Fin 24) (o : Nat) (rank : Nat := 0) : State :=
  s.claim (Reg.ignOwner.addr n 0) s.edg.ign[n].owner rank fun t =>
    let s1 := t.setEIgn n fun e => { e with owner := o }
    if o = ownFault then s1.holdIgn n else s1
def State.ownWin (s : State) (v : Fin 16) (o : Nat) (rank : Nat := 0) : State :=
  s.claim (Reg.measOwner.addr (24 + v) 0) (s.winOwner v) rank fun t =>
    let s1 := { t with ms := { t.ms with owner := t.ms.owner.set (24 + v.val) o (by omega) } }
    if o = ownFault then s1.holdWin v else s1
def State.ownJig (s : State) (e : Fin 8) (o : Nat) (rank : Nat := 0) : State :=
  s.claim (Reg.jigOwner.addr e 0) s.jig[e].owner rank fun t =>
    let s1 := (t.setJig e fun g => { g with owner := o }).jigHolds
    if o = ownFault then s1.holdJig e else s1

/-- The channels, ignition outputs, windows and jig engines of one owner pass to another (R148); a claim of a lower rank in the same
TCLK gives way (R29). -/
def State.moveTargets (s : State) (a b rank : Nat) : State :=
  let is (t : State) (reg owner : Nat) : Bool := decide (t.ownerBefore reg owner rank = a)
  let s1 := (List.finRange 32).foldl (fun (t : State) (c : Fin 32) =>
    if is t (Reg.chanOwner.addr c 0) t.edg.ch[c].owner then t.ownCh c b rank else t) s
  let s2 := (List.finRange 24).foldl (fun (t : State) (n : Fin 24) =>
    if is t (Reg.ignOwner.addr n 0) t.edg.ign[n].owner then t.ownIgn n b rank else t) s1
  let s3 := (List.finRange 16).foldl (fun (t : State) (v : Fin 16) =>
    if is t (Reg.measOwner.addr (24 + v) 0) (t.winOwner v) then t.ownWin v b rank else t) s2
  (List.finRange 8).foldl (fun (t : State) (e : Fin 8) =>
    if is t (Reg.jigOwner.addr e 0) t.jig[e].owner then t.ownJig e b rank else t) s3

/-- The target of a peg goes to owner Fh (R149). -/
def State.faultTarget (s : State) (p : Peg) : State :=
  match p.ach, p.ign, p.win, p.jig with
  | some c, _, _, _ => s.ownCh c ownFault
  | _, some n, _, _ => s.ownIgn n ownFault
  | _, _, some v, _ => s.ownWin v ownFault
  | _, _, _, some e => s.ownJig e ownFault
  | _, _, _, _ => s

/-- CORE_HALT holds every channel, ignition output and window of the work without a change of owner (R173, R422). -/
def State.holdWork (s : State) (w : Fin 9) : State :=
  let s1 := s.setWork w fun x => { x with held := true }
  match s1.home w with
  | none => s1
  | some c =>
    let s2 := (List.finRange 32).foldl (fun (t : State) (n : Fin 32) => if t.edg.ch[n].owner = c.val then t.holdCh n else t) s1
    let s3 := (List.finRange 24).foldl (fun (t : State) (n : Fin 24) => if t.edg.ign[n].owner = c.val then t.holdIgn n else t) s2
    (List.finRange 16).foldl (fun (t : State) (v : Fin 16) => if t.winOwner v = c.val then t.holdWin v else t) s3

/-! ### SRAMs and the context block (R45, R168, R432) -/

/-- Host addresses of a work's instruction and data SRAM. -/
def instrBase (w : Fin 9) : Nat := w.val * 0x10000
def dataBase (w : Fin 9) : Nat := w.val * 0x10000 + 0x4000

/-- A word of a work's data SRAM. -/
def State.dataWord (s : State) (w : Fin 9) (a : Nat) : Word := s.word (dataBase w + a)

/-- A corrected error of a word of cluster c's SRAM is noted (R32, R412). -/
def State.sramCe (s : State) (c idx : Nat) : State := s.emit 0 Kind.eccCe (srcC 0 c 0xF) idx

/-- A cluster's registers from the context block, the others and the flags cleared (R174, R176). -/
def State.loadContext (s : State) (c w : Fin 9) : State :=
  s.setClu c fun x => { x with
    g := Vector.ofFn fun i : Fin 16 => if i.val < 8 then s.dataWord w (0x1F80 + 4 * i.val) else 0
    a := Vector.ofFn fun i : Fin 8 => if i.val < 6 then BitVec.ofNat 24 (s.dataWord w (0x1FA0 + 4 * i.val)).toNat else 0
    z := false, n := false, c := false, v := false, w := false }

/-- The context block written as one atomic unit (R168). -/
def State.saveContext (s : State) (c w : Fin 9) : State :=
  let x := s.clu[c]
  let b := dataBase w
  let s1 := s.setWords (b + 0x1F80) (x.g.toList.take 8)
  let s2 := s1.setWords (b + 0x1FA0) ((x.a.toList.take 6).map fun a => wordN a.toNat)
  let s3 := s2.setWords (b + 0x1FB8) [wordN (s.work[w].seq % 4096), wordN (x.dones % 65536)]
  (List.range 16).foldl (fun (t : State) i => t.unflip (b + 0x1F80 + 4 * i)) s3

/-! ### Stops (R174, R425, R455) -/

/-- The pegs of a stopped work: waiting ones go, coils in dwell come down, committed ones complete (R174). -/
def State.stopPegs (s : State) (w : Fin 9) : State :=
  (slotOrder s.work[w].slots).foldl (fun (t : State) (k : Fin 32) =>
    let p := t.work[w].slots[k]
    match p.st with
    | .armed => t.cancelPeg w k 5 false
    | .aimed => t.cancelPeg w k 5 false
    | .waiting => t.cancelPeg w k 5 false
    | .dwelling => t.softOff w k 3
    | _ => t) s

/-- A comparator disarmed by a stop or at START (R166, R174). -/
def Comp.disarm (m : Comp) : Comp := { m with arm := false, waiting := false, was := none }

/-- A work's cues are discarded and its comparators disarmed (R174). -/
def State.stopWork (s : State) (w : Fin 9) : State :=
  (s.stopPegs w).setWork w fun x => { x with
    cues := [], comps := x.comps.map Comp.disarm, runLog := [], armed := [], held := false }

/-- A cluster stops and stands STOPPED with its own work number, or with none while another cluster carries that work, or SPARE with
none (R174, R427; log entry 48). -/
def State.clusterStop (s : State) (c : Fin 9) (spare : Bool) : State :=
  let s1 := match s.clu[c].work with
    | some w => s.stopWork w
    | none => s
  let own := if spare then none else s.ownNumber c
  let cueEn := match own, s.clu[c].work with
    | none, some w => s.work[w].cueEn
    | _, _ => s.clu[c].cueEn
  let s2 := s1.setClu c fun x => { x with
    role := if spare then .spare else .stopped, work := own, run := none, halt := false, stopReq := false, redoCue := none,
    cueEn := cueEn }
  { s2 with take := s2.take.filter (·.taker ≠ c) }

/-- Every cluster that carries a work stops without waiting, and then stands for its own number (R425, R455). -/
def State.stopAll (s : State) : State :=
  let u := (List.finRange 9).foldl (fun (t : State) (c : Fin 9) => if t.clu[c].runs then t.clusterStop c false else t) s
  (List.finRange 9).foldl (fun (t : State) (c : Fin 9) =>
    if t.clu[c].role = .stopped ∧ t.clu[c].work = none then t.takeNumber c else t) u

/-- BIST stops: the over in progress is abandoned without a note (R427). -/
def State.bistStop (s : State) : State :=
  match s.bist.ov with
  | none => s
  | some o =>
    let s1 := { s with bist := { s.bist with ov := none } }
    if h : o.unit < 9 then
      let x : Fin 9 := ⟨o.unit, h⟩
      match o.stage, o.spare, o.work with
      | .prepare, _, _ => s1
      | _, some sp, some w =>
        let s2 := s1.clusterStop sp true
        if s2.clu[x].role = .testing then (s2.stopPegs w).setClu x fun k => { k with role := .stopped, work := some x, run := none }
        else s2
      | _, _, _ =>
        if s1.clu[x].role = .testing then s1.setClu x fun k => { k with role := .stopped, work := some x, run := none } else s1
    else s1

/-! ### Lost works and takeovers (R148, R433, R435) -/

/-- HOST_STAT.CLUCHG and its ASTAT bit (R395). -/
def State.cluChanged (s : State) : State := s.hostEvent 2 3

/-- The over in progress once its work is lost: a handover that is loading or going back ends, an over that runs goes on and has no
work to give back (log entry 87). -/
def Over.without (o : Over) (w : Fin 9) : Option Over :=
  if o.work ≠ some w then some o else if o.stage = .running then some { o with spare := none, work := none } else none

/-- A TESTING cluster whose over has ended with no work to take back is a SPARE (log entry 87). -/
def State.testedFree (s : State) : State :=
  if s.bist.ov.isSome then s
  else { s with clu := s.clu.map fun k => if k.role = .testing then { k with role := .spare, work := none } else k }

/-- An uncorrectable error in a work's SRAM loses the work (R435); data: in data SRAM; i: word index. -/
def State.workLost (s : State) (w : Fin 9) (data : Bool) (i : Nat) : State :=
  match s.home w with
  | none => s
  | some c =>
    let s1 := (s.moveTargets c.val ownFault 0).emit 2 Kind.workLost (srcC 0 c.val 0xF) (w.val * 16 + bitAt data 8 + i % 8192 * 512)
    let s2 := (s1.setWork w fun x => { x with lost := true }).setClu c fun x => { x with
      role := .spare, work := none, run := none, halt := false, stopReq := false, redoCue := none }
    ({ s2 with take := s2.take.filter (·.work ≠ w), bist := { s2.bist with ov := s2.bist.ov.bind fun o => o.without w } }
      : State).testedFree

/-- A word of a work's SRAM is read; the Bool says that it may be used: an uncorrectable one loses the work (R32, R435). -/
def State.sramWord (s : State) (w : Fin 9) (data : Bool) (i : Nat) (found : Fin 3 := 0) : State × Bool :=
  let key := (if data then dataBase w else instrBase w) + 4 * i
  match s.eccOf key found with
  | 0 => (s, true)
  | 1 => (s.sramCe w.val i, true)
  | _ => (s.workLost w data i, false)

/-- The words of a work's context block are read (R155, R168). -/
def State.contextCheck (s : State) (w : Fin 9) : State × Bool :=
  (List.range 16).foldl (fun (x : State × Bool) i => if x.2 then x.1.sramWord w true (0x7E0 + i) else x) (s, true)

/-- A cluster that takes a work over resumes it from the context block, DONES included (R168, R176). -/
def State.resumeContext (s : State) (c w : Fin 9) : State :=
  match s.contextCheck w with
  | (t, false) => t
  | (t, true) => (t.loadContext c w).setClu c fun x => { x with dones := (t.dataWord w 0x1FBC).toNat % 65536 }

/-- Change the BIST controller. -/
def State.setBist (s : State) (f : Bist → Bist) : State := { s with bist := f s.bist }

/-- SOURCE of the BIST controller with the unit tested (R412). -/
def srcB (unit : Nat) : Nat := srcC 2 6 unit

/-- The innings ends: BIST_NOSPARE names the clusters left untested for want of a spare (R430). -/
def State.inningsClose (s : State) : State :=
  let s1 := s.setBist fun b => { b with running := false, noSpare := 0 }
  if s.bist.noSpare = 0 then s1 else s1.emit 1 Kind.bistNospare (srcB 0xF) s.bist.noSpare

/-- The innings moves past a number of overs; past the last it completes and the predictor instances may exchange (R110). -/
def State.oversPast (s : State) (k : Nat) : State :=
  let n := s.bist.next + k
  if n < 152 then s.setBist fun b => { b with next := n }
  else
    let s1 := (s.setBist fun b => { b with
      next := n, innings := (b.innings + 1) % 65536, lastDone := b.done, order := 0 }).inningsClose
    { s1 with prd := { s1.prd with exchange := true } }

/-- The innings moves past an over. -/
def State.overNext (s : State) : State := s.oversPast 1

/-- BIST_DEFER (R430, R433). -/
def State.bistDefer (s : State) (unit reason : Nat) : State :=
  (s.bump Reg.bistCnt 0 15 0).emit 0 Kind.bistDefer (srcC 2 6 unit) reason

/-- The over in progress on a cluster: a STOPPED or SPARE one keeps its role while it is tested in place (R427). -/
def State.overOn (s : State) (c : Fin 9) : Option Over := s.bist.ov.filter fun o => decide (o.unit = c.val)

/-- The taker of a work carried by a failing cluster, in the order of R433; the Bool says that it was TESTING, or under test in place. -/
def State.chooseTaker (s : State) (c : Fin 9) : Option (Fin 9 × Bool) :=
  let partner : Option (Fin 9) := match s.bist.ov with
    | some o =>
      if h : o.unit < 9 then
        if o.stage = .prepare ∧ o.unit = c.val then o.spare
        else if o.stage = .back ∧ o.spare = some c then some ⟨o.unit, h⟩
        else none
      else none
    | none => none
  match partner with
  | some p => some (p, decide (s.clu[p].role = .testing))
  | none =>
    match (List.finRange 9).find? fun x => decide (x ≠ c) && decide (s.clu[x].role = .spare) with
    | some x => some (x, (s.overOn x).isSome)
    | none =>
      ((List.finRange 9).find? fun x => decide (x ≠ c) && decide (s.clu[x].role = .testing)).map fun x => (x, true)

/-- A cluster fails a live check: retired, its work taken over as R148 and R433 set out (R33). why: 1 core residue, 2 scheduler
or comparator residue, 3 peg RES. -/
def State.clusterFail (s : State) (c : Fin 9) (why : Nat) : State :=
  let x := s.clu[c]
  if x.role = .unusable then s
  else
    let retire (t : State) : State := (t.setClu c fun k => { k with
      role := .unusable, work := none, run := none, halt := false, stopReq := false, redoCue := none }).cluChanged
    let say (t : State) (w taker : Nat) : State :=
      t.emit 1 Kind.cluFail (srcC 0 c.val 0xF) (why % 16 + w * 16 + taker * 256)
    let drop (t : State) : State := { t with bist := { t.bist with ov := none } }
    let inOver := match s.bist.ov with
      | some o => decide (o.unit = c.val) || decide (o.spare = some c)
      | none => false
    if !x.runs then
      let s1 := retire s
      say (if inOver then drop s1 else s1) 0xF 0xF
    else
      match x.work with
      | none => say (retire s) 0xF 0xF
      | some w =>
        let cut := match x.run with
          | some r => if r.exc then none else some r
          | none => x.redoCue.or ((s.take.find? fun k => decide (k.work = w)).bind (·.cut))
        match s.chooseTaker c with
        | none =>
          let s1 := say (retire (if inOver then drop s else s)) w.val 0xF
          let s2 := (s1.emit 2 Kind.spareOut (srcC 0 c.val 0xF) (w.val * 16)).moveTargets c.val ownFault 0
          let s3 := s2.setWork w fun k => { k with lost := true }
          { s3 with take := s3.take.filter (·.taker ≠ c) }
        | some (tk, tested) =>
          let t0 := s.now
          let cutOver := (s.overOn tk).any fun o => decide (o.stage = .running)
          -- an over or a load of the taker, or one that the failing cluster served, is abandoned
          let takerIn := match s.bist.ov with
            | some o => decide (o.unit = tk.val) || decide (o.spare = some tk)
            | none => false
          -- the innings moves past an over of the taker that is cut: it is run again in the next one
          let sT := if tested then s.advanceTo (s.now + 32) else s
          let s0 := if cutOver then
              let u := sT.bistDefer tk.val 2
              if (s.overOn tk).any fun o => !o.extra then u.overNext else u
            else sT
          -- a TESTING taker whose own work the failing cluster carries takes it back: then w is that work itself
          -- an over that runs while the failing cluster carries its work goes on, and the taker gives the work back
          let passOn := s0.bist.ov.filter fun o => decide (o.stage = .running) && decide (o.spare = some c) && !takerIn
          let s1 := match passOn with
            | some o => { s0 with bist := { s0.bist with ov := some { o with spare := some tk } } }
            | none => if takerIn || inOver then drop s0 else s0
          let s2 := say (retire s1) w.val tk.val
          let s3 := s2.setClu tk fun k => { (Cluster.reset k.role (some w)) with
            role := if w = tk then .active else .carrying, dones := k.dones, cause := k.cause, epc := k.epc,
            eaddr := k.eaddr, cueEn := k.cueEn }
          let s4 := ((s3.peakSlots w).advanceTo (s0.now + 1)).moveTargets c.val tk.val 2
          { s4 with take := s4.take.filter (·.work ≠ w) ++ [⟨w, tk, t0, .loading, cut, tested, s.edg.heOld⟩] }

/-- A peg descriptor's RES fails in a work: the cluster that carries it fails (R33, R116). -/
def State.pegResFail (s : State) (w : Fin 9) : State :=
  match s.carrier w with
  | some c => s.clusterFail c 3
  | none => s

/-- TCLK by which the takers of R148 are later when their over was cut (R434). -/
def Takeover.extra (k : Takeover) : Nat := if k.wasTesting then 32 else 0

/-- A sequence number was issued after the context block's counter (R176). -/
def State.afterBlock (s : State) (w : Fin 9) (seq : Nat) : Bool :=
  let b := fld (s.dataWord w 0x1FB8) 11 0
  decide ((seq + 4096 - b) % 4096 < (s.work[w].seq + 4096 - b) % 4096)

/-- A cluster loads a work's section from the peg mirror: an entry whose own residue fails, or that the test names, is lost with its
target held, and the others come with a residue that fits (R149, R150). A peg that the edge generator owns, or whose coil the hold brings
down, stays in its slot until the outcome that the hold gives it (R123, R134; DESIGN CHOICE, log entry 82). -/
def State.loadSection (s : State) (w : Fin 9) (bad : Fin 32 → Bool) : State :=
  (List.finRange 32).foldl (fun (t : State) (i : Fin 32) =>
    let p := t.work[w].slots[i]
    if bad i || s.work[w].slots[i].mirBad then
      ((t.faultTarget p).emit 2 Kind.mirrorLost (srcC 0 0xB w.val) i.val).setPeg w i fun q =>
        if q.st = .committed ∨ q.st = .driven ∨ q.st = .softoff then { q with resBad := false } else { Peg.empty with seq := q.seq, last := q.last, lateAmt := q.lateAmt, freedAt := if q.st = .free then q.freedAt else some t.now }
    else t.setPeg w i fun q => { q with resBad := false }) s

/-- The taker has loaded the section, each entry with the check of its own residue; pegs of the cut run go without a note (R148, R149,
R176). -/
def State.mirrorLoaded (s : State) (w : Fin 9) (bad : BitVec 32) : State :=
  match s.take.find? fun k => decide (k.work = w) with
  | none => s
  | some k =>
    if k.stage ≠ .loading then s
    else
      let s0 := s.advanceTo (k.t0 + k.extra + 65)
      let s1 := s0.loadSection w fun i => bad.getLsbD i.val
      let s2 := (slotOrder s1.work[w].slots).foldl (fun (t : State) (i : Fin 32) =>
        let p := t.work[w].slots[i]
        if (p.st = .armed ∨ p.st = .aimed ∨ p.st = .waiting) ∧ t.afterBlock w p.seq then t.release w i 5 0 0 true else t) s1
      { s2 with take := s2.take.map fun x => if x.work = w then { x with stage := .pass } else x }

/-- The pass of R148 over one loaded peg: a peg whose commit point fell into the takeover is judged with its mirrored instant as
ideal, whether or not the horizon is open; one that entered the horizon meanwhile, or is inside it, is aimed anew. -/
def State.takePeg (s0 : State) (w : Fin 9) (k : Takeover) (i : Fin 32) : State :=
  let s := s0.takeDwell w i
  let p := s.work[w].slots[i]
  let e := k.t0 + k.extra + 146
  let due (t : Nat) : Bool := (decide (p.st = .aimed) || decide (p.st = .dwelling)) && decide (t / 16 < e)
  if p.inst.any due then s.settlePeg ((s.segAt s.now).getD ⟨0, 0, 0, 0, 0, false, 0, false⟩) w i (p.inst.getD 0) (16 * e)
  else
  match s.edg.heOld, s.segAt s.now with
  | some he, some g =>
    let θm := s.segAng g (16 * s.now)
    match p.inst with
    | some _ =>
      if p.st = .aimed ∨ p.st = .dwelling then
        if p.isCoil then (s.coilStep g w i (e - 16) he θm).1
        else if p.rel then s
        else s.settlePeg g w i (s.aim g p.angle p.tofs) (16 * e)
      else s
    | none =>
      if p.rel || s.keptOut p then s
      else if p.isCoil then
        (if p.st = .armed ∨ p.st = .dwelling then (s.coilStep g w i (e - 16) he θm).1 else s)
      else
        match k.he with
        | some h0 =>
          if p.st = .armed ∧ s.inRange h0 he (256 * (p.angle : Int)) then s.settlePeg g w i (s.aim g p.angle p.tofs) (16 * e) else s
        | none => s
  | _, _ => s

/-- The taker's scheduler is live: its pass, the core's state from the context block, and the cut run's cue (R148, R176, R434). -/
def State.schedulerGoLive (s : State) (w : Fin 9) : State :=
  match s.take.find? fun k => decide (k.work = w) with
  | none => s
  | some k =>
    if k.stage ≠ .pass then s
    else
      let s0 := s.advanceTo (k.t0 + k.extra + 130)
      let s1 := (List.finRange 32).foldl (fun (t : State) (i : Fin 32) => t.takePeg w k i) s0
      let s2 := s1.resumeContext k.taker w
      let s3 : State := { s2.setClu k.taker fun x => { x with
        run := none, redoCue := if s2.work[w].lost then none else k.cut.map fun r => { r with redo := true, spent := 0 } } with
        take := s2.take.filter (·.work ≠ w) }
      (List.finRange 32).foldl (fun (t : State) (c : Fin 32) => if t.edg.ch[c].owner = k.taker.val then t.selSend c else t) s3

end Sys2Proof.Machine
end

