-- ==== Sys2Proof/Machine/Angle.lean ====
section
/-! DEFINITION. The sync state that the rules follow and what its changes do; the fabric's time, frames and angle agreement
(R63, R64, R75, R76, R355, R359 to R367). -/

namespace Sys2Proof.Machine

/-! ### The node and its frames (R350, R355, R356, R379) -/

/-- SOURCE of the fabric's messages: a port, or Fh for the node. -/
def srcF (unit : Nat) : Nat := srcC 2 0xE unit

/-- FAB_CFG.EN. -/
def State.fabEn (s : State) : Bool := s.rb Reg.fabCfg 0 0

/-- The fabric runs (R355). -/
def State.fabRuns (s : State) : Bool :=
  s.fabEn && (s.live || decide (s.sys.st = .sidelines) || decide (s.sys.st = .lockout))

/-- Replace a port. -/
def State.setPort (s : State) (r : Fin 3) (f : FPort → FPort) : State := { s with fab := { s.fab with port := upd s.fab.port r f } }

/-- A frame of the unit's own, from this node in its present line-up. -/
def State.unitFrame (s : State) (ft : Nat) (bytes : List Nat) : Frame :=
  ⟨ft, true, 0, s.nodeId, 0, 0, 0, s.fab.lun, [], bytes, 0⟩

/-- A frame becomes eligible at an output; inp: the port it came from, 3 the unit, 4 a work (R349). -/
def State.portPut (s : State) (r : Fin 3) (inp : Nat) (f : Frame) : State :=
  s.setPort r fun p => { p with out := p.out ++ [(inp, f)] }

/-- A broadcast frame goes to every tree neighbour except the one it came from (R356). -/
def State.broadcast (s : State) (inp : Nat) (f : Frame) : State :=
  (List.finRange 3).foldl (fun (t : State) (r : Fin 3) =>
    let p := t.fab.port[r]
    if p.st = .up ∧ (p.tree = 1 ∨ p.tree = 2) ∧ r.val ≠ inp then t.portPut r inp f else t) s

/-- A frame goes out on every UP port except the one it came from (R351). -/
def State.flood (s : State) (inp : Nat) (f : Frame) : State :=
  (List.finRange 3).foldl (fun (t : State) (r : Fin 3) =>
    if t.fab.port[r].st = .up ∧ r.val ≠ inp then t.portPut r inp f else t) s

/-- FAB_DISCARD: DISC counts, and the first count after a clearing emits the note (R357, R379). -/
def State.fabDiscard (s : State) (reason dst dwork : Nat) : State :=
  let first := decide (s.rf Reg.fabCnt 0 15 0 = 0)
  let s1 := s.bump Reg.fabCnt 0 15 0
  if first then s1.emit 0 Kind.fabDiscard (srcF 0xF) (reason % 8 + dst % 32 * 8 + dwork % 16 * 256) else s1

/-! ### System time (R359) -/

/-- The system time in vernier steps at a local instant in vernier steps: a 40-bit TCLK count with a 4-bit step. -/
def State.sysAt (s : State) (t : Nat) : Nat :=
  (((t : Int) + s.fab.off + roundQ (s.fab.rate * (((t : Int) - (s.fab.base : Int) : Int) : Rat))) % 2 ^ 44).toNat

/-- A broadcast frame passed on is remembered by its CEP and sequence number. A number comes round after 65,536 frames, so the last 32,768
are remembered (DESIGN CHOICE, log entry 57). -/
def notePassed (seen : List (Nat × Nat)) (x : Nat × Nat) : List (Nat × Nat) := (x :: seen).take 32768

/-- A system time in vernier steps as a frame carries it, and back: [39:0] TCLK, [43:40] step (R359). -/
def timeWord (t : Nat) : Nat := t / 16 % 2 ^ 40 + t % 16 * 2 ^ 40
def wordTime (x : Nat) : Nat := x % 2 ^ 40 * 16 + x / 2 ^ 40 % 16

/-- CAPTO in TCLK (R380). -/
def State.capTo (s : State) : Nat := nearer 20 140 (s.rf Reg.fabCfg 0 19 12) * 250

/-! ### The combined state (R365, R366) -/

/-- The newest beacon, when it is from the present captain and younger than CAPTO. -/
def State.freshBeacon (s : State) : Option BeaconRec :=
  s.fab.beacon.filter fun b => s.fab.capv && decide (b.id = s.fab.capid) && decide (s.now < b.ts + s.capTo)

/-- HOLDMAX in ms. -/
def State.holdMax (s : State) : Nat := min 60000 (s.rf Reg.fabAngcfg 0 31 16)

/-- Holdover while no captain's angle can be followed: it goes on, it begins, or it is impossible (R366). -/
def State.holdNext (s : State) : Sync × Option Nat :=
  let tied := (decide (s.whl.sync = .tooth) || decide (s.whl.sync = .full)) && s.whl.ratev && !s.fab.diffstop
  match s.fab.hold with
  | some t => if tied then (.full, some t) else (.nosync, none)
  | none => if tied && decide (s.fab.csync = .full) && s.fab.dv && decide (s.holdMax ≠ 0) then (.full, some s.now) else (.nosync, none)

/-- The combined state of a node that is not captain, and its holdover (R365). -/
def State.combined (s : State) : Sync × Option Nat :=
  match s.freshBeacon with
  | none => s.holdNext
  | some b =>
    if s.whl.sync = .nosync ∨ !s.whl.ratev ∨ s.fab.diffstop then (.nosync, none)
    else if b.sync = 3 then (.full, none)
    else if b.sync = 1 then (.provisional, none)
    else if s.fab.capFell then s.holdNext
    else (.nosync, none)

/-- Form the combined state anew; a holdover that begins is reported (R365, R366). On a captain it is the state of its own wheels, and DV
ends with it as well (R363). -/
def State.combine (s : State) : State :=
  if !s.fabEn then s
  else if s.fab.capt then
    (if s.sync = .nosync then { s with fab := { s.fab with dv := false, dvN := 0, diffRun := 0 } } else s)
  else
    let r := s.combined
    let seen := match s.freshBeacon with
      | some b => decide (b.sync = 3)
      | none => false
    let begins := r.2.isSome && s.fab.hold.isNone
    let s1 : State := { s with fab := { s.fab with
      csync := r.1, hold := r.2, capFell := seen || (s.fab.capFell && decide (r.1 = .full)),
      dv := s.fab.dv && decide (r.1 ≠ .nosync), dvN := if r.1 = .nosync then 0 else s.fab.dvN,
      diffRun := if r.1 = .nosync then 0 else s.fab.diffRun } }
    if begins then s1.emit 1 Kind.fabHoldover (srcF 0xF) s.fab.capid else s1

/-! ### Changes of the followed state (R64, R75, R76, R86, R125, R166) -/

/-- Context of SYNC_LOST and QS_ROLLBACK (R76). -/
def State.lostCtx (s : State) (reason : Nat) : Nat := reason % 16 + s.whl.pos % 1024 * 16 + bitAt s.whl.half 14

/-- The actions of R75 at a drop; from PROVISIONAL those of R85 as well. The message is QS_ROLLBACK where the package's own quick
start is rolled back, SYNC_LOST otherwise (R76, R367). -/
def State.dropActions (s : State) (prov rollback : Bool) (reason : Nat) : State :=
  let s1 := if prov then s.dropProv else s
  let s2 := s1.dropPegs.winAbortAll
  let s3 : State := { s2 with edg := { s2.edg with heOld := none, reopen := false } }
  (s3.setBit Reg.whlEvt 0 (if rollback then 4 else 2)).emit 1 (if rollback then Kind.qsRollback else Kind.syncLost)
    (srcC 0 9 0xF) (s3.lostCtx reason)

/-- The sync states in which ANG_NOW is valid (R63). -/
def Sync.valid (x : Sync) : Bool := decide (x = .full) || decide (x = .provisional)

/-- A change of the followed state is a drop (R75): to NOSYNC, or to TOOTH from a state in which ANG_NOW was valid. -/
def Sync.dropsTo (old new : Sync) : Bool := decide (new = .nosync) || (decide (new = .tooth) && old.valid)

/-- Every REPEAT comparator that waits after its own fire is armed again (R166). -/
def State.rearmAll (s : State) : State :=
  { s with work := s.work.map fun x => { x with comps := x.comps.map fun m => if m.waiting then { m with arm := true, waiting := false, was := none } else m } }

/-- ANG_NOW of the last TCLK before it becomes invalid, oldest first: the service region still reads them (R21). -/
def State.lastAngles (s : State) : List (Nat × Nat) :=
  [4, 3, 2, 1].filterMap fun d =>
    if s.now < d ∨ s.now - d < s.whl.validAt then none
    else (s.angFine (s.now - d)).map fun x => (s.now - d, (x % s.cyc256 / 256).toNat)

/-- The state that the rules follow moved: a drop takes its actions, a change to NOSYNC or TOOTH arms waiting comparators again, and
every carried work gets the SYNC cue. After a rise to FULL the next pass sets HE_old to its tooth; until then a horizon that is open
stays as it is (R125). -/
def State.syncMoved (s : State) (old : Sync) (reason : Nat) : State :=
  let new := s.sync
  if new = old then s
  else
    let own := !s.fabEn || s.fab.capt
    let s0 : State := if old.valid && !new.valid then { s with whl := { s.whl with gone := s.lastAngles } } else s
    let s1 :=
      if old.dropsTo new then s0.dropActions (decide (old = .provisional)) (decide (old = .provisional) && decide (new = .nosync) && own) reason
      else if new = .full then { s0 with edg := { s0.edg with reopen := true } }
      else s0
    let s2 := if new = .nosync ∨ new = .tooth then s1.rearmAll else s1
    let s3 : State := if new.valid && !old.valid then { s2 with whl := { s2.whl with validAt := s2.now } } else s2
    s3.cueAll 1 (new.code + old.code * 4 + reason % 16 * 16 + bitAt s.whl.rev 8) 0 s.now

/-- After a change of the local state, a beacon or the captaincy: the combined state is formed and its change acts. A drop that
no local event caused has reason 9h (R367). -/
def State.refollow (s : State) (old : Sync) (reason : Nat) : State :=
  let s1 := s.combine
  s1.syncMoved old (if reason = 0 ∧ old.dropsTo s1.sync = true then 9 else reason)

/-- The local state rises (R64); on entry to FULL the mean ā starts at 0 (R100). -/
def State.syncGain (s : State) (dst : Sync) : State :=
  let s1 : State := { s with whl := { s.whl with sync := dst } }
  (if dst = .full then ({ s1 with prd := { s1.prd with abar := 0 } } : State).setBit Reg.whlEvt 0 8 else s1).refollow s.sync 0

/-- A captain whose local state leaves FULL resigns where an eligible member of rank 1 or 2 exists (R369); a takeover's HALF is carried
while the local state is not NOSYNC (R373, log entry 58). -/
def State.captainDrops (s : State) (dst : Sync) : State :=
  let reserve := s.fab.recs.any fun r => r.elig && decide (r.id ∈ s.fab.members) && (decide (r.rank = 1) || decide (r.rank = 2))
  { s with fab := { s.fab with
      resign := s.fab.resign || (s.fab.capt && decide (s.whl.sync = .full) && decide (dst ≠ .full) && reserve),
      took := s.fab.took && decide (dst ≠ .nosync) } }

/-- The local state drops (R64, R75, R77); the matcher keeps its history, and the rate of R96 is published. -/
def State.syncLose (s : State) (dst : Sync) (reason : Nat) : State :=
  if s.whl.sync = .nosync ∨ s.whl.sync = dst then s
  else
    let m := s.whl.m
    let coast := decide (s.whl.sync = .full) && decide (dst = .nosync) && decide (reason = 2)
    let w : Wheels :=
      if dst = .nosync then { s.whl with
        sync := dst, bad := none, susp := none, phscr := false, camMis := 0,
        ratev := m.per.isSome && m.prev.isSome && !s.prd.noInst, coast := s.whl.coast || coast, tooth := 0, dprev := 0 }
      else { s.whl with sync := dst, phscr := false, camMis := 0 }
    let s1 := ({ s.captainDrops dst with whl := w } : State).refollow s.sync reason
    if dst = .nosync then s1.prdDrop.prdNosync (16 * (s.whl.whl[0].last.getD 0)) m.per m.prev else s1.spoilLearn

/-- A host action drops the sync: reason 5h, or Bh from PROVISIONAL (R76). -/
def State.hostDrop (s : State) : State := s.syncLose .nosync (if s.whl.sync = .provisional then 0xB else 5)

/-! ### Discipline (R361, R363, R364) -/

/-- The captain's angle at a system time, in 1/256 at; both times are counts modulo 2^44. The frame carries no Q: the local Q ends the
quadratic part (log entry 20). -/
def State.captAngle (s : State) (c : CapSeg) (sysT : Nat) : Int :=
  let q := match s.prd.seg with
    | some g => g.q
    | none => 0
  s.segAng ⟨c.θ, 2 ^ 44 + c.t, (c.ω : Rat) / 2 ^ 28, (c.α : Rat) / 2 ^ 40, q, false, 0, c.rev⟩
    (2 ^ 44 + (c.t : Int) + wrapHalf (2 ^ 44) ((sysT : Int) - (c.t : Int))).toNat

/-- The half of a position whose local angle lies nearer to an angle. -/
def State.nearHalf (s : State) (p : Nat) (h : Bool) (θ : Int) : Bool :=
  let d (x : Bool) : Nat := (wrapHalf s.cyc256 (θ - s.toothAng x p)).natAbs
  if d (!h) < d h then !h else h

/-- DTOL in 1/256 at, DOFSK and DIFFN (R380). -/
def State.dTol (s : State) : Nat := max 1 (s.rf Reg.fabAngcfg 0 11 4) * 262144
def State.dofsK (s : State) : Nat := nearer 2 12 (s.rf Reg.fabAngcfg 0 3 0)
def State.diffN (s : State) : Nat := max 1 (s.rf Reg.fabAngcfg 0 15 12)

/-- FAB_ANG_DIFF (R364, R379). -/
def State.angDiff (s : State) (cls : Nat) (d : Int) : State :=
  s.emit cls Kind.fabAngDiff (srcF 0xF) (unsx 16 (clampI (-32768) 32767 (roundQ ((d : Rat) / 262144))))

/-- A disciplined tooth with difference Δ: DOFS moves, DV follows, and a difference beyond DTOL counts (R363, R364). -/
def State.discipline (s : State) (Δ : Int) : State :=
  let first := decide (s.fab.dvN = 0) && !s.fab.dv
  let diff := if first then 0 else Δ - s.fab.dofs
  let n := s.fab.dvN + 1
  let bad := decide (s.dTol < diff.natAbs)
  let s1 : State := { s with fab := { s.fab with
    dofs := if first then Δ else s.fab.dofs + roundQ ((diff : Rat) / 2 ^ s.dofsK)
    dvN := n, dv := s.fab.dv || decide (2 ^ s.dofsK ≤ n), diffRun := if bad then s.fab.diffRun + 1 else 0 } }
  if !bad then s1
  else
    let s2 := (s1.angDiff 0 diff).bump Reg.fabCnt 0 31 16
    if s2.fab.diffRun < s.diffN then s2
    else
      let s3 := s2.angDiff 2 diff
      ({ s3 with fab := { s3.fab with diffstop := true } } : State).refollow s3.sync 0xA

/-- The half of a tooth and the offset that its angle takes over the local one: none on a package alone, DOFS on a captain and in
holdover, the captain's angle otherwise (R363, R366, R373). -/
def State.tiedTooth (s : State) (t p : Nat) (h : Bool) : State × Bool × Int :=
  if !s.fabEn then (s, h, 0)
  else if s.fab.capt then (s, h, s.fab.dofs)
  else if s.fab.csync ≠ .full ∧ s.fab.csync ≠ .provisional then (s, h, 0)
  else
    let pick (θ : Int) : Bool := if s.whl.sync = .tooth then s.nearHalf p h θ else h
    if s.fab.hold.isSome then
      match s.prd.seg with
      | some g => (s, pick (s.segAng g t - s.fab.dofs), s.fab.dofs)
      | none => (s, h, s.fab.dofs)
    else
      match s.fab.seg with
      | none => (s, h, s.fab.dofs)
      | some c =>
        let θ := s.captAngle c (s.sysAt t)
        let h1 := pick θ
        let Δ := wrapHalf s.cyc256 (θ - s.toothAng h1 p)
        (s.discipline Δ, h1, Δ)

/-! ### The pass at a tooth (R124, R125, R128, R361) -/

/-- The captain's segment frame, with t_k laid out as R359 does, which it does not pass on when it comes back (R356, R361; log entry
58). -/
def State.asegSend (s : State) : State :=
  match s.prd.seg with
  | none => s
  | some g =>
    if !(s.fabRuns && s.fab.capt) then s
    else
      let t := timeWord (s.sysAt g.t) + s.sync.code * 2 ^ 44 + bitAt g.rev 46
      let bytes := leBytes 4 (g.θ % s.cyc256).toNat ++ leBytes 6 t ++ leBytes 4 (roundN (g.ω * 2 ^ 28) % 2 ^ 32)
        ++ leBytes 4 (unsx 32 (clampI (-2147483648) 2147483647 (roundQ (g.α * 2 ^ 40)))) ++ leBytes 2 s.fab.sseq
      let s1 := s.broadcast 3 (s.unitFrame 2 bytes)
      { s1 with fab := { s1.fab with seenS := notePassed s.fab.seenS (s.fab.cep, s.fab.sseq), sseq := (s.fab.sseq + 1) % 65536 } }

/-- The horizon end after the tooth at the present position, carried by the tooth's own offset (R124). -/
def State.horizonEnd (s : State) (δ : Int) : Int :=
  let p1 := s.nextPos false s.whl.pos
  let h1 := stepHalf false s.whl.pos p1 s.whl.half
  let p2 := s.nextPos false p1
  (s.toothAng (stepHalf false p1 p2 h1) p2 + δ) % s.cyc256

/-- The captain's segment reaches the fabric ports (R23, R361); one that crosses with a bad residue is absent (R21, R31, R32; log
entry 78). -/
def State.asegFlush (s : State) : State :=
  match s.fab.asegDue with
  | some d =>
    if s.now < d then s
    else
      let bad := decide (srcF 0xF ∈ s.inj.residue)
      let s1 : State := { s with fab := { s.fab with asegDue := none }, inj := { s.inj with residue := s.inj.residue.erase (srcF 0xF) } }
      if bad then s1 else s1.asegSend
  | none => s

/-- The pass of an accepted or dowel tooth published at TCLK pub; θ is the tooth's angle, δ its offset (R124, R125, R128). The
segment reaches the fabric ports 4 TCLK after the publication (R23). -/
def State.toothPass (s : State) (θ δ : Int) (pub : Nat) : State :=
  let s1 : State := if s.fabRuns && s.fab.capt then { s with fab := { s.fab with asegDue := some (pub + 4) } } else s
  let open_ := !s1.whl.rev && s1.whl.ratev && s1.angValid
  if !open_ then s1
  else
    let s2 : State := if s1.edg.heOld.isNone || s1.edg.reopen then { s1 with
        edg := { s1.edg with heOld := some θ, reopen := false }, take := s1.take.map fun k => { k with he := some θ } } else s1
    let (s3, bad) := s2.pass pub (s2.horizonEnd δ)
    bad.foldl (fun (t : State) w => t.pegResFail w) s3

end Sys2Proof.Machine
end

