-- ==== Sys2Proof/Machine/Wheels.lean ====
section
/-! DEFINITION. The wheel inputs: the matcher, the judgement of each tooth, cam phase, reverse, coast and quick start (chapter
Wheel Inputs and Synchronisation), and the predictor's failures. -/

namespace Sys2Proof.Machine

/-- SOURCE of the wheel logic: an input, or Fh for the sync logic (R412). -/
def srcW (unit : Nat) : Nat := srcC 0 9 unit

/-- Change the wheel logic. -/
def State.setWhl (s : State) (f : Wheels → Wheels) : State := { s with whl := f s.whl }

/-- What the passing of time brings: pegs kept out of the horizon in PROVISIONAL are passed (R86), a captain's segment reaches the
fabric ports (R23), and the windows' grid angles are placed (R262). -/
def State.caughtUp (s : State) : State := s.provPass.asegFlush.windowsNow

/-- The AUX input that is a wheel's phase channel: AUX0 for WHL0, AUX1 for WHL1, while its EN is 1 (R53). -/
def State.phaseAux (s : State) (n : Fin 3) : Option (Fin 2) :=
  if h : n.val < 2 then
    if s.rf Reg.whlxCfg n 19 18 = 2 ∧ s.rb Reg.auxCfg n.val 0 then some ⟨n.val, h⟩ else none
  else none

/-- Filter time of a wheel input in TCLK; a tooth waits for the qualification of its phase channel where that takes longer (R50,
R53). -/
def State.fltOf (s : State) (n : Fin 3) : Nat :=
  match s.phaseAux n with
  | some m => max (s.rf Reg.whlxCfg n 17 8) (s.rf Reg.auxCfg m.val 17 8)
  | none => s.rf Reg.whlxCfg n 17 8

/-- DIRMODE of a wheel decodes a direction: pulse width, or a phase channel (R53). -/
def State.dirDecoded (s : State) (n : Fin 3) : Bool := decide (s.rf Reg.whlxCfg n 19 18 = 1) || (s.phaseAux n).isSome

/-- The phase channel of a wheel has its qualified level at the tooth's timestamp. -/
def State.phaseLevel (s : State) (n : Fin 3) (lvl : Bool) : State :=
  match s.phaseAux n with
  | some m => s.setWhl fun w => { w with aux := upd w.aux m fun x => { x with level := lvl } }
  | none => s

/-- The direction in which an edge is processed: a phase channel is low in forward rotation, high with DIRPOL = 1; with a
pulse-width sensor it is the previous tooth's (R53, R54). -/
def State.edgeRev (s : State) (n : Fin 3) : Bool :=
  match s.phaseAux n with
  | some m => s.whl.aux[m].level != s.rb Reg.whlxCfg n 20
  | none => decide (s.rf Reg.whlxCfg n 19 18 = 1) && s.whl.whl[n].dir

/-- A pulse of this width, in TCLK, is that of a reverse tooth (R53). -/
def State.widthRev (s : State) (n : Fin 3) (width : Nat) : Bool :=
  decide (width < s.rf Reg.whlxDir n 19 0) == s.rb Reg.whlxCfg n 20

/-- A qualified active edge at a wheel-class input: its period (R55, R56). -/
def WheelIn.edge (x : WheelIn) (ts : Nat) (rev : Bool) : WheelIn :=
  match x.last with
  | some l => { x with last := some ts, per := min (ts - l) 0x3FFFFFFF, val := true, dir := rev }
  | none => { x with last := some ts, dir := rev }

/-- The timestamp of an edge lies after that of the one before. -/
def WheelIn.after (x : WheelIn) (ts : Nat) : Bool :=
  match x.last with
  | some l => decide (l < ts)
  | none => true

/-! ### The matcher (R65) -/

/-- The matcher takes an edge with its period; a change of direction restarts it. -/
def State.matchStep (s : State) (m : Matcher) (rev : Bool) (d : Option Nat) : Matcher :=
  match d with
  | none => { m with rev := rev }
  | some d =>
    if rev ≠ m.rev then { Matcher.empty with rev := rev }
    else
      match m.per with
      | none => { m with per := some d }
      | some q =>
        let r : Rat := if q = 0 then 0 else (d : Rat) / (q : Rat)
        let fits (p : Nat) : Bool := s.ratioFits r (s.expRatio rev p)
        let go := (m.cands.map (s.nextPos rev)).filter fits
        if m.ratios = 0 ∨ go = [] then { m with cands := s.present.filter fits, ratios := 1, per := some d, prev := some q }
        else { m with cands := go, ratios := m.ratios + 1, per := some d, prev := some q }

/-- The unique position, if the matcher has found one. -/
def Matcher.unique (m : Matcher) : Option Nat :=
  match m.cands with
  | [p] => if 2 ≤ m.ratios then some p else none
  | _ => none

/-! ### Small steps -/

/-- The TOOTH cue of a tooth at position p in half h (R64, R162). -/
def State.toothCue (s : State) (p : Nat) (h dowel : Bool) : State :=
  s.cueAll 20 (p % 1024 + bitAt h 10 + bitAt dowel 11) 0 s.now

/-- HALF over a step; a two-stroke engine has one revolution per cycle. -/
def State.halfStep (s : State) (rev : Bool) (p q : Nat) (h : Bool) : Bool :=
  if s.rb Reg.whlSyncCfg 0 0 then false else stepHalf rev p q h

/-- The tooth that an edge crosses next from a position: the one ahead of it, and in reverse its own, which the position then leaves
(R78, R82; log entry 79). -/
def State.crossing (s : State) (rev : Bool) (p : Nat) (h : Bool) : Nat × Bool :=
  if rev then (p, h) else (s.nextPos false p, s.halfStep false p (s.nextPos false p) h)

/-- The position once a tooth has been crossed: that tooth, and in reverse the one before it. -/
def State.crossed (s : State) (rev : Bool) (c : Nat) (h : Bool) : Nat × Bool :=
  if rev then (s.nextPos true c, s.halfStep true c (s.nextPos true c) h) else (c, h)

/-- The tooth crossed last. -/
def State.lastCrossed (s : State) : Nat × Bool :=
  if s.whl.rev then (s.nextPos false s.whl.pos, s.halfStep false s.whl.pos (s.nextPos false s.whl.pos) s.whl.half)
  else (s.whl.pos, s.whl.half)

/-- The crank crosses the pitch from one tooth angle to another in a direction (R166). -/
def State.crossPitch (s : State) (rev : Bool) (x y : Int) : State :=
  let p := s.pitchTo rev x y
  { s with prd := { s.prd with run := if rev then s.prd.run - p else s.prd.run + p } }

/-- A tooth decoded in another direction than the one in force (R78, R79, R84, R125, R264). -/
def State.turn (s : State) (rev : Bool) : State :=
  if rev = s.whl.rev then s
  else if rev then
    let s1 := (s.setWhl fun w => { w with rev := true, fwd := 0 }).winAbortAll
    let s2 := ((s1.setBit Reg.whlEvt 0 7).emit 1 Kind.reverse (srcW 0xF) 0).reversePegs
    let s3 : State := { s2 with edg := { s2.edg with heOld := none } }
    if s3.whl.sync = .provisional then s3.syncLose .nosync 6 else s3
  else s.setWhl fun w => { w with rev := false, fuelSup := true, fwd := 0 }

/-- A bad tooth (R71, R76, R84, R102). -/
def State.badTooth (s : State) (dowel : Bool) (p : Nat) : State :=
  let s1 := if dowel then (s.bump Reg.whlCnt 0 15 0).setBit Reg.whlEvt 0 1 else (s.bump Reg.whlCnt 0 31 16).setBit Reg.whlEvt 0 0
  let s2 := (s1.emit 0 Kind.badTooth (srcW 0xF) (p % 1024)).spoilLearn
  if s2.whl.sync = .provisional then s2.syncLose .nosync (if dowel then 2 else 1)
  else
    match s2.whl.bad with
    | some b => s2.syncLose .nosync (if dowel && b.dowel then 2 else 1)
    | none => s2.setWhl fun w => { w with bad := some ⟨dowel, max 2 (s.rf Reg.whlThr 0 8 4)⟩ }

/-- The window of R71 counts an accepted tooth. -/
def State.badCount (s : State) : State :=
  match s.whl.bad with
  | some b => s.setWhl fun w => { w with bad := if b.left ≤ 1 then none else some { b with left := b.left - 1 } }
  | none => s

/-- The forward teeth of R79. A bad tooth or a loss of sync between two forward teeth does not begin the count anew: only a reverse
tooth does (DESIGN CHOICE, log entry 80). -/
def State.fwdCount (s : State) : State :=
  if !s.whl.fuelSup || s.whl.rev then s
  else
    let n := s.whl.fwd + 1
    let done := decide (max 1 (s.rf Reg.whlSyncCfg 0 23 20) ≤ n)
    s.setWhl fun w => { w with fwd := if done then 0 else n, fuelSup := !done }

/-! ### Accepted teeth (R64, R68, R73, R84, R91, R102 to R104, R128) -/

/-- Confirmation or contradiction of a quick start at an accepted tooth (R84, R86). Of several contradictions at one tooth the reason given
is 3h before 5h before 4h, and a drop stays in NOSYNC until the next edge also where the matcher is unique (DESIGN CHOICE, log entry
93). -/
def State.provTooth (s : State) (unique : Option Nat) : State :=
  let other := match unique with
    | some p => decide (p ≠ s.whl.pos)
    | none => false
  if other then s.syncLose .nosync 5
  else if s.present.length + s.rf Reg.whlThr 0 23 16 < s.whl.provEdges then s.syncLose .nosync 4
  else if unique.isSome then
    ((s.setWhl fun w => { w with phscr := !s.rb Reg.whlSyncCfg 0 0 }).setBit Reg.whlEvt 0 3).syncGain .full
  else s

/-- An accepted tooth reads the pattern and the map word of its position under their checks (R31, R57, R101). -/
def State.toothWords (s : State) (p : Nat) : State :=
  ((s.checkedAt (Reg.whlxPat.addr 0 p)).1.checkedAt (Reg.toothmap.addr p 0)).1

/-- The edge at instant t (vernier steps) is accepted as the tooth p in half h; last: no further edge is judged in this TCLK, and the
tooth is none that was held as a suspect (R71). The tooth of a change of direction ends no period of one direction, so it gives no
measured ratio (R65, R73; log entry 79). A revolution whose opening gap end itself confirms a quick start is not FULL from its opening
(DESIGN CHOICE, log entry 81). -/
def State.acceptTooth (s : State) (t p : Nat) (h rev : Bool) (unique : Option Nat) (last : Bool) (pub : Nat) : State :=
  let m := t - s.whl.tooth
  let gap := s.gapEnd rev p
  let turned := s.turnedAt rev
  let c := s.lastCrossed
  let before := s.toothAng s.whl.half s.whl.pos
  let x := s.crossed rev p h
  let s0 := (s.setWhl fun w => { w with
    pos := x.1, half := x.2, coastPos := x.1, coastHalf := x.2, coastRev := rev, coastDirk := s.dirDecoded 0 }).toothCue p h false
  let s1 := if last then s0.badCount else s0
  let gapOk := !gap || turned || decide (s.whl.dprev = 0) || s.ratioFits ((m : Rat) / (s.whl.dprev : Rat)) (s.expRatio rev p)
  if !gapOk then (s1.setBit Reg.whlEvt 0 5).syncLose .nosync 3
  else
    let s2 := (s1.freshWords.mapApply.toothWords p).prdInstances
    let (s3, h1, δ) := s2.tiedTooth t p h
    let s3' := if turned then s3 else s3.crossPitch rev (s3.toothAng c.2 c.1) (s3.toothAng h p)
    let s4 := (if h1 = h then s3' else s3'.prdOtherHalf).setWhl fun w => { w with
      half := (s3.crossed rev p h1).2, tooth := t, dprev := if turned then 0 else m }
    let θ := s4.toothAng h1 p
    let second := decide (s4.prd.stage ≠ .running)
    let s5 := s4.prdTooth t θ δ (s4.nextPitch rev h1 p) (s4.expRatio rev (s4.nextPos rev p)) rev pub
    let s6 := if second then (s5.setWhl fun w => { w with ratev := true }).refollow s5.sync 0 else s5
    let s7 := (s6.fwdCount.gainLearn).mapLearn p (s6.pitchTo rev before θ) m ((θ + δ) % s6.cyc256) s6.whl.fuelSup
    let s8 := if gap && decide (s7.whl.sync = .full) then s7.sealGather 3 (fun _ => true) 1 else s7
    let s9 := s8.provTo ((θ + δ) % s8.cyc256)
    let s10 := if s9.whl.sync = .provisional then s9.provTooth unique else s9
    if s10.whl.sync = .nosync ∨ !last then s10 else s10.toothPass ((θ + δ) % s10.cyc256) δ pub

/-- An edge in PROVISIONAL, TOOTH or FULL (R68, R69). Where neither hypothesis holds, the note of the second bad tooth names the
present position after the expected one (DESIGN CHOICE, log entry 80). -/
def State.edgePlaced (s0 : State) (t : Nat) (rev : Bool) (unique : Option Nat) (pub : Nat) : State :=
  let s := if s0.whl.sync = .provisional then s0.setWhl fun w => { w with provEdges := w.provEdges + 1 } else s0
  let (p, h) := s.crossing rev s.whl.pos s.whl.half
  let q := if s.prd.stage = .running then s.qNew else none
  let fits (m : Nat) : Bool := match q with
    | some q => passes m q
    | none => true
  match s.whl.susp with
  | none =>
    if fits (t - s.whl.tooth) then s.acceptTooth t p h rev unique true pub
    else if s.whl.sync = .provisional then s.badTooth false p
    else (s.setWhl fun w => { w with susp := some t }).spoilLearn
  | some x =>
    let s1 := s.setWhl fun w => { w with susp := none }
    if fits (t - s.whl.tooth) then
      let s2 := s1.badTooth false p
      if s2.whl.sync = .nosync then s2 else s2.acceptTooth t p h rev unique true pub
    else
      let p2 := s.nextPos rev p
      let h2 := s.halfStep rev p p2 h
      let m1 := x - s.whl.tooth
      let real := match q with
        | some q => passes m1 (roundN ((q : Rat) / s.expRatio rev p)) && passes (t - x) (roundN ((m1 : Rat) * s.expRatio rev p2))
        | none => false
      let s2 := s1.badTooth false p
      if s2.whl.sync = .nosync then s2
      else if real then
        let s3 := s2.acceptTooth x p h rev none false pub
        if s3.whl.sync = .nosync then s3 else s3.acceptTooth t p2 h2 rev unique true pub
      else s2.badTooth false p2

/-! ### Edges in NOSYNC (R64, R65, R77, R83, R95, R96) -/

/-- A scribe record may start a quick start (R83). -/
def State.scribeUsable (s : State) (r : Scribe) : Bool :=
  s.rb Reg.whlSyncCfg 0 3 && r.valid && (r.dirk || s.rb Reg.whlSyncCfg 0 4)

/-- NEXTPOS advanced by EDGES present positions, with HALF carried. -/
def State.scribeAdvance (s : State) : Nat → Nat × Bool → Nat × Bool
  | 0, x => x
  | n + 1, (p, h) =>
    let q := s.nextPos false p
    s.scribeAdvance n (q, s.halfStep false p q h)

/-- PROVISIONAL begins at the first qualified edge after a wake, with the record r; that edge raises the TOOTH cue (R64, R83; log entry
93). -/
def State.quickStart (s0 : State) (r : Scribe) (t : Nat) (rev : Bool) (pub : Nat) : State :=
  let s := s0.freshWords
  let (p, h) := s.scribeAdvance r.edges (r.nextpos, r.half)
  let s1 := s.setWhl fun w => { w with
    pos := p, half := h, tooth := t, dprev := 0, ratev := false, provEdges := 1, provAng := none, coastPos := p, coastHalf := h,
    coastRev := rev, coastDirk := s.dirDecoded 0, bad := none, susp := none }
  let s2 := ((s1.prdFirst t (some (s1.toothAng h p)) 0 rev pub).syncGain .provisional).toothCue p h false
  let s3 := s2.provTo (s2.toothAng h p)
  if rev then s3.syncLose .nosync 6 else s3

/-- The matcher found the position in NOSYNC, at an edge that raises the TOOTH cue (DESIGN CHOICE, log entry 93): its newest period makes
this edge the second edge of R95, and the first one where the predictor starts only now (R108). -/
def State.matched (s00 : State) (t p : Nat) (rev : Bool) (pub : Nat) : State :=
  let s := (s00.freshWords.toothWords p).prdInstances
  let q := s.nextPos (!rev) p
  let starts := decide (s.prd.stage = .none)
  let per := 16 * (s.whl.m.per.getD 0)
  let x (t : State) (h : Bool) : Nat × Bool := t.crossed rev p h
  let s1 := s.setWhl fun w => { w with
    pos := (x s false).1, half := (x s false).2, tooth := t, dprev := per, ratev := !starts, coast := false, coastPos := (x s false).1,
    coastHalf := (x s false).2, coastRev := rev, coastDirk := s.dirDecoded 0, bad := none, susp := none }
  let s2 := s1.syncGain (if s.rb Reg.whlSyncCfg 0 0 then .full else .tooth)
  let (s3, h, δ) := s2.tiedTooth t p false
  let s4 := s3.setWhl fun w => { w with half := (x s3 h).2 }
  let θ := s4.toothAng h p
  let back := s4.pitchTo rev (s4.toothAng (s4.halfStep (!rev) p q h) q) θ
  let e := s4.expRatio rev (s4.nextPos rev p)
  let s4' := if starts then s4.prdFirst t (some θ) δ rev pub else s4.prdSecond t θ δ back (s4.nextPitch rev h p) e rev pub
  let opens := decide (p = 0) && !rev
  let s5 := ({ s4' with prd := { s4'.prd with
    learn := [], learnOpen := opens, learnOk := opens && decide (s4'.whl.sync = .full) && !s4'.whl.fuelSup } } : State).toothCue p h false
  s5.toothPass ((θ + δ) % s5.cyc256) δ pub

/-- An edge in NOSYNC; the first one after a wake reads the scribe record, as it has crossed to the wheel logic, under its check (R21,
R83, R459). While no predictor is active
the sync state stays so (R77, R108). -/
def State.edgeLost (u : State) (t : Nat) (rev : Bool) (unique : Option Nat) (pub : Nat) : State :=
  let s0 := if u.whl.firstAfterWake then u.scribeCheck else u
  let r := u.scribeView
  let quick := s0.whl.firstAfterWake && decide (u.eccOf Reg.scribe.base 0 ≠ 2) && s0.scribeUsable r
  let s := if s0.whl.firstAfterWake then
      (s0.scribePut fun r => { r with valid := false }).setWhl fun w => { w with firstAfterWake := false }
    else s0
  if quick && !s.prd.noInst then s.quickStart r t rev pub
  else
    let s1 := if !s.whl.coast then s
      else
        let q := s.nextPos rev s.whl.coastPos
        s.setWhl fun w => { w with
          coastPos := q, coastHalf := s.halfStep rev w.coastPos q w.coastHalf, coastRev := rev,
          coastDirk := w.coastDirk && s.dirDecoded 0 }
    match unique with
    | some p =>
      if s.prd.noInst then s1.setWhl fun w => { w with coast := false } else s1.matched t p rev pub
    | none =>
      (s1.setWhl fun w => { w with ratev := w.m.per.isSome && w.m.prev.isSome && !s.prd.noInst }).prdNosync t s1.whl.m.per s1.whl.m.prev

/-! ### The commands of the crank input -/

/-- A qualified WHL0 edge with timestamp ts and the phase channel's level at it (R23, R50, R53, R63, R65). -/
def State.crankEdge (s0 : State) (ts : Nat) (lvl : Bool) : State :=
  let x := s0.whl.whl[0]
  if !s0.wheelsRun || !s0.rb Reg.whlxCfg 0 0 || !x.after ts then s0
  else
    let s := ((s0.advanceTo (ts + s0.fltOf 0 + 12)).caughtUp).phaseLevel 0 lvl
    let rev := s.edgeRev 0
    let m := s.matchStep s.whl.m rev (x.last.map fun l => ts - l)
    let s1 := (s.setWhl fun w => { w with whl := upd w.whl 0 fun y => y.edge ts rev, m := m }).turn rev
    let pub := ts + s0.fltOf 0 + 32
    if s1.whl.sync = .nosync then s1.edgeLost (16 * ts) rev m.unique pub else s1.edgePlaced (16 * ts) rev m.unique pub

/-- The crank tooth at the last active edge is re-labelled as crossed in a direction (R54): two positions from where it was put, and
the predictor restarts at it (R77, R95). A pending suspect has no position yet: only its direction and the matcher change, and the
predictor goes on (DESIGN CHOICE, log entry 80). -/
def State.relabel (s : State) (l : Nat) (rev : Bool) : State :=
  let s1 := (s.setWhl fun w => { w with
    whl := upd w.whl 0 fun y => { y with dir := rev }, m := { Matcher.empty with rev := rev } }).turn rev
  let one (x : Nat × Bool) : Nat × Bool := (s1.nextPos rev x.1, s1.halfStep rev x.1 (s1.nextPos rev x.1) x.2)
  let two (p : Nat) (h : Bool) : Nat × Bool := one (one (p, h))
  if s1.whl.sync = .nosync then
    let c := two s1.whl.coastPos s1.whl.coastHalf
    (s1.setWhl fun w => { w with
      ratev := false, coastPos := if w.coast then c.1 else w.coastPos, coastHalf := if w.coast then c.2 else w.coastHalf,
      coastRev := if w.coast then rev else w.coastRev }).prdNosync (16 * l) none none
  else if s1.whl.susp.isSome then s1
  else
    let (p, h) := two s1.whl.pos s1.whl.half
    let s2 := (s1.setWhl fun w => { w with
      pos := p, half := h, ratev := false, dprev := 0, coastPos := p, coastHalf := h, coastRev := rev }).spoilTurn
    let was := s.lastCrossed
    let c := s2.lastCrossed
    let s3 := s2.crossPitch rev (s2.toothAng was.2 was.1) (s2.toothAng c.2 c.1)
    (s3.prdFirst s2.whl.tooth (some (s2.toothAng c.2 c.1)) 0 rev s2.now).refollow s1.sync 0

/-- The pulse that began at the last active edge of a wheel ends after width TCLK (R53, R54): with DIRMODE 01b its width decodes
the direction of that edge; a crank tooth is re-labelled where it differs. -/
def State.pulseEnd (s0 : State) (n : Fin 3) (width : Nat) : State :=
  let x := s0.whl.whl[n]
  let rev := s0.widthRev n width
  match x.last with
  | none => s0
  | some l =>
    if !s0.wheelsRun || !s0.rb Reg.whlxCfg n 0 || decide (s0.rf Reg.whlxCfg n 19 18 ≠ 1) then s0
    else
      let s := (s0.advanceTo (l + width + s0.fltOf n + 8)).caughtUp
      if x.dir = rev then s
      else if n = 0 then s.relabel l rev
      else s.setWhl fun w => { w with whl := upd w.whl n fun y => { y with dir := rev } }

/-- The dowel deadline passes (R70, R71, R72, R95). The dowel tooth ends a period, Q, for the measured ratio of a gap check that follows
(DESIGN CHOICE, log entry 93). -/
def State.dowelTooth (s0 : State) : State :=
  if !s0.wheelsRun || decide (s0.whl.sync = .nosync) || decide (s0.prd.stage ≠ .running) then s0
  else
    match s0.qNew with
    | none => s0
    | some q =>
      let k := 20 + min 12 (s0.rf Reg.whlThr 0 3 0)
      let dl := (16 * s0.whl.tooth + k * q + 255) / 256
      let s := (s0.advanceTo dl).caughtUp
      let rev := s.whl.rev
      let (p, h) := s.crossing rev s.whl.pos s.whl.half
      let s1 := if s.whl.susp.isSome then (s.setWhl fun w => { w with susp := none }).badTooth false p else s
      if s1.whl.sync = .nosync then s1
      else
        let s2 := (s1.toothCue p h true).badTooth true p
        if s2.whl.sync = .nosync then s2
        else
          let t := s2.whl.tooth + q
          let (s3, h1, δ) := s2.tiedTooth t p h
          let x := s3.crossed rev p h1
          let c := s2.lastCrossed
          let s3' := s3.crossPitch rev (s3.toothAng c.2 c.1) (s3.toothAng h p)
          let s4 := (if h1 = h then s3' else s3'.prdOtherHalf).setWhl fun w => { w with pos := x.1, half := x.2, tooth := t, dprev := q }
          let θ := s4.toothAng h1 p
          let s5 := s4.prdDowel t ((θ + δ) % s4.cyc256) (s4.nextPitch rev h1 p) (dl + 20)
          let s6 := if p = 0 ∧ !rev then (s5.revClose θ).spoilLearn else s5
          s6.toothPass ((θ + δ) % s6.cyc256) δ (dl + 20)

/-- The scribe record at the end of coast tracking: the position after the tracked one, which after a reverse edge is that of the
tooth it crossed (R81, R82; log entry 79); DIRK counts the edges of the coast and the tooth at which it began (log entry 93). -/
def State.scribeWrite (s : State) : State :=
  let w := s.whl
  let q := s.nextPos false w.coastPos
  s.scribePut fun r => { r with
    nextpos := q, half := s.halfStep false w.coastPos q w.coastHalf, dirk := w.coastDirk, valid := true }

/-- No qualified WHL0 edge for STOPMS (R64, R77, R82). -/
def State.stopTimeout (s0 : State) : State :=
  match s0.whl.whl[0].last with
  | none => s0
  | some l =>
    if !s0.wheelsRun || (decide (s0.whl.sync = .nosync) && !s0.whl.coast) then s0
    else
      let s := (s0.advanceTo (l + nearer 100 4000 (s0.rf Reg.whlStop 0 11 0) * 250000)).caughtUp.syncLose .nosync 4
      if s0.whl.coast then s.scribeWrite.setWhl fun w => { w with coast := false } else s

/-! ### Cam phase (R66, R67) -/

/-- The wheel that is the phase source; none without one (R88). -/
def State.phaseWheel (s : State) : Option (Fin 3) :=
  match s.rf Reg.whlSyncCfg 0 2 1 with
  | 1 => some 1
  | 2 => some 2
  | _ => none

/-- The cam entries' ANGLE values. -/
def State.camEntries (s : State) (n : Fin 3) : List Nat :=
  ((List.range (s.patN n)).filter (s.patPresent n)).map (s.patAng n)

/-- CAMTOL in 1/256 at: 1/16 °CA is 1,024 at. -/
def State.camTol (s : State) : Int := ((max 1 (s.rf Reg.whlSyncCfg 0 15 8) * 262144 : Nat) : Int)

/-- A decisive edge at ANG angle x: the HALF of the revolution in which it falls (R66). -/
def State.camHalf (s : State) (n : Fin 3) (x : Int) : Option Bool :=
  let off : Int := 256 * (s.rf Reg.whl0Zero 0 23 0 : Int)
  let rev : Int := 256 * 0x5A0000
  let near := (s.camEntries n).filter fun a =>
    decide (((wrapHalf rev (x - off - (256 * (a : Int) - off))).natAbs : Int) ≤ s.camTol)
  match near with
  | [a] => some (decide (rev ≤ (256 * (a : Int) - off) % (2 * rev)))
  | _ => none

/-- The HALF of the edge's revolution, counted from position 0, carried to the tooth crossed last and to the position (R66): the edge
lies d away from the tooth's learned angle. -/
def State.carryHalf (s : State) (d : Int) (h : Bool) : Bool :=
  let c := s.lastCrossed.1
  let y : Int := 256 * (s.patAng 0 c : Int) + 16 * s.corr c + d
  let h1 := if y < 0 ∨ 256 * 0x5A0000 ≤ y then !h else h
  if s.whl.rev then s.halfStep true c s.whl.pos h1 else h1

/-- A wheel's pattern words are read under their checks (R31, R57). -/
def State.patWords (s : State) (n : Fin 3) : State :=
  (List.range (s.patN n)).foldl (fun (t : State) p => (t.checkedAt (Reg.whlxPat.addr n p)).1) s

/-- In FULL an edge at ANG angle x that finds HALF to be half is compared with the full-cycle values (R64, R67, R84). -/
def State.camCompare (s : State) (n : Fin 3) (x : Int) (half : Option Bool) : State :=
  let fits := (s.camEntries n).any fun a => decide (((wrapHalf s.cyc256 (x - 256 * (a : Int))).natAbs : Int) ≤ s.camTol)
  let k := if fits then 0 else s.whl.camMis + 1
  let s1 := if fits then s else (s.setBit Reg.whlEvt 0 6).emit 1 Kind.camMismatch (srcW n.val) 0
  let s2 := s1.setWhl fun w => { w with camMis := k }
  if s.whl.phscr && decide (half = some (!s.whl.half)) then s2.syncLose .tooth 7
  else
    let s3 := s2.setWhl fun w => { w with phscr := w.phscr && half.isNone }
    if max 1 (s.rf Reg.whlSyncCfg 0 19 16) ≤ k then s3.syncLose .tooth 6 else s3

/-- A qualified edge of a cam wheel with the phase channel's level at it: its period, and for the phase source its phase (R53, R55,
R66, R67, R84). A two-stroke engine has one revolution per cycle, so HALF stays 0. -/
def State.camEdge (s0 : State) (n : Fin 3) (ts : Nat) (lvl : Bool) : State :=
  if !s0.wheelsRun || !s0.rb Reg.whlxCfg n 0 || !(s0.whl.whl[n]).after ts then s0
  else
    let s1 := ((s0.advanceTo (ts + s0.fltOf n + 8)).caughtUp).phaseLevel n lvl
    let s2 := s1.setWhl fun w => { w with whl := upd w.whl n fun y => y.edge ts (s1.edgeRev n) }
    if s2.phaseWheel ≠ some n then s2
    else
      let s := s2.patWords n
      match s.segAt ts with
      | none => s
      | some g =>
        let x := s.segAng g (16 * ts)
        let θ := ((s.prd.seg).getD g).θ
        let half := if s.rb Reg.whlSyncCfg 0 0 then (s.camHalf n x).map fun _ => false
          else (s.camHalf n x).map (s.carryHalf (wrapHalf s.cyc256 (x - θ)))
        match s.whl.sync with
        | .tooth =>
          match half with
          | some h =>
            let s3 := if h = s.whl.half then s else s.prdTurn
            (s3.setWhl fun w => { w with half := h, coastHalf := h, camMis := 0 }).syncGain .full
          | none => s
        | .full => s.camCompare n x half
        | _ => s

/-- A whole cycle passes in FULL with no cam edge (R67). -/
def State.camMissing (s : State) : State :=
  match s.phaseWheel with
  | some n =>
    if s.wheelsRun && decide (s.whl.sync = .full) then s.emit 1 Kind.camMissing (srcW n.val) 0 else s
  | none => s

/-- A qualified active edge of an AUX input (R56). -/
def State.auxEdge (s0 : State) (m : Fin 2) (ts : Nat) : State :=
  if !s0.wheelsRun || !s0.rb Reg.auxCfg m.val 0 || !(s0.whl.aux[m]).after ts then s0
  else
    let up (x : WheelIn) : WheelIn := { x.edge ts false with cnt := x.cnt + 1 }
    (s0.advanceTo (ts + s0.rf Reg.auxCfg m.val 17 8 + 8)).setWhl fun w => { w with aux := upd w.aux m up }

/-! ### Enabling a wheel (R60, R461) -/

/-- The first failed check of a wheel's pattern with its position (R60). -/
def State.patternFault (s : State) (n : Fin 3) : Option (Nat × Nat) :=
  let c := s.patN n
  let span := if s.rb Reg.whlxPatcfg n 10 then 0xB40000 else 0x5A0000
  match (List.range c).find? fun p => decide (0 < p) && decide (s.patAng n p ≤ s.patAng n (p - 1)) with
  | some p => some (1, p)
  | none =>
    match (List.range c).find? fun p => decide (span ≤ s.patAng n p) with
    | some p => some (2, p)
    | none =>
      let pres := (List.range c).filter (s.patPresent n)
      let distinct := pres.any fun p => pres.all fun q => decide (q = p) || !s.ratioFits (s.expRatio false q) (s.expRatio false p)
      if pres = [] then some (3, 0)
      else if n = 0 ∧ !(s.patPresent 0 0 && decide (s.patAng 0 0 = 0)) then some (4, 0)
      else if n = 0 ∧ !distinct then some (5, 0)
      else if !s.rb Reg.whlSyncCfg 0 0 && s.phaseWheel.isNone then some (6, 0)
      else none

/-- The check of one wheel. -/
def State.patternCheck (s : State) (n : Fin 3) : State :=
  if !s.rb Reg.whlxCfg n 0 then s
  else
    match s.patternFault n with
    | none => s
    | some (k, p) => (s.setRf Reg.whlxCfg n 0 0 0).emit 1 Kind.patternBad (srcW n.val) (p % 1024 + k * 1024)

/-- What a write of WHLn_CFG does once the word is stored; was: EN before it, was0: that of WHL0 (R60, R64, R461). WHL0's EN may
fall to its own write or to a failed check. -/
def State.whlCfgWritten (s : State) (n : Fin 3) (was was0 : Bool) : State :=
  let en := s.rb Reg.whlxCfg n 0
  let s0 := if en && !was then (List.finRange 3).foldl (fun (t : State) (k : Fin 3) => if t.rb Reg.whlxCfg k 0 then (t.patWords k).patternCheck k else t) s else s
  let s1 := if was0 && !s0.rb Reg.whlxCfg 0 0 then s0.hostDrop else s0
  if s1.rb Reg.whlxCfg 0 0 then { s1 with ao := { s1.ao with counting := false } } else s1

/-! ### Predictor checks (R104, R107 to R109) -/

/-- An instance is retired; A is false, B true. An exchange that is pending is cancelled (DESIGN CHOICE, log entry 91). -/
def State.prdRetire (s : State) (b : Bool) : State :=
  let i : Fin 2 := if b then 1 else 0
  { s with prd := { s.prd.owed with
    retA := s.prd.retA || !b, retB := s.prd.retB || b, retN := upd s.prd.retN i (· + 1), chkon := false, exchange := false } }

/-- SOURCE of a predictor instance (R412). -/
def srcP (b : Bool) : Nat := srcC 0 0xA (if b then 1 else 0)

/-- No instance is left: the sync drops with reason 8h, and no valid value is published (R108). -/
def State.prdNone (s : State) : State :=
  let t := ({ s with prd := { s.prd with noInst := true, rate := 0 } } : State).setWhl fun w => { w with ratev := false }
  t.syncLose .nosync 8

/-- A residue check or comparison fails (R108). Where both residues fail, PRED_FAIL names the instance that was active (DESIGN
CHOICE, log entry 81). An instance that passed its over and waits for its reload is no checker, and a PRED_DISAGREE of any comparison
discards a map update that is pending (DESIGN CHOICE, log entry 91). -/
def State.prdCheckFail (s : State) (actBad chkBad : Bool) : State :=
  let a := s.prd.act
  if s.prd.noInst then s
  else if actBad && (chkBad || !s.prd.chkon) then
    let s1 := s.prdRetire a
    let s2 := if chkBad && s.prd.chkon then s1.prdRetire (!a) else s1
    s2.prdNone.emit 2 Kind.predFail (srcP a) 0
  else if actBad then
    let s1 := s.prdRetire a
    ({ s1 with prd := { s1.prd with act := !a } } : State).emit 1 Kind.predSwap (srcP a) 0
  else if !s.prd.chkon then s
  else if chkBad then (s.prdRetire (!a)).emit 1 Kind.predChkFail (srcP (!a)) 0
  else
    ({ s with prd := { s.prd with noLearn := 2, learnOk := false, shadow := none, shadowDone := false } } : State).emit 2
      Kind.predDisagree (srcP a) 0

/-- The shadow map is complete and equal in both instances (R104). -/
def State.mapShadowDone (s : State) : State :=
  if s.prd.shadow.isSome then { s with prd := { s.prd with shadowDone := true } } else s

/-- Host writes to the map, and CLEAR, take effect only in NOSYNC or while FREEZE = 1 (R105). -/
def State.mapWritable (s : State) : Bool := decide (s.whl.sync = .nosync) || s.rb Reg.prdMapCtl 0 0

/-- Host writes to the gains take effect only while GLRN_EN = 0 or FREEZE = 1 (R100), GLRN_EN as it is written, though the model takes
it up at the next accepted tooth only (R115; DESIGN CHOICE, log entry 91). -/
def State.gainWritable (s : State) : Bool := !s.rb Reg.prdCfg 0 2 || s.rb Reg.prdMapCtl 0 0

/-- CLEAR sets every CORR and CONF to 0 (R105). -/
def State.mapClear (s : State) : State :=
  (List.range 1024).foldl (fun (t : State) i =>
    ((if t.rg Reg.toothmap i = 0 then t else t.holdWord Reg.toothmap i).setRg Reg.toothmap i 0 0).unflip (Reg.toothmap.addr i 0)) s

/-! ### Angle cue comparators (R165, R166) -/

/-- The comparison of an armed comparator is made (R165). -/
def State.compLive (s : State) (prov : Bool) : Bool :=
  s.angValid && !s.whl.rev && (decide (s.sync = .full) || (decide (s.sync = .provisional) && prov))

/-- ANGLE lies in (ANG_NOW of the TCLK before t, ANG_NOW at t], and ANG_NOW was valid in both (R165). -/
def State.crossedAt (s : State) (angle t : Nat) : Bool :=
  match s.angAt (t - 1), s.angAt t with
  | some a, some b =>
    let d := (angle + s.cycle - a % s.cycle) % s.cycle
    decide (s.whl.validAt < t) && decide (0 < d) && decide (d ≤ (b + s.cycle - a % s.cycle) % s.cycle)
  | _, _ => false

/-- The TCLK from now on at which ANG_NOW crosses an angle, looked for at the model's instants of it and at a step forward with the
publication that waits; none where it has been passed (R93, R165, R166). -/
def State.crossTick (s : State) (angle : Nat) : Option Nat :=
  let near (g : Option Seg) : List Nat := match g with
    | some g => if g.ω = 0 then [] else let t := s.aim g angle 0 / 16; [t - 1, t, t + 1, t + 2]
    | none => []
  let old := if s.now < s.prd.pub then (near s.prd.old).filter (fun t => decide (t < s.prd.pub)) ++ [s.prd.pub] else []
  (s.now :: (old ++ near s.prd.seg)).find? fun t => decide (s.now ≤ t) && s.crossedAt angle t

/-- ANG_NOW crosses an armed comparator's angle: its ANG cue; an angle that lies ahead is waited for. In the TCLK of a SETAC the
setting that it replaced is judged (R165, R166). -/
def State.angleCue (s : State) (w : Fin 9) (m : Fin 16) : State :=
  let x := s.work[w].comps[m]
  let fire (t : State) : State := t.cue w (2 + m.val) m.val 0 t.now
  let replaced := match x.was with
    | some (a, prov) => decide (x.since = s.now) && s.compLive prov && s.crossedAt a s.now
    | none => false
  if (s.carrier w).isNone then s
  else if replaced then fire (s.setWork w fun k => { k with comps := upd k.comps m fun y => { y with was := none } })
  else if !x.arm || !s.compLive x.prov then s
  else
    match s.crossTick x.angle with
    | none => s
    | some t =>
      if t ≤ x.since then s
      else
        let s1 := s.advanceTo t
        fire (s1.setWork w fun k => { k with
          comps := upd k.comps m fun y => { y with arm := false, waiting := y.rpt, fired := s1.travel, was := none } })

/-- How far ANG_NOW lies past the angle at which a waiting comparator fired, in 1/256 at; behind it after a rock-back (R166). -/
def State.pastFire (s : State) (x : Comp) (ang : Nat) : Int :=
  let d := s.travel - x.fired
  d + wrapHalf s.cyc256 (256 * ((ang : Int) - (x.angle : Int)) - d)

/-- A REPEAT comparator is armed again once ANG_NOW lies more than half a cycle past its angle, counted from its fire, so that a
rock-back behind the angle arms it not (R166). -/
def State.compRearm (s : State) (w : Fin 9) (m : Fin 16) : State :=
  let x := s.work[w].comps[m]
  match s.angNow with
  | none => s
  | some a =>
    if x.waiting && decide (s.cyc256 < 2 * s.pastFire x a) then
      s.setWork w fun k => { k with comps := upd k.comps m fun y => { y with arm := true, waiting := false } }
    else s

end Sys2Proof.Machine
end

