-- ==== Sys2Proof/Machine/Flags.lean ====
section
/-! DEFINITION. The five flags of a Walend core and every computation of a flag that the spec gives (R154, R185, R190 to R195). -/

namespace Sys2Proof.Machine

/-- Z and N from a result (R185). -/
def Cluster.zn (k : Cluster) (r : Word) : Cluster := { k with z := decide (r = 0), n := bit r 31 }

/-- C, V or W alone. -/
def Cluster.cf (k : Cluster) (b : Bool) : Cluster := { k with c := b }
def Cluster.vf (k : Cluster) (b : Bool) : Cluster := { k with v := b }
def Cluster.wf (k : Cluster) (b : Bool) : Cluster := { k with w := b }

/-- The word that MFF reads (R187). -/
def Cluster.mff (k : Cluster) : Word := wordN (bitAt k.z 0 + bitAt k.n 1 + bitAt k.c 2 + bitAt k.v 3 + bitAt k.w 4)

/-- A status of a peg instruction or of SEND as flags: MFF [3:0] (R194, R206). -/
def Cluster.status (k : Cluster) (m : Nat) : Cluster :=
  { k with z := m.testBit 0, n := m.testBit 1, c := m.testBit 2, v := m.testBit 3 }

/-- Carry out of bit 31 of an addition (R185). -/
def addCarry (x y : Word) : Bool := decide (2 ^ 32 ≤ x.toNat + y.toNat)

/-- Signed overflow of an addition and of a subtraction (R185). -/
def addOver (x y : Word) : Bool := decide (x.toInt + y.toInt ≠ (x + y).toInt)
def subOver (x y : Word) : Bool := decide (x.toInt - y.toInt ≠ (x - y).toInt)

/-- C of a subtraction: no borrow (R185). -/
def subCarry (x y : Word) : Bool := decide (y.toNat ≤ x.toNat)

/-- The last bit shifted out to the left by n, and to the right; 0 for n = 0 (R185). -/
def shlCarry (x : Word) (n : Nat) : Bool := decide (n ≠ 0) && bit x (32 - n)
def shrCarry (x : Word) (n : Nat) : Bool := decide (n ≠ 0) && bit x (n - 1)

/-- V of MUL: the signed product does not fit 32 bits (R190). -/
def mulOver (x y : Word) : Bool := decide (x.toInt * y.toInt ≠ (x * y).toInt)

/-- The special cases of R191 in which V is 1. -/
def divuV (y : Word) : Bool := decide (y = 0)
def divsV (x y : Word) : Bool := decide (y = 0) || (decide (x = 0x80000000) && decide (y = 0xFFFFFFFF))

/-- The sixteen conditions of R186. -/
def Cluster.cond (k : Cluster) (n : Fin 16) : Bool :=
  match n.val with
  | 0 => k.z
  | 1 => !k.z
  | 2 => k.c
  | 3 => !k.c
  | 4 => k.n
  | 5 => !k.n
  | 6 => k.v
  | 7 => !k.v
  | 8 => k.c && !k.z
  | 9 => !k.c || k.z
  | 10 => k.n == k.v
  | 11 => k.n != k.v
  | 12 => !k.z && (k.n == k.v)
  | 13 => k.z || (k.n != k.v)
  | 14 => k.w
  | _ => true

end Sys2Proof.Machine
end

