-- ==== Sys2Proof/Machine/Operands.lean ====
section
/-! DEFINITION. The operand forms of the Walend instructions: general and angle registers, immediates, data addresses, peg
handles (R154, R157, R179, R188, R194). -/

namespace Sys2Proof.Machine

/-- A general register. -/
def Cluster.gr (k : Cluster) (i : Fin 16) : Word := k.g[i]

/-- Write a general register. -/
def Cluster.setG (k : Cluster) (i : Fin 16) (v : Word) : Cluster := { k with g := k.g.set i.val v i.isLt }

/-- The number of an angle register: its field's bits [2:0] (R179). -/
def aIdx (i : Fin 16) : Fin 8 := ⟨i.val % 8, by omega⟩

/-- An angle-register field with bit 3 set is illegal (R180). -/
def aBad (i : Fin 16) : Bool := decide (8 ≤ i.val)

/-- An angle register. -/
def Cluster.ar (k : Cluster) (i : Fin 16) : Nat := k.a[aIdx i].toNat

/-- Write an angle register. -/
def Cluster.setA (k : Cluster) (i : Fin 16) (v : Nat) : Cluster :=
  { k with a := k.a.set (aIdx i).val (BitVec.ofNat 24 v) (aIdx i).isLt }

/-- An angle register reduced modulo the cycle, and whether the reduction changed it (R157). -/
def State.arMod (s : State) (k : Cluster) (i : Fin 16) : Nat × Bool := (k.ar i % s.cycle, decide (s.cycle ≤ k.ar i))

/-- An immediate, sign-extended and zero-extended. -/
def sextW (imm : BitVec 16) : Word := imm.signExtend 32
def zextW (imm : BitVec 16) : Word := imm.zeroExtend 32

/-- The data address of LD and ST, as a 32-bit sum (R188). -/
def Cluster.dataAddr (k : Cluster) (b : Fin 16) (a : Bool) (imm : BitVec 16) : Word :=
  if a then zextW imm else k.gr b + sextW imm

/-- A data address is in the data SRAM and aligned (R188). -/
def dataOk (x : Word) : Bool := decide (x.toNat % 4 = 0) && decide (x.toNat ≤ 0x1FFF)

/-- A handle's slot, and whether it is stale (R120, R194). -/
def handleSlot (h : Word) : Fin 32 := ⟨fld h 4 0, by unfold fld; omega⟩
def Work.stale (x : Work) (h : Word) : Bool := decide (fld h 31 17 ≠ 0) || decide (fld h 16 5 ≠ x.slots[handleSlot h].seq)

/-- The handle of a slot (R120). -/
def handleOf (k : Fin 32) (seq : Nat) : Word := wordN (k.val + seq % 4096 * 32)

end Sys2Proof.Machine
end

