-- ==== Sys2Proof/Machine/Fire.lean ====
section
/-! DEFINITION. From the commit point of a peg to its instant, the lines that carry it, soft-off, and the edge generator's
own checks (R16, R17, R123, R132 to R145, R224, R225). -/

namespace Sys2Proof.Machine

/-- The first arrived transfer that a test picks, and the state without it. -/
def State.takeArrived (s : State) (pick : Xfer → Bool) : Option (Xfer × State) :=
  (s.links.arrived.find? pick).map fun x => (x, { s with links := { s.links with arrived := s.links.arrived.erase x } })

/-- The instant at which an edge is placed: without vernier placement, the nearest whole TCLK (R139). -/
def State.placed (s : State) (t : Nat) : Nat := if s.edg.calok then t else (t + 8) / 16 * 16

/-! ### Commit and line (R123, R134, R140, R225) -/

/-- A peg may fire: in FULL, or with PROV in PROVISIONAL while RATEV = 1 (R63). The horizon keeps the pegs held by angle to this as
they enter; it is asked again of every peg at its commit point. -/
def State.mayFire (s : State) (p : Peg) : Bool :=
  decide (s.sync = .full) || (decide (s.sync = .provisional) && p.prov && s.whl.ratev)

/-- 16 TCLK before its instant a peg commits (R116, R123, R134, R141, R175). A peg that may not fire takes no line action: in
PROVISIONAL it is skipped as R86 states, in NOSYNC and TOOTH cancelled as an armed peg is at a drop, and a coil in dwell comes down with
reason 4h; while REV = 1 no peg fires (R63, R79). A hold of the target goes before FUELSUP (DESIGN CHOICE, log entry 82). -/
def State.pegCommit (s0 : State) (w : Fin 9) (k : Fin 32) : State :=
  let p := s0.work[w].slots[k]
  match p.inst with
  | none => s0
  | some t =>
    if !(decide (p.st = .aimed) || decide (p.st = .dwelling)) || !s0.schedLive w then s0
    else if p.resBad then (s0.advanceTo (t / 16 - 16)).pegResFail w
    else
      let s := (s0.advanceTo (t / 16 - 16)).caughtUp
      let f := s.lineFree w k t
      if t < f then
        -- a command driven since moves the peg on; it is judged anew and commits later (R141)
        match s.segAt s.now with
        | some g => s.settlePeg g w k p.ideal f
        | none => s
      else if s.pegHeld p then (if p.st = .dwelling then s.softOff w k 6 else s.skip w k Kind.pegSkip 4)
      else if !s.whl.rev && !s.mayFire p then
        (if p.st = .dwelling then s.softOff w k 4
        else if s.sync = .provisional then s.skip w k Kind.provSkip 0 else s.cancelPeg w k 5 false)
      else
        let mute := if s.whl.rev || (s.whl.fuelSup && p.isFuel) then 1 else 0
        let s1 := s.setPeg w k fun q => { q with st := .committed, spark := decide (q.st = .dwelling), mute := mute }
        if p.seq ∈ s1.work[w].armed then s1.setWork w fun x => { x with runLog := x.runLog ++ [p.owner] } else s1

/-- The instant at which a peg takes effect: only an edge is rounded without vernier placement (R139, R140). -/
def State.effectAt (s : State) (p : Peg) (t : Nat) : Nat := if p.ach.isSome || p.ign.isSome then s.placed t else t

/-- The level of a solenoid channel's edge line: low for 4 TCLK where a restart began it (R140). -/
def State.edgeLevel (s : State) (c : Fin 32) : Bool :=
  s.edg.ch[c].line && match s.edg.ch[c].dip with
    | some d => !(decide (d ≤ s.now) && decide (s.now < d + 4))
    | none => true

/-- The lead of a peg's first line action in TCLK (R140). -/
def State.leadOf (s : State) (p : Peg) : Nat :=
  match p.kind with
  | 1 | 3 => match p.ach with
    | some c => if s.edgeLevel c then 10 else 6
    | none => 6
  | 2 | 4 => 14
  | 5 => 6
  | 8 => 4
  | _ => 2

/-- SOURCE of an edge line: channel l, or ignition output l − 32 (R412). -/
def srcLine (l : Fin 56) : Nat :=
  if l.val < 16 then srcC 0 0xC l.val else if l.val < 32 then srcC 0 0xD (l.val - 16)
  else if l.val < 48 then srcC 0 0xE (l.val - 32) else srcC 0 0xF (l.val - 48)

/-- SELECT_LATE or PROFILE_BAD of an ON command: the edge line is the source, the context in the layout of R135 (R225, R412). -/
def State.selFail (s : State) (w : Fin 9) (k : Fin 32) (c : Fin 32) : State :=
  let p := s.work[w].slots[k]
  let kind : Nat := match s.edg.ch[c].ack with
    | SelAck.bad q => if q = p.seq then Kind.profileBad else Kind.selectLate
    | _ => Kind.selectLate
  (s.emit 1 kind (srcLine ⟨c.val, by omega⟩) (k.val + p.seq % 4096 * 32 + p.owner % 4096 * 2 ^ 17)).setPeg w k fun q => { q with mute := 3 }

/-- The dwell line of the peg with a SEQ rises: SOFT that arrived for it is the output's from now on; what came for another dwell
waits for that one (R144). -/
def DrvIgn.takeSoft (d : DrvIgn) (seq : Nat) : DrvIgn :=
  match d.softNext.find? fun x => decide (x.2 = seq) with
  | some x => { d with softUs := x.1, softNext := d.softNext.erase x }
  | none => d

/-- At its lead a committed peg acts on its line (R122, R138, R140, R225, R246). -/
def State.pegDrive (s0 : State) (w : Fin 9) (k : Fin 32) : State :=
  let p := s0.work[w].slots[k]
  match p.inst with
  | none => s0
  | some t =>
    if p.st ≠ .committed ∨ p.mute ≠ 0 ∨ p.kind = 9 then s0
    else
      let s := (s0.advanceTo (t / 16 - s0.leadOf p)).caughtUp
      let s1 := s.setPeg w k fun q => { q with st := .driven }
      match p.ach, p.ign with
      | some c, _ =>
        if p.isOn then
          let s2 := if s.edg.ch[c].ack = .ok p.seq then s1.setECh c fun e => { e with
              line := true, dip := if e.line then some s.now else none, lastCmd := some t }
            else s1.selFail w k c
          s2.selUpdate c
        else if s.edgeLevel c then
          (s1.setECh c fun e => { e with line := false, lastCmd := some t }).setCh c fun d => { d with offPend := true }
        else s1.setPeg w k fun q => { q with mute := 4 }
      | none, some n =>
        let s2 := s1.setEIgn n fun e => { e with line := !p.spark, lastCmd := some t }
        if p.spark then s2 else s2.setDIgn n fun d => d.takeSoft p.seq
      | none, none => s1

/-! ### The instant (R132, R134, R136, R140, R142, R143) -/

/-- The peg counts as fired, late or not (R118, R130). -/
def State.fired (s : State) (w : Fin 9) (k : Fin 32) : State :=
  let p := s.work[w].slots[k]
  match p.late with
  | some l => (s.pegNote 0 Kind.pegLate w k p 0).release w k 2 l 0 false
  | none => s.release w k 1 0 0 false

/-- An ON peg fired on a channel: the relative pegs of its work that wait there become AIMED (R136). -/
def State.baseFired (s : State) (w : Fin 9) (c : Fin 32) (t : Nat) : State :=
  (List.finRange 32).foldl (fun (u : State) (j : Fin 32) =>
    let q := u.work[w].slots[j]
    if q.st = .waiting ∧ q.ach = some c then u.settleRel w j t else u) s

/-- An ON command takes effect (R136, R140, R241). The instant it leaves as the base stays that of the running shot where the driver
die refuses the restart or lets it wait (DESIGN CHOICE, log entry 82). -/
def State.fireOn (s : State) (w : Fin 9) (k : Fin 32) (c : Fin 32) (t : Nat) : State :=
  let p := s.work[w].slots[k]
  let start (e : EdgeCh) : EdgeCh := { e with
    fire := some t, prov := p.prov, due := if s.clsEn c then e.due ++ [⟨p.seq, p.owner, w, t⟩] else e.due }
  let s1 := (s.setECh c start).setCh c fun d => { d with startPend := true, offPend := false }
  let s2 := ((s1.fired w k).baseFired w c t)
  if p.reason ≠ 0 then s2.lineOff c else s2

/-- A coil's dwell begins; the driver die ignores the line while it drives nothing or the output is held (R142, R145, R242, R246). -/
def State.fireDwell (s : State) (w : Fin 9) (k : Fin 32) (n : Fin 24) (t : Nat) : State :=
  let p := s.work[w].slots[k]
  let on := s.rb Reg.ignCfg n 0 && !s.drvOff && !s.ignHeld n
  let s1 := (s.setDIgn n fun d => { d with
    gate := on, seq := p.seq, owner := p.owner, dwellAt := if on then some s.now else none, sparkAt := none }).setPeg w k fun q => { q with
    st := .dwelling, tD := some t, inst := none, late := none }
  if p.reason ≠ 0 then s1.softOff w k p.reason
  else
    match s1.edg.heOld, s1.segAt s1.now with
    | some he, some g => (s1.coilStep g w k s1.now he (s1.segAng g (16 * s1.now))).1
    | _, _ => s1

/-- SPARK_EARLY with the lead in at by which the spark precedes its angle (R143). -/
def State.sparkEarly (s : State) (w : Fin 9) (k : Fin 32) (t : Nat) : State :=
  let p := s.work[w].slots[k]
  let lead := match s.segAt s.now with
    | some g => (wrapHalf s.cyc256 (256 * (p.angle : Int) - s.segAng g t) / 256).toNat
    | none => 0
  s.emit 0 Kind.sparkEarly (srcC 0 (s.counterOf w).val (k.val % 16)) (min lead 65535 + k.val * 65536)

/-- A peg takes effect at its instant, where its slot is released; an engine is triggered at the SVCLK edge from there on (R132, R134,
R140). -/
def State.pegFire (s0 : State) (w : Fin 9) (k : Fin 32) : State :=
  let p := s0.work[w].slots[k]
  match p.inst with
  | none => s0
  | some t0 =>
    if !(decide (p.st = .driven) || (decide (p.st = .committed) && (decide (p.mute ≠ 0) || decide (p.kind = 9)))) then s0
    else
      let t := s0.effectAt p t0
      let s := (s0.advanceTo (t / 16)).caughtUp
      match p.mute with
      | 1 => s.skip w k Kind.revSuppressed 0
      | 2 => s.skip w k Kind.pegSkip 4
      | 3 => match p.ach with
        | some c => (s.release w k 1 0 0 false).baseFired w c t
        | none => s.release w k 1 0 0 false
      | 4 => s.fired w k
      | _ =>
        match p.ach, p.ign, p.win, p.jig with
        | some c, _, _, _ =>
          if p.isOn then s.fireOn w k c t else s.fired w k
        | _, some n, _, _ =>
          if p.spark then
            let s1 := if p.early then s.sparkEarly w k t else s
            (s1.setDIgn n fun d =>
              if d.gate && d.soft.isNone then { d with gate := false, sparkAt := some s1.now } else d).fired w k
          else s.fireDwell w k n t
        | _, _, some v, _ =>
          let s1 := s.advanceTo ((t + 8) / 16)
          if s1.measRuns then
            (if p.kind = 6 then s1.winOpen v p.angle else s1.winClose v p.angle).fired w k
          else (s1.intoMeas id).skip w k Kind.measGated 0
        | _, _, _, some e => ((s.fired w k).advanceTo ((t + 31) / 32 * 2)).jigTrigger e
        | _, _, _, _ => s.fired w k

/-! ### Selections and refusals over the DDL (R224, R225, R232) -/

/-- The driver die takes a SELECT and answers it; a set with an absent word is not consistent (R32, R224, R225). -/
def State.selectReceive (s : State) : State :=
  let isSel (x : Xfer) : Bool := match x with
    | .select .. => true
    | _ => false
  match s.takeArrived isSel with
  | some (.select c i seq owner, s1) =>
    let (s2, whole) := s1.wordsCheck (profileAddrs i)
    let ok := whole && (s2.profile i).consistent
    (if ok then s2.setCh c fun d => { d with sel := some ⟨i, seq, owner⟩ } else s2).ddlSend (.selack c seq ok)
  | _ => s

/-- The edge generator takes a SELACK (R225). -/
def State.selackReceive (s : State) : State :=
  let isAck (x : Xfer) : Bool := match x with
    | .selack .. => true
    | _ => false
  match s.takeArrived isAck with
  | some (.selack c seq ok, s1) => s1.setECh c fun e => { e with ack := if ok then .ok seq else .bad seq }
  | _ => s

/-- The edge generator takes a REFUSE: the refused start's line is driven inactive unless a later command owns it (R232). -/
def State.refuseReceive (s : State) : State :=
  let isRef (x : Xfer) : Bool := match x with
    | .refuse .. => true
    | _ => false
  match s.takeArrived isRef with
  | some (.refuse c _ _, s1) => s1.lineOff c
  | _ => s

/-- The edge generator takes a HOLDEND (R140, R222). -/
def State.holdendReceive (s : State) : State :=
  let isEnd (x : Xfer) : Bool := match x with
    | .holdend _ => true
    | _ => false
  match s.takeArrived isEnd with
  | some (.holdend c, s1) => s1.lineOff c
  | _ => s

/-- The edge generator takes a closing record: the CLOSE cue, once for a start that is still outstanding (R26, R241). -/
def State.closeRecord (s : State) : State :=
  let isCls (x : Xfer) : Bool := match x with
    | .closerec _ => true
    | _ => false
  match s.takeArrived isCls with
  | some (.closerec r, s1) =>
    match s1.edg.ch[r.ch].due.find? fun d => decide (d.seq = r.seq) with
    | some d =>
      (s1.setECh r.ch fun e => { e with due := e.due.erase d }).closeCue r.ch r.seq r.owner d.work r.time r.det
    | none => s1
  | _ => s

/-! ### Dwell limits and soft-off (R143 to R145, R422) -/

/-- No spark is committed 16 TCLK before DMAX; the spark at DMAX commits there, with the check of RES (R116, R143), also while
a takeover loads its work (DESIGN CHOICE, log entry 94). -/
def State.dwellMax (s : State) (w : Fin 9) (k : Fin 32) : State :=
  let p := s.work[w].slots[k]
  match p.tD with
  | none => s
  | some d =>
    if p.st ≠ .dwelling then s
    else
      let dl := d + usSteps p.dws.dmax
      if p.dws.maxAct && p.resBad then (s.advanceTo (dl / 16 - 16)).pegResFail w
      else if p.dws.maxAct then
        (s.advanceTo (dl / 16 - 16)).setPeg w k fun q => { q with
          st := .committed, spark := true, early := true, inst := some dl, ideal := dl, late := none, mute := 0 }
      else (s.advanceTo (dl / 16)).softOff w k 2

/-- The driver die takes a soft-off command; an output whose gate is off is down already (R144). -/
def State.softoffCommand (s : State) : State :=
  let isSoft (x : Xfer) : Bool := match x with
    | .softoff _ => true
    | _ => false
  match s.takeArrived isSoft with
  | some (.softoff n, s1) => if s1.drv.ign[n].gate then s1.rampDown n else s1.ddlSend (.softdone n)
  | _ => s

/-- The ramp ends: the driver die reports it (R144). -/
def State.softoffComplete (s : State) (n : Fin 24) : State :=
  match s.drv.ign[n].soft with
  | none => s
  | some t => ((s.advanceTo t).setDIgn n fun d => { d with soft := none, gate := false }).ddlSend (.softdone n)

/-- The dwell line falls at the end of a soft-off and the slot is freed (R144). -/
def State.softEnd (s : State) (n : Fin 24) : State :=
  let s1 := s.setEIgn n fun e => { e with line := false, lastCmd := some (16 * s.now), barUntil := s.now + 250, softBy := none }
  s1.eachPeg fun t w k =>
    let p := t.work[w].slots[k]
    if p.st = .softoff ∧ p.ign = some n then (t.pegNote 0 Kind.coilSoftoff w k p p.reason).release w k 6 (if p.reason = 1 then p.late.getD 0 else 0) p.reason false else t

/-- Completion + 16 TCLK (R144). -/
def State.softoffLineDrop (s : State) (n : Fin 24) : State :=
  match s.takeArrived fun x => decide (x = .softdone n) with
  | some (_, s1) => (s1.advanceTo (s1.now + 16)).softEnd n
  | none => s

/-- A held output whose completion report does not arrive (R422). -/
def State.softoffTimeout (s : State) (n : Fin 24) : State :=
  match s.edg.ign[n].softBy with
  | none => s
  | some t => if s.ignHeld n then (s.advanceTo t).softEnd n else s

/-! ### The edge generator's checks (R17, R139) -/

/-- A calibration on the replica line (R139, R153). -/
def State.calibrate (s : State) (ok : Bool) : State :=
  if !s.clocked then s
  else
    let s1 : State := { s with edg := { s.edg with calok := ok } }
    if ok then s1 else (s1.bump Reg.edgStat 0 15 8).emit 2 Kind.vernierCal (srcC 0 0xF 0xF) 0

/-- The echo differs: the line goes inactive, its owner becomes Fh and EDGE_ECHO names it (R17, R422). -/
def State.echoBad (s : State) (l : Fin 56) : State :=
  let s1 := if h : l.val < 32 then s.ownCh ⟨l.val, h⟩ ownFault else s.ownIgn ⟨l.val - 32, by omega⟩ ownFault
  s1.emit 2 Kind.edgeEcho (srcLine l) 0

/-- The comparison of an echo line with its edge line; an injected mismatch is used up (R17, R439). -/
def State.echoCheck (s : State) (l : Fin 56) (same : Bool) : State :=
  if !s.clocked then s
  else if l.val ∈ s.inj.echo then ({ s with inj := { s.inj with echo := s.inj.echo.erase l.val } } : State).echoBad l
  else if same then s
  else s.echoBad l

end Sys2Proof.Machine
end

