-- ==== Sys2Proof/Machine/Solenoid.lean ====
section
/-! DEFINITION. What happens inside the driver die at its own instants: bank grants, boost rails, the phases of a shot, the
capture converter and the diagnostics (R218 to R246). -/

namespace Sys2Proof.Machine

/-! ### Waiting starts (R233, R235) -/

/-- A waiting start is granted once GAP has passed after the last release and no earlier start waits; a grant that falls at the very
end of DEFER still comes in time (R233; DESIGN CHOICE, log entry 83). -/
def State.bankGrant (s0 : State) (c : Fin 32) : State :=
  let b := bankOf c
  match s0.drv.bank[b].waits with
  | [] => s0
  | x :: _ =>
    if x.ch ≠ chIn c ∨ x.rail ∨ s0.drv.bank[b].lead ≠ none then s0
    else
      let g := match s0.drv.bank[b].released with
        | some r => max (r + s0.rf Reg.bnkKerf b 31 20) x.edge
        | none => x.edge
      if x.edge + s0.deferOf b < g then s0 else (s0.advanceTo (4 * g)).grant c x

/-- A start still waiting DEFER after its start edge is refused (R233). -/
def State.bankDeferExpire (s0 : State) (c : Fin 32) : State :=
  match s0.waitOf c with
  | none => s0
  | some x =>
    if x.rail then s0
    else ((s0.advanceTo (4 * (x.edge + s0.deferOf (bankOf c)))).dropWait c).bankConflict c x

/-- The rail of a granted start is ready (R235). -/
def State.boostRailReady (s : State) (c : Fin 32) : State :=
  match s.waitOf c with
  | none => s
  | some x => if x.rail && s.drv.bst[railOf (bankOf c)].rdy then s.beginBoost c x.sel false x.restart else s

/-- BST_WAIT in DCLK (R230). -/
def State.bstWait (s : State) (k : Fin 2) : Nat := nearer 0 62500 (s.rf Reg.bstWait k 19 0)

/-- BST_WAIT ends with the rail not ready: the shot is skipped, or boosted from the battery by BATFB of the set as the start copies it
(R226, R235). -/
def State.boostWaitExpire (s0 : State) (c : Fin 32) : State :=
  let b := bankOf c
  match s0.waitOf c with
  | none => s0
  | some x =>
    if !x.rail || s0.drv.bst[railOf b].rdy then s0
    else
      let s := s0.advanceTo (4 * (x.railFrom + s0.bstWait (railOf b)))
      let s1 := (s.bump Reg.bnkCnt b 31 16).setBit Reg.chDiag c 5
      if (s.profileCopy x.sel.set).batfb then
        (s1.chMsg 1 Kind.boostNotReady c x.sel.seq x.sel.owner 2).beginBoost c x.sel true x.restart
      else
        let s2 := (s1.dropWait c).refuse c x.sel (!x.restart)
        let runs := decide (s2.phase c = some .boost) || decide (s2.phase c = some .peak)
        (if runs then s2 else s2.releaseLead c).chMsg 1 Kind.boostNotReady c x.sel.seq x.sel.owner 1

/-! ### Phases (R219, R221 to R223, R228) -/

/-- The regulating switch turns: the comparator is ignored for TBLANK and the switch keeps its state for TCHOPMIN (R221). -/
def State.switchTo (s : State) (c : Fin 32) (v : Bool) : State :=
  s.setShot c fun h => { h with
    swOn := v, blank := s.dclk + h.set.tblank, minEnd := s.dclk + h.set.tchopmin, deferred := none }

/-- The current reaches IBOOST (R219). -/
def State.iboostReached (s : State) (c : Fin 32) : State :=
  if s.phase c = some .boost then (s.setShot c fun h => { h with phase := .peak }).switchTo c false else s

/-- TBOOST elapses before IBOOST, with the current then at cur (R219, R223). -/
def State.tboostExpire (s0 : State) (c : Fin 32) (cur : Nat) : State :=
  match s0.drv.ch[c].shot with
  | none => s0
  | some h =>
    if h.phase ≠ .boost then s0
    else
      let s := s0.advanceTo (4 * (h.start + h.set.tboost))
      let s1 := (s.setShot c fun x => { x with phase := .peak }).switchTo c (decide (cur < h.set.ipeak))
      if 8 * cur < h.set.iboost then (s1.setBit Reg.chDiag c 1).chMsg 1 Kind.openLoad c h.seq h.owner 0
      else (s1.setBit Reg.chDiag c 2).chMsg 1 Kind.boostShort c h.seq h.owner 0

/-- TPEAK elapses: BYPASS, and the lead is released unless a granted restart waits for its rail (R219, R231). -/
def State.tpeakExpire (s0 : State) (c : Fin 32) : State :=
  match s0.drv.ch[c].shot with
  | none => s0
  | some h =>
    if h.phase ≠ .peak then s0
    else
      let s := s0.advanceTo (4 * (h.start + h.set.tpeak))
      let s1 := s.setShot c fun x => { x with phase := .bypass, peakEnd := s.dclk, swOn := false, deferred := none }
      if s1.railWait c then s1 else s1.releaseLead c

/-- HOLD begins with its switch off: the current lies at or above the upper bound, or is still falling. TBLANK and TCHOPMIN start
with it, as at a switching (R219, R221; DESIGN CHOICE, log entry 83). -/
def State.toHold (s : State) (c : Fin 32) : State := (s.setShot c fun x => { x with phase := .hold }).switchTo c false

/-- The current falls to IHOLD (R219). -/
def State.iholdReached (s : State) (c : Fin 32) : State := if s.phase c = some .bypass then s.toHold c else s

/-- TBYP elapses since PEAK ended (R219). -/
def State.tbypExpire (s0 : State) (c : Fin 32) : State :=
  match s0.drv.ch[c].shot with
  | none => s0
  | some h => if h.phase ≠ .bypass then s0 else (s0.advanceTo (4 * (h.peakEnd + h.set.tbyp))).toHold c

/-- The current passes the upper or the lower bound in PEAK or HOLD (R221). -/
def State.chop (s : State) (c : Fin 32) (upper : Bool) : State :=
  match s.drv.ch[c].shot with
  | none => s
  | some h =>
    if (h.phase ≠ .peak ∧ h.phase ≠ .hold) ∨ s.dclk < h.blank ∨ h.swOn = !upper then s
    else if s.dclk < h.minEnd then s.setShot c fun x => { x with deferred := some (!upper) }
    else s.switchTo c (!upper)

/-- TCHOPMIN ends: a switching that waited for it takes place (R221). -/
def State.tchopminExpire (s0 : State) (c : Fin 32) : State :=
  match s0.drv.ch[c].shot with
  | none => s0
  | some h =>
    match h.deferred with
    | none => s0
    | some v => if h.phase ≠ .peak ∧ h.phase ≠ .hold then s0 else (s0.advanceTo (4 * h.minEnd)).switchTo c v

/-- The driver die takes the fall of an edge line as an OFF at the instant of the command; it ignores the line of a held
output (R140, R222, R246). -/
def State.offCommand (s : State) (c : Fin 32) : State :=
  if !s.drv.ch[c].offPend then s
  else
    let s0 := if s.drv.ch[c].startPend then s.startEdge c else s
    let s1 := (s0.advanceTo (((s.edg.ch[c].lastCmd.getD 0) + 15) / 16)).setCh c fun d => { d with offPend := false }
    if s1.drvOff || s1.chHeld c then s1 else s1.driverOff c

/-- TMAX ends the drive (R219, R222). -/
def State.tmaxExpire (s0 : State) (c : Fin 32) : State :=
  match s0.drv.ch[c].shot with
  | none => s0
  | some h =>
    if h.phase = .recovery then s0
    else
      let s := (s0.advanceTo (4 * (h.start + h.set.tmax))).toRecovery c false
      (s.ddlSend (.holdend c)).chMsg 0 Kind.holdLimit c h.seq h.owner 0

/-- The current falls to IZERO: the watch stage (R228). -/
def State.fastDecayEnd (s : State) (c : Fin 32) : State :=
  if s.phase c = some .recovery then s.setShot c fun h => { h with watch := true } else s

/-! ### Capture (R238, R239, R291, R292) -/

/-- A capture sample of a bank with its 12-bit code: current and voltage in turn while a shot drives, voltage in RECOVERY. The first
drive-phase sample is a current (R238; DESIGN CHOICE, log entry 83). -/
def State.captureSample (s : State) (b : Fin 8) (v : Int) : State :=
  let x := s.drv.bank[b].conv
  match x.ch with
  | none => s
  | some k =>
    let volt := x.recovery || x.nextV
    let word := unsx 12 v + bitAt volt 12 + bitAt x.recovery 13
    let cap := s.capEn (chOf b k)
    let y : Conv := { x with
      nextV := !x.nextV, volt := if x.recovery then x.volt ++ [v] else x.volt, held := if cap then x.held ++ [word] else x.held }
    let s1 := s.setBank b fun z => { z with conv := y }
    if y.held.length < 28 then s1 else s1.sigFlush b

/-! ### Boost controllers (R229, R230) -/

/-- VSET and OVP in 0.5 V, READY in 1/256. -/
def State.vset (s : State) (k : Fin 2) : Nat := nearer 48 144 (s.rf Reg.bstCfg k 8 1)
def State.vovp (s : State) (k : Fin 2) : Nat := nearer 2 40 (s.rf Reg.bstCfg k 24 17)
def State.vready (s : State) (k : Fin 2) : Nat := max 0x80 (s.rf Reg.bstCfg k 16 9)

/-- The switch may be on: the controller runs, no overvoltage, and the driver die is not in the safe actuation state. -/
def State.bstMay (s : State) (k : Fin 2) : Bool := s.rb Reg.bstCfg k 0 && !s.drv.bst[k].ovp && !s.drvOff

/-- The rail is measured at v, in 0.1 V (R229). -/
def State.railMeasure (s : State) (k : Fin 2) (v : Nat) : State :=
  if !s.clocked then s
  else
    let x := s.drv.bst[k]
    let ovp := if x.ovp then decide (5 * s.vset k ≤ v) else decide (5 * (s.vset k + s.vovp k) ≤ v)
    let s1 := s.setBst k fun y => { y with vrail := v % 1024, rdy := decide (s.vready k * 5 * s.vset k ≤ 256 * v), ovp := ovp }
    let s2 := s1.setBst k fun y => { y with on := s1.bstMay k && decide (v < 5 * s.vset k) && y.toff.isNone }
    if ovp && !x.ovp then s2.emit 1 Kind.boostOvp (srcD 0xB k.val) 0 else s2

/-- TOFF in DCLK (R230). -/
def State.toffOf (s : State) (k : Fin 2) : Nat := nearer 8 255 (s.rf Reg.bstCtl k 17 10)

/-- The switch current reaches ILIM: the fixed off-time of TOFF begins (R229). -/
def State.ilimReached (s : State) (k : Fin 2) : State :=
  if s.drv.bst[k].on then s.setBst k fun y => { y with on := false, toff := some (s.dclk + s.toffOf k) } else s

/-- TOFF ends (R229). -/
def State.toffExpire (s0 : State) (k : Fin 2) : State :=
  match s0.drv.bst[k].toff with
  | none => s0
  | some t =>
    let s := s0.advanceTo (4 * t)
    s.setBst k fun y => { y with toff := none, on := s.bstMay k && decide (y.vrail < 5 * s.vset k) }

/-! ### Diagnostics (R242, R244, R245) -/

/-- SHORT_BAT: the shot goes to RECOVERY and starts are refused until cleared (R244). -/
def State.shortBat (s : State) (c : Fin 32) : State :=
  let (q, o) := match s.drv.ch[c].shot with
    | some h => (h.seq, h.owner)
    | none => (0, 0)
  let s1 := (s.toRecovery c false).setCh c fun d => { d with flt := true }
  (s1.setBit Reg.chDiag c 0).chMsg 1 Kind.shortBat c q o 0

/-- SHORT_GND: it shows only while HSB or HSV is on. Every shot of the bank ends and every waiting start is refused (R244). -/
def State.shortGnd (s : State) (b : Fin 8) : State :=
  if !(s.hsbOn b || s.hsvOn b) then s
  else
    let unit := if s.hsbOn b then 0xA else 0xB
    let s1 := (s.setBit Reg.bnkDiag b 10).emit 1 Kind.shortGnd (srcD b.val unit) 0
    let s2 := (List.finRange 4).foldl (fun (t : State) (k : Fin 4) => t.toRecovery (chOf b k) false) s1
    s2.drv.bank[b].waits.foldl (fun (t : State) (x : WaitStart) =>
      let c := chOf b x.ch
      let t1 := t.dropWait c
      (if x.rail then t1.releaseLead c else t1).refuseLatched c x.sel Kind.shortGnd (!x.restart)) s2

/-- SOURCE of an ignition output (R245). -/
def srcIgn (n : Fin 24) : Nat := srcD (8 + n.val / 8) (n.val % 8)

/-- Context of an ignition output's message: output, SEQ and OWNER of the dwell concerned (R245). -/
def State.ignCtx (s : State) (n : Fin 24) : Nat :=
  n.val + s.drv.ign[n].seq % 4096 * 32 + s.drv.ign[n].owner % 4096 * 2 ^ 17

/-- FBT and SPKW in TCLK (R243). -/
def State.ignFbt (s : State) (n : Fin 24) : Nat := max 1 (s.rf Reg.ignCfg n 15 8) * 250
def State.ignSpkw (s : State) (n : Fin 24) : Nat := max 1 (s.rf Reg.ignCfg n 23 16) * 250

/-- IGFBn is not active within FBT after the dwell start: one check for each dwell (R242). -/
def State.ignNocur (s0 : State) (n : Fin 24) : State :=
  match s0.drv.ign[n].dwellAt with
  | none => s0
  | some t =>
    if !s0.rb Reg.ignCfg n 1 then s0
    else
      let s := s0.advanceTo (t + s0.ignFbt n)
      ((s.setDIgn n fun d => { d with dwellAt := none }).setBit Reg.ignDiag n 0).emit 1 Kind.ignNocur (srcIgn n) (s.ignCtx n)

/-- IGFBn is not inactive within SPKW after the spark: one check for each spark (R242). -/
def State.ignNospark (s0 : State) (n : Fin 24) : State :=
  match s0.drv.ign[n].sparkAt with
  | none => s0
  | some t =>
    if !s0.rb Reg.ignCfg n 1 then s0
    else
      let s := s0.advanceTo (t + s0.ignSpkw n)
      ((s.setDIgn n fun d => { d with sparkAt := none }).setBit Reg.ignDiag n 1).emit 1 Kind.ignNospark (srcIgn n) (s.ignCtx n)

/-- A gate drive stays on for 4 DCLK in the safe actuation state (R414). -/
def State.gateStuck (s : State) (cluster unit : Nat) (n : Fin 32) : State :=
  if s.drv.safe then s.emit 3 Kind.gateStuck (srcD cluster unit) n.val else s

/-- Clearing CHn_DIAG.SHORT_BAT clears FLT (R247). -/
def State.fltClear (s : State) (c : Fin 32) : State := s.setCh c fun d => { d with flt := false }

end Sys2Proof.Machine
end

