-- ==== Sys2Proof/Machine/Walend.lean ====
section
/-! DEFINITION. The Walend core: dispatch, the frame of an instruction, exceptions, and the instructions that touch only the
core's registers (R155 to R173, R180 to R193). -/

namespace Sys2Proof.Machine

/-! ### SECDED reads of a cluster SRAM (R32, R432, R435) -/

/-- Read word i of a work's data SRAM; none where the word is uncorrectable and the work is lost. -/
def State.dataRead (s : State) (w : Fin 9) (i : Nat) (found : Fin 3) : State × Option Word :=
  match s.sramWord w true i found with
  | (t, true) => (t, some (s.word (dataBase w + 4 * i)))
  | (t, false) => (t, none)

/-- The word at a core's PC is fetched; the Bool says that it may be executed (R155). A vector is fetched like any other word. -/
def State.fetch (s : State) (c : Fin 9) : State × Bool :=
  match s.clu[c].work with
  | some w => s.sramWord w false (s.clu[c].pc % 4096)
  | none => (s, true)

/-! ### The frame of an instruction (R173, R180 to R183) -/

/-- The core runs a handler. -/
def State.coreOn (s : State) (c : Fin 9) : Bool :=
  let k := s.clu[c]
  k.runs && !k.halt && k.run.isSome && k.work.isSome

/-- CLU_BUDGET.HBUDGET (R177). -/
def State.hbudget (s : State) (c : Fin 9) : Nat := nearer 1000 1000000 (s.rf Reg.cluBudget c 19 0)

/-- The registers at the entry to a handler dispatched in TCLK d (R156, R167). -/
def State.handlerEntry (s : State) (c : Fin 9) (d cue : Nat) (g12 g13 g14 g15 : Word) : State :=
  let ang := s.angAt d
  s.setClu c fun k =>
    let g := ((((((((k.g.set 8 0).set 9 0).set 10 0).set 11 0).set 12 g12).set 13 g13).set 14 g14).set 15 g15)
    { k with
      g := g, a := (k.a.set 6 0).set 7 (BitVec.ofNat 24 (ang.getD 0)), pc := cue, z := false, n := false, c := false,
      v := ang.isNone, w := false }

/-- An exception with its cause, the PC of the abandoned instruction and an address; the handler is dispatched in the next TCLK, and the
run log of the run that ended is cleared with it (R167, R172, R173, R175). -/
def State.coreExc (s : State) (c : Fin 9) (cause epc : Nat) (addr : Option Word) : State :=
  let k := s.clu[c]
  let s1 := s.setClu c fun k => { k with
    cause := cause, epc := epc, eaddr := addr.getD k.eaddr, dones := (k.dones + 1) % 65536 }
  let s2 := (s1.bump Reg.cluExc c 23 16).emit 1 Kind.coreExc (srcC 0 c.val 0xF) (cause % 16 + epc % 4096 * 16)
  let inExc := match k.run with
    | some r => r.exc
    | none => false
  if inExc then
    let s3 := ((s2.setClu c fun k => { k with run := none, halt := true }).emit 2 Kind.coreHalt (srcC 0 c.val 0xF) 0).cluChanged
    match k.work with
    | some w => s3.holdWork w
    | none => s3
  else
    let s3 := (match k.work with
      | some w => s2.setWork w fun x => { x with runLog := [], armed := [] }
      | none => s2).setClu c fun k => { k with run := some ⟨⟨31, 0, 0, s.now, s.now, []⟩, false, true, s.now + 1, 0⟩ }
    s3.handlerEntry c (s.now + 1) 31 (s3.clu[c].eaddr) 31 (wordN (cause % 16 + epc % 4096 * 16)) s.tclkLo

/-- The last TCLK of an instruction of n TCLK: the core runs its instructions one after the other from the start of the run
(R164, R181). -/
def Run.lastTick (r : Run) (n : Nat) : Nat := r.start + r.spent + n - 1

/-- An instruction of n TCLK comes to its last TCLK, in which its effect falls (R181). -/
def State.spend (s : State) (c : Fin 9) (n : Nat) : State :=
  match s.clu[c].run with
  | some r => (s.advanceTo (r.lastTick n)).setClu c fun k => { k with run := some { r with spent := r.spent + n } }
  | none => s

/-- What an instruction does to the flow. -/
inductive Flow where
  | next | jump (pc : Nat) | left

/-- One instruction: the budget is tested at its start, its word is fetched, a reserved encoding raises ILLEGAL, an injected residue
fails the cluster at an instruction that reads or writes a register (regs), and running past word 4095 raises ILLEGAL after the effect
(R155, R180, R182, R183). -/
def State.insn (s : State) (c : Fin 9) (ticks : Nat) (illegal : Bool) (f : State → State × Flow) (regs : Bool := true) : State :=
  if !s.coreOn c then s
  else
    let k := s.clu[c]
    let spent := match k.run with
      | some r => r.spent
      | none => 0
    if s.hbudget c ≤ spent then (s.spend c 1).coreExc c 5 k.pc none
    else
      match s.fetch c with
      | (u, false) => u
      | (u, true) =>
        let v := u.spend c ticks
        if illegal then v.coreExc c 1 k.pc none
        else if regs ∧ srcC 0 c.val 0xF ∈ v.inj.residue then
          ({ v with inj := { v.inj with residue := v.inj.residue.erase (srcC 0 c.val 0xF) } } : State).clusterFail c 1
        else
          match f v with
          | (t, .left) => t
          | (t, .jump p) => t.setClu c fun k => { k with pc := p }
          | (t, .next) =>
            if 4095 ≤ k.pc then t.coreExc c 1 0xFFF none else t.setClu c fun x => { x with pc := x.pc + 1 }

/-- An instruction that only changes its core. -/
def State.plain (s : State) (c : Fin 9) (ticks : Nat) (illegal : Bool) (f : Cluster → Cluster) : State :=
  s.insn c ticks illegal fun t => (t.setClu c f, .next)

/-- A program exception in the course of an instruction: no effect but the exception (R172). -/
def State.abandon (s : State) (c : Fin 9) (cause : Nat) (addr : Option Word) : State × Flow :=
  (s.coreExc c cause s.clu[c].pc addr, .left)

/-- A run that reaches the budget is abandoned (R169, R182). -/
def State.budgetHit (s : State) (c : Fin 9) : State :=
  match s.clu[c].run with
  | none => s
  | some r => if s.coreOn c && decide (s.hbudget c ≤ r.spent) then (s.spend c 1).coreExc c 5 s.clu[c].pc none else s

/-! ### Dispatch and the end of a handler (R163, R164, R167, R168) -/

/-- The pending cues that may be dispatched: START is not maskable (R162, R164). -/
def Work.enabled (x : Work) : List CueOcc := x.cues.filter fun q => decide (q.cue = 0) || x.cueEn.getLsbD q.cue

/-- Of the enabled cues that have reached the cluster by TCLK t, that with the lowest number, in its oldest occurrence (R164). -/
def Work.nextCue (x : Work) (t : Nat) : Option CueOcc :=
  (List.range 27).findSome? fun n => x.enabled.find? fun q => decide (q.cue = n) && decide (q.ready ≤ t)

/-- The TCLK from now on at which the first enabled cue has reached the cluster (R21). -/
def State.cueTick (s : State) (x : Work) : Nat :=
  match x.enabled.map (·.ready) with
  | [] => s.now
  | r :: rs => max s.now (rs.foldl min r)

/-- The idle core dispatches (R164, R167, R170); a cut run's cue comes first (R176). The first instruction begins 3 TCLK after the
cue reached the cluster, and no sooner than 2 TCLK after the last DONE, which is then the TCLK of dispatch. -/
def State.cueDispatch (s0 : State) (c : Fin 9) (found : Fin 3) : State :=
  let k := s0.clu[c]
  match k.work with
  | none => s0
  | some w =>
    if !k.runs || k.halt || k.run.isSome || !s0.schedLive w then s0
    else
      let s := if k.redoCue.isSome then s0 else s0.advanceTo (s0.cueTick s0.work[w])
      let pick : Option (CueOcc × Bool) := match k.redoCue with
        | some r => some (r.cue, true)
        | none => (s.work[w].nextCue s.now).map fun q => (q, false)
      match pick with
      | none => s
      | some (q, redo) =>
        match s.sramWord w false q.cue found with
        | (t, false) => t
        | (s1, true) =>
          let at_ := max s1.now (k.idleAt + 2)
          let from_ := max at_ (if redo then s1.now + 3 else q.ready + 3)
          let s2 := s1.setWork w fun x => { x with cues := if redo then x.cues else x.cues.erase q, armed := [] }
          let s3 := s2.setClu c fun k => { k with run := some ⟨q, redo, false, from_, 0⟩, redoCue := none }
          s3.handlerEntry c at_ q.cue q.g12 (wordN (q.cue + bitAt redo 8)) q.g14 (wordN q.stamp)

/-- CUE_EN of the carried work, or of a cluster that carries none, with START never masked (R177, R193). -/
def State.setCueEn (s : State) (c : Fin 9) (f : Nat → Nat) : State :=
  match s.clu[c].work with
  | none => s.setClu c fun k => { k with cueEn := BitVec.ofNat 27 (f k.cueEn.toNat ||| 1) }
  | some w => s.setWork w fun x => { x with cueEn := BitVec.ofNat 27 (f x.cueEn.toNat ||| 1) }

/-- A core changes its CUE_EN; a host write of the same TCLK stands over it (R178). -/
def State.cueEnable (s : State) (c : Fin 9) (f : Nat → Nat) : State :=
  if s.hwNow (Reg.cluCueEn.addr c 0) ≠ 0 then s else s.setCueEn c f

/-- A host write of CLU_CUE_EN (R177, R178). -/
def State.cueEnHost (s : State) (c : Fin 9) (v : Word) : State :=
  (s.setCueEn c fun _ => v.toNat).hw (Reg.cluCueEn.addr c 0) 1

/-- DONE: the context block, DONES and the run log as one unit; a stop that waited takes effect (R168, R174). -/
def State.handlerDone (s : State) (c : Fin 9) (en : Option Word) : State :=
  match s.clu[c].work with
  | none => s
  | some w =>
    let s1 := s.setClu c fun k => { k with dones := (k.dones + 1) % 65536, run := none, idleAt := s.now }
    let s0 := (s1.saveContext c w).setWork w fun x => { x with runLog := [], armed := [] }
    let s2 := match en with
      | some v => s0.cueEnable c fun _ => v.toNat
      | none => s0
    if s2.clu[c].stopReq then s2.clusterStop c false else s2

/-! ### Control (R186, R187) -/

/-- A taken branch or jump. -/
def State.jumpTo (s : State) (c : Fin 9) (ticks pc : Nat) : State := s.insn c ticks false (fun t => (t, .jump pc)) false

/-- Bcond: the target is checked whether or not the branch is taken (R186). -/
def State.bcond (s : State) (c : Fin 9) (cond : Fin 16) (off : BitVec 16) : State :=
  let k := s.clu[c]
  let tgt : Int := (k.pc : Int) + 1 + off.toInt
  let bad := decide (tgt < 0) || decide (4095 < tgt)
  s.insn c (if k.cond cond then 2 else 1) bad (fun t => (t, if k.cond cond then .jump tgt.toNat else .next)) false

/-! ### Arithmetic (R185, R190, R191) -/

/-- A result with Z and N. -/
def Cluster.put (k : Cluster) (d : Fin 16) (r : Word) : Cluster := (k.setG d r).zn r

/-- Addition and subtraction with all four flags. -/
def Cluster.addTo (k : Cluster) (d : Fin 16) (x y : Word) : Cluster := ((k.put d (x + y)).cf (addCarry x y)).vf (addOver x y)
def Cluster.cmpFlags (k : Cluster) (x y : Word) : Cluster := ((k.zn (x - y)).cf (subCarry x y)).vf (subOver x y)
def Cluster.subTo (k : Cluster) (d : Fin 16) (x y : Word) : Cluster := (k.setG d (x - y)).cmpFlags x y

/-- A logical result: Z and N, V = 0. -/
def Cluster.logic (k : Cluster) (d : Fin 16) (r : Word) : Cluster := (k.put d r).vf false

/-- The shifts by n, with C the last bit shifted out and V = 0. -/
def Cluster.shl (k : Cluster) (d : Fin 16) (x : Word) (n : Nat) : Cluster := (k.logic d (x <<< n)).cf (shlCarry x n)
def Cluster.shr (k : Cluster) (d : Fin 16) (x : Word) (n : Nat) : Cluster := (k.logic d (x >>> n)).cf (shrCarry x n)
def Cluster.asr (k : Cluster) (d : Fin 16) (x : Word) (n : Nat) : Cluster := (k.logic d (x.sshiftRight n)).cf (shrCarry x n)

/-- Signed minimum and maximum. -/
def minW (x y : Word) : Word := if x.toInt ≤ y.toInt then x else y
def maxW (x y : Word) : Word := if x.toInt ≤ y.toInt then y else x

/-- The high word of the signed product. -/
def mulHigh (x y : Word) : Word := BitVec.ofInt 32 (x.toInt * y.toInt / 2 ^ 32)

/-- The quotients of R191. -/
def divuW (x y : Word) : Word := if y = 0 then 0xFFFFFFFF else x / y
def divsW (x y : Word) : Word :=
  if y = 0 then (if x.toInt < 0 then 0x80000000 else 0x7FFFFFFF) else BitVec.ofInt 32 (x.toInt.tdiv y.toInt)

/-! ### Angles (R157, R192) -/

/-- ad = (as + y) mod C with W (R157). -/
def State.angAdd (s : State) (k : Cluster) (d a : Fin 16) (y : Int) : Cluster :=
  let (x, red) := s.arMod k a
  let t : Int := (x : Int) + y
  let r := (t % (s.cycle : Int)).toNat
  (k.setA d r).wf (red || decide (t < 0) || decide ((s.cycle : Int) ≤ t))

/-- DIFA (R157). -/
def State.angDif (s : State) (k : Cluster) (d a b : Fin 16) : Cluster :=
  let (x, rx) := s.arMod k a
  let (y, ry) := s.arMod k b
  let raw : Int := (x : Int) - (y : Int)
  let m := raw % (s.cycle : Int)
  let r := if (s.cycle : Int) ≤ 2 * m then m - (s.cycle : Int) else m
  (k.put d (wordI r)).wf (rx || ry || decide (r ≠ raw))

/-- GETA (R157, R192). -/
def State.angGet (s : State) (k : Cluster) (d : Fin 16) : Cluster :=
  ((k.setA d (s.angNow.getD 0)).wf false).vf s.angNow.isNone

/-! ### Comparators and cue enables (R166, R193) -/

/-- SETAC and CLRAC on the work's comparators. -/
def State.compSet (s : State) (w : Fin 9) (m : Fin 16) (x : Comp) : State :=
  s.setWork w fun k => { k with comps := k.comps.set m.val x m.isLt }

/-! ### Reserved words (R179, R180, R184) -/

/-- The bits of an opcode's word that must be 0; every bit for a reserved opcode. The field s of a DONE with W = 0 is free, as R187 lays the
word out (DESIGN CHOICE, log entry 94). -/
def reservedMask (op : Nat) : Nat :=
  match op with
  | 0x00 => 0x03C3FFFE
  | 0x01 => 0x03FFFFFF
  | 0x02 => 0x03FF0000
  | 0x03 => 0x003F0000
  | 0x04 => 0x03FFF000
  | 0x05 => 0x003FF000
  | 0x06 => 0x03C3FFFF
  | 0x07 => 0x003FFFFF
  | 0x08 => 0x003F0000
  | 0x09 => 0x003F0000
  | 0x0A => 0x0003FFFF
  | 0x0B => 0x00010000
  | 0x0C => 0x00010000
  | 0x0D => 0x00030000
  | 0x0E => 0x00030000
  | 0x1A => 0x03C03FFF
  | 0x20 => 0x00030000
  | 0x21 => 0x03C30000
  | 0x22 => 0x00030000
  | 0x23 => 0x00030000
  | 0x24 => 0x00030000
  | 0x25 => 0x0003FFE0
  | 0x26 => 0x0003FFE0
  | 0x27 => 0x0003FFE0
  | 0x28 => 0x00030000
  | 0x29 => 0x00030000
  | 0x2A => 0x00000FFF
  | 0x2B => 0x0003EFFF
  | 0x2C => 0x0000FFFF
  | 0x2D => 0x003CFFFF
  | 0x2E => 0x03C0FFFF
  | 0x30 => 0x0203FFFF
  | 0x31 => 0x02203FFF
  | 0x32 => 0x02203FFF
  | 0x33 => 0x00223FFF
  | 0x34 => 0x023FFFFF
  | 0x35 => 0x0023FFFF
  | 0x36 => 0x02230000
  | 0x37 => 0x0020FFFF
  | 0x38 => 0x003FFFFF
  | 0x39 => 0x00000FFF
  | 0x3A => 0x000007FF
  | 0x3B => 0x003FFFFF
  | 0x3C => 0x0003FFFF
  | 0x3D => 0x003FFFFF
  | _ => 0x00003FFF

/-- A reserved opcode, a field marked 0 that is not 0, or an encoding that its description reserves (R180, R184, R188, R193,
R197, R198). -/
def reservedWord (w : Word) : Bool :=
  let op := fld w 31 26
  op ∈ [0x0F, 0x1F, 0x2F, 0x3E, 0x3F] || decide (w.toNat &&& reservedMask op ≠ 0)
    || (decide (op = 0x2E) && decide (fld w 17 16 = 3))
    || ((decide (op = 0x39) || decide (op = 0x3A)) && decide (fld w 13 12 = 3))
    || (decide (op = 0x3A) && decide (fld w 13 11 = 0))
    || ((decide (op = 0x0B) || decide (op = 0x0C)) && bit w 17 && decide (fld w 21 18 ≠ 0))
    || (decide (op = 0x39) && decide (fld w 13 12 = 2) && bit w 17)
    || (decide (op = 0x3A) && ((decide (fld w 13 12 = 2) && bit w 21) || (!bit w 11 && decide (fld w 17 14 ≠ 0))))

end Sys2Proof.Machine
end

