-- ==== Sys2Proof/Machine/PegOps.lean ====
section
/-! DEFINITION. The peg instructions ARM, REAIM, CANCEL, QUERY and OVFC, the measurement reads and the fabric messages of the
Walend core (R119 to R121, R131, R136, R194 to R207). -/

namespace Sys2Proof.Machine

/-! ### Statuses (R194, R206) -/

/-- MFF codes of the statuses. -/
def stOk : Nat := 4
def stBadDesc : Nat := 8
def stNoBase : Nat := 1
def stFull : Nat := 2
def stFiredBefore : Nat := 3
def stStale : Nat := 0xA
def stCommitted : Nat := 9
def stGone : Nat := 0xB

/-- A peg instruction's status and W (R195). -/
def State.pegStatus (s : State) (c : Fin 9) (m : Nat) (w : Bool) : State := s.setClu c fun k => (k.status m).wf w

/-! ### ARM (R119, R120, R197) -/

/-- TARGET lies outside the kind's range (R117). -/
def Peg.badTarget (p : Peg) : Bool :=
  if p.kind ≤ 4 then decide (32 ≤ p.target)
  else if p.kind = 5 then decide (24 ≤ p.target)
  else if p.kind = 6 ∨ p.kind = 7 then decide (16 ≤ p.target)
  else if p.kind = 8 then decide (8 ≤ p.target)
  else false

/-- Check 1 of R119. -/
def State.badDesc (s : State) (p : Peg) (d2 d3 : Word) : Bool :=
  decide (p.kind = 0) || decide (9 < p.kind) || p.badTarget || (decide (6 ≤ p.kind) && decide (p.profile ≠ 0))
    || decide (fld d2 31 28 ≠ 0) || decide (fld d3 31 14 ≠ 0) || decide (p.flags / 16 ≠ 0) || decide (s.cycle ≤ p.angle)
    || (p.rel && !p.isOff)
    || (p.isCoil && (decide (s.dwell p.profile < s.dmin p.profile) || decide (s.dmax p.profile < s.dwell p.profile)))

/-- Check 2 of R119: the target is owned by another; a MARK names no unit. -/
def State.notOwner (s : State) (c : Fin 9) (p : Peg) : Bool :=
  match p.ach, p.ign, p.win, p.jig with
  | some n, _, _, _ => decide (s.edg.ch[n].owner ≠ c.val)
  | _, some n, _, _ => decide (s.edg.ign[n].owner ≠ c.val)
  | _, _, some v, _ => decide (s.winOwner v ≠ c.val)
  | _, _, _, some e => decide (s.jig[e].owner ≠ c.val)
  | _, _, _, _ => false

/-- The shot running on a peg's target, by the instant of its ON command (R136). -/
def State.runningBase (s : State) (p : Peg) : Option Nat :=
  match p.ach with
  | none => none
  | some n =>
    match s.phase n with
    | none => none
    | some ph => if ph = .recovery then none else s.edg.ch[n].fire

/-- The lowest free slot; a slot released in this TCLK still counts as occupied (R121). -/
def State.freeSlot (s : State) (w : Fin 9) : Option (Fin 32) :=
  (List.finRange 32).find? fun k =>
    let q := s.work[w].slots[k]
    decide (q.st = .free) && decide (q.freedAt ≠ some s.now)

/-- An injection inverts the residue of the next peg written to a slot, named as the slot's notes name it, or of the work's next
mirror entry (R135, R439; log entry 78). Unit Fh of a cluster is its core. -/
def State.pegInj (s : State) (w : Fin 9) (k : Fin 32) : Bool :=
  decide (k.val % 16 ≠ 15) && decide (srcC 0 (s.counterOf w).val (k.val % 16) ∈ s.inj.residue)
def State.mirInj (s : State) (w : Fin 9) : Bool := decide (srcC 0 0xB w.val ∈ s.inj.residue)

/-- The peg is placed and judged; the Bool says that it was judged passed (R120, R131, R136). A coil takes the words of its dwell set as
they stand at its ARM, as the ARM check does (DESIGN CHOICE, log entry 94). -/
def State.placePeg (s : State) (w : Fin 9) (k : Fin 32) (p : Peg) : State × Bool :=
  let q := s.work[w].slots[k]
  let seq := s.work[w].seq
  let st : PegState := if p.rel && (s.runningBase p).isNone then .waiting else .armed
  let full : Peg := { p with
    seq := seq, last := q.last, lateAmt := q.lateAmt, st := st, dws := s.dwellSet p.profile, resBad := s.pegInj w k,
    armAngle := p.angle, armTofs := p.tofs }
  let spoil (t : State) : State := t.setWork w fun x => { x with
    slots := upd x.slots k fun q => { q with mirBad := s.mirInj w && decide (q.st ≠ .free) } }
  let s0 : State := { s with inj := { s.inj with
    residue := (s.inj.residue.erase (srcC 0 (s.counterOf w).val (k.val % 16))).erase (srcC 0 0xB w.val) } }
  let s1 := (s0.setWork w fun x => { x with
    slots := x.slots.set k.val full k.isLt, seq := (seq + 1) % 4096, armed := x.armed ++ [seq] }).peakSlots w
  if p.rel then
    match s.runningBase p with
    | some t => (spoil (s1.settleRel w k t), false)
    | none => (spoil s1, false)
  else
    let (s2, passed) := s1.judge w k true
    ((spoil s2).selOf p, passed)

/-- ARM on four descriptor words with their angle override (R197). The ownership exception of an ARM has no data or register-space
address, so CLU_EADDR keeps its word (DESIGN CHOICE, log entry 88). -/
def State.armPeg (s : State) (c w : Fin 9) (d : Fin 16) (p : Peg) (d2 d3 : Word) : State × Flow :=
  let fail (t : State) (m : Nat) : State × Flow :=
    ((t.setClu c fun k => k.setG d 0xFFFFFFFF).pegStatus c m false, .next)
  let redo := match s.clu[c].run with
    | some r => r.redo
    | none => false
  if s.badDesc p d2 d3 then fail s stBadDesc
  else if s.notOwner c p then s.abandon c 3 none
  else if redo && decide (p.owner ∈ s.work[w].runLog) then fail s stFiredBefore
  else if p.rel && (s.runningBase p).isNone && (s.nextBase w p).isNone then fail s stNoBase
  else
    match s.freeSlot w with
    | none =>
      fail (((s.setWork w fun x => { x with ovf := true }).hw (Reg.schedStat.addr (s.counterOf w) 0) 1).emit 1 Kind.slotFull (srcC 0 (s.counterOf w).val 0xF) (p.owner % 4096)) stFull
    | some k =>
      let (t, passed) := s.placePeg w k p
      ((t.setClu c fun x => x.setG d (handleOf k s.work[w].seq)).pegStatus c stOk passed, .next)

/-- The words at a descriptor's address; none where one is uncorrectable. -/
def State.descRead (s : State) (w : Fin 9) (a : Nat) : State × Option (Word × Word × Word × Word) :=
  match s.dataRead w (a / 4) 0 with
  | (t, none) => (t, none)
  | (t, some d0) =>
    match t.dataRead w (a / 4 + 1) 0 with
    | (t, none) => (t, none)
    | (t, some d1) =>
      match t.dataRead w (a / 4 + 2) 0 with
      | (t, none) => (t, none)
      | (t, some d2) =>
        match t.dataRead w (a / 4 + 3) 0 with
        | (t, none) => (t, none)
        | (t, some d3) => (t, some (d0, d1, d2, d3))

/-- ARM from the data SRAM (R197). -/
def State.armFrom (s : State) (c : Fin 9) (d b t : Fin 16) (src : Fin 4) : State × Flow :=
  let k := s.clu[c]
  let a := k.gr b
  match k.work with
  | none => (s, .left)
  | some w =>
    if !(decide (a.toNat % 4 = 0) && decide (a.toNat ≤ 0x1FF0)) then s.abandon c 2 (some a)
    else
      match s.descRead w a.toNat with
      | (u, none) => (u, .left)
      | (u, some (d0, d1, d2, d3)) =>
        let p := Peg.ofWords d0 d1 d2
        let ang := if src.val = 1 then fld (k.gr t) 23 0 else if src.val = 2 then k.ar t else p.angle
        u.caughtUp.armPeg c w d { p with angle := ang } d2 d3

/-! ### REAIM, CANCEL, QUERY, OVFC (R198 to R201) -/

/-- A peg operation on a handle: a stored residue that no longer fits fails the cluster (R116, R33). -/
def State.onHandle (s0 : State) (c : Fin 9) (h : Word) (f : State → Fin 9 → Fin 32 → Peg → State) : State × Flow :=
  let s := s0.caughtUp
  match s.clu[c].work with
  | none => (s, .left)
  | some w =>
    let x := s.work[w]
    if x.stale h then (s.pegStatus c stStale false, .next)
    else
      let p := x.slots[handleSlot h]
      if p.resBad && decide (p.st ≠ .free) then (s.clusterFail c 3, .left)
      else (f s w (handleSlot h) p, .next)

/-- REAIM with the new angle and offset (R131, R136, R198). -/
def State.reaim (s : State) (c : Fin 9) (h : Word) (angle : Option Nat) (tofs : Option Int) : State × Flow :=
  s.onHandle c h fun t w k p =>
    match p.st with
    | .free => t.pegStatus c stGone false
    | .committed => t.pegStatus c stCommitted false
    | .driven => t.pegStatus c stCommitted false
    | .dwelling => t.pegStatus c stCommitted false
    | .softoff => t.pegStatus c stCommitted false
    | st =>
      let a := angle.getD p.angle
      if t.cycle ≤ a then t.pegStatus c stBadDesc false
      else
        let t1 := t.setPeg w k fun q => { q with angle := a, tofs := tofs.getD q.tofs }
        if p.rel then
          match st, p.base with
          | .aimed, some b =>
            let t2 := t1.settleRel w k b
            t2.pegStatus c stOk false
          | _, _ => t1.pegStatus c stOk false
        else
          let (t2, passed) := t1.judge w k false
          (t2.selOf p).pegStatus c stOk passed

/-- CANCEL (R199). -/
def State.cancel (s : State) (c : Fin 9) (h : Word) : State × Flow :=
  s.onHandle c h fun t w k p =>
    match p.st with
    | .free => t.pegStatus c stGone false
    | .armed => (t.cancelPeg w k 4 false).pegStatus c stOk false
    | .aimed => (t.cancelPeg w k 4 false).pegStatus c stOk false
    | .waiting => (t.cancelPeg w k 4 false).pegStatus c stOk false
    | .dwelling => (t.softOff w k 3).pegStatus c stOk true
    | _ => t.pegStatus c stCommitted false

/-- PEG_STAT of a slot (R151). -/
def State.pegStatWord (s : State) (p : Peg) : Word :=
  let fuel := decide (p.st ≠ .free) && p.isFuel && (s.whl.rev || s.whl.fuelSup)
  wordN (p.st.code + bitAt fuel 4 + p.last % 8 * 32 + min p.lateAmt 65535 * 65536)

/-- QUERY (R200): W is unchanged. -/
def State.query (s : State) (c : Fin 9) (d : Fin 16) (h : Word) : State × Flow :=
  match s.clu[c].work with
  | none => (s, .left)
  | some w =>
    if s.work[w].stale h then (s.caughtUp.setClu c fun k => (k.setG d 0).status stStale, .next)
    else s.onHandle c h fun t _ _ p => t.setClu c fun k => (k.setG d (t.pegStatWord p)).status stOk

/-- OVFC: OVF from before it and before a host write of its TCLK (R201). -/
def State.ovfClear (s : State) (c : Fin 9) (d : Fin 16) : State :=
  match s.clu[c].work with
  | none => s
  | some w =>
    let o := s.work[w].ovf || decide (s.work[w].ovfClr = some s.now)
    (s.setWork w fun x => { x with ovf := false }).setClu c fun k => (k.setG d (wordN (bitAt o 0))).cf o

/-! ### RDFIG and RDRES (R202 to R204) -/

/-- The core as a reader. -/
def coreReader (c : Fin 9) : Fin 11 := ⟨c.val, by omega⟩

/-- A figure's window and number as the value of a reader's read, with FRESH (R204, R269). -/
def State.readFigure (s : State) (p : Fin 11) (w : Fin 16) (f : Fin 32) : State × Word × Bool :=
  let v := s.ms.win[w]
  let (t, fr) := s.fresh p (8 + 32 * w.val + f.val) v.fseq[f]
  (t, v.figs[f], fr)

/-- A result register as the value of a reader's read, with its sequence number and FRESH. -/
def State.readResult (s : State) (p : Fin 11) (m : Fin 8) : State × Word × Nat × Bool :=
  let x := s.ms.mod[m]
  let (t, fr) := s.fresh p m.val x.rsq
  (t, wordI x.res, x.rsq % 65536, fr)

/-- RDFIG (R202). -/
def State.rdfig (s : State) (c : Fin 9) (d : Fin 16) (w : Fin 16) (f : Fin 32) : State :=
  if !s.measRuns then s.setClu c fun k => ((k.put d 0).cf false).vf true
  else
    let (t, v, fr) := s.readFigure (coreReader c) w f
    t.setClu c fun k => ((k.put d v).cf fr).vf false

/-- RDRES (R203). While the region is gated the spec gives gd, the flags and FRESH, and no sequence number: it is free (DESIGN CHOICE, log entry
88). -/
def State.rdres (s : State) (c : Fin 9) (d : Fin 16) (m : Fin 8) : State :=
  let d1 : Fin 16 := ⟨(d.val + 1) % 16, by omega⟩
  if !s.measRuns then s.useFree.setClu c fun k => (((k.setG d1 (s.freeW &&& 0xFFFF)).put d 0).cf false).vf true
  else
    let (t, v, q, fr) := s.readResult (coreReader c) m
    t.setClu c fun k => (((k.setG d1 (wordN (q + bitAt fr 16))).put d v).cf fr).vf false

/-! ### SEND and FABRD (R205 to R207) -/

/-- The index of a work's send queue for a virtual channel. -/
def sendIdx (w : Fin 9) (vc : Bool) : Fin 18 := ⟨2 * w.val + vc.toNat, by have := vc.toNat_lt; omega⟩

/-- SEND (R206). -/
def State.sendMsg (s : State) (c w : Fin 9) (dst : Word) (pay : List Word) : State :=
  let node := fld dst 4 0
  let wk := fld dst 8 5
  let vc := bit dst 9
  let q := s.fab.sendQ[sendIdx w vc]
  if fld dst 15 10 ≠ 0 ∨ 8 < wk ∨ bit dst 31 then s.setClu c fun k => k.status stBadDesc
  else if node ≠ s.nodeId ∧ node ∉ s.fab.members then s.setClu c fun k => k.status stNoBase
  else if 4 ≤ q.length then s.setClu c fun k => k.status stFull
  else
    let f : Frame := ⟨0, vc, node, s.nodeId, wk, w.val, fld dst 31 16, s.fab.lun, pay, [], 0⟩
    ({ s with fab := { s.fab with sendQ := upd s.fab.sendQ (sendIdx w vc) fun l => l ++ [f] } } : State).setClu c fun k =>
      k.status stOk

/-- FABRD (R207). -/
def State.fabrd (s : State) (c : Fin 9) (d : Fin 16) (i : Fin 4) : State :=
  let pay := match s.clu[c].run with
    | some r => if r.cue.cue = 24 ∧ !r.exc then r.cue.pay else []
    | none => []
  s.setClu c fun k => (k.setG d (pay.getD i.val 0)).cf (decide (i.val < pay.length))

end Sys2Proof.Machine
end

