-- ==== Sys2Proof/Machine/Fabric.lean ====
section
/-! DEFINITION. The Saesh fabric: ports and links, records, line-up, delivery, system time, captaincy (R342 to R374). -/

namespace Sys2Proof.Machine

/-! ### Ranks, records and their issue (R351, R368) -/

/-- FAB_CFG.RANK. -/
def State.cfgRank (s : State) : Nat := s.rf Reg.fabCfg 0 5 4

/-- Another member of the same rank from 0 to 2 has a lower ID: this node counts as rank 3 (R368). -/
def State.rankDup (s : State) : Bool :=
  decide (s.cfgRank ≤ 2) && s.fab.recs.any fun r =>
    !r.bench && decide (r.id ∈ s.fab.members) && decide (r.rank = s.cfgRank) && decide (r.id < s.nodeId)

/-- Effective rank (R368). -/
def State.effRank (s : State) : Nat := if s.rankDup then 3 else s.cfgRank

/-- The node is eligible (R368). -/
def State.eligible (s : State) : Bool :=
  s.live && decide (s.effRank ≤ 2) && !s.fab.bench && s.rb Reg.whlxCfg 0 0

/-- The node's own link record (R351). -/
def State.selfRec (s : State) : LinkRec :=
  ⟨s.nodeId, !s.fab.bench, s.fab.bench, s.eligible, s.cfgRank, s.fab.capt, s.fab.cep, Config.serial, s.fab.rseq,
    (List.finRange 3).map fun r =>
      let p := s.fab.port[r]
      (p.peer, decide (p.st = .up) && !p.peerBench)⟩

/-- ID, RANK, BENCH and ELIG of a record as one number. -/
def LinkRec.gist (r : LinkRec) : Nat := r.id % 32 + r.rank % 4 * 32 + bitAt r.bench 7 + bitAt r.elig 8

/-- The payload of an LREC frame (R351). -/
def LinkRec.bytes (r : LinkRec) : List Nat :=
  [r.id % 32 + bitAt r.idv 5 + bitAt r.bench 6 + bitAt r.elig 7, r.rank % 4 + bitAt r.capt 2, r.cep % 256]
    ++ leBytes 8 r.serial.toNat ++ [r.rseq % 256] ++ r.ports.map fun p => p.1 % 32 + bitAt p.2 5

/-- Byte i of a payload. -/
def byteAt (bs : List Nat) (i : Nat) : Nat := bs.getD i 0 % 256

/-- The bytes from i as a little-endian number. -/
def bytesAt (bs : List Nat) (i n : Nat) : Nat := leNat ((List.range n).map fun j => byteAt bs (i + j))

/-- A record from the payload of an LREC frame. -/
def LinkRec.ofBytes (bs : List Nat) : LinkRec :=
  let b0 := byteAt bs 0
  let b1 := byteAt bs 1
  ⟨b0 % 32, b0.testBit 5, b0.testBit 6, b0.testBit 7, b1 % 4, b1.testBit 2, byteAt bs 2, BitVec.ofNat 64 (bytesAt bs 3 8),
    byteAt bs 11, (List.range 3).map fun i => (byteAt bs (12 + i) % 32, (byteAt bs (12 + i)).testBit 5)⟩

/-- The node issues a new record on every UP port (R351). -/
def State.newRecord (s : State) : State :=
  let s1 : State := { s with fab := { s.fab with rseq := (s.fab.rseq + 1) % 256, lubusy := true } }
  let r := s1.selfRec
  (({ s1 with fab := { s1.fab with issued := r.gist } } : State).flood 3 (s1.unitFrame 6 r.bytes))

/-- A change of ID, RANK, BENCH or ELIG issues a new record (R351). -/
def State.recheck (s : State) : State := if s.fabRuns && decide (s.selfRec.gist ≠ s.fab.issued) then s.newRecord else s

/-! ### Ports (R347 to R349) -/

/-- A receive buffer of the port a frame came in by is free once no output still holds the frame (R346, R349). -/
def State.freeBuffer (s : State) (inp : Nat) (f : Frame) : State :=
  if h : inp < 3 then
    let r : Fin 3 := ⟨inp, h⟩
    let waits := (List.finRange 3).any fun q => s.fab.port[q].out.any fun e => decide (e = (inp, f))
    if waits || decide (3 ≤ f.ft) then s
    else s.setPort r fun p => if f.vc then { p with freedA := (p.freedA + 1) % 256 } else { p with freedB := (p.freedB + 1) % 256 }
  else s

/-- A routed frame is discarded with its note (R357). -/
def State.dropFrame (s : State) (reason inp : Nat) (f : Frame) : State :=
  let s1 := if f.ft = 0 then s.fabDiscard reason f.dst f.dwork else s
  s1.freeBuffer inp f

/-- A port leaves HELLO or UP for DOWN (R348): from UP with its message, its count, its frames discarded and a new record. -/
def State.portDown (s : State) (r : Fin 3) (cause : Nat) : State :=
  let p := s.fab.port[r]
  let cleared : FPort := { FPort.reset with delay := p.delay, errs := p.errs }
  match p.st with
  | .down => s
  | .up =>
    let s1 := s.setPort r fun _ => cleared
    let s2 := (s1.bump Reg.fabPortErr r.val 31 16).emit 1 Kind.fabLinkDown (srcF r.val) (r.val + p.peer % 32 * 4 + cause * 128)
    let s3 := p.held.foldl (fun (t : State) (e : Nat × Frame × Nat) => t.dropFrame 2 3 e.2.1) s2
    (p.out.foldl (fun (t : State) (e : Nat × Frame) => t.dropFrame 2 e.1 e.2) s3).newRecord
  | _ => s.setPort r fun _ => cleared

/-- Ports whose enable or device state is gone leave for DOWN with cause 4h (R348, R355). -/
def State.portsCheck (s : State) : State :=
  (List.finRange 3).foldl (fun (t : State) (r : Fin 3) =>
    if t.fabRuns && t.rb Reg.fabCfg 0 (1 + r.val) then t else t.portDown r 4) s

/-- A link frame needs no credit. -/
def Frame.isLink (f : Frame) : Bool := decide (3 ≤ f.ft)

/-- A HELLO frame of the node (R345). -/
def State.helloFrame (s : State) : Frame :=
  s.unitFrame 5 ([s.nodeId % 32 + bitAt (!s.fab.bench) 5 + bitAt s.fab.bench 6, s.cfgRank] ++ leBytes 8 Config.serial.toNat)

/-- A port in HELLO or UP sends HELLO; the frame takes its turn at the output. -/
def State.helloOut (s : State) (r : Fin 3) : State :=
  if s.fab.port[r].st = .up ∨ s.fab.port[r].st = .hello then s.portPut r 3 s.helloFrame else s

/-- A benched node carries no routed or broadcast frame: those at its outputs go, a HELLO frame takes the LSEQ of one that is not
acknowledged, and no port of it is in the tree (R352; DESIGN CHOICE, log entry 57). -/
def State.benchPorts (s : State) : State :=
  (List.finRange 3).foldl (fun (t : State) (r : Fin 3) =>
    let gone := t.fab.port[r].out.filter fun e => !e.2.isLink
    gone.foldl (fun (u : State) (e : Nat × Frame) => u.freeBuffer e.1 e.2)
      (t.setPort r fun p => { p with
        out := p.out.filter fun e => e.2.isLink, held := p.held.map fun e => if e.2.1.isLink then e else (e.1, t.helloFrame, e.2.2),
        tree := if p.tree = 3 then 3 else 0 })) s

/-- Two packages hold one ID: the node yields to one of a lower serial; where none is, it reports the others as its records come to
hold the ID, told by news (R352). -/
def State.dupCheck (s : State) (news : Bool) : State :=
  let same := s.fab.recs.filter fun r => !r.bench && decide (r.id = s.nodeId) && decide (r.serial ≠ Config.serial)
  if s.fab.bench then s
  else
    match same.find? fun r => decide (r.serial.toNat < Config.serial.toNat) with
    | some r =>
      let old := s.sync
      let s1 : State := { s with fab := { s.fab with
        bench := true, benchBy := some (s.nodeId, r.serial), members := [], route := [], capt := false, capv := false, took := false,
        beacon := none, csync := if s.fab.capt then s.sync else s.fab.csync } }
      ((s1.benchPorts.newRecord.emit 1 Kind.fabDupId (srcF 0xF) (s.nodeId % 32 + 32)).emit 1 Kind.fabBenched (srcF 0xF) (s.nodeId % 32)).refollow old 0
    | none => if news && !same.isEmpty then s.emit 1 Kind.fabDupId (srcF 0xF) (s.nodeId % 32) else s

/-- A benched node leaves the bench when its ID is no longer the one it yielded or the other node is gone from its records; then it
compares again (R352). -/
def State.leaveBench (s : State) : State :=
  let stays := match s.fab.benchBy with
    | some b => decide (b.1 = s.nodeId) && s.fab.recs.any fun r => decide (r.serial = b.2)
    | none => false
  if !s.fab.bench || stays then s
  else (({ s with fab := { s.fab with bench := false, benchBy := none } } : State).newRecord).dupCheck true

/-- What follows a change of the device state, of FAB_CFG or of WHL0_CFG in the fabric. A node whose ID changes compares its records with
the new one (R352). -/
def State.fabFollow (s : State) : State :=
  let s1 := s.portsCheck
  let s2 := if s1.fabRuns && !s1.fab.bench && decide (s1.fab.issued % 32 ≠ s1.nodeId % 32) then s1.dupCheck true else s1.leaveBench
  s2.recheck

/-- PORT_TRAIN, PORT_HELLO and PORT_UP (R348, R349). -/
def State.portTrain (s : State) (r : Fin 3) : State :=
  if s.fab.port[r].st = .down ∧ s.fabRuns ∧ s.rb Reg.fabCfg 0 (1 + r.val) then s.setPort r fun p => { p with st := .train } else s
def State.portHello (s : State) (r : Fin 3) : State :=
  if s.fab.port[r].st = .train then s.setPort r fun p => { p with st := .hello } else s
def State.portUp (s : State) (r : Fin 3) : State :=
  if s.fab.port[r].st = .hello then
    (s.setPort r fun p => { p with
      st := .up, tree := if p.peerBench then 3 else 0, lseq := 0, expect := 0, held := [], crA := 4, crB := 8, freedA := 0,
      freedB := 0, seenA := 0, seenB := 0, nak := false, out := [], angRun := 0 }).newRecord
  else s

/-- No valid symbol for 40 symbol times: HELLO and UP go DOWN (R348). -/
def State.portSilence (s : State) (r : Fin 3) : State := if s.fab.port[r].st = .train then s else s.portDown r 1

/-- The code errors that are 256 symbols old at most, each symbol 25 ns (R342, R348). -/
def FPort.fresh (p : FPort) (now : Nat) : List (Nat × Nat) := p.errs.filter fun e => decide (now < e.1 + 1600)

/-- The code errors counted within the last 256 symbols (R348). -/
def FPort.errsAt (p : FPort) (now : Nat) : Nat := (p.fresh now).foldl (fun n e => n + e.2) 0

/-- Code errors at a port are counted, in every state of it (R382). -/
def State.codeErr (s : State) (r : Fin 3) (n : Nat) : State :=
  (s.setPort r fun p => { p with errs := p.fresh s.now ++ [(s.now, n)] }).setRf Reg.fabPortCode r.val 15 0
    (min 65535 (s.rf Reg.fabPortCode r.val 15 0 + n))

/-- HELLO goes back to TRAIN at a code error (R348). -/
def State.portRetrain (s : State) (r : Fin 3) : State := s.setPort r fun p => { p with st := .train, out := [] }

/-- Eight code or disparity errors within 256 symbols, those counted already among them: UP goes DOWN; HELLO goes back to TRAIN at the
first of them (R348, R382). -/
def State.portCodeErrors (s : State) (r : Fin 3) : State :=
  match s.fab.port[r].st with
  | .up => (s.codeErr r (8 - s.fab.port[r].errsAt s.now)).portDown r 2
  | .hello => (s.codeErr r 1).portRetrain r
  | _ => s.codeErr r (8 - s.fab.port[r].errsAt s.now)

/-- A whole frame with its LSEQ reaches an UP port: taken in order and numbered, else a NAK is due (R347). -/
def State.inOrder (s : State) (r : Fin 3) (seq : Fin 256) : State × Bool :=
  let p := s.fab.port[r]
  if p.st ≠ .up then (s, false)
  else if seq.val % 64 = p.expect then
    (({ s with fab := { s.fab with rxN := s.fab.rxN + 1 } } : State).setPort r fun p => { p with expect := (p.expect + 1) % 64 }, true)
  else (s.setPort r fun p => { p with nak := true }, false)

/-- A frame that is not whole (R343, R347). How many code errors are in it is a free value below eight, and a port that has met eight
within 256 symbols leaves UP, one that has met one leaves HELLO (R348, R382, log entry 55). -/
def State.badFrame (s : State) (r : Fin 3) : State :=
  let p := s.fab.port[r]
  let n := s.freeW.toNat % 8
  let s1 := (s.codeErr r n).useFree
  match p.st with
  | .up =>
    let s2 := s1.setPort r fun q => { q with nak := true }
    if 8 ≤ p.errsAt s.now + n then s2.portDown r 2 else s2
  | .hello => if n = 0 then s1 else s1.portRetrain r
  | _ => s1

/-- ACK is cumulative: it releases every frame up to the LSEQ it names, of those sent (R346, R347). -/
def State.ackTo (s : State) (r : Fin 3) (n : Nat) : State :=
  let waits (p : FPort) (l : Nat) : Bool := decide ((p.lseq + 64 - l % 64) % 64 ≤ (n % 64 + 64 - l % 64) % 64)
  s.setPort r fun p => { p with held := p.held.filter fun e => waits p e.1 }

/-- The stamp of an SOF that leaves a port now, in vernier steps of the local count (R138, R359). -/
def State.sofStamp (s : State) (r : Fin 3) : Nat := 16 * s.now + (Config.sofStep r.val s.now).val

/-- A DRSP as its SOF leaves: t2 and the stamp t3 in system time (R359). -/
def State.stampT3 (s : State) (r : Fin 3) (f : Frame) : Frame :=
  if f.ft = 4 then { f with bytes := f.bytes.take 6 ++ leBytes 6 (timeWord (s.sysAt (s.sofStamp r))) } else f

/-- The held frames from the one with an LSEQ onward leave again: their time stamps are those of the new SOFs (R347, R359). -/
def State.resend (s : State) (r : Fin 3) (n : Nat) : State :=
  let held := s.fab.port[r].held
  let again := held.dropWhile fun e => decide (e.1 ≠ n)
  let kept := held.takeWhile fun e => decide (e.1 ≠ n)
  let s1 : State := if again.any fun e => decide (e.2.1.ft = 3) then { s with fab := { s.fab with t1 := some (s.sofStamp r) } } else s
  s1.setPort r fun p => { p with held := kept ++ again.map fun e => (e.1, s.stampT3 r e.2.1, if e.1 = n then e.2.2 + 1 else e.2.2) }

/-- One retry of the held frame with an LSEQ: counted; the 8th that fails takes the port DOWN (R347). -/
def State.retryFrom (s : State) (r : Fin 3) (n : Nat) : State :=
  match s.fab.port[r].held.find? fun e => decide (e.1 = n) with
  | none => s
  | some e =>
    if 8 ≤ e.2.2 then s.portDown r 3
    else
      (s.resend r e.1).bump Reg.fabPortErr r.val 15 0

/-- ACK_TIMEOUT: the oldest unacknowledged frame. -/
def State.ackTimeout (s : State) (r : Fin 3) : State :=
  match s.fab.port[r].held with
  | [] => s
  | e :: _ => s.retryFrom r e.1

/-- CREDIT sets (R346, R349). -/
def State.creditA (s : State) (r : Fin 3) (n : Fin 256) : State :=
  if s.fab.port[r].st ≠ .up then s
  else s.setPort r fun p => { p with crA := p.crA + (n.val + 256 - p.seenA) % 256, seenA := n.val }
def State.creditB (s : State) (r : Fin 3) (n : Fin 256) : State :=
  if s.fab.port[r].st ≠ .up then s
  else s.setPort r fun p => { p with crB := p.crB + (n.val + 256 - p.seenB) % 256, seenB := n.val }

/-- The control sets go out: ACK and CREDIT say what the state holds, and a NAK that was due is sent. -/
def State.controlSets (s : State) (r : Fin 3) : State :=
  if s.fab.port[r].st = .up then s.setPort r fun p => { p with nak := false } else s

/-! ### Routes (R353, R356) -/

/-- The output port toward a member. -/
def State.routeTo (s : State) (dst : Nat) : Option (Fin 3) :=
  match s.fab.route.find? fun e => decide (e.1 = dst) with
  | some e => if h : e.2.1 < 3 then some ⟨e.2.1, h⟩ else none
  | none => none

/-- Hops to a member. -/
def State.hopsTo (s : State) (dst : Nat) : Nat :=
  match s.fab.route.find? fun e => decide (e.1 = dst) with
  | some e => e.2.2
  | none => 0

/-- The link of two records is reciprocated (R353). -/
def linkedRecs (a b : LinkRec) : Bool :=
  !a.bench && !b.bench && decide (a.id ≠ b.id) && a.ports.any (fun p => p.2 && decide (p.1 = b.id))
    && b.ports.any (fun p => p.2 && decide (p.1 = a.id))

/-- One step of a breadth-first search: entries are (ID, distance, parent). -/
def growTree (all : List LinkRec) (d : Nat) (acc : List (Nat × Nat × Nat)) : List (Nat × Nat × Nat) :=
  acc ++ all.filterMap fun (b : LinkRec) =>
    if acc.any (fun e => decide (e.1 = b.id)) then none
    else
      let near := all.filter fun a => linkedRecs a b && acc.any fun e => decide (e.1 = a.id) && decide (e.2.1 = d)
      match near with
      | [] => none
      | x :: t => some (b.id, d + 1, t.foldl (fun m y => min m y.id) x.id)

/-- The tree from a root over the reciprocated links. -/
def treeFrom (all : List LinkRec) (root : Nat) : List (Nat × Nat × Nat) :=
  (List.range 32).foldl (fun acc d => growTree all d acc) [(root, 0, root)]

/-- The path from a node up to the root, the node first. -/
def pathUp (tree : List (Nat × Nat × Nat)) : Nat → Nat → List Nat
  | 0, x => [x]
  | n + 1, x =>
    match tree.find? fun e => decide (e.1 = x) with
    | some e => if e.2.1 = 0 then [x] else x :: pathUp tree n e.2.2
    | none => [x]

/-- The tree neighbour toward a destination, and the hops to it. -/
def routeIn (tree : List (Nat × Nat × Nat)) (self dst : Nat) : Nat × Nat :=
  let up := pathUp tree 32 self
  let down := pathUp tree 32 dst
  let meet := (up.find? fun x => decide (x ∈ down)).getD self
  let below := down.takeWhile fun x => decide (x ≠ meet)
  let above := up.takeWhile fun x => decide (x ≠ meet)
  let next := if self = meet then below.getLast?.getD self else up.getD 1 self
  (next, below.length + above.length)

/-- The lowest UP port whose peer has an ID. -/
def State.portOf (s : State) (id : Nat) : Option (Fin 3) :=
  (List.finRange 3).find? fun r =>
    let p := s.fab.port[r]
    decide (p.st = .up) && p.peerV && !p.peerBench && decide (p.peer = id)

/-! ### Delivery (R357, R358) -/

/-- A message reaches its destination node. -/
def State.deliver (s : State) (f : Frame) : State :=
  if h : f.dwork < 9 then
    let w : Fin 9 := ⟨f.dwork, h⟩
    if !s.live then s.fabDiscard 4 f.dst f.dwork
    else if (s.carrier w).isNone then s.fabDiscard 3 f.dst f.dwork
    else
      s.raiseCue w ⟨24, wordN (f.src % 32 + f.swork % 16 * 32 + f.type % 65536 * 65536), f.pay.headD 0, s.now, s.now + cueCross 24, f.pay⟩
  else s.fabDiscard 3 f.dst f.dwork

/-- A message of a type that works exchange (R205, R358). -/
def Frame.userType (f : Frame) : Bool := decide (f.type < 0x8000)

/-- A MSG frame arrives in order: discarded, delivered, or put out toward its destination (R345, R356, R357). -/
def State.msgArrive (s : State) (r : Fin 3) (f : Frame) : State :=
  if s.fab.bench then s.freeBuffer r.val f
  else if f.lun ≠ s.fab.lun then s.dropFrame 1 r.val f
  else if f.dst = s.nodeId then
    let s1 := if f.userType then s.deliver f else s
    s1.freeBuffer r.val f
  else
    match s.routeTo f.dst with
    | some q => s.portPut q r.val f
    | none => s.dropFrame 5 r.val f

/-- A message to the own node leaves its send queue (R206, R357). -/
def State.ownMessage (s : State) (w : Fin 9) (vc : Bool) : State :=
  match s.fab.sendQ[sendIdx w vc] with
  | [] => s
  | f :: rest =>
    if f.dst ≠ s.nodeId then s
    else ({ s with fab := { s.fab with sendQ := upd s.fab.sendQ (sendIdx w vc) fun _ => rest } } : State).deliver f

/-! ### The choice at an output (R349) -/

/-- The head messages of the send queues on a VC that leave by a port. -/
def State.sendHeads (s : State) (r : Fin 3) (vc : Bool) : List (Fin 9) :=
  (List.finRange 9).filter fun w =>
    match s.fab.sendQ[sendIdx w vc] with
    | f :: _ => decide (f.dst ≠ s.nodeId) && decide (s.routeTo f.dst = some r)
    | [] => false

/-- What an output may send on a VC: an entry of its queue, or a work's message. -/
inductive Pick where
  | entry (inp : Nat) (f : Frame)
  | msg (w : Fin 9)

/-- The next work in turn after the one served last. -/
def nextWork (last : Nat) (ws : List (Fin 9)) : Option (Fin 9) :=
  ((List.range 9).map fun i => (last + 1 + i) % 9).findSome? fun n => ws.find? fun w => decide (w.val = n)

/-- The choice within a VC: the three inputs and the own path take turns; on the own path unit frames go first. -/
def State.pickVc (s : State) (r : Fin 3) (vc : Bool) : Option Pick :=
  let p := s.fab.port[r]
  let credit := decide (0 < if vc then p.crA else p.crB)
  let may (f : Frame) : Bool := decide (f.vc = vc) && (f.isLink || credit)
  let from_ (i : Nat) : Option Pick :=
    match p.out.find? fun e => decide (e.1 = i) && may e.2 with
    | some e => some (.entry e.1 e.2)
    | none =>
      if i = 3 ∧ credit then (nextWork (if vc then p.wturnA else p.wturnB) (s.sendHeads r vc)).map Pick.msg else none
  ((List.range 4).map fun i => ((if vc then p.turnA else p.turnB) + 1 + i) % 4).findSome? from_

/-- FRAME_FORWARD: the frame that goes next leaves the output (R346, R347, R349, R354, R359). In HELLO the frames are HELLO frames,
which are repeated and not kept for an ACK (R348). -/
def State.forward (s0 : State) (r : Fin 3) : State :=
  let s := s0.asegFlush
  let p := s.fab.port[r]
  if p.st = .hello then s.setPort r fun q => { q with out := q.out.tail }
  else if p.st ≠ .up ∨ 8 ≤ p.held.length then s
  else
    let ang := s.pickVc r true
    let blk := s.pickVc r false
    let useAng := ang.isSome && !(decide (3 ≤ p.angRun) && blk.isSome)
    let choice := if useAng then ang else blk
    let send (t : State) (inp : Nat) (f : Frame) : State :=
      let t1 : State := if f.ft = 3 then { t with fab := { t.fab with t1 := some (t.sofStamp r) } } else t
      t1.setPort r fun q => { q with
        held := q.held ++ [(q.lseq, t.stampT3 r f, 0)], lseq := (q.lseq + 1) % 64,
        turnA := if f.vc then inp else q.turnA, turnB := if f.vc then q.turnB else inp,
        crA := if f.vc && !f.isLink then q.crA - 1 else q.crA, crB := if !f.vc && !f.isLink then q.crB - 1 else q.crB,
        angRun := if f.vc then (if blk.isSome then q.angRun + 1 else 0) else 0 }
    match choice with
    | none => s
    | some (.entry inp f) =>
      (send (s.setPort r fun q => { q with out := q.out.erase (inp, f) }) inp f).freeBuffer inp f
    | some (.msg w) =>
      match s.fab.sendQ[sendIdx w useAng] with
      | [] => s
      | f :: rest =>
        let s1 : State := { s with fab := { s.fab with sendQ := upd s.fab.sendQ (sendIdx w useAng) fun _ => rest } }
        (send s1 3 { f with lun := s.fab.lun }).setPort r fun q =>
          { q with wturnA := if useAng then w.val else q.wturnA, wturnB := if useAng then q.wturnB else w.val }

/-! ### HELLO (R345, R348) -/

/-- HELLO arrives: the port knows its peer. -/
def State.helloIn (s : State) (r : Fin 3) (seq : Fin 256) (id : Fin 32) (idv bench : Bool) (rank : Fin 4) : State :=
  let learn (t : State) : State := t.setPort r fun p => { p with
    peer := id.val, peerIdv := idv, peerBench := bench, peerRank := rank.val, peerV := true,
    tree := if bench then 3 else if p.tree = 3 then 0 else p.tree }
  match s.fab.port[r].st with
  | .hello => learn s
  | .up =>
    match s.inOrder r seq with
    | (t, true) => learn t
    | (t, false) => t
  | _ => s

/-! ### Captaincy (R368 to R374) -/

/-- a is a higher CEP than b (R371). -/
def cepHigher (a b : Nat) : Bool := let d := (a + 256 - b) % 256; decide (1 ≤ d) && decide (d ≤ 127)

/-- The order of captains: higher CEP, then lower rank, then lower ID (R370). -/
def capBetter (a b : Nat × Nat × Nat) : Bool :=
  if cepHigher a.1 b.1 then true
  else if cepHigher b.1 a.1 then false
  else decide (a.2.1 < b.2.1) || (decide (a.2.1 = b.2.1) && decide (a.2.2 < b.2.2))

/-- The BEACON payload (R369). -/
def State.beaconBytes (s : State) : List Nat :=
  let dev : Nat := match s.sys.st with
    | .off => 0 | .selftest => 1 | .sidelines => 2 | .ready => 3 | .run => 4 | .standby => 5 | .lockout => 6
  let hand := match s.fab.hand with
    | some h => h.1
    | none => 0
  [s.nodeId % 32 + s.effRank % 4 * 32 + bitAt (s.fab.resign || !s.live) 7, s.fab.cep % 256] ++ leBytes 2 s.fab.bseq
    ++ [s.whl.sync.code + bitAt s.whl.rev 2 + dev * 8 + bitAt s.fab.hand.isSome 6, hand % 32] ++ leBytes 8 Config.serial.toNat

/-- The captain sends a BEACON; leaving READY or RUN sets RESIGN (R369). -/
def State.beaconOut (s : State) : State :=
  if !(s.fab.capt && s.fabRuns) then s
  else
    let s1 := s.broadcast 3 (s.unitFrame 1 s.beaconBytes)
    { s1 with fab := { s1.fab with
      resign := s.fab.resign || !s.live, seenB := notePassed s.fab.seenB (s.fab.cep, s.fab.bseq), bseq := (s.fab.bseq + 1) % 65536 } }

/-- The node becomes captain (R370, R373); top: the highest CEP in view. Its TOOTH counts as FULL where it has a HALF to carry: at a
takeover from a captain, in a local state other than NOSYNC (DEDUCED, log entry 58). -/
def State.takeCaptaincy (s : State) (top cause : Nat) : State :=
  let old := s.sync
  let prev := s.fab.capid
  let cep := (top + 1) % 256
  let s1 : State := { s with fab := { s.fab with
    capt := true, capid := s.nodeId, capv := true, cep := cep, hand := none, resign := false, beacon := none, hold := none,
    fellAt := none, resignAt := none, capFell := s.fab.capFell || decide (old = .full),
    took := decide (s.whl.sync ≠ .nosync) && (decide (cause ≠ 4) || s.fab.capv) } }
  let s2 := (s1.emit 1 Kind.fabTakeover (srcF 0xF) (prev % 32 + cep * 32 + cause * 8192)).hostEvent 1 2
  (s2.refollow old 0).beaconOut

/-- The node follows a captain (R370), and ends its own captaincy; what a beacon of another captain told no longer counts. -/
def State.yieldTo (s : State) (id cep : Nat) : State :=
  let same := s.fab.capv && decide (s.fab.capid = id)
  { s with fab := { s.fab with
      capt := false, capid := id, capv := true, cep := cep, hand := none, resign := false, hold := none, took := false, capAt := s.now,
      beacon := if same then s.fab.beacon else none, fellAt := if same then s.fab.fellAt else none,
      resignAt := if same then s.fab.resignAt else none,
      csync := if s.fab.capt then s.sync else s.fab.csync } }

/-- The holdover conditions of R366. -/
def State.holdOk (s : State) : Bool :=
  s.fab.hold.isSome || (decide (s.fab.csync = .full) && s.fab.dv && (decide (s.whl.sync = .tooth) || decide (s.whl.sync = .full))
    && s.whl.ratev && decide (s.holdMax ≠ 0))

/-- A reserve of rank 1 or 2 that is eligible (R372). -/
def State.reserveRank (s : State) : Option Nat :=
  if s.eligible && (decide (s.effRank = 1) || decide (s.effRank = 2)) && !s.fab.capt then some s.effRank else none

/-- What a beacon tells of the present captain: freshness, loss of FULL, RESIGN and HAND (R365, R372, R374). -/
def State.beaconFollow (s : State) (b : BeaconRec) : State :=
  let old := s.sync
  let same := s.fab.capv && decide (s.fab.capid = b.id) && decide (s.fab.cep = b.cep)
  let s0 := if s.fab.capt then s.yieldTo b.id b.cep else s
  let wasFull := match s0.fab.beacon with
    | some x => same && (decide (x.sync = 3) || s0.fab.fellAt.isSome)
    | none => false
  let low := decide (b.sync = 0) || decide (b.sync = 2)
  let s1 : State := { s0 with fab := { s0.fab with
    capid := b.id, capv := true, cep := b.cep, beacon := some b,
    fellAt := if low && wasFull then some (if same then s0.fab.fellAt.getD s.now else s.now) else none,
    resignAt := if b.resign then some (if same then s0.fab.resignAt.getD s.now else s.now) else none } }
  let s2 := s1.refollow old 0
  let asked := match b.hand with
    | some t => decide (t = s2.nodeId)
    | none => false
  if asked && s2.eligible && !s2.fab.capt && decide (s2.fab.csync = .full) && s2.fab.hold.isNone then s2.takeCaptaincy b.cep 5
  else if b.resign && decide (s2.reserveRank = some 1) && s2.holdOk then s2.takeCaptaincy b.cep 2
  else s2

/-- A BEACON from its payload. -/
def beaconOf (bs : List Nat) (ts : Nat) : BeaconRec :=
  let b0 := byteAt bs 0
  let b4 := byteAt bs 4
  ⟨b0 % 32, b0 / 32 % 4, b0.testBit 7, byteAt bs 1, bytesAt bs 2 2, b4 % 4, b4.testBit 2, b4 / 8 % 8,
    if b4.testBit 6 then some (byteAt bs 5 % 32) else none, ts⟩

/-- A broadcast frame of a payload and a source node as passed on. -/
def State.castFrame (s : State) (ft src : Nat) (bs : List Nat) : Frame := { s.unitFrame ft bs with src := src, tag := s.fab.rxN }

/-- A BEACON arrives (R356, R370, R372, R374). -/
def State.beaconIn (s0 : State) (r : Fin 3) (seq : Fin 256) (bs : List Nat) (ts : Nat) : State :=
  match s0.inOrder r seq with
  | (t, false) => t
  | (t, true) =>
    let s := t.advanceTo ts
    let b := beaconOf bs s.now
    let f := s.castFrame 1 b.id bs
    if s.fab.bench || decide ((b.cep, b.bseq) ∈ s.fab.seenB) then s.freeBuffer r.val f
    else
      let s1 := (({ s with fab := { s.fab with seenB := notePassed s.fab.seenB (b.cep, b.bseq) } } : State).broadcast r.val f).freeBuffer r.val f
      let mine : Nat × Nat × Nat :=
        if s1.fab.capt then (s1.fab.cep, s1.effRank, s1.nodeId)
        else (s1.fab.cep, (match s1.fab.beacon with
          | some x => if x.id = s1.fab.capid then x.rank else 3
          | none => 3), s1.fab.capid)
      let present := s1.fab.capv && !s1.fab.capt && decide (s1.fab.capid = b.id) && !cepHigher s1.fab.cep b.cep
      if present || !s1.fab.capv || capBetter (b.cep, b.rank, b.id) mine then s1.beaconFollow b else s1

/-- An ASEG arrives: the captain's newest segment (R356, R361). Its payload names neither its source nor a CEP: those of the captain
followed stand for them (DESIGN CHOICE, log entry 57). -/
def State.asegIn (s0 : State) (r : Fin 3) (seq : Fin 256) (bs : List Nat) : State :=
  match s0.inOrder r seq with
  | (t, false) => t
  | (s, true) =>
    let q := bytesAt bs 18 2
    let f := s.castFrame 2 s.fab.capid bs
    if s.fab.bench || decide ((s.fab.cep, q) ∈ s.fab.seenS) then s.freeBuffer r.val f
    else
      let x := bytesAt bs 4 6
      let c : CapSeg := ⟨(bytesAt bs 0 4 : Nat), wordTime x, bytesAt bs 10 4, sx 32 (bytesAt bs 14 4), x / 2 ^ 44 % 4,
        x.testBit 46, q⟩
      let s1 := (({ s with fab := { s.fab with seenS := notePassed s.fab.seenS (s.fab.cep, q) } } : State).broadcast r.val f).freeBuffer r.val f
      if s1.fab.capt then s1 else { s1 with fab := { s1.fab with seg := some c } }

/-- The captain's beacon went stale, or its loss of FULL or its RESIGN has lasted CAPTO; the rank 2 reserve waits twice CAPTO from the
last beacon, or from the loss of FULL while beacons tell of it (R365, R372). A captain of whom no beacon came yet is timed from the
TCLK in which it became known (log entry 58). -/
def State.captainLate (s : State) : State :=
  if s.fab.capt || !s.fab.capv || !s.fabRuns then s
  else
    let heard := match s.fab.beacon with
      | some b => b.ts
      | none => s.fab.capAt
    let old := s.sync
    let to_ := s.capTo
    let from_ := match s.fab.resignAt, s.fab.fellAt with
      | some t, _ => t
      | none, some t => t
      | none, none => heard
    let stale := heard + to_
    let first := min stale (from_ + to_)
    let rank2 := match s.fab.resignAt, s.fab.fellAt with
      | some t, _ => t + to_
      | none, some t => if t + 2 * to_ < stale then t + 2 * to_ else stale + to_
      | none, none => stale + to_
    let later := if s.reserveRank = some 1 then stale else rank2
    let s1 := s.advanceTo (if first ≤ s.now then later else first)
    let s2 := s1.refollow old 0
    let lost := if s2.reserveRank = some 1 then stale else stale + to_
    let cause : Nat := if lost ≤ s1.now then 1 else if s.fab.resignAt.isSome then 2 else 3
    match s2.reserveRank with
    | some 1 => if cause = 1 || s2.holdOk then s2.takeCaptaincy s2.fab.cep cause else s2
    | some _ => if rank2 ≤ s2.now then s2.takeCaptaincy s2.fab.cep cause else s2
    | none => s2

/-- HOLDMAX passes in holdover (R366). -/
def State.holdoverEnd (s : State) : State :=
  match s.fab.hold with
  | none => s
  | some t =>
    let s1 := s.advanceTo (t + s.holdMax * 250000)
    let old := s1.sync
    let s2 : State := { s1 with fab := { s1.fab with hold := none, csync := .nosync, dv := false, dvN := 0, diffRun := 0, capFell := false } }
    s2.syncMoved old 9

/-- HANDOVER at the captain, its lapse, and DIFFCLR (R364, R374). -/
def State.handoverCmd (s : State) (tgt : Nat) : State :=
  if s.fab.capt then { s with fab := { s.fab with hand := some (tgt, s.now + 25000) } } else s
def State.handoverLapse (s : State) : State :=
  match s.fab.hand with
  | none => s
  | some h =>
    if !s.fab.capt || !s.fabRuns then s
    else
      let s1 := s.advanceTo h.2
      ((({ s1 with fab := { s1.fab with hand := none } } : State).emit 1 Kind.fabTakeover (srcF 0xF)
        (s.fab.capid % 32 + s.fab.cep * 32 + 7 * 8192)).hostEvent 1 2)
def State.diffClear (s : State) : State :=
  ({ s with fab := { s.fab with diffstop := false } } : State).refollow s.sync 0

/-! ### System time (R359) -/

/-- The port toward the captain. -/
def State.towardCaptain (s : State) : Option (Fin 3) :=
  if s.fab.capt || !s.fab.capv || s.fab.bench then none else s.routeTo s.fab.capid

/-- TIME_EXCHANGE: a DREQ toward the captain. -/
def State.timeExchange (s : State) : State :=
  match s.towardCaptain with
  | some r => if s.fab.port[r].st = .up then s.portPut r 3 (s.unitFrame 3 []) else s
  | none => s

/-- A DREQ arrives at a stamp in vernier steps and is answered; t3 goes in as the answer is sent. -/
def State.dreqIn (s0 : State) (r : Fin 3) (seq : Fin 256) (ts : Nat) : State :=
  match s0.inOrder r seq with
  | (t, false) => t
  | (t, true) =>
    let s := t.advanceTo (ts / 16)
    if s.fab.bench then s else s.portPut r 3 (s.unitFrame 4 (leBytes 6 (timeWord (s.sysAt ts))))

/-- A DRSP arrives: delay, error, offset and rate (R359). -/
def State.drspIn (s0 : State) (r : Fin 3) (seq : Fin 256) (bs : List Nat) (ts : Nat) : State :=
  match s0.inOrder r seq with
  | (t, false) => t
  | (t, true) =>
    let s := t.advanceTo (ts / 16)
    match s.fab.t1 with
    | none => s
    | some t1 =>
      if s.towardCaptain ≠ some r then s
      else
        let t2 : Nat := wordTime (bytesAt bs 0 6)
        let t3 : Nat := wordTime (bytesAt bs 6 6)
        let span : Int := ((ts : Int) - (t1 : Int)) - (((t3 : Int) - (t2 : Int)) % 2 ^ 44)
        let delay := roundQ ((span : Rat) / 2)
        let err := wrapHalf (2 ^ 44) ((t3 : Int) + delay - (s.sysAt ts : Int))
        let period : Nat := nearer 10 1000 (s.rf Reg.fabTime 0 9 0) * 4000
        let rate := s.fab.rate + (err : Rat) / (64 * period)
        let lim : Rat := 250 / 1000000
        let rate1 := if rate < -lim then -lim else if lim < rate then lim else rate
        let s1 := s.setPort r fun p => { p with delay := delay }
        { s1 with fab := { s1.fab with
          off := (s.sysAt ts : Int) - (ts : Int) + roundQ ((err : Rat) / 4), rate := rate1, base := ts, t1 := none,
          terr := clampI (-32768) 32767 err } }

/-! ### Records and line-up (R351 to R354, R370) -/

/-- A record arrives (R351, R352); the rank it claims may change this node's eligibility (R368). -/
def State.lrecIn (s0 : State) (r : Fin 3) (seq : Fin 256) (bs : List Nat) : State :=
  match s0.inOrder r seq with
  | (t, false) => t
  | (s, true) =>
    let x := LinkRec.ofBytes bs
    let newer := match s.fab.recs.find? fun y => decide (y.serial = x.serial) with
      | some y => let d := (x.rseq + 256 - y.rseq) % 256; decide (1 ≤ d) && decide (d < 128)
      | none => true
    if x.serial = Config.serial ∨ !newer then s
    else
      let s1 : State := { s with fab := { s.fab with
        recs := s.fab.recs.filter (fun y => decide (y.serial ≠ x.serial)) ++ [x], lubusy := true } }
      let dup (y : LinkRec) : Bool := !y.bench && decide (y.id = s.nodeId) && decide (y.serial = x.serial)
      ((s1.flood r.val (s1.unitFrame 6 bs)).dupCheck (dup x && !s.fab.recs.any dup)).recheck

/-- The effective rank of a record among members (R368). -/
def rankAmong (all : List LinkRec) (r : LinkRec) : Nat :=
  if r.rank ≤ 2 ∧ all.any (fun x => decide (x.rank = r.rank) && decide (x.id < r.id)) then 3 else r.rank

/-- The better of two candidates by CEP, rank and ID. -/
def bestRec (all : List LinkRec) (best : Option LinkRec) (r : LinkRec) : Option LinkRec :=
  match best with
  | none => some r
  | some b => if capBetter (r.cep, rankAmong all r, r.id) (b.cep, rankAmong all b, b.id) then some r else some b

/-- The captain of a commit: the member and whether it is new (R370). -/
def electCaptain (all : List LinkRec) : Option (LinkRec × Bool) :=
  match (all.filter (·.capt)).foldl (bestRec all) none with
  | some r => some (r, false)
  | none =>
    let can := all.filter fun r => r.elig && decide (rankAmong all r ≤ 2)
    let pick (best : Option LinkRec) (r : LinkRec) : Option LinkRec :=
      match best with
      | none => some r
      | some b =>
        if rankAmong all r < rankAmong all b ∨ (rankAmong all r = rankAmong all b ∧ r.id < b.id) then some r else some b
    (can.foldl pick none).map fun r => (r, true)

/-- The highest CEP among members. -/
def topCep (all : List LinkRec) (own : Nat) : Nat := all.foldl (fun m r => if cepHigher r.cep m then r.cep else m) own

/-- Records reachable over UP ports of any node, for a benched node, whose links are not reciprocated (R352). -/
def benchReach (all : List LinkRec) : Nat → List Nat → List Nat
  | 0, seen => seen
  | n + 1, seen =>
    benchReach all n (seen ++ (all.filter fun r => decide (r.id ∈ seen)).flatMap fun r => (r.ports.filter (·.2)).map (·.1))

/-- The records as this node knows the captaincy: a captaincy starts no new record, so the captain whose fresh beacons it follows counts
as one with CAPT = 1 and its CEP (DEDUCED from R491, log entry 58). -/
def State.knownCaptain (s : State) (all : List LinkRec) : List LinkRec :=
  if s.fab.capt || s.freshBeacon.isNone then all
  else all.map fun r => if r.id = s.fab.capid ∧ r.id ≠ s.nodeId then { r with capt := true, cep := s.fab.cep } else r

/-- The captaincy after a commit (R370): who it is, and what changes at this node. The choice of a captain that this node follows already
leaves its CEP as it is (log entry 58). -/
def State.settleCaptain (s : State) (all : List LinkRec) : State :=
  let old := s.sync
  match electCaptain (s.knownCaptain all) with
  | none =>
    let s1 : State := { s with fab := { s.fab with
      capt := false, capv := false, took := false, beacon := none, csync := if s.fab.capt then s.sync else s.fab.csync } }
    s1.refollow old 0
  | some (r, isNew) =>
    if r.id = s.nodeId then (if isNew then s.takeCaptaincy (topCep all s.fab.cep) 4 else s)
    else
      let follows := s.fab.capv && !s.fab.capt && decide (s.fab.capid = r.id)
      let cep := if !isNew then r.cep else if follows then s.fab.cep else (topCep all s.fab.cep + 1) % 256
      if follows && decide (s.fab.cep = cep) then s
      else (s.yieldTo r.id cep).refollow old 0

/-- LINEUP_COMMIT (R353, R354). -/
def State.commitLineup (s : State) : State :=
  if !s.fabRuns || !s.fab.lubusy then s
  else if s.fab.bench then
    let near := (List.finRange 3).filterMap fun r => if s.fab.port[r].st = .up ∧ s.fab.port[r].peerV then some s.fab.port[r].peer else none
    let ids := benchReach s.fab.recs 32 near
    ({ s with fab := { s.fab with lubusy := false, recs := s.fab.recs.filter fun r => decide (r.id ∈ ids) } } : State).leaveBench
  else
    let self := s.selfRec
    let all0 := self :: s.fab.recs.filter fun r => !r.bench
    let ids := (treeFrom all0 self.id).map (·.1)
    let all := all0.filter fun r => decide (r.id ∈ ids)
    let lun := (all.foldl (fun n r => n + r.rseq) 0 + all.length) % 256
    let root := all.foldl (fun m r => min m r.id) self.id
    let tree := treeFrom all root
    let route := (ids.filter fun x => decide (x ≠ self.id)).filterMap fun x =>
      let (next, hops) := routeIn tree self.id x
      (s.portOf next).map fun r => (x, r.val, hops)
    let parent := (tree.find? fun e => decide (e.1 = self.id)).map (·.2.2)
    let treeCode (r : Fin 3) (p : FPort) : Nat :=
      if p.peerBench then 3
      else if p.st ≠ .up ∨ s.portOf p.peer ≠ some r then 0
      else if self.id ≠ root ∧ parent = some p.peer then 1
      else if tree.any fun e => decide (e.1 = p.peer) && decide (e.2.2 = self.id) && decide (e.1 ≠ root) then 2
      else 0
    let s1 : State := { s with fab := { s.fab with
      lun := lun, members := ids, route := route, lubusy := false, recs := s.fab.recs.filter fun r => all.any fun x => decide (x.serial = r.serial) } }
    let s2 := (List.finRange 3).foldl (fun (t : State) (r : Fin 3) => t.setPort r fun p => { p with tree := treeCode r p }) s1
    -- routed frames of another line-up, a HELLO frame taking the LSEQ of one that is not acknowledged (R347; DESIGN CHOICE, log entry 57),
    -- and queued messages to nodes that are no members
    let stale (e : Nat × Frame) : Bool := decide (e.2.ft = 0) && decide (e.2.lun ≠ lun)
    let s3 := (List.finRange 3).foldl (fun (t : State) (r : Fin 3) =>
      let bad := t.fab.port[r].out.filter stale
      let held := t.fab.port[r].held.filter fun e => stale (3, e.2.1)
      let t1 := t.setPort r fun p => { p with
        out := p.out.filter fun e => !stale e, held := p.held.map fun e => if stale (3, e.2.1) then (e.1, t.helloFrame, e.2.2) else e }
      (bad ++ held.map fun (e : Nat × Frame × Nat) => (3, e.2.1)).foldl (fun (u : State) (e : Nat × Frame) => u.dropFrame 1 e.1 e.2) t1) s2
    let s4 := (List.finRange 18).foldl (fun (t : State) (i : Fin 18) =>
      let gone (f : Frame) : Bool := decide (f.dst ∉ ids)
      let bad := t.fab.sendQ[i].filter gone
      let t1 : State := { t with fab := { t.fab with sendQ := upd t.fab.sendQ i fun q => q.filter fun f => !gone f } }
      bad.foldl (fun (u : State) (f : Frame) => u.fabDiscard 5 f.dst f.dwork) t1) s3
    let dup := s4.rankDup
    let s5 := if dup then s4.emit 0 Kind.fabRankDup (srcF 0xF) (s4.nodeId % 32 + s4.cfgRank * 32) else s4
    -- the node's own eligibility is that of the new line-up (R368, R370)
    let s6 := s5.settleCaptain (all.map fun r => if r.serial = self.serial then s5.selfRec else r)
    let mask := ids.foldl (fun m i => m ||| 2 ^ (i % 32)) 0
    let word1 := lun + s6.fab.capid % 32 * 256 + bitAt s6.fab.capv 13 + s6.fab.cep * 2 ^ 14
    let from_ := s6.freeW.toNat % 16 * 32
    let s7 := s6.liveWorks.foldl (fun (t : State) (w : Fin 9) =>
      if t.work[w].cueEn.getLsbD 24 then
        t.raiseCue w ⟨24, wordN (t.nodeId % 32 + from_ + 0x8001 * 65536), wordN mask, t.now, t.now + cueCross 24, [wordN mask, wordN word1]⟩
      else t) s6.useFree
    let s8 := (s7.emit 0 Kind.fabLineup (srcF 0xF) (lun + ids.length % 64 * 256 + s7.fab.capid % 32 * 2 ^ 14 + bitAt s7.fab.capv 19)).hostEvent 1 2
    s8.recheck

end Sys2Proof.Machine
end

