-- ==== Sys2Proof/Machine/Collect.lean ====
section
/-! DEFINITION. The fault collector, the shot clock, LOCKOUT and the release; the transfers of the two die links (R16 to R18,
R37 to R39, R415 to R425). -/

namespace Sys2Proof.Machine

/-! ### Acceptance (R416 to R421, R425) -/

/-- a is accepted before b: class, then emission, then SOURCE (R416). -/
def Msg.before (a b : Msg) : Bool :=
  if a.cls ≠ b.cls then decide (b.cls < a.cls)
  else if a.at_ ≠ b.at_ then decide (a.at_ < b.at_)
  else decide (a.src < b.src)

/-- The messages that have reached the collector's inputs or are on their way over a crossing. -/
def Collector.coming (c : Collector) : List Msg := (c.outbox ++ c.kept).filter fun m => !m.ddl

/-- The message accepted next at a TCLK. -/
def Collector.pick (c : Collector) (now : Nat) : Option Msg :=
  let first (best : Option Msg) (m : Msg) : Option Msg :=
    match best with
    | none => some m
    | some b => if m.before b then some m else some b
  ((c.coming.filter fun m => decide (m.ready ≤ now)).foldl first none)

/-- Store an accepted message; the Bool says that one was not stored (R417). -/
def fifoPut (e : Entry) (l : List Entry) : List Entry × Bool :=
  if l.length < 64 then (l ++ [e], false)
  else if e.msg.cls = 0 then (l, true)
  else
    match l.reverse.find? fun x => decide (x.msg.cls < e.msg.cls) with
    | some old => (l.map fun x => if x = old then e else x, false)
    | none => (l, true)

/-- LIMIT in TCLK (R440). -/
def State.shotLimit (s : State) : Nat := nearer 100 100000 (s.rf Reg.fltShot 0 16 0) * 250

/-- The counters of R416 and of the maintenance port (R405). -/
def State.countMsg (s : State) (cls : Nat) : State :=
  let t := match cls with
    | 0 => s.bump Reg.fltCnt01 0 15 0
    | 1 => s.bump Reg.fltCnt01 0 31 16
    | 2 => s.bump Reg.fltCnt23 0 15 0
    | _ => s.bump Reg.fltCnt23 0 31 16
  let i : Fin 4 := ⟨cls % 4, by omega⟩
  let m := t.mnt
  let hit := decide (m.afcls % 4 ≤ cls)
  let rise := hit && !m.astat.testBit 0
  let u := if hit then t.hw astatKey 1 else t
  { u with mnt := { m with
      fcnt := upd m.fcnt i fun n => min 255 (n + 1)
      astat := if rise then m.astat + 1 else m.astat
      latch := m.latch || (rise && m.aen.testBit 0) } }

/-- LOCKOUT (R425). The device leaves READY or RUN, so the sync state drops to NOSYNC (R63, R64; DEDUCED, log entry 22). Out of
the self-test of a wake the timers get their settings back first (R329, R330). -/
def State.lockout (s : State) : State :=
  if s.sys.st = .lockout then s.pkgSafe fun c => { c with cGrave := true }
  else
    let s1 := s.pkgSafe fun c => { c with cGrave := true, cState := true, relPend := false }
    let s2 := if s1.ao.kept = [] then s1 else s1.tmrRestore
    ((s2.bistStop.stopAll.hostDrop.toState .lockout).jigHolds.fabFollow)

/-- The class action of R419, R420 and DRV_SAFE. A class-2 message goes before an FLT_ACK of its SVCLK, so a clock that the ACK stopped runs
on from its start. -/
def State.classAction (s : State) (e : Entry) : State :=
  let s1 :=
    if e.msg.cls < 2 then s
    else
      let start := s.coll.shot.isNone && !s.coll.safe
      let from_ := (s.coll.acked.filter fun x => decide (x.1 = s.svclk)).map (·.2)
      (s.setColl fun c => { c with
        last2 := if e.msg.cls = 2 then e.seq else c.last2
        shot := if start && decide (e.msg.cls = 2) then some (from_.getD (s.now, 0)).1 else c.shot
        shotBy := if start && decide (e.msg.cls = 2) then (from_.getD (0, e.seq)).2 else c.shotBy }).ringsFreeze
  let s2 := if e.msg.src / 1024 = 1 ∧ e.msg.kind = Kind.drvSafe then s1.pkgSafe fun c => { c with cDrv := true } else s1
  if e.msg.cls < 3 then s2
  else
    let s3 := if e.msg.kind = Kind.safeLine ∧ e.msg.src = srcColl then s2.setColl fun c => { c with safeLineSeen := true } else s2
    s3.lockout

/-- The TCLK of the next acceptance: one in each SVCLK, and no sooner than a message has arrived (R21, R416). -/
def State.acceptAt (s : State) : Option Nat :=
  let free := match s.coll.lastAcc with
    | some x => if x.at_ = s.svclk then 2 * s.svclk + 2 else s.now
    | none => s.now
  match s.coll.coming with
  | [] => none
  | m :: t => some (max free (t.foldl (fun n x => min n x.ready) m.ready))

/-- A message is accepted: stored, counted and given SEQ, and its class acts (R416, R417, R419). A residue injected into the collector
fails with it (R414, R439; log entry 78). -/
def State.take1 (s0 : State) (m : Msg) : State :=
  let s := (List.range 3).foldl (fun (t : State) i => t.unflip (headKey s0.coll.seq i)) s0
  let e : Entry := ⟨m, s.coll.seq, s.now⟩
  let (fifo, lost) := fifoPut e s.coll.fifo
  let s1 := s.setColl fun c => { c with
    outbox := c.outbox.erase m, kept := if m ∈ c.outbox then c.kept else c.kept.erase m,
    fifo := fifo, seq := (c.seq + 1) % 4096, lastMsg := some e,
    lastAcc := some ⟨s.svclk, c.fifo, lost && decide (s.rf Reg.fltStat 0 15 8 < 255)⟩ }
  let s2 := if lost then s1.bump Reg.fltStat 0 15 8 else s1
  let s3 := (s2.countMsg m.cls).classAction e
  if srcColl ∈ s3.inj.residue then
    ({ s3 with inj := { s3.inj with residue := s3.inj.residue.erase srcColl } } : State).emit 3 Kind.collFault srcColl 0
  else s3

/-- One acceptance; with nothing at the inputs yet, at the TCLK at which the first message on its way arrives, that of a trace record
turned away included (R21, R288, R416). -/
def State.accept (s0 : State) : State :=
  let bound := match s0.acceptAt with
    | some n => n
    | none => s0.trc.coming.foldl (fun n x => max n x.1) s0.now
  let s := s0.traceBy bound
  match s.acceptAt with
  | none => s0.traceNow
  | some n =>
    let t := s.advanceTo n
    match t.coll.pick t.now with
    | none => t
    | some m => t.take1 m

/-- The shot clock reaches LIMIT as it stands (R421). -/
def State.shotExpire (s : State) : State :=
  match s.coll.shot with
  | none => s
  | some t =>
    let s1 := s.advanceTo (t + s.shotLimit)
    let by_ := s1.coll.shotBy
    (s1.pkgSafe fun c => { c with cSC := true }).emit 2 Kind.shotClock srcColl (by_ % 4096)

/-! ### Commands of the host (R418, R420, R422, R423) -/

/-- FLT_CTL.POP; it goes before an acceptance of its SVCLK (R418). -/
def State.fltPop (s : State) : State :=
  match s.coll.lastAcc.filter (fun x => decide (x.at_ = s.svclk)), s.coll.lastMsg with
  | some x, some e =>
    let (fifo, lost) := fifoPut e x.before.tail
    let t := s.setColl fun c => { c with
      fifo := fifo, lastAcc := some { x with before := x.before.tail, lost := x.lost && lost } }
    if x.lost && !lost then t.setRf Reg.fltStat 0 15 8 (s.rf Reg.fltStat 0 15 8 - 1) else t
  | _, _ => s.setColl fun c => { c with fifo := c.fifo.tail }

/-- FLT_CTL.SAFE. -/
def State.fltSafe (s : State) : State := s.pkgSafe fun c => { c with cHost := true }

/-- FLT_ACK (R420). -/
def State.fltAck (s : State) (v : Nat) : State :=
  match s.coll.shot with
  | some t =>
    if v % 4096 = s.coll.last2 then s.setColl fun c => { c with shot := none, acked := some (s.svclk, t, c.shotBy) } else s
  | none => s

/-- DRV_STAT.DDLOK: a valid frame reached the driver die within the last 64 µs (R247). -/
def State.ddlOk (s : State) : Bool :=
  match s.links.lastGood with
  | some t => decide (s.now < t + 16000)
  | none => false

/-- The conditions of a release (R423). -/
def State.mayRelease (s : State) : Bool := s.live && s.ddlOk && s.sys.vbat && !s.coll.safeLineSeen

/-- FLT_CTL.RELEASE; none: refused as busy. A cause of entry of the same SVCLK is applied after it and stands (R423). -/
def State.fltRelease (s : State) : Option State :=
  let out := (s.setColl fun c => { c with lineA := false, lineB := false, relPend := true, relDone := none }).ddlSend .release
  if !s.mayRelease then none
  else if !s.coll.safe then some s
  else
    match s.coll.entered.filter fun x => decide (x.1 = s.svclk) with
    | some (_, false) => some s
    | some (_, true) => some (out.pkgSafe id)
    | none => some out

/-- A release fails: both safe lines are asserted again, and its write ends with the status (R423). -/
def State.releaseFailed (s : State) (stat : Status) : State :=
  if !s.coll.relPend then s
  else
    (s.setColl fun c => { c with
      lineA := true, lineB := true, relPend := false, relDone := if c.relWait.isSome then some stat else none }).drvEnter 1

/-- The driver die takes the RELEASE transfer and answers it (R18, R423). -/
def State.ddlRelease (s : State) : State :=
  match s.takeArrived fun x => decide (x = .release) with
  | none => s
  | some (_, s1) =>
    if s1.coll.lineA || s1.coll.lineB || !s1.sys.vbat then s1.ddlSend (.relAnswer false)
    else ({ s1 with drv := { s1.drv with safe := false } } : State).ddlSend (.relAnswer true)

/-- The control die takes the answer, and the write that waits for it ends (R423); a cause of entry since then stands. -/
def State.releaseAnswer (s : State) : State :=
  let isAns (x : Xfer) : Bool := match x with
    | .relAnswer _ => true
    | _ => false
  match s.takeArrived isAns with
  | some (.relAnswer left, s1) =>
    if !s1.coll.relPend then
      s1.setColl fun c => { c with relDone := if c.relWait.isSome then some (if left then .ok else .busy) else none }
    else if left && !s1.coll.lineA && !s1.coll.lineB then
      s1.setColl fun c => { c with
        safe := false, cSC := false, cHost := false, cDrv := false, cGrave := false, cState := false, relPend := false,
        relDone := if c.relWait.isSome then some .ok else none }
    else s1.releaseFailed .busy
  | _ => s

/-! ### The DDL (R18, R37, R38) -/

/-- A transfer that the control die sends. -/
def Xfer.toDriver : Xfer → Bool
  | .heartbeat => true
  | .select .. => true
  | .softoff _ => true
  | .softval .. => true
  | .release => true
  | _ => false

/-- A delivered message of the driver die may be accepted (R416). -/
def State.msgDelivered (s : State) (m : Msg) : State :=
  let hit (x : Msg) : Bool := x.ddl && decide (x.src = m.src) && decide (x.kind = m.kind) && decide (x.at_ = m.at_)
  let mark (x : Msg) : Msg := if hit x then { x with ddl := false, ready := s.now } else x
  s.setColl fun c => { c with outbox := c.outbox.map mark, kept := c.kept.map mark }

/-- What a delivered transfer does. -/
def State.ddlArrive (s : State) (x : Xfer) : State :=
  let s1 : State := if x.toDriver then { s with links := { s.links with lastGood := some s.now } } else s
  match x with
  | .heartbeat => s1
  | .softval n us seq => s1.setDIgn n fun d => { d with softNext := d.softNext.filter (·.2 ≠ seq) ++ [(us, seq)] }
  | .message m => s1.msgDelivered m
  | .sealInc n inc => s1.setSeal n fun c => { c with gathered := c.gathered + inc }
  | .signature slot => s1.ringStage 1 slot
  | y => { s1 with links := { s1.links with arrived := s1.links.arrived ++ [y] } }

/-- What a transfer that is given up leaves (R37, R335, R423): a message stays in its outbox and goes out again behind the transfers that
wait, once the link carries traffic (R18, R41, R415; DEDUCED, log entry 52). -/
def State.ddlLost (s : State) (x : Xfer) : State :=
  match x with
  | .release => s.releaseFailed .linkerr
  | .relAnswer _ => s.releaseFailed .linkerr
  | .sealInc n _ => s.setSeal n fun c => { c with loss := true }
  | .message m => s.ddlSend (.message m)
  | _ => s

/-- DDL_TRANSFER: the head transfer arrives whole, is retried, or is given up after four failed retries (R37, R38). -/
def State.ddlTransfer (s : State) (ok : Bool) : State :=
  match s.links.ddl with
  | [] => s
  | x :: rest =>
    if !s.clocked || decide (s.now < s.links.quietUntil) then s
    else
      let good := ok && !s.inj.ddlCrc
      let s1 : State := { s with inj := { s.inj with ddlCrc := false } }
      if good then
        ({ s1 with links := { s1.links with ddl := rest, ddlTries := 0 } } : State).ddlArrive x
      else if s1.links.ddlTries < 4 then
        ({ s1 with links := { s1.links with ddlTries := s1.links.ddlTries + 1 } } : State).bump Reg.linkRetry 0 15 0
      else
        (({ s1 with links := { s1.links with ddl := rest, ddlTries := 0 } } : State).linkFault 1).ddlLost x

/-- HEARTBEAT_SEND: 8 µs without other DDL traffic (R18). -/
def State.heartbeatSend (s : State) : State :=
  if s.clocked && decide (s.links.ddl = []) then s.ddlSend .heartbeat else s

/-- DDL_SILENCE: 64 µs without a valid frame (R18). -/
def State.ddlSilence (s : State) : State :=
  if !s.clocked then s else (s.advanceTo ((s.links.lastGood.getD 0) + 16000)).drvEnter 2

/-- The transfers that wait on the DDL, the one under retry first, arrive whole and in order. -/
def State.ddlDrain (s : State) : State :=
  s.links.ddl.foldl (fun (t : State) x => t.ddlArrive x) { s with links := { s.links with ddl := [], ddlTries := 0 } }

/-- One access to a driver-die register crosses the DDL, after the transfers that wait there, which arrive whole; the Bool says that it
arrived itself (R16, R18, R37 to R39, R439; DESIGN CHOICE, log entry 77). -/
def State.ddlAccess (s : State) (link : Bool) : State × Bool :=
  if s.now < s.links.quietUntil then ((s.retried 15 0 4).linkFault 1, false)
  else
    let s1 : State := if s.inj.ddlCrc then { s.retried 15 0 1 with inj := { s.inj with ddlCrc := false } } else s
    let s2 := s1.ddlDrain
    if link then ((s2.retried 15 0 4).linkFault 1, false)
    else ({ s2 with links := { s2.links with lastGood := some s2.now } }, true)

/-- One access to trace memory crosses the MDL, after a transfer that is being retried and a scrub read that is due whatever waits;
the Bool says that it arrived (R37, R38, R282, R439). -/
def State.mdlAccess (s : State) (link : Bool) : State × Bool :=
  let u := if s.links.mdlHead.isSome then s.traceNow.mdlServe else s.traceNow
  let s0 := if 4095 ≤ u.trc.sinceScrub ∧ u.trc.scrubWait.isSome then u.scrubServe else u
  let s1 : State := { s0 with trc := { s0.trc with sinceScrub := s0.trc.sinceScrub + 1 }, inj := { s0.inj with mdlCrc := false } }
  if link then ((s1.retried 31 16 4).linkFault 2, false)
  else (if s0.inj.mdlCrc then s1.retried 31 16 1 else s1, true)

/-- MDL_TRANSFER (R37, R282, R439). -/
def State.mdlTransfer (s : State) (ok : Bool) : State := if !s.clocked then s else s.traceNow.mdlAttempt ok

end Sys2Proof.Machine
end

