-- ==== Sys2Proof/Machine/Bist.lean ====
section
/-! DEFINITION. Roles of clusters as the host writes them, planned handovers, overs and innings, and factory test mode (R150,
R174, R426 to R441). -/

namespace Sys2Proof.Machine

/-! ### Role writes (R174, R436, R438) -/

/-- What a register write answers: the state and the status of R388. -/
abbrev Reply := State × Status

/-- A role write to the cluster meets an over it takes part in (R436). -/
def State.inOver (s : State) (c : Fin 9) : Bool :=
  match s.bist.ov with
  | none => false
  | some o =>
    (decide (o.unit = c.val) && (decide (s.clu[c].role = .testing) || decide (s.clu[c].role = .stopped)
      || decide (s.clu[c].role = .spare))) || (decide (o.spare = some c) && decide (o.stage = .prepare))

/-- The core is idle or halted. -/
def Cluster.quiet (k : Cluster) : Bool := k.run.isNone

/-- ROLE = 1h to a STOPPED cluster (R174). -/
def State.roleStart (s : State) (c : Fin 9) : Reply :=
  if s.clu[c].role ≠ .stopped ∨ s.inOver c ∨ !s.live ∨ (s.home c).any (fun x => decide (x ≠ c)) then (s, .busy)
  else
    match s.contextCheck c with
    | (u, false) => (u, .ok)
    | (u, true) =>
    let s1 := (if s.clu[c].work.isNone then u.takeNumber c else u).loadContext c c
    let s2 := s1.setWork c fun x => { x with
      seq := 0, cues := [], comps := x.comps.map Comp.disarm, runLog := [], armed := [], held := false, lost := false }
    let s3 := s2.setClu c fun k => { k with role := .active, work := some c, halt := false, stopReq := false, run := none, redoCue := none }
    (s3.cue c 0 c.val 0 s.now, .ok)

/-- ROLE = 0h (R174, R436). -/
def State.roleStop (s : State) (c : Fin 9) : Reply :=
  let k := s.clu[c]
  if s.inOver c then (s, .busy)
  else
    match k.role with
    | .active =>
      let preparing : Bool := match s.bist.ov with
        | some o => decide (o.unit = c.val) && decide (o.stage = .prepare)
        | none => false
      let s1 : State := if preparing then { s with bist := { s.bist with ov := none } } else s
      let s2 := s1.setClu c fun x => { x with stopReq := true }
      (if k.quiet then s2.clusterStop c false else s2, .ok)
    | .spare => ((s.setClu c fun x => { x with role := .stopped }).takeNumber c, .ok)
    | _ => (s, .busy)

/-- ROLE = 2h (R436, R438). -/
def State.roleSpare (s : State) (c : Fin 9) : Reply :=
  let k := s.clu[c]
  if s.inOver c then (s, .busy)
  else if k.role = .stopped ∨ (k.role = .unusable ∧ s.mnt.testOpen) then
    (s.setClu c fun x => { x with
      role := .spare, work := none, cueEn := match k.work with | some w => s.work[w].cueEn | none => k.cueEn }, .ok)
  else (s, .busy)

/-- The first idle TCLK after a stop request (R174). -/
def State.stopDue (s : State) (c : Fin 9) : State :=
  if s.clu[c].stopReq ∧ s.clu[c].quiet then s.clusterStop c false else s

/-- CLU_DOORBELL by a host port (R177, R178). -/
def State.doorbell (s : State) (c : Fin 9) (v : Word) : State :=
  match s.clu[c].work with
  | some w => s.raiseCue w ⟨26, v, 0, s.now, s.now + cueCross 26, []⟩
  | none => s

/-! ### Innings and overs (R426 to R431) -/

/-- BIST runs (R427). -/
def State.bistOn (s : State) : Bool := s.live && s.rb Reg.bistCfg 0 0

/-- Overs of a unit of the innings: 0 to 8 are the clusters, 9 the predictor. -/
def oversOf (u : Nat) : Nat := if u < 9 then 16 else 8

/-- The unit and over index at a position of an innings that began with a unit. -/
def overAt : Nat → Nat → Nat → Nat × Nat
  | 0, u, _ => (u, 0)
  | n + 1, u, i => if i < oversOf u then (u, i) else overAt n ((u + 1) % 10) (i - oversOf u)

/-- The over due next. -/
def Bist.due (b : Bist) : Nat × Nat := overAt 10 (b.order % 10) b.next

/-- The bit of BIST_DONE for a unit code of BIST_STAT. -/
def unitBit (unit : Nat) : Nat := min unit 9

/-- The predictor instance under test: the one that is not active (R426). -/
def State.prdIdle (s : State) : Bool := !s.prd.act

/-- A unit has passed all its overs of the innings (R440). -/
def State.unitPassed (s : State) (unit idx : Nat) : State :=
  if idx + 1 = oversOf unit ∧ !s.bist.failed.testBit (unitBit unit) then
    s.setBist fun b => { b with done := b.done ||| 2 ^ unitBit unit }
  else s

/-- Begin an over of a cluster; the Bool says that it begins. -/
def State.cluOver (s : State) (c : Fin 9) (idx : Nat) (extra : Bool) : State × Bool :=
  let k := s.clu[c]
  let put (o : Over) : State := s.setBist fun b => { b with ov := some o }
  match k.role with
  | .stopped => (put ⟨c.val, idx, .running, none, none, k.role, extra, s.now⟩, true)
  | .spare => (put ⟨c.val, idx, .running, none, none, k.role, extra, s.now⟩, true)
  | .active =>
    match (List.finRange 9).find? fun x => decide (s.clu[x].role = .spare) with
    | some sp => (put ⟨c.val, idx, .prepare, some sp, k.work, k.role, extra, s.now⟩, true)
    | none => (s.setBist fun b => { b with noSpare := b.noSpare ||| 2 ^ c.val }, false)
  | .carrying =>
    match (List.finRange 9).find? fun x => decide (s.clu[x].role = .spare) with
    | some sp => (put ⟨c.val, idx, .prepare, some sp, k.work, k.role, extra, s.now⟩, true)
    | none => (s.setBist fun b => { b with noSpare := b.noSpare ||| 2 ^ c.val }, false)
  | _ => (s, false)

/-- Begin an over of the predictor: the instance that is not active stops comparing (R110, R428). -/
def State.prdOver (s : State) (b : Bool) (idx : Nat) (extra : Bool) : State :=
  let s1 := s.setBist fun x => { x with ov := some ⟨if b then 10 else 9, idx, .running, none, none, .stopped, extra, s.now⟩ }
  { s1 with prd := { s1.prd.owed with chkon := false, overPassed := false } }

/-- The over that a slot starts: a unit that is not tested gives way to the next one (R427, R430). -/
def State.slotOver : Nat → State → State
  | 0, s => s
  | n + 1, s =>
    if !s.bist.running then s
    else
      let (u, i) := s.bist.due
      if h : u < 9 then
        match s.cluOver ⟨u, h⟩ i false with
        | (t, true) => t
        | (t, false) => State.slotOver n (t.oversPast (oversOf u - i))
      else s.prdOver s.prdIdle i false

/-- OVER_SLOT: every GAP µs (R427, R430). -/
def State.overSlot (s : State) : State :=
  if !s.bistOn || !s.bist.running || s.bist.ov.isSome then s else State.slotOver 11 s

/-- The switch of a planned handover, there and back: the receiver has loaded the section from the mirror (R149, R150, R428). -/
def State.handover (s : State) : State :=
  match s.bist.ov with
  | none => s
  | some o =>
    match o.spare, o.work with
    | some sp, some w =>
      if h : o.unit < 9 then
        let x : Fin 9 := ⟨o.unit, h⟩
        let swap (t : State) (a b : Fin 9) (ra rb : Role) : State :=
          let redo := t.clu[a].redoCue
          let t1 := (t.loadSection w fun _ => false).setClu b fun k => { k with role := rb, work := some w, halt := false, run := none, redoCue := redo }
          let t2 := t1.setClu a fun k => { k with role := ra, work := none, run := none, redoCue := none, stopReq := false }
          ((t2.peakSlots w).moveTargets a.val b.val 1).resumeContext b w
        match o.stage with
        | .prepare =>
          if !(s.clu[x].runs && s.clu[x].quiet && !s.clu[x].halt && decide (s.clu[sp].role = .spare)) then s
          else
            let s1 := s.advanceTo (o.t0 + 64)
            swap (s1.setBist fun b => { b with ov := some { o with stage := .running, t0 := s1.now } }) x sp .testing .carrying
        | .back =>
          if !(s.clu[sp].runs && s.clu[sp].quiet && !s.clu[sp].halt) then s
          else
            let s1 := s.advanceTo (o.t0 + 64)
            swap (s1.setBist fun b => { b with ov := none }) sp x .spare o.was
        | .running => s
      else s
    | _, _ => s

/-- A failed over (R429). -/
def State.overFailed (s : State) (o : Over) : State :=
  let s1 := (s.setBist fun b => { b with ov := none, failed := b.failed ||| 2 ^ unitBit o.unit }).bump Reg.bistCnt 0 31 16
  let s2 := (s1.emit 1 Kind.bistFail (srcB o.unit) (o.idx % 16)).cluChanged
  if h : o.unit < 9 then
    s2.setClu ⟨o.unit, h⟩ fun k => { k with role := .unusable, work := none, run := none, halt := false, stopReq := false, redoCue := none }
  else s2.prdRetire (decide (o.unit = 10))

/-- A passed over: a cluster goes back to its work, a predictor instance awaits its reload (R108 to R110, R428). RETA or RETB clears at
the end of the over, before the reload, and while no instance is active the one that passes a later over becomes active too (DESIGN
CHOICE, log entry 91). -/
def State.overPassed (s : State) (o : Over) : State :=
  if o.unit < 9 then
    if o.spare.isSome then s.setBist fun b => { b with ov := some { o with stage := .back, t0 := s.now } }
    else (s.setBist fun b => { b with ov := none }).testedFree
  else
    let b := decide (o.unit = 10)
    let n := s.prd.retN[if b then (1 : Fin 2) else 0]
    let ret := if b then s.prd.retB else s.prd.retA
    let s1 := s.setBist fun x => { x with ov := none }
    if s1.prd.noInst then
      if ret && decide (2 ≤ n) then s1
      else { s1 with prd := { s1.prd with
          noInst := false, act := b, stage := .none, chkon := false
          retA := if b then s1.prd.retA else false
          retB := if b then false else s1.prd.retB } }
    else if ret && decide (2 ≤ n) then s1
    else { s1 with prd := { s1.prd with
        overPassed := true, retA := if b then s1.prd.retA else false, retB := if b then false else s1.prd.retB } }

/-- The end of an over, with its signature's verdict (R426, R439). -/
def State.overDone (s : State) (pass : Bool) : State :=
  match s.bist.ov with
  | none => s
  | some o =>
    if o.stage ≠ .running then s
    else
      let code := srcB o.unit
      let named (n : Nat) : Bool := decide (n = code) || (decide (o.unit < 9) && decide (n = srcC 0 o.unit 0xF))
        || (decide (9 ≤ o.unit) && decide (n = srcP (decide (o.unit = 10))))
      let forced := s.inj.overFail.any named
      let s1 : State := { s with inj := { s.inj with overFail := s.inj.overFail.filter fun n => !named n } }
      let good := pass && !forced
      let s2 := if good then (s1.overPassed o).unitPassed o.unit o.idx else s1.overFailed o
      if o.extra then s2 else s2.overNext

/-- An over that runs beyond 5,000 TCLK fails (R426). -/
def State.overLate (s : State) : State :=
  match s.bist.ov with
  | none => s
  | some o => if o.stage = .running then (s.advanceTo (o.t0 + 5000)).overDone false else s

/-- The core is not idle within 1 ms of the slot (R430). -/
def State.overDefer (s : State) : State :=
  match s.bist.ov with
  | none => s
  | some o =>
    if o.stage ≠ .prepare then s
    else ((s.advanceTo (o.t0 + 250000)).setBist fun b => { b with ov := none }).bistDefer o.unit 1

/-- The units of an innings with overs still to run (R431). -/
def Bist.left (b : Bist) : Nat :=
  ((List.range 10).foldl (fun (a : Nat × Nat) k =>
    let u := (b.order + k) % 10
    let e := a.2 + oversOf u
    (if b.next < e then a.1 ||| 2 ^ u else a.1, e)) (0, 0)).1

/-- INNINGS_START: every 250 ms from entry to READY (R109, R427, R431). -/
def State.inningsStart (s : State) : State :=
  if !s.bistOn then s
  else
    let s1 := if s.bist.running then (s.emit 1 Kind.bistIncomplete (srcB 0xF) s.bist.left).inningsClose else s
    let first := if s.bist.running then s.bist.due.1 else 0
    let s2 : State := s1.setBist fun b => { b with
      running := true, next := 0, order := first, done := 0, noSpare := 0, failed := 0,
      ov := b.ov.map fun (o : Over) => { o with extra := true } }
    if s2.prd.chkon then s2
    else s2.emit 1 Kind.predUnchecked (srcP !s2.prd.act) 0

/-- BIST_CMD in factory test mode: one over on a unit at once (R438). -/
def State.bistCmd (s : State) (u : Nat) : State :=
  if s.bist.ov.isSome then s
  else if h : u < 9 then (s.cluOver ⟨u, h⟩ 0 true).1
  else if u = 9 ∨ u = 10 then
    (if s.prd.act = decide (u = 10) ∧ !s.prd.noInst then s else s.prdOver (decide (u = 10)) 0 true)
  else s

/-- A write of 0 to PRD_STAT in factory test mode reinstates both instances (R438). -/
def State.prdReinstate (s : State) : State :=
  { s with prd := { s.prd with
      retA := false, retB := false, retN := Vector.replicate 2 0, overPassed := true,
      noInst := false } }

/-! ### Fault injection (R439) -/

/-- FI_SRC, FI_ADDR. -/
def State.fiSrc (s : State) : Nat := s.rf Reg.fiSrc 0 11 0
def State.fiAddr (s : State) : Nat := (s.rg Reg.fiAddr).toNat

/-- FI_INJECT (R414, R439). -/
def State.fiNote (s : State) (action : Nat) : State := s.emit 0 Kind.fiInject (srcB 0xF) action

/-- The stored word that FI_SRC and FI_ADDR name, by its key in the list of flipped words. -/
def State.fiKey (s : State) : Option Nat :=
  let src := s.fiSrc
  let a := s.fiAddr
  if src / 1024 = 2 then some (traceBase + 8 * (a % 2 ^ 29))
  else if src / 1024 = 1 then
    if src = srcDrv then (if a < 0x400 then some (0x20002000 + 4 * a) else none)
    else if src / 16 % 16 < 8 ∧ src % 16 = 0xF ∧ a < 2 then some (0x20003000 + 0x20 * (src / 16 % 16) + 4 * a)
    else if src / 16 % 16 < 8 ∧ src % 16 < 4 ∧ a = 0 then some (0x20001004 + 0x100 * (src / 16 % 16) + 0x40 * (src % 16))
    else none
  else if src / 1024 ≠ 0 then none
  else
    match src / 256, src / 16 % 16, src % 16 with
    | 0, 9, n => if n < 3 ∧ a < 1024 then some (0x10001000 + 0x1000 * n + 4 * a) else none
    | 0, 0xA, n => if n < 2 ∧ a < 1024 then some (0x10004000 + 4 * a) else none
    | 0, c, 0xF => if c < 9 ∧ a < 6144 then some (c * 0x10000 + 4 * a) else none
    | 2, 2, e => if e < 8 ∧ a < 128 then some (0x40001000 + 0x200 * e + 4 * a) else none
    | 2, 4, _ => some (traceBase + 8 * (a % 2 ^ 29))
    | 2, 5, 0xF => if a % 4 < 3 then (s.coll.fifo[a / 4]?).map fun e => headKey e.seq (a % 4) else none
    | 3, 0, n => if a < 2 then some (Reg.sealxLo.addr n 0 + 4 * a) else none
    | 3, 0xF, _ => if a = 0 then some Reg.scribe.base else none
    | _, _, _ => none

/-- The peg slot or mirror entry that FI_SRC and FI_ADDR name, with its work: a slot by the source of the slot's notes and four words
a slot, slots 15 and 31 behind the words of the cluster's SRAMs, an entry by unit Bh with its work and four words an entry; the Bool
says the mirror (log entry 78). -/
def State.fiSlot (s : State) : Option (Fin 9 × Fin 32 × Bool) :=
  let src := s.fiSrc
  let a := s.fiAddr
  if 256 ≤ src then none
  else if src / 16 = 0xB then
    if h : src % 16 < 9 ∧ a < 128 then some (⟨src % 16, h.1⟩, ⟨a / 4, by omega⟩, true) else none
  else
    if h : src / 16 < 9 ∧ src % 16 < 15 ∧ a < 8 then
      (s.workOf ⟨src / 16, h.1⟩).map fun w => (w, ⟨src % 16 + 16 * (a / 4), by omega⟩, false)
    else if h : src / 16 < 9 ∧ src % 16 = 15 ∧ 6144 ≤ a ∧ a < 6152 then
      (s.workOf ⟨src / 16, h.1⟩).map fun w => (w, ⟨15 + 16 * ((a - 6144) / 4), by omega⟩, false)
    else none

/-- Injections 2h and 3h: bits of a stored word are flipped; in a descriptor or a mirror entry they break its residue (log entry 78). -/
def State.fiFlip (s : State) (n : Nat) : State :=
  match s.fiSlot with
  | some (w, k, mirror) =>
    s.setWork w fun x => { x with slots := upd x.slots k fun q => { q with
      resBad := q.resBad || !mirror, mirBad := q.mirBad || mirror } }
  | none =>
  match s.fiKey with
  | none => s
  | some k => { s with inj := { s.inj with flips := s.inj.flips.filter (fun f => decide (f.1 ≠ k)) ++ [(k, n)] } }

/-- The window whose unit FI_SRC names. -/
def State.fiWindow (s : State) : Option (Fin 16) := (List.finRange 16).find? fun w => decide (s.fiSrc = srcM1 2 w)

/-- Injection 1h: a predictor's next result fails in the next TCLK, and so does the angle that crosses to a window in every TCLK; other
units keep the fault for their next result (log entry 78). -/
def State.fiResidue (s : State) : State :=
  let src := s.fiSrc
  if src = srcP s.prd.act then s.prdCheckFail true false
  else if src = srcP (!s.prd.act) then s.prdCheckFail false true
  else
    match s.fiWindow with
    | some w => s.winCrossBad w
    | none => { s with inj := { s.inj with residue := s.inj.residue ++ [src] } }

/-- The edge line that FI_SRC names (R412). -/
def State.fiLine (s : State) : Nat :=
  let src := s.fiSrc
  let u := src % 16
  match src / 16 % 16 with
  | 0xC => u
  | 0xD => 16 + u
  | 0xE => 32 + u
  | _ => 48 + u % 8

/-- One injection by its ACTION (R439). -/
def State.inject (s : State) (action : Nat) : State :=
  match action with
  | 1 => (s.fiNote 1).fiResidue
  | 2 => (s.fiNote 2).fiFlip 1
  | 3 => (s.fiNote 3).fiFlip 2
  | 4 => let t := s.fiNote 4; { t with inj := { t.inj with ddlCrc := true } }
  | 5 => let t := s.fiNote 5; { t with inj := { t.inj with mdlCrc := true } }
  | 6 => let t := s.fiNote 6; { t with links := { t.links with quietUntil := t.now + t.fiAddr % 65536 * 250 } }
  | 7 => let t := s.fiNote 7; { t with inj := { t.inj with overFail := t.inj.overFail ++ [t.fiSrc] } }
  | 8 => let t := s.fiNote 8; { t with inj := { t.inj with echo := t.inj.echo ++ [t.fiLine] } }
  | 9 =>
    let t := s.fiNote 9
    let hi := t.rg Reg.fiMsgHi
    t.emit (fld hi 31 30) (fld hi 29 24) (fld hi 23 12) (t.rg Reg.fiMsgLo).toNat
  | _ => s

end Sys2Proof.Machine
end

