-- ==== Sys2Proof/Machine/Power.lean ====
section
/-! DEFINITION. Supplies, clocks, device states, self-test, STANDBY and wake, and the gating of the measurement region
(chapter Power, Clocks and Start-Up; R5, R20, R82, R280). -/

namespace Sys2Proof.Machine

/-! ### Resets (R12, R452, R456) -/

/-- Every region but the always-on domain at its reset values; supplies, straps, OTP and the queue stand (R456). -/
def State.regionsReset (s : State) : State :=
  { State.reset with
    pending := s.pending
    sys := { s.sys with
      pll := false, lockd := false, refok := true, referr := 0, stBits := 0, stDone := false, stWake := false,
      measRdy := true, stbyDone := false, cmdAt := none, cmdMnt := none, stEndAt := none }
    ao := s.ao
    otp := s.otp
    regs := s.regs.filter fun x => alwaysOnReg x.1
    inj := { State.reset.inj with flips := s.inj.flips.filter fun f => alwaysOnReg f.1 }
    free := s.free }

/-- The state word alone. -/
def State.setDState (s : State) (d : DState) : State := { s with sys := { s.sys with st := d } }

/-- The EPOCH step of a power-up that finds the always-on domain without its contents (R337). -/
def State.epochStep (s : State) : State :=
  if !s.ao.lost then s
  else
    let e := min 0xFFF (s.otp.epoch + 1)
    { s with otp := { s.otp with epoch := e, epexh := s.otp.epexh || decide (e = 0xFFF) }, ao := { s.ao with lost := false } }

/-- The last of VMAIN, VBKUP and VIO0 becomes good: power-on reset is asserted (R452). -/
def State.powerOn (s : State) : State :=
  let s1 := (s.regionsReset.setDState .off).epochStep
  { s1 with sys := { s1.sys with vmain := true, vbkup := true, vio := s1.sys.vio.set 0 true, por := true, wakeLatch := [], wakeRun := false }, ao := { s1.ao with kept := [] } }

/-- Power-on reset is released: the straps are sampled and SELFTEST begins (R452). -/
def State.porRelease (s : State) (nid ma : Nat) (test : Bool) : State :=
  if !s.sys.por then s
  else ({ s with sys := { s.sys with por := false, nid := nid, ma := ma, testPin := test, wakeRun := false } } : State).toState .selftest

/-- The PLL locks (R446, R452, R458). -/
def State.pllLock (s : State) : State :=
  if s.sys.st = .selftest ∧ !s.sys.pll then { s with sys := { s.sys with pll := true, lockd := true } } else s

/-! ### Self-test (R453, R458) -/

/-- BIST_FAIL of the self-test: unit code and context (R414, R453). -/
def State.stFail (s : State) (unit ctx : Nat) : State := s.emit 1 Kind.bistFail (srcB unit) ctx

/-- A cluster fails the power-up self-test (R395, R453); the failing over is one of sixteen, which the spec leaves open. -/
def State.stCluster (s : State) (c : Fin 9) : State :=
  let s1 := s.setClu c fun k => { k with role := .unusable, work := none, run := none, halt := false, stopReq := false, redoCue := none }
  (s1.stFail c.val (s.freeW.toNat % 16)).useFree.cluChanged

/-- A predictor instance fails the power-up self-test: retired as R109 states (R453). -/
def State.stPredictor (s : State) (b : Bool) : State :=
  ((s.prdRetire b).stFail (if b then 0xA else 9) (s.freeW.toNat % 16)).useFree

/-- The outcome of each item, in the order of R453, for failure bits as SYS_ST shows them; a and b: logic BIST of predictor A and of
predictor B failed. -/
def State.stItems (s : State) (bits : Nat) (stores : Bool) (a b : Bool) (echo : EchoResult) (drvLink : Bool) : State :=
  let s1 := (List.finRange 9).foldl (fun (t : State) (c : Fin 9) => if bits.testBit c.val then t.stCluster c else t) s
  let sA := if a then s1.stPredictor false else s1
  let sB := if b then sA.stPredictor true else sA
  let s2 := if stores then sB.stFail 0xF 0 else sB
  let s3 := { s2 with prd := { s2.prd with act := s2.prd.retA && !s2.prd.retB, noInst := s2.prd.noInst || (s2.prd.retA && s2.prd.retB) } }
  let s4 := echo.bad.foldl (fun (t : State) l => t.echoBad l) (s3.calibrate echo.cal)
  let s5 := if bits.testBit 12 then s4.linkFault 1 else s4
  let s6 := if bits.testBit 13 then (if drvLink then s5.linkFault 1 else s5.stFail 0xF 0) else s5
  if bits.testBit 14 then
    ({ s6 with trc := { s6.trc with memOk := false } } : State).stFail 0xF 0xF
  else s6

/-- The items that a wake self-test covers: edge generator, DDL, driver die, MDL and collector (R458). -/
def wakeItems : Nat := 0xF800

/-- A CLOCK_FAIL of the clock monitor waits for its acceptance (R447). -/
def State.clockFailed (s : State) : Bool :=
  s.coll.coming.any fun m => decide (m.kind = Kind.clockFail) && decide (m.src = srcC 3 1 0xF)

/-- The self-test ends: READY, or SIDELINES if a fatal item failed; a CLOCK_FAIL goes before the outcome (R447, R453, R458). The edge
item, bit 11, failed if its calibration or a line did. -/
def State.selftestEnd (s : State) (fails : BitVec 16) (stores : Bool) (echo : EchoResult) (drvLink : Bool) : State :=
  if s.sys.st ≠ .selftest ∨ !s.sys.pll then s
  else
    let wake := s.sys.wakeRun
    let st := stores && !wake
    let f := (fails.toNat &&& 0xF7FF) ||| (if echo.cal && echo.bad.isEmpty then 0 else 0x800)
    let b0 := if wake then f &&& wakeItems else f
    let b1 := if st then b0 ||| 0x600 else b0
    let bits := if s.sys.vbat then b1 else b1 ||| 0x2000
    let s1 := if wake then s.tmrRestore else s
    let s2 := s1.stItems bits st (b0.testBit 9) (b0.testBit 10) echo drvLink
    let fatal := (bits.testBit 9 && bits.testBit 10) || bits.testBit 11 || bits.testBit 12 || bits.testBit 13 || bits.testBit 15
    let s3 : State := { s2 with sys := { s2.sys with
      stBits := bits, stDone := true, stWake := wake, wakeRun := false, stEndAt := some s2.svclk } }
    if s3.clockFailed then s3
    else if fatal then (s3.toState .sidelines).fabFollow
    else
      let one := s3.prd.retA || s3.prd.retB
      let s4 : State := { s3 with prd := { s3.prd with chkon := !one } }
      (((s4.setRf Reg.sysGate 0 0 0 0).toState .ready).fabFollow)

/-! ### Supplies (R443 to R445) -/

/-- The increments that cross the DDL reach the bank before its region loses its clock (R335). -/
def State.sealDrain (s : State) : State :=
  let isInc (x : Xfer) : Bool := match x with
    | .sealInc .. => true
    | _ => false
  (s.links.ddl.filter isInc).foldl (fun (t : State) x => t.ddlArrive x)
    { s with links := { s.links with ddl := s.links.ddl.filter fun x => !isInc x } }

/-- VMAIN, VBKUP or VIO0 is lost (R444). -/
def State.supplyLost (s : State) (which : Fin 3) : State :=
  let s1 := s.sealDrain.sealSum
  let s1' := s1.setScribe fun r => { r with valid := false }
  let s2 := { s1' with ao := { s1'.ao with counting := false } }
  let s3 := s2.regionsReset.toState .off
  let y := { s3.sys with wakeLatch := [], por := false }
  match which with
  | 0 => { s3 with sys := { y with vmain := false } }
  | 1 => { s3 with
      sys := { y with vbkup := false }, ao := { AlwaysOn.reset with lost := true }, regs := [], inj := State.reset.inj }
  | _ => { s3 with sys := { y with vio := y.vio.set 0 false } }

/-- VIO1 to VIO3 change (R443). -/
def State.vioBank (s : State) (b : Fin 3) (good : Bool) : State :=
  { s with sys := { s.sys with vio := s.sys.vio.set (b.val + 1) good } }

/-- VBAT is lost: in every state but OFF the driver die reports it, in the safe actuation state too (R18, R445). -/
def State.vbatLost (s : State) : State :=
  if !s.sys.vbat then s
  else
    let s1 : State := { s with sys := { s.sys with vbat := false } }
    if s1.sys.st = .off then s1 else s1.drvSafe.emit 2 Kind.drvSafe srcDrv 4

/-- VBAT becomes good (R443). -/
def State.vbatGood (s : State) : State := { s with sys := { s.sys with vbat := true } }

/-! ### The clock monitor (R447) -/

/-- CLOCK_FAIL: bit [0] PLL, bit [1] reference. -/
def State.clockFail (s : State) (ctx : Nat) : State := s.emit 3 Kind.clockFail (srcC 3 1 0xF) ctx

/-- The lock detector stays dropped for 1 µs. -/
def State.pllUnlock (s : State) : State :=
  if !s.clocked then s else ({ s with sys := { s.sys with lockd := false } } : State).clockFail 1

/-- A window of 64 SCLK periods ends. -/
def State.refWindow (s : State) (cycles : Nat) : State :=
  if !s.clocked then s
  else
    let e : Int := (cycles : Int) - 48828
    let off : Rat := (cycles : Rat) - 390625 / 8
    let bad := decide (98 < off) || decide (off < -98)
    let s1 : State := { s with sys := { s.sys with refok := !bad, referr := e } }
    if bad then s1.clockFail 2 else s1

/-- SCLK gives no edge for 100 µs. -/
def State.sclkSilence (s : State) : State :=
  if !s.clocked then s else ({ s with sys := { s.sys with refok := false } } : State).clockFail 2

/-! ### Gating (R20, R448) -/

/-- The region is gated: every window ends without publication. -/
def State.measGate (s : State) : State :=
  let s1 : State := { s with
    sys := { s.sys with measRdy := false }
    ms := { s.ms with win := s.ms.win.map fun w => { w with isOpen := false, runs := [] }, ends := [] } }
  s1.setRf Reg.sysGate 0 0 0 1

/-- Ungating begins; it takes 40 µs. -/
def State.measUngate (s : State) : State :=
  let s1 := s.setRf Reg.sysGate 0 0 0 0
  { s1 with ms := { s1.ms with ready := s1.now + 10000 } }

/-! ### SYS_CMD (R451, R454, R455) -/

/-- The STANDBY entry (R455). -/
def State.standby (s : State) : State :=
  let s1 := s.pkgSafe fun c => { c with cState := true }
  let s2 := if s1.whl.coast then s1.scribePut fun r => { r with valid := false } else s1
  let s3 := s2.bistStop.stopAll.tmrRetain
  let s3' := s3.setScribe fun r => { r with edges := 0 }
  let s4 := { s3' with ao := { s3'.ao with counting := true } }
  let s5 := s4.hostDrop.setWhl fun w => { w with coast := false }
  let s6 := (s5.toState .standby).jigHolds.portsCheck
  { s6 with sys := { s6.sys with stbyDone := false, wakeLatch := [] } }

/-- RETEST (R454): the power-up self-test in full; trace memory initialises again. -/
def State.retest (s : State) : State :=
  let s1 := (s.toState .selftest).fabFollow
  let s2 := { s1 with sys := { s1.sys with stBits := 0, stDone := false, stWake := false, wakeRun := false } }
  { s2 with trc := { s2.trc with init := false, initMb := 0, memOk := true } }

/-- On entry to READY SYS_GATE.MEAS is 0: a gated region begins to be ungated (R448). -/
def State.readyMeas (s : State) : State := if s.rb Reg.sysGate 0 0 then s.measUngate else s

/-- A write of SYS_CMD (R451). -/
def State.sysCmd (s : State) (v : Word) : State × Status :=
  if fld v 31 16 ≠ 0x5AFE then (s, .busy)
  else
    match fld v 3 0, s.sys.st with
    | 1, .ready => ((s.toState .run).fabFollow, .ok)
    | 2, .run => ((s.toState .ready).fabFollow.readyMeas, .ok)
    | 3, .ready => if s.sync = .nosync then (s.standby, .ok) else (s, .busy)
    | 3, .sidelines => if s.sync = .nosync then (s.standby, .ok) else (s, .busy)
    | 4, .sidelines => (s.retest, .ok)
    | _, _ => (s, .busy)

/-- A command of this SVCLK finds a self-test that ends in it, or a class-3 message that is accepted in it (R451). -/
def State.cmdBarred (s : State) : Bool :=
  decide (s.sys.stEndAt = some s.svclk) || (s.coll.lastAcc.all (fun x => decide (x.at_ ≠ s.svclk))
    && (s.coll.pick (2 * s.svclk)).any fun m => decide (3 ≤ m.cls))

/-- A command of a port. Of two in one SVCLK the host port's is taken and the maintenance port's returns busy: one that comes second
is refused, and a RUN or READY that came first gives way; a STANDBY or RETEST of the maintenance port is taken at the end of its SVCLK,
so that no host command of that SVCLK can follow it (R451; DESIGN CHOICE, log entry 87). -/
def State.sysCommand (s : State) (p : Fin 11) (v : Word) : State × Status :=
  if s.cmdBarred then (s, .busy)
  else if p = mntP then
    if s.sys.cmdAt = some s.svclk then (s, .busy)
    else
      let at_ := if fld v 3 0 = 3 ∨ fld v 3 0 = 4 then s.advanceTo (2 * s.svclk + 1) else s
      match at_.sysCmd v with
      | (t, .ok) => ({ t with sys := { t.sys with cmdMnt := some (s.svclk, s.sys.st) } }, .ok)
      | x => (s, x.2)
  else
    let gives := s.sys.cmdMnt.any fun x => decide (x.1 = s.svclk) && s.live
    let s0 := match s.sys.cmdMnt with
      | some x => if gives then { s.setDState x.2 with mnt := { s.mnt with istat := .busy } } else s
      | none => s
    match s0.sysCmd v with
    | (t, .ok) => ({ t with sys := { t.sys with cmdAt := some s.svclk, cmdMnt := none } }, .ok)
    | x => (s, x.2)

/-! ### Wake (R457, R458) -/

/-- Step 7 of R455: the regions lose power and the wake sources are armed. -/
def State.standbyComplete (s : State) : State :=
  if s.sys.st ≠ .standby ∨ s.sys.stbyDone then s
  else
    let s1 := s.sealDrain.sealSum.commitStaged.regionsReset.setDState .standby
    { s1 with sys := { s1.sys with stbyDone := true, wakeLatch := s.sys.wakeLatch } }

/-- A wake event is latched by its source code. -/
def State.latchWake (s : State) (code : Nat) : State :=
  { s with sys := { s.sys with wakeLatch := if code ∈ s.sys.wakeLatch then s.sys.wakeLatch else s.sys.wakeLatch ++ [code] } }

/-- The WAKE ball; it requires VIO3. -/
def State.wakePin (s : State) : State :=
  if s.sys.st = .standby ∧ s.rb Reg.wakeCfg 0 0 ∧ s.sys.vio[3] then s.latchWake 1 else s

/-- The wake logic reads the record and counts a WHL0 active edge at which AUX0 has a level (R459 to R461); in STANDBY the first one
is a wake event where WHL is enabled. -/
def State.standbyEdge (s : State) (aux0 : Bool) : State :=
  if !s.ao.counting || !s.sys.vio[1] then s
  else
    let phase := s.rb Reg.scribeCfg 0 2
    let rev := aux0 != s.rb Reg.scribeCfg 0 3
    let count (r : Scribe) : Scribe :=
      let top := decide (255 ≤ r.edges)
      { r with
        edges := if top then 255 else r.edges + 1
        dirk := r.dirk && phase
        valid := r.valid && !top && !(phase && rev) }
    let s1 := s.scribeCheck.setScribe count
    if s1.sys.st = .standby ∧ s1.rb Reg.wakeCfg 0 2 then s1.latchWake 2 else s1

/-- The first WHL0 edge counted in STANDBY, with the level of AUX0 at it. -/
def State.wakeWhl (s : State) (aux0 : Bool) : State := if s.sys.st = .standby then s.standbyEdge aux0 else s

/-- WAKE_ALARM as committed. -/
def State.alarm (s : State) : Nat := (s.rg Reg.wakeAlarmLo).toNat + s.rf Reg.wakeAlarmHi 0 15 0 * 2 ^ 32

/-- The slow counter reaches WAKE_ALARM. -/
def State.wakeAlarm (s : State) : State :=
  if s.sys.st = .standby ∧ s.rb Reg.wakeCfg 0 3 then
    (s.sclkEdges ((s.alarm + 2 ^ 48 - s.ao.slow) % 2 ^ 48)).latchWake 3
  else s

/-- A START followed by the unit's own address, which is 58h plus MA2 to MA0 (R398). -/
def State.wakeMnt (s : State) (addr : Nat) : State :=
  if s.sys.st = .standby ∧ s.rb Reg.wakeCfg 0 4 ∧ addr = 0x58 + s.sys.ma % 8 then s.latchWake 4 else s

/-- The SCLK edge after a wake event: SRC is recorded and SELFTEST begins (R458). -/
def State.wakeBegin (s : State) : State :=
  match s.sys.wakeLatch with
  | [] => s
  | c :: l =>
    if s.sys.st ≠ .standby ∨ !s.sys.stbyDone then s
    else
      let s1 := s.sclkEdges 1
      let s2 := { s1 with
        ao := { s1.ao with src := l.foldl min c }
        whl := Wheels.reset true }
      ({ s2 with sys := { s2.sys with stbyDone := false, wakeLatch := [], wakeRun := true } } : State).toState .selftest

/-! ### The measurement region (R20, R448) -/

/-- A write of SYS_GATE: DROPPED is a counter that software may write, MEAS gates. -/
def State.gateWrite (s : State) (v : Word) : State × Status :=
  if !s.live then (s, .busy)
  else
    let s1 := s.setRf Reg.sysGate 0 31 16 (fld v 31 16)
    let was := s.rb Reg.sysGate 0 0
    if bit v 0 && !was then (s1.measGate, .ok)
    else if !bit v 0 && was then (s1.measUngate, .ok)
    else (s1, .ok)

/-- Ungating is complete: the region restarts with empty decimation filters and resampler state. -/
def State.ungateDone (s0 : State) : State :=
  if s0.sys.measRdy ∨ s0.rb Reg.sysGate 0 0 ∨ !s0.clocked then s0
  else
    let s := s0.advanceTo s0.ms.ready
    let s1 : State := { s with
      sys := { s.sys with measRdy := true }
      ms := { s.ms with
        ready := s.now
        mod := s.ms.mod.map fun x => { x with
          hist := [], kept := [], stream := x.stream + 1, skip := discardOf x.dec + fld x.word 9 5 }
        pair := s.ms.pair.map fun p => { p with last := none } } }
    s1

/-! ### Initialisation of trace memory (R280) -/

/-- The memory die initialises itself only after it has passed its self-test. -/
def State.memReady (s : State) : Bool :=
  (s.live || decide (s.sys.st = .sidelines) || decide (s.sys.st = .lockout)) && s.trc.memOk

/-- Words of trace memory from one MiB on, up to another, are written with zero and valid check bits. -/
def State.traceZero (s : State) (from_ upto : Nat) : State :=
  let outside (a : Nat) : Bool := decide (a < traceBase + from_ * 2 ^ 20) || decide (traceBase + upto * 2 ^ 20 ≤ a)
  { s with mem := s.mem.filter fun x => outside x.1, inj := { s.inj with flips := s.inj.flips.filter fun f => outside f.1 } }

/-- One more MiB is done; its words hold zero. -/
def State.initMbAdvance (s : State) : State :=
  let m := s.trc.initMb
  if !s.memReady || decide (4096 ≤ m) then s
  else
    let s1 := s.traceZero m (m + 1)
    { s1 with trc := { s1.trc with initMb := m + 1, init := decide (m + 1 = 4096) } }

/-- Every word is written. -/
def State.traceInitDone (s : State) : State :=
  if !s.memReady || s.trc.init then s
  else
    let s1 := s.traceZero s.trc.initMb 4096
    { s1 with trc := { s1.trc with initMb := 4096, init := true } }

end Sys2Proof.Machine
end

