-- ==== Sys2Proof/Machine/ReadRegs.lean ====
section
/-! DEFINITION. The read values of the registers whose fields the model holds as typed state: per region, the bits that join
the stored word (R12 and the register tables of every chapter). -/

namespace Sys2Proof.Machine

/-- The element of a row as an index below n. -/
def idx (n : Nat) (h : 0 < n) (i : Nat) : Fin n := ⟨i % n, Nat.mod_lt i h⟩

/-! ### Timing region (R55, R56, R88, R112, R113, R151 to R153, R177) -/

/-- WHLn_PER and AUXm_PER; a phase channel measures no period (R53, R55, R56). -/
def WheelIn.perWord (x : WheelIn) (dir : Bool) : Nat := min x.per (2 ^ 30 - 1) + bitAt (x.dir && dir) 30 + bitAt x.val 31

/-- WHL_SYNC_STAT (R88); POS and HALF follow the tracked position while COAST = 1 (R77). -/
def State.syncStat (s : State) : Nat :=
  let w := s.whl
  let pos := if w.coast then w.coastPos else w.pos
  let half := if w.coast then w.coastHalf else w.half
  w.sync.code + bitAt w.rev 2 + bitAt w.ratev 3 + pos % 1024 * 16 + bitAt half 14 + bitAt w.bad.isSome 15 + bitAt w.susp.isSome 16
    + bitAt w.phscr 17 + bitAt w.coast 18 + bitAt w.fuelSup 19

/-- ANG_NOW is held by R93. -/
def State.angHeld (s : State) : Bool :=
  match s.angFine s.now, s.modelAng s.now with
  | some a, some m => decide (a ≠ m)
  | _, _ => false

/-- The CONF fields of the present positions (R97, R112). -/
def State.minConf (s : State) : Nat :=
  match s.present.map fun p => fld (s.rg Reg.toothmap p) 27 20 with
  | [] => 0
  | x :: l => l.foldl min x

/-- PRD_STAT (R112). -/
def State.prdStatBits (s : State) : Nat :=
  let p := s.prd
  bitAt p.act 0 + bitAt p.chkon 1 + bitAt p.retA 2 + bitAt p.retB 3 + bitAt (decide (16 ≤ s.minConf)) 4 + bitAt s.angHeld 5
    + s.minConf % 256 * 256

/-- The published values in the order of R113: PRD_ANG, PRD_RATE, PRD_ACC, PRD_TS_LO, PRD_TS_HI, PRD_Q, PRD_QFR. ANG reads 0 while VALID
is 0 (DESIGN CHOICE, log entry 91). -/
def State.prdWords (s : State) : List Nat :=
  let (q, sat, val) := match s.segAt s.now with
    | some g => (g.q, g.qsat, decide (g.q ≠ 0))
    | none => (0, false, false)
  [(s.angNow.getD 0) % 2 ^ 24 + bitAt s.angNow.isSome 24, s.rateNow, unsx 32 s.accNow, s.now % 2 ^ 32, s.now / 2 ^ 32 % 256,
    min (q / 16) (2 ^ 30 - 1) + bitAt sat 30 + bitAt val 31, q % 16]

/-- The code of a role (R22). -/
def Role.code : Role → Nat
  | .stopped => 0 | .active => 1 | .spare => 2 | .carrying => 3 | .testing => 4 | .unusable => 5

/-- CLU_STAT (R177). -/
def Cluster.statBits (k : Cluster) : Nat :=
  let (busy, redo, cur) := match k.run with
    | some r => (true, r.redo, if r.exc then 31 else r.cue.cue)
    | none => (false, false, 0)
  bitAt busy 0 + bitAt k.halt 1 + bitAt redo 2 + cur % 32 * 256 + k.dones % 65536 * 65536

/-- CLU_CUE_PEND (R177). -/
def Work.pend (x : Work) : Nat := (List.range 27).foldl (fun m n => if x.cues.any fun q => decide (q.cue = n) then m + 2 ^ n else m) 0

/-- ACm_CFG (R177). -/
def Comp.word (x : Comp) : Nat := x.angle % 2 ^ 24 + bitAt x.arm 24 + bitAt x.rpt 25 + bitAt x.prov 26

/-- The control block of a cluster. -/
def State.cluBits (s : State) (r : RegRow) (c : Fin 9) (j : Nat) : Nat :=
  let k := s.clu[c]
  let w : Work := match k.work with
    | some w => s.work[w]
    | none => { Work.empty with cueEn := k.cueEn }
  if r.base = Reg.cluRole.base then k.role.code + (match k.work with | some w => w.val | none => 0xF) * 16
  else if r.base = Reg.cluStat.base then k.statBits
  else if r.base = Reg.cluCueEn.base then w.cueEn.toNat
  else if r.base = Reg.cluCuePend.base then w.pend
  else if r.base = Reg.cluExc.base then k.cause % 16 + k.epc % 4096 * 16
  else if r.base = Reg.cluEaddr.base then k.eaddr.toNat
  else if r.base = Reg.acCfg.base then (w.comps[idx 16 (by decide) j]).word
  else 0

/-- The slots that a scheduler counts as occupied. -/
def Work.freeSlots (x : Work) : Nat := (x.slots.toList.filter fun p => decide (p.st = .free)).length

/-- The seven words of a peg table entry: descriptor, PEG_STAT, PEG_AIM_LO, PEG_AIM_HI (R151). -/
def State.pegWords (s : State) (p : Peg) : List Word :=
  let t := (p.inst.getD 0) % 2 ^ 44
  [p.word 0, p.word 1, p.word 2, p.word 3, s.pegStatWord p, wordN t, wordN (t / 2 ^ 32 + bitAt p.inst.isSome 31)]

/-- SCHED_STAT (R152). -/
def State.schedBits (s : State) (c : Fin 9) : Nat :=
  match s.clu[c].work with
  | some w => bitAt s.work[w].ovf 0 + s.work[w].freeSlots * 256
  | none => 32 * 256

/-- The timing region's registers. -/
def State.timingBits (s : State) (r : RegRow) (i j : Nat) : Nat :=
  if r.base = Reg.whlxPer.base then (s.whl.whl[idx 3 (by decide) i]).perWord true
  else if r.base = Reg.auxPer.base then
    -- a phase channel's period reads 0 (R53)
    if s.rf Reg.whlxCfg i 19 18 = 2 ∧ s.rb Reg.auxCfg i 0 then 0 else (s.whl.aux[idx 2 (by decide) i]).perWord false
  else if r.base = Reg.auxCnt.base then (s.whl.aux[idx 2 (by decide) i]).cnt.toNat
  else if r.base = Reg.whlSyncStat.base then s.syncStat
  else if r.base = Reg.prdStat.base then s.prdStatBits
  else if Reg.prdAng.base ≤ r.base ∧ r.base ≤ Reg.prdQfr.base then s.prdWords.getD ((r.base - Reg.prdAng.base) / 4) 0
  else if Reg.cluRole.base ≤ r.base ∧ r.base ≤ Reg.acCfg.base then s.cluBits r (idx 9 (by decide) i) j
  else if r.base = Reg.schedStat.base then s.schedBits (idx 9 (by decide) i)
  else if r.base = Reg.edgStat.base then bitAt s.edg.calok 0
  else 0

/-! ### The driver die (R218, R230, R237, R243, R247, R248) -/

/-- The code of a phase (R219). -/
def Phase.code : Phase → Nat
  | .boost => 1 | .peak => 2 | .bypass => 3 | .hold => 4 | .recovery => 5

/-- CHn_STAT (R247). SAFE reads as the channel is held, at reset too, and a restart that still waits after the recovery of its old shot
reads as a start that waits, with RSTW (DESIGN CHOICE, log entry 94). -/
def State.chStatBits (s : State) (c : Fin 32) : Nat :=
  let d := s.drv.ch[c]
  let b := s.drv.bank[bankOf c]
  let wait := b.waits.find? fun x => decide (x.ch = chIn c)
  let ph := match d.shot, wait with
    | some h, _ => h.phase.code
    | none, some x => if x.rail then 7 else 6
    | none, none => 0
  let set := match d.shot with
    | some h => h.idx % 16
    | none => 0
  let rst := match wait with
    | some x => x.restart
    | none => false
  ph + set * 8 + bitAt (decide (b.lead = some (chIn c))) 7 + bitAt (s.coll.safe || s.drv.safe || s.chHeld c) 8 + bitAt d.flt 9 + bitAt rst 10

/-- CHn_SEL (R247). -/
def DrvCh.selBits (d : DrvCh) : Nat :=
  match d.sel with
  | some x => x.set % 16 + x.seq % 4096 * 16 + x.owner % 4096 * 65536 + 2 ^ 28
  | none => 0

/-- CHn_ACC: the on-time over the window in 1/1024 of WIN (R236, R247). -/
def State.chAccBits (s : State) (c : Fin 32) : Nat := min 2047 (s.onTime c * 1024 / (s.dutyWin c * 62500))

/-- BNKb_STAT (R237). -/
def State.bnkStatBits (s : State) (b : Fin 8) : Nat :=
  let x := s.drv.bank[b]
  (match x.lead with | some k => k.val | none => 0) + bitAt x.lead.isSome 2 + bitAt (s.lsReg b) 3 + min 7 x.waits.length * 16

/-- The driver die's registers. -/
def State.driverBits (s : State) (r : RegRow) (i : Nat) : Nat :=
  let c : Fin 32 := idx 32 (by decide) i
  let n : Fin 24 := idx 24 (by decide) i
  if r.base = Reg.drvStat.base then bitAt s.drv.safe 0 + bitAt s.ddlOk 1
  else if r.base = Reg.chanOwner.base then s.edg.ch[c].owner % 16
  else if r.base = Reg.ignOwner.base then s.edg.ign[n].owner % 16
  else if r.base = Reg.chStat.base then s.chStatBits c
  else if r.base = Reg.chSel.base then s.drv.ch[c].selBits
  else if r.base = Reg.chCls.base then s.drv.ch[c].clsTime % 2 ^ 24 + bitAt s.drv.ch[c].clsDet 31
  else if r.base = Reg.chAcc.base then s.chAccBits c
  else if r.base = Reg.bnkStat.base then s.bnkStatBits (idx 8 (by decide) i)
  else if r.base = Reg.bstStat.base then
    let b := s.drv.bst[idx 2 (by decide) i]
    b.vrail % 1024 + bitAt b.rdy 10 + bitAt b.ovp 11 + bitAt (s.bstMay (idx 2 (by decide) i) && decide (b.vrail < 5 * s.vset (idx 2 (by decide) i))) 12
  else if r.base = Reg.ignStat.base then
    let d := s.drv.ign[n]
    bitAt d.gate 0 + bitAt d.soft.isSome 1 + bitAt (xor (Config.igfb n.val s.now) (s.rb Reg.ignCfg n 2)) 2
  else 0

/-! ### Measurement (R273 to R278) -/

/-- MODm_STAT (R275). -/
def Modulator.statBits (x : Modulator) : Nat :=
  bitAt (x.run || decide (x.req = some .pass)) 0 + x.entry % 16 * 2 + bitAt x.req.isSome 5 + bitAt x.latch.isSome 6 + bitAt (x.chkf || x.chkp) 7 + bitAt x.sat 8

/-- MODm_RES (R275). -/
def Modulator.resBits (x : Modulator) : Nat := unsx 20 x.res + x.resCh % 32 * 2 ^ 20

/-- MODm_RSQ for a reader that has last read the sequence number (R269). -/
def State.rsqBits (s : State) (p : Fin 11) (m : Fin 8) : Nat :=
  s.ms.mod[m].rsq % 65536 + bitAt (decide (sparseGet 0 s.readers[p].seen m.val ≠ s.ms.mod[m].rsq)) 16

/-- The measurement registers. -/
def State.measBits (s : State) (p : Fin 11) (r : RegRow) (i j : Nat) : Nat :=
  let m : Fin 8 := idx 8 (by decide) i
  if r.base = Reg.measOwner.base then s.ms.owner[idx 40 (by decide) i] % 16
  else if r.base = Reg.modStat.base then s.ms.mod[m].statBits
  else if r.base = Reg.modRes.base then s.ms.mod[m].resBits
  else if r.base = Reg.modRsq.base then s.rsqBits p m
  else if r.base = Reg.modRts.base then s.ms.mod[m].rts % 2 ^ 32
  else if r.base = Reg.pairStat.base then bitAt s.ms.pair[idx 4 (by decide) i].plf 0
  else if r.base = Reg.winStat.base then
    let v := s.ms.win[idx 16 (by decide) i]
    bitAt v.isOpen 0 + v.cyc % 65536 * 65536
  else if r.base = Reg.fig.base then (s.ms.win[idx 16 (by decide) i]).figs[idx 32 (by decide) j].toNat
  else if r.base = Reg.gpStat.base then s.ms.goal[idx 16 (by decide) i].zone.code
  else 0

/-! ### Service region: jig engines, timers, sealed counters (R316 to R318, R332, R333, R341) -/

/-- STALL in SVCLK v: a FIFO holds the engine. A SHOUT to a pin makes its FETCH load at the tick after its last bit: it stalls there
and not before, and no longer once a word has come (R307). -/
def Jig.stalled (g : Jig) (v : Nat) : Bool :=
  match g.stall with
  | some (.shout _ _ false left total _) => g.txf.isEmpty && (decide (left = total) || decide (g.tickAt g.tick ≤ v))
  | x => x.isSome

/-- JIGn_STAT in SVCLK v (R316). -/
def Jig.statBits (g : Jig) (v : Nat) : Nat :=
  bitAt g.run 0 + bitAt g.bank 1 + bitAt g.swpend 2 + bitAt (g.stalled v) 3 + bitAt g.wait.isSome 4 + bitAt g.f 5 + g.pc % 64 * 64
    + g.rxf.length % 16 * 2 ^ 12 + g.txf.length % 16 * 2 ^ 16 + g.sc % 64 * 2 ^ 20 + bitAt g.trgl 26 + bitAt g.fault 27

/-- The program window: the inactive bank, then the active one (R317). -/
def Jig.window (g : Jig) (j : Nat) : Word := if j < 64 then g.prog (!g.bank) j else g.prog g.bank (j - 64)

/-- The jig registers; the oldest RXF word is read without its pop. -/
def State.jigBits (s : State) (r : RegRow) (i j : Nat) : Nat :=
  let g := s.jig[idx 8 (by decide) i]
  if r.base = Reg.jigStat.base then g.statBits s.svclk
  else if r.base = Reg.jigRxf.base then ((g.rxSeen s.svclk).headD 0).toNat
  else if r.base = Reg.jigX.base then g.x.toNat
  else if r.base = Reg.jigY.base then g.y.toNat
  else if r.base = Reg.jigZ.base then g.z.toNat
  else if r.base = Reg.jigC.base then g.c.toNat
  else if r.base = Reg.jigLostb.base then g.lostb % 64
  else if r.base = Reg.jigOwner.base then g.owner % 16
  else if r.base = Reg.jigProg.base then (g.window j).toNat
  else 0

/-- TMRn_STAT (R332): PIN is the level at TPn, at the ball where the timer drives it. -/
def State.tmrStatBits (s : State) (n : Fin 16) : Nat :=
  let t := s.tmr[n]
  let lvl := if s.rb Reg.tmrCmp n.val 4 then (s.tpPin n).1 else s.sys.vio[2] && Config.tpLevel n.val s.now
  bitAt (s.tmrRuns n) 0 + bitAt t.fault 4 + bitAt lvl 5

/-- The registers of timers and the sealed bank. -/
def State.tmrBits (s : State) (r : RegRow) (i : Nat) : Nat :=
  let n : Fin 16 := idx 16 (by decide) i
  let t := s.tmr[n]
  let c := s.ao.seals[n]
  if r.base = Reg.tmrCmpv.base then t.cmpv.toNat
  else if r.base = Reg.tmrCnt.base then t.cnt.toNat
  else if r.base = Reg.tmrCap.base then t.cap.toNat
  else if r.base = Reg.tmrStat.base then s.tmrStatBits n
  else if r.base = Reg.tmrSnap.base then t.snap.toNat
  else if r.base = Reg.tmrCapall.base then s.snapSeq % 65536 * 65536
  else if r.base = Reg.tmrOwner.base then t.owner % 16
  else if r.base = Reg.sealStat.base then
    bitAt s.otp.keyset 0 + bitAt s.svc.busy 1 + bitAt s.svc.rdy 2 + bitAt s.svc.nokey 3 + bitAt s.otp.epexh 4
  else if r.base = Reg.sealEpoch.base then s.otp.epoch % 4096
  else if r.base = Reg.sealRcnt.base then s.ao.rcnt.toNat
  else if r.base = Reg.sealKcv.base then s.svc.kcv.toNat
  else if r.base = Reg.sealxCfg.base then bitAt c.broken 5 + bitAt c.sat 6 + bitAt c.loss 7
  else if r.base = Reg.sealxLo.base then c.count.toNat % 2 ^ 32
  else if r.base = Reg.sealxHi.base then c.count.toNat / 2 ^ 32
  else if r.base = Reg.sealReport.base then (s.svc.buf.getD i 0).toNat
  else 0

/-! ### Fabric (R381, R382) -/

/-- The code of a port state (R348). -/
def PortState.code : PortState → Nat
  | .down => 0 | .train => 1 | .hello => 2 | .up => 3

/-- FAB_STAT (R381). -/
def State.fabStatBits (s : State) : Nat :=
  let f := s.fab
  bitAt f.capt 0 + f.capid % 32 * 2 + bitAt f.capv 6 + f.cep % 256 * 2 ^ 7 + f.lun % 256 * 2 ^ 15 + bitAt f.lubusy 23
    + bitAt f.hold.isSome 24 + bitAt f.dv 25 + s.sync.code * 2 ^ 26 + bitAt f.diffstop 28

/-- The system time as FAB_SYS_LO and FAB_SYS_HI show it. -/
def State.sysWords (s : State) : Nat × Nat :=
  let t := s.sysAt (16 * s.now)
  (t / 16 % 2 ^ 32, t / 16 / 2 ^ 32 % 256 + t % 16 * 256)

/-- The fabric registers. -/
def State.fabBits (s : State) (r : RegRow) (i : Nat) : Nat :=
  let q := s.fab.port[idx 3 (by decide) i]
  if r.base = Reg.fabId.base then
    s.nodeId % 32 + bitAt (s.fabEn && !s.fab.bench) 5 + bitAt s.fab.bench 6 + s.sys.nid % 32 * 256
      + (if s.fab.capv && !s.fab.capt then s.hopsTo s.fab.capid else 0) % 32 * 2 ^ 13
  else if r.base = Reg.fabStat.base then s.fabStatBits
  else if r.base = Reg.fabMemb.base then (List.range 32).foldl (fun m n => if n ∈ s.fab.members then m + 2 ^ n else m) 0
  else if r.base = Reg.fabDofs.base then unsx 32 s.fab.dofs
  else if r.base = Reg.fabSysLo.base then s.sysWords.1
  else if r.base = Reg.fabSysHi.base then s.sysWords.2
  else if r.base = Reg.fabTerr.base then unsx 16 (clampI (-32768) 32767 s.fab.terr)
  else if r.base = Reg.fabPortStat.base then q.st.code + q.tree % 4 * 4 + q.peer % 32 * 16 + bitAt q.peerV 9
  else if r.base = Reg.fabPortDly.base then (clampI 0 65535 q.delay).toNat
  else 0

/-! ### Faults and BIST (R411, R440) -/

/-- The two words of a message as the collector stores it (R411). -/
def Entry.words (e : Entry) : Nat × Nat :=
  (e.msg.ctx.toNat, e.seq % 4096 + e.msg.src % 4096 * 2 ^ 12 + e.msg.kind % 64 * 2 ^ 24 + e.msg.cls % 4 * 2 ^ 30)

/-- FLT_HEAD_LO, FLT_HEAD_HI and FLT_HEAD_TS (R418). -/
def State.headWords (s : State) : Nat × Nat × Nat :=
  match s.coll.fifo with
  | [] => (0, 0, 0)
  | e :: _ => (e.words.1, e.words.2, e.ts % 2 ^ 32)

/-- The latest accepted message (R405, R440). -/
def State.lastWords (s : State) : Nat × Nat :=
  match s.coll.lastMsg with
  | some e => e.words
  | none => (0, 0)

/-- FLT_STAT (R440). -/
def State.fltStatBits (s : State) : Nat :=
  let c := s.coll
  c.fifo.length % 128 + bitAt c.shot.isSome 16 + bitAt c.safe 17 + bitAt c.cSC 18 + bitAt c.cHost 19 + bitAt c.cDrv 20
    + bitAt c.cGrave 21 + bitAt c.cState 22

/-- FLT_SHOTSTAT (R440). -/
def State.shotBits (s : State) : Nat :=
  let left := match s.coll.shot with
    | some t => (t + s.shotLimit - s.now) / 250
    | none => 0
  min left (2 ^ 17 - 1) + s.coll.last2 % 4096 * 2 ^ 20

/-- The fault and BIST registers. -/
def State.fltBits (s : State) (r : RegRow) : Nat :=
  let b := s.bist
  if r.base = Reg.fltStat.base then s.fltStatBits
  else if r.base = Reg.fltHeadLo.base then s.headWords.1
  else if r.base = Reg.fltHeadHi.base then s.headWords.2.1
  else if r.base = Reg.fltHeadTs.base then s.headWords.2.2
  else if r.base = Reg.fltShotstat.base then s.shotBits
  else if r.base = Reg.fltLastLo.base then s.lastWords.1
  else if r.base = Reg.fltLastHi.base then s.lastWords.2
  else if r.base = Reg.bistStat.base then
    let (u, o) := match b.ov with
      | some o => (o.unit % 16, o.idx % 16)
      | none => (0xF, 0)
    u + o * 16 + bitAt b.ov.isSome 8 + b.innings % 65536 * 65536
  else if r.base = Reg.bistDone.base then b.done % 1024 + b.lastDone % 1024 * 1024
  else 0

/-! ### System range (R294, R396, R410, R462, R463) -/

/-- The code of a device state (R449). -/
def DState.code : DState → Nat
  | .off => 0 | .selftest => 1 | .sidelines => 2 | .ready => 3 | .run => 4 | .standby => 5 | .lockout => 6

/-- The scribe record (R459). -/
def Scribe.word (x : Scribe) : Nat :=
  x.nextpos % 1024 + bitAt x.half 10 + bitAt x.dirk 11 + bitAt x.valid 12 + x.edges % 256 * 2 ^ 13

/-- The slow counter as the other regions see it, 3 TCLK behind its edge (R21). -/
def State.slowSeen (s : State) : Nat := if s.sclkCrossed then s.ao.slow else s.ao.slowPrev

/-- The system registers. -/
def State.sysBits (s : State) (r : RegRow) (i : Nat) : Nat :=
  let y := s.sys
  let g := s.trc.ring[idx 3 (by decide) i]
  if r.base = Reg.devIdent0.base then 0x17232
  else if r.base = Reg.devIdent1.base then Config.serial.toNat % 2 ^ 32
  else if r.base = Reg.devIdent2.base then Config.serial.toNat / 2 ^ 32
  else if r.base = Reg.sysState.base then y.st.code
  else if r.base = Reg.sysSt.base then y.stBits % 65536 + bitAt y.stDone 16 + bitAt y.stWake 17
  else if r.base = Reg.sysGate.base then bitAt y.measRdy 1
  else if r.base = Reg.sysSup.base then
    bitAt y.vmain 0 + bitAt y.vbkup 1 + bitAt y.vio[0] 2 + bitAt y.vio[1] 3 + bitAt y.vio[2] 4 + bitAt y.vio[3] 5 + bitAt y.vbat 6
  else if r.base = Reg.clkStat.base then bitAt y.lockd 0 + bitAt y.refok 1 + unsx 16 (clampI (-32768) 32767 y.referr) * 65536
  else if r.base = Reg.slowLo.base then s.slowSeen % 2 ^ 32
  else if r.base = Reg.slowHi.base then s.slowSeen / 2 ^ 32 % 65536
  else if r.base = Reg.wakeStat.base then s.ao.src % 8
  else if r.base = Reg.scribe.base then s.scribeView.word
  else if r.base = Reg.trcStat.base then bitAt s.trc.init 0 + s.trc.initMb % 8192 * 2
  else if r.base = Reg.trcEaddr.base then s.trc.eaddr % 2 ^ 29
  else if r.base = Reg.ringWp.base then g.wp % 2 ^ 24
  else if r.base = Reg.ringSeq.base then g.seq % 2 ^ 24
  else if r.base = Reg.ringStat.base then bitAt (s.ringFull (idx 3 (by decide) i)) 0 + bitAt g.frozen 1 + bitAt g.wrap 2 + bitAt g.post.isSome 3
  else if r.base = Reg.hintPend.base then s.hintPend
  else if r.base = Reg.mntStat.base then y.ma % 8
  else 0

/-- The fields of a register that are held as typed state, as reader p sees them. -/
def State.typedBits (s : State) (p : Fin 11) (r : RegRow) (i j : Nat) : Nat :=
  match r.base / 0x10000000 with
  | 1 => s.timingBits r i j
  | 2 => s.driverBits r i
  | 3 => s.measBits p r i j
  | 4 => if r.base < 0x41000000 then s.jigBits r i j else s.tmrBits r i
  | 5 => s.fabBits r i
  | 6 => s.fltBits r
  | _ => s.sysBits r i

/-- The present value of a register for reader p, without the effects of a read: stored bits and typed fields. -/
def State.regValue (s : State) (p : Fin 11) (r : RegRow) (i j : Nat) : Word :=
  wordN ((s.rg r i j).toNat ||| s.typedBits p r i j)

end Sys2Proof.Machine
end

