-- ==== Sys2Proof/Machine/WriteRegs.lean ====
section
/-! DEFINITION. What a permitted write of a register does: the access codes of R12 with the locks of R495, the writes of owner
registers (R28, R218), and the registers whose write starts an action. -/

namespace Sys2Proof.Machine

/-! ### Access codes (R11, R12, R495) -/

/-- The lock that covers the RWL fields of element i of a row is set. -/
def State.rowLocked (s : State) (r : RegRow) (i : Nat) : Bool :=
  decide (r.lock ≠ 0) && bit (sparseGet 0 s.regs (lockAddr r i)) 0

/-- A lock leaves nothing of a row's words to be written (R12). -/
def State.allLocked (s : State) (r : RegRow) (i : Nat) : Bool := s.rowLocked r i && decide (r.rw ||| r.w1c ||| r.w1s = 0)

/-- The source fields of a sealed counter are fixed by SEALED (R334, R341). -/
def State.sealFixed (s : State) (r : RegRow) (i : Nat) : Bool :=
  (decide (r.base = Reg.sealxCfg.base) || decide (r.base = Reg.sealxMask.base)) && s.rb Reg.sealxCfg i 4

/-- Bits of a register that a write cannot change now, where their change is noted: locked RWL fields and fixed source fields. -/
def State.fixedBits (s : State) (r : RegRow) (i : Nat) : Nat :=
  if s.sealFixed r i then r.rw else if s.rowLocked r i then r.rwl else 0

/-- The word that a write leaves: RW and open RWL bits take the value, W1C bits written 1 clear unless an event sets them in the
same TCLK (R13), W1S bits written 1 set. -/
def State.merged (s : State) (r : RegRow) (i j : Nat) (v : Word) : Word :=
  let old := s.rg r i j
  let open_ := wordN ((r.rw ||| r.rwl) - ((r.rw ||| r.rwl) &&& s.fixedBits r i))
  let clears := wordN (s.w1cOpen (r.addr i j) (v.toNat &&& r.w1c))
  (((old &&& ~~~open_) ||| (v &&& open_)) &&& ~~~clears) ||| (v &&& wordN r.w1s)

/-- WRITE_LOCKED, once, where the value for a fixed field differs from the stored one. -/
def State.lockNote (s : State) (p : Fin 11) (r : RegRow) (i j : Nat) (v : Word) : State :=
  if (s.rg r i j ^^^ v) &&& wordN (s.fixedBits r i) = 0 then s else s.note Kind.writeLocked p (r.addr i j)

/-- Sources of writes in the order of R392: cores, the host port, the maintenance port. -/
def portRank (p : Fin 11) : Nat := if p.val < 9 then 1 else if p.val = 9 then 2 else 4

/-- The key under which the sources of this TCLK's writes of a register are recorded. -/
def wroteKey (a : Nat) : Nat := 2 ^ 41 + a

/-- A source that R392 puts later has written the word at an address in this TCLK. -/
def State.outranked (s : State) (p : Fin 11) (a : Nat) : Bool := decide (2 * portRank p ≤ s.hwNow (wroteKey a))

/-- A write of a word that is no stored register word, in the order of R392: of several in one TCLK the last one stands. -/
def State.lastWrite (s : State) (p : Fin 11) (a : Nat) (f : State → State) : State :=
  if s.outranked p a then s else (f s).hw (wroteKey a) (portRank p)

/-- What a write leaves: of several in one TCLK, the value of the source that R392 puts last stands. -/
def State.standing (s : State) (p : Fin 11) (r : RegRow) (i j : Nat) (w : Word) : Word :=
  let rw := wordN (r.rw ||| r.rwl)
  if s.outranked p (r.addr i j) then s.merged r i j ((w &&& ~~~rw) ||| (s.rg r i j &&& rw))
  else s.merged r i j w

/-- A write of v to a register's stored fields that leaves them as a write of w does; the always-on system registers take it at
the next SCLK edge (R463), and a rewritten word carries no flipped bits, where its lock lets it be written. -/
def State.storeAs (s : State) (p : Fin 11) (r : RegRow) (i j : Nat) (v w : Word) : State :=
  let m := s.standing p r i j w
  let s1 := s.lockNote p r i j v
  let t := if r.rw ||| r.rwl = 0 then s1 else s1.hw (wroteKey (r.addr i j)) (portRank p)
  if 0x70000100 ≤ r.base ∧ r.base < 0x70000200 then
    if s.rowLocked r i ∨ r.rwl = 0 ∨ s.outranked p (r.addr i j) then t else { t with ao := { t.ao with staged := t.ao.staged ++ [(r.addr i j, m)] } }
  else if s.allLocked r i then t.setRg r i j m
  else (t.setRg r i j m).unflip (r.addr i j)

/-- The write of a register's stored fields. -/
def State.store (s : State) (p : Fin 11) (r : RegRow) (i j : Nat) (v : Word) : State := s.storeAs p r i j v v

/-! ### Owner registers (R27 to R30, R218, R273, R315, R331) -/

/-- An armed peg targets something. -/
def State.pegOn (s : State) (f : Peg → Bool) : Bool :=
  s.work.toList.any fun w => w.slots.toList.any fun p => decide (p.st ≠ .free) && f p

/-- A channel is idle: no profile runs, no start waits and no armed peg targets it. -/
def State.chIdle (s : State) (c : Fin 32) : Bool :=
  s.drv.ch[c].shot.isNone && (s.waitOf c).isNone && !s.pegOn fun p => decide (p.ach = some c)

/-- An ignition output is idle: its dwell line is inactive and no armed peg targets it. -/
def State.ignIdle (s : State) (n : Fin 24) : Bool := !s.edg.ign[n].line && !s.pegOn fun p => decide (p.ign = some n)

/-- A modulator, a goalpost or a window is idle (R273). -/
def State.measIdle (s : State) (n : Fin 40) : Bool :=
  if h : n.val < 8 then
    let m := s.ms.mod[n.val]
    !m.run && m.req.isNone && m.latch.isNone
  else if n.val < 24 then !s.rb Reg.gpCfg (n.val - 8) 11
  else
    let w := idx 16 (by decide) (n.val - 24)
    !s.ms.win[w].isOpen && !s.pegOn fun p => decide (p.win = some w)

/-- A value that a host may write to an owner register: a cluster or the host. -/
def ownerValue (v : Word) : Option Nat :=
  let o := fld v 3 0
  if o ≤ 8 ∨ o = ownHost then some o else none

/-- The rank of a port's claim on a unit (R29): of the two ports' claims of one TCLK the host port's is the first (R392). -/
def claimRank (p : Fin 11) : Nat := if p = mntP then 4 else 3

/-- A host write of an owner register: a refusal, after any other claim of the same TCLK too, emits OWNER_BUSY and ends busy
(R28, R29, R218). -/
def State.ownerWrite (s : State) (p : Fin 11) (addr : Nat) (v : Word) (free : Bool) (move : Nat → State) : Reply :=
  match ownerValue v with
  | some o =>
    if free && s.mayClaim addr (claimRank p) then (move o, .ok)
    else (s.note Kind.ownerBusy p addr, .busy)
  | none => (s.note Kind.ownerBusy p addr, .busy)

/-! ### The timing region (R60, R64, R88, R100, R105, R177, R438) -/

/-- Busy with a MAP_BUSY note (R100, R105). -/
def State.mapBusy (s : State) (p : Fin 11) (addr : Nat) : Reply := (s.note Kind.mapBusy p addr, .busy)

/-- PRD_MAP_CTL: FREEZE is stored; CLEAR is judged with the FREEZE of the same write. -/
def State.mapCtlWrite (s : State) (p : Fin 11) (v : Word) : Reply :=
  let t := s.store p Reg.prdMapCtl 0 0 v
  if !bit v 1 then (t, .ok)
  else if t.mapWritable then (t.mapClear, .ok)
  else s.mapBusy p Reg.prdMapCtl.base

/-- A write of CLU_ROLE (R174). -/
def State.roleCmd (s : State) (c : Fin 9) (v : Word) : Reply :=
  match fld v 3 0 with
  | 0 => s.roleStop c
  | 1 => s.roleStart c
  | 2 => s.roleSpare c
  | _ => (s, .busy)

/-- A host write of CLU_ROLE behind one of the maintenance port that took effect in the same TCLK: the host's goes first (R392), and the
other then finds the role that it left. Where the two differ on a STOPPED cluster, the maintenance port's command is undone. -/
def State.roleLate (s : State) (c : Fin 9) (v : Word) (x : RoleRec) : Reply :=
  let second (t : State) (st : Status) : State := { t with mnt := { t.mnt with istat := st } }
  if fld v 3 0 = x.code then (second s (s.roleCmd c v).2, .ok)
  else if x.clu.role = .stopped ∧ s.clu[c].role = (if x.code = 1 then .active else .spare) then
    match ((s.setClu c fun _ => x.clu).setWork c fun _ => x.work).roleCmd c v with
    | (t, .ok) => (second t .busy, .ok)
    | (_, st) => (s, st)
  else (s, .busy)

/-- A write of CLU_ROLE in the order of R392. -/
def State.roleWrite (s : State) (p : Fin 11) (c : Fin 9) (v : Word) : Reply :=
  match s.roleMnt.filter fun x => decide (x.at_ = s.now) && decide (x.c = c) && decide (p ≠ mntP) with
  | some x => s.roleLate c v x
  | none =>
    match s.roleCmd c v with
    | (t, .ok) => (if p = mntP then { t with roleMnt := some ⟨s.now, c, fld v 3 0, s.clu[c], s.work[c]⟩ } else t, .ok)
    | x => x

/-- The argument that a doorbell leaves: behind one of a source that R392 puts later, that one's. -/
def State.doorbellArg (s : State) (p : Fin 11) (c : Fin 9) (v : Word) : Word :=
  let rung := s.clu[c].work.bind fun w => s.work[w].cues.find? fun q => decide (q.cue = 26)
  if s.outranked p (Reg.cluDoorbell.addr c 0) then (rung.map (·.g14)).getD v else v

/-- The words that the predictor's model reads (R105, R115). -/
def modelWord (r : RegRow) : Bool :=
  decide (r.base ∈ [Reg.toothmap.base, Reg.ripGain.base, Reg.ripCfg.base, Reg.shape.base, Reg.prdCfg.base, Reg.prdMass.base])

/-- Writes of the timing region and the scheduler; CORR of position 0 ignores writes (R101). -/
def State.timingWrite (s : State) (p : Fin 11) (r : RegRow) (i j : Nat) (v : Word) : Reply :=
  let v := if r.base = Reg.toothmap.base ∧ i = 0 then setFld v 19 0 0 else v
  let t := (if modelWord r then s.holdWord r i else s).store p r i j v
  if r.base = Reg.whlxCfg.base then
    ((t.whlCfgWritten (idx 3 (by decide) i) (s.rb Reg.whlxCfg i 0) (s.rb Reg.whlxCfg 0 0)).recheck, .ok)
  else if r.base = Reg.whlCmd.base then (if bit v 0 then t.hostDrop else t, .ok)
  else if r.base = Reg.prdMapCtl.base then s.mapCtlWrite p v
  else if r.base = Reg.toothmap.base then (if s.mapWritable then (t, .ok) else s.mapBusy p (r.addr i j))
  else if r.base = Reg.ripGain.base then (if s.gainWritable then (t, .ok) else s.mapBusy p (r.addr i j))
  else if r.base = Reg.prdStat.base then (if s.mnt.testOpen && decide (v = 0) then t.prdReinstate else t, .ok)
  else if r.base = Reg.cluRole.base then s.roleWrite p (idx 9 (by decide) i) v
  else if r.base = Reg.cluCueEn.base then
    (if p.val < 9 then t.cueEnable (idx 9 (by decide) i) (fun _ => v.toNat) else t.lastWrite p (r.addr i j) fun u => u.cueEnHost (idx 9 (by decide) i) v, .ok)
  else if r.base = Reg.cluDoorbell.base then
    let c : Fin 9 := idx 9 (by decide) i
    ((t.doorbell c (t.doorbellArg p c v)).hw (wroteKey (r.addr i j)) (portRank p), .ok)
  else if r.base = Reg.schedStat.base then
    match s.clu[idx 9 (by decide) i].work with
    | some w => (if bit v 0 && decide (s.w1cOpen (r.addr i j) 1 = 1) then t.setWork w fun x => { x with
        ovf := false, ovfClr := if x.ovf then some s.now else x.ovfClr } else t, .ok)
    | none => (t, .ok)
  else (t, .ok)

/-! ### The driver die (R218, R247) -/

/-- Writes of the driver range. -/
def State.driverWrite (s : State) (p : Fin 11) (r : RegRow) (i j : Nat) (v : Word) : Reply :=
  let c : Fin 32 := idx 32 (by decide) i
  let n : Fin 24 := idx 24 (by decide) i
  let profile := decide (Reg.psCur0.base ≤ r.base) && decide (r.base ≤ Reg.psCls2.base)
  let t := (if profile then s.profileWritten r i else s).store p r i j v
  if r.base = Reg.chanOwner.base then s.ownerWrite p (r.addr i j) v (s.chIdle c) fun o => t.ownCh c o (claimRank p)
  else if r.base = Reg.ignOwner.base then s.ownerWrite p (r.addr i j) v (s.ignIdle n) fun o => t.ownIgn n o (claimRank p)
  else if r.base = Reg.chDiag.base then (if bit v 0 && decide (s.w1cOpen (r.addr i j) 1 = 1) then t.fltClear c else t, .ok)
  else (t, .ok)

/-! ### Measurement (R253, R256, R271, R273) -/

/-- A measurement unit moves to another owner. -/
def State.ownMeas (s : State) (n : Fin 40) (o rank : Nat) : State :=
  if 24 ≤ n.val then s.ownWin (idx 16 (by decide) (n.val - 24)) o rank
  else s.claim (Reg.measOwner.addr n 0) s.ms.owner[n] rank fun t => { t with ms := { t.ms with owner := t.ms.owner.set n.val o n.isLt } }

/-- The key under which START and STOP of this TCLK's writes of a command register are recorded. -/
def cmdKey (a : Nat) : Nat := 2 ^ 42 + a

/-- MODm_CMD: START, STOP and URG. -/
def State.modCmd (s : State) (m : Fin 8) (v : Word) : State :=
  let s1 := if bit v 0 then s.modStart m else s
  let s2 := if bit v 1 then s1.modStop m else s1
  if bit v 2 then s2.modUrg m else s2

/-- A command of MODm_CMD behind START or STOP of a source that R392 puts later, in the same TCLK, goes before them. A START of a running
modulator or a STOP of an idle one, which changed nothing, is made again behind it; one that had its effect leaves nothing of a START or
a STOP before it, and a STOP no urgent request. -/
def State.modLate (s : State) (m : Fin 8) (v : Word) (done : Nat) : State :=
  let idle := done / 8 % 4
  if idle ≠ 0 then (s.modCmd m v).modCmd m (wordN idle)
  else if done.testBit 5 then s
  else s.modCmd m (v &&& 4)

/-- MODm_CMD in the order of R392. The record of a write holds [2:0] its source, [4:3] its START and STOP if they changed nothing, and
[5] STOP. -/
def State.modCmdWrite (s : State) (p : Fin 11) (m : Fin 8) (v : Word) : State :=
  let key := cmdKey (Reg.modCmd.addr m 0)
  let go := fld v 1 0
  if 2 * portRank p ≤ s.hwNow key then s.modLate m v (s.hwNow key)
  else
    let t := s.modCmd m (v &&& 3)
    let did := portRank p + (if t.ms.mod = s.ms.mod then 8 * go else 0) + bitAt (bit v 1) 5
    let u := if bit v 2 then t.modUrg m else t
    if go = 0 then u else u.hw key did

/-- GPg_CFG: a goalpost enabled anew begins inside with its counts cleared, EVTS among them (R271). -/
def State.gpCfgWritten (s : State) (g : Fin 16) (was : Bool) : State :=
  if s.rb Reg.gpCfg g 11 && !was then
    ({ s with ms := { s.ms with goal := s.ms.goal.set g.val ⟨.inside, .inside, 0⟩ g.isLt } } : State).setRf Reg.gpStat g 31 16 0
  else s

/-- Writes of the measurement range. -/
def State.measWrite (s : State) (p : Fin 11) (r : RegRow) (i j : Nat) (v : Word) : Reply :=
  let judged := decide (r.base ∈ [Reg.gpCfg.base, Reg.gpLo.base, Reg.gpHi.base, Reg.gpHys.base])
  let t := (if judged then s.keepWord (r.addr i j) (s.rg r i j) else s).store p r i j v
  if r.base = Reg.measOwner.base then
    let n : Fin 40 := idx 40 (by decide) i
    s.ownerWrite p (r.addr i j) v (s.measIdle n) fun o => t.ownMeas n o (claimRank p)
  else if r.base = Reg.modCmd.base then (t.modCmdWrite p (idx 8 (by decide) i) v, .ok)
  else if r.base = Reg.gpCfg.base then (t.gpCfgWritten (idx 16 (by decide) i) (s.rb Reg.gpCfg i 11), .ok)
  else (t, .ok)

/-! ### Jig engines (R299, R308, R311 to R317) -/

/-- JIGn_CTL: SWAP, FSWAP, FLUSH, TRGCLR. -/
def State.jigCtlWrite (s : State) (e : Fin 8) (v : Word) : State :=
  let s1 := if bit v 0 then s.jigSwapReq e else s
  let s2 := if bit v 1 then s1.jigFswap e else s1
  let s3 := if bit v 2 then s2.jigFlush e else s2
  if bit v 3 then s3.setJig e fun g => { g with trgl := false } else s3

/-- A word appended to TXF, in time for a PULL NB of its SVCLK; a full FIFO that no pull of the SVCLK frees sets TXOVF and keeps what
it holds (R308). -/
def State.jigAppend (s : State) (e : Fin 8) (v : Word) : State :=
  if s.jig[e].txf.length < 8 then (s.setJig e fun g => { g with txf := g.txf ++ [v] }).jigRetry e true
  else (s.setJig e fun g => { g with txMiss := some (s.svclk, v, s.rb Reg.jigEvt e 2) }).setBit Reg.jigEvt e 2

/-- A write of JIGn_TXF in the order of R392: a host word goes before the one that the maintenance port has appended in the same TCLK,
which a full FIFO then refuses in its place. -/
def State.jigTxfWrite (s : State) (p : Fin 11) (e : Fin 8) (v : Word) : State :=
  let a := Reg.jigTxf.addr e 0
  let t := match s.jig[e].txf.getLast? with
    | some w => if s.outranked p a then (s.setJig e fun g => { g with txf := g.txf.dropLast ++ [v] }).jigAppend e w else s.jigAppend e v
    | none => s.jigAppend e v
  if p = mntP ∧ s.jig[e].txf.length < 8 then t.hw (wroteKey a) (portRank p) else t

/-- A write of the program window lands in the inactive bank, in the SVCLK of a SWAP request in the one that was inactive before it;
the active bank is read only (R312, R317). -/
def State.jigProgWrite (s : State) (p : Fin 11) (e : Fin 8) (j : Nat) (v : Word) : Reply :=
  let g := s.jig[e]
  if h : j < 64 then
    let same := g.swapAt.filter fun x => decide (x.1 = s.svclk)
    let bank := !((same.map (·.2)).getD g.bank)
    if g.swpend && same.isNone then (s.note Kind.jigBusy p (Reg.jigProg.addr e j), .busy)
    else
      (s.lastWrite p (Reg.jigProg.addr e j) fun u =>
        (u.setJig e fun x => if bank then { x with prog1 := x.prog1.set j v } else { x with prog0 := x.prog0.set j v }).unflip
          (jigKey e bank j), .ok)
  else (s, .ok)

/-- Writes of the jig range. -/
def State.jigWrite (s : State) (p : Fin 11) (r : RegRow) (i j : Nat) (v : Word) : Reply :=
  let e : Fin 8 := idx 8 (by decide) i
  let t := s.store p r i j v
  if r.base = Reg.jigCfg.base then (if s.rb Reg.jigCfg i 0 && !bit v 0 then t.jigDisable e else t, .ok)
  else if r.base = Reg.jigCtl.base then (t.jigCtlWrite e v, .ok)
  else if r.base = Reg.jigTxf.base then (t.jigTxfWrite p e v, .ok)
  else if r.base = Reg.jigCmd.base then (t.jigCmd (fld v 7 0) (fld v 10 8), .ok)
  else if r.base = Reg.jigOwner.base then
    s.ownerWrite p (r.addr i j) v (!s.rb Reg.jigCfg i 0) fun o => t.ownJig e o (claimRank p)
  else if r.base = Reg.jigProg.base then s.jigProgWrite p e j v
  else (t, .ok)

/-! ### Timers and the sealed bank (R319, R326 to R341) -/

/-- Writes of the timers: LINK is refused with OWNER_BUSY, CMPV arms, CNT is written only while the timer is disabled. -/
def State.tmrWrite (s : State) (p : Fin 11) (r : RegRow) (i j : Nat) (v : Word) : Reply :=
  let n : Fin 16 := idx 16 (by decide) i
  let t := s.store p r i j v
  if r.base = Reg.tmrCfg.base then
    (if s.linkRefused n (s.merged r i j v) then (s.note Kind.ownerBusy p (r.addr i j), .busy)
     else (t.tmrCfgWritten n (s.rg Reg.tmrCfg i), .ok))
  else if r.base = Reg.tmrCmpv.base then (t.lastWrite p (r.addr i j) fun u => u.tmrCmpvWrite p n v, .ok)
  else if r.base = Reg.tmrCnt.base then
    (if s.rb Reg.tmrCfg (s.tmrLead n).val 0 then (s, .busy)
     else (t.lastWrite p (r.addr i j) fun u => u.setTmr n fun x => { x with cnt := v, recent := [] }, .ok))
  else if r.base = Reg.tmrCapall.base then (if bit v 0 then t.tmrCapall else t, .ok)
  else if r.base = Reg.tmrOwner.base then
    s.ownerWrite p (r.addr i j) v (!s.rb Reg.tmrCfg i 0) fun o =>
      t.claim (r.addr i j) t.tmr[n].owner (claimRank p) fun u => u.setTmr n fun x => { x with owner := o }
  else (t, .ok)

/-- SEALn_ADD: queued while the counter is sealed with SRC 5h, else ignored (R335). -/
def State.sealAdd (s : State) (n : Fin 16) (v : Word) : State :=
  if s.rb Reg.sealxCfg n 4 then s.sealGather 5 (fun x => decide (x = n)) v.toNat else s

/-- Writes of the sealed bank. -/
def State.sealWrite (s : State) (p : Fin 11) (r : RegRow) (i j : Nat) (v : Word) : Reply :=
  let t := s.store p r i j v
  if r.base = Reg.sealCtl.base then
    (if !bit v 0 then (t, .ok) else if s.svc.busy then (s, .busy) else (t.sealReport, .ok))
  else if r.base = Reg.sealStat.base then
    (let v := wordN (s.w1cOpen (r.addr i j) v.toNat)
    { t with svc := { t.svc with rdy := t.svc.rdy && !bit v 2, nokey := t.svc.nokey && !bit v 3 } }, .ok)
  else if r.base = Reg.sealKeyw.base then
    (if s.otp.keyset then t else t.lastWrite p (r.addr i j) fun u => { u with svc := { u.svc with keyw := Machine.vset u.svc.keyw i v } }, .ok)
  else if r.base = Reg.sealBurn.base then (t.sealBurn v, .ok)
  else if r.base = Reg.sealxAdd.base then (t.sealAdd (idx 16 (by decide) i) v, .ok)
  else if r.base = Reg.sealxLo.base ∨ r.base = Reg.sealxHi.base then (s, .ok)
  else (t, .ok)

/-! ### Fabric (R350, R351, R364, R374, R381) -/

/-- FAB_CFG: IDUSE and SOFTID take no write while EN = 1. -/
def State.fabCfgWrite (s : State) (p : Fin 11) (v : Word) : State :=
  let w := if s.rb Reg.fabCfg 0 0 then setFld v 11 6 (s.rf Reg.fabCfg 0 11 6) else v
  ((s.storeAs p Reg.fabCfg 0 0 v w).fabFollow).refollow s.sync 0

/-- FAB_CMD. -/
def State.fabCmdWrite (s : State) (v : Word) : State :=
  let s1 := if bit v 0 && s.fabRuns then s.newRecord else s
  let s2 := if bit v 1 then s1.handoverCmd (fld v 12 8) else s1
  if bit v 2 then s2.diffClear else s2

/-- Writes of the fabric range. -/
def State.fabWrite (s : State) (p : Fin 11) (r : RegRow) (i j : Nat) (v : Word) : Reply :=
  if r.base = Reg.fabCfg.base then (s.fabCfgWrite p v, .ok)
  else if r.base = Reg.fabCmd.base then (s.fabCmdWrite v, .ok)
  else (s.store p r i j v, .ok)

/-! ### Faults and BIST (R418 to R423, R438 to R440) -/

/-- FLT_CTL: POP, RELEASE, SAFE. A write that sends RELEASE ends with the driver die's answer. -/
def State.fltCtlWrite (s : State) (p : Fin 11) (v : Word) : Reply :=
  let by_ (t : State) : State := t.setColl fun c => { c with relWait := some ⟨decide (p = mntP), 0, 0, none, false, [], 0⟩ }
  let s1 := if bit v 0 then s.fltPop else s
  let s2 : Reply :=
    if bit v 2 then
      match s1.fltRelease with
      | some t => if t.coll.relPend then (by_ t, .waiting) else (t, .ok)
      | none => (s1, .busy)
    else (s1, .ok)
  (if bit v 1 then s2.1.fltSafe else s2.1, s2.2)

/-- Writes of the fault range. -/
def State.faultWrite (s : State) (p : Fin 11) (r : RegRow) (i j : Nat) (v : Word) : Reply :=
  let t := s.store p r i j v
  if r.base = Reg.fltCtl.base then t.fltCtlWrite p v
  else if r.base = Reg.fltAck.base then (t.fltAck (fld v 11 0), .ok)
  else if r.base = Reg.fiCtl.base then (if bit v 4 then t.inject (fld v 3 0) else t, .ok)
  else if r.base = Reg.bistCmd.base then (t.bistCmd (fld v 3 0), .ok)
  else (t, .ok)

/-! ### The system range (R287, R289, R448, R451) -/

/-- Two enabled rings would overlap. -/
def State.ringOverlaps (s : State) (r : Fin 3) : Bool :=
  (List.finRange 3).any fun q => decide (q ≠ r) && s.ringEn q && decide (s.ringLo q < s.ringHi r) && decide (s.ringLo r < s.ringHi q)

/-- TRCr_CFG after its store: EN set is checked, EN cleared stops the ring after the slot being written (R287). -/
def State.ringCfgWritten (s : State) (r : Fin 3) (was : Bool) : State :=
  let en := s.ringEn r
  if en && !was then
    if 4096 < s.ringHi r ∨ s.trc.initMb < s.ringHi r ∨ s.ringOverlaps r then
      (s.setRf Reg.ringCfg r 0 0 0).emit 0 Kind.trcCfgBad (srcC 2 4 r) r.val
    else
      (s.setRf Reg.ringRp r 23 0 0).setRing r fun g => { g with
        wp := 0, seq := 0, wrap := false, frozen := false, post := none, q := [], loss := false, trigAt := none }
  else if was && !en then
    let writing := decide (s.links.mdlHead = some (some r))
    s.setRing r fun g => { g with q := if writing then g.q.take 1 else [], post := none }
  else s

/-- TRCr_CMD: RESUME is applied before a trigger of its TCLK, which then freezes the ring, or has frozen it (R289). -/
def State.ringCmdWrite (s : State) (r : Fin 3) (v : Word) : State :=
  let s1 :=
    if !bit v 1 || decide (s.trc.ring[r].trigAt = some (s.now, true)) then s
    else
      let t := s.setRing r fun g => { g with frozen := false, trigAt := none }
      if s.trc.ring[r].trigAt = some (s.now, false) then t.ringTrigger r else t
  if bit v 0 then s1.ringTrigger r else s1

/-- Writes of the system range. -/
def State.sysWrite (s : State) (p : Fin 11) (r : RegRow) (i j : Nat) (v : Word) : Reply :=
  let q : Fin 3 := idx 3 (by decide) i
  if r.base = Reg.sysCmd.base then s.sysCommand p v
  else if r.base = Reg.sysGate.base then
    (if s.outranked p r.base then (s, .ok)
     else
       let (t, st) := s.gateWrite v
       (if st = .ok then t.hw (wroteKey r.base) (portRank p) else t, st))
  else if r.base = Reg.ringBase.base then (if s.ringEn q then s.lockNote p r i j v else s.store p r i j v, .ok)
  else if r.base = Reg.ringCfg.base then
    let w := if s.ringEn q then setFld v 10 1 (s.rf Reg.ringCfg i 10 1) else v
    ((s.storeAs p r i j v w).ringCfgWritten q (s.ringEn q), .ok)
  else if r.base = Reg.ringCmd.base then (s.ringCmdWrite q v, .ok)
  else if r.base = Reg.ringRp.base then ((s.keepWord (r.addr i j) (s.rg r i j)).store p r i j v, .ok)
  else (s.store p r i j v, .ok)

/-- A permitted write of a register, by range. -/
def State.regWrite (s : State) (p : Fin 11) (r : RegRow) (i j : Nat) (v : Word) : Reply :=
  match r.base / 0x10000000 with
  | 1 => s.timingWrite p r i j v
  | 2 => s.driverWrite p r i j v
  | 3 => s.measWrite p r i j v
  | 4 =>
    if r.base < 0x41000000 then s.jigWrite p r i j v
    else if r.base < 0x41000800 then s.tmrWrite p r i j v
    else s.sealWrite p r i j v
  | 5 => s.fabWrite p r i j v
  | 6 => s.faultWrite p r i j v
  | _ => s.sysWrite p r i j v

/-! ### LOCKOUT (R425) -/

/-- Counter fields, which a write of 0 clears. -/
def counterBits (r : RegRow) : Nat :=
  if r.base = Reg.sysGate.base then 0xFFFF0000
  else if [Reg.whlCnt, Reg.prdCnt, Reg.cluCueCnt, Reg.cluExc, Reg.schedStat, Reg.schedCnt, Reg.schedFired, Reg.edgStat, Reg.chCnt,
      Reg.bnkCnt, Reg.modStat, Reg.modTrg, Reg.pairStat, Reg.gpStat, Reg.jigCnt, Reg.tmrStat, Reg.fabCnt, Reg.fabPortErr,
      Reg.fabPortCode, Reg.fltStat, Reg.fltCnt01, Reg.fltCnt23, Reg.bistCnt, Reg.trcEcc, Reg.ringStat, Reg.hostCnt,
      Reg.mntStat].any fun x => decide (x.base = r.base) then r.rw
  else 0

/-- The counter fields of a row, each as its own mask. -/
def counterFields (r : RegRow) : List Nat :=
  let m := counterBits r
  if m = 0xFFFFFFFF ∧ r.base ≠ Reg.schedFired.base then [0xFFFF, 0xFFFF0000] else if m = 0 then []
  else if r.base = Reg.mntStat.base then [0xFF00, 0xFFFF0000] else [m]

/-- The word that a LOCKOUT write leaves: W1C bits, and counter fields written 0. -/
def State.lockoutWord (s : State) (r : RegRow) (i j : Nat) (v : Word) : Word :=
  let w1 := s.rg r i j &&& ~~~(wordN (s.w1cOpen (r.addr i j) (v.toNat &&& r.w1c)))
  (counterFields r).foldl (fun (w : Word) m => if v &&& wordN m = 0 then w &&& ~~~(wordN m) else w) w1

/-- The writes that R425 lets take effect in LOCKOUT: the registers named, W1C bits, and counter fields written 0; every other one
ends busy. A write of BNKb_DIAG, which has both W1C and RWL bits, gives no WRITE_LOCKED note for its locked IDIFF, since in LOCKOUT it
takes effect on its W1C bits only (DESIGN CHOICE, log entry 88). -/
def State.lockoutWrite (s : State) (p : Fin 11) (r : RegRow) (i j : Nat) (v : Word) : Reply :=
  let whole := [Reg.hint0En, Reg.hint1En, Reg.ringRp, Reg.ringCmd, Reg.sealNonce, Reg.sealCtl, Reg.tmrCapall].any fun x =>
    decide (x.base = r.base)
  if whole then s.regWrite p r i j v
  else if r.base = Reg.fltCtl.base then (if bit v 0 then (s.fltPop, .ok) else (s, .busy))
  else if r.base = Reg.fabCmd.base then (if bit v 0 then (s.fabCmdWrite 1, .ok) else (s, .busy))
  else if r.base = Reg.sealStat.base then s.sealWrite p r i j v
  else if r.w1c ≠ 0 ∨ r.base = Reg.schedStat.base ∨ (counterFields r).any (fun m => v &&& wordN m = 0) then
    let t := s.setRg r i j (s.lockoutWord r i j v)
    if r.base = Reg.schedStat.base then
      match s.clu[idx 9 (by decide) i].work with
      | some w => (if bit v 0 && decide (s.w1cOpen (r.addr i j) 1 = 1) then t.setWork w fun x => { x with
          ovf := false, ovfClr := if x.ovf then some s.now else x.ovfClr } else t, .ok)
      | none => (t, .ok)
    else if r.base = Reg.chDiag.base then (if bit v 0 && decide (s.w1cOpen (r.addr i j) 1 = 1) then t.fltClear (idx 32 (by decide) i) else t, .ok)
    else (t, .ok)
  else (s, .busy)

end Sys2Proof.Machine
end

