-- ==== Sys2Proof/Machine/Access.lean ====
section
/-! DEFINITION. One access of one word by a port or a core: the address map (R44 to R46), ownership (R30, R159), gating (R20),
cluster SRAM (R35, R435), trace memory (R281 to R284), the peg tables (R151), and the shadows of reads (R113, R151, R161, R269,
R293, R328, R418, R463). -/

namespace Sys2Proof.Machine

/-! ### Who may write (R27, R30, R159, R299) -/

/-- The owner of the unit that a register belongs to; none for the registers that only the host writes. -/
def State.unitOwner (s : State) (r : RegRow) (i : Nat) : Option Nat :=
  let a := r.base
  if 0x20001000 ≤ a ∧ a < 0x20002000 then some s.edg.ch[idx 32 (by decide) i].owner
  else if 0x20004000 ≤ a ∧ a < 0x20005000 then some s.edg.ign[idx 24 (by decide) i].owner
  else if 0x30001000 ≤ a ∧ a < 0x30002000 then some s.ms.owner[idx 40 (by decide) (i % 8)]
  else if 0x3000A000 ≤ a ∧ a < 0x3000B000 then some s.ms.owner[idx 40 (by decide) (8 + i % 16)]
  else if 0x30004000 ≤ a ∧ a < 0x30008000 then some s.ms.owner[idx 40 (by decide) (24 + i % 16)]
  else if (0x40000000 ≤ a ∧ a < 0x40000E00) ∨ (0x40001000 ≤ a ∧ a < 0x40002000) then some s.jig[idx 8 (by decide) i].owner
  else if 0x41000000 ≤ a ∧ a < 0x41000400 then some s.tmr[idx 16 (by decide) i].owner
  else none

/-- The owners of the engines that a word names to JIG_CMD. -/
def State.jigMasked (s : State) (v : Word) : List Nat :=
  ((List.finRange 8).filter fun e => bit v e.val).map fun e => s.jig[e].owner

/-- The judgement of a host write: BUSY outside R425 in LOCKOUT, OWNER while a cluster owns the unit. -/
def State.hostMay (s : State) (r : RegRow) (i : Nat) (v : Word) : Status :=
  if s.sys.st = .lockout then .ok
  else if r.base = Reg.jigCmd.base then
    (if (s.jigMasked v).all fun o => decide (o = ownHost) || decide (o = ownFault) then .ok else .owner)
  else
    match s.unitOwner r i with
    | some o => if o = ownHost ∨ o = ownFault then .ok else .owner
    | none => .ok

/-- The judgement of a core's write: a comparator, like a peg, is its cluster's (R27, R159, R299, R331). CLU_CUE_EN of another cluster
is no register of an owned unit, so it raises ADDR (DESIGN CHOICE, log entry 88). -/
def State.coreMay (s : State) (c : Fin 9) (r : RegRow) (i : Nat) (v : Word) : Status :=
  if r.base = Reg.tmrCapall.base then .ok
  else if r.base = Reg.jigCmd.base then (if (s.jigMasked v).all fun o => decide (o = c.val) then .ok else .owner)
  else if r.base = Reg.cluCueEn.base then (if i = c.val then .ok else .addrerr)
  else if r.base = Reg.acCfg.base then (if i = c.val then .ok else .owner)
  else
    match s.unitOwner r i with
    | some o => if o = c.val then .ok else .owner
    | none => .addrerr

/-- The cluster of a reader; none for the two ports. -/
def coreOf (p : Fin 11) : Option (Fin 9) := if h : p.val < 9 then some ⟨p.val, h⟩ else none

/-! ### Address map (R44 to R46) -/

/-- The addresses of R440 that are reserved while factory test mode is closed (R438). -/
def testReg (a : Nat) : Bool := 0x60002000 ≤ a && a < 0x60002018

/-- The row and element at an address, as the device presents it now. -/
def State.regAt (s : State) (a : Nat) : Option (RegRow × Nat × Nat) := if testReg a && !s.mnt.testOpen then none else findReg a

/-- The peg and word of an address in the peg tables or the mirror (R151); a cluster's table shows the work it carries. -/
def State.pegAt (s : State) (a : Nat) : Option (Peg × Nat) :=
  let at_ (w : Option (Fin 9)) (off : Nat) : Option (Peg × Nat) :=
    let k : Fin 32 := idx 32 (by decide) (off / 32)
    if off < 0x400 ∧ off % 32 < 28 then
      some ((match w with | some w => s.work[w].slots[k] | none => Peg.empty), off % 32 / 4)
    else none
  let mirror (x : Peg × Nat) : Peg × Nat := ({ x.1 with resBad := false }, x.2)
  if h : 0x11000000 ≤ a ∧ a < 0x11009000 then
    let n : Fin 9 := ⟨(a - 0x11000000) / 0x1000, by omega⟩
    at_ s.clu[n].work ((a - 0x11000000) % 0x1000)
  else if h : 0x11800000 ≤ a ∧ a < 0x11809000 then
    (at_ (some ⟨(a - 0x11800000) / 0x1000, by omega⟩) ((a - 0x11800000) % 0x1000)).map mirror
  else none

/-- The cluster of an address in a cluster SRAM (R45). -/
def sramAt (a : Nat) : Option (Fin 9) :=
  if h : a < 0x90000 then (if a % 0x10000 < 0x6000 then some ⟨a / 0x10000, by omega⟩ else none) else none

/-- The measurement range while the region is gated (R20). -/
def State.gatedAt (s : State) (a : Nat) : Bool := decide (0x30000000 ≤ a) && decide (a < 0x40000000) && !s.measRuns

/-- The driver die's range, reached over the DDL. -/
def driverAt (a : Nat) : Bool := decide (0x20000000 ≤ a) && decide (a < 0x30000000)

/-- A register access crosses to the unit that holds the register: over the DDL to the driver die (R16); the measurement region is
brought up to date (R262). The Bool says that the access arrives. -/
def State.reach (s : State) (a : Nat) (link : Bool) : State × Bool :=
  if driverAt a then s.ddlAccess link
  else if 0x30000000 ≤ a ∧ a < 0x40000000 then (s.windowsNow, true)
  else if 0x70004000 ≤ a ∧ a < 0x70005000 then (s.traceNow, true)
  else (s, true)

/-- The offset of an address in trace memory. -/
def traceAt (a : Nat) : Option Nat := if traceBase ≤ a ∧ a < traceBase + 2 ^ 32 then some (a - traceBase) else none

/-- A reserved address: BAD_ADDRESS and the address-error status (R46). -/
def State.badAddr (s : State) (p : Fin 11) (a : Nat) : State := s.note Kind.badAddress p a

/-! ### Cluster SRAM (R35, R435) -/

/-- A host read of a cluster SRAM word. -/
def State.sramRead (s : State) (n : Fin 9) (a : Nat) (found : Fin 3) : State × Word × Status :=
  let i := a % 0x10000 % 0x4000 / 4
  match s.eccOf a found with
  | 0 => (s, s.word a, .ok)
  | 1 => (s.sramCe n.val i, s.word a, .ok)
  | _ => (s.emit 1 Kind.eccUe (srcC 0 n.val 0xF) i, 0, .dataerr)

/-- A host write of a cluster SRAM word; it stands over a core's write of the same TCLK (R35). -/
def State.sramWrite (s : State) (n : Fin 9) (a : Nat) (v : Word) : Reply :=
  if s.sys.st = .lockout ∨ s.clu[n].role = .testing then (s, .busy) else (((s.setWord a v).unflip a).hw a 1, .ok)

/-! ### Trace memory (R48, R281 to R284) -/

/-- The transfer of one word; a word of a whole aligned block after its first rides on that one's (R282). -/
def State.traceMove (s : State) (off : Nat) (link whole : Bool) : State × Bool :=
  if whole && decide (off % 64 ≠ 0) then (s, true) else s.mdlAccess link

/-- A host read of a trace-memory word; whole: part of a whole aligned block. -/
def State.traceRead (s : State) (off : Nat) (found : Fin 3) (link whole : Bool) : State × Word × Status :=
  if s.trc.initMb * 2 ^ 20 ≤ off then (s, 0, .busy)
  else
    match s.traceMove off link whole with
    | (u, false) => (u, 0, .linkerr)
    | (u, true) =>
      match u.traceJudge off found 0 with
      | (t, true) => (t, u.word (traceBase + off), .ok)
      | (t, false) => (t, 0, .dataerr)

/-- The offset lies in an enabled ring. -/
def State.inRing (s : State) (off : Nat) : Bool :=
  (List.finRange 3).any fun r => s.ringEn r && decide (s.ringLo r * 2 ^ 20 ≤ off) && decide (off < s.ringHi r * 2 ^ 20)

/-- The judgement of a host write to trace memory before its transfer. -/
def State.traceMay (s : State) (p : Fin 11) (off : Nat) : Reply :=
  if s.sys.st = .lockout ∨ s.trc.initMb * 2 ^ 20 ≤ off then (s, .busy)
  else if s.inRing off then (s.note Kind.trcBusy p (traceBase + off), .busy)
  else (s, .ok)

/-- A host write of one word, read and merged into its 64-bit word; whole: part of a whole aligned block, so nothing is read. -/
def State.traceWrite (s : State) (p : Fin 11) (off : Nat) (v : Word) (found : Fin 3) (link whole : Bool) : Reply :=
  match s.traceMay p off with
  | (t, .ok) =>
    match t.traceMove off link whole with
    | (x, false) => (x, .linkerr)
    | (x, true) =>
      let put (u : State) : State := (u.setWord (traceBase + off) v).unflip (traceBase + off / 8 * 8)
      if whole then (put x, .ok)
      else
        match x.traceJudge off found 2 with
        | (u, true) => (put u, .ok)
        | (u, false) => (u, .dataerr)
  | (t, st) => (t, st)

/-! ### Shadows -/

/-- The word a reader's shadow holds for an address. -/
def Reader.shadowOf (r : Reader) (a : Nat) : Option Word := (r.shadow.find? fun x => decide (x.1 = a)).map (·.2)

/-- Fill shadows. -/
def Reader.fill (r : Reader) (l : List (Nat × Word)) : Reader :=
  { r with shadow := r.shadow.filter (fun x => decide (x.1 ∉ l.map (·.1))) ++ l }

/-- Drop the shadow of an address. -/
def Reader.drop (r : Reader) (a : Nat) : Reader := { r with shadow := r.shadow.filter fun x => decide (x.1 ≠ a) }

/-- The registers that a read of a register copies, with the address that each copy answers. -/
def State.companions (s : State) (p : Fin 11) (r : RegRow) (i j : Nat) : List (RegRow × Nat × Nat) :=
  if r.base = Reg.prdAng.base then
    [Reg.prdRate, Reg.prdAcc, Reg.prdTsLo, Reg.prdTsHi, Reg.prdQ, Reg.prdQfr].map fun x => (x, 0, 0)
  else if r.base = Reg.fltHeadLo.base then [(Reg.fltHeadHi, 0, 0), (Reg.fltHeadTs, 0, 0)]
  else if r.base = Reg.fltLastLo.base then [(Reg.fltLastHi, 0, 0)]
  else if r.base = Reg.fabSysLo.base then [(Reg.fabSysHi, 0, 0)]
  else if r.base = Reg.slowLo.base then [(Reg.slowHi, 0, 0)]
  else if r.base = Reg.devIdent1.base then [(Reg.devIdent2, 0, 0)]
  else if r.base = Reg.ringWp.base then [(Reg.ringSeq, i, 0)]
  else if r.base = Reg.sealxLo.base then [(Reg.sealxHi, i, 0)]
  else if (coreOf p).isNone ∧ r.base = Reg.modRes.base then [(Reg.modRsq, i, 0), (Reg.modRts, i, 0)]
  else if (coreOf p).isNone ∧ r.base = Reg.fig.base ∧ j = 0 then (List.range 31).map fun f => (Reg.fig, i, f + 1)
  else if (r.base = Reg.tmrCnt.base ∨ r.base = Reg.tmrCap.base ∨ r.base = Reg.tmrSnap.base) ∧ i % 2 = 0
      ∧ s.linked (idx 16 (by decide) i) then [(r, i + 1, 0)]
  else []

/-- Registers whose reads keep answering the shadow until its leader is read again. -/
def keepsShadow (p : Fin 11) (r : RegRow) (j : Nat) : Bool :=
  ([Reg.prdRate, Reg.prdAcc, Reg.prdTsLo, Reg.prdTsHi, Reg.prdQ, Reg.prdQfr, Reg.fltHeadHi, Reg.fltHeadTs, Reg.fltLastHi,
    Reg.fabSysHi, Reg.slowHi, Reg.devIdent2].any fun x => decide (x.base = r.base))
  || ((coreOf p).isNone && ((decide (r.base = Reg.modRsq.base) || decide (r.base = Reg.modRts.base))
    || (decide (r.base = Reg.fig.base) && decide (0 < j))))

/-- Registers whose shadow answers one read. -/
def onceShadow (r : RegRow) (i : Nat) : Bool :=
  decide (r.base = Reg.ringSeq.base) || decide (r.base = Reg.sealxHi.base)
    || ((decide (r.base = Reg.tmrCnt.base) || decide (r.base = Reg.tmrCap.base) || decide (r.base = Reg.tmrSnap.base))
      && decide (i % 2 = 1))

/-- What a kept shadow answers before it was ever filled: the register's reset value (log entry 18). -/
def shadowReset (r : RegRow) : Word := if r.base = Reg.devIdent2.base then wordN (Config.serial.toNat / 2 ^ 32) else wordN r.rst

/-- The effects of a read beside its shadows: FRESH is consumed (R269), and the owner's read of RXF pops it (R308). -/
def State.readEffect (s : State) (p : Fin 11) (r : RegRow) (i j : Nat) : State :=
  if r.base = Reg.modRes.base then (s.readResult p (idx 8 (by decide) i)).1
  else if r.base = Reg.fig.base then (s.readFigure p (idx 16 (by decide) i) (idx 32 (by decide) j)).1
  else if r.base = Reg.jigRxf.base then
    let e : Fin 8 := idx 8 (by decide) i
    let mine := match coreOf p with
      | some c => decide (s.jig[e].owner = c.val)
      | none => decide (s.jig[e].owner = ownHost)
    if s.jig[e].rxSeen s.svclk = [] then s.setBit Reg.jigEvt e 3
    else if mine then (s.setJig e fun g => { g with rxf := g.rxf.tail }).jigRetry e false
    else s
  else s

/-- A read of a register by a reader. -/
def State.regRead (s : State) (p : Fin 11) (r : RegRow) (i j : Nat) : State × Word :=
  let a := r.addr i j
  let live := s.regValue p r i j
  let s1 := s.setReader p fun x => x.fill ((s.companions p r i j).map fun y => (y.1.addr y.2.1 y.2.2, s.regValue p y.1 y.2.1 y.2.2))
  let old := s.readers[p].shadowOf a
  let v := if keepsShadow p r j then old.getD (shadowReset r) else if onceShadow r i then old.getD live else live
  let s2 := if onceShadow r i then s1.setReader p fun x => x.drop a else s1
  (s2.readEffect p r i j, v)

/-- A read of a word of the peg tables: PEG_D0 copies the others, which answer the copy (R151, R161). -/
def State.pegRead (s : State) (p : Fin 11) (a : Nat) (x : Peg) (k : Nat) : State × Word :=
  let ws := s.pegWords x
  if k = 0 then
    (s.setReader p fun y => y.fill ((List.range 6).map fun n => (a + 4 * (n + 1), ws.getD (n + 1) 0)), ws.getD 0 0)
  else (s, (s.readers[p].shadowOf a).getD 0)

/-! ### One access -/

/-- The address under which flipped bits of a register word stand: in an engine's program window the bank's own word (R317). -/
def State.keyOf (s : State) (r : RegRow) (i j : Nat) : Nat :=
  if r.base = Reg.jigProg.base then
    let e : Fin 8 := idx 8 (by decide) i
    jigKey e (if j < 64 then !s.jig[e].bank else s.jig[e].bank) j
  else r.addr i j

/-- What a port's read of a register word finds under its check (R31, R32, R336, R414, R459). -/
def State.portChecked (s : State) (r : RegRow) (i j : Nat) (found : Fin 3) : State × Bool :=
  if r.base = Reg.scribe.base then (s.scribeCheck found, true)
  else if r.base = Reg.fltHeadLo.base then s.headCheck found
  else if r.base = Reg.sealxLo.base ∨ r.base = Reg.sealxHi.base then
    s.sealRead (idx 16 (by decide) i) (decide (r.base = Reg.sealxLo.base)) found
  else s.checkedAt (s.keyOf r i j) found

/-- A read of one word by a port or a core; found: what the word's check finds; link: the die link's transfer failed; whole: part
of a whole aligned block of trace memory. -/
def State.accRead (s : State) (p : Fin 11) (a : Nat) (found : Fin 3) (link : Bool) (whole : Bool := false) :
    State × Word × Status :=
  let core := (coreOf p).isSome
  if a % 4 ≠ 0 then (s, 0, .addrerr)
  else
    match sramAt a, traceAt a with
    | some n, _ => if core then (s, 0, .addrerr) else s.sramRead n a found
    | none, some off => if core then (s, 0, .addrerr) else s.traceRead off found link whole
    | none, none =>
      match s.pegAt a, s.regAt a with
      | some (x, k), _ =>
        let (t, v) := s.pegRead p a x k
        (t, v, .ok)
      | none, some (r, i, j) =>
        if s.gatedAt a then (if core then (s, 0, .ok) else (s, 0, .addrerr))
        else
          match s.reach a link with
          | (u, false) => (u, 0, .linkerr)
          | (u, true) =>
            match u.portChecked r i j found with
            | (t, false) => (t, 0, .dataerr)
            | (t, true) =>
              let (x, v) := t.regRead p r i j
              (x, v, .ok)
      | none, none => (s.badAddr p a, 0, .addrerr)

/-- A write of one word by a port or a core; whole: part of a whole aligned block of trace memory. -/
def State.accWrite (s : State) (p : Fin 11) (a : Nat) (v : Word) (found : Fin 3) (link : Bool) (whole : Bool := false) : Reply :=
  if a % 4 ≠ 0 then (s, .addrerr)
  else
    match sramAt a, traceAt a with
    | some n, _ => if (coreOf p).isSome then (s, .addrerr) else s.sramWrite n a v
    | none, some off => if (coreOf p).isSome then (s, .addrerr) else s.traceWrite p off v found link whole
    | none, none =>
      match s.pegAt a, s.regAt a with
      | some _, _ =>
        (match coreOf p with
          | some c =>
            (s, if 0x11009000 ≤ a then .addrerr else if (a - 0x11000000) / 0x1000 = c.val then .ok else .owner)
          | none => if s.sys.st = .lockout then (s, .busy) else (s, .ok))
      | none, some (r, i, j) =>
        if s.gatedAt a then (if (coreOf p).isSome then (s, .ok) else (s, .addrerr))
        else
          (match (match coreOf p with | some c => s.coreMay c r i v | none => s.hostMay r i v) with
            | .ok =>
              (match s.reach a link with
                | (u, false) => (u, .linkerr)
                | (u, true) =>
                  if (coreOf p).isNone && decide (s.sys.st = .lockout) then u.lockoutWrite p r i j v else u.regWrite p r i j v)
            | st => (s, st))
      | none, none => (s.badAddr p a, .addrerr)

/-- A 40-bit address. -/
def addr40 (a : Nat) : Nat := a % 2 ^ 40

/-- Change the maintenance port. -/
def State.setMnt (s : State) (f : Mnt → Mnt) : State := { s with mnt := f s.mnt }

/-- The host port's answer to a frame (R387): data is what the words before the failing one read. -/
def State.hostAnswer (s : State) (st : Status) (data : List Word) (index : Nat) : State := { s with host := ⟨st, data, index⟩ }

/-- The link's transfer of word k fails; one transfer carries a whole block (R389). -/
def linkAt (link : Option Nat) (whole : Bool) (k : Nat) : Bool := if whole then link.isSome else decide (link = some k)

/-- Word k of a write burst and those after it; a release holds the burst up (R389, R423). -/
def State.burstWrite (s : State) (a step : Nat) (link : Option Nat) (whole : Bool) : List Word → Nat → State
  | [], _ => s.hostAnswer .ok [] 0
  | v :: vs, k =>
    let (t, st) := s.accWrite hostP (addr40 (a + step * k)) v 0 (linkAt link whole k) whole
    if st = .ok then t.burstWrite a step link whole vs (k + 1)
    else if st = .waiting then
      { t.hostAnswer st [] k with coll := { t.coll with relWait := some ⟨false, a, step, link, whole, vs, k⟩ } }
    else t.hostAnswer st [] k

/-- A release that a port wrote waits for its answer (R423): the host port's, the maintenance port's. -/
def State.hostHeld (s : State) : Bool := s.coll.relWait.any fun w => !w.port
def State.mntHeld (s : State) : Bool := s.coll.relWait.any (·.port)

/-- The write that waited for the driver die's answer ends with its status: a burst of the host port goes on behind it, and the
maintenance port's access completes (R389, R406, R423). -/
def State.relResume (s : State) : State :=
  match s.coll.relDone, s.coll.relWait with
  | some st, some w =>
    let t : State := { s with coll := { s.coll with relDone := none, relWait := none } }
    if w.port then
      t.setMnt fun m => { m with
        pend := none, istat := st, iaddr := if m.pend.any (·.2) && decide (st = .ok) then addr40 (m.iaddr + 4) else m.iaddr }
    else if st = .ok then t.burstWrite w.a w.step w.link w.whole w.rest (w.k + 1)
    else t.hostAnswer st [] w.k
  | _, _ => s

/-- The answer to a release comes over the DDL, whole, once the DDL carries traffic again (R423; log entry 77). -/
def State.relEnd (s : State) : State :=
  (s.advanceTo s.links.quietUntil).ddlDrain.ddlRelease.ddlDrain.releaseAnswer.relResume

/-- A later frame of the host port waits for the answer to a release that an earlier one wrote (R390, R423; log entry 77). The rest of
the earlier burst may write a release again, so the wait is served once for each word it can hold. -/
def State.hostWait (s : State) : State :=
  (List.range 17).foldl (fun (t : State) _ => if t.hostHeld then t.relEnd else t) s

/-- A byte of the maintenance port waits for the answer to a release that an earlier access wrote (R403, R423; log entry 77). -/
def State.mntRelWait (s : State) : State := if s.mntHeld then s.relEnd else s

/-! ### Accesses as the rows of the command table name them -/

/-- The reader of a named row: 0 the host port, 1 the maintenance port. -/
def portOf2 (p : Fin 2) : Fin 11 := if p = 0 then hostP else mntP

/-- Indirect reads and writes are allowed (R410). -/
def State.mntMay (s : State) (write : Bool) : Bool := s.rb Reg.mntCfg 0 (if write then 1 else 0)

/-- A write of one word by a port, with its answer; a port answers only in the states of R384 and R397. -/
def State.portWrite (s : State) (p : Fin 2) (a : Nat) (v : Word) (found : Fin 3) (link : Bool) : State :=
  if !s.clocked then s
  else if p = 0 then
    let (t, st) := s.hostWait.accWrite hostP a v found link
    t.hostAnswer st [] 0
  else if s.mntMay true then
    let (t, st) := s.mntRelWait.accWrite mntP a v found link
    if st = .waiting then t else { t with mnt := { t.mnt with istat := st } }
  else { s with mnt := { s.mnt with istat := .denied } }

/-- A read of one word by a port, with its answer. -/
def State.portRead (s : State) (p : Fin 2) (a : Nat) (found : Fin 3) (link : Bool) : State :=
  if !s.clocked then s
  else if p = 0 then
    let (t, v, st) := s.hostWait.accRead hostP a found link
    t.hostAnswer st (if st = .ok then [v] else []) 0
  else if s.mntMay false then
    let (t, v, st) := s.mntRelWait.accRead mntP a found link
    { t with mnt := { t.mnt with istat := st, idata := if st = .ok ∨ s.gatedAt a then v else t.mnt.idata } }
  else { s with mnt := { s.mnt with istat := .denied } }

/-- A write of a row that a core or a port may make; a core's write answers nobody here. -/
def State.anyWrite (s : State) (p : Fin 11) (a : Nat) (v : Word) (link : Bool) : State :=
  match coreOf p with
  | some _ => if s.clocked then (s.accWrite p a v 0 link).1 else s
  | none => s.portWrite (if p = hostP then 0 else 1) a v 0 link

/-- A read of a row that a core or a port may make. -/
def State.anyRead (s : State) (p : Fin 11) (a : Nat) (link : Bool) : State :=
  match coreOf p with
  | some _ => if s.clocked then (s.accRead p a 0 link).1 else s
  | none => s.portRead (if p = hostP then 0 else 1) a 0 link

end Sys2Proof.Machine
end

