-- ==== Sys2Proof/Machine/Ports.lean ====
section
/-! DEFINITION. The host port's frames (R385 to R391) and the maintenance port's bytes, pointer space, indirect accesses and
alert (R397 to R409). -/

namespace Sys2Proof.Machine

/-! ### Host port frames (R385 to R391) -/

/-- HOST_CRC: a failed or unknown command is counted and noted (R385, R386). -/
def State.hostCrcBad (s : State) : State := (s.bump Reg.hostCnt 0 15 0).emit 0 Kind.hostCrc (portSrc hostP) 0

/-- A frame, once the one before it is served (R390): nothing outside the states of R384, CRCERR, BADCMD, or its accesses. -/
def State.hostFrame (s0 : State) (crcOk : Bool) (len : Nat) (body : State → State) : State :=
  let s := s0.hostWait
  if !s0.clocked then s0
  else if !crcOk then s.hostCrcBad.hostAnswer .crcerr [] 0
  else if len / 16 ≠ 0 then s.hostAnswer .badcmd [] 0
  else body s

/-- Word k of a read burst and those after it: n words left, step bytes apart, got the words read (R389). -/
def State.burstRead (s : State) (a step : Nat) (link : Option Nat) (whole : Bool) : Nat → Nat → List Word → State
  | 0, _, got => s.hostAnswer .ok got 0
  | n + 1, k, got =>
    let (t, v, st) := s.accRead hostP (addr40 (a + step * k)) 0 (linkAt link whole k) whole
    if st = .ok then t.burstRead a step link whole n (k + 1) (got ++ [v]) else t.hostAnswer st got k

/-- Sixteen words aligned to 64 bytes in trace memory are one transfer that reads nothing (R282, R389). -/
def wholeBlock (a n step : Nat) : Bool := decide (step = 4) && decide (n = 16) && decide (a % 64 = 0) && (traceAt a).isSome

/-- READ and READF. -/
def State.frameRead (s : State) (a len step : Nat) (crcOk : Bool) (link : Option Nat) : State :=
  s.hostFrame crcOk len fun t => t.burstRead a step link (wholeBlock a (len % 16 + 1) step) (len % 16 + 1) 0 []

/-- HCS# rises before the last CRC byte (R391). -/
def State.frameAbort (s : State) : State :=
  if !s.clocked then s else (s.bump Reg.hostCnt 0 31 16).emit 0 Kind.hostAbort (portSrc hostP) 0

/-- WRITE and WRITEF: the frame carries n = LEN + 1 words; one with fewer ended early (R391). -/
def State.frameWrite (s : State) (a len step : Nat) (ws : List Word) (crcOk : Bool) (link : Option Nat) : State :=
  if ws.length < len % 16 + 1 then s.frameAbort
  else s.hostFrame crcOk len fun t => t.burstWrite a step link (wholeBlock a (len % 16 + 1) step) (ws.take (len % 16 + 1)) 0

/-- INTR returns HINT_PEND without an address. -/
def State.frameIntr (s : State) (crcOk : Bool) : State :=
  s.hostFrame crcOk 0 fun t => t.hostAnswer .ok [wordN t.hintPend] 0

/-- The opcodes of R385. -/
def hostOpcode (op : Nat) : Bool := op ∈ [0x0B, 0x0C, 0x02, 0x03, 0x05]

/-- What a frame's command bytes ask for by their opcode, with the CRC that came after them (R385, R386); link: the word whose transfer
fails on a die link. -/
def State.hostCommand (s : State) (bs : List Nat) (crc : Nat) (link : Option Nat) : State :=
  let good := decide (crc16 bs = crc)
  match bs with
  | [] => s.frameAbort
  | op :: rest =>
    if op = 0x05 then s.frameIntr good
    else
      match rest with
      | a4 :: a3 :: a2 :: a1 :: a0 :: len :: data =>
        let a := leNat [a0, a1, a2, a3, a4]
        if op = 0x0B then s.frameRead a len 4 good link
        else if op = 0x0C then s.frameRead a len 0 good link
        else if op = 0x02 then s.frameWrite a len 4 (leWords data) good link
        else if op = 0x03 then s.frameWrite a len 0 (leWords data) good link
        else s
      | _ => s.frameAbort

/-- The command bytes of a frame with an address: opcode, address high byte first, LEN, data low byte first (R385). -/
def frameBytes (op : Nat) (a : BitVec 40) (len : BitVec 8) (ws : List Word) : List Nat :=
  op :: (leBytes 5 a.toNat).reverse ++ [len.toNat] ++ ws.flatMap fun w => leBytes 4 w.toNat

/-- An unknown opcode: no response, counted and noted. -/
def State.frameUnknown (s : State) (op : Nat) : State := if !s.clocked || hostOpcode op then s else s.hostCrcBad

/-! ### The maintenance port: state and pointer space (R398 to R405) -/

/-- The unit acknowledges its own address in the states of R384 (R397, R398). -/
def State.mntOwn (s : State) (addr : Nat) : Bool := s.clocked && decide (addr = 0x58 + s.sys.ma % 8)

/-- Byte i of a number. -/
def byteOf (n i : Nat) : Nat := n / 256 ^ i % 256

/-- The code of a status (R388). -/
def Status.code : Status → Nat
  | .ok => 0 | .waiting => 0 | .busy => 1 | .addrerr => 2 | .owner => 3 | .linkerr => 4 | .dataerr => 5 | .crcerr => 6 | .badcmd => 7 | .denied => 8

/-- SYNC of the pointer space: the combined state, REV, RATEV, CAPT. -/
def State.mntSync (s : State) : Nat := s.sync.code + bitAt s.whl.rev 2 + bitAt s.whl.ratev 3 + bitAt s.fab.capt 4

/-- NODE of the pointer space: the node ID, IDV, BENCH, as FAB_ID shows them. -/
def State.mntNode (s : State) : Nat := s.nodeId % 32 + bitAt (s.fabEn && !s.fab.bench) 5 + bitAt s.fab.bench 6

/-- A byte of the pointer space as it stands (R405, R406, R409). -/
def State.mntLive (s : State) (q : Nat) : Nat :=
  let m := s.mnt
  if q ≤ 0x01 then byteOf 0x7232 q
  else if q = 0x02 then 1
  else if q = 0x03 then s.mntNode
  else if 0x04 ≤ q ∧ q ≤ 0x0B then byteOf Config.serial.toNat (q - 0x04)
  else if q = 0x0C then s.sys.st.code
  else if q = 0x0D then s.mntSync
  else if q = 0x0E then m.astat % 16
  else if q = 0x0F then m.aen % 256
  else if q = 0x10 then m.afcls % 4
  else if 0x14 ≤ q ∧ q ≤ 0x1B then byteOf (s.lastWords.1 + s.lastWords.2 * 2 ^ 32) (q - 0x14)
  else if 0x1C ≤ q ∧ q ≤ 0x1F then m.fcnt[idx 4 (by decide) (q - 0x1C)] % 256
  else if 0x20 ≤ q ∧ q ≤ 0x24 then byteOf m.iaddr (q - 0x20)
  else if q = 0x25 then bitAt m.pend.isSome 3 + m.istat.code * 16
  else if 0x28 ≤ q ∧ q ≤ 0x2B then byteOf m.idata.toNat (q - 0x28)
  else if q = 0x38 then bitAt s.otp.fused 0 + bitAt s.sys.testPin 1 + bitAt m.testOpen 2
  else 0

/-- The fields of R400, lowest and highest pointer. -/
def wideFields : List (Nat × Nat) := [(0x04, 0x0B), (0x14, 0x1B), (0x20, 0x24), (0x28, 0x2B)]

/-- The field that a pointer lies in. -/
def wideAt (q : Nat) : Option (Nat × Nat) := wideFields.find? fun f => decide (f.1 ≤ q) && decide (q ≤ f.2)

/-- What the shadow of a wide field answers before it was ever filled: the field's reset value (log entry 18). -/
def mntShadowReset (q : Nat) : Nat := if 0x04 ≤ q ∧ q ≤ 0x0B then byteOf Config.serial.toNat (q - 0x04) else 0

/-- The byte sent from a pointer: the lowest byte of a wide field copies the others, which answer the copy (R400). -/
def State.mntSend (s : State) (q : Nat) : State × Nat :=
  match wideAt q with
  | none => (s, s.mntLive q)
  | some (lo, hi) =>
    if q = lo then
      let new := (List.range (hi - lo)).map fun i => (lo + 1 + i, s.mntLive (lo + 1 + i))
      (s.setMnt fun m => { m with view := m.view.filter (fun x => decide (x.1 ≤ lo) || decide (hi < x.1)) ++ new }, s.mntLive q)
    else
      match s.mnt.view.find? (·.1 = q) with
      | some x => (s, x.2)
      | none => (s, mntShadowReset q)

/-- The bytes of a field at its commit: those staged, and the standing ones where none is staged. -/
def State.staged (s : State) (lo hi : Nat) (top : Nat) : Nat :=
  (List.range (hi + 1 - lo)).foldl (fun (n : Nat) i =>
    let q := lo + i
    let b := if q = hi then top else
      match s.mnt.stage.find? (·.1 = q) with
      | some x => x.2
      | none => s.mntLive q
    n + b % 256 * 256 ^ i) 0

/-- Forget the staged bytes of a committed field. -/
def Mnt.unstage (m : Mnt) (lo hi : Nat) : Mnt := { m with stage := m.stage.filter fun x => decide (x.1 < lo) || decide (hi < x.1) }

/-- A byte is staged. -/
def Mnt.stageByte (m : Mnt) (q b : Nat) : Mnt := { m with stage := (q, b % 256) :: m.stage.filter fun x => decide (x.1 ≠ q) }

/-! ### Indirect accesses (R403, R406) -/

/-- A write of ICTL: RD and WR together give BADCMD, MNT_CFG may deny, otherwise the access starts. -/
def State.ictlWrite (s : State) (b : Nat) : State :=
  let rd := b.testBit 0
  let wr := b.testBit 1
  if !s.clocked || !(rd || wr) then s
  else if rd && wr then s.setMnt fun m => { m with istat := .badcmd }
  else if !s.mntMay wr then s.setMnt fun m => { m with istat := .denied }
  else s.setMnt fun m => { m with pend := some (wr, b.testBit 2) }

/-- The indirect access completes: STAT, IDATA, and IADDR advances by 4 after a successful access with INC. -/
def State.indirectDone (s : State) (link : Bool) : State :=
  match s.mnt.pend with
  | none => s
  | some (wr, inc) =>
    if s.mntHeld then s
    else
    let a := addr40 s.mnt.iaddr
    let (t, v, st) := if wr then
        let (t, st) := s.accWrite mntP a s.mnt.idata 0 link
        (t, s.mnt.idata, st)
      else s.accRead mntP a 0 link
    if st = .waiting then t
    else t.setMnt fun m => { m with
      pend := none, istat := st, idata := if st = .ok ∨ (!wr ∧ s.gatedAt a) then v else m.idata, iaddr := if inc && decide (st = .ok) then addr40 (a + 4) else m.iaddr }

/-- A byte at 25h to 2Bh waits for the access in progress, unless its stretch lasted 1 ms (R403, R406). -/
def State.mntWait (s : State) (q : Nat) : State :=
  if !(decide (0x25 ≤ q) && decide (q ≤ 0x2B)) then s
  else if s.mnt.late then s.setMnt fun m => { m with late := false }
  else (s.indirectDone false).mntRelWait

/-- A stretch reaches 1 ms: STAT reads BUSY and the byte is handled as things stand; the access itself goes on (R403). -/
def State.stretchOver (s : State) : State :=
  if s.mnt.pend.isSome then s.setMnt fun m => { m with istat := .busy, late := true } else s

/-- ASTAT written: bits clear, and the latch with them once no enabled bit is left; an event of this TCLK on a bit that the write
clears sets the bit and the latch again (R407). -/
def State.astatWrite (s : State) (b : Nat) : State :=
  let open_ := s.w1cOpen astatKey (b % 16)
  s.setMnt fun m =>
    let a := m.astat % 16 &&& (15 ^^^ open_)
    { m with astat := a, latch := (m.latch || decide (b &&& s.hwNow astatKey &&& m.aen ≠ 0)) && decide (a &&& m.aen ≠ 0) }

/-- TKEY committed: factory test mode opens only with the fuse intact and the strap high (R409). -/
def State.tkeyWrite (s : State) (key : BitVec 64) : State :=
  if !s.otp.fused && s.sys.testPin && decide (key = Config.testKey) then s.setMnt fun m => { m with testOpen := true } else s

/-- A byte received at a pointer (R400, R405, R409). -/
def State.mntTake (s0 : State) (q b : Nat) : State :=
  let s := s0.mntWait q
  if q = 0x0E then s.astatWrite b
  else if q = 0x0F then s.setMnt fun m => { m with aen := b % 16 }
  else if q = 0x10 then s.setMnt fun m => { m with afcls := b % 4 }
  else if 0x1C ≤ q ∧ q ≤ 0x1F then s.setMnt fun m => { m with fcnt := m.fcnt.set (idx 4 (by decide) (q - 0x1C)).val (b % 256) (Fin.isLt _) }
  else if 0x20 ≤ q ∧ q < 0x24 then s.setMnt fun m => m.stageByte q b
  else if q = 0x24 then s.setMnt fun m => { m.unstage 0x20 0x24 with iaddr := s.staged 0x20 0x24 b }
  else if q = 0x25 then s.ictlWrite b
  else if 0x28 ≤ q ∧ q < 0x2B then s.setMnt fun m => m.stageByte q b
  else if q = 0x2B then s.setMnt fun m => { m.unstage 0x28 0x2B with idata := wordN (s.staged 0x28 0x2B b) }
  else if 0x30 ≤ q ∧ q < 0x37 then (if s.otp.fused then s else s.setMnt fun m => m.stageByte q b)
  else if q = 0x37 then (s.tkeyWrite (BitVec.ofNat 64 (s.staged 0x30 0x37 b))).setMnt fun m => m.unstage 0x30 0x37
  else s

/-! ### Transfers (R399, R401, R404, R408) -/

/-- Bytes received one after another, the pointer advancing. -/
def State.mntTakeAll (s : State) : List (BitVec 8) → State
  | [] => s
  | b :: bs => ((s.mntTake s.mnt.ptr b.toNat).setMnt fun m => { m with ptr := (m.ptr + 1) % 256 }).mntTakeAll bs

/-- A write: the pointer byte, then data bytes. -/
def State.mntWriteBytes (s : State) (addr : Nat) (bs : List (BitVec 8)) : State :=
  if !s.mntOwn addr then s
  else
    match bs with
    | [] => s
    | b :: rest => (s.setMnt fun m => { m with ptr := b.toNat }).mntTakeAll rest

/-- A byte sent from the pointer. -/
def State.mntSendByte (s0 : State) : State :=
  let s := s0.mntWait s0.mnt.ptr
  let (t, b) := s.mntSend s.mnt.ptr
  t.setMnt fun m => { m with out := m.out ++ [b] }

/-- n bytes sent, the pointer advancing after each. -/
def State.mntSendAll (s : State) : Nat → State
  | 0 => s
  | n + 1 => (s.mntSendByte.setMnt fun m => { m with ptr := (m.ptr + 1) % 256 }).mntSendAll n

/-- A read of n bytes. -/
def State.mntReadBytes (s : State) (addr n : Nat) : State :=
  if !s.mntOwn addr then s else (s.setMnt fun m => { m with out := [] }).mntSendAll n

/-- An abandoned byte is counted; the pointer does not advance (R401). -/
def State.mntAbandoned (s : State) : State := s.bump Reg.mntStat 0 15 8

/-- A START or STOP in a byte, in the unit's ACK slot, or in the controller's ACK slot of a read; there the byte was sent and
only the pointer stays. -/
def State.mntAbandon (s : State) (unitAck : Bool) : State :=
  if !s.clocked then s else if unitAck then s.mntAbandoned else s.mntSendByte

/-- The alert response: the unit sends its address, and wins when the bus shows what it sent (R408). -/
def State.alertAnswer (s : State) (seen : Nat) : State :=
  if !s.clocked || !s.mnt.latch || decide (seen ≠ (0x58 + s.sys.ma % 8) * 2) then s
  else (s.bump Reg.mntStat 0 31 16).setMnt fun m => { m with latch := false }

end Sys2Proof.Machine
end

