-- ==== Sys2Proof/Machine/SysCmds.lean ====
section
/-! DEFINITION. The meanings of the power, clock, link and register commands (chapters Architecture and Power, Clocks and
Start-Up). -/

namespace Sys2Proof.Machine

/-- An event of a unit that needs TCLK: nothing happens in OFF and STANDBY (R446, R449). -/
def State.awake (s : State) (f : State → State) : State := if s.clocked then f s else s

/-! ### Power, clocks and device states (R443 to R461) -/

/-- POWER_ON_RESET (R452). -/
def execPowerOnReset (s : State) : Out := finish (if s.sys.st = .off ∧ !s.sys.por then s.powerOn else s)

/-- POR_RELEASE (R452). -/
def execPorRelease (nid : Fin 32) (ma : Fin 8) (test : Bool) (s : State) : Out := finish (s.porRelease nid.val ma.val test)

/-- PLL_LOCK (R446, R452). -/
def execPllLock (s : State) : Out := finish s.pllLock

/-- SELFTEST_END (R453, R458). -/
def execSelftestEnd (fails : BitVec 16) (stores : Bool) (echo : EchoResult) (drvLink : Bool) (s : State) : Out :=
  finish (s.selftestEnd fails stores echo drvLink)

/-- SUPPLY_LOST (R444). -/
def execSupplyLost (which : Fin 3) (s : State) : Out := finish (s.supplyLost which)

/-- VIO_BANK_LOST (R443). -/
def execVioBankLost (b : Fin 3) (s : State) : Out := finish (s.vioBank b false)

/-- VIO_BANK_GOOD (R443). -/
def execVioBankGood (b : Fin 3) (s : State) : Out := finish (s.vioBank b true)

/-- VBAT_LOST (R445). -/
def execVbatLost (s : State) : Out := finish s.vbatLost

/-- VBAT_GOOD (R443). -/
def execVbatGood (s : State) : Out := finish s.vbatGood

/-- PLL_UNLOCK_TIMEOUT (R447). -/
def execPllUnlockTimeout (s : State) : Out := finish s.pllUnlock

/-- REFERENCE_WINDOW_END (R447). -/
def execReferenceWindowEnd (cycles : Nat) (s : State) : Out := finish (s.refWindow cycles)

/-- SCLK_SILENCE (R447). -/
def execSclkSilence (s : State) : Out := finish s.sclkSilence

/-- The word of SYS_CMD (R451). -/
def sysCmdWord (confirm : BitVec 16) (cmd : Nat) : Word := wordN (confirm.toNat * 65536 + cmd)

/-- SYS_RUN (R451). -/
def execSysRun (p : Fin 2) (confirm : BitVec 16) (s : State) : Out :=
  finish (s.portWrite p Reg.sysCmd.base (sysCmdWord confirm 1) 0 false)

/-- SYS_READY (R451). -/
def execSysReady (p : Fin 2) (confirm : BitVec 16) (s : State) : Out :=
  finish (s.portWrite p Reg.sysCmd.base (sysCmdWord confirm 2) 0 false)

/-- SYS_STANDBY (R455). -/
def execSysStandby (p : Fin 2) (confirm : BitVec 16) (s : State) : Out :=
  finish (s.portWrite p Reg.sysCmd.base (sysCmdWord confirm 3) 0 false)

/-- SYS_RETEST (R454). -/
def execSysRetest (p : Fin 2) (confirm : BitVec 16) (s : State) : Out :=
  finish (s.portWrite p Reg.sysCmd.base (sysCmdWord confirm 4) 0 false)

/-- STANDBY_COMPLETE (R455). -/
def execStandbyComplete (s : State) : Out := finish s.standbyComplete

/-- WAKE_PIN (R457). -/
def execWakePin (s : State) : Out := finish s.wakePin

/-- WAKE_WHL (R457). -/
def execWakeWhl (aux0 : Bool) (s : State) : Out := finish (s.wakeWhl aux0)

/-- WAKE_ALARM (R457). -/
def execWakeAlarm (s : State) : Out := finish s.wakeAlarm

/-- WAKE_MNT (R457). -/
def execWakeMnt (addr : BitVec 7) (s : State) : Out := finish (s.wakeMnt addr.toNat)

/-- WAKE_BEGIN (R458). -/
def execWakeBegin (s : State) : Out := finish s.wakeBegin

/-- STANDBY_EDGE (R461). -/
def execStandbyEdge (aux0 : Bool) (s : State) : Out := finish (s.standbyEdge aux0)

/-- MEAS_GATE_WRITE (R448): the write keeps DROPPED. -/
def execMeasGateWrite (p : Fin 2) (gate : Bool) (s : State) : Out :=
  finish (s.portWrite p Reg.sysGate.base (wordN (s.rf Reg.sysGate 0 31 16 * 65536 + bitAt gate 0)) 0 false)

/-- UNGATE_DONE (R20). -/
def execUngateDone (s : State) : Out := finish s.ungateDone

/-! ### Die links (R17, R18, R37, R38, R282, R423) -/

/-- HEARTBEAT_SEND (R18). -/
def execHeartbeatSend (s : State) : Out := finish s.heartbeatSend

/-- DDL_SILENCE (R18). -/
def execDdlSilence (s : State) : Out := finish s.ddlSilence

/-- DDL_RELEASE (R18, R423). -/
def execDdlRelease (s : State) : Out := finish (s.awake State.ddlRelease)

/-- RELEASE_ANSWER (R423). -/
def execReleaseAnswer (s : State) : Out := finish ((s.awake State.releaseAnswer).relResume)

/-- DDL_TRANSFER (R37, R38). -/
def execDdlTransfer (ok : Bool) (s : State) : Out := finish (s.ddlTransfer ok).relResume

/-- MDL_TRANSFER (R37, R282). -/
def execMdlTransfer (ok : Bool) (s : State) : Out := finish (s.mdlTransfer ok)

/-- EDGE_ECHO_CHECK (R17). -/
def execEdgeEchoCheck (line : Fin 56) (same : Bool) (s : State) : Out := finish (s.awake fun t => t.echoCheck line same)

/-! ### Register accesses (R12, R28, R30, R35, R113, R218, R273, R315, R331) -/

/-- REGISTER_WRITE (R12, R30). -/
def execRegisterWrite (p : Fin 11) (addr : BitVec 40) (v : BitVec 32) (link : Bool) (s : State) : Out :=
  finish (s.anyWrite p addr.toNat v link)

/-- LOCK_SET (R12). -/
def execLockSet (p : Fin 2) (addr : BitVec 40) (v : BitVec 32) (link : Bool) (s : State) : Out :=
  finish (s.portWrite p addr.toNat v 0 link)

/-- SHADOW_READ (R113, R151, R161, R293, R328). -/
def execShadowRead (p : Fin 11) (addr : BitVec 40) (link : Bool) (s : State) : Out := finish (s.anyRead p addr.toNat link)

/-- CHAN_OWNER_WRITE (R28, R218). -/
def execChanOwnerWrite (p : Fin 2) (n : Fin 32) (v : BitVec 32) (link : Bool) (s : State) : Out :=
  finish (s.portWrite p (Reg.chanOwner.addr n.val 0) v 0 link)

/-- IGN_OWNER_WRITE (R28, R218). -/
def execIgnOwnerWrite (p : Fin 2) (n : Fin 24) (v : BitVec 32) (link : Bool) (s : State) : Out :=
  finish (s.portWrite p (Reg.ignOwner.addr n.val 0) v 0 link)

/-- MEAS_OWNER_WRITE (R28, R273). -/
def execMeasOwnerWrite (p : Fin 2) (n : Fin 40) (v : BitVec 32) (s : State) : Out :=
  finish (s.portWrite p (Reg.measOwner.addr n.val 0) v 0 false)

/-- JIG_OWNER_WRITE (R28, R315). -/
def execJigOwnerWrite (p : Fin 2) (n : Fin 8) (v : BitVec 32) (s : State) : Out :=
  finish (s.portWrite p (Reg.jigOwner.addr n.val 0) v 0 false)

/-- TMR_OWNER_WRITE (R28, R331). -/
def execTmrOwnerWrite (p : Fin 2) (n : Fin 16) (v : BitVec 32) (s : State) : Out :=
  finish (s.portWrite p (Reg.tmrOwner.addr n.val 0) v 0 false)

/-- CLUSTER_SRAM_WRITE (R35). -/
def execClusterSramWrite (p : Fin 2) (addr : BitVec 40) (v : BitVec 32) (s : State) : Out :=
  finish (s.portWrite p addr.toNat v 0 false)

/-- CLUSTER_SRAM_READ (R35, R435). -/
def execClusterSramRead (p : Fin 2) (addr : BitVec 40) (ecc : Fin 3) (s : State) : Out :=
  finish (s.portRead p addr.toNat ecc false)

end Sys2Proof.Machine
end

