-- ==== Sys2Proof/Machine/DriverCmds.lean ====
section
/-! DEFINITION. The meanings of the driver die's commands (chapter Actuator Drive and Shot Profiles). -/

namespace Sys2Proof.Machine

/-- START_EDGE (R232). -/
def execStartEdge (n : Fin 32) (s : State) : Out := finish (s.awake fun t => t.startEdge n)

/-- BANK_GRANT (R233). -/
def execBankGrant (n : Fin 32) (s : State) : Out := finish (s.awake fun t => t.bankGrant n)

/-- BANK_DEFER_EXPIRE (R233). -/
def execBankDeferExpire (n : Fin 32) (s : State) : Out := finish (s.awake fun t => t.bankDeferExpire n)

/-- BOOST_RAIL_READY (R235). -/
def execBoostRailReady (n : Fin 32) (s : State) : Out := finish (s.awake fun t => t.boostRailReady n)

/-- BOOST_WAIT_EXPIRE (R235). -/
def execBoostWaitExpire (n : Fin 32) (s : State) : Out := finish (s.awake fun t => t.boostWaitExpire n)

/-- IBOOST_REACHED (R219). -/
def execIboostReached (n : Fin 32) (s : State) : Out := finish (s.awake fun t => t.iboostReached n)

/-- TBOOST_EXPIRE (R223). -/
def execTboostExpire (n : Fin 32) (cur : Nat) (s : State) : Out := finish (s.awake fun t => t.tboostExpire n cur)

/-- TPEAK_EXPIRE (R219). -/
def execTpeakExpire (n : Fin 32) (s : State) : Out := finish (s.awake fun t => t.tpeakExpire n)

/-- IHOLD_REACHED (R219). -/
def execIholdReached (n : Fin 32) (s : State) : Out := finish (s.awake fun t => t.iholdReached n)

/-- TBYP_EXPIRE (R219). -/
def execTbypExpire (n : Fin 32) (s : State) : Out := finish (s.awake fun t => t.tbypExpire n)

/-- CHOP_COMPARATOR (R221). -/
def execChopComparator (n : Fin 32) (upper : Bool) (s : State) : Out := finish (s.awake fun t => t.chop n upper)

/-- TCHOPMIN_EXPIRE (R221). -/
def execTchopminExpire (n : Fin 32) (s : State) : Out := finish (s.awake fun t => t.tchopminExpire n)

/-- OFF_COMMAND (R222, R234). -/
def execOffCommand (n : Fin 32) (s : State) : Out := finish (s.awake fun t => t.offCommand n)

/-- TMAX_EXPIRE (R222). -/
def execTmaxExpire (n : Fin 32) (s : State) : Out := finish (s.awake fun t => t.tmaxExpire n)

/-- FAST_DECAY_END (R228). -/
def execFastDecayEnd (n : Fin 32) (s : State) : Out := finish (s.awake fun t => t.fastDecayEnd n)

/-- RECOVERY_END (R228, R241). -/
def execRecoveryEnd (n : Fin 32) (s : State) : Out := finish (s.awake fun t => t.recoveryEnd n)

/-- CLOSE_RECORD (R241). -/
def execCloseRecord (s : State) : Out := finish (s.awake State.closeRecord)

/-- REFUSE_RECEIVE (R232). -/
def execRefuseReceive (s : State) : Out := finish (s.awake State.refuseReceive)

/-- HOLDEND_RECEIVE (R140, R222). -/
def execHoldendReceive (s : State) : Out := finish (s.awake State.holdendReceive)

/-- BOOST_RAIL_MEASURE (R229). -/
def execBoostRailMeasure (k : Fin 2) (v : Nat) (s : State) : Out := finish (s.awake fun t => t.railMeasure k v)

/-- BOOST_ILIM_REACHED (R229). -/
def execBoostIlimReached (k : Fin 2) (s : State) : Out := finish (s.awake fun t => t.ilimReached k)

/-- BOOST_TOFF_EXPIRE (R229). -/
def execBoostToffExpire (k : Fin 2) (s : State) : Out := finish (s.awake fun t => t.toffExpire k)

/-- DUTY_BUCKET_CLOSE (R236). -/
def execDutyBucketClose (n : Fin 32) (s : State) : Out := finish (s.awake fun t => t.bucketClose n)

/-- SHORT_BAT (R244). -/
def execShortBat (n : Fin 32) (s : State) : Out := finish (s.awake fun t => t.shortBat n)

/-- SHORT_GND (R244). -/
def execShortGnd (b : Fin 8) (s : State) : Out := finish (s.awake fun t => t.shortGnd b)

/-- IGN_NOCUR (R242). -/
def execIgnNocur (n : Fin 24) (s : State) : Out := finish (s.awake fun t => t.ignNocur n)

/-- IGN_NOSPARK (R242). -/
def execIgnNospark (n : Fin 24) (s : State) : Out := finish (s.awake fun t => t.ignNospark n)

/-- GATE_STUCK (R414). -/
def execGateStuck (cluster unit : Fin 16) (n : Fin 32) (s : State) : Out :=
  finish (s.awake fun t => t.gateStuck cluster.val unit.val n)

/-- SHORT_BAT_CLEAR (R247). -/
def execShortBatClear (p : Fin 2) (n : Fin 32) (link : Bool) (s : State) : Out :=
  finish (s.portWrite p (Reg.chDiag.addr n.val 0) 1 0 link)

/-- BANK_FAULT_CLEAR (R237): FAULT is cleared and IDIFF keeps its value. -/
def execBankFaultClear (p : Fin 2) (b : Fin 8) (link : Bool) (s : State) : Out :=
  finish (s.portWrite p (Reg.bnkDiag.addr b.val 0) (wordN (0x400 + s.rf Reg.bnkDiag b.val 9 0)) 0 link)

/-- CAPTURE_SAMPLE (R238, R239). -/
def execCaptureSample (b : Fin 8) (v : Int) (s : State) : Out := finish (s.awake fun t => t.captureSample b v)

end Sys2Proof.Machine
end

