-- ==== Sys2Proof/Machine/FabricCmds.lean ====
section
/-! DEFINITION. The meanings of the fabric's commands (chapter Saesh Fabric). -/

namespace Sys2Proof.Machine

/-! ### Ports (R347 to R349) -/

/-- PORT_TRAIN (R348). -/
def execPortTrain (r : Fin 3) (s : State) : Out := finish (s.awake fun t => t.portTrain r)

/-- PORT_HELLO (R348). -/
def execPortHello (r : Fin 3) (s : State) : Out := finish (s.awake fun t => t.portHello r)

/-- PORT_UP (R348, R351). -/
def execPortUp (r : Fin 3) (s : State) : Out := finish (s.awake fun t => t.portUp r)

/-- PORT_SILENCE (R348). -/
def execPortSilence (r : Fin 3) (s : State) : Out := finish (s.awake fun t => t.portSilence r)

/-- PORT_CODE_ERRORS (R348). -/
def execPortCodeErrors (r : Fin 3) (s : State) : Out := finish (s.awake fun t => t.portCodeErrors r)

/-- CONTROL_SET_REPEAT (R346). -/
def execControlSetRepeat (r : Fin 3) (s : State) : Out := finish (s.awake fun t => t.controlSets r)

/-- ACK_RECEIVE (R347). -/
def execAckReceive (r : Fin 3) (seq : Fin 256) (s : State) : Out := finish (s.awake fun t => t.ackTo r seq.val)

/-- NAK_RECEIVE (R347). -/
def execNakReceive (r : Fin 3) (seq : Fin 256) (s : State) : Out := finish (s.awake fun t => t.retryFrom r (seq.val % 64))

/-- ACK_TIMEOUT (R347). -/
def execAckTimeout (r : Fin 3) (s : State) : Out := finish (s.awake fun t => t.ackTimeout r)

/-- CREDIT_ANGLE (R346, R349). -/
def execCreditAngle (r : Fin 3) (n : Fin 256) (s : State) : Out := finish (s.awake fun t => t.creditA r n)

/-- CREDIT_BULK (R346, R349). -/
def execCreditBulk (r : Fin 3) (n : Fin 256) (s : State) : Out := finish (s.awake fun t => t.creditB r n)

/-- FRAME_FORWARD (R349). -/
def execFrameForward (r : Fin 3) (s : State) : Out := finish (s.awake fun t => t.forward r)

/-- FRAME_RECEIVE_BAD (R343, R347). -/
def execFrameReceiveBad (r : Fin 3) (s : State) : Out := finish (s.awake fun t => t.badFrame r)

/-! ### Frames (R345, R351, R356, R357, R359, R361, R369) -/

/-- HELLO_SEND (R345). -/
def execHelloSend (r : Fin 3) (s : State) : Out := finish (s.awake fun t => t.helloOut r)

/-- HELLO_RECEIVE (R345): no rule uses the serial number that the frame carries. -/
def execHelloReceive (r : Fin 3) (seq : Fin 256) (id : Fin 32) (idv bench : Bool) (rank : Fin 4) (_serial : BitVec 64)
    (s : State) : Out :=
  finish (s.awake fun t => t.helloIn r seq id idv bench rank)

/-- MSG_RECEIVE (R356, R357). -/
def execMsgReceive (r : Fin 3) (seq : Fin 256) (vc : Bool) (dst src : Fin 32) (dwork swork : Fin 16) (type : BitVec 16)
    (lun : Fin 256) (pay : List (BitVec 32)) (s : State) : Out :=
  finish (s.awake fun t =>
    match t.inOrder r seq with
    | (u, true) => u.msgArrive r ⟨0, vc, dst.val, src.val, dwork.val, swork.val, type.toNat, lun.val, pay, [], u.fab.rxN⟩
    | (u, false) => u)

/-- BEACON_RECEIVE (R356, R369 to R374). -/
def execBeaconReceive (r : Fin 3) (seq : Fin 256) (bs : List Nat) (ts : Nat) (s : State) : Out :=
  finish (s.awake fun t => t.beaconIn r seq bs ts)

/-- ASEG_RECEIVE (R361). -/
def execAsegReceive (r : Fin 3) (seq : Fin 256) (bs : List Nat) (s : State) : Out :=
  finish (s.awake fun t => t.asegIn r seq bs)

/-- DREQ_RECEIVE (R359): the frame has no payload. -/
def execDreqReceive (r : Fin 3) (seq : Fin 256) (ts : Nat) (s : State) : Out := finish (s.awake fun t => t.dreqIn r seq ts)

/-- DRSP_RECEIVE (R359). -/
def execDrspReceive (r : Fin 3) (seq : Fin 256) (bs : List Nat) (ts : Nat) (s : State) : Out :=
  finish (s.awake fun t => t.drspIn r seq bs ts)

/-- LREC_RECEIVE (R351, R352). -/
def execLrecReceive (r : Fin 3) (seq : Fin 256) (bs : List Nat) (s : State) : Out :=
  finish (s.awake fun t => t.lrecIn r seq bs)

/-- OWN_NODE_MESSAGE (R206, R357). -/
def execOwnNodeMessage (w : Fin 9) (vc : Bool) (s : State) : Out := finish (s.awake fun t => t.ownMessage w vc)

/-! ### Line-up, time and captaincy (R353, R359, R366, R369 to R374) -/

/-- LINEUP_COMMIT (R353). -/
def execLineupCommit (s : State) : Out := finish (s.awake State.commitLineup)

/-- BEACON_SEND (R369). -/
def execBeaconSend (s : State) : Out := finish (s.awake State.beaconOut)

/-- TIME_EXCHANGE (R359). -/
def execTimeExchange (s : State) : Out := finish (s.awake State.timeExchange)

/-- CAPTAIN_TIMEOUT (R365, R372). -/
def execCaptainTimeout (s : State) : Out := finish (s.awake State.captainLate)

/-- HOLDOVER_EXPIRE (R366). -/
def execHoldoverExpire (s : State) : Out := finish (s.awake State.holdoverEnd)

/-- HANDOVER_TIMEOUT (R374). -/
def execHandoverTimeout (s : State) : Out := finish (s.awake State.handoverLapse)

/-- FAB_LINEUP_CMD (R351). -/
def execFabLineupCmd (p : Fin 2) (s : State) : Out := finish (s.portWrite p Reg.fabCmd.base 1 0 false)

/-- FAB_HANDOVER (R374). -/
def execFabHandover (p : Fin 2) (tgt : Fin 32) (s : State) : Out :=
  finish (s.portWrite p Reg.fabCmd.base (wordN (2 + tgt.val * 256)) 0 false)

/-- FAB_DIFFCLR (R364). -/
def execFabDiffclr (p : Fin 2) (s : State) : Out := finish (s.portWrite p Reg.fabCmd.base 4 0 false)

end Sys2Proof.Machine
end

