-- ==== Sys2Proof/Machine/FaultCmds.lean ====
section
/-! DEFINITION. The meanings of the commands of the fault collector, the BIST controller and fault injection (chapter Faults and
Self-Test). -/

namespace Sys2Proof.Machine

/-! ### The collector (R414 to R423) -/

/-- COLLECTOR_ACCEPT (R416). -/
def execCollectorAccept (s : State) : Out := finish (s.awake State.accept)

/-- SHOT_CLOCK (R421). -/
def execShotClock (s : State) : Out := finish (s.awake State.shotExpire)

/-- FLT_POP (R418). -/
def execFltPop (p : Fin 2) (s : State) : Out := finish (s.portWrite p Reg.fltCtl.base 1 0 false)

/-- FLT_SAFE (R422). -/
def execFltSafe (p : Fin 2) (s : State) : Out := finish (s.portWrite p Reg.fltCtl.base 2 0 false)

/-- FLT_RELEASE (R423). -/
def execFltRelease (p : Fin 2) (s : State) : Out := finish (s.portWrite p Reg.fltCtl.base 4 0 false)

/-- FLT_ACK (R420). -/
def execFltAck (p : Fin 2) (v : BitVec 32) (s : State) : Out := finish (s.portWrite p Reg.fltAck.base v 0 false)

/-- SAFE_LINE (R414): the levels read back. -/
def execSafeLine (levels : BitVec 2) (s : State) : Out :=
  finish (s.awake fun t => t.emit 3 Kind.safeLine srcColl levels.toNat)

/-- COLL_FAULT (R414). -/
def execCollFault (s : State) : Out := finish (s.awake fun t => t.emit 3 Kind.collFault srcColl 0)

/-! ### BIST (R426 to R438) -/

/-- OVER_SLOT (R427). -/
def execOverSlot (s : State) : Out := finish (s.awake State.overSlot)

/-- OVER_END (R426). -/
def execOverEnd (pass : Bool) (s : State) : Out := finish (s.awake fun t => t.overDone pass)

/-- OVER_OVERRUN (R426). -/
def execOverOverrun (s : State) : Out := finish (s.awake State.overLate)

/-- BIST_DEFER_TIMEOUT (R430). -/
def execBistDeferTimeout (s : State) : Out := finish (s.awake State.overDefer)

/-- INNINGS_START (R427, R431). -/
def execInningsStart (s : State) : Out := finish (s.awake State.inningsStart)

/-- BIST_CMD (R438). -/
def execBistCmd (p : Fin 2) (u : Fin 16) (s : State) : Out := finish (s.portWrite p Reg.bistCmd.base (wordN u.val) 0 false)

/-! ### Fault injection (R439) -/

/-- FI_RESIDUE. -/
def execFiResidue (p : Fin 2) (s : State) : Out := finish (s.portWrite p Reg.fiCtl.base 0x11 0 false)

/-- FI_BIT_FLIP. -/
def execFiBitFlip (p : Fin 2) (s : State) : Out := finish (s.portWrite p Reg.fiCtl.base 0x12 0 false)

/-- FI_DOUBLE_FLIP. -/
def execFiDoubleFlip (p : Fin 2) (s : State) : Out := finish (s.portWrite p Reg.fiCtl.base 0x13 0 false)

/-- FI_DDL_CRC. -/
def execFiDdlCrc (p : Fin 2) (s : State) : Out := finish (s.portWrite p Reg.fiCtl.base 0x14 0 false)

/-- FI_MDL_CRC. -/
def execFiMdlCrc (p : Fin 2) (s : State) : Out := finish (s.portWrite p Reg.fiCtl.base 0x15 0 false)

/-- FI_DDL_SILENCE. -/
def execFiDdlSilence (p : Fin 2) (s : State) : Out := finish (s.portWrite p Reg.fiCtl.base 0x16 0 false)

/-- FI_OVER_FAIL. -/
def execFiOverFail (p : Fin 2) (s : State) : Out := finish (s.portWrite p Reg.fiCtl.base 0x17 0 false)

/-- FI_ECHO_MISMATCH. -/
def execFiEchoMismatch (p : Fin 2) (s : State) : Out := finish (s.portWrite p Reg.fiCtl.base 0x18 0 false)

/-- FI_MESSAGE. -/
def execFiMessage (p : Fin 2) (s : State) : Out := finish (s.portWrite p Reg.fiCtl.base 0x19 0 false)

end Sys2Proof.Machine
end

