-- ==== Sys2Proof/Machine/JigCmds.lean ====
section
/-! DEFINITION. The meanings of the jig engines' commands and instructions (chapter Jig Engines). a and imm are the fields A and
IMM of the word (R302); pins are the qualified levels of P7 to P0, which read inactive while VIO2 is lost (R443). -/

namespace Sys2Proof.Machine

/-- The levels of the engine's pins. -/
def State.jigPinsIn (s : State) (pins : BitVec 8) : BitVec 8 := if s.sys.vio[2] then pins else 0

/-- An instruction whose A must be 0 and whose IMM is what the row allows. -/
def aZero (a : BitVec 10) : Bool := decide (a = 0)

/-! ### Commands (R299, R313 to R316) -/

/-- JIG_START (R299). -/
def execJigStart (p : Fin 2) (mask : BitVec 8) (s : State) : Out :=
  finish (s.portWrite p Reg.jigCmd.base (wordN (mask.toNat + 0x100)) 0 false)

/-- JIG_HALT (R299). -/
def execJigHalt (p : Fin 2) (mask : BitVec 8) (s : State) : Out :=
  finish (s.portWrite p Reg.jigCmd.base (wordN (mask.toNat + 0x200)) 0 false)

/-- JIG_REALIGN (R299). -/
def execJigRealign (p : Fin 2) (mask : BitVec 8) (s : State) : Out :=
  finish (s.portWrite p Reg.jigCmd.base (wordN (mask.toNat + 0x300)) 0 false)

/-- JIG_SWAP_REQUEST (R313). -/
def execJigSwapRequest (p : Fin 11) (e : Fin 8) (s : State) : Out := finish (s.anyWrite p (Reg.jigCtl.addr e.val 0) 1 false)

/-- JIG_FORCE_SWAP (R314). -/
def execJigForceSwap (p : Fin 11) (e : Fin 8) (s : State) : Out := finish (s.anyWrite p (Reg.jigCtl.addr e.val 0) 2 false)

/-- JIG_FLUSH (R316). -/
def execJigFlush (p : Fin 11) (e : Fin 8) (s : State) : Out := finish (s.anyWrite p (Reg.jigCtl.addr e.val 0) 4 false)

/-- JIG_TRGCLR (R316). -/
def execJigTrgclr (p : Fin 11) (e : Fin 8) (s : State) : Out := finish (s.anyWrite p (Reg.jigCtl.addr e.val 0) 8 false)

/-- JIG_PROGRAM_WRITE (R312, R317). -/
def execJigProgramWrite (p : Fin 11) (e : Fin 8) (i : Fin 64) (v : BitVec 32) (s : State) : Out :=
  finish (s.anyWrite p (Reg.jigProg.addr e.val i.val) v false)

/-- JIG_TXF_WRITE (R308). -/
def execJigTxfWrite (p : Fin 11) (e : Fin 8) (v : BitVec 32) (s : State) : Out :=
  finish (s.anyWrite p (Reg.jigTxf.addr e.val 0) v false)

/-- JIG_RXF_READ (R308). -/
def execJigRxfRead (p : Fin 11) (e : Fin 8) (s : State) : Out := finish (s.anyRead p (Reg.jigRxf.addr e.val 0) false)

/-- JIG_DISABLE (R311, R313): EN = 0 with the other fields as they stand. -/
def execJigDisable (p : Fin 11) (e : Fin 8) (s : State) : Out :=
  finish (s.anyWrite p (Reg.jigCfg.addr e.val 0) (setFld (s.rg Reg.jigCfg e.val) 0 0 0) false)

/-! ### Instructions (R302 to R310) -/

/-- JIG_NOP (R302). -/
def execJigNop (e : Fin 8) (a : BitVec 10) (imm : BitVec 16) (s : State) : Out :=
  finish (s.awake fun t => t.jigReg e (aZero a && decide (imm = 0)) id)

/-- JIG_IDLE (R302): PC moves on once the n ticks after its own have passed, at once with n = 0. -/
def execJigIdle (e : Fin 8) (a : BitVec 10) (imm : BitVec 16) (s : State) : Out :=
  finish (s.awake fun t => t.jigDo e (aZero a) fun u =>
    if imm = 0 then u.jigNext e else u.setJig e fun g => { g with idle := imm.toNat })

/-- JIG_IDLE_EXPIRE (R302). -/
def execJigIdleExpire (e : Fin 8) (s : State) : Out := 
  finish (s.awake fun t =>
    if t.jig[e].run && decide (t.jig[e].idle ≠ 0) then
      ((t.jigSpan e t.jig[e].idle).setJig e fun g => { g with idle := 0 }).jigNext e
    else t)

/-- JIG_PINS (R296, R302). -/
def execJigPins (e : Fin 8) (a : BitVec 10) (imm : BitVec 16) (s : State) : Out :=
  finish (s.awake fun t => t.jigDo e (aZero a) fun u => (u.jigOuts e (imm.toNat / 256) (imm.toNat % 256)).jigNext e)

/-- JIG_DIRS (R296, R302). -/
def execJigDirs (e : Fin 8) (a : BitVec 10) (imm : BitVec 16) (s : State) : Out :=
  finish (s.awake fun t => t.jigDo e (aZero a) fun u => (u.jigDirSet e (imm.toNat / 256) (imm.toNat % 256)).jigNext e)

/-- JIG_WAITL (R305). -/
def execJigWaitl (e : Fin 8) (a : BitVec 10) (imm : BitVec 16) (pins : BitVec 8) (s : State) : Out :=
  finish (s.awake fun t => t.jigWaitl e a.toNat imm.toNat (t.jigPinsIn pins))

/-- JIG_WAITE (R305). -/
def execJigWaite (e : Fin 8) (a : BitVec 10) (imm : BitVec 16) (s : State) : Out :=
  finish (s.awake fun t => t.jigWaite e a.toNat imm.toNat)

/-- JIG_WAITG (R306). -/
def execJigWaitg (e : Fin 8) (a : BitVec 10) (imm : BitVec 16) (s : State) : Out :=
  finish (s.awake fun t => t.jigWaitg e a.toNat imm.toNat)

/-- A wait that a pin of the lost bank VIO2 cannot end: an edge, or the active level (R305, R443). -/
def State.jigDeaf (s : State) (e : Fin 8) : Bool :=
  !s.sys.vio[2] && (match s.jig[e].wait with
    | some (.edge ..) => true
    | some (.level _ lv) => lv
    | _ => false)

/-- JIG_WAIT_END (R305). -/
def execJigWaitEnd (e : Fin 8) (stamp : Nat) (s : State) : Out :=
  finish (s.awake fun t => if t.jigDeaf e then t else t.jigWaitEnd e stamp)

/-- JIG_WAIT_TIMEOUT (R305). -/
def execJigWaitTimeout (e : Fin 8) (s : State) : Out := finish (s.awake fun t => t.jigWaitTimeout e)

/-- JIG_SHIN (R307). -/
def execJigShin (e : Fin 8) (a : BitVec 10) (imm : BitVec 16) (bits : BitVec 32) (s : State) : Out :=
  finish (s.awake fun t => t.jigShin e a.toNat imm.toNat (if t.sys.vio[2] then bits.toNat else 0))

/-- JIG_SHOUT (R307). -/
def execJigShout (e : Fin 8) (a : BitVec 10) (imm : BitVec 16) (s : State) : Out :=
  finish (s.awake fun t => t.jigShout e a.toNat imm.toNat)

/-- JIG_PUSH (R308). -/
def execJigPush (e : Fin 8) (a : BitVec 10) (imm : BitVec 16) (s : State) : Out :=
  finish (s.awake fun t => t.jigPush e a.toNat imm.toNat)

/-- JIG_PULL (R308). -/
def execJigPull (e : Fin 8) (a : BitVec 10) (imm : BitVec 16) (s : State) : Out :=
  finish (s.awake fun t => t.jigPull e a.toNat imm.toNat)

/-- JIG_STALL_END (R307, R308). -/
def execJigStallEnd (e : Fin 8) (s : State) : Out := finish (s.awake fun t => t.jigStallEnd e)

/-- JIG_MOV (R303). -/
def execJigMov (e : Fin 8) (a : BitVec 10) (imm : BitVec 16) (pins : BitVec 8) (s : State) : Out :=
  finish (s.awake fun t => t.jigMov e a.toNat imm.toNat (t.jigPinsIn pins))

/-- JIG_MOVI (R302). -/
def execJigMovi (e : Fin 8) (a : BitVec 10) (imm : BitVec 16) (s : State) : Out :=
  finish (s.awake fun t => t.jigMovi e a.toNat imm.toNat)

/-- JIG_ADDI (R302). -/
def execJigAddi (e : Fin 8) (a : BitVec 10) (imm : BitVec 16) (s : State) : Out :=
  finish (s.awake fun t => t.jigAddi e a.toNat imm.toNat)

/-- JIG_SUB (R302). -/
def execJigSub (e : Fin 8) (a : BitVec 10) (imm : BitVec 16) (pins : BitVec 8) (s : State) : Out :=
  finish (s.awake fun t => t.jigSub e a.toNat imm.toNat (t.jigPinsIn pins))

/-- JIG_TEST (R302). -/
def execJigTest (e : Fin 8) (a : BitVec 10) (imm : BitVec 16) (s : State) : Out :=
  finish (s.awake fun t => t.jigTest e a.toNat imm.toNat)

/-- JIG_BR (R304). -/
def execJigBr (e : Fin 8) (a : BitVec 10) (imm : BitVec 16) (pins : BitVec 8) (s : State) : Out :=
  finish (s.awake fun t => t.jigBr e a.toNat imm.toNat (t.jigPinsIn pins))

/-- JIG_LOOP (R304). -/
def execJigLoop (e : Fin 8) (a : BitVec 10) (imm : BitVec 16) (s : State) : Out :=
  finish (s.awake fun t => t.jigLoop e a.toNat imm.toNat)

/-- JIG_RECIP (R309). -/
def execJigRecip (e : Fin 8) (a : BitVec 10) (imm : BitVec 16) (s : State) : Out :=
  finish (s.awake fun t => t.jigRecip e a.toNat imm.toNat)

/-- JIG_MULQ (R309). -/
def execJigMulq (e : Fin 8) (a : BitVec 10) (imm : BitVec 16) (s : State) : Out :=
  finish (s.awake fun t => t.jigMulq e a.toNat imm.toNat)

/-- JIG_SIG (R310). -/
def execJigSig (e : Fin 8) (a : BitVec 10) (imm : BitVec 16) (s : State) : Out :=
  finish (s.awake fun t => t.jigSig e a.toNat imm.toNat)

/-- JIG_YIELD (R313). -/
def execJigYield (e : Fin 8) (a : BitVec 10) (imm : BitVec 16) (s : State) : Out :=
  finish (s.awake fun t => t.jigYield e a.toNat imm.toNat)

/-- JIG_RESERVED_OPCODE (R302, R311): opcodes 16h to 3Fh. -/
def execJigReservedOpcode (e : Fin 8) (w : BitVec 32) (s : State) : Out :=
  finish (s.awake fun t => if 0x16 ≤ fld w 31 26 then t.jigDo e false id else t)

end Sys2Proof.Machine
end

