-- ==== Sys2Proof/Machine/MeasCmds.lean ====
section
/-! DEFINITION. The meanings of the measurement and trace-memory commands (chapters Combustion Measurement, Trace Memory). -/

namespace Sys2Proof.Machine

/-- An event inside the measurement region, which does not occur while the region is gated (R20). -/
def State.inMeas (s : State) (f : State → State) : State := if s.clocked && s.measRuns then f s else s

/-! ### Modulators, windows, figures (R249 to R278) -/

/-- MOD_START (R253). -/
def execModStart (p : Fin 11) (m : Fin 8) (s : State) : Out := finish (s.anyWrite p (Reg.modCmd.addr m.val 0) 1 false)

/-- MOD_STOP (R253). -/
def execModStop (p : Fin 11) (m : Fin 8) (s : State) : Out := finish (s.anyWrite p (Reg.modCmd.addr m.val 0) 2 false)

/-- MOD_URG (R256). -/
def execModUrg (p : Fin 11) (m : Fin 8) (s : State) : Out := finish (s.anyWrite p (Reg.modCmd.addr m.val 0) 4 false)

/-- ATRG_TRIGGER (R256, R257); the pin lies in bank VIO1. -/
def execAtrgTrigger (k : Fin 2) (s : State) : Out := finish (if s.clocked && s.sys.vio[1] then s.atrg k else s)

/-- ENTRY_COMPLETE (R253, R256). -/
def execEntryComplete (m : Fin 8) (s : State) : Out := finish (s.inMeas fun t => t.entryComplete m)

/-- SAMPLE_READY (R250, R251, R258 to R263). -/
def execSampleReady (m : Fin 8) (v : Int) (stamp : Nat) (sat bad : Bool) (s : State) : Out :=
  finish (s.inMeas fun t => t.sampleReady m v stamp sat bad)

/-- FIGURES_PUBLISH (R267, R268). -/
def execFiguresPublish (bad : Bool) (s : State) : Out := finish (s.inMeas fun t => t.publishFigures bad)

/-- RESULT_READ (R269). -/
def execResultRead (p : Fin 11) (m : Fin 8) (s : State) : Out := finish (s.anyRead p (Reg.modRes.addr m.val 0) false)

/-- FIGURE_READ (R269). -/
def execFigureRead (p : Fin 11) (w : Fin 16) (f : Fin 32) (s : State) : Out :=
  finish (s.anyRead p (Reg.fig.addr w.val f.val) false)

/-! ### Trace memory (R280 to R289) -/

/-- TRACE_INIT_DONE (R280). -/
def execTraceInitDone (s : State) : Out := finish (s.awake State.traceInitDone)

/-- INITMB_ADVANCE (R280). -/
def execInitmbAdvance (s : State) : Out := finish (s.awake State.initMbAdvance)

/-- SCRUB_READ (R285). -/
def execScrubRead (errs : List (Nat × Fin 3)) (s : State) : Out := finish (s.awake fun t => t.scrubDue errs)

/-- TRACE_HOST_READ (R281, R284). -/
def execTraceHostRead (p : Fin 2) (addr : BitVec 40) (ecc : Fin 3) (link : Bool) (s : State) : Out :=
  finish (s.portRead p addr.toNat ecc link)

/-- TRACE_HOST_WRITE (R281, R283). -/
def execTraceHostWrite (p : Fin 2) (addr : BitVec 40) (v : BitVec 32) (ecc : Fin 3) (link : Bool) (s : State) : Out :=
  finish (s.portWrite p addr.toNat v ecc link)

/-- RING_ENABLE (R287): a write of TRCr_CFG with EN = 1. -/
def execRingEnable (p : Fin 2) (r : Fin 3) (v : BitVec 32) (s : State) : Out :=
  finish (s.portWrite p (Reg.ringCfg.addr r.val 0) (setFld v 0 0 1) 0 false)

/-- RING_DISABLE (R287): a write of TRCr_CFG with EN = 0. -/
def execRingDisable (p : Fin 2) (r : Fin 3) (v : BitVec 32) (s : State) : Out :=
  finish (s.portWrite p (Reg.ringCfg.addr r.val 0) (setFld v 0 0 0) 0 false)

/-- RING_FREEZE (R289). -/
def execRingFreeze (p : Fin 2) (r : Fin 3) (s : State) : Out := finish (s.portWrite p (Reg.ringCmd.addr r.val 0) 1 0 false)

/-- RING_RESUME (R289). -/
def execRingResume (p : Fin 2) (r : Fin 3) (s : State) : Out := finish (s.portWrite p (Reg.ringCmd.addr r.val 0) 2 0 false)

/-- RING_POST_DONE (R289). -/
def execRingPostDone (r : Fin 3) (s : State) : Out := finish (s.awake fun t => t.ringPostDone r)

end Sys2Proof.Machine
end

