-- ==== Sys2Proof/Machine/PegCmds.lean ====
section
/-! DEFINITION. The meanings of the peg, edge, SELECT, soft-off and sparing commands (chapter Pegs, Horizon and Edge Placement;
R148 to R150, R174, R433 to R436). -/

namespace Sys2Proof.Machine

/-! ### Pegs and edges (R122 to R145, R217, R225) -/

/-- PEG_COMMIT (R123, R134). -/
def execPegCommit (w : Fin 9) (k : Fin 32) (s : State) : Out := finish (s.awake fun t => t.pegCommit w k)

/-- PEG_DRIVE (R140, R225). -/
def execPegDrive (w : Fin 9) (k : Fin 32) (s : State) : Out := finish (s.awake fun t => t.pegDrive w k)

/-- PEG_FIRE (R132). -/
def execPegFire (w : Fin 9) (k : Fin 32) (s : State) : Out := finish (s.awake fun t => t.pegFire w k)

/-- SELECT_RECEIVE (R225). -/
def execSelectReceive (s : State) : Out := finish (s.awake State.selectReceive)

/-- SELACK_RECEIVE (R225). -/
def execSelackReceive (s : State) : Out := finish (s.awake State.selackReceive)

/-- DWELL_MAX (R143). -/
def execDwellMax (w : Fin 9) (k : Fin 32) (s : State) : Out := finish (s.awake fun t => t.dwellMax w k)

/-- SOFTOFF_COMMAND (R144). -/
def execSoftoffCommand (s : State) : Out := finish (s.awake State.softoffCommand)

/-- SOFTOFF_COMPLETE (R144). -/
def execSoftoffComplete (n : Fin 24) (s : State) : Out := finish (s.awake fun t => t.softoffComplete n)

/-- SOFTOFF_LINE_DROP (R144). -/
def execSoftoffLineDrop (n : Fin 24) (s : State) : Out := finish (s.awake fun t => t.softoffLineDrop n)

/-- SOFTOFF_TIMEOUT (R422). -/
def execSoftoffTimeout (n : Fin 24) (s : State) : Out := finish (s.awake fun t => t.softoffTimeout n)

/-- VERNIER_CALIBRATION (R139). -/
def execVernierCalibration (ok : Bool) (s : State) : Out := finish (s.awake fun t => t.calibrate ok)

/-! ### Roles of clusters (R162, R174, R177, R178, R436) -/

/-- CLU_ROLE_START (R174). -/
def execCluRoleStart (p : Fin 2) (c : Fin 9) (s : State) : Out := finish (s.portWrite p (Reg.cluRole.addr c.val 0) 1 0 false)

/-- CLU_ROLE_STOP (R174). -/
def execCluRoleStop (p : Fin 2) (c : Fin 9) (s : State) : Out := finish (s.portWrite p (Reg.cluRole.addr c.val 0) 0 0 false)

/-- CLU_ROLE_SPARE (R436). -/
def execCluRoleSpare (p : Fin 2) (c : Fin 9) (s : State) : Out := finish (s.portWrite p (Reg.cluRole.addr c.val 0) 2 0 false)

/-- CLUSTER_STOP (R174). -/
def execClusterStop (c : Fin 9) (s : State) : Out := finish (s.awake fun t => t.stopDue c)

/-- DOORBELL (R162, R178). -/
def execDoorbell (p : Fin 2) (c : Fin 9) (v : BitVec 32) (s : State) : Out :=
  finish (s.portWrite p (Reg.cluDoorbell.addr c.val 0) v 0 false)

/-- CUE_EN_WRITE (R178). -/
def execCueEnWrite (p : Fin 2) (c : Fin 9) (v : BitVec 32) (s : State) : Out :=
  finish (s.portWrite p (Reg.cluCueEn.addr c.val 0) v 0 false)

/-! ### Failure, takeover, planned handover (R148 to R150, R433) -/

/-- CLUSTER_FAIL (R33, R433). -/
def execClusterFail (c : Fin 9) (why : Fin 4) (s : State) : Out := finish (s.awake fun t => t.clusterFail c why.val)

/-- MIRROR_LOAD_DONE (R148, R149). -/
def execMirrorLoadDone (w : Fin 9) (bad : BitVec 32) (s : State) : Out := finish (s.awake fun t => t.mirrorLoaded w bad)

/-- SCHEDULER_LIVE (R148, R176). -/
def execSchedulerLive (w : Fin 9) (s : State) : Out := finish (s.awake fun t => t.schedulerGoLive w)

/-- HANDOVER_SWITCH (R150). -/
def execHandoverSwitch (s : State) : Out := finish (s.awake State.handover)

end Sys2Proof.Machine
end

