-- ==== Sys2Proof/Machine/PortCmds.lean ====
section
/-! DEFINITION. The meanings of the host port's and the maintenance port's commands (chapter Host and Maintenance Ports). -/

namespace Sys2Proof.Machine

/-! ### The host port (R385 to R391) -/

/-- HOST_READ: the frame's bytes with their CRC. -/
def execHostRead (addr : BitVec 40) (len : BitVec 8) (crc : BitVec 16) (link : Option (Fin 16)) (s : State) : Out :=
  finish (s.hostCommand (frameBytes 0x0B addr len []) crc.toNat (link.map (·.val)))

/-- HOST_READF: every word at one address. -/
def execHostReadf (addr : BitVec 40) (len : BitVec 8) (crc : BitVec 16) (link : Option (Fin 16)) (s : State) : Out :=
  finish (s.hostCommand (frameBytes 0x0C addr len []) crc.toNat (link.map (·.val)))

/-- HOST_WRITE. -/
def execHostWrite (addr : BitVec 40) (len : BitVec 8) (ws : List (BitVec 32)) (crc : BitVec 16) (link : Option (Fin 16)) (s : State) : Out :=
  finish (s.hostCommand (frameBytes 0x02 addr len ws) crc.toNat (link.map (·.val)))

/-- HOST_WRITEF: every word at one address. -/
def execHostWritef (addr : BitVec 40) (len : BitVec 8) (ws : List (BitVec 32)) (crc : BitVec 16) (link : Option (Fin 16)) (s : State) : Out :=
  finish (s.hostCommand (frameBytes 0x03 addr len ws) crc.toNat (link.map (·.val)))

/-- HOST_INTR. -/
def execHostIntr (crc : BitVec 16) (s : State) : Out := finish (s.hostCommand [0x05] crc.toNat none)

/-- HOST_BAD_OPCODE. -/
def execHostBadOpcode (op : BitVec 8) (s : State) : Out := finish (s.frameUnknown op.toNat)

/-- HOST_ABORT (R391). -/
def execHostAbort (s : State) : Out := finish s.frameAbort

/-! ### The maintenance port (R397 to R409) -/

/-- MNT_WRITE (R399). -/
def execMntWrite (addr : BitVec 7) (bs : List (BitVec 8)) (s : State) : Out := finish (s.mntWriteBytes addr.toNat bs)

/-- MNT_READ (R399). -/
def execMntRead (addr : BitVec 7) (n : Nat) (s : State) : Out := finish (s.mntReadBytes addr.toNat n)

/-- MNT_BYTE_ABANDON (R401). -/
def execMntByteAbandon (unitAck : Bool) (s : State) : Out := finish (s.mntAbandon unitAck)

/-- MNT_STRETCH_TIMEOUT (R403). -/
def execMntStretchTimeout (s : State) : Out := finish (s.awake State.stretchOver)

/-- MNT_SCL_TIMEOUT (R404): the byte is abandoned as by R401. -/
def execMntSclTimeout (s : State) : Out := finish (s.awake State.mntAbandoned)

/-- MNT_INDIRECT_READ (R406): ICTL with RD, after an access still in progress. -/
def execMntIndirectRead (inc : Bool) (s : State) : Out :=
  finish (s.awake fun t => (t.mntWait 0x25).ictlWrite (1 + bitAt inc 2))

/-- MNT_INDIRECT_WRITE (R406): ICTL with WR. -/
def execMntIndirectWrite (inc : Bool) (s : State) : Out :=
  finish (s.awake fun t => (t.mntWait 0x25).ictlWrite (2 + bitAt inc 2))

/-- MNT_INDIRECT_DONE (R406). -/
def execMntIndirectDone (link : Bool) (s : State) : Out := finish (s.awake fun t => t.indirectDone link)

/-- ALERT_RESPONSE (R408). -/
def execAlertResponse (seen : BitVec 8) (s : State) : Out := finish (s.alertAnswer seen.toNat)

/-- ASTAT_CLEAR (R407). -/
def execAstatClear (v : BitVec 8) (s : State) : Out := finish (s.awake fun t => t.astatWrite v.toNat)

/-- TEST_MODE_OPEN (R409). -/
def execTestModeOpen (key : BitVec 64) (s : State) : Out := finish (s.awake fun t => t.tkeyWrite key)

end Sys2Proof.Machine
end

