-- ==== Sys2Proof/Machine/TimerCmds.lean ====
section
/-! DEFINITION. The meanings of the commands of the timers and of the sealed counter bank (chapter Timers and Sealed Counters). -/

namespace Sys2Proof.Machine

/-- TIMER_ENABLE (R319, R320, R332): a write of TMRn_CFG. -/
def execTimerEnable (p : Fin 11) (n : Fin 16) (v : BitVec 32) (s : State) : Out :=
  finish (s.anyWrite p (Reg.tmrCfg.addr n.val 0) v false)

/-- A pin edge cannot come from the lost bank VIO2 (R443). -/
def State.tmrDeaf (s : State) (n : Fin 16) : Bool := decide (s.tmr[n].src = 2) && !s.sys.vio[2]

/-- TIMER_INCREMENT (R319). -/
def execTimerIncrement (n : Fin 16) (s : State) : Out :=
  finish (s.awake fun t => if t.tmrDeaf n then t else t.tmrIncrement n)

/-- TIMER_COMPARE (R322): the increment that brings the count to the armed compare value. -/
def execTimerCompare (n : Fin 16) (s : State) : Out :=
  finish (s.awake fun t => if t.tmrAtCompare n && !t.tmrDeaf n then t.tmrIncrement n else t)

/-- TIMER_WRAP (R319): the increment that wraps the count. -/
def execTimerWrap (n : Fin 16) (s : State) : Out :=
  finish (s.awake fun t => if t.tmrAtWrap n && !t.tmrDeaf n then t.tmrIncrement n else t)

/-- TIMER_CAPTURE (R325): a pin event cannot come from the lost bank VIO2. -/
def execTimerCapture (n : Fin 16) (stamp : Nat) (s : State) : Out :=
  finish (s.awake fun t => if t.rf Reg.tmrCapcfg n.val 1 0 = 1 ∧ !t.sys.vio[2] then t else t.tmrCapture n stamp)

/-- TIMER_CMPV_WRITE (R322, R328). -/
def execTimerCmpvWrite (p : Fin 11) (n : Fin 16) (v : BitVec 32) (s : State) : Out :=
  finish (s.anyWrite p (Reg.tmrCmpv.addr n.val 0) v false)

/-- TIMER_CAPALL (R326). -/
def execTimerCapall (p : Fin 2) (s : State) : Out := finish (s.portWrite p Reg.tmrCapall.base 1 0 false)

/-- TMR_FAULT (R320): the residue check of a timer that counts. -/
def execTmrFault (n : Fin 16) (s : State) : Out :=
  finish (s.awake fun t => if t.tmrRuns n then t.tmrFault (t.tmrLead n) else t)

/-- SEAL_SEALED (R334): a write of SEALn_CFG with SEALED set. -/
def execSealSealed (p : Fin 2) (n : Fin 16) (v : BitVec 32) (s : State) : Out :=
  finish (s.portWrite p (Reg.sealxCfg.addr n.val 0) (v ||| 0x10) 0 false)

/-- SEAL_ADD_WRITE (R335). -/
def execSealAddWrite (p : Fin 2) (n : Fin 16) (v : BitVec 32) (s : State) : Out :=
  finish (s.portWrite p (Reg.sealxAdd.addr n.val 0) v 0 false)

/-- SEAL_INCREMENT_ADD (R335, R336): the bank is on the always-on supply and follows SCLK in every state but OFF. -/
def execSealIncrementAdd (x : SealFound) (s : State) : Out := finish (if s.sys.st = .off then s else s.sealEdge x.ce x.bad)

/-- SEAL_REPORT (R339). -/
def execSealReport (p : Fin 2) (s : State) : Out := finish (s.portWrite p Reg.sealCtl.base 1 0 false)

/-- SEAL_REPORT_DONE (R339). -/
def execSealReportDone (s : State) : Out := finish (s.awake State.sealReportDone)

/-- SEAL_BURN (R338). -/
def execSealBurn (p : Fin 2) (v : BitVec 32) (s : State) : Out := finish (s.portWrite p Reg.sealBurn.base v 0 false)

end Sys2Proof.Machine
end

