-- ==== Sys2Proof/Machine/WalendCmds.lean ====
section
/-! DEFINITION. The meanings of the Walend instructions and of the core's own events (R164 to R210). Every instruction runs on the
core of cluster c while it runs a handler, and leaves the state as it is otherwise. Fields of the word are those of R179. -/

namespace Sys2Proof.Machine

/-! ### The core's events (R164 to R169) -/

/-- CUE_DISPATCH (R164, R167). -/
def execCueDispatch (c : Fin 9) (ecc : Fin 3) (s : State) : Out := finish (if s.clocked then s.cueDispatch c ecc else s)

/-- ANGLE_CUE_FIRE (R165, R166). -/
def execAngleCueFire (w : Fin 9) (m : Fin 16) (s : State) : Out := finish (if s.clocked then s.angleCue w m else s)

/-- COMPARATOR_REARM (R166). -/
def execComparatorRearm (w : Fin 9) (m : Fin 16) (s : State) : Out := finish (if s.clocked then s.compRearm w m else s)

/-- BUDGET (R169, R182). -/
def execBudget (c : Fin 9) (s : State) : Out := finish (s.budgetHit c)

/-! ### Control (R186, R187) -/

/-- DONE (R168, R187). -/
def execWDone (c : Fin 9) (s : State) : Out := finish (s.insn c 16 false fun t => (t.handlerDone c none, .left))

/-- DONEW (R187). -/
def execWDonew (c : Fin 9) (src : Fin 16) (s : State) : Out :=
  finish (s.insn c 16 false fun t => (t.handlerDone c (some (t.clu[c].gr src)), .left))

/-- NOP (R184, R187). -/
def execWNop (c : Fin 9) (s : State) : Out := finish (s.insn c 1 false (fun t => (t, .next)) false)

/-- TRAP (R172, R187). -/
def execWTrap (c : Fin 9) (imm : BitVec 16) (s : State) : Out :=
  finish (s.insn c 1 false (fun t => t.abandon c 6 (some (zextW imm))) false)

/-- Bcond (R186). -/
def execWBcond (c : Fin 9) (cond : Fin 16) (off : BitVec 16) (s : State) : Out := finish (s.bcond c cond off)

/-- JMP (R187). -/
def execWJmp (c : Fin 9) (target : BitVec 12) (s : State) : Out := finish (s.jumpTo c 2 target.toNat)

/-- JAL (R187). -/
def execWJal (c : Fin 9) (d : Fin 16) (target : BitVec 12) (s : State) : Out :=
  finish (s.insn c 2 false fun t => (t.setClu c fun k => k.setG d (wordN (k.pc + 1)), .jump target.toNat))

/-- JR (R187). -/
def execWJr (c : Fin 9) (src : Fin 16) (s : State) : Out :=
  let x := s.clu[c].gr src
  finish (s.insn c 2 (decide (fld x 31 12 ≠ 0)) fun t => (t, .jump (fld x 11 0)))

/-- MFF (R187). -/
def execWMff (c : Fin 9) (d : Fin 16) (s : State) : Out := finish (s.plain c 1 false fun k => k.setG d k.mff)

/-! ### Moves and memory (R188, R189) -/

/-- LDI (R188). -/
def execWLdi (c : Fin 9) (d : Fin 16) (imm : BitVec 16) (s : State) : Out :=
  finish (s.plain c 1 false fun k => k.setG d (sextW imm))

/-- LDHI (R188). -/
def execWLdhi (c : Fin 9) (d : Fin 16) (imm : BitVec 16) (s : State) : Out :=
  finish (s.plain c 1 false fun k => k.setG d (setFld (k.gr d) 31 16 imm.toNat))

/-- MOV (R188). -/
def execWMov (c : Fin 9) (d src : Fin 16) (s : State) : Out := finish (s.plain c 1 false fun k => k.setG d (k.gr src))

/-- The load of LD, at a checked address. -/
def State.dataLoad (s : State) (c : Fin 9) (d : Fin 16) (x : Word) (found : Fin 3) : State × Flow :=
  if !dataOk x then s.abandon c 2 (some x)
  else
    match s.clu[c].work with
    | none => (s, .left)
    | some w =>
      match s.dataRead w (x.toNat / 4) found with
      | (t, some v) => (t.setClu c fun k => k.setG d v, .next)
      | (t, none) => (t, .left)

/-- The store of ST, over which a host write of the same word in the same TCLK stands (R35), at a checked address outside the context
block (R158, R188). -/
def State.dataStore (s : State) (c : Fin 9) (d : Fin 16) (x : Word) : State × Flow :=
  if !dataOk x || decide (0x1F80 ≤ x.toNat) then s.abandon c 2 (some x)
  else
    match s.clu[c].work with
    | none => (s, .left)
    | some w =>
      let a := dataBase w + x.toNat
      if s.hwNow a ≠ 0 then (s, .next) else ((s.setWord a (s.clu[c].gr d)).unflip a, .next)

/-- LD (R188). -/
def execWLd (c : Fin 9) (d b : Fin 16) (a : Bool) (imm : BitVec 16) (ecc : Fin 3) (s : State) : Out :=
  finish (s.insn c 2 (a && decide (b ≠ 0)) fun t => t.dataLoad c d (t.clu[c].dataAddr b a imm) ecc)

/-- ST (R188). -/
def execWSt (c : Fin 9) (d b : Fin 16) (a : Bool) (imm : BitVec 16) (s : State) : Out :=
  finish (s.insn c 1 (a && decide (b ≠ 0)) fun t => t.dataStore c d (t.clu[c].dataAddr b a imm))

/-- The exception of a refused register access (R159, R160, R172). Uncorrectable data raises none (DESIGN CHOICE, log entry 88). -/
def accCause : Status → Option Nat
  | .addrerr => some 2
  | .owner => some 3
  | .linkerr => some 4
  | _ => none

/-- The read of LDX by the core as its own reader. A word with uncorrectable data has no value to give: what is loaded is a free value
(DESIGN CHOICE, log entry 88). -/
def State.spaceLoad (s : State) (c : Fin 9) (d : Fin 16) (x : Word) (link : Bool) : State × Flow :=
  let (t, v, st) := s.accRead (coreReader c) x.toNat 0 link
  match accCause st with
  | some n => t.abandon c n (some x)
  | none =>
    if st = .dataerr then (t.useFree.setClu c fun k => k.setG d t.freeW, .next) else (t.setClu c fun k => k.setG d v, .next)

/-- The write of STX. -/
def State.spaceStore (s : State) (c : Fin 9) (d : Fin 16) (x : Word) (link : Bool) : State × Flow :=
  let (t, st) := s.accWrite (coreReader c) x.toNat (s.clu[c].gr d) 0 link
  match accCause st with
  | some n => t.abandon c n (some x)
  | none => (t, .next)

/-- LDX (R159 to R161, R189). -/
def execWLdx (c : Fin 9) (d b : Fin 16) (a : Bool) (imm : BitVec 16) (stall : Nat) (link : Bool) (s : State) : Out :=
  finish (s.insn c (2 + stall) a fun t => t.spaceLoad c d (t.clu[c].dataAddr b false imm) link)

/-- STX (R159, R160, R189). -/
def execWStx (c : Fin 9) (d b : Fin 16) (a : Bool) (imm : BitVec 16) (stall : Nat) (link : Bool) (s : State) : Out :=
  finish (s.insn c (2 + stall) a fun t => t.spaceStore c d (t.clu[c].dataAddr b false imm) link)

/-! ### Arithmetic and logic (R190, R191) -/

/-- An instruction on two general registers. -/
def State.two (s : State) (c : Fin 9) (ticks : Nat) (x y : Fin 16) (f : Cluster → Word → Word → Cluster) : State :=
  s.plain c ticks false fun k => f k (k.gr x) (k.gr y)

/-- An instruction on a general register and an immediate word. -/
def State.imm (s : State) (c : Fin 9) (x : Fin 16) (y : Word) (f : Cluster → Word → Word → Cluster) : State :=
  s.plain c 1 false fun k => f k (k.gr x) y

/-- ADD (R190). -/
def execWAdd (c : Fin 9) (d src t : Fin 16) (s : State) : Out := finish (s.two c 1 src t fun k x y => k.addTo d x y)

/-- SUB (R190). -/
def execWSub (c : Fin 9) (d src t : Fin 16) (s : State) : Out := finish (s.two c 1 src t fun k x y => k.subTo d x y)

/-- AND (R190). -/
def execWAnd (c : Fin 9) (d src t : Fin 16) (s : State) : Out := finish (s.two c 1 src t fun k x y => k.logic d (x &&& y))

/-- OR (R190). -/
def execWOr (c : Fin 9) (d src t : Fin 16) (s : State) : Out := finish (s.two c 1 src t fun k x y => k.logic d (x ||| y))

/-- XOR (R190). -/
def execWXor (c : Fin 9) (d src t : Fin 16) (s : State) : Out := finish (s.two c 1 src t fun k x y => k.logic d (x ^^^ y))

/-- SHL (R190). -/
def execWShl (c : Fin 9) (d src t : Fin 16) (s : State) : Out := finish (s.two c 1 src t fun k x y => k.shl d x (y.toNat % 32))

/-- SHR (R190). -/
def execWShr (c : Fin 9) (d src t : Fin 16) (s : State) : Out := finish (s.two c 1 src t fun k x y => k.shr d x (y.toNat % 32))

/-- ASR (R190). -/
def execWAsr (c : Fin 9) (d src t : Fin 16) (s : State) : Out := finish (s.two c 1 src t fun k x y => k.asr d x (y.toNat % 32))

/-- MIN (R190). -/
def execWMin (c : Fin 9) (d src t : Fin 16) (s : State) : Out := finish (s.two c 1 src t fun k x y => k.put d (minW x y))

/-- MAX (R190). -/
def execWMax (c : Fin 9) (d src t : Fin 16) (s : State) : Out := finish (s.two c 1 src t fun k x y => k.put d (maxW x y))

/-- CMP (R190). -/
def execWCmp (c : Fin 9) (src t : Fin 16) (s : State) : Out := finish (s.two c 1 src t fun k x y => k.cmpFlags x y)

/-- MUL (R190). -/
def execWMul (c : Fin 9) (d src t : Fin 16) (s : State) : Out :=
  finish (s.two c 2 src t fun k x y => (k.put d (x * y)).vf (mulOver x y))

/-- MULH (R190). -/
def execWMulh (c : Fin 9) (d src t : Fin 16) (s : State) : Out := finish (s.two c 2 src t fun k x y => k.logic d (mulHigh x y))

/-- DIVU (R191). -/
def execWDivu (c : Fin 9) (d src t : Fin 16) (s : State) : Out :=
  finish (s.two c 18 src t fun k x y => (k.put d (divuW x y)).vf (divuV y))

/-- DIVS (R191). -/
def execWDivs (c : Fin 9) (d src t : Fin 16) (s : State) : Out :=
  finish (s.two c 18 src t fun k x y => (k.put d (divsW x y)).vf (divsV x y))

/-- ADDI (R190). -/
def execWAddi (c : Fin 9) (d src : Fin 16) (imm : BitVec 16) (s : State) : Out :=
  finish (s.imm c src (sextW imm) fun k x y => k.addTo d x y)

/-- CMPI (R190). -/
def execWCmpi (c : Fin 9) (src : Fin 16) (imm : BitVec 16) (s : State) : Out :=
  finish (s.imm c src (sextW imm) fun k x y => k.cmpFlags x y)

/-- ANDI (R190). -/
def execWAndi (c : Fin 9) (d src : Fin 16) (imm : BitVec 16) (s : State) : Out :=
  finish (s.imm c src (zextW imm) fun k x y => k.logic d (x &&& y))

/-- ORI (R190). -/
def execWOri (c : Fin 9) (d src : Fin 16) (imm : BitVec 16) (s : State) : Out :=
  finish (s.imm c src (zextW imm) fun k x y => k.logic d (x ||| y))

/-- XORI (R190). -/
def execWXori (c : Fin 9) (d src : Fin 16) (imm : BitVec 16) (s : State) : Out :=
  finish (s.imm c src (zextW imm) fun k x y => k.logic d (x ^^^ y))

/-- SHLI (R184, R190). -/
def execWShli (c : Fin 9) (d src : Fin 16) (imm : BitVec 16) (s : State) : Out :=
  finish (s.plain c 1 (decide (32 ≤ imm.toNat)) fun k => k.shl d (k.gr src) (imm.toNat % 32))

/-- SHRI (R184, R190). -/
def execWShri (c : Fin 9) (d src : Fin 16) (imm : BitVec 16) (s : State) : Out :=
  finish (s.plain c 1 (decide (32 ≤ imm.toNat)) fun k => k.shr d (k.gr src) (imm.toNat % 32))

/-- ASRI (R184, R190). -/
def execWAsri (c : Fin 9) (d src : Fin 16) (imm : BitVec 16) (s : State) : Out :=
  finish (s.plain c 1 (decide (32 ≤ imm.toNat)) fun k => k.asr d (k.gr src) (imm.toNat % 32))

/-- MINI (R190). -/
def execWMini (c : Fin 9) (d src : Fin 16) (imm : BitVec 16) (s : State) : Out :=
  finish (s.imm c src (sextW imm) fun k x y => k.put d (minW x y))

/-- MAXI (R190). -/
def execWMaxi (c : Fin 9) (d src : Fin 16) (imm : BitVec 16) (s : State) : Out :=
  finish (s.imm c src (sextW imm) fun k x y => k.put d (maxW x y))

/-! ### Measurement reads and fabric messages (R202 to R208) -/

/-- The low four bits of a general register as a number. -/
def Cluster.low4 (k : Cluster) (i : Fin 16) : Fin 16 := ⟨fld (k.gr i) 3 0, by unfold fld; omega⟩

/-- The low three bits of a field as a modulator. -/
def mod3 (i : Fin 16) : Fin 8 := ⟨i.val % 8, by omega⟩

/-- RDFIG (R202, R204). -/
def execWRdfig (c : Fin 9) (d w : Fin 16) (fig : Fin 32) (rg : Bool) (s : State) : Out :=
  finish (s.insn c 4 false fun t => (t.rdfig c d (if rg then t.clu[c].low4 w else w) fig, .next))

/-- RDRES (R203, R204). -/
def execWRdres (c : Fin 9) (d m : Fin 16) (rg : Bool) (s : State) : Out :=
  finish (s.insn c 4 (decide (d.val % 2 = 1) || (!rg && decide (7 < m.val))) fun t =>
    (t.rdres c d (mod3 (if rg then t.clu[c].low4 m else m)), .next))

/-- SEND (R205, R206); n is the count less one. -/
def execWSend (c : Fin 9) (src g : Fin 16) (n : Fin 4) (s : State) : Out :=
  finish (s.insn c (3 + n.val) (decide (15 < g.val + n.val)) fun t =>
    match t.clu[c].work with
    | some w => (t.sendMsg c w (t.clu[c].gr src) ((t.clu[c].g.toList.drop g.val).take (n.val + 1)), .next)
    | none => (t, .left))

/-- FABRD (R207). -/
def execWFabrd (c : Fin 9) (d : Fin 16) (k : Fin 4) (s : State) : Out :=
  finish (s.insn c 1 false fun t => (t.fabrd c d k, .next))

/-! ### Comparators and cue enables (R193) -/

/-- CUESET (R193). -/
def execWCueset (c : Fin 9) (src : Fin 16) (s : State) : Out :=
  finish (s.insn c 1 false fun t => (t.cueEnable c fun e => e ||| (t.clu[c].gr src).toNat, .next))

/-- CUECLR (R193). -/
def execWCueclr (c : Fin 9) (src : Fin 16) (s : State) : Out :=
  finish (s.insn c 1 false fun t => (t.cueEnable c fun e => e &&& (~~~(t.clu[c].gr src)).toNat, .next))

/-- CUEWR (R193). -/
def execWCuewr (c : Fin 9) (src : Fin 16) (s : State) : Out :=
  finish (s.insn c 1 false fun t => (t.cueEnable c fun _ => (t.clu[c].gr src).toNat, .next))

/-- Change a comparator of the work that the cluster carries. -/
def State.compOf (s : State) (c : Fin 9) (m : Fin 16) (f : Comp → Comp) : State :=
  match s.clu[c].work with
  | some w => s.compSet w m (f s.work[w].comps[m])
  | none => s

/-- SETAC (R166, R193). -/
def execWSetac (c : Fin 9) (m src : Fin 16) (rpt prov : Bool) (s : State) : Out :=
  finish (s.insn c 2 (aBad src) fun t => (t.compOf c m fun x =>
    ⟨t.clu[c].ar src, true, rpt, prov, false, t.now, 0, if x.arm then some (x.angle, x.prov) else none⟩, .next))

/-- CLRAC: a crossing in its TCLK is judged on the setting it clears (R166, R193). -/
def execWClrac (c : Fin 9) (m : Fin 16) (s : State) : Out :=
  finish (s.insn c 1 false (fun t => (t.compOf c m fun x =>
    { x.disarm with since := t.now, was := if x.arm then some (x.angle, x.prov) else none }, .next)) false)

/-! ### Angles (R157, R192) -/

/-- MOVA (R192). -/
def execWMova (c : Fin 9) (d src : Fin 16) (s : State) : Out :=
  finish (s.plain c 2 (aBad d) fun k =>
    (k.setA d ((k.gr src).toNat % s.cycle)).wf (decide (s.cycle ≤ (k.gr src).toNat)))

/-- ADDA (R192). -/
def execWAdda (c : Fin 9) (d src t : Fin 16) (s : State) : Out :=
  finish (s.plain c 2 (aBad d || aBad src) fun k => s.angAdd k d src (k.gr t).toInt)

/-- SUBA (R192). -/
def execWSuba (c : Fin 9) (d src t : Fin 16) (s : State) : Out :=
  finish (s.plain c 2 (aBad d || aBad src) fun k => s.angAdd k d src (-(k.gr t).toInt))

/-- DIFA (R192). -/
def execWDifa (c : Fin 9) (d src t : Fin 16) (s : State) : Out :=
  finish (s.plain c 2 (aBad src || aBad t) fun k => s.angDif k d src t)

/-- GETA (R192). -/
def execWGeta (c : Fin 9) (d : Fin 16) (s : State) : Out :=
  finish (s.insn c 2 (aBad d) fun t => (t.setClu c fun k => t.angGet k d, .next))

/-- MOVG (R192). -/
def execWMovg (c : Fin 9) (d src : Fin 16) (s : State) : Out :=
  finish (s.plain c 2 (aBad src) fun k => k.setG d (wordN (s.arMod k src).1))

/-- ADDAI (R192). -/
def execWAddai (c : Fin 9) (d src : Fin 16) (imm : BitVec 16) (s : State) : Out :=
  finish (s.plain c 2 (aBad d || aBad src) fun k => s.angAdd k d src imm.toInt)

/-! ### Peg instructions (R194 to R201) -/

/-- ARM (R197). -/
def execWArm (c : Fin 9) (d b t : Fin 16) (src : Fin 4) (s : State) : Out :=
  finish (s.insn c 8 (decide (src.val = 3) || (decide (src.val = 2) && aBad t)) fun u => u.armFrom c d b t src)

/-- REAIM (R198). -/
def execWReaim (c : Fin 9) (h t o : Fin 16) (src : Fin 4) (sett : Bool) (s : State) : Out :=
  let bad := decide (src.val = 3) || (decide (src.val = 0) && !sett) || (!sett && decide (o ≠ 0))
    || (decide (src.val = 2) && aBad t)
  finish (s.insn c 4 bad fun u =>
    let k := u.clu[c]
    let ang : Option Nat := if src.val = 1 then some (fld (k.gr t) 23 0) else if src.val = 2 then some (k.ar t) else none
    u.reaim c (k.gr h) ang (if sett then some (sx 16 (k.gr o).toNat) else none))

/-- CANCEL (R199). -/
def execWCancel (c : Fin 9) (h : Fin 16) (s : State) : Out := finish (s.insn c 2 false fun t => t.cancel c (t.clu[c].gr h))

/-- QUERY (R200). -/
def execWQuery (c : Fin 9) (d h : Fin 16) (s : State) : Out := finish (s.insn c 2 false fun t => t.query c d (t.clu[c].gr h))

/-- OVFC (R201). -/
def execWOvfc (c : Fin 9) (d : Fin 16) (s : State) : Out := finish (s.insn c 1 false fun t => (t.ovfClear c d, .next))

/-! ### Reserved words (R180, R184) -/

/-- A reserved opcode or encoding raises ILLEGAL; a word that is none of these is another row's instruction. -/
def execWReservedOpcode (c : Fin 9) (w : BitVec 32) (s : State) : Out :=
  finish (if reservedWord w then s.insn c 1 true fun t => (t, .next) else s)

end Sys2Proof.Machine
end

