-- ==== Sys2Proof/Machine/WheelCmds.lean ====
section
/-! DEFINITION. The meanings of the wheel, sync and predictor commands (chapters Wheel Inputs and Synchronisation, The Spline
Predictor). -/

namespace Sys2Proof.Machine

/-- A wheel-class input of bank VIO1, which yields no edges while the bank is lost (R443). -/
def State.wheelPin (s : State) (f : State → State) : State := if s.clocked && s.sys.vio[1] then f s else s

/-- CRANK_EDGE (R65 to R78). -/
def execCrankEdge (ts : Nat) (lvl : Bool) (s : State) : Out := finish (s.wheelPin fun t => t.crankEdge ts lvl)

/-- PULSE_END_RELABEL (R54). -/
def execPulseEndRelabel (x : PulseEnd) (s : State) : Out := finish (s.wheelPin fun t => t.pulseEnd x.wheel x.width)

/-- DOWEL_TOOTH (R70). -/
def execDowelTooth (s : State) : Out := finish (s.awake State.dowelTooth)

/-- STOP_TIMEOUT (R64). -/
def execStopTimeout (s : State) : Out := finish (s.awake State.stopTimeout)

/-- CAM_EDGE (R66, R67). -/
def execCamEdge (c : Fin 2) (x : EdgeAt) (s : State) : Out :=
  finish (s.wheelPin fun t => t.camEdge ⟨c.val + 1, by omega⟩ x.ts x.level)

/-- CAM_MISSING (R67). -/
def execCamMissing (s : State) : Out := finish (s.awake State.camMissing)

/-- AUX_EDGE (R56). -/
def execAuxEdge (m : Fin 2) (ts : Nat) (s : State) : Out := finish (s.wheelPin fun t => t.auxEdge m ts)

/-- WHL_ENABLE (R60): a write of WHLn_CFG with EN = 1. -/
def execWhlEnable (p : Fin 2) (n : Fin 3) (v : BitVec 32) (s : State) : Out :=
  finish (s.portWrite p (Reg.whlxCfg.addr n.val 0) (setFld v 0 0 1) 0 false)

/-- WHL_DISABLE (R64): a write of WHLn_CFG with EN = 0. -/
def execWhlDisable (p : Fin 2) (n : Fin 3) (v : BitVec 32) (s : State) : Out :=
  finish (s.portWrite p (Reg.whlxCfg.addr n.val 0) (setFld v 0 0 0) 0 false)

/-- RESYNC (R64, R88). -/
def execResync (p : Fin 2) (s : State) : Out := finish (s.portWrite p Reg.whlCmd.base 1 0 false)

/-- MAP_SHADOW_DONE (R104). -/
def execMapShadowDone (s : State) : Out := finish (s.awake State.mapShadowDone)

/-- PREDICTOR_CHECK_FAIL (R108). -/
def execPredictorCheckFail (actBad chkBad : Bool) (s : State) : Out := finish (s.awake fun t => t.prdCheckFail actBad chkBad)

/-- RIP_GAIN_WRITE (R100). -/
def execRipGainWrite (p : Fin 2) (i : Fin 24) (v : BitVec 32) (s : State) : Out :=
  finish (s.portWrite p (Reg.ripGain.addr i.val 0) v 0 false)

/-- TOOTH_MAP_WRITE (R105). -/
def execToothMapWrite (p : Fin 2) (i : Fin 1024) (v : BitVec 32) (s : State) : Out :=
  finish (s.portWrite p (Reg.toothmap.addr i.val 0) v 0 false)

/-- MAP_CLEAR (R105): CLEAR with FREEZE as it stands. -/
def execMapClear (p : Fin 2) (s : State) : Out :=
  finish (s.portWrite p Reg.prdMapCtl.base (wordN (2 + s.rf Reg.prdMapCtl 0 0 0)) 0 false)

end Sys2Proof.Machine
end

