-- ==== Sys2Proof/Machine/Dispatch.lean ====
section
/-! DEFINITION. The dispatch of every command to its meaning, one arm per row of spec/opcode_table.json. -/

namespace Sys2Proof.Machine

/-- A command's effect on everything but the queue. -/
def exec (i : Instr) (s : State) : Host.Outcome State Fault Refusal :=
  match i with
  | .powerOnReset => Sys2Proof.Machine.execPowerOnReset s
  | .porRelease nid ma test => Sys2Proof.Machine.execPorRelease nid ma test s
  | .pllLock => Sys2Proof.Machine.execPllLock s
  | .selftestEnd fails stores echo drvLink => Sys2Proof.Machine.execSelftestEnd fails stores echo drvLink s
  | .supplyLost which => Sys2Proof.Machine.execSupplyLost which s
  | .vioBankLost b => Sys2Proof.Machine.execVioBankLost b s
  | .vbatLost => Sys2Proof.Machine.execVbatLost s
  | .pllUnlockTimeout => Sys2Proof.Machine.execPllUnlockTimeout s
  | .referenceWindowEnd cycles => Sys2Proof.Machine.execReferenceWindowEnd cycles s
  | .sclkSilence => Sys2Proof.Machine.execSclkSilence s
  | .sysRun p confirm => Sys2Proof.Machine.execSysRun p confirm s
  | .sysReady p confirm => Sys2Proof.Machine.execSysReady p confirm s
  | .sysStandby p confirm => Sys2Proof.Machine.execSysStandby p confirm s
  | .standbyComplete => Sys2Proof.Machine.execStandbyComplete s
  | .sysRetest p confirm => Sys2Proof.Machine.execSysRetest p confirm s
  | .wakePin => Sys2Proof.Machine.execWakePin s
  | .wakeWhl aux0 => Sys2Proof.Machine.execWakeWhl aux0 s
  | .wakeAlarm => Sys2Proof.Machine.execWakeAlarm s
  | .wakeMnt addr => Sys2Proof.Machine.execWakeMnt addr s
  | .wakeBegin => Sys2Proof.Machine.execWakeBegin s
  | .standbyEdge aux0 => Sys2Proof.Machine.execStandbyEdge aux0 s
  | .measGateWrite p gate => Sys2Proof.Machine.execMeasGateWrite p gate s
  | .ungateDone => Sys2Proof.Machine.execUngateDone s
  | .heartbeatSend => Sys2Proof.Machine.execHeartbeatSend s
  | .ddlSilence => Sys2Proof.Machine.execDdlSilence s
  | .ddlRelease => Sys2Proof.Machine.execDdlRelease s
  | .releaseAnswer => Sys2Proof.Machine.execReleaseAnswer s
  | .ddlTransfer ok => Sys2Proof.Machine.execDdlTransfer ok s
  | .mdlTransfer ok => Sys2Proof.Machine.execMdlTransfer ok s
  | .edgeEchoCheck line same => Sys2Proof.Machine.execEdgeEchoCheck line same s
  | .registerWrite p addr v link => Sys2Proof.Machine.execRegisterWrite p addr v link s
  | .lockSet p addr v link => Sys2Proof.Machine.execLockSet p addr v link s
  | .shadowRead p addr link => Sys2Proof.Machine.execShadowRead p addr link s
  | .chanOwnerWrite p n v link => Sys2Proof.Machine.execChanOwnerWrite p n v link s
  | .ignOwnerWrite p n v link => Sys2Proof.Machine.execIgnOwnerWrite p n v link s
  | .measOwnerWrite p n v => Sys2Proof.Machine.execMeasOwnerWrite p n v s
  | .jigOwnerWrite p n v => Sys2Proof.Machine.execJigOwnerWrite p n v s
  | .tmrOwnerWrite p n v => Sys2Proof.Machine.execTmrOwnerWrite p n v s
  | .clusterSramWrite p addr v => Sys2Proof.Machine.execClusterSramWrite p addr v s
  | .clusterSramRead p addr ecc => Sys2Proof.Machine.execClusterSramRead p addr ecc s
  | .crankEdge ts lvl => Sys2Proof.Machine.execCrankEdge ts lvl s
  | .pulseEndRelabel x => Sys2Proof.Machine.execPulseEndRelabel x s
  | .dowelTooth => Sys2Proof.Machine.execDowelTooth s
  | .stopTimeout => Sys2Proof.Machine.execStopTimeout s
  | .camEdge c x => Sys2Proof.Machine.execCamEdge c x s
  | .camMissing => Sys2Proof.Machine.execCamMissing s
  | .auxEdge m ts => Sys2Proof.Machine.execAuxEdge m ts s
  | .whlEnable p n v => Sys2Proof.Machine.execWhlEnable p n v s
  | .whlDisable p n v => Sys2Proof.Machine.execWhlDisable p n v s
  | .resync p => Sys2Proof.Machine.execResync p s
  | .mapShadowDone => Sys2Proof.Machine.execMapShadowDone s
  | .predictorCheckFail actBad chkBad => Sys2Proof.Machine.execPredictorCheckFail actBad chkBad s
  | .ripGainWrite p k v => Sys2Proof.Machine.execRipGainWrite p k v s
  | .toothMapWrite p k v => Sys2Proof.Machine.execToothMapWrite p k v s
  | .mapClear p => Sys2Proof.Machine.execMapClear p s
  | .pegCommit w k => Sys2Proof.Machine.execPegCommit w k s
  | .pegDrive w k => Sys2Proof.Machine.execPegDrive w k s
  | .pegFire w k => Sys2Proof.Machine.execPegFire w k s
  | .selectReceive => Sys2Proof.Machine.execSelectReceive s
  | .selackReceive => Sys2Proof.Machine.execSelackReceive s
  | .dwellMax w k => Sys2Proof.Machine.execDwellMax w k s
  | .softoffCommand => Sys2Proof.Machine.execSoftoffCommand s
  | .softoffComplete n => Sys2Proof.Machine.execSoftoffComplete n s
  | .softoffLineDrop n => Sys2Proof.Machine.execSoftoffLineDrop n s
  | .softoffTimeout n => Sys2Proof.Machine.execSoftoffTimeout n s
  | .vernierCalibration ok => Sys2Proof.Machine.execVernierCalibration ok s
  | .cueDispatch c ecc => Sys2Proof.Machine.execCueDispatch c ecc s
  | .angleCueFire w m => Sys2Proof.Machine.execAngleCueFire w m s
  | .comparatorRearm w m => Sys2Proof.Machine.execComparatorRearm w m s
  | .budget c => Sys2Proof.Machine.execBudget c s
  | .wDone c => Sys2Proof.Machine.execWDone c s
  | .wDonew c rs => Sys2Proof.Machine.execWDonew c rs s
  | .wNop c => Sys2Proof.Machine.execWNop c s
  | .wTrap c imm => Sys2Proof.Machine.execWTrap c imm s
  | .wBcond c cond off => Sys2Proof.Machine.execWBcond c cond off s
  | .wJmp c target => Sys2Proof.Machine.execWJmp c target s
  | .wJal c d target => Sys2Proof.Machine.execWJal c d target s
  | .wJr c rs => Sys2Proof.Machine.execWJr c rs s
  | .wMff c d => Sys2Proof.Machine.execWMff c d s
  | .wLdi c d imm => Sys2Proof.Machine.execWLdi c d imm s
  | .wLdhi c d imm => Sys2Proof.Machine.execWLdhi c d imm s
  | .wMov c d rs => Sys2Proof.Machine.execWMov c d rs s
  | .wLd c d b a imm ecc => Sys2Proof.Machine.execWLd c d b a imm ecc s
  | .wSt c d b a imm => Sys2Proof.Machine.execWSt c d b a imm s
  | .wLdx c d b a imm stall link => Sys2Proof.Machine.execWLdx c d b a imm stall link s
  | .wStx c d b a imm stall link => Sys2Proof.Machine.execWStx c d b a imm stall link s
  | .wAdd c d rs t => Sys2Proof.Machine.execWAdd c d rs t s
  | .wSub c d rs t => Sys2Proof.Machine.execWSub c d rs t s
  | .wAnd c d rs t => Sys2Proof.Machine.execWAnd c d rs t s
  | .wOr c d rs t => Sys2Proof.Machine.execWOr c d rs t s
  | .wXor c d rs t => Sys2Proof.Machine.execWXor c d rs t s
  | .wShl c d rs t => Sys2Proof.Machine.execWShl c d rs t s
  | .wShr c d rs t => Sys2Proof.Machine.execWShr c d rs t s
  | .wAsr c d rs t => Sys2Proof.Machine.execWAsr c d rs t s
  | .wMin c d rs t => Sys2Proof.Machine.execWMin c d rs t s
  | .wMax c d rs t => Sys2Proof.Machine.execWMax c d rs t s
  | .wCmp c rs t => Sys2Proof.Machine.execWCmp c rs t s
  | .wMul c d rs t => Sys2Proof.Machine.execWMul c d rs t s
  | .wMulh c d rs t => Sys2Proof.Machine.execWMulh c d rs t s
  | .wDivu c d rs t => Sys2Proof.Machine.execWDivu c d rs t s
  | .wDivs c d rs t => Sys2Proof.Machine.execWDivs c d rs t s
  | .wAddi c d rs imm => Sys2Proof.Machine.execWAddi c d rs imm s
  | .wCmpi c rs imm => Sys2Proof.Machine.execWCmpi c rs imm s
  | .wAndi c d rs imm => Sys2Proof.Machine.execWAndi c d rs imm s
  | .wOri c d rs imm => Sys2Proof.Machine.execWOri c d rs imm s
  | .wXori c d rs imm => Sys2Proof.Machine.execWXori c d rs imm s
  | .wShli c d rs imm => Sys2Proof.Machine.execWShli c d rs imm s
  | .wShri c d rs imm => Sys2Proof.Machine.execWShri c d rs imm s
  | .wAsri c d rs imm => Sys2Proof.Machine.execWAsri c d rs imm s
  | .wMini c d rs imm => Sys2Proof.Machine.execWMini c d rs imm s
  | .wMaxi c d rs imm => Sys2Proof.Machine.execWMaxi c d rs imm s
  | .wRdfig c d w fig rg => Sys2Proof.Machine.execWRdfig c d w fig rg s
  | .wRdres c d m rg => Sys2Proof.Machine.execWRdres c d m rg s
  | .wSend c rs g n => Sys2Proof.Machine.execWSend c rs g n s
  | .wFabrd c d k => Sys2Proof.Machine.execWFabrd c d k s
  | .wCueset c rs => Sys2Proof.Machine.execWCueset c rs s
  | .wCueclr c rs => Sys2Proof.Machine.execWCueclr c rs s
  | .wCuewr c rs => Sys2Proof.Machine.execWCuewr c rs s
  | .wMova c d rs => Sys2Proof.Machine.execWMova c d rs s
  | .wAdda c d rs t => Sys2Proof.Machine.execWAdda c d rs t s
  | .wSuba c d rs t => Sys2Proof.Machine.execWSuba c d rs t s
  | .wDifa c d rs t => Sys2Proof.Machine.execWDifa c d rs t s
  | .wGeta c d => Sys2Proof.Machine.execWGeta c d s
  | .wMovg c d rs => Sys2Proof.Machine.execWMovg c d rs s
  | .wAddai c d rs imm => Sys2Proof.Machine.execWAddai c d rs imm s
  | .wSetac c m rs rpt prov => Sys2Proof.Machine.execWSetac c m rs rpt prov s
  | .wClrac c m => Sys2Proof.Machine.execWClrac c m s
  | .wArm c d b t src => Sys2Proof.Machine.execWArm c d b t src s
  | .wReaim c h t o src sett => Sys2Proof.Machine.execWReaim c h t o src sett s
  | .wCancel c h => Sys2Proof.Machine.execWCancel c h s
  | .wQuery c d h => Sys2Proof.Machine.execWQuery c d h s
  | .wOvfc c d => Sys2Proof.Machine.execWOvfc c d s
  | .cluRoleStart p c => Sys2Proof.Machine.execCluRoleStart p c s
  | .cluRoleStop p c => Sys2Proof.Machine.execCluRoleStop p c s
  | .clusterStop c => Sys2Proof.Machine.execClusterStop c s
  | .cluRoleSpare p c => Sys2Proof.Machine.execCluRoleSpare p c s
  | .doorbell p c v => Sys2Proof.Machine.execDoorbell p c v s
  | .cueEnWrite p c v => Sys2Proof.Machine.execCueEnWrite p c v s
  | .clusterFail c why => Sys2Proof.Machine.execClusterFail c why s
  | .mirrorLoadDone w bad => Sys2Proof.Machine.execMirrorLoadDone w bad s
  | .schedulerLive w => Sys2Proof.Machine.execSchedulerLive w s
  | .handoverSwitch => Sys2Proof.Machine.execHandoverSwitch s
  | .startEdge n => Sys2Proof.Machine.execStartEdge n s
  | .bankGrant n => Sys2Proof.Machine.execBankGrant n s
  | .bankDeferExpire n => Sys2Proof.Machine.execBankDeferExpire n s
  | .boostRailReady n => Sys2Proof.Machine.execBoostRailReady n s
  | .boostWaitExpire n => Sys2Proof.Machine.execBoostWaitExpire n s
  | .iboostReached n => Sys2Proof.Machine.execIboostReached n s
  | .tboostExpire n cur => Sys2Proof.Machine.execTboostExpire n cur s
  | .tpeakExpire n => Sys2Proof.Machine.execTpeakExpire n s
  | .iholdReached n => Sys2Proof.Machine.execIholdReached n s
  | .tbypExpire n => Sys2Proof.Machine.execTbypExpire n s
  | .chopComparator n upper => Sys2Proof.Machine.execChopComparator n upper s
  | .offCommand n => Sys2Proof.Machine.execOffCommand n s
  | .tmaxExpire n => Sys2Proof.Machine.execTmaxExpire n s
  | .fastDecayEnd n => Sys2Proof.Machine.execFastDecayEnd n s
  | .recoveryEnd n => Sys2Proof.Machine.execRecoveryEnd n s
  | .closeRecord => Sys2Proof.Machine.execCloseRecord s
  | .refuseReceive => Sys2Proof.Machine.execRefuseReceive s
  | .holdendReceive => Sys2Proof.Machine.execHoldendReceive s
  | .boostRailMeasure k v => Sys2Proof.Machine.execBoostRailMeasure k v s
  | .boostIlimReached k => Sys2Proof.Machine.execBoostIlimReached k s
  | .boostToffExpire k => Sys2Proof.Machine.execBoostToffExpire k s
  | .dutyBucketClose n => Sys2Proof.Machine.execDutyBucketClose n s
  | .shortBat n => Sys2Proof.Machine.execShortBat n s
  | .shortGnd b => Sys2Proof.Machine.execShortGnd b s
  | .ignNocur n => Sys2Proof.Machine.execIgnNocur n s
  | .ignNospark n => Sys2Proof.Machine.execIgnNospark n s
  | .gateStuck cluster unit n => Sys2Proof.Machine.execGateStuck cluster unit n s
  | .shortBatClear p n link => Sys2Proof.Machine.execShortBatClear p n link s
  | .bankFaultClear p b link => Sys2Proof.Machine.execBankFaultClear p b link s
  | .modStart p m => Sys2Proof.Machine.execModStart p m s
  | .modStop p m => Sys2Proof.Machine.execModStop p m s
  | .modUrg p m => Sys2Proof.Machine.execModUrg p m s
  | .atrgTrigger k => Sys2Proof.Machine.execAtrgTrigger k s
  | .entryComplete m => Sys2Proof.Machine.execEntryComplete m s
  | .sampleReady m v stamp sat bad => Sys2Proof.Machine.execSampleReady m v stamp sat bad s
  | .figuresPublish bad => Sys2Proof.Machine.execFiguresPublish bad s
  | .resultRead p m => Sys2Proof.Machine.execResultRead p m s
  | .figureRead p w f => Sys2Proof.Machine.execFigureRead p w f s
  | .traceInitDone => Sys2Proof.Machine.execTraceInitDone s
  | .scrubRead errs => Sys2Proof.Machine.execScrubRead errs s
  | .traceHostRead p addr ecc link => Sys2Proof.Machine.execTraceHostRead p addr ecc link s
  | .traceHostWrite p addr v ecc link => Sys2Proof.Machine.execTraceHostWrite p addr v ecc link s
  | .ringEnable p r v => Sys2Proof.Machine.execRingEnable p r v s
  | .ringDisable p r v => Sys2Proof.Machine.execRingDisable p r v s
  | .ringFreeze p r => Sys2Proof.Machine.execRingFreeze p r s
  | .ringResume p r => Sys2Proof.Machine.execRingResume p r s
  | .ringPostDone r => Sys2Proof.Machine.execRingPostDone r s
  | .jigStart p mask => Sys2Proof.Machine.execJigStart p mask s
  | .jigHalt p mask => Sys2Proof.Machine.execJigHalt p mask s
  | .jigRealign p mask => Sys2Proof.Machine.execJigRealign p mask s
  | .jigNop e a imm => Sys2Proof.Machine.execJigNop e a imm s
  | .jigIdle e a imm => Sys2Proof.Machine.execJigIdle e a imm s
  | .jigIdleExpire e => Sys2Proof.Machine.execJigIdleExpire e s
  | .jigPins e a imm => Sys2Proof.Machine.execJigPins e a imm s
  | .jigDirs e a imm => Sys2Proof.Machine.execJigDirs e a imm s
  | .jigWaitl e a imm pins => Sys2Proof.Machine.execJigWaitl e a imm pins s
  | .jigWaite e a imm => Sys2Proof.Machine.execJigWaite e a imm s
  | .jigWaitg e a imm => Sys2Proof.Machine.execJigWaitg e a imm s
  | .jigWaitEnd e stamp => Sys2Proof.Machine.execJigWaitEnd e stamp s
  | .jigWaitTimeout e => Sys2Proof.Machine.execJigWaitTimeout e s
  | .jigShin e a imm bits => Sys2Proof.Machine.execJigShin e a imm bits s
  | .jigShout e a imm => Sys2Proof.Machine.execJigShout e a imm s
  | .jigPush e a imm => Sys2Proof.Machine.execJigPush e a imm s
  | .jigPull e a imm => Sys2Proof.Machine.execJigPull e a imm s
  | .jigStallEnd e => Sys2Proof.Machine.execJigStallEnd e s
  | .jigMov e a imm pins => Sys2Proof.Machine.execJigMov e a imm pins s
  | .jigMovi e a imm => Sys2Proof.Machine.execJigMovi e a imm s
  | .jigAddi e a imm => Sys2Proof.Machine.execJigAddi e a imm s
  | .jigSub e a imm pins => Sys2Proof.Machine.execJigSub e a imm pins s
  | .jigTest e a imm => Sys2Proof.Machine.execJigTest e a imm s
  | .jigBr e a imm pins => Sys2Proof.Machine.execJigBr e a imm pins s
  | .jigLoop e a imm => Sys2Proof.Machine.execJigLoop e a imm s
  | .jigRecip e a imm => Sys2Proof.Machine.execJigRecip e a imm s
  | .jigMulq e a imm => Sys2Proof.Machine.execJigMulq e a imm s
  | .jigSig e a imm => Sys2Proof.Machine.execJigSig e a imm s
  | .jigYield e a imm => Sys2Proof.Machine.execJigYield e a imm s
  | .jigSwapRequest p e => Sys2Proof.Machine.execJigSwapRequest p e s
  | .jigForceSwap p e => Sys2Proof.Machine.execJigForceSwap p e s
  | .jigFlush p e => Sys2Proof.Machine.execJigFlush p e s
  | .jigTrgclr p e => Sys2Proof.Machine.execJigTrgclr p e s
  | .jigProgramWrite p e k v => Sys2Proof.Machine.execJigProgramWrite p e k v s
  | .jigTxfWrite p e v => Sys2Proof.Machine.execJigTxfWrite p e v s
  | .jigRxfRead p e => Sys2Proof.Machine.execJigRxfRead p e s
  | .jigDisable p e => Sys2Proof.Machine.execJigDisable p e s
  | .timerEnable p n v => Sys2Proof.Machine.execTimerEnable p n v s
  | .timerCompare n => Sys2Proof.Machine.execTimerCompare n s
  | .timerWrap n => Sys2Proof.Machine.execTimerWrap n s
  | .timerCapture n stamp => Sys2Proof.Machine.execTimerCapture n stamp s
  | .timerCmpvWrite p n v => Sys2Proof.Machine.execTimerCmpvWrite p n v s
  | .timerCapall p => Sys2Proof.Machine.execTimerCapall p s
  | .tmrFault n => Sys2Proof.Machine.execTmrFault n s
  | .sealSealed p n v => Sys2Proof.Machine.execSealSealed p n v s
  | .sealAddWrite p n v => Sys2Proof.Machine.execSealAddWrite p n v s
  | .sealIncrementAdd x => Sys2Proof.Machine.execSealIncrementAdd x s
  | .sealReport p => Sys2Proof.Machine.execSealReport p s
  | .sealReportDone => Sys2Proof.Machine.execSealReportDone s
  | .sealBurn p v => Sys2Proof.Machine.execSealBurn p v s
  | .portTrain r => Sys2Proof.Machine.execPortTrain r s
  | .portHello r => Sys2Proof.Machine.execPortHello r s
  | .portUp r => Sys2Proof.Machine.execPortUp r s
  | .portSilence r => Sys2Proof.Machine.execPortSilence r s
  | .portCodeErrors r => Sys2Proof.Machine.execPortCodeErrors r s
  | .helloSend r => Sys2Proof.Machine.execHelloSend r s
  | .helloReceive r seq id idv bench rank serial => Sys2Proof.Machine.execHelloReceive r seq id idv bench rank serial s
  | .msgReceive r seq vc dst src dwork swork type lun pay => Sys2Proof.Machine.execMsgReceive r seq vc dst src dwork swork type lun pay s
  | .beaconReceive r seq bs ts => Sys2Proof.Machine.execBeaconReceive r seq bs ts s
  | .asegReceive r seq bs => Sys2Proof.Machine.execAsegReceive r seq bs s
  | .dreqReceive r seq ts => Sys2Proof.Machine.execDreqReceive r seq ts s
  | .drspReceive r seq bs ts => Sys2Proof.Machine.execDrspReceive r seq bs ts s
  | .lrecReceive r seq bs => Sys2Proof.Machine.execLrecReceive r seq bs s
  | .ackReceive r seq => Sys2Proof.Machine.execAckReceive r seq s
  | .nakReceive r seq => Sys2Proof.Machine.execNakReceive r seq s
  | .creditAngle r n => Sys2Proof.Machine.execCreditAngle r n s
  | .creditBulk r n => Sys2Proof.Machine.execCreditBulk r n s
  | .controlSetRepeat r => Sys2Proof.Machine.execControlSetRepeat r s
  | .ackTimeout r => Sys2Proof.Machine.execAckTimeout r s
  | .frameForward r => Sys2Proof.Machine.execFrameForward r s
  | .lineupCommit => Sys2Proof.Machine.execLineupCommit s
  | .beaconSend => Sys2Proof.Machine.execBeaconSend s
  | .timeExchange => Sys2Proof.Machine.execTimeExchange s
  | .captainTimeout => Sys2Proof.Machine.execCaptainTimeout s
  | .holdoverExpire => Sys2Proof.Machine.execHoldoverExpire s
  | .fabLineupCmd p => Sys2Proof.Machine.execFabLineupCmd p s
  | .fabHandover p tgt => Sys2Proof.Machine.execFabHandover p tgt s
  | .handoverTimeout => Sys2Proof.Machine.execHandoverTimeout s
  | .fabDiffclr p => Sys2Proof.Machine.execFabDiffclr p s
  | .hostRead addr len crc link => Sys2Proof.Machine.execHostRead addr len crc link s
  | .hostReadf addr len crc link => Sys2Proof.Machine.execHostReadf addr len crc link s
  | .hostWrite addr len ws crc link => Sys2Proof.Machine.execHostWrite addr len ws crc link s
  | .hostWritef addr len ws crc link => Sys2Proof.Machine.execHostWritef addr len ws crc link s
  | .hostIntr crc => Sys2Proof.Machine.execHostIntr crc s
  | .hostBadOpcode op => Sys2Proof.Machine.execHostBadOpcode op s
  | .hostAbort => Sys2Proof.Machine.execHostAbort s
  | .mntWrite addr bs => Sys2Proof.Machine.execMntWrite addr bs s
  | .mntRead addr n => Sys2Proof.Machine.execMntRead addr n s
  | .mntByteAbandon unitAck => Sys2Proof.Machine.execMntByteAbandon unitAck s
  | .mntStretchTimeout => Sys2Proof.Machine.execMntStretchTimeout s
  | .mntSclTimeout => Sys2Proof.Machine.execMntSclTimeout s
  | .mntIndirectRead inc => Sys2Proof.Machine.execMntIndirectRead inc s
  | .mntIndirectWrite inc => Sys2Proof.Machine.execMntIndirectWrite inc s
  | .mntIndirectDone link => Sys2Proof.Machine.execMntIndirectDone link s
  | .alertResponse seen => Sys2Proof.Machine.execAlertResponse seen s
  | .astatClear v => Sys2Proof.Machine.execAstatClear v s
  | .testModeOpen key => Sys2Proof.Machine.execTestModeOpen key s
  | .collectorAccept => Sys2Proof.Machine.execCollectorAccept s
  | .shotClock => Sys2Proof.Machine.execShotClock s
  | .fltPop p => Sys2Proof.Machine.execFltPop p s
  | .fltSafe p => Sys2Proof.Machine.execFltSafe p s
  | .fltRelease p => Sys2Proof.Machine.execFltRelease p s
  | .fltAck p v => Sys2Proof.Machine.execFltAck p v s
  | .safeLine levels => Sys2Proof.Machine.execSafeLine levels s
  | .collFault => Sys2Proof.Machine.execCollFault s
  | .overSlot => Sys2Proof.Machine.execOverSlot s
  | .overEnd pass => Sys2Proof.Machine.execOverEnd pass s
  | .overOverrun => Sys2Proof.Machine.execOverOverrun s
  | .bistDeferTimeout => Sys2Proof.Machine.execBistDeferTimeout s
  | .inningsStart => Sys2Proof.Machine.execInningsStart s
  | .bistCmd p u => Sys2Proof.Machine.execBistCmd p u s
  | .fiResidue p => Sys2Proof.Machine.execFiResidue p s
  | .fiBitFlip p => Sys2Proof.Machine.execFiBitFlip p s
  | .fiDoubleFlip p => Sys2Proof.Machine.execFiDoubleFlip p s
  | .fiDdlCrc p => Sys2Proof.Machine.execFiDdlCrc p s
  | .fiMdlCrc p => Sys2Proof.Machine.execFiMdlCrc p s
  | .fiDdlSilence p => Sys2Proof.Machine.execFiDdlSilence p s
  | .fiOverFail p => Sys2Proof.Machine.execFiOverFail p s
  | .fiEchoMismatch p => Sys2Proof.Machine.execFiEchoMismatch p s
  | .fiMessage p => Sys2Proof.Machine.execFiMessage p s
  | .timerIncrement n => Sys2Proof.Machine.execTimerIncrement n s
  | .vbatGood => Sys2Proof.Machine.execVbatGood s
  | .vioBankGood b => Sys2Proof.Machine.execVioBankGood b s
  | .captureSample b v => Sys2Proof.Machine.execCaptureSample b v s
  | .tchopminExpire n => Sys2Proof.Machine.execTchopminExpire n s
  | .frameReceiveBad r => Sys2Proof.Machine.execFrameReceiveBad r s
  | .ownNodeMessage w vc => Sys2Proof.Machine.execOwnNodeMessage w vc s
  | .initmbAdvance => Sys2Proof.Machine.execInitmbAdvance s
  | .wReservedOpcode c w => Sys2Proof.Machine.execWReservedOpcode c w s
  | .jigReservedOpcode e w => Sys2Proof.Machine.execJigReservedOpcode e w s

end Sys2Proof.Machine
end

