-- ==== Sys2Proof/Machine/Clock.lean ====
section
/-! DEFINITION. What a clock tick does when no command waits. -/

namespace Sys2Proof.Machine

/-- One tick: one TCLK while TCLK runs, otherwise one SCLK edge while the always-on domain is supplied (R446; log entry 1). -/
def State.idle (s : State) : State :=
  let t := if s.clocked then (s.advanceTo (s.now + 1)).caughtUp else if s.sys.vbkup then s.sclkEdges 1 else s
  t.settle

end Sys2Proof.Machine
end

