-- ==== Sys2Proof/Machine/Words.lean ====
section
/-! DEFINITION. The commands that stored instruction words spell: the Walend formats and opcodes of R179 and R184, and the jig words
of R302. A stored program runs by these commands (log entry 4). -/

namespace Sys2Proof.Machine

/-- What an instruction meets outside its word: an error of the word it reads, the stall and the failure of its link, the levels of
the jig pins, the bits a shift takes in. -/
structure Meets where
  ecc : Fin 3 := 0
  stall : Nat := 0
  link : Bool := false
  pins : BitVec 8 := 0
  bits : BitVec 32 := 0
  deriving DecidableEq, Repr

/-- The four bits of a word from a place on: a register number or a condition (R179). -/
def nibble (w : Word) (lo : Nat) : Fin 16 := ⟨fld w (lo + 3) lo % 16, Nat.mod_lt _ (by decide)⟩

/-- The two bits of a word from a place on. -/
def crumb (w : Word) (lo : Nat) : Fin 4 := ⟨fld w (lo + 1) lo % 4, Nat.mod_lt _ (by decide)⟩

/-- The figure number of RDFIG (R202). -/
def figField (w : Word) : Fin 32 := ⟨fld w 17 13 % 32, Nat.mod_lt _ (by decide)⟩

/-- The immediate or offset of a word, and the target of a jump (R179). -/
def immField (w : Word) : BitVec 16 := w.setWidth 16
def targetField (w : Word) : BitVec 12 := w.setWidth 12

/-- The command of an opcode, for a word whose fields are sound; none for an opcode that R184 reserves. -/
def opcodeCommand (c : Fin 9) (w : Word) (x : Meets) : Option Instr :=
  let d := nibble w 22
  let s := nibble w 18
  let t := nibble w 14
  let imm := immField w
  match fld w 31 26 with
  | 0x00 => some (if bit w 0 then .wDonew c s else .wDone c)
  | 0x01 => some (.wNop c)
  | 0x02 => some (.wTrap c imm)
  | 0x03 => some (.wBcond c d imm)
  | 0x04 => some (.wJmp c (targetField w))
  | 0x05 => some (.wJal c d (targetField w))
  | 0x06 => some (.wJr c s)
  | 0x07 => some (.wMff c d)
  | 0x08 => some (.wLdi c d imm)
  | 0x09 => some (.wLdhi c d imm)
  | 0x0A => some (.wMov c d s)
  | 0x0B => some (.wLd c d s (bit w 17) imm x.ecc)
  | 0x0C => some (.wSt c d s (bit w 17) imm)
  | 0x0D => some (.wLdx c d s (bit w 17) imm x.stall x.link)
  | 0x0E => some (.wStx c d s (bit w 17) imm x.stall x.link)
  | 0x10 => some (.wAdd c d s t)
  | 0x11 => some (.wSub c d s t)
  | 0x12 => some (.wAnd c d s t)
  | 0x13 => some (.wOr c d s t)
  | 0x14 => some (.wXor c d s t)
  | 0x15 => some (.wShl c d s t)
  | 0x16 => some (.wShr c d s t)
  | 0x17 => some (.wAsr c d s t)
  | 0x18 => some (.wMin c d s t)
  | 0x19 => some (.wMax c d s t)
  | 0x1A => some (.wCmp c s t)
  | 0x1B => some (.wMul c d s t)
  | 0x1C => some (.wMulh c d s t)
  | 0x1D => some (.wDivu c d s t)
  | 0x1E => some (.wDivs c d s t)
  | 0x20 => some (.wAddi c d s imm)
  | 0x21 => some (.wCmpi c s imm)
  | 0x22 => some (.wAndi c d s imm)
  | 0x23 => some (.wOri c d s imm)
  | 0x24 => some (.wXori c d s imm)
  | 0x25 => some (.wShli c d s imm)
  | 0x26 => some (.wShri c d s imm)
  | 0x27 => some (.wAsri c d s imm)
  | 0x28 => some (.wMini c d s imm)
  | 0x29 => some (.wMaxi c d s imm)
  | 0x2A => some (.wRdfig c d s (figField w) (bit w 12))
  | 0x2B => some (.wRdres c d s (bit w 12))
  | 0x2C => some (.wSend c d s (crumb w 16))
  | 0x2D => some (.wFabrd c d (crumb w 16))
  | 0x2E => (match (crumb w 16).val with
      | 0 => some (.wCueset c s)
      | 1 => some (.wCueclr c s)
      | _ => some (.wCuewr c s))
  | 0x30 => some (.wMova c d s)
  | 0x31 => some (.wAdda c d s t)
  | 0x32 => some (.wSuba c d s t)
  | 0x33 => some (.wDifa c d s t)
  | 0x34 => some (.wGeta c d)
  | 0x35 => some (.wMovg c d s)
  | 0x36 => some (.wAddai c d s imm)
  | 0x37 => some (.wSetac c d s (bit w 17) (bit w 16))
  | 0x38 => some (.wClrac c d)
  | 0x39 => some (.wArm c d s t (crumb w 12))
  | 0x3A => some (.wReaim c d s t (crumb w 12) (bit w 11))
  | 0x3B => some (.wCancel c d)
  | 0x3C => some (.wQuery c d s)
  | 0x3D => some (.wOvfc c d)
  | _ => none

/-- The command that a word of instruction SRAM spells on a core (R179, R184). None for a word that R180 makes illegal: the core meets
the row of reserved opcodes with that word. -/
def walendCommand (c : Fin 9) (w : Word) (x : Meets) : Option Instr := if reservedWord w then none else opcodeCommand c w x

/-- The command that a program word spells on a jig engine; its fields, sound or not, go with
it. None for an opcode that R302 reserves: the engine meets the row of reserved opcodes with that word (R311). -/
def jigCommand (e : Fin 8) (w : Word) (x : Meets) : Option Instr :=
  let a : BitVec 10 := (w >>> 16).setWidth 10
  let imm := immField w
  match fld w 31 26 with
  | 0x00 => some (.jigNop e a imm)
  | 0x01 => some (.jigIdle e a imm)
  | 0x02 => some (.jigPins e a imm)
  | 0x03 => some (.jigDirs e a imm)
  | 0x04 => some (.jigWaitl e a imm x.pins)
  | 0x05 => some (.jigWaite e a imm)
  | 0x06 => some (.jigWaitg e a imm)
  | 0x07 => some (.jigShin e a imm x.bits)
  | 0x08 => some (.jigShout e a imm)
  | 0x09 => some (.jigPush e a imm)
  | 0x0A => some (.jigPull e a imm)
  | 0x0B => some (.jigMov e a imm x.pins)
  | 0x0C => some (.jigMovi e a imm)
  | 0x0D => some (.jigAddi e a imm)
  | 0x0E => some (.jigSub e a imm x.pins)
  | 0x0F => some (.jigTest e a imm)
  | 0x10 => some (.jigBr e a imm x.pins)
  | 0x11 => some (.jigLoop e a imm)
  | 0x12 => some (.jigRecip e a imm)
  | 0x13 => some (.jigMulq e a imm)
  | 0x14 => some (.jigSig e a imm)
  | 0x15 => some (.jigYield e a imm)
  | _ => none

/-- The word at the PC of a core that runs a handler (R155, R164). -/
def State.coreWord (s : State) (c : Fin 9) : Option Word :=
  if s.coreOn c then s.clu[c].work.map fun w => s.word (instrBase w + 4 * (s.clu[c].pc % 4096)) else none

/-- The word at the PC of a jig engine that stands at an instruction (R301). -/
def State.jigWord (s : State) (e : Fin 8) : Option Word :=
  let g := s.jig[e]
  if g.ready then some (g.prog g.bank g.pc) else none

end Sys2Proof.Machine
end

