-- ==== Sys2Proof/Machine/Program.lean ====
section
/-! DEFINITION. What the block does while no command waits: a core or a jig engine whose next instruction begins runs the command that
its stored word spells (R155, R179, R184, R301, R302); else one tick of the clock passes (log entries 1 and 4). -/

namespace Sys2Proof.Machine

/-- The TCLK in which a core that runs a handler begins its next instruction (R164, R181). -/
def State.coreBegins (s : State) (c : Fin 9) : Option Nat :=
  if s.coreOn c then s.clu[c].run.map fun r => r.start + r.spent else none

/-- The core whose next instruction begins first, now or before; of two the lower number. -/
def State.coreDue (s : State) : Option (Fin 9) :=
  let due := (List.finRange 9).filterMap fun c =>
    match s.coreBegins c with
    | some b => if b ≤ s.now then some (b, c) else none
    | none => none
  due.foldl (fun (m : Option (Nat × Fin 9)) e => match m with
    | some x => if e.1 < x.1 then some e else some x
    | none => some e) none |>.map (·.2)

/-- The first jig engine that stands at an instruction and whose next tick is not ahead (R298, R301). -/
def State.jigDue (s : State) : Option (Fin 8) :=
  (List.finRange 8).find? fun e =>
    let g := s.jig[e]
    g.ready && decide (g.tickAt (max g.tick (g.tickFrom s.svclk)) ≤ s.svclk)

/-- What a stored instruction meets: no wait and no failed transfer at its access; the levels at the jig balls and the bits that come in
lie outside the device and are free values (log entry 4). -/
def State.meets (s : State) : Meets := { pins := s.freeW.setWidth 8, bits := s.freeW }

/-- The instruction that a core's word spells, or the reserved word (R180). -/
def State.runCore (s : State) (c : Fin 9) (w : Word) : Out :=
  match walendCommand c w s.meets with
  | some i => exec i s.useFree
  | none => execWReservedOpcode c w s.useFree

/-- The instruction that an engine's word spells, or the reserved word (R311). -/
def State.runJig (s : State) (e : Fin 8) (w : Word) : Out :=
  match jigCommand e w s.meets with
  | some i => exec i s.useFree
  | none => execJigReservedOpcode e w s.useFree

/-- No command waits. -/
def State.runOn (s : State) : Out :=
  match s.coreDue, s.jigDue with
  | some c, _ => (match s.coreWord c with
    | some w => s.runCore c w
    | none => .next s.idle)
  | none, some e => (match s.jigWord e with
    | some w => s.runJig e w
    | none => .next s.idle)
  | none, none => .next s.idle

end Sys2Proof.Machine
end

