-- ==== Sys2Proof/Safety.lean ====
section
/-! DEFINITION. What counts as a safe package, and the words in which the statements are made: what a core that runs an
instruction looks like, when a port's access is taken, and the answer it gets. -/

namespace Sys2Proof.Machine

/-! ### Safety of the outputs -/

/-- Every switch of every drive is off: LS, HSB, HSV, the ignition gates and the boost switches (R214, R422). -/
def Pins.quiet (p : Pins) : Bool :=
  decide (p.ls = 0) && decide (p.hsb = 0) && decide (p.hsv = 0) && decide (p.ign = 0) && decide (p.bst = 0)

/-- The balls show what the state determines. -/
abbrev State.settled (s : State) : Prop := s.pins = s.pinsOf

/-- The package is safe: its balls are settled; no drive is on where the driver die must drive nothing, and none of a channel or an
ignition output that is held; and a safe line that the collector asserts shows at its ball. -/
abbrev State.Safe (s : State) : Prop :=
  s.settled
  ∧ (s.drvOff = true → s.pins.quiet = true)
  ∧ (∀ c : Fin 32, s.chHeld c = true → s.pins.ls.getLsbD c.val = false)
  ∧ (∀ n : Fin 24, s.ignHeld n = true → s.pins.ign.getLsbD n.val = false)
  ∧ s.pins.safeA = s.coll.lineA ∧ s.pins.safeB = s.coll.lineB

/-! ### A core that runs an instruction (R155, R169, R182, R183) -/

/-- Cluster c runs handler run r, its budget is not used up, no injected residue waits for its next result, and its
instruction word is good and is not the last word of the instruction SRAM. -/
abbrev State.Running (s : State) (c : Fin 9) (r : Run) : Prop :=
  s.coreOn c = true ∧ s.clu[c].run = some r ∧ r.spent < s.hbudget c ∧ srcC 0 c.val 0xF ∉ s.inj.residue ∧ s.clu[c].pc < 4095
  ∧ s.fetch c = (s, true)

/-- The state in the last TCLK of an instruction of n TCLK of run r (R181). -/
def State.atEnd (s : State) (r : Run) (n : Nat) : State := s.advanceTo (r.lastTick n)

/-- The run r of cluster c with n TCLK more, its PC at pc and its core otherwise as k. -/
def State.ranTo (s : State) (c : Fin 9) (r : Run) (n pc : Nat) (k : Cluster) : State :=
  { s.atEnd r n with clu := s.clu.set c.val { k with pc := pc, run := some { r with spent := r.spent + n } } c.isLt }

/-- The same with the PC at the next instruction. -/
def State.ran (s : State) (c : Fin 9) (r : Run) (n : Nat) (k : Cluster) : State := s.ranTo c r n (s.clu[c].pc + 1) k

/-! ### Accesses by a port (R384, R397, R410, R425) -/

/-- A port's write is taken: TCLK runs, the device is not in LOCKOUT, the maintenance port may write, and no earlier access waits for the
driver die's answer to a release (R390, R423). -/
abbrev State.Writable (s : State) (p : Fin 2) : Prop :=
  s.clocked = true ∧ s.sys.st ≠ .lockout ∧ (p = 1 → s.mntMay true = true) ∧ s.coll.relWait = none

/-- The node's ID is the one its last record names and no bench is left, so that its fabric follows a change of the device state with no
comparison of records (R351, R352); or the fabric is disabled. -/
abbrev State.FabSteady (s : State) : Prop :=
  s.fabEn = false ∨ (s.fab.bench = false ∧ s.fab.issued % 32 = s.nodeId % 32)

/-- A port's read is taken. -/
abbrev State.Readable (s : State) (p : Fin 2) : Prop := s.clocked = true ∧ (p = 1 → s.mntMay false = true) ∧ s.coll.relWait = none

/-- The status that a port's last access ended with. -/
def State.answer (s : State) (p : Fin 2) : Status := if p = 0 then s.host.status else s.mnt.istat

/-- The port's answer to a write of one word; the maintenance port's access that waits for the driver die stays open (R423). -/
def State.answered (s : State) (p : Fin 2) (st : Status) : State :=
  if p = 0 then { s with host := ⟨st, [], 0⟩ }
  else if st = .waiting then s
  else { s with mnt := { s.mnt with istat := st } }

/-- A port or a core has written a register that keeps no value: the word stands, freshly written. -/
def State.touched (s : State) (r : RegRow) (i : Nat) : State := (s.setRg r i 0 (s.rg r i)).unflip (r.addr i 0)

/-! ### Messages (R411, R415) -/

/-- Where its source has an ordinary place free, a message of this class, kind, SOURCE and context waits for acceptance in t, emitted
between s and t. -/
abbrev State.Emits (s t : State) (cls kind src ctx : Nat) : Prop :=
  (s.coll.outbox.filter (·.src = src)).length < 4 →
    ∃ m ∈ t.coll.outbox, m.cls = cls ∧ m.kind = kind ∧ m.src = src ∧ m.ctx = BitVec.ofNat 32 ctx ∧ s.now ≤ m.at_ ∧ m.at_ ≤ t.now

end Sys2Proof.Machine
end

