-- ==== Sys2Proof/Certificates/Slice0/Obligations.lean ====
section
/-! DEFINITION. The statements for the provers: what the commands of the block do, by the numbered rules of spec/. Every statement
whose conclusion is `exec … = .next …` also says that the command completes there. -/

open Sys2Proof Sys2Proof.Machine

/-- A step takes the command at the front of the queue and runs it on the state with the queue's rest. -/
def Obligations.StepRunsFrontCommand : Prop :=
  ∀ (s : State) (i : Instr) (rest : List Instr), s.pending = i :: rest → step s = exec i { s with pending := rest }

/-- With no command waiting the block runs its stored programs (the model's choice, log entries 1 and 4): the core whose next
instruction has begun runs the command that the word at its PC spells, or raises what a reserved word raises; else the jig engine that
stands at an instruction and whose tick has come does. Where neither is due, one TCLK passes while TCLK runs, and where that TCLK brings
nothing due nothing changes but the clock counts, the always-on writes that an SCLK edge takes, and the balls (R155, R179, R184, R302,
R446, R463). -/
def Obligations.EmptyQueueIdles : Prop :=
  (∀ s : State, s.pending = [] → ∃ t, step s = .next t ∧ t.settled)
  ∧ (∀ (s : State) (c : Fin 9) (w : Word), s.pending = [] → s.coreDue = some c → s.coreWord c = some w →
    (∃ r, s.coreOn c = true ∧ s.clu[c].run = some r ∧ r.start + r.spent ≤ s.now)
    ∧ (∀ i ∈ walendCommand c w s.meets, step s = exec i s.useFree)
    ∧ (walendCommand c w s.meets = none → step s = exec (.wReservedOpcode c w) s.useFree))
  ∧ (∀ (s : State) (e : Fin 8) (w : Word), s.pending = [] → s.coreDue = none → s.jigDue = some e → s.jigWord e = some w →
    s.jig[e].ready = true
    ∧ (∀ i ∈ jigCommand e w s.meets, step s = exec i s.useFree)
    ∧ (jigCommand e w s.meets = none → step s = exec (.jigReservedOpcode e w) s.useFree))
  ∧ (∀ s : State, s.pending = [] → s.coreDue = none → s.jigDue = none → ∃ t, step s = .next t
    ∧ (s.clocked = false → t.now = s.now)
    ∧ ((s.clocked = true → (s.advanceTo (s.now + 1)).caughtUp = s.advanceTo (s.now + 1)) →
      (s.clocked = true → t.now = s.now + 1)
      ∧ t = { s with now := t.now, ao := t.ao, regs := t.regs, pins := t.pins }
      ∧ (s.ao.staged = [] → t.regs = s.regs)))

/-- Every command completes in every state, whether it has an effect there or none (the model's choice, log entry 3), and leaves every
ball at what the state determines. -/
def Obligations.EveryCommandCompletesSettled : Prop :=
  ∀ (i : Instr) (s : State), ∃ t, exec i s = .next t ∧ t.settled

/-- R18, R214, R246, R414, R422: whatever a step does, afterwards no drive is on while the driver die is in the safe actuation state,
sees a safe line, has lost its supply or is not clocked; no drive of a held channel or ignition output is on; and the safe lines show
what the collector asserts. -/
def Obligations.StepsKeepPackageSafe : Prop :=
  ∀ s t : State, s.Safe → step s = .next t → t.Safe

/-- R214, R422, R452: the state after reset is safe, with every switch off. -/
def Obligations.ResetIsSafe : Prop := State.reset.Safe ∧ State.reset.pins.quiet = true

/-- R27, R63, R112, R154, R177, R273, R315, R331, R382, R440, R452, R462: what reset leaves. That the machine stands in SELFTEST with
every supply good (log entry 10) and that no byte of memory is listed (log entry 14) are the model's choices. -/
def Obligations.ResetValues : Prop :=
  let s := State.reset
  s.sys.st = .selftest ∧ s.coll.safe = true ∧ s.coll.lineA = true ∧ s.coll.lineB = true ∧ s.drv.safe = true
  ∧ s.coll.fifo = [] ∧ s.coll.outbox = [] ∧ s.coll.kept = []
  ∧ s.whl.sync = .nosync ∧ s.whl.rev = false ∧ s.prd.act = false ∧ s.prd.seg = none
  ∧ (∀ c : Fin 8, s.clu[c.val].role = .stopped ∧ s.clu[c.val].work = some ⟨c.val, by omega⟩) ∧ s.clu[8].role = .spare
  ∧ (∀ c : Fin 9, s.clu[c].run = none ∧ s.clu[c].halt = false ∧ s.clu[c].cueEn = BitVec.allOnes 27)
  ∧ (∀ w : Fin 9, s.work[w].cueEn = BitVec.allOnes 27 ∧ s.work[w].cues = [] ∧ ∀ k : Fin 32, s.work[w].slots[k].st = .free)
  ∧ (∀ c : Fin 32, s.edg.ch[c].owner = 0xF ∧ s.drv.ch[c].shot = none) ∧ (∀ n : Fin 24, s.edg.ign[n].owner = 0xF)
  ∧ (∀ n : Fin 40, s.ms.owner[n] = 0xC) ∧ s.measRuns = true
  ∧ (∀ e : Fin 8, s.jig[e].owner = 0xC ∧ s.jig[e].run = false) ∧ (∀ n : Fin 16, s.tmr[n].owner = 0xC ∧ s.tmr[n].armed = false)
  ∧ (∀ r : Fin 3, s.fab.port[r].st = .down) ∧ s.trc.init = false ∧ s.mnt.istat = .ok ∧ s.mnt.aen = 3 ∧ s.bist.ov = none
  ∧ s.pending = [] ∧ s.mem = [] ∧ Memory.wf s.mem = true

/-- R190, R185: the arithmetic and logical instructions on two registers and on an immediate write their result, set the flags their
rows name, take 1 TCLK (MUL and MULH 2) and change nothing else. R190, R185: a shift by n mod 32 (an immediate below 32) sets C to the
last bit shifted out, 0 for n = 0, and V to 0; the frame is that of the other instructions on registers. -/
def Obligations.ArithmeticLogicAndShifts : Prop :=
  (∀ (s : State) (c : Fin 9) (r : Run) (d x y : Fin 16) (i : BitVec 16), s.Running c r →
    let k := s.clu[c]
    let a : Word := k.g[x]
    let b : Word := k.g[y]
    let m : Word := i.signExtend 32
    let u : Word := i.zeroExtend 32
    let put (w : Word) : Cluster := { k with g := k.g.set d.val w d.isLt, z := decide (w = 0), n := w.msb }
    let sum (v : Word) : Cluster := { put (a + v) with
      c := decide (2 ^ 32 ≤ a.toNat + v.toNat), v := decide ((a + v).toInt ≠ a.toInt + v.toInt) }
    let cmp (k : Cluster) (v : Word) : Cluster := { k with
      z := decide (a = v), n := (a - v).msb, c := decide (v.toNat ≤ a.toNat), v := decide ((a - v).toInt ≠ a.toInt - v.toInt) }
    let low (v : Word) : Word := if a.toInt ≤ v.toInt then a else v
    let high (v : Word) : Word := if a.toInt ≤ v.toInt then v else a
    exec (.wAdd c d x y) s = .next (s.ran c r 1 (sum b)).settle
    ∧ exec (.wAddi c d x i) s = .next (s.ran c r 1 (sum m)).settle
    ∧ exec (.wSub c d x y) s = .next (s.ran c r 1 (cmp (put (a - b)) b)).settle
    ∧ exec (.wCmp c x y) s = .next (s.ran c r 1 (cmp k b)).settle
    ∧ exec (.wCmpi c x i) s = .next (s.ran c r 1 (cmp k m)).settle
    ∧ exec (.wAnd c d x y) s = .next (s.ran c r 1 { put (a &&& b) with v := false }).settle
    ∧ exec (.wOr c d x y) s = .next (s.ran c r 1 { put (a ||| b) with v := false }).settle
    ∧ exec (.wXor c d x y) s = .next (s.ran c r 1 { put (a ^^^ b) with v := false }).settle
    ∧ exec (.wAndi c d x i) s = .next (s.ran c r 1 { put (a &&& u) with v := false }).settle
    ∧ exec (.wOri c d x i) s = .next (s.ran c r 1 { put (a ||| u) with v := false }).settle
    ∧ exec (.wXori c d x i) s = .next (s.ran c r 1 { put (a ^^^ u) with v := false }).settle
    ∧ exec (.wMin c d x y) s = .next (s.ran c r 1 (put (low b))).settle
    ∧ exec (.wMax c d x y) s = .next (s.ran c r 1 (put (high b))).settle
    ∧ exec (.wMini c d x i) s = .next (s.ran c r 1 (put (low m))).settle
    ∧ exec (.wMaxi c d x i) s = .next (s.ran c r 1 (put (high m))).settle
    ∧ exec (.wMul c d x y) s = .next (s.ran c r 2 { put (a * b) with v := decide ((a * b).toInt ≠ a.toInt * b.toInt) }).settle
    ∧ exec (.wMulh c d x y) s
        = .next (s.ran c r 2 { put (BitVec.ofInt 32 (a.toInt * b.toInt / 2 ^ 32)) with v := false }).settle)
  ∧ (∀ (s : State) (c : Fin 9) (r : Run) (d x y : Fin 16) (i : BitVec 16), s.Running c r →
    let k := s.clu[c]
    let a : Word := k.g[x]
    let n : Nat := (k.g[y] : Word).toNat % 32
    let put (w : Word) (out : Bool) : Cluster :=
      { k with g := k.g.set d.val w d.isLt, z := decide (w = 0), n := w.msb, c := out, v := false }
    let left (n : Nat) : Cluster := put (a <<< n) (decide (n ≠ 0) && a.getLsbD (32 - n))
    let right (n : Nat) : Cluster := put (a >>> n) (decide (n ≠ 0) && a.getLsbD (n - 1))
    let arith (n : Nat) : Cluster := put (a.sshiftRight n) (decide (n ≠ 0) && a.getLsbD (n - 1))
    exec (.wShl c d x y) s = .next (s.ran c r 1 (left n)).settle
    ∧ exec (.wShr c d x y) s = .next (s.ran c r 1 (right n)).settle
    ∧ exec (.wAsr c d x y) s = .next (s.ran c r 1 (arith n)).settle
    ∧ (i.toNat < 32 →
        exec (.wShli c d x i) s = .next (s.ran c r 1 (left i.toNat)).settle
        ∧ exec (.wShri c d x i) s = .next (s.ran c r 1 (right i.toNat)).settle
        ∧ exec (.wAsri c d x i) s = .next (s.ran c r 1 (arith i.toNat)).settle))

/-- R191: the quotients, and the special cases with V = 1; 18 TCLK. -/
def Obligations.Division : Prop :=
  ∀ (s : State) (c : Fin 9) (r : Run) (d x y : Fin 16), s.Running c r →
    let k := s.clu[c]
    let a : Word := k.g[x]
    let b : Word := k.g[y]
    let put (w : Word) (v : Bool) : Cluster :=
      { k with g := k.g.set d.val w d.isLt, z := decide (w = 0), n := w.msb, v := v }
    let done (k : Cluster) : Out := .next (s.ran c r 18 k).settle
    (b = 0 → exec (.wDivu c d x y) s = done (put 0xFFFFFFFF true))
    ∧ (b ≠ 0 → exec (.wDivu c d x y) s = done (put (BitVec.ofNat 32 (a.toNat / b.toNat)) false))
    ∧ (b = 0 → 0 ≤ a.toInt → exec (.wDivs c d x y) s = done (put 0x7FFFFFFF true))
    ∧ (b = 0 → a.toInt < 0 → exec (.wDivs c d x y) s = done (put 0x80000000 true))
    ∧ (a = 0x80000000 → b = 0xFFFFFFFF → exec (.wDivs c d x y) s = done (put 0x80000000 true))
    ∧ (b ≠ 0 → ¬(a = 0x80000000 ∧ b = 0xFFFFFFFF) →
        exec (.wDivs c d x y) s = done (put (BitVec.ofInt 32 (a.toInt.tdiv b.toInt)) false))

/-- R187, R188: NOP, the loads of constants, MOV and MFF; no flag changes. -/
def Obligations.MovesAndFlagRead : Prop :=
  ∀ (s : State) (c : Fin 9) (r : Run) (d x : Fin 16) (i : BitVec 16), s.Running c r →
    let k := s.clu[c]
    let old : Word := k.g[d]
    let put (w : Word) : Cluster := { k with g := k.g.set d.val w d.isLt }
    exec (.wNop c) s = .next (s.ran c r 1 k).settle
    ∧ exec (.wLdi c d i) s = .next (s.ran c r 1 (put (i.signExtend 32))).settle
    ∧ exec (.wLdhi c d i) s = .next (s.ran c r 1 (put (i ++ old.extractLsb' 0 16))).settle
    ∧ exec (.wMov c d x) s = .next (s.ran c r 1 (put k.g[x])).settle
    ∧ exec (.wMff c d) s = .next (s.ran c r 1 (put (BitVec.ofNat 32
        ((if k.z then 1 else 0) + (if k.n then 2 else 0) + (if k.c then 4 else 0) + (if k.v then 8 else 0)
          + (if k.w then 16 else 0))))).settle

/-- R158, R188: LD and ST of an aligned word of the data SRAM, by a register or by an absolute address. LD of a word whose check finds
an error that it corrects, in the command or by an injected flip, loads the corrected word and notes it as ECC_CE (R32, R412, R439). ST
writes the four bytes at its address and no other, but a host write of the same word in the same TCLK stands over it (R35); a misaligned
address, one above 1FFFh, or a store into the context block raises ADDR. -/
def Obligations.DataMemory : Prop :=
  ∀ (s : State) (c w : Fin 9) (r : Run) (d b : Fin 16) (i : BitVec 16), s.Running c r → s.clu[c].work = some w →
    let k := s.clu[c]
    let ofReg : Word := k.g[b] + i.signExtend 32
    let abs : Word := i.zeroExtend 32
    let cell (x : Word) : Nat := w.val * 0x10000 + 0x4000 + x.toNat
    let load (x : Word) : Out :=
      .next (s.ran c r 2 { k with g := k.g.set d.val (s.word (cell x)) d.isLt }).settle
    let store (x : Word) : Out := .next (((s.ran c r 1 k).setWord (cell x) k.g[d]).unflip (cell x)).settle
    let mine (x : Word) : Prop := (s.atEnd r 1).hwNow (cell x) = 0
    let addr (n : Nat) (x : Word) : Out := .next ((s.ranTo c r n k.pc k).coreExc c 2 k.pc (some x)).settle
    let whole (x : Word) : Prop := ∀ f ∈ s.inj.flips, f.1 ≠ cell x
    let mended (x : Word) : Out := .next (((s.ranTo c r 2 k.pc k).emit 0 Kind.eccCe (srcC 0 w.val 0xF) (x.toNat / 4)).setClu c fun q =>
      { q with g := k.g.set d.val (s.word (cell x)) d.isLt, pc := k.pc + 1 }).settle
    let wrong (x : Word) (top : Nat) : Prop := x.toNat % 4 ≠ 0 ∨ top ≤ x.toNat
    (ofReg.toNat % 4 = 0 → ofReg.toNat ≤ 0x1FFF → whole ofReg → exec (.wLd c d b false i 0) s = load ofReg)
    ∧ (abs.toNat % 4 = 0 → abs.toNat ≤ 0x1FFF → whole abs → exec (.wLd c d 0 true i 0) s = load abs)
    ∧ (ofReg.toNat % 4 = 0 → ofReg.toNat < 0x1F80 → mine ofReg → exec (.wSt c d b false i) s = store ofReg)
    ∧ (abs.toNat % 4 = 0 → abs.toNat < 0x1F80 → mine abs → exec (.wSt c d 0 true i) s = store abs)
    ∧ (ofReg.toNat % 4 = 0 → ofReg.toNat < 0x1F80 → ¬mine ofReg → exec (.wSt c d b false i) s = .next (s.ran c r 1 k).settle)
    ∧ (abs.toNat % 4 = 0 → abs.toNat < 0x1F80 → ¬mine abs → exec (.wSt c d 0 true i) s = .next (s.ran c r 1 k).settle)
    ∧ (ofReg.toNat % 4 = 0 → ofReg.toNat ≤ 0x1FFF →
        (whole ofReg → exec (.wLd c d b false i 1) s = mended ofReg)
        ∧ (s.inj.flips.find? (·.1 = cell ofReg) = some (cell ofReg, 1) → exec (.wLd c d b false i 0) s = mended ofReg))
    ∧ (abs.toNat % 4 = 0 → abs.toNat ≤ 0x1FFF →
        (whole abs → exec (.wLd c d 0 true i 1) s = mended abs)
        ∧ (s.inj.flips.find? (·.1 = cell abs) = some (cell abs, 1) → exec (.wLd c d 0 true i 0) s = mended abs))
    ∧ (wrong ofReg 0x2000 → exec (.wLd c d b false i 0) s = addr 2 ofReg)
    ∧ (wrong abs 0x2000 → exec (.wLd c d 0 true i 0) s = addr 2 abs)
    ∧ (wrong ofReg 0x1F80 → exec (.wSt c d b false i) s = addr 1 ofReg)
    ∧ (wrong abs 0x1F80 → exec (.wSt c d 0 true i) s = addr 1 abs)
    ∧ (ofReg.toNat % 4 = 0 → ofReg.toNat < 0x1F80 → mine ofReg → ∃ t, exec (.wSt c d b false i) s = .next t ∧
        t.word (cell ofReg) = k.g[d] ∧ (Memory.wf s.mem = true → Memory.wf t.mem = true) ∧ ∀ a, a < cell ofReg ∨ cell ofReg + 4 ≤ a → t.byte a = s.byte a)

/-- R186, R187: the branches and jumps. A branch is taken on its condition; a target outside the instruction SRAM raises ILLEGAL whether
or not the branch would be taken. -/
def Obligations.BranchesAndJumps : Prop :=
  ∀ (s : State) (c : Fin 9) (r : Run) (d x : Fin 16) (q : Fin 16) (o : BitVec 16) (j : BitVec 12), s.Running c r →
    let k := s.clu[c]
    let taken : Bool := match q with
      | 0 => k.z | 1 => !k.z | 2 => k.c | 3 => !k.c | 4 => k.n | 5 => !k.n | 6 => k.v | 7 => !k.v
      | 8 => k.c && !k.z | 9 => !k.c || k.z | 10 => k.n == k.v | 11 => k.n != k.v
      | 12 => !k.z && k.n == k.v | 13 => k.z || k.n != k.v | 14 => k.w | _ => true
    let tgt : Int := k.pc + 1 + o.toInt
    (0 ≤ tgt → tgt ≤ 4095 → taken = true → exec (.wBcond c q o) s = .next (s.ranTo c r 2 tgt.toNat k).settle)
    ∧ (0 ≤ tgt → tgt ≤ 4095 → taken = false → exec (.wBcond c q o) s = .next (s.ran c r 1 k).settle)
    ∧ (tgt < 0 ∨ 4095 < tgt →
        exec (.wBcond c q o) s = .next ((s.ranTo c r (if taken then 2 else 1) k.pc k).coreExc c 1 k.pc none).settle)
    ∧ exec (.wJmp c j) s = .next (s.ranTo c r 2 j.toNat k).settle
    ∧ exec (.wJal c d j) s
        = .next (s.ranTo c r 2 j.toNat { k with g := k.g.set d.val (BitVec.ofNat 32 (k.pc + 1)) d.isLt }).settle
    ∧ ((k.g[x] : Word).toNat < 4096 → exec (.wJr c x) s = .next (s.ranTo c r 2 (k.g[x] : Word).toNat k).settle)
    ∧ (4096 ≤ (k.g[x] : Word).toNat → exec (.wJr c x) s = .next ((s.ranTo c r 2 k.pc k).coreExc c 1 k.pc none).settle)

/-- R168, R187: DONE writes g0 to g7, a0 to a5, the sequence counter and DONES into the context block, counts DONES, clears the run log
and ends the run; DONEW sets CUE_EN as well, with START never masked, unless the host writes it in the same TCLK (R178). -/
def Obligations.HandlerEnds : Prop :=
  ∀ (s : State) (c w : Fin 9) (r : Run) (x : Fin 16), s.Running c r → s.clu[c].work = some w → s.clu[c].stopReq = false →
    let k := s.clu[c]
    let n : Nat := (k.dones + 1) % 65536
    let base : Nat := w.val * 0x10000 + 0x4000
    let u : State := s.atEnd r 16
    let words : State := ((u.setWords (base + 0x1F80) (k.g.toList.take 8)).setWords (base + 0x1FA0)
      ((k.a.toList.take 6).map fun a => BitVec.ofNat 32 a.toNat)).setWords (base + 0x1FB8)
      [BitVec.ofNat 32 (s.work[w].seq % 4096), BitVec.ofNat 32 (n % 65536)]
    let saved : State := (List.range 16).foldl (fun t i => t.unflip (base + 0x1F80 + 4 * i)) words
    let ended (en : BitVec 27) : State := { saved with
      clu := s.clu.set c.val { k with dones := n, run := none, idleAt := u.now } c.isLt,
      work := s.work.set w.val { s.work[w] with runLog := [], cueEn := en } w.isLt }
    exec (.wDone c) s = .next (ended s.work[w].cueEn).settle
    ∧ exec (.wDonew c x) s = .next (ended (if u.hwNow (Reg.cluCueEn.addr c.val 0) = 0
        then BitVec.ofNat 27 ((k.g[x] : Word).toNat ||| 1) else s.work[w].cueEn)).settle

/-- R172, R173: outside the exception handler a program exception counts the run as ended, saves its cause, PC and address, emits
CORE_EXC and starts the handler at vector 31 with the registers of R167. TRAP raises cause 6 with its immediate in CLU_EADDR, a reserved
word cause 1, a run that has used its budget cause 5. R183: so does the instruction at word 4095 that does not move the PC elsewhere,
with EPC = FFFh and its own effect made. R173: an exception inside the exception handler, whatever its cause, halts the core: its cause,
PC and address are saved, the run is over, HALT is set, CORE_EXC and CORE_HALT are emitted, nothing else of the core changes, and the
work is held. That an exception clears the run log and the armed list, and that its handler is dispatched in the next TCLK, so that a7
holds the angle of now + 1, are the model's choices (log entry 88). -/
def Obligations.ProgramExceptionsAndHalts : Prop :=
  (∀ (s : State) (c : Fin 9) (r : Run) (i : BitVec 16) (v : BitVec 32) (d : Fin 16), s.coreOn c = true → s.clu[c].run = some r →
    r.spent < s.hbudget c → srcC 0 c.val 0xF ∉ s.inj.residue → s.fetch c = (s, true) → r.exc = false → s.clu[c].pc ≤ 4095 →
    let k := s.clu[c]
    let taken (k : Cluster) (s : State) (cause : Nat) (addr : Word) : State :=
      let u : State := (s.bump Reg.cluExc c 23 16).emit 1 Kind.coreExc (srcC 0 c.val 0xF) (cause + k.pc % 4096 * 16)
      let g := ((((((((k.g.set 8 0).set 9 0).set 10 0).set 11 0).set 12 addr).set 13 31).set 14
        (BitVec.ofNat 32 (cause + k.pc % 4096 * 16))).set 15 (BitVec.ofNat 32 s.now))
      -- s stands in the abandoned instruction's last TCLK; the handler's first instruction begins in the next one
      { u with
        work := match k.work with
          | some w => s.work.set w.val { s.work[w] with runLog := [], armed := [] } w.isLt
          | none => s.work
        clu := s.clu.set c.val { k with
          cause := cause, epc := k.pc, eaddr := addr, dones := (k.dones + 1) % 65536, g := g,
          a := (k.a.set 6 0).set 7 (BitVec.ofNat 24 ((u.angAt (s.now + 1)).getD 0)), z := false, n := false, c := false,
          v := (u.angAt (s.now + 1)).isNone, w := false, pc := 31,
          run := some ⟨⟨31, 0, 0, s.now, s.now, []⟩, false, true, s.now + 1, 0⟩ } c.isLt }
    exec (.wTrap c i) s = .next (taken k (s.atEnd r 1) 6 (i.zeroExtend 32)).settle
    ∧ (reservedWord v = true → exec (.wReservedOpcode c v) s = .next (taken k (s.atEnd r 1) 1 k.eaddr).settle)
    ∧ (∀ s', s' = s.ranTo c r (s.hbudget c) k.pc k →
        exec (.budget c) s' = .next (taken k (s'.atEnd { r with spent := r.spent + s.hbudget c } 1) 5 k.eaddr).settle)
    ∧ (k.pc = 4095 →
      exec (.wNop c) s = .next (taken k (s.atEnd r 1) 1 k.eaddr).settle
      ∧ exec (.wLdi c d i) s = .next (taken { k with g := k.g.set d.val (i.signExtend 32) d.isLt } (s.atEnd r 1) 1 k.eaddr).settle))
  ∧ (∀ (s : State) (c w : Fin 9) (r : Run) (i : BitVec 16) (v : BitVec 32) (d b : Fin 16), s.Running c r → s.clu[c].work = some w →
    r.exc = true →
    let k := s.clu[c]
    let src : Nat := srcC 0 c.val 0xF
    let off : Word := k.g[b] + i.signExtend 32
    let halts (o : Out) (cause : Nat) (addr : Word) : Prop := ∃ t, o = .next t
      ∧ t.clu = s.clu.set c.val { k with
          cause := cause, epc := k.pc, eaddr := addr, dones := (k.dones + 1) % 65536, run := none, halt := true } c.isLt
      ∧ t.rf Reg.cluExc c.val 23 16 = min 255 (s.rf Reg.cluExc c.val 23 16 + 1)
      ∧ ((s.coll.outbox.filter (·.src = src)).length < 3 →
        s.Emits t 1 Kind.coreExc src (cause + k.pc % 4096 * 16) ∧ s.Emits t 2 Kind.coreHalt src 0)
      ∧ t.work[w].held = true
      ∧ (∀ x : Fin 9, t.work[x].comps = s.work[x].comps ∧ t.work[x].cueEn = s.work[x].cueEn ∧ t.work[x].seq = s.work[x].seq)
      ∧ t = { s with
          now := t.now, ao := t.ao, regs := t.regs, coll := t.coll, clu := t.clu, work := t.work, edg := t.edg, drv := t.drv,
          trc := t.trc, links := t.links, mnt := t.mnt, hwSet := t.hwSet, pins := t.pins }
    halts (exec (.wTrap c i) s) 6 (i.zeroExtend 32)
    ∧ (reservedWord v = true → halts (exec (.wReservedOpcode c v) s) 1 k.eaddr)
    ∧ (4096 ≤ (k.g[b] : Word).toNat → halts (exec (.wJr c b) s) 1 k.eaddr)
    ∧ (off.toNat % 4 ≠ 0 ∨ 0x1FFF < off.toNat → halts (exec (.wLd c d b false i 0) s) 2 off)
    ∧ (off.toNat % 4 ≠ 0 ∨ 0x1F80 ≤ off.toNat → halts (exec (.wSt c d b false i) s) 2 off)
    ∧ (off.toNat % 4 ≠ 0 → halts (exec (.wLdx c d b false i 0 false) s) 2 off ∧ halts (exec (.wStx c d b false i 0 false) s) 2 off)
    ∧ (∀ n : Fin 16, off.toNat = Reg.tmrCmpv.addr n.val 0 → s.tmr[n].owner ≠ c.val → halts (exec (.wStx c d b false i 0 false) s) 3 off)
    ∧ (∀ s', s' = { s with clu := s.clu.set c.val { k with run := some { r with spent := s.hbudget c } } c.isLt } →
      ∃ t, exec (.budget c) s' = .next t
        ∧ t.clu = s.clu.set c.val { k with
          cause := 5, epc := k.pc, dones := (k.dones + 1) % 65536, run := none, halt := true } c.isLt
        ∧ t.work[w].held = true))

/-- R157, R192: the angle instructions, with C the cycle and a register that is not below C read reduced, which sets W. -/
def Obligations.AngleArithmetic : Prop :=
  ∀ (s : State) (c : Fin 9) (r : Run) (d x y : Fin 16) (i : BitVec 16), s.Running c r →
    let k := s.clu[c]
    let m : Nat := s.cycle
    let ang (x : Fin 16) : Nat := k.a[x.val % 8].toNat
    let putA (d : Fin 16) (v : Nat) (w : Bool) : Cluster :=
      { k with a := k.a.set (d.val % 8) (BitVec.ofNat 24 v) (by omega), w := w }
    let moved (d : Fin 16) (x : Fin 16) (y : Int) : Cluster :=
      let t : Int := ((ang x % m : Nat) : Int) + y
      putA d (t % m).toNat (decide (m ≤ ang x) || decide (t < 0 ∨ (m : Int) ≤ t))
    let gy : Word := k.g[y]
    let gx : Word := k.g[x]
    (d.val < 8 → exec (.wMova c d x) s = .next (s.ran c r 2 (putA d (gx.toNat % m) (decide (m ≤ gx.toNat)))).settle)
    ∧ (d.val < 8 → x.val < 8 → exec (.wAdda c d x y) s = .next (s.ran c r 2 (moved d x gy.toInt)).settle)
    ∧ (d.val < 8 → x.val < 8 → exec (.wSuba c d x y) s = .next (s.ran c r 2 (moved d x (-gy.toInt))).settle)
    ∧ (d.val < 8 → x.val < 8 → exec (.wAddai c d x i) s = .next (s.ran c r 2 (moved d x i.toInt)).settle)
    ∧ (d.val < 8 → exec (.wGeta c d) s
        = .next (s.ran c r 2 { putA d ((s.atEnd r 2).angNow.getD 0) false with v := (s.atEnd r 2).angNow.isNone }).settle)
    ∧ (x.val < 8 → exec (.wMovg c d x) s
        = .next (s.ran c r 2 { k with g := k.g.set d.val (BitVec.ofNat 32 (ang x % m)) d.isLt }).settle)
    ∧ (x.val < 8 → y.val < 8 → ∃ z : Int, -(m : Int) ≤ 2 * z ∧ 2 * z < m ∧ (∃ e : Int, z = ang x - ang y + e * m) ∧
        exec (.wDifa c d x y) s = .next (s.ran c r 2 { k with
          g := k.g.set d.val (BitVec.ofInt 32 z) d.isLt, z := decide (BitVec.ofInt 32 z = 0), n := (BitVec.ofInt 32 z).msb,
          w := decide (m ≤ ang x ∨ m ≤ ang y ∨ z ≠ ((ang x % m : Nat) : Int) - (ang y % m : Nat)) }).settle)

/-- R166, R178, R193: the cue-enable and comparator instructions change the work that the cluster carries, and no flag. START is never
masked. A host write of CUE_EN in the same TCLK stands over the core's change. SETAC and CLRAC remember the armed setting that they
replace or clear, and a crossing in their own TCLK is judged on it; CLRAC ends any wait. -/
def Obligations.CueEnablesAndComparators : Prop :=
  (∀ (s : State) (c w : Fin 9) (r : Run) (m x : Fin 16) (p q : Bool), s.Running c r → s.clu[c].work = some w →
    let k := s.clu[c]
    let e : BitVec 27 := s.work[w].cueEn
    let v : BitVec 27 := (k.g[x] : Word).setWidth 27
    let with_ (n : Nat) (x : Work) : Out := .next (({ s with work := s.work.set w.val x w.isLt } : State).ran c r n k).settle
    let comp (f : Comp) : Work := { s.work[w] with comps := s.work[w].comps.set m.val f m.isLt }
    let old := s.work[w].comps[m]
    let was : Option (Nat × Bool) := if old.arm then some (old.angle, old.prov) else none
    ((s.atEnd r 1).hwNow (Reg.cluCueEn.addr c.val 0) = 0 →
      exec (.wCueset c x) s = with_ 1 { s.work[w] with cueEn := e ||| v ||| 1 }
      ∧ exec (.wCueclr c x) s = with_ 1 { s.work[w] with cueEn := e &&& ~~~v ||| 1 }
      ∧ exec (.wCuewr c x) s = with_ 1 { s.work[w] with cueEn := v ||| 1 })
    ∧ ((s.atEnd r 1).hwNow (Reg.cluCueEn.addr c.val 0) ≠ 0 →
      exec (.wCueset c x) s = with_ 1 s.work[w] ∧ exec (.wCueclr c x) s = with_ 1 s.work[w]
      ∧ exec (.wCuewr c x) s = with_ 1 s.work[w])
    ∧ (x.val < 8 → exec (.wSetac c m x p q) s
        = with_ 2 (comp ⟨k.a[x.val % 8].toNat, true, p, q, false, (s.atEnd r 2).now, 0, was⟩))
    ∧ exec (.wClrac c m) s
        = with_ 1 (comp { old with arm := false, waiting := false, since := (s.atEnd r 1).now, was := was }))
  ∧ (∀ (s : State) (w : Fin 9) (m : Fin 16) (a : Nat) (p : Bool), s.clocked = true → (s.carrier w).isSome = true →
    s.work[w].comps[m].was = some (a, p) → s.work[w].comps[m].since = s.now → s.compLive p = true → s.crossedAt a s.now = true →
    ∃ t, exec (.angleCueFire w m) s = .next t
      ∧ t.work[w].comps = s.work[w].comps.set m.val { s.work[w].comps[m] with was := none } m.isLt
      ∧ (∃ o ∈ t.work[w].cues, o.cue = 2 + m.val ∧ o.g14 = BitVec.ofNat 32 m.val ∧ o.stamp = s.now) ∧ t.now = s.now)

/-- R180, R182: an encoding that an instruction's description makes illegal has no effect but the ILLEGAL exception. That RDRES with RG
= 0 and a modulator number above 7 is one is the model's choice (log entry 50). -/
def Obligations.IllegalEncodings : Prop :=
  ∀ (s : State) (c : Fin 9) (r : Run) (d x y : Fin 16) (i : BitVec 16) (n : Fin 4) (p q b : Bool) (j : Nat), s.Running c r →
    let k := s.clu[c]
    let ill (n : Nat) : Out := .next ((s.ranTo c r n k.pc k).coreExc c 1 k.pc none).settle
    (32 ≤ i.toNat → exec (.wShli c d x i) s = ill 1 ∧ exec (.wShri c d x i) s = ill 1 ∧ exec (.wAsri c d x i) s = ill 1)
    ∧ (8 ≤ d.val → exec (.wMova c d x) s = ill 2 ∧ exec (.wGeta c d) s = ill 2)
    ∧ (8 ≤ d.val ∨ 8 ≤ x.val →
        exec (.wAdda c d x y) s = ill 2 ∧ exec (.wSuba c d x y) s = ill 2 ∧ exec (.wAddai c d x i) s = ill 2)
    ∧ (8 ≤ x.val ∨ 8 ≤ y.val → exec (.wDifa c d x y) s = ill 2)
    ∧ (8 ≤ x.val → exec (.wMovg c d x) s = ill 2 ∧ exec (.wSetac c d x p q) s = ill 2)
    ∧ (x ≠ 0 → exec (.wLd c d x true i 0) s = ill 2 ∧ exec (.wSt c d x true i) s = ill 1)
    ∧ (exec (.wLdx c d x true i j b) s = ill (2 + j) ∧ exec (.wStx c d x true i j b) s = ill (2 + j))
    ∧ (d.val % 2 = 1 ∨ (p = false ∧ 8 ≤ x.val) → exec (.wRdres c d x p) s = ill 4)
    ∧ (16 ≤ x.val + n.val → exec (.wSend c d x n) s = ill (3 + n.val))
    ∧ exec (.wArm c d x y 3) s = ill 8 ∧ (8 ≤ y.val → exec (.wArm c d x y 2) s = ill 8)
    ∧ exec (.wReaim c d x y 3 p) s = ill 4 ∧ exec (.wReaim c d x 0 0 false) s = ill 4
    ∧ (y ≠ 0 → exec (.wReaim c d x y 1 false) s = ill 4) ∧ (8 ≤ x.val → exec (.wReaim c d x y 2 true) s = ill 4)

/-- R119, R120, R131, R136, R197: an ARM that passes every check places its descriptor in the lowest free slot with the work's SEQ,
returns the handle and the status OK; the angle comes from the descriptor, from gt or from at. Held by angle, the peg stays ARMED while
the horizon is closed, and where its angle is ahead beyond HE or behind by more than LATETOL; ahead and not beyond HE, or behind by at
most LATETOL (passed, W = 1), it gets its ideal instant, E = instruction TCLK + 16 and R130's judgement. A relative peg on a running
shot is judged at once from the base's fire instant, with L in DCLK; else it is WAITING. Of the descriptor's words, four stand at an
aligned address of the data SRAM, and nothing else falls due in the instruction's last TCLK t; the open horizon is that of TRACK or
SYNC, and a COIL's place in it is stated by its turns. -/
def Obligations.ArmPlacesPeg : Prop :=
  ∀ (s : State) (c w : Fin 9) (r : Run) (d b x : Fin 16) (j : Fin 32) (src : Fin 3), s.Running c r → s.clu[c].work = some w →
    let k := s.clu[c]
    let a : Nat := (k.g[b] : Word).toNat
    let word (n : Nat) : Word := s.word (w.val * 0x10000 + 0x4000 + a + 4 * n)
    let q := Peg.ofWords (word 0) (word 1) (word 2)
    let p : Peg := { q with
      angle := if src = 1 then (k.g[x] : Word).toNat % 2 ^ 24 else if src = 2 then k.a[x.val % 8].toNat else q.angle }
    let t := s.ranTo c r 8 k.pc k
    a % 4 = 0 → a ≤ 0x1FF0 → (∀ n < 4, ∀ f ∈ s.inj.flips, f.1 ≠ w.val * 0x10000 + 0x4000 + a + 4 * n) → t.caughtUp = t →
    (src = 2 → x.val < 8) → t.badDesc p (word 2) (word 3) = false → t.notOwner c p = false → r.redo = false →
    t.freeSlot w = some j →
    let full (st : PegState) (bad : Bool) : Peg := { p with
      seq := s.work[w].seq, last := s.work[w].slots[j].last, lateAmt := s.work[w].slots[j].lateAmt, st := st,
      dws := t.dwellSet p.profile, resBad := t.pegInj w j, mirBad := bad, armAngle := p.angle, armTofs := p.tofs }
    let u (st : PegState) (bad : Bool) : State := { t with
      work := s.work.set w.val { s.work[w] with
        slots := s.work[w].slots.set j.val (full st bad) j.isLt, seq := (s.work[w].seq + 1) % 4096
        armed := s.work[w].armed ++ [s.work[w].seq] } w.isLt
      inj := { s.inj with residue :=
        (s.inj.residue.erase (srcC 0 (t.counterOf w).val (j.val % 16))).erase (srcC 0 0xB w.val) } }
    let told (k' : Cluster) (passed : Bool) : Cluster := { k' with
      pc := k.pc + 1, g := k.g.set d.val (BitVec.ofNat 32 (j.val + s.work[w].seq % 4096 * 32)) d.isLt,
      z := false, n := false, c := true, v := false, w := passed }
    let go : Out := exec (.wArm c d b x ⟨src.val, by omega⟩) s
    let armed : Out := .next ((((u .armed (t.mirInj w)).peakSlots w).selOf p).setClu c fun k' => told k' false).settle
    -- the judgement of R130 of the peg just placed: its ideal instant, its fire instant and its L
    let judged (ideal : Nat) (late : Nat → Nat) (passed : Bool) : Prop :=
      let f := max ideal (16 * (t.now + 16))
      let fire := max f ((u .armed false).lineFree w j f)
      let base := if p.rel then t.runningBase p else none
      ∃ v, go = .next v ∧ v.clu[c] = told t.clu[c] passed ∧ v.mem = s.mem ∧ v.work[w].seq = (s.work[w].seq + 1) % 4096
        ∧ (fire ≤ ideal → v.work[w].slots[j] = { full .aimed (t.mirInj w) with
            inst := some fire, ideal := ideal, base := base })
        ∧ (ideal < fire → late fire ≤ p.latetol → v.work[w].slots[j] = { full .aimed (t.mirInj w) with
            inst := some fire, ideal := ideal, late := some (late fire), base := base })
        ∧ (ideal < fire → p.latetol < late fire →
            v.work[w].slots[j].st = .free ∧ v.work[w].slots[j].last = 3 ∧ v.work[w].slots[j].freedAt = some t.now)
    (p.rel = false → s.edg.heOld = none → go = armed)
    ∧ (p.rel = false → p.isCoil = false → t.keptOut p = false → ∀ he ∈ s.edg.heOld, ∀ g ∈ t.segAt t.now,
        let now := t.segAng g (16 * t.now)
        let far := wrapHalf t.cyc256 (256 * (p.angle : Int) - now)
        let edge := wrapHalf t.cyc256 (he - now)
        let ideal := t.aim g p.angle p.tofs
        (0 < far → edge < far → go = armed) ∧ (far < -(256 * (p.latetol : Int)) → go = armed)
        ∧ (0 < far → far ≤ edge → judged ideal (lateAt g ideal) false)
        ∧ (far ≤ 0 → -(256 * (p.latetol : Int)) ≤ far → judged ideal (lateAt g ideal) true))
    ∧ (p.rel = true → ∀ b ∈ t.runningBase p,
        let ideal := ((b : Int) + 64 * (p.angle : Int) + p.tofs).toNat
        judged ideal (lateDclk ideal) false)
    ∧ (p.rel = true → t.runningBase p = none → (t.nextBase w p).isSome = true →
        go = .next (((u .waiting (t.mirInj w)).peakSlots w).setClu c fun k' => told k' false).settle)

/-- R119: the checks of ARM in their order; the first that fails decides. t is the state in the instruction's last TCLK, in which
nothing else falls due. That an ARM refused with NOTOWNER leaves CLU_EADDR as it was is the model's choice (log entry 88). -/
def Obligations.ArmRefusals : Prop :=
  ∀ (s : State) (c w : Fin 9) (r : Run) (d b : Fin 16), s.Running c r → s.clu[c].work = some w →
    let k := s.clu[c]
    let a : Nat := (k.g[b] : Word).toNat
    let word (n : Nat) : Word := s.word (w.val * 0x10000 + 0x4000 + a + 4 * n)
    let p := Peg.ofWords (word 0) (word 1) (word 2)
    let failed (z n v : Bool) : Cluster :=
      { k with g := k.g.set d.val 0xFFFFFFFF d.isLt, z := z, n := n, c := false, v := v, w := false }
    let t := s.ranTo c r 8 k.pc k
    a % 4 = 0 → a ≤ 0x1FF0 → (∀ n < 4, ∀ f ∈ s.inj.flips, f.1 ≠ w.val * 0x10000 + 0x4000 + a + 4 * n) → t.caughtUp = t →
    (t.badDesc p (word 2) (word 3) = true → exec (.wArm c d b 0 0) s = .next (s.ran c r 8 (failed false false true)).settle)
    ∧ (t.badDesc p (word 2) (word 3) = false →
        (t.notOwner c p = true → exec (.wArm c d b 0 0) s = .next (t.coreExc c 3 k.pc none).settle)
        ∧ (t.notOwner c p = false → r.redo = true → p.owner ∈ s.work[w].runLog →
            exec (.wArm c d b 0 0) s = .next (s.ran c r 8 (failed true true false)).settle)
        ∧ (t.notOwner c p = false → r.redo = false → p.rel = true → t.runningBase p = none → t.nextBase w p = none →
            exec (.wArm c d b 0 0) s = .next (s.ran c r 8 (failed true false false)).settle)
        ∧ (t.notOwner c p = false → r.redo = false → p.rel = false → t.freeSlot w = none →
            ∃ u, exec (.wArm c d b 0 0) s = .next u ∧ u.work[w].ovf = true ∧ u.work[w].slots = s.work[w].slots
              ∧ u.clu = (s.ran c r 8 (failed false true false)).clu ∧ u.mem = s.mem ∧ u.drv = s.drv))

/-- R131, R136, R194 to R201: the statuses of REAIM, CANCEL and QUERY on a handle that is stale, whose peg has ended, or that cannot act;
QUERY's PEG_STAT word; REAIM by a register, by an angle register and of the offset alone: its refusal of an angle not below the cycle, its
effect on a peg of each state, held by angle or relative, with the horizon closed and open; CANCEL of a coil in dwell; OVFC. end_ n is the
state in the last TCLK of an instruction of n TCLK, in which nothing else falls due. A COIL's place in the open horizon is stated by its
turns. -/
def Obligations.PegHandles : Prop :=
  ∀ (s : State) (c w : Fin 9) (r : Run) (d h x o : Fin 16) (src : Fin 3) (sett : Bool), s.Running c r → s.clu[c].work = some w →
    let k := s.clu[c]
    let v : Word := k.g[h]
    let j : Fin 32 := ⟨v.toNat % 32, by omega⟩
    let p := s.work[w].slots[j]
    let st (k : Cluster) (z n c v : Bool) : Cluster := { k with z := z, n := n, c := c, v := v }
    let noW (k : Cluster) : Cluster := { k with w := false }
    let put (x : Word) : Cluster := { k with g := k.g.set d.val x d.isLt }
    let stale : Prop := v.toNat / 2 ^ 17 ≠ 0 ∨ v.toNat / 32 % 4096 ≠ p.seq
    let ang : Nat := if src = 1 then (k.g[x] : Word).toNat % 2 ^ 24 else if src = 2 then k.a[x.val % 8].toNat else p.angle
    let tofs : Int := if sett then ((k.g[o] : Word).setWidth 16).toInt else p.tofs
    let stuck : Prop := p.st = .committed ∨ p.st = .driven ∨ p.st = .softoff
    let fixed : Prop := stuck ∨ p.st = .dwelling
    let open_ : Prop := p.st = .armed ∨ p.st = .aimed ∨ p.st = .waiting
    let end_ (n : Nat) : State := s.ranTo c r n k.pc k
    let t := end_ 4
    let next (t : State) (k : Cluster) : Out :=
      .next (t.setClu c fun x => { k with pc := x.pc + 1, run := x.run }).settle
    let go : Out := exec (.wReaim c h x o ⟨src.val, by omega⟩ sett) s
    let new : Peg := { p with angle := ang, tofs := tofs, mirBad := false }
    let put_ (q : Peg) : State := { t with work := s.work.set w.val { s.work[w] with slots := s.work[w].slots.set j.val q j.isLt } w.isLt }
    -- the judgement of R130 of the peg with its new angle and offset: its ideal instant, its fire instant and its L
    let judged (ideal : Nat) (late : Nat → Nat) (passed : Bool) : Prop :=
      let f := max ideal (16 * (t.now + 16))
      let fire := max f ((put_ new).lineFree w j f)
      ∃ u, go = .next u ∧ u.clu[c] = { st t.clu[c] false false true false with w := passed, pc := k.pc + 1 } ∧ u.mem = s.mem
        ∧ (fire ≤ ideal → u.work[w].slots[j] = { new with st := .aimed, inst := some fire, ideal := ideal, late := none })
        ∧ (ideal < fire → late fire ≤ p.latetol →
            u.work[w].slots[j] = { new with st := .aimed, inst := some fire, ideal := ideal, late := some (late fire) })
        ∧ (ideal < fire → p.latetol < late fire →
            u.work[w].slots[j].st = .free ∧ u.work[w].slots[j].last = 3 ∧ u.work[w].slots[j].freedAt = some t.now)
    (end_ 2).caughtUp = end_ 2 → t.caughtUp = t → (src = 0 → sett = true) → (sett = false → o = 0) → (src = 2 → x.val < 8) →
    (stale →
      go = .next (s.ran c r 4 (noW (st k false true false true))).settle
      ∧ exec (.wCancel c h) s = .next (s.ran c r 2 (noW (st k false true false true))).settle
      ∧ exec (.wQuery c d h) s = .next (s.ran c r 2 (st (put 0) false true false true)).settle)
    ∧ (¬stale → p.resBad = false →
      (p.st = .free → go = .next (s.ran c r 4 (noW (st k true true false true))).settle
        ∧ exec (.wCancel c h) s = .next (s.ran c r 2 (noW (st k true true false true))).settle)
      ∧ (fixed → go = .next (s.ran c r 4 (noW (st k true false false true))).settle)
      ∧ (stuck → exec (.wCancel c h) s = .next (s.ran c r 2 (noW (st k true false false true))).settle)
      ∧ exec (.wQuery c d h) s = .next (s.ran c r 2 (st (put (s.pegStatWord p)) false false true false)).settle
      ∧ (open_ → s.cycle ≤ ang → go = .next (s.ran c r 4 (noW (st k false false false true))).settle)
      ∧ (open_ → p.rel = false → s.edg.heOld = none → ang < s.cycle →
        go = next ((put_ new).selOf p) (noW (st k false false true false)))
      ∧ (open_ → p.rel = false → p.isCoil = false → ang < s.cycle → t.keptOut p = false →
        ∀ he ∈ s.edg.heOld, ∀ g ∈ t.segAt t.now,
        let now := t.segAng g (16 * t.now)
        let far := wrapHalf t.cyc256 (256 * (ang : Int) - now)
        let edge := wrapHalf t.cyc256 (he - now)
        let ideal := t.aim g ang tofs
        (0 < far → edge < far → go = next ((put_ { new with st := .armed, inst := none }).selOf p) (noW (st k false false true false)))
        ∧ (0 < far → far ≤ edge → judged ideal (lateAt g ideal) false)
        ∧ (far ≤ 0 → judged ideal (lateAt g ideal) true))
      ∧ (p.rel = true → p.isCoil = false → ang < s.cycle →
        (p.st = .armed ∨ p.st = .waiting → go = next (put_ new) (noW (st k false false true false)))
        ∧ (p.st = .aimed → ∀ b ∈ p.base,
          let ideal := ((b : Int) + 64 * (ang : Int) + tofs).toNat
          judged ideal (lateDclk ideal) false))
      ∧ (open_ → ∃ t, exec (.wCancel c h) s = .next t
        ∧ t.work[w].slots[j].st = .free ∧ t.work[w].slots[j].last = 4
        ∧ t.clu = (s.ran c r 2 (noW (st k false false true false))).clu ∧ t.mem = s.mem ∧ t.drv = s.drv)
      ∧ (p.st = .dwelling → exec (.wCancel c h) s
        = next ((end_ 2).softOff w j 3) { st k false false true false with w := true }))
    ∧ exec (.wOvfc c d) s = .next (({ s with work := s.work.set w.val { s.work[w] with ovf := false } w.isLt } : State).ran c r 1
        { put (if s.work[w].ovf then 1 else 0) with c := s.work[w].ovf }).settle

/-- R202 to R207: the measurement reads of a window or a modulator that the instruction or a register names (RG), with FRESH for the
reading core, and their answer while the region is gated, of which only a result's sequence number is open; a SEND that is queued, and its
refusals; FABRD in the FAB cue's handler and in any other. -/
def Obligations.MeasurementReadsAndMessages : Prop :=
  ∀ (s : State) (c w : Fin 9) (r : Run) (d x g : Fin 16) (f : Fin 32) (n : Fin 4), s.Running c r → s.clu[c].work = some w →
    let k := s.clu[c]
    let put (v : Word) (fresh v' : Bool) : Cluster :=
      { k with g := k.g.set d.val v d.isLt, z := decide (v = 0), n := v.msb, c := fresh, v := v' }
    let me : Fin 11 := ⟨c.val, by omega⟩
    let low : Nat := (k.g[x] : Word).toNat
    let figured (rg : Bool) (m : Fin 16) : Prop :=
      let fig := s.fresh me (8 + 32 * m.val + f.val) s.ms.win[m].fseq[f]
      (s.measRuns = true → exec (.wRdfig c d x f rg) s = .next (fig.1.ran c r 4 (put s.ms.win[m].figs[f] fig.2 false)).settle)
      ∧ (s.measRuns = false → exec (.wRdfig c d x f rg) s = .next (s.ran c r 4 (put 0 false true)).settle)
    let resulted (rg : Bool) (m : Fin 8) : Prop :=
      let res := s.fresh me m.val s.ms.mod[m].rsq
      let pair (k : Cluster) (v : Word) : Cluster := { k with g := (k.g.set ((d.val + 1) % 16) v (by omega)).set d.val k.g[d] d.isLt }
      (s.measRuns = true → exec (.wRdres c d x rg) s = .next (res.1.ran c r 4 (pair (put (BitVec.ofInt 32 s.ms.mod[m].res)
          res.2 false) (BitVec.ofNat 32 (s.ms.mod[m].rsq % 65536 + if res.2 then 65536 else 0)))).settle)
      ∧ (s.measRuns = false → ∃ v : Word, v.toNat < 65536 ∧
          exec (.wRdres c d x rg) s = .next (s.useFree.ran c r 4 (pair (put 0 false true) v)).settle)
    let dst : Word := k.g[x]
    let wk : Nat := dst.toNat / 32 % 16
    let vc : Bool := dst.getLsbD 9
    let q := s.fab.sendQ[sendIdx w vc]
    let pay : List Word := (k.g.toList.drop g.val).take (n.val + 1)
    let st (z n c v : Bool) : Cluster := { k with z := z, n := n, c := c, v := v }
    let good : Prop := dst.toNat / 2 ^ 10 % 64 = 0 ∧ wk ≤ 8 ∧ dst.msb = false
    let known : Prop := dst.toNat % 32 = s.nodeId ∨ dst.toNat % 32 ∈ s.fab.members
    let n3 : Nat := 3 + n.val
    figured false x ∧ figured true ⟨low % 16, by omega⟩
    ∧ (d.val % 2 = 0 → ∀ (m : Fin 8), (x.val = m.val → resulted false m) ∧ (low % 8 = m.val → resulted true m))
    ∧ (g.val + n.val ≤ 15 →
      (good → known → q.length < 4 → exec (.wSend c x g n) s = .next (({ s with fab := { s.fab with
          sendQ := s.fab.sendQ.set (sendIdx w vc).val (q ++ [⟨0, vc, dst.toNat % 32, s.nodeId, wk, w.val, dst.toNat / 2 ^ 16,
            s.fab.lun, pay, [], 0⟩]) (sendIdx w vc).isLt } } : State).ran c r n3 (st false false true false)).settle)
      ∧ (good → known → 4 ≤ q.length → exec (.wSend c x g n) s = .next (s.ran c r n3 (st false true false false)).settle)
      ∧ (good → ¬known → exec (.wSend c x g n) s = .next (s.ran c r n3 (st true false false false)).settle)
      ∧ (¬good → exec (.wSend c x g n) s = .next (s.ran c r n3 (st false false false true)).settle))
    ∧ (r.cue.cue = 24 → r.exc = false → exec (.wFabrd c d n) s = .next (s.ran c r 1 { k with
        g := k.g.set d.val (r.cue.pay.getD n.val 0) d.isLt, c := decide (n.val < r.cue.pay.length) }).settle)
    ∧ (r.cue.cue ≠ 24 ∨ r.exc = true →
        exec (.wFabrd c d n) s = .next (s.ran c r 1 { k with g := k.g.set d.val 0 d.isLt, c := false }).settle)

/-- R159, R160, R189: LDX and STX reach the register space as the core's own access, with their stall; a refusal as ADDR, OWNER or
LINKERR raises that exception with the core address in CLU_EADDR, and no other status raises any. That a busy STX does nothing, and that
the load of a word with uncorrectable data gives a free value, are the model's choices (log entries 29 and 88). -/
def Obligations.RegisterSpaceFromCore : Prop :=
  ∀ (s u : State) (c : Fin 9) (r : Run) (d b : Fin 16) (i : BitVec 16) (stall : Nat) (link : Bool) (v : Word) (st : Status),
    s.Running c r →
    let k := s.clu[c]
    let x : Word := k.g[b] + i.signExtend 32
    let me : Fin 11 := ⟨c.val, by omega⟩
    let mid := s.ranTo c r (2 + stall) k.pc k
    let on (g : Vector Word 16) : Out := .next (u.setClu c fun k => { k with g := g, pc := k.pc + 1 }).settle
    let exc (n : Nat) : Out := .next (u.coreExc c n u.clu[c].pc (some x)).settle
    u.clu[c].pc = k.pc → u.clu[c].g = k.g →
    (mid.accRead me x.toNat 0 link = (u, v, st) →
      (st = .addrerr → exec (.wLdx c d b false i stall link) s = exc 2)
      ∧ (st = .linkerr → exec (.wLdx c d b false i stall link) s = exc 4)
      ∧ (st = .ok ∨ st = .busy → exec (.wLdx c d b false i stall link) s = on (k.g.set d.val v d.isLt))
      ∧ (st = .dataerr → ∃ x : Word, exec (.wLdx c d b false i stall link) s
          = .next (u.useFree.setClu c fun q => { q with g := k.g.set d.val x d.isLt, pc := k.pc + 1 }).settle))
    ∧ (mid.accWrite me x.toNat k.g[d] 0 link = (u, st) →
      (st = .addrerr → exec (.wStx c d b false i stall link) s = exc 2)
      ∧ (st = .owner → exec (.wStx c d b false i stall link) s = exc 3)
      ∧ (st = .linkerr → exec (.wStx c d b false i stall link) s = exc 4)
      ∧ (st = .ok ∨ st = .busy → exec (.wStx c d b false i stall link) s = on k.g))

/-- R164 to R167: an idle core dispatches, at the TCLK u at which the first enabled cue has reached it, the enabled cue of the lowest
number and enters its handler with the registers R167 gives it as of the TCLK of dispatch at_, the first instruction no sooner than 3 TCLK
after the cue reached the cluster and 2 after the last DONE; an armed comparator that is crossed at a TCLK t after its SETAC raises its
cue and is disarmed, and one that repeats is armed again once the angle lies past half a cycle in the forward direction from its fire, and
not after a rock-back. The TCLK of a dispatch (of an idle core, that at which the cue is ready, else 2 after DONE) and the TCLK of a
crossing are the model's choices (log entries 88 and 85). -/
def Obligations.CuesAndDispatch : Prop :=
  ∀ (s : State) (c w : Fin 9) (q : CueOcc) (m : Fin 16) (a n : Nat),
    let k := s.clu[c]
    let x := s.work[w].comps[m]
    let u := s.advanceTo (s.cueTick s.work[w])
    let at_ := max u.now (k.idleAt + 2)
    (k.work = some w → s.clocked = true → k.runs = true → k.halt = false → k.run = none → s.schedLive w = true →
      k.redoCue = none → s.work[w].nextCue u.now = some q → (∀ f ∈ s.inj.flips, f.1 ≠ w.val * 0x10000 + 4 * q.cue) →
      exec (.cueDispatch c 0) s = .next ({ u with
        work := s.work.set w.val { s.work[w] with cues := s.work[w].cues.erase q, armed := [] } w.isLt,
        clu := s.clu.set c.val { k with
          run := some ⟨q, false, false, max at_ (q.ready + 3), 0⟩,
          pc := q.cue, z := false, n := false, c := false, v := (u.angAt at_).isNone, w := false,
          g := ((((((((k.g.set 8 0).set 9 0).set 10 0).set 11 0).set 12 q.g12).set 13 (BitVec.ofNat 32 q.cue)).set 14
            q.g14).set 15 (BitVec.ofNat 32 q.stamp)),
          a := (k.a.set 6 0).set 7 (BitVec.ofNat 24 ((u.angAt at_).getD 0)) } c.isLt } : State).settle)
    ∧ (s.clocked = true → (s.carrier w).isSome = true → x.arm = true → x.was = none → s.compLive x.prov = true →
      s.crossTick x.angle = some n → x.since < n → ∃ t, exec (.angleCueFire w m) s = .next t
      ∧ t.work[w].comps = s.work[w].comps.set m.val
        { x with arm := false, waiting := x.rpt, fired := (s.advanceTo n).travel } m.isLt ∧ t.now = max s.now n
      ∧ (∃ o ∈ t.work[w].cues, o.cue = 2 + m.val ∧ o.g14 = BitVec.ofNat 32 m.val ∧ o.stamp = t.now)
      ∧ t.clu = s.clu ∧ t.mem = s.mem ∧ t.drv = s.drv ∧ t.edg = s.edg)
    ∧ (s.clocked = true → s.angNow = some a → 2 * s.pastFire x a ≤ s.cyc256 → exec (.comparatorRearm w m) s = .next s.settle)
    ∧ (s.clocked = true → s.angNow = some a → x.waiting = true → s.cyc256 < 2 * s.pastFire x a →
      exec (.comparatorRearm w m) s = .next ({ s with work := s.work.set w.val { s.work[w] with
        comps := s.work[w].comps.set m.val { x with arm := true, waiting := false } m.isLt } w.isLt } : State).settle)

/-- R337, R443, R446, R452, R456: power-on reset puts every region but the always-on domain to its reset state, steps EPOCH where that
domain lost its contents, and waits; its release samples the straps and begins SELFTEST; the PLL then locks. R453, R458: SELFTEST ends
in READY, or in SIDELINES when the timing region, the edge generator, the DDL, the driver die or the collector failed, or both
predictors did; the items that a wake self-test does not run count as passed; a failed cluster is UNUSABLE and a failed predictor
retired; the edge item fails if its calibration or any line did; the measurement region is ungated on the way to READY. R447: a
CLOCK_FAIL that waits for its acceptance goes before the outcome. R450: every change of the state sets STCHG. That the driver item fails
without VBAT, and that the safe lines are asserted in power-on reset and OFF, are the model's choices (log entries 24 and 21). -/
def Obligations.PowerUpAndSelfTest : Prop :=
  (∀ (s : State) (nid : Fin 32) (ma : Fin 8) (test : Bool),
    (s.sys.st = .off → s.sys.por = false → ∃ t, exec .powerOnReset s = .next t
      ∧ t = { State.reset with
          pending := s.pending, sys := t.sys, ao := t.ao, otp := t.otp, inj := t.inj, free := s.free, pins := t.pins,
          regs := s.regs.filter (fun x => alwaysOnReg x.1) }
      ∧ t.sys.por = true ∧ t.sys.st = .off ∧ t.sys.pll = false ∧ t.sys.vmain = true ∧ t.sys.vbkup = true ∧ t.sys.vio[0] = true
      ∧ t.sys.vbat = s.sys.vbat ∧ t.clocked = false ∧ t.pins.quiet = true ∧ t.pins.safeA = true ∧ t.pins.safeB = true
      ∧ t.ao = { s.ao with lost := false, kept := [] }
      ∧ (s.ao.lost = false → t.otp = s.otp)
      ∧ (s.ao.lost = true → t.otp.epoch = min 0xFFF (s.otp.epoch + 1)
        ∧ t.otp = { s.otp with epoch := t.otp.epoch, epexh := s.otp.epexh || decide (t.otp.epoch = 0xFFF) }))
    ∧ (s.sys.por = true → s.sys.st = .off → ∃ t, exec (.porRelease nid ma test) s = .next t
      ∧ t = { s with sys := t.sys, regs := t.regs, mnt := t.mnt, hwSet := t.hwSet, pins := t.pins }
      ∧ t.sys = { s.sys with
          por := false, st := .selftest, nid := nid.val, ma := ma.val, testPin := test, wakeRun := false }
      ∧ t.rb Reg.hostStat 0 0 = true)
    ∧ (s.sys.st = .selftest → s.sys.pll = false →
        exec .pllLock s = .next ({ s with sys := { s.sys with pll := true, lockd := true } } : State).settle))
  ∧ (∀ (s : State) (fails : BitVec 16) (echo : EchoResult) (link : Bool), s.sys.st = .selftest → s.sys.pll = true →
    let edge : Nat := if echo.cal && echo.bad.isEmpty then 0 else 0x800
    let items : Nat := (fails.toNat &&& 0xF7FF) ||| edge
    let bits : Nat := (if s.sys.wakeRun then items &&& 0xF800 else items) ||| (if s.sys.vbat then 0 else 0x2000)
    let fatal : Prop := (bits.testBit 9 = true ∧ bits.testBit 10 = true) ∨ bits.testBit 11 = true ∨ bits.testBit 12 = true
      ∨ bits.testBit 13 = true ∨ bits.testBit 15 = true
    let clock : Bool := s.clockFailed
    ∃ t, exec (.selftestEnd fails false echo link) s = .next t
      ∧ (clock = true → t.sys.st = .selftest)
      ∧ (clock = false → (fatal → t.sys.st = .sidelines) ∧ (¬fatal → t.sys.st = .ready ∧ t.rb Reg.sysGate 0 0 = false)
        ∧ t.rb Reg.hostStat 0 0 = true)
      ∧ t.sys.stDone = true ∧ t.sys.stBits = bits ∧ t.sys.stWake = s.sys.wakeRun ∧ t.sys.stEndAt = some s.svclk
      ∧ (bits.testBit 9 = true → t.prd.retA = true) ∧ (bits.testBit 10 = true → t.prd.retB = true)
      ∧ (∀ c : Fin 9, bits.testBit c.val = true → t.clu[c].role = .unusable ∧ t.clu[c].work = none)
      ∧ t.mem = s.mem ∧ t.pending = s.pending ∧ t.coll.safe = s.coll.safe)

/-- R443 to R445, R447: a lost VMAIN, VBKUP or VIO0 puts the device OFF with its outputs off and its record invalid, at once (the
model's choice, log entry 19), VBKUP takes the always-on domain along; a lost VIO1 to VIO3 changes only its balls, VIO3 leaving the
IGSOFT balls at high impedance; a loss of VBAT puts the driver die into the safe actuation state and is reported in every state but OFF.
The clock monitor emits CLOCK_FAIL with its cause and changes no clock. The source 4FFh of DRV_SAFE and the report made when the die is
already safe are the model's choices (log entries 16 and 25). -/
def Obligations.SuppliesAndClocks : Prop :=
  ∀ (s : State) (which b : Fin 3) (n : Nat),
    (∃ t, exec (.supplyLost which) s = .next t
      ∧ t = { State.reset with
          pending := s.pending, sys := t.sys, ao := t.ao, otp := s.otp, inj := t.inj, free := s.free, mnt := t.mnt, hwSet := t.hwSet, pins := t.pins,
          regs := t.regs }
      ∧ t.sys.st = .off ∧ t.clocked = false ∧ t.pins.quiet = true ∧ t.ao.scribe.valid = false ∧ t.ao.counting = false
      ∧ (which = 0 → t.sys.vmain = false) ∧ (which = 1 → t.sys.vbkup = false ∧ t.ao.lost = true ∧ t.ao.slow = 0 ∧ t.regs = [])
      ∧ (which = 2 → t.sys.vio[0] = false)
      ∧ (which ≠ 1 → t.ao.slow = s.ao.slow
        ∧ (t.regs.filter fun x => alwaysOnReg x.1) = s.regs.filter fun x => alwaysOnReg x.1))
    ∧ exec (.vioBankLost b) s = .next ({ s with sys := { s.sys with vio := s.sys.vio.set (b.val + 1) false } } : State).settle
    ∧ (∃ t, exec (.vioBankLost 2) s = .next t ∧ t.pins.igsoftz = BitVec.allOnes 3)
    ∧ exec (.vioBankGood b) s = .next ({ s with sys := { s.sys with vio := s.sys.vio.set (b.val + 1) true } } : State).settle
    ∧ (∃ t, exec .vbatLost s = .next t ∧ t.sys = { s.sys with vbat := false } ∧ t.pins.quiet = true
      ∧ (s.sys.vbat = true → s.sys.st ≠ .off → t.drv.safe = true ∧ s.Emits t 2 0x13 0x4FF 4)
      ∧ t.mem = s.mem ∧ t.clu = s.clu ∧ t.prd = s.prd)
    ∧ exec .vbatGood s = .next ({ s with sys := { s.sys with vbat := true } } : State).settle
    ∧ (s.clocked = true →
      (∃ t, exec .pllUnlockTimeout s = .next t ∧ t.sys = { s.sys with lockd := false }
        ∧ t = { s with sys := t.sys, coll := t.coll, regs := t.regs, pins := t.pins }
        ∧ ((s.coll.outbox.filter (·.src = 0x31F)).length < 4 →
          t.coll.outbox = s.coll.outbox ++ [⟨3, 6, 0x31F, 1, s.now, s.now + s.toSclk + 3, false⟩]))
      ∧ (∃ t, exec .sclkSilence s = .next t ∧ t.sys = { s.sys with refok := false }
        ∧ t = { s with sys := t.sys, coll := t.coll, regs := t.regs, pins := t.pins }
        ∧ ((s.coll.outbox.filter (·.src = 0x31F)).length < 4 →
          t.coll.outbox = s.coll.outbox ++ [⟨3, 6, 0x31F, 2, s.now, s.now + s.toSclk + 3, false⟩]))
      ∧ (∃ t, exec (.referenceWindowEnd n) s = .next t
        ∧ t.sys = { s.sys with referr := (n : Int) - 48828, refok := decide (48731 ≤ n ∧ n ≤ 48926) }
        ∧ t = { s with sys := t.sys, coll := t.coll, regs := t.regs, pins := t.pins }
        ∧ (48731 ≤ n → n ≤ 48926 → t.coll = s.coll ∧ t.regs = s.regs)
        ∧ ((s.coll.outbox.filter (·.src = 0x31F)).length < 4 → n < 48731 ∨ 48926 < n →
          t.coll.outbox = s.coll.outbox ++ [⟨3, 6, 0x31F, 2, s.now, s.now + s.toSclk + 3, false⟩])))

/-- R174, R422, R450, R451, R454, R455: SYS_CMD moves the device between READY and RUN, begins STANDBY from READY or SIDELINES in NOSYNC
with the outputs off and every cluster stopped, and runs the self-test again from SIDELINES; every other write ends busy. So does a
command in the SVCLK in which a self-test ends or a class-3 message is accepted, and a command of the maintenance port in the SVCLK of
one that was taken from the host port; a RUN or READY of the maintenance port gives way to a host command of its SVCLK (how, is the
model's choice, log entry 87). That STANDBY asserts both safe lines and leaves the driver die safe is the model's choice (log entry 21).
-/
def Obligations.SystemCommands : Prop :=
  ∀ (s : State) (p : Fin 2) (w : BitVec 16), s.Writable p → s.FabSteady →
    let first : Prop := s.cmdBarred = false ∧ (p = 1 → s.sys.cmdAt ≠ some s.svclk) ∧ ∀ x ∈ s.sys.cmdMnt, x.1 ≠ s.svclk
    let taken (st : DState) : Sys := { s.sys with
      st := st, cmdAt := if p = 0 then some s.svclk else s.sys.cmdAt,
      cmdMnt := if p = 0 then none else some (s.svclk, s.sys.st) }
    (s.sys.st = .ready → first → ∃ t, exec (.sysRun p 0x5AFE) s = .next t ∧ t.answer p = .ok ∧ t.sys = taken .run
      ∧ t.rb Reg.hostStat 0 0 = true ∧ t.clu = s.clu ∧ t.drv = s.drv ∧ t.edg = s.edg ∧ t.work = s.work ∧ t.mem = s.mem)
    ∧ (s.sys.st = .run → first → ∃ t, exec (.sysReady p 0x5AFE) s = .next t ∧ t.answer p = .ok ∧ t.sys = taken .ready
      ∧ t.rb Reg.sysGate 0 0 = false
      ∧ t.rb Reg.hostStat 0 0 = true ∧ t.clu = s.clu ∧ t.drv = s.drv ∧ t.edg = s.edg ∧ t.work = s.work ∧ t.mem = s.mem)
    ∧ (s.sys.st = .sidelines → first → ∃ t, exec (.sysRetest p 0x5AFE) s = .next t ∧ t.answer p = .ok ∧ t.sys.st = .selftest
      ∧ t.sys.stDone = false ∧ t.trc.init = false ∧ t.trc.initMb = 0 ∧ t.mem = s.mem ∧ t.drv = s.drv)
    ∧ (s.sys.st = .ready ∨ s.sys.st = .sidelines → s.sync = .nosync → first → ∃ t, exec (.sysStandby p 0x5AFE) s = .next t
      ∧ t.answer p = .ok ∧ t.sys.st = .standby ∧ t.sys.stbyDone = false ∧ t.coll.safe = true ∧ t.coll.cState = true
      ∧ t.drv.safe = true ∧ t.pins.quiet = true ∧ t.pins.safeA = true ∧ t.pins.safeB = true ∧ t.ao.counting = true
      ∧ t.whl.coast = false
      ∧ ∀ c : Fin 9, s.clu[c].role = .active → (∀ o, s.bist.ov = some o → o.spare ≠ some c) → t.clu[c].role = .stopped)
    ∧ (w ≠ 0x5AFE ∨ (s.sys.st ≠ .ready ∧ first) → exec (.sysRun p w) s = .next (s.answered p .busy).settle)
    ∧ (w ≠ 0x5AFE ∨ (s.sys.st ≠ .run ∧ first) → exec (.sysReady p w) s = .next (s.answered p .busy).settle)
    ∧ (w ≠ 0x5AFE ∨ (s.sys.st ≠ .sidelines ∧ first) → exec (.sysRetest p w) s = .next (s.answered p .busy).settle)
    ∧ (w ≠ 0x5AFE ∨ (((s.sys.st ≠ .ready ∧ s.sys.st ≠ .sidelines) ∨ s.sync ≠ .nosync) ∧ first) →
        exec (.sysStandby p w) s = .next (s.answered p .busy).settle)
    ∧ (s.cmdBarred = true ∨ (p = 1 ∧ s.sys.cmdAt = some s.svclk) → exec (.sysRun p 0x5AFE) s = .next (s.answered p .busy).settle
      ∧ exec (.sysReady p 0x5AFE) s = .next (s.answered p .busy).settle
      ∧ exec (.sysRetest p 0x5AFE) s = .next (s.answered p .busy).settle
      ∧ exec (.sysStandby p 0x5AFE) s = .next (s.answered p .busy).settle)
    ∧ (p = 0 → s.cmdBarred = false → s.sys.st = .run → s.sys.cmdMnt = some (s.svclk, .ready) →
      ∃ t, exec (.sysRun 0 0x5AFE) s = .next t ∧ t.answer 0 = .ok ∧ t.answer 1 = .busy
        ∧ t.sys = { s.sys with st := .run, cmdAt := some s.svclk, cmdMnt := none })

/-- R455 to R461: STANDBY complete, everything but the always-on domain is at its reset state; each enabled source latches a wake; the
wake logic counts WHL0 edges into the scribe record, with the level of AUX0 at each as its direction, a record that it reads with an
uncorrectable error losing VALID (R459) and the record written anew its flipped bits (R439); at the next SCLK edge the lowest source is
recorded and a wake SELFTEST begins. -/
def Obligations.StandbyAndWake : Prop :=
  ∀ (s : State) (aux0 : Bool) (addr : BitVec 7), s.sys.st = .standby →
    let latch (n : Nat) : List Nat := if n ∈ s.sys.wakeLatch then s.sys.wakeLatch else s.sys.wakeLatch ++ [n]
    let latched (n : Nat) : Out := .next ({ s with sys := { s.sys with wakeLatch := latch n } } : State).settle
    let ph := s.rb Reg.scribeCfg 0 2
    let rev := aux0 != s.rb Reg.scribeCfg 0 3
    let count (r : Scribe) : Scribe := { r with
      edges := min 255 (r.edges + 1), dirk := r.dirk && ph, valid := r.valid && decide (r.edges < 255) && !(ph && rev) }
    let counted (b : Bool) (t : State) : Prop := -- b: the record's word can be used
      let put (r : Scribe) : Scribe := if b then count r else { count r with valid := false }
      t = { s with
        sys := t.sys, ao := { s.ao with scribe := put s.ao.scribe, scribeNext := s.ao.scribeNext.map put }
        coll := t.coll, trc := t.trc, links := t.links, mnt := t.mnt, regs := t.regs, hwSet := t.hwSet
        inj := { s.inj with flips := s.inj.flips.filter fun f => f.1 ≠ Reg.scribe.base }, pins := t.pins }
      ∧ t.sys = { s.sys with wakeLatch := if s.rb Reg.wakeCfg 0 2 then latch 2 else s.sys.wakeLatch }
    let due : Scribe := s.ao.scribeNext.getD s.ao.scribe
    (s.sys.stbyDone = false → ∃ t, exec .standbyComplete s = .next t
      ∧ t = { State.reset with
          pending := s.pending, sys := t.sys, ao := t.ao, otp := s.otp, regs := t.regs, inj := t.inj, free := s.free,
          pins := t.pins }
      ∧ t.sys.st = .standby ∧ t.sys.stbyDone = true ∧ t.sys.wakeLatch = s.sys.wakeLatch ∧ t.ao.staged = []
      ∧ t.ao.slow = s.ao.slow ∧ t.ao.scribe = due ∧ t.ao.kept = s.ao.kept ∧ t.pins.quiet = true)
    ∧ (s.rb Reg.wakeCfg 0 0 = true → s.sys.vio[3] = true → exec .wakePin s = latched 1)
    ∧ (s.rb Reg.wakeCfg 0 4 = true → addr.toNat = 0x58 + s.sys.ma % 8 → exec (.wakeMnt addr) s = latched 4)
    ∧ (s.ao.counting = true → s.sys.vio[1] = true → ∀ n < 3,
      (s.inj.flips.find? (·.1 = Reg.scribe.base)).map (·.2) = (if n = 0 then none else some n) →
      ∃ t, exec (.standbyEdge aux0) s = .next t ∧ exec (.wakeWhl aux0) s = .next t ∧ counted (decide (n ≠ 2)) t
        ∧ (n = 1 → s.Emits t 0 Kind.eccCe 0x3FF 0) ∧ (n = 2 → s.Emits t 1 Kind.eccUe 0x3FF 0))
    ∧ (s.rb Reg.wakeCfg 0 3 = true → ∃ t, exec .wakeAlarm s = .next t
      ∧ t = { s with sys := t.sys, ao := t.ao, regs := t.regs, pins := t.pins } ∧ t.sys = { s.sys with wakeLatch := latch 3 }
      ∧ (s.alarm < 2 ^ 48 → s.ao.slow < 2 ^ 48 → t.ao.slow = s.alarm) ∧ (s.ao.slow = s.alarm → t.ao = s.ao ∧ t.regs = s.regs))
    ∧ (s.sys.stbyDone = true → ∀ c ∈ s.sys.wakeLatch, ∃ t, exec .wakeBegin s = .next t
      ∧ t.sys = { s.sys with st := .selftest, stbyDone := false, wakeLatch := [], wakeRun := true }
      ∧ t.ao.src ∈ s.sys.wakeLatch ∧ t.ao.src ≤ c ∧ t.ao.slow = (s.ao.slow + 1) % 2 ^ 48 ∧ t.ao.scribe = due
      ∧ t.whl = Wheels.reset true ∧ t.rb Reg.hostStat 0 0 = true
      ∧ t = { s with
          sys := t.sys, ao := t.ao, whl := t.whl, regs := t.regs, mnt := t.mnt, hwSet := t.hwSet, pins := t.pins })

/-- R20, R36, R266, R448: MEAS = 1 in READY or RUN gates the measurement region at once and ends every window without publication; MEAS
= 0 begins ungating, complete 40 µs later with empty streams; DROPPED stands; in another state the write ends busy, and one that a later
source of R392 has written over in its TCLK changes nothing. -/
def Obligations.MeasurementGate : Prop :=
  ∀ (s : State) (p : Fin 2) (g : Bool), s.Writable p →
    let port : Fin 11 := if p = 0 then 9 else 10
    let late : Bool := s.outranked port Reg.sysGate.base
    let wrote (t : State) : State := t.hw (wroteKey Reg.sysGate.base) (portRank port)
    (s.live = true → late = false → s.rb Reg.sysGate 0 0 = false → ∃ t, exec (.measGateWrite p true) s = .next t ∧ t.answer p = .ok
      ∧ t.sys = { s.sys with measRdy := false } ∧ t.ms.ends = [] ∧ t.rb Reg.sysGate 0 0 = true
      ∧ (∀ w : Fin 16, t.ms.win[w] = { s.ms.win[w] with isOpen := false, runs := [] }) ∧ t.ms.mod = s.ms.mod
      ∧ t = { s with
          sys := t.sys, ms := t.ms, regs := t.regs, hwSet := (wrote s).hwSet, host := t.host, mnt := t.mnt, pins := t.pins })
    ∧ (s.live = true → late = false → s.rb Reg.sysGate 0 0 = true → ∃ t, exec (.measGateWrite p false) s = .next t ∧ t.answer p = .ok
      ∧ t.sys = s.sys ∧ t.ms = { s.ms with ready := s.now + 10000 } ∧ t.rb Reg.sysGate 0 0 = false
      ∧ t = { s with ms := t.ms, regs := t.regs, hwSet := (wrote s).hwSet, host := t.host, mnt := t.mnt, pins := t.pins })
    ∧ (s.live = true → late = false → s.rb Reg.sysGate 0 0 = g → exec (.measGateWrite p g) s
        = .next ((wrote (s.setRg Reg.sysGate 0 0 (s.rg Reg.sysGate 0 0))).answered p .ok).settle)
    ∧ (s.live = false → late = false → exec (.measGateWrite p g) s = .next (s.answered p .busy).settle)
    ∧ (late = true → exec (.measGateWrite p g) s = .next (s.answered p .ok).settle)
    ∧ (s.sys.measRdy = false → s.rb Reg.sysGate 0 0 = false → ∃ t, exec .ungateDone s = .next t
      ∧ t.sys = { s.sys with measRdy := true } ∧ s.ms.ready ≤ t.now ∧ t.ms.win = s.ms.win ∧ t.ms.goal = s.ms.goal
      ∧ (∀ m : Fin 8, t.ms.mod[m].hist = [] ∧ t.ms.mod[m].kept = [] ∧ t.ms.mod[m].run = s.ms.mod[m].run)
      ∧ t.clu = s.clu ∧ t.mem = s.mem ∧ t.drv = s.drv)

/-- R18, R37, R38, R423: an idle DDL sends a heartbeat; the transfer at the head is delivered, retried up to four times, or given up with
LINK_FAULT, a message then going out again once the link carries traffic (R18, R41; log entry 52); 64 µs of silence put the driver die
into the safe actuation state, with DRV_SAFE from source 4FFh (the model's choice, log entry 16); it takes a RELEASE only with both safe
lines inactive and VBAT good. The control die then leaves the state with every cause cleared, and the write that waits for the answer
ends: a host port's with OK or busy, a maintenance port's access likewise. -/
def Obligations.DriverDieLink : Prop :=
  ∀ (s : State) (x : Xfer) (rest : List Xfer), s.clocked = true →
    (s.links.ddl = [] → exec .heartbeatSend s = .next ({ s with links := { s.links with ddl := [.heartbeat] } } : State).settle)
    ∧ (∃ t, exec .ddlSilence s = .next t ∧ t.drv.safe = true ∧ s.now ≤ t.now ∧ s.links.lastGood.getD 0 + 16000 ≤ t.now
      ∧ (s.drv.safe = false → s.Emits t 2 0x13 0x4FF 2) ∧ t.pins.quiet = true ∧ t.clu = s.clu ∧ t.mem = s.mem)
    ∧ (s.links.ddl = x :: rest → s.links.quietUntil ≤ s.now → s.inj.ddlCrc = false → s.coll.relDone = none →
      (x.toDriver = true → (∀ n us q, x ≠ .softval n us q) → ∃ t, exec (.ddlTransfer true) s = .next t
        ∧ t = { s with links := t.links, pins := t.pins } ∧ t.links = { s.links with
          ddl := rest, ddlTries := 0, lastGood := some s.now
          arrived := if x = .heartbeat then s.links.arrived else s.links.arrived ++ [x] })
      ∧ (s.links.ddlTries < 4 → ∃ t, exec (.ddlTransfer false) s = .next t ∧ t.links = { s.links with ddlTries := s.links.ddlTries + 1 }
        ∧ t.rf Reg.linkRetry 0 15 0 = min 65535 (s.rf Reg.linkRetry 0 15 0 + 1)
        ∧ t = { s with links := t.links, regs := t.regs, hwSet := t.hwSet, pins := t.pins })
      ∧ (4 ≤ s.links.ddlTries → ∃ t, exec (.ddlTransfer false) s = .next t ∧ t.links.ddlTries = 0
        ∧ s.Emits t 2 5 0x4FF 0 ∧ (∀ m, x = .message m → x ∈ t.links.ddl) ∧ t.clu = s.clu ∧ t.mem = s.mem ∧ t.prd = s.prd))
    ∧ (Xfer.release ∈ s.links.arrived →
      let off : Bool := !s.coll.lineA && !s.coll.lineB && s.sys.vbat
      exec .ddlRelease s = .next ({ s with
        links := { s.links with ddl := s.links.ddl ++ [.relAnswer off], arrived := s.links.arrived.erase .release }
        drv := { s.drv with safe := s.drv.safe && !off } } : State).settle)
    ∧ (s.links.arrived = [.relAnswer true] → s.coll.relPend = true → s.coll.lineA = false → s.coll.lineB = false →
      (∀ w ∈ s.coll.relWait, w.rest = []) → s.coll.relDone = none →
      exec .releaseAnswer s = .next ({ s with
        links := { s.links with arrived := [] }
        coll := { s.coll with
          safe := false, cSC := false, cHost := false, cDrv := false, cGrave := false, cState := false, relPend := false,
          relDone := none, relWait := none }
        host := if s.coll.relWait.any (!·.port) then ⟨.ok, [], 0⟩ else s.host
        mnt := match s.coll.relWait, s.mnt.pend with
          | some ⟨true, _, _, _, _, _, _⟩, pend => { s.mnt with
              pend := none, istat := .ok, iaddr := if pend.any (·.2) then (s.mnt.iaddr + 4) % 2 ^ 40 else s.mnt.iaddr }
          | _, _ => s.mnt } : State).settle)
    ∧ (s.links.arrived = [.relAnswer false] → s.coll.relPend = true → ∃ t, exec .releaseAnswer s = .next t
      ∧ t.coll.lineA = true ∧ t.coll.lineB = true ∧ t.coll.safe = s.coll.safe ∧ t.coll.relPend = false ∧ t.drv.safe = true
      ∧ (∀ w ∈ s.coll.relWait, (w.port = true → t.answer 1 = .busy)
        ∧ (w.port = false → t.host = ⟨.busy, [], w.k⟩))
      ∧ t.pins.quiet = true)

/-- R17, R37, R282, R422: the MDL writes one staged record per transfer at its ring's WP, retries the same one when it was bad and gives
it up after four; an echo that differs takes its line's output to the fault collector and drops it, with EDGE_ECHO. -/
def Obligations.MemoryDieLinkAndEchoes : Prop :=
  ∀ (s : State) (c : Fin 32) (n : Fin 24), s.clocked = true →
    (s.inj.mdlCrc = false → s.trc.coming = [] →
      (s.mdlNext = none → exec (.mdlTransfer true) s
        = .next ({ s with links := { s.links with mdlTries := 0, mdlHead := none } } : State).settle)
      ∧ (∀ (r : Fin 3) (slot : List Nat) (rest : List (List Nat)), s.mdlNext = some (some r) →
        let g := s.trc.ring[r]
        let base := traceBase + s.ringLo r * 2 ^ 20 + g.wp * 64
        let wp := (g.wp + 1) % s.ringSlots r
        let post := g.post.map (· - 1)
        let word (i : Nat) : Nat := slot.getD i 0 + (if i = 0 then bitAt g.loss 13 + g.seq % 2 ^ 24 * 2 ^ 40 else 0)
        g.q = slot :: rest → slot.length = 8 → s.ringEn r = true → g.frozen = false → s.ringFull r = false →
        ∃ t, exec (.mdlTransfer true) s = .next t ∧ t.links = { s.links with mdlTries := 0, mdlHead := none }
          ∧ (∀ i < 8, t.word (base + 8 * i) = BitVec.ofNat 32 (word i)
            ∧ t.word (base + 8 * i + 4) = BitVec.ofNat 32 (word i / 2 ^ 32))
          ∧ (∀ b, b < base ∨ base + 64 ≤ b → t.byte b = s.byte b)
          ∧ t.trc = { s.trc with
              sinceScrub := s.trc.sinceScrub + 1, served := r.val
              ring := s.trc.ring.set r.val { g with
                q := rest, wp := wp, seq := (g.seq + 1) % 2 ^ 24, wrap := g.wrap || decide (wp = 0), loss := false
                post := if post = some 0 then none else post, frozen := decide (post = some 0) } r.isLt }
          ∧ t.clu = s.clu ∧ t.drv = s.drv ∧ t.work = s.work)
      ∧ (s.mdlNext ≠ none → s.links.mdlTries < 4 → ∃ t, exec (.mdlTransfer false) s = .next t
        ∧ t.links = { s.links with mdlTries := s.links.mdlTries + 1, mdlHead := s.mdlNext } ∧ t.mdlNext = s.mdlNext
        ∧ t.rf Reg.linkRetry 0 31 16 = min 65535 (s.rf Reg.linkRetry 0 31 16 + 1)
        ∧ t = { s with links := t.links, regs := t.regs, hwSet := t.hwSet, pins := t.pins })
      ∧ (s.mdlNext ≠ none → 4 ≤ s.links.mdlTries → ∃ t, exec (.mdlTransfer false) s = .next t ∧ t.links.mdlTries = 0
        ∧ s.Emits t 2 5 0x8FF 0 ∧ t.mem = s.mem ∧ t.clu = s.clu ∧ t.drv = s.drv
        ∧ (∀ r : Fin 3, t.trc.ring[r] = if s.mdlNext = some (some r) then { s.trc.ring[r] with q := s.trc.ring[r].q.tail }
            else s.trc.ring[r])
        ∧ t.trc.scrubWait = if s.mdlNext = some none then none else s.trc.scrubWait))
    ∧ (c.val ∉ s.inj.echo →
      exec (.edgeEchoCheck ⟨c.val, by omega⟩ true) s = .next s.settle
      ∧ ∃ t, exec (.edgeEchoCheck ⟨c.val, by omega⟩ false) s = .next t ∧ t.edg.ch[c].owner = 0xF
        ∧ t.pins.ls.getLsbD c.val = false ∧ s.Emits t 2 0x14 (srcLine ⟨c.val, by omega⟩) 0
        ∧ t.edg.ign = s.edg.ign ∧ t.mem = s.mem ∧ t.clu = s.clu)
    ∧ (n.val + 32 ∉ s.inj.echo →
      exec (.edgeEchoCheck ⟨n.val + 32, by omega⟩ true) s = .next s.settle
      ∧ ∃ t, exec (.edgeEchoCheck ⟨n.val + 32, by omega⟩ false) s = .next t
        ∧ t.edg.ign[n].owner = 0xF ∧ t.pins.ign.getLsbD n.val = false ∧ s.Emits t 2 0x14 (srcLine ⟨n.val + 32, by omega⟩) 0
        ∧ t.mem = s.mem ∧ t.clu = s.clu)

/-- R12, R13, R46, R392, R495: a port's write of a register without an action of its own stores what the access codes say: RW bits, RWL
bits while their lock is open, W1C bits cleared by ones but for those that an event of the same TCLK sets, W1S bits set by ones, where no
later source of R392 wrote the register in this TCLK; a value that differs in a locked field is noted and the field stands; a core may not
write these registers; a reserved address is refused and noted. R12, R495: a write of 1 to a lock sets it, no write clears it, and the
fields it covers then keep their value. The driver die's registers stand as they do once the DDL has brought them up to date. That a
misaligned port write ends with ADDRERR without a note, and the order of the checks of an access, are the model's choice (log entry 26).
-/
def Obligations.RegisterWritesAndLocks : Prop :=
  (∀ (s : State) (p : Fin 2) (c : Fin 9) (a : BitVec 40) (v : Word) (i : Nat), s.Writable p →
    let rows : List RegRow := [Reg.whlxPatcfg, Reg.whlxDir, Reg.auxCfg, Reg.whlSyncCfg, Reg.whlThr, Reg.whl0Zero, Reg.whlStop,
      Reg.whlLock, Reg.whlEvt, Reg.whlCnt, Reg.prdCfg, Reg.prdLrn, Reg.prdMass, Reg.prdLock, Reg.ripCfg, Reg.shape, Reg.cluBudget,
      Reg.cluLock, Reg.dwsetTime, Reg.dwsetLim, Reg.dwsetCtl, Reg.psCur0, Reg.psMode, Reg.bnkKerf, Reg.bstCfg, Reg.pairCfg,
      Reg.atrgCfg, Reg.jpCfg, Reg.fabTime, Reg.fabAngcfg, Reg.fltShot, Reg.fltCnt01, Reg.bistCfg, Reg.linkRetry, Reg.trcScrub,
      Reg.hostCfg, Reg.hostStat, Reg.hint0En, Reg.hint1En, Reg.hintJig, Reg.mntCfg]
    let port : Fin 11 := if p = 0 then 9 else 10
    (∀ r ∈ rows, i < r.n1 → (r.base < 0x30000000 ∨ 0x40000000 ≤ r.base ∨ s.measRuns = true) →
      let x := r.addr i 0
      let u := (s.reach x false).1
      exec (.registerWrite ⟨c.val, by omega⟩ (BitVec.ofNat 40 x) v false) s = .next s.settle
      ∧ ((s.reach x false).2 = true → u.hwNow (wroteKey x) < 2 * portRank port →
        let old := u.rg r i 0
        let locked : Bool := u.rowLocked r i
        let open_ : Word := BitVec.ofNat 32 (if locked then r.rw else r.rw ||| r.rwl)
        let clears : Word := BitVec.ofNat 32 (u.w1cOpen x (v.toNat &&& r.w1c))
        let w : Word := (((old &&& ~~~open_) ||| (v &&& open_)) &&& ~~~clears) ||| (v &&& BitVec.ofNat 32 r.w1s)
        let differs : Prop := locked = true ∧ (old ^^^ v) &&& BitVec.ofNat 32 r.rwl ≠ 0
        ∃ t, exec (.registerWrite port (BitVec.ofNat 40 x) v false) s = .next t ∧ t.answer p = .ok ∧ t.rg r i 0 = w
          ∧ (differs → t.rg r i 0 &&& BitVec.ofNat 32 r.rwl = old &&& BitVec.ofNat 32 r.rwl ∧ u.Emits t 0 2 (portSrc port) x)
          ∧ (¬differs → t = { u with
              regs := (u.setRg r i 0 w).regs, hwSet := t.hwSet, prd := { u.prd with heldRegs := t.prd.heldRegs }
              inj := if locked && decide (r.rw ||| r.w1c ||| r.w1s = 0) then u.inj else (u.unflip x).inj
              drv := { u.drv with fresh := t.drv.fresh }, host := t.host, mnt := t.mnt, pins := t.pins })))
    ∧ (a.toNat % 4 = 0 → sramAt a.toNat = none → traceAt a.toNat = none → s.pegAt a.toNat = none →
        s.regAt a.toNat = none → ∃ t, exec (.registerWrite port a v false) s = .next t ∧ t.answer p = .addrerr
          ∧ s.Emits t 0 4 (portSrc port) (a.toNat % 2 ^ 32) ∧ t.mem = s.mem ∧ t.clu = s.clu ∧ t.drv = s.drv)
    ∧ (a.toNat % 4 ≠ 0 → exec (.registerWrite port a v false) s = .next (s.answered p .addrerr).settle))
  ∧ (∀ (s : State) (p : Fin 2) (i : Nat) (b : Bool), s.Writable p →
    let rows : List RegRow := [Reg.whlxCfg, Reg.prdCfg, Reg.ripCfg, Reg.cluBudget, Reg.dwsetTime, Reg.chCfg, Reg.psCur0, Reg.jigCfg,
      Reg.tmrCfg, Reg.fabTime, Reg.fltShot, Reg.bistCfg, Reg.trcScrub, Reg.ringCfg, Reg.hostCfg, Reg.mntCfg, Reg.wakeCfg]
    ∀ r ∈ rows, i < r.n1 →
      let x := lockAddr r i
      let u := (s.reach x false).1
      (s.reach x false).2 = true → b = true ∨ u.rowLocked r i = true →
      ∃ t, exec (.lockSet p (BitVec.ofNat 40 x) (if b then 1 else 0) false) s = .next t ∧ t.answer p = .ok ∧ t.rowLocked r i = true
        ∧ t = { u with regs := t.regs, inj := (u.unflip x).inj, host := t.host, mnt := t.mnt, pins := t.pins })

/-- R112, R113, R161: a read of the word that leads a group answers it live and fixes the others for that reader, and what another
reader reads is its own. A read of any register by a core or a port completes, answers the word, and takes no other reader's shadow.
That a follower read before its lead was ever read answers the reset value is the model's choice (log entry 18). -/
def Obligations.ShadowReads : Prop :=
  (∀ (s u : State), s.clocked = true → u.clocked = true →
    let group : List RegRow := [Reg.prdRate, Reg.prdAcc, Reg.prdTsLo, Reg.prdTsHi, Reg.prdQ, Reg.prdQfr]
    s.coll.relWait = none → u.coll.relWait = none → ∃ t, exec (.shadowRead 9 (BitVec.ofNat 40 Reg.prdAng.base) false) s = .next t
      ∧ t = { s with host := ⟨.ok, [s.regValue 9 Reg.prdAng 0 0], 0⟩, readers := t.readers, pins := t.pins }
      ∧ (∀ q : Fin 11, q ≠ 9 → t.readers[q] = s.readers[q]) ∧ t.readers[9].seen = s.readers[9].seen
      ∧ ∀ r ∈ group, t.readers[9].shadowOf r.base = some (s.regValue 9 r 0 0)
        ∧ exec (.shadowRead 9 (BitVec.ofNat 40 r.base) false) { u with readers := t.readers }
            = .next ({ u with readers := t.readers, host := ⟨.ok, [s.regValue 9 r 0 0], 0⟩ } : State).settle)
  ∧ (∀ (s u : State) (p : Fin 11) (a : BitVec 40) (link : Bool) (r : RegRow) (i j : Nat), s.clocked = true →
    (p = 10 → s.mntMay false = true) → (9 ≤ p.val → s.coll.relWait = none) → a.toNat % 4 = 0 → sramAt a.toNat = none →
    traceAt a.toNat = none → s.pegAt a.toNat = none → s.gatedAt a.toNat = false → s.regAt a.toNat = some (r, i, j) → s.reach a.toNat link = (u, true) →
    u.portChecked r i j 0 = (u, true) →
      ∃ (t : State) (w : Word), exec (.shadowRead p a link) s = .next t
        ∧ (p = 9 → t.host = ⟨.ok, [w], 0⟩) ∧ (p = 10 → t.mnt.istat = .ok ∧ t.mnt.idata = w)
        ∧ (keepsShadow p r j = false → onceShadow r i = false → w = u.regValue p r i j)
        ∧ (keepsShadow p r j = true → w = (u.readers[p].shadowOf (r.addr i j)).getD (shadowReset r))
        ∧ (∀ q : Fin 11, q ≠ p → t.readers[q] = u.readers[q])
        ∧ (r.base ∉ [Reg.modRes.base, Reg.fig.base, Reg.jigRxf.base] →
          t = { u with readers := t.readers, host := t.host, mnt := t.mnt, pins := t.pins }))

/-- R28, R29, R218, R273, R315, R331: a write of an owner register moves an idle unit that nothing else claims in this TCLK, but for the
maintenance port before the host port (R392), to a cluster or the host; a busy or claimed unit or another value changes nothing, ends
busy and is noted as OWNER_BUSY. A write that gives way to an earlier claim of its TCLK ends busy and is noted too. -/
def Obligations.OwnerWrites : Prop :=
  ∀ (s u : State) (p : Fin 2) (v : Word) (c : Fin 32) (n : Fin 24) (m : Fin 40) (e : Fin 8) (k : Fin 16), s.Writable p →
    let o : Nat := v.toNat % 16
    let legal : Prop := o ≤ 8 ∨ o = 12
    let src : Nat := if p = 0 then 0x20F else 0x21F
    let rank : Nat := if p = 0 then 3 else 4
    let busy (u t : State) (addr : Nat) : Prop := t.answer p = .busy ∧ t.edg = u.edg ∧ t.ms = u.ms ∧ t.jig = u.jig ∧ t.tmr = u.tmr
      ∧ t.claims = u.claims ∧ u.Emits t 0 3 src addr
    let claims (u t : State) (addr : Nat) : Prop := t.answer p = .ok ∧ t.drv = u.drv ∧ t.work = u.work ∧ t.mem = u.mem
      ∧ t.mayClaim addr rank = false
      ∧ (p = 0 → ∀ x ∈ u.claimed addr, x.rank = 4 → t.answer 1 = .busy ∧ u.Emits t 0 3 0x21F addr)
    (s.reach (Reg.chanOwner.addr c.val 0) false = (u, true) →
      let may : Prop := legal ∧ u.chIdle c = true ∧ u.mayClaim (Reg.chanOwner.addr c.val 0) rank = true
      (may → ∃ t, exec (.chanOwnerWrite p c v false) s = .next t ∧ claims u t (Reg.chanOwner.addr c.val 0)
        ∧ t.edg = { u.edg with ch := u.edg.ch.set c.val { u.edg.ch[c] with owner := o } c.isLt })
      ∧ (¬may → ∃ t, exec (.chanOwnerWrite p c v false) s = .next t ∧ busy u t (Reg.chanOwner.addr c.val 0)))
    ∧ (s.reach (Reg.ignOwner.addr n.val 0) false = (u, true) →
      let may : Prop := legal ∧ u.ignIdle n = true ∧ u.mayClaim (Reg.ignOwner.addr n.val 0) rank = true
      (may → ∃ t, exec (.ignOwnerWrite p n v false) s = .next t ∧ claims u t (Reg.ignOwner.addr n.val 0)
        ∧ t.edg = { u.edg with ign := u.edg.ign.set n.val { u.edg.ign[n] with owner := o } n.isLt })
      ∧ (¬may → ∃ t, exec (.ignOwnerWrite p n v false) s = .next t ∧ busy u t (Reg.ignOwner.addr n.val 0)))
    ∧ (s.measRuns = true → u = s.windowsNow →
      let may : Prop := legal ∧ u.measIdle m = true ∧ u.mayClaim (Reg.measOwner.addr m.val 0) rank = true
      (may → ∃ t, exec (.measOwnerWrite p m v) s = .next t ∧ claims u t (Reg.measOwner.addr m.val 0)
        ∧ t.ms = { u.ms with owner := u.ms.owner.set m.val o m.isLt })
      ∧ (¬may → ∃ t, exec (.measOwnerWrite p m v) s = .next t ∧ busy u t (Reg.measOwner.addr m.val 0)))
    ∧ (let may : Prop := legal ∧ s.rb Reg.jigCfg e.val 0 = false ∧ s.mayClaim (Reg.jigOwner.addr e.val 0) rank = true
      (may → ∃ t, exec (.jigOwnerWrite p e v) s = .next t ∧ claims s t (Reg.jigOwner.addr e.val 0) ∧ t.jig[e].owner = o
        ∧ t.edg = s.edg ∧ t.ms = s.ms)
      ∧ (¬may → ∃ t, exec (.jigOwnerWrite p e v) s = .next t ∧ busy s t (Reg.jigOwner.addr e.val 0)))
    ∧ (let may : Prop := legal ∧ s.rb Reg.tmrCfg k.val 0 = false ∧ s.mayClaim (Reg.tmrOwner.addr k.val 0) rank = true
      (may → ∃ t, exec (.tmrOwnerWrite p k v) s = .next t ∧ claims s t (Reg.tmrOwner.addr k.val 0)
        ∧ t.tmr = s.tmr.set k.val { s.tmr[k] with owner := o } k.isLt ∧ t.edg = s.edg ∧ t.ms = s.ms)
      ∧ (¬may → ∃ t, exec (.tmrOwnerWrite p k v) s = .next t ∧ busy s t (Reg.tmrOwner.addr k.val 0)))

/-- R35, R283, R284, R435, R439: the host reads and writes the clusters' SRAM and trace memory. A write changes its four bytes and no
other and heals the word; a corrected word is returned, an uncorrectable one is not. A cluster under test, a word that initialisation
has not reached and an enabled ring take no write. That the word index in the message counts within the instruction or the data SRAM is
the model's choice (log entry 52). -/
def Obligations.HostMemory : Prop :=
  ∀ (s : State) (p : Fin 2) (a : BitVec 40) (v : Word) (n : Fin 9),
    let x := a.toNat
    let q : Word := v
    (s.Writable p → x % 4 = 0 → sramAt x = some n →
      (s.clu[n].role ≠ .testing → ∃ t, exec (.clusterSramWrite p a q) s = .next t ∧ t.answer p = .ok ∧ t.word x = q
        ∧ (∀ b, b < x ∨ x + 4 ≤ b → t.byte b = s.byte b) ∧ t.inj.flips = s.inj.flips.filter (fun f => decide (f.1 ≠ x))
        ∧ (Memory.wf s.mem = true → Memory.wf t.mem = true)
        ∧ t = { s with mem := t.mem, inj := t.inj, hwSet := t.hwSet, host := t.host, mnt := t.mnt, pins := t.pins })
      ∧ (s.clu[n].role = .testing → exec (.clusterSramWrite p a q) s = .next (s.answered p .busy).settle))
    ∧ (s.Readable p → x % 4 = 0 → sramAt x = some n → (∀ f ∈ s.inj.flips, f.1 ≠ x) →
      (∃ t, exec (.clusterSramRead p a 0) s = .next t ∧ t.answer p = .ok ∧ t = { s with host := t.host, mnt := t.mnt, pins := t.pins }
        ∧ (p = 0 → t.host.data = [s.word x]) ∧ (p = 1 → t.mnt.idata = s.word x))
      ∧ (∃ t, exec (.clusterSramRead p a 1) s = .next t ∧ t.answer p = .ok
        ∧ (p = 0 → t.host.data = [s.word x]) ∧ (p = 1 → t.mnt.idata = s.word x) ∧ t.mem = s.mem ∧ t.clu = s.clu)
      ∧ (∃ t, exec (.clusterSramRead p a 2) s = .next t ∧ t.answer p = .dataerr ∧ (p = 0 → t.host.data = [])
        ∧ (p = 1 → t.mnt.idata = s.mnt.idata) ∧ s.Emits t 1 1 (n.val * 16 + 15) (x % 0x4000 / 4) ∧ t.mem = s.mem ∧ t.clu = s.clu))
    ∧ (∀ off : Nat, x = 0x100000000 + off → off < 2 ^ 32 → x % 4 = 0 →
      let u := (s.mdlAccess false).1
      (s.inj.mdlCrc = false → s.trc.scrubWait = none ∨ s.trc.sinceScrub < 4095 →
        u = { s with trc := { s.trc with sinceScrub := s.trc.sinceScrub + 1 } }) ∧
      (s.Writable p → (∀ f ∈ s.inj.flips, f.1 ≠ 0x100000000 + off / 8 * 8) →
        (off < s.trc.initMb * 2 ^ 20 → s.inRing off = false → ∃ t, exec (.traceHostWrite p a q 0 false) s = .next t
          ∧ t.answer p = .ok ∧ t.word x = q ∧ (∀ b, b < x ∨ x + 4 ≤ b → t.byte b = s.byte b)
          ∧ (Memory.wf s.mem = true → Memory.wf t.mem = true)
          ∧ t = { u with mem := t.mem, inj := t.inj, host := t.host, mnt := t.mnt, pins := t.pins })
        ∧ (off < s.trc.initMb * 2 ^ 20 → s.inRing off = true → ∃ t, exec (.traceHostWrite p a q 0 false) s = .next t
          ∧ t.answer p = .busy ∧ t.mem = s.mem ∧ s.Emits t 0 0x11 (if p = 0 then 0x20F else 0x21F) off)
        ∧ (s.trc.initMb * 2 ^ 20 ≤ off → exec (.traceHostWrite p a q 0 false) s = .next (s.answered p .busy).settle))
      ∧ (s.Readable p → off < s.trc.initMb * 2 ^ 20 → (∀ f ∈ s.inj.flips, f.1 ≠ 0x100000000 + off / 8 * 8) →
        (∃ t, exec (.traceHostRead p a 0 false) s = .next t ∧ t.answer p = .ok
          ∧ t = { u with host := t.host, mnt := t.mnt, pins := t.pins }
          ∧ (p = 0 → t.host.data = [s.word x]) ∧ (p = 1 → t.mnt.idata = s.word x))
        ∧ (∃ t, exec (.traceHostRead p a 2 false) s = .next t ∧ t.answer p = .dataerr ∧ u.Emits t 1 7 0x800 (off / 8)
          ∧ t.trc = { u.trc with eaddr := off / 8 } ∧ t.mem = s.mem)
        ∧ (∃ t, exec (.traceHostRead p a 0 true) s = .next t ∧ t.answer p = .linkerr ∧ s.Emits t 2 5 0x8FF 0 ∧ t.mem = s.mem)))

/-- R50, R53, R55, R60, R65, R68, R69, R77, R80: a qualified WHL0 edge is taken 12 TCLK after its filter time, in the direction that its
wheel decodes, and gives the input its period; in PROVISIONAL, TOOTH and FULL an edge whose interval lies within half and twice Q
advances the position by one present position, and another is a suspect, or in PROVISIONAL the end of the quick start; in NOSYNC the
matcher's unique position gives TOOTH, or FULL on a two-stroke engine. R54, R64, R70, R71, R78, R82: a pulse end that decodes another
direction relabels the tooth, two positions from where it was put; past the deadline of a missing tooth the logic puts a dowel tooth in
its place, a second bad one within the window drops the sync; without an edge for STOPMS the sync drops, and the end of a coast leaves
its position in the scribe record, with the directions of its edges as they were decoded. That RATEV is set at the edge at which the
matcher becomes unique (log entry 38), that a relabelled tooth moves two positions, that a reverse tooth is the one left behind, the 12
TCLK behind FLT, and the tooth at which a coast begins as one of its edges are the model's choices (log entries 36, 79, 64 and 93). -/
def Obligations.CrankEdgesAndTeeth : Prop :=
  (∀ (s : State) (ts : Nat) (lvl : Bool), s.clocked = true → s.sys.vio[1] = true →
    let c := ((s.advanceTo (ts + s.fltOf 0 + 12)).caughtUp).phaseLevel 0 lvl
    let x := s.whl.whl[0]
    let rev := c.edgeRev 0
    let d : Option Nat := x.last.map fun l => ts - l
    let m : Matcher := c.matchStep c.whl.m rev d
    (s.live = true → s.rb Reg.whlxCfg 0 0 = true → (∀ l ∈ x.last, l < ts) → ∃ t, exec (.crankEdge ts lvl) s = .next t
      ∧ t.whl.whl[0] = { x with
          last := some ts, dir := rev
          per := (match x.last with | some l => min (ts - l) 0x3FFFFFFF | none => x.per), val := x.val || x.last.isSome }
      ∧ ts + s.fltOf 0 + 12 ≤ t.now ∧ s.now ≤ t.now ∧ t.mem = s.mem ∧ t.sys = s.sys
      ∧ (∀ q : Fin 3, q ≠ 0 → t.whl.whl[q] = s.whl.whl[q])
      ∧ (rev = c.whl.rev → c.whl.sync ≠ .nosync → c.whl.susp = none →
        let fits : Prop := c.prd.stage = .running → ∀ q ∈ c.qNew, q ≤ 2 * (16 * ts - c.whl.tooth) ∧ 16 * ts - c.whl.tooth ≤ 2 * q
        (fits → t.whl.pos = c.nextPos rev c.whl.pos)
        ∧ (¬fits → c.whl.sync ≠ .provisional → t.whl.susp = some (16 * ts) ∧ t.whl.pos = c.whl.pos ∧ t.whl.sync = c.whl.sync)
        ∧ (¬fits → c.whl.sync = .provisional → t.whl.sync = .nosync))
      ∧ (rev = c.whl.rev → c.whl.sync = .nosync → c.prd.noInst = false → c.whl.firstAfterWake = false →
        (∀ p ∈ m.unique, t.whl.pos = p ∧ t.whl.sync = (if c.rb Reg.whlSyncCfg 0 0 then .full else .tooth)
          ∧ t.whl.ratev = decide (c.prd.stage ≠ .none))
        ∧ (m.unique = none → t.whl.sync = .nosync ∧ t.whl.m = m)))
    ∧ (s.live = false ∨ s.rb Reg.whlxCfg 0 0 = false ∨ (∃ l ∈ x.last, ts ≤ l) → exec (.crankEdge ts lvl) s = .next s.settle))
  ∧ (∀ (s : State) (n : Fin 3) (width : Nat), s.clocked = true → s.sys.vio[1] = true →
    let x := s.whl.whl[n]
    let rev := s.widthRev n width
    let on : Prop := s.live = true ∧ s.rb Reg.whlxCfg n.val 0 = true ∧ s.rf Reg.whlxCfg n.val 19 18 = 1
    (¬on ∨ x.last = none → exec (.pulseEndRelabel ⟨n, width⟩) s = .next s.settle)
    ∧ (on → ∀ l ∈ x.last,
      let c := (s.advanceTo (l + width + s.fltOf n + 8)).caughtUp
      (x.dir = rev → exec (.pulseEndRelabel ⟨n, width⟩) s = .next c.settle)
      ∧ (x.dir ≠ rev → n ≠ 0 → exec (.pulseEndRelabel ⟨n, width⟩) s
          = .next ({ c with whl := { c.whl with whl := c.whl.whl.set n.val { x with dir := rev } n.isLt } } : State).settle)
      ∧ (x.dir ≠ rev → n = 0 → ∃ t, exec (.pulseEndRelabel ⟨n, width⟩) s = .next t ∧ t.whl.whl[0] = { x with dir := rev }
        ∧ t.whl.rev = rev ∧ (rev = true → c.whl.rev = false → c.Emits t 1 0x1E (srcC 0 9 0xF) 0) ∧ t.mem = s.mem ∧ t.sys = s.sys
        ∧ (c.whl.sync = .tooth ∨ c.whl.sync = .full → c.whl.susp = none →
          t.whl.pos = c.nextPos rev (c.nextPos rev c.whl.pos) ∧ t.whl.ratev = false))))
  ∧ (∀ (s : State), s.clocked = true → s.live = true →
    (s.whl.sync ≠ .nosync → s.prd.stage = .running → ∀ q ∈ s.qNew, s.whl.susp = none →
      let dl := (16 * s.whl.tooth + (20 + min 12 (s.rf Reg.whlThr 0 3 0)) * q + 255) / 256
      let c := (s.advanceTo dl).caughtUp
      let p := c.nextPos c.whl.rev c.whl.pos
      (s.whl.bad = none → s.whl.sync ≠ .provisional → ∃ t, exec .dowelTooth s = .next t ∧ t.whl.pos = p ∧ t.whl.sync = s.whl.sync
        ∧ t.whl.tooth = s.whl.tooth + q ∧ t.whl.bad = some ⟨true, max 2 (s.rf Reg.whlThr 0 8 4)⟩
        ∧ dl ≤ t.now ∧ c.Emits t 0 0x19 (srcC 0 9 0xF) (p % 1024) ∧ t.mem = s.mem)
      ∧ (s.whl.bad ≠ none ∨ s.whl.sync = .provisional → ∃ t, exec .dowelTooth s = .next t ∧ t.whl.sync = .nosync
        ∧ t.whl.bad = none ∧ c.Emits t 0 0x19 (srcC 0 9 0xF) (p % 1024)))
    ∧ (∀ l ∈ s.whl.whl[0].last, s.whl.sync ≠ .nosync ∨ s.whl.coast = true →
      let dl := l + (max 100 (min 4000 (s.rf Reg.whlStop 0 11 0))) * 250000
      let c := (s.advanceTo dl).caughtUp
      let old : Scribe := c.ao.scribeNext.getD c.ao.scribe
      ∃ t, exec .stopTimeout s = .next t ∧ t.whl.sync = .nosync ∧ dl ≤ t.now ∧ t.mem = s.mem
        ∧ (s.whl.coast = true → t.whl.coast = false ∧ ∃ r, t.ao.scribeNext = some r ∧ r.valid = true ∧ r.edges = old.edges
          ∧ r.dirk = c.whl.coastDirk ∧ r.nextpos = if c.whl.coastRev then c.whl.coastPos else c.nextPos false c.whl.coastPos)))

/-- R53, R55, R56, R60, R64, R66, R67, R76, R88: a cam edge gives its input a period and a direction; on the phase source it decides
HALF and gives FULL, and in FULL it is held against the pattern; a cycle without it is noted; an AUX edge counts; a wheel is enabled
only with a sound pattern, and disabling WHL0 or RESYNC drops the sync. That a cam edge acts 8 TCLK after FLT, and the wheel in the
source of the cam messages, are the model's choices (log entries 64 and 37). -/
def Obligations.PhaseAuxAndWheelCommands : Prop :=
  ∀ (s : State) (ts : Nat) (lvl : Bool) (cam : Fin 2) (n : Fin 3) (m : Fin 2) (p : Fin 2) (v : Word),
    s.clocked = true → s.live = true →
    let a := s.whl.aux[m]
    let port : Fin 11 := if p = 0 then 9 else 10
    (s.sys.vio[1] = true → n.val = cam.val + 1 → s.rb Reg.whlxCfg n.val 0 = true → (∀ l ∈ s.whl.whl[n].last, l < ts) →
      let c := ((s.advanceTo (ts + s.fltOf n + 8)).caughtUp).phaseLevel n lvl
      let x := c.whl.whl[n]
      let e : State := { c with whl := { c.whl with whl := c.whl.whl.set n.val { x with
        last := some ts, dir := c.edgeRev n
        per := (match x.last with | some l => min (ts - l) 0x3FFFFFFF | none => x.per), val := x.val || x.last.isSome } n.isLt } }
      (c.phaseWheel ≠ some n → exec (.camEdge cam ⟨ts, lvl⟩) s = .next e.settle)
      ∧ (c.phaseWheel = some n → ∃ t, exec (.camEdge cam ⟨ts, lvl⟩) s = .next t ∧ t.whl.whl = e.whl.whl
        ∧ ts + s.fltOf n + 8 ≤ t.now ∧ t.whl.pos = e.whl.pos ∧ t.mem = s.mem
        ∧ (e.whl.sync = .nosync ∨ e.whl.sync = .provisional ∨ e.segAt ts = none → t.whl.sync = e.whl.sync)
        ∧ (∀ g ∈ e.segAt ts,
          let d := e.patWords n
          let at_ := d.segAng g (16 * ts)
          let θ := (d.prd.seg.getD g).θ
          let half : Option Bool := (d.camHalf n at_).map fun h =>
            if d.rb Reg.whlSyncCfg 0 0 then false else d.carryHalf (wrapHalf d.cyc256 (at_ - θ)) h
          let near : Prop := ∃ y ∈ d.camEntries n, ((wrapHalf d.cyc256 (at_ - 256 * (y : Int))).natAbs : Int) ≤ d.camTol
          (e.whl.sync = .tooth → (∀ h ∈ half, t.whl.sync = .full ∧ t.whl.half = h) ∧ (half = none → t.whl.sync = .tooth))
          ∧ (e.whl.sync = .full → near → e.whl.phscr = false → t.whl.sync = .full ∧ t.whl.camMis = 0)
          ∧ (e.whl.sync = .full → ¬near → d.Emits t 1 0x1C (srcC 0 9 n.val) 0))))
    ∧ (s.sys.vio[1] = true → s.rb Reg.auxCfg m.val 0 = true → (∀ l ∈ a.last, l < ts) → ∃ t, exec (.auxEdge m ts) s = .next t
      ∧ t.whl.aux[m].last = some ts ∧ t.whl.aux[m].cnt = a.cnt + 1
      ∧ t.whl.aux[m].per = (match a.last with | some l => min (ts - l) 0x3FFFFFFF | none => a.per)
      ∧ t = { s with now := t.now, ao := t.ao, regs := t.regs, whl := { s.whl with aux := t.whl.aux }, pins := t.pins })
    ∧ (s.whl.sync = .full → s.phaseWheel = some n → ∃ t, exec .camMissing s = .next t
      ∧ s.Emits t 1 0x1D (srcC 0 9 n.val) 0 ∧ t.whl = s.whl ∧ t.prd = s.prd ∧ t.mem = s.mem)
    ∧ (s.Writable p → s.rowLocked Reg.whlxCfg n.val = false →
      let x := Reg.whlxCfg.addr n.val 0
      let old := s.rg Reg.whlxCfg n.val 0
      let word (v : Word) : Word := (old &&& ~~~0x1FFF7F) ||| (v &&& 0x1FFF7F)
      s.hwNow (wroteKey x) < 2 * portRank port →
      (s.rb Reg.whlxCfg n.val 0 = false → (∀ q : Fin 3, q ≠ n → s.rb Reg.whlxCfg q.val 0 = false) →
        let u := (((s.hw (wroteKey x) (portRank port)).setRg Reg.whlxCfg n.val 0 (word (v ||| 1))).unflip x).patWords n
        ∃ t, exec (.whlEnable p n v) s = .next t ∧ t.answer p = .ok
          ∧ (u.patternFault n = none → t.rg Reg.whlxCfg n.val 0 = word (v ||| 1) ∧ t.coll = u.coll ∧ t.whl = s.whl)
          ∧ (∀ k ∈ u.patternFault n, t.rb Reg.whlxCfg n.val 0 = false
            ∧ u.Emits t 1 0x18 (srcC 0 9 n.val) (k.2 % 1024 + k.1 * 1024)))
      ∧ (∃ t, exec (.whlDisable p n v) s = .next t ∧ t.answer p = .ok ∧ t.rg Reg.whlxCfg n.val 0 = word (v &&& ~~~1)
        ∧ (n = 0 → s.rb Reg.whlxCfg 0 0 = true → t.whl.sync = .nosync) ∧ (n ≠ 0 → t.whl = s.whl) ∧ t.mem = s.mem))
    ∧ (s.Writable p → ∃ t, exec (.resync p) s = .next t ∧ t.answer p = .ok ∧ t.whl.sync = .nosync ∧ t.whl.m = s.whl.m
      ∧ t.mem = s.mem)

/-- R100, R104, R105, R107 to R110: a residue failure of the active predictor swaps to the checker, of the checker retires it, of both
or of the only one leaves none and drops the sync; a disagreement of sound results stops learning; the gains and the map take host
writes where learning allows them, come into use at the next accepted tooth, and note MAP_BUSY elsewhere; CLEAR zeroes the map. Which
instance PRED_FAIL names when both fail, that every disagreement discards a waiting map update, and when an injected residue acts and a
retired instance returns, are the model's choices (log entries 81, 91 and 39). -/
def Obligations.PredictorsAndMap : Prop :=
  ∀ (s : State) (p : Fin 2) (i : Fin 24) (j : Fin 1024) (v : Word), s.clocked = true →
    let a := s.prd.act
    let src (b : Bool) : Nat := if b then 0x0A1 else 0x0A0
    let port : Nat := if p = 0 then 0x20F else 0x21F
    let rank : Nat := portRank (if p = 0 then 9 else 10)
    (∀ l ∈ s.prd.shadow, exec .mapShadowDone s = .next ({ s with prd := { s.prd with shadowDone := true } } : State).settle)
    ∧ (s.prd.noInst = false → s.prd.chkon = true →
      (∃ t, exec (.predictorCheckFail true false) s = .next t ∧ t.prd.act = !a ∧ t.prd.retA = (s.prd.retA || !a)
        ∧ t.prd.retB = (s.prd.retB || a) ∧ t.prd.chkon = false ∧ t.whl = s.whl ∧ t.prd.seg = s.prd.seg ∧ s.Emits t 1 0x20 (src a) 0)
      ∧ (∃ t, exec (.predictorCheckFail false true) s = .next t ∧ t.prd.act = a ∧ t.prd.retA = (s.prd.retA || a)
        ∧ t.prd.retB = (s.prd.retB || !a) ∧ t.prd.chkon = false ∧ t.whl = s.whl ∧ t.prd.seg = s.prd.seg
        ∧ s.Emits t 1 0x21 (src (!a)) 0)
      ∧ (∃ t, exec (.predictorCheckFail true true) s = .next t ∧ t.prd.noInst = true ∧ t.prd.retA = true ∧ t.prd.retB = true
        ∧ t.whl.sync = .nosync ∧ t.whl.ratev = false ∧ t.prd.rate = 0 ∧ s.Emits t 2 0x23 (src a) 0)
      ∧ (∃ t, exec (.predictorCheckFail false false) s = .next t ∧ t.prd.noLearn = 2 ∧ t.prd.shadow = none ∧ t.prd.act = a
        ∧ t.prd.chkon = true ∧ t.whl = s.whl ∧ s.Emits t 2 0x22 (src a) 0))
    ∧ (s.prd.noInst = false → s.prd.chkon = false → ∃ t, exec (.predictorCheckFail true false) s = .next t
        ∧ t.prd.noInst = true ∧ t.whl.sync = .nosync ∧ t.mem = s.mem)
    ∧ (s.Writable p →
      let written (t : State) (r : RegRow) (k : Nat) (w : Word) : Prop := t.answer p = .ok ∧ t.rg r k 0 = w ∧ t.pw r k = s.pw r k
        ∧ t = { s with
            regs := (s.setRg r k 0 w).regs, hwSet := t.hwSet, inj := (s.unflip (r.addr k 0)).inj
            prd := { s.prd with heldRegs := t.prd.heldRegs }, host := t.host, mnt := t.mnt, pins := t.pins }
      (s.gainWritable = true → s.hwNow (wroteKey (Reg.ripGain.addr i.val 0)) < 2 * rank →
        ∃ t, exec (.ripGainWrite p i v) s = .next t
          ∧ written t Reg.ripGain i.val ((s.rg Reg.ripGain i.val 0 &&& ~~~0xFFFFFF) ||| (v &&& 0xFFFFFF)))
      ∧ (s.gainWritable = false → ∃ t, exec (.ripGainWrite p i v) s = .next t ∧ t.answer p = .busy ∧ t.prd = s.prd
        ∧ t.rg Reg.ripGain i.val 0 = s.rg Reg.ripGain i.val 0 ∧ s.Emits t 0 0x1F port (Reg.ripGain.addr i.val 0))
      ∧ (s.mapWritable = true → s.hwNow (wroteKey (Reg.toothmap.addr j.val 0)) < 2 * rank →
        ∃ t, exec (.toothMapWrite p j v) s = .next t
          ∧ written t Reg.toothmap j.val ((s.rg Reg.toothmap j.val 0 &&& ~~~0xFFFFFFF)
            ||| (if j = 0 then v &&& 0xFF00000 else v &&& 0xFFFFFFF)))
      ∧ (s.mapWritable = false → ∃ t, exec (.toothMapWrite p j v) s = .next t ∧ t.answer p = .busy ∧ t.prd = s.prd
        ∧ t.rg Reg.toothmap j.val 0 = s.rg Reg.toothmap j.val 0 ∧ s.Emits t 0 0x1F port (Reg.toothmap.addr j.val 0))
      ∧ (s.mapWritable = true → ∃ t, exec (.mapClear p) s = .next t ∧ t.answer p = .ok
        ∧ t = { s with
            regs := t.regs, hwSet := t.hwSet, inj := t.inj, prd := { s.prd with heldRegs := t.prd.heldRegs }, host := t.host
            mnt := t.mnt, pins := t.pins }
        ∧ ∀ k : Fin 1024, t.rg Reg.toothmap k.val 0 = 0 ∧ t.pw Reg.toothmap k.val = s.pw Reg.toothmap k.val)
      ∧ (s.mapWritable = false → ∃ t, exec (.mapClear p) s = .next t ∧ t.answer p = .busy
        ∧ t.rg Reg.toothmap j.val 0 = s.rg Reg.toothmap j.val 0 ∧ s.Emits t 0 0x1F port Reg.prdMapCtl.base))

/-- R63, R79, R86, R123, R134, R141, R422: 16 TCLK before its instant an aimed peg, or a coil in dwell, whose line is free commits; a
reverse movement, and fuel suppression for a fuel peg, keeps it off the lines; a peg that the sync does not allow goes, or brings its
coil down; a held target skips the peg, or brings the coil down. R138, R140, R225: at its lead a committed peg drives its line: an ON
peg with its selection acknowledged, which holds a line that was active inactive for 4 TCLK first, an OFF peg while the line is active,
a coil up for its dwell and down for its spark; an ON peg without its selection leaves the line and is reported. That a hold of the
target goes before FUELSUP, and what becomes of a peg whose line is not free, are the model's choice (log entry 82). -/
def Obligations.PegCommitsAndDrives : Prop :=
  (∀ (s : State) (w : Fin 9) (k : Fin 32), s.clocked = true → s.schedLive w = true →
    let p := s.work[w].slots[k]
    p.st = .aimed ∨ p.st = .dwelling → p.resBad = false → ∀ i ∈ p.inst,
      let c := (s.advanceTo (i / 16 - 16)).caughtUp
      let may : Prop := c.whl.rev = true ∨ c.mayFire p = true
      c.lineFree w k i ≤ i →
      (c.pegHeld p = false → may → ∃ t, exec (.pegCommit w k) s = .next t ∧ i / 16 - 16 ≤ t.now ∧ s.now ≤ t.now
        ∧ t.work[w].slots = c.work[w].slots.set k.val { p with
            st := .committed, spark := decide (p.st = .dwelling), mirBad := false
            mute := if c.whl.rev || (c.whl.fuelSup && (decide (p.kind = 1) || decide (p.kind = 2))) then 1 else 0 } k.isLt
        ∧ t = { c with work := t.work, pins := t.pins }
        ∧ ∀ v : Fin 9, v ≠ w → t.work[v] = c.work[v])
      ∧ (c.pegHeld p = false → ¬may → p.st = .aimed → ∃ t, exec (.pegCommit w k) s = .next t ∧ t.work[w].slots[k].st = .free
        ∧ t.work[w].slots[k].last = (if c.sync = .provisional then 3 else 5) ∧ t.drv = c.drv ∧ t.mem = s.mem)
      ∧ (c.pegHeld p = false → ¬may → p.st = .dwelling → ∀ n ∈ p.ign, ∃ t, exec (.pegCommit w k) s = .next t
        ∧ t.work[w].slots[k] = { p with st := .softoff, reason := 4, spark := false, inst := none, mirBad := false }
        ∧ t.links.ddl = c.links.ddl ++ [.softoff n] ∧ t.drv = c.drv ∧ t.mem = s.mem)
      ∧ (c.pegHeld p = true → p.st = .aimed → ∃ t, exec (.pegCommit w k) s = .next t ∧ t.work[w].slots[k].st = .free
        ∧ t.work[w].slots[k].last = 3 ∧ t.edg.ign = c.edg.ign ∧ t.drv = c.drv ∧ t.mem = s.mem)
      ∧ (c.pegHeld p = true → p.st = .dwelling → ∀ n ∈ p.ign, ∃ t, exec (.pegCommit w k) s = .next t
        ∧ t.work[w].slots[k] = { p with st := .softoff, reason := 6, spark := false, inst := none, mirBad := false }
        ∧ t.links.ddl = c.links.ddl ++ [.softoff n] ∧ t.drv = c.drv ∧ t.mem = s.mem))
  ∧ (∀ (s : State) (w : Fin 9) (k : Fin 32), s.clocked = true →
    let p := s.work[w].slots[k]
    p.st = .committed → p.mute = 0 → ∀ i ∈ p.inst,
      let u := (s.advanceTo (i / 16 - s.leadOf p)).caughtUp
      (∀ c ∈ p.ach, p.kind = 1 ∨ p.kind = 3 →
        (u.edg.ch[c].ack = .ok p.seq → ∃ t, exec (.pegDrive w k) s = .next t ∧ t.edg.ch[c].line = true
          ∧ (∀ x, t.now ≤ x → ({ t with now := x } : State).edgeLevel c = (!u.edg.ch[c].line || decide (t.now + 4 ≤ x)))
          ∧ t.edg.ch[c].lastCmd = some i ∧ t.work[w].slots[k] = { p with st := .driven, mirBad := false }
          ∧ (∀ d : Fin 32, d ≠ c → t.edg.ch[d] = u.edg.ch[d]) ∧ t.edg.ign = u.edg.ign ∧ t.drv = u.drv ∧ t.coll = u.coll)
        ∧ (u.edg.ch[c].ack ≠ .ok p.seq → ∃ t, exec (.pegDrive w k) s = .next t ∧ t.edg.ch[c].line = u.edg.ch[c].line
          ∧ t.work[w].slots[k] = { p with st := .driven, mute := 3, mirBad := false }
          ∧ u.Emits t 1 (if u.edg.ch[c].ack = .bad p.seq then 0x17 else 0x16) (srcLine ⟨c.val, by omega⟩)
            (k.val + p.seq % 4096 * 32 + p.owner % 4096 * 2 ^ 17)))
      ∧ (∀ c ∈ p.ach, p.kind = 2 ∨ p.kind = 4 →
        (u.edgeLevel c = true → ∃ t, exec (.pegDrive w k) s = .next t
          ∧ t.edg = { u.edg with ch := u.edg.ch.set c.val { u.edg.ch[c] with line := false, lastCmd := some i } c.isLt }
          ∧ t.drv = { u.drv with ch := u.drv.ch.set c.val { u.drv.ch[c] with offPend := true } c.isLt }
          ∧ t.work[w].slots[k] = { p with st := .driven, mirBad := false } ∧ t.links = u.links ∧ t.coll = u.coll)
        ∧ (u.edgeLevel c = false → ∃ t, exec (.pegDrive w k) s = .next t ∧ t.edg = u.edg ∧ t.drv = u.drv
          ∧ t.work[w].slots[k] = { p with st := .driven, mute := 4, mirBad := false }))
      ∧ (∀ n ∈ p.ign, ∃ t, exec (.pegDrive w k) s = .next t
        ∧ t.edg = { u.edg with ign := u.edg.ign.set n.val { u.edg.ign[n] with line := !p.spark, lastCmd := some i } n.isLt }
        ∧ t.work[w].slots[k] = { p with st := .driven, mirBad := false } ∧ t.links = u.links ∧ t.coll = u.coll
        ∧ t.drv = if p.spark then u.drv
          else { u.drv with ign := u.drv.ign.set n.val (u.drv.ign[n].takeSoft p.seq) n.isLt })
      ∧ (p.kind = 6 ∨ p.kind = 7 ∨ p.kind = 8 → ∃ t, exec (.pegDrive w k) s = .next t
        ∧ t.work[w].slots[k] = { p with st := .driven, mirBad := false } ∧ t.edg = u.edg ∧ t.ms = u.ms ∧ t.jig = u.jig))

/-- R118, R132, R134, R136, R140, R142, R143, R162, R246, R261, R264, R306: at its instant a peg takes effect, its slot becomes free with
its outcome, and a coil's dwell begins, which the driver die ignores while it drives nothing. A WIN_OPEN peg opens its window from the
first grid angle at or after its ANGLE, with the configuration latched, a WIN_CLOSE peg closes it at the last grid angle before its ANGLE,
and either meets the other state with a note; of a WIN_CLOSE and a WIN_OPEN of one TCLK the close is applied first, whichever row comes
first; a JIG peg ends its engine's WAITG, one that TRGL ended in its SVCLK included, or sets the trigger latch, or is counted as an
overrun. That CYC steps at WIN_OPEN, and how a close after a cycle or more finds its end, are the model's choices (log entries 27 and 92).
A suppressed peg, a peg of a held target and a window peg of a gated region are skipped. -/
def Obligations.PegsFire : Prop :=
  ∀ (s : State) (w : Fin 9) (k : Fin 32), s.clocked = true →
    let p := s.work[w].slots[k]
    ∀ i ∈ p.inst,
    let at_ : Nat := if p.ach.isSome || p.ign.isSome then s.placed i else i -- only an edge is rounded without vernier placement
    let u := (s.advanceTo (at_ / 16)).caughtUp
    let ended (t : State) : Prop := t.work[w].slots[k].st = .free ∧ t.work[w].slots[k].last = (if p.late.isNone then 1 else 2)
      ∧ t.work[w].slots[k].seq = p.seq ∧ t.mem = s.mem ∧ t.clu = s.clu
    let noteCtx : Nat := k.val + p.seq % 4096 * 32 + p.owner % 4096 * 2 ^ 17
    (p.st = .driven → p.mute = 0 →
      (∀ c ∈ p.ach, p.kind = 1 ∨ p.kind = 3 → p.reason = 0 → ∃ t, exec (.pegFire w k) s = .next t ∧ ended t
        ∧ t.edg.ch[c].fire = some (at_) ∧ t.drv.ch[c].startPend = true ∧ t.drv.ch[c].offPend = false
        ∧ t.edg.ch[c].line = u.edg.ch[c].line ∧ at_ / 16 ≤ t.now
        ∧ t.edg.ch[c].due = u.edg.ch[c].due ++ (if u.clsEn c then [⟨p.seq, p.owner, w, at_⟩] else []))
      ∧ (∀ c ∈ p.ach, p.kind = 2 ∨ p.kind = 4 → ∃ t, exec (.pegFire w k) s = .next t ∧ ended t ∧ t.edg = u.edg ∧ t.drv = u.drv)
      ∧ (∀ n ∈ p.ign, p.spark = true → ∃ t, exec (.pegFire w k) s = .next t ∧ ended t ∧ t.edg = u.edg
        ∧ t.drv = (if u.drv.ign[n].gate = true ∧ u.drv.ign[n].soft = none then { u.drv with
            ign := u.drv.ign.set n.val { u.drv.ign[n] with gate := false, sparkAt := some u.now } n.isLt } else u.drv)
        ∧ t.pins.ign.getLsbD n.val = false)
      ∧ (∀ n ∈ p.ign, p.spark = false → p.reason = 0 →
        let on : Bool := u.rb Reg.ignCfg n.val 0 && !u.drvOff && !u.ignHeld n
        ∃ t, exec (.pegFire w k) s = .next t
        ∧ t.work[w].slots[k].tD = some (at_) ∧ t.work[w].slots[k].last = p.last
        ∧ t.drv.ign[n] = { u.drv.ign[n] with
            gate := on, seq := p.seq, owner := p.owner, dwellAt := if on then some u.now else none, sparkAt := none }
        ∧ t.edg.ch = u.edg.ch ∧ t.mem = s.mem)
      ∧ (∀ v ∈ p.win, (s.measRuns = true → ∃ t, exec (.pegFire w k) s = .next t ∧ ended t ∧ t.edg = u.edg ∧ t.drv = u.drv)
        ∧ (s.measRuns = false → ∃ t, exec (.pegFire w k) s = .next t ∧ t.work[w].slots[k].st = .free
          ∧ t.work[w].slots[k].last = 3 ∧ t.ms.win = u.ms.win
          ∧ t.rf Reg.sysGate 0 31 16 = min 65535 (u.rf Reg.sysGate 0 31 16 + 1)))
      ∧ (∀ v ∈ p.win, s.measRuns = true →
        let z := u.advanceTo ((at_ + 8) / 16)
        let x := z.ms.win[v]
        let cyc5 : Int := 5 * z.cycle
        -- a bound of the window in fifths of an at from TDC, and its grid step
        let lap (y : Int) : Int := wrapHalf cyc5 y
        let grid (cfg : Word) : Int := match fld cfg 5 4 with
          | 0 => 8192 | 1 => 16384 | 2 => 40960 | _ => 81920
        (p.kind = 6 → x.isOpen = false → z.ms.owner[24 + v.val] ≠ 15 → ∃ t, exec (.pegFire w k) s = .next t
          ∧ t.ms.win[v].cyc = (x.cyc + 1) % 65536 ∧ t.ms.win[v].runs.dropLast = x.runs
          ∧ (∃ y ∈ t.ms.win[v].runs.getLast?, y.angle = p.angle ∧ y.cfg = z.rg Reg.winCfg v ∧ y.tdc = z.rf Reg.winTdc v 23 0
            ∧ y.peg = z.rf Reg.winPeg v 23 0 ∧ y.mot = z.rf Reg.winMot v 23 0 ∧ y.knk = z.rg Reg.winKnk v ∧ y.hr = z.rf Reg.winHr v 15 0
            ∧ y.mis = z.rg Reg.winMis v ∧ y.pts = [] ∧ y.openAt = z.now ∧ t.ms.win[v].isOpen = !y.long
            ∧ lap (5 * ((p.angle : Int) - y.tdc)) ≤ y.k0 * grid y.cfg ∧ (y.k0 - 1) * grid y.cfg < lap (5 * ((p.angle : Int) - y.tdc)))
          ∧ ∀ j : Fin 16, j ≠ v → t.ms.win[j] = z.ms.win[j])
        ∧ (p.kind = 7 → x.isOpen = true → (∀ y ∈ x.runs.getLast?, y.openAt ≠ z.now) → ∀ o ∈ x.reopen, o.1 = z.now → z.ms.owner[24 + v.val] ≠ 15 →
          ∃ t, exec (.pegFire w k) s = .next t ∧ t.ms.win[v].cyc = (x.cyc + 1) % 65536
            ∧ ∃ y ∈ t.ms.win[v].runs.getLast?, y.angle = o.2 ∧ y.openAt = z.now ∧ t.ms.win[v].isOpen = !y.long)
        ∧ (p.kind = 7 → x.isOpen = true → (∀ y ∈ x.runs.getLast?, y.openAt ≠ z.now) → (∀ y ∈ x.reopen, y.1 ≠ z.now) → ∃ t, exec (.pegFire w k) s = .next t
          ∧ t.ms.win[v].isOpen = false
          ∧ (∀ y ∈ x.runs.getLast?,
            -- the ANGLE as it lies nearest to the grid angle that is placed next
            let first : Int := lap (5 * ((y.angle : Int) - y.tdc)) + (5 * ((p.angle : Int) - y.angle)) % cyc5
            let end_ : Int := first + max 0 ((2 * (y.nextK * grid y.cfg - first) + cyc5) / (2 * cyc5)) * cyc5
            ∃ y' ∈ t.ms.win[v].runs ++ (t.ms.ends.filter fun q => decide (q.1 = v)).map (·.2), y'.cfg = y.cfg ∧ y'.cyc = y.cyc
              ∧ y'.k0 = y.k0 ∧ y'.pref = z.rg Reg.winPref v ∧ ∃ n ∈ y'.endK, (∀ q ∈ y'.placed, q.1 ≤ n)
              ∧ n * grid y.cfg < end_ ∧ n ≤ y.k0 + 4095 ∧ (n = y.k0 + 4095 ∨ end_ ≤ (n + 1) * grid y.cfg))
          ∧ ∀ j : Fin 16, j ≠ v → t.ms.win[j] = z.ms.win[j])
        ∧ (p.kind = (if x.isOpen then 6 else 7) → ∃ t, exec (.pegFire w k) s = .next t
          ∧ t.ms = (if x.isOpen then { z.ms with win := z.ms.win.set v { x with reopen := some (z.now, p.angle) } } else z.ms)
          ∧ u.Emits t 0 0xC (0x120 + v.val) 0)
        ∧ (p.kind = 7 → x.isOpen = true → ∀ y ∈ x.runs.getLast?, y.openAt = z.now → ∃ t, exec (.pegFire w k) s = .next t
          ∧ t.ms = z.ms ∧ u.Emits t 0 0xC (0x120 + v.val) 0))
      ∧ (∀ e ∈ p.jig,
        let z := u.advanceTo ((at_ + 31) / 32 * 2)
        let g := z.jig[e]
        let count : Nat := z.rf Reg.jigCnt e.val 15 0
        ∃ t, exec (.pegFire w k) s = .next t ∧ ended t ∧ t.edg = u.edg ∧ t.drv = u.drv ∧ t.ms.win = u.ms.win
        ∧ t.now = max u.now ((at_ + 31) / 32 * 2) ∧ t.work[w].slots[k].freedAt = some u.now ∧ (∀ j : Fin 8, j ≠ e → t.jig[j] = z.jig[j])
        ∧ (∀ rln : Bool, g.wait = some (.trigger rln) → t.jig[e].wait = none ∧ t.jig[e].tmo = 0
          ∧ t.jig[e].f = false ∧ t.jig[e].pc = (g.pc + 1) % 64 ∧ t.jig[e].trgl = g.trgl
          ∧ (if rln then t.jig[e].align = z.svclk ∧ t.jig[e].tick = 0 else t.jig[e].align = g.align))
        ∧ (∀ rln : Bool, (∀ b : Bool, g.wait ≠ some (.trigger b)) → g.wgAt = some (z.svclk, rln) → t.jig[e].trgl = g.trgl
          ∧ t.jig[e].wgAt = none ∧ t.jig[e].pc = g.pc ∧ t.rf Reg.jigCnt e.val 15 0 = count
          ∧ (if rln then t.jig[e].align = z.svclk ∧ t.jig[e].tick = 0 else t.jig[e].align = g.align))
        ∧ ((∀ rln : Bool, g.wait ≠ some (.trigger rln)) → (∀ y ∈ g.wgAt, y.1 ≠ z.svclk) →
          t.jig[e] = { g with trgl := true, trgAt := some (z.svclk, g.trgl && decide (count < 65535)) }
          ∧ t.rf Reg.jigCnt e.val 15 0 = (if g.trgl then min 65535 (count + 1) else count)
          ∧ (g.trgl = true → count = 0 → z.Emits t 0 7 (0x220 + e.val) 0))))
    ∧ (p.st = .committed → p.mute = 0 → p.kind = 9 → ∃ t, exec (.pegFire w k) s = .next t ∧ ended t ∧ t.edg = u.edg)
    ∧ (p.st = .committed ∨ p.st = .driven → p.mute = 1 → ∃ t, exec (.pegFire w k) s = .next t ∧ t.work[w].slots[k].st = .free
        ∧ t.work[w].slots[k].last = 3 ∧ t.drv = u.drv ∧ u.Emits t 0 0xF (srcC 0 (u.counterOf w).val (k.val % 16)) noteCtx)
    ∧ (p.st = .committed ∨ p.st = .driven → p.mute = 2 → ∃ t, exec (.pegFire w k) s = .next t ∧ t.work[w].slots[k].st = .free
        ∧ t.work[w].slots[k].last = 3 ∧ t.drv = u.drv
        ∧ u.Emits t 0 0xD (srcC 0 (u.counterOf w).val (k.val % 16)) (noteCtx + 4 * 2 ^ 29))
    ∧ (p.st = .committed ∨ p.st = .driven → p.mute = 3 → ∃ t, exec (.pegFire w k) s = .next t ∧ t.work[w].slots[k].st = .free
        ∧ t.work[w].slots[k].last = 1 ∧ t.edg.ign = u.edg.ign ∧ t.drv = u.drv)
    ∧ (p.st = .committed ∨ p.st = .driven → p.mute = 4 → ∃ t, exec (.pegFire w k) s = .next t ∧ ended t ∧ t.edg = u.edg ∧ t.drv = u.drv)
    ∧ (p.st ≠ .driven → (p.st = .committed → p.mute = 0 ∧ p.kind ≠ 9) → exec (.pegFire w k) s = .next s.settle)

/-- R139, R143, R144, R217, R224, R225, R422: the driver die takes a consistent selection and answers it, the edge generator keeps the
answer; a coil that reaches DMAX sparks early, with RES checked at that commit (R116), or comes down; a soft-off ramps down, reports, and
frees its slot 16 TCLK later; a calibration that fails is counted and reported. That the gate on a dwell asks the enable of its output
alone, and that a soft-off without a dwell answers at once, are the model's choices (log entry 43). -/
def Obligations.SelectionsSoftOffAndCalibration : Prop :=
  ∀ (s : State) (w : Fin 9) (k : Fin 32) (c : Fin 32) (n : Fin 24) (i q o : Nat) (b : Bool) (rest : List Xfer), s.clocked = true →
    let p := s.work[w].slots[k]
    let link (sent : Xfer) : Links := { s.links with ddl := s.links.ddl ++ [sent], arrived := rest }
    let ok : Bool := (s.profile i).consistent
    (s.links.arrived = .select c i q o :: rest → s.wordsCheck (profileAddrs i) = (s, true) → exec .selectReceive s = .next ({ s with
        links := link (.selack c q ok)
        drv := { s.drv with ch := s.drv.ch.set c.val (if ok then { s.drv.ch[c] with sel := some ⟨i, q, o⟩ } else s.drv.ch[c]) c.isLt }
      } : State).settle)
    ∧ (s.links.arrived = .selack c q b :: rest → exec .selackReceive s = .next ({ s with
        links := { s.links with arrived := rest }
        edg := { s.edg with ch := s.edg.ch.set c.val { s.edg.ch[c] with ack := if b then .ok q else .bad q } c.isLt } } : State).settle)
    ∧ (p.st = .dwelling → ∀ d ∈ p.tD,
      (p.dws.maxAct = true → p.resBad = false → ∃ t, exec (.dwellMax w k) s = .next t ∧ t.work[w].slots[k] = { p with
          st := .committed, spark := true, early := true, inst := some (d + p.dws.dmax * 4000),
          ideal := d + p.dws.dmax * 4000, late := none, mute := 0, mirBad := false }
        ∧ t = { s with now := t.now, ao := t.ao, regs := t.regs, work := t.work, pins := t.pins })
      ∧ (p.dws.maxAct = true → p.resBad = true → exec (.dwellMax w k) s
          = .next ((s.advanceTo ((d + p.dws.dmax * 4000) / 16 - 16)).pegResFail w).settle)
      ∧ (p.dws.maxAct = false → ∀ m ∈ p.ign, ∃ t, exec (.dwellMax w k) s = .next t
        ∧ t.work[w].slots[k] = { p with st := .softoff, reason := 2, spark := false, inst := none, mirBad := false }
        ∧ t.links.ddl = s.links.ddl ++ [.softoff m] ∧ t.edg.ign[m].line = s.edg.ign[m].line ∧ t.drv = s.drv))
    ∧ (s.links.arrived = .softoff n :: rest →
      (s.drv.ign[n].gate = true → s.drv.ign[n].soft = none → exec .softoffCommand s = .next ({ s with
          links := { s.links with arrived := rest }
          drv := { s.drv with ign := s.drv.ign.set n.val { s.drv.ign[n] with
            soft := some (s.now + s.drv.ign[n].softUs * 250) } n.isLt } } : State).settle)
      ∧ (s.drv.ign[n].gate = true → s.drv.ign[n].soft ≠ none → exec .softoffCommand s
          = .next ({ s with links := { s.links with arrived := rest } } : State).settle)
      ∧ (s.drv.ign[n].gate = false → exec .softoffCommand s = .next ({ s with links := link (.softdone n) } : State).settle))
    ∧ (∀ e ∈ s.drv.ign[n].soft, ∃ t, exec (.softoffComplete n) s = .next t ∧ t.drv.ign[n].soft = none ∧ t.drv.ign[n].gate = false
      ∧ t.pins.ign.getLsbD n.val = false ∧ t.links.ddl = s.links.ddl ++ [.softdone n] ∧ e ≤ t.now ∧ t.edg = s.edg ∧ t.work = s.work)
    ∧ (s.links.arrived = .softdone n :: rest → ∃ t, exec (.softoffLineDrop n) s = .next t ∧ t.now = s.now + 16
      ∧ t.edg.ign[n].line = false ∧ t.edg.ign[n].softBy = none ∧ t.edg.ign[n].barUntil = s.now + 266
      ∧ ∀ m : Fin 32, s.work[w].slots[m].st = .softoff → s.work[w].slots[m].ign = some n →
          t.work[w].slots[m].st = .free ∧ t.work[w].slots[m].last = 6)
    ∧ (s.ignHeld n = true → ∀ e ∈ s.edg.ign[n].softBy, ∃ t, exec (.softoffTimeout n) s = .next t ∧ e ≤ t.now
      ∧ t.edg.ign[n].line = false ∧ t.edg.ign[n].softBy = none
      ∧ ∀ m : Fin 32, s.work[w].slots[m].st = .softoff → s.work[w].slots[m].ign = some n → t.work[w].slots[m].st = .free)
    ∧ exec (.vernierCalibration true) s = .next ({ s with edg := { s.edg with calok := true } } : State).settle
    ∧ (∃ t, exec (.vernierCalibration false) s = .next t ∧ t.edg = { s.edg with calok := false } ∧ s.Emits t 2 0x15 0x0FF 0
      ∧ t.work = s.work ∧ t.drv = s.drv ∧ t.mem = s.mem)

/-- R162, R168, R174, R177, R178, R436: a STOPPED cluster starts with the context block's registers and its INIT cue; an idle ACTIVE one
stops at once and a busy one at its first idle TCLK, giving up its waiting pegs, cues and comparators; SPARE and STOPPED change places on
request and take their cue enables along; a role command of the host port behind one of the maintenance port that took effect in the same
TCLK is applied first, and that one finds the role it leaves (R392). A cluster gets its own work number back unless another stands behind
that work (the model's choice, log entry 48); the host enables cues and rings the doorbell, whose cue is ready in the TCLK at which the
row reaches the cluster. The enables of a cluster that carries no work, and that TCLK, are the model's choices (log entries 85 and 90). -/
def Obligations.ClusterRoles : Prop :=
  ∀ (s : State) (p : Fin 2) (c w : Fin 9) (v : Word), s.Writable p → s.inOver c = false →
    let k := s.clu[c]
    let x := s.work[w]
    let cell (n : Nat) : Word := s.word (c.val * 0x10000 + 0x4000 + n)
    let port : Fin 11 := if p = 0 then 9 else 10
    let late : Bool := decide (p = 0) && s.roleMnt.any fun y => decide (y.at_ = s.now) && decide (y.c = c)
    let wrote (code : Nat) (t : State) : State := if p = 0 then t else { t with roleMnt := some ⟨s.now, c, code, k, s.work[c]⟩ }
    let gives (t : State) : State := ({ t with mnt := { t.mnt with istat := .busy } } : State).answered 0 .ok
    let own : Option (Fin 9) := if (s.home c).all (fun h => decide (h = c)) then some c else none
    (late = true → ∀ y ∈ s.roleMnt,
      (y.code = 0 → exec (.cluRoleStart 0 c) s = .next (s.answered 0 .busy).settle
        ∧ exec (.cluRoleSpare 0 c) s = .next (s.answered 0 .busy).settle ∧ (k.role = .stopped → exec (.cluRoleStop 0 c) s = .next (gives s).settle))
      ∧ (y.code = 1 → k.role = .active → exec (.cluRoleStart 0 c) s = .next (gives s).settle
        ∧ exec (.cluRoleStop 0 c) s = .next (s.answered 0 .busy).settle
        ∧ (y.clu.role = .stopped → exec (.cluRoleSpare 0 c) s = .next (gives { s with
          clu := s.clu.set c.val { y.clu with
            role := .spare, work := none, cueEn := (y.clu.work.map fun d => (s.work.set c.val y.work)[d].cueEn).getD y.clu.cueEn } c.isLt
          work := s.work.set c.val y.work c.isLt }).settle))
      ∧ (y.code = 2 → k.role = .spare → exec (.cluRoleSpare 0 c) s = .next (gives s).settle
        ∧ exec (.cluRoleStop 0 c) s = .next (s.answered 0 .busy).settle))
    ∧ (late = false → k.role = .stopped → s.live = true → (∀ h ∈ s.home c, h = c) → s.contextCheck c = (s, true) →
      ∃ t, exec (.cluRoleStart p c) s = .next t ∧ t.answer p = .ok
      ∧ t.clu[c].role = .active ∧ t.clu[c].work = some c ∧ t.clu[c].run = none ∧ t.clu[c].halt = false
      ∧ (∀ i : Fin 16, t.clu[c].g[i] = if i.val < 8 then cell (0x1F80 + 4 * i.val) else 0)
      ∧ t.clu[c].z = false ∧ t.clu[c].n = false ∧ t.clu[c].c = false ∧ t.clu[c].v = false ∧ t.clu[c].w = false
      ∧ t.work[c].seq = 0 ∧ t.work[c].cues = [⟨0, BitVec.ofNat 32 c.val, 0, s.now, s.now, []⟩]
      ∧ t.work[c].slots = s.work[c].slots
      ∧ (∀ m : Fin 16, t.work[c].comps[m].arm = false) ∧ (∀ d : Fin 9, d ≠ c → t.clu[d] = s.clu[d])
      ∧ t = { wrote 1 s with clu := t.clu, work := t.work, host := t.host, mnt := t.mnt, pins := t.pins })
    ∧ (late = false → k.role = .active → k.work = some w →
      (k.run = none → ∃ t, exec (.cluRoleStop p c) s = .next t ∧ t.answer p = .ok ∧ t.clu[c].role = .stopped ∧ t.clu[c].work = own
        ∧ t.work[w].cues = [] ∧ (∀ m : Fin 16, t.work[w].comps[m].arm = false)
        ∧ (∀ i : Fin 32, x.slots[i].st = .armed ∨ x.slots[i].st = .aimed ∨ x.slots[i].st = .waiting →
          t.work[w].slots[i].st = .free))
      ∧ (k.run ≠ none → s.bist.ov = none → exec (.cluRoleStop p c) s = .next (((wrote 0 { s with
          clu := s.clu.set c.val { k with stopReq := true } c.isLt }).answered p .ok).settle)))
    ∧ (late = false → k.role = .spare → own = some c → exec (.cluRoleStop p c) s = .next (((wrote 0 { s with
        clu := s.clu.set c.val { k with role := .stopped, work := some c } c.isLt
        work := s.work.set c.val { s.work[c] with cueEn := k.cueEn } c.isLt }).answered p .ok).settle))
    ∧ (late = false → k.role = .spare → own = none → exec (.cluRoleStop p c) s = .next (((wrote 0 { s with
        clu := s.clu.set c.val { k with role := .stopped } c.isLt }).answered p .ok).settle))
    ∧ (late = false → k.role = .stopped → exec (.cluRoleSpare p c) s = .next (((wrote 2 { s with
        clu := s.clu.set c.val { k with
          role := .spare, work := none, cueEn := (k.work.map fun y => s.work[y].cueEn).getD k.cueEn } c.isLt }).answered p .ok).settle))
    ∧ (late = false → k.role ≠ .stopped → exec (.cluRoleStart p c) s = .next (s.answered p .busy).settle)
    ∧ (late = false → k.role = .active ∨ k.role = .carrying ∨ k.role = .spare → exec (.cluRoleSpare p c) s = .next (s.answered p .busy).settle)
    ∧ (k.stopReq = true → k.run = none → ∃ t, exec (.clusterStop c) s = .next t ∧ t.clu[c].role = .stopped
      ∧ t.clu[c].work = own ∧ t.clu[c].stopReq = false ∧ t.mem = s.mem)
    ∧ (k.stopReq = false ∨ k.run ≠ none → exec (.clusterStop c) s = .next s.settle)
    ∧ (k.work = some w →
      (∃ t, exec (.cueEnWrite p c v) s = .next t ∧ t.answer p = .ok
        ∧ t.work = s.work.set w.val { x with cueEn := BitVec.ofNat 27 (v.toNat ||| 1) } w.isLt ∧ t.clu = s.clu ∧ t.drv = s.drv)
      ∧ ((∀ q ∈ x.cues, q.cue ≠ 26) → ∃ t, exec (.doorbell p c v) s = .next t ∧ t.answer p = .ok
        ∧ t.work[w].cues = x.cues ++ [⟨26, v, 0, s.now, s.now, []⟩] ∧ t.clu = s.clu ∧ t.drv = s.drv)
      ∧ (∀ b ∈ x.cues.find? (fun q => decide (q.cue = 26)), ∃ t, exec (.doorbell p c v) s = .next t ∧ t.work[w].cues
        = x.cues.map fun q => if q.cue = 26 then
            ⟨26, if s.outranked port (Reg.cluDoorbell.addr c.val 0) then b.g14 else v, 0, s.now, s.now, []⟩ else q))
    ∧ (k.work = none →
      (∃ t, exec (.cueEnWrite p c v) s = .next t ∧ t.answer p = .ok
        ∧ t.clu = s.clu.set c.val { k with cueEn := BitVec.ofNat 27 (v.toNat ||| 1) } c.isLt ∧ t.work = s.work ∧ t.drv = s.drv)
      ∧ ∃ t, exec (.doorbell p c v) s = .next t ∧ t.answer p = .ok ∧ t.work = s.work ∧ t.clu = s.clu ∧ t.drv = s.drv)

/-- R33, R148, R149, R176, R433 to R435: a cluster that fails is UNUSABLE; its work passes at once to the taker that R433 chooses, with
its targets; without one SPARE_OUT names the lost work and its targets go to the fault collector. The taker loads the mirror, frees the
slots whose entries are bad, but for a peg past its commit point and a coil that comes down, and keeps the others, and its scheduler is
live 130 TCLK after the failure with the context block's registers. R27, R150, R428: the switch of a planned handover, there and back,
moves the work and its targets in one TCLK; no slot changes. That the count of runs comes back from the context block, and which slots of
bad entries stay, are the model's choices (log entries 48 and 82). -/
def Obligations.FailuresTakeoversAndHandovers : Prop :=
  let sound (s : State) (w : Fin 9) : Prop := ∀ i : Fin 16, ∀ f ∈ s.inj.flips, f.1 ≠ w.val * 0x10000 + 0x5F80 + 4 * i.val
  (∀ (s : State) (c w tk : Fin 9) (tested : Bool) (why : Fin 4) (bad : BitVec 32) (q : Takeover), s.clocked = true →
    let k := s.clu[c]
    (k.role ≠ .unusable → k.runs = true → k.work = some w →
      (s.chooseTaker c = some (tk, tested) → tk ≠ c → (∀ z ∈ s.claims, z.at_ ≠ s.now + if tested then 33 else 1) →
        ∃ t, exec (.clusterFail c why) s = .next t
        ∧ t.clu[c].role = .unusable ∧ t.clu[c].work = none ∧ t.clu[tk].work = some w ∧ t.clu[tk].runs = true
        ∧ (∃ y ∈ t.take, y.work = w ∧ y.taker = tk ∧ y.t0 = s.now ∧ y.stage = .loading)
        ∧ (∀ n : Fin 32, s.edg.ch[n].owner = c.val → t.edg.ch[n].owner = tk.val)
        ∧ (∀ n : Fin 24, s.edg.ign[n].owner = c.val → t.edg.ign[n].owner = tk.val)
        ∧ (∀ n : Fin 32, t.edg.ch[n].line = s.edg.ch[n].line) ∧ t.work = s.work ∧ t.mem = s.mem
        ∧ s.Emits t 1 5 (c.val * 16 + 15) (why.val + w.val * 16 + tk.val * 256))
      ∧ (s.chooseTaker c = none → (∀ z ∈ s.claims, z.at_ ≠ s.now) →
        ∃ t, exec (.clusterFail c why) s = .next t ∧ t.clu[c].role = .unusable ∧ t.clu[c].work = none
        ∧ t.work[w].lost = true ∧ (∀ n : Fin 32, s.edg.ch[n].owner = c.val → t.edg.ch[n].owner = 0xF)
        ∧ (∀ n : Fin 24, s.edg.ign[n].owner = c.val → t.edg.ign[n].owner = 0xF)
        ∧ ((s.coll.outbox.filter (·.src = c.val * 16 + 15)).length < 3 →
          s.Emits t 1 5 (c.val * 16 + 15) (why.val + w.val * 16 + 0xF00))
        ∧ s.Emits t 2 6 (c.val * 16 + 15) (w.val * 16)))
    ∧ (k.role ≠ .unusable → k.runs = false → ∃ t, exec (.clusterFail c why) s = .next t ∧ t.clu[c].role = .unusable
        ∧ t.clu[c].work = none ∧ t.take = s.take ∧ t.work = s.work ∧ t.edg = s.edg
        ∧ s.Emits t 1 5 (c.val * 16 + 15) (why.val + 0xFF0))
    ∧ (s.take = [q] → q.work = w → q.stage = .loading → ∃ t, exec (.mirrorLoadDone w bad) s = .next t
      ∧ t.take = [{ q with stage := .pass }] ∧ q.t0 + 65 ≤ t.now
      ∧ (∀ i : Fin 32, bad.getLsbD i.val = true ∨ s.work[w].slots[i].mirBad = true →
        let was := s.work[w].slots[i].st
        (was = .armed ∨ was = .aimed ∨ was = .waiting → t.work[w].slots[i].st = .free)
        ∧ (was = .committed ∨ was = .driven ∨ was = .softoff → t.work[w].slots[i].st = was ∧ t.work[w].slots[i].resBad = false)
        ∧ (was = .dwelling → s.work[w].slots[i].ign.isSome = true → t.work[w].slots[i].st = .softoff))
      ∧ ((∀ i : Fin 32, bad.getLsbD i.val = false ∧ s.work[w].slots[i].mirBad = false) → ∀ i : Fin 32,
        s.work[w].slots[i].st = .committed ∨ s.work[w].slots[i].st = .driven ∨ s.work[w].slots[i].st = .dwelling →
          t.work[w].slots[i] = { s.work[w].slots[i] with resBad := false }) ∧ t.mem = s.mem)
    ∧ (s.take = [q] → q.work = w → q.stage = .pass → sound s w → s.work[w].lost = false →
      ∃ t, exec (.schedulerLive w) s = .next t ∧ t.take = []
      ∧ q.t0 + 130 ≤ t.now ∧ t.clu[q.taker].run = none ∧ t.clu[q.taker].dones = (s.word (w.val * 0x10000 + 0x5FBC)).toNat % 65536
      ∧ (∀ i : Fin 16, t.clu[q.taker].g[i] = if i.val < 8 then s.word (w.val * 0x10000 + 0x5F80 + 4 * i.val) else 0)
      ∧ t.clu[q.taker].redoCue = q.cut.map (fun r => { r with redo := true, spent := 0 }) ∧ t.mem = s.mem))
  ∧ (∀ (s : State) (o : Over) (x sp w : Fin 9), s.clocked = true → s.bist.ov = some o → o.unit = x.val → o.spare = some sp →
    o.work = some w → x ≠ sp → sound s w → (∀ z ∈ s.claims, z.at_ ≠ max s.now (o.t0 + 64)) →
    (o.stage = .prepare → s.clu[x].runs = true → s.clu[x].run = none → s.clu[x].halt = false → s.clu[sp].role = .spare →
      ∃ t, exec .handoverSwitch s = .next t ∧ t.clu[x].role = .testing ∧ t.clu[x].work = none ∧ t.clu[sp].role = .carrying
        ∧ t.clu[sp].work = some w ∧ t.work = s.work ∧ t.mem = s.mem ∧ t.bist.ov = some { o with stage := .running, t0 := t.now }
        ∧ (∀ n : Fin 32, s.edg.ch[n].owner = x.val → t.edg.ch[n].owner = sp.val) ∧ t.coll = s.coll)
    ∧ (o.stage = .back → s.clu[sp].runs = true → s.clu[sp].run = none → s.clu[sp].halt = false →
      ∃ t, exec .handoverSwitch s = .next t ∧ t.clu[x].role = o.was ∧ t.clu[x].work = some w ∧ t.clu[sp].role = .spare
        ∧ t.clu[sp].work = none ∧ t.work = s.work ∧ t.mem = s.mem ∧ t.bist.ov = none
        ∧ (∀ n : Fin 32, s.edg.ch[n].owner = sp.val → t.edg.ch[n].owner = x.val) ∧ t.coll = s.coll))

/-- R32, R219, R220, R224, R226, R231 to R236, R244: a start edge that the driver die takes begins BOOST with the copy of its set when its
bank is free and its rail ready; a latched fault, the duty limit or an absent duty or bank word (log entry 78) refuses it; a busy bank
lets it wait or refuses it, and of two start edges of one DCLK the lower channel's goes first; a waiting start is granted once GAP is
over, within DEFER, refused after DEFER, or after BST_WAIT skipped or boosted from the battery. The grant at the end of DEFER, the
withdrawal of an earlier waiting start, and the DCLK edge from which a shot counts are the model's choices (log entries 83 and 44). -/
def Obligations.ShotStarts : Prop :=
  ∀ (s : State) (c : Fin 32) (l : Sel) (x : WaitStart) (rest : List WaitStart), s.clocked = true →
    let d := s.drv.ch[c]
    let b := bankOf c
    let k := chIn c
    let y := s.drv.bank[b]
    let rail := s.drv.bst[railOf b]
    let boosts (u t : State) (l : Sel) (batt : Bool) : Prop := (∃ h ∈ t.drv.ch[c].shot, h.phase = .boost ∧ h.idx = l.set
        ∧ h.seq = l.seq ∧ h.owner = l.owner ∧ h.batt = batt ∧ h.set = u.profileCopy l.set ∧ h.start = u.dclk ∧ h.swOn = true)
      ∧ t.dclk = u.dclk ∧ t.drv.bank[b].lead = some k ∧ (∀ z ∈ t.drv.bank[b].waits, z.ch ≠ k)
      ∧ t.rf Reg.chCnt c.val 15 0 = (s.rf Reg.chCnt c.val 15 0 + 1) % 65536
    let edge (z : Fin 32) : Nat := ((s.edg.ch[z].fire.getD 0) + 63) / 64
    let before : List (Fin 32) := (List.finRange 32).filter fun z => decide (z < c) && decide (bankOf z = b) && s.drv.ch[z].startPend
      && decide (edge z = edge c)
    let mine : Prop := d.startPend = true ∧ d.sel = some l ∧ s.drvOff = false ∧ s.rb Reg.chCfg c.val 0 = true
      ∧ s.chHeld c = false ∧ s.edg.ch[c].owner < 9 ∧ 4 * edge c ≤ s.now ∧ s.now = 4 * s.dclk
    let takes : Prop := mine ∧ before = []
    let words : List Nat := [Reg.bnkDiag.addr b.val 0, Reg.chDuty.addr c.val 0, Reg.bnkKerf.addr b.val 0]
    let clean : Prop := ∀ f ∈ s.inj.flips, secdedAt f.1 = none
    let clear : Prop := d.flt = false ∧ s.rb Reg.bnkDiag b.val 10 = false
    let sound : Prop := clear ∧ clean ∧ s.dutyOver c = false
    let gap : Nat := match y.released with
      | some r => max (r + s.rf Reg.bnkKerf b.val 31 20) x.edge
      | none => x.edge
    (takes → sound → d.shot = none → y.lead = none → y.waits = [] → s.gapPassed b = true → rail.rdy = true →
      ∃ t, exec (.startEdge c) s = .next t ∧ boosts s t l false ∧ t.drv.ch[c].startPend = false ∧ t.mem = s.mem ∧ t.edg = s.edg
        ∧ t.pins.ls.getLsbD c.val = true ∧ t.pins.hsb.getLsbD b.val = true)
    ∧ (takes → d.flt = true → d.shot = none → ∃ t, exec (.startEdge c) s = .next t ∧ t.drv.ch[c].shot = none
        ∧ t.drv.bank = s.drv.bank ∧ Xfer.refuse c l.seq l.owner ∈ t.links.ddl
        ∧ t.rf Reg.chCnt c.val 31 16 = min 65535 (s.rf Reg.chCnt c.val 31 16 + 1))
    ∧ (takes → clear → (s.wordsCheck words).2 = false → d.shot = none → ∃ t, exec (.startEdge c) s = .next t
        ∧ t.drv.ch[c].shot = none ∧ t.drv.bank = s.drv.bank ∧ Xfer.refuse c l.seq l.owner ∈ t.links.ddl)
    ∧ (takes → clear → clean → s.dutyOver c = true → ∃ t, exec (.startEdge c) s = .next t
        ∧ t.drv.ch[c].shot = d.shot ∧ t.drv.bank = s.drv.bank ∧ t.edg = s.edg ∧ t.mem = s.mem
        ∧ (d.shot = none → Xfer.refuse c l.seq l.owner ∈ t.links.ddl) ∧ t.rb Reg.chDiag c.val 3 = true
        ∧ t.rf Reg.chCnt c.val 31 16 = min 65535 (s.rf Reg.chCnt c.val 31 16 + 1)
        ∧ s.Emits t 1 0xC (0x400 + c.val / 4 * 16 + c.val % 4)
          (c.val + l.seq % 4096 * 32 + l.owner % 4096 * 2 ^ 17 + (if d.shot = none then 1 else 2) * 2 ^ 29))
    ∧ (takes → sound → d.shot = none → y.lead ≠ none → y.lead ≠ some k → (∀ z ∈ y.waits, z.ch ≠ k) → s.deferOf b ≠ 0 →
        ∃ t, exec (.startEdge c) s = .next t ∧ t.drv.ch[c].shot = none ∧ t.drv.bank[b].lead = y.lead
        ∧ (⟨k, false, s.dclk, l, false, 0⟩ : WaitStart) ∈ t.drv.bank[b].waits ∧ t.links = s.links)
    ∧ (takes → sound → d.shot = none → y.lead ≠ none → y.lead ≠ some k → (∀ z ∈ y.waits, z.ch ≠ k) → s.deferOf b = 0 →
        ∃ t, exec (.startEdge c) s = .next t ∧ t.drv.ch[c].shot = none ∧ t.drv.bank = s.drv.bank
        ∧ Xfer.refuse c l.seq l.owner ∈ t.links.ddl ∧ s.Emits t 1 0xA (0x400 + c.val / 4 * 16 + c.val % 4)
          (c.val + l.seq % 4096 * 32 + l.owner % 4096 * 2 ^ 17 + 2 ^ 29))
    ∧ (mine → sound → d.shot = none → y.lead = none → y.waits = [] → s.gapPassed b = true → rail.rdy = true → s.deferOf b ≠ 0 →
        ∀ z ∈ before.head?, before = [z] → s.drv.ch[z].sel.isSome = true → s.rb Reg.chCfg z.val 0 = true → s.chHeld z = false →
        s.edg.ch[z].owner < 9 → s.drv.ch[z].flt = false → s.dutyOver z = false → s.drv.ch[z].shot = none →
        ∃ t, exec (.startEdge c) s = .next t ∧ t.drv.bank[b].lead = some (chIn z) ∧ t.drv.ch[c].shot = none
          ∧ t.drv.ch[c].startPend = false ∧ t.drv.ch[z].startPend = false
          ∧ (⟨k, false, s.dclk, l, false, 0⟩ : WaitStart) ∈ t.drv.bank[b].waits)
    ∧ (d.startPend = true → before = [] → s.drvOff = true ∨ s.chHeld c = true → ∃ t, exec (.startEdge c) s = .next t
        ∧ t.drv = { s.drv with ch := s.drv.ch.set c.val { d with startPend := false } c.isLt } ∧ t.links = s.links)
    ∧ (y.waits = x :: rest → x.ch = k →
      (x.rail = false → y.lead = none → x.edge + s.deferOf b < gap → exec (.bankGrant c) s = .next s.settle)
      ∧ (x.rail = false → y.lead = none → gap ≤ x.edge + s.deferOf b →
        (rail.rdy = true → clean → ∃ t, exec (.bankGrant c) s = .next t ∧ boosts (s.advanceTo (4 * gap)) t x.sel false)
        ∧ (rail.rdy = false → ∃ t, exec (.bankGrant c) s = .next t ∧ t.drv.bank[b].lead = some k ∧ t.drv.ch = s.drv.ch
          ∧ (∃ z ∈ t.drv.bank[b].waits, z.ch = k ∧ z.rail = true ∧ z.sel = x.sel)))
      ∧ (x.rail = false → ∃ t, exec (.bankDeferExpire c) s = .next t ∧ (∀ z ∈ t.drv.bank[b].waits, z.ch ≠ k)
        ∧ x.edge + s.deferOf b ≤ t.dclk ∧ t.drv.bank[b].lead = y.lead ∧ (x.restart = false → Xfer.refuse c x.sel.seq x.sel.owner ∈ t.links.ddl)
        ∧ s.Emits t 1 0xA (0x400 + c.val / 4 * 16 + c.val % 4) (c.val + x.sel.seq % 4096 * 32 + x.sel.owner % 4096 * 2 ^ 17
          + (if x.restart then 2 else 1) * 2 ^ 29))
      ∧ (x.rail = true → rail.rdy = true → clean → ∃ t, exec (.boostRailReady c) s = .next t ∧ boosts s t x.sel false)
      ∧ (x.rail = true → rail.rdy = false →
        ((s.profile x.sel.set).batfb = true → clean → ∃ t, exec (.boostWaitExpire c) s = .next t
          ∧ boosts (s.advanceTo (4 * (x.railFrom + s.bstWait (railOf b)))) t x.sel true)
        ∧ ((s.profile x.sel.set).batfb = false → ∃ t, exec (.boostWaitExpire c) s = .next t ∧ t.drv.ch[c].shot = d.shot
          ∧ (∀ z ∈ t.drv.bank[b].waits, z.ch ≠ k) ∧ (x.restart = false → Xfer.refuse c x.sel.seq x.sel.owner ∈ t.links.ddl)
          ∧ s.Emits t 1 0xB (0x400 + c.val / 4 * 16 + c.val % 4) (c.val + x.sel.seq % 4096 * 32 + x.sel.owner % 4096 * 2 ^ 17
            + 2 ^ 29))))

/-- R219, R221, R223, R228: the phases of a running shot, each with its end: BOOST at IBOOST or TBOOST, PEAK at TPEAK with the lead
given up, BYPASS at IHOLD or TBYP; in PEAK and HOLD the switch turns at a bound once TBLANK and TCHOPMIN are over. That TBLANK and
TCHOPMIN run from the entry of HOLD too is the model's choice (log entry 83). -/
def Obligations.ShotPhases : Prop :=
  ∀ (s : State) (c : Fin 32) (h : Shot) (cur : Nat) (up v : Bool), s.clocked = true → s.drv.ch[c].shot = some h →
    let d := s.drv.ch[c]
    let sw (t : State) (p : Phase) (on : Bool) : Prop := t.drv.ch[c] = { d with shot := some { h with
      phase := p, swOn := on, blank := t.dclk + h.set.tblank, minEnd := t.dclk + h.set.tchopmin, deferred := none } }
    let alone (t : State) : Prop := (∀ e : Fin 32, e ≠ c → t.drv.ch[e] = s.drv.ch[e]) ∧ t.drv.ign = s.drv.ign ∧ t.drv.bst = s.drv.bst
      ∧ t.edg = s.edg ∧ t.work = s.work ∧ t.mem = s.mem
    (h.phase = .boost →
      (∃ t, exec (.iboostReached c) s = .next t ∧ sw t .peak false ∧ alone t ∧ t.drv.bank = s.drv.bank ∧ t.now = s.now)
      ∧ (∃ t, exec (.tboostExpire c cur) s = .next t ∧ sw t .peak (decide (cur < h.set.ipeak)) ∧ alone t
        ∧ t.drv.bank = s.drv.bank ∧ 4 * (h.start + h.set.tboost) ≤ t.now
        ∧ s.Emits t 1 (if 8 * cur < h.set.iboost then 8 else 9) (0x400 + c.val / 4 * 16 + c.val % 4)
          (c.val + h.seq % 4096 * 32 + h.owner % 4096 * 2 ^ 17)))
    ∧ (h.phase = .peak → ∃ t, exec (.tpeakExpire c) s = .next t ∧ alone t ∧ 4 * (h.start + h.set.tpeak) ≤ t.now
      ∧ t.drv.ch[c] = { d with shot := some { h with phase := .bypass, peakEnd := t.dclk, swOn := false, deferred := none } }
      ∧ (s.railWait c = false → s.drv.bank[bankOf c].lead = some (chIn c) → t.drv.bank[bankOf c].lead = none
        ∧ t.drv.bank[bankOf c].released = some t.dclk))
    ∧ (h.phase = .bypass →
      (∃ t, exec (.iholdReached c) s = .next t ∧ sw t .hold false ∧ alone t ∧ t.drv.bank = s.drv.bank)
      ∧ (∃ t, exec (.tbypExpire c) s = .next t ∧ sw t .hold false ∧ alone t ∧ t.drv.bank = s.drv.bank
        ∧ 4 * (h.peakEnd + h.set.tbyp) ≤ t.now))
    ∧ (h.phase = .peak ∨ h.phase = .hold →
      (h.blank ≤ s.dclk → h.minEnd ≤ s.dclk → h.swOn = up →
        ∃ t, exec (.chopComparator c up) s = .next t ∧ sw t h.phase (!up) ∧ alone t ∧ t.now = s.now)
      ∧ (h.blank ≤ s.dclk → s.dclk < h.minEnd → h.swOn = up → ∃ t, exec (.chopComparator c up) s = .next t ∧ alone t
        ∧ t.drv.ch[c] = { d with shot := some { h with deferred := some (!up) } })
      ∧ (s.dclk < h.blank ∨ h.swOn = !up → exec (.chopComparator c up) s = .next s.settle)
      ∧ (h.deferred = some v → ∃ t, exec (.tchopminExpire c) s = .next t ∧ sw t h.phase v ∧ alone t ∧ 4 * h.minEnd ≤ t.now))

/-- R140, R219, R222, R228, R232, R239 to R241: OFF and TMAX end a drive in RECOVERY, TMAX with a note and the line dropped; at the end
of RECOVERY the record goes out and the channel is idle; a record that the edge generator still awaits raises the CLOSE cue; REFUSE and
HOLDEND drop an active line. The TCLK in which a dropped line falls and in which its fall is taken, and the closing record of each
accepted start, are the model's choices (log entries 44 and 45). -/
def Obligations.ShotEnds : Prop :=
  ∀ (s : State) (c : Fin 32) (h : Shot) (q o tm : Nat) (det : Bool) (z : Due) (rest : List Xfer), s.clocked = true →
    let d := s.drv.ch[c]
    let e := s.edg.ch[c]
    let ends (t : State) : Prop := (∃ g ∈ t.drv.ch[c].shot, g.phase = .recovery ∧ g.seq = h.seq ∧ g.owner = h.owner
        ∧ g.start = h.start ∧ g.driveEnd = t.dclk ∧ g.swOn = false) ∧ t.edg = s.edg ∧ t.work = s.work ∧ t.mem = s.mem
    let dropped (t : State) : Prop := t.edg.ch[c].line = false ∧ (∀ n : Fin 32, n ≠ c → t.edg.ch[n] = s.edg.ch[n])
      ∧ t.edg.ign = s.edg.ign ∧ t.drv.ch[c] = { d with offPend := d.offPend || e.line }
      ∧ t.links = { s.links with arrived := rest } ∧ t.work = s.work ∧ t.mem = s.mem
    (d.shot = some h → h.phase ≠ .recovery →
      (d.offPend = true → d.startPend = false → s.drvOff = false → s.chHeld c = false → s.waitOf c = none →
        ∃ t, exec (.offCommand c) s = .next t ∧ ends t ∧ t.drv.ch[c].offPend = false ∧ ((e.lastCmd.getD 0) + 15) / 16 ≤ t.now)
      ∧ (∃ t, exec (.tmaxExpire c) s = .next t ∧ ends t ∧ 4 * (h.start + h.set.tmax) ≤ t.now ∧ Xfer.holdend c ∈ t.links.ddl
        ∧ (s.drv.bank[bankOf c].conv.recovery = false →
          s.Emits t 0 0x10 (0x400 + c.val / 4 * 16 + c.val % 4) (c.val + h.seq % 4096 * 32 + h.owner % 4096 * 2 ^ 17))))
    ∧ (d.shot = some h → h.phase = .recovery →
      exec (.fastDecayEnd c) s = .next ({ s with drv := { s.drv with
        ch := s.drv.ch.set c.val { d with shot := some { h with watch := true } } c.isLt } } : State).settle
      ∧ ∃ t, exec (.recoveryEnd c) s = .next t ∧ t.drv.ch[c].shot = none ∧ 4 * (h.driveEnd + h.set.trcv) ≤ t.now ∧ t.edg = s.edg
        ∧ t.work = s.work ∧ (h.cut = false → s.clsEn c = true → h.claim = false →
          Xfer.closerec ⟨c, h.seq, h.owner, 0, false⟩ ∈ t.links.ddl ∧ t.drv.ch[c].clsDet = false))
    ∧ (s.links.arrived = .closerec ⟨c, q, o, tm, det⟩ :: rest →
      ((e.due.find? fun x => decide (x.seq = q)) = some z → (s.carrier z.work).isSome = true →
        ((s.work[z.work].cues.filter (·.cue = 19)).length < 8) → ∃ t, exec .closeRecord s = .next t
        ∧ t.work[z.work].cues = s.work[z.work].cues ++ [⟨19, BitVec.ofNat 32 (q % 4096 + o % 4096 * 4096 + c.val * 2 ^ 24),
          BitVec.ofNat 32 (tm % 2 ^ 24 + (if det then 2 ^ 31 else 0)), s.now, s.now, []⟩]
        ∧ t.edg.ch[c] = { e with due := e.due.erase z } ∧ t.drv = s.drv ∧ t.links = { s.links with arrived := rest })
      ∧ ((∀ x ∈ e.due, x.seq ≠ q) → exec .closeRecord s = .next ({ s with links := { s.links with arrived := rest } } : State).settle))
    ∧ (s.links.arrived = .refuse c q o :: rest → ∃ t, exec .refuseReceive s = .next t ∧ dropped t)
    ∧ (s.links.arrived = .holdend c :: rest → ∃ t, exec .holdendReceive s = .next t ∧ dropped t)

/-- R229, R230, R236, R238, R239: the boost rail regulates between its thresholds, stops on overvoltage and rests for TOFF after ILIM;
the on-time buckets move on; a capture sample joins the converter's words, and the twenty-eighth sends them as a signature slot. -/
def Obligations.RailsBucketsAndCapture : Prop :=
  ∀ (s : State) (k : Fin 2) (v : Nat) (c : Fin 32) (b : Fin 8) (u : Int), s.clocked = true →
    let x := s.drv.bst[k]
    let vset : Nat := max 48 (min 144 (s.rf Reg.bstCfg k.val 8 1))
    let vovp : Nat := max 2 (min 40 (s.rf Reg.bstCfg k.val 24 17))
    let rdyAt : Nat := max 0x80 (s.rf Reg.bstCfg k.val 16 9)
    let ovp : Bool := if x.ovp then decide (5 * vset ≤ v) else decide (5 * (vset + vovp) ≤ v)
    let may : Bool := s.rb Reg.bstCfg k.val 0 && !s.drvOff
    let y := s.drv.bank[b].conv
    let word : Nat := unsx 12 u + (if y.recovery || y.nextV then 4096 else 0) + (if y.recovery then 8192 else 0)
    (∃ t, exec (.boostRailMeasure k v) s = .next t
      ∧ t.drv.bst[k] = { x with
          vrail := v % 1024, rdy := decide (rdyAt * 5 * vset ≤ 256 * v), ovp := ovp
          on := may && !ovp && decide (v < 5 * vset) && x.toff.isNone }
      ∧ (ovp = true → x.ovp = false → s.Emits t 1 0xD (0x4B0 + k.val) 0) ∧ (ovp = false → t.coll = s.coll)
      ∧ t.drv.ch = s.drv.ch ∧ t.drv.bank = s.drv.bank ∧ (∀ j : Fin 2, j ≠ k → t.drv.bst[j] = s.drv.bst[j]))
    ∧ (x.on = true → ∃ t, exec (.boostIlimReached k) s = .next t
      ∧ t.drv.bst[k] = { x with on := false, toff := some (s.dclk + max 8 (min 255 (s.rf Reg.bstCtl k.val 17 10))) }
      ∧ t.pins.bst.getLsbD k.val = false ∧ t = { s with drv := { s.drv with bst := t.drv.bst }, pins := t.pins })
    ∧ (x.on = false → exec (.boostIlimReached k) s = .next s.settle)
    ∧ (∀ z ∈ x.toff, ∃ t, exec (.boostToffExpire k) s = .next t
      ∧ t.drv.bst[k] = { x with toff := none, on := may && !x.ovp && decide (x.vrail < 5 * vset) }
      ∧ t = { s.advanceTo (4 * z) with drv := { s.drv with bst := t.drv.bst }, pins := t.pins })
    ∧ (x.toff = none → exec (.boostToffExpire k) s = .next s.settle)
    ∧ (let end_ : Nat := s.drv.ch[c].bucketAt + max 1 (s.rf Reg.chDuty c.val 23 16) * 15625
      let z := s.advanceTo end_
      ∃ t, exec (.dutyBucketClose c) s = .next t ∧ t.now = max s.now end_ ∧ t.drv.ch[c].open_ = 0 ∧ t.drv.ch[c].bucketAt = end_
      ∧ t.drv.ch[c].buckets = ((z.account c).drv.ch[c].open_ :: s.drv.ch[c].buckets).take 15
      ∧ t = { z with drv := { s.drv with ch := t.drv.ch }, pins := t.pins } ∧ ∀ e : Fin 32, e ≠ c → t.drv.ch[e] = s.drv.ch[e])
    ∧ (∀ m ∈ y.ch, ∀ h ∈ s.drv.ch[chOf b m].shot, s.capEn (chOf b m) = true → y.held.length = 27 →
      ∃ t, exec (.captureSample b u) s = .next t
      ∧ t.drv.bank[b].conv = { y with nextV := !y.nextV, volt := if y.recovery then y.volt ++ [u] else y.volt, held := [] }
      ∧ t.drv.ch[chOf b m].shot = some { h with sigs := h.sigs + 1 }
      ∧ t.links = { s.links with ddl := s.links.ddl ++ [.signature (slotOf (slotHead 5 b.val 28 (h.seq % 4096 + h.sigs % 4096 * 4096)
        :: sigWords (y.held ++ [word])))] } ∧ t.edg = s.edg ∧ t.work = s.work ∧ t.mem = s.mem)
    ∧ (∀ m ∈ y.ch, y.held.length < 27 → ∃ t, exec (.captureSample b u) s = .next t
      ∧ t.drv.bank[b].conv = { y with
          nextV := !y.nextV, volt := if y.recovery then y.volt ++ [u] else y.volt
          held := if s.capEn (chOf b m) then y.held ++ [word] else y.held }
      ∧ t = { s with drv := { s.drv with bank := t.drv.bank }, pins := t.pins })

/-- R242, R244 to R247, R414: the diagnostics of the driver die. A short to battery ends the shot and latches its channel until it is
cleared, which an event of the same TCLK prevents; a short to ground ends every shot of its bank; an ignition output reports, once FBT
or SPKW is over, a missing current or spark; a drive that stays on in the safe actuation state raises GATE_STUCK. The context of
IGN_NOCUR and IGN_NOSPARK, and that a short of a whole bank names no coil, are the model's choices (log entries 17 and 46). -/
def Obligations.DriverDiagnostics : Prop :=
  ∀ (s v : State) (c : Fin 32) (b : Fin 8) (n : Fin 24) (g u : Fin 16) (p : Fin 2), s.clocked = true →
    let ign : Nat := 0x400 + (8 + n.val / 8) * 16 + n.val % 8
    let ctx : Nat := n.val + s.drv.ign[n].seq % 4096 * 32 + s.drv.ign[n].owner % 4096 * 2 ^ 17
    (∃ t, exec (.shortBat c) s = .next t ∧ t.drv.ch[c].flt = true ∧ t.phase c ≠ some .boost ∧ t.phase c ≠ some .peak
      ∧ t.phase c ≠ some .bypass ∧ t.phase c ≠ some .hold ∧ t.rb Reg.chDiag c.val 0 = true ∧ t.pins.ls.getLsbD c.val = false
      ∧ t.edg = s.edg ∧ t.mem = s.mem)
    ∧ (s.hsbOn b = true ∨ s.hsvOn b = true → ∃ t, exec (.shortGnd b) s = .next t ∧ t.rb Reg.bnkDiag b.val 10 = true
      ∧ t.drv.bank[b].waits = [] ∧ s.Emits t 1 7 (0x400 + b.val * 16 + (if s.hsbOn b then 10 else 11)) 0
      ∧ (∀ k : Fin 4, t.phase (chOf b k) = none ∨ t.phase (chOf b k) = some .recovery) ∧ t.edg = s.edg)
    ∧ (s.hsbOn b = false → s.hsvOn b = false → exec (.shortGnd b) s = .next s.settle)
    ∧ (s.rb Reg.ignCfg n.val 1 = true → ∀ z ∈ s.drv.ign[n].dwellAt, ∃ t, exec (.ignNocur n) s = .next t
      ∧ z + max 1 (s.rf Reg.ignCfg n.val 15 8) * 250 ≤ t.now ∧ t.rb Reg.ignDiag n.val 0 = true ∧ s.Emits t 1 0xE ign ctx
      ∧ t.drv = { s.drv with ign := s.drv.ign.set n.val { s.drv.ign[n] with dwellAt := none } n.isLt } ∧ t.edg = s.edg)
    ∧ (s.rb Reg.ignCfg n.val 1 = true → ∀ z ∈ s.drv.ign[n].sparkAt, ∃ t, exec (.ignNospark n) s = .next t
      ∧ z + max 1 (s.rf Reg.ignCfg n.val 23 16) * 250 ≤ t.now ∧ t.rb Reg.ignDiag n.val 1 = true ∧ s.Emits t 1 0xF ign ctx
      ∧ t.drv = { s.drv with ign := s.drv.ign.set n.val { s.drv.ign[n] with sparkAt := none } n.isLt } ∧ t.edg = s.edg)
    ∧ (s.rb Reg.ignCfg n.val 1 = false ∨ s.drv.ign[n].dwellAt = none → exec (.ignNocur n) s = .next s.settle)
    ∧ (s.rb Reg.ignCfg n.val 1 = false ∨ s.drv.ign[n].sparkAt = none → exec (.ignNospark n) s = .next s.settle)
    ∧ (s.drv.safe = true → ∃ t, exec (.gateStuck g u c) s = .next t ∧ s.Emits t 3 0x14 (0x400 + g.val * 16 + u.val) c.val
      ∧ t.drv = s.drv ∧ t.edg = s.edg ∧ t.mem = s.mem)
    ∧ (s.drv.safe = false → exec (.gateStuck g u c) s = .next s.settle)
    ∧ (s.Writable p →
      (s.edg.ch[c].owner = 12 ∨ s.edg.ch[c].owner = 15 → s.reach (Reg.chDiag.addr c.val 0) false = (v, true) →
        let open_ : Bool := decide (v.w1cOpen (Reg.chDiag.addr c.val 0) 1 = 1)
        ∃ t, exec (.shortBatClear p c false) s = .next t ∧ t.answer p = .ok
        ∧ t.drv.ch[c] = (if open_ then { v.drv.ch[c] with flt := false } else v.drv.ch[c])
        ∧ t.rg Reg.chDiag c.val 0 = v.rg Reg.chDiag c.val 0 &&& (if open_ then 0xFFFFFFFE else 0xFFFFFFFF)
        ∧ t = { v with drv := t.drv, regs := t.regs, inj := t.inj, host := t.host, mnt := t.mnt, pins := t.pins })
      ∧ (s.edg.ch[c].owner < 9 → exec (.shortBatClear p c false) s = .next (s.answered p .owner).settle)
      ∧ (s.reach (Reg.bnkDiag.addr b.val 0) false = (v, true) →
        let open_ : Bool := decide (v.w1cOpen (Reg.bnkDiag.addr b.val 0) 0x400 = 0x400)
        ∃ t, exec (.bankFaultClear p b false) s = .next t ∧ t.answer p = .ok
        ∧ t.rg Reg.bnkDiag b.val 0 = v.rg Reg.bnkDiag b.val 0 &&& (if open_ then 0xFFFFFBFF else 0xFFFFFFFF)
        ∧ t = { v with regs := t.regs, hwSet := t.hwSet, inj := t.inj, host := t.host, mnt := t.mnt, pins := t.pins })
      ∧ ∃ t, exec (.bankFaultClear p b true) s = .next t ∧ t.answer p = .linkerr ∧ s.Emits t 2 5 0x4FF 0 ∧ t.drv = s.drv)

/-- R20, R249 to R259: a write of MODm_CMD by the modulator's owner starts the sequence at entry 0 with the DEC and CONT of that moment,
ends it at once, or asks for the urgent entry; of a checker pair in simultaneous mode the even modulator takes both along, and the odd
one's own command has no effect. A command behind START or STOP of a later source of R392 in the same TCLK goes before them. A request to
a busy modulator waits one deep, a further one counts. A pin trigger asks MOD6 or MOD7 likewise, after its 4 TCLK of crossing. A completed
entry writes the rounded mean of its kept samples and its middle stamp, and the next entry begins. That the odd modulator of a pair in
simultaneous mode takes no command of its own is the model's choice (log entry 50). -/
def Obligations.ModulatorCommands : Prop :=
  ∀ (s : State) (p : Fin 11) (m : Fin 8) (k : Fin 2), s.clocked = true → s.measRuns = true →
    let u := s.windowsNow.touched Reg.modCmd m.val
    let x := u.ms.mod[m]
    let port : Fin 2 := if p.val = 10 then 1 else 0
    let ans (t : State) : State := if p.val < 9 then t else t.answered port .ok
    let cmd : Nat := cmdKey (Reg.modCmd.addr m.val 0)
    -- the record of a write: START and STOP that changed nothing in [4:3], STOP in [5]
    let sent (n : Nat) (t : State) : State := ans (t.hw cmd (portRank p + n))
    let calm : Prop := s.hwNow cmd < 2 * portRank p ∨ s.hwNow cmd / 8 = 0
    let first : Prop := s.hwNow cmd < 2 * portRank p
    let put (i : Nat) (w : Word) (dec : Nat) (y : Modulator) : Modulator := { y with
      entry := i, word := w, dec := dec, skip := (if dec ≤ 4 then 3 else 19) + fld w 9 5, kept := [], ovlSent := false,
      stream := y.stream + 1, stayDone := false }
    let begun (d : Fin 8) (y : Modulator) : Modulator := put 0 (u.rg Reg.seq d.val 0) (u.rf Reg.modCfg d.val 2 0)
      { y with run := true, resBad := false, cont := u.rb Reg.modCfg d.val 3 }
    let urgent (t : State) (d : Fin 8) (y : Modulator) : Modulator := put y.entry (t.rg Reg.modUrg d.val 0) y.dec
      { y with req := some .urgent, broken := if y.run then some y.entry else none }
    let setm (t : State) (d : Fin 8) (y : Modulator) : State := { t with ms := { t.ms with mod := t.ms.mod.set d.val y d.isLt } }
    let entered (t : State) (d : Fin 8) (y : Modulator) : State :=
      (setm t d y).setPair (pairOf d) fun q => { q with last := q.last.filter fun z => z.1 != decide (d.val % 2 = 1) }
    let v := s.advanceTo (s.now + 4)
    let o : Fin 8 := ⟨6 + k.val, by omega⟩
    let a := v.ms.mod[o]
    ((9 ≤ p.val → s.sys.st ≠ .lockout ∧ s.coll.relWait = none) → (p.val = 10 → s.mntMay true = true) → s.modOwner m = (if p.val < 9 then p.val else 12) →
      (s.simMode m = false →
        (first → x.run = false → x.req = none → exec (.modStart p m) s = .next (sent 0 (entered u m (begun m x))).settle)
        ∧ (first → x.run = true ∨ x.req = some .pass → exec (.modStart p m) s = .next (sent 8 u).settle)
        ∧ (first → x.run = false → x.req = some .urgent → exec (.modStart p m) s = .next (sent 0 (setm u m { x with
            run := true, resBad := false, dec := u.rf Reg.modCfg m.val 2 0, cont := u.rb Reg.modCfg m.val 3, broken := some 0 })).settle)
        ∧ (first → x.run = true ∨ x.req.isSome = true → ∃ t, exec (.modStop p m) s = .next t
          ∧ t.ms.mod[m] = { x with run := false, req := none, latch := none, broken := none, kept := [], skip := 0,
                                   stream := x.stream + 1, stayDone := t.ms.mod[m].stayDone }
          ∧ (∀ w : Fin 16, (∀ r ∈ t.ms.win[w].runs, fld r.cfg 2 0 ≠ m.val)
            ∧ ((∀ r ∈ u.ms.win[w].runs, fld r.cfg 2 0 ≠ m.val) → t.ms.win[w] = u.ms.win[w])
            ∧ ∀ r ∈ u.ms.win[w].runs, fld r.cfg 2 0 = m.val →
              ∃ e ∈ t.ms.ends, e.1 = w ∧ e.2.aborted = true ∧ e.2.cyc = r.cyc ∧ e.2.pts = r.pts)
          ∧ (9 ≤ p.val → t.answer port = .ok) ∧ t.edg = s.edg ∧ t.drv = s.drv ∧ t.jig = s.jig ∧ t.mem = s.mem)
        ∧ (first → x.run = false → x.req = none → exec (.modStop p m) s = .next (sent 48 u).settle)
        ∧ (¬first → s.hwNow cmd / 8 % 4 = 0 → exec (.modStart p m) s = .next (ans u).settle ∧ exec (.modStop p m) s = .next (ans u).settle)
        ∧ (¬first → s.hwNow cmd / 8 % 4 = 1 → x.run = true → ∃ t, exec (.modStop p m) s = .next t ∧ t.ms.mod[m].run = true
          ∧ t.ms.mod[m].entry = 0 ∧ t.ms.mod[m].word = u.rg Reg.seq m.val 0 ∧ t.ms.mod[m].kept = [])
        ∧ (¬first → s.hwNow cmd / 8 % 4 = 2 → x.run = false → x.req = none → ∃ t, exec (.modStart p m) s = .next t
          ∧ t.ms.mod[m].run = false ∧ t.ms.mod[m].req = none)
        ∧ (calm → x.req = none → exec (.modUrg p m) s = .next (ans (entered u m (urgent u m x))).settle)
        ∧ (calm → x.req.isSome = true → x.latch = none → exec (.modUrg p m) s
          = .next (ans (setm u m { x with latch := some .urgent })).settle)
        ∧ (calm → x.req.isSome = true → x.latch.isSome = true → ∃ t, exec (.modUrg p m) s = .next t
          ∧ t.rf Reg.modTrg m.val 7 0 = min 255 (s.rf Reg.modTrg m.val 7 0 + 1)
          ∧ (s.rf Reg.modTrg m.val 7 0 = 0 → u.Emits t 0 7 (0x100 + m.val) 0) ∧ (s.rf Reg.modTrg m.val 7 0 ≠ 0 → t.coll = u.coll)
          ∧ t.ms = u.ms ∧ t.edg = s.edg ∧ t.mem = s.mem))
      ∧ (s.simMode m = true → m.val % 2 = 1 → (first → exec (.modStart p m) s = .next (sent 8 u).settle
        ∧ exec (.modStop p m) s = .next (sent 48 u).settle) ∧ exec (.modUrg p m) s = .next (ans u).settle)
      ∧ (s.simMode m = true → m.val % 2 = 0 → ∀ n : Fin 8, n.val = m.val + 1 →
        (calm → x.req = none → u.ms.mod[n].req = none → s.modOwner n ≠ 15 → ∃ t, exec (.modUrg p m) s = .next t
          ∧ t.ms.mod[m] = urgent u m x ∧ t.ms.mod[n] = urgent u m u.ms.mod[n])
        ∧ (first → x.run = false → x.req = none → u.ms.mod[n].run = false → u.ms.mod[n].req = none → s.modOwner n ≠ 15 →
          ∃ t, exec (.modStart p m) s = .next t ∧ t.ms.mod[m] = begun m x ∧ t.ms.mod[n] = begun m u.ms.mod[n])))
    ∧ (s.sys.vio[1] = true → s.rb Reg.atrgCfg k.val 0 = true → s.simMode o = false → s.modOwner o ≠ 15 →
      (s.rb Reg.atrgCfg k.val 2 = false → a.req = none → exec (.atrgTrigger k) s = .next (entered v o (urgent v o a)).settle)
      ∧ (s.rb Reg.atrgCfg k.val 2 = true → a.run = false → a.cont = false → a.req = none → exec (.atrgTrigger k) s
        = .next (entered v o (put 0 (v.rg Reg.seq o.val 0) a.dec { a with req := some .pass })).settle)
      ∧ (s.rb Reg.atrgCfg k.val 2 = true → a.run = true → ∃ t, exec (.atrgTrigger k) s = .next t ∧ t.ms = s.ms ∧ t.now = s.now + 4
        ∧ t.rf Reg.modTrg o.val 7 0 = min 255 (s.rf Reg.modTrg o.val 7 0 + 1)))
    ∧ (s.sys.vio[1] = false ∨ s.rb Reg.atrgCfg k.val 0 = false → exec (.atrgTrigger k) s = .next s.settle)
    ∧ (let x := s.ms.mod[m]
      (x.run = true → x.req = none → 0 < fld x.word 17 10 → x.kept.length = fld x.word 17 10 →
      let sum : Int := x.kept.foldl (fun (b : Int) (y : Sample) => b + y.v) 0
      let n : Int := x.kept.length
      let last : Bool := bit x.word 21 || decide (x.entry = 15)
      ∃ t, exec (.entryComplete m) s = .next t
      ∧ (last = false → t.ms.mod[m].run = true ∧ t.ms.mod[m].entry = x.entry + 1
        ∧ t.ms.mod[m].word = s.rg Reg.seq (s.leader m).val (x.entry + 1))
      ∧ (last = true → x.cont = true → t.ms.mod[m].run = true ∧ t.ms.mod[m].entry = 0
        ∧ t.ms.mod[m].word = s.rg Reg.seq (s.leader m).val 0)
      ∧ (last = true → x.cont = false → t.ms.mod[m].run = false ∧ ∀ w : Fin 16, ∀ r ∈ t.ms.win[w].runs, fld r.cfg 2 0 ≠ m.val)
      ∧ t.ms.mod[m].kept = []
      ∧ (bit x.word 19 = true → x.kept.all (·.valid) = true → t.ms.mod[m].rsq = x.rsq + 1
        ∧ t.ms.mod[m].resCh = fld x.word 4 0
        ∧ 2 * sum - n < 2 * n * t.ms.mod[m].res ∧ 2 * n * t.ms.mod[m].res ≤ 2 * sum + n
        ∧ ∀ y ∈ x.kept.head?, ∀ z ∈ x.kept.getLast?, t.ms.mod[m].rts = (y.stamp + z.stamp) / 2 % 2 ^ 32)
      ∧ (bit x.word 19 = false ∨ x.kept.all (·.valid) = false → t.ms.mod[m].res = x.res ∧ t.ms.mod[m].rsq = x.rsq)
      ∧ (bit x.word 19 = true → x.kept.all (·.valid) = false →
        t.rf Reg.modStat m.val 31 16 = min 65535 (s.rf Reg.modStat m.val 31 16 + 1)))
      ∧ (x.run = false → x.req = none → exec (.entryComplete m) s = .next s.settle))

/-- R250, R251, R260, R266 to R269: a sample appears one group delay after its stamp, and its saturation and residue are judged; after
the discarded ones the entry keeps it, marked invalid where its residue fails or ONSAT takes the saturated one; in simultaneous mode it
waits for its partner's of the same stamp, and both are kept together (R258). The engine publishes the
oldest window end: of an aborted one only figure 0, of one with too many invalid points in a row figures 0, 13 and 14, else the figures
1 to 15 of the points, those of R267 left out. That a run of invalid points at an end of the window takes its one neighbour's value, and
that a sum saturates value by value, are the model's choice (log entries 28 and 12). A port that reads a result copies its sequence
number and stamp, and one that reads figure 0 the other figures; each reader's FRESH falls. -/
def Obligations.SamplesFiguresAndResults : Prop :=
  ∀ (s : State) (m : Fin 8) (v : Int) (stamp : Nat) (sat bad : Bool) (q : Fin 2) (w : Fin 16) (f : Fin 32),
    s.clocked = true → s.measRuns = true →
    let x := s.ms.mod[m]
    let u := s.windowsNow
    let delay : Nat := match x.dec with
      | 0 => 225 | 1 => 465 | 2 => 945 | 3 => 1905 | 4 => 3825 | 5 => 5585 | 6 => 11185 | _ => 22385
    let out : Bool := sat || decide (v ≤ -524288) || decide (524287 ≤ v)
    let c : Int := max (-524288) (min 524287 v)
    let rd : Fin 11 := ⟨9 + q.val, by omega⟩
    let told (t : State) : Prop := (bad = true → x.resBad = false → s.Emits t 1 6 (0x100 + m.val) 0)
      ∧ (out = true → x.ovlSent = false → bad = false → s.Emits t 0 5 (0x100 + m.val) 0)
    (x.run = true → x.req = none → 0 < fld x.word 17 10 → x.kept.length < fld x.word 17 10 → s.simMode m = false →
      srcC 1 0 m.val ∉ s.inj.residue →
      (0 < x.skip → ∃ t, exec (.sampleReady m v stamp sat bad) s = .next t ∧ t.now = max s.now (stamp + delay)
        ∧ t.ms = { s.ms with mod := s.ms.mod.set m.val { x with
            skip := x.skip - 1, resBad := x.resBad || bad, sat := out, ovlSent := x.ovlSent || out } m.isLt }
        ∧ told t ∧ t.edg = s.edg ∧ t.drv = s.drv ∧ t.mem = s.mem)
      ∧ (x.skip = 0 → ∃ t, exec (.sampleReady m v stamp sat bad) s = .next t ∧ t.now = max s.now (stamp + delay)
        ∧ t.ms.mod[m].kept.map (fun (y : Sample) => (y.v, y.stamp)) = (c, stamp) :: x.kept.map (fun (y : Sample) => (y.v, y.stamp))
        ∧ (t.ms.mod[m].kept.drop 1) = x.kept
        ∧ (∀ y ∈ t.ms.mod[m].kept.head?, y.valid = (!bad && !x.resBad && !x.chkf && !x.chkp && !s.ms.pair[pairOf m].plf
          && !(out && s.rb Reg.modCfg m.val 4)))
        ∧ t.ms.mod[m].resBad = (x.resBad || bad) ∧ t.ms.mod[m].sat = out ∧ t.ms.mod[m].ovlSent = (x.ovlSent || out)
        ∧ told t ∧ t.edg = s.edg ∧ t.drv = s.drv ∧ t.mem = s.mem))
    ∧ (x.run = true → x.req = none → 0 < fld x.word 17 10 → x.kept.length < fld x.word 17 10 → x.skip = 0 → s.simMode m = true →
      srcC 1 0 m.val ∉ s.inj.residue → ∀ n : Fin 8, n.val / 2 = m.val / 2 → n ≠ m → s.ms.mod[n].run = true →
      let pairs (l : List Sample) : List (Int × Nat) := l.map fun y => (y.v, y.stamp)
      (s.ms.pair[pairOf m].last = none → ∃ t, exec (.sampleReady m v stamp sat bad) s = .next t ∧ t.ms.mod[m].kept = x.kept
        ∧ t.ms.mod[n] = s.ms.mod[n]
        ∧ ∃ y ∈ t.ms.pair[pairOf m].last, y.1 = decide (m.val % 2 = 1) ∧ y.2.v = c ∧ y.2.stamp = stamp)
      ∧ (∀ z ∈ s.ms.pair[pairOf m].last,
        (z.1 = decide (m.val % 2 = 0) → z.2.stamp = stamp → ∃ t, exec (.sampleReady m v stamp sat bad) s = .next t
          ∧ t.ms.pair[pairOf m].last = none ∧ pairs t.ms.mod[m].kept = (c, stamp) :: pairs x.kept
          ∧ (0 < fld s.ms.mod[n].word 17 10 → pairs t.ms.mod[n].kept = (z.2.v, stamp) :: pairs s.ms.mod[n].kept))
        ∧ (z.1 = decide (m.val % 2 = 1) ∨ z.2.stamp ≠ stamp → ∃ t, exec (.sampleReady m v stamp sat bad) s = .next t
          ∧ (∃ y ∈ t.ms.pair[pairOf m].last, y.1 = decide (m.val % 2 = 1) ∧ y.2.v = c ∧ y.2.stamp = stamp)
          ∧ (z.1 = decide (m.val % 2 = 1) → pairs t.ms.mod[m].kept = (z.2.v, z.2.stamp) :: pairs x.kept ∧ t.ms.mod[n] = s.ms.mod[n])
          ∧ (z.1 = decide (m.val % 2 = 0) → pairs t.ms.mod[m].kept = pairs x.kept
            ∧ (0 < fld s.ms.mod[n].word 17 10 → pairs t.ms.mod[n].kept = (z.2.v, z.2.stamp) :: pairs s.ms.mod[n].kept)))))
    ∧ (x.run = false → x.req = none → exec (.sampleReady m v stamp sat bad) s = .next s.settle)
    ∧ (s.ms.ends = [] → exec (.figuresPublish bad) s = .next s.settle)
    ∧ (∀ e ∈ s.ms.ends.head?, srcC 1 4 0 ∉ s.inj.residue → ∃ t, exec (.figuresPublish bad) s = .next t ∧ t.ms.ends = s.ms.ends.tail
      ∧ (bad = true → s.Emits t 1 0xD 0x140 0) ∧ t.rb Reg.winStat e.1.val 1 = true
      ∧ (let r := e.2
        let old := s.ms.win[e.1]
        let new := t.ms.win[e.1]
        let ninv := (r.pts.filter fun y => !y.valid).length
        let kept (i : Fin 32) : Prop := new.figs[i] = old.figs[i] ∧ new.fseq[i] = old.fseq[i]
        let shown (i : Fin 32) (x : Word) : Prop := new.figs[i] = x ∧ new.fseq[i] = old.fseq[i] + 1
        let n : Nat := r.pts.length
        let run : Nat := fld r.cfg 15 13
        let long : Bool := (List.range n).any fun j => decide (j + run < n) && ((r.pts.drop j).take (run + 1)).all fun y => !y.valid
        -- the points, an invalid one on the line between its nearest valid neighbours, or at the value of its one neighbour
        let value (i : Nat) : Rat := ((r.pts.map fun y => y.v).getD i 0 : Int)
        let ok (i : Nat) : Bool := (r.pts.map fun y => y.valid).getD i false
        let filled (i : Nat) : Rat := if ok i then value i else
          match (List.range i).reverse.find? ok, (List.range n).find? fun j => decide (i < j) && ok j with
          | some a, some b => value a + (value b - value a) * ((i : Rat) - a) / ((b : Rat) - a)
          | some a, none => value a
          | none, some b => value b
          | none, none => 0
        let phi (i : Nat) : Rat := (5 * (r.tdc : Int) + (r.k0 + i) * r.step5 : Int)
        -- point i is the first grid angle at or after an angle
        let near (ang i : Nat) : Bool := decide ((5 * (r.tdc : Int) + (r.k0 + i) * r.step5 - 5 * ang) % s.cyc5 < r.step5)
        let ofs : Rat := match (List.range n).find? (near r.peg) with
          | some i =>
            let l := ((r.pts.drop i).filter fun y => y.valid).take (fld r.cfg 12 9 + 1)
            if bit r.cfg 8 && !l.isEmpty then (sx 32 r.pref.toNat : Rat) - satSum (l.map fun y => (y.v : Rat)) / l.length else 0
          | none => 0
        let p (i : Nat) : Rat := filled i + ofs
        let vol (i : Nat) : Rat := s.volAt r (r.k0 + i)
        let half (g : Nat → Rat) (i : Nat) : Rat :=
          if n ≤ 1 then 0 else if i = 0 then g 1 - g 0 else if i + 1 = n then g i - g (i - 1) else (g (i + 1) - g (i - 1)) / 2
        let best (g : Nat → Rat) (i : Nat) : Prop := (∀ j < n, g j ≤ g i) ∧ ∀ j < i, g j < g i
        let γ : Rat := (max 0x4333 (min 0x6666 r.hr) : Nat) / 16384
        let heat (k : Nat) : Rat := satSum ((List.range (k + 1)).map fun i => γ / (γ - 1) * (p i * half vol i) + 1 / (γ - 1) * (vol i * half p i))
        let novol : Bool := decide (r.k0 * r.step5 < -(5 * 2949120)) || decide (5 * 2949120 < (r.k0 + n - 1) * r.step5)
        let crossed (top : Rat) (i : Fin 32) (lv : Nat) : Prop :=
          ∀ k < n, top * lv / 100 ≤ heat k → (∀ j < k, heat j < top * lv / 100) → shown i (s.figAng (if k = 0 then phi 0 else
            phi (k - 1) + (phi k - phi (k - 1)) * (top * lv / 100 - heat (k - 1)) / (heat k - heat (k - 1))))
        let inner (i : Nat) : Bool := decide (4 ≤ i) && decide (i + 4 < n) && decide (5120 * sx 16 (fld r.knk 15 0) ≤ (r.k0 + i) * r.step5)
          && decide ((r.k0 + i) * r.step5 ≤ 5120 * sx 16 (fld r.knk 31 16))
        let dev (i : Nat) : Rat :=
          let x := p i - satSum ((List.range 9).map fun j => p (i + j - 4)) / 9
          max x (-x)
        new.figs[0].toNat / 65536 = r.cyc % 65536 ∧ new.fseq[0] = old.fseq[0] + 1
        ∧ new.figs[0].toNat % 4 = (if r.aborted || bad then 2 else 1)
        ∧ new.isOpen = old.isOpen ∧ new.runs = old.runs
        ∧ (r.aborted = true ∨ bad = true → ∀ i : Fin 32, i ≠ 0 → new.figs[i] = old.figs[i] ∧ new.fseq[i] = old.fseq[i])
        ∧ (r.aborted = false → bad = false → new.figs[13].toNat = r.pts.length % 2 ^ 32 ∧ new.figs[14].toNat = ninv % 2 ^ 32)
        ∧ (r.aborted = false → bad = false → bit r.cfg 8 = false → r.pts ≠ [] → (∀ y ∈ r.pts, y.valid = true ∧ y.v.natAbs < 2 ^ 19) →
          (∀ y ∈ r.pts, y.v ≤ new.figs[1].toInt) ∧ (∃ y ∈ r.pts, y.v = new.figs[1].toInt) ∧ new.fseq[12] = old.fseq[12])
        ∧ (r.aborted = false → bad = false → long = true → ∀ i : Fin 32, i ≠ 0 → i ≠ 13 → i ≠ 14 → kept i)
        ∧ (r.aborted = false → bad = false → long = false → 0 < n →
          (∀ i < n, best p i → shown 1 (figW (p i)) ∧ shown 2 (s.figAng (phi i)))
          ∧ (∀ i < n, best (half p) i → shown 3 (figW (half p i)) ∧ shown 4 (s.figAng (phi i)))
          ∧ (novol = false → shown 5 (figW (satSum ((List.range n).map fun i => p i * half vol i))))
          ∧ (novol = false → ∀ i < n, best heat i → shown 6 (figW (heat i))
            ∧ new.figs[0].getLsbD 3 = decide (heat i < (sx 32 r.mis.toNat : Rat))
            ∧ (heat i < (sx 32 r.mis.toNat : Rat) → kept 7 ∧ kept 8 ∧ kept 9)
            ∧ ((sx 32 r.mis.toNat : Rat) ≤ heat i → crossed (heat i) 7 10 ∧ crossed (heat i) 8 50 ∧ crossed (heat i) 9 90))
          ∧ (novol = true → kept 5 ∧ kept 6 ∧ kept 7 ∧ kept 8 ∧ kept 9)
          ∧ (∀ i < n, near r.mot i = true → (∀ j < i, near r.mot j = false) → shown 10 (figW (p i)))
          ∧ ((∀ i < n, near r.mot i = false) → kept 10)
          ∧ (∀ i < n, inner i = true → (∀ j < n, inner j = true → dev j ≤ dev i) → shown 11 (figW (dev i)))
          ∧ ((∀ i < n, inner i = false) → kept 11)
          ∧ (if bit r.cfg 8 then shown 12 (figW ofs) else kept 12)
          ∧ shown 15 (figW (satSum ((List.range n).map p) / n)))
        ∧ ∀ i : Fin 32, 16 ≤ i.val → kept i)
      ∧ (∀ k : Fin 16, k ≠ e.1 → t.ms.win[k] = s.ms.win[k]) ∧ t.ms.mod = s.ms.mod ∧ t.edg = s.edg ∧ t.drv = s.drv ∧ t.mem = s.mem)
    ∧ (s.Readable q →
      (∃ t, exec (.resultRead rd m) s = .next t ∧ t.answer q = .ok
        ∧ (if q = 0 then t.host.data else [t.mnt.idata]) = [BitVec.ofNat 32 ((x.res % 2 ^ 20).toNat + x.resCh % 32 * 2 ^ 20)]
        ∧ t.readers[rd].shadowOf (Reg.modRsq.addr m.val 0)
          = some (BitVec.ofNat 32 (x.rsq % 65536 + if sparseGet 0 s.readers[rd].seen m.val ≠ x.rsq then 65536 else 0))
        ∧ t.readers[rd].shadowOf (Reg.modRts.addr m.val 0) = some (BitVec.ofNat 32 (x.rts % 2 ^ 32))
        ∧ sparseGet 0 t.readers[rd].seen m.val = x.rsq
        ∧ t = { u with readers := t.readers, host := t.host, mnt := t.mnt, pins := t.pins })
      ∧ (∃ t, exec (.figureRead rd w 0) s = .next t ∧ t.answer q = .ok
        ∧ (if q = 0 then t.host.data else [t.mnt.idata]) = [s.ms.win[w].figs[0]]
        ∧ (∀ i : Fin 32, i ≠ 0 → t.readers[rd].shadowOf (Reg.fig.addr w.val i.val) = some s.ms.win[w].figs[i])
        ∧ t = { u with readers := t.readers, host := t.host, mnt := t.mnt, pins := t.pins })
      ∧ (f ≠ 0 → ∃ t, exec (.figureRead rd w f) s = .next t ∧ t.answer q = .ok
        ∧ (if q = 0 then t.host.data else [t.mnt.idata]) = [(s.readers[rd].shadowOf (Reg.fig.addr w.val f.val)).getD 0]
        ∧ t = { u with readers := t.readers, host := t.host, mnt := t.mnt, pins := t.pins }))
    ∧ (∀ n : Fin 9, (∃ t, exec (.resultRead ⟨n.val, by omega⟩ m) s = .next t
        ∧ sparseGet 0 t.readers[n.val].seen m.val = x.rsq ∧ t = { u with readers := t.readers, pins := t.pins })
      ∧ ∃ t, exec (.figureRead ⟨n.val, by omega⟩ w f) s = .next t ∧ t = { u with readers := t.readers, pins := t.pins })

/-- R280 to R282, R285 to R289: the memory die zeroes its words upward one MiB at a time; the scrubber judges the words of its next
block once no ring write waits, or its turn of one transfer in 4,096 has come; a ring is enabled only inside the initialised memory and
clear of the others, begins with WP, RP and SEQ 0, keeps only the slot being written when it is disabled, freezes at once or after its
POST count, and resumes, before a trigger of the same TCLK, which freezes it again or has frozen it. That the memory is zeroed MiB
by MiB is the model's choice (log entry 24). -/
def Obligations.TraceMemoryCommands : Prop :=
  ∀ (s : State) (p : Fin 2) (r : Fin 3) (v : Word) (errs : List (Nat × Fin 3)), s.clocked = true →
    let m := s.trc.initMb
    let g := s.trc.ring[r]
    let port : Fin 11 := if p = 0 then 9 else 10
    let open_ : Word := if s.rowLocked Reg.ringCfg r.val then 1 else 0xFFFF1FFF
    let put (w : Word) : Word := (s.rg Reg.ringCfg r.val &&& ~~~open_) ||| (w &&& open_)
    let off := put (setFld v 0 0 0)
    let on_ := put (setFld v 0 0 1)
    let size : Nat := fld on_ 10 1 + 1
    let only : Prop := s.hwNow (wroteKey (Reg.ringCfg.addr r.val 0)) < 2 * portRank port
    let stored (t : State) : Prop := (s.rowLocked Reg.ringCfg r.val = false → t.coll = s.coll)
      ∧ t = { s with
          regs := t.regs, hwSet := t.hwSet, inj := t.inj, coll := t.coll, trc := t.trc, host := t.host, mnt := t.mnt, pins := t.pins }
    let turn : Prop := 4095 ≤ s.trc.sinceScrub ∨ ∀ q : Fin 3, s.trc.ring[q].q = []
    let lo : Nat := s.rf Reg.ringBase r.val 11 0
    let apart : Prop := ∀ q : Fin 3, q ≠ r → s.ringEn q = true → s.ringHi q ≤ lo ∨ lo + size ≤ s.ringLo q
    let blocks : Nat := m * 16384
    let b : Nat := if s.trc.scrub < blocks then s.trc.scrub else 0
    (s.memReady = true → m < 4096 → ∃ t, exec .initmbAdvance s = .next t ∧ t.trc.initMb = m + 1
      ∧ t.trc.init = decide (m + 1 = 4096) ∧ (∀ a : Nat, traceBase + m * 2 ^ 20 ≤ a → a < traceBase + (m + 1) * 2 ^ 20 → t.byte a = 0)
      ∧ (∀ a : Nat, a < traceBase + m * 2 ^ 20 ∨ traceBase + (m + 1) * 2 ^ 20 ≤ a → t.byte a = s.byte a)
      ∧ t.trc.ring = s.trc.ring ∧ t.regs = s.regs ∧ t.edg = s.edg)
    ∧ (s.memReady = false ∨ m = 4096 → exec .initmbAdvance s = .next s.settle)
    ∧ (s.memReady = true → s.trc.init = false → ∃ t, exec .traceInitDone s = .next t ∧ t.trc.initMb = 4096 ∧ t.trc.init = true
      ∧ (∀ a : Nat, traceBase + m * 2 ^ 20 ≤ a → a < traceBase + 2 ^ 32 → t.byte a = 0)
      ∧ (∀ a : Nat, a < traceBase + m * 2 ^ 20 ∨ traceBase + 2 ^ 32 ≤ a → t.byte a = s.byte a)
      ∧ t.trc.ring = s.trc.ring ∧ t.regs = s.regs ∧ t.edg = s.edg)
    ∧ (s.memReady = false ∨ s.trc.init = true → exec .traceInitDone s = .next s.settle)
    ∧ (turn → s.rf Reg.trcScrub 0 7 0 ≠ 0 → m ≠ 0 → ∃ t, exec (.scrubRead []) s = .next t ∧ t.trc.scrub = (b + 1) % 67108864
      ∧ (s.inj.flips = [] → t = { s with
          trc := { s.trc with scrub := (b + 1) % 67108864, sinceScrub := 0, scrubWait := none }, pins := t.pins }))
    ∧ (turn → s.rf Reg.trcScrub 0 7 0 ≠ 0 → m ≠ 0 → s.inj.flips = [] → ∃ t, exec (.scrubRead [(b * 8 + 3, 1)]) s = .next t
      ∧ t.rf Reg.trcEcc 0 15 0 = min 65535 (s.rf Reg.trcEcc 0 15 0 + 1)
      ∧ s.Emits t 0 6 0x800 ((b * 8 + 3) % 2 ^ 29 + 2 ^ 29) ∧ t.mem = s.mem)
    ∧ (turn → s.rf Reg.trcScrub 0 7 0 ≠ 0 → m ≠ 0 → s.inj.flips = [] → ∃ t, exec (.scrubRead [(b * 8 + 3, 2)]) s = .next t
      ∧ t.rf Reg.trcEcc 0 31 16 = min 65535 (s.rf Reg.trcEcc 0 31 16 + 1) ∧ t.trc.eaddr = (b * 8 + 3) % 2 ^ 29
      ∧ s.Emits t 1 7 0x800 ((b * 8 + 3) % 2 ^ 29 + 2 ^ 29) ∧ t.mem = s.mem)
    ∧ (turn → s.rf Reg.trcScrub 0 7 0 = 0 ∨ m = 0 → exec (.scrubRead errs) s
      = .next ({ s with trc := { s.trc with scrubWait := none } } : State).settle)
    ∧ (¬turn → exec (.scrubRead errs) s = .next ({ s with trc := { s.trc with scrubWait := some errs } } : State).settle)
    ∧ (s.Writable p →
      (only → s.ringEn r = false → lo + size ≤ 4096 → lo + size ≤ m → apart → ∃ t, exec (.ringEnable p r v) s = .next t ∧ t.answer p = .ok
        ∧ t.rg Reg.ringCfg r.val 0 = on_ ∧ t.rf Reg.ringRp r.val 23 0 = 0
        ∧ t.trc = { s.trc with ring := s.trc.ring.set r.val ⟨0, 0, false, false, none, [], none, false⟩ r.isLt } ∧ stored t)
      ∧ (only → s.ringEn r = false → 4096 < lo + size ∨ m < lo + size → ∃ t, exec (.ringEnable p r v) s = .next t
        ∧ t.rb Reg.ringCfg r.val 0 = false ∧ t.trc = s.trc ∧ s.Emits t 0 0xE (0x240 + r.val) r.val)
      ∧ (only → s.ringEn r = false → ¬apart → ∃ t, exec (.ringEnable p r v) s = .next t
        ∧ t.rb Reg.ringCfg r.val 0 = false ∧ t.trc = s.trc ∧ s.Emits t 0 0xE (0x240 + r.val) r.val)
      ∧ (s.ringEn r = true → ∃ t, exec (.ringEnable p r v) s = .next t ∧ t.rb Reg.ringCfg r.val 0 = true
        ∧ t.rf Reg.ringCfg r.val 10 1 = s.rf Reg.ringCfg r.val 10 1 ∧ t.trc = s.trc)
      ∧ (only → s.ringEn r = true → ∃ t, exec (.ringDisable p r v) s = .next t ∧ t.rb Reg.ringCfg r.val 0 = false
        ∧ t.trc = { s.trc with ring := s.trc.ring.set r.val { g with
            q := if s.links.mdlHead = some (some r) then g.q.take 1 else [], post := none } r.isLt } ∧ stored t)
      ∧ (only → s.ringEn r = false → ∃ t, exec (.ringDisable p r v) s = .next t ∧ t.rg Reg.ringCfg r.val 0 = off ∧ t.trc = s.trc)
      ∧ (s.ringEn r = true → g.frozen = false → g.post = none → s.rf Reg.ringCfg r.val 31 16 = 0 →
        ∃ t, exec (.ringFreeze p r) s = .next t ∧ t.answer p = .ok ∧ s.Emits t 0 0x10 (0x240 + r.val) 0
        ∧ t = { s with
            trc := { s.trc with ring := s.trc.ring.set r.val { g with frozen := true, trigAt := some (s.now, true) } r.isLt }
            coll := t.coll, regs := t.regs, host := t.host, mnt := t.mnt, pins := t.pins })
      ∧ (s.ringEn r = true → g.frozen = false → g.post = none → s.rf Reg.ringCfg r.val 31 16 ≠ 0 →
        exec (.ringFreeze p r) s = .next (({ s with
          trc := { s.trc with ring := s.trc.ring.set r.val { g with post := some (s.rf Reg.ringCfg r.val 31 16 * 256) } r.isLt }
          } : State).answered p .ok).settle)
      ∧ (s.ringEn r = true → g.post.isSome = true → exec (.ringFreeze p r) s = .next (s.answered p .ok).settle)
      ∧ (s.ringEn r = true → g.post = none → g.frozen = true → exec (.ringFreeze p r) s = .next (({ s with
          trc := { s.trc with ring := s.trc.ring.set r.val { g with
            trigAt := some (s.now, decide (g.trigAt = some (s.now, true))) } r.isLt } } : State).answered p .ok).settle)
      ∧ (g.trigAt = some (s.now, true) → exec (.ringResume p r) s = .next (s.answered p .ok).settle)
      ∧ (g.trigAt ≠ some (s.now, true) → g.trigAt ≠ some (s.now, false) → exec (.ringResume p r) s = .next (({ s with
          trc := { s.trc with ring := s.trc.ring.set r.val { g with frozen := false, trigAt := none } r.isLt }
          } : State).answered p .ok).settle)
      ∧ (g.trigAt = some (s.now, false) → s.ringEn r = true → g.post = none →
        let n := s.rf Reg.ringCfg r.val 31 16
        ∃ t, exec (.ringResume p r) s = .next t ∧ t.answer p = .ok
        ∧ t.trc = { s.trc with ring := s.trc.ring.set r.val { g with
            frozen := decide (n = 0), trigAt := if n = 0 then some (s.now, true) else none, post := if n = 0 then none else some (n * 256) } r.isLt }
        ∧ (n = 0 → s.Emits t 0 0x10 (0x240 + r.val) 0)))
    ∧ (g.post = some 0 → ∃ t, exec (.ringPostDone r) s = .next t ∧ s.Emits t 0 0x10 (0x240 + r.val) 0
      ∧ t = { s with
          trc := { s.trc with ring := s.trc.ring.set r.val { g with post := none, frozen := true } r.isLt }
          coll := t.coll, regs := t.regs, pins := t.pins })
    ∧ (g.post ≠ some 0 → exec (.ringPostDone r) s = .next s.settle)

/-- R298, R301 to R304, R309 to R311, R313: a jig instruction runs at the first tick of its engine's rate generator that is not past (log
entry 5), then PC moves on, from 63 to 0; a corrected word is noted. A reserved opcode, code or field, an uncorrectable word and a failed
residue stop the engine with FAULT and a message, an uncorrectable word with ECC_UE as well (R414). The signs of the register forms, F
among them, are those of the instruction table. That outputs and directions keep their value, and what a FIFO write counts, are the
model's choices (log entry 31). -/
def Obligations.JigInstructions : Prop :=
  ∀ (s : State) (e : Fin 8) (a : BitVec 10) (imm : BitVec 16) (pins : BitVec 8) (d c : Fin 8) (w : BitVec 32), s.clocked = true →
    let g0 := s.jig[e]
    let k := max g0.tick (g0.tickFrom s.svclk)
    let word : Nat := g0.pc % 64 + if g0.bank then 64 else 0
    let key : Nat := jigKey e g0.bank g0.pc
    let u := ((s.jigTick e).jigFetch e).1
    let g := u.jig[e]
    let sound : Prop := g0.ready = true ∧ g0.fswap = false ∧ s.eccOf key 0 ≤ 1
    let seen : BitVec 8 := if s.sys.vio[2] then pins else 0
    let put (h : Jig) : State := { u with jig := u.jig.set e.val h e.isLt }
    let next (h : Jig) : State := put { h with pc := (g.pc + 1) % 64 }
    let later (n : Nat) (f : Jig → Jig) : State :=
      let v := u.jigSpan e n
      { v with jig := v.jig.set e.val { f v.jig[e] with pc := (g.pc + 1) % 64 } e.isLt }
    let reg (k : Nat) : Word := match k with
      | 0 => g.x | 1 => g.y | 2 => g.z | 3 => g.c.zeroExtend 32 | 4 => g.s | 5 => seen.zeroExtend 32
      | _ => match u.angAt (u.now - 4) with
        | some x => BitVec.ofNat 32 x
        | none => 0
    let wr (k : Nat) (v : Word) (h : Jig) : Jig := match k with
      | 0 => { h with x := v } | 1 => { h with y := v } | 2 => { h with z := v } | 3 => { h with c := v.truncate 16 }
      | _ => { h with s := v, sc := 32 }
    let noAng : Bool := decide (c.val = 6) && (u.angAt (u.now - 4)).isNone
    let two : BitVec 10 := BitVec.ofNat 10 (d.val + 8 * c.val)
    let one : BitVec 10 := BitVec.ofNat 10 d.val
    let dst := reg d.val
    let stop (kind : Nat) (t : State) : Prop :=
      t.jig[e] = { g with run := false, wait := none, tmo := 0, stall := none, idle := 0, fault := true, fswap := false }
      ∧ u.Emits t 1 kind (0x220 + e.val) (g.pc % 64 + if g.bank then 64 else 0)
      ∧ (∀ k : Fin 8, k ≠ e → t.jig[k] = s.jig[k]) ∧ t.edg = s.edg ∧ t.mem = s.mem
    let swapped (t : State) : Prop := t.jig[e] = { g with bank := !g.bank, pc := u.rf Reg.jigCfg e.val 21 16, swpend := false }
      ∧ t.rb Reg.jigEvt e.val 4 = true
    let mask := imm.toNat / 256
    let base : Nat := if u.rf Reg.jigCfg e.val 5 1 < 24 then u.rf Reg.jigCfg e.val 5 1 else 0
    let drives (i : Fin 8) : Bool := mask.testBit i.val && decide (u.rf Reg.jpCfg ((base + i.val) % 24) 3 0 = e.val)
    (sound → srcC 2 2 e.val ∉ s.inj.residue →
      (∃ t, exec (.jigNop e 0 0) s = .next t ∧ t = (next g).settle ∧ t.now = max s.now (2 * g0.tickAt k)
        ∧ t.jig[e] = { g0 with tick := k + 1, pc := (g0.pc + 1) % 64 }
        ∧ (s.eccOf key 0 = 0 → t.coll = s.coll) ∧ (s.eccOf key 0 = 1 → s.Emits t 0 0 (0x220 + e.val) word ∧ t.inj = s.inj))
      ∧ exec (.jigIdle e 0 imm) s = .next (if imm = 0 then next g else put { g with idle := imm.toNat }).settle
      ∧ (∃ t, exec (.jigPins e 0 imm) s = .next t ∧ t.jig[e] = { g with pc := (g.pc + 1) % 64, outs := t.jig[e].outs }
        ∧ ∀ i : Fin 8, t.jig[e].outs.getLsbD i.val = (if drives i then imm.toNat.testBit i.val else g.outs.getLsbD i.val))
      ∧ (∃ t, exec (.jigDirs e 0 imm) s = .next t ∧ t.jig[e] = { g with pc := (g.pc + 1) % 64, dirs := t.jig[e].dirs }
        ∧ ∀ i : Fin 8, t.jig[e].dirs.getLsbD i.val = (if drives i then imm.toNat.testBit i.val else g.dirs.getLsbD i.val))
      ∧ (d.val ≤ 4 → c.val ≤ 6 →
        exec (.jigMov e two 0 pins) s = .next (next { wr d.val (reg c.val) g with f := g.f || noAng }).settle)
      ∧ (d.val ≤ 3 → exec (.jigMovi e one imm) s = .next (next (wr d.val (imm.zeroExtend 32) g)).settle
        ∧ exec (.jigMovi e (BitVec.ofNat 10 (d.val + 8)) imm) s
            = .next (next (wr d.val ((dst &&& 0xFFFF) ||| (imm.zeroExtend 32 <<< 16)) g)).settle)
      ∧ (d.val ≤ 2 → exec (.jigAddi e one imm) s
            = .next (next { wr d.val (dst + imm.signExtend 32) g with f := decide (dst + imm.signExtend 32 = 0) }).settle)
      ∧ exec (.jigAddi e 3 imm) s = .next (next { g with c := g.c + imm, f := decide (g.c + imm = 0) }).settle
      ∧ (d.val ≤ 3 → c.val ≤ 6 → exec (.jigSub e two 0 pins) s
            = .next (next { wr d.val (dst - reg c.val) g with f := decide (dst.toNat < (reg c.val).toNat) || noAng }).settle)
      ∧ (d.val ≤ 3 → exec (.jigTest e one imm) s = .next (next { g with f := decide (dst.toNat = imm.toNat) }).settle
        ∧ exec (.jigTest e (BitVec.ofNat 10 (d.val + 8)) imm) s = .next (next { g with f := decide (dst.toNat < imm.toNat) }).settle
        ∧ exec (.jigTest e (BitVec.ofNat 10 (d.val + 16)) imm) s = .next (next { g with f := decide (imm.toNat ≤ dst.toNat) }).settle
        ∧ exec (.jigTest e (BitVec.ofNat 10 (d.val + 24)) imm) s = .next (next { g with f := dst.getLsbD (imm.toNat % 32) }).settle)
      ∧ (imm.toNat < 64 →
        let go : State := put { g with pc := imm.toNat }
        exec (.jigBr e 0 imm pins) s = .next go.settle
        ∧ exec (.jigBr e 1 imm pins) s = .next (if g.f then go else next g).settle
        ∧ exec (.jigBr e 2 imm pins) s = .next (if g.f then next g else go).settle
        ∧ exec (.jigBr e (BitVec.ofNat 10 (3 + 16 * c.val)) imm pins) s = .next (if seen.getLsbD c.val then go else next g).settle
        ∧ exec (.jigBr e (BitVec.ofNat 10 (4 + 16 * c.val)) imm pins) s = .next (if seen.getLsbD c.val then next g else go).settle
        ∧ exec (.jigBr e 5 imm pins) s = .next (if g.rxf.length < 8 then go else next g).settle
        ∧ exec (.jigBr e 6 imm pins) s = .next (if g.txf = [] then next g else go).settle
        ∧ exec (.jigBr e 7 imm pins) s = .next (if g.trgl then go else next g).settle
        ∧ exec (.jigLoop e 0 imm) s = .next (if g.c.toNat ≤ 1 then next { g with c := 0 }
            else put { g with c := g.c - 1, pc := imm.toNat }).settle)
      ∧ exec (.jigRecip e 0 imm) s = .next (later 19 fun h => if g.x = 0 then { h with y := 0xFFFFFFFF, f := true } else
          { h with y := BitVec.ofNat 32 (min 0xFFFFFFFF ((imm.toNat * 2 ^ 25 + g.x.toNat) / (2 * g.x.toNat))), f := false }).settle
      ∧ (let r : Nat := (g.x.toNat * g.y.toNat + 2 ^ 23) / 2 ^ 24
        exec (.jigMulq e 0 0) s = .next (later 1 fun h =>
          { h with x := BitVec.ofNat 32 (min 0xFFFFFFFF r), f := decide (0xFFFFFFFF < r) }).settle)
      ∧ (∀ l : Bool, ∃ t, exec (.jigSig e (if l then 1 else 0) 0) s = .next t ∧ t.jig = (next g).jig
        ∧ t.rb Reg.jigEvt e.val (if l then 1 else 0) = true
        ∧ t = { u with jig := t.jig, regs := t.regs, hwSet := t.hwSet, pins := t.pins })
      ∧ (g.swpend = false → exec (.jigYield e 0 0) s = .next (next g).settle)
      ∧ (g.swpend = true → ∃ t, exec (.jigYield e 0 0) s = .next t ∧ swapped t ∧ t.coll = u.coll)
      ∧ (a ≠ 0 ∨ imm ≠ 0 → (∃ t, exec (.jigNop e a imm) s = .next t ∧ stop 8 t) ∧ (∃ t, exec (.jigMulq e a imm) s = .next t ∧ stop 8 t)
        ∧ ∃ t, exec (.jigYield e a imm) s = .next t ∧ stop 8 t)
      ∧ (a ≠ 0 → (∃ t, exec (.jigIdle e a imm) s = .next t ∧ stop 8 t) ∧ (∃ t, exec (.jigPins e a imm) s = .next t ∧ stop 8 t)
        ∧ (∃ t, exec (.jigDirs e a imm) s = .next t ∧ stop 8 t) ∧ ∃ t, exec (.jigRecip e a imm) s = .next t ∧ stop 8 t)
      ∧ (d.val = 5 ∨ d.val = 6 ∨ d.val = 7 ∨ c.val = 7 → (∃ t, exec (.jigMov e two 0 pins) s = .next t ∧ stop 8 t)
        ∧ ∃ t, exec (.jigSub e two 0 pins) s = .next t ∧ stop 8 t)
      ∧ (4 ≤ d.val → (∃ t, exec (.jigMovi e one imm) s = .next t ∧ stop 8 t) ∧ (∃ t, exec (.jigAddi e one imm) s = .next t ∧ stop 8 t)
        ∧ ∃ t, exec (.jigTest e one imm) s = .next t ∧ stop 8 t)
      ∧ (64 ≤ imm.toNat ∨ 8 ≤ a.toNat % 16 ∨ 128 ≤ a.toNat → ∃ t, exec (.jigBr e a imm pins) s = .next t ∧ stop 8 t)
      ∧ (64 ≤ imm.toNat ∨ a ≠ 0 → ∃ t, exec (.jigLoop e a imm) s = .next t ∧ stop 8 t)
      ∧ (imm ≠ 0 ∨ 2 ≤ a.toNat → ∃ t, exec (.jigSig e a imm) s = .next t ∧ stop 8 t)
      ∧ (0x16 ≤ w.toNat / 2 ^ 26 → ∃ t, exec (.jigReservedOpcode e w) s = .next t ∧ stop 8 t))
    ∧ (g0.ready = true → 2 ≤ s.eccOf key 0 → ∃ t, exec (.jigNop e 0 0) s = .next t ∧ stop 9 t ∧ s.Emits t 1 1 (0x220 + e.val) word)
    ∧ (g0.ready = true → s.eccOf key 0 ≤ 1 → srcC 2 2 e.val ∈ s.inj.residue → ∃ t, exec (.jigNop e 0 0) s = .next t ∧ stop 9 t)
    ∧ (g0.ready = false → exec (.jigNop e a imm) s = .next s.settle ∧ exec (.jigReservedOpcode e w) s = .next s.settle)
    ∧ (g0.run = true → g0.idle ≠ 0 → ∃ t, exec (.jigIdleExpire e) s = .next t
      ∧ t.now = max s.now (2 * g0.tickAt (g0.tick + g0.idle - 1))
      ∧ t.jig[e] = { g0 with idle := 0, tick := g0.tick + g0.idle, pc := (g0.pc + 1) % 64 }
      ∧ t = { s.jigSpan e g0.idle with jig := t.jig, pins := t.pins })
    ∧ (g0.idle = 0 → exec (.jigIdleExpire e) s = .next s.settle)

/-- R296, R302, R305 to R308, R313, R316: waits end with F = 0 at their condition, FLT samples after it, and with F = 1 at their
timeout; an edge not later than the wait's own tick does not end it; a capturing WAITE measures from the last capture. SHIN and SHOUT
move n bits of S in either order from and to a pin, one at each tick, or X; the END write and the FETCH load, which APUSH and APULL
bring too (log entry 86), stall on a full and on an empty FIFO, and so do PUSH and PULL without NB. The tick at which a wait or a stall
ends, and what is taken back in its SVCLK (the count of a trigger before its WAITG, a PULL and a write that missed each other), are the
model's choices (log entries 5 and 89). -/
def Obligations.JigWaitsShiftsAndFifos : Prop :=
  ∀ (s : State) (e : Fin 8) (imm : BitVec 16) (pins : BitVec 8) (bits : BitVec 32) (i : Fin 8) (n : Fin 33) (ord : Bool) (stamp : Nat),
    s.clocked = true → n ≠ 0 →
    let g0 := s.jig[e]
    let key : Nat := jigKey e g0.bank g0.pc
    let u := ((s.jigTick e).jigFetch e).1
    let g := u.jig[e]
    let v := u.jigSpan e (n.val - 1)
    let o : Nat := if ord then 8 else 0
    let code (x : Nat) : BitVec 10 := BitVec.ofNat 10 (i.val + o + x)
    let len : BitVec 16 := BitVec.ofNat 16 n.val
    let put (h : Jig) : State := { u with jig := u.jig.set e.val h e.isLt }
    let next (h : Jig) : State := put { h with pc := (g.pc + 1) % 64 }
    let seen : BitVec 8 := if s.sys.vio[2] then pins else 0
    let got : BitVec 32 := if s.sys.vio[2] then bits else 0
    let m : Nat := min n.val g.sc
    let x : Nat := g.x.toNat % 2 ^ n.val
    let inX : Nat := if ord then g.s.toNat / 2 ^ n.val + x * 2 ^ (32 - n.val) else (g.s.toNat * 2 ^ n.val + x) % 2 ^ 32
    let outX : Nat := if ord then g.s.toNat % 2 ^ m else g.s.toNat / 2 ^ (32 - m) * 2 ^ (n.val - m)
    let sAfter : Nat := if ord then g.s.toNat / 2 ^ n.val else g.s.toNat * 2 ^ n.val % 2 ^ 32
    let base : Nat := if u.rf Reg.jigCfg e.val 5 1 < 24 then u.rf Reg.jigCfg e.val 5 1 else 0
    let drives : Bool := decide (u.rf Reg.jpCfg ((base + i.val) % 24) 3 0 = e.val)
    let sent : Bool := decide (n.val ≤ g.sc) && (if ord then g.s.getLsbD (n.val - 1) else g.s.getLsbD (32 - n.val))
    let pushAt : Nat := if u.rf Reg.jigCfg e.val 12 8 = 0 then 32 else u.rf Reg.jigCfg e.val 12 8
    let auto : Bool := u.rb Reg.jigCfg e.val 7 && decide (pushAt ≤ min 32 (g.sc + n.val))
    let pull : Bool := u.rb Reg.jigCfg e.val 13
    let here : Nat := if s.rf Reg.jigCfg e.val 5 1 < 24 then s.rf Reg.jigCfg e.val 5 1 else 0
    let sees : Nat := 2 * (stamp + s.rf Reg.jpCfg ((here + i.val) % 24) 15 8)
    let after (t : State) : Nat := max g0.tick (g0.tickFrom ((t.now + 1) / 2 + 1))
    let ended (t : State) : Jig := { g0 with wait := none, tmo := 0, f := false, pc := (g0.pc + 1) % 64, tick := after t }
    (g0.ready = true → g0.fswap = false → s.eccOf key 0 ≤ 1 → srcC 2 2 e.val ∉ s.inj.residue →
      exec (.jigWaitl e (code 0) imm pins) s = .next (if seen.getLsbD i.val = ord then next { g with f := false }
          else put { g with wait := some (.level i ord), tmo := imm.toNat, began := u.svclk }).settle
      ∧ (∀ k : Fin 4, k ≠ 0 → ∀ cap : Bool, exec (.jigWaite e (BitVec.ofNat 10 (i.val + 8 * k.val + if cap then 32 else 0)) imm) s
          = .next (put { g with wait := some (.edge i k.val cap), tmo := imm.toNat, began := u.svclk }).settle)
      ∧ (∀ rln : Bool, ((∀ y ∈ g.trgAt, y.1 ≠ u.svclk) ∨ g.trgl = false →
          exec (.jigWaitg e (if rln then 1 else 0) imm) s
            = .next (if g.trgl then next { g with trgl := false, f := false, wgAt := some (u.svclk, rln) }
            else put { g with wait := some (.trigger rln), tmo := imm.toNat, began := u.svclk }).settle)
        ∧ (g.trgl = true → ∀ y ∈ g.trgAt, y.1 = u.svclk → ∃ t, exec (.jigWaitg e (if rln then 1 else 0) imm) s = .next t
          ∧ t.jig[e].trgl = false ∧ t.jig[e].f = false ∧ t.jig[e].wait = none ∧ t.jig[e].pc = (g.pc + 1) % 64
          ∧ (if rln then t.jig[e].align = u.svclk ∧ t.jig[e].tick = 0 else t.jig[e].align = g.align ∧ t.jig[e].tick = g.tick)
          ∧ t.rf Reg.jigCnt e.val 15 0 = u.rf Reg.jigCnt e.val 15 0 - if y.2 then 1 else 0))
      ∧ (g.swpend = false →
        (auto = false → exec (.jigShin e (code 16) len bits) s
          = .next (next { g with s := BitVec.ofNat 32 inX, sc := min 32 (g.sc + n.val) }).settle)
        ∧ (g.rxf.length < 8 → exec (.jigShin e (code 48) len bits) s
          = .next (next { g with rxf := g.rxf ++ [BitVec.ofNat 32 inX], s := 0, sc := 0, pushAt := some u.svclk }).settle)
        ∧ (auto = false → ∃ t, exec (.jigShin e (code 0) len bits) s = .next t
          ∧ t.jig[e] = { v.jig[e] with s := t.jig[e].s, sc := min 32 (g.sc + n.val), pc := (g.pc + 1) % 64 } ∧ t.now = v.now
          ∧ ∀ j : Fin 32, t.jig[e].s.getLsbD j.val = (if ord then
              (if j.val < 32 - n.val then g.s.getLsbD (j.val + n.val) else got.getLsbD (j.val + n.val - 32))
            else if j.val < n.val then got.getLsbD (n.val - 1 - j.val) else g.s.getLsbD (j.val - n.val)))
        ∧ (pull = false → exec (.jigShout e (code 16) len) s
          = .next (next { g with x := BitVec.ofNat 32 outX, s := BitVec.ofNat 32 sAfter, sc := g.sc - n.val }).settle)
        ∧ (pull = false → ∃ t, exec (.jigShout e (code 0) len) s = .next t ∧ t.now = v.now
          ∧ t.jig[e] = { v.jig[e] with
              s := BitVec.ofNat 32 sAfter, sc := g.sc - n.val, pc := (g.pc + 1) % 64, outs := t.jig[e].outs, wave := t.jig[e].wave }
          ∧ t.jig[e].wave = (if drives then (List.range n.val).map fun j => (g.tickAt (g.tick - 1 + j), i,
              decide (j < g.sc) && (if ord then g.s.getLsbD j else g.s.getLsbD (31 - j))) else [])
          ∧ ∀ j : Fin 8, t.jig[e].outs.getLsbD j.val = (if j = i ∧ drives = true then sent else g.outs.getLsbD j.val))
        ∧ (g.sc = 0 → g.txMiss = none → ∀ w ∈ g.txf.head?, ∃ t, exec (.jigShout e (code 48) len) s = .next t
          ∧ t.jig[e].x.toNat = (if ord then w.toNat % 2 ^ n.val else w.toNat / 2 ^ (32 - n.val)) ∧ t.jig[e].txf = g.txf.tail
          ∧ t.jig[e].sc = 32 - n.val ∧ t.jig[e].stall = none ∧ t.jig[e].pc = (g.pc + 1) % 64))
      ∧ (auto = true → ∀ y ∈ [0, 16], exec (.jigShin e (code y) len bits) s = exec (.jigShin e (code (y + 32)) len bits) s)
      ∧ (pull = true → ∀ y ∈ [0, 16], exec (.jigShout e (code y) len) s = exec (.jigShout e (code (y + 32)) len) s)
      ∧ (8 ≤ g.rxf.length → exec (.jigShin e (code 48) len bits) s
          = .next (put { g with s := BitVec.ofNat 32 inX, sc := min 32 (g.sc + n.val), stall := some .shinEnd }).settle)
      ∧ (g.sc = 0 → g.txf = [] → exec (.jigShout e (code 48) len) s
          = .next (put { g with stall := some (.shout i ord true n.val n.val 0) }).settle)
      ∧ (g.swpend = true → auto = false → ∃ t, exec (.jigShin e (code 16) len bits) s = .next t ∧ t.rb Reg.jigEvt e.val 4 = true
        ∧ t.jig[e] = { g with
            s := BitVec.ofNat 32 inX, sc := min 32 (g.sc + n.val), bank := !g.bank, pc := u.rf Reg.jigCfg e.val 21 16, swpend := false })
      ∧ (∀ nb : Bool, exec (.jigPush e (if nb then 1 else 0) 0) s
          = .next (if g.rxf.length < 8 then next { g with rxf := g.rxf ++ [g.s], s := 0, sc := 0, pushAt := some u.svclk }
            else if nb then next { g with f := true, nbMiss := some (u.svclk, false, g.f) } else put { g with stall := some .push }).settle
        ∧ (∀ w ∈ g.txf.head?, (∀ m ∈ g.txMiss, m.1 ≠ u.svclk) → exec (.jigPull e (if nb then 1 else 0) 0) s
          = .next (next { g with txf := g.txf.tail, s := w, sc := 32 }).settle)
        ∧ (∀ w ∈ g.txf.head?, g.txf.length ≤ 8 → ∀ m ∈ g.txMiss, m.1 = u.svclk → ∃ t, exec (.jigPull e (if nb then 1 else 0) 0) s = .next t
          ∧ t.jig[e] = { g with txf := g.txf.tail ++ [m.2.1], s := w, sc := 32, txMiss := none, pc := (g.pc + 1) % 64 }
          ∧ t.rb Reg.jigEvt e.val 2 = m.2.2)
        ∧ (g.txf = [] → exec (.jigPull e (if nb then 1 else 0) 0) s
          = .next (if nb then next { g with f := true, nbMiss := some (u.svclk, true, g.f) } else put { g with stall := some .pull }).settle))
      ∧ exec (.jigPush e 2 0) s = .next (next { g with s := 0, sc := 0 }).settle)
    ∧ (s.sys.vio[2] = true →
      (∀ lv : Bool, g0.wait = some (.level i lv) → ∃ t, exec (.jigWaitEnd e stamp) s = .next t
        ∧ t.now = max s.now sees ∧ t.jig[e] = ended t)
      ∧ (∀ k : Fin 4, ∀ cap : Bool, g0.wait = some (.edge i k.val cap) → stamp ≤ g0.began →
        exec (.jigWaitEnd e stamp) s = .next s.settle)
      ∧ (∀ k : Fin 4, g0.wait = some (.edge i k.val false) → g0.began < stamp → ∃ t, exec (.jigWaitEnd e stamp) s = .next t
        ∧ t.now = max s.now sees ∧ t.jig[e] = ended t)
      ∧ (∀ k : Fin 4, g0.wait = some (.edge i k.val true) → g0.began < stamp → ∃ t, exec (.jigWaitEnd e stamp) s = .next t
        ∧ t.now = max s.now sees ∧ t.jig[e] = { ended t with
            lastCap := some stamp
            x := BitVec.ofNat 32 (match g0.lastCap with
              | some y => min (stamp - y) 0xFFFFFFFF
              | none => 0xFFFFFFFF) }))
    ∧ (∀ k : Fin 4, ∀ cap : Bool, s.sys.vio[2] = false → g0.wait = some (.edge i k.val cap) →
      exec (.jigWaitEnd e stamp) s = .next s.settle)
    ∧ (g0.wait = none → exec (.jigWaitEnd e stamp) s = .next s.settle ∧ exec (.jigWaitTimeout e) s = .next s.settle)
    ∧ (g0.wait.isSome = true → g0.tmo ≠ 0 → ∃ t, exec (.jigWaitTimeout e) s = .next t
      ∧ t.now = max s.now (2 * g0.tickAt (g0.tick + g0.tmo - 1))
      ∧ t.jig[e] = { g0 with wait := none, tmo := 0, f := true, tick := g0.tick + g0.tmo, pc := (g0.pc + 1) % 64 }
      ∧ t = { s.jigSpan e g0.tmo with jig := t.jig, pins := t.pins })
    ∧ (g0.tmo = 0 → exec (.jigWaitTimeout e) s = .next s.settle)
    ∧ (g0.stall = none → exec (.jigStallEnd e) s = .next s.settle)
    ∧ (g0.stall = some .push ∨ (g0.stall = some .shinEnd ∧ g0.swpend = false) → g0.rxf.length < 8 → ∃ t, exec (.jigStallEnd e) s = .next t
      ∧ t.jig[e] = { g0 with
          rxf := g0.rxf ++ [g0.s], s := 0, sc := 0, pushAt := some s.svclk, stall := none, pc := (g0.pc + 1) % 64, tick := after s }
      ∧ t = { s with jig := t.jig, pins := t.pins })
    ∧ (g0.stall = some .pull → ∀ w ∈ g0.txf.head?, ∃ t, exec (.jigStallEnd e) s = .next t
      ∧ t.jig[e] = { g0 with txf := g0.txf.tail, s := w, sc := 32, stall := none, pc := (g0.pc + 1) % 64, tick := after s }
      ∧ t = { s with jig := t.jig, pins := t.pins })
    ∧ (g0.stall = some (.shout i ord true n.val n.val 0) → g0.sc = 0 → g0.swpend = false → ∀ w ∈ g0.txf.head?,
      g0.txMiss = none → ∃ t, exec (.jigStallEnd e) s = .next t ∧ t.jig[e].txf = g0.txf.tail ∧ t.jig[e].sc = 32 - n.val ∧ t.jig[e].stall = none
      ∧ t.jig[e].x.toNat = (if ord then w.toNat % 2 ^ n.val else w.toNat / 2 ^ (32 - n.val)) ∧ t.jig[e].pc = (g0.pc + 1) % 64)
    ∧ (g0.stall = some .push ∨ g0.stall = some .shinEnd → 8 ≤ g0.rxf.length → exec (.jigStallEnd e) s = .next s.settle)
    ∧ (g0.stall = some .pull → g0.txf = [] → exec (.jigStallEnd e) s = .next s.settle)

/-- R298, R299, R308, R311 to R316: START, HALT and REALIGN act on the engines of the mask, on none of them where a cluster owns one;
START and REALIGN begin the rate generator afresh with STEP, rounded to the nearest (log entry 15). An owner requests or forces a swap,
flushes the FIFOs, clears the trigger latch, writes the inactive bank, feeds TXF and takes from RXF, where a pop goes before a push of its
SVCLK, and a host word before the maintenance port's of its TCLK (R392); EN written 0 stops the engine, clears FAULT and makes a pending
swap, a forced one with its clearing and count. The status for an engine owned by a cluster, and what two commands of one SVCLK do, are
the model's choices (log entries 30 and 89). -/
def Obligations.JigCommands : Prop :=
  ∀ (s : State) (q : Fin 2) (p : Fin 11) (e : Fin 8) (mask : BitVec 8) (i : Fin 64) (v : BitVec 32), s.clocked = true →
    let g := s.jig[e]
    let port : Fin 2 := if p.val = 10 then 1 else 0
    let ans (st : Status) (u : State) : State := if p.val < 9 then u else u.answered port st
    let put (u : State) (h : Jig) : State := { u with jig := s.jig.set e.val h e.isLt }
    let ctl := s.touched Reg.jigCtl e.val
    let cmd := s.touched Reg.jigCmd 0
    let entry : Nat := s.rf Reg.jigCfg e.val 21 16
    let den : Nat := 256 * max 1 (s.rf Reg.jigDiv e.val 23 8) + s.rf Reg.jigDiv e.val 7 0
    let step : Nat := (2 ^ 33 + den) / (2 * den)
    let used : Nat := g.tickFrom s.svclk - g.tick
    let left (n : Nat) : Nat := if n = 0 then 0 else max 1 (n - used)
    let named : Bool := mask.getLsbD e.val
    let halted (h : Jig) : Jig := { h with run := false, wait := none, tmo := 0, stall := none, idle := 0, fswap := false }
    let swap (h : Jig) : Jig := { h with bank := !g.bank, pc := entry, swpend := false }
    let next : Nat := max g.tick (g.tickFrom (s.svclk + 1)) -- FSWAP acts at the first tick after its SVCLK
    let at_ : Nat := if g.run then ((put ctl { g with tick := next }).jigTick e).svclk else s.svclk
    let seen : List Word := if g.pushAt = some s.svclk then g.rxf.dropLast else g.rxf -- a pop goes before a push of its SVCLK
    let forced : Jig := swap { g with
      lostb := g.sc, s := 0, sc := 0, wait := none, tmo := 0, stall := none, idle := 0, fswap := false, align := at_, tick := 0
      step := step }
    let lost (t : State) : Prop := t.rb Reg.jigEvt e.val 4 = true ∧ (g.sc = 0 → t.coll = s.coll)
      ∧ (g.sc ≠ 0 → t.rb Reg.jigEvt e.val 5 = true ∧ t.rf Reg.jigCnt e.val 31 16 = min 65535 (s.rf Reg.jigCnt e.val 31 16 + 1)
        ∧ s.Emits t 0 0xB (0x220 + e.val) g.sc)
    let word := g.prog g.bank g.pc
    let fresh : Prop := ∀ x ∈ s.jigCmds[e], x.at_ ≠ s.svclk
    let rec_ (rank : Nat) (o : Option JigCmdRec) : Prop := o = if named then some ⟨s.svclk, rank, g⟩ else s.jigCmds[e]
    let framed (t : State) : Prop :=
      t = { cmd with jig := t.jig, jigCmds := t.jigCmds, host := t.host, mnt := t.mnt, pins := t.pins }
    let req : Jig := { g with swapAt := some (s.svclk, g.bank) }
    let first (a : Nat) : Prop := s.hwNow (wroteKey a) < 2 * portRank p
    let txfFlag : Bool := s.rb Reg.jigEvt e.val 2
    let txf : Nat := Reg.jigTxf.addr e.val 0
    let fed (u : State) : State := if p.val = 10 then u.hw (wroteKey txf) 4 else u
    let noPull : Prop := ∀ m ∈ g.nbMiss, m.1 ≠ s.svclk ∨ m.2.1 = false
    (s.Writable q → (∀ k : Fin 8, mask.getLsbD k.val = true → s.jig[k].owner = 12 ∨ s.jig[k].owner = 15) →
      (∃ t, exec (.jigStart q mask) s = .next t ∧ t.answer q = .ok
        ∧ (fresh → named = true → s.rb Reg.jigCfg e.val 0 = true → g.fault = false → s.live = true → s.coll.safe = false →
          g.owner = 12 → t.jig[e] = { g with
            run := true, x := 0, y := 0, z := 0, c := 0, s := 0, sc := 0, f := false, pc := entry, wait := none, tmo := 0,
            stall := none, idle := 0, lastCap := none, fswap := false, align := s.svclk, tick := 0, step := step })
        ∧ (named = false ∨ s.rb Reg.jigCfg e.val 0 = false ∨ g.fault = true → t.jig[e] = g)
        ∧ (∀ x ∈ s.jigCmds[e], x.at_ = s.svclk → x.rank = 3 → t.jig[e] = g)
        ∧ (fresh → rec_ 2 t.jigCmds[e]) ∧ framed t)
      ∧ (∃ t, exec (.jigHalt q mask) s = .next t ∧ t.answer q = .ok
        ∧ (fresh → t.jig[e] = (if named then halted g else g) ∧ rec_ 3 t.jigCmds[e])
        ∧ (named = true → ∀ x ∈ s.jigCmds[e], x.at_ = s.svclk → x.rank = 2 → t.jig[e] = halted { x.was with
            rxf := g.rxf, txf := g.txf, trgl := g.trgl, nbMiss := g.nbMiss, txMiss := g.txMiss })
        ∧ framed t)
      ∧ ∃ t, exec (.jigRealign q mask) s = .next t ∧ t.answer q = .ok
        ∧ (fresh → t.jig[e] = (if named && g.run then
            { g with align := s.svclk, tick := 0, step := step, idle := left g.idle, tmo := left g.tmo } else g)
          ∧ rec_ 1 t.jigCmds[e])
        ∧ (∀ x ∈ s.jigCmds[e], x.at_ = s.svclk → 1 < x.rank → t.jig[e] = g)
        ∧ framed t)
    ∧ (s.Writable q → named = true → g.owner < 9 → exec (.jigStart q mask) s = .next (s.answered q .owner).settle
      ∧ exec (.jigHalt q mask) s = .next (s.answered q .owner).settle ∧ exec (.jigRealign q mask) s = .next (s.answered q .owner).settle)
    ∧ ((9 ≤ p.val → s.sys.st ≠ .lockout ∧ s.coll.relWait = none) → (p.val = 10 → s.mntMay true = true) → g.owner = (if p.val < 9 then p.val else 12) →
      (g.swpend = true → exec (.jigSwapRequest p e) s = .next (ans .ok ctl).settle)
      ∧ (g.swpend = false → g.run = true → s.rb Reg.jigCfg e.val 0 = true →
        exec (.jigSwapRequest p e) s = .next (ans .ok (put ctl { req with swpend := true })).settle)
      ∧ (g.swpend = false → g.run = false ∨ s.rb Reg.jigCfg e.val 0 = false → ∃ t, exec (.jigSwapRequest p e) s = .next t
        ∧ t.jig[e] = swap req ∧ t.rb Reg.jigEvt e.val 4 = true
        ∧ t = { ctl with jig := t.jig, regs := t.regs, hwSet := t.hwSet, host := t.host, mnt := t.mnt, pins := t.pins })
      ∧ (g.ready = false → ∃ t, exec (.jigForceSwap p e) s = .next t ∧ t.jig[e] = forced ∧ lost t ∧ t.edg = s.edg ∧ t.mem = s.mem)
      ∧ (g.ready = true → g.fault = false → word = 0 → ∃ t, exec (.jigForceSwap p e) s = .next t ∧ t.jig[e] = forced ∧ lost t
        ∧ t.mem = s.mem)
      ∧ (g.ready = true → g.fault = false → word = 0x54000000 → s.inj.flips = [] → s.inj.residue = [] →
        ∃ t, exec (.jigForceSwap p e) s = .next t
        ∧ t.jig[e] = swap { g with lostb := 0, fswap := false, tick := next + 1 }
        ∧ t.rb Reg.jigEvt e.val 4 = true ∧ t.coll = s.coll)
      ∧ (g.ready = true → word = 0x1C000001 → exec (.jigForceSwap p e) s
          = .next (ans .ok (put ctl { g with tick := next, fswap := true })).settle)
      ∧ (g.stall ≠ some .push → g.stall ≠ some .shinEnd →
        exec (.jigFlush p e) s = .next (ans .ok (put ctl { g with rxf := [], txf := [] })).settle)
      ∧ (g.stall = some .push ∨ (g.stall = some .shinEnd ∧ g.swpend = false) → exec (.jigFlush p e) s
          = .next (ans .ok (put ctl { g with
              rxf := [g.s], txf := [], s := 0, sc := 0, pushAt := some s.svclk, stall := none, pc := (g.pc + 1) % 64
              tick := max g.tick (g.tickFrom (s.svclk + 1)) })).settle)
      ∧ exec (.jigTrgclr p e) s = .next (ans .ok (put ctl { g with trgl := false })).settle
      ∧ (first (Reg.jigProg.addr e.val i.val) → (∀ x ∈ g.swapAt, x.1 ≠ s.svclk) → g.swpend = false →
        ∃ t, exec (.jigProgramWrite p e i v) s = .next t ∧ (9 ≤ p.val → t.answer port = .ok)
        ∧ t.jig[e] = (if g.bank then { g with prog0 := g.prog0.set i.val v i.isLt } else { g with prog1 := g.prog1.set i.val v i.isLt })
        ∧ t = { s.unflip (jigKey e (!g.bank) i.val) with
            jig := t.jig, hwSet := t.hwSet, host := t.host, mnt := t.mnt, pins := t.pins })
      ∧ (first (Reg.jigProg.addr e.val i.val) → ∀ x ∈ g.swapAt, x.1 = s.svclk → ∃ t, exec (.jigProgramWrite p e i v) s = .next t
        ∧ (9 ≤ p.val → t.answer port = .ok)
        ∧ t.jig[e] = if x.2 then { g with prog0 := g.prog0.set i.val v i.isLt } else { g with prog1 := g.prog1.set i.val v i.isLt })
      ∧ (¬first (Reg.jigProg.addr e.val i.val) → g.swpend = false → exec (.jigProgramWrite p e i v) s = .next (ans .ok s).settle)
      ∧ ((∀ x ∈ g.swapAt, x.1 ≠ s.svclk) → g.swpend = true → ∃ t, exec (.jigProgramWrite p e i v) s = .next t ∧ (9 ≤ p.val → t.answer port = .busy)
        ∧ s.Emits t 0 0xA (if p.val < 9 then p.val * 16 + 15 else if p.val = 9 then 0x20F else 0x21F) (Reg.jigProg.addr e.val i.val)
        ∧ t.jig = s.jig ∧ t.mem = s.mem)
      ∧ (g.txf.length < 8 → first txf → noPull →
        exec (.jigTxfWrite p e v) s = .next (ans .ok (fed (put (s.touched Reg.jigTxf e.val) { g with txf := g.txf ++ [v] }))).settle)
      ∧ (¬first txf → noPull → ∀ w ∈ g.txf.getLast?, ∃ t, exec (.jigTxfWrite p e v) s = .next t
        ∧ (g.txf.length < 8 → t.jig[e] = { g with txf := g.txf.dropLast ++ [v, w] })
        ∧ (g.txf.length = 8 → t.jig[e] = { g with txf := g.txf.dropLast ++ [v], txMiss := some (s.svclk, w, txfFlag) }
          ∧ t.rb Reg.jigEvt e.val 2 = true))
      ∧ (g.txf = [] → ∀ m ∈ g.nbMiss, m.1 = s.svclk → m.2.1 = true →
        exec (.jigTxfWrite p e v) s
          = .next (ans .ok (fed (put (s.touched Reg.jigTxf e.val) { g with s := v, sc := 32, f := m.2.2, nbMiss := none }))).settle)
      ∧ (8 ≤ g.txf.length → first txf → ∃ t, exec (.jigTxfWrite p e v) s = .next t ∧ t.rb Reg.jigEvt e.val 2 = true
        ∧ t = { s.touched Reg.jigTxf e.val with
            jig := s.jig.set e.val { g with txMiss := some (s.svclk, v, txfFlag) } e.isLt
            regs := t.regs, hwSet := t.hwSet, host := t.host, mnt := t.mnt, pins := t.pins })
      ∧ (s.hwNow (wroteKey (Reg.jigCfg.addr e.val 0)) < 2 * portRank p →
        ∃ t, exec (.jigDisable p e) s = .next t ∧ (9 ≤ p.val → t.answer port = .ok) ∧ t.rb Reg.jigCfg e.val 0 = false
        ∧ (s.rb Reg.jigCfg e.val 0 = true → t.jig[e] =
            (let h : Jig := { halted g with fault := false }
             if g.fswap then swap { h with lostb := g.sc, s := 0, sc := 0, align := s.svclk, tick := 0, step := step }
             else if g.swpend then swap h else h)
          ∧ (g.fswap = true → lost t))
        ∧ (g.fswap = false → t = { s with
            jig := t.jig, regs := t.regs, hwSet := t.hwSet, inj := t.inj, host := t.host, mnt := t.mnt, pins := t.pins })))
    ∧ ((p.val = 10 → s.mntMay false = true) → (9 ≤ p.val → s.coll.relWait = none) →
      (∀ w ∈ seen.head?, ∃ t, exec (.jigRxfRead p e) s = .next t
        ∧ (9 ≤ p.val → (if p.val = 9 then t.host.data else [t.mnt.idata]) = [w] ∧ t.answer port = .ok)
        ∧ (g.owner ≠ (if p.val < 9 then p.val else 12) → t.jig[e] = g)
        ∧ (g.owner = (if p.val < 9 then p.val else 12) → (∀ m ∈ g.nbMiss, m.1 ≠ s.svclk ∨ m.2.1 = true) →
          t.jig[e] = { g with rxf := g.rxf.tail })
        ∧ (g.owner = (if p.val < 9 then p.val else 12) → g.rxf.length ≤ 8 → ∀ m ∈ g.nbMiss, m.1 = s.svclk → m.2.1 = false →
          t.jig[e] = { g with rxf := g.rxf.tail ++ [g.s], s := 0, sc := 0, f := m.2.2, nbMiss := none, pushAt := some s.svclk })
        ∧ t = { s with jig := t.jig, readers := t.readers, host := t.host, mnt := t.mnt, pins := t.pins })
      ∧ (seen = [] → ∃ t, exec (.jigRxfRead p e) s = .next t
        ∧ (9 ≤ p.val → (if p.val = 9 then t.host.data else [t.mnt.idata]) = [0]) ∧ t.jig = s.jig ∧ t.rb Reg.jigEvt e.val 3 = true
        ∧ t = { s with
            regs := t.regs, hwSet := t.hwSet, readers := t.readers, host := t.host, mnt := t.mnt, pins := t.pins }))

/-- R319 to R328, R331, R332: a timer counts its source's increments, a linked pair in 64 bits; an armed compare fires once with its pin
action, at once where the written value is late and LATEARM is set; a write of the odd half of a linked pair commits the staged even
half, or leaves it where none is staged; captures overwrite and count; CAPALL snapshots every enabled timer; a residue failure ends the
timer's events until EN is written 0. Within one SVCLK the increment goes first, then the writes, captures and snapshots (how the model
keeps that order is its choice, log entry 89). -/
def Obligations.Timers : Prop :=
  ∀ (s : State) (p : Fin 11) (q : Fin 2) (n : Fin 16) (v : BitVec 32) (stamp : Nat), s.clocked = true →
    let x := s.tmr[n]
    let o : Fin 16 := ⟨n.val / 2 * 2 + 1, by omega⟩
    let port : Fin 2 := if p.val = 10 then 1 else 0
    let deaf : Bool := decide (x.src = 2) && !s.sys.vio[2]
    let lead : Bool := !(s.linked n && decide (n.val % 2 = 1))
    let m : Nat := if s.linked n then 2 ^ 64 else 2 ^ 32
    let count (t : State) : Nat := t.tmr[n].cnt.toNat + if s.linked n then t.tmr[o].cnt.toNat * 2 ^ 32 else 0
    let cmpv (t : State) : Nat := t.tmr[n].cmpv.toNat + if s.linked n then t.tmr[o].cmpv.toNat * 2 ^ 32 else 0
    let c' : Nat := (count s + 1) % m
    let act : Nat := s.rf Reg.tmrCmp n.val 3 1
    let pin : Bool := if act = 1 then true else if act = 2 then false else if act = 3 then !x.pin else x.pin
    let flag (t : State) (b : Nat) (set : Bool) : Prop := t.rb Reg.tmrStat n.val b = (set || s.rb Reg.tmrStat n.val b)
    let fires : Bool := x.armed && decide (c' = cmpv s)
    -- a capture or a snapshot of this SVCLK takes the count after the increment
    let after (t : State) : Prop := t.tmr[n].cap = (if x.capAt = some s.svclk then t.tmr[n].cnt else x.cap)
      ∧ t.tmr[n].snap = (if s.snapAt = some s.svclk then t.tmr[n].cnt else x.snap)
    let counted (t : State) : Prop := count t = c' ∧ flag t 1 fires ∧ flag t 3 (decide (c' = 0))
      ∧ t.tmr[n].armed = (x.armed && !fires) ∧ t.tmr[n].pin = (if fires then pin else x.pin) ∧ cmpv t = cmpv s ∧ after t
      ∧ (9 ≤ x.owner → t.work = s.work) ∧ (∀ k : Fin 16, k ≠ n → k ≠ o → t.tmr[k] = s.tmr[k]) ∧ t.edg = s.edg ∧ t.mem = s.mem
    let late (t : State) (code : Nat) : Prop := ∀ w : Fin 9, s.ownerWork x.owner = some w → s.rb Reg.tmrEven n.val 0 = true →
      (s.work[w].cues.filter (·.cue = 25)).length < 16 →
      t.work[w].cues = s.work[w].cues ++ [⟨25, BitVec.ofNat 32 (n.val + code * 16), 0, s.now, s.now + 4, []⟩]
    (lead = true → s.tmrRuns n = true → deaf = false → srcC 2 3 n.val ∉ s.inj.residue → s.tmrPrior n = none →
      (∃ t, exec (.timerIncrement n) s = .next t ∧ counted t ∧ (c' ≠ 0 → fires = true → late t 1))
      ∧ (s.tmrAtCompare n = true → ∃ t, exec (.timerCompare n) s = .next t ∧ counted t ∧ fires = true ∧ t.tmr[n].armed = false)
      ∧ (s.tmrAtWrap n = true → ∃ t, exec (.timerWrap n) s = .next t ∧ counted t ∧ count t = 0))
    -- a compare value that this SVCLK has written is judged after the increment, and the increment against the one before
    ∧ (lead = true → s.tmrRuns n = true → deaf = false → srcC 2 3 n.val ∉ s.inj.residue → ∀ y ∈ s.tmrPrior n,
      let old : Nat := y.lo.toNat + if s.linked n then y.hi.toNat * 2 ^ 32 else 0
      let moved (b : Bool) : Bool := if act = 1 then true else if act = 2 then false else if act = 3 then !b else b
      let hit : Bool := y.armed && decide (c' = old)
      let again : Bool := s.rb Reg.tmrCmp n.val 0 && decide ((c' + m - cmpv s) % m ≤ s.rf Reg.tmrCmp n.val 31 16) && !x.fault
      ∃ t, exec (.timerIncrement n) s = .next t ∧ count t = c' ∧ cmpv t = cmpv s ∧ t.tmr[n].armed = !again ∧ after t
        ∧ t.tmr[n].pin = (let b := if hit then moved y.pin else y.pin; if again then moved b else b)
        ∧ t.rb Reg.tmrStat n.val 1 = (hit || again || if y.fired = 0 then s.rb Reg.tmrStat n.val 1 else y.cmpf)
        ∧ (∀ k : Fin 16, k ≠ n → k ≠ o → t.tmr[k] = s.tmr[k]) ∧ t.edg = s.edg ∧ t.mem = s.mem)
    ∧ (lead = true → s.tmrRuns n = true → deaf = false → srcC 2 3 n.val ∈ s.inj.residue → ∃ t, exec (.timerIncrement n) s = .next t
      ∧ t.tmr[n] = { x with fault := true, armed := false } ∧ s.Emits t 1 0xC (0x230 + n.val) 0)
    ∧ (s.tmrRuns n = false ∨ lead = false ∨ deaf = true → exec (.timerIncrement n) s = .next s.settle)
    ∧ (s.tmrAtCompare n = false → exec (.timerCompare n) s = .next s.settle)
    ∧ (s.tmrAtWrap n = false → exec (.timerWrap n) s = .next s.settle)
    ∧ (s.tmrRuns n = true → lead = true → ∃ t, exec (.tmrFault n) s = .next t ∧ t.tmr[n] = { x with fault := true, armed := false }
      ∧ s.Emits t 1 0xC (0x230 + n.val) 0 ∧ (∀ k : Fin 16, k ≠ n → t.tmr[k] = s.tmr[k]) ∧ t.edg = s.edg ∧ t.mem = s.mem)
    ∧ (s.tmrRuns n = false → exec (.tmrFault n) s = .next s.settle)
    ∧ (lead = true → s.tmrRuns n = true →
      (s.rf Reg.tmrCapcfg n.val 1 0 = 2 → ∃ t, exec (.timerCapture n stamp) s = .next t ∧ t.tmr[n] = { x with cap := x.cnt, capAt := some s.svclk }
        ∧ (s.linked n = true → t.tmr[o].cap = s.tmr[o].cnt) ∧ flag t 2 true
        ∧ t.rf Reg.tmrStat n.val 31 16 = min 65535 (s.rf Reg.tmrStat n.val 31 16 + if s.rb Reg.tmrStat n.val 2 then 1 else 0)
        ∧ (s.rb Reg.tmrStat n.val 2 = true → s.rf Reg.tmrStat n.val 31 16 = 0 → s.Emits t 0 0xD (0x230 + n.val) 0))
      ∧ (s.rf Reg.tmrCapcfg n.val 1 0 = 1 → s.sys.vio[2] = true → s.linked n = false →
        let before : Option (Nat × Word) := x.recent.find? fun z => decide (z.1 ≤ 2 * stamp)
        let then_ : Word := match before, x.recent.getLast? with
          | some y, _ => y.2
          | none, some y => y.2 - 1
          | none, none => x.cnt
        ∃ t, exec (.timerCapture n stamp) s = .next t ∧ t.tmr[n] = { x with cap := then_, capAt := some stamp } ∧ flag t 2 true)
      ∧ (s.rf Reg.tmrCapcfg n.val 1 0 = 0 ∨ s.rf Reg.tmrCapcfg n.val 1 0 = 3 →
        exec (.timerCapture n stamp) s = .next s.settle))
    ∧ (s.Writable q → s.snapAt = some s.svclk →
      exec (.timerCapall q) s = .next ((s.touched Reg.tmrCapall 0).answered q .ok).settle)
    ∧ (s.Writable q → s.snapAt ≠ some s.svclk →
      ∃ t, exec (.timerCapall q) s = .next t ∧ t.answer q = .ok ∧ t.snapSeq = (s.snapSeq + 1) % 65536
      ∧ t.tmr[n] = (if s.rb Reg.tmrCfg (if s.linked n then n.val / 2 * 2 else n.val) 0 then { x with snap := x.cnt } else x)
      ∧ t = { s.touched Reg.tmrCapall 0 with
          tmr := t.tmr, snapSeq := t.snapSeq, snapAt := some s.svclk, host := t.host, mnt := t.mnt, pins := t.pins })
    ∧ ((9 ≤ p.val → s.sys.st ≠ .lockout ∧ s.coll.relWait = none) → (p.val = 10 → s.mntMay true = true) → x.owner = (if p.val < 9 then p.val else 12) →
      let d : Nat := (x.cnt.toNat + 2 ^ 32 - v.toNat) % 2 ^ 32
      let now : Bool := s.rb Reg.tmrCmp n.val 0 && decide (d ≤ s.rf Reg.tmrCmp n.val 31 16) && !x.fault
      (s.linked n = false → ∃ t, exec (.timerCmpvWrite p n v) s = .next t ∧ (9 ≤ p.val → t.answer port = .ok)
        ∧ t.tmr[n] = { x with cmpv := v, armed := !now, pin := if now then pin else x.pin, prior := t.tmr[n].prior } ∧ flag t 1 now
        ∧ (∃ y ∈ t.tmr[n].prior, y.at_ = s.svclk ∧ (s.tmrPrior n = none → y.lo = x.cmpv ∧ y.armed = x.armed ∧ y.pin = x.pin))
        ∧ (now = true → late t 4) ∧ (∀ k : Fin 16, k ≠ n → t.tmr[k] = s.tmr[k]))
      ∧ (s.linked n = true → n.val % 2 = 0 → ∃ t, exec (.timerCmpvWrite p n v) s = .next t
        ∧ t.tmr[n] = { x with stage := (p.val, v) :: x.stage.filter (·.1 ≠ p.val) } ∧ ∀ k : Fin 16, k ≠ n → t.tmr[k] = s.tmr[k])
      ∧ (∀ e : Fin 16, s.linked n = true → n.val = e.val + 1 → ∀ y ∈ s.tmr[e].stage.find? (fun (z : Nat × Word) => decide (z.1 = p.val)),
        ∃ t, exec (.timerCmpvWrite p n v) s = .next t ∧ t.tmr[n].cmpv = v ∧ t.tmr[e].cmpv = y.2
          ∧ (s.rb Reg.tmrCmp e.val 0 = false → t.tmr[e].armed = true))
      ∧ (∀ e : Fin 16, s.linked n = true → n.val = e.val + 1 → (∀ z ∈ s.tmr[e].stage, z.1 ≠ p.val) →
        ∃ t, exec (.timerCmpvWrite p n v) s = .next t ∧ t.tmr[n].cmpv = v ∧ t.tmr[e].cmpv = s.tmr[e].cmpv
          ∧ t.tmr[e].stage = s.tmr[e].stage ∧ (s.rb Reg.tmrCmp e.val 0 = false → t.tmr[e].armed = true))
      ∧ (s.rb Reg.tmrLock 0 0 = false → n.val % 2 = 1 ∨ bit v 4 = false →
        s.hwNow (wroteKey (Reg.tmrCfg.addr n.val 0)) < 2 * portRank p → ∃ t, exec (.timerEnable p n v) s = .next t ∧ (9 ≤ p.val → t.answer port = .ok)
        ∧ t.rg Reg.tmrCfg n.val 0 = (s.rg Reg.tmrCfg n.val 0 &&& 0xF0000800) ||| (v &&& 0x0FFFF7FF)
        ∧ (bit v 0 = true → t.tmr[n] = { x with
            src := fld v 3 1, edge := fld v 6 5, jsel := fld v 10 7, presc := fld v 27 12
            pin := if s.rb Reg.tmrCfg n.val 0 then x.pin else s.rb Reg.tmrCmp n.val 5
            recent := if s.rb Reg.tmrCfg n.val 0 then x.recent else [] })
        ∧ (bit v 0 = false → t.tmr[n] = { x with fault := false, pin := s.rb Reg.tmrCmp n.val 5 })
        ∧ (∀ k : Fin 16, k ≠ n → t.tmr[k] = s.tmr[k]) ∧ t.edg = s.edg ∧ t.mem = s.mem)
      ∧ (s.rb Reg.tmrLock 0 0 = false → n.val % 2 = 0 → s.linked n = false → bit v 4 = true →
        s.rb Reg.tmrCfg n.val 0 = true ∨ s.rb Reg.tmrCfg o.val 0 = true ∨ x.owner ≠ s.tmr[o].owner →
        ∃ t, exec (.timerEnable p n v) s = .next t ∧ (9 ≤ p.val → t.answer port = .busy) ∧ t.tmr = s.tmr
        ∧ t.rg Reg.tmrCfg n.val 0 = s.rg Reg.tmrCfg n.val 0
        ∧ s.Emits t 0 3 (if p.val < 9 then p.val * 16 + 15 else if p.val = 9 then 0x20F else 0x21F) (Reg.tmrCfg.addr n.val 0)))

/-- R334 to R336, R338 to R341: a sealed counter takes its settings until it is sealed; increments wait for the next SCLK edge and
saturate; a corrected half of a count is noted, and a count written anew carries no flipped bit (R439), a broken word ends its counter; a
report takes the counts at one edge and is signed with the burnt key, which is burnt once. -/
def Obligations.SealedCounters : Prop :=
  ∀ (s : State) (p : Fin 2) (n : Fin 16) (v : BitVec 32) (i : Fin 4),
    let c := s.ao.seals[n]
    let src : Nat := if p = 0 then 0x20F else 0x21F
    let lasts : Bool := s.rb Reg.sealxCfg n.val 4 && decide (s.rf Reg.sealxCfg n.val 3 0 = 4) && decide (s.sys.st = .run)
      && decide (s.sync = .full)
    let sum : Nat := c.count.toNat + c.gathered + if lasts then 1 else 0
    let added (t : State) : Prop := c.broken = false →
      (∀ f ∈ s.inj.flips, f.1 ≠ 0x41000908 + 0x20 * n.val ∧ f.1 ≠ 0x4100090C + 0x20 * n.val) →
      t.ao.seals[n].count.toNat = min (2 ^ 64 - 1) sum ∧ t.ao.seals[n].gathered = 0 ∧ (2 ^ 64 ≤ sum → t.ao.seals[n].sat = true)
      ∧ t.ao.seals[n].loss = c.loss ∧ t.ao.seals[n].broken = false
    (s.Writable p →
      (s.rb Reg.sealxCfg n.val 4 = false →
        s.hwNow (wroteKey (Reg.sealxCfg.addr n.val 0)) < 2 * portRank (if p = 0 then 9 else 10) →
        ∃ t, exec (.sealSealed p n v) s = .next t ∧ t.answer p = .ok
        ∧ t.rb Reg.sealxCfg n.val 4 = true ∧ t.rf Reg.sealxCfg n.val 3 0 = v.toNat % 16
        ∧ t.rf Reg.sealxCfg n.val 11 8 = v.toNat / 256 % 16
        ∧ t = { s with regs := t.regs, hwSet := t.hwSet, inj := t.inj, host := t.host, mnt := t.mnt, pins := t.pins })
      ∧ (s.rb Reg.sealxCfg n.val 4 = true → ∃ t, exec (.sealSealed p n v) s = .next t ∧ t.answer p = .ok
        ∧ t.rg Reg.sealxCfg n.val 0 = s.rg Reg.sealxCfg n.val 0 ∧ t.ao = s.ao
        ∧ (s.rf Reg.sealxCfg n.val 3 0 ≠ v.toNat % 16 → s.Emits t 0 2 src (Reg.sealxCfg.addr n.val 0)))
      ∧ (s.rb Reg.sealxCfg n.val 4 = true → s.rf Reg.sealxCfg n.val 3 0 = 5 → ∃ t, exec (.sealAddWrite p n v) s = .next t
        ∧ t.answer p = .ok ∧ t.ao.seals = s.ao.seals.set n.val { c with gathered := c.gathered + v.toNat } n.isLt
        ∧ t.edg = s.edg ∧ t.mem = s.mem ∧ t.coll = s.coll)
      ∧ (s.rb Reg.sealxCfg n.val 4 = false ∨ s.rf Reg.sealxCfg n.val 3 0 ≠ 5 → ∃ t, exec (.sealAddWrite p n v) s = .next t
        ∧ t.answer p = .ok ∧ t.ao = s.ao ∧ t.edg = s.edg ∧ t.mem = s.mem)
      ∧ (s.svc.busy = true → exec (.sealReport p) s = .next (s.answered p .busy).settle)
      ∧ (s.svc.busy = false → s.otp.keyset = false → ∃ t, exec (.sealReport p) s = .next t ∧ t.answer p = .ok
        ∧ t.svc = { s.svc with nokey := true } ∧ t.ao = s.ao)
      ∧ (s.svc.busy = false → s.otp.keyset = true → ∃ t, exec (.sealReport p) s = .next t ∧ t.answer p = .ok
        ∧ t.svc.busy = true ∧ t.ao.rcnt = s.ao.rcnt + 1 ∧ added t ∧ t.now = s.now + s.toSclk
        ∧ t.svc.snap.length = 76 ∧ t.svc.snap.getD 0 0 = 0x01500001 ∧ t.svc.snap.getD 1 0 = s.ao.rcnt + 1
        ∧ t.svc.snap.getD (8 + i.val) 0 = s.rg Reg.sealNonce i.val 0
        ∧ t.svc.snap.getD (44 + 2 * n.val) 0 = BitVec.ofNat 32 t.ao.seals[n].count.toNat
        ∧ t.svc.snap.getD (45 + 2 * n.val) 0 = BitVec.ofNat 32 (t.ao.seals[n].count.toNat / 2 ^ 32))
      ∧ (v = 0x5EA1B0A7 → s.otp.keyset = false → ∃ t, exec (.sealBurn p v) s = .next t ∧ t.answer p = .ok
        ∧ t.otp.keyset = true ∧ t.otp.key = s.svc.keyw.toList ∧ t.svc.keyw = Vector.replicate 8 0
        ∧ t.svc.kcv = (leWords (hmac256 (wordBytes t.otp.key) (List.replicate 32 0))).headD 0 ∧ t.otp.epoch = s.otp.epoch)
      ∧ (v ≠ 0x5EA1B0A7 ∨ s.otp.keyset = true → ∃ t, exec (.sealBurn p v) s = .next t ∧ t.otp = s.otp ∧ t.svc = s.svc))
    ∧ (s.sys.st ≠ .off →
      (∃ t, exec (.sealIncrementAdd ⟨0, 0⟩) s = .next t ∧ added t
        ∧ (c.broken = true → t.ao.seals[n].count = c.count ∧ t.ao.seals[n].broken = true)
        ∧ (let mine (f : Nat × Nat) : Prop := f.1 = 0x41000908 + 0x20 * n.val ∨ f.1 = 0x4100090C + 0x20 * n.val
          c.broken = false → 0 < c.gathered → (∀ f ∈ s.inj.flips, mine f → f.2 = 1) → ∀ f ∈ t.inj.flips, ¬mine f))
      ∧ (∃ t, exec (.sealIncrementAdd ⟨BitVec.ofNat 16 (2 ^ n.val), 0⟩) s = .next t ∧ added t
        ∧ (c.broken = false → (∀ f ∈ s.inj.flips, f.1 ≠ 0x41000908 + 0x20 * n.val) → s.Emits t 0 0 (0x300 + n.val) 0)
        ∧ (c.broken = true → t.ao.seals[n].count = c.count))
      ∧ (c.broken = false → ∃ t, exec (.sealIncrementAdd ⟨0, BitVec.ofNat 16 (2 ^ n.val)⟩) s = .next t
        ∧ t.ao.seals[n] = { c with broken := true, gathered := 0 } ∧ s.Emits t 1 1 (0x300 + n.val) 0
        ∧ ((s.coll.outbox.filter (·.src = 0x300 + n.val)).length < 3 → ∃ m ∈ t.coll.outbox, m.cls = 1 ∧ m.kind = 5
          ∧ m.src = 0x300 + n.val ∧ m.ctx = 0)))
    ∧ (s.sys.st = .off → exec (.sealIncrementAdd ⟨0, 0⟩) s = .next s.settle)
    ∧ (s.clocked = true → s.svc.busy = true → ∃ t, exec .sealReportDone s = .next t ∧ t.svc.busy = false ∧ t.svc.rdy = true
      ∧ t.svc.buf = s.svc.snap ++ leWords (hmac256 (wordBytes s.otp.key) (wordBytes s.svc.snap))
      ∧ t = { s with svc := t.svc, hwSet := t.hwSet, pins := t.pins })
    ∧ (s.clocked = true → s.svc.busy = false → exec .sealReportDone s = .next s.settle)

/-- R345 to R349, R355 to R358: a fabric port trains, greets and comes up with its credits; it leaves UP with its count, its message and a
new record. Frames are taken in order; ACK releases every frame up to the LSEQ it names, NAK and the timeout retry, the eighth failed
retry takes the port down. A message is passed on along the tree, delivered as a FAB cue, or discarded with its reason; an output sends
the frame whose turn it is and pays its credit. The count of a report of code errors and of a bad frame, the numbering of HELLO frames,
what becomes of frames of another line-up, and the vernier step of a start of frame are the model's choices (log entries 55, 56 and 57).
-/
def Obligations.FabricLinks : Prop :=
  ∀ (s : State) (r : Fin 3) (q : Fin 256) (id : Fin 32) (idv bench : Bool) (rank : Fin 4) (serial : BitVec 64) (vc : Bool) (dst src : Fin 32)
    (dwork swork : Fin 16) (type : BitVec 16) (lun : Fin 256) (pay : List (BitVec 32)) (w : Fin 9), s.clocked = true →
    let p := s.fab.port[r]
    let put (x : FPort) : State := { s with fab := { s.fab with port := s.fab.port.set r.val x r.isLt } }
    let up : Prop := p.st = .up
    let inOrder : Prop := p.st = .up ∧ q.val % 64 = p.expect
    let g := s.asegFlush
    let pg := g.fab.port[r]
    let took1 (x : FPort) : State := { s with fab := { s.fab with rxN := s.fab.rxN + 1, port := s.fab.port.set r.val x r.isLt } }
    let f : Frame := ⟨0, vc, dst.val, src.val, dwork.val, swork.val, type.toNat, lun.val, pay, [], s.fab.rxN + 1⟩
    let freed (x : FPort) : FPort := if vc then { x with freedA := (x.freedA + 1) % 256 } else { x with freedB := (x.freedB + 1) % 256 }
    let took : FPort := { p with expect := (p.expect + 1) % 64 }
    let stamped (u : State) (y : Frame) : Frame :=
      if y.ft = 4 then { y with bytes := y.bytes.take 6 ++ leBytes 6 (timeWord (u.sysAt (u.sofStamp r))) } else y
    let bad : Nat := (Config.freeWord s.free).toNat % 8 -- the code errors of a bad frame
    let sum : Nat := p.errsAt s.now + bad
    let again (n : Nat) (t : State) : Prop := t.fab.port[r] = { p with
        held := p.held.takeWhile (fun x => decide (x.1 ≠ n)) ++ (p.held.dropWhile fun x => decide (x.1 ≠ n)).map fun x =>
          (x.1, stamped s x.2.1, if x.1 = n then x.2.2 + 1 else x.2.2) }
      ∧ t.fab.t1 = if (p.held.dropWhile fun x => decide (x.1 ≠ n)).any fun x => decide (x.2.1.ft = 3) then some (s.sofStamp r) else s.fab.t1
    let met (n : Nat) : List (Nat × Nat) := (p.errs.filter fun e => decide (s.now < e.1 + 1600)) ++ [(s.now, n)]
    let left : Nat := 8 - p.errsAt s.now -- of a report of eight code errors, those not yet counted
    let down (cause : Nat) (errs : List (Nat × Nat)) (t : State) : Prop := t.fab.port[r] = { FPort.reset with delay := p.delay, errs := errs }
      ∧ t.rf Reg.fabPortErr r.val 31 16 = min 65535 (s.rf Reg.fabPortErr r.val 31 16 + 1)
      ∧ s.Emits t 1 0x12 (0x2E0 + r.val) (r.val + p.peer % 32 * 4 + cause * 128) ∧ t.fab.rseq = (s.fab.rseq + 1) % 256
      ∧ t.fab.lubusy = true ∧ t.edg = s.edg ∧ t.mem = s.mem
    let dropped (reason : Nat) (t : State) : Prop := t.fab.port[r] = freed took ∧ t.work = s.work
      ∧ t.rf Reg.fabCnt 0 15 0 = min 65535 (s.rf Reg.fabCnt 0 15 0 + 1)
      ∧ (s.rf Reg.fabCnt 0 15 0 = 0 → s.Emits t 0 0x17 0x2EF (reason + dst.val * 8 + dwork.val * 256))
    let cue (t : State) (v : Fin 9) (from_ sw ty : Nat) (l : List Word) : Prop := t.work[v].cues = s.work[v].cues
      ++ [⟨24, BitVec.ofNat 32 (from_ % 32 + sw % 16 * 32 + ty % 65536 * 65536), l.headD 0, s.now, s.now + 4, l⟩]
    let room (v : Fin 9) : Prop := (s.work[v].cues.filter (·.cue = 24)).length < 8
    (p.st = .down → s.fabRuns = true → s.rb Reg.fabCfg 0 (1 + r.val) = true → exec (.portTrain r) s = .next (put { p with st := .train }).settle)
    ∧ (p.st ≠ .down ∨ s.fabRuns = false ∨ s.rb Reg.fabCfg 0 (1 + r.val) = false → exec (.portTrain r) s = .next s.settle)
    ∧ (p.st = .train → exec (.portHello r) s = .next (put { p with st := .hello }).settle)
    ∧ (p.st ≠ .train → exec (.portHello r) s = .next s.settle)
    ∧ (p.st = .hello → ∃ t, exec (.portUp r) s = .next t ∧ t.fab.port[r].st = .up ∧ t.fab.port[r].crA = 4 ∧ t.fab.port[r].crB = 8
      ∧ t.fab.port[r].held = [] ∧ t.fab.port[r].lseq = 0 ∧ t.fab.port[r].expect = 0 ∧ t.fab.port[r].peer = p.peer
      ∧ t.fab.rseq = (s.fab.rseq + 1) % 256 ∧ (∃ e ∈ t.fab.port[r].out, e.2.ft = 6)
      ∧ t = { s with fab := t.fab, pins := t.pins })
    ∧ (p.st ≠ .hello → exec (.portUp r) s = .next s.settle)
    ∧ (up → (∀ e ∈ p.out, e.1 ≠ r.val) → (∃ t, exec (.portSilence r) s = .next t ∧ down 1 p.errs t)
      ∧ (∃ t, exec (.portCodeErrors r) s = .next t ∧ down 2 (met left) t
        ∧ t.rf Reg.fabPortCode r.val 15 0 = min 65535 (s.rf Reg.fabPortCode r.val 15 0 + left))
      ∧ (8 ≤ sum → ∃ t, exec (.frameReceiveBad r) s = .next t ∧ down 2 (met bad) t))
    ∧ (∃ t, exec (.frameReceiveBad r) s = .next t
      ∧ t.rf Reg.fabPortCode r.val 15 0 = min 65535 (s.rf Reg.fabPortCode r.val 15 0 + bad) ∧ t.free = s.free + 1
      ∧ (up → sum < 8 → t.fab = (put { p with nak := true, errs := met bad }).fab)
      ∧ (p.st = .hello → t.fab = (if bad = 0 then put { p with errs := met 0 } else put { p with st := .train, out := [], errs := met bad }).fab)
      ∧ (p.st = .down ∨ p.st = .train → t.fab = (put { p with errs := met bad }).fab)
      ∧ ((up → sum < 8) → t = { s with fab := t.fab, regs := t.regs, free := s.free + 1, pins := t.pins }))
    ∧ (up → exec (.controlSetRepeat r) s = .next (put { p with nak := false }).settle
      ∧ exec (.creditAngle r q) s = .next (put { p with crA := p.crA + (q.val + 256 - p.seenA) % 256, seenA := q.val }).settle
      ∧ exec (.creditBulk r q) s = .next (put { p with crB := p.crB + (q.val + 256 - p.seenB) % 256, seenB := q.val }).settle)
    ∧ (up ∨ p.st = .hello → ∃ t, exec (.helloSend r) s = .next t
        ∧ (∃ e ∈ t.fab.port[r].out.getLast?, e.1 = 3 ∧ e.2.ft = 5 ∧ e.2.bytes.length = 10
          ∧ e.2.bytes.getD 0 0 = s.nodeId % 32 + (if s.fab.bench then 64 else 32) ∧ e.2.bytes.getD 1 0 = s.rf Reg.fabCfg 0 5 4)
        ∧ t.fab.port[r].out.dropLast = p.out ∧ t = { s with fab := t.fab, pins := t.pins })
    ∧ (pg.st = .hello → exec (.frameForward r) s
      = .next ({ g with fab := { g.fab with port := g.fab.port.set r.val { pg with out := pg.out.tail } r.isLt } } : State).settle)
    ∧ (p.st = .hello → exec (.portSilence r) s = .next (put { FPort.reset with delay := p.delay, errs := p.errs }).settle
      ∧ (∃ t, exec (.portCodeErrors r) s = .next t ∧ t.fab.port[r] = { p with st := .train, out := [], errs := met 1 }
        ∧ t.rf Reg.fabPortCode r.val 15 0 = min 65535 (s.rf Reg.fabPortCode r.val 15 0 + 1) ∧ t.coll = s.coll)
      ∧ exec (.helloReceive r q id idv bench rank serial) s = .next (put { p with
          peer := id.val, peerIdv := idv, peerBench := bench, peerRank := rank.val, peerV := true,
          tree := if bench then 3 else if p.tree = 3 then 0 else p.tree }).settle)
    ∧ (¬up → exec (.creditAngle r q) s = .next s.settle ∧ exec (.creditBulk r q) s = .next s.settle
      ∧ exec (.controlSetRepeat r) s = .next s.settle
      ∧ exec (.msgReceive r q vc dst src dwork swork type lun pay) s = .next s.settle)
    ∧ (p.st = .down ∨ p.st = .train → exec (.helloSend r) s = .next s.settle ∧ exec (.frameForward r) s = .next g.settle
      ∧ ∃ t, exec (.portCodeErrors r) s = .next t ∧ t.fab = (put { p with errs := met left }).fab ∧ t.coll = s.coll
        ∧ t.rf Reg.fabPortCode r.val 15 0 = min 65535 (s.rf Reg.fabPortCode r.val 15 0 + left))
    -- a held frame stays where the LSEQ of the ACK, counted from its own, lies at the next LSEQ or beyond it
    ∧ exec (.ackReceive r q) s = .next (put { p with held := p.held.filter (fun e =>
        (decide ((p.lseq + 64 - e.1 % 64) % 64 ≤ (q.val % 64 + 64 - e.1 % 64) % 64) : Bool)) }).settle
    ∧ ((∀ e ∈ p.held, e.1 ≠ q.val % 64) → exec (.nakReceive r q) s = .next s.settle)
    ∧ (∀ e ∈ p.held.find? (fun x => decide (x.1 = q.val % 64)),
      (e.2.2 < 8 → ∃ t, exec (.nakReceive r q) s = .next t ∧ again e.1 t
        ∧ t.rf Reg.fabPortErr r.val 15 0 = min 65535 (s.rf Reg.fabPortErr r.val 15 0 + 1) ∧ t.coll = s.coll)
      ∧ (8 ≤ e.2.2 → up → (∀ o ∈ p.out, o.1 ≠ r.val) → ∃ t, exec (.nakReceive r q) s = .next t ∧ down 3 p.errs t))
    ∧ (p.held = [] → exec (.ackTimeout r) s = .next s.settle)
    ∧ (∀ e ∈ p.held.head?, e.2.2 < 8 → ∃ t, exec (.ackTimeout r) s = .next t ∧ again e.1 t
      ∧ t.rf Reg.fabPortErr r.val 15 0 = min 65535 (s.rf Reg.fabPortErr r.val 15 0 + 1))
    ∧ (inOrder → exec (.helloReceive r q id idv bench rank serial) s = .next (took1 { took with
          peer := id.val, peerIdv := idv, peerBench := bench, peerRank := rank.val, peerV := true,
          tree := if bench then 3 else if p.tree = 3 then 0 else p.tree }).settle)
    ∧ (up → q.val % 64 ≠ p.expect →
      exec (.helloReceive r q id idv bench rank serial) s = .next (put { p with nak := true }).settle
      ∧ exec (.msgReceive r q vc dst src dwork swork type lun pay) s = .next (put { p with nak := true }).settle)
    ∧ (inOrder → s.fab.bench = false → (∀ k : Fin 3, ∀ e ∈ s.fab.port[k].out, e ≠ (r.val, f)) →
      (lun.val ≠ s.fab.lun → ∃ t, exec (.msgReceive r q vc dst src dwork swork type lun pay) s = .next t ∧ dropped 1 t)
      ∧ (lun.val = s.fab.lun → dst.val = s.nodeId → type.toNat < 0x8000 → s.live = false → dwork.val < 9 →
        ∃ t, exec (.msgReceive r q vc dst src dwork swork type lun pay) s = .next t ∧ dropped 4 t)
      ∧ (lun.val = s.fab.lun → dst.val = s.nodeId → type.toNat < 0x8000 → s.live = true → 9 ≤ dwork.val →
        ∃ t, exec (.msgReceive r q vc dst src dwork swork type lun pay) s = .next t ∧ dropped 3 t)
      ∧ (lun.val = s.fab.lun → dst.val = s.nodeId → type.toNat < 0x8000 → s.live = true → dwork.val = w.val →
        (s.carrier w = none → ∃ t, exec (.msgReceive r q vc dst src dwork swork type lun pay) s = .next t ∧ dropped 3 t)
        ∧ (s.carrier w ≠ none → room w → ∃ t, exec (.msgReceive r q vc dst src dwork swork type lun pay) s = .next t
          ∧ cue t w src.val swork.val type.toNat pay ∧ t.fab.port[r] = freed took ∧ t.coll = s.coll ∧ t.edg = s.edg))
      ∧ (lun.val = s.fab.lun → dst.val ≠ s.nodeId → ∀ o ∈ s.routeTo dst.val,
        ∃ t, exec (.msgReceive r q vc dst src dwork swork type lun pay) s = .next t
        ∧ t.fab.port[o].out = s.fab.port[o].out ++ [(r.val, f)] ∧ t.fab.port[r].expect = took.expect ∧ t.work = s.work
        ∧ t = { s with fab := t.fab, pins := t.pins })
      ∧ (lun.val = s.fab.lun → dst.val ≠ s.nodeId → s.routeTo dst.val = none →
        ∃ t, exec (.msgReceive r q vc dst src dwork swork type lun pay) s = .next t ∧ dropped 5 t))
    ∧ (∀ m ∈ s.fab.sendQ[sendIdx w vc].head?, ∀ v : Fin 9, m.dst = s.nodeId → m.dwork = v.val → s.live = true → s.carrier v ≠ none → room v →
      ∃ t, exec (.ownNodeMessage w vc) s = .next t ∧ t.fab.sendQ[sendIdx w vc] = s.fab.sendQ[sendIdx w vc].tail
        ∧ cue t v m.src m.swork m.type m.pay ∧ t.fab.port = s.fab.port ∧ t.coll = s.coll)
    ∧ (s.fab.sendQ[sendIdx w vc] = [] → exec (.ownNodeMessage w vc) s = .next s.settle)
    ∧ (pg.st = .up → 8 ≤ pg.held.length → exec (.frameForward r) s = .next g.settle)
    ∧ (pg.st = .up → pg.held.length < 8 → g.sendHeads r true = [] → g.sendHeads r false = [] → ∀ e ∈ pg.out.head?, pg.out = [e] → e.1 < 4 →
      (e.2.ft < 3 ∨ 5 ≤ e.2.ft → 3 ≤ e.2.ft ∨ 0 < (if e.2.vc then pg.crA else pg.crB) → ∃ t, exec (.frameForward r) s = .next t
        ∧ t.fab.port[r].held = pg.held ++ [(pg.lseq, e.2, 0)] ∧ t.fab.port[r].lseq = (pg.lseq + 1) % 64 ∧ t.fab.port[r].out = []
        ∧ (if e.2.vc then t.fab.port[r].turnA else t.fab.port[r].turnB) = e.1
        ∧ (if e.2.vc then t.fab.port[r].turnB = pg.turnB else t.fab.port[r].turnA = pg.turnA)
        ∧ t.fab.port[r].crA = pg.crA - (if e.2.ft < 3 ∧ e.2.vc = true then 1 else 0)
        ∧ t.fab.port[r].crB = pg.crB - (if e.2.ft < 3 ∧ e.2.vc = false then 1 else 0)
        ∧ (∀ i : Fin 3, e.1 = i.val → e.2.ft < 3 → (∀ k : Fin 3, k ≠ r → e ∉ g.fab.port[k].out) →
          t.fab.port[i].freedA = (if e.2.vc then (g.fab.port[i].freedA + 1) % 256 else g.fab.port[i].freedA)
          ∧ t.fab.port[i].freedB = (if e.2.vc then g.fab.port[i].freedB else (g.fab.port[i].freedB + 1) % 256))
        ∧ t = { g with fab := t.fab, pins := t.pins })
      ∧ (e.2.ft < 3 → (if e.2.vc then pg.crA else pg.crB) = 0 → exec (.frameForward r) s = .next g.settle)
      ∧ (e.2.ft = 3 → ∃ t, exec (.frameForward r) s = .next t ∧ t.fab.t1 = some (g.sofStamp r) ∧ t.fab.port[r].out = [])
      ∧ (e.2.ft = 4 → ∃ t, exec (.frameForward r) s = .next t ∧ t.fab.port[r].out = []
        ∧ ∀ h ∈ t.fab.port[r].held.getLast?, h.2.1 = stamped g e.2))
    ∧ (pg.st = .up → pg.held.length < 8 → g.sendHeads r true = [] → g.sendHeads r false = [] → 0 < pg.crA → 0 < pg.crB → ∀ a ∈ pg.out.head?,
      ∀ b ∈ pg.out.tail.head?, pg.out = [a, b] → a.1 < 4 → b.1 < 4 → a.2.ft = 0 → b.2.ft = 0 → a.2.vc = false → b.2.vc = true →
      ∃ t, exec (.frameForward r) s = .next t ∧ t.fab.port[r].out = (if pg.angRun < 3 then [a] else [b])
        ∧ t.fab.port[r].angRun = (if pg.angRun < 3 then pg.angRun + 1 else 0))
    ∧ (pg.st = .up → pg.held.length < 8 → pg.out = [] → (∀ c : Bool, g.sendHeads r c = if c = vc then [w] else []) →
      0 < (if vc then pg.crA else pg.crB) → ∀ m ∈ g.fab.sendQ[sendIdx w vc].head?, m.ft = 0 → ∃ t, exec (.frameForward r) s = .next t
        ∧ t.fab.port[r].held = pg.held ++ [(pg.lseq, { m with lun := g.fab.lun }, 0)]
        ∧ (if vc then t.fab.port[r].wturnA else t.fab.port[r].wturnB) = w.val
        ∧ t.fab.sendQ[sendIdx w vc] = g.fab.sendQ[sendIdx w vc].tail ∧ t = { g with fab := t.fab, pins := t.pins })

/-- R350 to R354, R359, R361, R364 to R374: records, line-up, system time and captaincy. A newer record is kept and passed on, and the
higher of two serials with one ID goes to the bench; a commit takes the reachable nodes, their LUN and the tree, and elects a captain;
no routed frame of another line-up stays held, and a HELLO frame takes the place of one not acknowledged (log entry 57);
beacons and segments of the captain are kept and passed on once; a rank-1 reserve takes over from a silent captain; an exchange moves
the map by a quarter of its error. When a captain counts as silent, and how many sequence numbers of passed beacons and segments a node
keeps, are the model's choices (log entries 58 and 57). -/
def Obligations.FabricLineupTimeAndCaptaincy : Prop :=
  ∀ (s : State) (p : Fin 2) (r : Fin 3) (q : Fin 256) (bs : List Nat) (ts : Nat) (tgt : Fin 32), s.clocked = true →
    let fb := s.fab
    let x := fb.port[r]
    let inOrder : Prop := x.st = .up ∧ q.val % 64 = x.expect
    let quiet : Prop := s.coll.outbox.filter (fun m => decide (m.src = 0x2EF)) = []
    let b := beaconOf bs (max s.now ts)
    let heard : Nat := match fb.beacon with
      | some o => o.ts
      | none => fb.capAt
    let c := LinkRec.ofBytes bs
    let know : Option LinkRec := fb.recs.find? fun y => decide (y.serial = c.serial)
    let newer : Bool := match know with
      | some y => decide (1 ≤ (c.rseq + 256 - y.rseq) % 256) && decide ((c.rseq + 256 - y.rseq) % 256 < 128)
      | none => true
    let period : Nat := max 10 (min 1000 (s.rf Reg.fabTime 0 9 0)) * 4000
    let near (k : Fin 3) (from_ : Nat) : Bool := decide (fb.port[k].st = .up) && decide (k.val ≠ from_)
    -- a time as a frame carries it, TCLK in [39:0] and step in [43:40], in vernier steps
    let steps (x : Nat) : Nat := x % 2 ^ 40 * 16 + x / 2 ^ 40 % 16
    let treeN (k : Fin 3) (from_ : Nat) : Bool := near k from_ && (decide (fb.port[k].tree = 1) || decide (fb.port[k].tree = 2))
    (s.Writable p →
      (s.fabRuns = true → ∃ t, exec (.fabLineupCmd p) s = .next t ∧ t.answer p = .ok ∧ t.fab.rseq = (fb.rseq + 1) % 256
        ∧ t.fab.lubusy = true ∧ (∀ k : Fin 3, if fb.port[k].st = .up then (∃ e ∈ t.fab.port[k].out, e.1 = 3 ∧ e.2.ft = 6)
            else t.fab.port[k] = fb.port[k])
        ∧ t = { s with fab := t.fab, host := t.host, mnt := t.mnt, pins := t.pins })
      ∧ (s.fabRuns = false → exec (.fabLineupCmd p) s = .next (s.answered p .ok).settle)
      ∧ (fb.capt = true → exec (.fabHandover p tgt) s
          = .next (({ s with fab := { fb with hand := some (tgt.val, s.now + 25000) } } : State).answered p .ok).settle)
      ∧ (fb.capt = false → exec (.fabHandover p tgt) s = .next (s.answered p .ok).settle)
      ∧ ∃ t, exec (.fabDiffclr p) s = .next t ∧ t.answer p = .ok ∧ t.fab.diffstop = false ∧ t.fab.port = fb.port)
    ∧ (fb.capt = true → s.fabRuns = true → ∀ h ∈ fb.hand, ∃ t, exec .handoverTimeout s = .next t ∧ t.fab.hand = none ∧ t.now = max s.now h.2
      ∧ s.Emits t 1 0x19 0x2EF (fb.capid % 32 + fb.cep * 32 + 7 * 8192) ∧ t.edg = s.edg ∧ t.fab.port = fb.port)
    ∧ (fb.hand = none ∨ fb.capt = false ∨ s.fabRuns = false → exec .handoverTimeout s = .next s.settle)
    ∧ (fb.capt = true → s.fabRuns = true → ∃ t, exec .beaconSend s = .next t ∧ t.fab.bseq = (fb.bseq + 1) % 65536
      ∧ (∀ k : Fin 3, if treeN k 3 then ∃ e ∈ t.fab.port[k].out.getLast?, e.2.ft = 1 ∧ e.2.bytes.length = 14
            ∧ e.2.bytes.getD 0 0 = s.nodeId % 32 + s.effRank % 4 * 32 + (if fb.resign || !s.live then 128 else 0)
            ∧ e.2.bytes.getD 1 0 = fb.cep % 256 ∧ bytesAt e.2.bytes 2 2 = fb.bseq % 65536
          else t.fab.port[k] = fb.port[k])
      ∧ t = { s with fab := t.fab, pins := t.pins })
    ∧ (fb.capt = false ∨ s.fabRuns = false → exec .beaconSend s = .next s.settle)
    ∧ (∀ k ∈ s.towardCaptain, fb.port[k].st = .up → ∃ t, exec .timeExchange s = .next t
      ∧ t.fab.port[k].out = fb.port[k].out ++ [(3, ⟨3, true, 0, s.nodeId, 0, 0, 0, fb.lun, [], [], 0⟩)]
      ∧ t = { s with fab := t.fab, pins := t.pins })
    ∧ (s.towardCaptain = none → exec .timeExchange s = .next s.settle)
    ∧ (inOrder → fb.bench = false → ∃ t, exec (.dreqReceive r q ts) s = .next t ∧ t.now = max s.now (ts / 16)
      ∧ (∃ e ∈ t.fab.port[r].out.getLast?, e.1 = 3 ∧ e.2.ft = 4 ∧ e.2.bytes.length = 6
        ∧ bytesAt e.2.bytes 0 6 % 2 ^ 40 = s.sysAt ts / 16 % 2 ^ 40 ∧ bytesAt e.2.bytes 0 6 / 2 ^ 40 = s.sysAt ts % 16)
      ∧ t.fab.port[r].expect = (x.expect + 1) % 64 ∧ t.edg = s.edg)
    ∧ (inOrder → s.towardCaptain = some r → ∀ t1 ∈ fb.t1, ∃ t, exec (.drspReceive r q bs ts) s = .next t ∧ t.fab.t1 = none
      ∧ (let t2 : Int := (steps (bytesAt bs 0 6) : Nat)
        let t3 : Int := (steps (bytesAt bs 6 6) : Nat)
        let span : Int := ((ts : Int) - t1) - (t3 - t2) % 2 ^ 44
        let d := t.fab.port[r].delay
        let err := wrapHalf (2 ^ 44) (t3 + d - s.sysAt ts)
        (2 * d = span ∨ 2 * d = span + 1) ∧ t.fab.terr = max (-32768) (min 32767 err)
        ∧ 4 * (t.fab.off - ((s.sysAt ts : Int) - ts)) - err ∈ [(-1 : Int), 0, 1, 2]
        ∧ t.fab.base = ts ∧ t.fab.rate = max (-250 / 1000000 : Rat) (min (250 / 1000000) (fb.rate + (err : Rat) / (64 * period)))))
    ∧ (inOrder → c.serial ≠ Config.serial → newer = true → ∃ t, exec (.lrecReceive r q bs) s = .next t
      ∧ (∃ y ∈ t.fab.recs, y = c) ∧ (∀ y ∈ fb.recs, y.serial ≠ c.serial → ∃ z ∈ t.fab.recs, z = y) ∧ t.fab.lubusy = true
      ∧ (∀ k : Fin 3, near k r.val = true → ∃ e ∈ t.fab.port[k].out, e.2.ft = 6 ∧ e.2.bytes = bs)
      ∧ (fb.bench = false → c.bench = false → c.id = s.nodeId → fb.recs = [] → t.fab.bench = decide (c.serial.toNat < Config.serial.toNat))
      ∧ t.mem = s.mem)
    ∧ (inOrder → c.serial = Config.serial ∨ newer = false → ∃ t, exec (.lrecReceive r q bs) s = .next t ∧ t.fab.recs = fb.recs
      ∧ t.fab.port[r] = { x with expect := (x.expect + 1) % 64 } ∧ t = { s with fab := t.fab, pins := t.pins })
    ∧ (s.fabRuns = false ∨ fb.lubusy = false → exec .lineupCommit s = .next s.settle)
    ∧ (s.fabRuns = true → fb.lubusy = true → fb.bench = false → fb.recs = [] → ∃ t, exec .lineupCommit s = .next t
      ∧ (t.selfRec.gist = fb.issued → t.fab.lubusy = false) ∧ t.fab.members = [s.nodeId] ∧ t.fab.lun = (fb.rseq + 1) % 256 ∧ t.fab.route = []
      ∧ (quiet → ∃ m ∈ t.coll.outbox, m.cls = 0 ∧ m.kind = 0x16 ∧ m.src = 0x2EF)
      ∧ (fb.capt = false → s.eligible = true → t.fab.capt = true ∧ t.fab.capid = s.nodeId ∧ t.fab.capv = true
        ∧ (quiet → ∃ m ∈ t.coll.outbox, m.cls = 1 ∧ m.kind = 0x19
          ∧ m.ctx = BitVec.ofNat 32 (fb.capid % 32 + t.fab.cep * 32 + 4 * 8192)))
      ∧ (fb.capt = false → s.eligible = false → t.fab.capt = false ∧ t.fab.capv = false) ∧ t.mem = s.mem
      -- no routed frame of another line-up is held, and each LSEQ keeps its place
      ∧ (∀ k : Fin 3, (t.fab.port[k].out.filter fun e => decide (e.2.ft = 0 ∧ e.2.lun ≠ t.fab.lun)) = []
        ∧ (t.fab.port[k].held.filter fun e => decide (e.2.1.ft = 0 ∧ e.2.1.lun ≠ t.fab.lun)) = []
        ∧ t.fab.port[k].held.map (·.1) = fb.port[k].held.map (·.1)))
    ∧ (∀ y ∈ fb.recs.head?, fb.recs = [y] → s.fabRuns = true → fb.lubusy = true → fb.bench = false → x.st = .up → x.peerV = true →
      x.peerBench = false → x.peer = y.id → y.bench = false → y.id ≠ s.nodeId → s.portOf y.id = some r → y.ports.head? = some (s.nodeId, true) →
      ∃ t, exec .lineupCommit s = .next t ∧ t.fab.members = [s.nodeId, y.id] ∧ t.fab.lun = (fb.rseq + y.rseq + 2) % 256
      ∧ t.fab.route = [(y.id, r.val, 1)] ∧ t.fab.port[r].tree = (if s.nodeId < y.id then 2 else 1)
      ∧ (t.selfRec.gist = fb.issued → t.fab.lubusy = false))
    ∧ (inOrder → fb.bench = false → (b.cep, b.bseq) ∉ fb.seenB → fb.capv = true → fb.capt = false → fb.capid = b.id → fb.cep = b.cep →
      b.resign = false → b.hand = none → ∃ t, exec (.beaconReceive r q bs ts) s = .next t ∧ t.now = max s.now ts
      ∧ t.fab.beacon = some b ∧ t.fab.seenB = ((b.cep, b.bseq) :: fb.seenB).take 32768 ∧ t.fab.capid = b.id ∧ t.fab.cep = b.cep
      ∧ (∀ k : Fin 3, treeN k r.val = true → ∃ e ∈ t.fab.port[k].out, e.1 = r.val ∧ e.2.ft = 1 ∧ e.2.bytes = bs) ∧ t.mem = s.mem)
    ∧ (inOrder → fb.bench = true ∨ (b.cep, b.bseq) ∈ fb.seenB → ∃ t, exec (.beaconReceive r q bs ts) s = .next t
      ∧ t.fab.beacon = fb.beacon ∧ t.fab.seenB = fb.seenB ∧ t.fab.capid = fb.capid)
    ∧ (inOrder → fb.bench = false → (fb.cep, bytesAt bs 18 2) ∉ fb.seenS → ∃ t, exec (.asegReceive r q bs) s = .next t
      ∧ (fb.capt = false → ∃ g ∈ t.fab.seg, g.θ = (bytesAt bs 0 4 : Nat) ∧ g.t = steps (bytesAt bs 4 6) ∧ g.ω = bytesAt bs 10 4
        ∧ g.α = sx 32 (bytesAt bs 14 4) ∧ g.sync = bytesAt bs 4 6 / 2 ^ 44 % 4 ∧ g.rev = (bytesAt bs 4 6).testBit 46)
      ∧ (∀ k : Fin 3, treeN k r.val = true → ∃ e ∈ t.fab.port[k].out, e.1 = r.val ∧ e.2.ft = 2 ∧ e.2.bytes = bs)
      ∧ t = { s with fab := t.fab, pins := t.pins })
    ∧ (fb.capt = false → fb.capv = true → s.fabRuns = true → s.reserveRank = some 1 → fb.resignAt = none → fb.fellAt = none →
      heard ≤ s.now → ∃ t, exec .captainTimeout s = .next t ∧ t.now = max s.now (heard + s.capTo) ∧ t.fab.capt = true ∧ t.fab.capid = s.nodeId
      ∧ t.fab.cep = (fb.cep + 1) % 256
      ∧ (quiet → ∃ m ∈ t.coll.outbox, m.cls = 1 ∧ m.kind = 0x19
        ∧ m.ctx = BitVec.ofNat 32 (fb.capid % 32 + (fb.cep + 1) % 256 * 32 + 8192)))
    ∧ (fb.capt = true ∨ fb.capv = false ∨ s.fabRuns = false → exec .captainTimeout s = .next s.settle)
    ∧ (∀ h ∈ fb.hold, ∃ t, exec .holdoverExpire s = .next t ∧ t.now = max s.now (h + min 60000 (s.rf Reg.fabAngcfg 0 31 16) * 250000)
      ∧ t.fab.hold = none ∧ t.fab.csync = .nosync ∧ t.fab.dv = false ∧ t.mem = s.mem)
    ∧ (fb.hold = none → exec .holdoverExpire s = .next s.settle)

/-- R384 to R391, R393, R397 to R409: the host port's frames and the maintenance port's transfers. Nothing of a frame with a failed CRC, a
non-zero LEN[7:4], an unknown opcode or an early end is performed; the words of a burst go in order until one is not OK, and one whose
transfer fails on the link to the driver die ends in LINKERR with the words before it done. The maintenance port writes and reads at its
pointer, commits its wide fields whole, makes one indirect access at a time under MNT_CFG, and clears its alert latch when it wins the
response. A frame waits until an earlier release is answered (log entry 77). The source of HOST_CRC and HOST_ABORT, a write frame with too
few words, and the byte after a stretch of 1 ms are the model's choices (log entries 32, 33 and 34). -/
def Obligations.PortTransactions : Prop :=
  ∀ (s : State) (a : BitVec 40) (l : Fin 16) (len : BitVec 8) (ws : List (BitVec 32)) (op : BitVec 8) (n : Fin 9) (inc : Bool)
    (crc : BitVec 16) (link : Option (Fin 16)) (lk : Bool) (bs : List (BitVec 8)) (b : BitVec 8) (key : BitVec 64), s.clocked = true →
    let x := a.toNat
    -- a frame's command bytes, and the CRC that belongs to them
    let frame (op : Nat) (len : BitVec 8) (ws : List (BitVec 32)) : List Nat :=
      [op] ++ ((List.range 5).map fun i => x / 256 ^ (4 - i) % 256) ++ [len.toNat]
        ++ ws.flatMap fun w => (List.range 4).map fun i => w.toNat / 256 ^ i % 256
    let sum (op : Nat) (len : BitVec 8) (ws : List (BitVec 32)) : BitVec 16 := BitVec.ofNat 16 (crc16 (frame op len ws))
    let len4 : BitVec 8 := BitVec.ofNat 8 l.val
    let isum : BitVec 16 := BitVec.ofNat 16 (crc16 [5])
    let m := s.mnt
    let c := s.coll
    -- no access of a port waits for the driver die's answer to a release
    let free : Prop := c.relWait = none
    let own : BitVec 7 := BitVec.ofNat 7 (0x58 + s.sys.ma % 8)
    let bad (t : State) : Prop := t.rf Reg.hostCnt 0 15 0 = min 65535 (s.rf Reg.hostCnt 0 15 0 + 1) ∧ s.Emits t 0 5 0x20F 0
      ∧ t.mem = s.mem ∧ t.mnt = s.mnt ∧ t.edg = s.edg ∧ t.readers = s.readers
    let cut (t : State) : Prop := t.rf Reg.hostCnt 0 31 16 = min 65535 (s.rf Reg.hostCnt 0 31 16 + 1) ∧ s.Emits t 0 6 0x20F 0
      ∧ t.mem = s.mem ∧ t.host = s.host ∧ t.edg = s.edg
    let put (y : Mnt) : State := { s with mnt := y }
    let bits (y : BitVec 8) : Nat := m.astat % 16 &&& (15 ^^^ s.w1cOpen astatKey (y.toNat % 16))
    crc16 [0x31, 0x32, 0x33, 0x34, 0x35, 0x36, 0x37, 0x38, 0x39] = 0x29B1
    ∧ (free → (crc ≠ sum 0x0B len [] → ∃ t, exec (.hostRead a len crc link) s = .next t ∧ bad t ∧ t.host = ⟨.crcerr, [], 0⟩)
      ∧ (crc ≠ sum 0x0C len [] → ∃ t, exec (.hostReadf a len crc link) s = .next t ∧ bad t ∧ t.host = ⟨.crcerr, [], 0⟩)
      ∧ (l.val < ws.length → len.toNat % 16 = l.val →
        (crc ≠ sum 2 len ws → ∃ t, exec (.hostWrite a len ws crc link) s = .next t ∧ bad t ∧ t.host = ⟨.crcerr, [], 0⟩)
        ∧ (crc ≠ sum 3 len ws → ∃ t, exec (.hostWritef a len ws crc link) s = .next t ∧ bad t ∧ t.host = ⟨.crcerr, [], 0⟩))
      ∧ (crc ≠ isum → ∃ t, exec (.hostIntr crc) s = .next t ∧ bad t ∧ t.host = ⟨.crcerr, [], 0⟩))
    ∧ (free → 16 ≤ len.toNat → exec (.hostRead a len (sum 0x0B len []) link) s = .next ({ s with host := ⟨.badcmd, [], 0⟩ } : State).settle
      ∧ exec (.hostReadf a len (sum 0x0C len []) link) s = .next ({ s with host := ⟨.badcmd, [], 0⟩ } : State).settle
      ∧ (len.toNat % 16 < ws.length → exec (.hostWrite a len ws (sum 2 len ws) link) s = .next ({ s with host := ⟨.badcmd, [], 0⟩ } : State).settle
        ∧ exec (.hostWritef a len ws (sum 3 len ws) link) s = .next ({ s with host := ⟨.badcmd, [], 0⟩ } : State).settle))
    ∧ (ws.length ≤ len.toNat % 16 → (∃ t, exec (.hostWrite a len ws crc link) s = .next t ∧ cut t)
      ∧ ∃ t, exec (.hostWritef a len ws crc link) s = .next t ∧ cut t)
    ∧ (∃ t, exec .hostAbort s = .next t ∧ cut t)
    ∧ (op ≠ 0x0B → op ≠ 0x0C → op ≠ 2 → op ≠ 3 → op ≠ 5 → ∃ t, exec (.hostBadOpcode op) s = .next t ∧ bad t ∧ t.host = s.host)
    ∧ (free → exec (.hostIntr isum) s = .next ({ s with host := ⟨.ok, [BitVec.ofNat 32 s.hintPend], 0⟩ } : State).settle)
    ∧ (c.relWait = some ⟨false, 0, 0, none, false, [], 0⟩ → c.relPend = true → s.links.ddl = [.release] → s.links.arrived = [] →
      s.links.quietUntil ≤ s.now → s.inj = State.reset.inj → ∃ t, exec (.hostIntr isum) s = .next t ∧ t.host.status = .ok ∧ t.coll.relWait = none
      ∧ t.coll.relPend = false ∧ t.now = s.now ∧ t.mnt = m
      ∧ (s.sys.vbat = true → c.lineA = false → c.lineB = false → t.coll.safe = false ∧ t.drv.safe = false ∧ t.links.ddl = [])
      ∧ (s.sys.vbat = false → t.coll.safe = c.safe ∧ t.coll.lineA = true ∧ t.coll.lineB = true))
    ∧ s.hintPend.testBit 7 = s.rb Reg.hostStat 0 0 ∧ s.hintPend.testBit 8 = s.rb Reg.hostStat 0 1
    ∧ s.hintPend.testBit 9 = s.rb Reg.hostStat 0 2 ∧ s.hintPend.testBit 5 = (s.svc.rdy || s.svc.nokey)
    ∧ (free → x % 4 ≠ 0 → exec (.hostRead a len4 (sum 0x0B len4 []) link) s = .next ({ s with host := ⟨.addrerr, [], 0⟩ } : State).settle)
    ∧ (free → x % 4 = 0 → sramAt x = some n → s.inj.flips = [] →
      let size : Nat := (0x6000 - x % 0x10000) / 4
      (l.val < size → exec (.hostRead a len4 (sum 0x0B len4 []) link) s
        = .next ({ s with host := ⟨.ok, (List.range (l.val + 1)).map fun k => s.word (x + 4 * k), 0⟩ } : State).settle)
      ∧ exec (.hostReadf a len4 (sum 0x0C len4 []) link) s
        = .next ({ s with host := ⟨.ok, List.replicate (l.val + 1) (s.word x), 0⟩ } : State).settle
      ∧ (size ≤ l.val → ∃ t, exec (.hostRead a len4 (sum 0x0B len4 []) link) s = .next t
        ∧ t.host = ⟨.addrerr, (List.range size).map fun k => s.word (x + 4 * k), size⟩ ∧ s.Emits t 0 4 0x20F (x + 4 * size)
        ∧ t.mem = s.mem ∧ t.mnt = s.mnt ∧ t.edg = s.edg)
      ∧ (s.sys.st ≠ .lockout → s.clu[n].role ≠ .testing → l.val < ws.length → l.val < size →
        (∃ t, exec (.hostWrite a len4 ws (sum 2 len4 ws) link) s = .next t ∧ t.host = ⟨.ok, [], 0⟩
          ∧ (∀ k : Fin 16, k.val ≤ l.val → t.word (x + 4 * k.val) = ws.getD k.val 0)
          ∧ (∀ z : Nat, z < x ∨ x + 4 * (l.val + 1) ≤ z → t.byte z = s.byte z)
          ∧ t = { s with mem := t.mem, host := t.host, hwSet := t.hwSet, pins := t.pins })
        ∧ ∃ t, exec (.hostWritef a len4 ws (sum 3 len4 ws) link) s = .next t ∧ t.host = ⟨.ok, [], 0⟩
          ∧ t.word x = ws.getD l.val 0 ∧ (∀ z : Nat, z < x ∨ x + 4 ≤ z → t.byte z = s.byte z)
          ∧ t = { s with mem := t.mem, host := t.host, hwSet := t.hwSet, pins := t.pins })
      ∧ (s.sys.st = .lockout → l.val < ws.length → exec (.hostWrite a len4 ws (sum 2 len4 ws) link) s
        = .next ({ s with host := ⟨.busy, [], 0⟩ } : State).settle))
    ∧ (∀ i : Fin 16, free → x = Reg.psCur0.addr i.val 0 → l.val < 11 → s.links.ddl = [] → s.links.quietUntil ≤ s.now → s.inj = State.reset.inj →
      (∀ k ∈ link, k.val ≤ l.val → ∃ t, exec (.hostRead a len4 (sum 0x0B len4 []) link) s = .next t
        ∧ t.host.status = .linkerr ∧ t.host.index = k.val ∧ t.host.data.length = k.val ∧ t.mem = s.mem ∧ t.clu = s.clu)
      ∧ ∃ t, exec (.hostRead a len4 (sum 0x0B len4 []) none) s = .next t ∧ t.host.status = .ok ∧ t.host.data.length = l.val + 1)
    ∧ exec (.mntWrite own [b]) s = .next (put { m with ptr := b.toNat }).settle
    ∧ (∀ o : BitVec 7, o ≠ own → exec (.mntWrite o bs) s = .next s.settle ∧ exec (.mntRead o l.val) s = .next s.settle)
    ∧ exec (.mntWrite own [0x0F, b]) s = .next (put { m with ptr := 0x10, aen := b.toNat % 16 }).settle
    ∧ exec (.mntWrite own [0x10, b]) s = .next (put { m with ptr := 0x11, afcls := b.toNat % 4 }).settle
    ∧ exec (.mntWrite own [0xFF, b, b]) s = .next (put { m with ptr := 1 }).settle
    ∧ (bs.length = 5 → ∃ t, exec (.mntWrite own (0x20 :: bs)) s = .next t
      ∧ t.mnt.iaddr = leNat (bs.map (·.toNat)) ∧ t.mnt.ptr = 0x25 ∧ t = { s with mnt := t.mnt, pins := t.pins })
    ∧ (bs.length = 4 → free → m.pend = none → m.late = false → ∃ t, exec (.mntWrite own (0x28 :: bs)) s = .next t
      ∧ t.mnt.idata = BitVec.ofNat 32 (leNat (bs.map (·.toNat))) ∧ t.mnt.iaddr = m.iaddr ∧ t.mnt.ptr = 0x2C
      ∧ t = { s with mnt := t.mnt, pins := t.pins })
    ∧ (m.ptr = 0 → ∃ t, exec (.mntRead own 3) s = .next t ∧ t.mnt.out = [0x32, 0x72, 1] ∧ t.mnt.ptr = 3)
    ∧ (m.ptr = 0x0C → ∃ t, exec (.mntRead own 4) s = .next t ∧ t.mnt.ptr = 0x10
      ∧ t.mnt.out = [s.sys.st.code,
        s.sync.code + (if s.whl.rev then 4 else 0) + (if s.whl.ratev then 8 else 0) + (if s.fab.capt then 16 else 0),
        m.astat % 16, m.aen % 256]
      ∧ t = { s with mnt := t.mnt, pins := t.pins })
    ∧ (m.ptr = 0x28 → free → m.pend = none → m.late = false → ∃ t, exec (.mntRead own 4) s = .next t
      ∧ leNat t.mnt.out = m.idata.toNat ∧ t.mnt.out.length = 4 ∧ t.mnt.ptr = 0x2C)
    ∧ (m.ptr = 0xFF → ∃ t, exec (.mntRead own 1) s = .next t ∧ t.mnt.out = [0] ∧ t.mnt.ptr = 0)
    ∧ (∃ t, exec (.mntByteAbandon true) s = .next t ∧ t.rf Reg.mntStat 0 15 8 = min 255 (s.rf Reg.mntStat 0 15 8 + 1) ∧ t.mnt = m
      ∧ t = { s with regs := t.regs, pins := t.pins })
    ∧ (free → m.pend = none → ∃ t, exec (.mntByteAbandon false) s = .next t ∧ t.mnt.ptr = m.ptr ∧ t.mnt.out.length = m.out.length + 1
      ∧ t.rf Reg.mntStat 0 15 8 = s.rf Reg.mntStat 0 15 8)
    ∧ (∃ t, exec .mntSclTimeout s = .next t ∧ t.rf Reg.mntStat 0 15 8 = min 255 (s.rf Reg.mntStat 0 15 8 + 1) ∧ t.mnt = m
      ∧ t = { s with regs := t.regs, pins := t.pins })
    ∧ (m.pend.isSome = true → exec .mntStretchTimeout s = .next (put { m with istat := .busy, late := true }).settle)
    ∧ (m.pend = none → exec .mntStretchTimeout s = .next s.settle ∧ exec (.mntIndirectDone lk) s = .next s.settle)
    ∧ (free → m.pend = none → m.late = false →
      (s.rb Reg.mntCfg 0 0 = true → exec (.mntIndirectRead inc) s = .next (put { m with pend := some (false, inc) }).settle)
      ∧ (s.rb Reg.mntCfg 0 0 = false → exec (.mntIndirectRead inc) s = .next (put { m with istat := .denied }).settle)
      ∧ (s.rb Reg.mntCfg 0 1 = true → exec (.mntIndirectWrite inc) s = .next (put { m with pend := some (true, inc) }).settle)
      ∧ (s.rb Reg.mntCfg 0 1 = false → exec (.mntIndirectWrite inc) s = .next (put { m with istat := .denied }).settle))
    ∧ (free → m.iaddr = x → x % 4 = 0 → sramAt x = some n → s.inj.flips = [] →
      (m.pend = some (false, inc) → exec (.mntIndirectDone lk) s = .next (put { m with
          pend := none, istat := .ok, idata := s.word x, iaddr := if inc then x + 4 else x }).settle)
      ∧ (m.pend = some (true, inc) → s.sys.st ≠ .lockout → s.clu[n].role ≠ .testing → ∃ t, exec (.mntIndirectDone lk) s = .next t
        ∧ t.mnt = { m with pend := none, istat := .ok, iaddr := if inc then x + 4 else x } ∧ t.word x = m.idata
        ∧ (∀ z : Nat, z < x ∨ x + 4 ≤ z → t.byte z = s.byte z) ∧ t = { s with mem := t.mem, mnt := t.mnt, hwSet := t.hwSet, pins := t.pins })
      ∧ (m.pend = some (true, inc) → s.clu[n].role = .testing → s.sys.st ≠ .lockout →
        exec (.mntIndirectDone lk) s = .next (put { m with pend := none, istat := .busy }).settle))
    ∧ (m.latch = true → ∃ t, exec (.alertResponse (BitVec.ofNat 8 ((0x58 + s.sys.ma % 8) * 2))) s = .next t ∧ t.mnt = { m with latch := false }
      ∧ t.rf Reg.mntStat 0 31 16 = min 65535 (s.rf Reg.mntStat 0 31 16 + 1) ∧ t = { s with mnt := t.mnt, regs := t.regs, pins := t.pins })
    ∧ (m.latch = false ∨ b.toNat ≠ (0x58 + s.sys.ma % 8) * 2 → exec (.alertResponse b) s = .next s.settle)
    ∧ exec (.astatClear b) s = .next (put { m with astat := bits b, latch := m.latch && decide (bits b &&& m.aen ≠ 0) }).settle
    ∧ (s.otp.fused = false → s.sys.testPin = true → exec (.testModeOpen Config.testKey) s = .next (put { m with testOpen := true }).settle)
    ∧ (s.otp.fused = true ∨ s.sys.testPin = false ∨ key ≠ Config.testKey → exec (.testModeOpen key) s = .next s.settle)

/-- R414 to R423, R425: the collector accepts the highest class first, stores, counts and gives SEQ; a class-2 message starts the shot
clock, which expires FLT_SHOT.LIMIT as it then stands after its start, a class-3 one asserts both safe lines and locks the device out.
The host pops the FIFO, stops the clock with the newest class-2 SEQ, places the package in the safe actuation state and releases it when
every condition holds; the write of the release waits for the driver die's answer. Of what one SVCLK brings, a POP and a RELEASE go before
an acceptance and a cause of entry, and an acceptance before an FLT_ACK, whichever row comes first (R418, R420, R423). That every cause
asserts both safe lines, that an acceptance with nothing ready waits for the first message or the next SVCLK, and what a displaced entry
counts are the model's choices (log entries 21 and 59). -/
def Obligations.CollectorAndSafeState : Prop :=
  ∀ (s : State) (p : Fin 2) (v : BitVec 32) (levels : BitVec 2), s.clocked = true →
    let c := s.coll
    let limit : Nat := max 100 (min 100000 (s.rf Reg.fltShot 0 16 0)) * 250
    let may : Bool := s.live && (match s.links.lastGood with
      | some t => decide (s.now < t + 16000)
      | none => false) && s.sys.vbat && !c.safeLineSeen
    let one (m : Msg) : Prop := c.outbox = [m] ∧ c.kept = [] ∧ m.ddl = false
    let again : Bool := c.lastAcc.any fun x => decide (x.at_ = s.svclk) -- this SVCLK has accepted a message
    let from_ : Nat := if again then 2 * s.svclk + 2 else s.now
    let at_ (m : Msg) : Nat := max from_ m.ready
    let acked (m : Msg) : Option (Nat × Nat) := (c.acked.filter fun x => decide (x.1 = (at_ m + 1) / 2)).map (·.2)
    let clean : Prop := s.trc.coming = [] ∧ 0x25F ∉ s.inj.residue
    let ctl := s.touched Reg.fltCtl 0
    let ack := s.touched Reg.fltAck 0
    let safe (t : State) : Prop := t.coll.safe = true ∧ t.coll.lineA = true ∧ t.coll.lineB = true ∧ t.coll.shot = none ∧ t.drv.safe = true
      ∧ (∀ n : Fin 32, t.pins.ls.getLsbD n.val = false)
    (s.Writable p →
      (again = false → exec (.fltPop p) s = .next (({ ctl with coll := { c with fifo := c.fifo.tail } } : State).answered p .ok).settle)
      ∧ (∀ x ∈ c.lastAcc, ∀ e ∈ c.lastMsg, x.at_ = s.svclk → x.before.length ≤ 64 → ∃ t, exec (.fltPop p) s = .next t ∧ t.answer p = .ok
        ∧ t.coll.fifo = x.before.tail ++ [e] ∧ t.coll.seq = c.seq
        ∧ t.rf Reg.fltStat 0 15 8 = s.rf Reg.fltStat 0 15 8 - (if x.lost then 1 else 0))
      ∧ (∃ t, exec (.fltSafe p) s = .next t ∧ t.answer p = .ok ∧ safe t ∧ t.coll.cHost = true ∧ t.sys = s.sys ∧ t.mem = s.mem)
      ∧ (may = false → exec (.fltRelease p) s = .next (ctl.answered p .busy).settle)
      ∧ (may = true → c.safe = false → exec (.fltRelease p) s = .next (ctl.answered p .ok).settle)
      ∧ (may = true → c.safe = true → ∀ x ∈ c.entered, x.1 = s.svclk →
        (x.2 = false → exec (.fltRelease p) s = .next (ctl.answered p .ok).settle)
        ∧ (x.2 = true → ∃ t, exec (.fltRelease p) s = .next t ∧ t.coll.safe = true ∧ t.coll.lineA = true ∧ t.coll.lineB = true
          ∧ (.release : Xfer) ∈ t.links.ddl ∧ t.coll.relWait.isSome = true ∧ t.mem = s.mem))
      ∧ (may = true → c.safe = true → (∀ x ∈ c.entered, x.1 ≠ s.svclk) → exec (.fltRelease p) s = .next (({ ctl with
          coll := { c with lineA := false, lineB := false, relPend := true, relDone := none,
                           relWait := some ⟨decide (p = 1), 0, 0, none, false, [], 0⟩ }
          links := { s.links with ddl := s.links.ddl ++ [.release] } } : State).answered p .waiting).settle)
      ∧ (∀ n ∈ c.shot, v.toNat % 4096 = c.last2 → exec (.fltAck p v) s
        = .next (({ ack with coll := { c with shot := none, acked := some (s.svclk, n, c.shotBy) } } : State).answered p .ok).settle)
      ∧ (c.shot = none ∨ v.toNat % 4096 ≠ c.last2 → exec (.fltAck p v) s = .next (ack.answered p .ok).settle))
    ∧ (c.coming = [] → s.trc.coming = [] → exec .collectorAccept s = .next s.settle)
    ∧ (∀ m ∈ c.outbox.head?, one m → m.cls < 2 → m.src / 1024 ≠ 1 → s.trc.coming = [] → 0x25F ∈ s.inj.residue →
      ∃ t, exec .collectorAccept s = .next t ∧ t.inj.residue = s.inj.residue.erase 0x25F
        ∧ ∃ x ∈ t.coll.outbox, x.cls = 3 ∧ x.kind = 0x21 ∧ x.src = 0x25F)
    ∧ (∀ m ∈ c.outbox.head?, one m → m.cls < 4 → clean →
      ∃ t, exec .collectorAccept s = .next t ∧ t.now = at_ m ∧ t.coll.seq = (c.seq + 1) % 4096
        ∧ t.coll.lastMsg = some ⟨m, c.seq, at_ m⟩
        ∧ (c.fifo.length < 64 → t.coll.fifo = c.fifo ++ [⟨m, c.seq, at_ m⟩])
        ∧ (64 ≤ c.fifo.length → m.cls = 0 → t.coll.fifo = c.fifo
          ∧ t.rf Reg.fltStat 0 15 8 = min 255 (s.rf Reg.fltStat 0 15 8 + 1))
        ∧ (m.cls = 0 → t.rf Reg.fltCnt01 0 15 0 = min 65535 (s.rf Reg.fltCnt01 0 15 0 + 1))
        ∧ (m.cls = 1 → t.rf Reg.fltCnt01 0 31 16 = min 65535 (s.rf Reg.fltCnt01 0 31 16 + 1))
        ∧ (m.cls = 2 → t.rf Reg.fltCnt23 0 15 0 = min 65535 (s.rf Reg.fltCnt23 0 15 0 + 1) ∧ t.coll.last2 = c.seq)
        ∧ (m.cls = 3 → t.rf Reg.fltCnt23 0 31 16 = min 65535 (s.rf Reg.fltCnt23 0 31 16 + 1) ∧ safe t ∧ t.coll.cGrave = true
          ∧ t.sys.st = .lockout)
        ∧ (∀ i : Fin 4, i.val = m.cls → t.mnt.fcnt[i] = min 255 (s.mnt.fcnt[i] + 1))
        ∧ (m.cls < 2 → m.src / 1024 ≠ 1 → t.coll.outbox = [] ∧ t.coll.shot = c.shot ∧ t.coll.safe = c.safe ∧ t.drv = s.drv
          ∧ t.trc = s.trc ∧ t.edg = s.edg)
        ∧ (m.cls = 2 → m.src / 1024 ≠ 1 → t.coll.safe = c.safe ∧ t.drv = s.drv
          ∧ t.coll.shot = (if c.shot = none ∧ c.safe = false then some (((acked m).map (·.1)).getD (at_ m)) else c.shot)
          ∧ (c.shot = none → c.safe = false → t.coll.shotBy = ((acked m).map (·.2)).getD c.seq)))
    ∧ (∀ a ∈ c.outbox.head?, ∀ b ∈ c.outbox.tail.head?, c.outbox = [a, b] → c.kept = [] → a.ddl = false → b.ddl = false → a.ready ≤ s.now →
      b.ready ≤ s.now → s.trc.coming = [] → ∃ t, exec .collectorAccept s = .next t ∧ t.now = from_
        ∧ (a.cls < b.cls ∨ (a.cls = b.cls ∧ b.at_ < a.at_) ∨ (a.cls = b.cls ∧ a.at_ = b.at_ ∧ b.src < a.src) →
            t.coll.lastMsg = some ⟨b, c.seq, from_⟩)
        ∧ (b.cls < a.cls ∨ (a.cls = b.cls ∧ a.at_ < b.at_) ∨ (a.cls = b.cls ∧ a.at_ = b.at_ ∧ a.src < b.src) →
            t.coll.lastMsg = some ⟨a, c.seq, from_⟩))
    ∧ (∀ n ∈ c.shot, ∃ t, exec .shotClock s = .next t ∧ t.now = max s.now (n + limit) ∧ safe t ∧ t.coll.cSC = true
      ∧ s.Emits t 2 0x1F 0x25F (c.shotBy % 4096) ∧ t.sys = s.sys ∧ t.mem = s.mem)
    ∧ (c.shot = none → exec .shotClock s = .next s.settle)
    ∧ (∃ t, exec (.safeLine levels) s = .next t ∧ s.Emits t 3 0x20 0x25F levels.toNat
      ∧ t = { s with coll := t.coll, regs := t.regs, pins := t.pins })
    ∧ ∃ t, exec .collFault s = .next t ∧ s.Emits t 3 0x21 0x25F 0 ∧ t = { s with coll := t.coll, regs := t.regs, pins := t.pins }

/-- R426 to R431, R438 to R440: an innings starts its overs in order; a STOPPED or SPARE cluster is tested in place, an ACTIVE or
CARRYING one is first relieved by the lowest SPARE; a failed or late over retires its unit, a deferred one is named. The injections
exist only in factory test mode; each is noted and then acts as the fault itself. The source of FI_INJECT, that a flip replaces the one
before on its word, and which words, slots and angles a source and an address name, are the model's choices (log entries 60 and 78);
so is that a TESTING cluster that passes its over with no spare to relieve it ends SPARE with no work (log entry 87). -/
def Obligations.BistAndFaultInjection : Prop :=
  ∀ (s : State) (p : Fin 2) (u : Fin 16) (c sp : Fin 9) (pass : Bool), s.clocked = true →
    let b := s.bist
    let k := s.clu[c]
    let runs : Bool := s.live && s.rb Reg.bistCfg 0 0
    let lowest : Prop := s.clu[sp].role = .spare ∧ ∀ x : Fin 9, x.val < sp.val → s.clu[x].role ≠ .spare
    let inPlace : Prop := k.role = .spare ∨ k.role = .stopped
    let carries : Prop := k.role = .active ∨ k.role = .carrying
    let src : Nat := s.rf Reg.fiSrc 0 11 0
    let addr : Nat := (s.rg Reg.fiAddr 0 0).toNat
    let hi : Word := s.rg Reg.fiMsgHi 0 0
    let j := (s.touched Reg.fiCtl 0).inj
    let did (n : Nat) (t : State) : Prop := t.answer p = .ok ∧ s.Emits t 0 0x22 0x26F n ∧ t.edg = s.edg ∧ t.mem = s.mem
    let none_ (t : State) : Prop := t.answer p = .addrerr ∧ t.inj = s.inj ∧ t.links = s.links ∧ t.bist = b ∧ t.prd = s.prd
      ∧ (∃ n ∈ [(0x60002000 : Nat), 0x60002014], s.Emits t 0 4 (if p = 0 then 0x20F else 0x21F) n)
    let failed (o : Over) (t : State) : Prop := t.bist.ov = none ∧ t.clu[c].role = .unusable ∧ t.clu[c].work = none
      ∧ t.rf Reg.bistCnt 0 31 16 = min 65535 (s.rf Reg.bistCnt 0 31 16 + 1) ∧ s.Emits t 1 0x1B (0x260 + c.val) (o.idx % 16)
      ∧ t.mem = s.mem
    (runs = false → exec .inningsStart s = .next s.settle ∧ exec .overSlot s = .next s.settle)
    ∧ (runs = true → ∃ t, exec .inningsStart s = .next t ∧ t.bist.running = true ∧ t.bist.next = 0 ∧ t.bist.done = 0
      ∧ t.bist.order = (if b.running then b.due.1 else 0) ∧ t.bist.innings = b.innings
      ∧ (b.running = true → (s.coll.outbox.filter (·.src = 0x26F)) = [] → ∃ m ∈ t.coll.outbox, m.cls = 1 ∧ m.kind = 0x1E ∧ m.src = 0x26F)
      ∧ t.clu = s.clu ∧ t.work = s.work ∧ t.edg = s.edg)
    ∧ (runs = true → b.running = true → b.ov = none → b.due.1 = c.val →
      (inPlace → exec .overSlot s = .next ({ s with bist := { b with
          ov := some ⟨c.val, b.due.2, .running, none, none, k.role, false, s.now⟩ } } : State).settle)
      ∧ (carries → lowest → exec .overSlot s = .next ({ s with bist := { b with
          ov := some ⟨c.val, b.due.2, .prepare, some sp, k.work, k.role, false, s.now⟩ } } : State).settle))
    ∧ (runs = true → b.running = true → b.ov = none → b.due.1 = 9 → ∃ t, exec .overSlot s = .next t
      ∧ t.bist.ov = some ⟨if s.prd.act then 9 else 10, b.due.2, .running, none, none, .stopped, false, s.now⟩ ∧ t.prd.chkon = false
      ∧ t.clu = s.clu ∧ t.edg = s.edg)
    ∧ (b.ov.isSome = true → exec .overSlot s = .next s.settle)
    ∧ (b.running = false → exec .overSlot s = .next s.settle)
    ∧ (b.ov = none → exec (.overEnd pass) s = .next s.settle ∧ exec .overOverrun s = .next s.settle
      ∧ exec .bistDeferTimeout s = .next s.settle)
    ∧ (∀ o ∈ b.ov, o.unit = c.val → s.inj.overFail = [] →
      (o.stage = .running → o.spare = none → o.extra = false → b.next < 151 → ((∀ x : Fin 9, s.clu[x].role ≠ .testing) → ∃ t, exec (.overEnd true) s = .next t ∧ t.bist.ov = none
        ∧ t.bist.next = b.next + 1 ∧ t.clu = s.clu
        ∧ (o.idx = 15 → b.failed.testBit c.val = false → t.bist.done = b.done ||| 2 ^ c.val) ∧ (o.idx < 15 → t.bist.done = b.done)
        ∧ t = { s with bist := t.bist, pins := t.pins })
      ∧ (k.role = .testing → ∃ t, exec (.overEnd true) s = .next t ∧ t.bist.ov = none ∧ t.clu[c].role = .spare ∧ t.clu[c].work = none
        ∧ t.work = s.work)
      ∧ ∃ t, exec (.overEnd false) s = .next t ∧ failed o t ∧ t.bist.next = b.next + 1)
      ∧ (o.stage = .running → o.spare.isSome = true → o.extra = true → ∃ t, exec (.overEnd true) s = .next t
        ∧ t.bist.ov = some { o with stage := .back, t0 := s.now } ∧ t.clu = s.clu)
      ∧ (o.stage = .running → o.extra = true → ∃ t, exec .overOverrun s = .next t ∧ t.now = max s.now (o.t0 + 5000) ∧ failed o t)
      ∧ (o.stage ≠ .running → exec (.overEnd pass) s = .next s.settle ∧ exec .overOverrun s = .next s.settle)
      ∧ (o.stage = .prepare → ∃ t, exec .bistDeferTimeout s = .next t ∧ t.now = max s.now (o.t0 + 250000) ∧ t.bist = { b with ov := none }
        ∧ t.rf Reg.bistCnt 0 15 0 = min 65535 (s.rf Reg.bistCnt 0 15 0 + 1) ∧ s.Emits t 0 0x1C (0x260 + c.val) 1
        ∧ t.clu = s.clu ∧ t.edg = s.edg)
      ∧ (o.stage ≠ .prepare → exec .bistDeferTimeout s = .next s.settle))
    ∧ (s.Writable p → s.mnt.testOpen = false →
      (∃ t, exec (.bistCmd p u) s = .next t ∧ none_ t) ∧ (∃ t, exec (.fiResidue p) s = .next t ∧ none_ t)
      ∧ (∃ t, exec (.fiBitFlip p) s = .next t ∧ none_ t) ∧ (∃ t, exec (.fiDoubleFlip p) s = .next t ∧ none_ t)
      ∧ (∃ t, exec (.fiDdlCrc p) s = .next t ∧ none_ t) ∧ (∃ t, exec (.fiMdlCrc p) s = .next t ∧ none_ t)
      ∧ (∃ t, exec (.fiDdlSilence p) s = .next t ∧ none_ t) ∧ (∃ t, exec (.fiOverFail p) s = .next t ∧ none_ t)
      ∧ (∃ t, exec (.fiEchoMismatch p) s = .next t ∧ none_ t) ∧ ∃ t, exec (.fiMessage p) s = .next t ∧ none_ t)
    ∧ (s.Writable p → s.mnt.testOpen = true →
      (u.val = c.val → b.ov = none → inPlace → ∃ t, exec (.bistCmd p u) s = .next t ∧ t.answer p = .ok
        ∧ t.bist = { b with ov := some ⟨c.val, 0, .running, none, none, k.role, true, s.now⟩ } ∧ t.clu = s.clu)
      ∧ (b.ov.isSome = true → ∃ t, exec (.bistCmd p u) s = .next t ∧ t.answer p = .ok ∧ t.bist = b ∧ t.clu = s.clu)
      ∧ (src / 16 ≠ 0xA → src / 16 ≠ 0x12 → ∃ t, exec (.fiResidue p) s = .next t ∧ did 1 t ∧ t.inj = { j with residue := j.residue ++ [src] })
      ∧ (∀ w : Fin 16, src = 0x120 + w.val → s.measRuns = true → s.ms.win[w].isOpen = true → s.ms.win[w].runs ≠ [] →
        ∃ t, exec (.fiResidue p) s = .next t ∧ did 1 t ∧ t.ms.win[w].isOpen = false ∧ s.Emits t 0 Kind.winAbort src 0 ∧ t.inj = j)
      ∧ (∀ w : Fin 9, k.work = some w → ∀ n : Fin 15, src = c.val * 16 + n.val → ∀ q : Fin 32, addr < 8 → q.val = n.val + 16 * (addr / 4) →
        ∃ t, exec (.fiBitFlip p) s = .next t ∧ did 2 t ∧ t.work = s.work.set w.val { s.work[w] with
          slots := s.work[w].slots.set q.val { s.work[w].slots[q] with resBad := true } q.isLt } w.isLt)
      ∧ (∀ w : Fin 9, k.work = some w → src = c.val * 16 + 15 → ∀ q : Fin 32, 6144 ≤ addr → addr < 6152 → q.val = 15 + 16 * ((addr - 6144) / 4) →
        ∃ t, exec (.fiBitFlip p) s = .next t ∧ did 2 t ∧ t.work = s.work.set w.val { s.work[w] with
          slots := s.work[w].slots.set q.val { s.work[w].slots[q] with resBad := true } q.isLt } w.isLt)
      ∧ (∀ w : Fin 9, src = 0xB0 + w.val → ∀ n : Fin 32, addr / 4 = n.val → ∃ t, exec (.fiBitFlip p) s = .next t ∧ did 2 t
        ∧ t.work = s.work.set w.val { s.work[w] with
          slots := s.work[w].slots.set n.val { s.work[w].slots[n] with mirBad := true } n.isLt } w.isLt)
      ∧ (src = c.val * 16 + 15 → addr < 6144 →
        (∃ t, exec (.fiBitFlip p) s = .next t ∧ did 2 t ∧ t.inj = { j with
          flips := j.flips.filter (fun f => decide (f.1 ≠ c.val * 0x10000 + 4 * addr)) ++ [(c.val * 0x10000 + 4 * addr, 1)] })
        ∧ ∃ t, exec (.fiDoubleFlip p) s = .next t ∧ did 3 t ∧ t.inj = { j with
          flips := j.flips.filter (fun f => decide (f.1 ≠ c.val * 0x10000 + 4 * addr)) ++ [(c.val * 0x10000 + 4 * addr, 2)] })
      ∧ (src = 0x25F → addr % 4 < 3 → ∀ e ∈ s.coll.fifo[addr / 4]?,
        let key : Nat := 0x60010000 + 16 * (e.seq % 4096) + 4 * (addr % 4)
        (∃ t, exec (.fiBitFlip p) s = .next t ∧ did 2 t ∧ t.inj = { j with
          flips := j.flips.filter (fun f => decide (f.1 ≠ key)) ++ [(key, 1)] })
        ∧ ∃ t, exec (.fiDoubleFlip p) s = .next t ∧ did 3 t ∧ t.inj = { j with
          flips := j.flips.filter (fun f => decide (f.1 ≠ key)) ++ [(key, 2)] })
      ∧ (∃ t, exec (.fiDdlCrc p) s = .next t ∧ did 4 t ∧ t.inj = { j with ddlCrc := true })
      ∧ (∃ t, exec (.fiMdlCrc p) s = .next t ∧ did 5 t ∧ t.inj = { j with mdlCrc := true })
      ∧ (∃ t, exec (.fiDdlSilence p) s = .next t ∧ did 6 t ∧ t.links.quietUntil = s.now + addr % 65536 * 250 ∧ t.inj = j)
      ∧ (∃ t, exec (.fiOverFail p) s = .next t ∧ did 7 t ∧ t.inj = { j with overFail := j.overFail ++ [src] })
      ∧ (∃ t, exec (.fiEchoMismatch p) s = .next t ∧ did 8 t
        ∧ (src / 16 = 0xC → t.inj = { j with echo := j.echo ++ [src % 16] })
        ∧ (src / 16 = 0xD → t.inj = { j with echo := j.echo ++ [16 + src % 16] })
        ∧ (src / 16 = 0xE → t.inj = { j with echo := j.echo ++ [32 + src % 16] }))
      ∧ ∃ t, exec (.fiMessage p) s = .next t ∧ did 9 t ∧ t.inj = j
        ∧ (fld hi 23 12 ≠ 0x26F → s.Emits t (fld hi 31 30) (fld hi 29 24) (fld hi 23 12) (s.rg Reg.fiMsgLo 0 0).toNat))


/-- R179, R180, R184, R302: the words of the instructions. A Walend word with its opcode in [31:26] and its fields in their places
spells that instruction with every operand; an angle-register field with bit 3 set, a field marked 0 that is not, an encoding that R188,
R193, R197 and R198 reserve and a reserved opcode spell none. The all-zero word is DONE. A jig word spells the instruction of its OP
with its A and IMM, and none from 16h on. -/
def Obligations.WordsSpellCommands : Prop :=
  (∀ (c : Fin 9) (d s t : Fin 16) (imm : BitVec 16) (tgt : BitVec 12) (k : Fin 4) (fig : Fin 32) (u v : Bool) (x : Meets),
    let top (op : Nat) (d s : Fin 16) : Nat := op * 2 ^ 26 + d.val * 2 ^ 22 + s.val * 2 ^ 18
    let cmd (n : Nat) : Option Instr := walendCommand c (BitVec.ofNat 32 n) x
    let r (op : Nat) : Option Instr := cmd (top op d s + t.val * 2 ^ 14)
    let i (op : Nat) : Option Instr := cmd (top op d s + imm.toNat)
    let onWord (n : Nat) (b : Bool) : Nat := if b then 2 ^ n else 0
    cmd 0 = some (.wDone c) ∧ cmd (top 0 0 s + 1) = some (.wDonew c s) ∧ cmd (top 0x01 0 0) = some (.wNop c)
    ∧ cmd (top 0x02 0 0 + imm.toNat) = some (.wTrap c imm) ∧ cmd (top 0x03 d 0 + imm.toNat) = some (.wBcond c d imm)
    ∧ cmd (top 0x04 0 0 + tgt.toNat) = some (.wJmp c tgt) ∧ cmd (top 0x05 d 0 + tgt.toNat) = some (.wJal c d tgt)
    ∧ cmd (top 0x06 0 s) = some (.wJr c s) ∧ cmd (top 0x07 d 0) = some (.wMff c d)
    ∧ cmd (top 0x08 d 0 + imm.toNat) = some (.wLdi c d imm) ∧ cmd (top 0x09 d 0 + imm.toNat) = some (.wLdhi c d imm)
    ∧ cmd (top 0x0A d s) = some (.wMov c d s)
    ∧ cmd (top 0x0B d s + onWord 17 u + imm.toNat) = (if u = true ∧ s ≠ 0 then none else some (.wLd c d s u imm x.ecc))
    ∧ cmd (top 0x0C d s + onWord 17 u + imm.toNat) = (if u = true ∧ s ≠ 0 then none else some (.wSt c d s u imm))
    ∧ cmd (top 0x0D d s + imm.toNat) = some (.wLdx c d s false imm x.stall x.link)
    ∧ cmd (top 0x0E d s + imm.toNat) = some (.wStx c d s false imm x.stall x.link)
    ∧ r 0x10 = some (.wAdd c d s t) ∧ r 0x11 = some (.wSub c d s t) ∧ r 0x12 = some (.wAnd c d s t) ∧ r 0x13 = some (.wOr c d s t)
    ∧ r 0x14 = some (.wXor c d s t) ∧ r 0x15 = some (.wShl c d s t) ∧ r 0x16 = some (.wShr c d s t) ∧ r 0x17 = some (.wAsr c d s t)
    ∧ r 0x18 = some (.wMin c d s t) ∧ r 0x19 = some (.wMax c d s t) ∧ r 0x1B = some (.wMul c d s t) ∧ r 0x1C = some (.wMulh c d s t)
    ∧ r 0x1D = some (.wDivu c d s t) ∧ r 0x1E = some (.wDivs c d s t)
    ∧ cmd (top 0x1A 0 s + t.val * 2 ^ 14) = some (.wCmp c s t) ∧ cmd (top 0x21 0 s + imm.toNat) = some (.wCmpi c s imm)
    ∧ i 0x20 = some (.wAddi c d s imm) ∧ i 0x22 = some (.wAndi c d s imm) ∧ i 0x23 = some (.wOri c d s imm)
    ∧ i 0x24 = some (.wXori c d s imm) ∧ i 0x28 = some (.wMini c d s imm) ∧ i 0x29 = some (.wMaxi c d s imm)
    ∧ (imm.toNat < 32 → i 0x25 = some (.wShli c d s imm) ∧ i 0x26 = some (.wShri c d s imm) ∧ i 0x27 = some (.wAsri c d s imm))
    ∧ (32 ≤ imm.toNat → i 0x25 = none ∧ i 0x26 = none ∧ i 0x27 = none)
    ∧ cmd (top 0x2A d s + fig.val * 2 ^ 13 + onWord 12 u) = some (.wRdfig c d s fig u)
    ∧ cmd (top 0x2B d s + onWord 12 u) = some (.wRdres c d s u)
    ∧ cmd (top 0x2C d s + k.val * 2 ^ 16) = some (.wSend c d s k) ∧ cmd (top 0x2D d 0 + k.val * 2 ^ 16) = some (.wFabrd c d k)
    ∧ cmd (top 0x2E 0 s) = some (.wCueset c s) ∧ cmd (top 0x2E 0 s + 2 ^ 16) = some (.wCueclr c s)
    ∧ cmd (top 0x2E 0 s + 2 ^ 17) = some (.wCuewr c s) ∧ cmd (top 0x2E 0 s + 3 * 2 ^ 16) = none
    ∧ cmd (top 0x38 d 0) = some (.wClrac c d) ∧ cmd (top 0x3B d 0) = some (.wCancel c d) ∧ cmd (top 0x3C d s) = some (.wQuery c d s)
    ∧ cmd (top 0x3D d 0) = some (.wOvfc c d)
    ∧ cmd (top 0x39 d s + t.val * 2 ^ 14 + k.val * 2 ^ 12)
      = (if k = 3 ∨ (k = 2 ∧ 8 ≤ t.val) then none else some (.wArm c d s t k))
    ∧ cmd (top 0x3A d s + t.val * 2 ^ 14 + k.val * 2 ^ 12 + onWord 11 u)
      = (if k = 3 ∨ (k = 2 ∧ 8 ≤ s.val) ∨ (u = false ∧ (k = 0 ∨ t ≠ 0)) then none else some (.wReaim c d s t k u))
    ∧ (d.val < 8 → cmd (top 0x30 d s) = some (.wMova c d s) ∧ cmd (top 0x34 d 0) = some (.wGeta c d))
    ∧ (8 ≤ d.val → r 0x30 = none ∧ r 0x31 = none ∧ r 0x32 = none ∧ r 0x34 = none ∧ i 0x36 = none)
    ∧ (d.val < 8 → s.val < 8 → r 0x31 = some (.wAdda c d s t) ∧ r 0x32 = some (.wSuba c d s t) ∧ i 0x36 = some (.wAddai c d s imm))
    ∧ (s.val < 8 → t.val < 8 → r 0x33 = some (.wDifa c d s t))
    ∧ (s.val < 8 → cmd (top 0x35 d s) = some (.wMovg c d s)
      ∧ cmd (top 0x37 d s + onWord 17 u + onWord 16 v) = some (.wSetac c d s u v))
    ∧ (8 ≤ s.val → r 0x31 = none ∧ r 0x32 = none ∧ r 0x33 = none ∧ r 0x35 = none ∧ i 0x36 = none ∧ i 0x37 = none)
    ∧ r 0x0F = none ∧ r 0x1F = none ∧ r 0x2F = none ∧ r 0x3E = none ∧ r 0x3F = none)
  -- the bits of each opcode's format that are marked 0, with those of an angle-register field's bit 3
  ∧ (∀ (c : Fin 9) (w : BitVec 32) (x : Meets), ∀ e ∈ ([(0x00, 0x3C3FFFE), (0x01, 0x3FFFFFF), (0x02, 0x3FF0000), (0x03, 0x3F0000),
      (0x04, 0x3FFF000), (0x05, 0x3FF000), (0x06, 0x3C3FFFF), (0x07, 0x3FFFFF), (0x08, 0x3F0000), (0x09, 0x3F0000), (0x0A, 0x3FFFF),
      (0x0B, 0x10000), (0x0C, 0x10000), (0x0D, 0x30000), (0x0E, 0x30000), (0x10, 0x3FFF), (0x11, 0x3FFF), (0x12, 0x3FFF), (0x13, 0x3FFF),
      (0x14, 0x3FFF), (0x15, 0x3FFF), (0x16, 0x3FFF), (0x17, 0x3FFF), (0x18, 0x3FFF), (0x19, 0x3FFF), (0x1A, 0x3C03FFF), (0x1B, 0x3FFF),
      (0x1C, 0x3FFF), (0x1D, 0x3FFF), (0x1E, 0x3FFF), (0x20, 0x30000), (0x21, 0x3C30000), (0x22, 0x30000), (0x23, 0x30000),
      (0x24, 0x30000), (0x25, 0x3FFE0), (0x26, 0x3FFE0), (0x27, 0x3FFE0), (0x28, 0x30000), (0x29, 0x30000), (0x2A, 0xFFF),
      (0x2B, 0x3EFFF), (0x2C, 0xFFFF), (0x2D, 0x3CFFFF), (0x2E, 0x3C0FFFF), (0x30, 0x203FFFF), (0x31, 0x2203FFF), (0x32, 0x2203FFF),
      (0x33, 0x223FFF), (0x34, 0x23FFFFF), (0x35, 0x23FFFF), (0x36, 0x2230000), (0x37, 0x20FFFF), (0x38, 0x3FFFFF), (0x39, 0xFFF),
      (0x3A, 0x7FF), (0x3B, 0x3FFFFF), (0x3C, 0x3FFFF), (0x3D, 0x3FFFFF)] : List (Nat × Nat)),
    w.toNat / 2 ^ 26 = e.1 → w.toNat &&& e.2 ≠ 0 → walendCommand c w x = none)
  ∧ (∀ (e : Fin 8) (op : Fin 64) (a : BitVec 10) (imm : BitVec 16) (x : Meets),
    let n := jigCommand e (BitVec.ofNat 32 (op.val * 2 ^ 26 + a.toNat * 2 ^ 16 + imm.toNat)) x
    (op.val < 0x16 → some n = [some (.jigNop e a imm), some (.jigIdle e a imm), some (.jigPins e a imm), some (.jigDirs e a imm),
      some (.jigWaitl e a imm x.pins), some (.jigWaite e a imm), some (.jigWaitg e a imm), some (.jigShin e a imm x.bits),
      some (.jigShout e a imm), some (.jigPush e a imm), some (.jigPull e a imm), some (.jigMov e a imm x.pins),
      some (.jigMovi e a imm), some (.jigAddi e a imm), some (.jigSub e a imm x.pins), some (.jigTest e a imm),
      some (.jigBr e a imm x.pins), some (.jigLoop e a imm), some (.jigRecip e a imm), some (.jigMulq e a imm),
      some (.jigSig e a imm), some (.jigYield e a imm)][op.val]?)
    ∧ (0x16 ≤ op.val → n = none))
end

