-- ==== Sys2Proof/Laws/State.lean ====
section
/-! SUPPORT. What each update of the state leaves as it was: one lemma per field and update. -/

namespace Sys2Proof.Machine

@[simp] theorem State.setPort_pending (s : State) (r : Fin 3) (f : FPort → FPort) : (s.setPort r f).pending = s.pending := rfl
@[simp] theorem State.setPort_now (s : State) (r : Fin 3) (f : FPort → FPort) : (s.setPort r f).now = s.now := rfl
@[simp] theorem State.setPort_sys (s : State) (r : Fin 3) (f : FPort → FPort) : (s.setPort r f).sys = s.sys := rfl
@[simp] theorem State.setPort_ao (s : State) (r : Fin 3) (f : FPort → FPort) : (s.setPort r f).ao = s.ao := rfl
@[simp] theorem State.setPort_otp (s : State) (r : Fin 3) (f : FPort → FPort) : (s.setPort r f).otp = s.otp := rfl
@[simp] theorem State.setPort_regs (s : State) (r : Fin 3) (f : FPort → FPort) : (s.setPort r f).regs = s.regs := rfl
@[simp] theorem State.setPort_mem (s : State) (r : Fin 3) (f : FPort → FPort) : (s.setPort r f).mem = s.mem := rfl
@[simp] theorem State.setPort_coll (s : State) (r : Fin 3) (f : FPort → FPort) : (s.setPort r f).coll = s.coll := rfl
@[simp] theorem State.setPort_links (s : State) (r : Fin 3) (f : FPort → FPort) : (s.setPort r f).links = s.links := rfl
@[simp] theorem State.setPort_whl (s : State) (r : Fin 3) (f : FPort → FPort) : (s.setPort r f).whl = s.whl := rfl
@[simp] theorem State.setPort_prd (s : State) (r : Fin 3) (f : FPort → FPort) : (s.setPort r f).prd = s.prd := rfl
@[simp] theorem State.setPort_clu (s : State) (r : Fin 3) (f : FPort → FPort) : (s.setPort r f).clu = s.clu := rfl
@[simp] theorem State.setPort_work (s : State) (r : Fin 3) (f : FPort → FPort) : (s.setPort r f).work = s.work := rfl
@[simp] theorem State.setPort_take (s : State) (r : Fin 3) (f : FPort → FPort) : (s.setPort r f).take = s.take := rfl
@[simp] theorem State.setPort_edg (s : State) (r : Fin 3) (f : FPort → FPort) : (s.setPort r f).edg = s.edg := rfl
@[simp] theorem State.setPort_drv (s : State) (r : Fin 3) (f : FPort → FPort) : (s.setPort r f).drv = s.drv := rfl
@[simp] theorem State.setPort_ms (s : State) (r : Fin 3) (f : FPort → FPort) : (s.setPort r f).ms = s.ms := rfl
@[simp] theorem State.setPort_trc (s : State) (r : Fin 3) (f : FPort → FPort) : (s.setPort r f).trc = s.trc := rfl
@[simp] theorem State.setPort_jig (s : State) (r : Fin 3) (f : FPort → FPort) : (s.setPort r f).jig = s.jig := rfl
@[simp] theorem State.setPort_tmr (s : State) (r : Fin 3) (f : FPort → FPort) : (s.setPort r f).tmr = s.tmr := rfl
@[simp] theorem State.setPort_snapSeq (s : State) (r : Fin 3) (f : FPort → FPort) : (s.setPort r f).snapSeq = s.snapSeq := rfl
@[simp] theorem State.setPort_tmrOvrSent (s : State) (r : Fin 3) (f : FPort → FPort) : (s.setPort r f).tmrOvrSent = s.tmrOvrSent := rfl
@[simp] theorem State.setPort_svc (s : State) (r : Fin 3) (f : FPort → FPort) : (s.setPort r f).svc = s.svc := rfl
@[simp] theorem State.setPort_host (s : State) (r : Fin 3) (f : FPort → FPort) : (s.setPort r f).host = s.host := rfl
@[simp] theorem State.setPort_mnt (s : State) (r : Fin 3) (f : FPort → FPort) : (s.setPort r f).mnt = s.mnt := rfl
@[simp] theorem State.setPort_readers (s : State) (r : Fin 3) (f : FPort → FPort) : (s.setPort r f).readers = s.readers := rfl
@[simp] theorem State.setPort_bist (s : State) (r : Fin 3) (f : FPort → FPort) : (s.setPort r f).bist = s.bist := rfl
@[simp] theorem State.setPort_inj (s : State) (r : Fin 3) (f : FPort → FPort) : (s.setPort r f).inj = s.inj := rfl
@[simp] theorem State.setPort_pins (s : State) (r : Fin 3) (f : FPort → FPort) : (s.setPort r f).pins = s.pins := rfl
@[simp] theorem State.setPort_free (s : State) (r : Fin 3) (f : FPort → FPort) : (s.setPort r f).free = s.free := rfl
@[simp] theorem State.setPort_snapAt (s : State) (r : Fin 3) (f : FPort → FPort) : (s.setPort r f).snapAt = s.snapAt := rfl
@[simp] theorem State.setPort_hwSet (s : State) (r : Fin 3) (f : FPort → FPort) : (s.setPort r f).hwSet = s.hwSet := rfl
@[simp] theorem State.setPort_claims (s : State) (r : Fin 3) (f : FPort → FPort) : (s.setPort r f).claims = s.claims := rfl
@[simp] theorem State.setPort_jigCmds (s : State) (r : Fin 3) (f : FPort → FPort) : (s.setPort r f).jigCmds = s.jigCmds := rfl
@[simp] theorem State.setPort_was (s : State) (r : Fin 3) (f : FPort → FPort) : (s.setPort r f).was = s.was := rfl
@[simp] theorem State.setPort_roleMnt (s : State) (r : Fin 3) (f : FPort → FPort) : (s.setPort r f).roleMnt = s.roleMnt := rfl
@[simp] theorem State.setBist_pending (s : State) (f : Bist → Bist) : (s.setBist f).pending = s.pending := rfl
@[simp] theorem State.setBist_now (s : State) (f : Bist → Bist) : (s.setBist f).now = s.now := rfl
@[simp] theorem State.setBist_sys (s : State) (f : Bist → Bist) : (s.setBist f).sys = s.sys := rfl
@[simp] theorem State.setBist_ao (s : State) (f : Bist → Bist) : (s.setBist f).ao = s.ao := rfl
@[simp] theorem State.setBist_otp (s : State) (f : Bist → Bist) : (s.setBist f).otp = s.otp := rfl
@[simp] theorem State.setBist_regs (s : State) (f : Bist → Bist) : (s.setBist f).regs = s.regs := rfl
@[simp] theorem State.setBist_mem (s : State) (f : Bist → Bist) : (s.setBist f).mem = s.mem := rfl
@[simp] theorem State.setBist_coll (s : State) (f : Bist → Bist) : (s.setBist f).coll = s.coll := rfl
@[simp] theorem State.setBist_links (s : State) (f : Bist → Bist) : (s.setBist f).links = s.links := rfl
@[simp] theorem State.setBist_whl (s : State) (f : Bist → Bist) : (s.setBist f).whl = s.whl := rfl
@[simp] theorem State.setBist_prd (s : State) (f : Bist → Bist) : (s.setBist f).prd = s.prd := rfl
@[simp] theorem State.setBist_clu (s : State) (f : Bist → Bist) : (s.setBist f).clu = s.clu := rfl
@[simp] theorem State.setBist_work (s : State) (f : Bist → Bist) : (s.setBist f).work = s.work := rfl
@[simp] theorem State.setBist_take (s : State) (f : Bist → Bist) : (s.setBist f).take = s.take := rfl
@[simp] theorem State.setBist_edg (s : State) (f : Bist → Bist) : (s.setBist f).edg = s.edg := rfl
@[simp] theorem State.setBist_drv (s : State) (f : Bist → Bist) : (s.setBist f).drv = s.drv := rfl
@[simp] theorem State.setBist_ms (s : State) (f : Bist → Bist) : (s.setBist f).ms = s.ms := rfl
@[simp] theorem State.setBist_trc (s : State) (f : Bist → Bist) : (s.setBist f).trc = s.trc := rfl
@[simp] theorem State.setBist_jig (s : State) (f : Bist → Bist) : (s.setBist f).jig = s.jig := rfl
@[simp] theorem State.setBist_tmr (s : State) (f : Bist → Bist) : (s.setBist f).tmr = s.tmr := rfl
@[simp] theorem State.setBist_snapSeq (s : State) (f : Bist → Bist) : (s.setBist f).snapSeq = s.snapSeq := rfl
@[simp] theorem State.setBist_tmrOvrSent (s : State) (f : Bist → Bist) : (s.setBist f).tmrOvrSent = s.tmrOvrSent := rfl
@[simp] theorem State.setBist_svc (s : State) (f : Bist → Bist) : (s.setBist f).svc = s.svc := rfl
@[simp] theorem State.setBist_fab (s : State) (f : Bist → Bist) : (s.setBist f).fab = s.fab := rfl
@[simp] theorem State.setBist_host (s : State) (f : Bist → Bist) : (s.setBist f).host = s.host := rfl
@[simp] theorem State.setBist_mnt (s : State) (f : Bist → Bist) : (s.setBist f).mnt = s.mnt := rfl
@[simp] theorem State.setBist_readers (s : State) (f : Bist → Bist) : (s.setBist f).readers = s.readers := rfl
@[simp] theorem State.setBist_inj (s : State) (f : Bist → Bist) : (s.setBist f).inj = s.inj := rfl
@[simp] theorem State.setBist_pins (s : State) (f : Bist → Bist) : (s.setBist f).pins = s.pins := rfl
@[simp] theorem State.setBist_free (s : State) (f : Bist → Bist) : (s.setBist f).free = s.free := rfl
@[simp] theorem State.setBist_snapAt (s : State) (f : Bist → Bist) : (s.setBist f).snapAt = s.snapAt := rfl
@[simp] theorem State.setBist_hwSet (s : State) (f : Bist → Bist) : (s.setBist f).hwSet = s.hwSet := rfl
@[simp] theorem State.setBist_claims (s : State) (f : Bist → Bist) : (s.setBist f).claims = s.claims := rfl
@[simp] theorem State.setBist_jigCmds (s : State) (f : Bist → Bist) : (s.setBist f).jigCmds = s.jigCmds := rfl
@[simp] theorem State.setBist_was (s : State) (f : Bist → Bist) : (s.setBist f).was = s.was := rfl
@[simp] theorem State.setBist_roleMnt (s : State) (f : Bist → Bist) : (s.setBist f).roleMnt = s.roleMnt := rfl
@[simp] theorem State.setColl_pending (s : State) (f : Collector → Collector) : (s.setColl f).pending = s.pending := rfl
@[simp] theorem State.setColl_now (s : State) (f : Collector → Collector) : (s.setColl f).now = s.now := rfl
@[simp] theorem State.setColl_sys (s : State) (f : Collector → Collector) : (s.setColl f).sys = s.sys := rfl
@[simp] theorem State.setColl_ao (s : State) (f : Collector → Collector) : (s.setColl f).ao = s.ao := rfl
@[simp] theorem State.setColl_otp (s : State) (f : Collector → Collector) : (s.setColl f).otp = s.otp := rfl
@[simp] theorem State.setColl_regs (s : State) (f : Collector → Collector) : (s.setColl f).regs = s.regs := rfl
@[simp] theorem State.setColl_mem (s : State) (f : Collector → Collector) : (s.setColl f).mem = s.mem := rfl
@[simp] theorem State.setColl_links (s : State) (f : Collector → Collector) : (s.setColl f).links = s.links := rfl
@[simp] theorem State.setColl_whl (s : State) (f : Collector → Collector) : (s.setColl f).whl = s.whl := rfl
@[simp] theorem State.setColl_prd (s : State) (f : Collector → Collector) : (s.setColl f).prd = s.prd := rfl
@[simp] theorem State.setColl_clu (s : State) (f : Collector → Collector) : (s.setColl f).clu = s.clu := rfl
@[simp] theorem State.setColl_work (s : State) (f : Collector → Collector) : (s.setColl f).work = s.work := rfl
@[simp] theorem State.setColl_take (s : State) (f : Collector → Collector) : (s.setColl f).take = s.take := rfl
@[simp] theorem State.setColl_edg (s : State) (f : Collector → Collector) : (s.setColl f).edg = s.edg := rfl
@[simp] theorem State.setColl_drv (s : State) (f : Collector → Collector) : (s.setColl f).drv = s.drv := rfl
@[simp] theorem State.setColl_ms (s : State) (f : Collector → Collector) : (s.setColl f).ms = s.ms := rfl
@[simp] theorem State.setColl_trc (s : State) (f : Collector → Collector) : (s.setColl f).trc = s.trc := rfl
@[simp] theorem State.setColl_jig (s : State) (f : Collector → Collector) : (s.setColl f).jig = s.jig := rfl
@[simp] theorem State.setColl_tmr (s : State) (f : Collector → Collector) : (s.setColl f).tmr = s.tmr := rfl
@[simp] theorem State.setColl_snapSeq (s : State) (f : Collector → Collector) : (s.setColl f).snapSeq = s.snapSeq := rfl
@[simp] theorem State.setColl_tmrOvrSent (s : State) (f : Collector → Collector) : (s.setColl f).tmrOvrSent = s.tmrOvrSent := rfl
@[simp] theorem State.setColl_svc (s : State) (f : Collector → Collector) : (s.setColl f).svc = s.svc := rfl
@[simp] theorem State.setColl_fab (s : State) (f : Collector → Collector) : (s.setColl f).fab = s.fab := rfl
@[simp] theorem State.setColl_host (s : State) (f : Collector → Collector) : (s.setColl f).host = s.host := rfl
@[simp] theorem State.setColl_mnt (s : State) (f : Collector → Collector) : (s.setColl f).mnt = s.mnt := rfl
@[simp] theorem State.setColl_readers (s : State) (f : Collector → Collector) : (s.setColl f).readers = s.readers := rfl
@[simp] theorem State.setColl_bist (s : State) (f : Collector → Collector) : (s.setColl f).bist = s.bist := rfl
@[simp] theorem State.setColl_inj (s : State) (f : Collector → Collector) : (s.setColl f).inj = s.inj := rfl
@[simp] theorem State.setColl_pins (s : State) (f : Collector → Collector) : (s.setColl f).pins = s.pins := rfl
@[simp] theorem State.setColl_free (s : State) (f : Collector → Collector) : (s.setColl f).free = s.free := rfl
@[simp] theorem State.setColl_snapAt (s : State) (f : Collector → Collector) : (s.setColl f).snapAt = s.snapAt := rfl
@[simp] theorem State.setColl_hwSet (s : State) (f : Collector → Collector) : (s.setColl f).hwSet = s.hwSet := rfl
@[simp] theorem State.setColl_claims (s : State) (f : Collector → Collector) : (s.setColl f).claims = s.claims := rfl
@[simp] theorem State.setColl_jigCmds (s : State) (f : Collector → Collector) : (s.setColl f).jigCmds = s.jigCmds := rfl
@[simp] theorem State.setColl_was (s : State) (f : Collector → Collector) : (s.setColl f).was = s.was := rfl
@[simp] theorem State.setColl_roleMnt (s : State) (f : Collector → Collector) : (s.setColl f).roleMnt = s.roleMnt := rfl
@[simp] theorem State.setWork_pending (s : State) (w : Fin 9) (f : Work → Work) : (s.setWork w f).pending = s.pending := rfl
@[simp] theorem State.setWork_now (s : State) (w : Fin 9) (f : Work → Work) : (s.setWork w f).now = s.now := rfl
@[simp] theorem State.setWork_sys (s : State) (w : Fin 9) (f : Work → Work) : (s.setWork w f).sys = s.sys := rfl
@[simp] theorem State.setWork_ao (s : State) (w : Fin 9) (f : Work → Work) : (s.setWork w f).ao = s.ao := rfl
@[simp] theorem State.setWork_otp (s : State) (w : Fin 9) (f : Work → Work) : (s.setWork w f).otp = s.otp := rfl
@[simp] theorem State.setWork_regs (s : State) (w : Fin 9) (f : Work → Work) : (s.setWork w f).regs = s.regs := rfl
@[simp] theorem State.setWork_mem (s : State) (w : Fin 9) (f : Work → Work) : (s.setWork w f).mem = s.mem := rfl
@[simp] theorem State.setWork_coll (s : State) (w : Fin 9) (f : Work → Work) : (s.setWork w f).coll = s.coll := rfl
@[simp] theorem State.setWork_links (s : State) (w : Fin 9) (f : Work → Work) : (s.setWork w f).links = s.links := rfl
@[simp] theorem State.setWork_whl (s : State) (w : Fin 9) (f : Work → Work) : (s.setWork w f).whl = s.whl := rfl
@[simp] theorem State.setWork_prd (s : State) (w : Fin 9) (f : Work → Work) : (s.setWork w f).prd = s.prd := rfl
@[simp] theorem State.setWork_clu (s : State) (w : Fin 9) (f : Work → Work) : (s.setWork w f).clu = s.clu := rfl
@[simp] theorem State.setWork_take (s : State) (w : Fin 9) (f : Work → Work) : (s.setWork w f).take = s.take := rfl
@[simp] theorem State.setWork_edg (s : State) (w : Fin 9) (f : Work → Work) : (s.setWork w f).edg = s.edg := rfl
@[simp] theorem State.setWork_drv (s : State) (w : Fin 9) (f : Work → Work) : (s.setWork w f).drv = s.drv := rfl
@[simp] theorem State.setWork_ms (s : State) (w : Fin 9) (f : Work → Work) : (s.setWork w f).ms = s.ms := rfl
@[simp] theorem State.setWork_trc (s : State) (w : Fin 9) (f : Work → Work) : (s.setWork w f).trc = s.trc := rfl
@[simp] theorem State.setWork_jig (s : State) (w : Fin 9) (f : Work → Work) : (s.setWork w f).jig = s.jig := rfl
@[simp] theorem State.setWork_tmr (s : State) (w : Fin 9) (f : Work → Work) : (s.setWork w f).tmr = s.tmr := rfl
@[simp] theorem State.setWork_snapSeq (s : State) (w : Fin 9) (f : Work → Work) : (s.setWork w f).snapSeq = s.snapSeq := rfl
@[simp] theorem State.setWork_tmrOvrSent (s : State) (w : Fin 9) (f : Work → Work) : (s.setWork w f).tmrOvrSent = s.tmrOvrSent := rfl
@[simp] theorem State.setWork_svc (s : State) (w : Fin 9) (f : Work → Work) : (s.setWork w f).svc = s.svc := rfl
@[simp] theorem State.setWork_fab (s : State) (w : Fin 9) (f : Work → Work) : (s.setWork w f).fab = s.fab := rfl
@[simp] theorem State.setWork_host (s : State) (w : Fin 9) (f : Work → Work) : (s.setWork w f).host = s.host := rfl
@[simp] theorem State.setWork_mnt (s : State) (w : Fin 9) (f : Work → Work) : (s.setWork w f).mnt = s.mnt := rfl
@[simp] theorem State.setWork_readers (s : State) (w : Fin 9) (f : Work → Work) : (s.setWork w f).readers = s.readers := rfl
@[simp] theorem State.setWork_bist (s : State) (w : Fin 9) (f : Work → Work) : (s.setWork w f).bist = s.bist := rfl
@[simp] theorem State.setWork_inj (s : State) (w : Fin 9) (f : Work → Work) : (s.setWork w f).inj = s.inj := rfl
@[simp] theorem State.setWork_pins (s : State) (w : Fin 9) (f : Work → Work) : (s.setWork w f).pins = s.pins := rfl
@[simp] theorem State.setWork_free (s : State) (w : Fin 9) (f : Work → Work) : (s.setWork w f).free = s.free := rfl
@[simp] theorem State.setWork_snapAt (s : State) (w : Fin 9) (f : Work → Work) : (s.setWork w f).snapAt = s.snapAt := rfl
@[simp] theorem State.setWork_hwSet (s : State) (w : Fin 9) (f : Work → Work) : (s.setWork w f).hwSet = s.hwSet := rfl
@[simp] theorem State.setWork_claims (s : State) (w : Fin 9) (f : Work → Work) : (s.setWork w f).claims = s.claims := rfl
@[simp] theorem State.setWork_jigCmds (s : State) (w : Fin 9) (f : Work → Work) : (s.setWork w f).jigCmds = s.jigCmds := rfl
@[simp] theorem State.setWork_was (s : State) (w : Fin 9) (f : Work → Work) : (s.setWork w f).was = s.was := rfl
@[simp] theorem State.setWork_roleMnt (s : State) (w : Fin 9) (f : Work → Work) : (s.setWork w f).roleMnt = s.roleMnt := rfl
@[simp] theorem State.setClu_pending (s : State) (c : Fin 9) (f : Cluster → Cluster) : (s.setClu c f).pending = s.pending := rfl
@[simp] theorem State.setClu_now (s : State) (c : Fin 9) (f : Cluster → Cluster) : (s.setClu c f).now = s.now := rfl
@[simp] theorem State.setClu_sys (s : State) (c : Fin 9) (f : Cluster → Cluster) : (s.setClu c f).sys = s.sys := rfl
@[simp] theorem State.setClu_ao (s : State) (c : Fin 9) (f : Cluster → Cluster) : (s.setClu c f).ao = s.ao := rfl
@[simp] theorem State.setClu_otp (s : State) (c : Fin 9) (f : Cluster → Cluster) : (s.setClu c f).otp = s.otp := rfl
@[simp] theorem State.setClu_regs (s : State) (c : Fin 9) (f : Cluster → Cluster) : (s.setClu c f).regs = s.regs := rfl
@[simp] theorem State.setClu_mem (s : State) (c : Fin 9) (f : Cluster → Cluster) : (s.setClu c f).mem = s.mem := rfl
@[simp] theorem State.setClu_coll (s : State) (c : Fin 9) (f : Cluster → Cluster) : (s.setClu c f).coll = s.coll := rfl
@[simp] theorem State.setClu_links (s : State) (c : Fin 9) (f : Cluster → Cluster) : (s.setClu c f).links = s.links := rfl
@[simp] theorem State.setClu_whl (s : State) (c : Fin 9) (f : Cluster → Cluster) : (s.setClu c f).whl = s.whl := rfl
@[simp] theorem State.setClu_prd (s : State) (c : Fin 9) (f : Cluster → Cluster) : (s.setClu c f).prd = s.prd := rfl
@[simp] theorem State.setClu_work (s : State) (c : Fin 9) (f : Cluster → Cluster) : (s.setClu c f).work = s.work := rfl
@[simp] theorem State.setClu_take (s : State) (c : Fin 9) (f : Cluster → Cluster) : (s.setClu c f).take = s.take := rfl
@[simp] theorem State.setClu_edg (s : State) (c : Fin 9) (f : Cluster → Cluster) : (s.setClu c f).edg = s.edg := rfl
@[simp] theorem State.setClu_drv (s : State) (c : Fin 9) (f : Cluster → Cluster) : (s.setClu c f).drv = s.drv := rfl
@[simp] theorem State.setClu_ms (s : State) (c : Fin 9) (f : Cluster → Cluster) : (s.setClu c f).ms = s.ms := rfl
@[simp] theorem State.setClu_trc (s : State) (c : Fin 9) (f : Cluster → Cluster) : (s.setClu c f).trc = s.trc := rfl
@[simp] theorem State.setClu_jig (s : State) (c : Fin 9) (f : Cluster → Cluster) : (s.setClu c f).jig = s.jig := rfl
@[simp] theorem State.setClu_tmr (s : State) (c : Fin 9) (f : Cluster → Cluster) : (s.setClu c f).tmr = s.tmr := rfl
@[simp] theorem State.setClu_snapSeq (s : State) (c : Fin 9) (f : Cluster → Cluster) : (s.setClu c f).snapSeq = s.snapSeq := rfl
@[simp] theorem State.setClu_tmrOvrSent (s : State) (c : Fin 9) (f : Cluster → Cluster) : (s.setClu c f).tmrOvrSent = s.tmrOvrSent := rfl
@[simp] theorem State.setClu_svc (s : State) (c : Fin 9) (f : Cluster → Cluster) : (s.setClu c f).svc = s.svc := rfl
@[simp] theorem State.setClu_fab (s : State) (c : Fin 9) (f : Cluster → Cluster) : (s.setClu c f).fab = s.fab := rfl
@[simp] theorem State.setClu_host (s : State) (c : Fin 9) (f : Cluster → Cluster) : (s.setClu c f).host = s.host := rfl
@[simp] theorem State.setClu_mnt (s : State) (c : Fin 9) (f : Cluster → Cluster) : (s.setClu c f).mnt = s.mnt := rfl
@[simp] theorem State.setClu_readers (s : State) (c : Fin 9) (f : Cluster → Cluster) : (s.setClu c f).readers = s.readers := rfl
@[simp] theorem State.setClu_bist (s : State) (c : Fin 9) (f : Cluster → Cluster) : (s.setClu c f).bist = s.bist := rfl
@[simp] theorem State.setClu_inj (s : State) (c : Fin 9) (f : Cluster → Cluster) : (s.setClu c f).inj = s.inj := rfl
@[simp] theorem State.setClu_pins (s : State) (c : Fin 9) (f : Cluster → Cluster) : (s.setClu c f).pins = s.pins := rfl
@[simp] theorem State.setClu_free (s : State) (c : Fin 9) (f : Cluster → Cluster) : (s.setClu c f).free = s.free := rfl
@[simp] theorem State.setClu_snapAt (s : State) (c : Fin 9) (f : Cluster → Cluster) : (s.setClu c f).snapAt = s.snapAt := rfl
@[simp] theorem State.setClu_hwSet (s : State) (c : Fin 9) (f : Cluster → Cluster) : (s.setClu c f).hwSet = s.hwSet := rfl
@[simp] theorem State.setClu_claims (s : State) (c : Fin 9) (f : Cluster → Cluster) : (s.setClu c f).claims = s.claims := rfl
@[simp] theorem State.setClu_jigCmds (s : State) (c : Fin 9) (f : Cluster → Cluster) : (s.setClu c f).jigCmds = s.jigCmds := rfl
@[simp] theorem State.setClu_was (s : State) (c : Fin 9) (f : Cluster → Cluster) : (s.setClu c f).was = s.was := rfl
@[simp] theorem State.setClu_roleMnt (s : State) (c : Fin 9) (f : Cluster → Cluster) : (s.setClu c f).roleMnt = s.roleMnt := rfl
@[simp] theorem State.setCh_pending (s : State) (c : Fin 32) (f : DrvCh → DrvCh) : (s.setCh c f).pending = s.pending := rfl
@[simp] theorem State.setCh_now (s : State) (c : Fin 32) (f : DrvCh → DrvCh) : (s.setCh c f).now = s.now := rfl
@[simp] theorem State.setCh_sys (s : State) (c : Fin 32) (f : DrvCh → DrvCh) : (s.setCh c f).sys = s.sys := rfl
@[simp] theorem State.setCh_ao (s : State) (c : Fin 32) (f : DrvCh → DrvCh) : (s.setCh c f).ao = s.ao := rfl
@[simp] theorem State.setCh_otp (s : State) (c : Fin 32) (f : DrvCh → DrvCh) : (s.setCh c f).otp = s.otp := rfl
@[simp] theorem State.setCh_regs (s : State) (c : Fin 32) (f : DrvCh → DrvCh) : (s.setCh c f).regs = s.regs := rfl
@[simp] theorem State.setCh_mem (s : State) (c : Fin 32) (f : DrvCh → DrvCh) : (s.setCh c f).mem = s.mem := rfl
@[simp] theorem State.setCh_coll (s : State) (c : Fin 32) (f : DrvCh → DrvCh) : (s.setCh c f).coll = s.coll := rfl
@[simp] theorem State.setCh_links (s : State) (c : Fin 32) (f : DrvCh → DrvCh) : (s.setCh c f).links = s.links := rfl
@[simp] theorem State.setCh_whl (s : State) (c : Fin 32) (f : DrvCh → DrvCh) : (s.setCh c f).whl = s.whl := rfl
@[simp] theorem State.setCh_prd (s : State) (c : Fin 32) (f : DrvCh → DrvCh) : (s.setCh c f).prd = s.prd := rfl
@[simp] theorem State.setCh_clu (s : State) (c : Fin 32) (f : DrvCh → DrvCh) : (s.setCh c f).clu = s.clu := rfl
@[simp] theorem State.setCh_work (s : State) (c : Fin 32) (f : DrvCh → DrvCh) : (s.setCh c f).work = s.work := rfl
@[simp] theorem State.setCh_take (s : State) (c : Fin 32) (f : DrvCh → DrvCh) : (s.setCh c f).take = s.take := rfl
@[simp] theorem State.setCh_edg (s : State) (c : Fin 32) (f : DrvCh → DrvCh) : (s.setCh c f).edg = s.edg := rfl
@[simp] theorem State.setCh_ms (s : State) (c : Fin 32) (f : DrvCh → DrvCh) : (s.setCh c f).ms = s.ms := rfl
@[simp] theorem State.setCh_trc (s : State) (c : Fin 32) (f : DrvCh → DrvCh) : (s.setCh c f).trc = s.trc := rfl
@[simp] theorem State.setCh_jig (s : State) (c : Fin 32) (f : DrvCh → DrvCh) : (s.setCh c f).jig = s.jig := rfl
@[simp] theorem State.setCh_tmr (s : State) (c : Fin 32) (f : DrvCh → DrvCh) : (s.setCh c f).tmr = s.tmr := rfl
@[simp] theorem State.setCh_snapSeq (s : State) (c : Fin 32) (f : DrvCh → DrvCh) : (s.setCh c f).snapSeq = s.snapSeq := rfl
@[simp] theorem State.setCh_tmrOvrSent (s : State) (c : Fin 32) (f : DrvCh → DrvCh) : (s.setCh c f).tmrOvrSent = s.tmrOvrSent := rfl
@[simp] theorem State.setCh_svc (s : State) (c : Fin 32) (f : DrvCh → DrvCh) : (s.setCh c f).svc = s.svc := rfl
@[simp] theorem State.setCh_fab (s : State) (c : Fin 32) (f : DrvCh → DrvCh) : (s.setCh c f).fab = s.fab := rfl
@[simp] theorem State.setCh_host (s : State) (c : Fin 32) (f : DrvCh → DrvCh) : (s.setCh c f).host = s.host := rfl
@[simp] theorem State.setCh_mnt (s : State) (c : Fin 32) (f : DrvCh → DrvCh) : (s.setCh c f).mnt = s.mnt := rfl
@[simp] theorem State.setCh_readers (s : State) (c : Fin 32) (f : DrvCh → DrvCh) : (s.setCh c f).readers = s.readers := rfl
@[simp] theorem State.setCh_bist (s : State) (c : Fin 32) (f : DrvCh → DrvCh) : (s.setCh c f).bist = s.bist := rfl
@[simp] theorem State.setCh_inj (s : State) (c : Fin 32) (f : DrvCh → DrvCh) : (s.setCh c f).inj = s.inj := rfl
@[simp] theorem State.setCh_pins (s : State) (c : Fin 32) (f : DrvCh → DrvCh) : (s.setCh c f).pins = s.pins := rfl
@[simp] theorem State.setCh_free (s : State) (c : Fin 32) (f : DrvCh → DrvCh) : (s.setCh c f).free = s.free := rfl
@[simp] theorem State.setCh_snapAt (s : State) (c : Fin 32) (f : DrvCh → DrvCh) : (s.setCh c f).snapAt = s.snapAt := rfl
@[simp] theorem State.setCh_hwSet (s : State) (c : Fin 32) (f : DrvCh → DrvCh) : (s.setCh c f).hwSet = s.hwSet := rfl
@[simp] theorem State.setCh_claims (s : State) (c : Fin 32) (f : DrvCh → DrvCh) : (s.setCh c f).claims = s.claims := rfl
@[simp] theorem State.setCh_jigCmds (s : State) (c : Fin 32) (f : DrvCh → DrvCh) : (s.setCh c f).jigCmds = s.jigCmds := rfl
@[simp] theorem State.setCh_was (s : State) (c : Fin 32) (f : DrvCh → DrvCh) : (s.setCh c f).was = s.was := rfl
@[simp] theorem State.setCh_roleMnt (s : State) (c : Fin 32) (f : DrvCh → DrvCh) : (s.setCh c f).roleMnt = s.roleMnt := rfl
@[simp] theorem State.setBank_pending (s : State) (b : Fin 8) (f : Bank → Bank) : (s.setBank b f).pending = s.pending := rfl
@[simp] theorem State.setBank_now (s : State) (b : Fin 8) (f : Bank → Bank) : (s.setBank b f).now = s.now := rfl
@[simp] theorem State.setBank_sys (s : State) (b : Fin 8) (f : Bank → Bank) : (s.setBank b f).sys = s.sys := rfl
@[simp] theorem State.setBank_ao (s : State) (b : Fin 8) (f : Bank → Bank) : (s.setBank b f).ao = s.ao := rfl
@[simp] theorem State.setBank_otp (s : State) (b : Fin 8) (f : Bank → Bank) : (s.setBank b f).otp = s.otp := rfl
@[simp] theorem State.setBank_regs (s : State) (b : Fin 8) (f : Bank → Bank) : (s.setBank b f).regs = s.regs := rfl
@[simp] theorem State.setBank_mem (s : State) (b : Fin 8) (f : Bank → Bank) : (s.setBank b f).mem = s.mem := rfl
@[simp] theorem State.setBank_coll (s : State) (b : Fin 8) (f : Bank → Bank) : (s.setBank b f).coll = s.coll := rfl
@[simp] theorem State.setBank_links (s : State) (b : Fin 8) (f : Bank → Bank) : (s.setBank b f).links = s.links := rfl
@[simp] theorem State.setBank_whl (s : State) (b : Fin 8) (f : Bank → Bank) : (s.setBank b f).whl = s.whl := rfl
@[simp] theorem State.setBank_prd (s : State) (b : Fin 8) (f : Bank → Bank) : (s.setBank b f).prd = s.prd := rfl
@[simp] theorem State.setBank_clu (s : State) (b : Fin 8) (f : Bank → Bank) : (s.setBank b f).clu = s.clu := rfl
@[simp] theorem State.setBank_work (s : State) (b : Fin 8) (f : Bank → Bank) : (s.setBank b f).work = s.work := rfl
@[simp] theorem State.setBank_take (s : State) (b : Fin 8) (f : Bank → Bank) : (s.setBank b f).take = s.take := rfl
@[simp] theorem State.setBank_edg (s : State) (b : Fin 8) (f : Bank → Bank) : (s.setBank b f).edg = s.edg := rfl
@[simp] theorem State.setBank_ms (s : State) (b : Fin 8) (f : Bank → Bank) : (s.setBank b f).ms = s.ms := rfl
@[simp] theorem State.setBank_trc (s : State) (b : Fin 8) (f : Bank → Bank) : (s.setBank b f).trc = s.trc := rfl
@[simp] theorem State.setBank_jig (s : State) (b : Fin 8) (f : Bank → Bank) : (s.setBank b f).jig = s.jig := rfl
@[simp] theorem State.setBank_tmr (s : State) (b : Fin 8) (f : Bank → Bank) : (s.setBank b f).tmr = s.tmr := rfl
@[simp] theorem State.setBank_snapSeq (s : State) (b : Fin 8) (f : Bank → Bank) : (s.setBank b f).snapSeq = s.snapSeq := rfl
@[simp] theorem State.setBank_tmrOvrSent (s : State) (b : Fin 8) (f : Bank → Bank) : (s.setBank b f).tmrOvrSent = s.tmrOvrSent := rfl
@[simp] theorem State.setBank_svc (s : State) (b : Fin 8) (f : Bank → Bank) : (s.setBank b f).svc = s.svc := rfl
@[simp] theorem State.setBank_fab (s : State) (b : Fin 8) (f : Bank → Bank) : (s.setBank b f).fab = s.fab := rfl
@[simp] theorem State.setBank_host (s : State) (b : Fin 8) (f : Bank → Bank) : (s.setBank b f).host = s.host := rfl
@[simp] theorem State.setBank_mnt (s : State) (b : Fin 8) (f : Bank → Bank) : (s.setBank b f).mnt = s.mnt := rfl
@[simp] theorem State.setBank_readers (s : State) (b : Fin 8) (f : Bank → Bank) : (s.setBank b f).readers = s.readers := rfl
@[simp] theorem State.setBank_bist (s : State) (b : Fin 8) (f : Bank → Bank) : (s.setBank b f).bist = s.bist := rfl
@[simp] theorem State.setBank_inj (s : State) (b : Fin 8) (f : Bank → Bank) : (s.setBank b f).inj = s.inj := rfl
@[simp] theorem State.setBank_pins (s : State) (b : Fin 8) (f : Bank → Bank) : (s.setBank b f).pins = s.pins := rfl
@[simp] theorem State.setBank_free (s : State) (b : Fin 8) (f : Bank → Bank) : (s.setBank b f).free = s.free := rfl
@[simp] theorem State.setBank_snapAt (s : State) (b : Fin 8) (f : Bank → Bank) : (s.setBank b f).snapAt = s.snapAt := rfl
@[simp] theorem State.setBank_hwSet (s : State) (b : Fin 8) (f : Bank → Bank) : (s.setBank b f).hwSet = s.hwSet := rfl
@[simp] theorem State.setBank_claims (s : State) (b : Fin 8) (f : Bank → Bank) : (s.setBank b f).claims = s.claims := rfl
@[simp] theorem State.setBank_jigCmds (s : State) (b : Fin 8) (f : Bank → Bank) : (s.setBank b f).jigCmds = s.jigCmds := rfl
@[simp] theorem State.setBank_was (s : State) (b : Fin 8) (f : Bank → Bank) : (s.setBank b f).was = s.was := rfl
@[simp] theorem State.setBank_roleMnt (s : State) (b : Fin 8) (f : Bank → Bank) : (s.setBank b f).roleMnt = s.roleMnt := rfl
@[simp] theorem State.setBst_pending (s : State) (k : Fin 2) (f : Boost → Boost) : (s.setBst k f).pending = s.pending := rfl
@[simp] theorem State.setBst_now (s : State) (k : Fin 2) (f : Boost → Boost) : (s.setBst k f).now = s.now := rfl
@[simp] theorem State.setBst_sys (s : State) (k : Fin 2) (f : Boost → Boost) : (s.setBst k f).sys = s.sys := rfl
@[simp] theorem State.setBst_ao (s : State) (k : Fin 2) (f : Boost → Boost) : (s.setBst k f).ao = s.ao := rfl
@[simp] theorem State.setBst_otp (s : State) (k : Fin 2) (f : Boost → Boost) : (s.setBst k f).otp = s.otp := rfl
@[simp] theorem State.setBst_regs (s : State) (k : Fin 2) (f : Boost → Boost) : (s.setBst k f).regs = s.regs := rfl
@[simp] theorem State.setBst_mem (s : State) (k : Fin 2) (f : Boost → Boost) : (s.setBst k f).mem = s.mem := rfl
@[simp] theorem State.setBst_coll (s : State) (k : Fin 2) (f : Boost → Boost) : (s.setBst k f).coll = s.coll := rfl
@[simp] theorem State.setBst_links (s : State) (k : Fin 2) (f : Boost → Boost) : (s.setBst k f).links = s.links := rfl
@[simp] theorem State.setBst_whl (s : State) (k : Fin 2) (f : Boost → Boost) : (s.setBst k f).whl = s.whl := rfl
@[simp] theorem State.setBst_prd (s : State) (k : Fin 2) (f : Boost → Boost) : (s.setBst k f).prd = s.prd := rfl
@[simp] theorem State.setBst_clu (s : State) (k : Fin 2) (f : Boost → Boost) : (s.setBst k f).clu = s.clu := rfl
@[simp] theorem State.setBst_work (s : State) (k : Fin 2) (f : Boost → Boost) : (s.setBst k f).work = s.work := rfl
@[simp] theorem State.setBst_take (s : State) (k : Fin 2) (f : Boost → Boost) : (s.setBst k f).take = s.take := rfl
@[simp] theorem State.setBst_edg (s : State) (k : Fin 2) (f : Boost → Boost) : (s.setBst k f).edg = s.edg := rfl
@[simp] theorem State.setBst_ms (s : State) (k : Fin 2) (f : Boost → Boost) : (s.setBst k f).ms = s.ms := rfl
@[simp] theorem State.setBst_trc (s : State) (k : Fin 2) (f : Boost → Boost) : (s.setBst k f).trc = s.trc := rfl
@[simp] theorem State.setBst_jig (s : State) (k : Fin 2) (f : Boost → Boost) : (s.setBst k f).jig = s.jig := rfl
@[simp] theorem State.setBst_tmr (s : State) (k : Fin 2) (f : Boost → Boost) : (s.setBst k f).tmr = s.tmr := rfl
@[simp] theorem State.setBst_snapSeq (s : State) (k : Fin 2) (f : Boost → Boost) : (s.setBst k f).snapSeq = s.snapSeq := rfl
@[simp] theorem State.setBst_tmrOvrSent (s : State) (k : Fin 2) (f : Boost → Boost) : (s.setBst k f).tmrOvrSent = s.tmrOvrSent := rfl
@[simp] theorem State.setBst_svc (s : State) (k : Fin 2) (f : Boost → Boost) : (s.setBst k f).svc = s.svc := rfl
@[simp] theorem State.setBst_fab (s : State) (k : Fin 2) (f : Boost → Boost) : (s.setBst k f).fab = s.fab := rfl
@[simp] theorem State.setBst_host (s : State) (k : Fin 2) (f : Boost → Boost) : (s.setBst k f).host = s.host := rfl
@[simp] theorem State.setBst_mnt (s : State) (k : Fin 2) (f : Boost → Boost) : (s.setBst k f).mnt = s.mnt := rfl
@[simp] theorem State.setBst_readers (s : State) (k : Fin 2) (f : Boost → Boost) : (s.setBst k f).readers = s.readers := rfl
@[simp] theorem State.setBst_bist (s : State) (k : Fin 2) (f : Boost → Boost) : (s.setBst k f).bist = s.bist := rfl
@[simp] theorem State.setBst_inj (s : State) (k : Fin 2) (f : Boost → Boost) : (s.setBst k f).inj = s.inj := rfl
@[simp] theorem State.setBst_pins (s : State) (k : Fin 2) (f : Boost → Boost) : (s.setBst k f).pins = s.pins := rfl
@[simp] theorem State.setBst_free (s : State) (k : Fin 2) (f : Boost → Boost) : (s.setBst k f).free = s.free := rfl
@[simp] theorem State.setBst_snapAt (s : State) (k : Fin 2) (f : Boost → Boost) : (s.setBst k f).snapAt = s.snapAt := rfl
@[simp] theorem State.setBst_hwSet (s : State) (k : Fin 2) (f : Boost → Boost) : (s.setBst k f).hwSet = s.hwSet := rfl
@[simp] theorem State.setBst_claims (s : State) (k : Fin 2) (f : Boost → Boost) : (s.setBst k f).claims = s.claims := rfl
@[simp] theorem State.setBst_jigCmds (s : State) (k : Fin 2) (f : Boost → Boost) : (s.setBst k f).jigCmds = s.jigCmds := rfl
@[simp] theorem State.setBst_was (s : State) (k : Fin 2) (f : Boost → Boost) : (s.setBst k f).was = s.was := rfl
@[simp] theorem State.setBst_roleMnt (s : State) (k : Fin 2) (f : Boost → Boost) : (s.setBst k f).roleMnt = s.roleMnt := rfl
@[simp] theorem State.setDIgn_pending (s : State) (n : Fin 24) (f : DrvIgn → DrvIgn) : (s.setDIgn n f).pending = s.pending := rfl
@[simp] theorem State.setDIgn_now (s : State) (n : Fin 24) (f : DrvIgn → DrvIgn) : (s.setDIgn n f).now = s.now := rfl
@[simp] theorem State.setDIgn_sys (s : State) (n : Fin 24) (f : DrvIgn → DrvIgn) : (s.setDIgn n f).sys = s.sys := rfl
@[simp] theorem State.setDIgn_ao (s : State) (n : Fin 24) (f : DrvIgn → DrvIgn) : (s.setDIgn n f).ao = s.ao := rfl
@[simp] theorem State.setDIgn_otp (s : State) (n : Fin 24) (f : DrvIgn → DrvIgn) : (s.setDIgn n f).otp = s.otp := rfl
@[simp] theorem State.setDIgn_regs (s : State) (n : Fin 24) (f : DrvIgn → DrvIgn) : (s.setDIgn n f).regs = s.regs := rfl
@[simp] theorem State.setDIgn_mem (s : State) (n : Fin 24) (f : DrvIgn → DrvIgn) : (s.setDIgn n f).mem = s.mem := rfl
@[simp] theorem State.setDIgn_coll (s : State) (n : Fin 24) (f : DrvIgn → DrvIgn) : (s.setDIgn n f).coll = s.coll := rfl
@[simp] theorem State.setDIgn_links (s : State) (n : Fin 24) (f : DrvIgn → DrvIgn) : (s.setDIgn n f).links = s.links := rfl
@[simp] theorem State.setDIgn_whl (s : State) (n : Fin 24) (f : DrvIgn → DrvIgn) : (s.setDIgn n f).whl = s.whl := rfl
@[simp] theorem State.setDIgn_prd (s : State) (n : Fin 24) (f : DrvIgn → DrvIgn) : (s.setDIgn n f).prd = s.prd := rfl
@[simp] theorem State.setDIgn_clu (s : State) (n : Fin 24) (f : DrvIgn → DrvIgn) : (s.setDIgn n f).clu = s.clu := rfl
@[simp] theorem State.setDIgn_work (s : State) (n : Fin 24) (f : DrvIgn → DrvIgn) : (s.setDIgn n f).work = s.work := rfl
@[simp] theorem State.setDIgn_take (s : State) (n : Fin 24) (f : DrvIgn → DrvIgn) : (s.setDIgn n f).take = s.take := rfl
@[simp] theorem State.setDIgn_edg (s : State) (n : Fin 24) (f : DrvIgn → DrvIgn) : (s.setDIgn n f).edg = s.edg := rfl
@[simp] theorem State.setDIgn_ms (s : State) (n : Fin 24) (f : DrvIgn → DrvIgn) : (s.setDIgn n f).ms = s.ms := rfl
@[simp] theorem State.setDIgn_trc (s : State) (n : Fin 24) (f : DrvIgn → DrvIgn) : (s.setDIgn n f).trc = s.trc := rfl
@[simp] theorem State.setDIgn_jig (s : State) (n : Fin 24) (f : DrvIgn → DrvIgn) : (s.setDIgn n f).jig = s.jig := rfl
@[simp] theorem State.setDIgn_tmr (s : State) (n : Fin 24) (f : DrvIgn → DrvIgn) : (s.setDIgn n f).tmr = s.tmr := rfl
@[simp] theorem State.setDIgn_snapSeq (s : State) (n : Fin 24) (f : DrvIgn → DrvIgn) : (s.setDIgn n f).snapSeq = s.snapSeq := rfl
@[simp] theorem State.setDIgn_tmrOvrSent (s : State) (n : Fin 24) (f : DrvIgn → DrvIgn) : (s.setDIgn n f).tmrOvrSent = s.tmrOvrSent := rfl
@[simp] theorem State.setDIgn_svc (s : State) (n : Fin 24) (f : DrvIgn → DrvIgn) : (s.setDIgn n f).svc = s.svc := rfl
@[simp] theorem State.setDIgn_fab (s : State) (n : Fin 24) (f : DrvIgn → DrvIgn) : (s.setDIgn n f).fab = s.fab := rfl
@[simp] theorem State.setDIgn_host (s : State) (n : Fin 24) (f : DrvIgn → DrvIgn) : (s.setDIgn n f).host = s.host := rfl
@[simp] theorem State.setDIgn_mnt (s : State) (n : Fin 24) (f : DrvIgn → DrvIgn) : (s.setDIgn n f).mnt = s.mnt := rfl
@[simp] theorem State.setDIgn_readers (s : State) (n : Fin 24) (f : DrvIgn → DrvIgn) : (s.setDIgn n f).readers = s.readers := rfl
@[simp] theorem State.setDIgn_bist (s : State) (n : Fin 24) (f : DrvIgn → DrvIgn) : (s.setDIgn n f).bist = s.bist := rfl
@[simp] theorem State.setDIgn_inj (s : State) (n : Fin 24) (f : DrvIgn → DrvIgn) : (s.setDIgn n f).inj = s.inj := rfl
@[simp] theorem State.setDIgn_pins (s : State) (n : Fin 24) (f : DrvIgn → DrvIgn) : (s.setDIgn n f).pins = s.pins := rfl
@[simp] theorem State.setDIgn_free (s : State) (n : Fin 24) (f : DrvIgn → DrvIgn) : (s.setDIgn n f).free = s.free := rfl
@[simp] theorem State.setDIgn_snapAt (s : State) (n : Fin 24) (f : DrvIgn → DrvIgn) : (s.setDIgn n f).snapAt = s.snapAt := rfl
@[simp] theorem State.setDIgn_hwSet (s : State) (n : Fin 24) (f : DrvIgn → DrvIgn) : (s.setDIgn n f).hwSet = s.hwSet := rfl
@[simp] theorem State.setDIgn_claims (s : State) (n : Fin 24) (f : DrvIgn → DrvIgn) : (s.setDIgn n f).claims = s.claims := rfl
@[simp] theorem State.setDIgn_jigCmds (s : State) (n : Fin 24) (f : DrvIgn → DrvIgn) : (s.setDIgn n f).jigCmds = s.jigCmds := rfl
@[simp] theorem State.setDIgn_was (s : State) (n : Fin 24) (f : DrvIgn → DrvIgn) : (s.setDIgn n f).was = s.was := rfl
@[simp] theorem State.setDIgn_roleMnt (s : State) (n : Fin 24) (f : DrvIgn → DrvIgn) : (s.setDIgn n f).roleMnt = s.roleMnt := rfl
@[simp] theorem State.setECh_pending (s : State) (c : Fin 32) (f : EdgeCh → EdgeCh) : (s.setECh c f).pending = s.pending := rfl
@[simp] theorem State.setECh_now (s : State) (c : Fin 32) (f : EdgeCh → EdgeCh) : (s.setECh c f).now = s.now := rfl
@[simp] theorem State.setECh_sys (s : State) (c : Fin 32) (f : EdgeCh → EdgeCh) : (s.setECh c f).sys = s.sys := rfl
@[simp] theorem State.setECh_ao (s : State) (c : Fin 32) (f : EdgeCh → EdgeCh) : (s.setECh c f).ao = s.ao := rfl
@[simp] theorem State.setECh_otp (s : State) (c : Fin 32) (f : EdgeCh → EdgeCh) : (s.setECh c f).otp = s.otp := rfl
@[simp] theorem State.setECh_regs (s : State) (c : Fin 32) (f : EdgeCh → EdgeCh) : (s.setECh c f).regs = s.regs := rfl
@[simp] theorem State.setECh_mem (s : State) (c : Fin 32) (f : EdgeCh → EdgeCh) : (s.setECh c f).mem = s.mem := rfl
@[simp] theorem State.setECh_coll (s : State) (c : Fin 32) (f : EdgeCh → EdgeCh) : (s.setECh c f).coll = s.coll := rfl
@[simp] theorem State.setECh_links (s : State) (c : Fin 32) (f : EdgeCh → EdgeCh) : (s.setECh c f).links = s.links := rfl
@[simp] theorem State.setECh_whl (s : State) (c : Fin 32) (f : EdgeCh → EdgeCh) : (s.setECh c f).whl = s.whl := rfl
@[simp] theorem State.setECh_prd (s : State) (c : Fin 32) (f : EdgeCh → EdgeCh) : (s.setECh c f).prd = s.prd := rfl
@[simp] theorem State.setECh_clu (s : State) (c : Fin 32) (f : EdgeCh → EdgeCh) : (s.setECh c f).clu = s.clu := rfl
@[simp] theorem State.setECh_work (s : State) (c : Fin 32) (f : EdgeCh → EdgeCh) : (s.setECh c f).work = s.work := rfl
@[simp] theorem State.setECh_take (s : State) (c : Fin 32) (f : EdgeCh → EdgeCh) : (s.setECh c f).take = s.take := rfl
@[simp] theorem State.setECh_drv (s : State) (c : Fin 32) (f : EdgeCh → EdgeCh) : (s.setECh c f).drv = s.drv := rfl
@[simp] theorem State.setECh_ms (s : State) (c : Fin 32) (f : EdgeCh → EdgeCh) : (s.setECh c f).ms = s.ms := rfl
@[simp] theorem State.setECh_trc (s : State) (c : Fin 32) (f : EdgeCh → EdgeCh) : (s.setECh c f).trc = s.trc := rfl
@[simp] theorem State.setECh_jig (s : State) (c : Fin 32) (f : EdgeCh → EdgeCh) : (s.setECh c f).jig = s.jig := rfl
@[simp] theorem State.setECh_tmr (s : State) (c : Fin 32) (f : EdgeCh → EdgeCh) : (s.setECh c f).tmr = s.tmr := rfl
@[simp] theorem State.setECh_snapSeq (s : State) (c : Fin 32) (f : EdgeCh → EdgeCh) : (s.setECh c f).snapSeq = s.snapSeq := rfl
@[simp] theorem State.setECh_tmrOvrSent (s : State) (c : Fin 32) (f : EdgeCh → EdgeCh) : (s.setECh c f).tmrOvrSent = s.tmrOvrSent := rfl
@[simp] theorem State.setECh_svc (s : State) (c : Fin 32) (f : EdgeCh → EdgeCh) : (s.setECh c f).svc = s.svc := rfl
@[simp] theorem State.setECh_fab (s : State) (c : Fin 32) (f : EdgeCh → EdgeCh) : (s.setECh c f).fab = s.fab := rfl
@[simp] theorem State.setECh_host (s : State) (c : Fin 32) (f : EdgeCh → EdgeCh) : (s.setECh c f).host = s.host := rfl
@[simp] theorem State.setECh_mnt (s : State) (c : Fin 32) (f : EdgeCh → EdgeCh) : (s.setECh c f).mnt = s.mnt := rfl
@[simp] theorem State.setECh_readers (s : State) (c : Fin 32) (f : EdgeCh → EdgeCh) : (s.setECh c f).readers = s.readers := rfl
@[simp] theorem State.setECh_bist (s : State) (c : Fin 32) (f : EdgeCh → EdgeCh) : (s.setECh c f).bist = s.bist := rfl
@[simp] theorem State.setECh_inj (s : State) (c : Fin 32) (f : EdgeCh → EdgeCh) : (s.setECh c f).inj = s.inj := rfl
@[simp] theorem State.setECh_pins (s : State) (c : Fin 32) (f : EdgeCh → EdgeCh) : (s.setECh c f).pins = s.pins := rfl
@[simp] theorem State.setECh_free (s : State) (c : Fin 32) (f : EdgeCh → EdgeCh) : (s.setECh c f).free = s.free := rfl
@[simp] theorem State.setECh_snapAt (s : State) (c : Fin 32) (f : EdgeCh → EdgeCh) : (s.setECh c f).snapAt = s.snapAt := rfl
@[simp] theorem State.setECh_hwSet (s : State) (c : Fin 32) (f : EdgeCh → EdgeCh) : (s.setECh c f).hwSet = s.hwSet := rfl
@[simp] theorem State.setECh_claims (s : State) (c : Fin 32) (f : EdgeCh → EdgeCh) : (s.setECh c f).claims = s.claims := rfl
@[simp] theorem State.setECh_jigCmds (s : State) (c : Fin 32) (f : EdgeCh → EdgeCh) : (s.setECh c f).jigCmds = s.jigCmds := rfl
@[simp] theorem State.setECh_was (s : State) (c : Fin 32) (f : EdgeCh → EdgeCh) : (s.setECh c f).was = s.was := rfl
@[simp] theorem State.setECh_roleMnt (s : State) (c : Fin 32) (f : EdgeCh → EdgeCh) : (s.setECh c f).roleMnt = s.roleMnt := rfl
@[simp] theorem State.setEIgn_pending (s : State) (n : Fin 24) (f : EdgeIgn → EdgeIgn) : (s.setEIgn n f).pending = s.pending := rfl
@[simp] theorem State.setEIgn_now (s : State) (n : Fin 24) (f : EdgeIgn → EdgeIgn) : (s.setEIgn n f).now = s.now := rfl
@[simp] theorem State.setEIgn_sys (s : State) (n : Fin 24) (f : EdgeIgn → EdgeIgn) : (s.setEIgn n f).sys = s.sys := rfl
@[simp] theorem State.setEIgn_ao (s : State) (n : Fin 24) (f : EdgeIgn → EdgeIgn) : (s.setEIgn n f).ao = s.ao := rfl
@[simp] theorem State.setEIgn_otp (s : State) (n : Fin 24) (f : EdgeIgn → EdgeIgn) : (s.setEIgn n f).otp = s.otp := rfl
@[simp] theorem State.setEIgn_regs (s : State) (n : Fin 24) (f : EdgeIgn → EdgeIgn) : (s.setEIgn n f).regs = s.regs := rfl
@[simp] theorem State.setEIgn_mem (s : State) (n : Fin 24) (f : EdgeIgn → EdgeIgn) : (s.setEIgn n f).mem = s.mem := rfl
@[simp] theorem State.setEIgn_coll (s : State) (n : Fin 24) (f : EdgeIgn → EdgeIgn) : (s.setEIgn n f).coll = s.coll := rfl
@[simp] theorem State.setEIgn_links (s : State) (n : Fin 24) (f : EdgeIgn → EdgeIgn) : (s.setEIgn n f).links = s.links := rfl
@[simp] theorem State.setEIgn_whl (s : State) (n : Fin 24) (f : EdgeIgn → EdgeIgn) : (s.setEIgn n f).whl = s.whl := rfl
@[simp] theorem State.setEIgn_prd (s : State) (n : Fin 24) (f : EdgeIgn → EdgeIgn) : (s.setEIgn n f).prd = s.prd := rfl
@[simp] theorem State.setEIgn_clu (s : State) (n : Fin 24) (f : EdgeIgn → EdgeIgn) : (s.setEIgn n f).clu = s.clu := rfl
@[simp] theorem State.setEIgn_work (s : State) (n : Fin 24) (f : EdgeIgn → EdgeIgn) : (s.setEIgn n f).work = s.work := rfl
@[simp] theorem State.setEIgn_take (s : State) (n : Fin 24) (f : EdgeIgn → EdgeIgn) : (s.setEIgn n f).take = s.take := rfl
@[simp] theorem State.setEIgn_drv (s : State) (n : Fin 24) (f : EdgeIgn → EdgeIgn) : (s.setEIgn n f).drv = s.drv := rfl
@[simp] theorem State.setEIgn_ms (s : State) (n : Fin 24) (f : EdgeIgn → EdgeIgn) : (s.setEIgn n f).ms = s.ms := rfl
@[simp] theorem State.setEIgn_trc (s : State) (n : Fin 24) (f : EdgeIgn → EdgeIgn) : (s.setEIgn n f).trc = s.trc := rfl
@[simp] theorem State.setEIgn_jig (s : State) (n : Fin 24) (f : EdgeIgn → EdgeIgn) : (s.setEIgn n f).jig = s.jig := rfl
@[simp] theorem State.setEIgn_tmr (s : State) (n : Fin 24) (f : EdgeIgn → EdgeIgn) : (s.setEIgn n f).tmr = s.tmr := rfl
@[simp] theorem State.setEIgn_snapSeq (s : State) (n : Fin 24) (f : EdgeIgn → EdgeIgn) : (s.setEIgn n f).snapSeq = s.snapSeq := rfl
@[simp] theorem State.setEIgn_tmrOvrSent (s : State) (n : Fin 24) (f : EdgeIgn → EdgeIgn) : (s.setEIgn n f).tmrOvrSent = s.tmrOvrSent := rfl
@[simp] theorem State.setEIgn_svc (s : State) (n : Fin 24) (f : EdgeIgn → EdgeIgn) : (s.setEIgn n f).svc = s.svc := rfl
@[simp] theorem State.setEIgn_fab (s : State) (n : Fin 24) (f : EdgeIgn → EdgeIgn) : (s.setEIgn n f).fab = s.fab := rfl
@[simp] theorem State.setEIgn_host (s : State) (n : Fin 24) (f : EdgeIgn → EdgeIgn) : (s.setEIgn n f).host = s.host := rfl
@[simp] theorem State.setEIgn_mnt (s : State) (n : Fin 24) (f : EdgeIgn → EdgeIgn) : (s.setEIgn n f).mnt = s.mnt := rfl
@[simp] theorem State.setEIgn_readers (s : State) (n : Fin 24) (f : EdgeIgn → EdgeIgn) : (s.setEIgn n f).readers = s.readers := rfl
@[simp] theorem State.setEIgn_bist (s : State) (n : Fin 24) (f : EdgeIgn → EdgeIgn) : (s.setEIgn n f).bist = s.bist := rfl
@[simp] theorem State.setEIgn_inj (s : State) (n : Fin 24) (f : EdgeIgn → EdgeIgn) : (s.setEIgn n f).inj = s.inj := rfl
@[simp] theorem State.setEIgn_pins (s : State) (n : Fin 24) (f : EdgeIgn → EdgeIgn) : (s.setEIgn n f).pins = s.pins := rfl
@[simp] theorem State.setEIgn_free (s : State) (n : Fin 24) (f : EdgeIgn → EdgeIgn) : (s.setEIgn n f).free = s.free := rfl
@[simp] theorem State.setEIgn_snapAt (s : State) (n : Fin 24) (f : EdgeIgn → EdgeIgn) : (s.setEIgn n f).snapAt = s.snapAt := rfl
@[simp] theorem State.setEIgn_hwSet (s : State) (n : Fin 24) (f : EdgeIgn → EdgeIgn) : (s.setEIgn n f).hwSet = s.hwSet := rfl
@[simp] theorem State.setEIgn_claims (s : State) (n : Fin 24) (f : EdgeIgn → EdgeIgn) : (s.setEIgn n f).claims = s.claims := rfl
@[simp] theorem State.setEIgn_jigCmds (s : State) (n : Fin 24) (f : EdgeIgn → EdgeIgn) : (s.setEIgn n f).jigCmds = s.jigCmds := rfl
@[simp] theorem State.setEIgn_was (s : State) (n : Fin 24) (f : EdgeIgn → EdgeIgn) : (s.setEIgn n f).was = s.was := rfl
@[simp] theorem State.setEIgn_roleMnt (s : State) (n : Fin 24) (f : EdgeIgn → EdgeIgn) : (s.setEIgn n f).roleMnt = s.roleMnt := rfl
@[simp] theorem State.setShot_pending (s : State) (c : Fin 32) (f : Shot → Shot) : (s.setShot c f).pending = s.pending := rfl
@[simp] theorem State.setShot_now (s : State) (c : Fin 32) (f : Shot → Shot) : (s.setShot c f).now = s.now := rfl
@[simp] theorem State.setShot_sys (s : State) (c : Fin 32) (f : Shot → Shot) : (s.setShot c f).sys = s.sys := rfl
@[simp] theorem State.setShot_ao (s : State) (c : Fin 32) (f : Shot → Shot) : (s.setShot c f).ao = s.ao := rfl
@[simp] theorem State.setShot_otp (s : State) (c : Fin 32) (f : Shot → Shot) : (s.setShot c f).otp = s.otp := rfl
@[simp] theorem State.setShot_regs (s : State) (c : Fin 32) (f : Shot → Shot) : (s.setShot c f).regs = s.regs := rfl
@[simp] theorem State.setShot_mem (s : State) (c : Fin 32) (f : Shot → Shot) : (s.setShot c f).mem = s.mem := rfl
@[simp] theorem State.setShot_coll (s : State) (c : Fin 32) (f : Shot → Shot) : (s.setShot c f).coll = s.coll := rfl
@[simp] theorem State.setShot_links (s : State) (c : Fin 32) (f : Shot → Shot) : (s.setShot c f).links = s.links := rfl
@[simp] theorem State.setShot_whl (s : State) (c : Fin 32) (f : Shot → Shot) : (s.setShot c f).whl = s.whl := rfl
@[simp] theorem State.setShot_prd (s : State) (c : Fin 32) (f : Shot → Shot) : (s.setShot c f).prd = s.prd := rfl
@[simp] theorem State.setShot_clu (s : State) (c : Fin 32) (f : Shot → Shot) : (s.setShot c f).clu = s.clu := rfl
@[simp] theorem State.setShot_work (s : State) (c : Fin 32) (f : Shot → Shot) : (s.setShot c f).work = s.work := rfl
@[simp] theorem State.setShot_take (s : State) (c : Fin 32) (f : Shot → Shot) : (s.setShot c f).take = s.take := rfl
@[simp] theorem State.setShot_edg (s : State) (c : Fin 32) (f : Shot → Shot) : (s.setShot c f).edg = s.edg := rfl
@[simp] theorem State.setShot_ms (s : State) (c : Fin 32) (f : Shot → Shot) : (s.setShot c f).ms = s.ms := rfl
@[simp] theorem State.setShot_trc (s : State) (c : Fin 32) (f : Shot → Shot) : (s.setShot c f).trc = s.trc := rfl
@[simp] theorem State.setShot_jig (s : State) (c : Fin 32) (f : Shot → Shot) : (s.setShot c f).jig = s.jig := rfl
@[simp] theorem State.setShot_tmr (s : State) (c : Fin 32) (f : Shot → Shot) : (s.setShot c f).tmr = s.tmr := rfl
@[simp] theorem State.setShot_snapSeq (s : State) (c : Fin 32) (f : Shot → Shot) : (s.setShot c f).snapSeq = s.snapSeq := rfl
@[simp] theorem State.setShot_tmrOvrSent (s : State) (c : Fin 32) (f : Shot → Shot) : (s.setShot c f).tmrOvrSent = s.tmrOvrSent := rfl
@[simp] theorem State.setShot_svc (s : State) (c : Fin 32) (f : Shot → Shot) : (s.setShot c f).svc = s.svc := rfl
@[simp] theorem State.setShot_fab (s : State) (c : Fin 32) (f : Shot → Shot) : (s.setShot c f).fab = s.fab := rfl
@[simp] theorem State.setShot_host (s : State) (c : Fin 32) (f : Shot → Shot) : (s.setShot c f).host = s.host := rfl
@[simp] theorem State.setShot_mnt (s : State) (c : Fin 32) (f : Shot → Shot) : (s.setShot c f).mnt = s.mnt := rfl
@[simp] theorem State.setShot_readers (s : State) (c : Fin 32) (f : Shot → Shot) : (s.setShot c f).readers = s.readers := rfl
@[simp] theorem State.setShot_bist (s : State) (c : Fin 32) (f : Shot → Shot) : (s.setShot c f).bist = s.bist := rfl
@[simp] theorem State.setShot_inj (s : State) (c : Fin 32) (f : Shot → Shot) : (s.setShot c f).inj = s.inj := rfl
@[simp] theorem State.setShot_pins (s : State) (c : Fin 32) (f : Shot → Shot) : (s.setShot c f).pins = s.pins := rfl
@[simp] theorem State.setShot_free (s : State) (c : Fin 32) (f : Shot → Shot) : (s.setShot c f).free = s.free := rfl
@[simp] theorem State.setShot_snapAt (s : State) (c : Fin 32) (f : Shot → Shot) : (s.setShot c f).snapAt = s.snapAt := rfl
@[simp] theorem State.setShot_hwSet (s : State) (c : Fin 32) (f : Shot → Shot) : (s.setShot c f).hwSet = s.hwSet := rfl
@[simp] theorem State.setShot_claims (s : State) (c : Fin 32) (f : Shot → Shot) : (s.setShot c f).claims = s.claims := rfl
@[simp] theorem State.setShot_jigCmds (s : State) (c : Fin 32) (f : Shot → Shot) : (s.setShot c f).jigCmds = s.jigCmds := rfl
@[simp] theorem State.setShot_was (s : State) (c : Fin 32) (f : Shot → Shot) : (s.setShot c f).was = s.was := rfl
@[simp] theorem State.setShot_roleMnt (s : State) (c : Fin 32) (f : Shot → Shot) : (s.setShot c f).roleMnt = s.roleMnt := rfl
@[simp] theorem State.setMod_pending (s : State) (m : Fin 8) (f : Modulator → Modulator) : (s.setMod m f).pending = s.pending := rfl
@[simp] theorem State.setMod_now (s : State) (m : Fin 8) (f : Modulator → Modulator) : (s.setMod m f).now = s.now := rfl
@[simp] theorem State.setMod_sys (s : State) (m : Fin 8) (f : Modulator → Modulator) : (s.setMod m f).sys = s.sys := rfl
@[simp] theorem State.setMod_ao (s : State) (m : Fin 8) (f : Modulator → Modulator) : (s.setMod m f).ao = s.ao := rfl
@[simp] theorem State.setMod_otp (s : State) (m : Fin 8) (f : Modulator → Modulator) : (s.setMod m f).otp = s.otp := rfl
@[simp] theorem State.setMod_regs (s : State) (m : Fin 8) (f : Modulator → Modulator) : (s.setMod m f).regs = s.regs := rfl
@[simp] theorem State.setMod_mem (s : State) (m : Fin 8) (f : Modulator → Modulator) : (s.setMod m f).mem = s.mem := rfl
@[simp] theorem State.setMod_coll (s : State) (m : Fin 8) (f : Modulator → Modulator) : (s.setMod m f).coll = s.coll := rfl
@[simp] theorem State.setMod_links (s : State) (m : Fin 8) (f : Modulator → Modulator) : (s.setMod m f).links = s.links := rfl
@[simp] theorem State.setMod_whl (s : State) (m : Fin 8) (f : Modulator → Modulator) : (s.setMod m f).whl = s.whl := rfl
@[simp] theorem State.setMod_prd (s : State) (m : Fin 8) (f : Modulator → Modulator) : (s.setMod m f).prd = s.prd := rfl
@[simp] theorem State.setMod_clu (s : State) (m : Fin 8) (f : Modulator → Modulator) : (s.setMod m f).clu = s.clu := rfl
@[simp] theorem State.setMod_work (s : State) (m : Fin 8) (f : Modulator → Modulator) : (s.setMod m f).work = s.work := rfl
@[simp] theorem State.setMod_take (s : State) (m : Fin 8) (f : Modulator → Modulator) : (s.setMod m f).take = s.take := rfl
@[simp] theorem State.setMod_edg (s : State) (m : Fin 8) (f : Modulator → Modulator) : (s.setMod m f).edg = s.edg := rfl
@[simp] theorem State.setMod_drv (s : State) (m : Fin 8) (f : Modulator → Modulator) : (s.setMod m f).drv = s.drv := rfl
@[simp] theorem State.setMod_trc (s : State) (m : Fin 8) (f : Modulator → Modulator) : (s.setMod m f).trc = s.trc := rfl
@[simp] theorem State.setMod_jig (s : State) (m : Fin 8) (f : Modulator → Modulator) : (s.setMod m f).jig = s.jig := rfl
@[simp] theorem State.setMod_tmr (s : State) (m : Fin 8) (f : Modulator → Modulator) : (s.setMod m f).tmr = s.tmr := rfl
@[simp] theorem State.setMod_snapSeq (s : State) (m : Fin 8) (f : Modulator → Modulator) : (s.setMod m f).snapSeq = s.snapSeq := rfl
@[simp] theorem State.setMod_tmrOvrSent (s : State) (m : Fin 8) (f : Modulator → Modulator) : (s.setMod m f).tmrOvrSent = s.tmrOvrSent := rfl
@[simp] theorem State.setMod_svc (s : State) (m : Fin 8) (f : Modulator → Modulator) : (s.setMod m f).svc = s.svc := rfl
@[simp] theorem State.setMod_fab (s : State) (m : Fin 8) (f : Modulator → Modulator) : (s.setMod m f).fab = s.fab := rfl
@[simp] theorem State.setMod_host (s : State) (m : Fin 8) (f : Modulator → Modulator) : (s.setMod m f).host = s.host := rfl
@[simp] theorem State.setMod_mnt (s : State) (m : Fin 8) (f : Modulator → Modulator) : (s.setMod m f).mnt = s.mnt := rfl
@[simp] theorem State.setMod_readers (s : State) (m : Fin 8) (f : Modulator → Modulator) : (s.setMod m f).readers = s.readers := rfl
@[simp] theorem State.setMod_bist (s : State) (m : Fin 8) (f : Modulator → Modulator) : (s.setMod m f).bist = s.bist := rfl
@[simp] theorem State.setMod_inj (s : State) (m : Fin 8) (f : Modulator → Modulator) : (s.setMod m f).inj = s.inj := rfl
@[simp] theorem State.setMod_pins (s : State) (m : Fin 8) (f : Modulator → Modulator) : (s.setMod m f).pins = s.pins := rfl
@[simp] theorem State.setMod_free (s : State) (m : Fin 8) (f : Modulator → Modulator) : (s.setMod m f).free = s.free := rfl
@[simp] theorem State.setMod_snapAt (s : State) (m : Fin 8) (f : Modulator → Modulator) : (s.setMod m f).snapAt = s.snapAt := rfl
@[simp] theorem State.setMod_hwSet (s : State) (m : Fin 8) (f : Modulator → Modulator) : (s.setMod m f).hwSet = s.hwSet := rfl
@[simp] theorem State.setMod_claims (s : State) (m : Fin 8) (f : Modulator → Modulator) : (s.setMod m f).claims = s.claims := rfl
@[simp] theorem State.setMod_jigCmds (s : State) (m : Fin 8) (f : Modulator → Modulator) : (s.setMod m f).jigCmds = s.jigCmds := rfl
@[simp] theorem State.setMod_was (s : State) (m : Fin 8) (f : Modulator → Modulator) : (s.setMod m f).was = s.was := rfl
@[simp] theorem State.setMod_roleMnt (s : State) (m : Fin 8) (f : Modulator → Modulator) : (s.setMod m f).roleMnt = s.roleMnt := rfl
@[simp] theorem State.setPair_pending (s : State) (p : Fin 4) (f : Pair → Pair) : (s.setPair p f).pending = s.pending := rfl
@[simp] theorem State.setPair_now (s : State) (p : Fin 4) (f : Pair → Pair) : (s.setPair p f).now = s.now := rfl
@[simp] theorem State.setPair_sys (s : State) (p : Fin 4) (f : Pair → Pair) : (s.setPair p f).sys = s.sys := rfl
@[simp] theorem State.setPair_ao (s : State) (p : Fin 4) (f : Pair → Pair) : (s.setPair p f).ao = s.ao := rfl
@[simp] theorem State.setPair_otp (s : State) (p : Fin 4) (f : Pair → Pair) : (s.setPair p f).otp = s.otp := rfl
@[simp] theorem State.setPair_regs (s : State) (p : Fin 4) (f : Pair → Pair) : (s.setPair p f).regs = s.regs := rfl
@[simp] theorem State.setPair_mem (s : State) (p : Fin 4) (f : Pair → Pair) : (s.setPair p f).mem = s.mem := rfl
@[simp] theorem State.setPair_coll (s : State) (p : Fin 4) (f : Pair → Pair) : (s.setPair p f).coll = s.coll := rfl
@[simp] theorem State.setPair_links (s : State) (p : Fin 4) (f : Pair → Pair) : (s.setPair p f).links = s.links := rfl
@[simp] theorem State.setPair_whl (s : State) (p : Fin 4) (f : Pair → Pair) : (s.setPair p f).whl = s.whl := rfl
@[simp] theorem State.setPair_prd (s : State) (p : Fin 4) (f : Pair → Pair) : (s.setPair p f).prd = s.prd := rfl
@[simp] theorem State.setPair_clu (s : State) (p : Fin 4) (f : Pair → Pair) : (s.setPair p f).clu = s.clu := rfl
@[simp] theorem State.setPair_work (s : State) (p : Fin 4) (f : Pair → Pair) : (s.setPair p f).work = s.work := rfl
@[simp] theorem State.setPair_take (s : State) (p : Fin 4) (f : Pair → Pair) : (s.setPair p f).take = s.take := rfl
@[simp] theorem State.setPair_edg (s : State) (p : Fin 4) (f : Pair → Pair) : (s.setPair p f).edg = s.edg := rfl
@[simp] theorem State.setPair_drv (s : State) (p : Fin 4) (f : Pair → Pair) : (s.setPair p f).drv = s.drv := rfl
@[simp] theorem State.setPair_trc (s : State) (p : Fin 4) (f : Pair → Pair) : (s.setPair p f).trc = s.trc := rfl
@[simp] theorem State.setPair_jig (s : State) (p : Fin 4) (f : Pair → Pair) : (s.setPair p f).jig = s.jig := rfl
@[simp] theorem State.setPair_tmr (s : State) (p : Fin 4) (f : Pair → Pair) : (s.setPair p f).tmr = s.tmr := rfl
@[simp] theorem State.setPair_snapSeq (s : State) (p : Fin 4) (f : Pair → Pair) : (s.setPair p f).snapSeq = s.snapSeq := rfl
@[simp] theorem State.setPair_tmrOvrSent (s : State) (p : Fin 4) (f : Pair → Pair) : (s.setPair p f).tmrOvrSent = s.tmrOvrSent := rfl
@[simp] theorem State.setPair_svc (s : State) (p : Fin 4) (f : Pair → Pair) : (s.setPair p f).svc = s.svc := rfl
@[simp] theorem State.setPair_fab (s : State) (p : Fin 4) (f : Pair → Pair) : (s.setPair p f).fab = s.fab := rfl
@[simp] theorem State.setPair_host (s : State) (p : Fin 4) (f : Pair → Pair) : (s.setPair p f).host = s.host := rfl
@[simp] theorem State.setPair_mnt (s : State) (p : Fin 4) (f : Pair → Pair) : (s.setPair p f).mnt = s.mnt := rfl
@[simp] theorem State.setPair_readers (s : State) (p : Fin 4) (f : Pair → Pair) : (s.setPair p f).readers = s.readers := rfl
@[simp] theorem State.setPair_bist (s : State) (p : Fin 4) (f : Pair → Pair) : (s.setPair p f).bist = s.bist := rfl
@[simp] theorem State.setPair_inj (s : State) (p : Fin 4) (f : Pair → Pair) : (s.setPair p f).inj = s.inj := rfl
@[simp] theorem State.setPair_pins (s : State) (p : Fin 4) (f : Pair → Pair) : (s.setPair p f).pins = s.pins := rfl
@[simp] theorem State.setPair_free (s : State) (p : Fin 4) (f : Pair → Pair) : (s.setPair p f).free = s.free := rfl
@[simp] theorem State.setPair_snapAt (s : State) (p : Fin 4) (f : Pair → Pair) : (s.setPair p f).snapAt = s.snapAt := rfl
@[simp] theorem State.setPair_hwSet (s : State) (p : Fin 4) (f : Pair → Pair) : (s.setPair p f).hwSet = s.hwSet := rfl
@[simp] theorem State.setPair_claims (s : State) (p : Fin 4) (f : Pair → Pair) : (s.setPair p f).claims = s.claims := rfl
@[simp] theorem State.setPair_jigCmds (s : State) (p : Fin 4) (f : Pair → Pair) : (s.setPair p f).jigCmds = s.jigCmds := rfl
@[simp] theorem State.setPair_was (s : State) (p : Fin 4) (f : Pair → Pair) : (s.setPair p f).was = s.was := rfl
@[simp] theorem State.setPair_roleMnt (s : State) (p : Fin 4) (f : Pair → Pair) : (s.setPair p f).roleMnt = s.roleMnt := rfl
@[simp] theorem State.setWin_pending (s : State) (w : Fin 16) (f : Window → Window) : (s.setWin w f).pending = s.pending := rfl
@[simp] theorem State.setWin_now (s : State) (w : Fin 16) (f : Window → Window) : (s.setWin w f).now = s.now := rfl
@[simp] theorem State.setWin_sys (s : State) (w : Fin 16) (f : Window → Window) : (s.setWin w f).sys = s.sys := rfl
@[simp] theorem State.setWin_ao (s : State) (w : Fin 16) (f : Window → Window) : (s.setWin w f).ao = s.ao := rfl
@[simp] theorem State.setWin_otp (s : State) (w : Fin 16) (f : Window → Window) : (s.setWin w f).otp = s.otp := rfl
@[simp] theorem State.setWin_regs (s : State) (w : Fin 16) (f : Window → Window) : (s.setWin w f).regs = s.regs := rfl
@[simp] theorem State.setWin_mem (s : State) (w : Fin 16) (f : Window → Window) : (s.setWin w f).mem = s.mem := rfl
@[simp] theorem State.setWin_coll (s : State) (w : Fin 16) (f : Window → Window) : (s.setWin w f).coll = s.coll := rfl
@[simp] theorem State.setWin_links (s : State) (w : Fin 16) (f : Window → Window) : (s.setWin w f).links = s.links := rfl
@[simp] theorem State.setWin_whl (s : State) (w : Fin 16) (f : Window → Window) : (s.setWin w f).whl = s.whl := rfl
@[simp] theorem State.setWin_prd (s : State) (w : Fin 16) (f : Window → Window) : (s.setWin w f).prd = s.prd := rfl
@[simp] theorem State.setWin_clu (s : State) (w : Fin 16) (f : Window → Window) : (s.setWin w f).clu = s.clu := rfl
@[simp] theorem State.setWin_work (s : State) (w : Fin 16) (f : Window → Window) : (s.setWin w f).work = s.work := rfl
@[simp] theorem State.setWin_take (s : State) (w : Fin 16) (f : Window → Window) : (s.setWin w f).take = s.take := rfl
@[simp] theorem State.setWin_edg (s : State) (w : Fin 16) (f : Window → Window) : (s.setWin w f).edg = s.edg := rfl
@[simp] theorem State.setWin_drv (s : State) (w : Fin 16) (f : Window → Window) : (s.setWin w f).drv = s.drv := rfl
@[simp] theorem State.setWin_trc (s : State) (w : Fin 16) (f : Window → Window) : (s.setWin w f).trc = s.trc := rfl
@[simp] theorem State.setWin_jig (s : State) (w : Fin 16) (f : Window → Window) : (s.setWin w f).jig = s.jig := rfl
@[simp] theorem State.setWin_tmr (s : State) (w : Fin 16) (f : Window → Window) : (s.setWin w f).tmr = s.tmr := rfl
@[simp] theorem State.setWin_snapSeq (s : State) (w : Fin 16) (f : Window → Window) : (s.setWin w f).snapSeq = s.snapSeq := rfl
@[simp] theorem State.setWin_tmrOvrSent (s : State) (w : Fin 16) (f : Window → Window) : (s.setWin w f).tmrOvrSent = s.tmrOvrSent := rfl
@[simp] theorem State.setWin_svc (s : State) (w : Fin 16) (f : Window → Window) : (s.setWin w f).svc = s.svc := rfl
@[simp] theorem State.setWin_fab (s : State) (w : Fin 16) (f : Window → Window) : (s.setWin w f).fab = s.fab := rfl
@[simp] theorem State.setWin_host (s : State) (w : Fin 16) (f : Window → Window) : (s.setWin w f).host = s.host := rfl
@[simp] theorem State.setWin_mnt (s : State) (w : Fin 16) (f : Window → Window) : (s.setWin w f).mnt = s.mnt := rfl
@[simp] theorem State.setWin_readers (s : State) (w : Fin 16) (f : Window → Window) : (s.setWin w f).readers = s.readers := rfl
@[simp] theorem State.setWin_bist (s : State) (w : Fin 16) (f : Window → Window) : (s.setWin w f).bist = s.bist := rfl
@[simp] theorem State.setWin_inj (s : State) (w : Fin 16) (f : Window → Window) : (s.setWin w f).inj = s.inj := rfl
@[simp] theorem State.setWin_pins (s : State) (w : Fin 16) (f : Window → Window) : (s.setWin w f).pins = s.pins := rfl
@[simp] theorem State.setWin_free (s : State) (w : Fin 16) (f : Window → Window) : (s.setWin w f).free = s.free := rfl
@[simp] theorem State.setWin_snapAt (s : State) (w : Fin 16) (f : Window → Window) : (s.setWin w f).snapAt = s.snapAt := rfl
@[simp] theorem State.setWin_hwSet (s : State) (w : Fin 16) (f : Window → Window) : (s.setWin w f).hwSet = s.hwSet := rfl
@[simp] theorem State.setWin_claims (s : State) (w : Fin 16) (f : Window → Window) : (s.setWin w f).claims = s.claims := rfl
@[simp] theorem State.setWin_jigCmds (s : State) (w : Fin 16) (f : Window → Window) : (s.setWin w f).jigCmds = s.jigCmds := rfl
@[simp] theorem State.setWin_was (s : State) (w : Fin 16) (f : Window → Window) : (s.setWin w f).was = s.was := rfl
@[simp] theorem State.setWin_roleMnt (s : State) (w : Fin 16) (f : Window → Window) : (s.setWin w f).roleMnt = s.roleMnt := rfl
@[simp] theorem State.setGoal_pending (s : State) (g : Fin 16) (f : Goal → Goal) : (s.setGoal g f).pending = s.pending := rfl
@[simp] theorem State.setGoal_now (s : State) (g : Fin 16) (f : Goal → Goal) : (s.setGoal g f).now = s.now := rfl
@[simp] theorem State.setGoal_sys (s : State) (g : Fin 16) (f : Goal → Goal) : (s.setGoal g f).sys = s.sys := rfl
@[simp] theorem State.setGoal_ao (s : State) (g : Fin 16) (f : Goal → Goal) : (s.setGoal g f).ao = s.ao := rfl
@[simp] theorem State.setGoal_otp (s : State) (g : Fin 16) (f : Goal → Goal) : (s.setGoal g f).otp = s.otp := rfl
@[simp] theorem State.setGoal_regs (s : State) (g : Fin 16) (f : Goal → Goal) : (s.setGoal g f).regs = s.regs := rfl
@[simp] theorem State.setGoal_mem (s : State) (g : Fin 16) (f : Goal → Goal) : (s.setGoal g f).mem = s.mem := rfl
@[simp] theorem State.setGoal_coll (s : State) (g : Fin 16) (f : Goal → Goal) : (s.setGoal g f).coll = s.coll := rfl
@[simp] theorem State.setGoal_links (s : State) (g : Fin 16) (f : Goal → Goal) : (s.setGoal g f).links = s.links := rfl
@[simp] theorem State.setGoal_whl (s : State) (g : Fin 16) (f : Goal → Goal) : (s.setGoal g f).whl = s.whl := rfl
@[simp] theorem State.setGoal_prd (s : State) (g : Fin 16) (f : Goal → Goal) : (s.setGoal g f).prd = s.prd := rfl
@[simp] theorem State.setGoal_clu (s : State) (g : Fin 16) (f : Goal → Goal) : (s.setGoal g f).clu = s.clu := rfl
@[simp] theorem State.setGoal_work (s : State) (g : Fin 16) (f : Goal → Goal) : (s.setGoal g f).work = s.work := rfl
@[simp] theorem State.setGoal_take (s : State) (g : Fin 16) (f : Goal → Goal) : (s.setGoal g f).take = s.take := rfl
@[simp] theorem State.setGoal_edg (s : State) (g : Fin 16) (f : Goal → Goal) : (s.setGoal g f).edg = s.edg := rfl
@[simp] theorem State.setGoal_drv (s : State) (g : Fin 16) (f : Goal → Goal) : (s.setGoal g f).drv = s.drv := rfl
@[simp] theorem State.setGoal_trc (s : State) (g : Fin 16) (f : Goal → Goal) : (s.setGoal g f).trc = s.trc := rfl
@[simp] theorem State.setGoal_jig (s : State) (g : Fin 16) (f : Goal → Goal) : (s.setGoal g f).jig = s.jig := rfl
@[simp] theorem State.setGoal_tmr (s : State) (g : Fin 16) (f : Goal → Goal) : (s.setGoal g f).tmr = s.tmr := rfl
@[simp] theorem State.setGoal_snapSeq (s : State) (g : Fin 16) (f : Goal → Goal) : (s.setGoal g f).snapSeq = s.snapSeq := rfl
@[simp] theorem State.setGoal_tmrOvrSent (s : State) (g : Fin 16) (f : Goal → Goal) : (s.setGoal g f).tmrOvrSent = s.tmrOvrSent := rfl
@[simp] theorem State.setGoal_svc (s : State) (g : Fin 16) (f : Goal → Goal) : (s.setGoal g f).svc = s.svc := rfl
@[simp] theorem State.setGoal_fab (s : State) (g : Fin 16) (f : Goal → Goal) : (s.setGoal g f).fab = s.fab := rfl
@[simp] theorem State.setGoal_host (s : State) (g : Fin 16) (f : Goal → Goal) : (s.setGoal g f).host = s.host := rfl
@[simp] theorem State.setGoal_mnt (s : State) (g : Fin 16) (f : Goal → Goal) : (s.setGoal g f).mnt = s.mnt := rfl
@[simp] theorem State.setGoal_readers (s : State) (g : Fin 16) (f : Goal → Goal) : (s.setGoal g f).readers = s.readers := rfl
@[simp] theorem State.setGoal_bist (s : State) (g : Fin 16) (f : Goal → Goal) : (s.setGoal g f).bist = s.bist := rfl
@[simp] theorem State.setGoal_inj (s : State) (g : Fin 16) (f : Goal → Goal) : (s.setGoal g f).inj = s.inj := rfl
@[simp] theorem State.setGoal_pins (s : State) (g : Fin 16) (f : Goal → Goal) : (s.setGoal g f).pins = s.pins := rfl
@[simp] theorem State.setGoal_free (s : State) (g : Fin 16) (f : Goal → Goal) : (s.setGoal g f).free = s.free := rfl
@[simp] theorem State.setGoal_snapAt (s : State) (g : Fin 16) (f : Goal → Goal) : (s.setGoal g f).snapAt = s.snapAt := rfl
@[simp] theorem State.setGoal_hwSet (s : State) (g : Fin 16) (f : Goal → Goal) : (s.setGoal g f).hwSet = s.hwSet := rfl
@[simp] theorem State.setGoal_claims (s : State) (g : Fin 16) (f : Goal → Goal) : (s.setGoal g f).claims = s.claims := rfl
@[simp] theorem State.setGoal_jigCmds (s : State) (g : Fin 16) (f : Goal → Goal) : (s.setGoal g f).jigCmds = s.jigCmds := rfl
@[simp] theorem State.setGoal_was (s : State) (g : Fin 16) (f : Goal → Goal) : (s.setGoal g f).was = s.was := rfl
@[simp] theorem State.setGoal_roleMnt (s : State) (g : Fin 16) (f : Goal → Goal) : (s.setGoal g f).roleMnt = s.roleMnt := rfl
@[simp] theorem State.setReader_pending (s : State) (p : Fin 11) (f : Reader → Reader) : (s.setReader p f).pending = s.pending := rfl
@[simp] theorem State.setReader_now (s : State) (p : Fin 11) (f : Reader → Reader) : (s.setReader p f).now = s.now := rfl
@[simp] theorem State.setReader_sys (s : State) (p : Fin 11) (f : Reader → Reader) : (s.setReader p f).sys = s.sys := rfl
@[simp] theorem State.setReader_ao (s : State) (p : Fin 11) (f : Reader → Reader) : (s.setReader p f).ao = s.ao := rfl
@[simp] theorem State.setReader_otp (s : State) (p : Fin 11) (f : Reader → Reader) : (s.setReader p f).otp = s.otp := rfl
@[simp] theorem State.setReader_regs (s : State) (p : Fin 11) (f : Reader → Reader) : (s.setReader p f).regs = s.regs := rfl
@[simp] theorem State.setReader_mem (s : State) (p : Fin 11) (f : Reader → Reader) : (s.setReader p f).mem = s.mem := rfl
@[simp] theorem State.setReader_coll (s : State) (p : Fin 11) (f : Reader → Reader) : (s.setReader p f).coll = s.coll := rfl
@[simp] theorem State.setReader_links (s : State) (p : Fin 11) (f : Reader → Reader) : (s.setReader p f).links = s.links := rfl
@[simp] theorem State.setReader_whl (s : State) (p : Fin 11) (f : Reader → Reader) : (s.setReader p f).whl = s.whl := rfl
@[simp] theorem State.setReader_prd (s : State) (p : Fin 11) (f : Reader → Reader) : (s.setReader p f).prd = s.prd := rfl
@[simp] theorem State.setReader_clu (s : State) (p : Fin 11) (f : Reader → Reader) : (s.setReader p f).clu = s.clu := rfl
@[simp] theorem State.setReader_work (s : State) (p : Fin 11) (f : Reader → Reader) : (s.setReader p f).work = s.work := rfl
@[simp] theorem State.setReader_take (s : State) (p : Fin 11) (f : Reader → Reader) : (s.setReader p f).take = s.take := rfl
@[simp] theorem State.setReader_edg (s : State) (p : Fin 11) (f : Reader → Reader) : (s.setReader p f).edg = s.edg := rfl
@[simp] theorem State.setReader_drv (s : State) (p : Fin 11) (f : Reader → Reader) : (s.setReader p f).drv = s.drv := rfl
@[simp] theorem State.setReader_ms (s : State) (p : Fin 11) (f : Reader → Reader) : (s.setReader p f).ms = s.ms := rfl
@[simp] theorem State.setReader_trc (s : State) (p : Fin 11) (f : Reader → Reader) : (s.setReader p f).trc = s.trc := rfl
@[simp] theorem State.setReader_jig (s : State) (p : Fin 11) (f : Reader → Reader) : (s.setReader p f).jig = s.jig := rfl
@[simp] theorem State.setReader_tmr (s : State) (p : Fin 11) (f : Reader → Reader) : (s.setReader p f).tmr = s.tmr := rfl
@[simp] theorem State.setReader_snapSeq (s : State) (p : Fin 11) (f : Reader → Reader) : (s.setReader p f).snapSeq = s.snapSeq := rfl
@[simp] theorem State.setReader_tmrOvrSent (s : State) (p : Fin 11) (f : Reader → Reader) : (s.setReader p f).tmrOvrSent = s.tmrOvrSent := rfl
@[simp] theorem State.setReader_svc (s : State) (p : Fin 11) (f : Reader → Reader) : (s.setReader p f).svc = s.svc := rfl
@[simp] theorem State.setReader_fab (s : State) (p : Fin 11) (f : Reader → Reader) : (s.setReader p f).fab = s.fab := rfl
@[simp] theorem State.setReader_host (s : State) (p : Fin 11) (f : Reader → Reader) : (s.setReader p f).host = s.host := rfl
@[simp] theorem State.setReader_mnt (s : State) (p : Fin 11) (f : Reader → Reader) : (s.setReader p f).mnt = s.mnt := rfl
@[simp] theorem State.setReader_bist (s : State) (p : Fin 11) (f : Reader → Reader) : (s.setReader p f).bist = s.bist := rfl
@[simp] theorem State.setReader_inj (s : State) (p : Fin 11) (f : Reader → Reader) : (s.setReader p f).inj = s.inj := rfl
@[simp] theorem State.setReader_pins (s : State) (p : Fin 11) (f : Reader → Reader) : (s.setReader p f).pins = s.pins := rfl
@[simp] theorem State.setReader_free (s : State) (p : Fin 11) (f : Reader → Reader) : (s.setReader p f).free = s.free := rfl
@[simp] theorem State.setReader_snapAt (s : State) (p : Fin 11) (f : Reader → Reader) : (s.setReader p f).snapAt = s.snapAt := rfl
@[simp] theorem State.setReader_hwSet (s : State) (p : Fin 11) (f : Reader → Reader) : (s.setReader p f).hwSet = s.hwSet := rfl
@[simp] theorem State.setReader_claims (s : State) (p : Fin 11) (f : Reader → Reader) : (s.setReader p f).claims = s.claims := rfl
@[simp] theorem State.setReader_jigCmds (s : State) (p : Fin 11) (f : Reader → Reader) : (s.setReader p f).jigCmds = s.jigCmds := rfl
@[simp] theorem State.setReader_was (s : State) (p : Fin 11) (f : Reader → Reader) : (s.setReader p f).was = s.was := rfl
@[simp] theorem State.setReader_roleMnt (s : State) (p : Fin 11) (f : Reader → Reader) : (s.setReader p f).roleMnt = s.roleMnt := rfl
@[simp] theorem State.setJig_pending (s : State) (e : Fin 8) (f : Jig → Jig) : (s.setJig e f).pending = s.pending := rfl
@[simp] theorem State.setJig_now (s : State) (e : Fin 8) (f : Jig → Jig) : (s.setJig e f).now = s.now := rfl
@[simp] theorem State.setJig_sys (s : State) (e : Fin 8) (f : Jig → Jig) : (s.setJig e f).sys = s.sys := rfl
@[simp] theorem State.setJig_ao (s : State) (e : Fin 8) (f : Jig → Jig) : (s.setJig e f).ao = s.ao := rfl
@[simp] theorem State.setJig_otp (s : State) (e : Fin 8) (f : Jig → Jig) : (s.setJig e f).otp = s.otp := rfl
@[simp] theorem State.setJig_regs (s : State) (e : Fin 8) (f : Jig → Jig) : (s.setJig e f).regs = s.regs := rfl
@[simp] theorem State.setJig_mem (s : State) (e : Fin 8) (f : Jig → Jig) : (s.setJig e f).mem = s.mem := rfl
@[simp] theorem State.setJig_coll (s : State) (e : Fin 8) (f : Jig → Jig) : (s.setJig e f).coll = s.coll := rfl
@[simp] theorem State.setJig_links (s : State) (e : Fin 8) (f : Jig → Jig) : (s.setJig e f).links = s.links := rfl
@[simp] theorem State.setJig_whl (s : State) (e : Fin 8) (f : Jig → Jig) : (s.setJig e f).whl = s.whl := rfl
@[simp] theorem State.setJig_prd (s : State) (e : Fin 8) (f : Jig → Jig) : (s.setJig e f).prd = s.prd := rfl
@[simp] theorem State.setJig_clu (s : State) (e : Fin 8) (f : Jig → Jig) : (s.setJig e f).clu = s.clu := rfl
@[simp] theorem State.setJig_work (s : State) (e : Fin 8) (f : Jig → Jig) : (s.setJig e f).work = s.work := rfl
@[simp] theorem State.setJig_take (s : State) (e : Fin 8) (f : Jig → Jig) : (s.setJig e f).take = s.take := rfl
@[simp] theorem State.setJig_edg (s : State) (e : Fin 8) (f : Jig → Jig) : (s.setJig e f).edg = s.edg := rfl
@[simp] theorem State.setJig_drv (s : State) (e : Fin 8) (f : Jig → Jig) : (s.setJig e f).drv = s.drv := rfl
@[simp] theorem State.setJig_ms (s : State) (e : Fin 8) (f : Jig → Jig) : (s.setJig e f).ms = s.ms := rfl
@[simp] theorem State.setJig_trc (s : State) (e : Fin 8) (f : Jig → Jig) : (s.setJig e f).trc = s.trc := rfl
@[simp] theorem State.setJig_tmr (s : State) (e : Fin 8) (f : Jig → Jig) : (s.setJig e f).tmr = s.tmr := rfl
@[simp] theorem State.setJig_snapSeq (s : State) (e : Fin 8) (f : Jig → Jig) : (s.setJig e f).snapSeq = s.snapSeq := rfl
@[simp] theorem State.setJig_tmrOvrSent (s : State) (e : Fin 8) (f : Jig → Jig) : (s.setJig e f).tmrOvrSent = s.tmrOvrSent := rfl
@[simp] theorem State.setJig_svc (s : State) (e : Fin 8) (f : Jig → Jig) : (s.setJig e f).svc = s.svc := rfl
@[simp] theorem State.setJig_fab (s : State) (e : Fin 8) (f : Jig → Jig) : (s.setJig e f).fab = s.fab := rfl
@[simp] theorem State.setJig_host (s : State) (e : Fin 8) (f : Jig → Jig) : (s.setJig e f).host = s.host := rfl
@[simp] theorem State.setJig_mnt (s : State) (e : Fin 8) (f : Jig → Jig) : (s.setJig e f).mnt = s.mnt := rfl
@[simp] theorem State.setJig_readers (s : State) (e : Fin 8) (f : Jig → Jig) : (s.setJig e f).readers = s.readers := rfl
@[simp] theorem State.setJig_bist (s : State) (e : Fin 8) (f : Jig → Jig) : (s.setJig e f).bist = s.bist := rfl
@[simp] theorem State.setJig_inj (s : State) (e : Fin 8) (f : Jig → Jig) : (s.setJig e f).inj = s.inj := rfl
@[simp] theorem State.setJig_pins (s : State) (e : Fin 8) (f : Jig → Jig) : (s.setJig e f).pins = s.pins := rfl
@[simp] theorem State.setJig_free (s : State) (e : Fin 8) (f : Jig → Jig) : (s.setJig e f).free = s.free := rfl
@[simp] theorem State.setJig_snapAt (s : State) (e : Fin 8) (f : Jig → Jig) : (s.setJig e f).snapAt = s.snapAt := rfl
@[simp] theorem State.setJig_hwSet (s : State) (e : Fin 8) (f : Jig → Jig) : (s.setJig e f).hwSet = s.hwSet := rfl
@[simp] theorem State.setJig_claims (s : State) (e : Fin 8) (f : Jig → Jig) : (s.setJig e f).claims = s.claims := rfl
@[simp] theorem State.setJig_jigCmds (s : State) (e : Fin 8) (f : Jig → Jig) : (s.setJig e f).jigCmds = s.jigCmds := rfl
@[simp] theorem State.setJig_was (s : State) (e : Fin 8) (f : Jig → Jig) : (s.setJig e f).was = s.was := rfl
@[simp] theorem State.setJig_roleMnt (s : State) (e : Fin 8) (f : Jig → Jig) : (s.setJig e f).roleMnt = s.roleMnt := rfl
@[simp] theorem State.setByte_pending (s : State) (a : Nat) (b : Byte) : (s.setByte a b).pending = s.pending := rfl
@[simp] theorem State.setByte_now (s : State) (a : Nat) (b : Byte) : (s.setByte a b).now = s.now := rfl
@[simp] theorem State.setByte_sys (s : State) (a : Nat) (b : Byte) : (s.setByte a b).sys = s.sys := rfl
@[simp] theorem State.setByte_ao (s : State) (a : Nat) (b : Byte) : (s.setByte a b).ao = s.ao := rfl
@[simp] theorem State.setByte_otp (s : State) (a : Nat) (b : Byte) : (s.setByte a b).otp = s.otp := rfl
@[simp] theorem State.setByte_regs (s : State) (a : Nat) (b : Byte) : (s.setByte a b).regs = s.regs := rfl
@[simp] theorem State.setByte_coll (s : State) (a : Nat) (b : Byte) : (s.setByte a b).coll = s.coll := rfl
@[simp] theorem State.setByte_links (s : State) (a : Nat) (b : Byte) : (s.setByte a b).links = s.links := rfl
@[simp] theorem State.setByte_whl (s : State) (a : Nat) (b : Byte) : (s.setByte a b).whl = s.whl := rfl
@[simp] theorem State.setByte_prd (s : State) (a : Nat) (b : Byte) : (s.setByte a b).prd = s.prd := rfl
@[simp] theorem State.setByte_clu (s : State) (a : Nat) (b : Byte) : (s.setByte a b).clu = s.clu := rfl
@[simp] theorem State.setByte_work (s : State) (a : Nat) (b : Byte) : (s.setByte a b).work = s.work := rfl
@[simp] theorem State.setByte_take (s : State) (a : Nat) (b : Byte) : (s.setByte a b).take = s.take := rfl
@[simp] theorem State.setByte_edg (s : State) (a : Nat) (b : Byte) : (s.setByte a b).edg = s.edg := rfl
@[simp] theorem State.setByte_drv (s : State) (a : Nat) (b : Byte) : (s.setByte a b).drv = s.drv := rfl
@[simp] theorem State.setByte_ms (s : State) (a : Nat) (b : Byte) : (s.setByte a b).ms = s.ms := rfl
@[simp] theorem State.setByte_trc (s : State) (a : Nat) (b : Byte) : (s.setByte a b).trc = s.trc := rfl
@[simp] theorem State.setByte_jig (s : State) (a : Nat) (b : Byte) : (s.setByte a b).jig = s.jig := rfl
@[simp] theorem State.setByte_tmr (s : State) (a : Nat) (b : Byte) : (s.setByte a b).tmr = s.tmr := rfl
@[simp] theorem State.setByte_snapSeq (s : State) (a : Nat) (b : Byte) : (s.setByte a b).snapSeq = s.snapSeq := rfl
@[simp] theorem State.setByte_tmrOvrSent (s : State) (a : Nat) (b : Byte) : (s.setByte a b).tmrOvrSent = s.tmrOvrSent := rfl
@[simp] theorem State.setByte_svc (s : State) (a : Nat) (b : Byte) : (s.setByte a b).svc = s.svc := rfl
@[simp] theorem State.setByte_fab (s : State) (a : Nat) (b : Byte) : (s.setByte a b).fab = s.fab := rfl
@[simp] theorem State.setByte_host (s : State) (a : Nat) (b : Byte) : (s.setByte a b).host = s.host := rfl
@[simp] theorem State.setByte_mnt (s : State) (a : Nat) (b : Byte) : (s.setByte a b).mnt = s.mnt := rfl
@[simp] theorem State.setByte_readers (s : State) (a : Nat) (b : Byte) : (s.setByte a b).readers = s.readers := rfl
@[simp] theorem State.setByte_bist (s : State) (a : Nat) (b : Byte) : (s.setByte a b).bist = s.bist := rfl
@[simp] theorem State.setByte_inj (s : State) (a : Nat) (b : Byte) : (s.setByte a b).inj = s.inj := rfl
@[simp] theorem State.setByte_pins (s : State) (a : Nat) (b : Byte) : (s.setByte a b).pins = s.pins := rfl
@[simp] theorem State.setByte_free (s : State) (a : Nat) (b : Byte) : (s.setByte a b).free = s.free := rfl
@[simp] theorem State.setByte_snapAt (s : State) (a : Nat) (b : Byte) : (s.setByte a b).snapAt = s.snapAt := rfl
@[simp] theorem State.setByte_hwSet (s : State) (a : Nat) (b : Byte) : (s.setByte a b).hwSet = s.hwSet := rfl
@[simp] theorem State.setByte_claims (s : State) (a : Nat) (b : Byte) : (s.setByte a b).claims = s.claims := rfl
@[simp] theorem State.setByte_jigCmds (s : State) (a : Nat) (b : Byte) : (s.setByte a b).jigCmds = s.jigCmds := rfl
@[simp] theorem State.setByte_was (s : State) (a : Nat) (b : Byte) : (s.setByte a b).was = s.was := rfl
@[simp] theorem State.setByte_roleMnt (s : State) (a : Nat) (b : Byte) : (s.setByte a b).roleMnt = s.roleMnt := rfl
@[simp] theorem State.setWord_pending (s : State) (a : Nat) (w : Word) : (s.setWord a w).pending = s.pending := rfl
@[simp] theorem State.setWord_now (s : State) (a : Nat) (w : Word) : (s.setWord a w).now = s.now := rfl
@[simp] theorem State.setWord_sys (s : State) (a : Nat) (w : Word) : (s.setWord a w).sys = s.sys := rfl
@[simp] theorem State.setWord_ao (s : State) (a : Nat) (w : Word) : (s.setWord a w).ao = s.ao := rfl
@[simp] theorem State.setWord_otp (s : State) (a : Nat) (w : Word) : (s.setWord a w).otp = s.otp := rfl
@[simp] theorem State.setWord_regs (s : State) (a : Nat) (w : Word) : (s.setWord a w).regs = s.regs := rfl
@[simp] theorem State.setWord_coll (s : State) (a : Nat) (w : Word) : (s.setWord a w).coll = s.coll := rfl
@[simp] theorem State.setWord_links (s : State) (a : Nat) (w : Word) : (s.setWord a w).links = s.links := rfl
@[simp] theorem State.setWord_whl (s : State) (a : Nat) (w : Word) : (s.setWord a w).whl = s.whl := rfl
@[simp] theorem State.setWord_prd (s : State) (a : Nat) (w : Word) : (s.setWord a w).prd = s.prd := rfl
@[simp] theorem State.setWord_clu (s : State) (a : Nat) (w : Word) : (s.setWord a w).clu = s.clu := rfl
@[simp] theorem State.setWord_work (s : State) (a : Nat) (w : Word) : (s.setWord a w).work = s.work := rfl
@[simp] theorem State.setWord_take (s : State) (a : Nat) (w : Word) : (s.setWord a w).take = s.take := rfl
@[simp] theorem State.setWord_edg (s : State) (a : Nat) (w : Word) : (s.setWord a w).edg = s.edg := rfl
@[simp] theorem State.setWord_drv (s : State) (a : Nat) (w : Word) : (s.setWord a w).drv = s.drv := rfl
@[simp] theorem State.setWord_ms (s : State) (a : Nat) (w : Word) : (s.setWord a w).ms = s.ms := rfl
@[simp] theorem State.setWord_trc (s : State) (a : Nat) (w : Word) : (s.setWord a w).trc = s.trc := rfl
@[simp] theorem State.setWord_jig (s : State) (a : Nat) (w : Word) : (s.setWord a w).jig = s.jig := rfl
@[simp] theorem State.setWord_tmr (s : State) (a : Nat) (w : Word) : (s.setWord a w).tmr = s.tmr := rfl
@[simp] theorem State.setWord_snapSeq (s : State) (a : Nat) (w : Word) : (s.setWord a w).snapSeq = s.snapSeq := rfl
@[simp] theorem State.setWord_tmrOvrSent (s : State) (a : Nat) (w : Word) : (s.setWord a w).tmrOvrSent = s.tmrOvrSent := rfl
@[simp] theorem State.setWord_svc (s : State) (a : Nat) (w : Word) : (s.setWord a w).svc = s.svc := rfl
@[simp] theorem State.setWord_fab (s : State) (a : Nat) (w : Word) : (s.setWord a w).fab = s.fab := rfl
@[simp] theorem State.setWord_host (s : State) (a : Nat) (w : Word) : (s.setWord a w).host = s.host := rfl
@[simp] theorem State.setWord_mnt (s : State) (a : Nat) (w : Word) : (s.setWord a w).mnt = s.mnt := rfl
@[simp] theorem State.setWord_readers (s : State) (a : Nat) (w : Word) : (s.setWord a w).readers = s.readers := rfl
@[simp] theorem State.setWord_bist (s : State) (a : Nat) (w : Word) : (s.setWord a w).bist = s.bist := rfl
@[simp] theorem State.setWord_inj (s : State) (a : Nat) (w : Word) : (s.setWord a w).inj = s.inj := rfl
@[simp] theorem State.setWord_pins (s : State) (a : Nat) (w : Word) : (s.setWord a w).pins = s.pins := rfl
@[simp] theorem State.setWord_free (s : State) (a : Nat) (w : Word) : (s.setWord a w).free = s.free := rfl
@[simp] theorem State.setWord_snapAt (s : State) (a : Nat) (w : Word) : (s.setWord a w).snapAt = s.snapAt := rfl
@[simp] theorem State.setWord_hwSet (s : State) (a : Nat) (w : Word) : (s.setWord a w).hwSet = s.hwSet := rfl
@[simp] theorem State.setWord_claims (s : State) (a : Nat) (w : Word) : (s.setWord a w).claims = s.claims := rfl
@[simp] theorem State.setWord_jigCmds (s : State) (a : Nat) (w : Word) : (s.setWord a w).jigCmds = s.jigCmds := rfl
@[simp] theorem State.setWord_was (s : State) (a : Nat) (w : Word) : (s.setWord a w).was = s.was := rfl
@[simp] theorem State.setWord_roleMnt (s : State) (a : Nat) (w : Word) : (s.setWord a w).roleMnt = s.roleMnt := rfl
@[simp] theorem State.setRg_pending (s : State) (r : RegRow) (i j : Nat) (w : Word) : (s.setRg r i j w).pending = s.pending := rfl
@[simp] theorem State.setRg_now (s : State) (r : RegRow) (i j : Nat) (w : Word) : (s.setRg r i j w).now = s.now := rfl
@[simp] theorem State.setRg_sys (s : State) (r : RegRow) (i j : Nat) (w : Word) : (s.setRg r i j w).sys = s.sys := rfl
@[simp] theorem State.setRg_ao (s : State) (r : RegRow) (i j : Nat) (w : Word) : (s.setRg r i j w).ao = s.ao := rfl
@[simp] theorem State.setRg_otp (s : State) (r : RegRow) (i j : Nat) (w : Word) : (s.setRg r i j w).otp = s.otp := rfl
@[simp] theorem State.setRg_mem (s : State) (r : RegRow) (i j : Nat) (w : Word) : (s.setRg r i j w).mem = s.mem := rfl
@[simp] theorem State.setRg_coll (s : State) (r : RegRow) (i j : Nat) (w : Word) : (s.setRg r i j w).coll = s.coll := rfl
@[simp] theorem State.setRg_links (s : State) (r : RegRow) (i j : Nat) (w : Word) : (s.setRg r i j w).links = s.links := rfl
@[simp] theorem State.setRg_whl (s : State) (r : RegRow) (i j : Nat) (w : Word) : (s.setRg r i j w).whl = s.whl := rfl
@[simp] theorem State.setRg_prd (s : State) (r : RegRow) (i j : Nat) (w : Word) : (s.setRg r i j w).prd = s.prd := rfl
@[simp] theorem State.setRg_clu (s : State) (r : RegRow) (i j : Nat) (w : Word) : (s.setRg r i j w).clu = s.clu := rfl
@[simp] theorem State.setRg_work (s : State) (r : RegRow) (i j : Nat) (w : Word) : (s.setRg r i j w).work = s.work := rfl
@[simp] theorem State.setRg_take (s : State) (r : RegRow) (i j : Nat) (w : Word) : (s.setRg r i j w).take = s.take := rfl
@[simp] theorem State.setRg_edg (s : State) (r : RegRow) (i j : Nat) (w : Word) : (s.setRg r i j w).edg = s.edg := rfl
@[simp] theorem State.setRg_drv (s : State) (r : RegRow) (i j : Nat) (w : Word) : (s.setRg r i j w).drv = s.drv := rfl
@[simp] theorem State.setRg_ms (s : State) (r : RegRow) (i j : Nat) (w : Word) : (s.setRg r i j w).ms = s.ms := rfl
@[simp] theorem State.setRg_trc (s : State) (r : RegRow) (i j : Nat) (w : Word) : (s.setRg r i j w).trc = s.trc := rfl
@[simp] theorem State.setRg_jig (s : State) (r : RegRow) (i j : Nat) (w : Word) : (s.setRg r i j w).jig = s.jig := rfl
@[simp] theorem State.setRg_tmr (s : State) (r : RegRow) (i j : Nat) (w : Word) : (s.setRg r i j w).tmr = s.tmr := rfl
@[simp] theorem State.setRg_snapSeq (s : State) (r : RegRow) (i j : Nat) (w : Word) : (s.setRg r i j w).snapSeq = s.snapSeq := rfl
@[simp] theorem State.setRg_tmrOvrSent (s : State) (r : RegRow) (i j : Nat) (w : Word) : (s.setRg r i j w).tmrOvrSent = s.tmrOvrSent := rfl
@[simp] theorem State.setRg_svc (s : State) (r : RegRow) (i j : Nat) (w : Word) : (s.setRg r i j w).svc = s.svc := rfl
@[simp] theorem State.setRg_fab (s : State) (r : RegRow) (i j : Nat) (w : Word) : (s.setRg r i j w).fab = s.fab := rfl
@[simp] theorem State.setRg_host (s : State) (r : RegRow) (i j : Nat) (w : Word) : (s.setRg r i j w).host = s.host := rfl
@[simp] theorem State.setRg_mnt (s : State) (r : RegRow) (i j : Nat) (w : Word) : (s.setRg r i j w).mnt = s.mnt := rfl
@[simp] theorem State.setRg_readers (s : State) (r : RegRow) (i j : Nat) (w : Word) : (s.setRg r i j w).readers = s.readers := rfl
@[simp] theorem State.setRg_bist (s : State) (r : RegRow) (i j : Nat) (w : Word) : (s.setRg r i j w).bist = s.bist := rfl
@[simp] theorem State.setRg_inj (s : State) (r : RegRow) (i j : Nat) (w : Word) : (s.setRg r i j w).inj = s.inj := rfl
@[simp] theorem State.setRg_pins (s : State) (r : RegRow) (i j : Nat) (w : Word) : (s.setRg r i j w).pins = s.pins := rfl
@[simp] theorem State.setRg_free (s : State) (r : RegRow) (i j : Nat) (w : Word) : (s.setRg r i j w).free = s.free := rfl
@[simp] theorem State.setRg_snapAt (s : State) (r : RegRow) (i j : Nat) (w : Word) : (s.setRg r i j w).snapAt = s.snapAt := rfl
@[simp] theorem State.setRg_hwSet (s : State) (r : RegRow) (i j : Nat) (w : Word) : (s.setRg r i j w).hwSet = s.hwSet := rfl
@[simp] theorem State.setRg_claims (s : State) (r : RegRow) (i j : Nat) (w : Word) : (s.setRg r i j w).claims = s.claims := rfl
@[simp] theorem State.setRg_jigCmds (s : State) (r : RegRow) (i j : Nat) (w : Word) : (s.setRg r i j w).jigCmds = s.jigCmds := rfl
@[simp] theorem State.setRg_was (s : State) (r : RegRow) (i j : Nat) (w : Word) : (s.setRg r i j w).was = s.was := rfl
@[simp] theorem State.setRg_roleMnt (s : State) (r : RegRow) (i j : Nat) (w : Word) : (s.setRg r i j w).roleMnt = s.roleMnt := rfl
@[simp] theorem State.setRf_pending (s : State) (r : RegRow) (i hi lo v : Nat) : (s.setRf r i hi lo v).pending = s.pending := rfl
@[simp] theorem State.setRf_now (s : State) (r : RegRow) (i hi lo v : Nat) : (s.setRf r i hi lo v).now = s.now := rfl
@[simp] theorem State.setRf_sys (s : State) (r : RegRow) (i hi lo v : Nat) : (s.setRf r i hi lo v).sys = s.sys := rfl
@[simp] theorem State.setRf_ao (s : State) (r : RegRow) (i hi lo v : Nat) : (s.setRf r i hi lo v).ao = s.ao := rfl
@[simp] theorem State.setRf_otp (s : State) (r : RegRow) (i hi lo v : Nat) : (s.setRf r i hi lo v).otp = s.otp := rfl
@[simp] theorem State.setRf_mem (s : State) (r : RegRow) (i hi lo v : Nat) : (s.setRf r i hi lo v).mem = s.mem := rfl
@[simp] theorem State.setRf_coll (s : State) (r : RegRow) (i hi lo v : Nat) : (s.setRf r i hi lo v).coll = s.coll := rfl
@[simp] theorem State.setRf_links (s : State) (r : RegRow) (i hi lo v : Nat) : (s.setRf r i hi lo v).links = s.links := rfl
@[simp] theorem State.setRf_whl (s : State) (r : RegRow) (i hi lo v : Nat) : (s.setRf r i hi lo v).whl = s.whl := rfl
@[simp] theorem State.setRf_prd (s : State) (r : RegRow) (i hi lo v : Nat) : (s.setRf r i hi lo v).prd = s.prd := rfl
@[simp] theorem State.setRf_clu (s : State) (r : RegRow) (i hi lo v : Nat) : (s.setRf r i hi lo v).clu = s.clu := rfl
@[simp] theorem State.setRf_work (s : State) (r : RegRow) (i hi lo v : Nat) : (s.setRf r i hi lo v).work = s.work := rfl
@[simp] theorem State.setRf_take (s : State) (r : RegRow) (i hi lo v : Nat) : (s.setRf r i hi lo v).take = s.take := rfl
@[simp] theorem State.setRf_edg (s : State) (r : RegRow) (i hi lo v : Nat) : (s.setRf r i hi lo v).edg = s.edg := rfl
@[simp] theorem State.setRf_drv (s : State) (r : RegRow) (i hi lo v : Nat) : (s.setRf r i hi lo v).drv = s.drv := rfl
@[simp] theorem State.setRf_ms (s : State) (r : RegRow) (i hi lo v : Nat) : (s.setRf r i hi lo v).ms = s.ms := rfl
@[simp] theorem State.setRf_trc (s : State) (r : RegRow) (i hi lo v : Nat) : (s.setRf r i hi lo v).trc = s.trc := rfl
@[simp] theorem State.setRf_jig (s : State) (r : RegRow) (i hi lo v : Nat) : (s.setRf r i hi lo v).jig = s.jig := rfl
@[simp] theorem State.setRf_tmr (s : State) (r : RegRow) (i hi lo v : Nat) : (s.setRf r i hi lo v).tmr = s.tmr := rfl
@[simp] theorem State.setRf_snapSeq (s : State) (r : RegRow) (i hi lo v : Nat) : (s.setRf r i hi lo v).snapSeq = s.snapSeq := rfl
@[simp] theorem State.setRf_tmrOvrSent (s : State) (r : RegRow) (i hi lo v : Nat) : (s.setRf r i hi lo v).tmrOvrSent = s.tmrOvrSent := rfl
@[simp] theorem State.setRf_svc (s : State) (r : RegRow) (i hi lo v : Nat) : (s.setRf r i hi lo v).svc = s.svc := rfl
@[simp] theorem State.setRf_fab (s : State) (r : RegRow) (i hi lo v : Nat) : (s.setRf r i hi lo v).fab = s.fab := rfl
@[simp] theorem State.setRf_host (s : State) (r : RegRow) (i hi lo v : Nat) : (s.setRf r i hi lo v).host = s.host := rfl
@[simp] theorem State.setRf_mnt (s : State) (r : RegRow) (i hi lo v : Nat) : (s.setRf r i hi lo v).mnt = s.mnt := rfl
@[simp] theorem State.setRf_readers (s : State) (r : RegRow) (i hi lo v : Nat) : (s.setRf r i hi lo v).readers = s.readers := rfl
@[simp] theorem State.setRf_bist (s : State) (r : RegRow) (i hi lo v : Nat) : (s.setRf r i hi lo v).bist = s.bist := rfl
@[simp] theorem State.setRf_inj (s : State) (r : RegRow) (i hi lo v : Nat) : (s.setRf r i hi lo v).inj = s.inj := rfl
@[simp] theorem State.setRf_pins (s : State) (r : RegRow) (i hi lo v : Nat) : (s.setRf r i hi lo v).pins = s.pins := rfl
@[simp] theorem State.setRf_free (s : State) (r : RegRow) (i hi lo v : Nat) : (s.setRf r i hi lo v).free = s.free := rfl
@[simp] theorem State.setRf_snapAt (s : State) (r : RegRow) (i hi lo v : Nat) : (s.setRf r i hi lo v).snapAt = s.snapAt := rfl
@[simp] theorem State.setRf_hwSet (s : State) (r : RegRow) (i hi lo v : Nat) : (s.setRf r i hi lo v).hwSet = s.hwSet := rfl
@[simp] theorem State.setRf_claims (s : State) (r : RegRow) (i hi lo v : Nat) : (s.setRf r i hi lo v).claims = s.claims := rfl
@[simp] theorem State.setRf_jigCmds (s : State) (r : RegRow) (i hi lo v : Nat) : (s.setRf r i hi lo v).jigCmds = s.jigCmds := rfl
@[simp] theorem State.setRf_was (s : State) (r : RegRow) (i hi lo v : Nat) : (s.setRf r i hi lo v).was = s.was := rfl
@[simp] theorem State.setRf_roleMnt (s : State) (r : RegRow) (i hi lo v : Nat) : (s.setRf r i hi lo v).roleMnt = s.roleMnt := rfl
@[simp] theorem State.setBit_pending (s : State) (r : RegRow) (i n : Nat) : (s.setBit r i n).pending = s.pending := rfl
@[simp] theorem State.setBit_now (s : State) (r : RegRow) (i n : Nat) : (s.setBit r i n).now = s.now := rfl
@[simp] theorem State.setBit_sys (s : State) (r : RegRow) (i n : Nat) : (s.setBit r i n).sys = s.sys := rfl
@[simp] theorem State.setBit_ao (s : State) (r : RegRow) (i n : Nat) : (s.setBit r i n).ao = s.ao := rfl
@[simp] theorem State.setBit_otp (s : State) (r : RegRow) (i n : Nat) : (s.setBit r i n).otp = s.otp := rfl
@[simp] theorem State.setBit_mem (s : State) (r : RegRow) (i n : Nat) : (s.setBit r i n).mem = s.mem := rfl
@[simp] theorem State.setBit_coll (s : State) (r : RegRow) (i n : Nat) : (s.setBit r i n).coll = s.coll := rfl
@[simp] theorem State.setBit_links (s : State) (r : RegRow) (i n : Nat) : (s.setBit r i n).links = s.links := rfl
@[simp] theorem State.setBit_whl (s : State) (r : RegRow) (i n : Nat) : (s.setBit r i n).whl = s.whl := rfl
@[simp] theorem State.setBit_prd (s : State) (r : RegRow) (i n : Nat) : (s.setBit r i n).prd = s.prd := rfl
@[simp] theorem State.setBit_clu (s : State) (r : RegRow) (i n : Nat) : (s.setBit r i n).clu = s.clu := rfl
@[simp] theorem State.setBit_work (s : State) (r : RegRow) (i n : Nat) : (s.setBit r i n).work = s.work := rfl
@[simp] theorem State.setBit_take (s : State) (r : RegRow) (i n : Nat) : (s.setBit r i n).take = s.take := rfl
@[simp] theorem State.setBit_edg (s : State) (r : RegRow) (i n : Nat) : (s.setBit r i n).edg = s.edg := rfl
@[simp] theorem State.setBit_drv (s : State) (r : RegRow) (i n : Nat) : (s.setBit r i n).drv = s.drv := rfl
@[simp] theorem State.setBit_ms (s : State) (r : RegRow) (i n : Nat) : (s.setBit r i n).ms = s.ms := rfl
@[simp] theorem State.setBit_trc (s : State) (r : RegRow) (i n : Nat) : (s.setBit r i n).trc = s.trc := rfl
@[simp] theorem State.setBit_jig (s : State) (r : RegRow) (i n : Nat) : (s.setBit r i n).jig = s.jig := rfl
@[simp] theorem State.setBit_tmr (s : State) (r : RegRow) (i n : Nat) : (s.setBit r i n).tmr = s.tmr := rfl
@[simp] theorem State.setBit_snapSeq (s : State) (r : RegRow) (i n : Nat) : (s.setBit r i n).snapSeq = s.snapSeq := rfl
@[simp] theorem State.setBit_tmrOvrSent (s : State) (r : RegRow) (i n : Nat) : (s.setBit r i n).tmrOvrSent = s.tmrOvrSent := rfl
@[simp] theorem State.setBit_svc (s : State) (r : RegRow) (i n : Nat) : (s.setBit r i n).svc = s.svc := rfl
@[simp] theorem State.setBit_fab (s : State) (r : RegRow) (i n : Nat) : (s.setBit r i n).fab = s.fab := rfl
@[simp] theorem State.setBit_host (s : State) (r : RegRow) (i n : Nat) : (s.setBit r i n).host = s.host := rfl
@[simp] theorem State.setBit_mnt (s : State) (r : RegRow) (i n : Nat) : (s.setBit r i n).mnt = s.mnt := rfl
@[simp] theorem State.setBit_readers (s : State) (r : RegRow) (i n : Nat) : (s.setBit r i n).readers = s.readers := rfl
@[simp] theorem State.setBit_bist (s : State) (r : RegRow) (i n : Nat) : (s.setBit r i n).bist = s.bist := rfl
@[simp] theorem State.setBit_inj (s : State) (r : RegRow) (i n : Nat) : (s.setBit r i n).inj = s.inj := rfl
@[simp] theorem State.setBit_pins (s : State) (r : RegRow) (i n : Nat) : (s.setBit r i n).pins = s.pins := rfl
@[simp] theorem State.setBit_free (s : State) (r : RegRow) (i n : Nat) : (s.setBit r i n).free = s.free := rfl
@[simp] theorem State.setBit_snapAt (s : State) (r : RegRow) (i n : Nat) : (s.setBit r i n).snapAt = s.snapAt := rfl
@[simp] theorem State.setBit_claims (s : State) (r : RegRow) (i n : Nat) : (s.setBit r i n).claims = s.claims := rfl
@[simp] theorem State.setBit_jigCmds (s : State) (r : RegRow) (i n : Nat) : (s.setBit r i n).jigCmds = s.jigCmds := rfl
@[simp] theorem State.setBit_was (s : State) (r : RegRow) (i n : Nat) : (s.setBit r i n).was = s.was := rfl
@[simp] theorem State.setBit_roleMnt (s : State) (r : RegRow) (i n : Nat) : (s.setBit r i n).roleMnt = s.roleMnt := rfl
@[simp] theorem State.setPeg_pending (s : State) (w : Fin 9) (k : Fin 32) (f : Peg → Peg) : (s.setPeg w k f).pending = s.pending := rfl
@[simp] theorem State.setPeg_now (s : State) (w : Fin 9) (k : Fin 32) (f : Peg → Peg) : (s.setPeg w k f).now = s.now := rfl
@[simp] theorem State.setPeg_sys (s : State) (w : Fin 9) (k : Fin 32) (f : Peg → Peg) : (s.setPeg w k f).sys = s.sys := rfl
@[simp] theorem State.setPeg_ao (s : State) (w : Fin 9) (k : Fin 32) (f : Peg → Peg) : (s.setPeg w k f).ao = s.ao := rfl
@[simp] theorem State.setPeg_otp (s : State) (w : Fin 9) (k : Fin 32) (f : Peg → Peg) : (s.setPeg w k f).otp = s.otp := rfl
@[simp] theorem State.setPeg_regs (s : State) (w : Fin 9) (k : Fin 32) (f : Peg → Peg) : (s.setPeg w k f).regs = s.regs := rfl
@[simp] theorem State.setPeg_mem (s : State) (w : Fin 9) (k : Fin 32) (f : Peg → Peg) : (s.setPeg w k f).mem = s.mem := rfl
@[simp] theorem State.setPeg_coll (s : State) (w : Fin 9) (k : Fin 32) (f : Peg → Peg) : (s.setPeg w k f).coll = s.coll := rfl
@[simp] theorem State.setPeg_links (s : State) (w : Fin 9) (k : Fin 32) (f : Peg → Peg) : (s.setPeg w k f).links = s.links := rfl
@[simp] theorem State.setPeg_whl (s : State) (w : Fin 9) (k : Fin 32) (f : Peg → Peg) : (s.setPeg w k f).whl = s.whl := rfl
@[simp] theorem State.setPeg_prd (s : State) (w : Fin 9) (k : Fin 32) (f : Peg → Peg) : (s.setPeg w k f).prd = s.prd := rfl
@[simp] theorem State.setPeg_clu (s : State) (w : Fin 9) (k : Fin 32) (f : Peg → Peg) : (s.setPeg w k f).clu = s.clu := rfl
@[simp] theorem State.setPeg_take (s : State) (w : Fin 9) (k : Fin 32) (f : Peg → Peg) : (s.setPeg w k f).take = s.take := rfl
@[simp] theorem State.setPeg_edg (s : State) (w : Fin 9) (k : Fin 32) (f : Peg → Peg) : (s.setPeg w k f).edg = s.edg := rfl
@[simp] theorem State.setPeg_drv (s : State) (w : Fin 9) (k : Fin 32) (f : Peg → Peg) : (s.setPeg w k f).drv = s.drv := rfl
@[simp] theorem State.setPeg_ms (s : State) (w : Fin 9) (k : Fin 32) (f : Peg → Peg) : (s.setPeg w k f).ms = s.ms := rfl
@[simp] theorem State.setPeg_trc (s : State) (w : Fin 9) (k : Fin 32) (f : Peg → Peg) : (s.setPeg w k f).trc = s.trc := rfl
@[simp] theorem State.setPeg_jig (s : State) (w : Fin 9) (k : Fin 32) (f : Peg → Peg) : (s.setPeg w k f).jig = s.jig := rfl
@[simp] theorem State.setPeg_tmr (s : State) (w : Fin 9) (k : Fin 32) (f : Peg → Peg) : (s.setPeg w k f).tmr = s.tmr := rfl
@[simp] theorem State.setPeg_snapSeq (s : State) (w : Fin 9) (k : Fin 32) (f : Peg → Peg) : (s.setPeg w k f).snapSeq = s.snapSeq := rfl
@[simp] theorem State.setPeg_tmrOvrSent (s : State) (w : Fin 9) (k : Fin 32) (f : Peg → Peg) : (s.setPeg w k f).tmrOvrSent = s.tmrOvrSent := rfl
@[simp] theorem State.setPeg_svc (s : State) (w : Fin 9) (k : Fin 32) (f : Peg → Peg) : (s.setPeg w k f).svc = s.svc := rfl
@[simp] theorem State.setPeg_fab (s : State) (w : Fin 9) (k : Fin 32) (f : Peg → Peg) : (s.setPeg w k f).fab = s.fab := rfl
@[simp] theorem State.setPeg_host (s : State) (w : Fin 9) (k : Fin 32) (f : Peg → Peg) : (s.setPeg w k f).host = s.host := rfl
@[simp] theorem State.setPeg_mnt (s : State) (w : Fin 9) (k : Fin 32) (f : Peg → Peg) : (s.setPeg w k f).mnt = s.mnt := rfl
@[simp] theorem State.setPeg_readers (s : State) (w : Fin 9) (k : Fin 32) (f : Peg → Peg) : (s.setPeg w k f).readers = s.readers := rfl
@[simp] theorem State.setPeg_bist (s : State) (w : Fin 9) (k : Fin 32) (f : Peg → Peg) : (s.setPeg w k f).bist = s.bist := rfl
@[simp] theorem State.setPeg_inj (s : State) (w : Fin 9) (k : Fin 32) (f : Peg → Peg) : (s.setPeg w k f).inj = s.inj := rfl
@[simp] theorem State.setPeg_pins (s : State) (w : Fin 9) (k : Fin 32) (f : Peg → Peg) : (s.setPeg w k f).pins = s.pins := rfl
@[simp] theorem State.setPeg_free (s : State) (w : Fin 9) (k : Fin 32) (f : Peg → Peg) : (s.setPeg w k f).free = s.free := rfl
@[simp] theorem State.setPeg_snapAt (s : State) (w : Fin 9) (k : Fin 32) (f : Peg → Peg) : (s.setPeg w k f).snapAt = s.snapAt := rfl
@[simp] theorem State.setPeg_hwSet (s : State) (w : Fin 9) (k : Fin 32) (f : Peg → Peg) : (s.setPeg w k f).hwSet = s.hwSet := rfl
@[simp] theorem State.setPeg_claims (s : State) (w : Fin 9) (k : Fin 32) (f : Peg → Peg) : (s.setPeg w k f).claims = s.claims := rfl
@[simp] theorem State.setPeg_jigCmds (s : State) (w : Fin 9) (k : Fin 32) (f : Peg → Peg) : (s.setPeg w k f).jigCmds = s.jigCmds := rfl
@[simp] theorem State.setPeg_was (s : State) (w : Fin 9) (k : Fin 32) (f : Peg → Peg) : (s.setPeg w k f).was = s.was := rfl
@[simp] theorem State.setPeg_roleMnt (s : State) (w : Fin 9) (k : Fin 32) (f : Peg → Peg) : (s.setPeg w k f).roleMnt = s.roleMnt := rfl
@[simp] theorem State.setMnt_pending (s : State) (f : Mnt → Mnt) : (s.setMnt f).pending = s.pending := rfl
@[simp] theorem State.setMnt_now (s : State) (f : Mnt → Mnt) : (s.setMnt f).now = s.now := rfl
@[simp] theorem State.setMnt_sys (s : State) (f : Mnt → Mnt) : (s.setMnt f).sys = s.sys := rfl
@[simp] theorem State.setMnt_ao (s : State) (f : Mnt → Mnt) : (s.setMnt f).ao = s.ao := rfl
@[simp] theorem State.setMnt_otp (s : State) (f : Mnt → Mnt) : (s.setMnt f).otp = s.otp := rfl
@[simp] theorem State.setMnt_regs (s : State) (f : Mnt → Mnt) : (s.setMnt f).regs = s.regs := rfl
@[simp] theorem State.setMnt_mem (s : State) (f : Mnt → Mnt) : (s.setMnt f).mem = s.mem := rfl
@[simp] theorem State.setMnt_coll (s : State) (f : Mnt → Mnt) : (s.setMnt f).coll = s.coll := rfl
@[simp] theorem State.setMnt_links (s : State) (f : Mnt → Mnt) : (s.setMnt f).links = s.links := rfl
@[simp] theorem State.setMnt_whl (s : State) (f : Mnt → Mnt) : (s.setMnt f).whl = s.whl := rfl
@[simp] theorem State.setMnt_prd (s : State) (f : Mnt → Mnt) : (s.setMnt f).prd = s.prd := rfl
@[simp] theorem State.setMnt_clu (s : State) (f : Mnt → Mnt) : (s.setMnt f).clu = s.clu := rfl
@[simp] theorem State.setMnt_work (s : State) (f : Mnt → Mnt) : (s.setMnt f).work = s.work := rfl
@[simp] theorem State.setMnt_take (s : State) (f : Mnt → Mnt) : (s.setMnt f).take = s.take := rfl
@[simp] theorem State.setMnt_edg (s : State) (f : Mnt → Mnt) : (s.setMnt f).edg = s.edg := rfl
@[simp] theorem State.setMnt_drv (s : State) (f : Mnt → Mnt) : (s.setMnt f).drv = s.drv := rfl
@[simp] theorem State.setMnt_ms (s : State) (f : Mnt → Mnt) : (s.setMnt f).ms = s.ms := rfl
@[simp] theorem State.setMnt_trc (s : State) (f : Mnt → Mnt) : (s.setMnt f).trc = s.trc := rfl
@[simp] theorem State.setMnt_jig (s : State) (f : Mnt → Mnt) : (s.setMnt f).jig = s.jig := rfl
@[simp] theorem State.setMnt_tmr (s : State) (f : Mnt → Mnt) : (s.setMnt f).tmr = s.tmr := rfl
@[simp] theorem State.setMnt_snapSeq (s : State) (f : Mnt → Mnt) : (s.setMnt f).snapSeq = s.snapSeq := rfl
@[simp] theorem State.setMnt_tmrOvrSent (s : State) (f : Mnt → Mnt) : (s.setMnt f).tmrOvrSent = s.tmrOvrSent := rfl
@[simp] theorem State.setMnt_svc (s : State) (f : Mnt → Mnt) : (s.setMnt f).svc = s.svc := rfl
@[simp] theorem State.setMnt_fab (s : State) (f : Mnt → Mnt) : (s.setMnt f).fab = s.fab := rfl
@[simp] theorem State.setMnt_host (s : State) (f : Mnt → Mnt) : (s.setMnt f).host = s.host := rfl
@[simp] theorem State.setMnt_readers (s : State) (f : Mnt → Mnt) : (s.setMnt f).readers = s.readers := rfl
@[simp] theorem State.setMnt_bist (s : State) (f : Mnt → Mnt) : (s.setMnt f).bist = s.bist := rfl
@[simp] theorem State.setMnt_inj (s : State) (f : Mnt → Mnt) : (s.setMnt f).inj = s.inj := rfl
@[simp] theorem State.setMnt_pins (s : State) (f : Mnt → Mnt) : (s.setMnt f).pins = s.pins := rfl
@[simp] theorem State.setMnt_free (s : State) (f : Mnt → Mnt) : (s.setMnt f).free = s.free := rfl
@[simp] theorem State.setMnt_snapAt (s : State) (f : Mnt → Mnt) : (s.setMnt f).snapAt = s.snapAt := rfl
@[simp] theorem State.setMnt_hwSet (s : State) (f : Mnt → Mnt) : (s.setMnt f).hwSet = s.hwSet := rfl
@[simp] theorem State.setMnt_claims (s : State) (f : Mnt → Mnt) : (s.setMnt f).claims = s.claims := rfl
@[simp] theorem State.setMnt_jigCmds (s : State) (f : Mnt → Mnt) : (s.setMnt f).jigCmds = s.jigCmds := rfl
@[simp] theorem State.setMnt_was (s : State) (f : Mnt → Mnt) : (s.setMnt f).was = s.was := rfl
@[simp] theorem State.setMnt_roleMnt (s : State) (f : Mnt → Mnt) : (s.setMnt f).roleMnt = s.roleMnt := rfl
@[simp] theorem State.setDState_pending (s : State) (d : DState) : (s.setDState d).pending = s.pending := rfl
@[simp] theorem State.setDState_now (s : State) (d : DState) : (s.setDState d).now = s.now := rfl
@[simp] theorem State.setDState_ao (s : State) (d : DState) : (s.setDState d).ao = s.ao := rfl
@[simp] theorem State.setDState_otp (s : State) (d : DState) : (s.setDState d).otp = s.otp := rfl
@[simp] theorem State.setDState_regs (s : State) (d : DState) : (s.setDState d).regs = s.regs := rfl
@[simp] theorem State.setDState_mem (s : State) (d : DState) : (s.setDState d).mem = s.mem := rfl
@[simp] theorem State.setDState_coll (s : State) (d : DState) : (s.setDState d).coll = s.coll := rfl
@[simp] theorem State.setDState_links (s : State) (d : DState) : (s.setDState d).links = s.links := rfl
@[simp] theorem State.setDState_whl (s : State) (d : DState) : (s.setDState d).whl = s.whl := rfl
@[simp] theorem State.setDState_prd (s : State) (d : DState) : (s.setDState d).prd = s.prd := rfl
@[simp] theorem State.setDState_clu (s : State) (d : DState) : (s.setDState d).clu = s.clu := rfl
@[simp] theorem State.setDState_work (s : State) (d : DState) : (s.setDState d).work = s.work := rfl
@[simp] theorem State.setDState_take (s : State) (d : DState) : (s.setDState d).take = s.take := rfl
@[simp] theorem State.setDState_edg (s : State) (d : DState) : (s.setDState d).edg = s.edg := rfl
@[simp] theorem State.setDState_drv (s : State) (d : DState) : (s.setDState d).drv = s.drv := rfl
@[simp] theorem State.setDState_ms (s : State) (d : DState) : (s.setDState d).ms = s.ms := rfl
@[simp] theorem State.setDState_trc (s : State) (d : DState) : (s.setDState d).trc = s.trc := rfl
@[simp] theorem State.setDState_jig (s : State) (d : DState) : (s.setDState d).jig = s.jig := rfl
@[simp] theorem State.setDState_tmr (s : State) (d : DState) : (s.setDState d).tmr = s.tmr := rfl
@[simp] theorem State.setDState_snapSeq (s : State) (d : DState) : (s.setDState d).snapSeq = s.snapSeq := rfl
@[simp] theorem State.setDState_tmrOvrSent (s : State) (d : DState) : (s.setDState d).tmrOvrSent = s.tmrOvrSent := rfl
@[simp] theorem State.setDState_svc (s : State) (d : DState) : (s.setDState d).svc = s.svc := rfl
@[simp] theorem State.setDState_fab (s : State) (d : DState) : (s.setDState d).fab = s.fab := rfl
@[simp] theorem State.setDState_host (s : State) (d : DState) : (s.setDState d).host = s.host := rfl
@[simp] theorem State.setDState_mnt (s : State) (d : DState) : (s.setDState d).mnt = s.mnt := rfl
@[simp] theorem State.setDState_readers (s : State) (d : DState) : (s.setDState d).readers = s.readers := rfl
@[simp] theorem State.setDState_bist (s : State) (d : DState) : (s.setDState d).bist = s.bist := rfl
@[simp] theorem State.setDState_inj (s : State) (d : DState) : (s.setDState d).inj = s.inj := rfl
@[simp] theorem State.setDState_pins (s : State) (d : DState) : (s.setDState d).pins = s.pins := rfl
@[simp] theorem State.setDState_free (s : State) (d : DState) : (s.setDState d).free = s.free := rfl
@[simp] theorem State.setDState_snapAt (s : State) (d : DState) : (s.setDState d).snapAt = s.snapAt := rfl
@[simp] theorem State.setDState_hwSet (s : State) (d : DState) : (s.setDState d).hwSet = s.hwSet := rfl
@[simp] theorem State.setDState_claims (s : State) (d : DState) : (s.setDState d).claims = s.claims := rfl
@[simp] theorem State.setDState_jigCmds (s : State) (d : DState) : (s.setDState d).jigCmds = s.jigCmds := rfl
@[simp] theorem State.setDState_was (s : State) (d : DState) : (s.setDState d).was = s.was := rfl
@[simp] theorem State.setDState_roleMnt (s : State) (d : DState) : (s.setDState d).roleMnt = s.roleMnt := rfl
@[simp] theorem State.setTmr_pending (s : State) (n : Fin 16) (f : Timer → Timer) : (s.setTmr n f).pending = s.pending := rfl
@[simp] theorem State.setTmr_now (s : State) (n : Fin 16) (f : Timer → Timer) : (s.setTmr n f).now = s.now := rfl
@[simp] theorem State.setTmr_sys (s : State) (n : Fin 16) (f : Timer → Timer) : (s.setTmr n f).sys = s.sys := rfl
@[simp] theorem State.setTmr_ao (s : State) (n : Fin 16) (f : Timer → Timer) : (s.setTmr n f).ao = s.ao := rfl
@[simp] theorem State.setTmr_otp (s : State) (n : Fin 16) (f : Timer → Timer) : (s.setTmr n f).otp = s.otp := rfl
@[simp] theorem State.setTmr_regs (s : State) (n : Fin 16) (f : Timer → Timer) : (s.setTmr n f).regs = s.regs := rfl
@[simp] theorem State.setTmr_mem (s : State) (n : Fin 16) (f : Timer → Timer) : (s.setTmr n f).mem = s.mem := rfl
@[simp] theorem State.setTmr_coll (s : State) (n : Fin 16) (f : Timer → Timer) : (s.setTmr n f).coll = s.coll := rfl
@[simp] theorem State.setTmr_links (s : State) (n : Fin 16) (f : Timer → Timer) : (s.setTmr n f).links = s.links := rfl
@[simp] theorem State.setTmr_whl (s : State) (n : Fin 16) (f : Timer → Timer) : (s.setTmr n f).whl = s.whl := rfl
@[simp] theorem State.setTmr_prd (s : State) (n : Fin 16) (f : Timer → Timer) : (s.setTmr n f).prd = s.prd := rfl
@[simp] theorem State.setTmr_clu (s : State) (n : Fin 16) (f : Timer → Timer) : (s.setTmr n f).clu = s.clu := rfl
@[simp] theorem State.setTmr_work (s : State) (n : Fin 16) (f : Timer → Timer) : (s.setTmr n f).work = s.work := rfl
@[simp] theorem State.setTmr_take (s : State) (n : Fin 16) (f : Timer → Timer) : (s.setTmr n f).take = s.take := rfl
@[simp] theorem State.setTmr_edg (s : State) (n : Fin 16) (f : Timer → Timer) : (s.setTmr n f).edg = s.edg := rfl
@[simp] theorem State.setTmr_drv (s : State) (n : Fin 16) (f : Timer → Timer) : (s.setTmr n f).drv = s.drv := rfl
@[simp] theorem State.setTmr_ms (s : State) (n : Fin 16) (f : Timer → Timer) : (s.setTmr n f).ms = s.ms := rfl
@[simp] theorem State.setTmr_trc (s : State) (n : Fin 16) (f : Timer → Timer) : (s.setTmr n f).trc = s.trc := rfl
@[simp] theorem State.setTmr_jig (s : State) (n : Fin 16) (f : Timer → Timer) : (s.setTmr n f).jig = s.jig := rfl
@[simp] theorem State.setTmr_snapSeq (s : State) (n : Fin 16) (f : Timer → Timer) : (s.setTmr n f).snapSeq = s.snapSeq := rfl
@[simp] theorem State.setTmr_tmrOvrSent (s : State) (n : Fin 16) (f : Timer → Timer) : (s.setTmr n f).tmrOvrSent = s.tmrOvrSent := rfl
@[simp] theorem State.setTmr_svc (s : State) (n : Fin 16) (f : Timer → Timer) : (s.setTmr n f).svc = s.svc := rfl
@[simp] theorem State.setTmr_fab (s : State) (n : Fin 16) (f : Timer → Timer) : (s.setTmr n f).fab = s.fab := rfl
@[simp] theorem State.setTmr_host (s : State) (n : Fin 16) (f : Timer → Timer) : (s.setTmr n f).host = s.host := rfl
@[simp] theorem State.setTmr_mnt (s : State) (n : Fin 16) (f : Timer → Timer) : (s.setTmr n f).mnt = s.mnt := rfl
@[simp] theorem State.setTmr_readers (s : State) (n : Fin 16) (f : Timer → Timer) : (s.setTmr n f).readers = s.readers := rfl
@[simp] theorem State.setTmr_bist (s : State) (n : Fin 16) (f : Timer → Timer) : (s.setTmr n f).bist = s.bist := rfl
@[simp] theorem State.setTmr_inj (s : State) (n : Fin 16) (f : Timer → Timer) : (s.setTmr n f).inj = s.inj := rfl
@[simp] theorem State.setTmr_pins (s : State) (n : Fin 16) (f : Timer → Timer) : (s.setTmr n f).pins = s.pins := rfl
@[simp] theorem State.setTmr_free (s : State) (n : Fin 16) (f : Timer → Timer) : (s.setTmr n f).free = s.free := rfl
@[simp] theorem State.setTmr_snapAt (s : State) (n : Fin 16) (f : Timer → Timer) : (s.setTmr n f).snapAt = s.snapAt := rfl
@[simp] theorem State.setTmr_hwSet (s : State) (n : Fin 16) (f : Timer → Timer) : (s.setTmr n f).hwSet = s.hwSet := rfl
@[simp] theorem State.setTmr_claims (s : State) (n : Fin 16) (f : Timer → Timer) : (s.setTmr n f).claims = s.claims := rfl
@[simp] theorem State.setTmr_jigCmds (s : State) (n : Fin 16) (f : Timer → Timer) : (s.setTmr n f).jigCmds = s.jigCmds := rfl
@[simp] theorem State.setTmr_was (s : State) (n : Fin 16) (f : Timer → Timer) : (s.setTmr n f).was = s.was := rfl
@[simp] theorem State.setTmr_roleMnt (s : State) (n : Fin 16) (f : Timer → Timer) : (s.setTmr n f).roleMnt = s.roleMnt := rfl
@[simp] theorem State.setSeal_pending (s : State) (n : Fin 16) (f : SealCnt → SealCnt) : (s.setSeal n f).pending = s.pending := rfl
@[simp] theorem State.setSeal_now (s : State) (n : Fin 16) (f : SealCnt → SealCnt) : (s.setSeal n f).now = s.now := rfl
@[simp] theorem State.setSeal_sys (s : State) (n : Fin 16) (f : SealCnt → SealCnt) : (s.setSeal n f).sys = s.sys := rfl
@[simp] theorem State.setSeal_otp (s : State) (n : Fin 16) (f : SealCnt → SealCnt) : (s.setSeal n f).otp = s.otp := rfl
@[simp] theorem State.setSeal_regs (s : State) (n : Fin 16) (f : SealCnt → SealCnt) : (s.setSeal n f).regs = s.regs := rfl
@[simp] theorem State.setSeal_mem (s : State) (n : Fin 16) (f : SealCnt → SealCnt) : (s.setSeal n f).mem = s.mem := rfl
@[simp] theorem State.setSeal_coll (s : State) (n : Fin 16) (f : SealCnt → SealCnt) : (s.setSeal n f).coll = s.coll := rfl
@[simp] theorem State.setSeal_links (s : State) (n : Fin 16) (f : SealCnt → SealCnt) : (s.setSeal n f).links = s.links := rfl
@[simp] theorem State.setSeal_whl (s : State) (n : Fin 16) (f : SealCnt → SealCnt) : (s.setSeal n f).whl = s.whl := rfl
@[simp] theorem State.setSeal_prd (s : State) (n : Fin 16) (f : SealCnt → SealCnt) : (s.setSeal n f).prd = s.prd := rfl
@[simp] theorem State.setSeal_clu (s : State) (n : Fin 16) (f : SealCnt → SealCnt) : (s.setSeal n f).clu = s.clu := rfl
@[simp] theorem State.setSeal_work (s : State) (n : Fin 16) (f : SealCnt → SealCnt) : (s.setSeal n f).work = s.work := rfl
@[simp] theorem State.setSeal_take (s : State) (n : Fin 16) (f : SealCnt → SealCnt) : (s.setSeal n f).take = s.take := rfl
@[simp] theorem State.setSeal_edg (s : State) (n : Fin 16) (f : SealCnt → SealCnt) : (s.setSeal n f).edg = s.edg := rfl
@[simp] theorem State.setSeal_drv (s : State) (n : Fin 16) (f : SealCnt → SealCnt) : (s.setSeal n f).drv = s.drv := rfl
@[simp] theorem State.setSeal_ms (s : State) (n : Fin 16) (f : SealCnt → SealCnt) : (s.setSeal n f).ms = s.ms := rfl
@[simp] theorem State.setSeal_trc (s : State) (n : Fin 16) (f : SealCnt → SealCnt) : (s.setSeal n f).trc = s.trc := rfl
@[simp] theorem State.setSeal_jig (s : State) (n : Fin 16) (f : SealCnt → SealCnt) : (s.setSeal n f).jig = s.jig := rfl
@[simp] theorem State.setSeal_tmr (s : State) (n : Fin 16) (f : SealCnt → SealCnt) : (s.setSeal n f).tmr = s.tmr := rfl
@[simp] theorem State.setSeal_snapSeq (s : State) (n : Fin 16) (f : SealCnt → SealCnt) : (s.setSeal n f).snapSeq = s.snapSeq := rfl
@[simp] theorem State.setSeal_tmrOvrSent (s : State) (n : Fin 16) (f : SealCnt → SealCnt) : (s.setSeal n f).tmrOvrSent = s.tmrOvrSent := rfl
@[simp] theorem State.setSeal_svc (s : State) (n : Fin 16) (f : SealCnt → SealCnt) : (s.setSeal n f).svc = s.svc := rfl
@[simp] theorem State.setSeal_fab (s : State) (n : Fin 16) (f : SealCnt → SealCnt) : (s.setSeal n f).fab = s.fab := rfl
@[simp] theorem State.setSeal_host (s : State) (n : Fin 16) (f : SealCnt → SealCnt) : (s.setSeal n f).host = s.host := rfl
@[simp] theorem State.setSeal_mnt (s : State) (n : Fin 16) (f : SealCnt → SealCnt) : (s.setSeal n f).mnt = s.mnt := rfl
@[simp] theorem State.setSeal_readers (s : State) (n : Fin 16) (f : SealCnt → SealCnt) : (s.setSeal n f).readers = s.readers := rfl
@[simp] theorem State.setSeal_bist (s : State) (n : Fin 16) (f : SealCnt → SealCnt) : (s.setSeal n f).bist = s.bist := rfl
@[simp] theorem State.setSeal_inj (s : State) (n : Fin 16) (f : SealCnt → SealCnt) : (s.setSeal n f).inj = s.inj := rfl
@[simp] theorem State.setSeal_pins (s : State) (n : Fin 16) (f : SealCnt → SealCnt) : (s.setSeal n f).pins = s.pins := rfl
@[simp] theorem State.setSeal_free (s : State) (n : Fin 16) (f : SealCnt → SealCnt) : (s.setSeal n f).free = s.free := rfl
@[simp] theorem State.setSeal_snapAt (s : State) (n : Fin 16) (f : SealCnt → SealCnt) : (s.setSeal n f).snapAt = s.snapAt := rfl
@[simp] theorem State.setSeal_hwSet (s : State) (n : Fin 16) (f : SealCnt → SealCnt) : (s.setSeal n f).hwSet = s.hwSet := rfl
@[simp] theorem State.setSeal_claims (s : State) (n : Fin 16) (f : SealCnt → SealCnt) : (s.setSeal n f).claims = s.claims := rfl
@[simp] theorem State.setSeal_jigCmds (s : State) (n : Fin 16) (f : SealCnt → SealCnt) : (s.setSeal n f).jigCmds = s.jigCmds := rfl
@[simp] theorem State.setSeal_was (s : State) (n : Fin 16) (f : SealCnt → SealCnt) : (s.setSeal n f).was = s.was := rfl
@[simp] theorem State.setSeal_roleMnt (s : State) (n : Fin 16) (f : SealCnt → SealCnt) : (s.setSeal n f).roleMnt = s.roleMnt := rfl
@[simp] theorem State.setRing_pending (s : State) (r : Fin 3) (f : Ring → Ring) : (s.setRing r f).pending = s.pending := rfl
@[simp] theorem State.setRing_now (s : State) (r : Fin 3) (f : Ring → Ring) : (s.setRing r f).now = s.now := rfl
@[simp] theorem State.setRing_sys (s : State) (r : Fin 3) (f : Ring → Ring) : (s.setRing r f).sys = s.sys := rfl
@[simp] theorem State.setRing_ao (s : State) (r : Fin 3) (f : Ring → Ring) : (s.setRing r f).ao = s.ao := rfl
@[simp] theorem State.setRing_otp (s : State) (r : Fin 3) (f : Ring → Ring) : (s.setRing r f).otp = s.otp := rfl
@[simp] theorem State.setRing_regs (s : State) (r : Fin 3) (f : Ring → Ring) : (s.setRing r f).regs = s.regs := rfl
@[simp] theorem State.setRing_mem (s : State) (r : Fin 3) (f : Ring → Ring) : (s.setRing r f).mem = s.mem := rfl
@[simp] theorem State.setRing_coll (s : State) (r : Fin 3) (f : Ring → Ring) : (s.setRing r f).coll = s.coll := rfl
@[simp] theorem State.setRing_links (s : State) (r : Fin 3) (f : Ring → Ring) : (s.setRing r f).links = s.links := rfl
@[simp] theorem State.setRing_whl (s : State) (r : Fin 3) (f : Ring → Ring) : (s.setRing r f).whl = s.whl := rfl
@[simp] theorem State.setRing_prd (s : State) (r : Fin 3) (f : Ring → Ring) : (s.setRing r f).prd = s.prd := rfl
@[simp] theorem State.setRing_clu (s : State) (r : Fin 3) (f : Ring → Ring) : (s.setRing r f).clu = s.clu := rfl
@[simp] theorem State.setRing_work (s : State) (r : Fin 3) (f : Ring → Ring) : (s.setRing r f).work = s.work := rfl
@[simp] theorem State.setRing_take (s : State) (r : Fin 3) (f : Ring → Ring) : (s.setRing r f).take = s.take := rfl
@[simp] theorem State.setRing_edg (s : State) (r : Fin 3) (f : Ring → Ring) : (s.setRing r f).edg = s.edg := rfl
@[simp] theorem State.setRing_drv (s : State) (r : Fin 3) (f : Ring → Ring) : (s.setRing r f).drv = s.drv := rfl
@[simp] theorem State.setRing_ms (s : State) (r : Fin 3) (f : Ring → Ring) : (s.setRing r f).ms = s.ms := rfl
@[simp] theorem State.setRing_jig (s : State) (r : Fin 3) (f : Ring → Ring) : (s.setRing r f).jig = s.jig := rfl
@[simp] theorem State.setRing_tmr (s : State) (r : Fin 3) (f : Ring → Ring) : (s.setRing r f).tmr = s.tmr := rfl
@[simp] theorem State.setRing_snapSeq (s : State) (r : Fin 3) (f : Ring → Ring) : (s.setRing r f).snapSeq = s.snapSeq := rfl
@[simp] theorem State.setRing_tmrOvrSent (s : State) (r : Fin 3) (f : Ring → Ring) : (s.setRing r f).tmrOvrSent = s.tmrOvrSent := rfl
@[simp] theorem State.setRing_svc (s : State) (r : Fin 3) (f : Ring → Ring) : (s.setRing r f).svc = s.svc := rfl
@[simp] theorem State.setRing_fab (s : State) (r : Fin 3) (f : Ring → Ring) : (s.setRing r f).fab = s.fab := rfl
@[simp] theorem State.setRing_host (s : State) (r : Fin 3) (f : Ring → Ring) : (s.setRing r f).host = s.host := rfl
@[simp] theorem State.setRing_mnt (s : State) (r : Fin 3) (f : Ring → Ring) : (s.setRing r f).mnt = s.mnt := rfl
@[simp] theorem State.setRing_readers (s : State) (r : Fin 3) (f : Ring → Ring) : (s.setRing r f).readers = s.readers := rfl
@[simp] theorem State.setRing_bist (s : State) (r : Fin 3) (f : Ring → Ring) : (s.setRing r f).bist = s.bist := rfl
@[simp] theorem State.setRing_inj (s : State) (r : Fin 3) (f : Ring → Ring) : (s.setRing r f).inj = s.inj := rfl
@[simp] theorem State.setRing_pins (s : State) (r : Fin 3) (f : Ring → Ring) : (s.setRing r f).pins = s.pins := rfl
@[simp] theorem State.setRing_free (s : State) (r : Fin 3) (f : Ring → Ring) : (s.setRing r f).free = s.free := rfl
@[simp] theorem State.setRing_snapAt (s : State) (r : Fin 3) (f : Ring → Ring) : (s.setRing r f).snapAt = s.snapAt := rfl
@[simp] theorem State.setRing_hwSet (s : State) (r : Fin 3) (f : Ring → Ring) : (s.setRing r f).hwSet = s.hwSet := rfl
@[simp] theorem State.setRing_claims (s : State) (r : Fin 3) (f : Ring → Ring) : (s.setRing r f).claims = s.claims := rfl
@[simp] theorem State.setRing_jigCmds (s : State) (r : Fin 3) (f : Ring → Ring) : (s.setRing r f).jigCmds = s.jigCmds := rfl
@[simp] theorem State.setRing_was (s : State) (r : Fin 3) (f : Ring → Ring) : (s.setRing r f).was = s.was := rfl
@[simp] theorem State.setRing_roleMnt (s : State) (r : Fin 3) (f : Ring → Ring) : (s.setRing r f).roleMnt = s.roleMnt := rfl
@[simp] theorem State.setWhl_pending (s : State) (f : Wheels → Wheels) : (s.setWhl f).pending = s.pending := rfl
@[simp] theorem State.setWhl_now (s : State) (f : Wheels → Wheels) : (s.setWhl f).now = s.now := rfl
@[simp] theorem State.setWhl_sys (s : State) (f : Wheels → Wheels) : (s.setWhl f).sys = s.sys := rfl
@[simp] theorem State.setWhl_ao (s : State) (f : Wheels → Wheels) : (s.setWhl f).ao = s.ao := rfl
@[simp] theorem State.setWhl_otp (s : State) (f : Wheels → Wheels) : (s.setWhl f).otp = s.otp := rfl
@[simp] theorem State.setWhl_regs (s : State) (f : Wheels → Wheels) : (s.setWhl f).regs = s.regs := rfl
@[simp] theorem State.setWhl_mem (s : State) (f : Wheels → Wheels) : (s.setWhl f).mem = s.mem := rfl
@[simp] theorem State.setWhl_coll (s : State) (f : Wheels → Wheels) : (s.setWhl f).coll = s.coll := rfl
@[simp] theorem State.setWhl_links (s : State) (f : Wheels → Wheels) : (s.setWhl f).links = s.links := rfl
@[simp] theorem State.setWhl_prd (s : State) (f : Wheels → Wheels) : (s.setWhl f).prd = s.prd := rfl
@[simp] theorem State.setWhl_clu (s : State) (f : Wheels → Wheels) : (s.setWhl f).clu = s.clu := rfl
@[simp] theorem State.setWhl_work (s : State) (f : Wheels → Wheels) : (s.setWhl f).work = s.work := rfl
@[simp] theorem State.setWhl_take (s : State) (f : Wheels → Wheels) : (s.setWhl f).take = s.take := rfl
@[simp] theorem State.setWhl_edg (s : State) (f : Wheels → Wheels) : (s.setWhl f).edg = s.edg := rfl
@[simp] theorem State.setWhl_drv (s : State) (f : Wheels → Wheels) : (s.setWhl f).drv = s.drv := rfl
@[simp] theorem State.setWhl_ms (s : State) (f : Wheels → Wheels) : (s.setWhl f).ms = s.ms := rfl
@[simp] theorem State.setWhl_trc (s : State) (f : Wheels → Wheels) : (s.setWhl f).trc = s.trc := rfl
@[simp] theorem State.setWhl_jig (s : State) (f : Wheels → Wheels) : (s.setWhl f).jig = s.jig := rfl
@[simp] theorem State.setWhl_tmr (s : State) (f : Wheels → Wheels) : (s.setWhl f).tmr = s.tmr := rfl
@[simp] theorem State.setWhl_snapSeq (s : State) (f : Wheels → Wheels) : (s.setWhl f).snapSeq = s.snapSeq := rfl
@[simp] theorem State.setWhl_tmrOvrSent (s : State) (f : Wheels → Wheels) : (s.setWhl f).tmrOvrSent = s.tmrOvrSent := rfl
@[simp] theorem State.setWhl_svc (s : State) (f : Wheels → Wheels) : (s.setWhl f).svc = s.svc := rfl
@[simp] theorem State.setWhl_fab (s : State) (f : Wheels → Wheels) : (s.setWhl f).fab = s.fab := rfl
@[simp] theorem State.setWhl_host (s : State) (f : Wheels → Wheels) : (s.setWhl f).host = s.host := rfl
@[simp] theorem State.setWhl_mnt (s : State) (f : Wheels → Wheels) : (s.setWhl f).mnt = s.mnt := rfl
@[simp] theorem State.setWhl_readers (s : State) (f : Wheels → Wheels) : (s.setWhl f).readers = s.readers := rfl
@[simp] theorem State.setWhl_bist (s : State) (f : Wheels → Wheels) : (s.setWhl f).bist = s.bist := rfl
@[simp] theorem State.setWhl_inj (s : State) (f : Wheels → Wheels) : (s.setWhl f).inj = s.inj := rfl
@[simp] theorem State.setWhl_pins (s : State) (f : Wheels → Wheels) : (s.setWhl f).pins = s.pins := rfl
@[simp] theorem State.setWhl_free (s : State) (f : Wheels → Wheels) : (s.setWhl f).free = s.free := rfl
@[simp] theorem State.setWhl_snapAt (s : State) (f : Wheels → Wheels) : (s.setWhl f).snapAt = s.snapAt := rfl
@[simp] theorem State.setWhl_hwSet (s : State) (f : Wheels → Wheels) : (s.setWhl f).hwSet = s.hwSet := rfl
@[simp] theorem State.setWhl_claims (s : State) (f : Wheels → Wheels) : (s.setWhl f).claims = s.claims := rfl
@[simp] theorem State.setWhl_jigCmds (s : State) (f : Wheels → Wheels) : (s.setWhl f).jigCmds = s.jigCmds := rfl
@[simp] theorem State.setWhl_was (s : State) (f : Wheels → Wheels) : (s.setWhl f).was = s.was := rfl
@[simp] theorem State.setWhl_roleMnt (s : State) (f : Wheels → Wheels) : (s.setWhl f).roleMnt = s.roleMnt := rfl
@[simp] theorem State.ddlSend_pending (s : State) (x : Xfer) : (s.ddlSend x).pending = s.pending := rfl
@[simp] theorem State.ddlSend_now (s : State) (x : Xfer) : (s.ddlSend x).now = s.now := rfl
@[simp] theorem State.ddlSend_sys (s : State) (x : Xfer) : (s.ddlSend x).sys = s.sys := rfl
@[simp] theorem State.ddlSend_ao (s : State) (x : Xfer) : (s.ddlSend x).ao = s.ao := rfl
@[simp] theorem State.ddlSend_otp (s : State) (x : Xfer) : (s.ddlSend x).otp = s.otp := rfl
@[simp] theorem State.ddlSend_regs (s : State) (x : Xfer) : (s.ddlSend x).regs = s.regs := rfl
@[simp] theorem State.ddlSend_mem (s : State) (x : Xfer) : (s.ddlSend x).mem = s.mem := rfl
@[simp] theorem State.ddlSend_coll (s : State) (x : Xfer) : (s.ddlSend x).coll = s.coll := rfl
@[simp] theorem State.ddlSend_whl (s : State) (x : Xfer) : (s.ddlSend x).whl = s.whl := rfl
@[simp] theorem State.ddlSend_prd (s : State) (x : Xfer) : (s.ddlSend x).prd = s.prd := rfl
@[simp] theorem State.ddlSend_clu (s : State) (x : Xfer) : (s.ddlSend x).clu = s.clu := rfl
@[simp] theorem State.ddlSend_work (s : State) (x : Xfer) : (s.ddlSend x).work = s.work := rfl
@[simp] theorem State.ddlSend_take (s : State) (x : Xfer) : (s.ddlSend x).take = s.take := rfl
@[simp] theorem State.ddlSend_edg (s : State) (x : Xfer) : (s.ddlSend x).edg = s.edg := rfl
@[simp] theorem State.ddlSend_drv (s : State) (x : Xfer) : (s.ddlSend x).drv = s.drv := rfl
@[simp] theorem State.ddlSend_ms (s : State) (x : Xfer) : (s.ddlSend x).ms = s.ms := rfl
@[simp] theorem State.ddlSend_trc (s : State) (x : Xfer) : (s.ddlSend x).trc = s.trc := rfl
@[simp] theorem State.ddlSend_jig (s : State) (x : Xfer) : (s.ddlSend x).jig = s.jig := rfl
@[simp] theorem State.ddlSend_tmr (s : State) (x : Xfer) : (s.ddlSend x).tmr = s.tmr := rfl
@[simp] theorem State.ddlSend_snapSeq (s : State) (x : Xfer) : (s.ddlSend x).snapSeq = s.snapSeq := rfl
@[simp] theorem State.ddlSend_tmrOvrSent (s : State) (x : Xfer) : (s.ddlSend x).tmrOvrSent = s.tmrOvrSent := rfl
@[simp] theorem State.ddlSend_svc (s : State) (x : Xfer) : (s.ddlSend x).svc = s.svc := rfl
@[simp] theorem State.ddlSend_fab (s : State) (x : Xfer) : (s.ddlSend x).fab = s.fab := rfl
@[simp] theorem State.ddlSend_host (s : State) (x : Xfer) : (s.ddlSend x).host = s.host := rfl
@[simp] theorem State.ddlSend_mnt (s : State) (x : Xfer) : (s.ddlSend x).mnt = s.mnt := rfl
@[simp] theorem State.ddlSend_readers (s : State) (x : Xfer) : (s.ddlSend x).readers = s.readers := rfl
@[simp] theorem State.ddlSend_bist (s : State) (x : Xfer) : (s.ddlSend x).bist = s.bist := rfl
@[simp] theorem State.ddlSend_inj (s : State) (x : Xfer) : (s.ddlSend x).inj = s.inj := rfl
@[simp] theorem State.ddlSend_pins (s : State) (x : Xfer) : (s.ddlSend x).pins = s.pins := rfl
@[simp] theorem State.ddlSend_free (s : State) (x : Xfer) : (s.ddlSend x).free = s.free := rfl
@[simp] theorem State.ddlSend_snapAt (s : State) (x : Xfer) : (s.ddlSend x).snapAt = s.snapAt := rfl
@[simp] theorem State.ddlSend_hwSet (s : State) (x : Xfer) : (s.ddlSend x).hwSet = s.hwSet := rfl
@[simp] theorem State.ddlSend_claims (s : State) (x : Xfer) : (s.ddlSend x).claims = s.claims := rfl
@[simp] theorem State.ddlSend_jigCmds (s : State) (x : Xfer) : (s.ddlSend x).jigCmds = s.jigCmds := rfl
@[simp] theorem State.ddlSend_was (s : State) (x : Xfer) : (s.ddlSend x).was = s.was := rfl
@[simp] theorem State.ddlSend_roleMnt (s : State) (x : Xfer) : (s.ddlSend x).roleMnt = s.roleMnt := rfl
@[simp] theorem State.useFree_pending (s : State) : (s.useFree).pending = s.pending := rfl
@[simp] theorem State.useFree_now (s : State) : (s.useFree).now = s.now := rfl
@[simp] theorem State.useFree_sys (s : State) : (s.useFree).sys = s.sys := rfl
@[simp] theorem State.useFree_ao (s : State) : (s.useFree).ao = s.ao := rfl
@[simp] theorem State.useFree_otp (s : State) : (s.useFree).otp = s.otp := rfl
@[simp] theorem State.useFree_regs (s : State) : (s.useFree).regs = s.regs := rfl
@[simp] theorem State.useFree_mem (s : State) : (s.useFree).mem = s.mem := rfl
@[simp] theorem State.useFree_coll (s : State) : (s.useFree).coll = s.coll := rfl
@[simp] theorem State.useFree_links (s : State) : (s.useFree).links = s.links := rfl
@[simp] theorem State.useFree_whl (s : State) : (s.useFree).whl = s.whl := rfl
@[simp] theorem State.useFree_prd (s : State) : (s.useFree).prd = s.prd := rfl
@[simp] theorem State.useFree_clu (s : State) : (s.useFree).clu = s.clu := rfl
@[simp] theorem State.useFree_work (s : State) : (s.useFree).work = s.work := rfl
@[simp] theorem State.useFree_take (s : State) : (s.useFree).take = s.take := rfl
@[simp] theorem State.useFree_edg (s : State) : (s.useFree).edg = s.edg := rfl
@[simp] theorem State.useFree_drv (s : State) : (s.useFree).drv = s.drv := rfl
@[simp] theorem State.useFree_ms (s : State) : (s.useFree).ms = s.ms := rfl
@[simp] theorem State.useFree_trc (s : State) : (s.useFree).trc = s.trc := rfl
@[simp] theorem State.useFree_jig (s : State) : (s.useFree).jig = s.jig := rfl
@[simp] theorem State.useFree_tmr (s : State) : (s.useFree).tmr = s.tmr := rfl
@[simp] theorem State.useFree_snapSeq (s : State) : (s.useFree).snapSeq = s.snapSeq := rfl
@[simp] theorem State.useFree_tmrOvrSent (s : State) : (s.useFree).tmrOvrSent = s.tmrOvrSent := rfl
@[simp] theorem State.useFree_svc (s : State) : (s.useFree).svc = s.svc := rfl
@[simp] theorem State.useFree_fab (s : State) : (s.useFree).fab = s.fab := rfl
@[simp] theorem State.useFree_host (s : State) : (s.useFree).host = s.host := rfl
@[simp] theorem State.useFree_mnt (s : State) : (s.useFree).mnt = s.mnt := rfl
@[simp] theorem State.useFree_readers (s : State) : (s.useFree).readers = s.readers := rfl
@[simp] theorem State.useFree_bist (s : State) : (s.useFree).bist = s.bist := rfl
@[simp] theorem State.useFree_inj (s : State) : (s.useFree).inj = s.inj := rfl
@[simp] theorem State.useFree_pins (s : State) : (s.useFree).pins = s.pins := rfl
@[simp] theorem State.useFree_snapAt (s : State) : (s.useFree).snapAt = s.snapAt := rfl
@[simp] theorem State.useFree_hwSet (s : State) : (s.useFree).hwSet = s.hwSet := rfl
@[simp] theorem State.useFree_claims (s : State) : (s.useFree).claims = s.claims := rfl
@[simp] theorem State.useFree_jigCmds (s : State) : (s.useFree).jigCmds = s.jigCmds := rfl
@[simp] theorem State.useFree_was (s : State) : (s.useFree).was = s.was := rfl
@[simp] theorem State.useFree_roleMnt (s : State) : (s.useFree).roleMnt = s.roleMnt := rfl
@[simp] theorem State.settle_pending (s : State) : (s.settle).pending = s.pending := rfl
@[simp] theorem State.settle_now (s : State) : (s.settle).now = s.now := rfl
@[simp] theorem State.settle_sys (s : State) : (s.settle).sys = s.sys := rfl
@[simp] theorem State.settle_ao (s : State) : (s.settle).ao = s.ao := rfl
@[simp] theorem State.settle_otp (s : State) : (s.settle).otp = s.otp := rfl
@[simp] theorem State.settle_regs (s : State) : (s.settle).regs = s.regs := rfl
@[simp] theorem State.settle_mem (s : State) : (s.settle).mem = s.mem := rfl
@[simp] theorem State.settle_coll (s : State) : (s.settle).coll = s.coll := rfl
@[simp] theorem State.settle_links (s : State) : (s.settle).links = s.links := rfl
@[simp] theorem State.settle_whl (s : State) : (s.settle).whl = s.whl := rfl
@[simp] theorem State.settle_prd (s : State) : (s.settle).prd = s.prd := rfl
@[simp] theorem State.settle_clu (s : State) : (s.settle).clu = s.clu := rfl
@[simp] theorem State.settle_work (s : State) : (s.settle).work = s.work := rfl
@[simp] theorem State.settle_take (s : State) : (s.settle).take = s.take := rfl
@[simp] theorem State.settle_edg (s : State) : (s.settle).edg = s.edg := rfl
@[simp] theorem State.settle_drv (s : State) : (s.settle).drv = s.drv := rfl
@[simp] theorem State.settle_ms (s : State) : (s.settle).ms = s.ms := rfl
@[simp] theorem State.settle_trc (s : State) : (s.settle).trc = s.trc := rfl
@[simp] theorem State.settle_jig (s : State) : (s.settle).jig = s.jig := rfl
@[simp] theorem State.settle_tmr (s : State) : (s.settle).tmr = s.tmr := rfl
@[simp] theorem State.settle_snapSeq (s : State) : (s.settle).snapSeq = s.snapSeq := rfl
@[simp] theorem State.settle_tmrOvrSent (s : State) : (s.settle).tmrOvrSent = s.tmrOvrSent := rfl
@[simp] theorem State.settle_svc (s : State) : (s.settle).svc = s.svc := rfl
@[simp] theorem State.settle_fab (s : State) : (s.settle).fab = s.fab := rfl
@[simp] theorem State.settle_host (s : State) : (s.settle).host = s.host := rfl
@[simp] theorem State.settle_mnt (s : State) : (s.settle).mnt = s.mnt := rfl
@[simp] theorem State.settle_readers (s : State) : (s.settle).readers = s.readers := rfl
@[simp] theorem State.settle_bist (s : State) : (s.settle).bist = s.bist := rfl
@[simp] theorem State.settle_inj (s : State) : (s.settle).inj = s.inj := rfl
@[simp] theorem State.settle_free (s : State) : (s.settle).free = s.free := rfl
@[simp] theorem State.settle_snapAt (s : State) : (s.settle).snapAt = s.snapAt := rfl
@[simp] theorem State.settle_hwSet (s : State) : (s.settle).hwSet = s.hwSet := rfl
@[simp] theorem State.settle_claims (s : State) : (s.settle).claims = s.claims := rfl
@[simp] theorem State.settle_jigCmds (s : State) : (s.settle).jigCmds = s.jigCmds := rfl
@[simp] theorem State.settle_was (s : State) : (s.settle).was = s.was := rfl
@[simp] theorem State.settle_roleMnt (s : State) : (s.settle).roleMnt = s.roleMnt := rfl
@[simp] theorem State.hostAnswer_pending (s : State) (st : Status) (data : List Word) (index : Nat) : (s.hostAnswer st data index).pending = s.pending := rfl
@[simp] theorem State.hostAnswer_now (s : State) (st : Status) (data : List Word) (index : Nat) : (s.hostAnswer st data index).now = s.now := rfl
@[simp] theorem State.hostAnswer_sys (s : State) (st : Status) (data : List Word) (index : Nat) : (s.hostAnswer st data index).sys = s.sys := rfl
@[simp] theorem State.hostAnswer_ao (s : State) (st : Status) (data : List Word) (index : Nat) : (s.hostAnswer st data index).ao = s.ao := rfl
@[simp] theorem State.hostAnswer_otp (s : State) (st : Status) (data : List Word) (index : Nat) : (s.hostAnswer st data index).otp = s.otp := rfl
@[simp] theorem State.hostAnswer_regs (s : State) (st : Status) (data : List Word) (index : Nat) : (s.hostAnswer st data index).regs = s.regs := rfl
@[simp] theorem State.hostAnswer_mem (s : State) (st : Status) (data : List Word) (index : Nat) : (s.hostAnswer st data index).mem = s.mem := rfl
@[simp] theorem State.hostAnswer_coll (s : State) (st : Status) (data : List Word) (index : Nat) : (s.hostAnswer st data index).coll = s.coll := rfl
@[simp] theorem State.hostAnswer_links (s : State) (st : Status) (data : List Word) (index : Nat) : (s.hostAnswer st data index).links = s.links := rfl
@[simp] theorem State.hostAnswer_whl (s : State) (st : Status) (data : List Word) (index : Nat) : (s.hostAnswer st data index).whl = s.whl := rfl
@[simp] theorem State.hostAnswer_prd (s : State) (st : Status) (data : List Word) (index : Nat) : (s.hostAnswer st data index).prd = s.prd := rfl
@[simp] theorem State.hostAnswer_clu (s : State) (st : Status) (data : List Word) (index : Nat) : (s.hostAnswer st data index).clu = s.clu := rfl
@[simp] theorem State.hostAnswer_work (s : State) (st : Status) (data : List Word) (index : Nat) : (s.hostAnswer st data index).work = s.work := rfl
@[simp] theorem State.hostAnswer_take (s : State) (st : Status) (data : List Word) (index : Nat) : (s.hostAnswer st data index).take = s.take := rfl
@[simp] theorem State.hostAnswer_edg (s : State) (st : Status) (data : List Word) (index : Nat) : (s.hostAnswer st data index).edg = s.edg := rfl
@[simp] theorem State.hostAnswer_drv (s : State) (st : Status) (data : List Word) (index : Nat) : (s.hostAnswer st data index).drv = s.drv := rfl
@[simp] theorem State.hostAnswer_ms (s : State) (st : Status) (data : List Word) (index : Nat) : (s.hostAnswer st data index).ms = s.ms := rfl
@[simp] theorem State.hostAnswer_trc (s : State) (st : Status) (data : List Word) (index : Nat) : (s.hostAnswer st data index).trc = s.trc := rfl
@[simp] theorem State.hostAnswer_jig (s : State) (st : Status) (data : List Word) (index : Nat) : (s.hostAnswer st data index).jig = s.jig := rfl
@[simp] theorem State.hostAnswer_tmr (s : State) (st : Status) (data : List Word) (index : Nat) : (s.hostAnswer st data index).tmr = s.tmr := rfl
@[simp] theorem State.hostAnswer_snapSeq (s : State) (st : Status) (data : List Word) (index : Nat) : (s.hostAnswer st data index).snapSeq = s.snapSeq := rfl
@[simp] theorem State.hostAnswer_tmrOvrSent (s : State) (st : Status) (data : List Word) (index : Nat) : (s.hostAnswer st data index).tmrOvrSent = s.tmrOvrSent := rfl
@[simp] theorem State.hostAnswer_svc (s : State) (st : Status) (data : List Word) (index : Nat) : (s.hostAnswer st data index).svc = s.svc := rfl
@[simp] theorem State.hostAnswer_fab (s : State) (st : Status) (data : List Word) (index : Nat) : (s.hostAnswer st data index).fab = s.fab := rfl
@[simp] theorem State.hostAnswer_mnt (s : State) (st : Status) (data : List Word) (index : Nat) : (s.hostAnswer st data index).mnt = s.mnt := rfl
@[simp] theorem State.hostAnswer_readers (s : State) (st : Status) (data : List Word) (index : Nat) : (s.hostAnswer st data index).readers = s.readers := rfl
@[simp] theorem State.hostAnswer_bist (s : State) (st : Status) (data : List Word) (index : Nat) : (s.hostAnswer st data index).bist = s.bist := rfl
@[simp] theorem State.hostAnswer_inj (s : State) (st : Status) (data : List Word) (index : Nat) : (s.hostAnswer st data index).inj = s.inj := rfl
@[simp] theorem State.hostAnswer_pins (s : State) (st : Status) (data : List Word) (index : Nat) : (s.hostAnswer st data index).pins = s.pins := rfl
@[simp] theorem State.hostAnswer_free (s : State) (st : Status) (data : List Word) (index : Nat) : (s.hostAnswer st data index).free = s.free := rfl
@[simp] theorem State.hostAnswer_snapAt (s : State) (st : Status) (data : List Word) (index : Nat) : (s.hostAnswer st data index).snapAt = s.snapAt := rfl
@[simp] theorem State.hostAnswer_hwSet (s : State) (st : Status) (data : List Word) (index : Nat) : (s.hostAnswer st data index).hwSet = s.hwSet := rfl
@[simp] theorem State.hostAnswer_claims (s : State) (st : Status) (data : List Word) (index : Nat) : (s.hostAnswer st data index).claims = s.claims := rfl
@[simp] theorem State.hostAnswer_jigCmds (s : State) (st : Status) (data : List Word) (index : Nat) : (s.hostAnswer st data index).jigCmds = s.jigCmds := rfl
@[simp] theorem State.hostAnswer_was (s : State) (st : Status) (data : List Word) (index : Nat) : (s.hostAnswer st data index).was = s.was := rfl
@[simp] theorem State.hostAnswer_roleMnt (s : State) (st : Status) (data : List Word) (index : Nat) : (s.hostAnswer st data index).roleMnt = s.roleMnt := rfl
@[simp] theorem State.sealFlush_pending (s : State) : (s.sealFlush).pending = s.pending := rfl
@[simp] theorem State.sealFlush_now (s : State) : (s.sealFlush).now = s.now := rfl
@[simp] theorem State.sealFlush_sys (s : State) : (s.sealFlush).sys = s.sys := rfl
@[simp] theorem State.sealFlush_otp (s : State) : (s.sealFlush).otp = s.otp := rfl
@[simp] theorem State.sealFlush_regs (s : State) : (s.sealFlush).regs = s.regs := rfl
@[simp] theorem State.sealFlush_mem (s : State) : (s.sealFlush).mem = s.mem := rfl
@[simp] theorem State.sealFlush_coll (s : State) : (s.sealFlush).coll = s.coll := rfl
@[simp] theorem State.sealFlush_links (s : State) : (s.sealFlush).links = s.links := rfl
@[simp] theorem State.sealFlush_whl (s : State) : (s.sealFlush).whl = s.whl := rfl
@[simp] theorem State.sealFlush_prd (s : State) : (s.sealFlush).prd = s.prd := rfl
@[simp] theorem State.sealFlush_clu (s : State) : (s.sealFlush).clu = s.clu := rfl
@[simp] theorem State.sealFlush_work (s : State) : (s.sealFlush).work = s.work := rfl
@[simp] theorem State.sealFlush_take (s : State) : (s.sealFlush).take = s.take := rfl
@[simp] theorem State.sealFlush_edg (s : State) : (s.sealFlush).edg = s.edg := rfl
@[simp] theorem State.sealFlush_drv (s : State) : (s.sealFlush).drv = s.drv := rfl
@[simp] theorem State.sealFlush_ms (s : State) : (s.sealFlush).ms = s.ms := rfl
@[simp] theorem State.sealFlush_trc (s : State) : (s.sealFlush).trc = s.trc := rfl
@[simp] theorem State.sealFlush_jig (s : State) : (s.sealFlush).jig = s.jig := rfl
@[simp] theorem State.sealFlush_tmr (s : State) : (s.sealFlush).tmr = s.tmr := rfl
@[simp] theorem State.sealFlush_snapSeq (s : State) : (s.sealFlush).snapSeq = s.snapSeq := rfl
@[simp] theorem State.sealFlush_tmrOvrSent (s : State) : (s.sealFlush).tmrOvrSent = s.tmrOvrSent := rfl
@[simp] theorem State.sealFlush_svc (s : State) : (s.sealFlush).svc = s.svc := rfl
@[simp] theorem State.sealFlush_fab (s : State) : (s.sealFlush).fab = s.fab := rfl
@[simp] theorem State.sealFlush_host (s : State) : (s.sealFlush).host = s.host := rfl
@[simp] theorem State.sealFlush_mnt (s : State) : (s.sealFlush).mnt = s.mnt := rfl
@[simp] theorem State.sealFlush_readers (s : State) : (s.sealFlush).readers = s.readers := rfl
@[simp] theorem State.sealFlush_bist (s : State) : (s.sealFlush).bist = s.bist := rfl
@[simp] theorem State.sealFlush_pins (s : State) : (s.sealFlush).pins = s.pins := rfl
@[simp] theorem State.sealFlush_free (s : State) : (s.sealFlush).free = s.free := rfl
@[simp] theorem State.sealFlush_snapAt (s : State) : (s.sealFlush).snapAt = s.snapAt := rfl
@[simp] theorem State.sealFlush_hwSet (s : State) : (s.sealFlush).hwSet = s.hwSet := rfl
@[simp] theorem State.sealFlush_claims (s : State) : (s.sealFlush).claims = s.claims := rfl
@[simp] theorem State.sealFlush_jigCmds (s : State) : (s.sealFlush).jigCmds = s.jigCmds := rfl
@[simp] theorem State.sealFlush_was (s : State) : (s.sealFlush).was = s.was := rfl
@[simp] theorem State.sealFlush_roleMnt (s : State) : (s.sealFlush).roleMnt = s.roleMnt := rfl

end Sys2Proof.Machine
end

