-- ==== Sys2Proof/Laws/Ops.lean ====
section
/-! SUPPORT. The laws of the sparse stores and of the memory and register operations over them, and how every command ends. -/

namespace Sys2Proof.Machine

/-! ### Sparse stores -/

/-- Dropping or keeping entries of other addresses does not change what an address reads as. -/
theorem sparseGet_filter_ne {α : Type} (d : α) {a b : Nat} (h : b ≠ a) (l : List (Nat × α)) :
    sparseGet d (l.filter fun x => decide (x.1 ≠ a)) b = sparseGet d l b := by
  induction l with
  | nil => rfl
  | cons x t ih =>
    obtain ⟨c, w⟩ := x
    by_cases hc : c = a
    · subst hc
      simpa [sparseGet, h] using ih
    · simp only [List.filter_cons, ne_eq, hc, not_false_eq_true, decide_true, if_true, sparseGet]
      rw [ih]

theorem sparseGet_ins_ne {α : Type} (d : α) {a b : Nat} (h : b ≠ a) (v : α) (l : List (Nat × α)) :
    sparseGet d (sparseIns a v l) b = sparseGet d l b := by
  induction l with
  | nil => simp [sparseIns, sparseGet, h]
  | cons x t ih =>
    obtain ⟨c, w⟩ := x
    unfold sparseIns
    split
    · simp [sparseGet, h]
    · simp [sparseGet, ih]

theorem sparseGet_ins {α : Type} (d : α) (a : Nat) (v : α) (l : List (Nat × α)) (h : ∀ x ∈ l, x.1 ≠ a) :
    sparseGet d (sparseIns a v l) a = v := by
  induction l with
  | nil => simp [sparseIns, sparseGet]
  | cons x t ih =>
    obtain ⟨c, w⟩ := x
    unfold sparseIns
    split
    · simp [sparseGet]
    · have hc : a ≠ c := fun e => h (c, w) (by simp) e.symm
      simp only [sparseGet, hc, if_false]
      exact ih fun x hx => h x (by simp [hx])

theorem sparseGet_none {α : Type} (d : α) (a : Nat) (l : List (Nat × α)) (h : ∀ x ∈ l, x.1 ≠ a) : sparseGet d l a = d := by
  induction l with
  | nil => rfl
  | cons x t ih =>
    obtain ⟨c, w⟩ := x
    have hc : a ≠ c := fun e => h (c, w) (by simp) e.symm
    simp only [sparseGet, hc, if_false]
    exact ih fun x hx => h x (by simp [hx])

/-- Writing one address leaves every other as it reads, whatever each reads as when unlisted. -/
theorem sparseGet_set_ne {α : Type} [DecidableEq α] (d e : α) {a b : Nat} (h : b ≠ a) (v : α) (l : List (Nat × α)) :
    sparseGet d (sparseSet e a v l) b = sparseGet d l b := by
  unfold sparseSet
  dsimp only
  split
  · exact sparseGet_filter_ne d h l
  · rw [sparseGet_ins_ne d h, sparseGet_filter_ne d h]

/-- A write reads back. -/
theorem sparseGet_set {α : Type} [DecidableEq α] (d : α) (a : Nat) (v : α) (l : List (Nat × α)) :
    sparseGet d (sparseSet d a v l) a = v := by
  unfold sparseSet
  dsimp only
  split
  · rename_i hv
    rw [sparseGet_none d a _ (by simp), hv]
  · exact sparseGet_ins d a v _ (by simp)

/-- Every listed address of a list in the canonical form is at least n. -/
def sparseFrom {α : Type} [DecidableEq α] (d : α) (n : Nat) : List (Nat × α) → Prop
  | [] => True
  | (a, v) :: t => n ≤ a ∧ v ≠ d ∧ sparseFrom d (a + 1) t

theorem sparseFrom_mono {α : Type} [DecidableEq α] (d : α) {m n : Nat} (h : m ≤ n) {l : List (Nat × α)}
    (hl : sparseFrom d n l) : sparseFrom d m l := by
  cases l with
  | nil => trivial
  | cons x t => exact ⟨le_trans h hl.1, hl.2⟩

/-- The canonical form is the chain of rising addresses. -/
theorem sparseWf_iff {α : Type} [DecidableEq α] (d : α) (l : List (Nat × α)) : sparseWf d l = true ↔ sparseFrom d 0 l := by
  have key : ∀ (l : List (Nat × α)) (n : Nat), sparseFrom d n l ↔ (sparseWf d l = true ∧ ∀ x ∈ l.head?, n ≤ x.1) := by
    intro l
    induction l with
    | nil => intro n; simp [sparseFrom, sparseWf]
    | cons x t ih =>
      intro n
      obtain ⟨a, v⟩ := x
      cases t with
      | nil => simp [sparseFrom, sparseWf, and_comm]
      | cons y t =>
        obtain ⟨b, w⟩ := y
        have := ih (a + 1)
        simp only [sparseFrom] at this ⊢
        rw [this]
        simp [sparseWf]
        tauto
  have := key l 0
  rw [this]
  simp

theorem sparseFrom_filter {α : Type} [DecidableEq α] (d : α) (p : Nat × α → Bool) {n : Nat} {l : List (Nat × α)}
    (hl : sparseFrom d n l) : sparseFrom d n (l.filter p) := by
  induction l generalizing n with
  | nil => trivial
  | cons x t ih =>
    obtain ⟨b, w⟩ := x
    obtain ⟨h1, h2, h3⟩ := hl
    rw [List.filter_cons]
    split
    · exact ⟨h1, h2, ih h3⟩
    · exact sparseFrom_mono d (by omega) (ih h3)

theorem sparseFrom_ins {α : Type} [DecidableEq α] (d : α) (a : Nat) (v : α) (hv : v ≠ d) {n : Nat} {l : List (Nat × α)}
    (hl : sparseFrom d n l) (h : n ≤ a) (ha : ∀ x ∈ l, x.1 ≠ a) : sparseFrom d n (sparseIns a v l) := by
  induction l generalizing n with
  | nil => exact ⟨h, hv, trivial⟩
  | cons x t ih =>
    obtain ⟨b, w⟩ := x
    obtain ⟨h1, h2, h3⟩ := hl
    unfold sparseIns
    split
    · rename_i hab
      exact ⟨h, hv, hab, h2, h3⟩
    · rename_i hab
      have hb : b ≠ a := ha (b, w) (by simp)
      exact ⟨h1, h2, ih h3 (by omega) fun x hx => ha x (by simp [hx])⟩

/-- Dropping entries keeps the canonical form. -/
theorem sparseWf_filter {α : Type} [DecidableEq α] (d : α) (p : Nat × α → Bool) {l : List (Nat × α)} (hl : sparseWf d l = true) :
    sparseWf d (l.filter p) = true :=
  (sparseWf_iff d _).mpr (sparseFrom_filter d p ((sparseWf_iff d l).mp hl))

/-- A write keeps the canonical form. -/
theorem sparseSet_wf {α : Type} [DecidableEq α] (d : α) (a : Nat) (v : α) {l : List (Nat × α)} (hl : sparseWf d l = true) :
    sparseWf d (sparseSet d a v l) = true := by
  unfold sparseSet
  dsimp only
  split
  · exact sparseWf_filter d _ hl
  · rename_i hv
    exact (sparseWf_iff d _).mpr (sparseFrom_ins d a v hv (sparseFrom_filter d _ ((sparseWf_iff d l).mp hl)) (Nat.zero_le a) (by simp))

/-! ### Byte memory -/

theorem State.setByte_wf (s : State) (a : Nat) (b : Byte) (h : Memory.wf s.mem = true) : Memory.wf (s.setByte a b).mem = true :=
  sparseSet_wf 0 a b h

theorem State.setWord_wf (s : State) (a : Nat) (w : Word) (h : Memory.wf s.mem = true) : Memory.wf (s.setWord a w).mem = true :=
  State.setByte_wf _ _ _ (State.setByte_wf _ _ _ (State.setByte_wf _ _ _ (State.setByte_wf _ _ _ h)))

theorem State.setWords_wf (s : State) (a : Nat) (ws : List Word) (h : Memory.wf s.mem = true) :
    Memory.wf (s.setWords a ws).mem = true := by
  induction ws generalizing s a with
  | nil => exact h
  | cons w t ih => exact ih _ _ (State.setWord_wf s a w h)

theorem State.setByte_byte_ne (s : State) {a b : Nat} (v : Byte) (h : b ≠ a) : (s.setByte a v).byte b = s.byte b :=
  sparseGet_set_ne 0 0 h v s.mem

@[simp] theorem State.setByte_byte (s : State) (a : Nat) (v : Byte) : (s.setByte a v).byte a = v := sparseGet_set 0 a v s.mem

/-- A word write changes its own four bytes only. -/
theorem State.setWord_byte (s : State) (a : Nat) (w : Word) {b : Nat} (h : b < a ∨ a + 4 ≤ b) :
    (s.setWord a w).byte b = s.byte b := by
  unfold State.setWord
  rw [State.setByte_byte_ne _ _ (by omega), State.setByte_byte_ne _ _ (by omega), State.setByte_byte_ne _ _ (by omega),
    State.setByte_byte_ne _ _ (by omega)]

/-! ### Register words -/

/-- Storing one register word leaves every register at another address as it reads. -/
theorem State.setRg_rg_ne (s : State) (r q : RegRow) (i j k l : Nat) (w : Word) (h : q.addr k l ≠ r.addr i j) :
    (s.setRg r i j w).rg q k l = s.rg q k l := sparseGet_set_ne _ _ h w s.regs

/-- A stored register word reads back. -/
@[simp] theorem State.setRg_rg (s : State) (r : RegRow) (i j : Nat) (w : Word) : (s.setRg r i j w).rg r i j = w :=
  sparseGet_set _ _ w s.regs

/-! ### Time -/

/-- A register outside the always-on system range keeps its word when a staged write takes effect. -/
theorem State.commitOne_get (t : State) (a : Nat) (v : Word) (d : Word) {b : Nat} (h : alwaysOnSys b = false) :
    sparseGet d (t.commitOne a v).regs b = sparseGet d t.regs b := by
  have ne : ∀ {x : Nat}, alwaysOnSys x = true → b ≠ x := by
    intro x hx e
    rw [e, hx] at h
    cases h
  unfold State.commitOne
  split
  · rfl
  · split
    · exact (sparseGet_set_ne _ _ (ne (by decide)) _ _).trans (sparseGet_set_ne _ _ (ne (by decide)) _ _)
    · split
      · rfl
      · rename_i ha
        split
        · rename_i r hr
          have hb := List.find?_some hr
          have hb : r.base = a := by simpa using hb
          refine sparseGet_set_ne _ _ (ne ?_) _ _
          have : r.addr 0 0 = a := by simp [RegRow.addr, hb]
          rw [this]
          simpa using ha
        · rfl

theorem State.commitStaged_get (s : State) (d : Word) {b : Nat} (h : alwaysOnSys b = false) :
    sparseGet d s.commitStaged.regs b = sparseGet d s.regs b := by
  show sparseGet d (List.foldl (fun (t : State) (x : Nat × Word) => t.commitOne x.1 x.2) s s.ao.staged).regs b = _
  generalize s.ao.staged = l
  induction l generalizing s with
  | nil => rfl
  | cons x t ih => exact (ih _).trans (State.commitOne_get s x.1 x.2 d h)

/-- Time changes no register outside the always-on system range. -/
theorem State.advanceTo_get (s : State) (n : Nat) (d : Word) {b : Nat} (h : alwaysOnSys b = false) :
    sparseGet d (s.advanceTo n).regs b = sparseGet d s.regs b := by
  unfold State.advanceTo
  split
  · rfl
  · show sparseGet d (s.sclkEdges _).regs b = _
    unfold State.sclkEdges
    split
    · rfl
    · exact State.commitStaged_get s d h

/-- A staged write changes the always-on domain and its registers only. -/
theorem State.commitOne_frame (s : State) (a : Nat) (v : Word) :
    s.commitOne a v = { s with ao := (s.commitOne a v).ao, regs := (s.commitOne a v).regs } := by
  unfold State.commitOne
  split
  · rfl
  · split
    · rfl
    · split
      · rfl
      · split <;> rfl

theorem State.commitStaged_frame (s : State) : s.commitStaged = { s with ao := s.commitStaged.ao, regs := s.commitStaged.regs } := by
  have key : ∀ (l : List (Nat × Word)) (s : State),
      let t := l.foldl (fun (t : State) (x : Nat × Word) => t.commitOne x.1 x.2) s
      t = { s with ao := t.ao, regs := t.regs } := by
    intro l
    induction l with
    | nil => intro s; rfl
    | cons x l ih =>
      intro s
      have h := State.commitOne_frame s x.1 x.2
      have e : ∀ A R, ({ s.commitOne x.1 x.2 with ao := A, regs := R } : State) = { s with ao := A, regs := R } := by
        intro A R; rw [h]
      exact (ih (s.commitOne x.1 x.2)).trans (e _ _)
  have h := key s.ao.staged s
  simp only [State.commitStaged]
  let seen (t : State) : Scribe := t.ao.scribeNext.getD t.ao.scribe
  exact congrArg (fun t : State =>
    { t with ao := { t.ao with
      staged := [], scribe := seen t, scribeNext := none, scribeSeen := seen t, scribePrev := t.ao.scribeSeen } }) h

/-- Time changes the count of TCLK, the always-on domain and its registers, and nothing else. -/
theorem State.advanceTo_frame (s : State) (n : Nat) :
    s.advanceTo n = { s with now := (s.advanceTo n).now, ao := (s.advanceTo n).ao, regs := (s.advanceTo n).regs } := by
  unfold State.advanceTo
  split
  · rfl
  · dsimp only
    unfold State.sclkEdges
    split
    · rfl
    · rw [State.commitStaged_frame]

@[simp] theorem State.advanceTo_now (s : State) (n : Nat) : (s.advanceTo n).now = max s.now n := by
  unfold State.advanceTo
  split
  · omega
  · dsimp only; omega

@[simp] theorem State.advanceTo_pending (s : State) (n : Nat) : (s.advanceTo n).pending = s.pending := by rw [State.advanceTo_frame]
@[simp] theorem State.advanceTo_sys (s : State) (n : Nat) : (s.advanceTo n).sys = s.sys := by rw [State.advanceTo_frame]
@[simp] theorem State.advanceTo_otp (s : State) (n : Nat) : (s.advanceTo n).otp = s.otp := by rw [State.advanceTo_frame]
@[simp] theorem State.advanceTo_mem (s : State) (n : Nat) : (s.advanceTo n).mem = s.mem := by rw [State.advanceTo_frame]
@[simp] theorem State.advanceTo_coll (s : State) (n : Nat) : (s.advanceTo n).coll = s.coll := by rw [State.advanceTo_frame]
@[simp] theorem State.advanceTo_links (s : State) (n : Nat) : (s.advanceTo n).links = s.links := by rw [State.advanceTo_frame]
@[simp] theorem State.advanceTo_whl (s : State) (n : Nat) : (s.advanceTo n).whl = s.whl := by rw [State.advanceTo_frame]
@[simp] theorem State.advanceTo_prd (s : State) (n : Nat) : (s.advanceTo n).prd = s.prd := by rw [State.advanceTo_frame]
@[simp] theorem State.advanceTo_clu (s : State) (n : Nat) : (s.advanceTo n).clu = s.clu := by rw [State.advanceTo_frame]
@[simp] theorem State.advanceTo_work (s : State) (n : Nat) : (s.advanceTo n).work = s.work := by rw [State.advanceTo_frame]
@[simp] theorem State.advanceTo_take (s : State) (n : Nat) : (s.advanceTo n).take = s.take := by rw [State.advanceTo_frame]
@[simp] theorem State.advanceTo_edg (s : State) (n : Nat) : (s.advanceTo n).edg = s.edg := by rw [State.advanceTo_frame]
@[simp] theorem State.advanceTo_drv (s : State) (n : Nat) : (s.advanceTo n).drv = s.drv := by rw [State.advanceTo_frame]
@[simp] theorem State.advanceTo_ms (s : State) (n : Nat) : (s.advanceTo n).ms = s.ms := by rw [State.advanceTo_frame]
@[simp] theorem State.advanceTo_trc (s : State) (n : Nat) : (s.advanceTo n).trc = s.trc := by rw [State.advanceTo_frame]
@[simp] theorem State.advanceTo_jig (s : State) (n : Nat) : (s.advanceTo n).jig = s.jig := by rw [State.advanceTo_frame]
@[simp] theorem State.advanceTo_tmr (s : State) (n : Nat) : (s.advanceTo n).tmr = s.tmr := by rw [State.advanceTo_frame]
@[simp] theorem State.advanceTo_snapSeq (s : State) (n : Nat) : (s.advanceTo n).snapSeq = s.snapSeq := by rw [State.advanceTo_frame]
@[simp] theorem State.advanceTo_tmrOvrSent (s : State) (n : Nat) : (s.advanceTo n).tmrOvrSent = s.tmrOvrSent := by rw [State.advanceTo_frame]
@[simp] theorem State.advanceTo_svc (s : State) (n : Nat) : (s.advanceTo n).svc = s.svc := by rw [State.advanceTo_frame]
@[simp] theorem State.advanceTo_fab (s : State) (n : Nat) : (s.advanceTo n).fab = s.fab := by rw [State.advanceTo_frame]
@[simp] theorem State.advanceTo_host (s : State) (n : Nat) : (s.advanceTo n).host = s.host := by rw [State.advanceTo_frame]
@[simp] theorem State.advanceTo_mnt (s : State) (n : Nat) : (s.advanceTo n).mnt = s.mnt := by rw [State.advanceTo_frame]
@[simp] theorem State.advanceTo_readers (s : State) (n : Nat) : (s.advanceTo n).readers = s.readers := by rw [State.advanceTo_frame]
@[simp] theorem State.advanceTo_bist (s : State) (n : Nat) : (s.advanceTo n).bist = s.bist := by rw [State.advanceTo_frame]
@[simp] theorem State.advanceTo_inj (s : State) (n : Nat) : (s.advanceTo n).inj = s.inj := by rw [State.advanceTo_frame]
@[simp] theorem State.advanceTo_pins (s : State) (n : Nat) : (s.advanceTo n).pins = s.pins := by rw [State.advanceTo_frame]
@[simp] theorem State.advanceTo_free (s : State) (n : Nat) : (s.advanceTo n).free = s.free := by rw [State.advanceTo_frame]
@[simp] theorem State.advanceTo_snapAt (s : State) (n : Nat) : (s.advanceTo n).snapAt = s.snapAt := by rw [State.advanceTo_frame]
@[simp] theorem State.advanceTo_hwSet (s : State) (n : Nat) : (s.advanceTo n).hwSet = s.hwSet := by rw [State.advanceTo_frame]
@[simp] theorem State.advanceTo_jigCmds (s : State) (n : Nat) : (s.advanceTo n).jigCmds = s.jigCmds := by rw [State.advanceTo_frame]
@[simp] theorem State.advanceTo_was (s : State) (n : Nat) : (s.advanceTo n).was = s.was := by rw [State.advanceTo_frame]
@[simp] theorem State.advanceTo_claims (s : State) (n : Nat) : (s.advanceTo n).claims = s.claims := by rw [State.advanceTo_frame]
@[simp] theorem State.advanceTo_roleMnt (s : State) (n : Nat) : (s.advanceTo n).roleMnt = s.roleMnt := by rw [State.advanceTo_frame]

theorem State.advanceTo_rg (s : State) (n : Nat) (r : RegRow) (i j : Nat) (h : alwaysOnSys (r.addr i j) = false) :
    (s.advanceTo n).rg r i j = s.rg r i j := State.advanceTo_get s n _ h

/-! ### Messages, notes and claims -/

/-- A count-up changes the registers and the bits set in this TCLK, and nothing else. -/
theorem State.bump_frame (s : State) (r : RegRow) (i hi lo : Nat) :
    s.bump r i hi lo = { s with regs := (s.bump r i hi lo).regs, hwSet := (s.bump r i hi lo).hwSet } := by
  simp only [State.bump, State.setRf, State.setRg, State.hw]
  split
  · split <;> rfl
  · rfl

/-- A message changes the collector, the driver-die link and the count of lost messages, and nothing else. -/
theorem State.emit_frame (s : State) (cls kind src ctx : Nat) :
    s.emit cls kind src ctx = { s with
      coll := (s.emit cls kind src ctx).coll, links := (s.emit cls kind src ctx).links
      regs := (s.emit cls kind src ctx).regs, hwSet := (s.emit cls kind src ctx).hwSet } := by
  dsimp only [State.emit, State.ddlSend]
  split <;> split <;> first | rfl | rw [State.bump_frame]

/-- An access note changes what a message changes. -/
theorem State.note_frame (s : State) (kind : Nat) (p : Fin 11) (addr : Nat) :
    s.note kind p addr = { s with
      coll := (s.note kind p addr).coll, links := (s.note kind p addr).links
      regs := (s.note kind p addr).regs, hwSet := (s.note kind p addr).hwSet } :=
  State.emit_frame s 0 kind (portSrc p) (addr % 2 ^ 32)

/-- A claim that overtakes a port's write notes it and ends its access, and changes nothing else. -/
theorem State.overtaken_frame (s : State) (reg rank : Nat) :
    s.overtaken reg rank = { s with
      coll := (s.overtaken reg rank).coll, links := (s.overtaken reg rank).links
      regs := (s.overtaken reg rank).regs, hwSet := (s.overtaken reg rank).hwSet
      host := (s.overtaken reg rank).host, mnt := (s.overtaken reg rank).mnt } := by
  unfold State.overtaken
  split
  · rfl
  · split
    · rfl
    · split
      · rw [State.note_frame]
      · split
        · rw [State.note_frame]
        · rfl

/-! ### How every command ends -/

/-- Bringing the balls up to date changes nothing that they follow from. -/
theorem State.settle_pinsOf (s : State) : s.settle.pinsOf = s.pinsOf := rfl

theorem State.settle_settled (s : State) : s.settle.settled := (State.settle_pinsOf s).symm

theorem State.idle_settled (s : State) : s.idle.settled := State.settle_settled _

end Sys2Proof.Machine
end

