-- ==== Sys2Proof/Laws/Access.lean ====
section
/-! SUPPORT. What an access by a port does once its address is known, and the addresses of the rows that the commands name. -/

namespace Sys2Proof.Machine

/-- The address is a register's and nothing else's: not of a cluster SRAM, of trace memory, of a peg table or of test mode, and not
in the measurement region while it is gated. -/
structure State.RegAddr (s : State) (a : Nat) (r : RegRow) (i j : Nat) : Prop where
  aligned : a % 4 = 0
  sram : sramAt a = none
  trace : traceAt a = none
  peg : s.pegAt a = none
  live : s.gatedAt a = false
  test : testReg a = false
  row : findReg a = some (r, i, j)

/-- An access outside the driver die, the measurement region and the trace registers changes nothing on its way. -/
theorem State.reach_here {s : State} {a : Nat} (h : a < 0x20000000 ∨ (0x40000000 ≤ a ∧ a < 0x70004000) ∨ 0x70005000 ≤ a) (link : Bool) :
    s.reach a link = (s, true) := by
  have h1 : driverAt a = false := by simp only [driverAt, Bool.and_eq_false_iff, decide_eq_false_iff_not]; omega
  have h2 : ¬(0x30000000 ≤ a ∧ a < 0x40000000) := by omega
  have h3 : ¬(0x70004000 ≤ a ∧ a < 0x70005000) := by omega
  simp [State.reach, h1, h2, h3]

/-- A write of a register by a port whose judgement is OK, once it has arrived. -/
theorem State.accWrite_reg {s : State} {p : Fin 2} {a : Nat} {r : RegRow} {i j : Nat} (ha : s.RegAddr a r i j)
    (hl : s.sys.st ≠ .lockout) {v : Word} (hm : s.hostMay r i v = .ok) (f : Fin 3) {u : State} (hr : s.reach a false = (u, true))
    (hu : u.sys.st = s.sys.st) :
    s.accWrite (portOf2 p) a v f false = u.regWrite (portOf2 p) r i j v := by
  have hc : coreOf (portOf2 p) = none := by fin_cases p <;> rfl
  obtain ⟨h1, h2, h3, h4, h5, h6, h7⟩ := ha
  have h8 : s.regAt a = some (r, i, j) := by simp [State.regAt, h6, h7]
  simp [State.accWrite, h1, h2, h3, h4, h5, h8, hc, hm, hl, hr, hu]

/-- A port whose earlier accesses are complete waits for nothing (R390, R423). -/
theorem State.hostWait_idle {s : State} (h : s.coll.relWait = none) : s.hostWait = s := by
  unfold State.hostWait
  induction List.range 17 with
  | nil => rfl
  | cons _ _ ih => simpa [State.hostHeld, h] using ih
theorem State.mntRelWait_idle {s : State} (h : s.coll.relWait = none) : s.mntRelWait = s := by
  simp [State.mntRelWait, State.mntHeld, h]

/-- A write by a port, with its answer. -/
theorem State.portWrite_reg {s : State} {p : Fin 2} {a : Nat} {r : RegRow} {i j : Nat} (hw : s.Writable p)
    (ha : s.RegAddr a r i j) {v : Word} (hm : s.hostMay r i v = .ok) (f : Fin 3) {u : State} (hr : s.reach a false = (u, true))
    (hu : u.sys.st = s.sys.st) :
    s.portWrite p a v f false = (u.regWrite (portOf2 p) r i j v).1.answered p (u.regWrite (portOf2 p) r i j v).2 := by
  obtain ⟨hc, hl, hp, hq⟩ := hw
  have key := State.accWrite_reg (p := p) ha hl hm f hr hu
  fin_cases p
  · have key' : s.accWrite hostP a v f false = _ := key
    simp [State.portWrite, hc, key', State.answered, State.hostAnswer, State.hostWait_idle hq]
  · have key' : s.accWrite mntP a v f false = _ := key
    simp [State.portWrite, hc, key', State.answered, hp rfl, State.mntRelWait_idle hq]

/-- The parts of RegAddr that no state decides. -/
def addrCheck (a : Nat) (r : RegRow) (i j : Nat) : Bool :=
  decide (a % 4 = 0) && (sramAt a).isNone && (traceAt a).isNone
    && (decide (a < 0x11000000) || decide (0x11809000 ≤ a) || decide (0x400 ≤ a % 0x1000)) && !testReg a
    && decide (findReg a = some (r, i, j))

theorem State.regAddr_of {s : State} {a : Nat} {r : RegRow} {i j : Nat} (h : addrCheck a r i j = true)
    (hg : a < 0x30000000 ∨ 0x40000000 ≤ a ∨ s.measRuns = true) : s.RegAddr a r i j := by
  simp only [addrCheck, Bool.and_eq_true, Bool.or_eq_true, decide_eq_true_eq, Bool.not_eq_true', Option.isNone_iff_eq_none] at h
  obtain ⟨⟨⟨⟨⟨h1, h2⟩, h3⟩, h4⟩, h5⟩, h6⟩ := h
  refine ⟨h1, h2, h3, ?_, ?_, h5, h6⟩
  · unfold State.pegAt
    split
    · rename_i hr
      have : 0x400 ≤ (a - 0x11000000) % 0x1000 := by omega
      simp; omega
    · split
      · rename_i hr
        simp; omega
      · rfl
  · unfold State.gatedAt
    simp only [Bool.and_eq_false_iff, decide_eq_false_iff_not, Bool.not_eq_false']
    rcases hg with h | h | h
    · exact .inl (.inl (by omega))
    · exact .inl (.inr (by omega))
    · exact .inr h

theorem addrCheck_chanOwner : ∀ n : Fin 32, addrCheck (Reg.chanOwner.addr n.val 0) Reg.chanOwner n.val 0 = true := by decide +kernel
theorem addrCheck_ripGain : ∀ n : Fin 24, addrCheck (Reg.ripGain.addr n.val 0) Reg.ripGain n.val 0 = true := by decide +kernel
theorem addrCheck_toothmap : ∀ n : Fin 1024, addrCheck (Reg.toothmap.addr n.val 0) Reg.toothmap n.val 0 = true := by decide +kernel

end Sys2Proof.Machine
end

