-- ==== Sys2Proof/WellFormed.lean ====
section
/-! DEFINITION. Which commands are well formed: what their operand types leave open, by the frames of the spec. -/

namespace Sys2Proof

/-- A write frame carries n words, n − 1 in LEN [3:0] (R385). -/
def wfWords (len : BitVec 8) (ws : List (BitVec 32)) : Bool := decide (ws.length = len.toNat % 16 + 1)

/-- A MSG frame carries 1 to 4 payload words (R205, R345). -/
def wfPayload (pay : List (BitVec 32)) : Bool := decide (1 ≤ pay.length) && decide (pay.length ≤ 4)

/-- The payload bytes of a frame are bytes. -/
def wfBytes (bs : List Nat) : Bool := bs.all fun b => decide (b < 256)

/-- The errors a scrub read finds name words of trace memory (R280). -/
def wfScrub (errs : List (Nat × Fin 3)) : Bool := errs.all fun e => decide (e.1 < 2 ^ 29)

/-- Well-formed commands; a command without a list operand always is. -/
def Instr.wellFormed : Instr → Bool
  | .hostWrite _ len ws _ _ => wfWords len ws
  | .hostWritef _ len ws _ _ => wfWords len ws
  | .msgReceive _ _ _ _ _ _ _ _ _ pay => wfPayload pay
  | .beaconReceive _ _ bs _ => wfBytes bs
  | .asegReceive _ _ bs => wfBytes bs
  | .drspReceive _ _ bs _ => wfBytes bs
  | .lrecReceive _ _ bs => wfBytes bs
  | .scrubRead errs => wfScrub errs
  | .powerOnReset | .porRelease .. | .pllLock | .selftestEnd .. | .supplyLost .. | .vioBankLost .. | .vbatLost
  | .pllUnlockTimeout | .referenceWindowEnd .. | .sclkSilence | .sysRun .. | .sysReady .. | .sysStandby .. | .standbyComplete
  | .sysRetest .. | .wakePin | .wakeWhl .. | .wakeAlarm | .wakeMnt .. | .wakeBegin | .standbyEdge .. | .measGateWrite ..
  | .ungateDone | .heartbeatSend | .ddlSilence | .ddlRelease | .releaseAnswer | .ddlTransfer .. | .mdlTransfer ..
  | .edgeEchoCheck .. | .registerWrite .. | .lockSet .. | .shadowRead .. | .chanOwnerWrite .. | .ignOwnerWrite ..
  | .measOwnerWrite .. | .jigOwnerWrite .. | .tmrOwnerWrite .. | .clusterSramWrite .. | .clusterSramRead .. | .crankEdge ..
  | .pulseEndRelabel .. | .dowelTooth | .stopTimeout | .camEdge .. | .camMissing | .auxEdge .. | .whlEnable ..
  | .whlDisable .. | .resync .. | .mapShadowDone | .predictorCheckFail .. | .ripGainWrite .. | .toothMapWrite ..
  | .mapClear .. | .pegCommit .. | .pegDrive .. | .pegFire .. | .selectReceive | .selackReceive | .dwellMax ..
  | .softoffCommand | .softoffComplete .. | .softoffLineDrop .. | .softoffTimeout .. | .vernierCalibration ..
  | .cueDispatch .. | .angleCueFire .. | .comparatorRearm .. | .budget .. | .wDone .. | .wDonew .. | .wNop .. | .wTrap ..
  | .wBcond .. | .wJmp .. | .wJal .. | .wJr .. | .wMff .. | .wLdi .. | .wLdhi .. | .wMov .. | .wLd .. | .wSt .. | .wLdx ..
  | .wStx .. | .wAdd .. | .wSub .. | .wAnd .. | .wOr .. | .wXor .. | .wShl .. | .wShr .. | .wAsr .. | .wMin .. | .wMax ..
  | .wCmp .. | .wMul .. | .wMulh .. | .wDivu .. | .wDivs .. | .wAddi .. | .wCmpi .. | .wAndi .. | .wOri .. | .wXori ..
  | .wShli .. | .wShri .. | .wAsri .. | .wMini .. | .wMaxi .. | .wRdfig .. | .wRdres .. | .wSend .. | .wFabrd ..
  | .wCueset .. | .wCueclr .. | .wCuewr .. | .wMova .. | .wAdda .. | .wSuba .. | .wDifa .. | .wGeta .. | .wMovg ..
  | .wAddai .. | .wSetac .. | .wClrac .. | .wArm .. | .wReaim .. | .wCancel .. | .wQuery .. | .wOvfc .. | .cluRoleStart ..
  | .cluRoleStop .. | .clusterStop .. | .cluRoleSpare .. | .doorbell .. | .cueEnWrite .. | .clusterFail ..
  | .mirrorLoadDone .. | .schedulerLive .. | .handoverSwitch | .startEdge .. | .bankGrant .. | .bankDeferExpire ..
  | .boostRailReady .. | .boostWaitExpire .. | .iboostReached .. | .tboostExpire .. | .tpeakExpire .. | .iholdReached ..
  | .tbypExpire .. | .chopComparator .. | .offCommand .. | .tmaxExpire .. | .fastDecayEnd .. | .recoveryEnd .. | .closeRecord
  | .refuseReceive | .holdendReceive | .boostRailMeasure .. | .boostIlimReached .. | .boostToffExpire ..
  | .dutyBucketClose .. | .shortBat .. | .shortGnd .. | .ignNocur .. | .ignNospark .. | .gateStuck .. | .shortBatClear ..
  | .bankFaultClear .. | .modStart .. | .modStop .. | .modUrg .. | .atrgTrigger .. | .entryComplete .. | .sampleReady ..
  | .figuresPublish .. | .resultRead .. | .figureRead .. | .traceInitDone | .traceHostRead .. | .traceHostWrite ..
  | .ringEnable .. | .ringDisable .. | .ringFreeze .. | .ringResume .. | .ringPostDone .. | .jigStart .. | .jigHalt ..
  | .jigRealign .. | .jigNop .. | .jigIdle .. | .jigIdleExpire .. | .jigPins .. | .jigDirs .. | .jigWaitl .. | .jigWaite ..
  | .jigWaitg .. | .jigWaitEnd .. | .jigWaitTimeout .. | .jigShin .. | .jigShout .. | .jigPush .. | .jigPull ..
  | .jigStallEnd .. | .jigMov .. | .jigMovi .. | .jigAddi .. | .jigSub .. | .jigTest .. | .jigBr .. | .jigLoop ..
  | .jigRecip .. | .jigMulq .. | .jigSig .. | .jigYield .. | .jigSwapRequest .. | .jigForceSwap .. | .jigFlush ..
  | .jigTrgclr .. | .jigProgramWrite .. | .jigTxfWrite .. | .jigRxfRead .. | .jigDisable .. | .timerEnable ..
  | .timerCompare .. | .timerWrap .. | .timerCapture .. | .timerCmpvWrite .. | .timerCapall .. | .tmrFault ..
  | .sealSealed .. | .sealAddWrite .. | .sealIncrementAdd .. | .sealReport .. | .sealReportDone | .sealBurn ..
  | .portTrain .. | .portHello .. | .portUp .. | .portSilence .. | .portCodeErrors .. | .helloSend .. | .helloReceive ..
  | .dreqReceive .. | .ackReceive .. | .nakReceive .. | .creditAngle .. | .creditBulk .. | .controlSetRepeat ..
  | .ackTimeout .. | .frameForward .. | .lineupCommit | .beaconSend | .timeExchange | .captainTimeout | .holdoverExpire
  | .fabLineupCmd .. | .fabHandover .. | .handoverTimeout | .fabDiffclr .. | .hostRead .. | .hostReadf .. | .hostIntr ..
  | .hostBadOpcode .. | .hostAbort | .mntWrite .. | .mntRead .. | .mntByteAbandon .. | .mntStretchTimeout | .mntSclTimeout
  | .mntIndirectRead .. | .mntIndirectWrite .. | .mntIndirectDone .. | .alertResponse .. | .astatClear .. | .testModeOpen ..
  | .collectorAccept | .shotClock | .fltPop .. | .fltSafe .. | .fltRelease .. | .fltAck .. | .safeLine .. | .collFault
  | .overSlot | .overEnd .. | .overOverrun | .bistDeferTimeout | .inningsStart | .bistCmd .. | .fiResidue .. | .fiBitFlip ..
  | .fiDoubleFlip .. | .fiDdlCrc .. | .fiMdlCrc .. | .fiDdlSilence .. | .fiOverFail .. | .fiEchoMismatch .. | .fiMessage ..
  | .timerIncrement .. | .vbatGood | .vioBankGood .. | .captureSample .. | .tchopminExpire .. | .frameReceiveBad ..
  | .ownNodeMessage .. | .initmbAdvance | .wReservedOpcode .. | .jigReservedOpcode .. => true

end Sys2Proof
end

