-- ==== Sys2Proof/Laws/PerInstr.lean ====
section
/-! SUPPORT. The statement made of every command as syntax: one that is not well formed carries a list operand. -/

namespace Sys2Proof.Laws.WellFormed

/-- The command has a list among its operands. -/
def listed : Instr → Bool
  | .hostWrite .. => true
  | .hostWritef .. => true
  | .msgReceive .. => true
  | .beaconReceive .. => true
  | .asegReceive .. => true
  | .drspReceive .. => true
  | .lrecReceive .. => true
  | .scrubRead .. => true
  | .powerOnReset | .porRelease .. | .pllLock | .selftestEnd .. | .supplyLost .. | .vioBankLost .. | .vbatLost
  | .pllUnlockTimeout | .referenceWindowEnd .. | .sclkSilence | .sysRun .. | .sysReady .. | .sysStandby .. | .standbyComplete
  | .sysRetest .. | .wakePin | .wakeWhl .. | .wakeAlarm | .wakeMnt .. | .wakeBegin | .standbyEdge .. | .measGateWrite ..
  | .ungateDone | .heartbeatSend | .ddlSilence | .ddlRelease | .releaseAnswer | .ddlTransfer .. | .mdlTransfer ..
  | .edgeEchoCheck .. | .registerWrite .. | .lockSet .. | .shadowRead .. | .chanOwnerWrite .. | .ignOwnerWrite ..
  | .measOwnerWrite .. | .jigOwnerWrite .. | .tmrOwnerWrite .. | .clusterSramWrite .. | .clusterSramRead .. | .crankEdge ..
  | .pulseEndRelabel .. | .dowelTooth | .stopTimeout | .camEdge .. | .camMissing | .auxEdge .. | .whlEnable ..
  | .whlDisable .. | .resync .. | .mapShadowDone | .predictorCheckFail .. | .ripGainWrite .. | .toothMapWrite ..
  | .mapClear .. | .pegCommit .. | .pegDrive .. | .pegFire .. | .selectReceive | .selackReceive | .dwellMax ..
  | .softoffCommand | .softoffComplete .. | .softoffLineDrop .. | .softoffTimeout .. | .vernierCalibration ..
  | .cueDispatch .. | .angleCueFire .. | .comparatorRearm .. | .budget .. | .wDone .. | .wDonew .. | .wNop .. | .wTrap ..
  | .wBcond .. | .wJmp .. | .wJal .. | .wJr .. | .wMff .. | .wLdi .. | .wLdhi .. | .wMov .. | .wLd .. | .wSt .. | .wLdx ..
  | .wStx .. | .wAdd .. | .wSub .. | .wAnd .. | .wOr .. | .wXor .. | .wShl .. | .wShr .. | .wAsr .. | .wMin .. | .wMax ..
  | .wCmp .. | .wMul .. | .wMulh .. | .wDivu .. | .wDivs .. | .wAddi .. | .wCmpi .. | .wAndi .. | .wOri .. | .wXori ..
  | .wShli .. | .wShri .. | .wAsri .. | .wMini .. | .wMaxi .. | .wRdfig .. | .wRdres .. | .wSend .. | .wFabrd ..
  | .wCueset .. | .wCueclr .. | .wCuewr .. | .wMova .. | .wAdda .. | .wSuba .. | .wDifa .. | .wGeta .. | .wMovg ..
  | .wAddai .. | .wSetac .. | .wClrac .. | .wArm .. | .wReaim .. | .wCancel .. | .wQuery .. | .wOvfc .. | .cluRoleStart ..
  | .cluRoleStop .. | .clusterStop .. | .cluRoleSpare .. | .doorbell .. | .cueEnWrite .. | .clusterFail ..
  | .mirrorLoadDone .. | .schedulerLive .. | .handoverSwitch | .startEdge .. | .bankGrant .. | .bankDeferExpire ..
  | .boostRailReady .. | .boostWaitExpire .. | .iboostReached .. | .tboostExpire .. | .tpeakExpire .. | .iholdReached ..
  | .tbypExpire .. | .chopComparator .. | .offCommand .. | .tmaxExpire .. | .fastDecayEnd .. | .recoveryEnd .. | .closeRecord
  | .refuseReceive | .holdendReceive | .boostRailMeasure .. | .boostIlimReached .. | .boostToffExpire ..
  | .dutyBucketClose .. | .shortBat .. | .shortGnd .. | .ignNocur .. | .ignNospark .. | .gateStuck .. | .shortBatClear ..
  | .bankFaultClear .. | .modStart .. | .modStop .. | .modUrg .. | .atrgTrigger .. | .entryComplete .. | .sampleReady ..
  | .figuresPublish .. | .resultRead .. | .figureRead .. | .traceInitDone | .traceHostRead .. | .traceHostWrite ..
  | .ringEnable .. | .ringDisable .. | .ringFreeze .. | .ringResume .. | .ringPostDone .. | .jigStart .. | .jigHalt ..
  | .jigRealign .. | .jigNop .. | .jigIdle .. | .jigIdleExpire .. | .jigPins .. | .jigDirs .. | .jigWaitl .. | .jigWaite ..
  | .jigWaitg .. | .jigWaitEnd .. | .jigWaitTimeout .. | .jigShin .. | .jigShout .. | .jigPush .. | .jigPull ..
  | .jigStallEnd .. | .jigMov .. | .jigMovi .. | .jigAddi .. | .jigSub .. | .jigTest .. | .jigBr .. | .jigLoop ..
  | .jigRecip .. | .jigMulq .. | .jigSig .. | .jigYield .. | .jigSwapRequest .. | .jigForceSwap .. | .jigFlush ..
  | .jigTrgclr .. | .jigProgramWrite .. | .jigTxfWrite .. | .jigRxfRead .. | .jigDisable .. | .timerEnable ..
  | .timerCompare .. | .timerWrap .. | .timerCapture .. | .timerCmpvWrite .. | .timerCapall .. | .tmrFault ..
  | .sealSealed .. | .sealAddWrite .. | .sealIncrementAdd .. | .sealReport .. | .sealReportDone | .sealBurn ..
  | .portTrain .. | .portHello .. | .portUp .. | .portSilence .. | .portCodeErrors .. | .helloSend .. | .helloReceive ..
  | .dreqReceive .. | .ackReceive .. | .nakReceive .. | .creditAngle .. | .creditBulk .. | .controlSetRepeat ..
  | .ackTimeout .. | .frameForward .. | .lineupCommit | .beaconSend | .timeExchange | .captainTimeout | .holdoverExpire
  | .fabLineupCmd .. | .fabHandover .. | .handoverTimeout | .fabDiffclr .. | .hostRead .. | .hostReadf .. | .hostIntr ..
  | .hostBadOpcode .. | .hostAbort | .mntWrite .. | .mntRead .. | .mntByteAbandon .. | .mntStretchTimeout | .mntSclTimeout
  | .mntIndirectRead .. | .mntIndirectWrite .. | .mntIndirectDone .. | .alertResponse .. | .astatClear .. | .testModeOpen ..
  | .collectorAccept | .shotClock | .fltPop .. | .fltSafe .. | .fltRelease .. | .fltAck .. | .safeLine .. | .collFault
  | .overSlot | .overEnd .. | .overOverrun | .bistDeferTimeout | .inningsStart | .bistCmd .. | .fiResidue .. | .fiBitFlip ..
  | .fiDoubleFlip .. | .fiDdlCrc .. | .fiMdlCrc .. | .fiDdlSilence .. | .fiOverFail .. | .fiEchoMismatch .. | .fiMessage ..
  | .timerIncrement .. | .vbatGood | .vioBankGood .. | .captureSample .. | .tchopminExpire .. | .frameReceiveBad ..
  | .ownNodeMessage .. | .initmbAdvance | .wReservedOpcode .. | .jigReservedOpcode .. => false

/-- An ill-formed command carries a list operand. -/
def Statement (i : Instr) : Prop := i.wellFormed = false → listed i = true

theorem powerOnReset : Statement (.powerOnReset) := fun h => nomatch h
theorem porRelease (nid : Fin 32) (ma : Fin 8) (test : Bool) : Statement (.porRelease nid ma test) := fun h => nomatch h
theorem pllLock : Statement (.pllLock) := fun h => nomatch h
theorem selftestEnd (fails : BitVec 16) (stores : Bool) (echo : EchoResult) (drvLink : Bool) : Statement (.selftestEnd fails stores echo drvLink) := fun h => nomatch h
theorem supplyLost (which : Fin 3) : Statement (.supplyLost which) := fun h => nomatch h
theorem vioBankLost (b : Fin 3) : Statement (.vioBankLost b) := fun h => nomatch h
theorem vbatLost : Statement (.vbatLost) := fun h => nomatch h
theorem pllUnlockTimeout : Statement (.pllUnlockTimeout) := fun h => nomatch h
theorem referenceWindowEnd (cycles : Nat) : Statement (.referenceWindowEnd cycles) := fun h => nomatch h
theorem sclkSilence : Statement (.sclkSilence) := fun h => nomatch h
theorem sysRun (p : Fin 2) (confirm : BitVec 16) : Statement (.sysRun p confirm) := fun h => nomatch h
theorem sysReady (p : Fin 2) (confirm : BitVec 16) : Statement (.sysReady p confirm) := fun h => nomatch h
theorem sysStandby (p : Fin 2) (confirm : BitVec 16) : Statement (.sysStandby p confirm) := fun h => nomatch h
theorem standbyComplete : Statement (.standbyComplete) := fun h => nomatch h
theorem sysRetest (p : Fin 2) (confirm : BitVec 16) : Statement (.sysRetest p confirm) := fun h => nomatch h
theorem wakePin : Statement (.wakePin) := fun h => nomatch h
theorem wakeWhl (aux0 : Bool) : Statement (.wakeWhl aux0) := fun h => nomatch h
theorem wakeAlarm : Statement (.wakeAlarm) := fun h => nomatch h
theorem wakeMnt (addr : BitVec 7) : Statement (.wakeMnt addr) := fun h => nomatch h
theorem wakeBegin : Statement (.wakeBegin) := fun h => nomatch h
theorem standbyEdge (aux0 : Bool) : Statement (.standbyEdge aux0) := fun h => nomatch h
theorem measGateWrite (p : Fin 2) (gate : Bool) : Statement (.measGateWrite p gate) := fun h => nomatch h
theorem ungateDone : Statement (.ungateDone) := fun h => nomatch h
theorem heartbeatSend : Statement (.heartbeatSend) := fun h => nomatch h
theorem ddlSilence : Statement (.ddlSilence) := fun h => nomatch h
theorem ddlRelease : Statement (.ddlRelease) := fun h => nomatch h
theorem releaseAnswer : Statement (.releaseAnswer) := fun h => nomatch h
theorem ddlTransfer (ok : Bool) : Statement (.ddlTransfer ok) := fun h => nomatch h
theorem mdlTransfer (ok : Bool) : Statement (.mdlTransfer ok) := fun h => nomatch h
theorem edgeEchoCheck (line : Fin 56) (same : Bool) : Statement (.edgeEchoCheck line same) := fun h => nomatch h
theorem registerWrite (p : Fin 11) (addr : BitVec 40) (v : BitVec 32) (link : Bool) : Statement (.registerWrite p addr v link) := fun h => nomatch h
theorem lockSet (p : Fin 2) (addr : BitVec 40) (v : BitVec 32) (link : Bool) : Statement (.lockSet p addr v link) := fun h => nomatch h
theorem shadowRead (p : Fin 11) (addr : BitVec 40) (link : Bool) : Statement (.shadowRead p addr link) := fun h => nomatch h
theorem chanOwnerWrite (p : Fin 2) (n : Fin 32) (v : BitVec 32) (link : Bool) : Statement (.chanOwnerWrite p n v link) := fun h => nomatch h
theorem ignOwnerWrite (p : Fin 2) (n : Fin 24) (v : BitVec 32) (link : Bool) : Statement (.ignOwnerWrite p n v link) := fun h => nomatch h
theorem measOwnerWrite (p : Fin 2) (n : Fin 40) (v : BitVec 32) : Statement (.measOwnerWrite p n v) := fun h => nomatch h
theorem jigOwnerWrite (p : Fin 2) (n : Fin 8) (v : BitVec 32) : Statement (.jigOwnerWrite p n v) := fun h => nomatch h
theorem tmrOwnerWrite (p : Fin 2) (n : Fin 16) (v : BitVec 32) : Statement (.tmrOwnerWrite p n v) := fun h => nomatch h
theorem clusterSramWrite (p : Fin 2) (addr : BitVec 40) (v : BitVec 32) : Statement (.clusterSramWrite p addr v) := fun h => nomatch h
theorem clusterSramRead (p : Fin 2) (addr : BitVec 40) (ecc : Fin 3) : Statement (.clusterSramRead p addr ecc) := fun h => nomatch h
theorem crankEdge (ts : Nat) (lvl : Bool) : Statement (.crankEdge ts lvl) := fun h => nomatch h
theorem pulseEndRelabel (x : PulseEnd) : Statement (.pulseEndRelabel x) := fun h => nomatch h
theorem dowelTooth : Statement (.dowelTooth) := fun h => nomatch h
theorem stopTimeout : Statement (.stopTimeout) := fun h => nomatch h
theorem camEdge (c : Fin 2) (x : EdgeAt) : Statement (.camEdge c x) := fun h => nomatch h
theorem camMissing : Statement (.camMissing) := fun h => nomatch h
theorem auxEdge (m : Fin 2) (ts : Nat) : Statement (.auxEdge m ts) := fun h => nomatch h
theorem whlEnable (p : Fin 2) (n : Fin 3) (v : BitVec 32) : Statement (.whlEnable p n v) := fun h => nomatch h
theorem whlDisable (p : Fin 2) (n : Fin 3) (v : BitVec 32) : Statement (.whlDisable p n v) := fun h => nomatch h
theorem resync (p : Fin 2) : Statement (.resync p) := fun h => nomatch h
theorem mapShadowDone : Statement (.mapShadowDone) := fun h => nomatch h
theorem predictorCheckFail (actBad : Bool) (chkBad : Bool) : Statement (.predictorCheckFail actBad chkBad) := fun h => nomatch h
theorem ripGainWrite (p : Fin 2) (i : Fin 24) (v : BitVec 32) : Statement (.ripGainWrite p i v) := fun h => nomatch h
theorem toothMapWrite (p : Fin 2) (i : Fin 1024) (v : BitVec 32) : Statement (.toothMapWrite p i v) := fun h => nomatch h
theorem mapClear (p : Fin 2) : Statement (.mapClear p) := fun h => nomatch h
theorem pegCommit (w : Fin 9) (k : Fin 32) : Statement (.pegCommit w k) := fun h => nomatch h
theorem pegDrive (w : Fin 9) (k : Fin 32) : Statement (.pegDrive w k) := fun h => nomatch h
theorem pegFire (w : Fin 9) (k : Fin 32) : Statement (.pegFire w k) := fun h => nomatch h
theorem selectReceive : Statement (.selectReceive) := fun h => nomatch h
theorem selackReceive : Statement (.selackReceive) := fun h => nomatch h
theorem dwellMax (w : Fin 9) (k : Fin 32) : Statement (.dwellMax w k) := fun h => nomatch h
theorem softoffCommand : Statement (.softoffCommand) := fun h => nomatch h
theorem softoffComplete (n : Fin 24) : Statement (.softoffComplete n) := fun h => nomatch h
theorem softoffLineDrop (n : Fin 24) : Statement (.softoffLineDrop n) := fun h => nomatch h
theorem softoffTimeout (n : Fin 24) : Statement (.softoffTimeout n) := fun h => nomatch h
theorem vernierCalibration (ok : Bool) : Statement (.vernierCalibration ok) := fun h => nomatch h
theorem cueDispatch (c : Fin 9) (ecc : Fin 3) : Statement (.cueDispatch c ecc) := fun h => nomatch h
theorem angleCueFire (w : Fin 9) (m : Fin 16) : Statement (.angleCueFire w m) := fun h => nomatch h
theorem comparatorRearm (w : Fin 9) (m : Fin 16) : Statement (.comparatorRearm w m) := fun h => nomatch h
theorem budget (c : Fin 9) : Statement (.budget c) := fun h => nomatch h
theorem wDone (c : Fin 9) : Statement (.wDone c) := fun h => nomatch h
theorem wDonew (c : Fin 9) (s : Fin 16) : Statement (.wDonew c s) := fun h => nomatch h
theorem wNop (c : Fin 9) : Statement (.wNop c) := fun h => nomatch h
theorem wTrap (c : Fin 9) (imm : BitVec 16) : Statement (.wTrap c imm) := fun h => nomatch h
theorem wBcond (c : Fin 9) (cond : Fin 16) (off : BitVec 16) : Statement (.wBcond c cond off) := fun h => nomatch h
theorem wJmp (c : Fin 9) (target : BitVec 12) : Statement (.wJmp c target) := fun h => nomatch h
theorem wJal (c : Fin 9) (d : Fin 16) (target : BitVec 12) : Statement (.wJal c d target) := fun h => nomatch h
theorem wJr (c : Fin 9) (s : Fin 16) : Statement (.wJr c s) := fun h => nomatch h
theorem wMff (c : Fin 9) (d : Fin 16) : Statement (.wMff c d) := fun h => nomatch h
theorem wLdi (c : Fin 9) (d : Fin 16) (imm : BitVec 16) : Statement (.wLdi c d imm) := fun h => nomatch h
theorem wLdhi (c : Fin 9) (d : Fin 16) (imm : BitVec 16) : Statement (.wLdhi c d imm) := fun h => nomatch h
theorem wMov (c : Fin 9) (d : Fin 16) (s : Fin 16) : Statement (.wMov c d s) := fun h => nomatch h
theorem wLd (c : Fin 9) (d : Fin 16) (b : Fin 16) (a : Bool) (imm : BitVec 16) (ecc : Fin 3) : Statement (.wLd c d b a imm ecc) := fun h => nomatch h
theorem wSt (c : Fin 9) (d : Fin 16) (b : Fin 16) (a : Bool) (imm : BitVec 16) : Statement (.wSt c d b a imm) := fun h => nomatch h
theorem wLdx (c : Fin 9) (d : Fin 16) (b : Fin 16) (a : Bool) (imm : BitVec 16) (stall : Nat) (link : Bool) : Statement (.wLdx c d b a imm stall link) := fun h => nomatch h
theorem wStx (c : Fin 9) (d : Fin 16) (b : Fin 16) (a : Bool) (imm : BitVec 16) (stall : Nat) (link : Bool) : Statement (.wStx c d b a imm stall link) := fun h => nomatch h
theorem wAdd (c : Fin 9) (d : Fin 16) (s : Fin 16) (t : Fin 16) : Statement (.wAdd c d s t) := fun h => nomatch h
theorem wSub (c : Fin 9) (d : Fin 16) (s : Fin 16) (t : Fin 16) : Statement (.wSub c d s t) := fun h => nomatch h
theorem wAnd (c : Fin 9) (d : Fin 16) (s : Fin 16) (t : Fin 16) : Statement (.wAnd c d s t) := fun h => nomatch h
theorem wOr (c : Fin 9) (d : Fin 16) (s : Fin 16) (t : Fin 16) : Statement (.wOr c d s t) := fun h => nomatch h
theorem wXor (c : Fin 9) (d : Fin 16) (s : Fin 16) (t : Fin 16) : Statement (.wXor c d s t) := fun h => nomatch h
theorem wShl (c : Fin 9) (d : Fin 16) (s : Fin 16) (t : Fin 16) : Statement (.wShl c d s t) := fun h => nomatch h
theorem wShr (c : Fin 9) (d : Fin 16) (s : Fin 16) (t : Fin 16) : Statement (.wShr c d s t) := fun h => nomatch h
theorem wAsr (c : Fin 9) (d : Fin 16) (s : Fin 16) (t : Fin 16) : Statement (.wAsr c d s t) := fun h => nomatch h
theorem wMin (c : Fin 9) (d : Fin 16) (s : Fin 16) (t : Fin 16) : Statement (.wMin c d s t) := fun h => nomatch h
theorem wMax (c : Fin 9) (d : Fin 16) (s : Fin 16) (t : Fin 16) : Statement (.wMax c d s t) := fun h => nomatch h
theorem wCmp (c : Fin 9) (s : Fin 16) (t : Fin 16) : Statement (.wCmp c s t) := fun h => nomatch h
theorem wMul (c : Fin 9) (d : Fin 16) (s : Fin 16) (t : Fin 16) : Statement (.wMul c d s t) := fun h => nomatch h
theorem wMulh (c : Fin 9) (d : Fin 16) (s : Fin 16) (t : Fin 16) : Statement (.wMulh c d s t) := fun h => nomatch h
theorem wDivu (c : Fin 9) (d : Fin 16) (s : Fin 16) (t : Fin 16) : Statement (.wDivu c d s t) := fun h => nomatch h
theorem wDivs (c : Fin 9) (d : Fin 16) (s : Fin 16) (t : Fin 16) : Statement (.wDivs c d s t) := fun h => nomatch h
theorem wAddi (c : Fin 9) (d : Fin 16) (s : Fin 16) (imm : BitVec 16) : Statement (.wAddi c d s imm) := fun h => nomatch h
theorem wCmpi (c : Fin 9) (s : Fin 16) (imm : BitVec 16) : Statement (.wCmpi c s imm) := fun h => nomatch h
theorem wAndi (c : Fin 9) (d : Fin 16) (s : Fin 16) (imm : BitVec 16) : Statement (.wAndi c d s imm) := fun h => nomatch h
theorem wOri (c : Fin 9) (d : Fin 16) (s : Fin 16) (imm : BitVec 16) : Statement (.wOri c d s imm) := fun h => nomatch h
theorem wXori (c : Fin 9) (d : Fin 16) (s : Fin 16) (imm : BitVec 16) : Statement (.wXori c d s imm) := fun h => nomatch h
theorem wShli (c : Fin 9) (d : Fin 16) (s : Fin 16) (imm : BitVec 16) : Statement (.wShli c d s imm) := fun h => nomatch h
theorem wShri (c : Fin 9) (d : Fin 16) (s : Fin 16) (imm : BitVec 16) : Statement (.wShri c d s imm) := fun h => nomatch h
theorem wAsri (c : Fin 9) (d : Fin 16) (s : Fin 16) (imm : BitVec 16) : Statement (.wAsri c d s imm) := fun h => nomatch h
theorem wMini (c : Fin 9) (d : Fin 16) (s : Fin 16) (imm : BitVec 16) : Statement (.wMini c d s imm) := fun h => nomatch h
theorem wMaxi (c : Fin 9) (d : Fin 16) (s : Fin 16) (imm : BitVec 16) : Statement (.wMaxi c d s imm) := fun h => nomatch h
theorem wRdfig (c : Fin 9) (d : Fin 16) (w : Fin 16) (fig : Fin 32) (rg : Bool) : Statement (.wRdfig c d w fig rg) := fun h => nomatch h
theorem wRdres (c : Fin 9) (d : Fin 16) (m : Fin 16) (rg : Bool) : Statement (.wRdres c d m rg) := fun h => nomatch h
theorem wSend (c : Fin 9) (s : Fin 16) (g : Fin 16) (n : Fin 4) : Statement (.wSend c s g n) := fun h => nomatch h
theorem wFabrd (c : Fin 9) (d : Fin 16) (k : Fin 4) : Statement (.wFabrd c d k) := fun h => nomatch h
theorem wCueset (c : Fin 9) (s : Fin 16) : Statement (.wCueset c s) := fun h => nomatch h
theorem wCueclr (c : Fin 9) (s : Fin 16) : Statement (.wCueclr c s) := fun h => nomatch h
theorem wCuewr (c : Fin 9) (s : Fin 16) : Statement (.wCuewr c s) := fun h => nomatch h
theorem wMova (c : Fin 9) (d : Fin 16) (s : Fin 16) : Statement (.wMova c d s) := fun h => nomatch h
theorem wAdda (c : Fin 9) (d : Fin 16) (s : Fin 16) (t : Fin 16) : Statement (.wAdda c d s t) := fun h => nomatch h
theorem wSuba (c : Fin 9) (d : Fin 16) (s : Fin 16) (t : Fin 16) : Statement (.wSuba c d s t) := fun h => nomatch h
theorem wDifa (c : Fin 9) (d : Fin 16) (s : Fin 16) (t : Fin 16) : Statement (.wDifa c d s t) := fun h => nomatch h
theorem wGeta (c : Fin 9) (d : Fin 16) : Statement (.wGeta c d) := fun h => nomatch h
theorem wMovg (c : Fin 9) (d : Fin 16) (s : Fin 16) : Statement (.wMovg c d s) := fun h => nomatch h
theorem wAddai (c : Fin 9) (d : Fin 16) (s : Fin 16) (imm : BitVec 16) : Statement (.wAddai c d s imm) := fun h => nomatch h
theorem wSetac (c : Fin 9) (m : Fin 16) (s : Fin 16) (rpt : Bool) (prov : Bool) : Statement (.wSetac c m s rpt prov) := fun h => nomatch h
theorem wClrac (c : Fin 9) (m : Fin 16) : Statement (.wClrac c m) := fun h => nomatch h
theorem wArm (c : Fin 9) (d : Fin 16) (b : Fin 16) (t : Fin 16) (src : Fin 4) : Statement (.wArm c d b t src) := fun h => nomatch h
theorem wReaim (c : Fin 9) (h : Fin 16) (t : Fin 16) (o : Fin 16) (src : Fin 4) (sett : Bool) : Statement (.wReaim c h t o src sett) := fun h => nomatch h
theorem wCancel (c : Fin 9) (h : Fin 16) : Statement (.wCancel c h) := fun h => nomatch h
theorem wQuery (c : Fin 9) (d : Fin 16) (h : Fin 16) : Statement (.wQuery c d h) := fun h => nomatch h
theorem wOvfc (c : Fin 9) (d : Fin 16) : Statement (.wOvfc c d) := fun h => nomatch h
theorem cluRoleStart (p : Fin 2) (c : Fin 9) : Statement (.cluRoleStart p c) := fun h => nomatch h
theorem cluRoleStop (p : Fin 2) (c : Fin 9) : Statement (.cluRoleStop p c) := fun h => nomatch h
theorem clusterStop (c : Fin 9) : Statement (.clusterStop c) := fun h => nomatch h
theorem cluRoleSpare (p : Fin 2) (c : Fin 9) : Statement (.cluRoleSpare p c) := fun h => nomatch h
theorem doorbell (p : Fin 2) (c : Fin 9) (v : BitVec 32) : Statement (.doorbell p c v) := fun h => nomatch h
theorem cueEnWrite (p : Fin 2) (c : Fin 9) (v : BitVec 32) : Statement (.cueEnWrite p c v) := fun h => nomatch h
theorem clusterFail (c : Fin 9) (why : Fin 4) : Statement (.clusterFail c why) := fun h => nomatch h
theorem mirrorLoadDone (w : Fin 9) (bad : BitVec 32) : Statement (.mirrorLoadDone w bad) := fun h => nomatch h
theorem schedulerLive (w : Fin 9) : Statement (.schedulerLive w) := fun h => nomatch h
theorem handoverSwitch : Statement (.handoverSwitch) := fun h => nomatch h
theorem startEdge (n : Fin 32) : Statement (.startEdge n) := fun h => nomatch h
theorem bankGrant (n : Fin 32) : Statement (.bankGrant n) := fun h => nomatch h
theorem bankDeferExpire (n : Fin 32) : Statement (.bankDeferExpire n) := fun h => nomatch h
theorem boostRailReady (n : Fin 32) : Statement (.boostRailReady n) := fun h => nomatch h
theorem boostWaitExpire (n : Fin 32) : Statement (.boostWaitExpire n) := fun h => nomatch h
theorem iboostReached (n : Fin 32) : Statement (.iboostReached n) := fun h => nomatch h
theorem tboostExpire (n : Fin 32) (cur : Nat) : Statement (.tboostExpire n cur) := fun h => nomatch h
theorem tpeakExpire (n : Fin 32) : Statement (.tpeakExpire n) := fun h => nomatch h
theorem iholdReached (n : Fin 32) : Statement (.iholdReached n) := fun h => nomatch h
theorem tbypExpire (n : Fin 32) : Statement (.tbypExpire n) := fun h => nomatch h
theorem chopComparator (n : Fin 32) (upper : Bool) : Statement (.chopComparator n upper) := fun h => nomatch h
theorem offCommand (n : Fin 32) : Statement (.offCommand n) := fun h => nomatch h
theorem tmaxExpire (n : Fin 32) : Statement (.tmaxExpire n) := fun h => nomatch h
theorem fastDecayEnd (n : Fin 32) : Statement (.fastDecayEnd n) := fun h => nomatch h
theorem recoveryEnd (n : Fin 32) : Statement (.recoveryEnd n) := fun h => nomatch h
theorem closeRecord : Statement (.closeRecord) := fun h => nomatch h
theorem refuseReceive : Statement (.refuseReceive) := fun h => nomatch h
theorem holdendReceive : Statement (.holdendReceive) := fun h => nomatch h
theorem boostRailMeasure (k : Fin 2) (v : Nat) : Statement (.boostRailMeasure k v) := fun h => nomatch h
theorem boostIlimReached (k : Fin 2) : Statement (.boostIlimReached k) := fun h => nomatch h
theorem boostToffExpire (k : Fin 2) : Statement (.boostToffExpire k) := fun h => nomatch h
theorem dutyBucketClose (n : Fin 32) : Statement (.dutyBucketClose n) := fun h => nomatch h
theorem shortBat (n : Fin 32) : Statement (.shortBat n) := fun h => nomatch h
theorem shortGnd (b : Fin 8) : Statement (.shortGnd b) := fun h => nomatch h
theorem ignNocur (n : Fin 24) : Statement (.ignNocur n) := fun h => nomatch h
theorem ignNospark (n : Fin 24) : Statement (.ignNospark n) := fun h => nomatch h
theorem gateStuck (cluster : Fin 16) (unit : Fin 16) (n : Fin 32) : Statement (.gateStuck cluster unit n) := fun h => nomatch h
theorem shortBatClear (p : Fin 2) (n : Fin 32) (link : Bool) : Statement (.shortBatClear p n link) := fun h => nomatch h
theorem bankFaultClear (p : Fin 2) (b : Fin 8) (link : Bool) : Statement (.bankFaultClear p b link) := fun h => nomatch h
theorem modStart (p : Fin 11) (m : Fin 8) : Statement (.modStart p m) := fun h => nomatch h
theorem modStop (p : Fin 11) (m : Fin 8) : Statement (.modStop p m) := fun h => nomatch h
theorem modUrg (p : Fin 11) (m : Fin 8) : Statement (.modUrg p m) := fun h => nomatch h
theorem atrgTrigger (k : Fin 2) : Statement (.atrgTrigger k) := fun h => nomatch h
theorem entryComplete (m : Fin 8) : Statement (.entryComplete m) := fun h => nomatch h
theorem sampleReady (m : Fin 8) (v : Int) (stamp : Nat) (sat : Bool) (bad : Bool) : Statement (.sampleReady m v stamp sat bad) := fun h => nomatch h
theorem figuresPublish (bad : Bool) : Statement (.figuresPublish bad) := fun h => nomatch h
theorem resultRead (p : Fin 11) (m : Fin 8) : Statement (.resultRead p m) := fun h => nomatch h
theorem figureRead (p : Fin 11) (w : Fin 16) (f : Fin 32) : Statement (.figureRead p w f) := fun h => nomatch h
theorem traceInitDone : Statement (.traceInitDone) := fun h => nomatch h
theorem scrubRead (errs : List (Nat × Fin 3)) : Statement (.scrubRead errs) := fun _ => rfl
theorem traceHostRead (p : Fin 2) (addr : BitVec 40) (ecc : Fin 3) (link : Bool) : Statement (.traceHostRead p addr ecc link) := fun h => nomatch h
theorem traceHostWrite (p : Fin 2) (addr : BitVec 40) (v : BitVec 32) (ecc : Fin 3) (link : Bool) : Statement (.traceHostWrite p addr v ecc link) := fun h => nomatch h
theorem ringEnable (p : Fin 2) (r : Fin 3) (v : BitVec 32) : Statement (.ringEnable p r v) := fun h => nomatch h
theorem ringDisable (p : Fin 2) (r : Fin 3) (v : BitVec 32) : Statement (.ringDisable p r v) := fun h => nomatch h
theorem ringFreeze (p : Fin 2) (r : Fin 3) : Statement (.ringFreeze p r) := fun h => nomatch h
theorem ringResume (p : Fin 2) (r : Fin 3) : Statement (.ringResume p r) := fun h => nomatch h
theorem ringPostDone (r : Fin 3) : Statement (.ringPostDone r) := fun h => nomatch h
theorem jigStart (p : Fin 2) (mask : BitVec 8) : Statement (.jigStart p mask) := fun h => nomatch h
theorem jigHalt (p : Fin 2) (mask : BitVec 8) : Statement (.jigHalt p mask) := fun h => nomatch h
theorem jigRealign (p : Fin 2) (mask : BitVec 8) : Statement (.jigRealign p mask) := fun h => nomatch h
theorem jigNop (e : Fin 8) (a : BitVec 10) (imm : BitVec 16) : Statement (.jigNop e a imm) := fun h => nomatch h
theorem jigIdle (e : Fin 8) (a : BitVec 10) (imm : BitVec 16) : Statement (.jigIdle e a imm) := fun h => nomatch h
theorem jigIdleExpire (e : Fin 8) : Statement (.jigIdleExpire e) := fun h => nomatch h
theorem jigPins (e : Fin 8) (a : BitVec 10) (imm : BitVec 16) : Statement (.jigPins e a imm) := fun h => nomatch h
theorem jigDirs (e : Fin 8) (a : BitVec 10) (imm : BitVec 16) : Statement (.jigDirs e a imm) := fun h => nomatch h
theorem jigWaitl (e : Fin 8) (a : BitVec 10) (imm : BitVec 16) (pins : BitVec 8) : Statement (.jigWaitl e a imm pins) := fun h => nomatch h
theorem jigWaite (e : Fin 8) (a : BitVec 10) (imm : BitVec 16) : Statement (.jigWaite e a imm) := fun h => nomatch h
theorem jigWaitg (e : Fin 8) (a : BitVec 10) (imm : BitVec 16) : Statement (.jigWaitg e a imm) := fun h => nomatch h
theorem jigWaitEnd (e : Fin 8) (stamp : Nat) : Statement (.jigWaitEnd e stamp) := fun h => nomatch h
theorem jigWaitTimeout (e : Fin 8) : Statement (.jigWaitTimeout e) := fun h => nomatch h
theorem jigShin (e : Fin 8) (a : BitVec 10) (imm : BitVec 16) (bits : BitVec 32) : Statement (.jigShin e a imm bits) := fun h => nomatch h
theorem jigShout (e : Fin 8) (a : BitVec 10) (imm : BitVec 16) : Statement (.jigShout e a imm) := fun h => nomatch h
theorem jigPush (e : Fin 8) (a : BitVec 10) (imm : BitVec 16) : Statement (.jigPush e a imm) := fun h => nomatch h
theorem jigPull (e : Fin 8) (a : BitVec 10) (imm : BitVec 16) : Statement (.jigPull e a imm) := fun h => nomatch h
theorem jigStallEnd (e : Fin 8) : Statement (.jigStallEnd e) := fun h => nomatch h
theorem jigMov (e : Fin 8) (a : BitVec 10) (imm : BitVec 16) (pins : BitVec 8) : Statement (.jigMov e a imm pins) := fun h => nomatch h
theorem jigMovi (e : Fin 8) (a : BitVec 10) (imm : BitVec 16) : Statement (.jigMovi e a imm) := fun h => nomatch h
theorem jigAddi (e : Fin 8) (a : BitVec 10) (imm : BitVec 16) : Statement (.jigAddi e a imm) := fun h => nomatch h
theorem jigSub (e : Fin 8) (a : BitVec 10) (imm : BitVec 16) (pins : BitVec 8) : Statement (.jigSub e a imm pins) := fun h => nomatch h
theorem jigTest (e : Fin 8) (a : BitVec 10) (imm : BitVec 16) : Statement (.jigTest e a imm) := fun h => nomatch h
theorem jigBr (e : Fin 8) (a : BitVec 10) (imm : BitVec 16) (pins : BitVec 8) : Statement (.jigBr e a imm pins) := fun h => nomatch h
theorem jigLoop (e : Fin 8) (a : BitVec 10) (imm : BitVec 16) : Statement (.jigLoop e a imm) := fun h => nomatch h
theorem jigRecip (e : Fin 8) (a : BitVec 10) (imm : BitVec 16) : Statement (.jigRecip e a imm) := fun h => nomatch h
theorem jigMulq (e : Fin 8) (a : BitVec 10) (imm : BitVec 16) : Statement (.jigMulq e a imm) := fun h => nomatch h
theorem jigSig (e : Fin 8) (a : BitVec 10) (imm : BitVec 16) : Statement (.jigSig e a imm) := fun h => nomatch h
theorem jigYield (e : Fin 8) (a : BitVec 10) (imm : BitVec 16) : Statement (.jigYield e a imm) := fun h => nomatch h
theorem jigSwapRequest (p : Fin 11) (e : Fin 8) : Statement (.jigSwapRequest p e) := fun h => nomatch h
theorem jigForceSwap (p : Fin 11) (e : Fin 8) : Statement (.jigForceSwap p e) := fun h => nomatch h
theorem jigFlush (p : Fin 11) (e : Fin 8) : Statement (.jigFlush p e) := fun h => nomatch h
theorem jigTrgclr (p : Fin 11) (e : Fin 8) : Statement (.jigTrgclr p e) := fun h => nomatch h
theorem jigProgramWrite (p : Fin 11) (e : Fin 8) (i : Fin 64) (v : BitVec 32) : Statement (.jigProgramWrite p e i v) := fun h => nomatch h
theorem jigTxfWrite (p : Fin 11) (e : Fin 8) (v : BitVec 32) : Statement (.jigTxfWrite p e v) := fun h => nomatch h
theorem jigRxfRead (p : Fin 11) (e : Fin 8) : Statement (.jigRxfRead p e) := fun h => nomatch h
theorem jigDisable (p : Fin 11) (e : Fin 8) : Statement (.jigDisable p e) := fun h => nomatch h
theorem timerEnable (p : Fin 11) (n : Fin 16) (v : BitVec 32) : Statement (.timerEnable p n v) := fun h => nomatch h
theorem timerCompare (n : Fin 16) : Statement (.timerCompare n) := fun h => nomatch h
theorem timerWrap (n : Fin 16) : Statement (.timerWrap n) := fun h => nomatch h
theorem timerCapture (n : Fin 16) (stamp : Nat) : Statement (.timerCapture n stamp) := fun h => nomatch h
theorem timerCmpvWrite (p : Fin 11) (n : Fin 16) (v : BitVec 32) : Statement (.timerCmpvWrite p n v) := fun h => nomatch h
theorem timerCapall (p : Fin 2) : Statement (.timerCapall p) := fun h => nomatch h
theorem tmrFault (n : Fin 16) : Statement (.tmrFault n) := fun h => nomatch h
theorem sealSealed (p : Fin 2) (n : Fin 16) (v : BitVec 32) : Statement (.sealSealed p n v) := fun h => nomatch h
theorem sealAddWrite (p : Fin 2) (n : Fin 16) (v : BitVec 32) : Statement (.sealAddWrite p n v) := fun h => nomatch h
theorem sealIncrementAdd (x : SealFound) : Statement (.sealIncrementAdd x) := fun h => nomatch h
theorem sealReport (p : Fin 2) : Statement (.sealReport p) := fun h => nomatch h
theorem sealReportDone : Statement (.sealReportDone) := fun h => nomatch h
theorem sealBurn (p : Fin 2) (v : BitVec 32) : Statement (.sealBurn p v) := fun h => nomatch h
theorem portTrain (r : Fin 3) : Statement (.portTrain r) := fun h => nomatch h
theorem portHello (r : Fin 3) : Statement (.portHello r) := fun h => nomatch h
theorem portUp (r : Fin 3) : Statement (.portUp r) := fun h => nomatch h
theorem portSilence (r : Fin 3) : Statement (.portSilence r) := fun h => nomatch h
theorem portCodeErrors (r : Fin 3) : Statement (.portCodeErrors r) := fun h => nomatch h
theorem helloSend (r : Fin 3) : Statement (.helloSend r) := fun h => nomatch h
theorem helloReceive (r : Fin 3) (seq : Fin 256) (id : Fin 32) (idv : Bool) (bench : Bool) (rank : Fin 4) (serial : BitVec 64) : Statement (.helloReceive r seq id idv bench rank serial) := fun h => nomatch h
theorem msgReceive (r : Fin 3) (seq : Fin 256) (vc : Bool) (dst : Fin 32) (src : Fin 32) (dwork : Fin 16) (swork : Fin 16) (type : BitVec 16) (lun : Fin 256) (pay : List (BitVec 32)) : Statement (.msgReceive r seq vc dst src dwork swork type lun pay) := fun _ => rfl
theorem beaconReceive (r : Fin 3) (seq : Fin 256) (bs : List Nat) (ts : Nat) : Statement (.beaconReceive r seq bs ts) := fun _ => rfl
theorem asegReceive (r : Fin 3) (seq : Fin 256) (bs : List Nat) : Statement (.asegReceive r seq bs) := fun _ => rfl
theorem dreqReceive (r : Fin 3) (seq : Fin 256) (ts : Nat) : Statement (.dreqReceive r seq ts) := fun h => nomatch h
theorem drspReceive (r : Fin 3) (seq : Fin 256) (bs : List Nat) (ts : Nat) : Statement (.drspReceive r seq bs ts) := fun _ => rfl
theorem lrecReceive (r : Fin 3) (seq : Fin 256) (bs : List Nat) : Statement (.lrecReceive r seq bs) := fun _ => rfl
theorem ackReceive (r : Fin 3) (seq : Fin 256) : Statement (.ackReceive r seq) := fun h => nomatch h
theorem nakReceive (r : Fin 3) (seq : Fin 256) : Statement (.nakReceive r seq) := fun h => nomatch h
theorem creditAngle (r : Fin 3) (n : Fin 256) : Statement (.creditAngle r n) := fun h => nomatch h
theorem creditBulk (r : Fin 3) (n : Fin 256) : Statement (.creditBulk r n) := fun h => nomatch h
theorem controlSetRepeat (r : Fin 3) : Statement (.controlSetRepeat r) := fun h => nomatch h
theorem ackTimeout (r : Fin 3) : Statement (.ackTimeout r) := fun h => nomatch h
theorem frameForward (r : Fin 3) : Statement (.frameForward r) := fun h => nomatch h
theorem lineupCommit : Statement (.lineupCommit) := fun h => nomatch h
theorem beaconSend : Statement (.beaconSend) := fun h => nomatch h
theorem timeExchange : Statement (.timeExchange) := fun h => nomatch h
theorem captainTimeout : Statement (.captainTimeout) := fun h => nomatch h
theorem holdoverExpire : Statement (.holdoverExpire) := fun h => nomatch h
theorem fabLineupCmd (p : Fin 2) : Statement (.fabLineupCmd p) := fun h => nomatch h
theorem fabHandover (p : Fin 2) (tgt : Fin 32) : Statement (.fabHandover p tgt) := fun h => nomatch h
theorem handoverTimeout : Statement (.handoverTimeout) := fun h => nomatch h
theorem fabDiffclr (p : Fin 2) : Statement (.fabDiffclr p) := fun h => nomatch h
theorem hostRead (addr : BitVec 40) (len : BitVec 8) (crc : BitVec 16) (link : Option (Fin 16)) : Statement (.hostRead addr len crc link) := fun h => nomatch h
theorem hostReadf (addr : BitVec 40) (len : BitVec 8) (crc : BitVec 16) (link : Option (Fin 16)) : Statement (.hostReadf addr len crc link) := fun h => nomatch h
theorem hostWrite (addr : BitVec 40) (len : BitVec 8) (ws : List (BitVec 32)) (crc : BitVec 16) (link : Option (Fin 16)) : Statement (.hostWrite addr len ws crc link) := fun _ => rfl
theorem hostWritef (addr : BitVec 40) (len : BitVec 8) (ws : List (BitVec 32)) (crc : BitVec 16) (link : Option (Fin 16)) : Statement (.hostWritef addr len ws crc link) := fun _ => rfl
theorem hostIntr (crc : BitVec 16) : Statement (.hostIntr crc) := fun h => nomatch h
theorem hostBadOpcode (op : BitVec 8) : Statement (.hostBadOpcode op) := fun h => nomatch h
theorem hostAbort : Statement (.hostAbort) := fun h => nomatch h
theorem mntWrite (addr : BitVec 7) (bs : List (BitVec 8)) : Statement (.mntWrite addr bs) := fun h => nomatch h
theorem mntRead (addr : BitVec 7) (n : Nat) : Statement (.mntRead addr n) := fun h => nomatch h
theorem mntByteAbandon (unitAck : Bool) : Statement (.mntByteAbandon unitAck) := fun h => nomatch h
theorem mntStretchTimeout : Statement (.mntStretchTimeout) := fun h => nomatch h
theorem mntSclTimeout : Statement (.mntSclTimeout) := fun h => nomatch h
theorem mntIndirectRead (inc : Bool) : Statement (.mntIndirectRead inc) := fun h => nomatch h
theorem mntIndirectWrite (inc : Bool) : Statement (.mntIndirectWrite inc) := fun h => nomatch h
theorem mntIndirectDone (link : Bool) : Statement (.mntIndirectDone link) := fun h => nomatch h
theorem alertResponse (seen : BitVec 8) : Statement (.alertResponse seen) := fun h => nomatch h
theorem astatClear (v : BitVec 8) : Statement (.astatClear v) := fun h => nomatch h
theorem testModeOpen (key : BitVec 64) : Statement (.testModeOpen key) := fun h => nomatch h
theorem collectorAccept : Statement (.collectorAccept) := fun h => nomatch h
theorem shotClock : Statement (.shotClock) := fun h => nomatch h
theorem fltPop (p : Fin 2) : Statement (.fltPop p) := fun h => nomatch h
theorem fltSafe (p : Fin 2) : Statement (.fltSafe p) := fun h => nomatch h
theorem fltRelease (p : Fin 2) : Statement (.fltRelease p) := fun h => nomatch h
theorem fltAck (p : Fin 2) (v : BitVec 32) : Statement (.fltAck p v) := fun h => nomatch h
theorem safeLine (levels : BitVec 2) : Statement (.safeLine levels) := fun h => nomatch h
theorem collFault : Statement (.collFault) := fun h => nomatch h
theorem overSlot : Statement (.overSlot) := fun h => nomatch h
theorem overEnd (pass : Bool) : Statement (.overEnd pass) := fun h => nomatch h
theorem overOverrun : Statement (.overOverrun) := fun h => nomatch h
theorem bistDeferTimeout : Statement (.bistDeferTimeout) := fun h => nomatch h
theorem inningsStart : Statement (.inningsStart) := fun h => nomatch h
theorem bistCmd (p : Fin 2) (u : Fin 16) : Statement (.bistCmd p u) := fun h => nomatch h
theorem fiResidue (p : Fin 2) : Statement (.fiResidue p) := fun h => nomatch h
theorem fiBitFlip (p : Fin 2) : Statement (.fiBitFlip p) := fun h => nomatch h
theorem fiDoubleFlip (p : Fin 2) : Statement (.fiDoubleFlip p) := fun h => nomatch h
theorem fiDdlCrc (p : Fin 2) : Statement (.fiDdlCrc p) := fun h => nomatch h
theorem fiMdlCrc (p : Fin 2) : Statement (.fiMdlCrc p) := fun h => nomatch h
theorem fiDdlSilence (p : Fin 2) : Statement (.fiDdlSilence p) := fun h => nomatch h
theorem fiOverFail (p : Fin 2) : Statement (.fiOverFail p) := fun h => nomatch h
theorem fiEchoMismatch (p : Fin 2) : Statement (.fiEchoMismatch p) := fun h => nomatch h
theorem fiMessage (p : Fin 2) : Statement (.fiMessage p) := fun h => nomatch h
theorem timerIncrement (n : Fin 16) : Statement (.timerIncrement n) := fun h => nomatch h
theorem vbatGood : Statement (.vbatGood) := fun h => nomatch h
theorem vioBankGood (b : Fin 3) : Statement (.vioBankGood b) := fun h => nomatch h
theorem captureSample (b : Fin 8) (v : Int) : Statement (.captureSample b v) := fun h => nomatch h
theorem tchopminExpire (n : Fin 32) : Statement (.tchopminExpire n) := fun h => nomatch h
theorem frameReceiveBad (r : Fin 3) : Statement (.frameReceiveBad r) := fun h => nomatch h
theorem ownNodeMessage (w : Fin 9) (vc : Bool) : Statement (.ownNodeMessage w vc) := fun h => nomatch h
theorem initmbAdvance : Statement (.initmbAdvance) := fun h => nomatch h
theorem wReservedOpcode (c : Fin 9) (w : BitVec 32) : Statement (.wReservedOpcode c w) := fun h => nomatch h
theorem jigReservedOpcode (e : Fin 8) (w : BitVec 32) : Statement (.jigReservedOpcode e w) := fun h => nomatch h

end Sys2Proof.Laws.WellFormed
end

