-- ==== Sys2Proof/Laws/Walend.lean ====
section
/-! SUPPORT. What one instruction of a running core can do: its frame, once for each way it can leave. -/

namespace Sys2Proof.Machine

/-- An instruction's TCLK: time comes to its last one and the run has spent them. -/
theorem State.spend_eq {s : State} {c : Fin 9} {r : Run} (h : s.clu[c].run = some r) (n : Nat) :
    s.spend c n = { s.atEnd r n with clu := s.clu.set c.val { s.clu[c] with run := some { r with spent := r.spent + n } } c.isLt } := by
  have h2 : s.clu[c.val].run = some r := h
  simp [State.spend, State.atEnd, State.setClu, upd, h2]

/-- A running core's instruction is its effect after its TCLK, then the flow. -/
theorem State.insn_running {s : State} {c : Fin 9} {r : Run} (h : s.Running c r) (n : Nat) (f : State → State × Flow) :
    s.insn c n false f = match f (s.spend c n) with
      | (t, .left) => t
      | (t, .jump p) => t.setClu c fun k => { k with pc := p }
      | (t, .next) => t.setClu c fun x => { x with pc := x.pc + 1 } := by
  obtain ⟨h1, h2, h3, h4, h5, h6⟩ := h
  have h7 : ¬ s.hbudget c ≤ r.spent := by omega
  have h8 : srcC 0 c.val 0xF ∉ (s.spend c n).inj.residue := by rw [State.spend_eq h2]; simpa [State.atEnd] using h4
  have h2 : s.clu[c.val].run = some r := h2
  have h9 : ¬ 4095 ≤ s.clu[c.val].pc := Nat.not_le.mpr h5
  simp only [State.insn, h1, Fin.getElem_fin, h2, h7, h6, h8, h9, Bool.not_true, Bool.false_eq_true, if_false]
  all_goals (rcases f (s.spend c n) with ⟨t, _ | _ | _⟩ <;> rfl)

/-- A running core's instruction that goes on to the next one. -/
theorem State.insn_next {s : State} {c : Fin 9} {r : Run} (h : s.Running c r) {n : Nat} {f : State → State × Flow} {t : State}
    (hf : f (s.spend c n) = (t, .next)) : s.insn c n false f = t.setClu c fun x => { x with pc := x.pc + 1 } := by
  rw [State.insn_running h, hf]

/-- A running core's instruction that jumps. -/
theorem State.insn_jump {s : State} {c : Fin 9} {r : Run} (h : s.Running c r) {n : Nat} {f : State → State × Flow} {t : State}
    {p : Nat} (hf : f (s.spend c n) = (t, .jump p)) : s.insn c n false f = t.setClu c fun x => { x with pc := p } := by
  rw [State.insn_running h, hf]

/-- A running core's instruction that leaves the handler or abandons itself. -/
theorem State.insn_left {s : State} {c : Fin 9} {r : Run} (h : s.Running c r) {n : Nat} {f : State → State × Flow} {t : State}
    (hf : f (s.spend c n) = (t, .left)) : s.insn c n false f = t := by
  rw [State.insn_running h, hf]

/-- A running core's instruction with an encoding that is illegal raises ILLEGAL at its last TCLK. -/
theorem State.insn_illegal {s : State} {c : Fin 9} {r : Run} (h : s.Running c r) {n : Nat} {f : State → State × Flow} :
    s.insn c n true f = (s.spend c n).coreExc c 1 s.clu[c].pc none := by
  obtain ⟨h1, h2, h3, _, _, h6⟩ := h
  have h7 : ¬ s.hbudget c ≤ r.spent := by omega
  have h2 : s.clu[c.val].run = some r := h2
  simp [State.insn, h1, h2, h7, h6]

/-- An instruction that only changes its core. -/
theorem State.plain_running {s : State} {c : Fin 9} {r : Run} (h : s.Running c r) (n : Nat) (f : Cluster → Cluster) :
    s.plain c n false f =
      let k := f { s.clu[c] with run := some { r with spent := r.spent + n } }
      { s.atEnd r n with clu := s.clu.set c.val { k with pc := k.pc + 1 } c.isLt } := by
  rw [State.plain, State.insn_next h rfl, State.spend_eq h.2.1]
  simp [State.setClu, upd]

end Sys2Proof.Machine
end

