-- ==== Sys2Proof/Tests/Slice0.lean ====
section
/-! SUPPORT. Tests: what meets the hypotheses of each statement, ill-formed commands, and results taken from the rules. -/

/- Every witness is one evaluation by the kernel: one after the other, they need the stack of one thread only. -/
set_option Elab.async false

open Sys2Proof Sys2Proof.Machine

namespace Sys2Proof.Tests

/-! ### Small states -/

/-- The device in RUN. -/
def up : State := { State.reset with sys := { State.reset.sys with st := .run } }

/-- The device in a state of R449. -/
def dev (st : DState) : State := { State.reset with sys := { State.reset.sys with st := st } }

/-- RUN, and the package out of the safe actuation state. -/
def calm : State :=
  { up with
    coll := { up.coll with safe := false, cState := false, lineA := false, lineB := false }
    drv := { up.drv with safe := false } }

/-- A handler run of cue 7. -/
def hrun : Run := ⟨⟨7, 0, 0, 0, 0, []⟩, false, false, 0, 0⟩

/-- SC3 carries work 3 and runs a handler at PC 40, with g1 = x and g2 = y. -/
def core (x y : Word) (r : Run := hrun) : State :=
  calm.setClu 3 fun k => { k with role := .active, run := some r, pc := 40, g := (k.g.set 1 x).set 2 y }

/-- The same core with g2 at a descriptor in its data SRAM; SC3 owns channel 4. -/
def arming (d0 d1 d2 : Word) (r : Run := hrun) : State :=
  ((core 0 0x100 r).setWords 0x34100 [d0, d1, d2, 0]).setECh 4 fun x => { x with owner := 3 }

/-- A peg with SEQ 5. -/
def peg (kind target : Nat) (st : PegState) (inst : Option Nat) : Peg :=
  { Peg.empty with kind := kind, target := target, st := st, inst := inst, seq := 5 }

/-- SC3 runs a handler with the handle of slot 0 in g1; p stands there. -/
def handled (p : Peg) : State := (core 160 100).setPeg 3 0 fun _ => p

/-- SC3 is ACTIVE and idle and carries work 3 with p in slot 0; it owns channel 4 and ignition output 2. -/
def idle3 (p : Peg) : State :=
  ((((calm.setClu 3 fun k => { k with role := .active }).setPeg 3 0 fun _ => p).setECh 4 fun x => { x with owner := 3 }).setEIgn 2
    fun x => { x with owner := 3 })

/-- What a state answers when a command gives it. -/
def gives (o : Out) (p : State → Bool) : Bool :=
  match o with
  | .next t => p t
  | _ => false

/-- FULL, with a model segment that stands at angle 0. -/
def turning : State :=
  { calm with
    whl := { calm.whl with sync := .full }
    prd := { calm.prd with stage := .running, seg := some ⟨0, 0, 1, 0, 160000, false, 0x5A0000, false⟩ }
    clu := calm.clu.set 3 { calm.clu[3] with role := .active } }

/-- A comparator of work 3 at that state. -/
def armedComp (x : Comp) : State := turning.setWork 3 fun w => { w with comps := w.comps.set 15 x }

/-- The same with WHL0 enabled. -/
def wheel : State := turning.setRg Reg.whlxCfg 0 0 0x4001

/-- WHL1 is the phase source, with one tooth at angle 0. -/
def cam : State :=
  (((wheel.setRf Reg.whlSyncCfg 0 2 1 1).setRg Reg.whlxCfg 1 0 0x4001).setRf Reg.whlSyncCfg 0 0 0 0).setRg Reg.whlxPat 1 0 0x1000000

/-- Channel 4 is enabled, its edge line has risen, and its SELECT is known. -/
def starting : State :=
  ((idle3 Peg.empty).setCh 4 fun d => { d with startPend := true, sel := some ⟨0, 5, 9⟩ }).setRf Reg.chCfg 4 0 0 1

/-- Bank 1 with waiting starts, and rail 0 ready or not. -/
def waiting (w : List WaitStart) (rdy : Bool) : State :=
  ((idle3 Peg.empty).setBank 1 fun b => { b with waits := w }).setBst 0 fun x => { x with rdy := rdy }

/-- A shot of profile 0 with SEQ 5 and OWNER 9. -/
def shot (ph : Phase) : Shot :=
  ⟨ph, 0, up.profile 0, 5, 9, false, 0, 0, 0, 0, false, false, false, false, false, false, 0, false, 0, 0, none, 0⟩

/-- Channel 4 runs a shot as the lead of bank 1. -/
def firing (h : Shot) : State :=
  ((idle3 Peg.empty).setCh 4 fun d => { d with shot := some h }).setBank 1 fun b => { b with lead := some 0 }

/-- A valid sample. -/
def sample : Sample := ⟨3, 8, true, true, 0⟩

/-- Modulator 0 in an entry of its sequence. -/
def modded (f : Modulator → Modulator) : State := up.setMod 0 f

/-- An opening with this configuration word. -/
def opening (cfg : Word) (pts : List Point) (aborted : Bool) : WinRun :=
  ⟨cfg, 0, 0, 0, 0, 1, 0, 0, 0, 0, none, [], none, pts, 0, false, false, aborted, 0, 0, 0⟩

/-- A window with an opening that samples modulator 1. -/
def opened (s : State) : State := s.setWin 2 fun w => { w with isOpen := true, runs := [opening 1 [] false] }

/-- Engine 7 as f makes it. -/
def jigged (f : Jig → Jig) : State := calm.setJig 7 f

/-- Engine 7 stands at an instruction. -/
def atInstr : State := jigged fun g => { g with run := true }

/-- Timer 0 as f makes it, enabled. -/
def timing (f : Timer → Timer) : State := (up.setRg Reg.tmrCfg 0 0 1).setTmr 0 f

/-- The fabric is enabled; port 0 as given. -/
def fabric (p : FPort) : State :=
  let s := calm.setRg Reg.fabCfg 0 0 0x2800F
  { s with fab := { s.fab with port := s.fab.port.set 0 p } }

/-- A port that is UP. -/
def upPort : FPort := { FPort.reset with st := .up }

/-- A frame of a type, toward node 1. -/
def frame (ft : Nat) (vc : Bool) : Frame := ⟨ft, vc, 1, 0, 0, 3, 0, 0, [], [], 0⟩

/-- The same with the fabric's own fields as f makes them. -/
def fabricked (p : FPort) (f : Fabric → Fabric) : State :=
  let s := fabric p
  { s with fab := f s.fab }

/-- A fault message of a class. -/
def msg (cls src at_ : Nat) : Msg := ⟨cls, 1, src, 0, at_, 0, false⟩

/-- The collector as f makes it. -/
def collecting (f : Collector → Collector) : State := { calm with coll := f calm.coll }

/-- The BIST controller enabled, as f makes it. -/
def batting (f : Bist → Bist) : State :=
  let s := calm.setRf Reg.bistCfg 0 0 0 1
  { s with bist := f s.bist }

/-- Factory test mode is open; FI_SRC holds src. -/
def injecting (src : Nat) : State :=
  ({ up with mnt := { up.mnt with testOpen := true } } : State).setRf Reg.fiSrc 0 11 0 src

/-! ### What meets the hypotheses of the statements, clause by clause -/

/-- States and operands that meet the hypotheses of StepRunsFrontCommand. -/
theorem test_meets_StepRunsFrontCommand :
    (∃ (s : State) (i : Instr) (rest : List Instr), (s.pending = i :: rest)) :=
  ⟨{ up with pending := [.sysRun 0 0, .pllLock] }, .sysRun 0 0, [.pllLock], by decide +kernel⟩

/-- States and operands that meet the hypotheses of EmptyQueueIdles. -/
theorem test_meets_EmptyQueueIdles :
    (∃ (s : State) (c : Fin 9) (w : Word), (s.pending = []) ∧ (s.coreDue = some c) ∧ (s.coreWord c = some w) ∧ (walendCommand c w s.meets).any (fun _ => true) = true)
    ∧ (∃ (s : State) (c : Fin 9) (w : Word), (s.pending = []) ∧ (s.coreDue = some c) ∧ (s.coreWord c = some w) ∧ (walendCommand c w s.meets = none))
    ∧ (∃ (s : State) (e : Fin 8) (w : Word), (s.pending = []) ∧ (s.coreDue = none) ∧ (s.jigDue = some e) ∧ (s.jigWord e = some w) ∧ (jigCommand e w s.meets).any (fun _ => true) = true)
    ∧ (∃ (s : State) (e : Fin 8) (w : Word), (s.pending = []) ∧ (s.coreDue = none) ∧ (s.jigDue = some e) ∧ (s.jigWord e = some w) ∧ (jigCommand e w s.meets = none))
    ∧ (∃ (s : State), (s.pending = []) ∧ (s.coreDue = none) ∧ (s.jigDue = none)) :=
  ⟨⟨core 0 0, 3, 0, by decide +kernel⟩,
    ⟨(core 0 0).setWords 0x300A0 [0xFC000000], 3, 0xFC000000, by decide +kernel⟩,
    ⟨atInstr, 7, 0, by decide +kernel⟩,
    ⟨jigged fun g => { g with run := true, prog0 := g.prog0.set 0 0xFC000000 }, 7, 0xFC000000, by decide +kernel⟩,
    ⟨up, by decide +kernel⟩⟩

/-- States and operands that meet the hypotheses of ArithmeticLogicAndShifts. -/
theorem test_meets_ArithmeticLogicAndShifts :
    (∃ (s : State) (c : Fin 9) (r : Run) (d x y : Fin 16) (i : BitVec 16), (s.Running c r) ∧ (i.toNat < 32)) :=
  ⟨core 7 9, 3, hrun, 15, 1, 2, 31, by decide +kernel⟩

/-- States and operands that meet the hypotheses of Division. -/
theorem test_meets_Division :
    (∃ (s : State) (c : Fin 9) (r : Run) (d x y : Fin 16), (s.Running c r) ∧ let k := s.clu[c]
      let a : Word := k.g[x]
      let b : Word := k.g[y]
      (b = 0) ∧ (0 ≤ a.toInt))
    ∧ (∃ (s : State) (c : Fin 9) (r : Run) (d x y : Fin 16), (s.Running c r) ∧ let k := s.clu[c]
      let a : Word := k.g[x]
      let b : Word := k.g[y]
      (b = 0) ∧ (a.toInt < 0))
    ∧ (∃ (s : State) (c : Fin 9) (r : Run) (d x y : Fin 16), (s.Running c r) ∧ let k := s.clu[c]
      let a : Word := k.g[x]
      let b : Word := k.g[y]
      (a = 0x80000000) ∧ (b = 0xFFFFFFFF))
    ∧ (∃ (s : State) (c : Fin 9) (r : Run) (d x y : Fin 16), (s.Running c r) ∧ let k := s.clu[c]
      let a : Word := k.g[x]
      let b : Word := k.g[y]
      (b ≠ 0) ∧ (¬(a = 0x80000000 ∧ b = 0xFFFFFFFF))) :=
  ⟨⟨core 5 0, 3, hrun, 0, 1, 2, by decide +kernel⟩,
    ⟨core 0x80000000 0, 3, hrun, 0, 1, 2, by decide +kernel⟩,
    ⟨core 0x80000000 0xFFFFFFFF, 3, hrun, 0, 1, 2, by decide +kernel⟩,
    ⟨core 0x80000000 1, 3, hrun, 0, 1, 2, by decide +kernel⟩⟩

/-- States and operands that meet the hypotheses of MovesAndFlagRead. -/
theorem test_meets_MovesAndFlagRead :
    (∃ (s : State) (c : Fin 9) (r : Run) (d x : Fin 16) (i : BitVec 16), (s.Running c r)) :=
  ⟨core 7 9, 3, hrun, 15, 1, 0x8000, by decide +kernel⟩

/-- States and operands that meet the hypotheses of DataMemory. -/
theorem test_meets_DataMemory :
    (∃ (s : State) (c w : Fin 9) (r : Run) (d b : Fin 16) (i : BitVec 16), (s.Running c r) ∧ (s.clu[c].work = some w) ∧ let k := s.clu[c]
      let ofReg : Word := k.g[b] + i.signExtend 32
      let cell (x : Word) : Nat := w.val * 0x10000 + 0x4000 + x.toNat
      let whole (x : Word) : Prop := ∀ f ∈ s.inj.flips, f.1 ≠ cell x
      (ofReg.toNat % 4 = 0) ∧ (ofReg.toNat ≤ 0x1FFF) ∧ (whole ofReg))
    ∧ (∃ (s : State) (c w : Fin 9) (r : Run) (d b : Fin 16) (i : BitVec 16), (s.Running c r) ∧ (s.clu[c].work = some w) ∧ let abs : Word := i.zeroExtend 32
      let cell (x : Word) : Nat := w.val * 0x10000 + 0x4000 + x.toNat
      let whole (x : Word) : Prop := ∀ f ∈ s.inj.flips, f.1 ≠ cell x
      (abs.toNat % 4 = 0) ∧ (abs.toNat ≤ 0x1FFF) ∧ (whole abs))
    ∧ (∃ (s : State) (c w : Fin 9) (r : Run) (d b : Fin 16) (i : BitVec 16), (s.Running c r) ∧ (s.clu[c].work = some w) ∧ let abs : Word := i.zeroExtend 32
      let cell (x : Word) : Nat := w.val * 0x10000 + 0x4000 + x.toNat
      let mine (x : Word) : Prop := (s.atEnd r 1).hwNow (cell x) = 0
      (abs.toNat % 4 = 0) ∧ (abs.toNat < 0x1F80) ∧ (mine abs))
    ∧ (∃ (s : State) (c w : Fin 9) (r : Run) (d b : Fin 16) (i : BitVec 16), (s.Running c r) ∧ (s.clu[c].work = some w) ∧ let k := s.clu[c]
      let ofReg : Word := k.g[b] + i.signExtend 32
      let cell (x : Word) : Nat := w.val * 0x10000 + 0x4000 + x.toNat
      let mine (x : Word) : Prop := (s.atEnd r 1).hwNow (cell x) = 0
      (ofReg.toNat % 4 = 0) ∧ (ofReg.toNat < 0x1F80) ∧ (¬mine ofReg))
    ∧ (∃ (s : State) (c w : Fin 9) (r : Run) (d b : Fin 16) (i : BitVec 16), (s.Running c r) ∧ (s.clu[c].work = some w) ∧ let abs : Word := i.zeroExtend 32
      let cell (x : Word) : Nat := w.val * 0x10000 + 0x4000 + x.toNat
      let mine (x : Word) : Prop := (s.atEnd r 1).hwNow (cell x) = 0
      (abs.toNat % 4 = 0) ∧ (abs.toNat < 0x1F80) ∧ (¬mine abs))
    ∧ (∃ (s : State) (c w : Fin 9) (r : Run) (d b : Fin 16) (i : BitVec 16), (s.Running c r) ∧ (s.clu[c].work = some w) ∧ let k := s.clu[c]
      let ofReg : Word := k.g[b] + i.signExtend 32
      let cell (x : Word) : Nat := w.val * 0x10000 + 0x4000 + x.toNat
      (ofReg.toNat % 4 = 0) ∧ (ofReg.toNat ≤ 0x1FFF) ∧ (s.inj.flips.find? (·.1 = cell ofReg) = some (cell ofReg, 1)))
    ∧ (∃ (s : State) (c w : Fin 9) (r : Run) (d b : Fin 16) (i : BitVec 16), (s.Running c r) ∧ (s.clu[c].work = some w) ∧ let abs : Word := i.zeroExtend 32
      let cell (x : Word) : Nat := w.val * 0x10000 + 0x4000 + x.toNat
      (abs.toNat % 4 = 0) ∧ (abs.toNat ≤ 0x1FFF) ∧ (s.inj.flips.find? (·.1 = cell abs) = some (cell abs, 1)))
    ∧ (∃ (s : State) (c w : Fin 9) (r : Run) (d b : Fin 16) (i : BitVec 16), (s.Running c r) ∧ (s.clu[c].work = some w) ∧ let k := s.clu[c]
      let ofReg : Word := k.g[b] + i.signExtend 32
      let wrong (x : Word) (top : Nat) : Prop := x.toNat % 4 ≠ 0 ∨ top ≤ x.toNat
      (wrong ofReg 0x2000))
    ∧ (∃ (s : State) (c w : Fin 9) (r : Run) (d b : Fin 16) (i : BitVec 16), (s.Running c r) ∧ (s.clu[c].work = some w) ∧ let abs : Word := i.zeroExtend 32
      let wrong (x : Word) (top : Nat) : Prop := x.toNat % 4 ≠ 0 ∨ top ≤ x.toNat
      (wrong abs 0x2000))
    ∧ (∃ (s : State) (c w : Fin 9) (r : Run) (d b : Fin 16) (i : BitVec 16), (s.Running c r) ∧ (s.clu[c].work = some w) ∧ let k := s.clu[c]
      let ofReg : Word := k.g[b] + i.signExtend 32
      let wrong (x : Word) (top : Nat) : Prop := x.toNat % 4 ≠ 0 ∨ top ≤ x.toNat
      (wrong ofReg 0x1F80))
    ∧ (∃ (s : State) (c w : Fin 9) (r : Run) (d b : Fin 16) (i : BitVec 16), (s.Running c r) ∧ (s.clu[c].work = some w) ∧ let abs : Word := i.zeroExtend 32
      let wrong (x : Word) (top : Nat) : Prop := x.toNat % 4 ≠ 0 ∨ top ≤ x.toNat
      (wrong abs 0x1F80))
    ∧ (∃ (s : State) (c w : Fin 9) (r : Run) (d b : Fin 16) (i : BitVec 16), (s.Running c r) ∧ (s.clu[c].work = some w) ∧ let k := s.clu[c]
      let ofReg : Word := k.g[b] + i.signExtend 32
      let cell (x : Word) : Nat := w.val * 0x10000 + 0x4000 + x.toNat
      let mine (x : Word) : Prop := (s.atEnd r 1).hwNow (cell x) = 0
      (ofReg.toNat % 4 = 0) ∧ (ofReg.toNat < 0x1F80) ∧ (mine ofReg) ∧ (Memory.wf s.mem = true))
    ∧ (∃ (s : State) (c w : Fin 9) (r : Run) (d b : Fin 16) (i : BitVec 16), (s.Running c r) ∧ (s.clu[c].work = some w) ∧ let k := s.clu[c]
      let ofReg : Word := k.g[b] + i.signExtend 32
      let cell (x : Word) : Nat := w.val * 0x10000 + 0x4000 + x.toNat
      let mine (x : Word) : Prop := (s.atEnd r 1).hwNow (cell x) = 0
      (ofReg.toNat % 4 = 0) ∧ (ofReg.toNat < 0x1F80) ∧ (mine ofReg) ∧ ([0, 4, 7, 0x34000, 0x36000, 0x100000, 0xFFFFC, 0x100100000] : List (Nat)).any (fun a => decide ((a < cell ofReg ∨ cell ofReg + 4 ≤ a))) = true) :=
  ⟨⟨{ core 0x1F7C 9 with hwSet := (List.range 8).map fun n => (n, 0x35F7C, 15) }, 3, 3, hrun, 2, 1, 0, by decide +kernel⟩,
    ⟨{ core 0x1F7C 9 with hwSet := (List.range 8).map fun n => (n, 0x35F7C, 15) }, 3, 3, hrun, 2, 1, 0, by decide +kernel⟩,
    ⟨{ core 0x1F7C 9 with hwSet := (List.range 8).map fun n => (n, 0x35F7C, 15) }, 3, 3, hrun, 2, 1, 0, by decide +kernel⟩,
    ⟨{ core 0x1F7C 9 with hwSet := (List.range 8).map fun n => (n, 0x35F7C, 15) }, 3, 3, hrun, 2, 1, 0, by decide +kernel⟩,
    ⟨{ core 0x1F7C 9 with hwSet := (List.range 8).map fun n => (n, 0x35F7C, 15) }, 3, 3, hrun, 2, 1, 0x1F7C, by decide +kernel⟩,
    ⟨{ core 0x10 9 with inj := { up.inj with flips := [(0x34010, 1)] } }, 3, 3, hrun, 2, 1, 0, by decide +kernel⟩,
    ⟨{ core 0x10 9 with inj := { up.inj with flips := [(0x34010, 1)] } }, 3, 3, hrun, 2, 1, 0x10, by decide +kernel⟩,
    ⟨{ core 0x1F7C 9 with hwSet := (List.range 8).map fun n => (n, 0x35F7C, 15) }, 3, 3, hrun, 2, 1, 0x1F7C, by decide +kernel⟩,
    ⟨core 0 9, 3, 3, hrun, 2, 1, 0x2001, by decide +kernel⟩,
    ⟨{ core 0x1F7C 9 with hwSet := (List.range 8).map fun n => (n, 0x35F7C, 15) }, 3, 3, hrun, 2, 1, 0x1F7C, by decide +kernel⟩,
    ⟨core 0 9, 3, 3, hrun, 2, 1, 0x2001, by decide +kernel⟩,
    ⟨{ core 0x10 9 with inj := { up.inj with flips := [(0x34010, 1)] } }, 3, 3, hrun, 2, 1, 0, by decide +kernel⟩,
    ⟨{ core 0x10 9 with inj := { up.inj with flips := [(0x34010, 1)] } }, 3, 3, hrun, 2, 1, 0, by decide +kernel⟩⟩

/-- States and operands that meet the hypotheses of BranchesAndJumps. -/
theorem test_meets_BranchesAndJumps :
    (∃ (s : State) (c : Fin 9) (r : Run) (d x : Fin 16) (q : Fin 16) (o : BitVec 16) (j : BitVec 12), (s.Running c r) ∧ let k := s.clu[c]
      let taken : Bool := match q with
            | 0 => k.z | 1 => !k.z | 2 => k.c | 3 => !k.c | 4 => k.n | 5 => !k.n | 6 => k.v | 7 => !k.v
            | 8 => k.c && !k.z | 9 => !k.c || k.z | 10 => k.n == k.v | 11 => k.n != k.v
            | 12 => !k.z && k.n == k.v | 13 => k.z || k.n != k.v | 14 => k.w | _ => true
      let tgt : Int := k.pc + 1 + o.toInt
      (0 ≤ tgt) ∧ (tgt ≤ 4095) ∧ (taken = true))
    ∧ (∃ (s : State) (c : Fin 9) (r : Run) (d x : Fin 16) (q : Fin 16) (o : BitVec 16) (j : BitVec 12), (s.Running c r) ∧ let k := s.clu[c]
      let taken : Bool := match q with
            | 0 => k.z | 1 => !k.z | 2 => k.c | 3 => !k.c | 4 => k.n | 5 => !k.n | 6 => k.v | 7 => !k.v
            | 8 => k.c && !k.z | 9 => !k.c || k.z | 10 => k.n == k.v | 11 => k.n != k.v
            | 12 => !k.z && k.n == k.v | 13 => k.z || k.n != k.v | 14 => k.w | _ => true
      let tgt : Int := k.pc + 1 + o.toInt
      (0 ≤ tgt) ∧ (tgt ≤ 4095) ∧ (taken = false))
    ∧ (∃ (s : State) (c : Fin 9) (r : Run) (d x : Fin 16) (q : Fin 16) (o : BitVec 16) (j : BitVec 12), (s.Running c r) ∧ let k := s.clu[c]
      let tgt : Int := k.pc + 1 + o.toInt
      (tgt < 0 ∨ 4095 < tgt))
    ∧ (∃ (s : State) (c : Fin 9) (r : Run) (d x : Fin 16) (q : Fin 16) (o : BitVec 16) (j : BitVec 12), (s.Running c r) ∧ let k := s.clu[c]
      ((k.g[x] : Word).toNat < 4096))
    ∧ (∃ (s : State) (c : Fin 9) (r : Run) (d x : Fin 16) (q : Fin 16) (o : BitVec 16) (j : BitVec 12), (s.Running c r) ∧ let k := s.clu[c]
      (4096 ≤ (k.g[x] : Word).toNat)) :=
  ⟨⟨core 4095 4096, 3, hrun, 0, 1, 1, 0xFFD7, 4095, by decide +kernel⟩,
    ⟨core 4095 4096, 3, hrun, 0, 1, 0, 4054, 4095, by decide +kernel⟩,
    ⟨core 4095 4096, 3, hrun, 0, 1, 1, 4055, 4095, by decide +kernel⟩,
    ⟨core 4095 4096, 3, hrun, 0, 1, 1, 0xFFD7, 4095, by decide +kernel⟩,
    ⟨core 4095 4096, 3, hrun, 0, 2, 1, 0xFFD7, 4095, by decide +kernel⟩⟩

/-- States and operands that meet the hypotheses of HandlerEnds. -/
theorem test_meets_HandlerEnds :
    (∃ (s : State) (c w : Fin 9) (r : Run) (x : Fin 16), (s.Running c r) ∧ (s.clu[c].work = some w) ∧ (s.clu[c].stopReq = false)) :=
  ⟨core 7 9, 3, 3, hrun, 1, by decide +kernel⟩

/-- States and operands that meet the hypotheses of ProgramExceptionsAndHalts. -/
theorem test_meets_ProgramExceptionsAndHalts :
    (∃ (s : State) (c : Fin 9) (r : Run) (i : BitVec 16) (v : BitVec 32) (d : Fin 16), (s.coreOn c = true) ∧ (s.clu[c].run = some r) ∧ (r.spent < s.hbudget c) ∧ (srcC 0 c.val 0xF ∉ s.inj.residue) ∧ (s.fetch c = (s, true)) ∧ (r.exc = false) ∧ (s.clu[c].pc ≤ 4095) ∧ (reservedWord v = true))
    ∧ (∃ (s : State) (c : Fin 9) (r : Run) (i : BitVec 16) (v : BitVec 32) (d : Fin 16), (s.coreOn c = true) ∧ (s.clu[c].run = some r) ∧ (r.spent < s.hbudget c) ∧ (srcC 0 c.val 0xF ∉ s.inj.residue) ∧ (s.fetch c = (s, true)) ∧ (r.exc = false) ∧ (s.clu[c].pc ≤ 4095) ∧ let k := s.clu[c]
      (k.pc = 4095))
    ∧ (∃ (s : State) (c w : Fin 9) (r : Run) (i : BitVec 16) (v : BitVec 32) (d b : Fin 16), (s.Running c r) ∧ (s.clu[c].work = some w) ∧ (r.exc = true) ∧ (reservedWord v = true))
    ∧ (∃ (s : State) (c w : Fin 9) (r : Run) (i : BitVec 16) (v : BitVec 32) (d b : Fin 16), (s.Running c r) ∧ (s.clu[c].work = some w) ∧ (r.exc = true) ∧ let k := s.clu[c]
      (4096 ≤ (k.g[b] : Word).toNat))
    ∧ (∃ (s : State) (c w : Fin 9) (r : Run) (i : BitVec 16) (v : BitVec 32) (d b : Fin 16), (s.Running c r) ∧ (s.clu[c].work = some w) ∧ (r.exc = true) ∧ let k := s.clu[c]
      let off : Word := k.g[b] + i.signExtend 32
      (off.toNat % 4 ≠ 0 ∨ 0x1FFF < off.toNat))
    ∧ (∃ (s : State) (c w : Fin 9) (r : Run) (i : BitVec 16) (v : BitVec 32) (d b : Fin 16), (s.Running c r) ∧ (s.clu[c].work = some w) ∧ (r.exc = true) ∧ let k := s.clu[c]
      let off : Word := k.g[b] + i.signExtend 32
      (off.toNat % 4 ≠ 0 ∨ 0x1F80 ≤ off.toNat))
    ∧ (∃ (s : State) (c w : Fin 9) (r : Run) (i : BitVec 16) (v : BitVec 32) (d b : Fin 16), (s.Running c r) ∧ (s.clu[c].work = some w) ∧ (r.exc = true) ∧ let k := s.clu[c]
      let off : Word := k.g[b] + i.signExtend 32
      (off.toNat % 4 ≠ 0))
    ∧ (∃ (s : State) (c w : Fin 9) (r : Run) (i : BitVec 16) (v : BitVec 32) (d b : Fin 16), (s.Running c r) ∧ (s.clu[c].work = some w) ∧ (r.exc = true) ∧ let k := s.clu[c]
      let off : Word := k.g[b] + i.signExtend 32
      ∃ n : Fin 16, (off.toNat = Reg.tmrCmpv.addr n.val 0) ∧ (s.tmr[n].owner ≠ c.val)) :=
  ⟨⟨((core 7 9).setClu 3 fun k => { k with pc := 4095 }), 3, hrun, 5, 0xFC000000, 0, by decide +kernel⟩,
    ⟨((core 7 9).setClu 3 fun k => { k with pc := 4095 }), 3, hrun, 5, 0xFC000000, 0, by decide +kernel⟩,
    ⟨(core 0x1F7C 4096 { hrun with exc := true }), 3, 3, { hrun with exc := true }, 0, 0xFC000000, 2, 1, by decide +kernel⟩,
    ⟨(core 0x1F7C 4096 { hrun with exc := true }), 3, 3, { hrun with exc := true }, 0, 0xFC000000, 2, 1, by decide +kernel⟩,
    ⟨(core 0x1F7C 4096 { hrun with exc := true }), 3, 3, { hrun with exc := true }, 3, 0xFC000000, 2, 1, by decide +kernel⟩,
    ⟨(core 0x1F7C 4096 { hrun with exc := true }), 3, 3, { hrun with exc := true }, 3, 0xFC000000, 2, 1, by decide +kernel⟩,
    ⟨(core 0x1F7C 4096 { hrun with exc := true }), 3, 3, { hrun with exc := true }, 3, 0xFC000000, 2, 1, by decide +kernel⟩,
    ⟨(core 0x41000008 4096 { hrun with exc := true }), 3, 3, { hrun with exc := true }, 0, 0xFC000000, 2, 1, by decide +kernel⟩⟩

/-- States and operands that meet the hypotheses of AngleArithmetic. -/
theorem test_meets_AngleArithmetic :
    (∃ (s : State) (c : Fin 9) (r : Run) (d x y : Fin 16) (i : BitVec 16), (s.Running c r) ∧ (d.val < 8) ∧ (x.val < 8))
    ∧ (∃ (s : State) (c : Fin 9) (r : Run) (d x y : Fin 16) (i : BitVec 16), (s.Running c r) ∧ (x.val < 8) ∧ (y.val < 8)) :=
  ⟨⟨core 7 9, 3, hrun, 7, 7, 7, 0, by decide +kernel⟩,
    ⟨core 7 9, 3, hrun, 7, 7, 7, 0, by decide +kernel⟩⟩

/-- States and operands that meet the hypotheses of CueEnablesAndComparators. -/
theorem test_meets_CueEnablesAndComparators :
    (∃ (s : State) (c w : Fin 9) (r : Run) (m x : Fin 16) (p q : Bool), (s.Running c r) ∧ (s.clu[c].work = some w) ∧ ((s.atEnd r 1).hwNow (Reg.cluCueEn.addr c.val 0) = 0))
    ∧ (∃ (s : State) (c w : Fin 9) (r : Run) (m x : Fin 16) (p q : Bool), (s.Running c r) ∧ (s.clu[c].work = some w) ∧ ((s.atEnd r 1).hwNow (Reg.cluCueEn.addr c.val 0) ≠ 0))
    ∧ (∃ (s : State) (c w : Fin 9) (r : Run) (m x : Fin 16) (p q : Bool), (s.Running c r) ∧ (s.clu[c].work = some w) ∧ (x.val < 8))
    ∧ (∃ (s : State) (w : Fin 9) (m : Fin 16) (a : Nat) (p : Bool), (s.clocked = true) ∧ ((s.carrier w).isSome = true) ∧ (s.work[w].comps[m].was = some (a, p)) ∧ (s.work[w].comps[m].since = s.now) ∧ (s.compLive p = true) ∧ (s.crossedAt a s.now = true)) :=
  ⟨⟨core 7 9, 3, 3, hrun, 15, 7, true, false, by decide +kernel⟩,
    ⟨{ core 7 9 with hwSet := (List.range 8).map fun n => (n, Reg.cluCueEn.addr 3 0, 15) }, 3, 3, hrun, 15, 7, true, false, by decide +kernel⟩,
    ⟨{ core 7 9 with hwSet := (List.range 8).map fun n => (n, Reg.cluCueEn.addr 3 0, 15) }, 3, 3, hrun, 15, 7, true, false, by decide +kernel⟩,
    ⟨{ armedComp ⟨9, true, false, false, false, 500, 0, some ((turning.angAt 500).getD 0, false)⟩ with now := 500 }, 3, 15, (turning.angAt 500).getD 0, false, by decide +kernel⟩⟩

/-- States and operands that meet the hypotheses of IllegalEncodings. -/
theorem test_meets_IllegalEncodings :
    (∃ (s : State) (c : Fin 9) (r : Run) (d x y : Fin 16) (i : BitVec 16) (n : Fin 4) (p q b : Bool) (j : Nat), (s.Running c r) ∧ (32 ≤ i.toNat))
    ∧ (∃ (s : State) (c : Fin 9) (r : Run) (d x y : Fin 16) (i : BitVec 16) (n : Fin 4) (p q b : Bool) (j : Nat), (s.Running c r) ∧ (8 ≤ d.val))
    ∧ (∃ (s : State) (c : Fin 9) (r : Run) (d x y : Fin 16) (i : BitVec 16) (n : Fin 4) (p q b : Bool) (j : Nat), (s.Running c r) ∧ (8 ≤ d.val ∨ 8 ≤ x.val))
    ∧ (∃ (s : State) (c : Fin 9) (r : Run) (d x y : Fin 16) (i : BitVec 16) (n : Fin 4) (p q b : Bool) (j : Nat), (s.Running c r) ∧ (8 ≤ x.val ∨ 8 ≤ y.val))
    ∧ (∃ (s : State) (c : Fin 9) (r : Run) (d x y : Fin 16) (i : BitVec 16) (n : Fin 4) (p q b : Bool) (j : Nat), (s.Running c r) ∧ (8 ≤ x.val))
    ∧ (∃ (s : State) (c : Fin 9) (r : Run) (d x y : Fin 16) (i : BitVec 16) (n : Fin 4) (p q b : Bool) (j : Nat), (s.Running c r) ∧ (x ≠ 0))
    ∧ (∃ (s : State) (c : Fin 9) (r : Run) (d x y : Fin 16) (i : BitVec 16) (n : Fin 4) (p q b : Bool) (j : Nat), (s.Running c r) ∧ (d.val % 2 = 1 ∨ (p = false ∧ 8 ≤ x.val)))
    ∧ (∃ (s : State) (c : Fin 9) (r : Run) (d x y : Fin 16) (i : BitVec 16) (n : Fin 4) (p q b : Bool) (j : Nat), (s.Running c r) ∧ (16 ≤ x.val + n.val))
    ∧ (∃ (s : State) (c : Fin 9) (r : Run) (d x y : Fin 16) (i : BitVec 16) (n : Fin 4) (p q b : Bool) (j : Nat), (s.Running c r) ∧ (8 ≤ y.val))
    ∧ (∃ (s : State) (c : Fin 9) (r : Run) (d x y : Fin 16) (i : BitVec 16) (n : Fin 4) (p q b : Bool) (j : Nat), (s.Running c r) ∧ (y ≠ 0)) :=
  ⟨⟨core 7 9, 3, hrun, 8, 8, 8, 32, 0, false, false, false, 1, by decide +kernel⟩,
    ⟨core 7 9, 3, hrun, 8, 8, 8, 32, 0, false, false, false, 1, by decide +kernel⟩,
    ⟨core 7 9, 3, hrun, 8, 8, 8, 32, 0, false, false, false, 1, by decide +kernel⟩,
    ⟨core 7 9, 3, hrun, 8, 8, 8, 32, 0, false, false, false, 1, by decide +kernel⟩,
    ⟨core 7 9, 3, hrun, 8, 8, 8, 32, 0, false, false, false, 1, by decide +kernel⟩,
    ⟨core 7 9, 3, hrun, 8, 8, 8, 32, 0, false, false, false, 1, by decide +kernel⟩,
    ⟨core 7 9, 3, hrun, 8, 8, 8, 32, 0, false, false, false, 1, by decide +kernel⟩,
    ⟨core 7 9, 3, hrun, 8, 15, 8, 32, 1, false, false, false, 1, by decide +kernel⟩,
    ⟨core 7 9, 3, hrun, 8, 8, 8, 32, 0, false, false, false, 1, by decide +kernel⟩,
    ⟨core 7 9, 3, hrun, 8, 8, 8, 32, 0, false, false, false, 1, by decide +kernel⟩⟩

/-- States and operands that meet the hypotheses of ArmPlacesPeg. -/
theorem test_meets_ArmPlacesPeg :
    (∃ (s : State) (c w : Fin 9) (r : Run) (d b x : Fin 16) (j : Fin 32) (src : Fin 3), (s.Running c r) ∧ (s.clu[c].work = some w) ∧ let k := s.clu[c]
      let a : Nat := (k.g[b] : Word).toNat
      let word (n : Nat) : Word := s.word (w.val * 0x10000 + 0x4000 + a + 4 * n)
      let q := Peg.ofWords (word 0) (word 1) (word 2)
      let p : Peg := { q with
            angle := if src = 1 then (k.g[x] : Word).toNat % 2 ^ 24 else if src = 2 then k.a[x.val % 8].toNat else q.angle }
      let t := s.ranTo c r 8 k.pc k
      (a % 4 = 0) ∧ (a ≤ 0x1FF0) ∧ ((∀ n < 4, ∀ f ∈ s.inj.flips, f.1 ≠ w.val * 0x10000 + 0x4000 + a + 4 * n)) ∧ (t.caughtUp = t) ∧ ((src = 2 → x.val < 8)) ∧ (t.badDesc p (word 2) (word 3) = false) ∧ (t.notOwner c p = false) ∧ (r.redo = false) ∧ (t.freeSlot w = some j) ∧ (p.rel = false) ∧ (s.edg.heOld = none))
    ∧ (∃ (s : State) (c w : Fin 9) (r : Run) (d b x : Fin 16) (j : Fin 32) (src : Fin 3), (s.Running c r) ∧ (s.clu[c].work = some w) ∧ let k := s.clu[c]
      let a : Nat := (k.g[b] : Word).toNat
      let word (n : Nat) : Word := s.word (w.val * 0x10000 + 0x4000 + a + 4 * n)
      let q := Peg.ofWords (word 0) (word 1) (word 2)
      let p : Peg := { q with
            angle := if src = 1 then (k.g[x] : Word).toNat % 2 ^ 24 else if src = 2 then k.a[x.val % 8].toNat else q.angle }
      let t := s.ranTo c r 8 k.pc k
      (a % 4 = 0) ∧ (a ≤ 0x1FF0) ∧ ((∀ n < 4, ∀ f ∈ s.inj.flips, f.1 ≠ w.val * 0x10000 + 0x4000 + a + 4 * n)) ∧ (t.caughtUp = t) ∧ ((src = 2 → x.val < 8)) ∧ (t.badDesc p (word 2) (word 3) = false) ∧ (t.notOwner c p = false) ∧ (r.redo = false) ∧ (t.freeSlot w = some j) ∧ (p.rel = false) ∧ (p.isCoil = false) ∧ (t.keptOut p = false) ∧ (s.edg.heOld).any (fun he => decide ((t.segAt t.now).any (fun g => decide (let now := t.segAng g (16 * t.now)
      let far := wrapHalf t.cyc256 (256 * (p.angle : Int) - now)
      let edge := wrapHalf t.cyc256 (he - now)
      (0 < far) ∧ (edge < far))))) = true)
    ∧ (∃ (s : State) (c w : Fin 9) (r : Run) (d b x : Fin 16) (j : Fin 32) (src : Fin 3), (s.Running c r) ∧ (s.clu[c].work = some w) ∧ let k := s.clu[c]
      let a : Nat := (k.g[b] : Word).toNat
      let word (n : Nat) : Word := s.word (w.val * 0x10000 + 0x4000 + a + 4 * n)
      let q := Peg.ofWords (word 0) (word 1) (word 2)
      let p : Peg := { q with
            angle := if src = 1 then (k.g[x] : Word).toNat % 2 ^ 24 else if src = 2 then k.a[x.val % 8].toNat else q.angle }
      let t := s.ranTo c r 8 k.pc k
      (a % 4 = 0) ∧ (a ≤ 0x1FF0) ∧ ((∀ n < 4, ∀ f ∈ s.inj.flips, f.1 ≠ w.val * 0x10000 + 0x4000 + a + 4 * n)) ∧ (t.caughtUp = t) ∧ ((src = 2 → x.val < 8)) ∧ (t.badDesc p (word 2) (word 3) = false) ∧ (t.notOwner c p = false) ∧ (r.redo = false) ∧ (t.freeSlot w = some j) ∧ (p.rel = false) ∧ (p.isCoil = false) ∧ (t.keptOut p = false) ∧ (s.edg.heOld).any (fun he => decide ((t.segAt t.now).any (fun g => decide (let now := t.segAng g (16 * t.now)
      let far := wrapHalf t.cyc256 (256 * (p.angle : Int) - now)
      (far < -(256 * (p.latetol : Int))))))) = true)
    ∧ (∃ (s : State) (c w : Fin 9) (r : Run) (d b x : Fin 16) (j : Fin 32) (src : Fin 3), (s.Running c r) ∧ (s.clu[c].work = some w) ∧ let k := s.clu[c]
      let a : Nat := (k.g[b] : Word).toNat
      let word (n : Nat) : Word := s.word (w.val * 0x10000 + 0x4000 + a + 4 * n)
      let q := Peg.ofWords (word 0) (word 1) (word 2)
      let p : Peg := { q with
            angle := if src = 1 then (k.g[x] : Word).toNat % 2 ^ 24 else if src = 2 then k.a[x.val % 8].toNat else q.angle }
      let t := s.ranTo c r 8 k.pc k
      (a % 4 = 0) ∧ (a ≤ 0x1FF0) ∧ ((∀ n < 4, ∀ f ∈ s.inj.flips, f.1 ≠ w.val * 0x10000 + 0x4000 + a + 4 * n)) ∧ (t.caughtUp = t) ∧ ((src = 2 → x.val < 8)) ∧ (t.badDesc p (word 2) (word 3) = false) ∧ (t.notOwner c p = false) ∧ (r.redo = false) ∧ (t.freeSlot w = some j) ∧ (p.rel = false) ∧ (p.isCoil = false) ∧ (t.keptOut p = false) ∧ (s.edg.heOld).any (fun he => decide ((t.segAt t.now).any (fun g => decide (let now := t.segAng g (16 * t.now)
      let far := wrapHalf t.cyc256 (256 * (p.angle : Int) - now)
      let edge := wrapHalf t.cyc256 (he - now)
      (0 < far) ∧ (far ≤ edge))))) = true)
    ∧ (∃ (s : State) (c w : Fin 9) (r : Run) (d b x : Fin 16) (j : Fin 32) (src : Fin 3), (s.Running c r) ∧ (s.clu[c].work = some w) ∧ let k := s.clu[c]
      let a : Nat := (k.g[b] : Word).toNat
      let word (n : Nat) : Word := s.word (w.val * 0x10000 + 0x4000 + a + 4 * n)
      let q := Peg.ofWords (word 0) (word 1) (word 2)
      let p : Peg := { q with
            angle := if src = 1 then (k.g[x] : Word).toNat % 2 ^ 24 else if src = 2 then k.a[x.val % 8].toNat else q.angle }
      let t := s.ranTo c r 8 k.pc k
      (a % 4 = 0) ∧ (a ≤ 0x1FF0) ∧ ((∀ n < 4, ∀ f ∈ s.inj.flips, f.1 ≠ w.val * 0x10000 + 0x4000 + a + 4 * n)) ∧ (t.caughtUp = t) ∧ ((src = 2 → x.val < 8)) ∧ (t.badDesc p (word 2) (word 3) = false) ∧ (t.notOwner c p = false) ∧ (r.redo = false) ∧ (t.freeSlot w = some j) ∧ (p.rel = false) ∧ (p.isCoil = false) ∧ (t.keptOut p = false) ∧ (s.edg.heOld).any (fun he => decide ((t.segAt t.now).any (fun g => decide (let now := t.segAng g (16 * t.now)
      let far := wrapHalf t.cyc256 (256 * (p.angle : Int) - now)
      (far ≤ 0) ∧ (-(256 * (p.latetol : Int)) ≤ far))))) = true)
    ∧ (∃ (s : State) (c w : Fin 9) (r : Run) (d b x : Fin 16) (j : Fin 32) (src : Fin 3), (s.Running c r) ∧ (s.clu[c].work = some w) ∧ let k := s.clu[c]
      let a : Nat := (k.g[b] : Word).toNat
      let word (n : Nat) : Word := s.word (w.val * 0x10000 + 0x4000 + a + 4 * n)
      let q := Peg.ofWords (word 0) (word 1) (word 2)
      let p : Peg := { q with
            angle := if src = 1 then (k.g[x] : Word).toNat % 2 ^ 24 else if src = 2 then k.a[x.val % 8].toNat else q.angle }
      let t := s.ranTo c r 8 k.pc k
      (a % 4 = 0) ∧ (a ≤ 0x1FF0) ∧ ((∀ n < 4, ∀ f ∈ s.inj.flips, f.1 ≠ w.val * 0x10000 + 0x4000 + a + 4 * n)) ∧ (t.caughtUp = t) ∧ ((src = 2 → x.val < 8)) ∧ (t.badDesc p (word 2) (word 3) = false) ∧ (t.notOwner c p = false) ∧ (r.redo = false) ∧ (t.freeSlot w = some j) ∧ (p.rel = true) ∧ (t.runningBase p).any (fun _ => true) = true)
    ∧ (∃ (s : State) (c w : Fin 9) (r : Run) (d b x : Fin 16) (j : Fin 32) (src : Fin 3), (s.Running c r) ∧ (s.clu[c].work = some w) ∧ let k := s.clu[c]
      let a : Nat := (k.g[b] : Word).toNat
      let word (n : Nat) : Word := s.word (w.val * 0x10000 + 0x4000 + a + 4 * n)
      let q := Peg.ofWords (word 0) (word 1) (word 2)
      let p : Peg := { q with
            angle := if src = 1 then (k.g[x] : Word).toNat % 2 ^ 24 else if src = 2 then k.a[x.val % 8].toNat else q.angle }
      let t := s.ranTo c r 8 k.pc k
      (a % 4 = 0) ∧ (a ≤ 0x1FF0) ∧ ((∀ n < 4, ∀ f ∈ s.inj.flips, f.1 ≠ w.val * 0x10000 + 0x4000 + a + 4 * n)) ∧ (t.caughtUp = t) ∧ ((src = 2 → x.val < 8)) ∧ (t.badDesc p (word 2) (word 3) = false) ∧ (t.notOwner c p = false) ∧ (r.redo = false) ∧ (t.freeSlot w = some j) ∧ (p.rel = true) ∧ (t.runningBase p = none) ∧ ((t.nextBase w p).isSome = true)) :=
  ⟨⟨arming 0x9000000 0 0, 3, 3, hrun, 5, 2, 7, 0, 2, by decide +kernel⟩,
    ⟨{ arming 0x90007D0 0xA00 0x0 with whl := turning.whl, prd := turning.prd, edg := { (arming 0x90007D0 0xA00 0x0).edg with heOld := some 256000 } }, 3, 3, hrun, 5, 2, 7, 0, 0, by decide +kernel⟩,
    ⟨{ arming 0x9000001 0x0 0xF060 with whl := turning.whl, prd := turning.prd, edg := { (arming 0x9000001 0x0 0xF060).edg with heOld := some 256000 } }, 3, 3, hrun, 5, 2, 7, 0, 0, by decide +kernel⟩,
    ⟨{ arming 0x90001F4 0xA00 0x0 with whl := turning.whl, prd := turning.prd, edg := { (arming 0x90001F4 0xA00 0x0).edg with heOld := some 256000 } }, 3, 3, hrun, 5, 2, 7, 0, 0, by decide +kernel⟩,
    ⟨{ arming 0x9000001 0xA00 0xF060 with whl := turning.whl, prd := turning.prd, edg := { (arming 0x9000001 0xA00 0xF060).edg with heOld := some 256000 } }, 3, 3, hrun, 5, 2, 7, 0, 0, by decide +kernel⟩,
    ⟨((arming 0x2000005 0x2000A04 0x0).setCh 4 fun d => { d with shot := some (shot .boost) }).setECh 4 fun x => { x with fire := some 1000 }, 3, 3, hrun, 5, 2, 7, 0, 0, by decide +kernel⟩,
    ⟨(arming 0x2000005 0x2000004 0x0).setPeg 3 0 fun _ => peg 1 4 .armed none, 3, 3, hrun, 5, 2, 7, 1, 0, by decide +kernel⟩⟩

/-- States and operands that meet the hypotheses of ArmRefusals. -/
theorem test_meets_ArmRefusals :
    (∃ (s : State) (c w : Fin 9) (r : Run) (d b : Fin 16), (s.Running c r) ∧ (s.clu[c].work = some w) ∧ let k := s.clu[c]
      let a : Nat := (k.g[b] : Word).toNat
      let word (n : Nat) : Word := s.word (w.val * 0x10000 + 0x4000 + a + 4 * n)
      let p := Peg.ofWords (word 0) (word 1) (word 2)
      let t := s.ranTo c r 8 k.pc k
      (a % 4 = 0) ∧ (a ≤ 0x1FF0) ∧ ((∀ n < 4, ∀ f ∈ s.inj.flips, f.1 ≠ w.val * 0x10000 + 0x4000 + a + 4 * n)) ∧ (t.caughtUp = t) ∧ (t.badDesc p (word 2) (word 3) = true))
    ∧ (∃ (s : State) (c w : Fin 9) (r : Run) (d b : Fin 16), (s.Running c r) ∧ (s.clu[c].work = some w) ∧ let k := s.clu[c]
      let a : Nat := (k.g[b] : Word).toNat
      let word (n : Nat) : Word := s.word (w.val * 0x10000 + 0x4000 + a + 4 * n)
      let p := Peg.ofWords (word 0) (word 1) (word 2)
      let t := s.ranTo c r 8 k.pc k
      (a % 4 = 0) ∧ (a ≤ 0x1FF0) ∧ ((∀ n < 4, ∀ f ∈ s.inj.flips, f.1 ≠ w.val * 0x10000 + 0x4000 + a + 4 * n)) ∧ (t.caughtUp = t) ∧ (t.badDesc p (word 2) (word 3) = false) ∧ (t.notOwner c p = true))
    ∧ (∃ (s : State) (c w : Fin 9) (r : Run) (d b : Fin 16), (s.Running c r) ∧ (s.clu[c].work = some w) ∧ let k := s.clu[c]
      let a : Nat := (k.g[b] : Word).toNat
      let word (n : Nat) : Word := s.word (w.val * 0x10000 + 0x4000 + a + 4 * n)
      let p := Peg.ofWords (word 0) (word 1) (word 2)
      let t := s.ranTo c r 8 k.pc k
      (a % 4 = 0) ∧ (a ≤ 0x1FF0) ∧ ((∀ n < 4, ∀ f ∈ s.inj.flips, f.1 ≠ w.val * 0x10000 + 0x4000 + a + 4 * n)) ∧ (t.caughtUp = t) ∧ (t.badDesc p (word 2) (word 3) = false) ∧ (t.notOwner c p = false) ∧ (r.redo = true) ∧ (p.owner ∈ s.work[w].runLog))
    ∧ (∃ (s : State) (c w : Fin 9) (r : Run) (d b : Fin 16), (s.Running c r) ∧ (s.clu[c].work = some w) ∧ let k := s.clu[c]
      let a : Nat := (k.g[b] : Word).toNat
      let word (n : Nat) : Word := s.word (w.val * 0x10000 + 0x4000 + a + 4 * n)
      let p := Peg.ofWords (word 0) (word 1) (word 2)
      let t := s.ranTo c r 8 k.pc k
      (a % 4 = 0) ∧ (a ≤ 0x1FF0) ∧ ((∀ n < 4, ∀ f ∈ s.inj.flips, f.1 ≠ w.val * 0x10000 + 0x4000 + a + 4 * n)) ∧ (t.caughtUp = t) ∧ (t.badDesc p (word 2) (word 3) = false) ∧ (t.notOwner c p = false) ∧ (r.redo = false) ∧ (p.rel = true) ∧ (t.runningBase p = none) ∧ (t.nextBase w p = none))
    ∧ (∃ (s : State) (c w : Fin 9) (r : Run) (d b : Fin 16), (s.Running c r) ∧ (s.clu[c].work = some w) ∧ let k := s.clu[c]
      let a : Nat := (k.g[b] : Word).toNat
      let word (n : Nat) : Word := s.word (w.val * 0x10000 + 0x4000 + a + 4 * n)
      let p := Peg.ofWords (word 0) (word 1) (word 2)
      let t := s.ranTo c r 8 k.pc k
      (a % 4 = 0) ∧ (a ≤ 0x1FF0) ∧ ((∀ n < 4, ∀ f ∈ s.inj.flips, f.1 ≠ w.val * 0x10000 + 0x4000 + a + 4 * n)) ∧ (t.caughtUp = t) ∧ (t.badDesc p (word 2) (word 3) = false) ∧ (t.notOwner c p = false) ∧ (r.redo = false) ∧ (p.rel = false) ∧ (t.freeSlot w = none)) :=
  ⟨⟨arming 0 0 0, 3, 3, hrun, 5, 2, by decide +kernel⟩,
    ⟨arming 0x1000000 5 0, 3, 3, hrun, 5, 2, by decide +kernel⟩,
    ⟨(arming 0x9000000 0 0x90000 { hrun with redo := true }).setWork 3 fun x => { x with runLog := [9] }, 3, 3, { hrun with redo := true }, 5, 2, by decide +kernel⟩,
    ⟨arming 0x2000000 0x02000004 0, 3, 3, hrun, 5, 2, by decide +kernel⟩,
    ⟨(arming 0x9000000 0 0).setWork 3 fun x => { x with slots := Vector.replicate 32 (peg 9 0 .armed none) }, 3, 3, hrun, 5, 2, by decide +kernel⟩⟩

/-- States and operands that meet the hypotheses of PegHandles, clauses 1 to 6. -/
theorem test_meets_PegHandles_1 :
    (∃ (s : State) (c w : Fin 9) (r : Run) (d h x o : Fin 16) (src : Fin 3) (sett : Bool), (s.Running c r) ∧ (s.clu[c].work = some w) ∧ let k := s.clu[c]
      let v : Word := k.g[h]
      let j : Fin 32 := ⟨v.toNat % 32, by omega⟩
      let p := s.work[w].slots[j]
      let stale : Prop := v.toNat / 2 ^ 17 ≠ 0 ∨ v.toNat / 32 % 4096 ≠ p.seq
      let end_ (n : Nat) : State := s.ranTo c r n k.pc k
      let t := end_ 4
      ((end_ 2).caughtUp = end_ 2) ∧ (t.caughtUp = t) ∧ ((src = 0 → sett = true)) ∧ ((sett = false → o = 0)) ∧ ((src = 2 → x.val < 8)) ∧ (stale))
    ∧ (∃ (s : State) (c w : Fin 9) (r : Run) (d h x o : Fin 16) (src : Fin 3) (sett : Bool), (s.Running c r) ∧ (s.clu[c].work = some w) ∧ let k := s.clu[c]
      let v : Word := k.g[h]
      let j : Fin 32 := ⟨v.toNat % 32, by omega⟩
      let p := s.work[w].slots[j]
      let st (k : Cluster) (z n c v : Bool) : Cluster := { k with z := z, n := n, c := c, v := v }
      let stale : Prop := v.toNat / 2 ^ 17 ≠ 0 ∨ v.toNat / 32 % 4096 ≠ p.seq
      let end_ (n : Nat) : State := s.ranTo c r n k.pc k
      let t := end_ 4
      ((end_ 2).caughtUp = end_ 2) ∧ (t.caughtUp = t) ∧ ((src = 0 → sett = true)) ∧ ((sett = false → o = 0)) ∧ ((src = 2 → x.val < 8)) ∧ (¬stale) ∧ (p.resBad = false) ∧ (p.st = .free))
    ∧ (∃ (s : State) (c w : Fin 9) (r : Run) (d h x o : Fin 16) (src : Fin 3) (sett : Bool), (s.Running c r) ∧ (s.clu[c].work = some w) ∧ let k := s.clu[c]
      let v : Word := k.g[h]
      let j : Fin 32 := ⟨v.toNat % 32, by omega⟩
      let p := s.work[w].slots[j]
      let st (k : Cluster) (z n c v : Bool) : Cluster := { k with z := z, n := n, c := c, v := v }
      let stale : Prop := v.toNat / 2 ^ 17 ≠ 0 ∨ v.toNat / 32 % 4096 ≠ p.seq
      let stuck : Prop := p.st = .committed ∨ p.st = .driven ∨ p.st = .softoff
      let fixed : Prop := stuck ∨ p.st = .dwelling
      let end_ (n : Nat) : State := s.ranTo c r n k.pc k
      let t := end_ 4
      ((end_ 2).caughtUp = end_ 2) ∧ (t.caughtUp = t) ∧ ((src = 0 → sett = true)) ∧ ((sett = false → o = 0)) ∧ ((src = 2 → x.val < 8)) ∧ (¬stale) ∧ (p.resBad = false) ∧ (fixed))
    ∧ (∃ (s : State) (c w : Fin 9) (r : Run) (d h x o : Fin 16) (src : Fin 3) (sett : Bool), (s.Running c r) ∧ (s.clu[c].work = some w) ∧ let k := s.clu[c]
      let v : Word := k.g[h]
      let j : Fin 32 := ⟨v.toNat % 32, by omega⟩
      let p := s.work[w].slots[j]
      let st (k : Cluster) (z n c v : Bool) : Cluster := { k with z := z, n := n, c := c, v := v }
      let stale : Prop := v.toNat / 2 ^ 17 ≠ 0 ∨ v.toNat / 32 % 4096 ≠ p.seq
      let stuck : Prop := p.st = .committed ∨ p.st = .driven ∨ p.st = .softoff
      let end_ (n : Nat) : State := s.ranTo c r n k.pc k
      let t := end_ 4
      ((end_ 2).caughtUp = end_ 2) ∧ (t.caughtUp = t) ∧ ((src = 0 → sett = true)) ∧ ((sett = false → o = 0)) ∧ ((src = 2 → x.val < 8)) ∧ (¬stale) ∧ (p.resBad = false) ∧ (stuck))
    ∧ (∃ (s : State) (c w : Fin 9) (r : Run) (d h x o : Fin 16) (src : Fin 3) (sett : Bool), (s.Running c r) ∧ (s.clu[c].work = some w) ∧ let k := s.clu[c]
      let v : Word := k.g[h]
      let j : Fin 32 := ⟨v.toNat % 32, by omega⟩
      let p := s.work[w].slots[j]
      let st (k : Cluster) (z n c v : Bool) : Cluster := { k with z := z, n := n, c := c, v := v }
      let stale : Prop := v.toNat / 2 ^ 17 ≠ 0 ∨ v.toNat / 32 % 4096 ≠ p.seq
      let ang : Nat := if src = 1 then (k.g[x] : Word).toNat % 2 ^ 24 else if src = 2 then k.a[x.val % 8].toNat else p.angle
      let open_ : Prop := p.st = .armed ∨ p.st = .aimed ∨ p.st = .waiting
      let end_ (n : Nat) : State := s.ranTo c r n k.pc k
      let t := end_ 4
      ((end_ 2).caughtUp = end_ 2) ∧ (t.caughtUp = t) ∧ ((src = 0 → sett = true)) ∧ ((sett = false → o = 0)) ∧ ((src = 2 → x.val < 8)) ∧ (¬stale) ∧ (p.resBad = false) ∧ (open_) ∧ (s.cycle ≤ ang))
    ∧ (∃ (s : State) (c w : Fin 9) (r : Run) (d h x o : Fin 16) (src : Fin 3) (sett : Bool), (s.Running c r) ∧ (s.clu[c].work = some w) ∧ let k := s.clu[c]
      let v : Word := k.g[h]
      let j : Fin 32 := ⟨v.toNat % 32, by omega⟩
      let p := s.work[w].slots[j]
      let st (k : Cluster) (z n c v : Bool) : Cluster := { k with z := z, n := n, c := c, v := v }
      let stale : Prop := v.toNat / 2 ^ 17 ≠ 0 ∨ v.toNat / 32 % 4096 ≠ p.seq
      let ang : Nat := if src = 1 then (k.g[x] : Word).toNat % 2 ^ 24 else if src = 2 then k.a[x.val % 8].toNat else p.angle
      let open_ : Prop := p.st = .armed ∨ p.st = .aimed ∨ p.st = .waiting
      let end_ (n : Nat) : State := s.ranTo c r n k.pc k
      let t := end_ 4
      ((end_ 2).caughtUp = end_ 2) ∧ (t.caughtUp = t) ∧ ((src = 0 → sett = true)) ∧ ((sett = false → o = 0)) ∧ ((src = 2 → x.val < 8)) ∧ (¬stale) ∧ (p.resBad = false) ∧ (open_) ∧ (p.rel = false) ∧ (s.edg.heOld = none) ∧ (ang < s.cycle)) :=
  ⟨⟨core 0x20000 0, 3, 3, hrun, 5, 1, 2, 0, 1, false, by decide +kernel⟩,
    ⟨handled (peg 5 2 .free (some 9)), 3, 3, hrun, 5, 1, 2, 0, 1, false, by decide +kernel⟩,
    ⟨handled (peg 5 2 .driven (some 9)), 3, 3, hrun, 5, 1, 2, 0, 1, false, by decide +kernel⟩,
    ⟨handled (peg 5 2 .driven (some 9)), 3, 3, hrun, 5, 1, 2, 0, 1, false, by decide +kernel⟩,
    ⟨(core 160 0xFFFFFF).setPeg 3 0 fun _ => peg 9 0 .armed (some 9), 3, 3, hrun, 5, 1, 2, 0, 1, false, by decide +kernel⟩,
    ⟨handled (peg 9 0 .armed (some 9)), 3, 3, hrun, 5, 1, 2, 0, 1, false, by decide +kernel⟩⟩

/-- States and operands that meet the hypotheses of PegHandles, clauses 7 to 12. -/
theorem test_meets_PegHandles_2 :
    (∃ (s : State) (c w : Fin 9) (r : Run) (d h x o : Fin 16) (src : Fin 3) (sett : Bool), (s.Running c r) ∧ (s.clu[c].work = some w) ∧ let k := s.clu[c]
      let v : Word := k.g[h]
      let j : Fin 32 := ⟨v.toNat % 32, by omega⟩
      let p := s.work[w].slots[j]
      let st (k : Cluster) (z n c v : Bool) : Cluster := { k with z := z, n := n, c := c, v := v }
      let stale : Prop := v.toNat / 2 ^ 17 ≠ 0 ∨ v.toNat / 32 % 4096 ≠ p.seq
      let ang : Nat := if src = 1 then (k.g[x] : Word).toNat % 2 ^ 24 else if src = 2 then k.a[x.val % 8].toNat else p.angle
      let open_ : Prop := p.st = .armed ∨ p.st = .aimed ∨ p.st = .waiting
      let end_ (n : Nat) : State := s.ranTo c r n k.pc k
      let t := end_ 4
      ((end_ 2).caughtUp = end_ 2) ∧ (t.caughtUp = t) ∧ ((src = 0 → sett = true)) ∧ ((sett = false → o = 0)) ∧ ((src = 2 → x.val < 8)) ∧ (¬stale) ∧ (p.resBad = false) ∧ (open_) ∧ (p.rel = false) ∧ (p.isCoil = false) ∧ (ang < s.cycle) ∧ (t.keptOut p = false) ∧ (s.edg.heOld).any (fun he => decide ((t.segAt t.now).any (fun g => decide (let now := t.segAng g (16 * t.now)
      let far := wrapHalf t.cyc256 (256 * (ang : Int) - now)
      let edge := wrapHalf t.cyc256 (he - now)
      (0 < far) ∧ (edge < far))))) = true)
    ∧ (∃ (s : State) (c w : Fin 9) (r : Run) (d h x o : Fin 16) (src : Fin 3) (sett : Bool), (s.Running c r) ∧ (s.clu[c].work = some w) ∧ let k := s.clu[c]
      let v : Word := k.g[h]
      let j : Fin 32 := ⟨v.toNat % 32, by omega⟩
      let p := s.work[w].slots[j]
      let st (k : Cluster) (z n c v : Bool) : Cluster := { k with z := z, n := n, c := c, v := v }
      let stale : Prop := v.toNat / 2 ^ 17 ≠ 0 ∨ v.toNat / 32 % 4096 ≠ p.seq
      let ang : Nat := if src = 1 then (k.g[x] : Word).toNat % 2 ^ 24 else if src = 2 then k.a[x.val % 8].toNat else p.angle
      let open_ : Prop := p.st = .armed ∨ p.st = .aimed ∨ p.st = .waiting
      let end_ (n : Nat) : State := s.ranTo c r n k.pc k
      let t := end_ 4
      ((end_ 2).caughtUp = end_ 2) ∧ (t.caughtUp = t) ∧ ((src = 0 → sett = true)) ∧ ((sett = false → o = 0)) ∧ ((src = 2 → x.val < 8)) ∧ (¬stale) ∧ (p.resBad = false) ∧ (open_) ∧ (p.rel = false) ∧ (p.isCoil = false) ∧ (ang < s.cycle) ∧ (t.keptOut p = false) ∧ (s.edg.heOld).any (fun he => decide ((t.segAt t.now).any (fun g => decide (let now := t.segAng g (16 * t.now)
      let far := wrapHalf t.cyc256 (256 * (ang : Int) - now)
      let edge := wrapHalf t.cyc256 (he - now)
      (0 < far) ∧ (far ≤ edge))))) = true)
    ∧ (∃ (s : State) (c w : Fin 9) (r : Run) (d h x o : Fin 16) (src : Fin 3) (sett : Bool), (s.Running c r) ∧ (s.clu[c].work = some w) ∧ let k := s.clu[c]
      let v : Word := k.g[h]
      let j : Fin 32 := ⟨v.toNat % 32, by omega⟩
      let p := s.work[w].slots[j]
      let st (k : Cluster) (z n c v : Bool) : Cluster := { k with z := z, n := n, c := c, v := v }
      let stale : Prop := v.toNat / 2 ^ 17 ≠ 0 ∨ v.toNat / 32 % 4096 ≠ p.seq
      let ang : Nat := if src = 1 then (k.g[x] : Word).toNat % 2 ^ 24 else if src = 2 then k.a[x.val % 8].toNat else p.angle
      let open_ : Prop := p.st = .armed ∨ p.st = .aimed ∨ p.st = .waiting
      let end_ (n : Nat) : State := s.ranTo c r n k.pc k
      let t := end_ 4
      ((end_ 2).caughtUp = end_ 2) ∧ (t.caughtUp = t) ∧ ((src = 0 → sett = true)) ∧ ((sett = false → o = 0)) ∧ ((src = 2 → x.val < 8)) ∧ (¬stale) ∧ (p.resBad = false) ∧ (open_) ∧ (p.rel = false) ∧ (p.isCoil = false) ∧ (ang < s.cycle) ∧ (t.keptOut p = false) ∧ (s.edg.heOld).any (fun he => decide ((t.segAt t.now).any (fun g => decide (let now := t.segAng g (16 * t.now)
      let far := wrapHalf t.cyc256 (256 * (ang : Int) - now)
      (far ≤ 0))))) = true)
    ∧ (∃ (s : State) (c w : Fin 9) (r : Run) (d h x o : Fin 16) (src : Fin 3) (sett : Bool), (s.Running c r) ∧ (s.clu[c].work = some w) ∧ let k := s.clu[c]
      let v : Word := k.g[h]
      let j : Fin 32 := ⟨v.toNat % 32, by omega⟩
      let p := s.work[w].slots[j]
      let st (k : Cluster) (z n c v : Bool) : Cluster := { k with z := z, n := n, c := c, v := v }
      let stale : Prop := v.toNat / 2 ^ 17 ≠ 0 ∨ v.toNat / 32 % 4096 ≠ p.seq
      let ang : Nat := if src = 1 then (k.g[x] : Word).toNat % 2 ^ 24 else if src = 2 then k.a[x.val % 8].toNat else p.angle
      let end_ (n : Nat) : State := s.ranTo c r n k.pc k
      let t := end_ 4
      ((end_ 2).caughtUp = end_ 2) ∧ (t.caughtUp = t) ∧ ((src = 0 → sett = true)) ∧ ((sett = false → o = 0)) ∧ ((src = 2 → x.val < 8)) ∧ (¬stale) ∧ (p.resBad = false) ∧ (p.rel = true) ∧ (p.isCoil = false) ∧ (ang < s.cycle) ∧ (p.st = .armed ∨ p.st = .waiting))
    ∧ (∃ (s : State) (c w : Fin 9) (r : Run) (d h x o : Fin 16) (src : Fin 3) (sett : Bool), (s.Running c r) ∧ (s.clu[c].work = some w) ∧ let k := s.clu[c]
      let v : Word := k.g[h]
      let j : Fin 32 := ⟨v.toNat % 32, by omega⟩
      let p := s.work[w].slots[j]
      let st (k : Cluster) (z n c v : Bool) : Cluster := { k with z := z, n := n, c := c, v := v }
      let stale : Prop := v.toNat / 2 ^ 17 ≠ 0 ∨ v.toNat / 32 % 4096 ≠ p.seq
      let ang : Nat := if src = 1 then (k.g[x] : Word).toNat % 2 ^ 24 else if src = 2 then k.a[x.val % 8].toNat else p.angle
      let end_ (n : Nat) : State := s.ranTo c r n k.pc k
      let t := end_ 4
      ((end_ 2).caughtUp = end_ 2) ∧ (t.caughtUp = t) ∧ ((src = 0 → sett = true)) ∧ ((sett = false → o = 0)) ∧ ((src = 2 → x.val < 8)) ∧ (¬stale) ∧ (p.resBad = false) ∧ (p.rel = true) ∧ (p.isCoil = false) ∧ (ang < s.cycle) ∧ (p.st = .aimed) ∧ (p.base).any (fun _ => true) = true)
    ∧ (∃ (s : State) (c w : Fin 9) (r : Run) (d h x o : Fin 16) (src : Fin 3) (sett : Bool), (s.Running c r) ∧ (s.clu[c].work = some w) ∧ let k := s.clu[c]
      let v : Word := k.g[h]
      let j : Fin 32 := ⟨v.toNat % 32, by omega⟩
      let p := s.work[w].slots[j]
      let st (k : Cluster) (z n c v : Bool) : Cluster := { k with z := z, n := n, c := c, v := v }
      let stale : Prop := v.toNat / 2 ^ 17 ≠ 0 ∨ v.toNat / 32 % 4096 ≠ p.seq
      let end_ (n : Nat) : State := s.ranTo c r n k.pc k
      let t := end_ 4
      ((end_ 2).caughtUp = end_ 2) ∧ (t.caughtUp = t) ∧ ((src = 0 → sett = true)) ∧ ((sett = false → o = 0)) ∧ ((src = 2 → x.val < 8)) ∧ (¬stale) ∧ (p.resBad = false) ∧ (p.st = .dwelling)) :=
  ⟨⟨{ (core 160 100).setPeg 3 0 fun _ => { peg 9 0 .armed (some 9) with latetol := 0 } with whl := turning.whl, prd := turning.prd, edg := { ((core 160 100).setPeg 3 0 fun _ => { peg 9 0 .armed (some 9) with latetol := 0 }).edg with heOld := some 2560 } }, 3, 3, hrun, 5, 1, 2, 3, 1, true, by decide +kernel⟩,
    ⟨{ (core 160 100).setPeg 3 0 fun _ => { peg 9 0 .armed (some 9) with latetol := 0 } with whl := turning.whl, prd := turning.prd, edg := { ((core 160 100).setPeg 3 0 fun _ => { peg 9 0 .armed (some 9) with latetol := 0 }).edg with heOld := some 256000 } }, 3, 3, hrun, 5, 1, 2, 3, 1, true, by decide +kernel⟩,
    ⟨{ (core 160 0).setPeg 3 0 fun _ => { peg 9 0 .armed (some 9) with latetol := 0 } with whl := turning.whl, prd := turning.prd, edg := { ((core 160 0).setPeg 3 0 fun _ => { peg 9 0 .armed (some 9) with latetol := 0 }).edg with heOld := some 256000 } }, 3, 3, hrun, 5, 1, 2, 3, 1, true, by decide +kernel⟩,
    ⟨handled { peg 2 4 .armed (some 9) with flags := 2, base := some 1000 }, 3, 3, hrun, 5, 1, 2, 0, 1, false, by decide +kernel⟩,
    ⟨handled { peg 2 4 .aimed (some 9) with flags := 2, base := some 1000 }, 3, 3, hrun, 5, 1, 2, 0, 1, false, by decide +kernel⟩,
    ⟨handled (peg 5 2 .dwelling none), 3, 3, hrun, 5, 1, 2, 0, 1, false, by decide +kernel⟩⟩

/-- States and operands that meet the hypotheses of MeasurementReadsAndMessages. -/
theorem test_meets_MeasurementReadsAndMessages :
    (∃ (s : State) (c w : Fin 9) (r : Run) (d x g : Fin 16) (f : Fin 32) (n : Fin 4), (s.Running c r) ∧ (s.clu[c].work = some w) ∧ (d.val % 2 = 0) ∧ ∃ m : Fin 8, (x.val = m.val))
    ∧ (∃ (s : State) (c w : Fin 9) (r : Run) (d x g : Fin 16) (f : Fin 32) (n : Fin 4), (s.Running c r) ∧ (s.clu[c].work = some w) ∧ let k := s.clu[c]
      let low : Nat := (k.g[x] : Word).toNat
      (d.val % 2 = 0) ∧ ∃ m : Fin 8, (low % 8 = m.val))
    ∧ (∃ (s : State) (c w : Fin 9) (r : Run) (d x g : Fin 16) (f : Fin 32) (n : Fin 4), (s.Running c r) ∧ (s.clu[c].work = some w) ∧ let k := s.clu[c]
      let dst : Word := k.g[x]
      let wk : Nat := dst.toNat / 32 % 16
      let vc : Bool := dst.getLsbD 9
      let q := s.fab.sendQ[sendIdx w vc]
      let good : Prop := dst.toNat / 2 ^ 10 % 64 = 0 ∧ wk ≤ 8 ∧ dst.msb = false
      let known : Prop := dst.toNat % 32 = s.nodeId ∨ dst.toNat % 32 ∈ s.fab.members
      (g.val + n.val ≤ 15) ∧ (good) ∧ (known) ∧ (q.length < 4))
    ∧ (∃ (s : State) (c w : Fin 9) (r : Run) (d x g : Fin 16) (f : Fin 32) (n : Fin 4), (s.Running c r) ∧ (s.clu[c].work = some w) ∧ let k := s.clu[c]
      let dst : Word := k.g[x]
      let wk : Nat := dst.toNat / 32 % 16
      let vc : Bool := dst.getLsbD 9
      let q := s.fab.sendQ[sendIdx w vc]
      let good : Prop := dst.toNat / 2 ^ 10 % 64 = 0 ∧ wk ≤ 8 ∧ dst.msb = false
      let known : Prop := dst.toNat % 32 = s.nodeId ∨ dst.toNat % 32 ∈ s.fab.members
      (g.val + n.val ≤ 15) ∧ (good) ∧ (known) ∧ (4 ≤ q.length))
    ∧ (∃ (s : State) (c w : Fin 9) (r : Run) (d x g : Fin 16) (f : Fin 32) (n : Fin 4), (s.Running c r) ∧ (s.clu[c].work = some w) ∧ let k := s.clu[c]
      let dst : Word := k.g[x]
      let wk : Nat := dst.toNat / 32 % 16
      let good : Prop := dst.toNat / 2 ^ 10 % 64 = 0 ∧ wk ≤ 8 ∧ dst.msb = false
      let known : Prop := dst.toNat % 32 = s.nodeId ∨ dst.toNat % 32 ∈ s.fab.members
      (g.val + n.val ≤ 15) ∧ (good) ∧ (¬known))
    ∧ (∃ (s : State) (c w : Fin 9) (r : Run) (d x g : Fin 16) (f : Fin 32) (n : Fin 4), (s.Running c r) ∧ (s.clu[c].work = some w) ∧ let k := s.clu[c]
      let dst : Word := k.g[x]
      let wk : Nat := dst.toNat / 32 % 16
      let good : Prop := dst.toNat / 2 ^ 10 % 64 = 0 ∧ wk ≤ 8 ∧ dst.msb = false
      (g.val + n.val ≤ 15) ∧ (¬good))
    ∧ (∃ (s : State) (c w : Fin 9) (r : Run) (d x g : Fin 16) (f : Fin 32) (n : Fin 4), (s.Running c r) ∧ (s.clu[c].work = some w) ∧ (r.cue.cue = 24) ∧ (r.exc = false))
    ∧ (∃ (s : State) (c w : Fin 9) (r : Run) (d x g : Fin 16) (f : Fin 32) (n : Fin 4), (s.Running c r) ∧ (s.clu[c].work = some w) ∧ (r.cue.cue ≠ 24 ∨ r.exc = true)) :=
  ⟨⟨(core 0x23 9), 3, 3, hrun, 14, 7, 15, 31, 0, by decide +kernel⟩,
    ⟨(core 0x23 9), 3, 3, hrun, 14, 7, 15, 31, 0, by decide +kernel⟩,
    ⟨(core 0x23 9), 3, 3, hrun, 14, 7, 15, 31, 0, by decide +kernel⟩,
    ⟨{ core 0x100 9 with fab := { up.fab with sendQ := Vector.replicate 18 [⟨0, false, 0, 0, 8, 3, 0, 0, [], [], 0⟩, ⟨0, false, 0, 0, 8, 3, 0, 0, [], [], 0⟩, ⟨0, false, 0, 0, 8, 3, 0, 0, [], [], 0⟩, ⟨0, false, 0, 0, 8, 3, 0, 0, [], [], 0⟩] } }, 3, 3, hrun, 14, 1, 15, 31, 0, by decide +kernel⟩,
    ⟨core 0x11F 9, 3, 3, hrun, 14, 1, 15, 31, 0, by decide +kernel⟩,
    ⟨core 0x120 9, 3, 3, hrun, 14, 1, 15, 31, 0, by decide +kernel⟩,
    ⟨core 7 9 { hrun with cue := ⟨24, 0, 0, 0, 0, []⟩ }, 3, 3, { hrun with cue := ⟨24, 0, 0, 0, 0, []⟩ }, 14, 7, 15, 31, 0, by decide +kernel⟩,
    ⟨(core 0x23 9), 3, 3, hrun, 14, 7, 15, 31, 0, by decide +kernel⟩⟩

/-- States and operands that meet the hypotheses of RegisterSpaceFromCore. -/
theorem test_meets_RegisterSpaceFromCore :
    (∃ (s u : State) (c : Fin 9) (r : Run) (d b : Fin 16) (i : BitVec 16) (stall : Nat) (link : Bool) (v : Word) (st : Status), (s.Running c r) ∧ let k := s.clu[c]
      let x : Word := k.g[b] + i.signExtend 32
      let me : Fin 11 := ⟨c.val, by omega⟩
      let mid := s.ranTo c r (2 + stall) k.pc k
      (u.clu[c].pc = k.pc) ∧ (u.clu[c].g = k.g) ∧ (mid.accRead me x.toNat 0 link = (u, v, st)) ∧ (st = .addrerr))
    ∧ (∃ (s u : State) (c : Fin 9) (r : Run) (d b : Fin 16) (i : BitVec 16) (stall : Nat) (link : Bool) (v : Word) (st : Status), (s.Running c r) ∧ let k := s.clu[c]
      let x : Word := k.g[b] + i.signExtend 32
      let me : Fin 11 := ⟨c.val, by omega⟩
      let mid := s.ranTo c r (2 + stall) k.pc k
      (u.clu[c].pc = k.pc) ∧ (u.clu[c].g = k.g) ∧ (mid.accRead me x.toNat 0 link = (u, v, st)) ∧ (st = .linkerr))
    ∧ (∃ (s u : State) (c : Fin 9) (r : Run) (d b : Fin 16) (i : BitVec 16) (stall : Nat) (link : Bool) (v : Word) (st : Status), (s.Running c r) ∧ let k := s.clu[c]
      let x : Word := k.g[b] + i.signExtend 32
      let me : Fin 11 := ⟨c.val, by omega⟩
      let mid := s.ranTo c r (2 + stall) k.pc k
      (u.clu[c].pc = k.pc) ∧ (u.clu[c].g = k.g) ∧ (mid.accRead me x.toNat 0 link = (u, v, st)) ∧ (st = .ok ∨ st = .busy))
    ∧ (∃ (s u : State) (c : Fin 9) (r : Run) (d b : Fin 16) (i : BitVec 16) (stall : Nat) (link : Bool) (v : Word) (st : Status), (s.Running c r) ∧ let k := s.clu[c]
      let x : Word := k.g[b] + i.signExtend 32
      let me : Fin 11 := ⟨c.val, by omega⟩
      let mid := s.ranTo c r (2 + stall) k.pc k
      (u.clu[c].pc = k.pc) ∧ (u.clu[c].g = k.g) ∧ (mid.accRead me x.toNat 0 link = (u, v, st)) ∧ (st = .dataerr))
    ∧ (∃ (s u : State) (c : Fin 9) (r : Run) (d b : Fin 16) (i : BitVec 16) (stall : Nat) (link : Bool) (v : Word) (st : Status), (s.Running c r) ∧ let k := s.clu[c]
      let x : Word := k.g[b] + i.signExtend 32
      let me : Fin 11 := ⟨c.val, by omega⟩
      let mid := s.ranTo c r (2 + stall) k.pc k
      (u.clu[c].pc = k.pc) ∧ (u.clu[c].g = k.g) ∧ (mid.accWrite me x.toNat k.g[d] 0 link = (u, st)) ∧ (st = .addrerr))
    ∧ (∃ (s u : State) (c : Fin 9) (r : Run) (d b : Fin 16) (i : BitVec 16) (stall : Nat) (link : Bool) (v : Word) (st : Status), (s.Running c r) ∧ let k := s.clu[c]
      let x : Word := k.g[b] + i.signExtend 32
      let me : Fin 11 := ⟨c.val, by omega⟩
      let mid := s.ranTo c r (2 + stall) k.pc k
      (u.clu[c].pc = k.pc) ∧ (u.clu[c].g = k.g) ∧ (mid.accWrite me x.toNat k.g[d] 0 link = (u, st)) ∧ (st = .owner))
    ∧ (∃ (s u : State) (c : Fin 9) (r : Run) (d b : Fin 16) (i : BitVec 16) (stall : Nat) (link : Bool) (v : Word) (st : Status), (s.Running c r) ∧ let k := s.clu[c]
      let x : Word := k.g[b] + i.signExtend 32
      let me : Fin 11 := ⟨c.val, by omega⟩
      let mid := s.ranTo c r (2 + stall) k.pc k
      (u.clu[c].pc = k.pc) ∧ (u.clu[c].g = k.g) ∧ (mid.accWrite me x.toNat k.g[d] 0 link = (u, st)) ∧ (st = .linkerr))
    ∧ (∃ (s u : State) (c : Fin 9) (r : Run) (d b : Fin 16) (i : BitVec 16) (stall : Nat) (link : Bool) (v : Word) (st : Status), (s.Running c r) ∧ let k := s.clu[c]
      let x : Word := k.g[b] + i.signExtend 32
      let me : Fin 11 := ⟨c.val, by omega⟩
      let mid := s.ranTo c r (2 + stall) k.pc k
      (u.clu[c].pc = k.pc) ∧ (u.clu[c].g = k.g) ∧ (mid.accWrite me x.toNat k.g[d] 0 link = (u, st)) ∧ (st = .ok ∨ st = .busy)) :=
  ⟨⟨core 1 9, ((State.ranTo (core 1 9) 3 hrun (2 + 0) 40 (core 1 9).clu[3]).accRead 3 1 0 false).1, 3, hrun, 5, 1, 0, 0, false, ((State.ranTo (core 1 9) 3 hrun (2 + 0) 40 (core 1 9).clu[3]).accRead 3 1 0 false).2.1, .addrerr, by decide +kernel⟩,
    ⟨core 0x20000000 9, ((State.ranTo (core 0x20000000 9) 3 hrun (2 + 0) 40 (core 0x20000000 9).clu[3]).accRead 3 0x20000000 0 true).1, 3, hrun, 5, 1, 0, 0, true, ((State.ranTo (core 0x20000000 9) 3 hrun (2 + 0) 40 (core 0x20000000 9).clu[3]).accRead 3 0x20000000 0 true).2.1, .linkerr, by decide +kernel⟩,
    ⟨core 0x10000000 9, ((State.ranTo (core 0x10000000 9) 3 hrun (2 + 0) 40 (core 0x10000000 9).clu[3]).accRead 3 0x10000000 0 false).1, 3, hrun, 5, 1, 0, 0, false, ((State.ranTo (core 0x10000000 9) 3 hrun (2 + 0) 40 (core 0x10000000 9).clu[3]).accRead 3 0x10000000 0 false).2.1, .ok, by decide +kernel⟩,
    ⟨{ core 0x10001000 9 with inj := { up.inj with flips := [(0x10001000, 2)] } }, ((State.ranTo ({ core 0x10001000 9 with inj := { up.inj with flips := [(0x10001000, 2)] } }) 3 hrun (2 + 0) 40 (core 0x10001000 9).clu[3]).accRead 3 0x10001000 0 false).1, 3, hrun, 5, 1, 0, 0, false, ((State.ranTo ({ core 0x10001000 9 with inj := { up.inj with flips := [(0x10001000, 2)] } }) 3 hrun (2 + 0) 40 (core 0x10001000 9).clu[3]).accRead 3 0x10001000 0 false).2.1, .dataerr, by decide +kernel⟩,
    ⟨core 1 9, ((State.ranTo (core 1 9) 3 hrun (2 + 0) 40 (core 1 9).clu[3]).accRead 3 1 0 false).1, 3, hrun, 5, 1, 0, 0, false, ((State.ranTo (core 1 9) 3 hrun (2 + 0) 40 (core 1 9).clu[3]).accRead 3 1 0 false).2.1, .addrerr, by decide +kernel⟩,
    ⟨(core 0x40000000 9), ((State.ranTo (core 0x40000000 9) 3 hrun (2 + 0) 40 (core 0x40000000 9).clu[3]).accWrite 3 0x40000000 9 0 false).1, 3, hrun, 2, 1, 0, 0, false, 0, .owner, by decide +kernel⟩,
    ⟨((core 0x20001100 9).setECh 4 fun e => { e with owner := 3 }), ((State.ranTo ((core 0x20001100 9).setECh 4 fun e => { e with owner := 3 }) 3 hrun (2 + 0) 40 ((core 0x20001100 9).setECh 4 fun e => { e with owner := 3 }).clu[3]).accWrite 3 0x20001100 9 0 true).1, 3, hrun, 2, 1, 0, 0, true, 0, .linkerr, by decide +kernel⟩,
    ⟨(core 0x10008308 9), ((State.ranTo (core 0x10008308 9) 3 hrun (2 + 0) 40 (core 0x10008308 9).clu[3]).accWrite 3 0x10008308 9 0 false).1, 3, hrun, 2, 1, 0, 0, false, 0, .ok, by decide +kernel⟩⟩

/-- States and operands that meet the hypotheses of CuesAndDispatch. -/
theorem test_meets_CuesAndDispatch :
    (∃ (s : State) (c w : Fin 9) (q : CueOcc) (m : Fin 16) (a n : Nat), let k := s.clu[c]
      let u := s.advanceTo (s.cueTick s.work[w])
      (k.work = some w) ∧ (s.clocked = true) ∧ (k.runs = true) ∧ (k.halt = false) ∧ (k.run = none) ∧ (s.schedLive w = true) ∧ (k.redoCue = none) ∧ (s.work[w].nextCue u.now = some q) ∧ ((∀ f ∈ s.inj.flips, f.1 ≠ w.val * 0x10000 + 4 * q.cue)))
    ∧ (∃ (s : State) (c w : Fin 9) (q : CueOcc) (m : Fin 16) (a n : Nat), let x := s.work[w].comps[m]
      (s.clocked = true) ∧ ((s.carrier w).isSome = true) ∧ (x.arm = true) ∧ (x.was = none) ∧ (s.compLive x.prov = true) ∧ (s.crossTick x.angle = some n) ∧ (x.since < n))
    ∧ (∃ (s : State) (c w : Fin 9) (q : CueOcc) (m : Fin 16) (a n : Nat), let x := s.work[w].comps[m]
      (s.clocked = true) ∧ (s.angNow = some a) ∧ (2 * s.pastFire x a ≤ s.cyc256))
    ∧ (∃ (s : State) (c w : Fin 9) (q : CueOcc) (m : Fin 16) (a n : Nat), let x := s.work[w].comps[m]
      (s.clocked = true) ∧ (s.angNow = some a) ∧ (x.waiting = true) ∧ (s.cyc256 < 2 * s.pastFire x a)) :=
  ⟨⟨(idle3 (peg 9 0 .free none)).setWork 3 fun x => { x with cues := [⟨0, 3, 0, 0, 0, []⟩] }, 3, 3, ⟨0, 3, 0, 0, 0, []⟩, 15, 0, 0, by decide +kernel⟩,
    ⟨armedComp ⟨0x100, true, false, false, false, 0, 0, none⟩, 3, 3, ⟨0, 3, 0, 0, 0, []⟩, 15, 0, ((armedComp ⟨0x100, true, false, false, false, 0, 0, none⟩).crossTick 0x100).getD 0, by decide +kernel⟩,
    ⟨armedComp ⟨0, true, false, false, false, 0, 0, none⟩, 3, 3, ⟨0, 3, 0, 0, 0, []⟩, 15, 0, 0, by decide +kernel⟩,
    ⟨armedComp ⟨1, true, true, false, true, 0, -2264924160, none⟩, 3, 3, ⟨0, 3, 0, 0, 0, []⟩, 15, 0, 0, by decide +kernel⟩⟩

/-- States and operands that meet the hypotheses of PowerUpAndSelfTest. -/
theorem test_meets_PowerUpAndSelfTest :
    (∃ (s : State) (nid : Fin 32) (ma : Fin 8) (test : Bool), (s.sys.st = .off) ∧ (s.sys.por = false) ∧ (s.ao.lost = false))
    ∧ (∃ (s : State) (nid : Fin 32) (ma : Fin 8) (test : Bool), (s.sys.st = .off) ∧ (s.sys.por = false) ∧ (s.ao.lost = true))
    ∧ (∃ (s : State) (nid : Fin 32) (ma : Fin 8) (test : Bool), (s.sys.por = true) ∧ (s.sys.st = .off))
    ∧ (∃ (s : State) (nid : Fin 32) (ma : Fin 8) (test : Bool), (s.sys.st = .selftest) ∧ (s.sys.pll = false))
    ∧ (∃ (s : State) (fails : BitVec 16) (echo : EchoResult) (link : Bool), (s.sys.st = .selftest) ∧ (s.sys.pll = true) ∧ let clock : Bool := s.clockFailed
      (clock = true))
    ∧ (∃ (s : State) (fails : BitVec 16) (echo : EchoResult) (link : Bool), (s.sys.st = .selftest) ∧ (s.sys.pll = true) ∧ let edge : Nat := if echo.cal && echo.bad.isEmpty then 0 else 0x800
      let items : Nat := (fails.toNat &&& 0xF7FF) ||| edge
      let bits : Nat := (if s.sys.wakeRun then items &&& 0xF800 else items) ||| (if s.sys.vbat then 0 else 0x2000)
      let fatal : Prop := (bits.testBit 9 = true ∧ bits.testBit 10 = true) ∨ bits.testBit 11 = true ∨ bits.testBit 12 = true
            ∨ bits.testBit 13 = true ∨ bits.testBit 15 = true
      let clock : Bool := s.clockFailed
      (clock = false) ∧ (fatal))
    ∧ (∃ (s : State) (fails : BitVec 16) (echo : EchoResult) (link : Bool), (s.sys.st = .selftest) ∧ (s.sys.pll = true) ∧ let edge : Nat := if echo.cal && echo.bad.isEmpty then 0 else 0x800
      let items : Nat := (fails.toNat &&& 0xF7FF) ||| edge
      let bits : Nat := (if s.sys.wakeRun then items &&& 0xF800 else items) ||| (if s.sys.vbat then 0 else 0x2000)
      let fatal : Prop := (bits.testBit 9 = true ∧ bits.testBit 10 = true) ∨ bits.testBit 11 = true ∨ bits.testBit 12 = true
            ∨ bits.testBit 13 = true ∨ bits.testBit 15 = true
      let clock : Bool := s.clockFailed
      (clock = false) ∧ (¬fatal))
    ∧ (∃ (s : State) (fails : BitVec 16) (echo : EchoResult) (link : Bool), (s.sys.st = .selftest) ∧ (s.sys.pll = true) ∧ let edge : Nat := if echo.cal && echo.bad.isEmpty then 0 else 0x800
      let items : Nat := (fails.toNat &&& 0xF7FF) ||| edge
      let bits : Nat := (if s.sys.wakeRun then items &&& 0xF800 else items) ||| (if s.sys.vbat then 0 else 0x2000)
      (bits.testBit 9 = true))
    ∧ (∃ (s : State) (fails : BitVec 16) (echo : EchoResult) (link : Bool), (s.sys.st = .selftest) ∧ (s.sys.pll = true) ∧ let edge : Nat := if echo.cal && echo.bad.isEmpty then 0 else 0x800
      let items : Nat := (fails.toNat &&& 0xF7FF) ||| edge
      let bits : Nat := (if s.sys.wakeRun then items &&& 0xF800 else items) ||| (if s.sys.vbat then 0 else 0x2000)
      (bits.testBit 10 = true))
    ∧ (∃ (s : State) (fails : BitVec 16) (echo : EchoResult) (link : Bool), (s.sys.st = .selftest) ∧ (s.sys.pll = true) ∧ let edge : Nat := if echo.cal && echo.bad.isEmpty then 0 else 0x800
      let items : Nat := (fails.toNat &&& 0xF7FF) ||| edge
      let bits : Nat := (if s.sys.wakeRun then items &&& 0xF800 else items) ||| (if s.sys.vbat then 0 else 0x2000)
      ∃ c : Fin 9, (bits.testBit c.val = true)) :=
  ⟨⟨dev .off, 31, 7, false, by decide +kernel⟩,
    ⟨{ dev .off with ao := { up.ao with lost := true } }, 31, 7, false, by decide +kernel⟩,
    ⟨{ dev .off with sys := { up.sys with st := .off, por := true } }, 31, 7, false, by decide +kernel⟩,
    ⟨{ dev .selftest with sys := { (dev .selftest).sys with pll := false } }, 31, 7, false, by decide +kernel⟩,
    ⟨State.reset.emit 2 Kind.clockFail (srcC 3 1 0xF) 0, 0, ⟨true, []⟩, false, by decide +kernel⟩,
    ⟨State.reset, 0x600, ⟨true, []⟩, false, by decide +kernel⟩,
    ⟨State.reset, 0x200, ⟨true, []⟩, false, by decide +kernel⟩,
    ⟨State.reset, 0x600, ⟨true, []⟩, false, by decide +kernel⟩,
    ⟨State.reset, 0x600, ⟨true, []⟩, false, by decide +kernel⟩,
    ⟨State.reset, 0x100, ⟨true, []⟩, false, by decide +kernel⟩⟩

/-- States and operands that meet the hypotheses of SuppliesAndClocks. -/
theorem test_meets_SuppliesAndClocks :
    (∃ (s : State) (which b : Fin 3) (n : Nat), (which = 0))
    ∧ (∃ (s : State) (which b : Fin 3) (n : Nat), (which = 1))
    ∧ (∃ (s : State) (which b : Fin 3) (n : Nat), (which = 2))
    ∧ (∃ (s : State) (which b : Fin 3) (n : Nat), (which ≠ 1))
    ∧ (∃ (s : State) (which b : Fin 3) (n : Nat), (s.sys.vbat = true) ∧ (s.sys.st ≠ .off))
    ∧ (∃ (s : State) (which b : Fin 3) (n : Nat), (s.clocked = true) ∧ ((s.coll.outbox.filter (·.src = 0x31F)).length < 4))
    ∧ (∃ (s : State) (which b : Fin 3) (n : Nat), (s.clocked = true) ∧ ((s.coll.outbox.filter (·.src = 0x31F)).length < 4))
    ∧ (∃ (s : State) (which b : Fin 3) (n : Nat), (s.clocked = true) ∧ (48731 ≤ n) ∧ (n ≤ 48926))
    ∧ (∃ (s : State) (which b : Fin 3) (n : Nat), (s.clocked = true) ∧ ((s.coll.outbox.filter (·.src = 0x31F)).length < 4) ∧ (n < 48731 ∨ 48926 < n)) :=
  ⟨⟨up, 0, 2, 48731, by decide +kernel⟩,
    ⟨up, 1, 2, 48731, by decide +kernel⟩,
    ⟨up, 2, 2, 48731, by decide +kernel⟩,
    ⟨up, 0, 2, 48731, by decide +kernel⟩,
    ⟨up, 0, 2, 48731, by decide +kernel⟩,
    ⟨up, 0, 2, 48731, by decide +kernel⟩,
    ⟨up, 0, 2, 48731, by decide +kernel⟩,
    ⟨up, 0, 2, 48731, by decide +kernel⟩,
    ⟨up, 0, 2, 48730, by decide +kernel⟩⟩

/-- States and operands that meet the hypotheses of SystemCommands. -/
theorem test_meets_SystemCommands :
    (∃ (s : State) (p : Fin 2) (w : BitVec 16), (s.Writable p) ∧ (s.FabSteady) ∧ let first : Prop := s.cmdBarred = false ∧ (p = 1 → s.sys.cmdAt ≠ some s.svclk) ∧ ∀ x ∈ s.sys.cmdMnt, x.1 ≠ s.svclk
      (s.sys.st = .ready) ∧ (first))
    ∧ (∃ (s : State) (p : Fin 2) (w : BitVec 16), (s.Writable p) ∧ (s.FabSteady) ∧ let first : Prop := s.cmdBarred = false ∧ (p = 1 → s.sys.cmdAt ≠ some s.svclk) ∧ ∀ x ∈ s.sys.cmdMnt, x.1 ≠ s.svclk
      (s.sys.st = .run) ∧ (first))
    ∧ (∃ (s : State) (p : Fin 2) (w : BitVec 16), (s.Writable p) ∧ (s.FabSteady) ∧ let first : Prop := s.cmdBarred = false ∧ (p = 1 → s.sys.cmdAt ≠ some s.svclk) ∧ ∀ x ∈ s.sys.cmdMnt, x.1 ≠ s.svclk
      (s.sys.st = .sidelines) ∧ (first))
    ∧ (∃ (s : State) (p : Fin 2) (w : BitVec 16), (s.Writable p) ∧ (s.FabSteady) ∧ let first : Prop := s.cmdBarred = false ∧ (p = 1 → s.sys.cmdAt ≠ some s.svclk) ∧ ∀ x ∈ s.sys.cmdMnt, x.1 ≠ s.svclk
      (s.sys.st = .ready ∨ s.sys.st = .sidelines) ∧ (s.sync = .nosync) ∧ (first) ∧ ∃ c : Fin 9, (s.clu[c].role = .active) ∧ ((∀ o, s.bist.ov = some o → o.spare ≠ some c)))
    ∧ (∃ (s : State) (p : Fin 2) (w : BitVec 16), (s.Writable p) ∧ (s.FabSteady) ∧ let first : Prop := s.cmdBarred = false ∧ (p = 1 → s.sys.cmdAt ≠ some s.svclk) ∧ ∀ x ∈ s.sys.cmdMnt, x.1 ≠ s.svclk
      (w ≠ 0x5AFE ∨ (s.sys.st ≠ .ready ∧ first)))
    ∧ (∃ (s : State) (p : Fin 2) (w : BitVec 16), (s.Writable p) ∧ (s.FabSteady) ∧ let first : Prop := s.cmdBarred = false ∧ (p = 1 → s.sys.cmdAt ≠ some s.svclk) ∧ ∀ x ∈ s.sys.cmdMnt, x.1 ≠ s.svclk
      (w ≠ 0x5AFE ∨ (s.sys.st ≠ .run ∧ first)))
    ∧ (∃ (s : State) (p : Fin 2) (w : BitVec 16), (s.Writable p) ∧ (s.FabSteady) ∧ let first : Prop := s.cmdBarred = false ∧ (p = 1 → s.sys.cmdAt ≠ some s.svclk) ∧ ∀ x ∈ s.sys.cmdMnt, x.1 ≠ s.svclk
      (w ≠ 0x5AFE ∨ (s.sys.st ≠ .sidelines ∧ first)))
    ∧ (∃ (s : State) (p : Fin 2) (w : BitVec 16), (s.Writable p) ∧ (s.FabSteady) ∧ let first : Prop := s.cmdBarred = false ∧ (p = 1 → s.sys.cmdAt ≠ some s.svclk) ∧ ∀ x ∈ s.sys.cmdMnt, x.1 ≠ s.svclk
      (w ≠ 0x5AFE ∨ (((s.sys.st ≠ .ready ∧ s.sys.st ≠ .sidelines) ∨ s.sync ≠ .nosync) ∧ first)))
    ∧ (∃ (s : State) (p : Fin 2) (w : BitVec 16), (s.Writable p) ∧ (s.FabSteady) ∧ (s.cmdBarred = true ∨ (p = 1 ∧ s.sys.cmdAt = some s.svclk)))
    ∧ (∃ (s : State) (p : Fin 2) (w : BitVec 16), (s.Writable p) ∧ (s.FabSteady) ∧ (p = 0) ∧ (s.cmdBarred = false) ∧ (s.sys.st = .run) ∧ (s.sys.cmdMnt = some (s.svclk, .ready))) :=
  ⟨⟨dev .ready, 0, 0x5AFE, by decide +kernel⟩,
    ⟨up, 0, 0x5AFE, by decide +kernel⟩,
    ⟨dev .sidelines, 0, 0x5AFE, by decide +kernel⟩,
    ⟨{ idle3 (peg 9 0 .free none) with sys := { up.sys with st := .ready } }, 0, 0x5AFE, by decide +kernel⟩,
    ⟨up, 0, 0x5AFE, by decide +kernel⟩,
    ⟨dev .ready, 0, 0x5AFE, by decide +kernel⟩,
    ⟨dev .ready, 0, 0x5AFE, by decide +kernel⟩,
    ⟨up, 0, 0x5AFE, by decide +kernel⟩,
    ⟨({ up with sys := { up.sys with cmdAt := some 0 } } : State).setRf Reg.mntCfg 0 1 0 3, 1, 0x5AFE, by decide +kernel⟩,
    ⟨{ up with sys := { up.sys with cmdMnt := some (0, .ready) } }, 0, 0x5AFE, by decide +kernel⟩⟩

/-- States and operands that meet the hypotheses of StandbyAndWake. -/
theorem test_meets_StandbyAndWake :
    (∃ (s : State) (aux0 : Bool) (addr : BitVec 7), (s.sys.st = .standby) ∧ (s.sys.stbyDone = false))
    ∧ (∃ (s : State) (aux0 : Bool) (addr : BitVec 7), (s.sys.st = .standby) ∧ (s.rb Reg.wakeCfg 0 0 = true) ∧ (s.sys.vio[3] = true))
    ∧ (∃ (s : State) (aux0 : Bool) (addr : BitVec 7), (s.sys.st = .standby) ∧ (s.rb Reg.wakeCfg 0 4 = true) ∧ (addr.toNat = 0x58 + s.sys.ma % 8))
    ∧ (∃ (s : State) (aux0 : Bool) (addr : BitVec 7), (s.sys.st = .standby) ∧ (s.ao.counting = true) ∧ (s.sys.vio[1] = true) ∧ (List.range (3)).any (fun n => decide (((s.inj.flips.find? (·.1 = Reg.scribe.base)).map (·.2) = (if n = 0 then none else some n)) ∧ (n = 1))) = true)
    ∧ (∃ (s : State) (aux0 : Bool) (addr : BitVec 7), (s.sys.st = .standby) ∧ (s.ao.counting = true) ∧ (s.sys.vio[1] = true) ∧ (List.range (3)).any (fun n => decide (((s.inj.flips.find? (·.1 = Reg.scribe.base)).map (·.2) = (if n = 0 then none else some n)) ∧ (n = 2))) = true)
    ∧ (∃ (s : State) (aux0 : Bool) (addr : BitVec 7), (s.sys.st = .standby) ∧ (s.rb Reg.wakeCfg 0 3 = true) ∧ (s.alarm < 2 ^ 48) ∧ (s.ao.slow < 2 ^ 48))
    ∧ (∃ (s : State) (aux0 : Bool) (addr : BitVec 7), (s.sys.st = .standby) ∧ (s.rb Reg.wakeCfg 0 3 = true) ∧ (s.ao.slow = s.alarm))
    ∧ (∃ (s : State) (aux0 : Bool) (addr : BitVec 7), (s.sys.st = .standby) ∧ (s.sys.stbyDone = true) ∧ (s.sys.wakeLatch).any (fun _ => true) = true) :=
  ⟨⟨{ dev .standby with ao := { up.ao with counting := true }, inj := { up.inj with flips := [(Reg.scribe.base, 1)] } }, false, 0x58, by decide +kernel⟩,
    ⟨({ dev .standby with sys := { up.sys with st := .standby, stbyDone := true } } : State).setRf Reg.wakeCfg 0 0 0 1, false, 0x58, by decide +kernel⟩,
    ⟨({ dev .standby with sys := { up.sys with st := .standby, stbyDone := true } } : State).setRf Reg.wakeCfg 0 4 4 1, false, 0x58, by decide +kernel⟩,
    ⟨{ dev .standby with ao := { up.ao with counting := true }, inj := { up.inj with flips := [(Reg.scribe.base, 1)] } }, false, 0x58, by decide +kernel⟩,
    ⟨{ dev .standby with ao := { up.ao with counting := true }, inj := { up.inj with flips := [(Reg.scribe.base, 2)] } }, false, 0x58, by decide +kernel⟩,
    ⟨({ dev .standby with sys := { up.sys with st := .standby, stbyDone := true } } : State).setRf Reg.wakeCfg 0 3 3 1, false, 0x58, by decide +kernel⟩,
    ⟨({ dev .standby with sys := { up.sys with st := .standby, stbyDone := true } } : State).setRf Reg.wakeCfg 0 3 3 1, false, 0x58, by decide +kernel⟩,
    ⟨{ dev .standby with sys := { up.sys with st := .standby, stbyDone := true, wakeLatch := [3] } }, false, 0x58, by decide +kernel⟩⟩

/-- States and operands that meet the hypotheses of MeasurementGate. -/
theorem test_meets_MeasurementGate :
    (∃ (s : State) (p : Fin 2) (g : Bool), (s.Writable p) ∧ let port : Fin 11 := if p = 0 then 9 else 10
      let late : Bool := s.outranked port Reg.sysGate.base
      (s.live = true) ∧ (late = false) ∧ (s.rb Reg.sysGate 0 0 = false))
    ∧ (∃ (s : State) (p : Fin 2) (g : Bool), (s.Writable p) ∧ let port : Fin 11 := if p = 0 then 9 else 10
      let late : Bool := s.outranked port Reg.sysGate.base
      (s.live = true) ∧ (late = false) ∧ (s.rb Reg.sysGate 0 0 = true))
    ∧ (∃ (s : State) (p : Fin 2) (g : Bool), (s.Writable p) ∧ let port : Fin 11 := if p = 0 then 9 else 10
      let late : Bool := s.outranked port Reg.sysGate.base
      (s.live = true) ∧ (late = false) ∧ (s.rb Reg.sysGate 0 0 = g))
    ∧ (∃ (s : State) (p : Fin 2) (g : Bool), (s.Writable p) ∧ let port : Fin 11 := if p = 0 then 9 else 10
      let late : Bool := s.outranked port Reg.sysGate.base
      (s.live = false) ∧ (late = false))
    ∧ (∃ (s : State) (p : Fin 2) (g : Bool), (s.Writable p) ∧ let port : Fin 11 := if p = 0 then 9 else 10
      let late : Bool := s.outranked port Reg.sysGate.base
      (late = true))
    ∧ (∃ (s : State) (p : Fin 2) (g : Bool), (s.Writable p) ∧ (s.sys.measRdy = false) ∧ (s.rb Reg.sysGate 0 0 = false)) :=
  ⟨⟨up, 0, true, by decide +kernel⟩,
    ⟨up.setRf Reg.sysGate 0 0 0 1, 0, true, by decide +kernel⟩,
    ⟨up.setRf Reg.sysGate 0 0 0 1, 0, true, by decide +kernel⟩,
    ⟨dev .sidelines, 0, true, by decide +kernel⟩,
    ⟨up.hw (wroteKey Reg.sysGate.base) 15, 0, true, by decide +kernel⟩,
    ⟨{ up with sys := { up.sys with measRdy := false } }, 0, true, by decide +kernel⟩⟩

/-- States and operands that meet the hypotheses of DriverDieLink. -/
theorem test_meets_DriverDieLink :
    (∃ (s : State) (x : Xfer) (rest : List Xfer), (s.clocked = true) ∧ (s.links.ddl = []))
    ∧ (∃ (s : State) (x : Xfer) (rest : List Xfer), (s.clocked = true) ∧ (s.drv.safe = false))
    ∧ (∃ (s : State) (x : Xfer) (rest : List Xfer), (s.clocked = true) ∧ (s.links.ddl = x :: rest) ∧ (s.links.quietUntil ≤ s.now) ∧ (s.inj.ddlCrc = false) ∧ (s.coll.relDone = none) ∧ (x.toDriver = true) ∧ ((∀ n us q, x ≠ .softval n us q)))
    ∧ (∃ (s : State) (x : Xfer) (rest : List Xfer), (s.clocked = true) ∧ (s.links.ddl = x :: rest) ∧ (s.links.quietUntil ≤ s.now) ∧ (s.inj.ddlCrc = false) ∧ (s.coll.relDone = none) ∧ (s.links.ddlTries < 4))
    ∧ (∃ (s : State) (x : Xfer) (rest : List Xfer) (m : Msg), (s.clocked = true) ∧ (s.links.ddl = x :: rest) ∧ (s.links.quietUntil ≤ s.now) ∧ (s.inj.ddlCrc = false) ∧ (s.coll.relDone = none) ∧ (4 ≤ s.links.ddlTries) ∧ (x = .message m))
    ∧ (∃ (s : State) (x : Xfer) (rest : List Xfer), (s.clocked = true) ∧ (Xfer.release ∈ s.links.arrived))
    ∧ (∃ (s : State) (x : Xfer) (rest : List Xfer), (s.clocked = true) ∧ (s.links.arrived = [.relAnswer true]) ∧ (s.coll.relPend = true) ∧ (s.coll.lineA = false) ∧ (s.coll.lineB = false) ∧ ((∀ w ∈ s.coll.relWait, w.rest = [])) ∧ (s.coll.relDone = none))
    ∧ (∃ (s : State) (x : Xfer) (rest : List Xfer), (s.clocked = true) ∧ (s.links.arrived = [.relAnswer false]) ∧ (s.coll.relPend = true) ∧ (s.coll.relWait).any (fun w => decide ((w.port = true))) = true)
    ∧ (∃ (s : State) (x : Xfer) (rest : List Xfer), (s.clocked = true) ∧ (s.links.arrived = [.relAnswer false]) ∧ (s.coll.relPend = true) ∧ (s.coll.relWait).any (fun w => decide ((w.port = false))) = true) :=
  ⟨⟨{ calm with links := { up.links with arrived := [.relAnswer false] }, coll := { calm.coll with relPend := true, relWait := some ⟨true, 0, 4, none, false, [], 3⟩ }, host := { calm.host with status := .waiting } }, .release, [], by decide +kernel⟩,
    ⟨{ calm with links := { up.links with arrived := [.relAnswer false] }, coll := { calm.coll with relPend := true, relWait := some ⟨true, 0, 4, none, false, [], 3⟩ }, host := { calm.host with status := .waiting } }, .release, [], by decide +kernel⟩,
    ⟨{ calm with links := { up.links with ddl := [.release] } }, .release, [], by decide +kernel, by decide +kernel, by decide +kernel, by decide +kernel, by decide +kernel, by decide +kernel,
      fun _ _ _ h => by cases h⟩,
    ⟨{ calm with links := { up.links with ddl := [.release] } }, .release, [], by decide +kernel⟩,
    ⟨{ calm with links := { up.links with ddl := [.message (msg 0 0x400 0)], ddlTries := 4 } }, .message (msg 0 0x400 0), [], msg 0 0x400 0, by decide +kernel⟩,
    ⟨{ calm with links := { up.links with arrived := [.release] } }, .release, [], by decide +kernel⟩,
    ⟨{ calm with links := { up.links with arrived := [.relAnswer true] }, coll := { calm.coll with relPend := true } }, .release, [], by decide +kernel⟩,
    ⟨{ calm with links := { up.links with arrived := [.relAnswer false] }, coll := { calm.coll with relPend := true, relWait := some ⟨true, 0, 4, none, false, [], 3⟩ }, host := { calm.host with status := .waiting } }, .release, [], by decide +kernel⟩,
    ⟨{ calm with links := { up.links with arrived := [.relAnswer false] }, coll := { calm.coll with relPend := true, relWait := some ⟨false, 0, 4, none, false, [], 3⟩ }, host := { calm.host with status := .waiting } }, .release, [], by decide +kernel⟩⟩

/-- States and operands that meet the hypotheses of MemoryDieLinkAndEchoes. -/
theorem test_meets_MemoryDieLinkAndEchoes :
    (∃ (s : State) (c : Fin 32) (n : Fin 24), (s.clocked = true) ∧ (s.inj.mdlCrc = false) ∧ (s.trc.coming = []) ∧ (s.mdlNext = none))
    ∧ (∃ (s : State) (c : Fin 32) (n : Fin 24), (s.clocked = true) ∧ (s.inj.mdlCrc = false) ∧ (s.trc.coming = []) ∧ ∃ r : Fin 3, ([[], [1], List.replicate 8 0] : List (List Nat)).any (fun slot => decide (([[], [[1]]] : List (List (List Nat))).any (fun rest => decide ((s.mdlNext = some (some r)) ∧ let g := s.trc.ring[r]
      let base := traceBase + s.ringLo r * 2 ^ 20 + g.wp * 64
      (g.q = slot :: rest) ∧ (slot.length = 8) ∧ (s.ringEn r = true) ∧ (g.frozen = false) ∧ (s.ringFull r = false) ∧ ([0, 4, 7, 0x34000, 0x36000, 0x100000, 0xFFFFC, 0x100100000] : List (Nat)).any (fun b => decide ((b < base ∨ base + 64 ≤ b))))))) = true)
    ∧ (∃ (s : State) (c : Fin 32) (n : Fin 24), (s.clocked = true) ∧ (s.inj.mdlCrc = false) ∧ (s.trc.coming = []) ∧ (s.mdlNext ≠ none) ∧ (s.links.mdlTries < 4))
    ∧ (∃ (s : State) (c : Fin 32) (n : Fin 24), (s.clocked = true) ∧ (s.inj.mdlCrc = false) ∧ (s.trc.coming = []) ∧ (s.mdlNext ≠ none) ∧ (4 ≤ s.links.mdlTries))
    ∧ (∃ (s : State) (c : Fin 32) (n : Fin 24), (s.clocked = true) ∧ (c.val ∉ s.inj.echo))
    ∧ (∃ (s : State) (c : Fin 32) (n : Fin 24), (s.clocked = true) ∧ (n.val + 32 ∉ s.inj.echo)) :=
  ⟨⟨{ up with trc := { up.trc with sinceScrub := 4094 } }, 31, 23, by decide +kernel⟩,
    ⟨(({ up with trc := { up.trc with init := true, ring := up.trc.ring.set 0 { up.trc.ring[0] with q := [List.replicate 8 0] } } } : State).setRg Reg.ringCfg 0 0 0x11), 31, 23, by decide +kernel⟩,
    ⟨(({ up with trc := { up.trc with init := true, ring := up.trc.ring.set 0 { up.trc.ring[0] with q := [List.replicate 8 0] } } } : State).setRg Reg.ringCfg 0 0 0x11), 31, 23, by decide +kernel⟩,
    ⟨{ (({ up with trc := { up.trc with init := true, ring := up.trc.ring.set 0 { up.trc.ring[0] with q := [List.replicate 8 0] } } } : State).setRg Reg.ringCfg 0 0 0x11) with links := { up.links with mdlTries := 4 } }, 31, 23, by decide +kernel⟩,
    ⟨(({ up with trc := { up.trc with init := true, ring := up.trc.ring.set 0 { up.trc.ring[0] with q := [List.replicate 8 0] } } } : State).setRg Reg.ringCfg 0 0 0x11), 31, 23, by decide +kernel⟩,
    ⟨(({ up with trc := { up.trc with init := true, ring := up.trc.ring.set 0 { up.trc.ring[0] with q := [List.replicate 8 0] } } } : State).setRg Reg.ringCfg 0 0 0x11), 31, 23, by decide +kernel⟩⟩

/-- States and operands that meet the hypotheses of RegisterWritesAndLocks. -/
theorem test_meets_RegisterWritesAndLocks :
    (∃ (s : State) (p : Fin 2) (c : Fin 9) (a : BitVec 40) (v : Word) (i : Nat), (s.Writable p) ∧ let rows : List RegRow := [Reg.whlxPatcfg, Reg.whlxDir, Reg.auxCfg, Reg.whlSyncCfg, Reg.whlThr, Reg.whl0Zero, Reg.whlStop,
            Reg.whlLock, Reg.whlEvt, Reg.whlCnt, Reg.prdCfg, Reg.prdLrn, Reg.prdMass, Reg.prdLock, Reg.ripCfg, Reg.shape, Reg.cluBudget,
            Reg.cluLock, Reg.dwsetTime, Reg.dwsetLim, Reg.dwsetCtl, Reg.psCur0, Reg.psMode, Reg.bnkKerf, Reg.bstCfg, Reg.pairCfg,
            Reg.atrgCfg, Reg.jpCfg, Reg.fabTime, Reg.fabAngcfg, Reg.fltShot, Reg.fltCnt01, Reg.bistCfg, Reg.linkRetry, Reg.trcScrub,
            Reg.hostCfg, Reg.hostStat, Reg.hint0En, Reg.hint1En, Reg.hintJig, Reg.mntCfg]
      let port : Fin 11 := if p = 0 then 9 else 10
      (rows).any (fun r => decide ((i < r.n1) ∧ ((r.base < 0x30000000 ∨ 0x40000000 ≤ r.base ∨ s.measRuns = true)) ∧ let x := r.addr i 0
      let u := (s.reach x false).1
      ((s.reach x false).2 = true) ∧ (u.hwNow (wroteKey x) < 2 * portRank port) ∧ let old := u.rg r i 0
      let locked : Bool := u.rowLocked r i
      let differs : Prop := locked = true ∧ (old ^^^ v) &&& BitVec.ofNat 32 r.rwl ≠ 0
      (differs))) = true)
    ∧ (∃ (s : State) (p : Fin 2) (c : Fin 9) (a : BitVec 40) (v : Word) (i : Nat), (s.Writable p) ∧ let rows : List RegRow := [Reg.whlxPatcfg, Reg.whlxDir, Reg.auxCfg, Reg.whlSyncCfg, Reg.whlThr, Reg.whl0Zero, Reg.whlStop,
            Reg.whlLock, Reg.whlEvt, Reg.whlCnt, Reg.prdCfg, Reg.prdLrn, Reg.prdMass, Reg.prdLock, Reg.ripCfg, Reg.shape, Reg.cluBudget,
            Reg.cluLock, Reg.dwsetTime, Reg.dwsetLim, Reg.dwsetCtl, Reg.psCur0, Reg.psMode, Reg.bnkKerf, Reg.bstCfg, Reg.pairCfg,
            Reg.atrgCfg, Reg.jpCfg, Reg.fabTime, Reg.fabAngcfg, Reg.fltShot, Reg.fltCnt01, Reg.bistCfg, Reg.linkRetry, Reg.trcScrub,
            Reg.hostCfg, Reg.hostStat, Reg.hint0En, Reg.hint1En, Reg.hintJig, Reg.mntCfg]
      let port : Fin 11 := if p = 0 then 9 else 10
      (rows).any (fun r => decide ((i < r.n1) ∧ ((r.base < 0x30000000 ∨ 0x40000000 ≤ r.base ∨ s.measRuns = true)) ∧ let x := r.addr i 0
      let u := (s.reach x false).1
      ((s.reach x false).2 = true) ∧ (u.hwNow (wroteKey x) < 2 * portRank port) ∧ let old := u.rg r i 0
      let locked : Bool := u.rowLocked r i
      let differs : Prop := locked = true ∧ (old ^^^ v) &&& BitVec.ofNat 32 r.rwl ≠ 0
      (¬differs))) = true)
    ∧ (∃ (s : State) (p : Fin 2) (c : Fin 9) (a : BitVec 40) (v : Word) (i : Nat), (s.Writable p) ∧ (a.toNat % 4 = 0) ∧ (sramAt a.toNat = none) ∧ (traceAt a.toNat = none) ∧ (s.pegAt a.toNat = none) ∧ (s.regAt a.toNat = none))
    ∧ (∃ (s : State) (p : Fin 2) (c : Fin 9) (a : BitVec 40) (v : Word) (i : Nat), (s.Writable p) ∧ (a.toNat % 4 ≠ 0))
    ∧ (∃ (s : State) (p : Fin 2) (i : Nat) (b : Bool), (s.Writable p) ∧ let rows : List RegRow := [Reg.whlxCfg, Reg.prdCfg, Reg.ripCfg, Reg.cluBudget, Reg.dwsetTime, Reg.chCfg, Reg.psCur0, Reg.jigCfg,
            Reg.tmrCfg, Reg.fabTime, Reg.fltShot, Reg.bistCfg, Reg.trcScrub, Reg.ringCfg, Reg.hostCfg, Reg.mntCfg, Reg.wakeCfg]
      (rows).any (fun r => decide ((i < r.n1) ∧ let x := lockAddr r i
      let u := (s.reach x false).1
      ((s.reach x false).2 = true) ∧ (b = true ∨ u.rowLocked r i = true))) = true) :=
  ⟨⟨{ up with regs := [(lockAddr Reg.prdCfg 0, 1)] }, 0, 0, 0, 0xFFFFFFFF, 0, by decide +kernel⟩,
    ⟨{ up with regs := [(lockAddr Reg.prdCfg 0, 1)] }, 0, 0, 0, 0xFFFFFFFF, 0, by decide +kernel⟩,
    ⟨up, 0, 0, 0xF0000000, 0xFFFFFFFF, 0, by decide +kernel⟩,
    ⟨up, 0, 0, 2, 0xFFFFFFFF, 0, by decide +kernel⟩,
    ⟨{ up with regs := [(lockAddr Reg.prdCfg 0, 1)] }, 0, 0, true, by decide +kernel⟩⟩

/-- States and operands that meet the hypotheses of ShadowReads. -/
theorem test_meets_ShadowReads :
    (∃ (s u : State), (s.clocked = true) ∧ (u.clocked = true) ∧ (s.coll.relWait = none) ∧ (u.coll.relWait = none) ∧ ∃ q : Fin 11, (q ≠ 9))
    ∧ (∃ (s u : State) (p : Fin 11) (a : BitVec 40) (link : Bool) (r : RegRow) (i j : Nat), (s.clocked = true) ∧ ((p = 10 → s.mntMay false = true)) ∧ ((9 ≤ p.val → s.coll.relWait = none)) ∧ (a.toNat % 4 = 0) ∧ (sramAt a.toNat = none) ∧ (traceAt a.toNat = none) ∧ (s.pegAt a.toNat = none) ∧ (s.gatedAt a.toNat = false) ∧ (s.regAt a.toNat = some (r, i, j)) ∧ (s.reach a.toNat link = (u, true)) ∧ (u.portChecked r i j 0 = (u, true))) :=
  ⟨⟨up, calm, by decide +kernel⟩,
    ⟨up, (up.reach (Reg.hostCfg.addr 0 0) false).1, 9, BitVec.ofNat 40 (Reg.hostCfg.addr 0 0), false, Reg.hostCfg, 0, 0, by decide +kernel⟩⟩

/-- States and operands that meet the hypotheses of OwnerWrites. -/
theorem test_meets_OwnerWrites :
    (∃ (s u : State) (p : Fin 2) (v : Word) (c : Fin 32) (n : Fin 24) (m : Fin 40) (e : Fin 8) (k : Fin 16), (s.Writable p) ∧ let o : Nat := v.toNat % 16
      let legal : Prop := o ≤ 8 ∨ o = 12
      let rank : Nat := if p = 0 then 3 else 4
      (s.reach (Reg.chanOwner.addr c.val 0) false = (u, true)) ∧ let may : Prop := legal ∧ u.chIdle c = true ∧ u.mayClaim (Reg.chanOwner.addr c.val 0) rank = true
      (may))
    ∧ (∃ (s u : State) (p : Fin 2) (v : Word) (c : Fin 32) (n : Fin 24) (m : Fin 40) (e : Fin 8) (k : Fin 16), (s.Writable p) ∧ let o : Nat := v.toNat % 16
      let legal : Prop := o ≤ 8 ∨ o = 12
      let rank : Nat := if p = 0 then 3 else 4
      (s.reach (Reg.chanOwner.addr c.val 0) false = (u, true)) ∧ let may : Prop := legal ∧ u.chIdle c = true ∧ u.mayClaim (Reg.chanOwner.addr c.val 0) rank = true
      (¬may))
    ∧ (∃ (s u : State) (p : Fin 2) (v : Word) (c : Fin 32) (n : Fin 24) (m : Fin 40) (e : Fin 8) (k : Fin 16), (s.Writable p) ∧ let o : Nat := v.toNat % 16
      let legal : Prop := o ≤ 8 ∨ o = 12
      let rank : Nat := if p = 0 then 3 else 4
      (s.reach (Reg.ignOwner.addr n.val 0) false = (u, true)) ∧ let may : Prop := legal ∧ u.ignIdle n = true ∧ u.mayClaim (Reg.ignOwner.addr n.val 0) rank = true
      (may))
    ∧ (∃ (s u : State) (p : Fin 2) (v : Word) (c : Fin 32) (n : Fin 24) (m : Fin 40) (e : Fin 8) (k : Fin 16), (s.Writable p) ∧ let o : Nat := v.toNat % 16
      let legal : Prop := o ≤ 8 ∨ o = 12
      let rank : Nat := if p = 0 then 3 else 4
      (s.reach (Reg.ignOwner.addr n.val 0) false = (u, true)) ∧ let may : Prop := legal ∧ u.ignIdle n = true ∧ u.mayClaim (Reg.ignOwner.addr n.val 0) rank = true
      (¬may))
    ∧ (∃ (s u : State) (p : Fin 2) (v : Word) (c : Fin 32) (n : Fin 24) (m : Fin 40) (e : Fin 8) (k : Fin 16), (s.Writable p) ∧ let o : Nat := v.toNat % 16
      let legal : Prop := o ≤ 8 ∨ o = 12
      let rank : Nat := if p = 0 then 3 else 4
      (s.measRuns = true) ∧ (u = s.windowsNow) ∧ let may : Prop := legal ∧ u.measIdle m = true ∧ u.mayClaim (Reg.measOwner.addr m.val 0) rank = true
      (may))
    ∧ (∃ (s u : State) (p : Fin 2) (v : Word) (c : Fin 32) (n : Fin 24) (m : Fin 40) (e : Fin 8) (k : Fin 16), (s.Writable p) ∧ let o : Nat := v.toNat % 16
      let legal : Prop := o ≤ 8 ∨ o = 12
      let rank : Nat := if p = 0 then 3 else 4
      (s.measRuns = true) ∧ (u = s.windowsNow) ∧ let may : Prop := legal ∧ u.measIdle m = true ∧ u.mayClaim (Reg.measOwner.addr m.val 0) rank = true
      (¬may))
    ∧ (∃ (s u : State) (p : Fin 2) (v : Word) (c : Fin 32) (n : Fin 24) (m : Fin 40) (e : Fin 8) (k : Fin 16), (s.Writable p) ∧ let o : Nat := v.toNat % 16
      let legal : Prop := o ≤ 8 ∨ o = 12
      let rank : Nat := if p = 0 then 3 else 4
      let may : Prop := legal ∧ s.rb Reg.jigCfg e.val 0 = false ∧ s.mayClaim (Reg.jigOwner.addr e.val 0) rank = true
      (may))
    ∧ (∃ (s u : State) (p : Fin 2) (v : Word) (c : Fin 32) (n : Fin 24) (m : Fin 40) (e : Fin 8) (k : Fin 16), (s.Writable p) ∧ let o : Nat := v.toNat % 16
      let legal : Prop := o ≤ 8 ∨ o = 12
      let rank : Nat := if p = 0 then 3 else 4
      let may : Prop := legal ∧ s.rb Reg.jigCfg e.val 0 = false ∧ s.mayClaim (Reg.jigOwner.addr e.val 0) rank = true
      (¬may))
    ∧ (∃ (s u : State) (p : Fin 2) (v : Word) (c : Fin 32) (n : Fin 24) (m : Fin 40) (e : Fin 8) (k : Fin 16), (s.Writable p) ∧ let o : Nat := v.toNat % 16
      let legal : Prop := o ≤ 8 ∨ o = 12
      let rank : Nat := if p = 0 then 3 else 4
      let may : Prop := legal ∧ s.rb Reg.tmrCfg k.val 0 = false ∧ s.mayClaim (Reg.tmrOwner.addr k.val 0) rank = true
      (may))
    ∧ (∃ (s u : State) (p : Fin 2) (v : Word) (c : Fin 32) (n : Fin 24) (m : Fin 40) (e : Fin 8) (k : Fin 16), (s.Writable p) ∧ let o : Nat := v.toNat % 16
      let legal : Prop := o ≤ 8 ∨ o = 12
      let rank : Nat := if p = 0 then 3 else 4
      let may : Prop := legal ∧ s.rb Reg.tmrCfg k.val 0 = false ∧ s.mayClaim (Reg.tmrOwner.addr k.val 0) rank = true
      (¬may)) :=
  ⟨⟨up, (up.reach (Reg.chanOwner.addr 31 0) false).1, 0, 8, 31, 23, 39, 7, 15, by decide +kernel⟩,
    ⟨up, (up.reach (Reg.chanOwner.addr 31 0) false).1, 0, 9, 31, 23, 39, 7, 15, by decide +kernel⟩,
    ⟨up, (up.reach (Reg.chanOwner.addr 31 0) false).1, 0, 8, 31, 23, 39, 7, 15, by decide +kernel⟩,
    ⟨up, (up.reach (Reg.chanOwner.addr 31 0) false).1, 0, 9, 31, 23, 39, 7, 15, by decide +kernel⟩,
    ⟨up, up.windowsNow, 0, 12, 31, 23, 39, 7, 15, by decide +kernel⟩,
    ⟨up, up.windowsNow, 0, 15, 31, 23, 39, 7, 15, by decide +kernel⟩,
    ⟨up, (up.reach (Reg.chanOwner.addr 31 0) false).1, 0, 8, 31, 23, 39, 7, 15, by decide +kernel⟩,
    ⟨up, (up.reach (Reg.chanOwner.addr 31 0) false).1, 0, 9, 31, 23, 39, 7, 15, by decide +kernel⟩,
    ⟨up, (up.reach (Reg.chanOwner.addr 31 0) false).1, 0, 8, 31, 23, 39, 7, 15, by decide +kernel⟩,
    ⟨up, (up.reach (Reg.chanOwner.addr 31 0) false).1, 0, 9, 31, 23, 39, 7, 15, by decide +kernel⟩⟩

/-- States and operands that meet the hypotheses of HostMemory. -/
theorem test_meets_HostMemory :
    (∃ (s : State) (p : Fin 2) (a : BitVec 40) (v : Word) (n : Fin 9), let x := a.toNat
      let q : Word := v
      (s.Writable p) ∧ (x % 4 = 0) ∧ (sramAt x = some n) ∧ (s.clu[n].role ≠ .testing) ∧ ([0, 4, 7, 0x34000, 0x36000, 0x100000, 0xFFFFC, 0x100100000] : List (Nat)).any (fun b => decide ((b < x ∨ x + 4 ≤ b))) = true)
    ∧ (∃ (s : State) (p : Fin 2) (a : BitVec 40) (v : Word) (n : Fin 9), let x := a.toNat
      let q : Word := v
      (s.Writable p) ∧ (x % 4 = 0) ∧ (sramAt x = some n) ∧ (s.clu[n].role ≠ .testing) ∧ (Memory.wf s.mem = true))
    ∧ (∃ (s : State) (p : Fin 2) (a : BitVec 40) (v : Word) (n : Fin 9), let x := a.toNat
      (s.Writable p) ∧ (x % 4 = 0) ∧ (sramAt x = some n) ∧ (s.clu[n].role = .testing))
    ∧ (∃ (s : State) (p : Fin 2) (a : BitVec 40) (v : Word) (n : Fin 9), let x := a.toNat
      (s.Readable p) ∧ (x % 4 = 0) ∧ (sramAt x = some n) ∧ ((∀ f ∈ s.inj.flips, f.1 ≠ x)) ∧ (p = 0))
    ∧ (∃ (s : State) (p : Fin 2) (a : BitVec 40) (v : Word) (n : Fin 9), let x := a.toNat
      (s.Readable p) ∧ (x % 4 = 0) ∧ (sramAt x = some n) ∧ ((∀ f ∈ s.inj.flips, f.1 ≠ x)) ∧ (p = 1))
    ∧ (∃ (s : State) (p : Fin 2) (a : BitVec 40) (v : Word) (n : Fin 9), let x := a.toNat
      (s.Readable p) ∧ (x % 4 = 0) ∧ (sramAt x = some n) ∧ ((∀ f ∈ s.inj.flips, f.1 ≠ x)) ∧ (p = 0))
    ∧ (∃ (s : State) (p : Fin 2) (a : BitVec 40) (v : Word) (n : Fin 9), let x := a.toNat
      (s.Readable p) ∧ (x % 4 = 0) ∧ (sramAt x = some n) ∧ ((∀ f ∈ s.inj.flips, f.1 ≠ x)) ∧ (p = 1))
    ∧ (∃ (s : State) (p : Fin 2) (a : BitVec 40) (v : Word) (n : Fin 9), let x := a.toNat
      (s.Readable p) ∧ (x % 4 = 0) ∧ (sramAt x = some n) ∧ ((∀ f ∈ s.inj.flips, f.1 ≠ x)) ∧ (p = 0))
    ∧ (∃ (s : State) (p : Fin 2) (a : BitVec 40) (v : Word) (n : Fin 9), let x := a.toNat
      (s.Readable p) ∧ (x % 4 = 0) ∧ (sramAt x = some n) ∧ ((∀ f ∈ s.inj.flips, f.1 ≠ x)) ∧ (p = 1))
    ∧ (∃ (s : State) (p : Fin 2) (a : BitVec 40) (v : Word) (n : Fin 9), let x := a.toNat
      ([0, 4, 7, 0x34000, 0x36000, 0x100000, 0xFFFFC, 0x100100000] : List (Nat)).any (fun off => decide ((x = 0x100000000 + off) ∧ (off < 2 ^ 32) ∧ (x % 4 = 0) ∧ (s.inj.mdlCrc = false) ∧ (s.trc.scrubWait = none ∨ s.trc.sinceScrub < 4095))) = true)
    ∧ (∃ (s : State) (p : Fin 2) (a : BitVec 40) (v : Word) (n : Fin 9), let x := a.toNat
      let q : Word := v
      ([0, 4, 7, 0x34000, 0x36000, 0x100000, 0xFFFFC, 0x100100000] : List (Nat)).any (fun off => decide ((x = 0x100000000 + off) ∧ (off < 2 ^ 32) ∧ (x % 4 = 0) ∧ (s.Writable p) ∧ ((∀ f ∈ s.inj.flips, f.1 ≠ 0x100000000 + off / 8 * 8)) ∧ (off < s.trc.initMb * 2 ^ 20) ∧ (s.inRing off = false) ∧ ([0, 4, 7, 0x34000, 0x36000, 0x100000, 0xFFFFC, 0x100100000] : List (Nat)).any (fun b => decide ((b < x ∨ x + 4 ≤ b))))) = true)
    ∧ (∃ (s : State) (p : Fin 2) (a : BitVec 40) (v : Word) (n : Fin 9), let x := a.toNat
      let q : Word := v
      ([0, 4, 7, 0x34000, 0x36000, 0x100000, 0xFFFFC, 0x100100000] : List (Nat)).any (fun off => decide ((x = 0x100000000 + off) ∧ (off < 2 ^ 32) ∧ (x % 4 = 0) ∧ (s.Writable p) ∧ ((∀ f ∈ s.inj.flips, f.1 ≠ 0x100000000 + off / 8 * 8)) ∧ (off < s.trc.initMb * 2 ^ 20) ∧ (s.inRing off = false) ∧ (Memory.wf s.mem = true))) = true)
    ∧ (∃ (s : State) (p : Fin 2) (a : BitVec 40) (v : Word) (n : Fin 9), let x := a.toNat
      ([0, 4, 7, 0x34000, 0x36000, 0x100000, 0xFFFFC, 0x100100000] : List (Nat)).any (fun off => decide ((x = 0x100000000 + off) ∧ (off < 2 ^ 32) ∧ (x % 4 = 0) ∧ (s.Writable p) ∧ ((∀ f ∈ s.inj.flips, f.1 ≠ 0x100000000 + off / 8 * 8)) ∧ (off < s.trc.initMb * 2 ^ 20) ∧ (s.inRing off = true))) = true)
    ∧ (∃ (s : State) (p : Fin 2) (a : BitVec 40) (v : Word) (n : Fin 9), let x := a.toNat
      ([0, 4, 7, 0x34000, 0x36000, 0x100000, 0xFFFFC, 0x100100000] : List (Nat)).any (fun off => decide ((x = 0x100000000 + off) ∧ (off < 2 ^ 32) ∧ (x % 4 = 0) ∧ (s.Writable p) ∧ ((∀ f ∈ s.inj.flips, f.1 ≠ 0x100000000 + off / 8 * 8)) ∧ (s.trc.initMb * 2 ^ 20 ≤ off))) = true)
    ∧ (∃ (s : State) (p : Fin 2) (a : BitVec 40) (v : Word) (n : Fin 9), let x := a.toNat
      ([0, 4, 7, 0x34000, 0x36000, 0x100000, 0xFFFFC, 0x100100000] : List (Nat)).any (fun off => decide ((x = 0x100000000 + off) ∧ (off < 2 ^ 32) ∧ (x % 4 = 0) ∧ (s.Readable p) ∧ (off < s.trc.initMb * 2 ^ 20) ∧ ((∀ f ∈ s.inj.flips, f.1 ≠ 0x100000000 + off / 8 * 8)) ∧ (p = 0))) = true)
    ∧ (∃ (s : State) (p : Fin 2) (a : BitVec 40) (v : Word) (n : Fin 9), let x := a.toNat
      ([0, 4, 7, 0x34000, 0x36000, 0x100000, 0xFFFFC, 0x100100000] : List (Nat)).any (fun off => decide ((x = 0x100000000 + off) ∧ (off < 2 ^ 32) ∧ (x % 4 = 0) ∧ (s.Readable p) ∧ (off < s.trc.initMb * 2 ^ 20) ∧ ((∀ f ∈ s.inj.flips, f.1 ≠ 0x100000000 + off / 8 * 8)) ∧ (p = 1))) = true) :=
  ⟨⟨up, 0, 0x35FFC, 5, 3, by decide +kernel⟩,
    ⟨up, 0, 0x35FFC, 5, 3, by decide +kernel⟩,
    ⟨up.setClu 3 fun k => { k with role := .testing }, 0, 0x35FFC, 5, 3, by decide +kernel⟩,
    ⟨up, 0, 0x35FFC, 5, 3, by decide +kernel⟩,
    ⟨up, 1, 0x35FFC, 5, 3, by decide +kernel⟩,
    ⟨up, 0, 0x35FFC, 5, 3, by decide +kernel⟩,
    ⟨up, 1, 0x35FFC, 5, 3, by decide +kernel⟩,
    ⟨up, 0, 0x35FFC, 5, 3, by decide +kernel⟩,
    ⟨up, 1, 0x35FFC, 5, 3, by decide +kernel⟩,
    ⟨{ up with trc := { up.trc with initMb := 1 } }, 0, 0x1000FFFFC, 5, 3, by decide +kernel⟩,
    ⟨{ up with trc := { up.trc with initMb := 1 } }, 0, 0x1000FFFFC, 5, 3, by decide +kernel⟩,
    ⟨{ up with trc := { up.trc with initMb := 1 } }, 0, 0x1000FFFFC, 5, 3, by decide +kernel⟩,
    ⟨({ up with trc := { up.trc with initMb := 1 } } : State).setRg Reg.ringCfg 0 0 1, 0, 0x100000000, 5, 3, by decide +kernel⟩,
    ⟨{ up with trc := { up.trc with initMb := 1 } }, 0, 0x100100000, 5, 3, by decide +kernel⟩,
    ⟨{ up with trc := { up.trc with initMb := 1 } }, 0, 0x1000FFFFC, 5, 3, by decide +kernel⟩,
    ⟨{ up with trc := { up.trc with initMb := 1 } }, 1, 0x1000FFFFC, 5, 3, by decide +kernel⟩⟩

/-- States and operands that meet the hypotheses of CrankEdgesAndTeeth. -/
theorem test_meets_CrankEdgesAndTeeth :
    (∃ (s : State) (ts : Nat) (lvl : Bool), (s.clocked = true) ∧ (s.sys.vio[1] = true) ∧ let x := s.whl.whl[0]
      (s.live = true) ∧ (s.rb Reg.whlxCfg 0 0 = true) ∧ ((∀ l ∈ x.last, l < ts)) ∧ ∃ q : Fin 3, (q ≠ 0))
    ∧ (∃ (s : State) (ts : Nat) (lvl : Bool), (s.clocked = true) ∧ (s.sys.vio[1] = true) ∧ let c := ((s.advanceTo (ts + s.fltOf 0 + 12)).caughtUp).phaseLevel 0 lvl
      let x := s.whl.whl[0]
      let rev := c.edgeRev 0
      (s.live = true) ∧ (s.rb Reg.whlxCfg 0 0 = true) ∧ ((∀ l ∈ x.last, l < ts)) ∧ (rev = c.whl.rev) ∧ (c.whl.sync ≠ .nosync) ∧ (c.whl.susp = none) ∧ let fits : Prop := c.prd.stage = .running → ∀ q ∈ c.qNew, q ≤ 2 * (16 * ts - c.whl.tooth) ∧ 16 * ts - c.whl.tooth ≤ 2 * q
      (fits))
    ∧ (∃ (s : State) (ts : Nat) (lvl : Bool), (s.clocked = true) ∧ (s.sys.vio[1] = true) ∧ let c := ((s.advanceTo (ts + s.fltOf 0 + 12)).caughtUp).phaseLevel 0 lvl
      let x := s.whl.whl[0]
      let rev := c.edgeRev 0
      (s.live = true) ∧ (s.rb Reg.whlxCfg 0 0 = true) ∧ ((∀ l ∈ x.last, l < ts)) ∧ (rev = c.whl.rev) ∧ (c.whl.sync ≠ .nosync) ∧ (c.whl.susp = none) ∧ let fits : Prop := c.prd.stage = .running → ∀ q ∈ c.qNew, q ≤ 2 * (16 * ts - c.whl.tooth) ∧ 16 * ts - c.whl.tooth ≤ 2 * q
      (¬fits) ∧ (c.whl.sync ≠ .provisional))
    ∧ (∃ (s : State) (ts : Nat) (lvl : Bool), (s.clocked = true) ∧ (s.sys.vio[1] = true) ∧ let c := ((s.advanceTo (ts + s.fltOf 0 + 12)).caughtUp).phaseLevel 0 lvl
      let x := s.whl.whl[0]
      let rev := c.edgeRev 0
      (s.live = true) ∧ (s.rb Reg.whlxCfg 0 0 = true) ∧ ((∀ l ∈ x.last, l < ts)) ∧ (rev = c.whl.rev) ∧ (c.whl.sync ≠ .nosync) ∧ (c.whl.susp = none) ∧ let fits : Prop := c.prd.stage = .running → ∀ q ∈ c.qNew, q ≤ 2 * (16 * ts - c.whl.tooth) ∧ 16 * ts - c.whl.tooth ≤ 2 * q
      (¬fits) ∧ (c.whl.sync = .provisional))
    ∧ (∃ (s : State) (ts : Nat) (lvl : Bool), (s.clocked = true) ∧ (s.sys.vio[1] = true) ∧ let c := ((s.advanceTo (ts + s.fltOf 0 + 12)).caughtUp).phaseLevel 0 lvl
      let x := s.whl.whl[0]
      let rev := c.edgeRev 0
      let d : Option Nat := x.last.map fun l => ts - l
      let m : Matcher := c.matchStep c.whl.m rev d
      (s.live = true) ∧ (s.rb Reg.whlxCfg 0 0 = true) ∧ ((∀ l ∈ x.last, l < ts)) ∧ (rev = c.whl.rev) ∧ (c.whl.sync = .nosync) ∧ (c.prd.noInst = false) ∧ (c.whl.firstAfterWake = false) ∧ (m.unique = none))
    ∧ (∃ (s : State) (ts : Nat) (lvl : Bool), (s.clocked = true) ∧ (s.sys.vio[1] = true) ∧ let x := s.whl.whl[0]
      (s.live = false ∨ s.rb Reg.whlxCfg 0 0 = false ∨ (∃ l ∈ x.last, ts ≤ l)))
    ∧ (∃ (s : State) (n : Fin 3) (width : Nat), (s.clocked = true) ∧ (s.sys.vio[1] = true) ∧ let x := s.whl.whl[n]
      let on : Prop := s.live = true ∧ s.rb Reg.whlxCfg n.val 0 = true ∧ s.rf Reg.whlxCfg n.val 19 18 = 1
      (¬on ∨ x.last = none))
    ∧ (∃ (s : State) (n : Fin 3) (width : Nat), (s.clocked = true) ∧ (s.sys.vio[1] = true) ∧ let x := s.whl.whl[n]
      let rev := s.widthRev n width
      let on : Prop := s.live = true ∧ s.rb Reg.whlxCfg n.val 0 = true ∧ s.rf Reg.whlxCfg n.val 19 18 = 1
      (on) ∧ (x.last).any (fun l => decide ((x.dir = rev))) = true)
    ∧ (∃ (s : State) (n : Fin 3) (width : Nat), (s.clocked = true) ∧ (s.sys.vio[1] = true) ∧ let x := s.whl.whl[n]
      let rev := s.widthRev n width
      let on : Prop := s.live = true ∧ s.rb Reg.whlxCfg n.val 0 = true ∧ s.rf Reg.whlxCfg n.val 19 18 = 1
      (on) ∧ (x.last).any (fun l => decide ((x.dir ≠ rev) ∧ (n ≠ 0))) = true)
    ∧ (∃ (s : State) (n : Fin 3) (width : Nat), (s.clocked = true) ∧ (s.sys.vio[1] = true) ∧ let x := s.whl.whl[n]
      let rev := s.widthRev n width
      let on : Prop := s.live = true ∧ s.rb Reg.whlxCfg n.val 0 = true ∧ s.rf Reg.whlxCfg n.val 19 18 = 1
      (on) ∧ (x.last).any (fun l => decide (let c := (s.advanceTo (l + width + s.fltOf n + 8)).caughtUp
      (x.dir ≠ rev) ∧ (n = 0) ∧ (rev = true) ∧ (c.whl.rev = false))) = true)
    ∧ (∃ (s : State) (n : Fin 3) (width : Nat), (s.clocked = true) ∧ (s.sys.vio[1] = true) ∧ let x := s.whl.whl[n]
      let rev := s.widthRev n width
      let on : Prop := s.live = true ∧ s.rb Reg.whlxCfg n.val 0 = true ∧ s.rf Reg.whlxCfg n.val 19 18 = 1
      (on) ∧ (x.last).any (fun l => decide (let c := (s.advanceTo (l + width + s.fltOf n + 8)).caughtUp
      (x.dir ≠ rev) ∧ (n = 0) ∧ (c.whl.sync = .tooth ∨ c.whl.sync = .full) ∧ (c.whl.susp = none))) = true)
    ∧ (∃ (s : State), (s.clocked = true) ∧ (s.live = true) ∧ (s.whl.sync ≠ .nosync) ∧ (s.prd.stage = .running) ∧ (s.qNew).any (fun q => decide ((s.whl.susp = none) ∧ (s.whl.bad = none) ∧ (s.whl.sync ≠ .provisional))) = true)
    ∧ (∃ (s : State), (s.clocked = true) ∧ (s.live = true) ∧ (s.whl.sync ≠ .nosync) ∧ (s.prd.stage = .running) ∧ (s.qNew).any (fun q => decide ((s.whl.susp = none) ∧ (s.whl.bad ≠ none ∨ s.whl.sync = .provisional))) = true)
    ∧ (∃ (s : State), (s.clocked = true) ∧ (s.live = true) ∧ (s.whl.whl[0].last).any (fun l => decide ((s.whl.sync ≠ .nosync ∨ s.whl.coast = true) ∧ (s.whl.coast = true))) = true) :=
  ⟨⟨{ wheel with whl := { wheel.whl with sync := .provisional } }, 1000, false, by decide +kernel⟩,
    ⟨wheel, 10000, false, by decide +kernel⟩,
    ⟨State.setRg ({ wheel with whl := { wheel.whl with rev := false, whl := wheel.whl.whl.set 1 { wheel.whl.whl[1] with last := some 5, dir := true } } }) Reg.whlxCfg 1 0 0x44001, 1, 1, by decide +kernel⟩,
    ⟨{ wheel with whl := { wheel.whl with sync := .provisional } }, 1000, false, by decide +kernel⟩,
    ⟨{ wheel with whl := { wheel.whl with sync := .nosync } }, 10000, false, by decide +kernel⟩,
    ⟨State.setRg ({ wheel with whl := { wheel.whl with rev := true, whl := wheel.whl.whl.set 0 { wheel.whl.whl[0] with last := some 5, dir := true } } }) Reg.whlxCfg 0 0 0x44001, 0, 1, by decide +kernel⟩,
    ⟨wheel, 0, 0, by decide +kernel⟩,
    ⟨State.setRg ({ wheel with whl := { wheel.whl with rev := true, whl := wheel.whl.whl.set 0 { wheel.whl.whl[0] with last := some 5, dir := true } } }) Reg.whlxCfg 0 0 0x44001, 0, 100000, by decide +kernel⟩,
    ⟨State.setRg ({ wheel with whl := { wheel.whl with rev := true, whl := wheel.whl.whl.set 1 { wheel.whl.whl[1] with last := some 5, dir := true } } }) Reg.whlxCfg 1 0 0x44001, 1, 1, by decide +kernel⟩,
    ⟨State.setRg ({ wheel with whl := { wheel.whl with rev := false, whl := wheel.whl.whl.set 0 { wheel.whl.whl[0] with last := some 5, dir := false } } }) Reg.whlxCfg 0 0 0x44001, 0, 100000, by decide +kernel⟩,
    ⟨State.setRg ({ wheel with whl := { wheel.whl with rev := true, whl := wheel.whl.whl.set 0 { wheel.whl.whl[0] with last := some 5, dir := true } } }) Reg.whlxCfg 0 0 0x44001, 0, 1, by decide +kernel⟩,
    ⟨wheel, by decide +kernel⟩,
    ⟨{ wheel with whl := { wheel.whl with bad := some ⟨true, 1⟩ } }, by decide +kernel⟩,
    ⟨{ wheel with whl := { wheel.whl with coast := true, whl := wheel.whl.whl.set 0 { wheel.whl.whl[0] with last := some 5 } } }, by decide +kernel⟩⟩

/-- States and operands that meet the hypotheses of PhaseAuxAndWheelCommands. -/
theorem test_meets_PhaseAuxAndWheelCommands :
    (∃ (s : State) (ts : Nat) (lvl : Bool) (cam : Fin 2) (n : Fin 3) (m : Fin 2) (p : Fin 2) (v : Word), (s.clocked = true) ∧ (s.live = true) ∧ (s.sys.vio[1] = true) ∧ (n.val = cam.val + 1) ∧ (s.rb Reg.whlxCfg n.val 0 = true) ∧ ((∀ l ∈ s.whl.whl[n].last, l < ts)) ∧ let c := ((s.advanceTo (ts + s.fltOf n + 8)).caughtUp).phaseLevel n lvl
      (c.phaseWheel ≠ some n))
    ∧ (∃ (s : State) (ts : Nat) (lvl : Bool) (cam : Fin 2) (n : Fin 3) (m : Fin 2) (p : Fin 2) (v : Word), (s.clocked = true) ∧ (s.live = true) ∧ (s.sys.vio[1] = true) ∧ (n.val = cam.val + 1) ∧ (s.rb Reg.whlxCfg n.val 0 = true) ∧ ((∀ l ∈ s.whl.whl[n].last, l < ts)) ∧ let c := ((s.advanceTo (ts + s.fltOf n + 8)).caughtUp).phaseLevel n lvl
      let x := c.whl.whl[n]
      let e : State := { c with whl := { c.whl with whl := c.whl.whl.set n.val { x with
              last := some ts, dir := c.edgeRev n
              per := (match x.last with | some l => min (ts - l) 0x3FFFFFFF | none => x.per), val := x.val || x.last.isSome } n.isLt } }
      (c.phaseWheel = some n) ∧ (e.whl.sync = .nosync ∨ e.whl.sync = .provisional ∨ e.segAt ts = none))
    ∧ (∃ (s : State) (ts : Nat) (lvl : Bool) (cam : Fin 2) (n : Fin 3) (m : Fin 2) (p : Fin 2) (v : Word), (s.clocked = true) ∧ (s.live = true) ∧ (s.sys.vio[1] = true) ∧ (n.val = cam.val + 1) ∧ (s.rb Reg.whlxCfg n.val 0 = true) ∧ ((∀ l ∈ s.whl.whl[n].last, l < ts)) ∧ let c := ((s.advanceTo (ts + s.fltOf n + 8)).caughtUp).phaseLevel n lvl
      let x := c.whl.whl[n]
      let e : State := { c with whl := { c.whl with whl := c.whl.whl.set n.val { x with
              last := some ts, dir := c.edgeRev n
              per := (match x.last with | some l => min (ts - l) 0x3FFFFFFF | none => x.per), val := x.val || x.last.isSome } n.isLt } }
      (c.phaseWheel = some n) ∧ (e.segAt ts).any (fun g => decide (let d := e.patWords n
      let at_ := d.segAng g (16 * ts)
      let θ := (d.prd.seg.getD g).θ
      let half : Option Bool := (d.camHalf n at_).map fun h =>
                  if d.rb Reg.whlSyncCfg 0 0 then false else d.carryHalf (wrapHalf d.cyc256 (at_ - θ)) h
      (e.whl.sync = .tooth) ∧ (half = none))) = true)
    ∧ (∃ (s : State) (ts : Nat) (lvl : Bool) (cam : Fin 2) (n : Fin 3) (m : Fin 2) (p : Fin 2) (v : Word), (s.clocked = true) ∧ (s.live = true) ∧ (s.sys.vio[1] = true) ∧ (n.val = cam.val + 1) ∧ (s.rb Reg.whlxCfg n.val 0 = true) ∧ ((∀ l ∈ s.whl.whl[n].last, l < ts)) ∧ let c := ((s.advanceTo (ts + s.fltOf n + 8)).caughtUp).phaseLevel n lvl
      let x := c.whl.whl[n]
      let e : State := { c with whl := { c.whl with whl := c.whl.whl.set n.val { x with
              last := some ts, dir := c.edgeRev n
              per := (match x.last with | some l => min (ts - l) 0x3FFFFFFF | none => x.per), val := x.val || x.last.isSome } n.isLt } }
      (c.phaseWheel = some n) ∧ (e.segAt ts).any (fun g => decide (let d := e.patWords n
      let at_ := d.segAng g (16 * ts)
      let near : Prop := ∃ y ∈ d.camEntries n, ((wrapHalf d.cyc256 (at_ - 256 * (y : Int))).natAbs : Int) ≤ d.camTol
      (e.whl.sync = .full) ∧ (near) ∧ (e.whl.phscr = false))) = true)
    ∧ (∃ (s : State) (ts : Nat) (lvl : Bool) (cam : Fin 2) (n : Fin 3) (m : Fin 2) (p : Fin 2) (v : Word), (s.clocked = true) ∧ (s.live = true) ∧ (s.sys.vio[1] = true) ∧ (n.val = cam.val + 1) ∧ (s.rb Reg.whlxCfg n.val 0 = true) ∧ ((∀ l ∈ s.whl.whl[n].last, l < ts)) ∧ let c := ((s.advanceTo (ts + s.fltOf n + 8)).caughtUp).phaseLevel n lvl
      let x := c.whl.whl[n]
      let e : State := { c with whl := { c.whl with whl := c.whl.whl.set n.val { x with
              last := some ts, dir := c.edgeRev n
              per := (match x.last with | some l => min (ts - l) 0x3FFFFFFF | none => x.per), val := x.val || x.last.isSome } n.isLt } }
      (c.phaseWheel = some n) ∧ (e.segAt ts).any (fun g => decide (let d := e.patWords n
      let at_ := d.segAng g (16 * ts)
      let near : Prop := ∃ y ∈ d.camEntries n, ((wrapHalf d.cyc256 (at_ - 256 * (y : Int))).natAbs : Int) ≤ d.camTol
      (e.whl.sync = .full) ∧ (¬near))) = true)
    ∧ (∃ (s : State) (ts : Nat) (lvl : Bool) (cam : Fin 2) (n : Fin 3) (m : Fin 2) (p : Fin 2) (v : Word), (s.clocked = true) ∧ (s.live = true) ∧ let a := s.whl.aux[m]
      (s.sys.vio[1] = true) ∧ (s.rb Reg.auxCfg m.val 0 = true) ∧ ((∀ l ∈ a.last, l < ts)))
    ∧ (∃ (s : State) (ts : Nat) (lvl : Bool) (cam : Fin 2) (n : Fin 3) (m : Fin 2) (p : Fin 2) (v : Word), (s.clocked = true) ∧ (s.live = true) ∧ (s.whl.sync = .full) ∧ (s.phaseWheel = some n))
    ∧ (∃ (s : State) (ts : Nat) (lvl : Bool) (cam : Fin 2) (n : Fin 3) (m : Fin 2) (p : Fin 2) (v : Word), (s.clocked = true) ∧ (s.live = true) ∧ let port : Fin 11 := if p = 0 then 9 else 10
      (s.Writable p) ∧ (s.rowLocked Reg.whlxCfg n.val = false) ∧ let x := Reg.whlxCfg.addr n.val 0
      let old := s.rg Reg.whlxCfg n.val 0
      let word (v : Word) : Word := (old &&& ~~~0x1FFF7F) ||| (v &&& 0x1FFF7F)
      (s.hwNow (wroteKey x) < 2 * portRank port) ∧ (s.rb Reg.whlxCfg n.val 0 = false) ∧ ((∀ q : Fin 3, q ≠ n → s.rb Reg.whlxCfg q.val 0 = false)) ∧ let u := (((s.hw (wroteKey x) (portRank port)).setRg Reg.whlxCfg n.val 0 (word (v ||| 1))).unflip x).patWords n
      (u.patternFault n = none))
    ∧ (∃ (s : State) (ts : Nat) (lvl : Bool) (cam : Fin 2) (n : Fin 3) (m : Fin 2) (p : Fin 2) (v : Word), (s.clocked = true) ∧ (s.live = true) ∧ let port : Fin 11 := if p = 0 then 9 else 10
      (s.Writable p) ∧ (s.rowLocked Reg.whlxCfg n.val = false) ∧ let x := Reg.whlxCfg.addr n.val 0
      (s.hwNow (wroteKey x) < 2 * portRank port) ∧ (n = 0) ∧ (s.rb Reg.whlxCfg 0 0 = true))
    ∧ (∃ (s : State) (ts : Nat) (lvl : Bool) (cam : Fin 2) (n : Fin 3) (m : Fin 2) (p : Fin 2) (v : Word), (s.clocked = true) ∧ (s.live = true) ∧ let port : Fin 11 := if p = 0 then 9 else 10
      (s.Writable p) ∧ (s.rowLocked Reg.whlxCfg n.val = false) ∧ let x := Reg.whlxCfg.addr n.val 0
      (s.hwNow (wroteKey x) < 2 * portRank port) ∧ (n ≠ 0)) :=
  ⟨⟨(calm.setRf Reg.whlSyncCfg 0 2 1 0).setRg Reg.whlxCfg 1 0 0x4001, 100, false, 0, 1, 0, 0, 0, by decide +kernel⟩,
    ⟨{ cam with whl := { cam.whl with sync := .nosync } }, 100, false, 0, 1, 1, 0, 0, by decide +kernel⟩,
    ⟨State.setRg ({ cam with whl := { cam.whl with sync := .tooth }, now := 172 }) Reg.whlxPat 1 0 0x1200000, 100, false, 0, 1, 0, 0, 0, by decide +kernel⟩,
    ⟨cam.setRf Reg.auxCfg 1 0 0 1, 100, false, 0, 1, 1, 0, 0, by decide +kernel⟩,
    ⟨State.setRg ({ cam with whl := { cam.whl with sync := .full }, now := 172 }) Reg.whlxPat 1 0 0x1200000, 100, false, 0, 1, 0, 0, 0, by decide +kernel⟩,
    ⟨cam.setRf Reg.auxCfg 1 0 0 1, 100, false, 0, 1, 1, 0, 0, by decide +kernel⟩,
    ⟨cam.setRf Reg.auxCfg 1 0 0 1, 100, false, 0, 1, 1, 0, 0, by decide +kernel⟩,
    ⟨(cam.setRg Reg.whlxCfg 0 0 0).setRg Reg.whlxCfg 1 0 0, 100, false, 0, 1, 1, 0, 0, by decide +kernel⟩,
    ⟨cam, 100, false, 0, 0, 1, 0, 0, by decide +kernel⟩,
    ⟨{ cam with whl := { cam.whl with sync := .nosync } }, 100, false, 0, 1, 1, 0, 0, by decide +kernel⟩⟩

/-- States and operands that meet the hypotheses of PredictorsAndMap. -/
theorem test_meets_PredictorsAndMap :
    (∃ (s : State) (p : Fin 2) (i : Fin 24) (j : Fin 1024) (v : Word), (s.clocked = true) ∧ (s.prd.shadow).any (fun _ => true) = true)
    ∧ (∃ (s : State) (p : Fin 2) (i : Fin 24) (j : Fin 1024) (v : Word), (s.clocked = true) ∧ (s.prd.noInst = false) ∧ (s.prd.chkon = true))
    ∧ (∃ (s : State) (p : Fin 2) (i : Fin 24) (j : Fin 1024) (v : Word), (s.clocked = true) ∧ (s.prd.noInst = false) ∧ (s.prd.chkon = false))
    ∧ (∃ (s : State) (p : Fin 2) (i : Fin 24) (j : Fin 1024) (v : Word), (s.clocked = true) ∧ let rank : Nat := portRank (if p = 0 then 9 else 10)
      (s.Writable p) ∧ (s.gainWritable = true) ∧ (s.hwNow (wroteKey (Reg.ripGain.addr i.val 0)) < 2 * rank))
    ∧ (∃ (s : State) (p : Fin 2) (i : Fin 24) (j : Fin 1024) (v : Word), (s.clocked = true) ∧ (s.Writable p) ∧ (s.gainWritable = false))
    ∧ (∃ (s : State) (p : Fin 2) (i : Fin 24) (j : Fin 1024) (v : Word), (s.clocked = true) ∧ let rank : Nat := portRank (if p = 0 then 9 else 10)
      (s.Writable p) ∧ (s.mapWritable = true) ∧ (s.hwNow (wroteKey (Reg.toothmap.addr j.val 0)) < 2 * rank))
    ∧ (∃ (s : State) (p : Fin 2) (i : Fin 24) (j : Fin 1024) (v : Word), (s.clocked = true) ∧ (s.Writable p) ∧ (s.mapWritable = false)) :=
  ⟨⟨{ up with prd := { up.prd with shadow := some [] } }, 0, 23, 1023, 0, by decide +kernel⟩,
    ⟨{ up with prd := { up.prd with chkon := true } }, 0, 23, 1023, 0, by decide +kernel⟩,
    ⟨{ up with prd := { up.prd with shadow := some [] } }, 0, 23, 1023, 0, by decide +kernel⟩,
    ⟨{ up with prd := { up.prd with shadow := some [] } }, 0, 23, 1023, 0, by decide +kernel⟩,
    ⟨up.setRf Reg.prdCfg 0 2 2 1, 0, 23, 1023, 0, by decide +kernel⟩,
    ⟨{ up with prd := { up.prd with shadow := some [] } }, 0, 23, 1023, 0, by decide +kernel⟩,
    ⟨turning, 0, 23, 1023, 0, by decide +kernel⟩⟩

/-- States and operands that meet the hypotheses of PegCommitsAndDrives. -/
theorem test_meets_PegCommitsAndDrives :
    (∃ (s : State) (w : Fin 9) (k : Fin 32), (s.clocked = true) ∧ (s.schedLive w = true) ∧ let p := s.work[w].slots[k]
      (p.st = .aimed ∨ p.st = .dwelling) ∧ (p.resBad = false) ∧ (p.inst).any (fun i => decide (let c := (s.advanceTo (i / 16 - 16)).caughtUp
      let may : Prop := c.whl.rev = true ∨ c.mayFire p = true
      (c.lineFree w k i ≤ i) ∧ (c.pegHeld p = false) ∧ (may) ∧ ∃ v : Fin 9, (v ≠ w))) = true)
    ∧ (∃ (s : State) (w : Fin 9) (k : Fin 32), (s.clocked = true) ∧ (s.schedLive w = true) ∧ let p := s.work[w].slots[k]
      (p.st = .aimed ∨ p.st = .dwelling) ∧ (p.resBad = false) ∧ (p.inst).any (fun i => decide (let c := (s.advanceTo (i / 16 - 16)).caughtUp
      let may : Prop := c.whl.rev = true ∨ c.mayFire p = true
      (c.lineFree w k i ≤ i) ∧ (c.pegHeld p = false) ∧ (¬may) ∧ (p.st = .aimed))) = true)
    ∧ (∃ (s : State) (w : Fin 9) (k : Fin 32), (s.clocked = true) ∧ (s.schedLive w = true) ∧ let p := s.work[w].slots[k]
      (p.st = .aimed ∨ p.st = .dwelling) ∧ (p.resBad = false) ∧ (p.inst).any (fun i => decide (let c := (s.advanceTo (i / 16 - 16)).caughtUp
      let may : Prop := c.whl.rev = true ∨ c.mayFire p = true
      (c.lineFree w k i ≤ i) ∧ (c.pegHeld p = false) ∧ (¬may) ∧ (p.st = .dwelling) ∧ (p.ign).any (fun n => decide (True)))) = true)
    ∧ (∃ (s : State) (w : Fin 9) (k : Fin 32), (s.clocked = true) ∧ (s.schedLive w = true) ∧ let p := s.work[w].slots[k]
      (p.st = .aimed ∨ p.st = .dwelling) ∧ (p.resBad = false) ∧ (p.inst).any (fun i => decide (let c := (s.advanceTo (i / 16 - 16)).caughtUp
      (c.lineFree w k i ≤ i) ∧ (c.pegHeld p = true) ∧ (p.st = .aimed))) = true)
    ∧ (∃ (s : State) (w : Fin 9) (k : Fin 32), (s.clocked = true) ∧ (s.schedLive w = true) ∧ let p := s.work[w].slots[k]
      (p.st = .aimed ∨ p.st = .dwelling) ∧ (p.resBad = false) ∧ (p.inst).any (fun i => decide (let c := (s.advanceTo (i / 16 - 16)).caughtUp
      (c.lineFree w k i ≤ i) ∧ (c.pegHeld p = true) ∧ (p.st = .dwelling) ∧ (p.ign).any (fun n => decide (True)))) = true)
    ∧ (∃ (s : State) (w : Fin 9) (k : Fin 32), (s.clocked = true) ∧ let p := s.work[w].slots[k]
      (p.st = .committed) ∧ (p.mute = 0) ∧ (p.inst).any (fun i => decide (let u := (s.advanceTo (i / 16 - s.leadOf p)).caughtUp
      (p.ach).any (fun c => decide ((p.kind = 1 ∨ p.kind = 3) ∧ (u.edg.ch[c].ack = .ok p.seq) ∧ gives (exec (.pegDrive w k) s) (fun t =>
      decide (([0, 4, 7, 0x34000, 0x36000, 0x100000, 0xFFFFC, 0x100100000] : List (Nat)).any (fun x => decide ((t.now ≤ x))))))))) = true)
    ∧ (∃ (s : State) (w : Fin 9) (k : Fin 32), (s.clocked = true) ∧ let p := s.work[w].slots[k]
      (p.st = .committed) ∧ (p.mute = 0) ∧ (p.inst).any (fun i => decide (let u := (s.advanceTo (i / 16 - s.leadOf p)).caughtUp
      (p.ach).any (fun c => decide ((p.kind = 1 ∨ p.kind = 3) ∧ (u.edg.ch[c].ack = .ok p.seq) ∧ ∃ d : Fin 32, (d ≠ c))))) = true)
    ∧ (∃ (s : State) (w : Fin 9) (k : Fin 32), (s.clocked = true) ∧ let p := s.work[w].slots[k]
      (p.st = .committed) ∧ (p.mute = 0) ∧ (p.inst).any (fun i => decide (let u := (s.advanceTo (i / 16 - s.leadOf p)).caughtUp
      (p.ach).any (fun c => decide ((p.kind = 1 ∨ p.kind = 3) ∧ (u.edg.ch[c].ack ≠ .ok p.seq))))) = true)
    ∧ (∃ (s : State) (w : Fin 9) (k : Fin 32), (s.clocked = true) ∧ let p := s.work[w].slots[k]
      (p.st = .committed) ∧ (p.mute = 0) ∧ (p.inst).any (fun i => decide (let u := (s.advanceTo (i / 16 - s.leadOf p)).caughtUp
      (p.ach).any (fun c => decide ((p.kind = 2 ∨ p.kind = 4) ∧ (u.edgeLevel c = true))))) = true)
    ∧ (∃ (s : State) (w : Fin 9) (k : Fin 32), (s.clocked = true) ∧ let p := s.work[w].slots[k]
      (p.st = .committed) ∧ (p.mute = 0) ∧ (p.inst).any (fun i => decide (let u := (s.advanceTo (i / 16 - s.leadOf p)).caughtUp
      (p.ach).any (fun c => decide ((p.kind = 2 ∨ p.kind = 4) ∧ (u.edgeLevel c = false))))) = true)
    ∧ (∃ (s : State) (w : Fin 9) (k : Fin 32), (s.clocked = true) ∧ let p := s.work[w].slots[k]
      (p.st = .committed) ∧ (p.mute = 0) ∧ (p.inst).any (fun i => decide ((p.ign).any (fun n => decide (True)))) = true)
    ∧ (∃ (s : State) (w : Fin 9) (k : Fin 32), (s.clocked = true) ∧ let p := s.work[w].slots[k]
      (p.st = .committed) ∧ (p.mute = 0) ∧ (p.inst).any (fun i => decide ((p.kind = 6 ∨ p.kind = 7 ∨ p.kind = 8))) = true) :=
  ⟨⟨{ idle3 (peg 1 4 .aimed (some 999)) with whl := { calm.whl with sync := .full } }, 3, 0, by decide +kernel⟩,
    ⟨idle3 { peg 1 4 .aimed (some 999) with flags := 2 }, 3, 0, by decide +kernel⟩,
    ⟨({ idle3 (peg 5 2 .dwelling (some 999)) with whl := { calm.whl with sync := .tooth } }), 3, 0, by decide +kernel⟩,
    ⟨(idle3 (peg 1 4 .aimed (some 0))).setECh 4 fun x => { x with owner := 15 }, 3, 0, by decide +kernel⟩,
    ⟨(idle3 (peg 5 2 .dwelling (some 0))).setEIgn 2 fun x => { x with owner := 15 }, 3, 0, by decide +kernel⟩,
    ⟨(idle3 (peg 1 4 .committed (some 9999))).setECh 4 fun x => { x with owner := 3, line := true, ack := .ok 5 }, 3, 0, by decide +kernel⟩,
    ⟨(idle3 (peg 1 4 .committed (some 9999))).setECh 4 fun x => { x with owner := 3, line := true, ack := .ok 5 }, 3, 0, by decide +kernel⟩,
    ⟨(idle3 (peg 3 4 .committed (some 9))).setECh 4 fun x => { x with owner := 3, ack := .none }, 3, 0, by decide +kernel⟩,
    ⟨(idle3 (peg 4 4 .committed (some 9))).setECh 4 fun x => { x with owner := 3, line := true }, 3, 0, by decide +kernel⟩,
    ⟨(idle3 (peg 4 4 .committed (some 9))).setECh 4 fun x => { x with owner := 3, line := false }, 3, 0, by decide +kernel⟩,
    ⟨idle3 (peg 5 2 .committed (some 9)), 3, 0, by decide +kernel⟩,
    ⟨idle3 (peg 8 2 .committed (some 9)), 3, 0, by decide +kernel⟩⟩

/-- States and operands that meet the hypotheses of PegsFire. -/
theorem test_meets_PegsFire :
    (∃ (s : State) (w : Fin 9) (k : Fin 32), (s.clocked = true) ∧ let p := s.work[w].slots[k]
      (p.inst).any (fun i => decide ((p.st = .driven) ∧ (p.mute = 0) ∧ (p.ach).any (fun c => decide ((p.kind = 1 ∨ p.kind = 3) ∧ (p.reason = 0))))) = true)
    ∧ (∃ (s : State) (w : Fin 9) (k : Fin 32), (s.clocked = true) ∧ let p := s.work[w].slots[k]
      (p.inst).any (fun i => decide ((p.st = .driven) ∧ (p.mute = 0) ∧ (p.ach).any (fun c => decide ((p.kind = 2 ∨ p.kind = 4))))) = true)
    ∧ (∃ (s : State) (w : Fin 9) (k : Fin 32), (s.clocked = true) ∧ let p := s.work[w].slots[k]
      (p.inst).any (fun i => decide ((p.st = .driven) ∧ (p.mute = 0) ∧ (p.ign).any (fun n => decide ((p.spark = true))))) = true)
    ∧ (∃ (s : State) (w : Fin 9) (k : Fin 32), (s.clocked = true) ∧ let p := s.work[w].slots[k]
      (p.inst).any (fun i => decide ((p.st = .driven) ∧ (p.mute = 0) ∧ (p.ign).any (fun n => decide ((p.spark = false) ∧ (p.reason = 0))))) = true)
    ∧ (∃ (s : State) (w : Fin 9) (k : Fin 32), (s.clocked = true) ∧ let p := s.work[w].slots[k]
      (p.inst).any (fun i => decide ((p.st = .driven) ∧ (p.mute = 0) ∧ (p.win).any (fun v => decide ((s.measRuns = false))))) = true)
    ∧ (∃ (s : State) (w : Fin 9) (k : Fin 32), (s.clocked = true) ∧ let p := s.work[w].slots[k]
      (p.inst).any (fun i => decide (let at_ : Nat := if p.ach.isSome || p.ign.isSome then s.placed i else i -- only an edge is rounded without vernier placement
      let u := (s.advanceTo (at_ / 16)).caughtUp
      (p.st = .driven) ∧ (p.mute = 0) ∧ (p.win).any (fun v => decide ((s.measRuns = true) ∧ let z := u.advanceTo ((at_ + 8) / 16)
      let x := z.ms.win[v]
      (p.kind = 6) ∧ (x.isOpen = false) ∧ (z.ms.owner[24 + v.val] ≠ 15) ∧ ∃ j : Fin 16, (j ≠ v))))) = true)
    ∧ (∃ (s : State) (w : Fin 9) (k : Fin 32), (s.clocked = true) ∧ let p := s.work[w].slots[k]
      (p.inst).any (fun i => decide (let at_ : Nat := if p.ach.isSome || p.ign.isSome then s.placed i else i -- only an edge is rounded without vernier placement
      let u := (s.advanceTo (at_ / 16)).caughtUp
      (p.st = .driven) ∧ (p.mute = 0) ∧ (p.win).any (fun v => decide ((s.measRuns = true) ∧ let z := u.advanceTo ((at_ + 8) / 16)
      let x := z.ms.win[v]
      (p.kind = 7) ∧ (x.isOpen = true) ∧ ((∀ y ∈ x.runs.getLast?, y.openAt ≠ z.now)) ∧ (x.reopen).any (fun o => decide ((o.1 = z.now) ∧ (z.ms.owner[24 + v.val] ≠ 15))))))) = true)
    ∧ (∃ (s : State) (w : Fin 9) (k : Fin 32), (s.clocked = true) ∧ let p := s.work[w].slots[k]
      (p.inst).any (fun i => decide (let at_ : Nat := if p.ach.isSome || p.ign.isSome then s.placed i else i -- only an edge is rounded without vernier placement
      let u := (s.advanceTo (at_ / 16)).caughtUp
      (p.st = .driven) ∧ (p.mute = 0) ∧ (p.win).any (fun v => decide ((s.measRuns = true) ∧ let z := u.advanceTo ((at_ + 8) / 16)
      let x := z.ms.win[v]
      (p.kind = 7) ∧ (x.isOpen = true) ∧ ((∀ y ∈ x.runs.getLast?, y.openAt ≠ z.now)) ∧ ((∀ y ∈ x.reopen, y.1 ≠ z.now)) ∧ ∃ j : Fin 16, (j ≠ v))))) = true)
    ∧ (∃ (s : State) (w : Fin 9) (k : Fin 32), (s.clocked = true) ∧ let p := s.work[w].slots[k]
      (p.inst).any (fun i => decide (let at_ : Nat := if p.ach.isSome || p.ign.isSome then s.placed i else i -- only an edge is rounded without vernier placement
      let u := (s.advanceTo (at_ / 16)).caughtUp
      (p.st = .driven) ∧ (p.mute = 0) ∧ (p.win).any (fun v => decide ((s.measRuns = true) ∧ let z := u.advanceTo ((at_ + 8) / 16)
      let x := z.ms.win[v]
      (p.kind = (if x.isOpen then 6 else 7)))))) = true)
    ∧ (∃ (s : State) (w : Fin 9) (k : Fin 32), (s.clocked = true) ∧ let p := s.work[w].slots[k]
      (p.inst).any (fun i => decide (let at_ : Nat := if p.ach.isSome || p.ign.isSome then s.placed i else i -- only an edge is rounded without vernier placement
      let u := (s.advanceTo (at_ / 16)).caughtUp
      (p.st = .driven) ∧ (p.mute = 0) ∧ (p.win).any (fun v => decide ((s.measRuns = true) ∧ let z := u.advanceTo ((at_ + 8) / 16)
      let x := z.ms.win[v]
      (p.kind = 7) ∧ (x.isOpen = true) ∧ (x.runs.getLast?).any (fun y => decide ((y.openAt = z.now))))))) = true)
    ∧ (∃ (s : State) (w : Fin 9) (k : Fin 32), (s.clocked = true) ∧ let p := s.work[w].slots[k]
      (p.inst).any (fun i => decide ((p.st = .driven) ∧ (p.mute = 0) ∧ (p.jig).any (fun e => decide (∃ j : Fin 8, (j ≠ e))))) = true)
    ∧ (∃ (s : State) (w : Fin 9) (k : Fin 32), (s.clocked = true) ∧ let p := s.work[w].slots[k]
      (p.inst).any (fun i => decide (let at_ : Nat := if p.ach.isSome || p.ign.isSome then s.placed i else i -- only an edge is rounded without vernier placement
      let u := (s.advanceTo (at_ / 16)).caughtUp
      (p.st = .driven) ∧ (p.mute = 0) ∧ (p.jig).any (fun e => decide (let z := u.advanceTo ((at_ + 31) / 32 * 2)
      let g := z.jig[e]
      ∃ rln : Bool, (g.wait = some (.trigger rln)))))) = true)
    ∧ (∃ (s : State) (w : Fin 9) (k : Fin 32), (s.clocked = true) ∧ let p := s.work[w].slots[k]
      (p.inst).any (fun i => decide (let at_ : Nat := if p.ach.isSome || p.ign.isSome then s.placed i else i -- only an edge is rounded without vernier placement
      let u := (s.advanceTo (at_ / 16)).caughtUp
      (p.st = .driven) ∧ (p.mute = 0) ∧ (p.jig).any (fun e => decide (let z := u.advanceTo ((at_ + 31) / 32 * 2)
      let g := z.jig[e]
      ∃ rln : Bool, ((∀ b : Bool, g.wait ≠ some (.trigger b))) ∧ (g.wgAt = some (z.svclk, rln)))))) = true)
    ∧ (∃ (s : State) (w : Fin 9) (k : Fin 32), (s.clocked = true) ∧ let p := s.work[w].slots[k]
      (p.inst).any (fun i => decide (let at_ : Nat := if p.ach.isSome || p.ign.isSome then s.placed i else i -- only an edge is rounded without vernier placement
      let u := (s.advanceTo (at_ / 16)).caughtUp
      (p.st = .driven) ∧ (p.mute = 0) ∧ (p.jig).any (fun e => decide (let z := u.advanceTo ((at_ + 31) / 32 * 2)
      let g := z.jig[e]
      let count : Nat := z.rf Reg.jigCnt e.val 15 0
      ((∀ rln : Bool, g.wait ≠ some (.trigger rln))) ∧ ((∀ y ∈ g.wgAt, y.1 ≠ z.svclk)) ∧ (g.trgl = true) ∧ (count = 0))))) = true)
    ∧ (∃ (s : State) (w : Fin 9) (k : Fin 32), (s.clocked = true) ∧ let p := s.work[w].slots[k]
      (p.inst).any (fun i => decide ((p.st = .committed) ∧ (p.mute = 0) ∧ (p.kind = 9))) = true)
    ∧ (∃ (s : State) (w : Fin 9) (k : Fin 32), (s.clocked = true) ∧ let p := s.work[w].slots[k]
      (p.inst).any (fun i => decide ((p.st = .committed ∨ p.st = .driven) ∧ (p.mute = 1))) = true)
    ∧ (∃ (s : State) (w : Fin 9) (k : Fin 32), (s.clocked = true) ∧ let p := s.work[w].slots[k]
      (p.inst).any (fun i => decide ((p.st = .committed ∨ p.st = .driven) ∧ (p.mute = 2))) = true)
    ∧ (∃ (s : State) (w : Fin 9) (k : Fin 32), (s.clocked = true) ∧ let p := s.work[w].slots[k]
      (p.inst).any (fun i => decide ((p.st = .committed ∨ p.st = .driven) ∧ (p.mute = 3))) = true)
    ∧ (∃ (s : State) (w : Fin 9) (k : Fin 32), (s.clocked = true) ∧ let p := s.work[w].slots[k]
      (p.inst).any (fun i => decide ((p.st = .committed ∨ p.st = .driven) ∧ (p.mute = 4))) = true)
    ∧ (∃ (s : State) (w : Fin 9) (k : Fin 32), (s.clocked = true) ∧ let p := s.work[w].slots[k]
      (p.inst).any (fun i => decide ((p.st ≠ .driven) ∧ ((p.st = .committed → p.mute = 0 ∧ p.kind ≠ 9)))) = true) :=
  ⟨⟨idle3 (peg 3 4 .driven (some 9)), 3, 0, by decide +kernel⟩,
    ⟨idle3 (peg 2 4 .driven (some 9)), 3, 0, by decide +kernel⟩,
    ⟨idle3 { peg 5 2 .driven (some 9) with spark := true }, 3, 0, by decide +kernel⟩,
    ⟨idle3 (peg 5 2 .driven (some 9)), 3, 0, by decide +kernel⟩,
    ⟨{ idle3 (peg 7 0 .driven (some 9)) with sys := { up.sys with measRdy := false } }, 3, 0, by decide +kernel⟩,
    ⟨{ idle3 { peg 6 3 .driven (some 325) with angle := 0x12345 } with ms := { up.ms with owner := up.ms.owner.set 27 3, win := up.ms.win.set 3 up.ms.win[3] } }, 3, 0, by decide +kernel⟩,
    ⟨{ idle3 { peg 7 3 .driven (some 325) with angle := 0x12345 } with ms := { up.ms with owner := up.ms.owner.set 27 3, win := up.ms.win.set 3 { up.ms.win[3] with isOpen := true, cyc := 7, runs := [opening 0x31 [] false], reopen := some (20, 5) } } }, 3, 0, by decide +kernel⟩,
    ⟨{ idle3 { peg 7 3 .driven (some 325) with angle := 0x12345 } with ms := { up.ms with owner := up.ms.owner.set 27 3, win := up.ms.win.set 3 { up.ms.win[3] with isOpen := true } } }, 3, 0, by decide +kernel⟩,
    ⟨{ idle3 { peg 6 3 .driven (some 325) with angle := 0x12345 } with ms := { up.ms with owner := up.ms.owner.set 27 3, win := up.ms.win.set 3 { up.ms.win[3] with isOpen := true } } }, 3, 0, by decide +kernel⟩,
    ⟨{ idle3 { peg 7 3 .driven (some 325) with angle := 0x12345 } with ms := { up.ms with owner := up.ms.owner.set 27 3, win := up.ms.win.set 3 { up.ms.win[3] with isOpen := true, runs := [{ opening 1 [] false with openAt := 20 }] } } }, 3, 0, by decide +kernel⟩,
    ⟨(idle3 (peg 8 7 .driven (some 325))).setJig 7 fun g => { g with run := true }, 3, 0, by decide +kernel⟩,
    ⟨(idle3 (peg 8 7 .driven (some 325))).setJig 7 fun g => { g with run := true, wait := some (.trigger true), tmo := 5 }, 3, 0, by decide +kernel⟩,
    ⟨(idle3 (peg 8 7 .driven (some 325))).setJig 7 fun g => { g with run := true, wgAt := some (11, true) }, 3, 0, by decide +kernel⟩,
    ⟨(idle3 (peg 8 7 .driven (some 325))).setJig 7 fun g => { g with trgl := true }, 3, 0, by decide +kernel⟩,
    ⟨idle3 (peg 9 0 .committed (some 9)), 3, 0, by decide +kernel⟩,
    ⟨idle3 { peg 1 4 .committed (some 9) with mute := 1 }, 3, 0, by decide +kernel⟩,
    ⟨idle3 { peg 1 4 .committed (some 9) with mute := 2 }, 3, 0, by decide +kernel⟩,
    ⟨idle3 { peg 1 4 .committed (some 325) with mute := 3 }, 3, 0, by decide +kernel⟩,
    ⟨idle3 { peg 1 4 .committed (some 325) with mute := 4 }, 3, 0, by decide +kernel⟩,
    ⟨idle3 (peg 1 4 .aimed (some 325)), 3, 0, by decide +kernel⟩⟩

/-- States and operands that meet the hypotheses of SelectionsSoftOffAndCalibration. -/
theorem test_meets_SelectionsSoftOffAndCalibration :
    (∃ (s : State) (w : Fin 9) (k : Fin 32) (c : Fin 32) (n : Fin 24) (i q o : Nat) (b : Bool) (rest : List Xfer), (s.clocked = true) ∧ (s.links.arrived = .select c i q o :: rest) ∧ (s.wordsCheck (profileAddrs i) = (s, true)))
    ∧ (∃ (s : State) (w : Fin 9) (k : Fin 32) (c : Fin 32) (n : Fin 24) (i q o : Nat) (b : Bool) (rest : List Xfer), (s.clocked = true) ∧ (s.links.arrived = .selack c q b :: rest))
    ∧ (∃ (s : State) (w : Fin 9) (k : Fin 32) (c : Fin 32) (n : Fin 24) (i q o : Nat) (b : Bool) (rest : List Xfer), (s.clocked = true) ∧ let p := s.work[w].slots[k]
      (p.st = .dwelling) ∧ (p.tD).any (fun d => decide ((p.dws.maxAct = true) ∧ (p.resBad = false))) = true)
    ∧ (∃ (s : State) (w : Fin 9) (k : Fin 32) (c : Fin 32) (n : Fin 24) (i q o : Nat) (b : Bool) (rest : List Xfer), (s.clocked = true) ∧ let p := s.work[w].slots[k]
      (p.st = .dwelling) ∧ (p.tD).any (fun d => decide ((p.dws.maxAct = true) ∧ (p.resBad = true))) = true)
    ∧ (∃ (s : State) (w : Fin 9) (k : Fin 32) (c : Fin 32) (n : Fin 24) (i q o : Nat) (b : Bool) (rest : List Xfer), (s.clocked = true) ∧ let p := s.work[w].slots[k]
      (p.st = .dwelling) ∧ (p.tD).any (fun d => decide ((p.dws.maxAct = false) ∧ (p.ign).any (fun m => decide (True)))) = true)
    ∧ (∃ (s : State) (w : Fin 9) (k : Fin 32) (c : Fin 32) (n : Fin 24) (i q o : Nat) (b : Bool) (rest : List Xfer), (s.clocked = true) ∧ (s.links.arrived = .softoff n :: rest) ∧ (s.drv.ign[n].gate = true) ∧ (s.drv.ign[n].soft = none))
    ∧ (∃ (s : State) (w : Fin 9) (k : Fin 32) (c : Fin 32) (n : Fin 24) (i q o : Nat) (b : Bool) (rest : List Xfer), (s.clocked = true) ∧ (s.links.arrived = .softoff n :: rest) ∧ (s.drv.ign[n].gate = true) ∧ (s.drv.ign[n].soft ≠ none))
    ∧ (∃ (s : State) (w : Fin 9) (k : Fin 32) (c : Fin 32) (n : Fin 24) (i q o : Nat) (b : Bool) (rest : List Xfer), (s.clocked = true) ∧ (s.links.arrived = .softoff n :: rest) ∧ (s.drv.ign[n].gate = false))
    ∧ (∃ (s : State) (w : Fin 9) (k : Fin 32) (c : Fin 32) (n : Fin 24) (i q o : Nat) (b : Bool) (rest : List Xfer), (s.clocked = true) ∧ (s.drv.ign[n].soft).any (fun _ => true) = true)
    ∧ (∃ (s : State) (w : Fin 9) (k : Fin 32) (c : Fin 32) (n : Fin 24) (i q o : Nat) (b : Bool) (rest : List Xfer), (s.clocked = true) ∧ (s.links.arrived = .softdone n :: rest) ∧ ∃ m : Fin 32, (s.work[w].slots[m].st = .softoff) ∧ (s.work[w].slots[m].ign = some n))
    ∧ (∃ (s : State) (w : Fin 9) (k : Fin 32) (c : Fin 32) (n : Fin 24) (i q o : Nat) (b : Bool) (rest : List Xfer), (s.clocked = true) ∧ (s.ignHeld n = true) ∧ (s.edg.ign[n].softBy).any (fun e => decide (∃ m : Fin 32, (s.work[w].slots[m].st = .softoff) ∧ (s.work[w].slots[m].ign = some n))) = true) :=
  ⟨⟨{ calm with links := { up.links with arrived := [.select 4 15 5 9] } }, 3, 0, 4, 2, 15, 5, 9, true, [], by decide +kernel⟩,
    ⟨{ calm with links := { up.links with arrived := [.selack 4 5 true] } }, 3, 0, 4, 2, 15, 5, 9, true, [], by decide +kernel⟩,
    ⟨idle3 { peg 5 2 .dwelling (some 9) with tD := some 0, dws := ⟨0, 0, 0, 0, true⟩ }, 3, 0, 4, 2, 15, 5, 9, true, [], by decide +kernel⟩,
    ⟨(idle3 { peg 5 2 .dwelling (some 9) with tD := some 0, resBad := true, dws := ⟨0, 0, 0, 0, true⟩ }), 3, 0, 4, 2, 15, 5, 9, true, [], by decide +kernel⟩,
    ⟨(idle3 { peg 5 2 .dwelling (some 9) with tD := some 0, resBad := true, dws := ⟨0, 0, 0, 0, false⟩ }), 3, 0, 4, 2, 15, 5, 9, true, [], by decide +kernel⟩,
    ⟨State.setDIgn ({ calm with links := { up.links with arrived := [.softoff 2] } }) 2 fun x => { x with gate := true }, 3, 0, 4, 2, 15, 5, 9, true, [], by decide +kernel⟩,
    ⟨State.setDIgn ({ calm with links := { up.links with arrived := [.softoff 2] } }) 2 fun x => { x with gate := true, soft := some 0 }, 3, 0, 4, 2, 15, 5, 9, true, [], by decide +kernel⟩,
    ⟨{ calm with links := { up.links with arrived := [.softoff 2] } }, 3, 0, 4, 2, 15, 5, 9, true, [], by decide +kernel⟩,
    ⟨State.setDIgn ({ calm with links := { up.links with arrived := [.softoff 2] } }) 2 fun x => { x with gate := true, soft := some 0 }, 3, 0, 4, 2, 15, 5, 9, true, [], by decide +kernel⟩,
    ⟨{ idle3 (peg 5 2 .softoff none) with links := { up.links with arrived := [.softdone 2] } }, 3, 0, 4, 2, 15, 5, 9, true, [], by decide +kernel⟩,
    ⟨(idle3 (peg 5 2 .softoff none)).setEIgn 2 fun x => { x with owner := 15, softBy := some 0 }, 3, 0, 4, 2, 15, 5, 9, true, [], by decide +kernel⟩⟩

/-- States and operands that meet the hypotheses of ClusterRoles. -/
theorem test_meets_ClusterRoles :
    (∃ (s : State) (p : Fin 2) (c w : Fin 9) (v : Word), (s.Writable p) ∧ (s.inOver c = false) ∧ let k := s.clu[c]
      let late : Bool := decide (p = 0) && s.roleMnt.any fun y => decide (y.at_ = s.now) && decide (y.c = c)
      (late = true) ∧ (s.roleMnt).any (fun y => decide ((y.code = 0) ∧ (k.role = .stopped))) = true)
    ∧ (∃ (s : State) (p : Fin 2) (c w : Fin 9) (v : Word), (s.Writable p) ∧ (s.inOver c = false) ∧ let k := s.clu[c]
      let late : Bool := decide (p = 0) && s.roleMnt.any fun y => decide (y.at_ = s.now) && decide (y.c = c)
      (late = true) ∧ (s.roleMnt).any (fun y => decide ((y.code = 1) ∧ (k.role = .active) ∧ (y.clu.role = .stopped))) = true)
    ∧ (∃ (s : State) (p : Fin 2) (c w : Fin 9) (v : Word), (s.Writable p) ∧ (s.inOver c = false) ∧ let k := s.clu[c]
      let late : Bool := decide (p = 0) && s.roleMnt.any fun y => decide (y.at_ = s.now) && decide (y.c = c)
      (late = true) ∧ (s.roleMnt).any (fun y => decide ((y.code = 2) ∧ (k.role = .spare))) = true)
    ∧ (∃ (s : State) (p : Fin 2) (c w : Fin 9) (v : Word), (s.Writable p) ∧ (s.inOver c = false) ∧ let k := s.clu[c]
      let late : Bool := decide (p = 0) && s.roleMnt.any fun y => decide (y.at_ = s.now) && decide (y.c = c)
      (late = false) ∧ (k.role = .stopped) ∧ (s.live = true) ∧ ((∀ h ∈ s.home c, h = c)) ∧ (s.contextCheck c = (s, true)) ∧ ∃ d : Fin 9, (d ≠ c))
    ∧ (∃ (s : State) (p : Fin 2) (c w : Fin 9) (v : Word), (s.Writable p) ∧ (s.inOver c = false) ∧ let k := s.clu[c]
      let x := s.work[w]
      let late : Bool := decide (p = 0) && s.roleMnt.any fun y => decide (y.at_ = s.now) && decide (y.c = c)
      (late = false) ∧ (k.role = .active) ∧ (k.work = some w) ∧ (k.run = none) ∧ ∃ i : Fin 32, (x.slots[i].st = .armed ∨ x.slots[i].st = .aimed ∨ x.slots[i].st = .waiting))
    ∧ (∃ (s : State) (p : Fin 2) (c w : Fin 9) (v : Word), (s.Writable p) ∧ (s.inOver c = false) ∧ let k := s.clu[c]
      let late : Bool := decide (p = 0) && s.roleMnt.any fun y => decide (y.at_ = s.now) && decide (y.c = c)
      (late = false) ∧ (k.role = .active) ∧ (k.work = some w) ∧ (k.run ≠ none) ∧ (s.bist.ov = none))
    ∧ (∃ (s : State) (p : Fin 2) (c w : Fin 9) (v : Word), (s.Writable p) ∧ (s.inOver c = false) ∧ let k := s.clu[c]
      let late : Bool := decide (p = 0) && s.roleMnt.any fun y => decide (y.at_ = s.now) && decide (y.c = c)
      let own : Option (Fin 9) := if (s.home c).all (fun h => decide (h = c)) then some c else none
      (late = false) ∧ (k.role = .spare) ∧ (own = some c))
    ∧ (∃ (s : State) (p : Fin 2) (c w : Fin 9) (v : Word), (s.Writable p) ∧ (s.inOver c = false) ∧ let k := s.clu[c]
      let late : Bool := decide (p = 0) && s.roleMnt.any fun y => decide (y.at_ = s.now) && decide (y.c = c)
      let own : Option (Fin 9) := if (s.home c).all (fun h => decide (h = c)) then some c else none
      (late = false) ∧ (k.role = .spare) ∧ (own = none))
    ∧ (∃ (s : State) (p : Fin 2) (c w : Fin 9) (v : Word), (s.Writable p) ∧ (s.inOver c = false) ∧ let k := s.clu[c]
      let late : Bool := decide (p = 0) && s.roleMnt.any fun y => decide (y.at_ = s.now) && decide (y.c = c)
      (late = false) ∧ (k.role ≠ .stopped))
    ∧ (∃ (s : State) (p : Fin 2) (c w : Fin 9) (v : Word), (s.Writable p) ∧ (s.inOver c = false) ∧ let k := s.clu[c]
      let late : Bool := decide (p = 0) && s.roleMnt.any fun y => decide (y.at_ = s.now) && decide (y.c = c)
      (late = false) ∧ (k.role = .active ∨ k.role = .carrying ∨ k.role = .spare))
    ∧ (∃ (s : State) (p : Fin 2) (c w : Fin 9) (v : Word), (s.Writable p) ∧ (s.inOver c = false) ∧ let k := s.clu[c]
      (k.stopReq = true) ∧ (k.run = none))
    ∧ (∃ (s : State) (p : Fin 2) (c w : Fin 9) (v : Word), (s.Writable p) ∧ (s.inOver c = false) ∧ let k := s.clu[c]
      (k.stopReq = false ∨ k.run ≠ none))
    ∧ (∃ (s : State) (p : Fin 2) (c w : Fin 9) (v : Word), (s.Writable p) ∧ (s.inOver c = false) ∧ let k := s.clu[c]
      let x := s.work[w]
      (k.work = some w) ∧ ((∀ q ∈ x.cues, q.cue ≠ 26)))
    ∧ (∃ (s : State) (p : Fin 2) (c w : Fin 9) (v : Word), (s.Writable p) ∧ (s.inOver c = false) ∧ let k := s.clu[c]
      let x := s.work[w]
      (k.work = some w) ∧ (x.cues.find? (fun q => decide (q.cue = 26))).any (fun _ => true) = true)
    ∧ (∃ (s : State) (p : Fin 2) (c w : Fin 9) (v : Word), (s.Writable p) ∧ (s.inOver c = false) ∧ let k := s.clu[c]
      (k.work = none)) :=
  ⟨⟨{ calm with roleMnt := some ⟨0, 3, 0, { calm.clu[3] with role := .active }, calm.work[3]⟩ }, 0, 3, 3, 0, by decide +kernel⟩,
    ⟨{ (calm.setClu 3 fun k => { k with role := .active }) with roleMnt := some ⟨0, 3, 1, calm.clu[3], calm.work[3]⟩ }, 0, 3, 3, 0, by decide +kernel⟩,
    ⟨{ (calm.setClu 3 fun k => { k with role := .spare, work := none }) with roleMnt := some ⟨0, 3, 2, calm.clu[3], calm.work[3]⟩ }, 0, 3, 3, 0, by decide +kernel⟩,
    ⟨(up).hw (wroteKey (Reg.cluRole.addr 3 0)) 15, 0, 3, 3, 0, by decide +kernel⟩,
    ⟨(idle3 (peg 1 4 .armed none)).hw (wroteKey (Reg.cluRole.addr 3 0)) 15, 0, 3, 3, 0, by decide +kernel⟩,
    ⟨core 0 0, 0, 3, 3, 0, by decide +kernel⟩,
    ⟨idle3 (peg 1 4 .armed none), 0, 8, 3, 0, by decide +kernel⟩,
    ⟨(calm.setClu 3 fun k => { k with role := .spare, work := none }).setClu 1 fun k => { k with work := some 3 }, 0, 3, 3, 0, by decide +kernel⟩,
    ⟨(idle3 (peg 1 4 .armed none)).hw (wroteKey (Reg.cluRole.addr 3 0)) 15, 0, 3, 3, 0, by decide +kernel⟩,
    ⟨(idle3 (peg 1 4 .armed none)).hw (wroteKey (Reg.cluRole.addr 3 0)) 15, 0, 3, 3, 0, by decide +kernel⟩,
    ⟨(idle3 (peg 1 4 .armed none)).setClu 3 fun k => { k with stopReq := true }, 0, 3, 3, 0, by decide +kernel⟩,
    ⟨(up).hw (wroteKey (Reg.cluRole.addr 3 0)) 15, 0, 3, 3, 0, by decide +kernel⟩,
    ⟨(up).hw (wroteKey (Reg.cluRole.addr 3 0)) 15, 0, 3, 3, 0, by decide +kernel⟩,
    ⟨(idle3 (peg 1 4 .armed none)).setWork 3 fun x => { x with cues := [⟨26, 0, 0, 0, 0, []⟩] }, 0, 3, 3, 0, by decide +kernel⟩,
    ⟨{ (calm.setClu 3 fun k => { k with role := .spare, work := none }) with roleMnt := some ⟨0, 3, 2, calm.clu[3], calm.work[3]⟩ }, 0, 3, 3, 0, by decide +kernel⟩⟩

/-- States and operands that meet the hypotheses of FailuresTakeoversAndHandovers. -/
theorem test_meets_FailuresTakeoversAndHandovers :
    (∃ (s : State) (c w tk : Fin 9) (tested : Bool) (why : Fin 4) (bad : BitVec 32) (q : Takeover), (s.clocked = true) ∧ let k := s.clu[c]
      (k.role ≠ .unusable) ∧ (k.runs = true) ∧ (k.work = some w) ∧ (s.chooseTaker c = some (tk, tested)) ∧ (tk ≠ c) ∧ ((∀ z ∈ s.claims, z.at_ ≠ s.now + if tested then 33 else 1)) ∧ ∃ n : Fin 32, (s.edg.ch[n].owner = c.val))
    ∧ (∃ (s : State) (c w tk : Fin 9) (tested : Bool) (why : Fin 4) (bad : BitVec 32) (q : Takeover), (s.clocked = true) ∧ let k := s.clu[c]
      (k.role ≠ .unusable) ∧ (k.runs = true) ∧ (k.work = some w) ∧ (s.chooseTaker c = some (tk, tested)) ∧ (tk ≠ c) ∧ ((∀ z ∈ s.claims, z.at_ ≠ s.now + if tested then 33 else 1)) ∧ ∃ n : Fin 24, (s.edg.ign[n].owner = c.val))
    ∧ (∃ (s : State) (c w tk : Fin 9) (tested : Bool) (why : Fin 4) (bad : BitVec 32) (q : Takeover), (s.clocked = true) ∧ let k := s.clu[c]
      (k.role ≠ .unusable) ∧ (k.runs = true) ∧ (k.work = some w) ∧ (s.chooseTaker c = none) ∧ ((∀ z ∈ s.claims, z.at_ ≠ s.now)) ∧ ∃ n : Fin 32, (s.edg.ch[n].owner = c.val))
    ∧ (∃ (s : State) (c w tk : Fin 9) (tested : Bool) (why : Fin 4) (bad : BitVec 32) (q : Takeover), (s.clocked = true) ∧ let k := s.clu[c]
      (k.role ≠ .unusable) ∧ (k.runs = true) ∧ (k.work = some w) ∧ (s.chooseTaker c = none) ∧ ((∀ z ∈ s.claims, z.at_ ≠ s.now)) ∧ ∃ n : Fin 24, (s.edg.ign[n].owner = c.val))
    ∧ (∃ (s : State) (c w tk : Fin 9) (tested : Bool) (why : Fin 4) (bad : BitVec 32) (q : Takeover), (s.clocked = true) ∧ let k := s.clu[c]
      (k.role ≠ .unusable) ∧ (k.runs = true) ∧ (k.work = some w) ∧ (s.chooseTaker c = none) ∧ ((∀ z ∈ s.claims, z.at_ ≠ s.now)) ∧ ((s.coll.outbox.filter (·.src = c.val * 16 + 15)).length < 3))
    ∧ (∃ (s : State) (c w tk : Fin 9) (tested : Bool) (why : Fin 4) (bad : BitVec 32) (q : Takeover), (s.clocked = true) ∧ let k := s.clu[c]
      (k.role ≠ .unusable) ∧ (k.runs = false))
    ∧ (∃ (s : State) (c w tk : Fin 9) (tested : Bool) (why : Fin 4) (bad : BitVec 32) (q : Takeover), (s.clocked = true) ∧ (s.take = [q]) ∧ (q.work = w) ∧ (q.stage = .loading) ∧ ∃ i : Fin 32, (bad.getLsbD i.val = true ∨ s.work[w].slots[i].mirBad = true) ∧ let was := s.work[w].slots[i].st
      (was = .armed ∨ was = .aimed ∨ was = .waiting))
    ∧ (∃ (s : State) (c w tk : Fin 9) (tested : Bool) (why : Fin 4) (bad : BitVec 32) (q : Takeover), (s.clocked = true) ∧ (s.take = [q]) ∧ (q.work = w) ∧ (q.stage = .loading) ∧ ∃ i : Fin 32, (bad.getLsbD i.val = true ∨ s.work[w].slots[i].mirBad = true) ∧ let was := s.work[w].slots[i].st
      (was = .committed ∨ was = .driven ∨ was = .softoff))
    ∧ (∃ (s : State) (c w tk : Fin 9) (tested : Bool) (why : Fin 4) (bad : BitVec 32) (q : Takeover), (s.clocked = true) ∧ (s.take = [q]) ∧ (q.work = w) ∧ (q.stage = .loading) ∧ ∃ i : Fin 32, (bad.getLsbD i.val = true ∨ s.work[w].slots[i].mirBad = true) ∧ let was := s.work[w].slots[i].st
      (was = .dwelling) ∧ (s.work[w].slots[i].ign.isSome = true))
    ∧ (∃ (s : State) (c w tk : Fin 9) (tested : Bool) (why : Fin 4) (bad : BitVec 32) (q : Takeover), (s.clocked = true) ∧ (s.take = [q]) ∧ (q.work = w) ∧ (q.stage = .loading) ∧ ((∀ i : Fin 32, bad.getLsbD i.val = false ∧ s.work[w].slots[i].mirBad = false)) ∧ ∃ i : Fin 32, (s.work[w].slots[i].st = .committed ∨ s.work[w].slots[i].st = .driven ∨ s.work[w].slots[i].st = .dwelling))
    ∧ (∃ (s : State) (c w tk : Fin 9) (tested : Bool) (why : Fin 4) (bad : BitVec 32) (q : Takeover), let sound (s : State) (w : Fin 9) : Prop := ∀ i : Fin 16, ∀ f ∈ s.inj.flips, f.1 ≠ w.val * 0x10000 + 0x5F80 + 4 * i.val
      (s.clocked = true) ∧ (s.take = [q]) ∧ (q.work = w) ∧ (q.stage = .pass) ∧ (sound s w) ∧ (s.work[w].lost = false))
    ∧ (∃ (s : State) (o : Over) (x sp w : Fin 9), let sound (s : State) (w : Fin 9) : Prop := ∀ i : Fin 16, ∀ f ∈ s.inj.flips, f.1 ≠ w.val * 0x10000 + 0x5F80 + 4 * i.val
      (s.clocked = true) ∧ (s.bist.ov = some o) ∧ (o.unit = x.val) ∧ (o.spare = some sp) ∧ (o.work = some w) ∧ (x ≠ sp) ∧ (sound s w) ∧ ((∀ z ∈ s.claims, z.at_ ≠ max s.now (o.t0 + 64))) ∧ (o.stage = .prepare) ∧ (s.clu[x].runs = true) ∧ (s.clu[x].run = none) ∧ (s.clu[x].halt = false) ∧ (s.clu[sp].role = .spare) ∧ ∃ n : Fin 32, (s.edg.ch[n].owner = x.val))
    ∧ (∃ (s : State) (o : Over) (x sp w : Fin 9), let sound (s : State) (w : Fin 9) : Prop := ∀ i : Fin 16, ∀ f ∈ s.inj.flips, f.1 ≠ w.val * 0x10000 + 0x5F80 + 4 * i.val
      (s.clocked = true) ∧ (s.bist.ov = some o) ∧ (o.unit = x.val) ∧ (o.spare = some sp) ∧ (o.work = some w) ∧ (x ≠ sp) ∧ (sound s w) ∧ ((∀ z ∈ s.claims, z.at_ ≠ max s.now (o.t0 + 64))) ∧ (o.stage = .back) ∧ (s.clu[sp].runs = true) ∧ (s.clu[sp].run = none) ∧ (s.clu[sp].halt = false) ∧ ∃ n : Fin 32, (s.edg.ch[n].owner = sp.val)) :=
  ⟨⟨{ idle3 (peg 1 4 .armed (some 9)) with take := [⟨3, 8, 0, .loading, none, false, none⟩] }, 3, 3, 8, false, 3, 1, ⟨3, 8, 0, .loading, none, false, none⟩, by decide +kernel⟩,
    ⟨{ idle3 (peg 1 4 .armed (some 9)) with take := [⟨3, 8, 0, .loading, none, false, none⟩] }, 3, 3, 8, false, 3, 1, ⟨3, 8, 0, .loading, none, false, none⟩, by decide +kernel⟩,
    ⟨(idle3 (peg 1 4 .armed none)).setClu 8 fun k => { k with role := .stopped }, 3, 3, 8, false, 3, 0, ⟨3, 8, 0, .loading, none, false, none⟩, by decide +kernel⟩,
    ⟨(idle3 (peg 1 4 .armed none)).setClu 8 fun k => { k with role := .stopped }, 3, 3, 8, false, 3, 0, ⟨3, 8, 0, .loading, none, false, none⟩, by decide +kernel⟩,
    ⟨(idle3 (peg 1 4 .armed none)).setClu 8 fun k => { k with role := .stopped }, 3, 3, 8, false, 3, 0, ⟨3, 8, 0, .loading, none, false, none⟩, by decide +kernel⟩,
    ⟨up, 3, 3, 8, false, 3, 0, ⟨3, 8, 0, .loading, none, false, none⟩, by decide +kernel⟩,
    ⟨{ idle3 (peg 1 4 .armed (some 9)) with take := [⟨3, 8, 0, .loading, none, false, none⟩] }, 3, 3, 8, false, 3, 1, ⟨3, 8, 0, .loading, none, false, none⟩, by decide +kernel⟩,
    ⟨{ idle3 (peg 1 4 .committed (some 9)) with take := [⟨3, 8, 0, .loading, none, false, none⟩] }, 3, 3, 8, false, 3, 1, ⟨3, 8, 0, .loading, none, false, none⟩, by decide +kernel⟩,
    ⟨{ idle3 (peg 5 2 .dwelling (some 9)) with take := [⟨3, 8, 0, .loading, none, false, none⟩] }, 3, 3, 8, false, 3, 1, ⟨3, 8, 0, .loading, none, false, none⟩, by decide +kernel⟩,
    ⟨{ idle3 (peg 1 4 .committed none) with take := [⟨3, 8, 0, .loading, none, false, none⟩] }, 3, 3, 8, false, 3, 0, ⟨3, 8, 0, .loading, none, false, none⟩, by decide +kernel⟩,
    ⟨{ idle3 (peg 1 4 .committed none) with take := [⟨3, 8, 0, .pass, none, false, none⟩] }, 3, 3, 8, false, 3, 0, ⟨3, 8, 0, .pass, none, false, none⟩, by decide +kernel⟩,
    ⟨{ idle3 (peg 1 4 .armed none) with bist := { up.bist with ov := some ⟨3, 0, .prepare, some 8, some 3, .active, false, 0⟩ } }, ⟨3, 0, .prepare, some 8, some 3, .active, false, 0⟩, 3, 8, 3, by decide +kernel⟩,
    ⟨{ (((idle3 (peg 1 4 .armed none)).setClu 8 fun k => { k with role := .carrying }).setECh 4 fun x => { x with owner := 8 }) with bist := { up.bist with ov := some ⟨3, 0, .back, some 8, some 3, .active, false, 0⟩ } }, ⟨3, 0, .back, some 8, some 3, .active, false, 0⟩, 3, 8, 3, by decide +kernel⟩⟩

/-- States and operands that meet the hypotheses of ShotStarts. -/
theorem test_meets_ShotStarts :
    (∃ (s : State) (c : Fin 32) (l : Sel) (x : WaitStart) (rest : List WaitStart), (s.clocked = true) ∧ let d := s.drv.ch[c]
      let b := bankOf c
      let y := s.drv.bank[b]
      let rail := s.drv.bst[railOf b]
      let edge (z : Fin 32) : Nat := ((s.edg.ch[z].fire.getD 0) + 63) / 64
      let before : List (Fin 32) := (List.finRange 32).filter fun z => decide (z < c) && decide (bankOf z = b) && s.drv.ch[z].startPend
            && decide (edge z = edge c)
      let mine : Prop := d.startPend = true ∧ d.sel = some l ∧ s.drvOff = false ∧ s.rb Reg.chCfg c.val 0 = true
            ∧ s.chHeld c = false ∧ s.edg.ch[c].owner < 9 ∧ 4 * edge c ≤ s.now ∧ s.now = 4 * s.dclk
      let takes : Prop := mine ∧ before = []
      let clean : Prop := ∀ f ∈ s.inj.flips, secdedAt f.1 = none
      let clear : Prop := d.flt = false ∧ s.rb Reg.bnkDiag b.val 10 = false
      let sound : Prop := clear ∧ clean ∧ s.dutyOver c = false
      (takes) ∧ (sound) ∧ (d.shot = none) ∧ (y.lead = none) ∧ (y.waits = []) ∧ (s.gapPassed b = true) ∧ (rail.rdy = true))
    ∧ (∃ (s : State) (c : Fin 32) (l : Sel) (x : WaitStart) (rest : List WaitStart), (s.clocked = true) ∧ let d := s.drv.ch[c]
      let b := bankOf c
      let edge (z : Fin 32) : Nat := ((s.edg.ch[z].fire.getD 0) + 63) / 64
      let before : List (Fin 32) := (List.finRange 32).filter fun z => decide (z < c) && decide (bankOf z = b) && s.drv.ch[z].startPend
            && decide (edge z = edge c)
      let mine : Prop := d.startPend = true ∧ d.sel = some l ∧ s.drvOff = false ∧ s.rb Reg.chCfg c.val 0 = true
            ∧ s.chHeld c = false ∧ s.edg.ch[c].owner < 9 ∧ 4 * edge c ≤ s.now ∧ s.now = 4 * s.dclk
      let takes : Prop := mine ∧ before = []
      (takes) ∧ (d.flt = true) ∧ (d.shot = none))
    ∧ (∃ (s : State) (c : Fin 32) (l : Sel) (x : WaitStart) (rest : List WaitStart), (s.clocked = true) ∧ let d := s.drv.ch[c]
      let b := bankOf c
      let edge (z : Fin 32) : Nat := ((s.edg.ch[z].fire.getD 0) + 63) / 64
      let before : List (Fin 32) := (List.finRange 32).filter fun z => decide (z < c) && decide (bankOf z = b) && s.drv.ch[z].startPend
            && decide (edge z = edge c)
      let mine : Prop := d.startPend = true ∧ d.sel = some l ∧ s.drvOff = false ∧ s.rb Reg.chCfg c.val 0 = true
            ∧ s.chHeld c = false ∧ s.edg.ch[c].owner < 9 ∧ 4 * edge c ≤ s.now ∧ s.now = 4 * s.dclk
      let takes : Prop := mine ∧ before = []
      let words : List Nat := [Reg.bnkDiag.addr b.val 0, Reg.chDuty.addr c.val 0, Reg.bnkKerf.addr b.val 0]
      let clear : Prop := d.flt = false ∧ s.rb Reg.bnkDiag b.val 10 = false
      (takes) ∧ (clear) ∧ ((s.wordsCheck words).2 = false) ∧ (d.shot = none))
    ∧ (∃ (s : State) (c : Fin 32) (l : Sel) (x : WaitStart) (rest : List WaitStart), (s.clocked = true) ∧ let d := s.drv.ch[c]
      let b := bankOf c
      let edge (z : Fin 32) : Nat := ((s.edg.ch[z].fire.getD 0) + 63) / 64
      let before : List (Fin 32) := (List.finRange 32).filter fun z => decide (z < c) && decide (bankOf z = b) && s.drv.ch[z].startPend
            && decide (edge z = edge c)
      let mine : Prop := d.startPend = true ∧ d.sel = some l ∧ s.drvOff = false ∧ s.rb Reg.chCfg c.val 0 = true
            ∧ s.chHeld c = false ∧ s.edg.ch[c].owner < 9 ∧ 4 * edge c ≤ s.now ∧ s.now = 4 * s.dclk
      let takes : Prop := mine ∧ before = []
      let clean : Prop := ∀ f ∈ s.inj.flips, secdedAt f.1 = none
      let clear : Prop := d.flt = false ∧ s.rb Reg.bnkDiag b.val 10 = false
      (takes) ∧ (clear) ∧ (clean) ∧ (s.dutyOver c = true) ∧ (d.shot = none))
    ∧ (∃ (s : State) (c : Fin 32) (l : Sel) (x : WaitStart) (rest : List WaitStart), (s.clocked = true) ∧ let d := s.drv.ch[c]
      let b := bankOf c
      let k := chIn c
      let y := s.drv.bank[b]
      let edge (z : Fin 32) : Nat := ((s.edg.ch[z].fire.getD 0) + 63) / 64
      let before : List (Fin 32) := (List.finRange 32).filter fun z => decide (z < c) && decide (bankOf z = b) && s.drv.ch[z].startPend
            && decide (edge z = edge c)
      let mine : Prop := d.startPend = true ∧ d.sel = some l ∧ s.drvOff = false ∧ s.rb Reg.chCfg c.val 0 = true
            ∧ s.chHeld c = false ∧ s.edg.ch[c].owner < 9 ∧ 4 * edge c ≤ s.now ∧ s.now = 4 * s.dclk
      let takes : Prop := mine ∧ before = []
      let clean : Prop := ∀ f ∈ s.inj.flips, secdedAt f.1 = none
      let clear : Prop := d.flt = false ∧ s.rb Reg.bnkDiag b.val 10 = false
      let sound : Prop := clear ∧ clean ∧ s.dutyOver c = false
      (takes) ∧ (sound) ∧ (d.shot = none) ∧ (y.lead ≠ none) ∧ (y.lead ≠ some k) ∧ ((∀ z ∈ y.waits, z.ch ≠ k)) ∧ (s.deferOf b ≠ 0))
    ∧ (∃ (s : State) (c : Fin 32) (l : Sel) (x : WaitStart) (rest : List WaitStart), (s.clocked = true) ∧ let d := s.drv.ch[c]
      let b := bankOf c
      let k := chIn c
      let y := s.drv.bank[b]
      let edge (z : Fin 32) : Nat := ((s.edg.ch[z].fire.getD 0) + 63) / 64
      let before : List (Fin 32) := (List.finRange 32).filter fun z => decide (z < c) && decide (bankOf z = b) && s.drv.ch[z].startPend
            && decide (edge z = edge c)
      let mine : Prop := d.startPend = true ∧ d.sel = some l ∧ s.drvOff = false ∧ s.rb Reg.chCfg c.val 0 = true
            ∧ s.chHeld c = false ∧ s.edg.ch[c].owner < 9 ∧ 4 * edge c ≤ s.now ∧ s.now = 4 * s.dclk
      let takes : Prop := mine ∧ before = []
      let clean : Prop := ∀ f ∈ s.inj.flips, secdedAt f.1 = none
      let clear : Prop := d.flt = false ∧ s.rb Reg.bnkDiag b.val 10 = false
      let sound : Prop := clear ∧ clean ∧ s.dutyOver c = false
      (takes) ∧ (sound) ∧ (d.shot = none) ∧ (y.lead ≠ none) ∧ (y.lead ≠ some k) ∧ ((∀ z ∈ y.waits, z.ch ≠ k)) ∧ (s.deferOf b = 0))
    ∧ (∃ (s : State) (c : Fin 32) (l : Sel) (x : WaitStart) (rest : List WaitStart), (s.clocked = true) ∧ let d := s.drv.ch[c]
      let b := bankOf c
      let y := s.drv.bank[b]
      let rail := s.drv.bst[railOf b]
      let edge (z : Fin 32) : Nat := ((s.edg.ch[z].fire.getD 0) + 63) / 64
      let before : List (Fin 32) := (List.finRange 32).filter fun z => decide (z < c) && decide (bankOf z = b) && s.drv.ch[z].startPend
            && decide (edge z = edge c)
      let mine : Prop := d.startPend = true ∧ d.sel = some l ∧ s.drvOff = false ∧ s.rb Reg.chCfg c.val 0 = true
            ∧ s.chHeld c = false ∧ s.edg.ch[c].owner < 9 ∧ 4 * edge c ≤ s.now ∧ s.now = 4 * s.dclk
      let clean : Prop := ∀ f ∈ s.inj.flips, secdedAt f.1 = none
      let clear : Prop := d.flt = false ∧ s.rb Reg.bnkDiag b.val 10 = false
      let sound : Prop := clear ∧ clean ∧ s.dutyOver c = false
      (mine) ∧ (sound) ∧ (d.shot = none) ∧ (y.lead = none) ∧ (y.waits = []) ∧ (s.gapPassed b = true) ∧ (rail.rdy = true) ∧ (s.deferOf b ≠ 0) ∧ (before.head?).any (fun z => decide ((before = [z]) ∧ (s.drv.ch[z].sel.isSome = true) ∧ (s.rb Reg.chCfg z.val 0 = true) ∧ (s.chHeld z = false) ∧ (s.edg.ch[z].owner < 9) ∧ (s.drv.ch[z].flt = false) ∧ (s.dutyOver z = false) ∧ (s.drv.ch[z].shot = none))) = true)
    ∧ (∃ (s : State) (c : Fin 32) (l : Sel) (x : WaitStart) (rest : List WaitStart), (s.clocked = true) ∧ let d := s.drv.ch[c]
      let b := bankOf c
      let edge (z : Fin 32) : Nat := ((s.edg.ch[z].fire.getD 0) + 63) / 64
      let before : List (Fin 32) := (List.finRange 32).filter fun z => decide (z < c) && decide (bankOf z = b) && s.drv.ch[z].startPend
            && decide (edge z = edge c)
      (d.startPend = true) ∧ (before = []) ∧ (s.drvOff = true ∨ s.chHeld c = true))
    ∧ (∃ (s : State) (c : Fin 32) (l : Sel) (x : WaitStart) (rest : List WaitStart), (s.clocked = true) ∧ let b := bankOf c
      let k := chIn c
      let y := s.drv.bank[b]
      let rail := s.drv.bst[railOf b]
      let edge (z : Fin 32) : Nat := ((s.edg.ch[z].fire.getD 0) + 63) / 64
      let gap : Nat := match y.released with
            | some r => max (r + s.rf Reg.bnkKerf b.val 31 20) x.edge
            | none => x.edge
      (y.waits = x :: rest) ∧ (x.ch = k) ∧ (x.rail = false) ∧ (y.lead = none) ∧ (x.edge + s.deferOf b < gap))
    ∧ (∃ (s : State) (c : Fin 32) (l : Sel) (x : WaitStart) (rest : List WaitStart), (s.clocked = true) ∧ let b := bankOf c
      let k := chIn c
      let y := s.drv.bank[b]
      let rail := s.drv.bst[railOf b]
      let edge (z : Fin 32) : Nat := ((s.edg.ch[z].fire.getD 0) + 63) / 64
      let clean : Prop := ∀ f ∈ s.inj.flips, secdedAt f.1 = none
      let gap : Nat := match y.released with
            | some r => max (r + s.rf Reg.bnkKerf b.val 31 20) x.edge
            | none => x.edge
      (y.waits = x :: rest) ∧ (x.ch = k) ∧ (x.rail = false) ∧ (y.lead = none) ∧ (gap ≤ x.edge + s.deferOf b) ∧ (rail.rdy = true) ∧ (clean))
    ∧ (∃ (s : State) (c : Fin 32) (l : Sel) (x : WaitStart) (rest : List WaitStart), (s.clocked = true) ∧ let b := bankOf c
      let k := chIn c
      let y := s.drv.bank[b]
      let rail := s.drv.bst[railOf b]
      let edge (z : Fin 32) : Nat := ((s.edg.ch[z].fire.getD 0) + 63) / 64
      let gap : Nat := match y.released with
            | some r => max (r + s.rf Reg.bnkKerf b.val 31 20) x.edge
            | none => x.edge
      (y.waits = x :: rest) ∧ (x.ch = k) ∧ (x.rail = false) ∧ (y.lead = none) ∧ (gap ≤ x.edge + s.deferOf b) ∧ (rail.rdy = false))
    ∧ (∃ (s : State) (c : Fin 32) (l : Sel) (x : WaitStart) (rest : List WaitStart), (s.clocked = true) ∧ let b := bankOf c
      let k := chIn c
      let y := s.drv.bank[b]
      let rail := s.drv.bst[railOf b]
      (y.waits = x :: rest) ∧ (x.ch = k) ∧ (x.rail = false) ∧ (x.restart = false))
    ∧ (∃ (s : State) (c : Fin 32) (l : Sel) (x : WaitStart) (rest : List WaitStart), (s.clocked = true) ∧ let b := bankOf c
      let k := chIn c
      let y := s.drv.bank[b]
      let rail := s.drv.bst[railOf b]
      let clean : Prop := ∀ f ∈ s.inj.flips, secdedAt f.1 = none
      (y.waits = x :: rest) ∧ (x.ch = k) ∧ (x.rail = true) ∧ (rail.rdy = true) ∧ (clean))
    ∧ (∃ (s : State) (c : Fin 32) (l : Sel) (x : WaitStart) (rest : List WaitStart), (s.clocked = true) ∧ let b := bankOf c
      let k := chIn c
      let y := s.drv.bank[b]
      let rail := s.drv.bst[railOf b]
      let clean : Prop := ∀ f ∈ s.inj.flips, secdedAt f.1 = none
      (y.waits = x :: rest) ∧ (x.ch = k) ∧ (x.rail = true) ∧ (rail.rdy = false) ∧ ((s.profile x.sel.set).batfb = true) ∧ (clean))
    ∧ (∃ (s : State) (c : Fin 32) (l : Sel) (x : WaitStart) (rest : List WaitStart), (s.clocked = true) ∧ let b := bankOf c
      let k := chIn c
      let y := s.drv.bank[b]
      let rail := s.drv.bst[railOf b]
      (y.waits = x :: rest) ∧ (x.ch = k) ∧ (x.rail = true) ∧ (rail.rdy = false) ∧ ((s.profile x.sel.set).batfb = false) ∧ (x.restart = false)) :=
  ⟨⟨(((starting.setBst 0 fun x => { x with rdy := true }).setCh 5 fun d => { d with startPend := true, sel := some ⟨0, 6, 9⟩ }).setRf Reg.chCfg 5 0 0 1).setECh 5 fun x => { x with owner := 3 }, 4, ⟨0, 5, 9⟩, ⟨0, false, 0, ⟨0, 5, 9⟩, false, 0⟩, [], by decide +kernel⟩,
    ⟨starting.setCh 4 fun d => { d with flt := true }, 4, ⟨0, 5, 9⟩, ⟨0, false, 0, ⟨0, 5, 9⟩, false, 0⟩, [], by decide +kernel⟩,
    ⟨{ starting with inj := { up.inj with flips := [(Reg.chDuty.addr 4 0, 2)] } }, 4, ⟨0, 5, 9⟩, ⟨0, false, 0, ⟨0, 5, 9⟩, false, 0⟩, [], by decide +kernel⟩,
    ⟨starting.setCh 4 fun d => { d with open_ := 100000000 }, 4, ⟨0, 5, 9⟩, ⟨0, false, 0, ⟨0, 5, 9⟩, false, 0⟩, [], by decide +kernel⟩,
    ⟨(starting.setBank 1 fun b => { b with lead := some 1 }).setRf Reg.bnkKerf 1 19 0 1, 4, ⟨0, 5, 9⟩, ⟨0, false, 0, ⟨0, 5, 9⟩, false, 0⟩, [], by decide +kernel⟩,
    ⟨(starting.setBank 1 fun b => { b with lead := some 1 }).setRf Reg.bnkKerf 1 19 0 0, 4, ⟨0, 5, 9⟩, ⟨0, false, 0, ⟨0, 5, 9⟩, false, 0⟩, [], by decide +kernel⟩,
    ⟨((((starting.setBst 0 fun x => { x with rdy := true }).setCh 5 fun d => { d with startPend := true, sel := some ⟨0, 6, 9⟩ }).setRf Reg.chCfg 5 0 0 1).setECh 5 fun x => { x with owner := 3 }).setRf Reg.bnkKerf 1 19 0 100, 5, ⟨0, 6, 9⟩, ⟨0, false, 0, ⟨0, 5, 9⟩, false, 0⟩, [], by decide +kernel⟩,
    ⟨starting.setECh 4 fun x => { x with owner := 15 }, 4, ⟨0, 5, 9⟩, ⟨0, false, 0, ⟨0, 5, 9⟩, false, 0⟩, [], by decide +kernel⟩,
    ⟨(waiting [⟨0, false, 0, ⟨0, 5, 9⟩, false, 0⟩] true).setBank 1 fun b => { b with released := some 100000 }, 4, ⟨0, 5, 9⟩, ⟨0, false, 0, ⟨0, 5, 9⟩, false, 0⟩, [], by decide +kernel⟩,
    ⟨waiting [⟨0, false, 0, ⟨0, 5, 9⟩, false, 0⟩] true, 4, ⟨0, 5, 9⟩, ⟨0, false, 0, ⟨0, 5, 9⟩, false, 0⟩, [], by decide +kernel⟩,
    ⟨waiting [⟨0, false, 0, ⟨0, 5, 9⟩, false, 0⟩] false, 4, ⟨0, 5, 9⟩, ⟨0, false, 0, ⟨0, 5, 9⟩, false, 0⟩, [], by decide +kernel⟩,
    ⟨(waiting [⟨0, false, 0, ⟨0, 5, 9⟩, false, 0⟩] true).setBank 1 fun b => { b with released := some 100000 }, 4, ⟨0, 5, 9⟩, ⟨0, false, 0, ⟨0, 5, 9⟩, false, 0⟩, [], by decide +kernel⟩,
    ⟨waiting [⟨0, false, 0, ⟨0, 5, 9⟩, true, 0⟩] true, 4, ⟨0, 5, 9⟩, ⟨0, false, 0, ⟨0, 5, 9⟩, true, 0⟩, [], by decide +kernel⟩,
    ⟨(waiting [⟨0, false, 0, ⟨0, 5, 9⟩, true, 0⟩] false).setRf Reg.psMode 0 1 1 1, 4, ⟨0, 5, 9⟩, ⟨0, false, 0, ⟨0, 5, 9⟩, true, 0⟩, [], by decide +kernel⟩,
    ⟨waiting [⟨0, false, 0, ⟨0, 5, 9⟩, true, 0⟩, ⟨1, false, 0, ⟨0, 5, 9⟩, false, 0⟩] false, 4, ⟨0, 5, 9⟩, ⟨0, false, 0, ⟨0, 5, 9⟩, true, 0⟩, [⟨1, false, 0, ⟨0, 5, 9⟩, false, 0⟩], by decide +kernel⟩⟩

/-- States and operands that meet the hypotheses of ShotPhases. -/
theorem test_meets_ShotPhases :
    (∃ (s : State) (c : Fin 32) (h : Shot) (cur : Nat) (up v : Bool), (s.clocked = true) ∧ (s.drv.ch[c].shot = some h) ∧ (h.phase = .boost))
    ∧ (∃ (s : State) (c : Fin 32) (h : Shot) (cur : Nat) (up v : Bool), (s.clocked = true) ∧ (s.drv.ch[c].shot = some h) ∧ (h.phase = .peak) ∧ (s.railWait c = false) ∧ (s.drv.bank[bankOf c].lead = some (chIn c)))
    ∧ (∃ (s : State) (c : Fin 32) (h : Shot) (cur : Nat) (up v : Bool), (s.clocked = true) ∧ (s.drv.ch[c].shot = some h) ∧ (h.phase = .bypass))
    ∧ (∃ (s : State) (c : Fin 32) (h : Shot) (cur : Nat) (up v : Bool), (s.clocked = true) ∧ (s.drv.ch[c].shot = some h) ∧ (h.phase = .peak ∨ h.phase = .hold) ∧ (h.blank ≤ s.dclk) ∧ (h.minEnd ≤ s.dclk) ∧ (h.swOn = up))
    ∧ (∃ (s : State) (c : Fin 32) (h : Shot) (cur : Nat) (up v : Bool), (s.clocked = true) ∧ (s.drv.ch[c].shot = some h) ∧ (h.phase = .peak ∨ h.phase = .hold) ∧ (h.blank ≤ s.dclk) ∧ (s.dclk < h.minEnd) ∧ (h.swOn = up))
    ∧ (∃ (s : State) (c : Fin 32) (h : Shot) (cur : Nat) (up v : Bool), (s.clocked = true) ∧ (s.drv.ch[c].shot = some h) ∧ (h.phase = .peak ∨ h.phase = .hold) ∧ (s.dclk < h.blank ∨ h.swOn = !up))
    ∧ (∃ (s : State) (c : Fin 32) (h : Shot) (cur : Nat) (up v : Bool), (s.clocked = true) ∧ (s.drv.ch[c].shot = some h) ∧ (h.phase = .peak ∨ h.phase = .hold) ∧ (h.deferred = some v)) :=
  ⟨⟨firing (shot .boost), 4, shot .boost, 0, false, true, by decide +kernel⟩,
    ⟨firing (shot .peak), 4, shot .peak, 0, false, true, by decide +kernel⟩,
    ⟨firing (shot .bypass), 4, shot .bypass, 0, false, true, by decide +kernel⟩,
    ⟨firing (shot .peak), 4, shot .peak, 0, false, true, by decide +kernel⟩,
    ⟨firing ({ shot .hold with minEnd := 1 }), 4, { shot .hold with minEnd := 1 }, 0, false, true, by decide +kernel⟩,
    ⟨firing ({ shot .hold with blank := 1 }), 4, { shot .hold with blank := 1 }, 0, false, true, by decide +kernel⟩,
    ⟨firing ({ shot .hold with deferred := some true }), 4, { shot .hold with deferred := some true }, 0, false, true, by decide +kernel⟩⟩

/-- States and operands that meet the hypotheses of ShotEnds. -/
theorem test_meets_ShotEnds :
    (∃ (s : State) (c : Fin 32) (h : Shot) (q o tm : Nat) (det : Bool) (z : Due) (rest : List Xfer), (s.clocked = true) ∧ let d := s.drv.ch[c]
      (d.shot = some h) ∧ (h.phase ≠ .recovery) ∧ (d.offPend = true) ∧ (d.startPend = false) ∧ (s.drvOff = false) ∧ (s.chHeld c = false) ∧ (s.waitOf c = none))
    ∧ (∃ (s : State) (c : Fin 32) (h : Shot) (q o tm : Nat) (det : Bool) (z : Due) (rest : List Xfer), (s.clocked = true) ∧ let d := s.drv.ch[c]
      (d.shot = some h) ∧ (h.phase ≠ .recovery) ∧ (s.drv.bank[bankOf c].conv.recovery = false))
    ∧ (∃ (s : State) (c : Fin 32) (h : Shot) (q o tm : Nat) (det : Bool) (z : Due) (rest : List Xfer), (s.clocked = true) ∧ let d := s.drv.ch[c]
      (d.shot = some h) ∧ (h.phase = .recovery) ∧ (h.cut = false) ∧ (s.clsEn c = true) ∧ (h.claim = false))
    ∧ (∃ (s : State) (c : Fin 32) (h : Shot) (q o tm : Nat) (det : Bool) (z : Due) (rest : List Xfer), (s.clocked = true) ∧ let e := s.edg.ch[c]
      (s.links.arrived = .closerec ⟨c, q, o, tm, det⟩ :: rest) ∧ ((e.due.find? fun x => decide (x.seq = q)) = some z) ∧ ((s.carrier z.work).isSome = true) ∧ (((s.work[z.work].cues.filter (·.cue = 19)).length < 8)))
    ∧ (∃ (s : State) (c : Fin 32) (h : Shot) (q o tm : Nat) (det : Bool) (z : Due) (rest : List Xfer), (s.clocked = true) ∧ let e := s.edg.ch[c]
      (s.links.arrived = .closerec ⟨c, q, o, tm, det⟩ :: rest) ∧ ((∀ x ∈ e.due, x.seq ≠ q)))
    ∧ (∃ (s : State) (c : Fin 32) (h : Shot) (q o tm : Nat) (det : Bool) (z : Due) (rest : List Xfer), (s.clocked = true) ∧ (s.links.arrived = .refuse c q o :: rest))
    ∧ (∃ (s : State) (c : Fin 32) (h : Shot) (q o tm : Nat) (det : Bool) (z : Due) (rest : List Xfer), (s.clocked = true) ∧ (s.links.arrived = .holdend c :: rest)) :=
  ⟨⟨(firing (shot .peak)).setCh 4 fun d => { d with offPend := true }, 4, shot .peak, 5, 9, 0, false, ⟨5, 9, 3, 0⟩, [], by decide +kernel⟩,
    ⟨(firing (shot .peak)).setCh 4 fun d => { d with offPend := true }, 4, shot .peak, 5, 9, 0, false, ⟨5, 9, 3, 0⟩, [], by decide +kernel⟩,
    ⟨(firing (shot .recovery)).setRf Reg.chCfg 4 2 2 1, 4, shot .recovery, 5, 9, 0, false, ⟨5, 9, 3, 0⟩, [], by decide +kernel⟩,
    ⟨{ ((idle3 Peg.empty).setECh 4 fun x => { x with due := [⟨5, 9, 3, 0⟩] }) with links := { up.links with arrived := [.closerec ⟨4, 5, 9, 0, false⟩] } }, 4, shot .peak, 5, 9, 0, false, ⟨5, 9, 3, 0⟩, [], by decide +kernel⟩,
    ⟨{ calm with links := { up.links with arrived := [.closerec ⟨4, 5, 9, 0, false⟩] } }, 4, shot .peak, 5, 9, 0, false, ⟨5, 9, 3, 0⟩, [], by decide +kernel⟩,
    ⟨{ calm with links := { up.links with arrived := [.refuse 4 5 9] } }, 4, shot .peak, 5, 9, 0, false, ⟨5, 9, 3, 0⟩, [], by decide +kernel⟩,
    ⟨{ calm with links := { up.links with arrived := [.holdend 4] } }, 4, shot .peak, 5, 9, 0, false, ⟨5, 9, 3, 0⟩, [], by decide +kernel⟩⟩

/-- States and operands that meet the hypotheses of RailsBucketsAndCapture. -/
theorem test_meets_RailsBucketsAndCapture :
    (∃ (s : State) (k : Fin 2) (v : Nat) (c : Fin 32) (b : Fin 8) (u : Int), (s.clocked = true) ∧ let x := s.drv.bst[k]
      let vset : Nat := max 48 (min 144 (s.rf Reg.bstCfg k.val 8 1))
      let vovp : Nat := max 2 (min 40 (s.rf Reg.bstCfg k.val 24 17))
      let ovp : Bool := if x.ovp then decide (5 * vset ≤ v) else decide (5 * (vset + vovp) ≤ v)
      (ovp = true) ∧ (x.ovp = false))
    ∧ (∃ (s : State) (k : Fin 2) (v : Nat) (c : Fin 32) (b : Fin 8) (u : Int), (s.clocked = true) ∧ let x := s.drv.bst[k]
      let vset : Nat := max 48 (min 144 (s.rf Reg.bstCfg k.val 8 1))
      let vovp : Nat := max 2 (min 40 (s.rf Reg.bstCfg k.val 24 17))
      let ovp : Bool := if x.ovp then decide (5 * vset ≤ v) else decide (5 * (vset + vovp) ≤ v)
      (ovp = false))
    ∧ (∃ (s : State) (k : Fin 2) (v : Nat) (c : Fin 32) (b : Fin 8) (u : Int), (s.clocked = true) ∧ ∃ j : Fin 2, (j ≠ k))
    ∧ (∃ (s : State) (k : Fin 2) (v : Nat) (c : Fin 32) (b : Fin 8) (u : Int), (s.clocked = true) ∧ let x := s.drv.bst[k]
      (x.on = true))
    ∧ (∃ (s : State) (k : Fin 2) (v : Nat) (c : Fin 32) (b : Fin 8) (u : Int), (s.clocked = true) ∧ let x := s.drv.bst[k]
      (x.on = false))
    ∧ (∃ (s : State) (k : Fin 2) (v : Nat) (c : Fin 32) (b : Fin 8) (u : Int), (s.clocked = true) ∧ let x := s.drv.bst[k]
      (x.toff).any (fun _ => true) = true)
    ∧ (∃ (s : State) (k : Fin 2) (v : Nat) (c : Fin 32) (b : Fin 8) (u : Int), (s.clocked = true) ∧ let x := s.drv.bst[k]
      (x.toff = none))
    ∧ (∃ (s : State) (k : Fin 2) (v : Nat) (c : Fin 32) (b : Fin 8) (u : Int), (s.clocked = true) ∧ ∃ e : Fin 32, (e ≠ c))
    ∧ (∃ (s : State) (k : Fin 2) (v : Nat) (c : Fin 32) (b : Fin 8) (u : Int), (s.clocked = true) ∧ let y := s.drv.bank[b].conv
      (y.ch).any (fun m => decide ((s.drv.ch[chOf b m].shot).any (fun h => decide ((s.capEn (chOf b m) = true) ∧ (y.held.length = 27))))) = true)
    ∧ (∃ (s : State) (k : Fin 2) (v : Nat) (c : Fin 32) (b : Fin 8) (u : Int), (s.clocked = true) ∧ let y := s.drv.bank[b].conv
      (y.ch).any (fun m => decide ((y.held.length < 27))) = true) :=
  ⟨⟨calm, 1, 100000, 4, 1, 0, by decide +kernel⟩,
    ⟨calm.setBst 1 fun x => { x with toff := some 0 }, 1, 0, 4, 1, 0, by decide +kernel⟩,
    ⟨calm.setBst 1 fun x => { x with toff := some 0 }, 1, 0, 4, 1, 0, by decide +kernel⟩,
    ⟨calm.setBst 1 fun x => { x with on := true }, 1, 0, 4, 1, 0, by decide +kernel⟩,
    ⟨calm.setBst 1 fun x => { x with toff := some 0 }, 1, 0, 4, 1, 0, by decide +kernel⟩,
    ⟨calm.setBst 1 fun x => { x with toff := some 0 }, 1, 0, 4, 1, 0, by decide +kernel⟩,
    ⟨((firing (shot .peak)).setBank 1 fun b => { b with conv := ⟨some 0, false, false, [], List.replicate 27 0⟩ }).setRf Reg.chCfg 4 1 1 1, 1, 0, 4, 1, 0, by decide +kernel⟩,
    ⟨calm.setBst 1 fun x => { x with toff := some 0 }, 1, 0, 4, 1, 0, by decide +kernel⟩,
    ⟨((firing (shot .peak)).setBank 1 fun b => { b with conv := ⟨some 0, false, false, [], List.replicate 27 0⟩ }).setRf Reg.chCfg 4 1 1 1, 1, 0, 4, 1, 0, by decide +kernel⟩,
    ⟨calm.setBank 1 fun b => { b with conv := ⟨some 0, false, false, [], List.replicate 26 0⟩ }, 1, 0, 4, 1, 0, by decide +kernel⟩⟩

/-- States and operands that meet the hypotheses of DriverDiagnostics. -/
theorem test_meets_DriverDiagnostics :
    (∃ (s v : State) (c : Fin 32) (b : Fin 8) (n : Fin 24) (g u : Fin 16) (p : Fin 2), (s.clocked = true) ∧ (s.hsbOn b = true ∨ s.hsvOn b = true))
    ∧ (∃ (s v : State) (c : Fin 32) (b : Fin 8) (n : Fin 24) (g u : Fin 16) (p : Fin 2), (s.clocked = true) ∧ (s.hsbOn b = false) ∧ (s.hsvOn b = false))
    ∧ (∃ (s v : State) (c : Fin 32) (b : Fin 8) (n : Fin 24) (g u : Fin 16) (p : Fin 2), (s.clocked = true) ∧ let ign : Nat := 0x400 + (8 + n.val / 8) * 16 + n.val % 8
      (s.rb Reg.ignCfg n.val 1 = true) ∧ (s.drv.ign[n].dwellAt).any (fun _ => true) = true)
    ∧ (∃ (s v : State) (c : Fin 32) (b : Fin 8) (n : Fin 24) (g u : Fin 16) (p : Fin 2), (s.clocked = true) ∧ let ign : Nat := 0x400 + (8 + n.val / 8) * 16 + n.val % 8
      (s.rb Reg.ignCfg n.val 1 = true) ∧ (s.drv.ign[n].sparkAt).any (fun _ => true) = true)
    ∧ (∃ (s v : State) (c : Fin 32) (b : Fin 8) (n : Fin 24) (g u : Fin 16) (p : Fin 2), (s.clocked = true) ∧ let ign : Nat := 0x400 + (8 + n.val / 8) * 16 + n.val % 8
      (s.rb Reg.ignCfg n.val 1 = false ∨ s.drv.ign[n].dwellAt = none))
    ∧ (∃ (s v : State) (c : Fin 32) (b : Fin 8) (n : Fin 24) (g u : Fin 16) (p : Fin 2), (s.clocked = true) ∧ let ign : Nat := 0x400 + (8 + n.val / 8) * 16 + n.val % 8
      (s.rb Reg.ignCfg n.val 1 = false ∨ s.drv.ign[n].sparkAt = none))
    ∧ (∃ (s v : State) (c : Fin 32) (b : Fin 8) (n : Fin 24) (g u : Fin 16) (p : Fin 2), (s.clocked = true) ∧ (s.drv.safe = true))
    ∧ (∃ (s v : State) (c : Fin 32) (b : Fin 8) (n : Fin 24) (g u : Fin 16) (p : Fin 2), (s.clocked = true) ∧ (s.drv.safe = false))
    ∧ (∃ (s v : State) (c : Fin 32) (b : Fin 8) (n : Fin 24) (g u : Fin 16) (p : Fin 2), (s.clocked = true) ∧ (s.Writable p) ∧ (s.edg.ch[c].owner = 12 ∨ s.edg.ch[c].owner = 15) ∧ (s.reach (Reg.chDiag.addr c.val 0) false = (v, true)))
    ∧ (∃ (s v : State) (c : Fin 32) (b : Fin 8) (n : Fin 24) (g u : Fin 16) (p : Fin 2), (s.clocked = true) ∧ (s.Writable p) ∧ (s.edg.ch[c].owner < 9))
    ∧ (∃ (s v : State) (c : Fin 32) (b : Fin 8) (n : Fin 24) (g u : Fin 16) (p : Fin 2), (s.clocked = true) ∧ (s.Writable p) ∧ (s.reach (Reg.bnkDiag.addr b.val 0) false = (v, true))) :=
  ⟨⟨firing (shot .boost), ((firing (shot .boost)).reach (Reg.chDiag.addr 4 0) false).1, 4, 1, 2, 0, 0, 0, by decide +kernel⟩,
    ⟨calm, (calm.reach (Reg.chDiag.addr 4 0) false).1, 4, 1, 2, 0, 0, 0, by decide +kernel⟩,
    ⟨(calm.setRf Reg.ignCfg 2 1 1 1).setDIgn 2 fun x => { x with dwellAt := some 0, sparkAt := some 0 }, calm, 4, 1, 2, 0, 0, 0, by decide +kernel⟩,
    ⟨(calm.setRf Reg.ignCfg 2 1 1 1).setDIgn 2 fun x => { x with dwellAt := some 0, sparkAt := some 0 }, calm, 4, 1, 2, 0, 0, 0, by decide +kernel⟩,
    ⟨firing (shot .boost), ((firing (shot .boost)).reach (Reg.chDiag.addr 4 0) false).1, 4, 1, 2, 0, 0, 0, by decide +kernel⟩,
    ⟨firing (shot .boost), ((firing (shot .boost)).reach (Reg.chDiag.addr 4 0) false).1, 4, 1, 2, 0, 0, 0, by decide +kernel⟩,
    ⟨up, (up.reach (Reg.chDiag.addr 4 0) false).1, 4, 1, 2, 0, 0, 0, by decide +kernel⟩,
    ⟨firing (shot .boost), ((firing (shot .boost)).reach (Reg.chDiag.addr 4 0) false).1, 4, 1, 2, 0, 0, 0, by decide +kernel⟩,
    ⟨calm, (calm.reach (Reg.chDiag.addr 4 0) false).1, 4, 1, 2, 0, 0, 0, by decide +kernel⟩,
    ⟨firing (shot .boost), ((firing (shot .boost)).reach (Reg.chDiag.addr 4 0) false).1, 4, 1, 2, 0, 0, 0, by decide +kernel⟩,
    ⟨firing (shot .boost), ((firing (shot .boost)).reach (Reg.chDiag.addr 4 0) false).1, 4, 1, 2, 0, 0, 0, by decide +kernel⟩⟩

/-- States and operands that meet the hypotheses of ModulatorCommands. -/
theorem test_meets_ModulatorCommands :
    (∃ (s : State) (p : Fin 11) (m : Fin 8) (k : Fin 2), (s.clocked = true) ∧ (s.measRuns = true) ∧ let u := s.windowsNow.touched Reg.modCmd m.val
      let x := u.ms.mod[m]
      let cmd : Nat := cmdKey (Reg.modCmd.addr m.val 0)
      let first : Prop := s.hwNow cmd < 2 * portRank p
      ((9 ≤ p.val → s.sys.st ≠ .lockout ∧ s.coll.relWait = none)) ∧ ((p.val = 10 → s.mntMay true = true)) ∧ (s.modOwner m = (if p.val < 9 then p.val else 12)) ∧ (s.simMode m = false) ∧ (first) ∧ (x.run = false) ∧ (x.req = none))
    ∧ (∃ (s : State) (p : Fin 11) (m : Fin 8) (k : Fin 2), (s.clocked = true) ∧ (s.measRuns = true) ∧ let u := s.windowsNow.touched Reg.modCmd m.val
      let x := u.ms.mod[m]
      let cmd : Nat := cmdKey (Reg.modCmd.addr m.val 0)
      let first : Prop := s.hwNow cmd < 2 * portRank p
      ((9 ≤ p.val → s.sys.st ≠ .lockout ∧ s.coll.relWait = none)) ∧ ((p.val = 10 → s.mntMay true = true)) ∧ (s.modOwner m = (if p.val < 9 then p.val else 12)) ∧ (s.simMode m = false) ∧ (first) ∧ (x.run = true ∨ x.req = some .pass))
    ∧ (∃ (s : State) (p : Fin 11) (m : Fin 8) (k : Fin 2), (s.clocked = true) ∧ (s.measRuns = true) ∧ let u := s.windowsNow.touched Reg.modCmd m.val
      let x := u.ms.mod[m]
      let cmd : Nat := cmdKey (Reg.modCmd.addr m.val 0)
      let first : Prop := s.hwNow cmd < 2 * portRank p
      let put (i : Nat) (w : Word) (dec : Nat) (y : Modulator) : Modulator := { y with
            entry := i, word := w, dec := dec, skip := (if dec ≤ 4 then 3 else 19) + fld w 9 5, kept := [], ovlSent := false,
            stream := y.stream + 1, stayDone := false }
      let urgent (t : State) (d : Fin 8) (y : Modulator) : Modulator := put y.entry (t.rg Reg.modUrg d.val 0) y.dec
            { y with req := some .urgent, broken := if y.run then some y.entry else none }
      ((9 ≤ p.val → s.sys.st ≠ .lockout ∧ s.coll.relWait = none)) ∧ ((p.val = 10 → s.mntMay true = true)) ∧ (s.modOwner m = (if p.val < 9 then p.val else 12)) ∧ (s.simMode m = false) ∧ (first) ∧ (x.run = false) ∧ (x.req = some .urgent))
    ∧ (∃ (s : State) (p : Fin 11) (m : Fin 8) (k : Fin 2), (s.clocked = true) ∧ (s.measRuns = true) ∧ let u := s.windowsNow.touched Reg.modCmd m.val
      let x := u.ms.mod[m]
      let cmd : Nat := cmdKey (Reg.modCmd.addr m.val 0)
      let first : Prop := s.hwNow cmd < 2 * portRank p
      ((9 ≤ p.val → s.sys.st ≠ .lockout ∧ s.coll.relWait = none)) ∧ ((p.val = 10 → s.mntMay true = true)) ∧ (s.modOwner m = (if p.val < 9 then p.val else 12)) ∧ (s.simMode m = false) ∧ (first) ∧ (x.run = true ∨ x.req.isSome = true) ∧ ∃ w : Fin 16, ((∀ r ∈ u.ms.win[w].runs, fld r.cfg 2 0 ≠ m.val)))
    ∧ (∃ (s : State) (p : Fin 11) (m : Fin 8) (k : Fin 2), (s.clocked = true) ∧ (s.measRuns = true) ∧ let u := s.windowsNow.touched Reg.modCmd m.val
      let x := u.ms.mod[m]
      let cmd : Nat := cmdKey (Reg.modCmd.addr m.val 0)
      let first : Prop := s.hwNow cmd < 2 * portRank p
      ((9 ≤ p.val → s.sys.st ≠ .lockout ∧ s.coll.relWait = none)) ∧ ((p.val = 10 → s.mntMay true = true)) ∧ (s.modOwner m = (if p.val < 9 then p.val else 12)) ∧ (s.simMode m = false) ∧ (first) ∧ (x.run = true ∨ x.req.isSome = true) ∧ ∃ w : Fin 16, (u.ms.win[w].runs).any (fun r => decide ((fld r.cfg 2 0 = m.val))) = true)
    ∧ (∃ (s : State) (p : Fin 11) (m : Fin 8) (k : Fin 2), (s.clocked = true) ∧ (s.measRuns = true) ∧ let u := s.windowsNow.touched Reg.modCmd m.val
      let x := u.ms.mod[m]
      let cmd : Nat := cmdKey (Reg.modCmd.addr m.val 0)
      let first : Prop := s.hwNow cmd < 2 * portRank p
      ((9 ≤ p.val → s.sys.st ≠ .lockout ∧ s.coll.relWait = none)) ∧ ((p.val = 10 → s.mntMay true = true)) ∧ (s.modOwner m = (if p.val < 9 then p.val else 12)) ∧ (s.simMode m = false) ∧ (first) ∧ (x.run = true ∨ x.req.isSome = true) ∧ (9 ≤ p.val))
    ∧ (∃ (s : State) (p : Fin 11) (m : Fin 8) (k : Fin 2), (s.clocked = true) ∧ (s.measRuns = true) ∧ let cmd : Nat := cmdKey (Reg.modCmd.addr m.val 0)
      let first : Prop := s.hwNow cmd < 2 * portRank p
      ((9 ≤ p.val → s.sys.st ≠ .lockout ∧ s.coll.relWait = none)) ∧ ((p.val = 10 → s.mntMay true = true)) ∧ (s.modOwner m = (if p.val < 9 then p.val else 12)) ∧ (s.simMode m = false) ∧ (¬first) ∧ (s.hwNow cmd / 8 % 4 = 0))
    ∧ (∃ (s : State) (p : Fin 11) (m : Fin 8) (k : Fin 2), (s.clocked = true) ∧ (s.measRuns = true) ∧ let u := s.windowsNow.touched Reg.modCmd m.val
      let x := u.ms.mod[m]
      let cmd : Nat := cmdKey (Reg.modCmd.addr m.val 0)
      let first : Prop := s.hwNow cmd < 2 * portRank p
      ((9 ≤ p.val → s.sys.st ≠ .lockout ∧ s.coll.relWait = none)) ∧ ((p.val = 10 → s.mntMay true = true)) ∧ (s.modOwner m = (if p.val < 9 then p.val else 12)) ∧ (s.simMode m = false) ∧ (¬first) ∧ (s.hwNow cmd / 8 % 4 = 1) ∧ (x.run = true))
    ∧ (∃ (s : State) (p : Fin 11) (m : Fin 8) (k : Fin 2), (s.clocked = true) ∧ (s.measRuns = true) ∧ let u := s.windowsNow.touched Reg.modCmd m.val
      let x := u.ms.mod[m]
      let cmd : Nat := cmdKey (Reg.modCmd.addr m.val 0)
      let first : Prop := s.hwNow cmd < 2 * portRank p
      ((9 ≤ p.val → s.sys.st ≠ .lockout ∧ s.coll.relWait = none)) ∧ ((p.val = 10 → s.mntMay true = true)) ∧ (s.modOwner m = (if p.val < 9 then p.val else 12)) ∧ (s.simMode m = false) ∧ (¬first) ∧ (s.hwNow cmd / 8 % 4 = 2) ∧ (x.run = false) ∧ (x.req = none))
    ∧ (∃ (s : State) (p : Fin 11) (m : Fin 8) (k : Fin 2), (s.clocked = true) ∧ (s.measRuns = true) ∧ let u := s.windowsNow.touched Reg.modCmd m.val
      let x := u.ms.mod[m]
      let cmd : Nat := cmdKey (Reg.modCmd.addr m.val 0)
      let calm : Prop := s.hwNow cmd < 2 * portRank p ∨ s.hwNow cmd / 8 = 0
      ((9 ≤ p.val → s.sys.st ≠ .lockout ∧ s.coll.relWait = none)) ∧ ((p.val = 10 → s.mntMay true = true)) ∧ (s.modOwner m = (if p.val < 9 then p.val else 12)) ∧ (s.simMode m = false) ∧ (calm) ∧ (x.req = none))
    ∧ (∃ (s : State) (p : Fin 11) (m : Fin 8) (k : Fin 2), (s.clocked = true) ∧ (s.measRuns = true) ∧ let u := s.windowsNow.touched Reg.modCmd m.val
      let x := u.ms.mod[m]
      let cmd : Nat := cmdKey (Reg.modCmd.addr m.val 0)
      let calm : Prop := s.hwNow cmd < 2 * portRank p ∨ s.hwNow cmd / 8 = 0
      ((9 ≤ p.val → s.sys.st ≠ .lockout ∧ s.coll.relWait = none)) ∧ ((p.val = 10 → s.mntMay true = true)) ∧ (s.modOwner m = (if p.val < 9 then p.val else 12)) ∧ (s.simMode m = false) ∧ (calm) ∧ (x.req.isSome = true) ∧ (x.latch = none))
    ∧ (∃ (s : State) (p : Fin 11) (m : Fin 8) (k : Fin 2), (s.clocked = true) ∧ (s.measRuns = true) ∧ let u := s.windowsNow.touched Reg.modCmd m.val
      let x := u.ms.mod[m]
      let cmd : Nat := cmdKey (Reg.modCmd.addr m.val 0)
      let calm : Prop := s.hwNow cmd < 2 * portRank p ∨ s.hwNow cmd / 8 = 0
      ((9 ≤ p.val → s.sys.st ≠ .lockout ∧ s.coll.relWait = none)) ∧ ((p.val = 10 → s.mntMay true = true)) ∧ (s.modOwner m = (if p.val < 9 then p.val else 12)) ∧ (s.simMode m = false) ∧ (calm) ∧ (x.req.isSome = true) ∧ (x.latch.isSome = true) ∧ (s.rf Reg.modTrg m.val 7 0 = 0))
    ∧ (∃ (s : State) (p : Fin 11) (m : Fin 8) (k : Fin 2), (s.clocked = true) ∧ (s.measRuns = true) ∧ let u := s.windowsNow.touched Reg.modCmd m.val
      let x := u.ms.mod[m]
      let cmd : Nat := cmdKey (Reg.modCmd.addr m.val 0)
      let calm : Prop := s.hwNow cmd < 2 * portRank p ∨ s.hwNow cmd / 8 = 0
      ((9 ≤ p.val → s.sys.st ≠ .lockout ∧ s.coll.relWait = none)) ∧ ((p.val = 10 → s.mntMay true = true)) ∧ (s.modOwner m = (if p.val < 9 then p.val else 12)) ∧ (s.simMode m = false) ∧ (calm) ∧ (x.req.isSome = true) ∧ (x.latch.isSome = true) ∧ (s.rf Reg.modTrg m.val 7 0 ≠ 0))
    ∧ (∃ (s : State) (p : Fin 11) (m : Fin 8) (k : Fin 2), (s.clocked = true) ∧ (s.measRuns = true) ∧ let cmd : Nat := cmdKey (Reg.modCmd.addr m.val 0)
      let first : Prop := s.hwNow cmd < 2 * portRank p
      ((9 ≤ p.val → s.sys.st ≠ .lockout ∧ s.coll.relWait = none)) ∧ ((p.val = 10 → s.mntMay true = true)) ∧ (s.modOwner m = (if p.val < 9 then p.val else 12)) ∧ (s.simMode m = true) ∧ (m.val % 2 = 1) ∧ (first))
    ∧ (∃ (s : State) (p : Fin 11) (m : Fin 8) (k : Fin 2), (s.clocked = true) ∧ (s.measRuns = true) ∧ let u := s.windowsNow.touched Reg.modCmd m.val
      let x := u.ms.mod[m]
      let cmd : Nat := cmdKey (Reg.modCmd.addr m.val 0)
      let calm : Prop := s.hwNow cmd < 2 * portRank p ∨ s.hwNow cmd / 8 = 0
      ((9 ≤ p.val → s.sys.st ≠ .lockout ∧ s.coll.relWait = none)) ∧ ((p.val = 10 → s.mntMay true = true)) ∧ (s.modOwner m = (if p.val < 9 then p.val else 12)) ∧ (s.simMode m = true) ∧ (m.val % 2 = 0) ∧ ∃ n : Fin 8, (n.val = m.val + 1) ∧ (calm) ∧ (x.req = none) ∧ (u.ms.mod[n].req = none) ∧ (s.modOwner n ≠ 15))
    ∧ (∃ (s : State) (p : Fin 11) (m : Fin 8) (k : Fin 2), (s.clocked = true) ∧ (s.measRuns = true) ∧ let u := s.windowsNow.touched Reg.modCmd m.val
      let x := u.ms.mod[m]
      let cmd : Nat := cmdKey (Reg.modCmd.addr m.val 0)
      let first : Prop := s.hwNow cmd < 2 * portRank p
      ((9 ≤ p.val → s.sys.st ≠ .lockout ∧ s.coll.relWait = none)) ∧ ((p.val = 10 → s.mntMay true = true)) ∧ (s.modOwner m = (if p.val < 9 then p.val else 12)) ∧ (s.simMode m = true) ∧ (m.val % 2 = 0) ∧ ∃ n : Fin 8, (n.val = m.val + 1) ∧ (first) ∧ (x.run = false) ∧ (x.req = none) ∧ (u.ms.mod[n].run = false) ∧ (u.ms.mod[n].req = none) ∧ (s.modOwner n ≠ 15))
    ∧ (∃ (s : State) (p : Fin 11) (m : Fin 8) (k : Fin 2), (s.clocked = true) ∧ (s.measRuns = true) ∧ let v := s.advanceTo (s.now + 4)
      let o : Fin 8 := ⟨6 + k.val, by omega⟩
      let a := v.ms.mod[o]
      (s.sys.vio[1] = true) ∧ (s.rb Reg.atrgCfg k.val 0 = true) ∧ (s.simMode o = false) ∧ (s.modOwner o ≠ 15) ∧ (s.rb Reg.atrgCfg k.val 2 = false) ∧ (a.req = none))
    ∧ (∃ (s : State) (p : Fin 11) (m : Fin 8) (k : Fin 2), (s.clocked = true) ∧ (s.measRuns = true) ∧ let v := s.advanceTo (s.now + 4)
      let o : Fin 8 := ⟨6 + k.val, by omega⟩
      let a := v.ms.mod[o]
      (s.sys.vio[1] = true) ∧ (s.rb Reg.atrgCfg k.val 0 = true) ∧ (s.simMode o = false) ∧ (s.modOwner o ≠ 15) ∧ (s.rb Reg.atrgCfg k.val 2 = true) ∧ (a.run = false) ∧ (a.cont = false) ∧ (a.req = none))
    ∧ (∃ (s : State) (p : Fin 11) (m : Fin 8) (k : Fin 2), (s.clocked = true) ∧ (s.measRuns = true) ∧ let v := s.advanceTo (s.now + 4)
      let o : Fin 8 := ⟨6 + k.val, by omega⟩
      let a := v.ms.mod[o]
      (s.sys.vio[1] = true) ∧ (s.rb Reg.atrgCfg k.val 0 = true) ∧ (s.simMode o = false) ∧ (s.modOwner o ≠ 15) ∧ (s.rb Reg.atrgCfg k.val 2 = true) ∧ (a.run = true))
    ∧ (∃ (s : State) (p : Fin 11) (m : Fin 8) (k : Fin 2), (s.clocked = true) ∧ (s.measRuns = true) ∧ (s.sys.vio[1] = false ∨ s.rb Reg.atrgCfg k.val 0 = false))
    ∧ (∃ (s : State) (p : Fin 11) (m : Fin 8) (k : Fin 2), (s.clocked = true) ∧ (s.measRuns = true) ∧ let u := s.windowsNow.touched Reg.modCmd m.val
      let x := u.ms.mod[m]
      let x := s.ms.mod[m]
      (x.run = true) ∧ (x.req = none) ∧ (0 < fld x.word 17 10) ∧ (x.kept.length = fld x.word 17 10) ∧ let last : Bool := bit x.word 21 || decide (x.entry = 15)
      (last = false))
    ∧ (∃ (s : State) (p : Fin 11) (m : Fin 8) (k : Fin 2), (s.clocked = true) ∧ (s.measRuns = true) ∧ let u := s.windowsNow.touched Reg.modCmd m.val
      let x := u.ms.mod[m]
      let x := s.ms.mod[m]
      (x.run = true) ∧ (x.req = none) ∧ (0 < fld x.word 17 10) ∧ (x.kept.length = fld x.word 17 10) ∧ let last : Bool := bit x.word 21 || decide (x.entry = 15)
      (last = true) ∧ (x.cont = true))
    ∧ (∃ (s : State) (p : Fin 11) (m : Fin 8) (k : Fin 2), (s.clocked = true) ∧ (s.measRuns = true) ∧ let u := s.windowsNow.touched Reg.modCmd m.val
      let x := u.ms.mod[m]
      let x := s.ms.mod[m]
      (x.run = true) ∧ (x.req = none) ∧ (0 < fld x.word 17 10) ∧ (x.kept.length = fld x.word 17 10) ∧ let last : Bool := bit x.word 21 || decide (x.entry = 15)
      (last = true) ∧ (x.cont = false))
    ∧ (∃ (s : State) (p : Fin 11) (m : Fin 8) (k : Fin 2), (s.clocked = true) ∧ (s.measRuns = true) ∧ let u := s.windowsNow.touched Reg.modCmd m.val
      let x := u.ms.mod[m]
      let x := s.ms.mod[m]
      (x.run = true) ∧ (x.req = none) ∧ (0 < fld x.word 17 10) ∧ (x.kept.length = fld x.word 17 10) ∧ (bit x.word 19 = true) ∧ (x.kept.all (·.valid) = true))
    ∧ (∃ (s : State) (p : Fin 11) (m : Fin 8) (k : Fin 2), (s.clocked = true) ∧ (s.measRuns = true) ∧ let u := s.windowsNow.touched Reg.modCmd m.val
      let x := u.ms.mod[m]
      let x := s.ms.mod[m]
      (x.run = true) ∧ (x.req = none) ∧ (0 < fld x.word 17 10) ∧ (x.kept.length = fld x.word 17 10) ∧ (bit x.word 19 = false ∨ x.kept.all (·.valid) = false))
    ∧ (∃ (s : State) (p : Fin 11) (m : Fin 8) (k : Fin 2), (s.clocked = true) ∧ (s.measRuns = true) ∧ let u := s.windowsNow.touched Reg.modCmd m.val
      let x := u.ms.mod[m]
      let x := s.ms.mod[m]
      (x.run = true) ∧ (x.req = none) ∧ (0 < fld x.word 17 10) ∧ (x.kept.length = fld x.word 17 10) ∧ (bit x.word 19 = true) ∧ (x.kept.all (·.valid) = false))
    ∧ (∃ (s : State) (p : Fin 11) (m : Fin 8) (k : Fin 2), (s.clocked = true) ∧ (s.measRuns = true) ∧ let u := s.windowsNow.touched Reg.modCmd m.val
      let x := u.ms.mod[m]
      let x := s.ms.mod[m]
      (x.run = false) ∧ (x.req = none)) :=
  ⟨⟨up, 9, 0, 0, by decide +kernel⟩,
    ⟨modded fun x => { x with run := true }, 10, 0, 0, by decide +kernel⟩,
    ⟨modded fun x => { x with req := some .urgent }, 9, 0, 0, by decide +kernel⟩,
    ⟨modded fun x => { x with run := true }, 10, 0, 0, by decide +kernel⟩,
    ⟨(modded fun x => { x with run := true }).setWin 2 fun w => { w with runs := [opening 0 [] false] }, 9, 0, 0, by decide +kernel⟩,
    ⟨modded fun x => { x with run := true }, 10, 0, 0, by decide +kernel⟩,
    ⟨up.hw (cmdKey (Reg.modCmd.addr 0 0)) 36, 9, 0, 0, by decide +kernel⟩,
    ⟨(modded fun x => { x with run := true }).hw (cmdKey (Reg.modCmd.addr 0 0)) 12, 9, 0, 0, by decide +kernel⟩,
    ⟨up.hw (cmdKey (Reg.modCmd.addr 0 0)) 52, 9, 0, 0, by decide +kernel⟩,
    ⟨modded fun x => { x with run := true }, 10, 0, 0, by decide +kernel⟩,
    ⟨modded fun x => { x with req := some .urgent }, 9, 0, 0, by decide +kernel⟩,
    ⟨modded fun x => { x with req := some .urgent, latch := some .urgent }, 9, 0, 0, by decide +kernel⟩,
    ⟨(modded fun x => { x with req := some .urgent, latch := some .urgent }).setRf Reg.modTrg 0 7 0 3, 9, 0, 0, by decide +kernel⟩,
    ⟨up.setRf Reg.pairCfg 0 0 0 1, 9, 1, 0, by decide +kernel⟩,
    ⟨up.setRf Reg.pairCfg 0 0 0 1, 9, 0, 0, by decide +kernel⟩,
    ⟨up.setRf Reg.pairCfg 0 0 0 1, 9, 0, 0, by decide +kernel⟩,
    ⟨up.setRf Reg.atrgCfg 0 2 0 1, 9, 0, 0, by decide +kernel⟩,
    ⟨up.setRf Reg.atrgCfg 0 2 0 5, 9, 0, 0, by decide +kernel⟩,
    ⟨(up.setRf Reg.atrgCfg 0 2 0 5).setMod 6 fun x => { x with run := true }, 9, 0, 0, by decide +kernel⟩,
    ⟨up.hw (cmdKey (Reg.modCmd.addr 0 0)) 15, 9, 0, 0, by decide +kernel⟩,
    ⟨modded fun x => { x with run := true, word := 0x400, kept := [sample] }, 9, 0, 0, by decide +kernel⟩,
    ⟨modded fun x => { x with run := true, cont := true, word := 0x200400, kept := [sample] }, 9, 0, 0, by decide +kernel⟩,
    ⟨opened (modded fun x => { x with run := true, entry := 15, word := 0x400, kept := [sample] }), 9, 0, 0, by decide +kernel⟩,
    ⟨modded fun x => { x with run := true, word := 0x80400, kept := [sample] }, 9, 0, 0, by decide +kernel⟩,
    ⟨modded fun x => { x with run := true, word := 0x400, kept := [sample] }, 9, 0, 0, by decide +kernel⟩,
    ⟨modded fun x => { x with run := true, word := 0x80400, kept := [{ sample with valid := false }] }, 9, 0, 0, by decide +kernel⟩,
    ⟨up.hw (cmdKey (Reg.modCmd.addr 0 0)) 15, 9, 0, 0, by decide +kernel⟩⟩

/-- States and operands that meet the hypotheses of SamplesFiguresAndResults. -/
theorem test_meets_SamplesFiguresAndResults :
    (∃ (s : State) (m : Fin 8) (v : Int) (stamp : Nat) (sat bad : Bool) (q : Fin 2) (w : Fin 16) (f : Fin 32), (s.clocked = true) ∧ (s.measRuns = true) ∧ let x := s.ms.mod[m]
      (x.run = true) ∧ (x.req = none) ∧ (0 < fld x.word 17 10) ∧ (x.kept.length < fld x.word 17 10) ∧ (s.simMode m = false) ∧ (srcC 1 0 m.val ∉ s.inj.residue) ∧ (0 < x.skip))
    ∧ (∃ (s : State) (m : Fin 8) (v : Int) (stamp : Nat) (sat bad : Bool) (q : Fin 2) (w : Fin 16) (f : Fin 32), (s.clocked = true) ∧ (s.measRuns = true) ∧ let x := s.ms.mod[m]
      (x.run = true) ∧ (x.req = none) ∧ (0 < fld x.word 17 10) ∧ (x.kept.length < fld x.word 17 10) ∧ (s.simMode m = false) ∧ (srcC 1 0 m.val ∉ s.inj.residue) ∧ (x.skip = 0))
    ∧ (∃ (s : State) (m : Fin 8) (v : Int) (stamp : Nat) (sat bad : Bool) (q : Fin 2) (w : Fin 16) (f : Fin 32), (s.clocked = true) ∧ (s.measRuns = true) ∧ let x := s.ms.mod[m]
      (x.run = true) ∧ (x.req = none) ∧ (0 < fld x.word 17 10) ∧ (x.kept.length < fld x.word 17 10) ∧ (x.skip = 0) ∧ (s.simMode m = true) ∧ (srcC 1 0 m.val ∉ s.inj.residue) ∧ ∃ n : Fin 8, (n.val / 2 = m.val / 2) ∧ (n ≠ m) ∧ (s.ms.mod[n].run = true) ∧ (s.ms.pair[pairOf m].last = none))
    ∧ (∃ (s : State) (m : Fin 8) (v : Int) (stamp : Nat) (sat bad : Bool) (q : Fin 2) (w : Fin 16) (f : Fin 32), (s.clocked = true) ∧ (s.measRuns = true) ∧ let x := s.ms.mod[m]
      (x.run = true) ∧ (x.req = none) ∧ (0 < fld x.word 17 10) ∧ (x.kept.length < fld x.word 17 10) ∧ (x.skip = 0) ∧ (s.simMode m = true) ∧ (srcC 1 0 m.val ∉ s.inj.residue) ∧ ∃ n : Fin 8, (n.val / 2 = m.val / 2) ∧ (n ≠ m) ∧ (s.ms.mod[n].run = true) ∧ (s.ms.pair[pairOf m].last).any (fun z => decide ((z.1 = decide (m.val % 2 = 0)) ∧ (z.2.stamp = stamp) ∧ (0 < fld s.ms.mod[n].word 17 10))) = true)
    ∧ (∃ (s : State) (m : Fin 8) (v : Int) (stamp : Nat) (sat bad : Bool) (q : Fin 2) (w : Fin 16) (f : Fin 32), (s.clocked = true) ∧ (s.measRuns = true) ∧ let x := s.ms.mod[m]
      (x.run = true) ∧ (x.req = none) ∧ (0 < fld x.word 17 10) ∧ (x.kept.length < fld x.word 17 10) ∧ (x.skip = 0) ∧ (s.simMode m = true) ∧ (srcC 1 0 m.val ∉ s.inj.residue) ∧ ∃ n : Fin 8, (n.val / 2 = m.val / 2) ∧ (n ≠ m) ∧ (s.ms.mod[n].run = true) ∧ (s.ms.pair[pairOf m].last).any (fun z => decide ((z.1 = decide (m.val % 2 = 1) ∨ z.2.stamp ≠ stamp) ∧ (z.1 = decide (m.val % 2 = 1)))) = true)
    ∧ (∃ (s : State) (m : Fin 8) (v : Int) (stamp : Nat) (sat bad : Bool) (q : Fin 2) (w : Fin 16) (f : Fin 32), (s.clocked = true) ∧ (s.measRuns = true) ∧ let x := s.ms.mod[m]
      (x.run = true) ∧ (x.req = none) ∧ (0 < fld x.word 17 10) ∧ (x.kept.length < fld x.word 17 10) ∧ (x.skip = 0) ∧ (s.simMode m = true) ∧ (srcC 1 0 m.val ∉ s.inj.residue) ∧ ∃ n : Fin 8, (n.val / 2 = m.val / 2) ∧ (n ≠ m) ∧ (s.ms.mod[n].run = true) ∧ (s.ms.pair[pairOf m].last).any (fun z => decide ((z.1 = decide (m.val % 2 = 1) ∨ z.2.stamp ≠ stamp) ∧ (z.1 = decide (m.val % 2 = 0)) ∧ (0 < fld s.ms.mod[n].word 17 10))) = true)
    ∧ (∃ (s : State) (m : Fin 8) (v : Int) (stamp : Nat) (sat bad : Bool) (q : Fin 2) (w : Fin 16) (f : Fin 32), (s.clocked = true) ∧ (s.measRuns = true) ∧ let x := s.ms.mod[m]
      (x.run = false) ∧ (x.req = none))
    ∧ (∃ (s : State) (m : Fin 8) (v : Int) (stamp : Nat) (sat bad : Bool) (q : Fin 2) (w : Fin 16) (f : Fin 32), (s.clocked = true) ∧ (s.measRuns = true) ∧ (s.ms.ends = []))
    ∧ (∃ (s : State) (m : Fin 8) (v : Int) (stamp : Nat) (sat bad : Bool) (q : Fin 2) (w : Fin 16) (f : Fin 32), (s.clocked = true) ∧ (s.measRuns = true) ∧ (s.ms.ends.head?).any (fun (e : Fin 16 × WinRun) => decide ((srcC 1 4 0 ∉ s.inj.residue) ∧ (bad = true))) = true)
    ∧ (∃ (s : State) (m : Fin 8) (v : Int) (stamp : Nat) (sat bad : Bool) (q : Fin 2) (w : Fin 16) (f : Fin 32), (s.clocked = true) ∧ (s.measRuns = true) ∧ (s.ms.ends.head?).any (fun (e : Fin 16 × WinRun) => decide ((srcC 1 4 0 ∉ s.inj.residue) ∧ let r := e.2
      (r.aborted = true ∨ bad = true) ∧ ∃ i : Fin 32, (i ≠ 0))) = true)
    ∧ (∃ (s : State) (m : Fin 8) (v : Int) (stamp : Nat) (sat bad : Bool) (q : Fin 2) (w : Fin 16) (f : Fin 32), (s.clocked = true) ∧ (s.measRuns = true) ∧ (s.ms.ends.head?).any (fun (e : Fin 16 × WinRun) => decide ((srcC 1 4 0 ∉ s.inj.residue) ∧ let r := e.2
      (r.aborted = false) ∧ (bad = false) ∧ (bit r.cfg 8 = false) ∧ (r.pts ≠ []) ∧ ((∀ y ∈ r.pts, y.valid = true ∧ y.v.natAbs < 2 ^ 19)))) = true)
    ∧ (∃ (s : State) (m : Fin 8) (v : Int) (stamp : Nat) (sat bad : Bool) (q : Fin 2) (w : Fin 16) (f : Fin 32), (s.clocked = true) ∧ (s.measRuns = true) ∧ (s.ms.ends.head?).any (fun (e : Fin 16 × WinRun) => decide ((srcC 1 4 0 ∉ s.inj.residue) ∧ let r := e.2
      let n : Nat := r.pts.length
      let run : Nat := fld r.cfg 15 13
      let long : Bool := (List.range n).any fun j => decide (j + run < n) && ((r.pts.drop j).take (run + 1)).all fun y => !y.valid
      (r.aborted = false) ∧ (bad = false) ∧ (long = true) ∧ ∃ i : Fin 32, (i ≠ 0) ∧ (i ≠ 13) ∧ (i ≠ 14))) = true)
    ∧ (∃ (s : State) (m : Fin 8) (v : Int) (stamp : Nat) (sat bad : Bool) (q : Fin 2) (w : Fin 16) (f : Fin 32), (s.clocked = true) ∧ (s.measRuns = true) ∧ (s.ms.ends.head?).any (fun (e : Fin 16 × WinRun) => decide ((srcC 1 4 0 ∉ s.inj.residue) ∧ let r := e.2
      let n : Nat := r.pts.length
      let run : Nat := fld r.cfg 15 13
      let long : Bool := (List.range n).any fun j => decide (j + run < n) && ((r.pts.drop j).take (run + 1)).all fun y => !y.valid
      let value (i : Nat) : Rat := ((r.pts.map fun y => y.v).getD i 0 : Int)
      let ok (i : Nat) : Bool := (r.pts.map fun y => y.valid).getD i false
      let filled (i : Nat) : Rat := if ok i then value i else
                match (List.range i).reverse.find? ok, (List.range n).find? fun j => decide (i < j) && ok j with
                | some a, some b => value a + (value b - value a) * ((i : Rat) - a) / ((b : Rat) - a)
                | some a, none => value a
                | none, some b => value b
                | none, none => 0
      let near (ang i : Nat) : Bool := decide ((5 * (r.tdc : Int) + (r.k0 + i) * r.step5 - 5 * ang) % s.cyc5 < r.step5)
      let ofs : Rat := match (List.range n).find? (near r.peg) with
                | some i =>
                  let l := ((r.pts.drop i).filter fun y => y.valid).take (fld r.cfg 12 9 + 1)
                  if bit r.cfg 8 && !l.isEmpty then (sx 32 r.pref.toNat : Rat) - satSum (l.map fun y => (y.v : Rat)) / l.length else 0
                | none => 0
      let p (i : Nat) : Rat := filled i + ofs
      (r.aborted = false) ∧ (bad = false) ∧ (long = false) ∧ (0 < n) ∧ (List.range (n)).any (fun i => decide (((∀ j < n, p j ≤ p i) ∧ (∀ j < i, p j < p i)))))) = true)
    ∧ (∃ (s : State) (m : Fin 8) (v : Int) (stamp : Nat) (sat bad : Bool) (q : Fin 2) (w : Fin 16) (f : Fin 32), (s.clocked = true) ∧ (s.measRuns = true) ∧ (s.ms.ends.head?).any (fun (e : Fin 16 × WinRun) => decide ((srcC 1 4 0 ∉ s.inj.residue) ∧ let r := e.2
      let n : Nat := r.pts.length
      let run : Nat := fld r.cfg 15 13
      let long : Bool := (List.range n).any fun j => decide (j + run < n) && ((r.pts.drop j).take (run + 1)).all fun y => !y.valid
      let value (i : Nat) : Rat := ((r.pts.map fun y => y.v).getD i 0 : Int)
      let ok (i : Nat) : Bool := (r.pts.map fun y => y.valid).getD i false
      let filled (i : Nat) : Rat := if ok i then value i else
                match (List.range i).reverse.find? ok, (List.range n).find? fun j => decide (i < j) && ok j with
                | some a, some b => value a + (value b - value a) * ((i : Rat) - a) / ((b : Rat) - a)
                | some a, none => value a
                | none, some b => value b
                | none, none => 0
      let near (ang i : Nat) : Bool := decide ((5 * (r.tdc : Int) + (r.k0 + i) * r.step5 - 5 * ang) % s.cyc5 < r.step5)
      let ofs : Rat := match (List.range n).find? (near r.peg) with
                | some i =>
                  let l := ((r.pts.drop i).filter fun y => y.valid).take (fld r.cfg 12 9 + 1)
                  if bit r.cfg 8 && !l.isEmpty then (sx 32 r.pref.toNat : Rat) - satSum (l.map fun y => (y.v : Rat)) / l.length else 0
                | none => 0
      let p (i : Nat) : Rat := filled i + ofs
      let half (g : Nat → Rat) (i : Nat) : Rat :=
                if n ≤ 1 then 0 else if i = 0 then g 1 - g 0 else if i + 1 = n then g i - g (i - 1) else (g (i + 1) - g (i - 1)) / 2
      (r.aborted = false) ∧ (bad = false) ∧ (long = false) ∧ (0 < n) ∧ (List.range (n)).any (fun i => decide (((∀ j < n, half p j ≤ half p i) ∧ (∀ j < i, half p j < half p i)))))) = true)
    ∧ (∃ (s : State) (m : Fin 8) (v : Int) (stamp : Nat) (sat bad : Bool) (q : Fin 2) (w : Fin 16) (f : Fin 32), (s.clocked = true) ∧ (s.measRuns = true) ∧ (s.ms.ends.head?).any (fun (e : Fin 16 × WinRun) => decide ((srcC 1 4 0 ∉ s.inj.residue) ∧ let r := e.2
      let n : Nat := r.pts.length
      let run : Nat := fld r.cfg 15 13
      let long : Bool := (List.range n).any fun j => decide (j + run < n) && ((r.pts.drop j).take (run + 1)).all fun y => !y.valid
      let value (i : Nat) : Rat := ((r.pts.map fun y => y.v).getD i 0 : Int)
      let ok (i : Nat) : Bool := (r.pts.map fun y => y.valid).getD i false
      let filled (i : Nat) : Rat := if ok i then value i else
                match (List.range i).reverse.find? ok, (List.range n).find? fun j => decide (i < j) && ok j with
                | some a, some b => value a + (value b - value a) * ((i : Rat) - a) / ((b : Rat) - a)
                | some a, none => value a
                | none, some b => value b
                | none, none => 0
      let near (ang i : Nat) : Bool := decide ((5 * (r.tdc : Int) + (r.k0 + i) * r.step5 - 5 * ang) % s.cyc5 < r.step5)
      let ofs : Rat := match (List.range n).find? (near r.peg) with
                | some i =>
                  let l := ((r.pts.drop i).filter fun y => y.valid).take (fld r.cfg 12 9 + 1)
                  if bit r.cfg 8 && !l.isEmpty then (sx 32 r.pref.toNat : Rat) - satSum (l.map fun y => (y.v : Rat)) / l.length else 0
                | none => 0
      let p (i : Nat) : Rat := filled i + ofs
      let vol (i : Nat) : Rat := s.volAt r (r.k0 + i)
      let half (g : Nat → Rat) (i : Nat) : Rat :=
                if n ≤ 1 then 0 else if i = 0 then g 1 - g 0 else if i + 1 = n then g i - g (i - 1) else (g (i + 1) - g (i - 1)) / 2
      let γ : Rat := (max 0x4333 (min 0x6666 r.hr) : Nat) / 16384
      let heat (k : Nat) : Rat := satSum ((List.range (k + 1)).map fun i => γ / (γ - 1) * (p i * half vol i) + 1 / (γ - 1) * (vol i * half p i))
      let novol : Bool := decide (r.k0 * r.step5 < -(5 * 2949120)) || decide (5 * 2949120 < (r.k0 + n - 1) * r.step5)
      (r.aborted = false) ∧ (bad = false) ∧ (long = false) ∧ (0 < n) ∧ (novol = false) ∧ (List.range (n)).any (fun i => decide (((∀ j < n, heat j ≤ heat i) ∧ (∀ j < i, heat j < heat i)) ∧ (heat i < (sx 32 r.mis.toNat : Rat)))))) = true)
    ∧ (∃ (s : State) (m : Fin 8) (v : Int) (stamp : Nat) (sat bad : Bool) (q : Fin 2) (w : Fin 16) (f : Fin 32), (s.clocked = true) ∧ (s.measRuns = true) ∧ (s.ms.ends.head?).any (fun (e : Fin 16 × WinRun) => decide ((srcC 1 4 0 ∉ s.inj.residue) ∧ let r := e.2
      let n : Nat := r.pts.length
      let run : Nat := fld r.cfg 15 13
      let long : Bool := (List.range n).any fun j => decide (j + run < n) && ((r.pts.drop j).take (run + 1)).all fun y => !y.valid
      let value (i : Nat) : Rat := ((r.pts.map fun y => y.v).getD i 0 : Int)
      let ok (i : Nat) : Bool := (r.pts.map fun y => y.valid).getD i false
      let filled (i : Nat) : Rat := if ok i then value i else
                match (List.range i).reverse.find? ok, (List.range n).find? fun j => decide (i < j) && ok j with
                | some a, some b => value a + (value b - value a) * ((i : Rat) - a) / ((b : Rat) - a)
                | some a, none => value a
                | none, some b => value b
                | none, none => 0
      let near (ang i : Nat) : Bool := decide ((5 * (r.tdc : Int) + (r.k0 + i) * r.step5 - 5 * ang) % s.cyc5 < r.step5)
      let ofs : Rat := match (List.range n).find? (near r.peg) with
                | some i =>
                  let l := ((r.pts.drop i).filter fun y => y.valid).take (fld r.cfg 12 9 + 1)
                  if bit r.cfg 8 && !l.isEmpty then (sx 32 r.pref.toNat : Rat) - satSum (l.map fun y => (y.v : Rat)) / l.length else 0
                | none => 0
      let p (i : Nat) : Rat := filled i + ofs
      let vol (i : Nat) : Rat := s.volAt r (r.k0 + i)
      let half (g : Nat → Rat) (i : Nat) : Rat :=
                if n ≤ 1 then 0 else if i = 0 then g 1 - g 0 else if i + 1 = n then g i - g (i - 1) else (g (i + 1) - g (i - 1)) / 2
      let γ : Rat := (max 0x4333 (min 0x6666 r.hr) : Nat) / 16384
      let heat (k : Nat) : Rat := satSum ((List.range (k + 1)).map fun i => γ / (γ - 1) * (p i * half vol i) + 1 / (γ - 1) * (vol i * half p i))
      let novol : Bool := decide (r.k0 * r.step5 < -(5 * 2949120)) || decide (5 * 2949120 < (r.k0 + n - 1) * r.step5)
      (r.aborted = false) ∧ (bad = false) ∧ (long = false) ∧ (0 < n) ∧ (novol = false) ∧ (List.range (n)).any (fun i => decide (((∀ j < n, heat j ≤ heat i) ∧ (∀ j < i, heat j < heat i)) ∧ ((sx 32 r.mis.toNat : Rat) ≤ heat i))))) = true)
    ∧ (∃ (s : State) (m : Fin 8) (v : Int) (stamp : Nat) (sat bad : Bool) (q : Fin 2) (w : Fin 16) (f : Fin 32), (s.clocked = true) ∧ (s.measRuns = true) ∧ (s.ms.ends.head?).any (fun (e : Fin 16 × WinRun) => decide ((srcC 1 4 0 ∉ s.inj.residue) ∧ let r := e.2
      let n : Nat := r.pts.length
      let run : Nat := fld r.cfg 15 13
      let long : Bool := (List.range n).any fun j => decide (j + run < n) && ((r.pts.drop j).take (run + 1)).all fun y => !y.valid
      let novol : Bool := decide (r.k0 * r.step5 < -(5 * 2949120)) || decide (5 * 2949120 < (r.k0 + n - 1) * r.step5)
      (r.aborted = false) ∧ (bad = false) ∧ (long = false) ∧ (0 < n) ∧ (novol = true))) = true)
    ∧ (∃ (s : State) (m : Fin 8) (v : Int) (stamp : Nat) (sat bad : Bool) (q : Fin 2) (w : Fin 16) (f : Fin 32), (s.clocked = true) ∧ (s.measRuns = true) ∧ (s.ms.ends.head?).any (fun (e : Fin 16 × WinRun) => decide ((srcC 1 4 0 ∉ s.inj.residue) ∧ let r := e.2
      let n : Nat := r.pts.length
      let run : Nat := fld r.cfg 15 13
      let long : Bool := (List.range n).any fun j => decide (j + run < n) && ((r.pts.drop j).take (run + 1)).all fun y => !y.valid
      let near (ang i : Nat) : Bool := decide ((5 * (r.tdc : Int) + (r.k0 + i) * r.step5 - 5 * ang) % s.cyc5 < r.step5)
      (r.aborted = false) ∧ (bad = false) ∧ (long = false) ∧ (0 < n) ∧ (List.range (n)).any (fun i => decide ((near r.mot i = true) ∧ ((∀ j < i, near r.mot j = false)))))) = true)
    ∧ (∃ (s : State) (m : Fin 8) (v : Int) (stamp : Nat) (sat bad : Bool) (q : Fin 2) (w : Fin 16) (f : Fin 32), (s.clocked = true) ∧ (s.measRuns = true) ∧ (s.ms.ends.head?).any (fun (e : Fin 16 × WinRun) => decide ((srcC 1 4 0 ∉ s.inj.residue) ∧ let r := e.2
      let n : Nat := r.pts.length
      let run : Nat := fld r.cfg 15 13
      let long : Bool := (List.range n).any fun j => decide (j + run < n) && ((r.pts.drop j).take (run + 1)).all fun y => !y.valid
      let near (ang i : Nat) : Bool := decide ((5 * (r.tdc : Int) + (r.k0 + i) * r.step5 - 5 * ang) % s.cyc5 < r.step5)
      (r.aborted = false) ∧ (bad = false) ∧ (long = false) ∧ (0 < n) ∧ ((∀ i < n, near r.mot i = false)))) = true)
    ∧ (∃ (s : State) (m : Fin 8) (v : Int) (stamp : Nat) (sat bad : Bool) (q : Fin 2) (w : Fin 16) (f : Fin 32), (s.clocked = true) ∧ (s.measRuns = true) ∧ let x := s.ms.mod[m]
      (s.ms.ends.head?).any (fun (e : Fin 16 × WinRun) => decide ((srcC 1 4 0 ∉ s.inj.residue) ∧ let r := e.2
      let n : Nat := r.pts.length
      let run : Nat := fld r.cfg 15 13
      let long : Bool := (List.range n).any fun j => decide (j + run < n) && ((r.pts.drop j).take (run + 1)).all fun y => !y.valid
      let value (i : Nat) : Rat := ((r.pts.map fun y => y.v).getD i 0 : Int)
      let ok (i : Nat) : Bool := (r.pts.map fun y => y.valid).getD i false
      let filled (i : Nat) : Rat := if ok i then value i else
                match (List.range i).reverse.find? ok, (List.range n).find? fun j => decide (i < j) && ok j with
                | some a, some b => value a + (value b - value a) * ((i : Rat) - a) / ((b : Rat) - a)
                | some a, none => value a
                | none, some b => value b
                | none, none => 0
      let near (ang i : Nat) : Bool := decide ((5 * (r.tdc : Int) + (r.k0 + i) * r.step5 - 5 * ang) % s.cyc5 < r.step5)
      let ofs : Rat := match (List.range n).find? (near r.peg) with
                | some i =>
                  let l := ((r.pts.drop i).filter fun y => y.valid).take (fld r.cfg 12 9 + 1)
                  if bit r.cfg 8 && !l.isEmpty then (sx 32 r.pref.toNat : Rat) - satSum (l.map fun y => (y.v : Rat)) / l.length else 0
                | none => 0
      let p (i : Nat) : Rat := filled i + ofs
      let inner (i : Nat) : Bool := decide (4 ≤ i) && decide (i + 4 < n) && decide (5120 * sx 16 (fld r.knk 15 0) ≤ (r.k0 + i) * r.step5)
                && decide ((r.k0 + i) * r.step5 ≤ 5120 * sx 16 (fld r.knk 31 16))
      let dev (i : Nat) : Rat :=
                let x := p i - satSum ((List.range 9).map fun j => p (i + j - 4)) / 9
                max x (-x)
      (r.aborted = false) ∧ (bad = false) ∧ (long = false) ∧ (0 < n) ∧ (List.range (n)).any (fun i => decide ((inner i = true) ∧ ((∀ j < n, inner j = true → dev j ≤ dev i)))))) = true)
    ∧ (∃ (s : State) (m : Fin 8) (v : Int) (stamp : Nat) (sat bad : Bool) (q : Fin 2) (w : Fin 16) (f : Fin 32), (s.clocked = true) ∧ (s.measRuns = true) ∧ (s.ms.ends.head?).any (fun (e : Fin 16 × WinRun) => decide ((srcC 1 4 0 ∉ s.inj.residue) ∧ let r := e.2
      let n : Nat := r.pts.length
      let run : Nat := fld r.cfg 15 13
      let long : Bool := (List.range n).any fun j => decide (j + run < n) && ((r.pts.drop j).take (run + 1)).all fun y => !y.valid
      let inner (i : Nat) : Bool := decide (4 ≤ i) && decide (i + 4 < n) && decide (5120 * sx 16 (fld r.knk 15 0) ≤ (r.k0 + i) * r.step5)
                && decide ((r.k0 + i) * r.step5 ≤ 5120 * sx 16 (fld r.knk 31 16))
      (r.aborted = false) ∧ (bad = false) ∧ (long = false) ∧ (0 < n) ∧ ((∀ i < n, inner i = false)))) = true)
    ∧ (∃ (s : State) (m : Fin 8) (v : Int) (stamp : Nat) (sat bad : Bool) (q : Fin 2) (w : Fin 16) (f : Fin 32), (s.clocked = true) ∧ (s.measRuns = true) ∧ (s.ms.ends.head?).any (fun (e : Fin 16 × WinRun) => decide ((srcC 1 4 0 ∉ s.inj.residue) ∧ ∃ i : Fin 32, (16 ≤ i.val))) = true)
    ∧ (∃ (s : State) (m : Fin 8) (v : Int) (stamp : Nat) (sat bad : Bool) (q : Fin 2) (w : Fin 16) (f : Fin 32), (s.clocked = true) ∧ (s.measRuns = true) ∧ (s.ms.ends.head?).any (fun (e : Fin 16 × WinRun) => decide ((srcC 1 4 0 ∉ s.inj.residue) ∧ ∃ k : Fin 16, (k ≠ e.1))) = true)
    ∧ (∃ (s : State) (m : Fin 8) (v : Int) (stamp : Nat) (sat bad : Bool) (q : Fin 2) (w : Fin 16) (f : Fin 32), (s.clocked = true) ∧ (s.measRuns = true) ∧ let rd : Fin 11 := ⟨9 + q.val, by omega⟩
      (s.Readable q) ∧ ∃ i : Fin 32, (i ≠ 0))
    ∧ (∃ (s : State) (m : Fin 8) (v : Int) (stamp : Nat) (sat bad : Bool) (q : Fin 2) (w : Fin 16) (f : Fin 32), (s.clocked = true) ∧ (s.measRuns = true) ∧ (s.Readable q) ∧ (f ≠ 0)) :=
  ⟨⟨modded fun x => { x with run := true, word := 0x400, skip := 2 }, 0, 5, 100, false, false, 0, 2, 0, by decide +kernel⟩,
    ⟨modded fun x => { x with run := true, word := 0x400 }, 0, 5, 100, false, false, 0, 2, 0, by decide +kernel⟩,
    ⟨((modded fun x => { x with run := true, word := 0x400 }).setMod 1 fun x => { x with run := true, word := 0x400 }).setRf Reg.pairCfg 0 0 0 1, 0, 5, 100, false, false, 0, 2, 0, by decide +kernel⟩,
    ⟨{ ((modded fun x => { x with run := true, word := 0x400 }).setMod 1 fun x => { x with run := true, word := 0x400 }).setRf Reg.pairCfg 0 0 0 1 with ms := { (((modded fun x => { x with run := true, word := 0x400 }).setMod 1 fun x => { x with run := true, word := 0x400 }).setRf Reg.pairCfg 0 0 0 1).ms with pair := (((modded fun x => { x with run := true, word := 0x400 }).setMod 1 fun x => { x with run := true, word := 0x400 }).setRf Reg.pairCfg 0 0 0 1).ms.pair.set 0 { (((modded fun x => { x with run := true, word := 0x400 }).setMod 1 fun x => { x with run := true, word := 0x400 }).setRf Reg.pairCfg 0 0 0 1).ms.pair[0] with last := some (true, ⟨7, 100, true, true, 0⟩) } } }, 0, 5, 100, false, false, 0, 2, 0, by decide +kernel⟩,
    ⟨{ ((modded fun x => { x with run := true, word := 0x400 }).setMod 1 fun x => { x with run := true, word := 0x400 }).setRf Reg.pairCfg 0 0 0 1 with ms := { (((modded fun x => { x with run := true, word := 0x400 }).setMod 1 fun x => { x with run := true, word := 0x400 }).setRf Reg.pairCfg 0 0 0 1).ms with pair := (((modded fun x => { x with run := true, word := 0x400 }).setMod 1 fun x => { x with run := true, word := 0x400 }).setRf Reg.pairCfg 0 0 0 1).ms.pair.set 0 { (((modded fun x => { x with run := true, word := 0x400 }).setMod 1 fun x => { x with run := true, word := 0x400 }).setRf Reg.pairCfg 0 0 0 1).ms.pair[0] with last := some (false, ⟨7, 100, true, true, 0⟩) } } }, 0, 5, 100, false, false, 0, 2, 0, by decide +kernel⟩,
    ⟨{ ((modded fun x => { x with run := true, word := 0x400 }).setMod 1 fun x => { x with run := true, word := 0x400 }).setRf Reg.pairCfg 0 0 0 1 with ms := { (((modded fun x => { x with run := true, word := 0x400 }).setMod 1 fun x => { x with run := true, word := 0x400 }).setRf Reg.pairCfg 0 0 0 1).ms with pair := (((modded fun x => { x with run := true, word := 0x400 }).setMod 1 fun x => { x with run := true, word := 0x400 }).setRf Reg.pairCfg 0 0 0 1).ms.pair.set 0 { (((modded fun x => { x with run := true, word := 0x400 }).setMod 1 fun x => { x with run := true, word := 0x400 }).setRf Reg.pairCfg 0 0 0 1).ms.pair[0] with last := some (true, ⟨7, 90, true, true, 0⟩) } } }, 0, 5, 100, false, false, 0, 2, 0, by decide +kernel⟩,
    ⟨{ ((List.range 12).foldl (fun (t : State) (k : Nat) => t.setRg Reg.vt 0 (250 + k) (BitVec.ofNat 32 (k * 0x2000100 + 0x100))) up) with ms := { up.ms with ends := [(2, { opening 0x4130 [⟨-3, 10, true⟩, ⟨-2, 0, false⟩, ⟨-1, 30, true⟩, ⟨0, 500, true⟩, ⟨1, 4000, true⟩, ⟨2, 3000, true⟩, ⟨3, 7, false⟩, ⟨4, 7, false⟩, ⟨5, -200, true⟩, ⟨6, 150, true⟩, ⟨7, 100, true⟩, ⟨8, 90, true⟩, ⟨9, 95, true⟩] false with k0 := -3, tdc := 0x5000, peg := 0x5000, mot := 0x9000, hr := 0x5000 })] } }, 0, 0, 0, false, false, 0, 15, 31, by decide +kernel⟩,
    ⟨modded fun x => { x with run := true, word := 0x400 }, 0, 5, 100, false, false, 0, 2, 0, by decide +kernel⟩,
    ⟨{ up with ms := { up.ms with ends := [(2, opening 0x30 [⟨-3, 10, true⟩, ⟨0, 500, true⟩] true)] } }, 0, 5, 0, false, true, 0, 2, 0, by decide +kernel⟩,
    ⟨{ up with ms := { up.ms with ends := [(2, opening 0x30 [⟨-3, 10, true⟩, ⟨0, 500, true⟩] true)] } }, 0, 5, 0, false, true, 0, 2, 0, by decide +kernel⟩,
    ⟨{ up with ms := { up.ms with ends := [(2, opening 0x30 [⟨-3, 10, true⟩, ⟨0, 500, true⟩] false)] } }, 0, 5, 0, false, false, 0, 2, 0, by decide +kernel⟩,
    ⟨{ ((List.range 12).foldl (fun (t : State) (k : Nat) => t.setRg Reg.vt 0 (250 + k) (BitVec.ofNat 32 (k * 0x2000100 + 0x100))) up) with ms := { up.ms with ends := [(2, { opening 0x2130 [⟨-3, 10, true⟩, ⟨-2, 0, false⟩, ⟨-1, 30, true⟩, ⟨0, 500, true⟩, ⟨1, 4000, true⟩, ⟨2, 3000, true⟩, ⟨3, 7, false⟩, ⟨4, 7, false⟩, ⟨5, -200, true⟩, ⟨6, 150, true⟩, ⟨7, 100, true⟩, ⟨8, 90, true⟩, ⟨9, 95, true⟩] false with k0 := -3, tdc := 0x5000, peg := 0x5000, mot := 0x9000, hr := 0x5000 })] } }, 0, 0, 0, false, false, 0, 15, 31, by decide +kernel⟩,
    ⟨{ ((List.range 12).foldl (fun (t : State) (k : Nat) => t.setRg Reg.vt 0 (250 + k) (BitVec.ofNat 32 (k * 0x2000100 + 0x100))) up) with ms := { up.ms with ends := [(2, { opening 0x4130 [⟨-3, 10, true⟩, ⟨-2, 0, false⟩, ⟨-1, 30, true⟩, ⟨0, 500, true⟩, ⟨1, 4000, true⟩, ⟨2, 3000, true⟩, ⟨3, 7, false⟩, ⟨4, 7, false⟩, ⟨5, -200, true⟩, ⟨6, 150, true⟩, ⟨7, 100, true⟩, ⟨8, 90, true⟩, ⟨9, 95, true⟩] false with k0 := -3, tdc := 0x5000, peg := 0x5000, mot := 0x9000, hr := 0x5000 })] } }, 0, 0, 0, false, false, 0, 15, 31, by decide +kernel⟩,
    ⟨{ ((List.range 12).foldl (fun (t : State) (k : Nat) => t.setRg Reg.vt 0 (250 + k) (BitVec.ofNat 32 (k * 0x2000100 + 0x100))) up) with ms := { up.ms with ends := [(2, { opening 0x4130 [⟨-3, 10, true⟩, ⟨-2, 0, false⟩, ⟨-1, 30, true⟩, ⟨0, 500, true⟩, ⟨1, 4000, true⟩, ⟨2, 3000, true⟩, ⟨3, 7, false⟩, ⟨4, 7, false⟩, ⟨5, -200, true⟩, ⟨6, 150, true⟩, ⟨7, 100, true⟩, ⟨8, 90, true⟩, ⟨9, 95, true⟩] false with k0 := -3, tdc := 0x5000, peg := 0x5000, mot := 0x9000, hr := 0x5000 })] } }, 0, 0, 0, false, false, 0, 15, 31, by decide +kernel⟩,
    ⟨{ ((List.range 12).foldl (fun (t : State) (k : Nat) => t.setRg Reg.vt 0 (250 + k) (BitVec.ofNat 32 (k * 0x2000100 + 0x100))) up) with ms := { up.ms with ends := [(2, { opening 0x4130 [⟨-3, 10, true⟩, ⟨-2, 0, false⟩, ⟨-1, 30, true⟩, ⟨0, 500, true⟩, ⟨1, 4000, true⟩, ⟨2, 3000, true⟩, ⟨3, 7, false⟩, ⟨4, 7, false⟩, ⟨5, -200, true⟩, ⟨6, 150, true⟩, ⟨7, 100, true⟩, ⟨8, 90, true⟩, ⟨9, 95, true⟩] false with k0 := -3, tdc := 0x5000, peg := 0x5000, mot := 0x9000, hr := 0x5000, mis := 0x7FFFFFFF, knk := 0x7FFFFFFF })] } }, 0, 0, 0, false, false, 0, 15, 31, by decide +kernel⟩,
    ⟨{ ((List.range 12).foldl (fun (t : State) (k : Nat) => t.setRg Reg.vt 0 (250 + k) (BitVec.ofNat 32 (k * 0x2000100 + 0x100))) up) with ms := { up.ms with ends := [(2, { opening 0x4130 [⟨-3, 10, true⟩, ⟨-2, 0, false⟩, ⟨-1, 30, true⟩, ⟨0, 500, true⟩, ⟨1, 4000, true⟩, ⟨2, 3000, true⟩, ⟨3, 7, false⟩, ⟨4, 7, false⟩, ⟨5, -200, true⟩, ⟨6, 150, true⟩, ⟨7, 100, true⟩, ⟨8, 90, true⟩, ⟨9, 95, true⟩] false with k0 := -3, tdc := 0x5000, peg := 0x5000, mot := 0x9000, hr := 0x5000 })] } }, 0, 0, 0, false, false, 0, 15, 31, by decide +kernel⟩,
    ⟨{ ((List.range 12).foldl (fun (t : State) (k : Nat) => t.setRg Reg.vt 0 (250 + k) (BitVec.ofNat 32 (k * 0x2000100 + 0x100))) up) with ms := { up.ms with ends := [(2, { opening 0x4130 [⟨-3, 10, true⟩, ⟨-2, 0, false⟩, ⟨-1, 30, true⟩, ⟨0, 500, true⟩, ⟨1, 4000, true⟩, ⟨2, 3000, true⟩, ⟨3, 7, false⟩, ⟨4, 7, false⟩, ⟨5, -200, true⟩, ⟨6, 150, true⟩, ⟨7, 100, true⟩, ⟨8, 90, true⟩, ⟨9, 95, true⟩] false with tdc := 0x5000, peg := 0x5000, mot := 0x9000, hr := 0x5000, k0 := -2000 })] } }, 0, 0, 0, false, false, 0, 15, 31, by decide +kernel⟩,
    ⟨{ ((List.range 12).foldl (fun (t : State) (k : Nat) => t.setRg Reg.vt 0 (250 + k) (BitVec.ofNat 32 (k * 0x2000100 + 0x100))) up) with ms := { up.ms with ends := [(2, { opening 0x4130 [⟨-3, 10, true⟩, ⟨-2, 0, false⟩, ⟨-1, 30, true⟩, ⟨0, 500, true⟩, ⟨1, 4000, true⟩, ⟨2, 3000, true⟩, ⟨3, 7, false⟩, ⟨4, 7, false⟩, ⟨5, -200, true⟩, ⟨6, 150, true⟩, ⟨7, 100, true⟩, ⟨8, 90, true⟩, ⟨9, 95, true⟩] false with k0 := -3, tdc := 0x5000, peg := 0x5000, mot := 0x9000, hr := 0x5000 })] } }, 0, 0, 0, false, false, 0, 15, 31, by decide +kernel⟩,
    ⟨{ ((List.range 12).foldl (fun (t : State) (k : Nat) => t.setRg Reg.vt 0 (250 + k) (BitVec.ofNat 32 (k * 0x2000100 + 0x100))) up) with ms := { up.ms with ends := [(2, { opening 0x4130 [⟨-3, 30, true⟩, ⟨-2, 500, true⟩, ⟨-1, 4000, true⟩, ⟨0, 3000, true⟩] false with k0 := -3, tdc := 0x5000, peg := 0x5000, mot := 0x9000, hr := 0x5000 })] } }, 0, 0, 0, false, false, 0, 15, 31, by decide +kernel⟩,
    ⟨{ ((List.range 12).foldl (fun (t : State) (k : Nat) => t.setRg Reg.vt 0 (250 + k) (BitVec.ofNat 32 (k * 0x2000100 + 0x100))) up) with ms := { up.ms with ends := [(2, { opening 0x4130 [⟨-3, 10, true⟩, ⟨-2, 0, false⟩, ⟨-1, 30, true⟩, ⟨0, 500, true⟩, ⟨1, 4000, true⟩, ⟨2, 3000, true⟩, ⟨3, 7, false⟩, ⟨4, 7, false⟩, ⟨5, -200, true⟩, ⟨6, 150, true⟩, ⟨7, 100, true⟩, ⟨8, 90, true⟩, ⟨9, 95, true⟩] false with k0 := -3, tdc := 0x5000, peg := 0x5000, mot := 0x9000, hr := 0x5000, mis := 0x7FFFFFFF, knk := 0x7FFFFFFF })] } }, 0, 0, 0, false, false, 0, 15, 31, by decide +kernel⟩,
    ⟨{ ((List.range 12).foldl (fun (t : State) (k : Nat) => t.setRg Reg.vt 0 (250 + k) (BitVec.ofNat 32 (k * 0x2000100 + 0x100))) up) with ms := { up.ms with ends := [(2, { opening 0x4130 [⟨-3, 10, true⟩, ⟨-2, 0, false⟩, ⟨-1, 30, true⟩, ⟨0, 500, true⟩, ⟨1, 4000, true⟩, ⟨2, 3000, true⟩, ⟨3, 7, false⟩, ⟨4, 7, false⟩, ⟨5, -200, true⟩, ⟨6, 150, true⟩, ⟨7, 100, true⟩, ⟨8, 90, true⟩, ⟨9, 95, true⟩] false with k0 := -3, tdc := 0x5000, peg := 0x5000, mot := 0x9000, hr := 0x5000 })] } }, 0, 0, 0, false, false, 0, 15, 31, by decide +kernel⟩,
    ⟨{ ((List.range 12).foldl (fun (t : State) (k : Nat) => t.setRg Reg.vt 0 (250 + k) (BitVec.ofNat 32 (k * 0x2000100 + 0x100))) up) with ms := { up.ms with ends := [(2, { opening 0x4130 [⟨-3, 10, true⟩, ⟨-2, 0, false⟩, ⟨-1, 30, true⟩, ⟨0, 500, true⟩, ⟨1, 4000, true⟩, ⟨2, 3000, true⟩, ⟨3, 7, false⟩, ⟨4, 7, false⟩, ⟨5, -200, true⟩, ⟨6, 150, true⟩, ⟨7, 100, true⟩, ⟨8, 90, true⟩, ⟨9, 95, true⟩] false with k0 := -3, tdc := 0x5000, peg := 0x5000, mot := 0x9000, hr := 0x5000 })] } }, 0, 0, 0, false, false, 0, 15, 31, by decide +kernel⟩,
    ⟨{ ((List.range 12).foldl (fun (t : State) (k : Nat) => t.setRg Reg.vt 0 (250 + k) (BitVec.ofNat 32 (k * 0x2000100 + 0x100))) up) with ms := { up.ms with ends := [(2, { opening 0x4130 [⟨-3, 10, true⟩, ⟨-2, 0, false⟩, ⟨-1, 30, true⟩, ⟨0, 500, true⟩, ⟨1, 4000, true⟩, ⟨2, 3000, true⟩, ⟨3, 7, false⟩, ⟨4, 7, false⟩, ⟨5, -200, true⟩, ⟨6, 150, true⟩, ⟨7, 100, true⟩, ⟨8, 90, true⟩, ⟨9, 95, true⟩] false with k0 := -3, tdc := 0x5000, peg := 0x5000, mot := 0x9000, hr := 0x5000 })] } }, 0, 0, 0, false, false, 0, 15, 31, by decide +kernel⟩,
    ⟨{ ((List.range 12).foldl (fun (t : State) (k : Nat) => t.setRg Reg.vt 0 (250 + k) (BitVec.ofNat 32 (k * 0x2000100 + 0x100))) up) with ms := { up.ms with ends := [(2, { opening 0x4130 [⟨-3, 10, true⟩, ⟨-2, 0, false⟩, ⟨-1, 30, true⟩, ⟨0, 500, true⟩, ⟨1, 4000, true⟩, ⟨2, 3000, true⟩, ⟨3, 7, false⟩, ⟨4, 7, false⟩, ⟨5, -200, true⟩, ⟨6, 150, true⟩, ⟨7, 100, true⟩, ⟨8, 90, true⟩, ⟨9, 95, true⟩] false with k0 := -3, tdc := 0x5000, peg := 0x5000, mot := 0x9000, hr := 0x5000 })] } }, 0, 0, 0, false, false, 0, 15, 31, by decide +kernel⟩,
    ⟨{ ((List.range 12).foldl (fun (t : State) (k : Nat) => t.setRg Reg.vt 0 (250 + k) (BitVec.ofNat 32 (k * 0x2000100 + 0x100))) up) with ms := { up.ms with ends := [(2, { opening 0x4130 [⟨-3, 10, true⟩, ⟨-2, 0, false⟩, ⟨-1, 30, true⟩, ⟨0, 500, true⟩, ⟨1, 4000, true⟩, ⟨2, 3000, true⟩, ⟨3, 7, false⟩, ⟨4, 7, false⟩, ⟨5, -200, true⟩, ⟨6, 150, true⟩, ⟨7, 100, true⟩, ⟨8, 90, true⟩, ⟨9, 95, true⟩] false with k0 := -3, tdc := 0x5000, peg := 0x5000, mot := 0x9000, hr := 0x5000 })] } }, 0, 0, 0, false, false, 0, 15, 31, by decide +kernel⟩⟩

/-- States and operands that meet the hypotheses of TraceMemoryCommands. -/
theorem test_meets_TraceMemoryCommands :
    (∃ (s : State) (p : Fin 2) (r : Fin 3) (v : Word) (errs : List (Nat × Fin 3)), (s.clocked = true) ∧ let m := s.trc.initMb
      (s.memReady = true) ∧ (m < 4096) ∧ ([0, 4, 7, 0x34000, 0x36000, 0x100000, 0xFFFFC, 0x100100000] : List (Nat)).any (fun a => decide ((traceBase + m * 2 ^ 20 ≤ a) ∧ (a < traceBase + (m + 1) * 2 ^ 20))) = true)
    ∧ (∃ (s : State) (p : Fin 2) (r : Fin 3) (v : Word) (errs : List (Nat × Fin 3)), (s.clocked = true) ∧ let m := s.trc.initMb
      (s.memReady = true) ∧ (m < 4096) ∧ ([0, 4, 7, 0x34000, 0x36000, 0x100000, 0xFFFFC, 0x100100000] : List (Nat)).any (fun a => decide ((a < traceBase + m * 2 ^ 20 ∨ traceBase + (m + 1) * 2 ^ 20 ≤ a))) = true)
    ∧ (∃ (s : State) (p : Fin 2) (r : Fin 3) (v : Word) (errs : List (Nat × Fin 3)), (s.clocked = true) ∧ let m := s.trc.initMb
      (s.memReady = false ∨ m = 4096))
    ∧ (∃ (s : State) (p : Fin 2) (r : Fin 3) (v : Word) (errs : List (Nat × Fin 3)), (s.clocked = true) ∧ let m := s.trc.initMb
      (s.memReady = true) ∧ (s.trc.init = false) ∧ ([0, 4, 7, 0x34000, 0x36000, 0x100000, 0xFFFFC, 0x100100000] : List (Nat)).any (fun a => decide ((traceBase + m * 2 ^ 20 ≤ a) ∧ (a < traceBase + 2 ^ 32))) = true)
    ∧ (∃ (s : State) (p : Fin 2) (r : Fin 3) (v : Word) (errs : List (Nat × Fin 3)), (s.clocked = true) ∧ let m := s.trc.initMb
      (s.memReady = true) ∧ (s.trc.init = false) ∧ ([0, 4, 7, 0x34000, 0x36000, 0x100000, 0xFFFFC, 0x100100000] : List (Nat)).any (fun a => decide ((a < traceBase + m * 2 ^ 20 ∨ traceBase + 2 ^ 32 ≤ a))) = true)
    ∧ (∃ (s : State) (p : Fin 2) (r : Fin 3) (v : Word) (errs : List (Nat × Fin 3)), (s.clocked = true) ∧ (s.memReady = false ∨ s.trc.init = true))
    ∧ (∃ (s : State) (p : Fin 2) (r : Fin 3) (v : Word) (errs : List (Nat × Fin 3)), (s.clocked = true) ∧ let m := s.trc.initMb
      let turn : Prop := 4095 ≤ s.trc.sinceScrub ∨ ∀ q : Fin 3, s.trc.ring[q].q = []
      (turn) ∧ (s.rf Reg.trcScrub 0 7 0 ≠ 0) ∧ (m ≠ 0) ∧ (s.inj.flips = []))
    ∧ (∃ (s : State) (p : Fin 2) (r : Fin 3) (v : Word) (errs : List (Nat × Fin 3)), (s.clocked = true) ∧ let m := s.trc.initMb
      let turn : Prop := 4095 ≤ s.trc.sinceScrub ∨ ∀ q : Fin 3, s.trc.ring[q].q = []
      (turn) ∧ (s.rf Reg.trcScrub 0 7 0 ≠ 0) ∧ (m ≠ 0) ∧ (s.inj.flips = []))
    ∧ (∃ (s : State) (p : Fin 2) (r : Fin 3) (v : Word) (errs : List (Nat × Fin 3)), (s.clocked = true) ∧ let m := s.trc.initMb
      let turn : Prop := 4095 ≤ s.trc.sinceScrub ∨ ∀ q : Fin 3, s.trc.ring[q].q = []
      (turn) ∧ (s.rf Reg.trcScrub 0 7 0 = 0 ∨ m = 0))
    ∧ (∃ (s : State) (p : Fin 2) (r : Fin 3) (v : Word) (errs : List (Nat × Fin 3)), (s.clocked = true) ∧ let turn : Prop := 4095 ≤ s.trc.sinceScrub ∨ ∀ q : Fin 3, s.trc.ring[q].q = []
      (¬turn))
    ∧ (∃ (s : State) (p : Fin 2) (r : Fin 3) (v : Word) (errs : List (Nat × Fin 3)), (s.clocked = true) ∧ let m := s.trc.initMb
      let port : Fin 11 := if p = 0 then 9 else 10
      let open_ : Word := if s.rowLocked Reg.ringCfg r.val then 1 else 0xFFFF1FFF
      let put (w : Word) : Word := (s.rg Reg.ringCfg r.val &&& ~~~open_) ||| (w &&& open_)
      let on_ := put (setFld v 0 0 1)
      let size : Nat := fld on_ 10 1 + 1
      let only : Prop := s.hwNow (wroteKey (Reg.ringCfg.addr r.val 0)) < 2 * portRank port
      let lo : Nat := s.rf Reg.ringBase r.val 11 0
      let apart : Prop := ∀ q : Fin 3, q ≠ r → s.ringEn q = true → s.ringHi q ≤ lo ∨ lo + size ≤ s.ringLo q
      (s.Writable p) ∧ (only) ∧ (s.ringEn r = false) ∧ (lo + size ≤ 4096) ∧ (lo + size ≤ m) ∧ (apart))
    ∧ (∃ (s : State) (p : Fin 2) (r : Fin 3) (v : Word) (errs : List (Nat × Fin 3)), (s.clocked = true) ∧ let m := s.trc.initMb
      let port : Fin 11 := if p = 0 then 9 else 10
      let open_ : Word := if s.rowLocked Reg.ringCfg r.val then 1 else 0xFFFF1FFF
      let put (w : Word) : Word := (s.rg Reg.ringCfg r.val &&& ~~~open_) ||| (w &&& open_)
      let on_ := put (setFld v 0 0 1)
      let size : Nat := fld on_ 10 1 + 1
      let only : Prop := s.hwNow (wroteKey (Reg.ringCfg.addr r.val 0)) < 2 * portRank port
      let lo : Nat := s.rf Reg.ringBase r.val 11 0
      (s.Writable p) ∧ (only) ∧ (s.ringEn r = false) ∧ (4096 < lo + size ∨ m < lo + size))
    ∧ (∃ (s : State) (p : Fin 2) (r : Fin 3) (v : Word) (errs : List (Nat × Fin 3)), (s.clocked = true) ∧ let port : Fin 11 := if p = 0 then 9 else 10
      let open_ : Word := if s.rowLocked Reg.ringCfg r.val then 1 else 0xFFFF1FFF
      let put (w : Word) : Word := (s.rg Reg.ringCfg r.val &&& ~~~open_) ||| (w &&& open_)
      let on_ := put (setFld v 0 0 1)
      let size : Nat := fld on_ 10 1 + 1
      let only : Prop := s.hwNow (wroteKey (Reg.ringCfg.addr r.val 0)) < 2 * portRank port
      let lo : Nat := s.rf Reg.ringBase r.val 11 0
      let apart : Prop := ∀ q : Fin 3, q ≠ r → s.ringEn q = true → s.ringHi q ≤ lo ∨ lo + size ≤ s.ringLo q
      (s.Writable p) ∧ (only) ∧ (s.ringEn r = false) ∧ (¬apart))
    ∧ (∃ (s : State) (p : Fin 2) (r : Fin 3) (v : Word) (errs : List (Nat × Fin 3)), (s.clocked = true) ∧ let port : Fin 11 := if p = 0 then 9 else 10
      let only : Prop := s.hwNow (wroteKey (Reg.ringCfg.addr r.val 0)) < 2 * portRank port
      (s.Writable p) ∧ (only) ∧ (s.ringEn r = true))
    ∧ (∃ (s : State) (p : Fin 2) (r : Fin 3) (v : Word) (errs : List (Nat × Fin 3)), (s.clocked = true) ∧ let g := s.trc.ring[r]
      (s.Writable p) ∧ (s.ringEn r = true) ∧ (g.frozen = false) ∧ (g.post = none) ∧ (s.rf Reg.ringCfg r.val 31 16 = 0))
    ∧ (∃ (s : State) (p : Fin 2) (r : Fin 3) (v : Word) (errs : List (Nat × Fin 3)), (s.clocked = true) ∧ let g := s.trc.ring[r]
      (s.Writable p) ∧ (s.ringEn r = true) ∧ (g.frozen = false) ∧ (g.post = none) ∧ (s.rf Reg.ringCfg r.val 31 16 ≠ 0))
    ∧ (∃ (s : State) (p : Fin 2) (r : Fin 3) (v : Word) (errs : List (Nat × Fin 3)), (s.clocked = true) ∧ let g := s.trc.ring[r]
      (s.Writable p) ∧ (s.ringEn r = true) ∧ (g.post.isSome = true))
    ∧ (∃ (s : State) (p : Fin 2) (r : Fin 3) (v : Word) (errs : List (Nat × Fin 3)), (s.clocked = true) ∧ let g := s.trc.ring[r]
      (s.Writable p) ∧ (s.ringEn r = true) ∧ (g.post = none) ∧ (g.frozen = true))
    ∧ (∃ (s : State) (p : Fin 2) (r : Fin 3) (v : Word) (errs : List (Nat × Fin 3)), (s.clocked = true) ∧ let g := s.trc.ring[r]
      (s.Writable p) ∧ (g.trigAt = some (s.now, true)))
    ∧ (∃ (s : State) (p : Fin 2) (r : Fin 3) (v : Word) (errs : List (Nat × Fin 3)), (s.clocked = true) ∧ let g := s.trc.ring[r]
      (s.Writable p) ∧ (g.trigAt ≠ some (s.now, true)) ∧ (g.trigAt ≠ some (s.now, false)))
    ∧ (∃ (s : State) (p : Fin 2) (r : Fin 3) (v : Word) (errs : List (Nat × Fin 3)), (s.clocked = true) ∧ let g := s.trc.ring[r]
      (s.Writable p) ∧ (g.trigAt = some (s.now, false)) ∧ (s.ringEn r = true) ∧ (g.post = none) ∧ let n := s.rf Reg.ringCfg r.val 31 16
      (n = 0))
    ∧ (∃ (s : State) (p : Fin 2) (r : Fin 3) (v : Word) (errs : List (Nat × Fin 3)), (s.clocked = true) ∧ let g := s.trc.ring[r]
      (g.post = some 0))
    ∧ (∃ (s : State) (p : Fin 2) (r : Fin 3) (v : Word) (errs : List (Nat × Fin 3)), (s.clocked = true) ∧ let g := s.trc.ring[r]
      (g.post ≠ some 0)) :=
  ⟨⟨{ up with trc := { up.trc with initMb := 1 } }, 0, 0, 0, [], by decide +kernel⟩,
    ⟨{ up with trc := { up.trc with init := true } }, 0, 0, 0, [], by decide +kernel⟩,
    ⟨{ up with trc := { up.trc with initMb := 4096 } }, 0, 0, 0, [], by decide +kernel⟩,
    ⟨{ up with trc := { up.trc with ring := up.trc.ring.set 0 { up.trc.ring[0] with q := [List.replicate 8 0] } } }, 0, 0, 0, [], by decide +kernel⟩,
    ⟨{ up with trc := { up.trc with initMb := 4096 } }, 0, 0, 0, [], by decide +kernel⟩,
    ⟨{ up with trc := { up.trc with init := true } }, 0, 0, 0, [], by decide +kernel⟩,
    ⟨{ up with trc := { up.trc with initMb := 4096 } }, 0, 0, 0, [], by decide +kernel⟩,
    ⟨{ up with trc := { up.trc with initMb := 4096 } }, 0, 0, 0, [], by decide +kernel⟩,
    ⟨{ up with trc := { up.trc with init := true } }, 0, 0, 0, [], by decide +kernel⟩,
    ⟨{ up with trc := { up.trc with ring := up.trc.ring.set 0 { up.trc.ring[0] with q := [List.replicate 8 0] } } }, 0, 0, 0, [], by decide +kernel⟩,
    ⟨{ up with trc := { up.trc with initMb := 4096 } }, 0, 0, 0, [], by decide +kernel⟩,
    ⟨{ up with trc := { up.trc with init := true } }, 0, 0, 0, [], by decide +kernel⟩,
    ⟨((State.setRg ({ up with trc := { up.trc with initMb := 1 } }) Reg.ringCfg 1 0 1).setRf Reg.ringBase 1 11 0 0).setRf Reg.ringBase 0 11 0 0, 0, 0, 0, [], by decide +kernel⟩,
    ⟨({ up with trc := { up.trc with ring := up.trc.ring.set 0 { up.trc.ring[0] with post := some 5 } } } : State).setRg Reg.ringCfg 0 0 1, 0, 0, 0, [], by decide +kernel⟩,
    ⟨({ up with trc := { up.trc with ring := up.trc.ring.set 0 { up.trc.ring[0] with frozen := false, trigAt := some 0 } } } : State).setRg Reg.ringCfg 0 0 1, 0, 0, 0, [], by decide +kernel⟩,
    ⟨({ up with trc := { up.trc with ring := up.trc.ring.set 0 { up.trc.ring[0] with frozen := false, trigAt := some 0 } } } : State).setRg Reg.ringCfg 0 0 0x30001, 0, 0, 0, [], by decide +kernel⟩,
    ⟨({ up with trc := { up.trc with ring := up.trc.ring.set 0 { up.trc.ring[0] with post := some 5 } } } : State).setRg Reg.ringCfg 0 0 1, 0, 0, 0, [], by decide +kernel⟩,
    ⟨({ up with trc := { up.trc with ring := up.trc.ring.set 0 { up.trc.ring[0] with frozen := true, trigAt := some 0 } } } : State).setRg Reg.ringCfg 0 0 1, 0, 0, 0, [], by decide +kernel⟩,
    ⟨{ up with trc := { up.trc with ring := up.trc.ring.set 0 { up.trc.ring[0] with frozen := true, trigAt := some (0, true) } } }, 0, 0, 0, [], by decide +kernel⟩,
    ⟨{ up with trc := { up.trc with initMb := 4096 } }, 0, 0, 0, [], by decide +kernel⟩,
    ⟨({ up with trc := { up.trc with ring := up.trc.ring.set 0 { up.trc.ring[0] with frozen := true, trigAt := some 0 } } } : State).setRg Reg.ringCfg 0 0 1, 0, 0, 0, [], by decide +kernel⟩,
    ⟨{ up with trc := { up.trc with ring := up.trc.ring.set 0 { up.trc.ring[0] with post := some 0 } } }, 0, 0, 0, [], by decide +kernel⟩,
    ⟨{ up with trc := { up.trc with initMb := 4096 } }, 0, 0, 0, [], by decide +kernel⟩⟩

/-- States and operands that meet the hypotheses of JigInstructions. -/
theorem test_meets_JigInstructions :
    (∃ (s : State) (e : Fin 8) (a : BitVec 10) (imm : BitVec 16) (pins : BitVec 8) (d c : Fin 8) (w : BitVec 32), (s.clocked = true) ∧ let g0 := s.jig[e]
      let key : Nat := jigKey e g0.bank g0.pc
      let sound : Prop := g0.ready = true ∧ g0.fswap = false ∧ s.eccOf key 0 ≤ 1
      (sound) ∧ (srcC 2 2 e.val ∉ s.inj.residue) ∧ (s.eccOf key 0 = 0))
    ∧ (∃ (s : State) (e : Fin 8) (a : BitVec 10) (imm : BitVec 16) (pins : BitVec 8) (d c : Fin 8) (w : BitVec 32), (s.clocked = true) ∧ let g0 := s.jig[e]
      let key : Nat := jigKey e g0.bank g0.pc
      let sound : Prop := g0.ready = true ∧ g0.fswap = false ∧ s.eccOf key 0 ≤ 1
      (sound) ∧ (srcC 2 2 e.val ∉ s.inj.residue) ∧ (s.eccOf key 0 = 1))
    ∧ (∃ (s : State) (e : Fin 8) (a : BitVec 10) (imm : BitVec 16) (pins : BitVec 8) (d c : Fin 8) (w : BitVec 32), (s.clocked = true) ∧ let g0 := s.jig[e]
      let key : Nat := jigKey e g0.bank g0.pc
      let sound : Prop := g0.ready = true ∧ g0.fswap = false ∧ s.eccOf key 0 ≤ 1
      (sound) ∧ (srcC 2 2 e.val ∉ s.inj.residue) ∧ (d.val ≤ 4) ∧ (c.val ≤ 6))
    ∧ (∃ (s : State) (e : Fin 8) (a : BitVec 10) (imm : BitVec 16) (pins : BitVec 8) (d c : Fin 8) (w : BitVec 32), (s.clocked = true) ∧ let g0 := s.jig[e]
      let key : Nat := jigKey e g0.bank g0.pc
      let sound : Prop := g0.ready = true ∧ g0.fswap = false ∧ s.eccOf key 0 ≤ 1
      (sound) ∧ (srcC 2 2 e.val ∉ s.inj.residue) ∧ (d.val ≤ 2))
    ∧ (∃ (s : State) (e : Fin 8) (a : BitVec 10) (imm : BitVec 16) (pins : BitVec 8) (d c : Fin 8) (w : BitVec 32), (s.clocked = true) ∧ let g0 := s.jig[e]
      let key : Nat := jigKey e g0.bank g0.pc
      let sound : Prop := g0.ready = true ∧ g0.fswap = false ∧ s.eccOf key 0 ≤ 1
      (sound) ∧ (srcC 2 2 e.val ∉ s.inj.residue) ∧ (d.val ≤ 3) ∧ (c.val ≤ 6))
    ∧ (∃ (s : State) (e : Fin 8) (a : BitVec 10) (imm : BitVec 16) (pins : BitVec 8) (d c : Fin 8) (w : BitVec 32), (s.clocked = true) ∧ let g0 := s.jig[e]
      let key : Nat := jigKey e g0.bank g0.pc
      let sound : Prop := g0.ready = true ∧ g0.fswap = false ∧ s.eccOf key 0 ≤ 1
      (sound) ∧ (srcC 2 2 e.val ∉ s.inj.residue) ∧ (imm.toNat < 64))
    ∧ (∃ (s : State) (e : Fin 8) (a : BitVec 10) (imm : BitVec 16) (pins : BitVec 8) (d c : Fin 8) (w : BitVec 32), (s.clocked = true) ∧ let g0 := s.jig[e]
      let key : Nat := jigKey e g0.bank g0.pc
      let u := ((s.jigTick e).jigFetch e).1
      let g := u.jig[e]
      let sound : Prop := g0.ready = true ∧ g0.fswap = false ∧ s.eccOf key 0 ≤ 1
      (sound) ∧ (srcC 2 2 e.val ∉ s.inj.residue) ∧ (g.swpend = false))
    ∧ (∃ (s : State) (e : Fin 8) (a : BitVec 10) (imm : BitVec 16) (pins : BitVec 8) (d c : Fin 8) (w : BitVec 32), (s.clocked = true) ∧ let g0 := s.jig[e]
      let key : Nat := jigKey e g0.bank g0.pc
      let u := ((s.jigTick e).jigFetch e).1
      let g := u.jig[e]
      let sound : Prop := g0.ready = true ∧ g0.fswap = false ∧ s.eccOf key 0 ≤ 1
      (sound) ∧ (srcC 2 2 e.val ∉ s.inj.residue) ∧ (g.swpend = true))
    ∧ (∃ (s : State) (e : Fin 8) (a : BitVec 10) (imm : BitVec 16) (pins : BitVec 8) (d c : Fin 8) (w : BitVec 32), (s.clocked = true) ∧ let g0 := s.jig[e]
      let key : Nat := jigKey e g0.bank g0.pc
      let sound : Prop := g0.ready = true ∧ g0.fswap = false ∧ s.eccOf key 0 ≤ 1
      (sound) ∧ (srcC 2 2 e.val ∉ s.inj.residue) ∧ (a ≠ 0 ∨ imm ≠ 0))
    ∧ (∃ (s : State) (e : Fin 8) (a : BitVec 10) (imm : BitVec 16) (pins : BitVec 8) (d c : Fin 8) (w : BitVec 32), (s.clocked = true) ∧ let g0 := s.jig[e]
      let key : Nat := jigKey e g0.bank g0.pc
      let sound : Prop := g0.ready = true ∧ g0.fswap = false ∧ s.eccOf key 0 ≤ 1
      (sound) ∧ (srcC 2 2 e.val ∉ s.inj.residue) ∧ (a ≠ 0))
    ∧ (∃ (s : State) (e : Fin 8) (a : BitVec 10) (imm : BitVec 16) (pins : BitVec 8) (d c : Fin 8) (w : BitVec 32), (s.clocked = true) ∧ let g0 := s.jig[e]
      let key : Nat := jigKey e g0.bank g0.pc
      let sound : Prop := g0.ready = true ∧ g0.fswap = false ∧ s.eccOf key 0 ≤ 1
      (sound) ∧ (srcC 2 2 e.val ∉ s.inj.residue) ∧ (d.val = 5 ∨ d.val = 6 ∨ d.val = 7 ∨ c.val = 7))
    ∧ (∃ (s : State) (e : Fin 8) (a : BitVec 10) (imm : BitVec 16) (pins : BitVec 8) (d c : Fin 8) (w : BitVec 32), (s.clocked = true) ∧ let g0 := s.jig[e]
      let key : Nat := jigKey e g0.bank g0.pc
      let sound : Prop := g0.ready = true ∧ g0.fswap = false ∧ s.eccOf key 0 ≤ 1
      (sound) ∧ (srcC 2 2 e.val ∉ s.inj.residue) ∧ (4 ≤ d.val))
    ∧ (∃ (s : State) (e : Fin 8) (a : BitVec 10) (imm : BitVec 16) (pins : BitVec 8) (d c : Fin 8) (w : BitVec 32), (s.clocked = true) ∧ let g0 := s.jig[e]
      let key : Nat := jigKey e g0.bank g0.pc
      let sound : Prop := g0.ready = true ∧ g0.fswap = false ∧ s.eccOf key 0 ≤ 1
      (sound) ∧ (srcC 2 2 e.val ∉ s.inj.residue) ∧ (64 ≤ imm.toNat ∨ 8 ≤ a.toNat % 16 ∨ 128 ≤ a.toNat))
    ∧ (∃ (s : State) (e : Fin 8) (a : BitVec 10) (imm : BitVec 16) (pins : BitVec 8) (d c : Fin 8) (w : BitVec 32), (s.clocked = true) ∧ let g0 := s.jig[e]
      let key : Nat := jigKey e g0.bank g0.pc
      let sound : Prop := g0.ready = true ∧ g0.fswap = false ∧ s.eccOf key 0 ≤ 1
      (sound) ∧ (srcC 2 2 e.val ∉ s.inj.residue) ∧ (64 ≤ imm.toNat ∨ a ≠ 0))
    ∧ (∃ (s : State) (e : Fin 8) (a : BitVec 10) (imm : BitVec 16) (pins : BitVec 8) (d c : Fin 8) (w : BitVec 32), (s.clocked = true) ∧ let g0 := s.jig[e]
      let key : Nat := jigKey e g0.bank g0.pc
      let sound : Prop := g0.ready = true ∧ g0.fswap = false ∧ s.eccOf key 0 ≤ 1
      (sound) ∧ (srcC 2 2 e.val ∉ s.inj.residue) ∧ (imm ≠ 0 ∨ 2 ≤ a.toNat))
    ∧ (∃ (s : State) (e : Fin 8) (a : BitVec 10) (imm : BitVec 16) (pins : BitVec 8) (d c : Fin 8) (w : BitVec 32), (s.clocked = true) ∧ let g0 := s.jig[e]
      let key : Nat := jigKey e g0.bank g0.pc
      let sound : Prop := g0.ready = true ∧ g0.fswap = false ∧ s.eccOf key 0 ≤ 1
      (sound) ∧ (srcC 2 2 e.val ∉ s.inj.residue) ∧ (0x16 ≤ w.toNat / 2 ^ 26))
    ∧ (∃ (s : State) (e : Fin 8) (a : BitVec 10) (imm : BitVec 16) (pins : BitVec 8) (d c : Fin 8) (w : BitVec 32), (s.clocked = true) ∧ let g0 := s.jig[e]
      let key : Nat := jigKey e g0.bank g0.pc
      (g0.ready = true) ∧ (2 ≤ s.eccOf key 0))
    ∧ (∃ (s : State) (e : Fin 8) (a : BitVec 10) (imm : BitVec 16) (pins : BitVec 8) (d c : Fin 8) (w : BitVec 32), (s.clocked = true) ∧ let g0 := s.jig[e]
      let key : Nat := jigKey e g0.bank g0.pc
      (g0.ready = true) ∧ (s.eccOf key 0 ≤ 1) ∧ (srcC 2 2 e.val ∈ s.inj.residue))
    ∧ (∃ (s : State) (e : Fin 8) (a : BitVec 10) (imm : BitVec 16) (pins : BitVec 8) (d c : Fin 8) (w : BitVec 32), (s.clocked = true) ∧ let g0 := s.jig[e]
      (g0.ready = false))
    ∧ (∃ (s : State) (e : Fin 8) (a : BitVec 10) (imm : BitVec 16) (pins : BitVec 8) (d c : Fin 8) (w : BitVec 32), (s.clocked = true) ∧ let g0 := s.jig[e]
      (g0.run = true) ∧ (g0.idle ≠ 0))
    ∧ (∃ (s : State) (e : Fin 8) (a : BitVec 10) (imm : BitVec 16) (pins : BitVec 8) (d c : Fin 8) (w : BitVec 32), (s.clocked = true) ∧ let g0 := s.jig[e]
      (g0.idle = 0)) :=
  ⟨⟨atInstr, 7, 1, 64, 0, 4, 6, 0x58000000, by decide +kernel⟩,
    ⟨{ atInstr with inj := { up.inj with flips := [(0x40001E00, 1)] } }, 7, 1, 64, 0, 4, 6, 0x58000000, by decide +kernel⟩,
    ⟨{ atInstr with inj := { up.inj with flips := [(0x40001E00, 1)] } }, 7, 1, 64, 0, 4, 6, 0x58000000, by decide +kernel⟩,
    ⟨atInstr, 7, 1, 64, 0, 2, 6, 0x58000000, by decide +kernel⟩,
    ⟨atInstr, 7, 1, 64, 0, 2, 6, 0x58000000, by decide +kernel⟩,
    ⟨atInstr, 7, 1, 63, 0, 4, 6, 0x58000000, by decide +kernel⟩,
    ⟨{ atInstr with inj := { up.inj with flips := [(0x40001E00, 1)] } }, 7, 1, 64, 0, 4, 6, 0x58000000, by decide +kernel⟩,
    ⟨jigged fun g => { g with run := true, swpend := true }, 7, 1, 64, 0, 4, 6, 0x58000000, by decide +kernel⟩,
    ⟨{ atInstr with inj := { up.inj with flips := [(0x40001E00, 1)] } }, 7, 1, 64, 0, 4, 6, 0x58000000, by decide +kernel⟩,
    ⟨{ atInstr with inj := { up.inj with flips := [(0x40001E00, 1)] } }, 7, 1, 64, 0, 4, 6, 0x58000000, by decide +kernel⟩,
    ⟨atInstr, 7, 1, 64, 0, 5, 6, 0x58000000, by decide +kernel⟩,
    ⟨{ atInstr with inj := { up.inj with flips := [(0x40001E00, 1)] } }, 7, 1, 64, 0, 4, 6, 0x58000000, by decide +kernel⟩,
    ⟨{ atInstr with inj := { up.inj with flips := [(0x40001E00, 1)] } }, 7, 1, 64, 0, 4, 6, 0x58000000, by decide +kernel⟩,
    ⟨{ atInstr with inj := { up.inj with flips := [(0x40001E00, 1)] } }, 7, 1, 64, 0, 4, 6, 0x58000000, by decide +kernel⟩,
    ⟨{ atInstr with inj := { up.inj with flips := [(0x40001E00, 1)] } }, 7, 1, 64, 0, 4, 6, 0x58000000, by decide +kernel⟩,
    ⟨{ atInstr with inj := { up.inj with flips := [(0x40001E00, 1)] } }, 7, 1, 64, 0, 4, 6, 0x58000000, by decide +kernel⟩,
    ⟨{ atInstr with inj := { up.inj with flips := [(0x40001E00, 2)] } }, 7, 1, 64, 0, 4, 6, 0x58000000, by decide +kernel⟩,
    ⟨{ atInstr with inj := { up.inj with residue := [srcC 2 2 7] } }, 7, 1, 64, 0, 4, 6, 0x58000000, by decide +kernel⟩,
    ⟨calm, 7, 1, 64, 0, 4, 6, 0x58000000, by decide +kernel⟩,
    ⟨jigged fun g => { g with run := true, idle := 1 }, 7, 1, 64, 0, 4, 6, 0x58000000, by decide +kernel⟩,
    ⟨{ atInstr with inj := { up.inj with flips := [(0x40001E00, 1)] } }, 7, 1, 64, 0, 4, 6, 0x58000000, by decide +kernel⟩⟩

/-- States and operands that meet the hypotheses of JigWaitsShiftsAndFifos. -/
theorem test_meets_JigWaitsShiftsAndFifos :
    (∃ (s : State) (e : Fin 8) (imm : BitVec 16) (pins : BitVec 8) (bits : BitVec 32) (i : Fin 8) (n : Fin 33) (ord : Bool) (stamp : Nat), (s.clocked = true) ∧ (n ≠ 0) ∧ let g0 := s.jig[e]
      let key : Nat := jigKey e g0.bank g0.pc
      (g0.ready = true) ∧ (g0.fswap = false) ∧ (s.eccOf key 0 ≤ 1) ∧ (srcC 2 2 e.val ∉ s.inj.residue) ∧ ∃ k : Fin 4, (k ≠ 0))
    ∧ (∃ (s : State) (e : Fin 8) (imm : BitVec 16) (pins : BitVec 8) (bits : BitVec 32) (i : Fin 8) (n : Fin 33) (ord : Bool) (stamp : Nat), (s.clocked = true) ∧ (n ≠ 0) ∧ let g0 := s.jig[e]
      let key : Nat := jigKey e g0.bank g0.pc
      let u := ((s.jigTick e).jigFetch e).1
      let g := u.jig[e]
      (g0.ready = true) ∧ (g0.fswap = false) ∧ (s.eccOf key 0 ≤ 1) ∧ (srcC 2 2 e.val ∉ s.inj.residue) ∧ ∃ rln : Bool, ((∀ y ∈ g.trgAt, y.1 ≠ u.svclk) ∨ g.trgl = false))
    ∧ (∃ (s : State) (e : Fin 8) (imm : BitVec 16) (pins : BitVec 8) (bits : BitVec 32) (i : Fin 8) (n : Fin 33) (ord : Bool) (stamp : Nat), (s.clocked = true) ∧ (n ≠ 0) ∧ let g0 := s.jig[e]
      let key : Nat := jigKey e g0.bank g0.pc
      let u := ((s.jigTick e).jigFetch e).1
      let g := u.jig[e]
      (g0.ready = true) ∧ (g0.fswap = false) ∧ (s.eccOf key 0 ≤ 1) ∧ (srcC 2 2 e.val ∉ s.inj.residue) ∧ ∃ rln : Bool, (g.trgl = true) ∧ (g.trgAt).any (fun y => decide ((y.1 = u.svclk))) = true)
    ∧ (∃ (s : State) (e : Fin 8) (imm : BitVec 16) (pins : BitVec 8) (bits : BitVec 32) (i : Fin 8) (n : Fin 33) (ord : Bool) (stamp : Nat), (s.clocked = true) ∧ (n ≠ 0) ∧ let g0 := s.jig[e]
      let key : Nat := jigKey e g0.bank g0.pc
      let u := ((s.jigTick e).jigFetch e).1
      let g := u.jig[e]
      let pushAt : Nat := if u.rf Reg.jigCfg e.val 12 8 = 0 then 32 else u.rf Reg.jigCfg e.val 12 8
      let auto : Bool := u.rb Reg.jigCfg e.val 7 && decide (pushAt ≤ min 32 (g.sc + n.val))
      (g0.ready = true) ∧ (g0.fswap = false) ∧ (s.eccOf key 0 ≤ 1) ∧ (srcC 2 2 e.val ∉ s.inj.residue) ∧ (g.swpend = false) ∧ (auto = false))
    ∧ (∃ (s : State) (e : Fin 8) (imm : BitVec 16) (pins : BitVec 8) (bits : BitVec 32) (i : Fin 8) (n : Fin 33) (ord : Bool) (stamp : Nat), (s.clocked = true) ∧ (n ≠ 0) ∧ let g0 := s.jig[e]
      let key : Nat := jigKey e g0.bank g0.pc
      let u := ((s.jigTick e).jigFetch e).1
      let g := u.jig[e]
      (g0.ready = true) ∧ (g0.fswap = false) ∧ (s.eccOf key 0 ≤ 1) ∧ (srcC 2 2 e.val ∉ s.inj.residue) ∧ (g.swpend = false) ∧ (g.rxf.length < 8))
    ∧ (∃ (s : State) (e : Fin 8) (imm : BitVec 16) (pins : BitVec 8) (bits : BitVec 32) (i : Fin 8) (n : Fin 33) (ord : Bool) (stamp : Nat), (s.clocked = true) ∧ (n ≠ 0) ∧ let g0 := s.jig[e]
      let key : Nat := jigKey e g0.bank g0.pc
      let u := ((s.jigTick e).jigFetch e).1
      let g := u.jig[e]
      let pull : Bool := u.rb Reg.jigCfg e.val 13
      (g0.ready = true) ∧ (g0.fswap = false) ∧ (s.eccOf key 0 ≤ 1) ∧ (srcC 2 2 e.val ∉ s.inj.residue) ∧ (g.swpend = false) ∧ (pull = false))
    ∧ (∃ (s : State) (e : Fin 8) (imm : BitVec 16) (pins : BitVec 8) (bits : BitVec 32) (i : Fin 8) (n : Fin 33) (ord : Bool) (stamp : Nat), (s.clocked = true) ∧ (n ≠ 0) ∧ let g0 := s.jig[e]
      let key : Nat := jigKey e g0.bank g0.pc
      let u := ((s.jigTick e).jigFetch e).1
      let g := u.jig[e]
      (g0.ready = true) ∧ (g0.fswap = false) ∧ (s.eccOf key 0 ≤ 1) ∧ (srcC 2 2 e.val ∉ s.inj.residue) ∧ (g.swpend = false) ∧ (g.sc = 0) ∧ (g.txMiss = none) ∧ (g.txf.head?).any (fun _ => true) = true)
    ∧ (∃ (s : State) (e : Fin 8) (imm : BitVec 16) (pins : BitVec 8) (bits : BitVec 32) (i : Fin 8) (n : Fin 33) (ord : Bool) (stamp : Nat), (s.clocked = true) ∧ (n ≠ 0) ∧ let g0 := s.jig[e]
      let key : Nat := jigKey e g0.bank g0.pc
      let u := ((s.jigTick e).jigFetch e).1
      let g := u.jig[e]
      let pushAt : Nat := if u.rf Reg.jigCfg e.val 12 8 = 0 then 32 else u.rf Reg.jigCfg e.val 12 8
      let auto : Bool := u.rb Reg.jigCfg e.val 7 && decide (pushAt ≤ min 32 (g.sc + n.val))
      (g0.ready = true) ∧ (g0.fswap = false) ∧ (s.eccOf key 0 ≤ 1) ∧ (srcC 2 2 e.val ∉ s.inj.residue) ∧ (auto = true) ∧ ([0, 16]).any (fun _ => true) = true)
    ∧ (∃ (s : State) (e : Fin 8) (imm : BitVec 16) (pins : BitVec 8) (bits : BitVec 32) (i : Fin 8) (n : Fin 33) (ord : Bool) (stamp : Nat), (s.clocked = true) ∧ (n ≠ 0) ∧ let g0 := s.jig[e]
      let key : Nat := jigKey e g0.bank g0.pc
      let u := ((s.jigTick e).jigFetch e).1
      let pull : Bool := u.rb Reg.jigCfg e.val 13
      (g0.ready = true) ∧ (g0.fswap = false) ∧ (s.eccOf key 0 ≤ 1) ∧ (srcC 2 2 e.val ∉ s.inj.residue) ∧ (pull = true) ∧ ([0, 16]).any (fun _ => true) = true)
    ∧ (∃ (s : State) (e : Fin 8) (imm : BitVec 16) (pins : BitVec 8) (bits : BitVec 32) (i : Fin 8) (n : Fin 33) (ord : Bool) (stamp : Nat), (s.clocked = true) ∧ (n ≠ 0) ∧ let g0 := s.jig[e]
      let key : Nat := jigKey e g0.bank g0.pc
      let u := ((s.jigTick e).jigFetch e).1
      let g := u.jig[e]
      (g0.ready = true) ∧ (g0.fswap = false) ∧ (s.eccOf key 0 ≤ 1) ∧ (srcC 2 2 e.val ∉ s.inj.residue) ∧ (8 ≤ g.rxf.length))
    ∧ (∃ (s : State) (e : Fin 8) (imm : BitVec 16) (pins : BitVec 8) (bits : BitVec 32) (i : Fin 8) (n : Fin 33) (ord : Bool) (stamp : Nat), (s.clocked = true) ∧ (n ≠ 0) ∧ let g0 := s.jig[e]
      let key : Nat := jigKey e g0.bank g0.pc
      let u := ((s.jigTick e).jigFetch e).1
      let g := u.jig[e]
      (g0.ready = true) ∧ (g0.fswap = false) ∧ (s.eccOf key 0 ≤ 1) ∧ (srcC 2 2 e.val ∉ s.inj.residue) ∧ (g.sc = 0) ∧ (g.txf = []))
    ∧ (∃ (s : State) (e : Fin 8) (imm : BitVec 16) (pins : BitVec 8) (bits : BitVec 32) (i : Fin 8) (n : Fin 33) (ord : Bool) (stamp : Nat), (s.clocked = true) ∧ (n ≠ 0) ∧ let g0 := s.jig[e]
      let key : Nat := jigKey e g0.bank g0.pc
      let u := ((s.jigTick e).jigFetch e).1
      let g := u.jig[e]
      let pushAt : Nat := if u.rf Reg.jigCfg e.val 12 8 = 0 then 32 else u.rf Reg.jigCfg e.val 12 8
      let auto : Bool := u.rb Reg.jigCfg e.val 7 && decide (pushAt ≤ min 32 (g.sc + n.val))
      (g0.ready = true) ∧ (g0.fswap = false) ∧ (s.eccOf key 0 ≤ 1) ∧ (srcC 2 2 e.val ∉ s.inj.residue) ∧ (g.swpend = true) ∧ (auto = false))
    ∧ (∃ (s : State) (e : Fin 8) (imm : BitVec 16) (pins : BitVec 8) (bits : BitVec 32) (i : Fin 8) (n : Fin 33) (ord : Bool) (stamp : Nat), (s.clocked = true) ∧ (n ≠ 0) ∧ let g0 := s.jig[e]
      let key : Nat := jigKey e g0.bank g0.pc
      let u := ((s.jigTick e).jigFetch e).1
      let g := u.jig[e]
      let m : Nat := min n.val g.sc
      (g0.ready = true) ∧ (g0.fswap = false) ∧ (s.eccOf key 0 ≤ 1) ∧ (srcC 2 2 e.val ∉ s.inj.residue) ∧ ∃ nb : Bool, (g.txf.head?).any (fun w => decide (((∀ m ∈ g.txMiss, m.1 ≠ u.svclk)))) = true)
    ∧ (∃ (s : State) (e : Fin 8) (imm : BitVec 16) (pins : BitVec 8) (bits : BitVec 32) (i : Fin 8) (n : Fin 33) (ord : Bool) (stamp : Nat), (s.clocked = true) ∧ (n ≠ 0) ∧ let g0 := s.jig[e]
      let key : Nat := jigKey e g0.bank g0.pc
      let u := ((s.jigTick e).jigFetch e).1
      let g := u.jig[e]
      let m : Nat := min n.val g.sc
      (g0.ready = true) ∧ (g0.fswap = false) ∧ (s.eccOf key 0 ≤ 1) ∧ (srcC 2 2 e.val ∉ s.inj.residue) ∧ ∃ nb : Bool, (g.txf.head?).any (fun w => decide ((g.txf.length ≤ 8) ∧ (g.txMiss).any (fun m => decide ((m.1 = u.svclk))))) = true)
    ∧ (∃ (s : State) (e : Fin 8) (imm : BitVec 16) (pins : BitVec 8) (bits : BitVec 32) (i : Fin 8) (n : Fin 33) (ord : Bool) (stamp : Nat), (s.clocked = true) ∧ (n ≠ 0) ∧ let g0 := s.jig[e]
      let key : Nat := jigKey e g0.bank g0.pc
      let u := ((s.jigTick e).jigFetch e).1
      let g := u.jig[e]
      (g0.ready = true) ∧ (g0.fswap = false) ∧ (s.eccOf key 0 ≤ 1) ∧ (srcC 2 2 e.val ∉ s.inj.residue) ∧ ∃ nb : Bool, (g.txf = []))
    ∧ (∃ (s : State) (e : Fin 8) (imm : BitVec 16) (pins : BitVec 8) (bits : BitVec 32) (i : Fin 8) (n : Fin 33) (ord : Bool) (stamp : Nat), (s.clocked = true) ∧ (n ≠ 0) ∧ let g0 := s.jig[e]
      (s.sys.vio[2] = true) ∧ ∃ lv : Bool, (g0.wait = some (.level i lv)))
    ∧ (∃ (s : State) (e : Fin 8) (imm : BitVec 16) (pins : BitVec 8) (bits : BitVec 32) (i : Fin 8) (n : Fin 33) (ord : Bool) (stamp : Nat), (s.clocked = true) ∧ (n ≠ 0) ∧ let g0 := s.jig[e]
      (s.sys.vio[2] = true) ∧ ∃ k : Fin 4, ∃ cap : Bool, (g0.wait = some (.edge i k.val cap)) ∧ (stamp ≤ g0.began))
    ∧ (∃ (s : State) (e : Fin 8) (imm : BitVec 16) (pins : BitVec 8) (bits : BitVec 32) (i : Fin 8) (n : Fin 33) (ord : Bool) (stamp : Nat), (s.clocked = true) ∧ (n ≠ 0) ∧ let g0 := s.jig[e]
      (s.sys.vio[2] = true) ∧ ∃ k : Fin 4, (g0.wait = some (.edge i k.val false)) ∧ (g0.began < stamp))
    ∧ (∃ (s : State) (e : Fin 8) (imm : BitVec 16) (pins : BitVec 8) (bits : BitVec 32) (i : Fin 8) (n : Fin 33) (ord : Bool) (stamp : Nat), (s.clocked = true) ∧ (n ≠ 0) ∧ let g0 := s.jig[e]
      (s.sys.vio[2] = true) ∧ ∃ k : Fin 4, (g0.wait = some (.edge i k.val true)) ∧ (g0.began < stamp))
    ∧ (∃ (s : State) (e : Fin 8) (imm : BitVec 16) (pins : BitVec 8) (bits : BitVec 32) (i : Fin 8) (n : Fin 33) (ord : Bool) (stamp : Nat), (s.clocked = true) ∧ (n ≠ 0) ∧ let g0 := s.jig[e]
      ∃ k : Fin 4, ∃ cap : Bool, (s.sys.vio[2] = false) ∧ (g0.wait = some (.edge i k.val cap)))
    ∧ (∃ (s : State) (e : Fin 8) (imm : BitVec 16) (pins : BitVec 8) (bits : BitVec 32) (i : Fin 8) (n : Fin 33) (ord : Bool) (stamp : Nat), (s.clocked = true) ∧ (n ≠ 0) ∧ let g0 := s.jig[e]
      (g0.wait = none))
    ∧ (∃ (s : State) (e : Fin 8) (imm : BitVec 16) (pins : BitVec 8) (bits : BitVec 32) (i : Fin 8) (n : Fin 33) (ord : Bool) (stamp : Nat), (s.clocked = true) ∧ (n ≠ 0) ∧ let g0 := s.jig[e]
      (g0.wait.isSome = true) ∧ (g0.tmo ≠ 0))
    ∧ (∃ (s : State) (e : Fin 8) (imm : BitVec 16) (pins : BitVec 8) (bits : BitVec 32) (i : Fin 8) (n : Fin 33) (ord : Bool) (stamp : Nat), (s.clocked = true) ∧ (n ≠ 0) ∧ let g0 := s.jig[e]
      (g0.tmo = 0))
    ∧ (∃ (s : State) (e : Fin 8) (imm : BitVec 16) (pins : BitVec 8) (bits : BitVec 32) (i : Fin 8) (n : Fin 33) (ord : Bool) (stamp : Nat), (s.clocked = true) ∧ (n ≠ 0) ∧ let g0 := s.jig[e]
      (g0.stall = none))
    ∧ (∃ (s : State) (e : Fin 8) (imm : BitVec 16) (pins : BitVec 8) (bits : BitVec 32) (i : Fin 8) (n : Fin 33) (ord : Bool) (stamp : Nat), (s.clocked = true) ∧ (n ≠ 0) ∧ let g0 := s.jig[e]
      (g0.stall = some .push ∨ (g0.stall = some .shinEnd ∧ g0.swpend = false)) ∧ (g0.rxf.length < 8))
    ∧ (∃ (s : State) (e : Fin 8) (imm : BitVec 16) (pins : BitVec 8) (bits : BitVec 32) (i : Fin 8) (n : Fin 33) (ord : Bool) (stamp : Nat), (s.clocked = true) ∧ (n ≠ 0) ∧ let g0 := s.jig[e]
      let u := ((s.jigTick e).jigFetch e).1
      let pull : Bool := u.rb Reg.jigCfg e.val 13
      (g0.stall = some .pull) ∧ (g0.txf.head?).any (fun _ => true) = true)
    ∧ (∃ (s : State) (e : Fin 8) (imm : BitVec 16) (pins : BitVec 8) (bits : BitVec 32) (i : Fin 8) (n : Fin 33) (ord : Bool) (stamp : Nat), (s.clocked = true) ∧ (n ≠ 0) ∧ let g0 := s.jig[e]
      (g0.stall = some (.shout i ord true n.val n.val 0)) ∧ (g0.sc = 0) ∧ (g0.swpend = false) ∧ (g0.txf.head?).any (fun w => decide ((g0.txMiss = none))) = true)
    ∧ (∃ (s : State) (e : Fin 8) (imm : BitVec 16) (pins : BitVec 8) (bits : BitVec 32) (i : Fin 8) (n : Fin 33) (ord : Bool) (stamp : Nat), (s.clocked = true) ∧ (n ≠ 0) ∧ let g0 := s.jig[e]
      (g0.stall = some .push ∨ g0.stall = some .shinEnd) ∧ (8 ≤ g0.rxf.length))
    ∧ (∃ (s : State) (e : Fin 8) (imm : BitVec 16) (pins : BitVec 8) (bits : BitVec 32) (i : Fin 8) (n : Fin 33) (ord : Bool) (stamp : Nat), (s.clocked = true) ∧ (n ≠ 0) ∧ let g0 := s.jig[e]
      let u := ((s.jigTick e).jigFetch e).1
      let pull : Bool := u.rb Reg.jigCfg e.val 13
      (g0.stall = some .pull) ∧ (g0.txf = [])) :=
  ⟨⟨atInstr.setRf Reg.jigCfg 7 7 7 1, 7, 0, 0, 0, 7, 32, false, 1, by decide +kernel⟩,
    ⟨atInstr.setRf Reg.jigCfg 7 7 7 1, 7, 0, 0, 0, 7, 32, false, 1, by decide +kernel⟩,
    ⟨(jigged fun g => { g with run := true, trgl := true, trgAt := some (0, true) }).setRf Reg.jigCnt 7 15 0 3, 7, 0, 0, 0, 7, 32, false, 1, by decide +kernel⟩,
    ⟨atInstr.setRf Reg.jigCfg 7 13 13 1, 7, 0, 0, 0, 7, 32, false, 1, by decide +kernel⟩,
    ⟨atInstr.setRf Reg.jigCfg 7 7 7 1, 7, 0, 0, 0, 7, 32, false, 1, by decide +kernel⟩,
    ⟨atInstr.setRf Reg.jigCfg 7 7 7 1, 7, 0, 0, 0, 7, 32, false, 1, by decide +kernel⟩,
    ⟨jigged fun g => { g with run := true, txf := [5] }, 7, 0, 0, 0, 7, 32, false, 0, by decide +kernel⟩,
    ⟨atInstr.setRf Reg.jigCfg 7 7 7 1, 7, 0, 0, 0, 7, 32, false, 1, by decide +kernel⟩,
    ⟨atInstr.setRf Reg.jigCfg 7 13 13 1, 7, 0, 0, 0, 7, 32, false, 1, by decide +kernel⟩,
    ⟨jigged fun g => { g with run := true, rxf := List.replicate 8 0 }, 7, 0, 0, 0, 7, 32, false, 0, by decide +kernel⟩,
    ⟨atInstr.setRf Reg.jigCfg 7 7 7 1, 7, 0, 0, 0, 7, 32, false, 1, by decide +kernel⟩,
    ⟨jigged fun g => { g with run := true, swpend := true }, 7, 0, 0, 0, 7, 32, false, 0, by decide +kernel⟩,
    ⟨jigged fun g => { g with run := true, txf := [5] }, 7, 0, 0, 0, 7, 32, false, 0, by decide +kernel⟩,
    ⟨(jigged fun g => { g with run := true, txf := List.replicate 8 3, txMiss := some (0, 7, false) }).setRf Reg.jigEvt 7 2 2 1, 7, 0, 0, 0, 7, 32, false, 1, by decide +kernel⟩,
    ⟨atInstr.setRf Reg.jigCfg 7 7 7 1, 7, 0, 0, 0, 7, 32, false, 1, by decide +kernel⟩,
    ⟨jigged fun g => { g with run := true, wait := some (.level 7 true) }, 7, 0, 0, 0, 7, 32, false, 0, by decide +kernel⟩,
    ⟨jigged fun g => { g with run := true, wait := some (.edge 7 3 false) }, 7, 0, 0, 0, 7, 32, false, 0, by decide +kernel⟩,
    ⟨jigged fun g => { g with run := true, wait := some (.edge 7 3 false) }, 7, 0, 0, 0, 7, 32, false, 1, by decide +kernel⟩,
    ⟨jigged fun g => { g with run := true, wait := some (.edge 7 3 true) }, 7, 0, 0, 0, 7, 32, false, 1, by decide +kernel⟩,
    ⟨{ jigged fun g => { g with run := true, wait := some (.edge 7 3 true) } with sys := { up.sys with vio := up.sys.vio.set 2 false } }, 7, 0, 0, 0, 7, 32, false, 1, by decide +kernel⟩,
    ⟨atInstr.setRf Reg.jigCfg 7 7 7 1, 7, 0, 0, 0, 7, 32, false, 1, by decide +kernel⟩,
    ⟨jigged fun g => { g with run := true, tmo := 1, wait := some (.level 7 true) }, 7, 0, 0, 0, 7, 32, false, 0, by decide +kernel⟩,
    ⟨atInstr.setRf Reg.jigCfg 7 7 7 1, 7, 0, 0, 0, 7, 32, false, 1, by decide +kernel⟩,
    ⟨atInstr.setRf Reg.jigCfg 7 7 7 1, 7, 0, 0, 0, 7, 32, false, 1, by decide +kernel⟩,
    ⟨jigged fun g => { g with run := true, stall := some .push, rxf := List.replicate 7 0 }, 7, 0, 0, 0, 7, 32, false, 0, by decide +kernel⟩,
    ⟨jigged fun g => { g with run := true, stall := some .pull, txf := [5] }, 7, 0, 0, 0, 7, 32, false, 0, by decide +kernel⟩,
    ⟨jigged fun g => { g with run := true, stall := some (.shout 7 false true 32 32 0), txf := [5] }, 7, 0, 0, 0, 7, 32, false, 1, by decide +kernel⟩,
    ⟨jigged fun g => { g with run := true, stall := some .push, rxf := List.replicate 8 0 }, 7, 0, 0, 0, 7, 32, false, 0, by decide +kernel⟩,
    ⟨jigged fun g => { g with run := true, stall := some .pull }, 7, 0, 0, 0, 7, 32, false, 0, by decide +kernel⟩⟩

/-- States and operands that meet the hypotheses of JigCommands. -/
theorem test_meets_JigCommands :
    (∃ (s : State) (q : Fin 2) (p : Fin 11) (e : Fin 8) (mask : BitVec 8) (i : Fin 64) (v : BitVec 32), (s.clocked = true) ∧ let g := s.jig[e]
      let put (u : State) (h : Jig) : State := { u with jig := s.jig.set e.val h e.isLt }
      let ctl := s.touched Reg.jigCtl e.val
      let named : Bool := mask.getLsbD e.val
      let next : Nat := max g.tick (g.tickFrom (s.svclk + 1)) -- FSWAP acts at the first tick after its SVCLK
      let at_ : Nat := if g.run then ((put ctl { g with tick := next }).jigTick e).svclk else s.svclk
      let fresh : Prop := ∀ x ∈ s.jigCmds[e], x.at_ ≠ s.svclk
      (s.Writable q) ∧ ((∀ k : Fin 8, mask.getLsbD k.val = true → s.jig[k].owner = 12 ∨ s.jig[k].owner = 15)) ∧ (fresh) ∧ (named = true) ∧ (s.rb Reg.jigCfg e.val 0 = true) ∧ (g.fault = false) ∧ (s.live = true) ∧ (s.coll.safe = false) ∧ (g.owner = 12))
    ∧ (∃ (s : State) (q : Fin 2) (p : Fin 11) (e : Fin 8) (mask : BitVec 8) (i : Fin 64) (v : BitVec 32), (s.clocked = true) ∧ let g := s.jig[e]
      let named : Bool := mask.getLsbD e.val
      (s.Writable q) ∧ ((∀ k : Fin 8, mask.getLsbD k.val = true → s.jig[k].owner = 12 ∨ s.jig[k].owner = 15)) ∧ (named = false ∨ s.rb Reg.jigCfg e.val 0 = false ∨ g.fault = true))
    ∧ (∃ (s : State) (q : Fin 2) (p : Fin 11) (e : Fin 8) (mask : BitVec 8) (i : Fin 64) (v : BitVec 32), (s.clocked = true) ∧ let g := s.jig[e]
      let put (u : State) (h : Jig) : State := { u with jig := s.jig.set e.val h e.isLt }
      let ctl := s.touched Reg.jigCtl e.val
      let next : Nat := max g.tick (g.tickFrom (s.svclk + 1)) -- FSWAP acts at the first tick after its SVCLK
      let at_ : Nat := if g.run then ((put ctl { g with tick := next }).jigTick e).svclk else s.svclk
      (s.Writable q) ∧ ((∀ k : Fin 8, mask.getLsbD k.val = true → s.jig[k].owner = 12 ∨ s.jig[k].owner = 15)) ∧ (s.jigCmds[e]).any (fun x => decide ((x.at_ = s.svclk) ∧ (x.rank = 3))) = true)
    ∧ (∃ (s : State) (q : Fin 2) (p : Fin 11) (e : Fin 8) (mask : BitVec 8) (i : Fin 64) (v : BitVec 32), (s.clocked = true) ∧ let g := s.jig[e]
      let put (u : State) (h : Jig) : State := { u with jig := s.jig.set e.val h e.isLt }
      let ctl := s.touched Reg.jigCtl e.val
      let next : Nat := max g.tick (g.tickFrom (s.svclk + 1)) -- FSWAP acts at the first tick after its SVCLK
      let at_ : Nat := if g.run then ((put ctl { g with tick := next }).jigTick e).svclk else s.svclk
      let fresh : Prop := ∀ x ∈ s.jigCmds[e], x.at_ ≠ s.svclk
      (s.Writable q) ∧ ((∀ k : Fin 8, mask.getLsbD k.val = true → s.jig[k].owner = 12 ∨ s.jig[k].owner = 15)) ∧ (fresh))
    ∧ (∃ (s : State) (q : Fin 2) (p : Fin 11) (e : Fin 8) (mask : BitVec 8) (i : Fin 64) (v : BitVec 32), (s.clocked = true) ∧ let g := s.jig[e]
      let put (u : State) (h : Jig) : State := { u with jig := s.jig.set e.val h e.isLt }
      let ctl := s.touched Reg.jigCtl e.val
      let named : Bool := mask.getLsbD e.val
      let next : Nat := max g.tick (g.tickFrom (s.svclk + 1)) -- FSWAP acts at the first tick after its SVCLK
      let at_ : Nat := if g.run then ((put ctl { g with tick := next }).jigTick e).svclk else s.svclk
      (s.Writable q) ∧ ((∀ k : Fin 8, mask.getLsbD k.val = true → s.jig[k].owner = 12 ∨ s.jig[k].owner = 15)) ∧ (named = true) ∧ (s.jigCmds[e]).any (fun x => decide ((x.at_ = s.svclk) ∧ (x.rank = 2))) = true)
    ∧ (∃ (s : State) (q : Fin 2) (p : Fin 11) (e : Fin 8) (mask : BitVec 8) (i : Fin 64) (v : BitVec 32), (s.clocked = true) ∧ let g := s.jig[e]
      let put (u : State) (h : Jig) : State := { u with jig := s.jig.set e.val h e.isLt }
      let ctl := s.touched Reg.jigCtl e.val
      let next : Nat := max g.tick (g.tickFrom (s.svclk + 1)) -- FSWAP acts at the first tick after its SVCLK
      let at_ : Nat := if g.run then ((put ctl { g with tick := next }).jigTick e).svclk else s.svclk
      let fresh : Prop := ∀ x ∈ s.jigCmds[e], x.at_ ≠ s.svclk
      (s.Writable q) ∧ ((∀ k : Fin 8, mask.getLsbD k.val = true → s.jig[k].owner = 12 ∨ s.jig[k].owner = 15)) ∧ (fresh))
    ∧ (∃ (s : State) (q : Fin 2) (p : Fin 11) (e : Fin 8) (mask : BitVec 8) (i : Fin 64) (v : BitVec 32), (s.clocked = true) ∧ let g := s.jig[e]
      let put (u : State) (h : Jig) : State := { u with jig := s.jig.set e.val h e.isLt }
      let ctl := s.touched Reg.jigCtl e.val
      let next : Nat := max g.tick (g.tickFrom (s.svclk + 1)) -- FSWAP acts at the first tick after its SVCLK
      let at_ : Nat := if g.run then ((put ctl { g with tick := next }).jigTick e).svclk else s.svclk
      (s.Writable q) ∧ ((∀ k : Fin 8, mask.getLsbD k.val = true → s.jig[k].owner = 12 ∨ s.jig[k].owner = 15)) ∧ (s.jigCmds[e]).any (fun x => decide ((x.at_ = s.svclk) ∧ (1 < x.rank))) = true)
    ∧ (∃ (s : State) (q : Fin 2) (p : Fin 11) (e : Fin 8) (mask : BitVec 8) (i : Fin 64) (v : BitVec 32), (s.clocked = true) ∧ let g := s.jig[e]
      let named : Bool := mask.getLsbD e.val
      (s.Writable q) ∧ (named = true) ∧ (g.owner < 9))
    ∧ (∃ (s : State) (q : Fin 2) (p : Fin 11) (e : Fin 8) (mask : BitVec 8) (i : Fin 64) (v : BitVec 32), (s.clocked = true) ∧ let g := s.jig[e]
      ((9 ≤ p.val → s.sys.st ≠ .lockout ∧ s.coll.relWait = none)) ∧ ((p.val = 10 → s.mntMay true = true)) ∧ (g.owner = (if p.val < 9 then p.val else 12)) ∧ (g.swpend = true))
    ∧ (∃ (s : State) (q : Fin 2) (p : Fin 11) (e : Fin 8) (mask : BitVec 8) (i : Fin 64) (v : BitVec 32), (s.clocked = true) ∧ let g := s.jig[e]
      ((9 ≤ p.val → s.sys.st ≠ .lockout ∧ s.coll.relWait = none)) ∧ ((p.val = 10 → s.mntMay true = true)) ∧ (g.owner = (if p.val < 9 then p.val else 12)) ∧ (g.swpend = false) ∧ (g.run = true) ∧ (s.rb Reg.jigCfg e.val 0 = true))
    ∧ (∃ (s : State) (q : Fin 2) (p : Fin 11) (e : Fin 8) (mask : BitVec 8) (i : Fin 64) (v : BitVec 32), (s.clocked = true) ∧ let g := s.jig[e]
      ((9 ≤ p.val → s.sys.st ≠ .lockout ∧ s.coll.relWait = none)) ∧ ((p.val = 10 → s.mntMay true = true)) ∧ (g.owner = (if p.val < 9 then p.val else 12)) ∧ (g.swpend = false) ∧ (g.run = false ∨ s.rb Reg.jigCfg e.val 0 = false))
    ∧ (∃ (s : State) (q : Fin 2) (p : Fin 11) (e : Fin 8) (mask : BitVec 8) (i : Fin 64) (v : BitVec 32), (s.clocked = true) ∧ let g := s.jig[e]
      ((9 ≤ p.val → s.sys.st ≠ .lockout ∧ s.coll.relWait = none)) ∧ ((p.val = 10 → s.mntMay true = true)) ∧ (g.owner = (if p.val < 9 then p.val else 12)) ∧ (g.ready = false))
    ∧ (∃ (s : State) (q : Fin 2) (p : Fin 11) (e : Fin 8) (mask : BitVec 8) (i : Fin 64) (v : BitVec 32), (s.clocked = true) ∧ let g := s.jig[e]
      let word := g.prog g.bank g.pc
      ((9 ≤ p.val → s.sys.st ≠ .lockout ∧ s.coll.relWait = none)) ∧ ((p.val = 10 → s.mntMay true = true)) ∧ (g.owner = (if p.val < 9 then p.val else 12)) ∧ (g.ready = true) ∧ (g.fault = false) ∧ (word = 0))
    ∧ (∃ (s : State) (q : Fin 2) (p : Fin 11) (e : Fin 8) (mask : BitVec 8) (i : Fin 64) (v : BitVec 32), (s.clocked = true) ∧ let g := s.jig[e]
      let word := g.prog g.bank g.pc
      ((9 ≤ p.val → s.sys.st ≠ .lockout ∧ s.coll.relWait = none)) ∧ ((p.val = 10 → s.mntMay true = true)) ∧ (g.owner = (if p.val < 9 then p.val else 12)) ∧ (g.ready = true) ∧ (g.fault = false) ∧ (word = 0x54000000) ∧ (s.inj.flips = []) ∧ (s.inj.residue = []))
    ∧ (∃ (s : State) (q : Fin 2) (p : Fin 11) (e : Fin 8) (mask : BitVec 8) (i : Fin 64) (v : BitVec 32), (s.clocked = true) ∧ let g := s.jig[e]
      let word := g.prog g.bank g.pc
      ((9 ≤ p.val → s.sys.st ≠ .lockout ∧ s.coll.relWait = none)) ∧ ((p.val = 10 → s.mntMay true = true)) ∧ (g.owner = (if p.val < 9 then p.val else 12)) ∧ (g.ready = true) ∧ (word = 0x1C000001))
    ∧ (∃ (s : State) (q : Fin 2) (p : Fin 11) (e : Fin 8) (mask : BitVec 8) (i : Fin 64) (v : BitVec 32), (s.clocked = true) ∧ let g := s.jig[e]
      ((9 ≤ p.val → s.sys.st ≠ .lockout ∧ s.coll.relWait = none)) ∧ ((p.val = 10 → s.mntMay true = true)) ∧ (g.owner = (if p.val < 9 then p.val else 12)) ∧ (g.stall ≠ some .push) ∧ (g.stall ≠ some .shinEnd))
    ∧ (∃ (s : State) (q : Fin 2) (p : Fin 11) (e : Fin 8) (mask : BitVec 8) (i : Fin 64) (v : BitVec 32), (s.clocked = true) ∧ let g := s.jig[e]
      ((9 ≤ p.val → s.sys.st ≠ .lockout ∧ s.coll.relWait = none)) ∧ ((p.val = 10 → s.mntMay true = true)) ∧ (g.owner = (if p.val < 9 then p.val else 12)) ∧ (g.stall = some .push ∨ (g.stall = some .shinEnd ∧ g.swpend = false)))
    ∧ (∃ (s : State) (q : Fin 2) (p : Fin 11) (e : Fin 8) (mask : BitVec 8) (i : Fin 64) (v : BitVec 32), (s.clocked = true) ∧ let g := s.jig[e]
      let first (a : Nat) : Prop := s.hwNow (wroteKey a) < 2 * portRank p
      ((9 ≤ p.val → s.sys.st ≠ .lockout ∧ s.coll.relWait = none)) ∧ ((p.val = 10 → s.mntMay true = true)) ∧ (g.owner = (if p.val < 9 then p.val else 12)) ∧ (first (Reg.jigProg.addr e.val i.val)) ∧ ((∀ x ∈ g.swapAt, x.1 ≠ s.svclk)) ∧ (g.swpend = false) ∧ (9 ≤ p.val))
    ∧ (∃ (s : State) (q : Fin 2) (p : Fin 11) (e : Fin 8) (mask : BitVec 8) (i : Fin 64) (v : BitVec 32), (s.clocked = true) ∧ let g := s.jig[e]
      let first (a : Nat) : Prop := s.hwNow (wroteKey a) < 2 * portRank p
      ((9 ≤ p.val → s.sys.st ≠ .lockout ∧ s.coll.relWait = none)) ∧ ((p.val = 10 → s.mntMay true = true)) ∧ (g.owner = (if p.val < 9 then p.val else 12)) ∧ (first (Reg.jigProg.addr e.val i.val)) ∧ (g.swapAt).any (fun x => decide ((x.1 = s.svclk) ∧ (9 ≤ p.val))) = true)
    ∧ (∃ (s : State) (q : Fin 2) (p : Fin 11) (e : Fin 8) (mask : BitVec 8) (i : Fin 64) (v : BitVec 32), (s.clocked = true) ∧ let g := s.jig[e]
      let first (a : Nat) : Prop := s.hwNow (wroteKey a) < 2 * portRank p
      ((9 ≤ p.val → s.sys.st ≠ .lockout ∧ s.coll.relWait = none)) ∧ ((p.val = 10 → s.mntMay true = true)) ∧ (g.owner = (if p.val < 9 then p.val else 12)) ∧ (¬first (Reg.jigProg.addr e.val i.val)) ∧ (g.swpend = false))
    ∧ (∃ (s : State) (q : Fin 2) (p : Fin 11) (e : Fin 8) (mask : BitVec 8) (i : Fin 64) (v : BitVec 32), (s.clocked = true) ∧ let g := s.jig[e]
      ((9 ≤ p.val → s.sys.st ≠ .lockout ∧ s.coll.relWait = none)) ∧ ((p.val = 10 → s.mntMay true = true)) ∧ (g.owner = (if p.val < 9 then p.val else 12)) ∧ ((∀ x ∈ g.swapAt, x.1 ≠ s.svclk)) ∧ (g.swpend = true) ∧ (9 ≤ p.val))
    ∧ (∃ (s : State) (q : Fin 2) (p : Fin 11) (e : Fin 8) (mask : BitVec 8) (i : Fin 64) (v : BitVec 32), (s.clocked = true) ∧ let g := s.jig[e]
      let first (a : Nat) : Prop := s.hwNow (wroteKey a) < 2 * portRank p
      let txf : Nat := Reg.jigTxf.addr e.val 0
      let noPull : Prop := ∀ m ∈ g.nbMiss, m.1 ≠ s.svclk ∨ m.2.1 = false
      ((9 ≤ p.val → s.sys.st ≠ .lockout ∧ s.coll.relWait = none)) ∧ ((p.val = 10 → s.mntMay true = true)) ∧ (g.owner = (if p.val < 9 then p.val else 12)) ∧ (g.txf.length < 8) ∧ (first txf) ∧ (noPull))
    ∧ (∃ (s : State) (q : Fin 2) (p : Fin 11) (e : Fin 8) (mask : BitVec 8) (i : Fin 64) (v : BitVec 32), (s.clocked = true) ∧ let g := s.jig[e]
      let first (a : Nat) : Prop := s.hwNow (wroteKey a) < 2 * portRank p
      let txf : Nat := Reg.jigTxf.addr e.val 0
      let noPull : Prop := ∀ m ∈ g.nbMiss, m.1 ≠ s.svclk ∨ m.2.1 = false
      ((9 ≤ p.val → s.sys.st ≠ .lockout ∧ s.coll.relWait = none)) ∧ ((p.val = 10 → s.mntMay true = true)) ∧ (g.owner = (if p.val < 9 then p.val else 12)) ∧ (¬first txf) ∧ (noPull) ∧ (g.txf.getLast?).any (fun w => decide ((g.txf.length < 8))) = true)
    ∧ (∃ (s : State) (q : Fin 2) (p : Fin 11) (e : Fin 8) (mask : BitVec 8) (i : Fin 64) (v : BitVec 32), (s.clocked = true) ∧ let g := s.jig[e]
      let first (a : Nat) : Prop := s.hwNow (wroteKey a) < 2 * portRank p
      let txf : Nat := Reg.jigTxf.addr e.val 0
      let noPull : Prop := ∀ m ∈ g.nbMiss, m.1 ≠ s.svclk ∨ m.2.1 = false
      ((9 ≤ p.val → s.sys.st ≠ .lockout ∧ s.coll.relWait = none)) ∧ ((p.val = 10 → s.mntMay true = true)) ∧ (g.owner = (if p.val < 9 then p.val else 12)) ∧ (¬first txf) ∧ (noPull) ∧ (g.txf.getLast?).any (fun w => decide ((g.txf.length = 8))) = true)
    ∧ (∃ (s : State) (q : Fin 2) (p : Fin 11) (e : Fin 8) (mask : BitVec 8) (i : Fin 64) (v : BitVec 32), (s.clocked = true) ∧ let g := s.jig[e]
      let txf : Nat := Reg.jigTxf.addr e.val 0
      ((9 ≤ p.val → s.sys.st ≠ .lockout ∧ s.coll.relWait = none)) ∧ ((p.val = 10 → s.mntMay true = true)) ∧ (g.owner = (if p.val < 9 then p.val else 12)) ∧ (g.txf = []) ∧ (g.nbMiss).any (fun m => decide ((m.1 = s.svclk) ∧ (m.2.1 = true))) = true)
    ∧ (∃ (s : State) (q : Fin 2) (p : Fin 11) (e : Fin 8) (mask : BitVec 8) (i : Fin 64) (v : BitVec 32), (s.clocked = true) ∧ let g := s.jig[e]
      let first (a : Nat) : Prop := s.hwNow (wroteKey a) < 2 * portRank p
      let txf : Nat := Reg.jigTxf.addr e.val 0
      ((9 ≤ p.val → s.sys.st ≠ .lockout ∧ s.coll.relWait = none)) ∧ ((p.val = 10 → s.mntMay true = true)) ∧ (g.owner = (if p.val < 9 then p.val else 12)) ∧ (8 ≤ g.txf.length) ∧ (first txf))
    ∧ (∃ (s : State) (q : Fin 2) (p : Fin 11) (e : Fin 8) (mask : BitVec 8) (i : Fin 64) (v : BitVec 32), (s.clocked = true) ∧ let g := s.jig[e]
      ((9 ≤ p.val → s.sys.st ≠ .lockout ∧ s.coll.relWait = none)) ∧ ((p.val = 10 → s.mntMay true = true)) ∧ (g.owner = (if p.val < 9 then p.val else 12)) ∧ (s.hwNow (wroteKey (Reg.jigCfg.addr e.val 0)) < 2 * portRank p) ∧ (9 ≤ p.val))
    ∧ (∃ (s : State) (q : Fin 2) (p : Fin 11) (e : Fin 8) (mask : BitVec 8) (i : Fin 64) (v : BitVec 32), (s.clocked = true) ∧ let g := s.jig[e]
      ((9 ≤ p.val → s.sys.st ≠ .lockout ∧ s.coll.relWait = none)) ∧ ((p.val = 10 → s.mntMay true = true)) ∧ (g.owner = (if p.val < 9 then p.val else 12)) ∧ (s.hwNow (wroteKey (Reg.jigCfg.addr e.val 0)) < 2 * portRank p) ∧ (s.rb Reg.jigCfg e.val 0 = true) ∧ (g.fswap = true))
    ∧ (∃ (s : State) (q : Fin 2) (p : Fin 11) (e : Fin 8) (mask : BitVec 8) (i : Fin 64) (v : BitVec 32), (s.clocked = true) ∧ let g := s.jig[e]
      ((9 ≤ p.val → s.sys.st ≠ .lockout ∧ s.coll.relWait = none)) ∧ ((p.val = 10 → s.mntMay true = true)) ∧ (g.owner = (if p.val < 9 then p.val else 12)) ∧ (s.hwNow (wroteKey (Reg.jigCfg.addr e.val 0)) < 2 * portRank p) ∧ (g.fswap = false))
    ∧ (∃ (s : State) (q : Fin 2) (p : Fin 11) (e : Fin 8) (mask : BitVec 8) (i : Fin 64) (v : BitVec 32), (s.clocked = true) ∧ let g := s.jig[e]
      let seen : List Word := if g.pushAt = some s.svclk then g.rxf.dropLast else g.rxf -- a pop goes before a push of its SVCLK
      ((p.val = 10 → s.mntMay false = true)) ∧ ((9 ≤ p.val → s.coll.relWait = none)) ∧ (seen.head?).any (fun w => decide ((9 ≤ p.val))) = true)
    ∧ (∃ (s : State) (q : Fin 2) (p : Fin 11) (e : Fin 8) (mask : BitVec 8) (i : Fin 64) (v : BitVec 32), (s.clocked = true) ∧ let g := s.jig[e]
      let seen : List Word := if g.pushAt = some s.svclk then g.rxf.dropLast else g.rxf -- a pop goes before a push of its SVCLK
      ((p.val = 10 → s.mntMay false = true)) ∧ ((9 ≤ p.val → s.coll.relWait = none)) ∧ (seen.head?).any (fun w => decide ((g.owner ≠ (if p.val < 9 then p.val else 12)))) = true)
    ∧ (∃ (s : State) (q : Fin 2) (p : Fin 11) (e : Fin 8) (mask : BitVec 8) (i : Fin 64) (v : BitVec 32), (s.clocked = true) ∧ let g := s.jig[e]
      let seen : List Word := if g.pushAt = some s.svclk then g.rxf.dropLast else g.rxf -- a pop goes before a push of its SVCLK
      ((p.val = 10 → s.mntMay false = true)) ∧ ((9 ≤ p.val → s.coll.relWait = none)) ∧ (seen.head?).any (fun w => decide ((g.owner = (if p.val < 9 then p.val else 12)) ∧ ((∀ m ∈ g.nbMiss, m.1 ≠ s.svclk ∨ m.2.1 = true)))) = true)
    ∧ (∃ (s : State) (q : Fin 2) (p : Fin 11) (e : Fin 8) (mask : BitVec 8) (i : Fin 64) (v : BitVec 32), (s.clocked = true) ∧ let g := s.jig[e]
      let seen : List Word := if g.pushAt = some s.svclk then g.rxf.dropLast else g.rxf -- a pop goes before a push of its SVCLK
      ((p.val = 10 → s.mntMay false = true)) ∧ ((9 ≤ p.val → s.coll.relWait = none)) ∧ (seen.head?).any (fun w => decide ((g.owner = (if p.val < 9 then p.val else 12)) ∧ (g.rxf.length ≤ 8) ∧ (g.nbMiss).any (fun m => decide ((m.1 = s.svclk) ∧ (m.2.1 = false))))) = true)
    ∧ (∃ (s : State) (q : Fin 2) (p : Fin 11) (e : Fin 8) (mask : BitVec 8) (i : Fin 64) (v : BitVec 32), (s.clocked = true) ∧ let g := s.jig[e]
      let seen : List Word := if g.pushAt = some s.svclk then g.rxf.dropLast else g.rxf -- a pop goes before a push of its SVCLK
      ((p.val = 10 → s.mntMay false = true)) ∧ ((9 ≤ p.val → s.coll.relWait = none)) ∧ (seen = []) ∧ (9 ≤ p.val)) :=
  ⟨⟨(jigged fun g => { g with owner := 12, run := true, fswap := true, sc := 5 }).setRf Reg.jigCfg 7 0 0 1, 0, 9, 7, 0x80, 3, 0xAB, by decide +kernel⟩,
    ⟨jigged fun g => { g with run := true, prog0 := g.prog0.set 0 0x1C000001 }, 0, 9, 7, 0x80, 63, 0, by decide +kernel⟩,
    ⟨({ jigged (fun g => { g with run := true }) with jigCmds := up.jigCmds.set 7 (some ⟨0, 3, { up.jig[7] with x := 9 }⟩) } : State).setRf Reg.jigCfg 7 0 0 1, 0, 9, 7, 0x80, 63, 0, by decide +kernel⟩,
    ⟨jigged fun g => { g with run := true, prog0 := g.prog0.set 0 0x1C000001 }, 0, 9, 7, 0x80, 63, 0, by decide +kernel⟩,
    ⟨({ jigged (fun g => { g with run := true }) with jigCmds := up.jigCmds.set 7 (some ⟨0, 2, { up.jig[7] with x := 9 }⟩) } : State).setRf Reg.jigCfg 7 0 0 1, 0, 9, 7, 0x80, 63, 0, by decide +kernel⟩,
    ⟨jigged fun g => { g with run := true, prog0 := g.prog0.set 0 0x1C000001 }, 0, 9, 7, 0x80, 63, 0, by decide +kernel⟩,
    ⟨({ jigged (fun g => { g with run := true }) with jigCmds := up.jigCmds.set 7 (some ⟨0, 2, { up.jig[7] with x := 9 }⟩) } : State).setRf Reg.jigCfg 7 0 0 1, 0, 9, 7, 0x80, 63, 0, by decide +kernel⟩,
    ⟨(jigged fun g => { g with rxf := [5], owner := 3 }), 0, 9, 7, 0x80, 63, 0, by decide +kernel⟩,
    ⟨jigged fun g => { g with swapAt := some (0, true), swpend := true, run := true }, 0, 9, 7, 0x80, 63, 5, by decide +kernel⟩,
    ⟨({ jigged (fun g => { g with run := true }) with jigCmds := up.jigCmds.set 7 (some ⟨0, 1, { up.jig[7] with x := 9 }⟩) } : State).setRf Reg.jigCfg 7 0 0 1, 0, 9, 7, 0x80, 63, 0, by decide +kernel⟩,
    ⟨jigged fun g => { g with run := true, prog0 := g.prog0.set 0 0x1C000001 }, 0, 9, 7, 0x80, 63, 0, by decide +kernel⟩,
    ⟨jigged fun g => { g with nbMiss := some (0, true, true) }, 0, 9, 7, 0x80, 63, 5, by decide +kernel⟩,
    ⟨({ jigged (fun g => { g with run := true }) with jigCmds := up.jigCmds.set 7 (some ⟨0, 1, { up.jig[7] with x := 9 }⟩) } : State).setRf Reg.jigCfg 7 0 0 1, 0, 9, 7, 0x80, 63, 0, by decide +kernel⟩,
    ⟨jigged fun g => { g with run := true, prog0 := g.prog0.set 0 0x54000000 }, 0, 9, 7, 0x80, 63, 0, by decide +kernel⟩,
    ⟨jigged fun g => { g with run := true, prog0 := g.prog0.set 0 0x1C000001 }, 0, 9, 7, 0x80, 63, 0, by decide +kernel⟩,
    ⟨jigged fun g => { g with run := true, prog0 := g.prog0.set 0 0x1C000001 }, 0, 9, 7, 0x80, 63, 0, by decide +kernel⟩,
    ⟨jigged fun g => { g with stall := some .push }, 0, 9, 7, 0x80, 63, 0, by decide +kernel⟩,
    ⟨jigged fun g => { g with run := true, prog0 := g.prog0.set 0 0x1C000001 }, 0, 9, 7, 0x80, 63, 0, by decide +kernel⟩,
    ⟨jigged fun g => { g with swapAt := some (0, true), swpend := true, run := true }, 0, 9, 7, 0x80, 63, 5, by decide +kernel⟩,
    ⟨{ calm with hwSet := [(0, wroteKey (Reg.jigProg.addr 7 63), 4)] }, 0, 9, 7, 0x80, 63, 5, by decide +kernel⟩,
    ⟨jigged fun g => { g with swpend := true }, 0, 9, 7, 0x80, 63, 0, by decide +kernel⟩,
    ⟨jigged fun g => { g with run := true, prog0 := g.prog0.set 0 0x1C000001 }, 0, 9, 7, 0x80, 63, 0, by decide +kernel⟩,
    ⟨(jigged fun g => { g with owner := 12, txf := [5, 6] }).hw (wroteKey (Reg.jigTxf.addr 7 0)) 4, 0, 9, 7, 0x80, 3, 0xAB, by decide +kernel⟩,
    ⟨(jigged fun g => { g with owner := 12, txf := [1, 2, 3, 4, 5, 6, 7, 8] }).hw (wroteKey (Reg.jigTxf.addr 7 0)) 4, 0, 9, 7, 0x80, 3, 0xAB, by decide +kernel⟩,
    ⟨jigged fun g => { g with nbMiss := some (0, true, true) }, 0, 9, 7, 0x80, 63, 5, by decide +kernel⟩,
    ⟨jigged fun g => { g with nbMiss := some (0, false, true), txf := List.replicate 8 3, rxf := [3] }, 0, 9, 7, 0x80, 63, 5, by decide +kernel⟩,
    ⟨jigged fun g => { g with run := true, prog0 := g.prog0.set 0 0x1C000001 }, 0, 9, 7, 0x80, 63, 0, by decide +kernel⟩,
    ⟨(jigged fun g => { g with owner := 12, run := true, fswap := true, sc := 5 }).setRf Reg.jigCfg 7 0 0 1, 0, 9, 7, 0x80, 3, 0xAB, by decide +kernel⟩,
    ⟨jigged fun g => { g with run := true, prog0 := g.prog0.set 0 0x1C000001 }, 0, 9, 7, 0x80, 63, 0, by decide +kernel⟩,
    ⟨jigged fun g => { g with nbMiss := some (0, false, true), rxf := List.replicate 8 3 }, 0, 9, 7, 0x80, 63, 5, by decide +kernel⟩,
    ⟨(jigged fun g => { g with rxf := [5], owner := 3 }), 0, 9, 7, 0x80, 63, 0, by decide +kernel⟩,
    ⟨jigged fun g => { g with rxf := [5] }, 0, 9, 7, 0x80, 63, 0, by decide +kernel⟩,
    ⟨jigged fun g => { g with nbMiss := some (0, false, true), rxf := List.replicate 8 3 }, 0, 9, 7, 0x80, 63, 5, by decide +kernel⟩,
    ⟨jigged fun g => { g with run := true, prog0 := g.prog0.set 0 0x1C000001 }, 0, 9, 7, 0x80, 63, 0, by decide +kernel⟩⟩

/-- States and operands that meet the hypotheses of Timers. -/
theorem test_meets_Timers :
    (∃ (s : State) (p : Fin 11) (q : Fin 2) (n : Fin 16) (v : BitVec 32) (stamp : Nat), (s.clocked = true) ∧ let x := s.tmr[n]
      let o : Fin 16 := ⟨n.val / 2 * 2 + 1, by omega⟩
      let deaf : Bool := decide (x.src = 2) && !s.sys.vio[2]
      let lead : Bool := !(s.linked n && decide (n.val % 2 = 1))
      let m : Nat := if s.linked n then 2 ^ 64 else 2 ^ 32
      let count (t : State) : Nat := t.tmr[n].cnt.toNat + if s.linked n then t.tmr[o].cnt.toNat * 2 ^ 32 else 0
      let cmpv (t : State) : Nat := t.tmr[n].cmpv.toNat + if s.linked n then t.tmr[o].cmpv.toNat * 2 ^ 32 else 0
      let c' : Nat := (count s + 1) % m
      let fires : Bool := x.armed && decide (c' = cmpv s)
      (lead = true) ∧ (s.tmrRuns n = true) ∧ (deaf = false) ∧ (srcC 2 3 n.val ∉ s.inj.residue) ∧ (s.tmrPrior n = none) ∧ (c' ≠ 0) ∧ (fires = true))
    ∧ (∃ (s : State) (p : Fin 11) (q : Fin 2) (n : Fin 16) (v : BitVec 32) (stamp : Nat), (s.clocked = true) ∧ let x := s.tmr[n]
      let deaf : Bool := decide (x.src = 2) && !s.sys.vio[2]
      let lead : Bool := !(s.linked n && decide (n.val % 2 = 1))
      (lead = true) ∧ (s.tmrRuns n = true) ∧ (deaf = false) ∧ (srcC 2 3 n.val ∉ s.inj.residue) ∧ (s.tmrPrior n = none) ∧ (s.tmrAtCompare n = true))
    ∧ (∃ (s : State) (p : Fin 11) (q : Fin 2) (n : Fin 16) (v : BitVec 32) (stamp : Nat), (s.clocked = true) ∧ let x := s.tmr[n]
      let deaf : Bool := decide (x.src = 2) && !s.sys.vio[2]
      let lead : Bool := !(s.linked n && decide (n.val % 2 = 1))
      (lead = true) ∧ (s.tmrRuns n = true) ∧ (deaf = false) ∧ (srcC 2 3 n.val ∉ s.inj.residue) ∧ (s.tmrPrior n = none) ∧ (s.tmrAtWrap n = true))
    ∧ (∃ (s : State) (p : Fin 11) (q : Fin 2) (n : Fin 16) (v : BitVec 32) (stamp : Nat), (s.clocked = true) ∧ let x := s.tmr[n]
      let o : Fin 16 := ⟨n.val / 2 * 2 + 1, by omega⟩
      let deaf : Bool := decide (x.src = 2) && !s.sys.vio[2]
      let lead : Bool := !(s.linked n && decide (n.val % 2 = 1))
      (lead = true) ∧ (s.tmrRuns n = true) ∧ (deaf = false) ∧ (srcC 2 3 n.val ∉ s.inj.residue) ∧ (s.tmrPrior n).any (fun y => decide (∃ k : Fin 16, (k ≠ n) ∧ (k ≠ o))) = true)
    ∧ (∃ (s : State) (p : Fin 11) (q : Fin 2) (n : Fin 16) (v : BitVec 32) (stamp : Nat), (s.clocked = true) ∧ let x := s.tmr[n]
      let deaf : Bool := decide (x.src = 2) && !s.sys.vio[2]
      let lead : Bool := !(s.linked n && decide (n.val % 2 = 1))
      (lead = true) ∧ (s.tmrRuns n = true) ∧ (deaf = false) ∧ (srcC 2 3 n.val ∈ s.inj.residue))
    ∧ (∃ (s : State) (p : Fin 11) (q : Fin 2) (n : Fin 16) (v : BitVec 32) (stamp : Nat), (s.clocked = true) ∧ let x := s.tmr[n]
      let deaf : Bool := decide (x.src = 2) && !s.sys.vio[2]
      let lead : Bool := !(s.linked n && decide (n.val % 2 = 1))
      (s.tmrRuns n = false ∨ lead = false ∨ deaf = true))
    ∧ (∃ (s : State) (p : Fin 11) (q : Fin 2) (n : Fin 16) (v : BitVec 32) (stamp : Nat), (s.clocked = true) ∧ (s.tmrAtCompare n = false))
    ∧ (∃ (s : State) (p : Fin 11) (q : Fin 2) (n : Fin 16) (v : BitVec 32) (stamp : Nat), (s.clocked = true) ∧ (s.tmrAtWrap n = false))
    ∧ (∃ (s : State) (p : Fin 11) (q : Fin 2) (n : Fin 16) (v : BitVec 32) (stamp : Nat), (s.clocked = true) ∧ let lead : Bool := !(s.linked n && decide (n.val % 2 = 1))
      (s.tmrRuns n = true) ∧ (lead = true) ∧ ∃ k : Fin 16, (k ≠ n))
    ∧ (∃ (s : State) (p : Fin 11) (q : Fin 2) (n : Fin 16) (v : BitVec 32) (stamp : Nat), (s.clocked = true) ∧ (s.tmrRuns n = false))
    ∧ (∃ (s : State) (p : Fin 11) (q : Fin 2) (n : Fin 16) (v : BitVec 32) (stamp : Nat), (s.clocked = true) ∧ let lead : Bool := !(s.linked n && decide (n.val % 2 = 1))
      (lead = true) ∧ (s.tmrRuns n = true) ∧ (s.rf Reg.tmrCapcfg n.val 1 0 = 2) ∧ (s.linked n = true))
    ∧ (∃ (s : State) (p : Fin 11) (q : Fin 2) (n : Fin 16) (v : BitVec 32) (stamp : Nat), (s.clocked = true) ∧ let lead : Bool := !(s.linked n && decide (n.val % 2 = 1))
      (lead = true) ∧ (s.tmrRuns n = true) ∧ (s.rf Reg.tmrCapcfg n.val 1 0 = 2) ∧ (s.rb Reg.tmrStat n.val 2 = true) ∧ (s.rf Reg.tmrStat n.val 31 16 = 0))
    ∧ (∃ (s : State) (p : Fin 11) (q : Fin 2) (n : Fin 16) (v : BitVec 32) (stamp : Nat), (s.clocked = true) ∧ let lead : Bool := !(s.linked n && decide (n.val % 2 = 1))
      (lead = true) ∧ (s.tmrRuns n = true) ∧ (s.rf Reg.tmrCapcfg n.val 1 0 = 1) ∧ (s.sys.vio[2] = true) ∧ (s.linked n = false))
    ∧ (∃ (s : State) (p : Fin 11) (q : Fin 2) (n : Fin 16) (v : BitVec 32) (stamp : Nat), (s.clocked = true) ∧ let lead : Bool := !(s.linked n && decide (n.val % 2 = 1))
      (lead = true) ∧ (s.tmrRuns n = true) ∧ (s.rf Reg.tmrCapcfg n.val 1 0 = 0 ∨ s.rf Reg.tmrCapcfg n.val 1 0 = 3))
    ∧ (∃ (s : State) (p : Fin 11) (q : Fin 2) (n : Fin 16) (v : BitVec 32) (stamp : Nat), (s.clocked = true) ∧ (s.Writable q) ∧ (s.snapAt = some s.svclk))
    ∧ (∃ (s : State) (p : Fin 11) (q : Fin 2) (n : Fin 16) (v : BitVec 32) (stamp : Nat), (s.clocked = true) ∧ (s.Writable q) ∧ (s.snapAt ≠ some s.svclk))
    ∧ (∃ (s : State) (p : Fin 11) (q : Fin 2) (n : Fin 16) (v : BitVec 32) (stamp : Nat), (s.clocked = true) ∧ let x := s.tmr[n]
      ((9 ≤ p.val → s.sys.st ≠ .lockout ∧ s.coll.relWait = none)) ∧ ((p.val = 10 → s.mntMay true = true)) ∧ (x.owner = (if p.val < 9 then p.val else 12)) ∧ (s.linked n = false) ∧ (9 ≤ p.val))
    ∧ (∃ (s : State) (p : Fin 11) (q : Fin 2) (n : Fin 16) (v : BitVec 32) (stamp : Nat), (s.clocked = true) ∧ let x := s.tmr[n]
      ((9 ≤ p.val → s.sys.st ≠ .lockout ∧ s.coll.relWait = none)) ∧ ((p.val = 10 → s.mntMay true = true)) ∧ (x.owner = (if p.val < 9 then p.val else 12)) ∧ let d : Nat := (x.cnt.toNat + 2 ^ 32 - v.toNat) % 2 ^ 32
      let now : Bool := s.rb Reg.tmrCmp n.val 0 && decide (d ≤ s.rf Reg.tmrCmp n.val 31 16) && !x.fault
      (s.linked n = false) ∧ (now = true))
    ∧ (∃ (s : State) (p : Fin 11) (q : Fin 2) (n : Fin 16) (v : BitVec 32) (stamp : Nat), (s.clocked = true) ∧ let x := s.tmr[n]
      ((9 ≤ p.val → s.sys.st ≠ .lockout ∧ s.coll.relWait = none)) ∧ ((p.val = 10 → s.mntMay true = true)) ∧ (x.owner = (if p.val < 9 then p.val else 12)) ∧ (s.linked n = false) ∧ ∃ k : Fin 16, (k ≠ n))
    ∧ (∃ (s : State) (p : Fin 11) (q : Fin 2) (n : Fin 16) (v : BitVec 32) (stamp : Nat), (s.clocked = true) ∧ let x := s.tmr[n]
      ((9 ≤ p.val → s.sys.st ≠ .lockout ∧ s.coll.relWait = none)) ∧ ((p.val = 10 → s.mntMay true = true)) ∧ (x.owner = (if p.val < 9 then p.val else 12)) ∧ (s.linked n = true) ∧ (n.val % 2 = 0) ∧ ∃ k : Fin 16, (k ≠ n))
    ∧ (∃ (s : State) (p : Fin 11) (q : Fin 2) (n : Fin 16) (v : BitVec 32) (stamp : Nat), (s.clocked = true) ∧ let x := s.tmr[n]
      ((9 ≤ p.val → s.sys.st ≠ .lockout ∧ s.coll.relWait = none)) ∧ ((p.val = 10 → s.mntMay true = true)) ∧ (x.owner = (if p.val < 9 then p.val else 12)) ∧ ∃ e : Fin 16, (s.linked n = true) ∧ (n.val = e.val + 1) ∧ (s.tmr[e].stage.find? (fun (z : Nat × Word) => decide (z.1 = p.val))).any (fun y => decide ((s.rb Reg.tmrCmp e.val 0 = false))) = true)
    ∧ (∃ (s : State) (p : Fin 11) (q : Fin 2) (n : Fin 16) (v : BitVec 32) (stamp : Nat), (s.clocked = true) ∧ let x := s.tmr[n]
      ((9 ≤ p.val → s.sys.st ≠ .lockout ∧ s.coll.relWait = none)) ∧ ((p.val = 10 → s.mntMay true = true)) ∧ (x.owner = (if p.val < 9 then p.val else 12)) ∧ ∃ e : Fin 16, (s.linked n = true) ∧ (n.val = e.val + 1) ∧ ((∀ z ∈ s.tmr[e].stage, z.1 ≠ p.val)) ∧ (s.rb Reg.tmrCmp e.val 0 = false))
    ∧ (∃ (s : State) (p : Fin 11) (q : Fin 2) (n : Fin 16) (v : BitVec 32) (stamp : Nat), (s.clocked = true) ∧ let x := s.tmr[n]
      ((9 ≤ p.val → s.sys.st ≠ .lockout ∧ s.coll.relWait = none)) ∧ ((p.val = 10 → s.mntMay true = true)) ∧ (x.owner = (if p.val < 9 then p.val else 12)) ∧ (s.rb Reg.tmrLock 0 0 = false) ∧ (n.val % 2 = 1 ∨ bit v 4 = false) ∧ (s.hwNow (wroteKey (Reg.tmrCfg.addr n.val 0)) < 2 * portRank p) ∧ (9 ≤ p.val))
    ∧ (∃ (s : State) (p : Fin 11) (q : Fin 2) (n : Fin 16) (v : BitVec 32) (stamp : Nat), (s.clocked = true) ∧ let x := s.tmr[n]
      ((9 ≤ p.val → s.sys.st ≠ .lockout ∧ s.coll.relWait = none)) ∧ ((p.val = 10 → s.mntMay true = true)) ∧ (x.owner = (if p.val < 9 then p.val else 12)) ∧ (s.rb Reg.tmrLock 0 0 = false) ∧ (n.val % 2 = 1 ∨ bit v 4 = false) ∧ (s.hwNow (wroteKey (Reg.tmrCfg.addr n.val 0)) < 2 * portRank p) ∧ (bit v 0 = true))
    ∧ (∃ (s : State) (p : Fin 11) (q : Fin 2) (n : Fin 16) (v : BitVec 32) (stamp : Nat), (s.clocked = true) ∧ let x := s.tmr[n]
      ((9 ≤ p.val → s.sys.st ≠ .lockout ∧ s.coll.relWait = none)) ∧ ((p.val = 10 → s.mntMay true = true)) ∧ (x.owner = (if p.val < 9 then p.val else 12)) ∧ (s.rb Reg.tmrLock 0 0 = false) ∧ (n.val % 2 = 1 ∨ bit v 4 = false) ∧ (s.hwNow (wroteKey (Reg.tmrCfg.addr n.val 0)) < 2 * portRank p) ∧ (bit v 0 = false))
    ∧ (∃ (s : State) (p : Fin 11) (q : Fin 2) (n : Fin 16) (v : BitVec 32) (stamp : Nat), (s.clocked = true) ∧ let x := s.tmr[n]
      ((9 ≤ p.val → s.sys.st ≠ .lockout ∧ s.coll.relWait = none)) ∧ ((p.val = 10 → s.mntMay true = true)) ∧ (x.owner = (if p.val < 9 then p.val else 12)) ∧ (s.rb Reg.tmrLock 0 0 = false) ∧ (n.val % 2 = 1 ∨ bit v 4 = false) ∧ (s.hwNow (wroteKey (Reg.tmrCfg.addr n.val 0)) < 2 * portRank p) ∧ ∃ k : Fin 16, (k ≠ n))
    ∧ (∃ (s : State) (p : Fin 11) (q : Fin 2) (n : Fin 16) (v : BitVec 32) (stamp : Nat), (s.clocked = true) ∧ let x := s.tmr[n]
      let o : Fin 16 := ⟨n.val / 2 * 2 + 1, by omega⟩
      ((9 ≤ p.val → s.sys.st ≠ .lockout ∧ s.coll.relWait = none)) ∧ ((p.val = 10 → s.mntMay true = true)) ∧ (x.owner = (if p.val < 9 then p.val else 12)) ∧ (s.rb Reg.tmrLock 0 0 = false) ∧ (n.val % 2 = 0) ∧ (s.linked n = false) ∧ (bit v 4 = true) ∧ (s.rb Reg.tmrCfg n.val 0 = true ∨ s.rb Reg.tmrCfg o.val 0 = true ∨ x.owner ≠ s.tmr[o].owner) ∧ (9 ≤ p.val)) :=
  ⟨⟨((timing fun x => { x with owner := 3, armed := true, cmpv := 1 }).setClu 3 fun k => { k with role := .active, work := some 3 }).setRf Reg.tmrEven 0 0 0 1, 3, 0, 0, 0, 0, by decide +kernel⟩,
    ⟨((timing fun x => { x with owner := 3, armed := true, cmpv := 1 }).setClu 3 fun k => { k with role := .active, work := some 3 }).setRf Reg.tmrEven 0 0 0 1, 3, 0, 0, 0, 0, by decide +kernel⟩,
    ⟨timing fun x => { x with cnt := 0xFFFFFFFF }, 9, 0, 0, 0, 0, by decide +kernel⟩,
    ⟨(((timing fun x => { x with armed := true, cmpv := 1, prior := some ⟨0, 5, 0, true, false, false, 0⟩, capAt := some 0 }).setRf Reg.tmrCmp 0 3 1 0).setRf Reg.tmrCmp 0 0 0 0).setRf Reg.tmrCmp 0 31 16 20, 9, 0, 0, 0, 0, by decide +kernel⟩,
    ⟨{ timing fun x => { x with cnt := 0 } with inj := { up.inj with residue := [srcC 2 3 0] } }, 9, 0, 0, 0, 0, by decide +kernel⟩,
    ⟨{ up with snapAt := some 0 }, 9, 0, 0, 0, 0, by decide +kernel⟩,
    ⟨{ up with snapAt := some 0 }, 9, 0, 0, 0, 0, by decide +kernel⟩,
    ⟨{ up with snapAt := some 0 }, 9, 0, 0, 0, 0, by decide +kernel⟩,
    ⟨((timing fun x => { x with owner := 3, armed := true, cmpv := 1 }).setClu 3 fun k => { k with role := .active, work := some 3 }).setRf Reg.tmrEven 0 0 0 1, 3, 0, 0, 0, 0, by decide +kernel⟩,
    ⟨{ up with snapAt := some 0 }, 9, 0, 0, 0, 0, by decide +kernel⟩,
    ⟨((timing fun x => { x with cnt := 0 }).setRg Reg.tmrCfg 0 0 0x11).setRf Reg.tmrCapcfg 0 1 0 2, 9, 0, 0, 0, 0, by decide +kernel⟩,
    ⟨((timing fun x => { x with cnt := 0 }).setRf Reg.tmrStat 0 2 2 1).setRf Reg.tmrCapcfg 0 1 0 2, 9, 0, 0, 0, 0, by decide +kernel⟩,
    ⟨(timing fun x => { x with recent := [(0, 7)] }).setRf Reg.tmrCapcfg 0 1 0 1, 9, 0, 0, 0, 0, by decide +kernel⟩,
    ⟨((timing fun x => { x with owner := 3, armed := true, cmpv := 1 }).setClu 3 fun k => { k with role := .active, work := some 3 }).setRf Reg.tmrEven 0 0 0 1, 3, 0, 0, 0, 0, by decide +kernel⟩,
    ⟨{ up with snapAt := some 0 }, 9, 0, 0, 0, 0, by decide +kernel⟩,
    ⟨((timing fun x => { x with owner := 3, armed := true, cmpv := 1 }).setClu 3 fun k => { k with role := .active, work := some 3 }).setRf Reg.tmrEven 0 0 0 1, 3, 0, 0, 0, 0, by decide +kernel⟩,
    ⟨{ up with snapAt := some 0 }, 9, 0, 0, 0, 0, by decide +kernel⟩,
    ⟨(((timing fun x => { x with owner := 3, cnt := 7 }).setClu 3 fun k => { k with role := .active, work := some 3 }).setRf Reg.tmrEven 0 0 0 1).setRf Reg.tmrCmp 0 0 0 1, 3, 0, 0, 7, 0, by decide +kernel⟩,
    ⟨{ up with snapAt := some 0 }, 9, 0, 0, 0, 0, by decide +kernel⟩,
    ⟨((timing fun x => { x with cnt := 0 }).setRg Reg.tmrCfg 0 0 0x11).setRf Reg.tmrCapcfg 0 1 0 2, 9, 0, 0, 0, 0, by decide +kernel⟩,
    ⟨(timing fun x => { x with stage := [(9, 5)] }).setRg Reg.tmrCfg 0 0 0x10, 9, 0, 1, 0, 0, by decide +kernel⟩,
    ⟨up.setRg Reg.tmrCfg 0 0 0x10, 9, 0, 1, 0, 0, by decide +kernel⟩,
    ⟨{ up with snapAt := some 0 }, 9, 0, 0, 0, 0, by decide +kernel⟩,
    ⟨(((timing fun x => { x with owner := 3, cnt := 7 }).setClu 3 fun k => { k with role := .active, work := some 3 }).setRf Reg.tmrEven 0 0 0 1).setRf Reg.tmrCmp 0 0 0 1, 3, 0, 0, 7, 0, by decide +kernel⟩,
    ⟨{ up with snapAt := some 0 }, 9, 0, 0, 0, 0, by decide +kernel⟩,
    ⟨{ up with snapAt := some 0 }, 9, 0, 0, 0, 0, by decide +kernel⟩,
    ⟨timing fun x => { x with cnt := 0 }, 9, 0, 0, 0x11, 0, by decide +kernel⟩⟩

/-- States and operands that meet the hypotheses of SealedCounters. -/
theorem test_meets_SealedCounters :
    (∃ (s : State) (p : Fin 2) (n : Fin 16) (v : BitVec 32) (i : Fin 4), (s.Writable p) ∧ (s.rb Reg.sealxCfg n.val 4 = false) ∧ (s.hwNow (wroteKey (Reg.sealxCfg.addr n.val 0)) < 2 * portRank (if p = 0 then 9 else 10)))
    ∧ (∃ (s : State) (p : Fin 2) (n : Fin 16) (v : BitVec 32) (i : Fin 4), (s.Writable p) ∧ (s.rb Reg.sealxCfg n.val 4 = true) ∧ (s.rf Reg.sealxCfg n.val 3 0 ≠ v.toNat % 16))
    ∧ (∃ (s : State) (p : Fin 2) (n : Fin 16) (v : BitVec 32) (i : Fin 4), (s.Writable p) ∧ (s.rb Reg.sealxCfg n.val 4 = true) ∧ (s.rf Reg.sealxCfg n.val 3 0 = 5))
    ∧ (∃ (s : State) (p : Fin 2) (n : Fin 16) (v : BitVec 32) (i : Fin 4), (s.Writable p) ∧ (s.rb Reg.sealxCfg n.val 4 = false ∨ s.rf Reg.sealxCfg n.val 3 0 ≠ 5))
    ∧ (∃ (s : State) (p : Fin 2) (n : Fin 16) (v : BitVec 32) (i : Fin 4), (s.Writable p) ∧ (s.svc.busy = true))
    ∧ (∃ (s : State) (p : Fin 2) (n : Fin 16) (v : BitVec 32) (i : Fin 4), (s.Writable p) ∧ (s.svc.busy = false) ∧ (s.otp.keyset = false))
    ∧ (∃ (s : State) (p : Fin 2) (n : Fin 16) (v : BitVec 32) (i : Fin 4), (s.Writable p) ∧ (s.svc.busy = false) ∧ (s.otp.keyset = true))
    ∧ (∃ (s : State) (p : Fin 2) (n : Fin 16) (v : BitVec 32) (i : Fin 4), (s.Writable p) ∧ (v = 0x5EA1B0A7) ∧ (s.otp.keyset = false))
    ∧ (∃ (s : State) (p : Fin 2) (n : Fin 16) (v : BitVec 32) (i : Fin 4), (s.Writable p) ∧ (v ≠ 0x5EA1B0A7 ∨ s.otp.keyset = true))
    ∧ (∃ (s : State) (p : Fin 2) (n : Fin 16) (v : BitVec 32) (i : Fin 4), let c := s.ao.seals[n]
      (s.sys.st ≠ .off) ∧ (c.broken = true))
    ∧ (∃ (s : State) (p : Fin 2) (n : Fin 16) (v : BitVec 32) (i : Fin 4), let c := s.ao.seals[n]
      (s.sys.st ≠ .off) ∧ let mine (f : Nat × Nat) : Prop := f.1 = 0x41000908 + 0x20 * n.val ∨ f.1 = 0x4100090C + 0x20 * n.val
      (c.broken = false) ∧ (0 < c.gathered) ∧ ((∀ f ∈ s.inj.flips, mine f → f.2 = 1)))
    ∧ (∃ (s : State) (p : Fin 2) (n : Fin 16) (v : BitVec 32) (i : Fin 4), let c := s.ao.seals[n]
      (s.sys.st ≠ .off) ∧ (c.broken = false) ∧ ((∀ f ∈ s.inj.flips, f.1 ≠ 0x41000908 + 0x20 * n.val)))
    ∧ (∃ (s : State) (p : Fin 2) (n : Fin 16) (v : BitVec 32) (i : Fin 4), let c := s.ao.seals[n]
      (s.sys.st ≠ .off) ∧ (c.broken = true))
    ∧ (∃ (s : State) (p : Fin 2) (n : Fin 16) (v : BitVec 32) (i : Fin 4), let c := s.ao.seals[n]
      let src : Nat := if p = 0 then 0x20F else 0x21F
      (s.sys.st ≠ .off) ∧ (c.broken = false) ∧ ((s.coll.outbox.filter (·.src = 0x300 + n.val)).length < 3))
    ∧ (∃ (s : State) (p : Fin 2) (n : Fin 16) (v : BitVec 32) (i : Fin 4), (s.sys.st = .off))
    ∧ (∃ (s : State) (p : Fin 2) (n : Fin 16) (v : BitVec 32) (i : Fin 4), (s.clocked = true) ∧ (s.svc.busy = true))
    ∧ (∃ (s : State) (p : Fin 2) (n : Fin 16) (v : BitVec 32) (i : Fin 4), (s.clocked = true) ∧ (s.svc.busy = false)) :=
  ⟨⟨{ up with ao := { up.ao with seals := up.ao.seals.set 15 { up.ao.seals[15] with gathered := 5 } }, inj := { up.inj with flips := [] } }, 0, 15, 0, 3, by decide +kernel⟩,
    ⟨up.setRg Reg.sealxCfg 15 0 0x15, 0, 15, 0, 3, by decide +kernel⟩,
    ⟨up.setRg Reg.sealxCfg 15 0 0x15, 0, 15, 0, 3, by decide +kernel⟩,
    ⟨{ up with ao := { up.ao with seals := up.ao.seals.set 15 { up.ao.seals[15] with gathered := 5 } }, inj := { up.inj with flips := [] } }, 0, 15, 0, 3, by decide +kernel⟩,
    ⟨{ up with svc := { up.svc with busy := true } }, 0, 15, 0, 3, by decide +kernel⟩,
    ⟨{ up with ao := { up.ao with seals := up.ao.seals.set 15 { up.ao.seals[15] with gathered := 5 } }, inj := { up.inj with flips := [] } }, 0, 15, 0, 3, by decide +kernel⟩,
    ⟨{ up with ao := { up.ao with seals := up.ao.seals.set 15 { up.ao.seals[15] with gathered := 5 } }, otp := { up.otp with keyset := true }, inj := { up.inj with flips := [] } }, 0, 15, 0, 3, by decide +kernel⟩,
    ⟨up, 0, 15, 0x5EA1B0A7, 3, by decide +kernel⟩,
    ⟨{ up with ao := { up.ao with seals := up.ao.seals.set 15 { up.ao.seals[15] with gathered := 5 } }, inj := { up.inj with flips := [] } }, 0, 15, 0, 3, by decide +kernel⟩,
    ⟨{ up with ao := { up.ao with seals := up.ao.seals.set 15 { up.ao.seals[15] with broken := true } } }, 0, 15, 0, 3, by decide +kernel⟩,
    ⟨{ up with ao := { up.ao with seals := up.ao.seals.set 15 { up.ao.seals[15] with gathered := 5 } }, inj := { up.inj with flips := [] } }, 0, 15, 0, 3, by decide +kernel⟩,
    ⟨{ up with ao := { up.ao with seals := up.ao.seals.set 15 { up.ao.seals[15] with gathered := 5 } }, inj := { up.inj with flips := [] } }, 0, 15, 0, 3, by decide +kernel⟩,
    ⟨{ up with ao := { up.ao with seals := up.ao.seals.set 15 { up.ao.seals[15] with broken := true } } }, 0, 15, 0, 3, by decide +kernel⟩,
    ⟨{ up with ao := { up.ao with seals := up.ao.seals.set 15 { up.ao.seals[15] with gathered := 5 } }, inj := { up.inj with flips := [] } }, 0, 15, 0, 3, by decide +kernel⟩,
    ⟨dev .off, 0, 15, 0, 3, by decide +kernel⟩,
    ⟨{ up with svc := { up.svc with busy := true } }, 0, 15, 0, 3, by decide +kernel⟩,
    ⟨{ up with ao := { up.ao with seals := up.ao.seals.set 15 { up.ao.seals[15] with gathered := 5 } }, inj := { up.inj with flips := [] } }, 0, 15, 0, 3, by decide +kernel⟩⟩

/-- States and operands that meet the hypotheses of FabricLinks. -/
theorem test_meets_FabricLinks :
    (∃ (s : State) (r : Fin 3) (q : Fin 256) (id : Fin 32) (idv bench : Bool) (rank : Fin 4) (serial : BitVec 64) (vc : Bool) (dst src : Fin 32) (dwork swork : Fin 16) (type : BitVec 16) (lun : Fin 256) (pay : List (BitVec 32)) (w : Fin 9), (s.clocked = true) ∧ let p := s.fab.port[r]
      let down (cause : Nat) (errs : List (Nat × Nat)) (t : State) : Prop := t.fab.port[r] = { FPort.reset with delay := p.delay, errs := errs }
            ∧ t.rf Reg.fabPortErr r.val 31 16 = min 65535 (s.rf Reg.fabPortErr r.val 31 16 + 1)
            ∧ s.Emits t 1 0x12 (0x2E0 + r.val) (r.val + p.peer % 32 * 4 + cause * 128) ∧ t.fab.rseq = (s.fab.rseq + 1) % 256
            ∧ t.fab.lubusy = true ∧ t.edg = s.edg ∧ t.mem = s.mem
      (p.st = .down) ∧ (s.fabRuns = true) ∧ (s.rb Reg.fabCfg 0 (1 + r.val) = true))
    ∧ (∃ (s : State) (r : Fin 3) (q : Fin 256) (id : Fin 32) (idv bench : Bool) (rank : Fin 4) (serial : BitVec 64) (vc : Bool) (dst src : Fin 32) (dwork swork : Fin 16) (type : BitVec 16) (lun : Fin 256) (pay : List (BitVec 32)) (w : Fin 9), (s.clocked = true) ∧ let p := s.fab.port[r]
      let down (cause : Nat) (errs : List (Nat × Nat)) (t : State) : Prop := t.fab.port[r] = { FPort.reset with delay := p.delay, errs := errs }
            ∧ t.rf Reg.fabPortErr r.val 31 16 = min 65535 (s.rf Reg.fabPortErr r.val 31 16 + 1)
            ∧ s.Emits t 1 0x12 (0x2E0 + r.val) (r.val + p.peer % 32 * 4 + cause * 128) ∧ t.fab.rseq = (s.fab.rseq + 1) % 256
            ∧ t.fab.lubusy = true ∧ t.edg = s.edg ∧ t.mem = s.mem
      (p.st ≠ .down ∨ s.fabRuns = false ∨ s.rb Reg.fabCfg 0 (1 + r.val) = false))
    ∧ (∃ (s : State) (r : Fin 3) (q : Fin 256) (id : Fin 32) (idv bench : Bool) (rank : Fin 4) (serial : BitVec 64) (vc : Bool) (dst src : Fin 32) (dwork swork : Fin 16) (type : BitVec 16) (lun : Fin 256) (pay : List (BitVec 32)) (w : Fin 9), (s.clocked = true) ∧ let p := s.fab.port[r]
      (p.st = .train))
    ∧ (∃ (s : State) (r : Fin 3) (q : Fin 256) (id : Fin 32) (idv bench : Bool) (rank : Fin 4) (serial : BitVec 64) (vc : Bool) (dst src : Fin 32) (dwork swork : Fin 16) (type : BitVec 16) (lun : Fin 256) (pay : List (BitVec 32)) (w : Fin 9), (s.clocked = true) ∧ let p := s.fab.port[r]
      (p.st ≠ .train))
    ∧ (∃ (s : State) (r : Fin 3) (q : Fin 256) (id : Fin 32) (idv bench : Bool) (rank : Fin 4) (serial : BitVec 64) (vc : Bool) (dst src : Fin 32) (dwork swork : Fin 16) (type : BitVec 16) (lun : Fin 256) (pay : List (BitVec 32)) (w : Fin 9), (s.clocked = true) ∧ let p := s.fab.port[r]
      (p.st = .hello))
    ∧ (∃ (s : State) (r : Fin 3) (q : Fin 256) (id : Fin 32) (idv bench : Bool) (rank : Fin 4) (serial : BitVec 64) (vc : Bool) (dst src : Fin 32) (dwork swork : Fin 16) (type : BitVec 16) (lun : Fin 256) (pay : List (BitVec 32)) (w : Fin 9), (s.clocked = true) ∧ let p := s.fab.port[r]
      (p.st ≠ .hello))
    ∧ (∃ (s : State) (r : Fin 3) (q : Fin 256) (id : Fin 32) (idv bench : Bool) (rank : Fin 4) (serial : BitVec 64) (vc : Bool) (dst src : Fin 32) (dwork swork : Fin 16) (type : BitVec 16) (lun : Fin 256) (pay : List (BitVec 32)) (w : Fin 9), (s.clocked = true) ∧ let p := s.fab.port[r]
      let up : Prop := p.st = .up
      let bad : Nat := (Config.freeWord s.free).toNat % 8 -- the code errors of a bad frame
      let sum : Nat := p.errsAt s.now + bad
      (up) ∧ ((∀ e ∈ p.out, e.1 ≠ r.val)) ∧ (8 ≤ sum))
    ∧ (∃ (s : State) (r : Fin 3) (q : Fin 256) (id : Fin 32) (idv bench : Bool) (rank : Fin 4) (serial : BitVec 64) (vc : Bool) (dst src : Fin 32) (dwork swork : Fin 16) (type : BitVec 16) (lun : Fin 256) (pay : List (BitVec 32)) (w : Fin 9), (s.clocked = true) ∧ let p := s.fab.port[r]
      let up : Prop := p.st = .up
      let bad : Nat := (Config.freeWord s.free).toNat % 8 -- the code errors of a bad frame
      let sum : Nat := p.errsAt s.now + bad
      (up) ∧ (sum < 8))
    ∧ (∃ (s : State) (r : Fin 3) (q : Fin 256) (id : Fin 32) (idv bench : Bool) (rank : Fin 4) (serial : BitVec 64) (vc : Bool) (dst src : Fin 32) (dwork swork : Fin 16) (type : BitVec 16) (lun : Fin 256) (pay : List (BitVec 32)) (w : Fin 9), (s.clocked = true) ∧ let p := s.fab.port[r]
      (p.st = .hello))
    ∧ (∃ (s : State) (r : Fin 3) (q : Fin 256) (id : Fin 32) (idv bench : Bool) (rank : Fin 4) (serial : BitVec 64) (vc : Bool) (dst src : Fin 32) (dwork swork : Fin 16) (type : BitVec 16) (lun : Fin 256) (pay : List (BitVec 32)) (w : Fin 9), (s.clocked = true) ∧ let p := s.fab.port[r]
      let down (cause : Nat) (errs : List (Nat × Nat)) (t : State) : Prop := t.fab.port[r] = { FPort.reset with delay := p.delay, errs := errs }
            ∧ t.rf Reg.fabPortErr r.val 31 16 = min 65535 (s.rf Reg.fabPortErr r.val 31 16 + 1)
            ∧ s.Emits t 1 0x12 (0x2E0 + r.val) (r.val + p.peer % 32 * 4 + cause * 128) ∧ t.fab.rseq = (s.fab.rseq + 1) % 256
            ∧ t.fab.lubusy = true ∧ t.edg = s.edg ∧ t.mem = s.mem
      (p.st = .down ∨ p.st = .train))
    ∧ (∃ (s : State) (r : Fin 3) (q : Fin 256) (id : Fin 32) (idv bench : Bool) (rank : Fin 4) (serial : BitVec 64) (vc : Bool) (dst src : Fin 32) (dwork swork : Fin 16) (type : BitVec 16) (lun : Fin 256) (pay : List (BitVec 32)) (w : Fin 9), (s.clocked = true) ∧ let p := s.fab.port[r]
      let up : Prop := p.st = .up
      let bad : Nat := (Config.freeWord s.free).toNat % 8 -- the code errors of a bad frame
      let sum : Nat := p.errsAt s.now + bad
      ((up → sum < 8)))
    ∧ (∃ (s : State) (r : Fin 3) (q : Fin 256) (id : Fin 32) (idv bench : Bool) (rank : Fin 4) (serial : BitVec 64) (vc : Bool) (dst src : Fin 32) (dwork swork : Fin 16) (type : BitVec 16) (lun : Fin 256) (pay : List (BitVec 32)) (w : Fin 9), (s.clocked = true) ∧ let p := s.fab.port[r]
      let up : Prop := p.st = .up
      (up ∨ p.st = .hello))
    ∧ (∃ (s : State) (r : Fin 3) (q : Fin 256) (id : Fin 32) (idv bench : Bool) (rank : Fin 4) (serial : BitVec 64) (vc : Bool) (dst src : Fin 32) (dwork swork : Fin 16) (type : BitVec 16) (lun : Fin 256) (pay : List (BitVec 32)) (w : Fin 9), (s.clocked = true) ∧ let g := s.asegFlush
      let pg := g.fab.port[r]
      (pg.st = .hello))
    ∧ (∃ (s : State) (r : Fin 3) (q : Fin 256) (id : Fin 32) (idv bench : Bool) (rank : Fin 4) (serial : BitVec 64) (vc : Bool) (dst src : Fin 32) (dwork swork : Fin 16) (type : BitVec 16) (lun : Fin 256) (pay : List (BitVec 32)) (w : Fin 9), (s.clocked = true) ∧ let p := s.fab.port[r]
      let up : Prop := p.st = .up
      (¬up))
    ∧ (∃ (s : State) (r : Fin 3) (q : Fin 256) (id : Fin 32) (idv bench : Bool) (rank : Fin 4) (serial : BitVec 64) (vc : Bool) (dst src : Fin 32) (dwork swork : Fin 16) (type : BitVec 16) (lun : Fin 256) (pay : List (BitVec 32)) (w : Fin 9), (s.clocked = true) ∧ let p := s.fab.port[r]
      let down (cause : Nat) (errs : List (Nat × Nat)) (t : State) : Prop := t.fab.port[r] = { FPort.reset with delay := p.delay, errs := errs }
            ∧ t.rf Reg.fabPortErr r.val 31 16 = min 65535 (s.rf Reg.fabPortErr r.val 31 16 + 1)
            ∧ s.Emits t 1 0x12 (0x2E0 + r.val) (r.val + p.peer % 32 * 4 + cause * 128) ∧ t.fab.rseq = (s.fab.rseq + 1) % 256
            ∧ t.fab.lubusy = true ∧ t.edg = s.edg ∧ t.mem = s.mem
      (p.st = .down ∨ p.st = .train))
    ∧ (∃ (s : State) (r : Fin 3) (q : Fin 256) (id : Fin 32) (idv bench : Bool) (rank : Fin 4) (serial : BitVec 64) (vc : Bool) (dst src : Fin 32) (dwork swork : Fin 16) (type : BitVec 16) (lun : Fin 256) (pay : List (BitVec 32)) (w : Fin 9), (s.clocked = true) ∧ let p := s.fab.port[r]
      ((∀ e ∈ p.held, e.1 ≠ q.val % 64)))
    ∧ (∃ (s : State) (r : Fin 3) (q : Fin 256) (id : Fin 32) (idv bench : Bool) (rank : Fin 4) (serial : BitVec 64) (vc : Bool) (dst src : Fin 32) (dwork swork : Fin 16) (type : BitVec 16) (lun : Fin 256) (pay : List (BitVec 32)) (w : Fin 9), (s.clocked = true) ∧ let p := s.fab.port[r]
      (p.held.find? (fun x => decide (x.1 = q.val % 64))).any (fun e => decide ((e.2.2 < 8))) = true)
    ∧ (∃ (s : State) (r : Fin 3) (q : Fin 256) (id : Fin 32) (idv bench : Bool) (rank : Fin 4) (serial : BitVec 64) (vc : Bool) (dst src : Fin 32) (dwork swork : Fin 16) (type : BitVec 16) (lun : Fin 256) (pay : List (BitVec 32)) (w : Fin 9), (s.clocked = true) ∧ let p := s.fab.port[r]
      let up : Prop := p.st = .up
      (p.held.find? (fun x => decide (x.1 = q.val % 64))).any (fun e => decide ((8 ≤ e.2.2) ∧ (up) ∧ ((∀ o ∈ p.out, o.1 ≠ r.val)))) = true)
    ∧ (∃ (s : State) (r : Fin 3) (q : Fin 256) (id : Fin 32) (idv bench : Bool) (rank : Fin 4) (serial : BitVec 64) (vc : Bool) (dst src : Fin 32) (dwork swork : Fin 16) (type : BitVec 16) (lun : Fin 256) (pay : List (BitVec 32)) (w : Fin 9), (s.clocked = true) ∧ let p := s.fab.port[r]
      (p.held = []))
    ∧ (∃ (s : State) (r : Fin 3) (q : Fin 256) (id : Fin 32) (idv bench : Bool) (rank : Fin 4) (serial : BitVec 64) (vc : Bool) (dst src : Fin 32) (dwork swork : Fin 16) (type : BitVec 16) (lun : Fin 256) (pay : List (BitVec 32)) (w : Fin 9), (s.clocked = true) ∧ let p := s.fab.port[r]
      (p.held.head?).any (fun e => decide ((e.2.2 < 8))) = true)
    ∧ (∃ (s : State) (r : Fin 3) (q : Fin 256) (id : Fin 32) (idv bench : Bool) (rank : Fin 4) (serial : BitVec 64) (vc : Bool) (dst src : Fin 32) (dwork swork : Fin 16) (type : BitVec 16) (lun : Fin 256) (pay : List (BitVec 32)) (w : Fin 9), (s.clocked = true) ∧ let p := s.fab.port[r]
      let up : Prop := p.st = .up
      (up) ∧ (q.val % 64 ≠ p.expect))
    ∧ (∃ (s : State) (r : Fin 3) (q : Fin 256) (id : Fin 32) (idv bench : Bool) (rank : Fin 4) (serial : BitVec 64) (vc : Bool) (dst src : Fin 32) (dwork swork : Fin 16) (type : BitVec 16) (lun : Fin 256) (pay : List (BitVec 32)) (w : Fin 9), (s.clocked = true) ∧ let p := s.fab.port[r]
      let up : Prop := p.st = .up
      let inOrder : Prop := p.st = .up ∧ q.val % 64 = p.expect
      let f : Frame := ⟨0, vc, dst.val, src.val, dwork.val, swork.val, type.toNat, lun.val, pay, [], s.fab.rxN + 1⟩
      (inOrder) ∧ (s.fab.bench = false) ∧ ((∀ k : Fin 3, ∀ e ∈ s.fab.port[k].out, e ≠ (r.val, f))) ∧ (lun.val ≠ s.fab.lun))
    ∧ (∃ (s : State) (r : Fin 3) (q : Fin 256) (id : Fin 32) (idv bench : Bool) (rank : Fin 4) (serial : BitVec 64) (vc : Bool) (dst src : Fin 32) (dwork swork : Fin 16) (type : BitVec 16) (lun : Fin 256) (pay : List (BitVec 32)) (w : Fin 9), (s.clocked = true) ∧ let p := s.fab.port[r]
      let up : Prop := p.st = .up
      let inOrder : Prop := p.st = .up ∧ q.val % 64 = p.expect
      let f : Frame := ⟨0, vc, dst.val, src.val, dwork.val, swork.val, type.toNat, lun.val, pay, [], s.fab.rxN + 1⟩
      (inOrder) ∧ (s.fab.bench = false) ∧ ((∀ k : Fin 3, ∀ e ∈ s.fab.port[k].out, e ≠ (r.val, f))) ∧ (lun.val = s.fab.lun) ∧ (dst.val = s.nodeId) ∧ (type.toNat < 0x8000) ∧ (s.live = false) ∧ (dwork.val < 9))
    ∧ (∃ (s : State) (r : Fin 3) (q : Fin 256) (id : Fin 32) (idv bench : Bool) (rank : Fin 4) (serial : BitVec 64) (vc : Bool) (dst src : Fin 32) (dwork swork : Fin 16) (type : BitVec 16) (lun : Fin 256) (pay : List (BitVec 32)) (w : Fin 9), (s.clocked = true) ∧ let p := s.fab.port[r]
      let up : Prop := p.st = .up
      let inOrder : Prop := p.st = .up ∧ q.val % 64 = p.expect
      let f : Frame := ⟨0, vc, dst.val, src.val, dwork.val, swork.val, type.toNat, lun.val, pay, [], s.fab.rxN + 1⟩
      (inOrder) ∧ (s.fab.bench = false) ∧ ((∀ k : Fin 3, ∀ e ∈ s.fab.port[k].out, e ≠ (r.val, f))) ∧ (lun.val = s.fab.lun) ∧ (dst.val = s.nodeId) ∧ (type.toNat < 0x8000) ∧ (s.live = true) ∧ (9 ≤ dwork.val))
    ∧ (∃ (s : State) (r : Fin 3) (q : Fin 256) (id : Fin 32) (idv bench : Bool) (rank : Fin 4) (serial : BitVec 64) (vc : Bool) (dst src : Fin 32) (dwork swork : Fin 16) (type : BitVec 16) (lun : Fin 256) (pay : List (BitVec 32)) (w : Fin 9), (s.clocked = true) ∧ let p := s.fab.port[r]
      let up : Prop := p.st = .up
      let inOrder : Prop := p.st = .up ∧ q.val % 64 = p.expect
      let f : Frame := ⟨0, vc, dst.val, src.val, dwork.val, swork.val, type.toNat, lun.val, pay, [], s.fab.rxN + 1⟩
      (inOrder) ∧ (s.fab.bench = false) ∧ ((∀ k : Fin 3, ∀ e ∈ s.fab.port[k].out, e ≠ (r.val, f))) ∧ (lun.val = s.fab.lun) ∧ (dst.val = s.nodeId) ∧ (type.toNat < 0x8000) ∧ (s.live = true) ∧ (dwork.val = w.val) ∧ (s.carrier w = none))
    ∧ (∃ (s : State) (r : Fin 3) (q : Fin 256) (id : Fin 32) (idv bench : Bool) (rank : Fin 4) (serial : BitVec 64) (vc : Bool) (dst src : Fin 32) (dwork swork : Fin 16) (type : BitVec 16) (lun : Fin 256) (pay : List (BitVec 32)) (w : Fin 9), (s.clocked = true) ∧ let p := s.fab.port[r]
      let up : Prop := p.st = .up
      let inOrder : Prop := p.st = .up ∧ q.val % 64 = p.expect
      let f : Frame := ⟨0, vc, dst.val, src.val, dwork.val, swork.val, type.toNat, lun.val, pay, [], s.fab.rxN + 1⟩
      let cue (t : State) (v : Fin 9) (from_ sw ty : Nat) (l : List Word) : Prop := t.work[v].cues = s.work[v].cues
            ++ [⟨24, BitVec.ofNat 32 (from_ % 32 + sw % 16 * 32 + ty % 65536 * 65536), l.headD 0, s.now, s.now + 4, l⟩]
      let room (v : Fin 9) : Prop := (s.work[v].cues.filter (·.cue = 24)).length < 8
      (inOrder) ∧ (s.fab.bench = false) ∧ ((∀ k : Fin 3, ∀ e ∈ s.fab.port[k].out, e ≠ (r.val, f))) ∧ (lun.val = s.fab.lun) ∧ (dst.val = s.nodeId) ∧ (type.toNat < 0x8000) ∧ (s.live = true) ∧ (dwork.val = w.val) ∧ (s.carrier w ≠ none) ∧ (room w))
    ∧ (∃ (s : State) (r : Fin 3) (q : Fin 256) (id : Fin 32) (idv bench : Bool) (rank : Fin 4) (serial : BitVec 64) (vc : Bool) (dst src : Fin 32) (dwork swork : Fin 16) (type : BitVec 16) (lun : Fin 256) (pay : List (BitVec 32)) (w : Fin 9), (s.clocked = true) ∧ let p := s.fab.port[r]
      let up : Prop := p.st = .up
      let inOrder : Prop := p.st = .up ∧ q.val % 64 = p.expect
      let f : Frame := ⟨0, vc, dst.val, src.val, dwork.val, swork.val, type.toNat, lun.val, pay, [], s.fab.rxN + 1⟩
      (inOrder) ∧ (s.fab.bench = false) ∧ ((∀ k : Fin 3, ∀ e ∈ s.fab.port[k].out, e ≠ (r.val, f))) ∧ (lun.val = s.fab.lun) ∧ (dst.val ≠ s.nodeId) ∧ (s.routeTo dst.val).any (fun _ => true) = true)
    ∧ (∃ (s : State) (r : Fin 3) (q : Fin 256) (id : Fin 32) (idv bench : Bool) (rank : Fin 4) (serial : BitVec 64) (vc : Bool) (dst src : Fin 32) (dwork swork : Fin 16) (type : BitVec 16) (lun : Fin 256) (pay : List (BitVec 32)) (w : Fin 9), (s.clocked = true) ∧ let p := s.fab.port[r]
      let up : Prop := p.st = .up
      let inOrder : Prop := p.st = .up ∧ q.val % 64 = p.expect
      let f : Frame := ⟨0, vc, dst.val, src.val, dwork.val, swork.val, type.toNat, lun.val, pay, [], s.fab.rxN + 1⟩
      (inOrder) ∧ (s.fab.bench = false) ∧ ((∀ k : Fin 3, ∀ e ∈ s.fab.port[k].out, e ≠ (r.val, f))) ∧ (lun.val = s.fab.lun) ∧ (dst.val ≠ s.nodeId) ∧ (s.routeTo dst.val = none))
    ∧ (∃ (s : State) (r : Fin 3) (q : Fin 256) (id : Fin 32) (idv bench : Bool) (rank : Fin 4) (serial : BitVec 64) (vc : Bool) (dst src : Fin 32) (dwork swork : Fin 16) (type : BitVec 16) (lun : Fin 256) (pay : List (BitVec 32)) (w : Fin 9), (s.clocked = true) ∧ let cue (t : State) (v : Fin 9) (from_ sw ty : Nat) (l : List Word) : Prop := t.work[v].cues = s.work[v].cues
            ++ [⟨24, BitVec.ofNat 32 (from_ % 32 + sw % 16 * 32 + ty % 65536 * 65536), l.headD 0, s.now, s.now + 4, l⟩]
      let room (v : Fin 9) : Prop := (s.work[v].cues.filter (·.cue = 24)).length < 8
      (s.fab.sendQ[sendIdx w vc].head?).any (fun m => decide (∃ v : Fin 9, (m.dst = s.nodeId) ∧ (m.dwork = v.val) ∧ (s.live = true) ∧ (s.carrier v ≠ none) ∧ (room v))) = true)
    ∧ (∃ (s : State) (r : Fin 3) (q : Fin 256) (id : Fin 32) (idv bench : Bool) (rank : Fin 4) (serial : BitVec 64) (vc : Bool) (dst src : Fin 32) (dwork swork : Fin 16) (type : BitVec 16) (lun : Fin 256) (pay : List (BitVec 32)) (w : Fin 9), (s.clocked = true) ∧ (s.fab.sendQ[sendIdx w vc] = []))
    ∧ (∃ (s : State) (r : Fin 3) (q : Fin 256) (id : Fin 32) (idv bench : Bool) (rank : Fin 4) (serial : BitVec 64) (vc : Bool) (dst src : Fin 32) (dwork swork : Fin 16) (type : BitVec 16) (lun : Fin 256) (pay : List (BitVec 32)) (w : Fin 9), (s.clocked = true) ∧ let p := s.fab.port[r]
      let up : Prop := p.st = .up
      let g := s.asegFlush
      let pg := g.fab.port[r]
      (pg.st = .up) ∧ (8 ≤ pg.held.length))
    ∧ (∃ (s : State) (r : Fin 3) (q : Fin 256) (id : Fin 32) (idv bench : Bool) (rank : Fin 4) (serial : BitVec 64) (vc : Bool) (dst src : Fin 32) (dwork swork : Fin 16) (type : BitVec 16) (lun : Fin 256) (pay : List (BitVec 32)) (w : Fin 9), (s.clocked = true) ∧ let p := s.fab.port[r]
      let up : Prop := p.st = .up
      let g := s.asegFlush
      let pg := g.fab.port[r]
      (pg.st = .up) ∧ (pg.held.length < 8) ∧ (g.sendHeads r true = []) ∧ (g.sendHeads r false = []) ∧ (pg.out.head?).any (fun e => decide ((pg.out = [e]) ∧ (e.1 < 4) ∧ (e.2.ft < 3 ∨ 5 ≤ e.2.ft) ∧ (3 ≤ e.2.ft ∨ 0 < (if e.2.vc then pg.crA else pg.crB)) ∧ ∃ i : Fin 3, (e.1 = i.val) ∧ (e.2.ft < 3) ∧ ((∀ k : Fin 3, k ≠ r → e ∉ g.fab.port[k].out)))) = true)
    ∧ (∃ (s : State) (r : Fin 3) (q : Fin 256) (id : Fin 32) (idv bench : Bool) (rank : Fin 4) (serial : BitVec 64) (vc : Bool) (dst src : Fin 32) (dwork swork : Fin 16) (type : BitVec 16) (lun : Fin 256) (pay : List (BitVec 32)) (w : Fin 9), (s.clocked = true) ∧ let p := s.fab.port[r]
      let up : Prop := p.st = .up
      let g := s.asegFlush
      let pg := g.fab.port[r]
      (pg.st = .up) ∧ (pg.held.length < 8) ∧ (g.sendHeads r true = []) ∧ (g.sendHeads r false = []) ∧ (pg.out.head?).any (fun e => decide ((pg.out = [e]) ∧ (e.1 < 4) ∧ (e.2.ft < 3) ∧ ((if e.2.vc then pg.crA else pg.crB) = 0))) = true)
    ∧ (∃ (s : State) (r : Fin 3) (q : Fin 256) (id : Fin 32) (idv bench : Bool) (rank : Fin 4) (serial : BitVec 64) (vc : Bool) (dst src : Fin 32) (dwork swork : Fin 16) (type : BitVec 16) (lun : Fin 256) (pay : List (BitVec 32)) (w : Fin 9), (s.clocked = true) ∧ let p := s.fab.port[r]
      let up : Prop := p.st = .up
      let g := s.asegFlush
      let pg := g.fab.port[r]
      (pg.st = .up) ∧ (pg.held.length < 8) ∧ (g.sendHeads r true = []) ∧ (g.sendHeads r false = []) ∧ (pg.out.head?).any (fun e => decide ((pg.out = [e]) ∧ (e.1 < 4) ∧ (e.2.ft = 3))) = true)
    ∧ (∃ (s : State) (r : Fin 3) (q : Fin 256) (id : Fin 32) (idv bench : Bool) (rank : Fin 4) (serial : BitVec 64) (vc : Bool) (dst src : Fin 32) (dwork swork : Fin 16) (type : BitVec 16) (lun : Fin 256) (pay : List (BitVec 32)) (w : Fin 9), (s.clocked = true) ∧ let p := s.fab.port[r]
      let up : Prop := p.st = .up
      let g := s.asegFlush
      let pg := g.fab.port[r]
      (pg.st = .up) ∧ (pg.held.length < 8) ∧ (g.sendHeads r true = []) ∧ (g.sendHeads r false = []) ∧ (pg.out.head?).any (fun e => decide ((pg.out = [e]) ∧ (e.1 < 4) ∧ (e.2.ft = 4))) = true)
    ∧ (∃ (s : State) (r : Fin 3) (q : Fin 256) (id : Fin 32) (idv bench : Bool) (rank : Fin 4) (serial : BitVec 64) (vc : Bool) (dst src : Fin 32) (dwork swork : Fin 16) (type : BitVec 16) (lun : Fin 256) (pay : List (BitVec 32)) (w : Fin 9), (s.clocked = true) ∧ let p := s.fab.port[r]
      let up : Prop := p.st = .up
      let g := s.asegFlush
      let pg := g.fab.port[r]
      (pg.st = .up) ∧ (pg.held.length < 8) ∧ (g.sendHeads r true = []) ∧ (g.sendHeads r false = []) ∧ (0 < pg.crA) ∧ (0 < pg.crB) ∧ (pg.out.head?).any (fun a => decide ((pg.out.tail.head?).any (fun b => decide ((pg.out = [a, b]) ∧ (a.1 < 4) ∧ (b.1 < 4) ∧ (a.2.ft = 0) ∧ (b.2.ft = 0) ∧ (a.2.vc = false) ∧ (b.2.vc = true))))) = true)
    ∧ (∃ (s : State) (r : Fin 3) (q : Fin 256) (id : Fin 32) (idv bench : Bool) (rank : Fin 4) (serial : BitVec 64) (vc : Bool) (dst src : Fin 32) (dwork swork : Fin 16) (type : BitVec 16) (lun : Fin 256) (pay : List (BitVec 32)) (w : Fin 9), (s.clocked = true) ∧ let p := s.fab.port[r]
      let up : Prop := p.st = .up
      let g := s.asegFlush
      let pg := g.fab.port[r]
      (pg.st = .up) ∧ (pg.held.length < 8) ∧ (pg.out = []) ∧ ((∀ c : Bool, g.sendHeads r c = if c = vc then [w] else [])) ∧ (0 < (if vc then pg.crA else pg.crB)) ∧ (g.fab.sendQ[sendIdx w vc].head?).any (fun m => decide ((m.ft = 0))) = true) :=
  ⟨⟨fabric { upPort with st := .down }, 0, 0, 0, false, false, 0, 0, false, 0, 0, 0, 0, 0, 0, [], 3, by decide +kernel⟩,
    ⟨fabric { upPort with held := List.replicate 8 (0, frame 0 false, 0) }, 0, 0, 0, false, false, 0, 0, false, 0, 0, 0, 0, 0, 0, [], 3, by decide +kernel⟩,
    ⟨fabric { FPort.reset with st := .train }, 0, 0, 0, false, false, 0, 0, false, 0, 0, 0, 0, 0, 0, [], 3, by decide +kernel⟩,
    ⟨fabric { upPort with held := List.replicate 8 (0, frame 0 false, 0) }, 0, 0, 0, false, false, 0, 0, false, 0, 0, 0, 0, 0, 0, [], 3, by decide +kernel⟩,
    ⟨fabric { FPort.reset with st := .hello }, 0, 0, 0, false, false, 0, 0, false, 0, 0, 0, 0, 0, 0, [], 3, by decide +kernel⟩,
    ⟨fabric { upPort with held := List.replicate 8 (0, frame 0 false, 0) }, 0, 0, 0, false, false, 0, 0, false, 0, 0, 0, 0, 0, 0, [], 3, by decide +kernel⟩,
    ⟨fabric { upPort with errs := [(0, 8)] }, 0, 0, 0, false, false, 0, 0, false, 0, 0, 0, 0, 0, 0, [], 3, by decide +kernel, by decide +kernel, by decide +kernel,
      Nat.le_add_right _ _⟩,
    ⟨fabric upPort, 0, 0, 0, false, false, 0, 0, false, 0, 0, 0, 0, 0, 0, [], 3, by decide +kernel, by decide +kernel,
      Nat.lt_of_le_of_lt (Nat.le_of_eq (Nat.zero_add _)) (Nat.mod_lt _ (by decide))⟩,
    ⟨fabric { FPort.reset with st := .hello }, 0, 0, 0, false, false, 0, 0, false, 0, 0, 0, 0, 0, 0, [], 3, by decide +kernel⟩,
    ⟨fabric { upPort with st := .down }, 0, 0, 0, false, false, 0, 0, false, 0, 0, 0, 0, 0, 0, [], 3, by decide +kernel⟩,
    ⟨fabric upPort, 0, 0, 0, false, false, 0, 0, false, 0, 0, 0, 0, 0, 0, [], 3, by decide +kernel,
      fun _ => Nat.lt_of_le_of_lt (Nat.le_of_eq (Nat.zero_add _)) (Nat.mod_lt _ (by decide))⟩,
    ⟨fabric { upPort with held := List.replicate 8 (0, frame 0 false, 0) }, 0, 0, 0, false, false, 0, 0, false, 0, 0, 0, 0, 0, 0, [], 3, by decide +kernel⟩,
    ⟨fabric { FPort.reset with st := .hello }, 0, 0, 0, false, false, 0, 0, false, 0, 0, 0, 0, 0, 0, [], 3, by decide +kernel⟩,
    ⟨fabric { upPort with st := .down }, 0, 0, 0, false, false, 0, 0, false, 0, 0, 0, 0, 0, 0, [], 3, by decide +kernel⟩,
    ⟨fabric { upPort with st := .down }, 0, 0, 0, false, false, 0, 0, false, 0, 0, 0, 0, 0, 0, [], 3, by decide +kernel⟩,
    ⟨fabric { upPort with crA := 1, crB := 1, out := [(0, frame 0 false)] }, 0, 0, 0, false, false, 0, 0, false, 0, 0, 0, 0, 0, 0, [], 3, by decide +kernel⟩,
    ⟨fabric { upPort with held := List.replicate 8 (0, frame 0 false, 0) }, 0, 0, 0, false, false, 0, 0, false, 0, 0, 0, 0, 0, 0, [], 3, by decide +kernel⟩,
    ⟨fabric { upPort with held := [(0, frame 0 false, 8)] }, 0, 0, 0, false, false, 0, 0, false, 0, 0, 0, 0, 0, 0, [], 3, by decide +kernel⟩,
    ⟨fabric { upPort with crA := 1, crB := 1, out := [(0, frame 0 false)] }, 0, 0, 0, false, false, 0, 0, false, 0, 0, 0, 0, 0, 0, [], 3, by decide +kernel⟩,
    ⟨fabric { upPort with held := List.replicate 8 (0, frame 0 false, 0) }, 0, 0, 0, false, false, 0, 0, false, 0, 0, 0, 0, 0, 0, [], 3, by decide +kernel⟩,
    ⟨fabric { upPort with lseq := 3, held := [(0, frame 0 false, 0), (2, frame 3 true, 1)] }, 0, 1, 0, false, false, 0, 0, false, 0, 0, 0, 0, 0, 0, [], 3, by decide +kernel⟩,
    ⟨fabric upPort, 0, 0, 0, false, false, 0, 0, false, 0, 0, 0, 0, 0, 1, [], 3, by decide +kernel⟩,
    ⟨{ fabric upPort with sys := { up.sys with st := .sidelines } }, 0, 0, 0, false, false, 0, 0, false, 0, 0, 8, 0, 0, 0, [], 3, by decide +kernel⟩,
    ⟨fabric upPort, 0, 0, 0, false, false, 0, 0, false, 0, 0, 9, 0, 0, 0, [], 3, by decide +kernel⟩,
    ⟨fabric upPort, 0, 0, 0, false, false, 0, 0, false, 0, 0, 3, 0, 0, 0, [], 3, by decide +kernel⟩,
    ⟨{ idle3 Peg.empty with fab := (fabric upPort).fab }, 0, 0, 0, false, false, 0, 0, false, 0, 0, 3, 0, 0, 0, [], 3, by decide +kernel⟩,
    ⟨fabricked upPort fun f => { f with route := [(1, 1, 1)] }, 0, 0, 0, false, false, 0, 0, false, 1, 0, 0, 0, 0, 0, [], 3, by decide +kernel⟩,
    ⟨fabric upPort, 0, 0, 0, false, false, 0, 0, false, 1, 0, 0, 0, 0, 0, [], 3, by decide +kernel⟩,
    ⟨{ idle3 Peg.empty with fab := { (fabric upPort).fab with sendQ := (fabric upPort).fab.sendQ.set (sendIdx 3 false) [⟨0, false, 0, 0, 3, 3, 0, 0, [], [], 0⟩] } }, 0, 0, 0, false, false, 0, 0, false, 0, 0, 0, 0, 0, 0, [], 3, by decide +kernel⟩,
    ⟨fabric { upPort with held := List.replicate 8 (0, frame 0 false, 0) }, 0, 0, 0, false, false, 0, 0, false, 0, 0, 0, 0, 0, 0, [], 3, by decide +kernel⟩,
    ⟨fabric { upPort with held := List.replicate 8 (0, frame 0 false, 0) }, 0, 0, 0, false, false, 0, 0, false, 0, 0, 0, 0, 0, 0, [], 3, by decide +kernel⟩,
    ⟨fabric { upPort with crA := 1, crB := 1, out := [(0, frame 0 false)] }, 0, 0, 0, false, false, 0, 0, false, 0, 0, 0, 0, 0, 0, [], 3, by decide +kernel⟩,
    ⟨fabric { upPort with out := [(3, frame 2 false)] }, 0, 0, 0, false, false, 0, 0, false, 0, 0, 0, 0, 0, 0, [], 3, by decide +kernel⟩,
    ⟨fabric { upPort with out := [(3, frame 3 true)] }, 0, 0, 0, false, false, 0, 0, false, 0, 0, 0, 0, 0, 0, [], 3, by decide +kernel⟩,
    ⟨fabric { upPort with out := [(3, { frame 4 true with bytes := [1,2,3,4,5,6] })] }, 0, 0, 0, false, false, 0, 0, false, 0, 0, 0, 0, 0, 0, [], 3, by decide +kernel⟩,
    ⟨fabric { upPort with crA := 1, crB := 1, out := [(0, frame 0 false), (3, frame 0 true)] }, 0, 0, 0, false, false, 0, 0, false, 0, 0, 0, 0, 0, 0, [], 3, by decide +kernel⟩,
    ⟨fabricked { upPort with crB := 1 } fun f => { f with route := [(1, 0, 1)], sendQ := f.sendQ.set (sendIdx 3 false) [frame 0 false] }, 0, 0, 0, false, false, 0, 0, false, 0, 0, 0, 0, 0, 0, [], 3, by decide +kernel⟩⟩

/-- States and operands that meet the hypotheses of FabricLineupTimeAndCaptaincy. -/
theorem test_meets_FabricLineupTimeAndCaptaincy :
    (∃ (s : State) (p : Fin 2) (r : Fin 3) (q : Fin 256) (bs : List Nat) (ts : Nat) (tgt : Fin 32), (s.clocked = true) ∧ (s.Writable p) ∧ (s.fabRuns = true))
    ∧ (∃ (s : State) (p : Fin 2) (r : Fin 3) (q : Fin 256) (bs : List Nat) (ts : Nat) (tgt : Fin 32), (s.clocked = true) ∧ (s.Writable p) ∧ (s.fabRuns = false))
    ∧ (∃ (s : State) (p : Fin 2) (r : Fin 3) (q : Fin 256) (bs : List Nat) (ts : Nat) (tgt : Fin 32), (s.clocked = true) ∧ let fb := s.fab
      (s.Writable p) ∧ (fb.capt = true))
    ∧ (∃ (s : State) (p : Fin 2) (r : Fin 3) (q : Fin 256) (bs : List Nat) (ts : Nat) (tgt : Fin 32), (s.clocked = true) ∧ let fb := s.fab
      (s.Writable p) ∧ (fb.capt = false))
    ∧ (∃ (s : State) (p : Fin 2) (r : Fin 3) (q : Fin 256) (bs : List Nat) (ts : Nat) (tgt : Fin 32), (s.clocked = true) ∧ let fb := s.fab
      (fb.capt = true) ∧ (s.fabRuns = true) ∧ (fb.hand).any (fun _ => true) = true)
    ∧ (∃ (s : State) (p : Fin 2) (r : Fin 3) (q : Fin 256) (bs : List Nat) (ts : Nat) (tgt : Fin 32), (s.clocked = true) ∧ let fb := s.fab
      (fb.hand = none ∨ fb.capt = false ∨ s.fabRuns = false))
    ∧ (∃ (s : State) (p : Fin 2) (r : Fin 3) (q : Fin 256) (bs : List Nat) (ts : Nat) (tgt : Fin 32), (s.clocked = true) ∧ let fb := s.fab
      (fb.capt = false ∨ s.fabRuns = false))
    ∧ (∃ (s : State) (p : Fin 2) (r : Fin 3) (q : Fin 256) (bs : List Nat) (ts : Nat) (tgt : Fin 32), (s.clocked = true) ∧ let fb := s.fab
      (s.towardCaptain).any (fun k => decide ((fb.port[k].st = .up))) = true)
    ∧ (∃ (s : State) (p : Fin 2) (r : Fin 3) (q : Fin 256) (bs : List Nat) (ts : Nat) (tgt : Fin 32), (s.clocked = true) ∧ (s.towardCaptain = none))
    ∧ (∃ (s : State) (p : Fin 2) (r : Fin 3) (q : Fin 256) (bs : List Nat) (ts : Nat) (tgt : Fin 32), (s.clocked = true) ∧ let fb := s.fab
      let x := fb.port[r]
      let inOrder : Prop := x.st = .up ∧ q.val % 64 = x.expect
      (inOrder) ∧ (s.towardCaptain = some r) ∧ (fb.t1).any (fun _ => true) = true)
    ∧ (∃ (s : State) (p : Fin 2) (r : Fin 3) (q : Fin 256) (bs : List Nat) (ts : Nat) (tgt : Fin 32), (s.clocked = true) ∧ let fb := s.fab
      let x := fb.port[r]
      let inOrder : Prop := x.st = .up ∧ q.val % 64 = x.expect
      let c := LinkRec.ofBytes bs
      let know : Option LinkRec := fb.recs.find? fun y => decide (y.serial = c.serial)
      let newer : Bool := match know with
            | some y => decide (1 ≤ (c.rseq + 256 - y.rseq) % 256) && decide ((c.rseq + 256 - y.rseq) % 256 < 128)
            | none => true
      (inOrder) ∧ (c.serial ≠ Config.serial) ∧ (newer = true) ∧ (fb.recs).any (fun y => decide ((y.serial ≠ c.serial))) = true)
    ∧ (∃ (s : State) (p : Fin 2) (r : Fin 3) (q : Fin 256) (bs : List Nat) (ts : Nat) (tgt : Fin 32), (s.clocked = true) ∧ let fb := s.fab
      let x := fb.port[r]
      let inOrder : Prop := x.st = .up ∧ q.val % 64 = x.expect
      let c := LinkRec.ofBytes bs
      let know : Option LinkRec := fb.recs.find? fun y => decide (y.serial = c.serial)
      let newer : Bool := match know with
            | some y => decide (1 ≤ (c.rseq + 256 - y.rseq) % 256) && decide ((c.rseq + 256 - y.rseq) % 256 < 128)
            | none => true
      let near (k : Fin 3) (from_ : Nat) : Bool := decide (fb.port[k].st = .up) && decide (k.val ≠ from_)
      (inOrder) ∧ (c.serial ≠ Config.serial) ∧ (newer = true) ∧ ∃ k : Fin 3, (near k r.val = true))
    ∧ (∃ (s : State) (p : Fin 2) (r : Fin 3) (q : Fin 256) (bs : List Nat) (ts : Nat) (tgt : Fin 32), (s.clocked = true) ∧ let fb := s.fab
      let x := fb.port[r]
      let inOrder : Prop := x.st = .up ∧ q.val % 64 = x.expect
      let c := LinkRec.ofBytes bs
      let know : Option LinkRec := fb.recs.find? fun y => decide (y.serial = c.serial)
      let newer : Bool := match know with
            | some y => decide (1 ≤ (c.rseq + 256 - y.rseq) % 256) && decide ((c.rseq + 256 - y.rseq) % 256 < 128)
            | none => true
      (inOrder) ∧ (c.serial ≠ Config.serial) ∧ (newer = true) ∧ (fb.bench = false) ∧ (c.bench = false) ∧ (c.id = s.nodeId) ∧ (fb.recs = []))
    ∧ (∃ (s : State) (p : Fin 2) (r : Fin 3) (q : Fin 256) (bs : List Nat) (ts : Nat) (tgt : Fin 32), (s.clocked = true) ∧ let fb := s.fab
      let x := fb.port[r]
      let inOrder : Prop := x.st = .up ∧ q.val % 64 = x.expect
      let c := LinkRec.ofBytes bs
      let know : Option LinkRec := fb.recs.find? fun y => decide (y.serial = c.serial)
      let newer : Bool := match know with
            | some y => decide (1 ≤ (c.rseq + 256 - y.rseq) % 256) && decide ((c.rseq + 256 - y.rseq) % 256 < 128)
            | none => true
      (inOrder) ∧ (c.serial = Config.serial ∨ newer = false))
    ∧ (∃ (s : State) (p : Fin 2) (r : Fin 3) (q : Fin 256) (bs : List Nat) (ts : Nat) (tgt : Fin 32), (s.clocked = true) ∧ let fb := s.fab
      (s.fabRuns = false ∨ fb.lubusy = false))
    ∧ (∃ (s : State) (p : Fin 2) (r : Fin 3) (q : Fin 256) (bs : List Nat) (ts : Nat) (tgt : Fin 32), (s.clocked = true) ∧ let fb := s.fab
      (s.fabRuns = true) ∧ (fb.lubusy = true) ∧ (fb.bench = false) ∧ (fb.recs = []))
    ∧ (∃ (s : State) (p : Fin 2) (r : Fin 3) (q : Fin 256) (bs : List Nat) (ts : Nat) (tgt : Fin 32), (s.clocked = true) ∧ let fb := s.fab
      let quiet : Prop := s.coll.outbox.filter (fun m => decide (m.src = 0x2EF)) = []
      (s.fabRuns = true) ∧ (fb.lubusy = true) ∧ (fb.bench = false) ∧ (fb.recs = []) ∧ (quiet))
    ∧ (∃ (s : State) (p : Fin 2) (r : Fin 3) (q : Fin 256) (bs : List Nat) (ts : Nat) (tgt : Fin 32), (s.clocked = true) ∧ let fb := s.fab
      let quiet : Prop := s.coll.outbox.filter (fun m => decide (m.src = 0x2EF)) = []
      (s.fabRuns = true) ∧ (fb.lubusy = true) ∧ (fb.bench = false) ∧ (fb.recs = []) ∧ (fb.capt = false) ∧ (s.eligible = true) ∧ (quiet))
    ∧ (∃ (s : State) (p : Fin 2) (r : Fin 3) (q : Fin 256) (bs : List Nat) (ts : Nat) (tgt : Fin 32), (s.clocked = true) ∧ let fb := s.fab
      (s.fabRuns = true) ∧ (fb.lubusy = true) ∧ (fb.bench = false) ∧ (fb.recs = []) ∧ (fb.capt = false) ∧ (s.eligible = false))
    ∧ (∃ (s : State) (p : Fin 2) (r : Fin 3) (q : Fin 256) (bs : List Nat) (ts : Nat) (tgt : Fin 32), (s.clocked = true) ∧ let fb := s.fab
      let x := fb.port[r]
      (fb.recs.head?).any (fun y => decide ((fb.recs = [y]) ∧ (s.fabRuns = true) ∧ (fb.lubusy = true) ∧ (fb.bench = false) ∧ (x.st = .up) ∧ (x.peerV = true) ∧ (x.peerBench = false) ∧ (x.peer = y.id) ∧ (y.bench = false) ∧ (y.id ≠ s.nodeId) ∧ (s.portOf y.id = some r) ∧ (y.ports.head? = some (s.nodeId, true)))) = true)
    ∧ (∃ (s : State) (p : Fin 2) (r : Fin 3) (q : Fin 256) (bs : List Nat) (ts : Nat) (tgt : Fin 32), (s.clocked = true) ∧ let fb := s.fab
      let x := fb.port[r]
      let inOrder : Prop := x.st = .up ∧ q.val % 64 = x.expect
      let b := beaconOf bs (max s.now ts)
      let near (k : Fin 3) (from_ : Nat) : Bool := decide (fb.port[k].st = .up) && decide (k.val ≠ from_)
      let treeN (k : Fin 3) (from_ : Nat) : Bool := near k from_ && (decide (fb.port[k].tree = 1) || decide (fb.port[k].tree = 2))
      (inOrder) ∧ (fb.bench = false) ∧ ((b.cep, b.bseq) ∉ fb.seenB) ∧ (fb.capv = true) ∧ (fb.capt = false) ∧ (fb.capid = b.id) ∧ (fb.cep = b.cep) ∧ (b.resign = false) ∧ (b.hand = none) ∧ ∃ k : Fin 3, (treeN k r.val = true))
    ∧ (∃ (s : State) (p : Fin 2) (r : Fin 3) (q : Fin 256) (bs : List Nat) (ts : Nat) (tgt : Fin 32), (s.clocked = true) ∧ let fb := s.fab
      let x := fb.port[r]
      let inOrder : Prop := x.st = .up ∧ q.val % 64 = x.expect
      let b := beaconOf bs (max s.now ts)
      (inOrder) ∧ (fb.bench = true ∨ (b.cep, b.bseq) ∈ fb.seenB))
    ∧ (∃ (s : State) (p : Fin 2) (r : Fin 3) (q : Fin 256) (bs : List Nat) (ts : Nat) (tgt : Fin 32), (s.clocked = true) ∧ let fb := s.fab
      let x := fb.port[r]
      let inOrder : Prop := x.st = .up ∧ q.val % 64 = x.expect
      (inOrder) ∧ (fb.bench = false) ∧ ((fb.cep, bytesAt bs 18 2) ∉ fb.seenS) ∧ (fb.capt = false))
    ∧ (∃ (s : State) (p : Fin 2) (r : Fin 3) (q : Fin 256) (bs : List Nat) (ts : Nat) (tgt : Fin 32), (s.clocked = true) ∧ let fb := s.fab
      let x := fb.port[r]
      let inOrder : Prop := x.st = .up ∧ q.val % 64 = x.expect
      let near (k : Fin 3) (from_ : Nat) : Bool := decide (fb.port[k].st = .up) && decide (k.val ≠ from_)
      let treeN (k : Fin 3) (from_ : Nat) : Bool := near k from_ && (decide (fb.port[k].tree = 1) || decide (fb.port[k].tree = 2))
      (inOrder) ∧ (fb.bench = false) ∧ ((fb.cep, bytesAt bs 18 2) ∉ fb.seenS) ∧ ∃ k : Fin 3, (treeN k r.val = true))
    ∧ (∃ (s : State) (p : Fin 2) (r : Fin 3) (q : Fin 256) (bs : List Nat) (ts : Nat) (tgt : Fin 32), (s.clocked = true) ∧ let fb := s.fab
      let quiet : Prop := s.coll.outbox.filter (fun m => decide (m.src = 0x2EF)) = []
      let heard : Nat := match fb.beacon with
            | some o => o.ts
            | none => fb.capAt
      (fb.capt = false) ∧ (fb.capv = true) ∧ (s.fabRuns = true) ∧ (s.reserveRank = some 1) ∧ (fb.resignAt = none) ∧ (fb.fellAt = none) ∧ (heard ≤ s.now) ∧ (quiet))
    ∧ (∃ (s : State) (p : Fin 2) (r : Fin 3) (q : Fin 256) (bs : List Nat) (ts : Nat) (tgt : Fin 32), (s.clocked = true) ∧ let fb := s.fab
      (fb.capt = true ∨ fb.capv = false ∨ s.fabRuns = false))
    ∧ (∃ (s : State) (p : Fin 2) (r : Fin 3) (q : Fin 256) (bs : List Nat) (ts : Nat) (tgt : Fin 32), (s.clocked = true) ∧ let fb := s.fab
      (fb.hold).any (fun _ => true) = true)
    ∧ (∃ (s : State) (p : Fin 2) (r : Fin 3) (q : Fin 256) (bs : List Nat) (ts : Nat) (tgt : Fin 32), (s.clocked = true) ∧ let fb := s.fab
      (fb.hold = none)) :=
  ⟨⟨fabricked upPort fun f => { f with recs := [⟨1, true, false, false, 3, false, 0, 9, 0, [(0, true)]⟩] }, 0, 0, 0, [0, 0, 0, 7], 0, 1, by decide +kernel⟩,
    ⟨(fabricked upPort fun f => { f with capv := true, capid := 9, cep := 3, members := [9, 0] }).setRf Reg.fabCfg 0 0 0 0, 0, 0, 0, [0, 0, 0, 7], 0, 1, by decide +kernel⟩,
    ⟨fabricked upPort fun f => { f with capv := true, capid := 9, cep := 3, members := [9, 0], hand := some (4, 70), capt := true }, 0, 0, 0, [0, 0, 0, 7], 0, 1, by decide +kernel⟩,
    ⟨fabricked upPort fun f => { f with recs := [⟨1, true, false, false, 3, false, 0, 9, 0, [(0, true)]⟩] }, 0, 0, 0, [0, 0, 0, 7], 0, 1, by decide +kernel⟩,
    ⟨fabricked upPort fun f => { f with capv := true, capid := 9, cep := 3, members := [9, 0], hand := some (4, 70), capt := true }, 0, 0, 0, [0, 0, 0, 7], 0, 1, by decide +kernel⟩,
    ⟨fabricked upPort fun f => { f with recs := [⟨1, true, false, false, 3, false, 0, 9, 0, [(0, true)]⟩] }, 0, 0, 0, [0, 0, 0, 7], 0, 1, by decide +kernel⟩,
    ⟨fabricked upPort fun f => { f with recs := [⟨1, true, false, false, 3, false, 0, 9, 0, [(0, true)]⟩] }, 0, 0, 0, [0, 0, 0, 7], 0, 1, by decide +kernel⟩,
    ⟨fabricked upPort fun f => { f with capv := true, capid := 1, route := [(1, 0, 1)] }, 0, 0, 0, [], 0, 1, by decide +kernel⟩,
    ⟨fabricked upPort fun f => { f with recs := [⟨1, true, false, false, 3, false, 0, 9, 0, [(0, true)]⟩] }, 0, 0, 0, [0, 0, 0, 7], 0, 1, by decide +kernel⟩,
    ⟨fabricked upPort fun f => { f with capv := true, capid := 1, route := [(1, 0, 1)], t1 := some 0 }, 0, 0, 0, [], 0, 1, by decide +kernel⟩,
    (if h : (LinkRec.ofBytes [0, 0, 0, 7]).serial = Config.serial then
      ⟨fabricked upPort fun f => { f with recs := [⟨1, true, false, false, 3, false, 0, 9, 0, [(0, true)]⟩] }, 0, 0, 0, [0, 0, 0, 8], 0, 1, by decide +kernel, by decide +kernel, fun e => absurd (h.trans e.symm) (by decide +kernel), by decide +kernel, by decide +kernel⟩
      else
      ⟨fabricked upPort fun f => { f with recs := [⟨1, true, false, false, 3, false, 0, 9, 0, [(0, true)]⟩] }, 0, 0, 0, [0, 0, 0, 7], 0, 1, by decide +kernel, by decide +kernel, h, by decide +kernel, by decide +kernel⟩),
    (if h : (LinkRec.ofBytes [0, 0, 0, 7]).serial = Config.serial then
      ⟨fabricked upPort fun f => { f with recs := [], port := f.port.set 1 upPort }, 0, 0, 0, [0, 0, 0, 8], 0, 1, by decide +kernel, by decide +kernel, fun e => absurd (h.trans e.symm) (by decide +kernel), by decide +kernel, by decide +kernel⟩
      else
      ⟨fabricked upPort fun f => { f with recs := [], port := f.port.set 1 upPort }, 0, 0, 0, [0, 0, 0, 7], 0, 1, by decide +kernel, by decide +kernel, h, by decide +kernel, by decide +kernel⟩),
    (if h : (LinkRec.ofBytes [0, 0, 0, 7]).serial = Config.serial then
      ⟨fabricked upPort fun f => { f with recs := [], port := f.port.set 1 upPort }, 0, 0, 0, [0, 0, 0, 8], 0, 1, by decide +kernel, by decide +kernel, fun e => absurd (h.trans e.symm) (by decide +kernel), by decide +kernel, by decide +kernel, by decide +kernel, by decide +kernel, by decide +kernel⟩
      else
      ⟨fabricked upPort fun f => { f with recs := [], port := f.port.set 1 upPort }, 0, 0, 0, [0, 0, 0, 7], 0, 1, by decide +kernel, by decide +kernel, h, by decide +kernel, by decide +kernel, by decide +kernel, by decide +kernel, by decide +kernel⟩),
    ⟨fabricked upPort fun f => { f with recs := [⟨1, true, false, false, 3, false, 0, 0, 0, [(0, true)]⟩] }, 0, 0, 0, [], 0, 1, by decide +kernel, by decide +kernel, Or.inr (by decide +kernel)⟩,
    ⟨fabricked upPort fun f => { f with recs := [⟨1, true, false, false, 3, false, 0, 9, 0, [(0, true)]⟩] }, 0, 0, 0, [0, 0, 0, 7], 0, 1, by decide +kernel⟩,
    ⟨fabricked upPort fun f => { f with lubusy := true }, 0, 0, 0, [], 0, 1, by decide +kernel⟩,
    ⟨((fabricked upPort fun f => { f with capv := true, capid := 0, cep := 3, lubusy := true, members := [9, 0], recs := [], beacon := some ⟨0, 0, false, 3, 0, 3, false, 0, none, 0⟩ }).setRf Reg.fabCfg 0 5 4 0).setRf Reg.whlxCfg 0 0 0 1, 0, 0, 0, [0, 0, 0, 7], 0, 1, by decide +kernel⟩,
    ⟨((fabricked upPort fun f => { f with capv := true, capid := 0, cep := 3, lubusy := true, members := [9, 0], recs := [], beacon := some ⟨0, 0, false, 3, 0, 3, false, 0, none, 0⟩ }).setRf Reg.fabCfg 0 5 4 0).setRf Reg.whlxCfg 0 0 0 1, 0, 0, 0, [0, 0, 0, 7], 0, 1, by decide +kernel⟩,
    ⟨((fabricked upPort fun f => { f with capv := true, capid := 0, cep := 3, lubusy := true, members := [9, 0], recs := [], beacon := some ⟨0, 0, false, 3, 0, 3, false, 0, none, 0⟩ }).setRf Reg.fabCfg 0 5 4 3).setRf Reg.whlxCfg 0 0 0 1, 0, 0, 0, [0, 0, 0, 7], 0, 1, by decide +kernel⟩,
    ⟨fabricked { upPort with peerV := true, peer := 1 } fun f => { f with lubusy := true, recs := [⟨1, true, false, false, 3, false, 0, 7, 0, [(0, true)]⟩] }, 0, 0, 0, [], 0, 1, by decide +kernel⟩,
    ⟨fabricked upPort fun f => { f with capv := true, port := f.port.set 1 { upPort with tree := 1 } }, 0, 0, 0, [], 0, 1, by decide +kernel⟩,
    ⟨fabricked upPort fun f => { f with bench := true }, 0, 0, 0, [], 0, 1, by decide +kernel⟩,
    ⟨fabricked upPort fun f => { f with recs := [⟨1, true, false, false, 3, false, 0, 9, 0, [(0, true)]⟩] }, 0, 0, 0, [0, 0, 0, 7], 0, 1, by decide +kernel⟩,
    ⟨fabricked upPort fun f => { f with capv := true, port := f.port.set 1 { upPort with tree := 1 } }, 0, 0, 0, [], 0, 1, by decide +kernel⟩,
    ⟨((fabricked upPort fun f => { f with capv := true, capid := 9, cep := 3, members := [9, 0], recs := [⟨9, true, false, true, 0, true, 3, 9, 0, []⟩] }).setRf Reg.fabCfg 0 5 4 1).setRf Reg.whlxCfg 0 0 0 1, 0, 0, 0, [0, 0, 0, 7], 0, 1, by decide +kernel⟩,
    ⟨fabricked upPort fun f => { f with recs := [⟨1, true, false, false, 3, false, 0, 9, 0, [(0, true)]⟩] }, 0, 0, 0, [0, 0, 0, 7], 0, 1, by decide +kernel⟩,
    ⟨fabricked upPort fun f => { f with hold := some 0 }, 0, 0, 0, [], 0, 1, by decide +kernel⟩,
    ⟨fabricked upPort fun f => { f with recs := [⟨1, true, false, false, 3, false, 0, 9, 0, [(0, true)]⟩] }, 0, 0, 0, [0, 0, 0, 7], 0, 1, by decide +kernel⟩⟩

/-- States and operands that meet the hypotheses of PortTransactions. -/
theorem test_meets_PortTransactions :
    (∃ (s : State) (a : BitVec 40) (l : Fin 16) (len : BitVec 8) (ws : List (BitVec 32)) (op : BitVec 8) (n : Fin 9) (inc : Bool) (crc : BitVec 16) (link : Option (Fin 16)) (lk : Bool) (bs : List (BitVec 8)) (b : BitVec 8) (key : BitVec 64), (s.clocked = true) ∧ let x := a.toNat
      let frame (op : Nat) (len : BitVec 8) (ws : List (BitVec 32)) : List Nat :=
            [op] ++ ((List.range 5).map fun i => x / 256 ^ (4 - i) % 256) ++ [len.toNat]
              ++ ws.flatMap fun w => (List.range 4).map fun i => w.toNat / 256 ^ i % 256
      let sum (op : Nat) (len : BitVec 8) (ws : List (BitVec 32)) : BitVec 16 := BitVec.ofNat 16 (crc16 (frame op len ws))
      let c := s.coll
      let free : Prop := c.relWait = none
      (free) ∧ (crc ≠ sum 0x0B len []))
    ∧ (∃ (s : State) (a : BitVec 40) (l : Fin 16) (len : BitVec 8) (ws : List (BitVec 32)) (op : BitVec 8) (n : Fin 9) (inc : Bool) (crc : BitVec 16) (link : Option (Fin 16)) (lk : Bool) (bs : List (BitVec 8)) (b : BitVec 8) (key : BitVec 64), (s.clocked = true) ∧ let x := a.toNat
      let frame (op : Nat) (len : BitVec 8) (ws : List (BitVec 32)) : List Nat :=
            [op] ++ ((List.range 5).map fun i => x / 256 ^ (4 - i) % 256) ++ [len.toNat]
              ++ ws.flatMap fun w => (List.range 4).map fun i => w.toNat / 256 ^ i % 256
      let sum (op : Nat) (len : BitVec 8) (ws : List (BitVec 32)) : BitVec 16 := BitVec.ofNat 16 (crc16 (frame op len ws))
      let c := s.coll
      let free : Prop := c.relWait = none
      (free) ∧ (crc ≠ sum 0x0C len []))
    ∧ (∃ (s : State) (a : BitVec 40) (l : Fin 16) (len : BitVec 8) (ws : List (BitVec 32)) (op : BitVec 8) (n : Fin 9) (inc : Bool) (crc : BitVec 16) (link : Option (Fin 16)) (lk : Bool) (bs : List (BitVec 8)) (b : BitVec 8) (key : BitVec 64), (s.clocked = true) ∧ let x := a.toNat
      let frame (op : Nat) (len : BitVec 8) (ws : List (BitVec 32)) : List Nat :=
            [op] ++ ((List.range 5).map fun i => x / 256 ^ (4 - i) % 256) ++ [len.toNat]
              ++ ws.flatMap fun w => (List.range 4).map fun i => w.toNat / 256 ^ i % 256
      let sum (op : Nat) (len : BitVec 8) (ws : List (BitVec 32)) : BitVec 16 := BitVec.ofNat 16 (crc16 (frame op len ws))
      let c := s.coll
      let free : Prop := c.relWait = none
      (free) ∧ (l.val < ws.length) ∧ (len.toNat % 16 = l.val) ∧ (crc ≠ sum 2 len ws))
    ∧ (∃ (s : State) (a : BitVec 40) (l : Fin 16) (len : BitVec 8) (ws : List (BitVec 32)) (op : BitVec 8) (n : Fin 9) (inc : Bool) (crc : BitVec 16) (link : Option (Fin 16)) (lk : Bool) (bs : List (BitVec 8)) (b : BitVec 8) (key : BitVec 64), (s.clocked = true) ∧ let x := a.toNat
      let frame (op : Nat) (len : BitVec 8) (ws : List (BitVec 32)) : List Nat :=
            [op] ++ ((List.range 5).map fun i => x / 256 ^ (4 - i) % 256) ++ [len.toNat]
              ++ ws.flatMap fun w => (List.range 4).map fun i => w.toNat / 256 ^ i % 256
      let sum (op : Nat) (len : BitVec 8) (ws : List (BitVec 32)) : BitVec 16 := BitVec.ofNat 16 (crc16 (frame op len ws))
      let c := s.coll
      let free : Prop := c.relWait = none
      (free) ∧ (l.val < ws.length) ∧ (len.toNat % 16 = l.val) ∧ (crc ≠ sum 3 len ws))
    ∧ (∃ (s : State) (a : BitVec 40) (l : Fin 16) (len : BitVec 8) (ws : List (BitVec 32)) (op : BitVec 8) (n : Fin 9) (inc : Bool) (crc : BitVec 16) (link : Option (Fin 16)) (lk : Bool) (bs : List (BitVec 8)) (b : BitVec 8) (key : BitVec 64), (s.clocked = true) ∧ let isum : BitVec 16 := BitVec.ofNat 16 (crc16 [5])
      let c := s.coll
      let free : Prop := c.relWait = none
      (free) ∧ (crc ≠ isum))
    ∧ (∃ (s : State) (a : BitVec 40) (l : Fin 16) (len : BitVec 8) (ws : List (BitVec 32)) (op : BitVec 8) (n : Fin 9) (inc : Bool) (crc : BitVec 16) (link : Option (Fin 16)) (lk : Bool) (bs : List (BitVec 8)) (b : BitVec 8) (key : BitVec 64), (s.clocked = true) ∧ let c := s.coll
      let free : Prop := c.relWait = none
      (free) ∧ (16 ≤ len.toNat) ∧ (len.toNat % 16 < ws.length))
    ∧ (∃ (s : State) (a : BitVec 40) (l : Fin 16) (len : BitVec 8) (ws : List (BitVec 32)) (op : BitVec 8) (n : Fin 9) (inc : Bool) (crc : BitVec 16) (link : Option (Fin 16)) (lk : Bool) (bs : List (BitVec 8)) (b : BitVec 8) (key : BitVec 64), (s.clocked = true) ∧ (ws.length ≤ len.toNat % 16))
    ∧ (∃ (s : State) (a : BitVec 40) (l : Fin 16) (len : BitVec 8) (ws : List (BitVec 32)) (op : BitVec 8) (n : Fin 9) (inc : Bool) (crc : BitVec 16) (link : Option (Fin 16)) (lk : Bool) (bs : List (BitVec 8)) (b : BitVec 8) (key : BitVec 64), (s.clocked = true) ∧ (op ≠ 0x0B) ∧ (op ≠ 0x0C) ∧ (op ≠ 2) ∧ (op ≠ 3) ∧ (op ≠ 5))
    ∧ (∃ (s : State) (a : BitVec 40) (l : Fin 16) (len : BitVec 8) (ws : List (BitVec 32)) (op : BitVec 8) (n : Fin 9) (inc : Bool) (crc : BitVec 16) (link : Option (Fin 16)) (lk : Bool) (bs : List (BitVec 8)) (b : BitVec 8) (key : BitVec 64), (s.clocked = true) ∧ let isum : BitVec 16 := BitVec.ofNat 16 (crc16 [5])
      let c := s.coll
      (c.relWait = some ⟨false, 0, 0, none, false, [], 0⟩) ∧ (c.relPend = true) ∧ (s.links.ddl = [.release]) ∧ (s.links.arrived = []) ∧ (s.links.quietUntil ≤ s.now) ∧ (s.inj = State.reset.inj) ∧ (s.sys.vbat = true) ∧ (c.lineA = false) ∧ (c.lineB = false))
    ∧ (∃ (s : State) (a : BitVec 40) (l : Fin 16) (len : BitVec 8) (ws : List (BitVec 32)) (op : BitVec 8) (n : Fin 9) (inc : Bool) (crc : BitVec 16) (link : Option (Fin 16)) (lk : Bool) (bs : List (BitVec 8)) (b : BitVec 8) (key : BitVec 64), (s.clocked = true) ∧ let isum : BitVec 16 := BitVec.ofNat 16 (crc16 [5])
      let c := s.coll
      (c.relWait = some ⟨false, 0, 0, none, false, [], 0⟩) ∧ (c.relPend = true) ∧ (s.links.ddl = [.release]) ∧ (s.links.arrived = []) ∧ (s.links.quietUntil ≤ s.now) ∧ (s.inj = State.reset.inj) ∧ (s.sys.vbat = false))
    ∧ (∃ (s : State) (a : BitVec 40) (l : Fin 16) (len : BitVec 8) (ws : List (BitVec 32)) (op : BitVec 8) (n : Fin 9) (inc : Bool) (crc : BitVec 16) (link : Option (Fin 16)) (lk : Bool) (bs : List (BitVec 8)) (b : BitVec 8) (key : BitVec 64), (s.clocked = true) ∧ let x := a.toNat
      let c := s.coll
      let free : Prop := c.relWait = none
      (free) ∧ (x % 4 ≠ 0))
    ∧ (∃ (s : State) (a : BitVec 40) (l : Fin 16) (len : BitVec 8) (ws : List (BitVec 32)) (op : BitVec 8) (n : Fin 9) (inc : Bool) (crc : BitVec 16) (link : Option (Fin 16)) (lk : Bool) (bs : List (BitVec 8)) (b : BitVec 8) (key : BitVec 64), (s.clocked = true) ∧ let x := a.toNat
      let c := s.coll
      let free : Prop := c.relWait = none
      (free) ∧ (x % 4 = 0) ∧ (sramAt x = some n) ∧ (s.inj.flips = []) ∧ let size : Nat := (0x6000 - x % 0x10000) / 4
      (l.val < size))
    ∧ (∃ (s : State) (a : BitVec 40) (l : Fin 16) (len : BitVec 8) (ws : List (BitVec 32)) (op : BitVec 8) (n : Fin 9) (inc : Bool) (crc : BitVec 16) (link : Option (Fin 16)) (lk : Bool) (bs : List (BitVec 8)) (b : BitVec 8) (key : BitVec 64), (s.clocked = true) ∧ let x := a.toNat
      let c := s.coll
      let free : Prop := c.relWait = none
      (free) ∧ (x % 4 = 0) ∧ (sramAt x = some n) ∧ (s.inj.flips = []) ∧ let size : Nat := (0x6000 - x % 0x10000) / 4
      (size ≤ l.val))
    ∧ (∃ (s : State) (a : BitVec 40) (l : Fin 16) (len : BitVec 8) (ws : List (BitVec 32)) (op : BitVec 8) (n : Fin 9) (inc : Bool) (crc : BitVec 16) (link : Option (Fin 16)) (lk : Bool) (bs : List (BitVec 8)) (b : BitVec 8) (key : BitVec 64), (s.clocked = true) ∧ let x := a.toNat
      let frame (op : Nat) (len : BitVec 8) (ws : List (BitVec 32)) : List Nat :=
            [op] ++ ((List.range 5).map fun i => x / 256 ^ (4 - i) % 256) ++ [len.toNat]
              ++ ws.flatMap fun w => (List.range 4).map fun i => w.toNat / 256 ^ i % 256
      let sum (op : Nat) (len : BitVec 8) (ws : List (BitVec 32)) : BitVec 16 := BitVec.ofNat 16 (crc16 (frame op len ws))
      let len4 : BitVec 8 := BitVec.ofNat 8 l.val
      let c := s.coll
      let free : Prop := c.relWait = none
      (free) ∧ (x % 4 = 0) ∧ (sramAt x = some n) ∧ (s.inj.flips = []) ∧ let size : Nat := (0x6000 - x % 0x10000) / 4
      (s.sys.st ≠ .lockout) ∧ (s.clu[n].role ≠ .testing) ∧ (l.val < ws.length) ∧ (l.val < size) ∧ ∃ k : Fin 16, (k.val ≤ l.val))
    ∧ (∃ (s : State) (a : BitVec 40) (l : Fin 16) (len : BitVec 8) (ws : List (BitVec 32)) (op : BitVec 8) (n : Fin 9) (inc : Bool) (crc : BitVec 16) (link : Option (Fin 16)) (lk : Bool) (bs : List (BitVec 8)) (b : BitVec 8) (key : BitVec 64), (s.clocked = true) ∧ let x := a.toNat
      let frame (op : Nat) (len : BitVec 8) (ws : List (BitVec 32)) : List Nat :=
            [op] ++ ((List.range 5).map fun i => x / 256 ^ (4 - i) % 256) ++ [len.toNat]
              ++ ws.flatMap fun w => (List.range 4).map fun i => w.toNat / 256 ^ i % 256
      let sum (op : Nat) (len : BitVec 8) (ws : List (BitVec 32)) : BitVec 16 := BitVec.ofNat 16 (crc16 (frame op len ws))
      let len4 : BitVec 8 := BitVec.ofNat 8 l.val
      let c := s.coll
      let free : Prop := c.relWait = none
      (free) ∧ (x % 4 = 0) ∧ (sramAt x = some n) ∧ (s.inj.flips = []) ∧ let size : Nat := (0x6000 - x % 0x10000) / 4
      (s.sys.st ≠ .lockout) ∧ (s.clu[n].role ≠ .testing) ∧ (l.val < ws.length) ∧ (l.val < size) ∧ ([0, 4, 7, 0x34000, 0x36000, 0x100000, 0xFFFFC, 0x100100000] : List (Nat)).any (fun z => decide ((z < x ∨ x + 4 * (l.val + 1) ≤ z))) = true)
    ∧ (∃ (s : State) (a : BitVec 40) (l : Fin 16) (len : BitVec 8) (ws : List (BitVec 32)) (op : BitVec 8) (n : Fin 9) (inc : Bool) (crc : BitVec 16) (link : Option (Fin 16)) (lk : Bool) (bs : List (BitVec 8)) (b : BitVec 8) (key : BitVec 64), (s.clocked = true) ∧ let x := a.toNat
      let frame (op : Nat) (len : BitVec 8) (ws : List (BitVec 32)) : List Nat :=
            [op] ++ ((List.range 5).map fun i => x / 256 ^ (4 - i) % 256) ++ [len.toNat]
              ++ ws.flatMap fun w => (List.range 4).map fun i => w.toNat / 256 ^ i % 256
      let sum (op : Nat) (len : BitVec 8) (ws : List (BitVec 32)) : BitVec 16 := BitVec.ofNat 16 (crc16 (frame op len ws))
      let len4 : BitVec 8 := BitVec.ofNat 8 l.val
      let c := s.coll
      let free : Prop := c.relWait = none
      (free) ∧ (x % 4 = 0) ∧ (sramAt x = some n) ∧ (s.inj.flips = []) ∧ let size : Nat := (0x6000 - x % 0x10000) / 4
      (s.sys.st ≠ .lockout) ∧ (s.clu[n].role ≠ .testing) ∧ (l.val < ws.length) ∧ (l.val < size) ∧ ([0, 4, 7, 0x34000, 0x36000, 0x100000, 0xFFFFC, 0x100100000] : List (Nat)).any (fun z => decide ((z < x ∨ x + 4 ≤ z))) = true)
    ∧ (∃ (s : State) (a : BitVec 40) (l : Fin 16) (len : BitVec 8) (ws : List (BitVec 32)) (op : BitVec 8) (n : Fin 9) (inc : Bool) (crc : BitVec 16) (link : Option (Fin 16)) (lk : Bool) (bs : List (BitVec 8)) (b : BitVec 8) (key : BitVec 64), (s.clocked = true) ∧ let x := a.toNat
      let c := s.coll
      let free : Prop := c.relWait = none
      (free) ∧ (x % 4 = 0) ∧ (sramAt x = some n) ∧ (s.inj.flips = []) ∧ (s.sys.st = .lockout) ∧ (l.val < ws.length))
    ∧ (∃ (s : State) (a : BitVec 40) (l : Fin 16) (len : BitVec 8) (ws : List (BitVec 32)) (op : BitVec 8) (n : Fin 9) (inc : Bool) (crc : BitVec 16) (link : Option (Fin 16)) (lk : Bool) (bs : List (BitVec 8)) (b : BitVec 8) (key : BitVec 64), (s.clocked = true) ∧ let x := a.toNat
      let c := s.coll
      let free : Prop := c.relWait = none
      ∃ i : Fin 16, (free) ∧ (x = Reg.psCur0.addr i.val 0) ∧ (l.val < 11) ∧ (s.links.ddl = []) ∧ (s.links.quietUntil ≤ s.now) ∧ (s.inj = State.reset.inj) ∧ (link).any (fun k => decide ((k.val ≤ l.val))) = true)
    ∧ (∃ (s : State) (a : BitVec 40) (l : Fin 16) (len : BitVec 8) (ws : List (BitVec 32)) (op : BitVec 8) (n : Fin 9) (inc : Bool) (crc : BitVec 16) (link : Option (Fin 16)) (lk : Bool) (bs : List (BitVec 8)) (b : BitVec 8) (key : BitVec 64), (s.clocked = true) ∧ let own : BitVec 7 := BitVec.ofNat 7 (0x58 + s.sys.ma % 8)
      ([0, 1] : List (BitVec 7)).any (fun o => decide ((o ≠ own))) = true)
    ∧ (∃ (s : State) (a : BitVec 40) (l : Fin 16) (len : BitVec 8) (ws : List (BitVec 32)) (op : BitVec 8) (n : Fin 9) (inc : Bool) (crc : BitVec 16) (link : Option (Fin 16)) (lk : Bool) (bs : List (BitVec 8)) (b : BitVec 8) (key : BitVec 64), (s.clocked = true) ∧ (bs.length = 5))
    ∧ (∃ (s : State) (a : BitVec 40) (l : Fin 16) (len : BitVec 8) (ws : List (BitVec 32)) (op : BitVec 8) (n : Fin 9) (inc : Bool) (crc : BitVec 16) (link : Option (Fin 16)) (lk : Bool) (bs : List (BitVec 8)) (b : BitVec 8) (key : BitVec 64), (s.clocked = true) ∧ let m := s.mnt
      let c := s.coll
      let free : Prop := c.relWait = none
      (bs.length = 4) ∧ (free) ∧ (m.pend = none) ∧ (m.late = false))
    ∧ (∃ (s : State) (a : BitVec 40) (l : Fin 16) (len : BitVec 8) (ws : List (BitVec 32)) (op : BitVec 8) (n : Fin 9) (inc : Bool) (crc : BitVec 16) (link : Option (Fin 16)) (lk : Bool) (bs : List (BitVec 8)) (b : BitVec 8) (key : BitVec 64), (s.clocked = true) ∧ let m := s.mnt
      (m.ptr = 0))
    ∧ (∃ (s : State) (a : BitVec 40) (l : Fin 16) (len : BitVec 8) (ws : List (BitVec 32)) (op : BitVec 8) (n : Fin 9) (inc : Bool) (crc : BitVec 16) (link : Option (Fin 16)) (lk : Bool) (bs : List (BitVec 8)) (b : BitVec 8) (key : BitVec 64), (s.clocked = true) ∧ let m := s.mnt
      (m.ptr = 0x0C))
    ∧ (∃ (s : State) (a : BitVec 40) (l : Fin 16) (len : BitVec 8) (ws : List (BitVec 32)) (op : BitVec 8) (n : Fin 9) (inc : Bool) (crc : BitVec 16) (link : Option (Fin 16)) (lk : Bool) (bs : List (BitVec 8)) (b : BitVec 8) (key : BitVec 64), (s.clocked = true) ∧ let m := s.mnt
      let c := s.coll
      let free : Prop := c.relWait = none
      (m.ptr = 0x28) ∧ (free) ∧ (m.pend = none) ∧ (m.late = false))
    ∧ (∃ (s : State) (a : BitVec 40) (l : Fin 16) (len : BitVec 8) (ws : List (BitVec 32)) (op : BitVec 8) (n : Fin 9) (inc : Bool) (crc : BitVec 16) (link : Option (Fin 16)) (lk : Bool) (bs : List (BitVec 8)) (b : BitVec 8) (key : BitVec 64), (s.clocked = true) ∧ let m := s.mnt
      (m.ptr = 0xFF))
    ∧ (∃ (s : State) (a : BitVec 40) (l : Fin 16) (len : BitVec 8) (ws : List (BitVec 32)) (op : BitVec 8) (n : Fin 9) (inc : Bool) (crc : BitVec 16) (link : Option (Fin 16)) (lk : Bool) (bs : List (BitVec 8)) (b : BitVec 8) (key : BitVec 64), (s.clocked = true) ∧ let m := s.mnt
      (m.pend.isSome = true))
    ∧ (∃ (s : State) (a : BitVec 40) (l : Fin 16) (len : BitVec 8) (ws : List (BitVec 32)) (op : BitVec 8) (n : Fin 9) (inc : Bool) (crc : BitVec 16) (link : Option (Fin 16)) (lk : Bool) (bs : List (BitVec 8)) (b : BitVec 8) (key : BitVec 64), (s.clocked = true) ∧ let m := s.mnt
      (m.pend = none))
    ∧ (∃ (s : State) (a : BitVec 40) (l : Fin 16) (len : BitVec 8) (ws : List (BitVec 32)) (op : BitVec 8) (n : Fin 9) (inc : Bool) (crc : BitVec 16) (link : Option (Fin 16)) (lk : Bool) (bs : List (BitVec 8)) (b : BitVec 8) (key : BitVec 64), (s.clocked = true) ∧ let m := s.mnt
      let c := s.coll
      let free : Prop := c.relWait = none
      (free) ∧ (m.pend = none) ∧ (m.late = false) ∧ (s.rb Reg.mntCfg 0 0 = true))
    ∧ (∃ (s : State) (a : BitVec 40) (l : Fin 16) (len : BitVec 8) (ws : List (BitVec 32)) (op : BitVec 8) (n : Fin 9) (inc : Bool) (crc : BitVec 16) (link : Option (Fin 16)) (lk : Bool) (bs : List (BitVec 8)) (b : BitVec 8) (key : BitVec 64), (s.clocked = true) ∧ let m := s.mnt
      let c := s.coll
      let free : Prop := c.relWait = none
      (free) ∧ (m.pend = none) ∧ (m.late = false) ∧ (s.rb Reg.mntCfg 0 0 = false))
    ∧ (∃ (s : State) (a : BitVec 40) (l : Fin 16) (len : BitVec 8) (ws : List (BitVec 32)) (op : BitVec 8) (n : Fin 9) (inc : Bool) (crc : BitVec 16) (link : Option (Fin 16)) (lk : Bool) (bs : List (BitVec 8)) (b : BitVec 8) (key : BitVec 64), (s.clocked = true) ∧ let m := s.mnt
      let c := s.coll
      let free : Prop := c.relWait = none
      (free) ∧ (m.pend = none) ∧ (m.late = false) ∧ (s.rb Reg.mntCfg 0 1 = true))
    ∧ (∃ (s : State) (a : BitVec 40) (l : Fin 16) (len : BitVec 8) (ws : List (BitVec 32)) (op : BitVec 8) (n : Fin 9) (inc : Bool) (crc : BitVec 16) (link : Option (Fin 16)) (lk : Bool) (bs : List (BitVec 8)) (b : BitVec 8) (key : BitVec 64), (s.clocked = true) ∧ let m := s.mnt
      let c := s.coll
      let free : Prop := c.relWait = none
      (free) ∧ (m.pend = none) ∧ (m.late = false) ∧ (s.rb Reg.mntCfg 0 1 = false))
    ∧ (∃ (s : State) (a : BitVec 40) (l : Fin 16) (len : BitVec 8) (ws : List (BitVec 32)) (op : BitVec 8) (n : Fin 9) (inc : Bool) (crc : BitVec 16) (link : Option (Fin 16)) (lk : Bool) (bs : List (BitVec 8)) (b : BitVec 8) (key : BitVec 64), (s.clocked = true) ∧ let x := a.toNat
      let m := s.mnt
      let c := s.coll
      let free : Prop := c.relWait = none
      (free) ∧ (m.iaddr = x) ∧ (x % 4 = 0) ∧ (sramAt x = some n) ∧ (s.inj.flips = []) ∧ (m.pend = some (false, inc)))
    ∧ (∃ (s : State) (a : BitVec 40) (l : Fin 16) (len : BitVec 8) (ws : List (BitVec 32)) (op : BitVec 8) (n : Fin 9) (inc : Bool) (crc : BitVec 16) (link : Option (Fin 16)) (lk : Bool) (bs : List (BitVec 8)) (b : BitVec 8) (key : BitVec 64), (s.clocked = true) ∧ let x := a.toNat
      let m := s.mnt
      let c := s.coll
      let free : Prop := c.relWait = none
      (free) ∧ (m.iaddr = x) ∧ (x % 4 = 0) ∧ (sramAt x = some n) ∧ (s.inj.flips = []) ∧ (m.pend = some (true, inc)) ∧ (s.sys.st ≠ .lockout) ∧ (s.clu[n].role ≠ .testing) ∧ ([0, 4, 7, 0x34000, 0x36000, 0x100000, 0xFFFFC, 0x100100000] : List (Nat)).any (fun z => decide ((z < x ∨ x + 4 ≤ z))) = true)
    ∧ (∃ (s : State) (a : BitVec 40) (l : Fin 16) (len : BitVec 8) (ws : List (BitVec 32)) (op : BitVec 8) (n : Fin 9) (inc : Bool) (crc : BitVec 16) (link : Option (Fin 16)) (lk : Bool) (bs : List (BitVec 8)) (b : BitVec 8) (key : BitVec 64), (s.clocked = true) ∧ let x := a.toNat
      let m := s.mnt
      let c := s.coll
      let free : Prop := c.relWait = none
      (free) ∧ (m.iaddr = x) ∧ (x % 4 = 0) ∧ (sramAt x = some n) ∧ (s.inj.flips = []) ∧ (m.pend = some (true, inc)) ∧ (s.clu[n].role = .testing) ∧ (s.sys.st ≠ .lockout))
    ∧ (∃ (s : State) (a : BitVec 40) (l : Fin 16) (len : BitVec 8) (ws : List (BitVec 32)) (op : BitVec 8) (n : Fin 9) (inc : Bool) (crc : BitVec 16) (link : Option (Fin 16)) (lk : Bool) (bs : List (BitVec 8)) (b : BitVec 8) (key : BitVec 64), (s.clocked = true) ∧ let m := s.mnt
      (m.latch = true))
    ∧ (∃ (s : State) (a : BitVec 40) (l : Fin 16) (len : BitVec 8) (ws : List (BitVec 32)) (op : BitVec 8) (n : Fin 9) (inc : Bool) (crc : BitVec 16) (link : Option (Fin 16)) (lk : Bool) (bs : List (BitVec 8)) (b : BitVec 8) (key : BitVec 64), (s.clocked = true) ∧ let m := s.mnt
      (m.latch = false ∨ b.toNat ≠ (0x58 + s.sys.ma % 8) * 2))
    ∧ (∃ (s : State) (a : BitVec 40) (l : Fin 16) (len : BitVec 8) (ws : List (BitVec 32)) (op : BitVec 8) (n : Fin 9) (inc : Bool) (crc : BitVec 16) (link : Option (Fin 16)) (lk : Bool) (bs : List (BitVec 8)) (b : BitVec 8) (key : BitVec 64), (s.clocked = true) ∧ (s.otp.fused = false) ∧ (s.sys.testPin = true))
    ∧ (∃ (s : State) (a : BitVec 40) (l : Fin 16) (len : BitVec 8) (ws : List (BitVec 32)) (op : BitVec 8) (n : Fin 9) (inc : Bool) (crc : BitVec 16) (link : Option (Fin 16)) (lk : Bool) (bs : List (BitVec 8)) (b : BitVec 8) (key : BitVec 64), (s.clocked = true) ∧ (s.otp.fused = true ∨ s.sys.testPin = false ∨ key ≠ Config.testKey)) :=
  ⟨⟨up, 0x20002000, 10, 0, [], 0, 3, false, 0, some 10, false, [], 0, 0, by decide +kernel⟩,
    ⟨up, 0x20002000, 10, 0, [], 0, 3, false, 0, some 10, false, [], 0, 0, by decide +kernel⟩,
    ⟨up, 0x35FFC, 15, 15, List.replicate 16 0, 0, 3, false, 0, none, false, [], 0, 0, by decide +kernel⟩,
    ⟨up, 0x35FFC, 15, 15, List.replicate 16 0, 0, 3, false, 0, none, false, [], 0, 0, by decide +kernel⟩,
    ⟨up, 0x20002000, 10, 0, [], 0, 3, false, 0, some 10, false, [], 0, 0, by decide +kernel⟩,
    ⟨up, 0x35FFC, 0, 16, [5], 0, 3, false, 0, none, false, [], 0, 0, by decide +kernel⟩,
    ⟨up, 0x20002000, 10, 0, [], 0, 3, false, 0, some 10, false, [], 0, 0, by decide +kernel⟩,
    ⟨up, 0x20002000, 10, 0, [], 0, 3, false, 0, some 10, false, [], 0, 0, by decide +kernel⟩,
    ⟨{ calm with links := { up.links with ddl := [.release] }, coll := { calm.coll with safe := true, relPend := true, relWait := some ⟨false, 0, 0, none, false, [], 0⟩ } }, 0, 0, 0, [], 0, 0, false, 0, none, false, [], 0, 0, by decide +kernel⟩,
    ⟨({ { calm with links := { up.links with ddl := [.release] }, coll := { calm.coll with safe := true, relPend := true, relWait := some ⟨false, 0, 0, none, false, [], 0⟩ } } with sys := { up.sys with vbat := false } } : State), 0, 0, 0, [], 0, 0, false, 0, none, false, [], 0, 0, by decide +kernel⟩,
    ⟨up, 1, 0, 0, [5], 0, 3, false, 0, none, false, [], 0, 0, by decide +kernel⟩,
    ⟨up, 0x35FFC, 0, 16, [5], 0, 3, false, 0, none, false, [], 0, 0, by decide +kernel⟩,
    ⟨up, 0x35FFC, 15, 15, List.replicate 16 0, 0, 3, false, 0, none, false, [], 0, 0, by decide +kernel⟩,
    ⟨up, 0x35FFC, 0, 16, [5], 0, 3, false, 0, none, false, [], 0, 0, by decide +kernel⟩,
    ⟨up, 0x35FFC, 0, 16, [5], 0, 3, false, 0, none, false, [], 0, 0, by decide +kernel⟩,
    ⟨up, 0x35FFC, 0, 16, [5], 0, 3, false, 0, none, false, [], 0, 0, by decide +kernel⟩,
    ⟨dev .lockout, 0x35FFC, 0, 0, [5], 0, 3, false, 0, none, false, [], 0, 0, by decide +kernel⟩,
    ⟨up, 0x20002000, 10, 0, [], 0, 3, false, 0, some 10, false, [], 0, 0, by decide +kernel⟩,
    ⟨up, 0x20002000, 10, 0, [], 0, 3, false, 0, some 10, false, [], 0, 0, by decide +kernel⟩,
    ⟨up, 0x35FFC, 0, 0, [5], 0, 3, false, 0, none, false, List.replicate 5 0, 0, 0, by decide +kernel⟩,
    ⟨up, 0x35FFC, 0, 0, [5], 0, 3, false, 0, none, false, List.replicate 4 0, 0, 0, by decide +kernel⟩,
    ⟨up, 0x20002000, 10, 0, [], 0, 3, false, 0, some 10, false, [], 0, 0, by decide +kernel⟩,
    ⟨{ up with mnt := { up.mnt with ptr := 0x0C } }, 0x35FFC, 0, 0, [5], 0, 3, false, 0, none, false, [], 0, 0, by decide +kernel⟩,
    ⟨{ up with mnt := { up.mnt with ptr := 0x28 } }, 0x35FFC, 0, 0, [5], 0, 3, false, 0, none, false, [], 0, 0, by decide +kernel⟩,
    ⟨{ up with mnt := { up.mnt with ptr := 0xFF } }, 0x35FFC, 0, 0, [5], 0, 3, false, 0, none, false, [], 0, 0, by decide +kernel⟩,
    ⟨{ up with mnt := { up.mnt with pend := some (true, false) } }, 0x35FFC, 0, 0, [5], 0, 3, false, 0, none, false, [], 0, 0, by decide +kernel⟩,
    ⟨up, 0x20002000, 10, 0, [], 0, 3, false, 0, some 10, false, [], 0, 0, by decide +kernel⟩,
    ⟨up, 0x20002000, 10, 0, [], 0, 3, false, 0, some 10, false, [], 0, 0, by decide +kernel⟩,
    ⟨up.setRf Reg.mntCfg 0 0 0 0, 0x35FFC, 0, 0, [5], 0, 3, false, 0, none, false, [], 0, 0, by decide +kernel⟩,
    ⟨up, 0x20002000, 10, 0, [], 0, 3, false, 0, some 10, false, [], 0, 0, by decide +kernel⟩,
    ⟨up.setRf Reg.mntCfg 0 1 1 0, 0x35FFC, 0, 0, [5], 0, 3, false, 0, none, false, [], 0, 0, by decide +kernel⟩,
    ⟨{ up with mnt := { up.mnt with iaddr := 0x35FFC, pend := some (false, false) } }, 0x35FFC, 0, 0, [5], 0, 3, false, 0, none, false, [], 0, 0, by decide +kernel⟩,
    ⟨{ up with mnt := { up.mnt with iaddr := 0x35FFC, pend := some (true, false) } }, 0x35FFC, 0, 0, [5], 0, 3, false, 0, none, false, [], 0, 0, by decide +kernel⟩,
    ⟨State.setClu ({ up with mnt := { up.mnt with iaddr := 0x35FFC, pend := some (true, false) } }) 3 fun k => { k with role := .testing }, 0x35FFC, 0, 0, [5], 0, 3, false, 0, none, false, [], 0, 0, by decide +kernel⟩,
    ⟨{ up with mnt := { up.mnt with latch := true } }, 0x35FFC, 0, 0, [5], 0, 3, false, 0, none, false, [], 0, 0, by decide +kernel⟩,
    ⟨up, 0x20002000, 10, 0, [], 0, 3, false, 0, some 10, false, [], 0, 0, by decide +kernel⟩,
    ⟨{ up with otp := { up.otp with fused := false }, sys := { up.sys with testPin := true } }, 0x35FFC, 0, 0, [5], 0, 3, false, 0, none, false, [], 0, 0, by decide +kernel⟩,
    ⟨up, 0x20002000, 10, 0, [], 0, 3, false, 0, some 10, false, [], 0, 0, by decide +kernel⟩⟩

/-- States and operands that meet the hypotheses of CollectorAndSafeState. -/
theorem test_meets_CollectorAndSafeState :
    (∃ (s : State) (p : Fin 2) (v : BitVec 32) (levels : BitVec 2), (s.clocked = true) ∧ let c := s.coll
      let again : Bool := c.lastAcc.any fun x => decide (x.at_ = s.svclk) -- this SVCLK has accepted a message
      (s.Writable p) ∧ (again = false))
    ∧ (∃ (s : State) (p : Fin 2) (v : BitVec 32) (levels : BitVec 2), (s.clocked = true) ∧ let c := s.coll
      let again : Bool := c.lastAcc.any fun x => decide (x.at_ = s.svclk) -- this SVCLK has accepted a message
      let from_ : Nat := if again then 2 * s.svclk + 2 else s.now
      let at_ (m : Msg) : Nat := max from_ m.ready
      (s.Writable p) ∧ (c.lastAcc).any (fun x => decide ((c.lastMsg).any (fun e => decide ((x.at_ = s.svclk) ∧ (x.before.length ≤ 64))))) = true)
    ∧ (∃ (s : State) (p : Fin 2) (v : BitVec 32) (levels : BitVec 2), (s.clocked = true) ∧ let c := s.coll
      let may : Bool := s.live && (match s.links.lastGood with
            | some t => decide (s.now < t + 16000)
            | none => false) && s.sys.vbat && !c.safeLineSeen
      (s.Writable p) ∧ (may = false))
    ∧ (∃ (s : State) (p : Fin 2) (v : BitVec 32) (levels : BitVec 2), (s.clocked = true) ∧ let c := s.coll
      let may : Bool := s.live && (match s.links.lastGood with
            | some t => decide (s.now < t + 16000)
            | none => false) && s.sys.vbat && !c.safeLineSeen
      let safe (t : State) : Prop := t.coll.safe = true ∧ t.coll.lineA = true ∧ t.coll.lineB = true ∧ t.coll.shot = none ∧ t.drv.safe = true
            ∧ (∀ n : Fin 32, t.pins.ls.getLsbD n.val = false)
      (s.Writable p) ∧ (may = true) ∧ (c.safe = false))
    ∧ (∃ (s : State) (p : Fin 2) (v : BitVec 32) (levels : BitVec 2), (s.clocked = true) ∧ let c := s.coll
      let may : Bool := s.live && (match s.links.lastGood with
            | some t => decide (s.now < t + 16000)
            | none => false) && s.sys.vbat && !c.safeLineSeen
      let safe (t : State) : Prop := t.coll.safe = true ∧ t.coll.lineA = true ∧ t.coll.lineB = true ∧ t.coll.shot = none ∧ t.drv.safe = true
            ∧ (∀ n : Fin 32, t.pins.ls.getLsbD n.val = false)
      (s.Writable p) ∧ (may = true) ∧ (c.safe = true) ∧ (c.entered).any (fun x => decide ((x.1 = s.svclk) ∧ (x.2 = false))) = true)
    ∧ (∃ (s : State) (p : Fin 2) (v : BitVec 32) (levels : BitVec 2), (s.clocked = true) ∧ let c := s.coll
      let may : Bool := s.live && (match s.links.lastGood with
            | some t => decide (s.now < t + 16000)
            | none => false) && s.sys.vbat && !c.safeLineSeen
      let safe (t : State) : Prop := t.coll.safe = true ∧ t.coll.lineA = true ∧ t.coll.lineB = true ∧ t.coll.shot = none ∧ t.drv.safe = true
            ∧ (∀ n : Fin 32, t.pins.ls.getLsbD n.val = false)
      (s.Writable p) ∧ (may = true) ∧ (c.safe = true) ∧ (c.entered).any (fun x => decide ((x.1 = s.svclk) ∧ (x.2 = true))) = true)
    ∧ (∃ (s : State) (p : Fin 2) (v : BitVec 32) (levels : BitVec 2), (s.clocked = true) ∧ let c := s.coll
      let may : Bool := s.live && (match s.links.lastGood with
            | some t => decide (s.now < t + 16000)
            | none => false) && s.sys.vbat && !c.safeLineSeen
      let safe (t : State) : Prop := t.coll.safe = true ∧ t.coll.lineA = true ∧ t.coll.lineB = true ∧ t.coll.shot = none ∧ t.drv.safe = true
            ∧ (∀ n : Fin 32, t.pins.ls.getLsbD n.val = false)
      (s.Writable p) ∧ (may = true) ∧ (c.safe = true) ∧ ((∀ x ∈ c.entered, x.1 ≠ s.svclk)))
    ∧ (∃ (s : State) (p : Fin 2) (v : BitVec 32) (levels : BitVec 2), (s.clocked = true) ∧ let c := s.coll
      (s.Writable p) ∧ (c.shot).any (fun n => decide ((v.toNat % 4096 = c.last2))) = true)
    ∧ (∃ (s : State) (p : Fin 2) (v : BitVec 32) (levels : BitVec 2), (s.clocked = true) ∧ let c := s.coll
      (s.Writable p) ∧ (c.shot = none ∨ v.toNat % 4096 ≠ c.last2))
    ∧ (∃ (s : State) (p : Fin 2) (v : BitVec 32) (levels : BitVec 2), (s.clocked = true) ∧ let c := s.coll
      (c.coming = []) ∧ (s.trc.coming = []))
    ∧ (∃ (s : State) (p : Fin 2) (v : BitVec 32) (levels : BitVec 2), (s.clocked = true) ∧ let c := s.coll
      let one (m : Msg) : Prop := c.outbox = [m] ∧ c.kept = [] ∧ m.ddl = false
      (c.outbox.head?).any (fun m => decide ((one m) ∧ (m.cls < 2) ∧ (m.src / 1024 ≠ 1) ∧ (s.trc.coming = []) ∧ (0x25F ∈ s.inj.residue))) = true)
    ∧ (∃ (s : State) (p : Fin 2) (v : BitVec 32) (levels : BitVec 2), (s.clocked = true) ∧ let c := s.coll
      let one (m : Msg) : Prop := c.outbox = [m] ∧ c.kept = [] ∧ m.ddl = false
      let clean : Prop := s.trc.coming = [] ∧ 0x25F ∉ s.inj.residue
      (c.outbox.head?).any (fun m => decide ((one m) ∧ (m.cls < 4) ∧ (clean) ∧ (c.fifo.length < 64))) = true)
    ∧ (∃ (s : State) (p : Fin 2) (v : BitVec 32) (levels : BitVec 2), (s.clocked = true) ∧ let c := s.coll
      let one (m : Msg) : Prop := c.outbox = [m] ∧ c.kept = [] ∧ m.ddl = false
      let clean : Prop := s.trc.coming = [] ∧ 0x25F ∉ s.inj.residue
      (c.outbox.head?).any (fun m => decide ((one m) ∧ (m.cls < 4) ∧ (clean) ∧ (64 ≤ c.fifo.length) ∧ (m.cls = 0))) = true)
    ∧ (∃ (s : State) (p : Fin 2) (v : BitVec 32) (levels : BitVec 2), (s.clocked = true) ∧ let c := s.coll
      let one (m : Msg) : Prop := c.outbox = [m] ∧ c.kept = [] ∧ m.ddl = false
      let clean : Prop := s.trc.coming = [] ∧ 0x25F ∉ s.inj.residue
      (c.outbox.head?).any (fun m => decide ((one m) ∧ (m.cls < 4) ∧ (clean) ∧ (m.cls = 0))) = true)
    ∧ (∃ (s : State) (p : Fin 2) (v : BitVec 32) (levels : BitVec 2), (s.clocked = true) ∧ let c := s.coll
      let one (m : Msg) : Prop := c.outbox = [m] ∧ c.kept = [] ∧ m.ddl = false
      let clean : Prop := s.trc.coming = [] ∧ 0x25F ∉ s.inj.residue
      (c.outbox.head?).any (fun m => decide ((one m) ∧ (m.cls < 4) ∧ (clean) ∧ (m.cls = 1))) = true)
    ∧ (∃ (s : State) (p : Fin 2) (v : BitVec 32) (levels : BitVec 2), (s.clocked = true) ∧ let c := s.coll
      let one (m : Msg) : Prop := c.outbox = [m] ∧ c.kept = [] ∧ m.ddl = false
      let clean : Prop := s.trc.coming = [] ∧ 0x25F ∉ s.inj.residue
      (c.outbox.head?).any (fun m => decide ((one m) ∧ (m.cls < 4) ∧ (clean) ∧ (m.cls = 3))) = true)
    ∧ (∃ (s : State) (p : Fin 2) (v : BitVec 32) (levels : BitVec 2), (s.clocked = true) ∧ let c := s.coll
      let one (m : Msg) : Prop := c.outbox = [m] ∧ c.kept = [] ∧ m.ddl = false
      let clean : Prop := s.trc.coming = [] ∧ 0x25F ∉ s.inj.residue
      (c.outbox.head?).any (fun m => decide ((one m) ∧ (m.cls < 4) ∧ (clean) ∧ ∃ i : Fin 4, (i.val = m.cls))) = true)
    ∧ (∃ (s : State) (p : Fin 2) (v : BitVec 32) (levels : BitVec 2), (s.clocked = true) ∧ let c := s.coll
      let one (m : Msg) : Prop := c.outbox = [m] ∧ c.kept = [] ∧ m.ddl = false
      let clean : Prop := s.trc.coming = [] ∧ 0x25F ∉ s.inj.residue
      (c.outbox.head?).any (fun m => decide ((one m) ∧ (m.cls < 4) ∧ (clean) ∧ (m.cls < 2) ∧ (m.src / 1024 ≠ 1))) = true)
    ∧ (∃ (s : State) (p : Fin 2) (v : BitVec 32) (levels : BitVec 2), (s.clocked = true) ∧ let c := s.coll
      let one (m : Msg) : Prop := c.outbox = [m] ∧ c.kept = [] ∧ m.ddl = false
      let clean : Prop := s.trc.coming = [] ∧ 0x25F ∉ s.inj.residue
      let safe (t : State) : Prop := t.coll.safe = true ∧ t.coll.lineA = true ∧ t.coll.lineB = true ∧ t.coll.shot = none ∧ t.drv.safe = true
            ∧ (∀ n : Fin 32, t.pins.ls.getLsbD n.val = false)
      (c.outbox.head?).any (fun m => decide ((one m) ∧ (m.cls < 4) ∧ (clean) ∧ (m.cls = 2) ∧ (m.src / 1024 ≠ 1) ∧ (c.shot = none) ∧ (c.safe = false))) = true)
    ∧ (∃ (s : State) (p : Fin 2) (v : BitVec 32) (levels : BitVec 2), (s.clocked = true) ∧ let c := s.coll
      let again : Bool := c.lastAcc.any fun x => decide (x.at_ = s.svclk) -- this SVCLK has accepted a message
      let from_ : Nat := if again then 2 * s.svclk + 2 else s.now
      let at_ (m : Msg) : Nat := max from_ m.ready
      (c.outbox.head?).any (fun a => decide ((c.outbox.tail.head?).any (fun b => decide ((c.outbox = [a, b]) ∧ (c.kept = []) ∧ (a.ddl = false) ∧ (b.ddl = false) ∧ (a.ready ≤ s.now) ∧ (b.ready ≤ s.now) ∧ (s.trc.coming = []) ∧ (a.cls < b.cls ∨ (a.cls = b.cls ∧ b.at_ < a.at_) ∨ (a.cls = b.cls ∧ a.at_ = b.at_ ∧ b.src < a.src)))))) = true)
    ∧ (∃ (s : State) (p : Fin 2) (v : BitVec 32) (levels : BitVec 2), (s.clocked = true) ∧ let c := s.coll
      let again : Bool := c.lastAcc.any fun x => decide (x.at_ = s.svclk) -- this SVCLK has accepted a message
      let from_ : Nat := if again then 2 * s.svclk + 2 else s.now
      let at_ (m : Msg) : Nat := max from_ m.ready
      (c.outbox.head?).any (fun a => decide ((c.outbox.tail.head?).any (fun b => decide ((c.outbox = [a, b]) ∧ (c.kept = []) ∧ (a.ddl = false) ∧ (b.ddl = false) ∧ (a.ready ≤ s.now) ∧ (b.ready ≤ s.now) ∧ (s.trc.coming = []) ∧ (b.cls < a.cls ∨ (a.cls = b.cls ∧ a.at_ < b.at_) ∨ (a.cls = b.cls ∧ a.at_ = b.at_ ∧ a.src < b.src)))))) = true)
    ∧ (∃ (s : State) (p : Fin 2) (v : BitVec 32) (levels : BitVec 2), (s.clocked = true) ∧ let c := s.coll
      (c.shot).any (fun _ => true) = true)
    ∧ (∃ (s : State) (p : Fin 2) (v : BitVec 32) (levels : BitVec 2), (s.clocked = true) ∧ let c := s.coll
      (c.shot = none)) :=
  ⟨⟨{ (collecting fun c => { c with outbox := [msg 0 3 0] }) with inj := { up.inj with residue := [0x25F] } }, 0, 0, 0, by decide +kernel⟩,
    ⟨collecting fun c => { c with fifo := [⟨msg 1 3 0, 0, 0⟩, ⟨msg 0 4 0, 1, 0⟩], seq := 2, lastMsg := some ⟨msg 0 4 0, 1, 0⟩, lastAcc := some ⟨0, [⟨msg 1 3 0, 0, 0⟩], false⟩ }, 0, 0, 0, by decide +kernel⟩,
    ⟨collecting fun c => { c with fifo := [⟨msg 1 3 0, 0, 0⟩, ⟨msg 0 4 0, 1, 0⟩], seq := 2, lastMsg := some ⟨msg 0 4 0, 1, 0⟩, lastAcc := some ⟨0, [⟨msg 1 3 0, 0, 0⟩], false⟩ }, 0, 0, 0, by decide +kernel⟩,
    ⟨{ calm with links := { up.links with lastGood := some 0 } }, 0, 0, 0, by decide +kernel⟩,
    ⟨{ (collecting fun c => { c with safe := true, lineA := true, lineB := true, entered := some (0, false) }) with links := { up.links with lastGood := some 0 } }, 0, 0, 0, by decide +kernel⟩,
    ⟨{ (collecting fun c => { c with safe := true, lineA := true, lineB := true, entered := some (0, true) }) with links := { up.links with lastGood := some 0 } }, 0, 0, 0, by decide +kernel⟩,
    ⟨{ up with links := { up.links with lastGood := some 0 } }, 0, 0, 0, by decide +kernel⟩,
    ⟨collecting fun c => { c with shot := some 5 }, 0, 0, 0, by decide +kernel⟩,
    ⟨collecting fun c => { c with fifo := [⟨msg 1 3 0, 0, 0⟩, ⟨msg 0 4 0, 1, 0⟩], seq := 2, lastMsg := some ⟨msg 0 4 0, 1, 0⟩, lastAcc := some ⟨0, [⟨msg 1 3 0, 0, 0⟩], false⟩ }, 0, 0, 0, by decide +kernel⟩,
    ⟨collecting fun c => { c with fifo := [⟨msg 1 3 0, 0, 0⟩, ⟨msg 0 4 0, 1, 0⟩], seq := 2, lastMsg := some ⟨msg 0 4 0, 1, 0⟩, lastAcc := some ⟨0, [⟨msg 1 3 0, 0, 0⟩], false⟩ }, 0, 0, 0, by decide +kernel⟩,
    ⟨{ (collecting fun c => { c with outbox := [msg 0 3 0] }) with inj := { up.inj with residue := [0x25F] } }, 0, 0, 0, by decide +kernel⟩,
    ⟨collecting fun c => { c with outbox := [msg 0 3 0], lastAcc := some ⟨0, [], false⟩ }, 0, 0, 0, by decide +kernel⟩,
    ⟨collecting fun c => { c with outbox := [msg 0 0x100 0], fifo := List.replicate 64 ⟨msg 0 0 0, 0, 0⟩ }, 0, 0, 0, by decide +kernel⟩,
    ⟨collecting fun c => { c with outbox := [msg 0 3 0], lastAcc := some ⟨0, [], false⟩ }, 0, 0, 0, by decide +kernel⟩,
    ⟨collecting fun c => { c with outbox := [msg 1 0x100 0] }, 0, 0, 0, by decide +kernel⟩,
    ⟨collecting fun c => { c with outbox := [msg 3 0x100 0] }, 0, 0, 0, by decide +kernel⟩,
    ⟨collecting fun c => { c with outbox := [msg 0 3 0], lastAcc := some ⟨0, [], false⟩ }, 0, 0, 0, by decide +kernel⟩,
    ⟨collecting fun c => { c with outbox := [msg 0 3 0], lastAcc := some ⟨0, [], false⟩ }, 0, 0, 0, by decide +kernel⟩,
    ⟨collecting fun c => { c with outbox := [msg 2 3 0], acked := some (0, 0, 7) }, 0, 0, 0, by decide +kernel⟩,
    ⟨collecting fun c => { c with outbox := [msg 1 0x101 0, msg 1 0x100 0] }, 0, 0, 0, by decide +kernel⟩,
    ⟨collecting fun c => { c with outbox := [msg 1 3 0, msg 0 4 0], lastAcc := some ⟨0, [], false⟩ }, 0, 0, 0, by decide +kernel⟩,
    ⟨collecting fun c => { c with shot := some 5 }, 0, 0, 0, by decide +kernel⟩,
    ⟨collecting fun c => { c with fifo := [⟨msg 1 3 0, 0, 0⟩, ⟨msg 0 4 0, 1, 0⟩], seq := 2, lastMsg := some ⟨msg 0 4 0, 1, 0⟩, lastAcc := some ⟨0, [⟨msg 1 3 0, 0, 0⟩], false⟩ }, 0, 0, 0, by decide +kernel⟩⟩

/-- States and operands that meet the hypotheses of BistAndFaultInjection. -/
theorem test_meets_BistAndFaultInjection :
    (∃ (s : State) (p : Fin 2) (u : Fin 16) (c sp : Fin 9) (pass : Bool), (s.clocked = true) ∧ let runs : Bool := s.live && s.rb Reg.bistCfg 0 0
      (runs = false))
    ∧ (∃ (s : State) (p : Fin 2) (u : Fin 16) (c sp : Fin 9) (pass : Bool), (s.clocked = true) ∧ let b := s.bist
      let runs : Bool := s.live && s.rb Reg.bistCfg 0 0
      let src : Nat := s.rf Reg.fiSrc 0 11 0
      (runs = true) ∧ (b.running = true) ∧ ((s.coll.outbox.filter (·.src = 0x26F)) = []))
    ∧ (∃ (s : State) (p : Fin 2) (u : Fin 16) (c sp : Fin 9) (pass : Bool), (s.clocked = true) ∧ let b := s.bist
      let k := s.clu[c]
      let runs : Bool := s.live && s.rb Reg.bistCfg 0 0
      let inPlace : Prop := k.role = .spare ∨ k.role = .stopped
      (runs = true) ∧ (b.running = true) ∧ (b.ov = none) ∧ (b.due.1 = c.val) ∧ (inPlace))
    ∧ (∃ (s : State) (p : Fin 2) (u : Fin 16) (c sp : Fin 9) (pass : Bool), (s.clocked = true) ∧ let b := s.bist
      let k := s.clu[c]
      let runs : Bool := s.live && s.rb Reg.bistCfg 0 0
      let lowest : Prop := s.clu[sp].role = .spare ∧ ∀ x : Fin 9, x.val < sp.val → s.clu[x].role ≠ .spare
      let carries : Prop := k.role = .active ∨ k.role = .carrying
      (runs = true) ∧ (b.running = true) ∧ (b.ov = none) ∧ (b.due.1 = c.val) ∧ (carries) ∧ (lowest))
    ∧ (∃ (s : State) (p : Fin 2) (u : Fin 16) (c sp : Fin 9) (pass : Bool), (s.clocked = true) ∧ let b := s.bist
      let runs : Bool := s.live && s.rb Reg.bistCfg 0 0
      (runs = true) ∧ (b.running = true) ∧ (b.ov = none) ∧ (b.due.1 = 9))
    ∧ (∃ (s : State) (p : Fin 2) (u : Fin 16) (c sp : Fin 9) (pass : Bool), (s.clocked = true) ∧ let b := s.bist
      (b.ov.isSome = true))
    ∧ (∃ (s : State) (p : Fin 2) (u : Fin 16) (c sp : Fin 9) (pass : Bool), (s.clocked = true) ∧ let b := s.bist
      (b.running = false))
    ∧ (∃ (s : State) (p : Fin 2) (u : Fin 16) (c sp : Fin 9) (pass : Bool), (s.clocked = true) ∧ let b := s.bist
      (b.ov = none))
    ∧ (∃ (s : State) (p : Fin 2) (u : Fin 16) (c sp : Fin 9) (pass : Bool), (s.clocked = true) ∧ let b := s.bist
      let failed (o : Over) (t : State) : Prop := t.bist.ov = none ∧ t.clu[c].role = .unusable ∧ t.clu[c].work = none
            ∧ t.rf Reg.bistCnt 0 31 16 = min 65535 (s.rf Reg.bistCnt 0 31 16 + 1) ∧ s.Emits t 1 0x1B (0x260 + c.val) (o.idx % 16)
            ∧ t.mem = s.mem
      (b.ov).any (fun o => decide ((o.unit = c.val) ∧ (s.inj.overFail = []) ∧ (o.stage = .running) ∧ (o.spare = none) ∧ (o.extra = false) ∧ (b.next < 151) ∧ ((∀ x : Fin 9, s.clu[x].role ≠ .testing)) ∧ (o.idx = 15) ∧ (b.failed.testBit c.val = false))) = true)
    ∧ (∃ (s : State) (p : Fin 2) (u : Fin 16) (c sp : Fin 9) (pass : Bool), (s.clocked = true) ∧ let b := s.bist
      (b.ov).any (fun o => decide ((o.unit = c.val) ∧ (s.inj.overFail = []) ∧ (o.stage = .running) ∧ (o.spare = none) ∧ (o.extra = false) ∧ (b.next < 151) ∧ ((∀ x : Fin 9, s.clu[x].role ≠ .testing)) ∧ (o.idx < 15))) = true)
    ∧ (∃ (s : State) (p : Fin 2) (u : Fin 16) (c sp : Fin 9) (pass : Bool), (s.clocked = true) ∧ let b := s.bist
      let k := s.clu[c]
      (b.ov).any (fun o => decide ((o.unit = c.val) ∧ (s.inj.overFail = []) ∧ (o.stage = .running) ∧ (o.spare = none) ∧ (o.extra = false) ∧ (b.next < 151) ∧ (k.role = .testing))) = true)
    ∧ (∃ (s : State) (p : Fin 2) (u : Fin 16) (c sp : Fin 9) (pass : Bool), (s.clocked = true) ∧ let b := s.bist
      (b.ov).any (fun o => decide ((o.unit = c.val) ∧ (s.inj.overFail = []) ∧ (o.stage = .running) ∧ (o.spare.isSome = true) ∧ (o.extra = true))) = true)
    ∧ (∃ (s : State) (p : Fin 2) (u : Fin 16) (c sp : Fin 9) (pass : Bool), (s.clocked = true) ∧ let b := s.bist
      (b.ov).any (fun o => decide ((o.unit = c.val) ∧ (s.inj.overFail = []) ∧ (o.stage = .running) ∧ (o.extra = true))) = true)
    ∧ (∃ (s : State) (p : Fin 2) (u : Fin 16) (c sp : Fin 9) (pass : Bool), (s.clocked = true) ∧ let b := s.bist
      (b.ov).any (fun o => decide ((o.unit = c.val) ∧ (s.inj.overFail = []) ∧ (o.stage ≠ .running))) = true)
    ∧ (∃ (s : State) (p : Fin 2) (u : Fin 16) (c sp : Fin 9) (pass : Bool), (s.clocked = true) ∧ let b := s.bist
      (b.ov).any (fun o => decide ((o.unit = c.val) ∧ (s.inj.overFail = []) ∧ (o.stage = .prepare))) = true)
    ∧ (∃ (s : State) (p : Fin 2) (u : Fin 16) (c sp : Fin 9) (pass : Bool), (s.clocked = true) ∧ let b := s.bist
      (b.ov).any (fun o => decide ((o.unit = c.val) ∧ (s.inj.overFail = []) ∧ (o.stage ≠ .prepare))) = true)
    ∧ (∃ (s : State) (p : Fin 2) (u : Fin 16) (c sp : Fin 9) (pass : Bool), (s.clocked = true) ∧ (s.Writable p) ∧ (s.mnt.testOpen = false))
    ∧ (∃ (s : State) (p : Fin 2) (u : Fin 16) (c sp : Fin 9) (pass : Bool), (s.clocked = true) ∧ let b := s.bist
      let k := s.clu[c]
      let inPlace : Prop := k.role = .spare ∨ k.role = .stopped
      (s.Writable p) ∧ (s.mnt.testOpen = true) ∧ (u.val = c.val) ∧ (b.ov = none) ∧ (inPlace))
    ∧ (∃ (s : State) (p : Fin 2) (u : Fin 16) (c sp : Fin 9) (pass : Bool), (s.clocked = true) ∧ let b := s.bist
      (s.Writable p) ∧ (s.mnt.testOpen = true) ∧ (b.ov.isSome = true))
    ∧ (∃ (s : State) (p : Fin 2) (u : Fin 16) (c sp : Fin 9) (pass : Bool), (s.clocked = true) ∧ let src : Nat := s.rf Reg.fiSrc 0 11 0
      (s.Writable p) ∧ (s.mnt.testOpen = true) ∧ (src / 16 ≠ 0xA) ∧ (src / 16 ≠ 0x12))
    ∧ (∃ (s : State) (p : Fin 2) (u : Fin 16) (c sp : Fin 9) (pass : Bool), (s.clocked = true) ∧ let runs : Bool := s.live && s.rb Reg.bistCfg 0 0
      let src : Nat := s.rf Reg.fiSrc 0 11 0
      (s.Writable p) ∧ (s.mnt.testOpen = true) ∧ ∃ w : Fin 16, (src = 0x120 + w.val) ∧ (s.measRuns = true) ∧ (s.ms.win[w].isOpen = true) ∧ (s.ms.win[w].runs ≠ []))
    ∧ (∃ (s : State) (p : Fin 2) (u : Fin 16) (c sp : Fin 9) (pass : Bool), (s.clocked = true) ∧ let k := s.clu[c]
      let src : Nat := s.rf Reg.fiSrc 0 11 0
      let addr : Nat := (s.rg Reg.fiAddr 0 0).toNat
      (s.Writable p) ∧ (s.mnt.testOpen = true) ∧ ∃ w : Fin 9, (k.work = some w) ∧ ∃ n : Fin 15, (src = c.val * 16 + n.val) ∧ ∃ q : Fin 32, (addr < 8) ∧ (q.val = n.val + 16 * (addr / 4)))
    ∧ (∃ (s : State) (p : Fin 2) (u : Fin 16) (c sp : Fin 9) (pass : Bool), (s.clocked = true) ∧ let k := s.clu[c]
      let src : Nat := s.rf Reg.fiSrc 0 11 0
      let addr : Nat := (s.rg Reg.fiAddr 0 0).toNat
      (s.Writable p) ∧ (s.mnt.testOpen = true) ∧ ∃ w : Fin 9, (k.work = some w) ∧ (src = c.val * 16 + 15) ∧ ∃ q : Fin 32, (6144 ≤ addr) ∧ (addr < 6152) ∧ (q.val = 15 + 16 * ((addr - 6144) / 4)))
    ∧ (∃ (s : State) (p : Fin 2) (u : Fin 16) (c sp : Fin 9) (pass : Bool), (s.clocked = true) ∧ let src : Nat := s.rf Reg.fiSrc 0 11 0
      let addr : Nat := (s.rg Reg.fiAddr 0 0).toNat
      (s.Writable p) ∧ (s.mnt.testOpen = true) ∧ ∃ w : Fin 9, (src = 0xB0 + w.val) ∧ ∃ n : Fin 32, (addr / 4 = n.val))
    ∧ (∃ (s : State) (p : Fin 2) (u : Fin 16) (c sp : Fin 9) (pass : Bool), (s.clocked = true) ∧ let src : Nat := s.rf Reg.fiSrc 0 11 0
      let addr : Nat := (s.rg Reg.fiAddr 0 0).toNat
      (s.Writable p) ∧ (s.mnt.testOpen = true) ∧ (src = c.val * 16 + 15) ∧ (addr < 6144))
    ∧ (∃ (s : State) (p : Fin 2) (u : Fin 16) (c sp : Fin 9) (pass : Bool), (s.clocked = true) ∧ let src : Nat := s.rf Reg.fiSrc 0 11 0
      let addr : Nat := (s.rg Reg.fiAddr 0 0).toNat
      (s.Writable p) ∧ (s.mnt.testOpen = true) ∧ (src = 0x25F) ∧ (addr % 4 < 3) ∧ (s.coll.fifo[addr / 4]?).any (fun _ => true) = true)
    ∧ (∃ (s : State) (p : Fin 2) (u : Fin 16) (c sp : Fin 9) (pass : Bool), (s.clocked = true) ∧ let src : Nat := s.rf Reg.fiSrc 0 11 0
      (s.Writable p) ∧ (s.mnt.testOpen = true) ∧ (src / 16 = 0xC))
    ∧ (∃ (s : State) (p : Fin 2) (u : Fin 16) (c sp : Fin 9) (pass : Bool), (s.clocked = true) ∧ let src : Nat := s.rf Reg.fiSrc 0 11 0
      (s.Writable p) ∧ (s.mnt.testOpen = true) ∧ (src / 16 = 0xD))
    ∧ (∃ (s : State) (p : Fin 2) (u : Fin 16) (c sp : Fin 9) (pass : Bool), (s.clocked = true) ∧ let src : Nat := s.rf Reg.fiSrc 0 11 0
      (s.Writable p) ∧ (s.mnt.testOpen = true) ∧ (src / 16 = 0xE))
    ∧ (∃ (s : State) (p : Fin 2) (u : Fin 16) (c sp : Fin 9) (pass : Bool), (s.clocked = true) ∧ let hi : Word := s.rg Reg.fiMsgHi 0 0
      (s.Writable p) ∧ (s.mnt.testOpen = true) ∧ (fld hi 23 12 ≠ 0x26F)) :=
  ⟨⟨dev .sidelines, 0, 0, 0, 8, true, by decide +kernel⟩,
    ⟨(batting fun b => { b with running := true, ov := some ⟨0, 0, .running, none, none, .stopped, false, 0⟩ }).setClu 0 fun k => { k with role := .testing }, 0, 0, 0, 8, true, by decide +kernel⟩,
    ⟨batting fun b => { b with running := true }, 0, 0, 0, 8, true, by decide +kernel⟩,
    ⟨(batting fun b => { b with running := true }).setClu 0 fun k => { k with role := .active }, 0, 0, 0, 8, true, by decide +kernel⟩,
    ⟨batting fun b => { b with running := true, next := 144 }, 0, 0, 0, 8, true, by decide +kernel⟩,
    ⟨(batting fun b => { b with running := true, ov := some ⟨0, 0, .running, none, none, .stopped, false, 0⟩ }).setClu 0 fun k => { k with role := .testing }, 0, 0, 0, 8, true, by decide +kernel⟩,
    ⟨opened (injecting 0x122), 0, 0, 0, 8, true, by decide +kernel⟩,
    ⟨opened (injecting 0x122), 0, 0, 0, 8, true, by decide +kernel⟩,
    ⟨batting fun b => { b with running := true, ov := some ⟨0, 15, .running, none, none, .stopped, false, 0⟩, next := 150 }, 0, 0, 0, 8, true, by decide +kernel⟩,
    ⟨batting fun b => { b with running := true, ov := some ⟨0, 0, .running, none, none, .stopped, false, 0⟩ }, 0, 0, 0, 8, true, by decide +kernel⟩,
    ⟨(batting fun b => { b with running := true, ov := some ⟨0, 0, .running, none, none, .stopped, false, 0⟩ }).setClu 0 fun k => { k with role := .testing }, 0, 0, 0, 8, true, by decide +kernel⟩,
    ⟨batting fun b => { b with running := true, ov := some ⟨0, 0, .running, some 8, none, .stopped, true, 0⟩ }, 0, 0, 0, 8, true, by decide +kernel⟩,
    ⟨batting fun b => { b with running := true, ov := some ⟨0, 0, .running, some 8, none, .stopped, true, 0⟩ }, 0, 0, 0, 8, true, by decide +kernel⟩,
    ⟨batting fun b => { b with running := true, ov := some ⟨0, 0, .prepare, none, none, .stopped, false, 0⟩ }, 0, 0, 0, 8, true, by decide +kernel⟩,
    ⟨batting fun b => { b with running := true, ov := some ⟨0, 0, .prepare, none, none, .stopped, false, 0⟩ }, 0, 0, 0, 8, true, by decide +kernel⟩,
    ⟨(batting fun b => { b with running := true, ov := some ⟨0, 0, .running, none, none, .stopped, false, 0⟩ }).setClu 0 fun k => { k with role := .testing }, 0, 0, 0, 8, true, by decide +kernel⟩,
    ⟨(batting fun b => { b with running := true, ov := some ⟨0, 0, .running, none, none, .stopped, false, 0⟩ }).setClu 0 fun k => { k with role := .testing }, 0, 0, 0, 8, true, by decide +kernel⟩,
    ⟨opened (injecting 0x122), 0, 0, 0, 8, true, by decide +kernel⟩,
    ⟨{ injecting 0 with bist := { up.bist with ov := some ⟨0, 0, .running, none, none, .stopped, false, 0⟩ } }, 0, 0, 0, 8, true, by decide +kernel⟩,
    ⟨injecting 0xB3, 0, 0, 0, 8, true, by decide +kernel⟩,
    ⟨opened (injecting 0x122), 0, 0, 0, 8, true, by decide +kernel⟩,
    ⟨(injecting 0x30).setWork 3 fun x => { x with slots := x.slots.set 0 { Peg.empty with mirBad := true } }, 0, 0, 3, 8, true, by decide +kernel⟩,
    ⟨(injecting 0x3F).setRg Reg.fiAddr 0 0 6144, 0, 0, 3, 8, true, by decide +kernel⟩,
    ⟨injecting 0xB3, 0, 0, 0, 8, true, by decide +kernel⟩,
    ⟨injecting 0xF, 0, 0, 0, 8, true, by decide +kernel⟩,
    ⟨(({ injecting 0x25F with coll := { up.coll with fifo := [⟨msg 1 3 0, 0, 0⟩, ⟨msg 0 4 0, 1, 0⟩] } } : State).setRg Reg.fiAddr 0 0 0), 0, 0, 0, 8, true, by decide +kernel⟩,
    ⟨injecting 0xCF, 0, 0, 0, 8, true, by decide +kernel⟩,
    ⟨injecting 0xDF, 0, 0, 0, 8, true, by decide +kernel⟩,
    ⟨injecting 0xE7, 0, 0, 0, 8, true, by decide +kernel⟩,
    ⟨opened (injecting 0x122), 0, 0, 0, 8, true, by decide +kernel⟩⟩

/-- An immediate within and one beyond a shift's width, fields of a peg instruction, angle registers within and beyond theirs, and
the last jig opcode with the first reserved one. -/
theorem test_meets_WordsSpellCommands :
    (∃ imm : BitVec 16, imm.toNat < 32) ∧ (∃ imm : BitVec 16, 32 ≤ imm.toNat)
    ∧ (∃ (k : Fin 4) (u : Bool), k ≠ 3 ∧ (u = true ∨ k ≠ 0)) ∧ (∃ d s t : Fin 16, d.val < 8 ∧ s.val < 8 ∧ t.val < 8)
    ∧ (∃ d s : Fin 16, 8 ≤ d.val ∧ 8 ≤ s.val) ∧ (∃ op : Fin 64, op.val < 0x16) ∧ (∃ op : Fin 64, 0x16 ≤ op.val) :=
  ⟨⟨31, by decide⟩, ⟨32, by decide⟩, ⟨2, false, by decide⟩, ⟨7, 7, 7, by decide⟩, ⟨8, 8, by decide⟩, ⟨0x15, by decide⟩, ⟨0x16, by decide⟩⟩

/-- A state that is safe with a drive on, and that has a step. -/
theorem test_meets_StepsKeepPackageSafe : ∃ s : State, s.Safe ∧ s.pins.quiet = false ∧ gives (step s) (fun _ => true) = true :=
  ⟨(firing { shot .peak with swOn := true }).settle, by decide +kernel⟩

/-! ### Ill-formed commands, one for each check -/

/-- A write frame whose LEN says two words and that carries one (R385). -/
theorem test_ill_formed_words : (Instr.hostWrite 0 1 [0] 0 none).wellFormed = false := by decide

/-- A MSG frame with five payload words (R205). -/
theorem test_ill_formed_payload :
    (Instr.msgReceive 0 0 false 0 0 0 0 0 0 [0, 0, 0, 0, 0]).wellFormed = false := by decide

/-- A payload byte above 255 (R345). -/
theorem test_ill_formed_bytes : (Instr.lrecReceive 0 0 [256]).wellFormed = false := by decide

/-- A scrub finding beyond trace memory (R280). -/
theorem test_ill_formed_scrub : (Instr.scrubRead [(2 ^ 29, 1)]).wellFormed = false := by decide

/-! ### Results from the rules and the cases of the manual -/

/-- The g register of SC3 after a command. -/
def after (i : Instr) (s : State) (r : Fin 16) : Option Word :=
  match exec i s with
  | .next t => some t.clu[3].g[r]
  | _ => none

/-- The words of the A5 image (chapter Walend Instruction Reference, Case). -/
theorem test_words_of_a5 :
    [0x10000020, 0, 0x20000000, 0x2E020018, 0xC0600000, 0xDC070000, 0x26001000, 0x36200000, 0x84200003, 0x0C400013, 0xE6602000].map
        (fun w => walendCommand 4 (BitVec.ofNat 32 w) {})
      = [.wJmp 4 0x20, .wDone 4, .wLdi 4 0 0, .wLd 4 8 0 true 0x18 0, .wMova 4 1 8, .wSetac 4 0 1 true true, .wLdhi 4 8 0x1000,
        .wLdx 4 8 8 false 0 0 false, .wCmpi 4 8 3, .wBcond 4 1 19, .wArm 4 9 8 0 2].map some := by decide +kernel

/-- Words of the SENT program (chapter Jig Engines, Case). -/
theorem test_words_of_sent :
    [0x3001FFFF, 0x3009FFFF, 0x14300000, 0x4C000000].map (fun w => jigCommand 2 (BitVec.ofNat 32 w) {})
      = [.jigMovi 2 1 0xFFFF, .jigMovi 2 9 0xFFFF, .jigWaite 2 0x30 0, .jigMulq 2 0 0].map some := by decide +kernel

/-- R190: an addition wraps, and R185 then sets C. -/
theorem test_add_wraps : gives (exec (.wAdd 3 5 1 2) (core 0xFFFFFFFF 1)) (fun t => t.clu[3].g[5] = 0 && t.clu[3].c && t.clu[3].z) = true := by
  decide +kernel

/-- R191: the table of special cases. -/
theorem test_divs_special : after (.wDivs 3 5 1 2) (core 0x80000000 0xFFFFFFFF) 5 = some 0x80000000
    ∧ after (.wDivs 3 5 1 2) (core 0xFFFFFFF9 2) 5 = some 0xFFFFFFFD ∧ after (.wDivu 3 5 1 2) (core 9 0) 5 = some 0xFFFFFFFF := by
  decide +kernel

/-- R190: MULH gives the upper word of the signed product. -/
theorem test_mulh_signed : after (.wMulh 3 5 1 2) (core 0xFFFFFFFF 2) 5 = some 0xFFFFFFFF := by decide +kernel

/-- R188: a store and the load of the same word. -/
theorem test_store_load : gives (exec (.wSt 3 2 1 false 4) (core 0x100 0x12345678)) (fun t =>
    t.word 0x34104 = 0x12345678 && t.byte 0x34104 = 0x78 && t.byte 0x34100 = 0) = true := by decide +kernel

/-- R451: the word that sets the device going, and one without its CONFIRM. -/
theorem test_run_needs_word : gives (exec (.sysRun 0 0x5AFE) (dev .ready)) (fun t => t.sys.st = .run) = true
    ∧ gives (exec (.sysRun 0 0x5AFF) (dev .ready)) (fun t => t.sys.st = .ready && t.host.status = .busy) = true := by
  decide +kernel

set_option maxRecDepth 2048 in
/-- R422: a class-3 message asserts both safe lines and locks the device out. -/
theorem test_class3_locks : gives (exec .collectorAccept (collecting fun c => { c with outbox := [msg 3 0x100 0] })) (fun t =>
    t.sys.st = .lockout && t.coll.lineA && t.coll.lineB && t.coll.safe) = true := by decide +kernel

/-- R301: a jig NOP at the last word goes on at word 0. -/
theorem test_jig_wraps : gives (exec (.jigNop 7 0 0) (jigged fun g => { g with run := true, pc := 63 })) (fun t => t.jig[7].pc = 0) = true := by
  decide +kernel

/-- R319: a timer count wraps and says so in TMRn_STAT. -/
theorem test_timer_wraps : gives (exec (.timerIncrement 0) (timing fun x => { x with cnt := 0xFFFFFFFF })) (fun t =>
    t.tmr[0].cnt = 0 && t.rb Reg.tmrStat 0 3) = true := by decide +kernel

/-- R340: SHA-256 of the empty text, as its published definition gives it. -/
theorem test_sha256_empty : sha256 [] = [0xE3, 0xB0, 0xC4, 0x42, 0x98, 0xFC, 0x1C, 0x14, 0x9A, 0xFB, 0xF4, 0xC8, 0x99, 0x6F,
    0xB9, 0x24, 0x27, 0xAE, 0x41, 0xE4, 0x64, 0x9B, 0x93, 0x4C, 0xA4, 0x95, 0x99, 0x1B, 0x78, 0x52, 0xB8, 0x55] := by
  decide +kernel

end Sys2Proof.Tests
end

section
/-! SUPPORT. The instructions of a running core that jump, branch or put a result: each as the state it leaves (R181, R185 to R187, R191). -/

namespace Sys2Proof.Machine

/-! ### The frame of an instruction -/

/-- While no injected residue waits, it does not matter whether an instruction reads or writes a register (R183). -/
theorem State.insn_regs {s : State} {c : Fin 9} {r : Run} (h : s.Running c r) (n : Nat) (bad : Bool) (f : State → State × Flow)
    (regs : Bool) : s.insn c n bad f regs = s.insn c n bad f := by
  obtain ⟨-, hrun, -, hres, -, hfetch⟩ := h
  have hinj : (s.spend c n).inj = s.inj := by rw [State.spend_eq hrun]; simp [State.atEnd]
  simp [State.insn, hfetch, hinj, hres]

/-- The TCLK of an instruction alone, as the state a running core comes to. -/
theorem State.spend_eq_ranTo {s : State} {c : Fin 9} {r : Run} (h : s.clu[c].run = some r) (n : Nat) :
    s.spend c n = s.ranTo c r n s.clu[c].pc s.clu[c] :=
  State.spend_eq h n

/-- The TCLK of an instruction and then its effect on its core. -/
theorem State.spend_setClu {s : State} {c : Fin 9} {r : Run} (h : s.clu[c].run = some r) (n : Nat) (f : Cluster → Cluster) :
    (s.spend c n).setClu c f = { s.atEnd r n with
      clu := s.clu.set c.val (f { s.clu[c] with run := some { r with spent := r.spent + n } }) c.isLt } := by
  simp [State.spend_eq h, State.setClu, upd]

/-- An instruction that only goes elsewhere. -/
theorem State.insn_jump_ranTo {s : State} {c : Fin 9} {r : Run} (h : s.Running c r) {n p : Nat} {f : State → State × Flow}
    (hf : f (s.spend c n) = (s.spend c n, .jump p)) : s.insn c n false f = s.ranTo c r n p s.clu[c] := by
  rw [State.insn_jump h hf, State.spend_setClu h.2.1]
  rfl

/-- An instruction that only goes on to the next one. -/
theorem State.insn_next_ran {s : State} {c : Fin 9} {r : Run} (h : s.Running c r) {n : Nat} {f : State → State × Flow}
    (hf : f (s.spend c n) = (s.spend c n, .next)) : s.insn c n false f = s.ran c r n s.clu[c] := by
  rw [State.insn_next h hf, State.spend_setClu h.2.1]
  rfl

/-! ### Jumps (R187) -/

theorem State.jumpTo_running {s : State} {c : Fin 9} {r : Run} (h : s.Running c r) (n p : Nat) :
    s.jumpTo c n p = s.ranTo c r n p s.clu[c] := by
  rw [State.jumpTo, State.insn_regs h, State.insn_jump_ranTo h rfl]

theorem execWJmp_running {s : State} {c : Fin 9} {r : Run} (h : s.Running c r) (j : BitVec 12) :
    execWJmp c j s = .next (s.ranTo c r 2 j.toNat s.clu[c]).settle := by
  rw [execWJmp, State.jumpTo_running h, finish]

theorem execWJal_running {s : State} {c : Fin 9} {r : Run} (h : s.Running c r) (d : Fin 16) (j : BitVec 12) :
    execWJal c d j s = .next (s.ranTo c r 2 j.toNat (s.clu[c].setG d (wordN (s.clu[c].pc + 1)))).settle := by
  rw [execWJal, State.insn_jump h rfl, State.spend_setClu h.2.1, finish]
  simp [State.setClu, upd, State.ranTo, Cluster.setG]

/-- The bits of JR's register that must be clear: a word has one set exactly when it lies outside the instruction SRAM. -/
theorem fld_31_12_ne_zero_iff (x : Word) : fld x 31 12 ≠ 0 ↔ 4096 ≤ x.toNat := by
  have := x.isLt
  unfold fld
  omega

theorem fld_11_0_of_lt {x : Word} (h : x.toNat < 4096) : fld x 11 0 = x.toNat := by
  unfold fld
  omega

theorem execWJr_of_lt {s : State} {c : Fin 9} {r : Run} (h : s.Running c r) {x : Fin 16} (hx : (s.clu[c].gr x).toNat < 4096) :
    execWJr c x s = .next (s.ranTo c r 2 (s.clu[c].gr x).toNat s.clu[c]).settle := by
  have hok : ¬ fld (s.clu[c].gr x) 31 12 ≠ 0 := mt (fld_31_12_ne_zero_iff _).mp (Nat.not_le.mpr hx)
  simp only [execWJr, decide_eq_false hok, fld_11_0_of_lt hx]
  rw [State.insn_jump_ranTo h rfl, finish]

theorem execWJr_of_ge {s : State} {c : Fin 9} {r : Run} (h : s.Running c r) {x : Fin 16} (hx : 4096 ≤ (s.clu[c].gr x).toNat) :
    execWJr c x s = .next ((s.ranTo c r 2 s.clu[c].pc s.clu[c]).coreExc c 1 s.clu[c].pc none).settle := by
  simp only [execWJr, decide_eq_true ((fld_31_12_ne_zero_iff _).mpr hx)]
  rw [State.insn_illegal h, State.spend_eq_ranTo h.2.1, finish]

/-! ### Branches (R186) -/

/-- The target of a branch of a cluster's core. -/
def Cluster.branchTarget (k : Cluster) (o : BitVec 16) : Int := (k.pc : Int) + 1 + o.toInt

section
variable {s : State} {c : Fin 9} {r : Run} {q : Fin 16} {o : BitVec 16}

theorem State.bcond_running (h : s.Running c r) : s.bcond c q o =
    s.insn c (if s.clu[c].cond q then 2 else 1)
      (decide (s.clu[c].branchTarget o < 0) || decide (4095 < s.clu[c].branchTarget o))
      fun t => (t, if s.clu[c].cond q then .jump (s.clu[c].branchTarget o).toNat else .next) := by
  rw [State.bcond, State.insn_regs h]
  rfl

theorem State.bcond_taken (h : s.Running c r) (h0 : 0 ≤ s.clu[c].branchTarget o) (h1 : s.clu[c].branchTarget o ≤ 4095)
    (hq : s.clu[c].cond q = true) : s.bcond c q o = s.ranTo c r 2 (s.clu[c].branchTarget o).toNat s.clu[c] := by
  rw [State.bcond_running h, hq, decide_eq_false h0.not_gt, decide_eq_false h1.not_gt]
  exact State.insn_jump_ranTo h rfl

theorem State.bcond_untaken (h : s.Running c r) (h0 : 0 ≤ s.clu[c].branchTarget o) (h1 : s.clu[c].branchTarget o ≤ 4095)
    (hq : s.clu[c].cond q = false) : s.bcond c q o = s.ran c r 1 s.clu[c] := by
  rw [State.bcond_running h, hq, decide_eq_false h0.not_gt, decide_eq_false h1.not_gt]
  exact State.insn_next_ran h rfl

/-- A target outside the instruction SRAM raises ILLEGAL whether or not the branch would be taken. -/
theorem State.bcond_outside (h : s.Running c r) (ho : s.clu[c].branchTarget o < 0 ∨ 4095 < s.clu[c].branchTarget o) :
    s.bcond c q o
      = (s.ranTo c r (if s.clu[c].cond q then 2 else 1) s.clu[c].pc s.clu[c]).coreExc c 1 s.clu[c].pc none := by
  rw [State.bcond_running h, ← Bool.decide_or, decide_eq_true ho, State.insn_illegal h, State.spend_eq_ranTo h.2.1]

end

/-! ### Results with Z, N and V (R185, R191) -/

theorem bit_31_eq_msb (w : Word) : bit w 31 = w.msb := (BitVec.msb_eq_getLsbD_last w).symm

theorem Cluster.put_vf (k : Cluster) (d : Fin 16) (w : Word) (v : Bool) :
    (k.put d w).vf v = { k with g := k.g.set d.val w d.isLt, z := decide (w = 0), n := w.msb, v := v } := by
  rw [← bit_31_eq_msb]
  rfl

/-- An instruction on two general registers that puts a result and V. -/
theorem State.two_put_vf {s : State} {c : Fin 9} {r : Run} (h : s.Running c r) (n : Nat) (d x y : Fin 16)
    (f : Word → Word → Word) (v : Word → Word → Bool) :
    s.two c n x y (fun k a b => (k.put d (f a b)).vf (v a b))
      = s.ran c r n ((s.clu[c].put d (f (s.clu[c].gr x) (s.clu[c].gr y))).vf (v (s.clu[c].gr x) (s.clu[c].gr y))) := by
  rw [State.two, State.plain_running h]
  rfl

theorem execWDivu_running {s : State} {c : Fin 9} {r : Run} (h : s.Running c r) (d x y : Fin 16) :
    execWDivu c d x y s = .next (s.ran c r 18
      ((s.clu[c].put d (divuW (s.clu[c].gr x) (s.clu[c].gr y))).vf (divuV (s.clu[c].gr y)))).settle := by
  rw [execWDivu, State.two_put_vf h 18 d x y divuW fun _ b => divuV b, finish]

theorem execWDivs_running {s : State} {c : Fin 9} {r : Run} (h : s.Running c r) (d x y : Fin 16) :
    execWDivs c d x y s = .next (s.ran c r 18
      ((s.clu[c].put d (divsW (s.clu[c].gr x) (s.clu[c].gr y))).vf (divsV (s.clu[c].gr x) (s.clu[c].gr y)))).settle := by
  rw [execWDivs, State.two_put_vf h 18 d x y divsW divsV, finish]

/-! ### The quotients and their V (R191) -/

theorem divuW_zero (a : Word) : divuW a 0 = 0xFFFFFFFF := rfl

theorem divuW_of_ne_zero (a : Word) {b : Word} (hb : b ≠ 0) : divuW a b = BitVec.ofNat 32 (a.toNat / b.toNat) := by
  rw [divuW, if_neg hb]
  exact BitVec.eq_of_toNat_eq (by simp [Nat.mod_eq_of_lt (Nat.lt_of_le_of_lt (Nat.div_le_self _ _) a.isLt)])

theorem divsW_zero_of_nonneg {a : Word} (ha : 0 ≤ a.toInt) : divsW a 0 = 0x7FFFFFFF := by
  rw [divsW, if_pos rfl, if_neg (by omega)]

theorem divsW_zero_of_neg {a : Word} (ha : a.toInt < 0) : divsW a 0 = 0x80000000 := by
  rw [divsW, if_pos rfl, if_pos ha]

theorem divsW_of_ne_zero (a : Word) {b : Word} (hb : b ≠ 0) : divsW a b = BitVec.ofInt 32 (a.toInt.tdiv b.toInt) := by
  rw [divsW, if_neg hb]

/-- The one signed quotient that does not fit: −2^31 by −1. -/
theorem divsW_min_neg_one : divsW 0x80000000 0xFFFFFFFF = 0x80000000 := by decide

theorem divsV_zero (a : Word) : divsV a 0 = true := rfl

theorem divsV_of_ordinary {a b : Word} (hb : b ≠ 0) (hab : ¬(a = 0x80000000 ∧ b = 0xFFFFFFFF)) : divsV a b = false := by
  rw [divsV, ← Bool.decide_and, decide_eq_false hb, decide_eq_false hab, Bool.or_false]

end Sys2Proof.Machine
end

section
/-! PROOFS. Division (R191): the statement O8. -/

open Sys2Proof Sys2Proof.Machine

namespace Sys2Proof.Proofs

/-- Settles O8: both instructions put their quotient with its V; the cases of R191 are those of the quotient and of V. -/
theorem division : Obligations.Division := by
  intro s c r d x y h k a b put done
  have divu : exec (.wDivu c d x y) s = done (put (divuW a b) (divuV b)) :=
    (execWDivu_running h d x y).trans (by rw [Cluster.put_vf]; rfl)
  have divs : exec (.wDivs c d x y) s = done (put (divsW a b) (divsV a b)) :=
    (execWDivs_running h d x y).trans (by rw [Cluster.put_vf]; rfl)
  refine ⟨fun hb => ?_, fun hb => ?_, fun hb ha => ?_, fun hb ha => ?_, fun ha hb => ?_, fun hb hab => ?_⟩
  · rw [divu, hb, divuW_zero]; rfl
  · rw [divu, divuW_of_ne_zero a hb, divuV, decide_eq_false hb]
  · rw [divs, hb, divsW_zero_of_nonneg ha, divsV_zero]
  · rw [divs, hb, divsW_zero_of_neg ha, divsV_zero]
  · rw [divs, ha, hb, divsW_min_neg_one]; rfl
  · rw [divs, divsW_of_ne_zero a hb, divsV_of_ordinary hb hab]

end Sys2Proof.Proofs
end

section
/-! PROOFS. Branches and jumps (R186, R187): the statement O11. -/

open Sys2Proof Sys2Proof.Machine

namespace Sys2Proof.Proofs

/-- Settles O11: the branch by its condition and its target, each jump by the flow it leaves. -/
theorem branchesAndJumps : Obligations.BranchesAndJumps := by
  intro s c r d x q o j h k taken tgt
  have htaken : k.cond q = taken := by fin_cases q <;> rfl
  refine ⟨fun h0 h1 ht => ?_, fun h0 h1 ht => ?_, fun ho => ?_, execWJmp_running h j, execWJal_running h d j,
    execWJr_of_lt h, execWJr_of_ge h⟩
  · exact congrArg finish (State.bcond_taken h h0 h1 (htaken.trans ht))
  · exact congrArg finish (State.bcond_untaken h h0 h1 (htaken.trans ht))
  · rw [← htaken]
    exact congrArg finish (State.bcond_outside h ho)

end Sys2Proof.Proofs
end

section
/-! SUPPORT. What every command and every step leave: balls that follow from the rest of the state, bit by bit (R214, R422). -/

namespace Sys2Proof.Machine

/-! ### Every command ends by bringing the balls up to date -/

theorem exec_finishes (i : Instr) (s : State) : ∃ u, exec i s = finish u := by
  cases i <;> exact ⟨_, rfl⟩

theorem exec_completes (i : Instr) (s : State) : ∃ u : State, exec i s = .next u.settle := exec_finishes i s

theorem State.runCore_completes (s : State) (c : Fin 9) (w : Word) : ∃ u : State, s.runCore c w = .next u.settle := by
  unfold State.runCore
  split
  · exact exec_completes _ _
  · exact exec_completes (.wReservedOpcode c w) _

theorem State.runJig_completes (s : State) (e : Fin 8) (w : Word) : ∃ u : State, s.runJig e w = .next u.settle := by
  unfold State.runJig
  split
  · exact exec_completes _ _
  · exact exec_completes (.jigReservedOpcode e w) _

theorem State.idle_settles (s : State) : ∃ u : State, s.idle = u.settle := ⟨_, rfl⟩

/-- What the block does by itself ends like a command. -/
theorem State.runOn_completes (s : State) : ∃ u : State, s.runOn = .next u.settle := by
  have idle : ∃ u : State, Host.Outcome.next (φ := Fault) (ρ := Refusal) s.idle = .next u.settle :=
    s.idle_settles.imp fun _ h => congrArg _ h
  unfold State.runOn
  split
  · split
    · exact s.runCore_completes _ _
    · exact idle
  · split
    · exact s.runJig_completes _ _
    · exact idle
  · exact idle

theorem step_completes (s : State) : ∃ u : State, step s = .next u.settle := by
  unfold step
  split
  · exact s.runOn_completes
  · exact exec_completes _ _

/-! ### The bits of the balls -/

/-- Distinct bits add up to the number that has just these bits. -/
theorem testBit_foldl_bitAt (f : Nat → Bool) (n i : Nat) :
    ((List.range n).foldl (fun a k => a + bitAt (f k) k) 0).testBit i = (decide (i < n) && f i)
    ∧ (List.range n).foldl (fun a k => a + bitAt (f k) k) 0 < 2 ^ n := by
  induction n with
  | zero => simp
  | succ n ih =>
    obtain ⟨hbit, hlt⟩ := ih
    rw [List.range_succ, List.foldl_append]
    simp only [List.foldl_cons, List.foldl_nil]
    generalize (List.range n).foldl (fun a k => a + bitAt (f k) k) 0 = a at hbit hlt
    have hpow : 2 ^ (n + 1) = 2 ^ n + 2 ^ n := by omega
    cases hf : f n with
    | false =>
      simp only [bitAt, Bool.false_eq_true, if_false, Nat.add_zero]
      refine ⟨?_, by omega⟩
      rw [hbit]
      rcases Nat.lt_trichotomy i n with h | rfl | h
      · simp [h, Nat.lt_succ_of_lt h]
      · simp [hf]
      · simp [Nat.not_lt.mpr h.le, show ¬ i < n + 1 by omega]
    | true =>
      simp only [bitAt, if_true]
      refine ⟨?_, by omega⟩
      rw [Nat.add_comm]
      rcases Nat.lt_trichotomy i n with h | rfl | h
      · rw [Nat.testBit_two_pow_add_gt h, hbit]; simp [h, Nat.lt_succ_of_lt h]
      · rw [Nat.testBit_two_pow_add_eq, hbit]; simp [hf]
      · rw [Nat.testBit_lt_two_pow (Nat.lt_of_lt_of_le (by omega) (Nat.pow_le_pow_right (by decide) h))]
        simp [show ¬ i < n + 1 by omega]

/-- The bits of n balls as bits of every number, clear from n on. -/
def padBits {n : Nat} (f : Fin n → Bool) (k : Nat) : Bool := if h : k < n then f ⟨k, h⟩ else false

@[simp] theorem padBits_coe {n : Nat} (f : Fin n → Bool) (i : Fin n) : padBits f i.val = f i := by simp [padBits]

theorem bitsOf_eq_foldl_range {n : Nat} (f : Fin n → Bool) :
    bitsOf n f = BitVec.ofNat n ((List.range n).foldl (fun a k => a + bitAt (padBits f k) k) 0) := by
  rw [bitsOf, ← List.map_coe_finRange_eq_range, List.foldl_map]
  simp

/-- A ball shows what its function says. -/
theorem bitsOf_getLsbD {n : Nat} (f : Fin n → Bool) (i : Fin n) : (bitsOf n f).getLsbD i.val = f i := by
  rw [bitsOf_eq_foldl_range, BitVec.getLsbD_ofNat, (testBit_foldl_bitAt (padBits f) n i.val).1]
  simp

theorem bitsOf_eq_zero {n : Nat} {f : Fin n → Bool} (h : ∀ i, f i = false) : bitsOf n f = 0 := by
  apply BitVec.eq_of_getLsbD_eq
  intro i hi
  simpa using (bitsOf_getLsbD f ⟨i, hi⟩).trans (h _)

/-! ### A package whose balls are up to date is safe -/

theorem State.lsOn_of_held {s : State} {c : Fin 32} (h : s.chHeld c = true) : s.lsOn c = false := by simp [State.lsOn, h]

theorem State.ignOn_of_held {s : State} {n : Fin 24} (h : s.ignHeld n = true) : s.ignOn n = false := by simp [State.ignOn, h]

theorem State.pinsOf_quiet {s : State} (h : s.drvOff = true) : s.pinsOf.quiet = true := by
  have hls : s.pinsOf.ls = 0 := bitsOf_eq_zero fun c => by simp [State.lsOn, h]
  have hhsb : s.pinsOf.hsb = 0 := bitsOf_eq_zero fun b => by simp [State.hsbOn, h]
  have hhsv : s.pinsOf.hsv = 0 := bitsOf_eq_zero fun b => by simp [State.hsvOn, h]
  have hign : s.pinsOf.ign = 0 := bitsOf_eq_zero fun n => by simp [State.ignOn, h]
  have hbst : s.pinsOf.bst = 0 := bitsOf_eq_zero fun k => by simp [State.bstOn, h]
  simp [Pins.quiet, hls, hhsb, hhsv, hign, hbst]

theorem State.safe_of_settled {s : State} (h : s.settled) : s.Safe := by
  refine ⟨h, fun hoff => ?_, fun c hc => ?_, fun n hn => ?_, ?_, ?_⟩
  · rw [h]; exact State.pinsOf_quiet hoff
  · rw [h]; exact (bitsOf_getLsbD s.lsOn c).trans (State.lsOn_of_held hc)
  · rw [h]; exact (bitsOf_getLsbD s.ignOn n).trans (State.ignOn_of_held hn)
  · rw [h]; rfl
  · rw [h]; rfl

end Sys2Proof.Machine
end

section
/-! PROOFS. Every command completes with its balls up to date, and so every step keeps the package safe: the statements O1, O3 and O4. -/

open Sys2Proof Sys2Proof.Machine

namespace Sys2Proof.Proofs

/-- Settles O3: every meaning ends by bringing the balls up to date. -/
theorem everyCommandCompletesSettled : Obligations.EveryCommandCompletesSettled := by
  intro i s
  obtain ⟨u, hu⟩ := exec_completes i s
  exact ⟨u.settle, hu, u.settle_settled⟩

/-- Settles O4: a step leaves balls that are up to date, and such balls are safe. -/
theorem stepsKeepPackageSafe : Obligations.StepsKeepPackageSafe := by
  intro s t _ hstep
  obtain ⟨u, hu⟩ := step_completes s
  obtain rfl : u.settle = t := Host.Outcome.next.inj (hu.symm.trans hstep)
  exact State.safe_of_settled u.settle_settled

/-- Settles O1: the queue is not empty. -/
theorem stepRunsFrontCommand : Obligations.StepRunsFrontCommand := by
  intro s i rest h
  simp only [step, h]

/-- Settles O5: at reset the balls are up to date, and the driver die is in its safe state. -/
theorem resetIsSafe : Obligations.ResetIsSafe := by
  have hsettled : State.reset.settled := by decide +kernel
  exact ⟨State.safe_of_settled hsettled, hsettled ▸ State.pinsOf_quiet rfl⟩

/-- Settles O6: the values stand in the state after reset. -/
theorem resetValues : Obligations.ResetValues := by
  unfold Obligations.ResetValues
  decide +kernel

end Sys2Proof.Proofs
end

section
/-! SUPPORT. What the block does while no command waits (log entries 1 and 4). -/

namespace Sys2Proof.Machine

/-! ### SCLK edges and an idle tick -/

theorem State.sclkEdges_frame (s : State) (n : Nat) :
    s.sclkEdges n = { s with ao := (s.sclkEdges n).ao, regs := (s.sclkEdges n).regs } := by
  unfold State.sclkEdges
  split
  · rfl
  · rw [State.commitStaged_frame]

/-- With no always-on write staged, SCLK edges change no register. -/
theorem State.sclkEdges_regs {s : State} (h : s.ao.staged = []) (n : Nat) : (s.sclkEdges n).regs = s.regs := by
  unfold State.sclkEdges
  split
  · rfl
  · simp [State.commitStaged, h]

theorem State.advanceTo_regs {s : State} (h : s.ao.staged = []) (n : Nat) : (s.advanceTo n).regs = s.regs := by
  unfold State.advanceTo
  split
  · rfl
  · exact State.sclkEdges_regs h _

theorem State.idle_clocked {s : State} (hc : s.clocked = true) (hq : (s.advanceTo (s.now + 1)).caughtUp = s.advanceTo (s.now + 1)) :
    s.idle = (s.advanceTo (s.now + 1)).settle := by
  simp [State.idle, hc, hq]

theorem State.idle_unclocked {s : State} (hc : s.clocked = false) :
    s.idle = (if s.sys.vbkup then s.sclkEdges 1 else s).settle := by
  simp [State.idle, hc]

/-- An idle tick without TCLK is an SCLK edge at most. -/
theorem State.idle_unclocked_frame {s : State} (hc : s.clocked = false) :
    s.idle = { s with ao := s.idle.ao, regs := s.idle.regs, pins := s.idle.pins } := by
  rw [State.idle_unclocked hc]
  split
  · rw [State.sclkEdges_frame]; rfl
  · rfl

theorem State.idle_unclocked_regs {s : State} (hc : s.clocked = false) (h : s.ao.staged = []) : s.idle.regs = s.regs := by
  rw [State.idle_unclocked hc]
  split
  · exact State.sclkEdges_regs h 1
  · rfl

/-! ### The core and the engine that are due -/

/-- The core or nothing that a search for the first start holds after one candidate more. -/
def firstOf (m : Option (Nat × Fin 9)) (e : Nat × Fin 9) : Option (Nat × Fin 9) :=
  match m with
  | some x => if e.1 < x.1 then some e else some x
  | none => some e

theorem firstOf_mem {m : Option (Nat × Fin 9)} {e x : Nat × Fin 9} (h : firstOf m e = some x) : m = some x ∨ e = x := by
  unfold firstOf at h
  split at h
  · split at h
    · exact .inr (Option.some.inj h)
    · exact .inl h
  · exact .inr (Option.some.inj h)

/-- The first candidate is one of the candidates. -/
theorem foldl_firstOf_mem {l : List (Nat × Fin 9)} {m : Option (Nat × Fin 9)} {x : Nat × Fin 9}
    (h : l.foldl firstOf m = some x) : m = some x ∨ x ∈ l := by
  induction l generalizing m with
  | nil => exact .inl h
  | cons e l ih =>
    rcases ih h with hm | hl
    · rcases firstOf_mem hm with hm | rfl
      · exact .inl hm
      · exact .inr (List.mem_cons_self ..)
    · exact .inr (List.mem_cons_of_mem _ hl)

theorem State.coreBegins_eq_some {s : State} {c : Fin 9} {b : Nat} :
    s.coreBegins c = some b ↔ s.coreOn c = true ∧ ∃ r, s.clu[c].run = some r ∧ r.start + r.spent = b := by
  unfold State.coreBegins
  split
  · simp [*]
  · simp [*]

/-- The core that is due runs a handler whose next instruction has begun. -/
theorem State.coreDue_begun {s : State} {c : Fin 9} (h : s.coreDue = some c) : ∃ b, s.coreBegins c = some b ∧ b ≤ s.now := by
  unfold State.coreDue at h
  obtain ⟨⟨b, c'⟩, hx, rfl⟩ := Option.map_eq_some_iff.mp h
  rcases foldl_firstOf_mem hx with hm | hm
  · cases hm
  obtain ⟨k, -, hk⟩ := List.mem_filterMap.mp hm
  split at hk
  · next b' hb =>
    split at hk
    · next hle =>
      cases hk
      exact ⟨b, hb, hle⟩
    · cases hk
  · cases hk

theorem State.jigDue_ready {s : State} {e : Fin 8} (h : s.jigDue = some e) : s.jig[e].ready = true := by
  have := List.find?_some h
  simp only [Bool.and_eq_true] at this
  exact this.1

/-! ### A step on an empty queue -/

theorem step_of_core {s : State} {c : Fin 9} {w : Word} (hp : s.pending = []) (hd : s.coreDue = some c) (hw : s.coreWord c = some w) :
    step s = s.runCore c w := by
  simp [step, hp, State.runOn, hd, hw]

theorem step_of_jig {s : State} {e : Fin 8} {w : Word} (hp : s.pending = []) (hc : s.coreDue = none) (hd : s.jigDue = some e)
    (hw : s.jigWord e = some w) : step s = s.runJig e w := by
  simp [step, hp, State.runOn, hc, hd, hw]

theorem step_of_idle {s : State} (hp : s.pending = []) (hc : s.coreDue = none) (hd : s.jigDue = none) : step s = .next s.idle := by
  simp [step, hp, State.runOn, hc, hd]

theorem State.runCore_some {s : State} {c : Fin 9} {w : Word} {i : Instr} (h : walendCommand c w s.meets = some i) :
    s.runCore c w = exec i s.useFree := by
  simp [State.runCore, h]

theorem State.runCore_none {s : State} {c : Fin 9} {w : Word} (h : walendCommand c w s.meets = none) :
    s.runCore c w = exec (.wReservedOpcode c w) s.useFree := by
  simp [State.runCore, h, exec]

theorem State.runJig_some {s : State} {e : Fin 8} {w : Word} {i : Instr} (h : jigCommand e w s.meets = some i) :
    s.runJig e w = exec i s.useFree := by
  simp [State.runJig, h]

theorem State.runJig_none {s : State} {e : Fin 8} {w : Word} (h : jigCommand e w s.meets = none) :
    s.runJig e w = exec (.jigReservedOpcode e w) s.useFree := by
  simp [State.runJig, h, exec]

end Sys2Proof.Machine
end

section
/-! PROOFS. The step on an empty queue: the statement O2. -/

open Sys2Proof Sys2Proof.Machine

namespace Sys2Proof.Proofs

/-- Settles O2: what is due runs by its word, and an idle tick is the clock's. -/
theorem emptyQueueIdles : Obligations.EmptyQueueIdles := by
  refine ⟨fun s _ => ?_, fun s c w hp hd hw => ?_, fun s e w hp hc hd hw => ?_, fun s hp hc hd => ?_⟩
  · obtain ⟨u, hu⟩ := step_completes s
    exact ⟨u.settle, hu, u.settle_settled⟩
  · obtain ⟨b, hb, hle⟩ := State.coreDue_begun hd
    obtain ⟨hon, r, hr, rfl⟩ := State.coreBegins_eq_some.mp hb
    rw [step_of_core hp hd hw]
    exact ⟨⟨r, hon, hr, hle⟩, fun i hi => State.runCore_some hi, State.runCore_none⟩
  · rw [step_of_jig hp hc hd hw]
    exact ⟨State.jigDue_ready hd, fun i hi => State.runJig_some hi, State.runJig_none⟩
  · refine ⟨s.idle, step_of_idle hp hc hd, fun hclk => ?_, fun hq => ?_⟩
    · rw [State.idle_unclocked_frame hclk]
    · cases hclk : s.clocked with
      | true =>
        rw [State.idle_clocked hclk (hq hclk)]
        refine ⟨fun _ => ?_, ?_, fun hs => ?_⟩
        · simp
        · rw [State.advanceTo_frame]; rfl
        · simpa using State.advanceTo_regs hs _
      | false =>
        refine ⟨nofun, ?_, State.idle_unclocked_regs hclk⟩
        have h := State.idle_unclocked_frame hclk
        have hnow : s.idle.now = s.now := by rw [h]
        rw [hnow]
        exact h

end Sys2Proof.Proofs
end

section
/-! SUPPORT. The instructions of a running core that only change its registers and flags, each as the core it leaves (R157, R185 to R192). -/

namespace Sys2Proof.Machine

/-! ### What an instruction of a running core leaves -/

/-- An instruction that goes on and only changes its core leaves the core that its effect gives. -/
theorem State.insn_setClu_ran {s : State} {c : Fin 9} {r : Run} (h : s.Running c r) {n : Nat} {f : State → State × Flow}
    {g : Cluster → Cluster} {k : Cluster} (hf : f (s.spend c n) = ((s.spend c n).setClu c g, .next))
    (hg : ∀ q, g { s.clu[c] with run := q } = { k with pc := s.clu[c].pc, run := q }) : s.insn c n false f = s.ran c r n k := by
  rw [State.insn_next h hf, State.spend_setClu h.2.1, hg]
  simp only [State.setClu, upd, Fin.getElem_fin, Vector.getElem_set_self, Vector.set_set]
  rfl

/-- An instruction that only changes its core leaves the core that its effect gives. -/
theorem State.plain_ran {s : State} {c : Fin 9} {r : Run} (h : s.Running c r) {n : Nat} {f : Cluster → Cluster} {k : Cluster}
    (hf : ∀ q, f { s.clu[c] with run := q } = { k with pc := s.clu[c].pc, run := q }) : s.plain c n false f = s.ran c r n k :=
  State.insn_setClu_ran h rfl hf

theorem State.insn_illegal_ranTo {s : State} {c : Fin 9} {r : Run} (h : s.Running c r) (n : Nat) (f : State → State × Flow) :
    s.insn c n true f = (s.ranTo c r n s.clu[c].pc s.clu[c]).coreExc c 1 s.clu[c].pc none := by
  rw [State.insn_illegal h, State.spend_eq_ranTo h.2.1]

theorem State.two_ran {s : State} {c : Fin 9} {r : Run} (h : s.Running c r) {n : Nat} {x y : Fin 16}
    {f : Cluster → Word → Word → Cluster} {k : Cluster}
    (hf : ∀ q, f { s.clu[c] with run := q } (s.clu[c].gr x) (s.clu[c].gr y) = { k with pc := s.clu[c].pc, run := q }) :
    finish (s.two c n x y f) = .next (s.ran c r n k).settle :=
  congrArg finish (State.plain_ran h hf)

theorem State.imm_ran {s : State} {c : Fin 9} {r : Run} (h : s.Running c r) {x : Fin 16} {y : Word}
    {f : Cluster → Word → Word → Cluster} {k : Cluster}
    (hf : ∀ q, f { s.clu[c] with run := q } (s.clu[c].gr x) y = { k with pc := s.clu[c].pc, run := q }) :
    finish (s.imm c x y f) = .next (s.ran c r 1 k).settle :=
  congrArg finish (State.plain_ran h hf)

/-! ### Results and flags (R185, R190) -/

theorem Cluster.put_eq (k : Cluster) (d : Fin 16) (w : Word) :
    k.put d w = { k with g := k.g.set d.val w d.isLt, z := decide (w = 0), n := w.msb } := by
  rw [← bit_31_eq_msb]
  rfl

theorem addOver_eq (x y : Word) : addOver x y = decide ((x + y).toInt ≠ x.toInt + y.toInt) := decide_eq_decide.mpr ne_comm

theorem subOver_eq (x y : Word) : subOver x y = decide ((x - y).toInt ≠ x.toInt - y.toInt) := decide_eq_decide.mpr ne_comm

theorem mulOver_eq (x y : Word) : mulOver x y = decide ((x * y).toInt ≠ x.toInt * y.toInt) := decide_eq_decide.mpr ne_comm

theorem Cluster.addTo_eq (k : Cluster) (d : Fin 16) (x y : Word) : k.addTo d x y = { k with
    g := k.g.set d.val (x + y) d.isLt, z := decide (x + y = 0), n := (x + y).msb, c := decide (2 ^ 32 ≤ x.toNat + y.toNat),
    v := decide ((x + y).toInt ≠ x.toInt + y.toInt) } := by
  rw [Cluster.addTo, Cluster.put_eq, addOver_eq]
  rfl

/-- The word of a difference is 0 exactly where the operands agree. -/
theorem Cluster.cmpFlags_eq (k : Cluster) (x y : Word) : k.cmpFlags x y = { k with
    z := decide (x = y), n := (x - y).msb, c := decide (y.toNat ≤ x.toNat), v := decide ((x - y).toInt ≠ x.toInt - y.toInt) } := by
  rw [Cluster.cmpFlags, subOver_eq, ← bit_31_eq_msb, ← decide_eq_decide.mpr (sub_eq_zero (a := x) (b := y))]
  rfl

theorem Cluster.logic_eq (k : Cluster) (d : Fin 16) (w : Word) :
    k.logic d w = { k with g := k.g.set d.val w d.isLt, z := decide (w = 0), n := w.msb, v := false } := by
  rw [Cluster.logic, Cluster.put_eq]
  rfl

/-- A shift: its result, and the last bit shifted out. -/
theorem Cluster.logic_cf_eq (k : Cluster) (d : Fin 16) (w : Word) (out : Bool) : (k.logic d w).cf out =
    { k with g := k.g.set d.val w d.isLt, z := decide (w = 0), n := w.msb, c := out, v := false } := by
  rw [Cluster.logic_eq]
  rfl

/-- A shift by an immediate below 32. -/
theorem State.shift_imm_ran {s : State} {c : Fin 9} {r : Run} (h : s.Running c r) {i : BitVec 16} (hi : i.toNat < 32)
    {f : Cluster → Nat → Cluster} {k : Cluster}
    (hf : ∀ q, f { s.clu[c] with run := q } i.toNat = { k with pc := s.clu[c].pc, run := q }) :
    finish (s.plain c 1 (decide (32 ≤ i.toNat)) fun k => f k (i.toNat % 32)) = .next (s.ran c r 1 k).settle := by
  rw [decide_eq_false (Nat.not_le.mpr hi), Nat.mod_eq_of_lt hi]
  exact congrArg finish (State.plain_ran h hf)

/-! ### Moves (R187, R188) -/

theorem setFld_high (w : Word) (i : BitVec 16) : setFld w 31 16 i.toNat = i ++ w.extractLsb' 0 16 := by
  apply BitVec.eq_of_getLsbD_eq
  intro j hj
  have hi : i.toNat % 65536 = i.toNat := Nat.mod_eq_of_lt i.isLt
  have hmask : (0xFFFFFFFF ^^^ (2 ^ 16 - 1) * 2 ^ 16 : Nat) = 2 ^ 16 - 1 := by decide
  simp only [setFld, Nat.reduceAdd, Nat.reduceSub, hmask]
  rw [BitVec.getLsbD_ofNat, BitVec.getLsbD_append, Nat.testBit_or, Nat.testBit_and, Nat.testBit_two_pow_sub_one, Nat.testBit_mul_two_pow,
    BitVec.getLsbD_extractLsb', Nat.mod_eq_of_lt i.isLt]
  by_cases h16 : j < 16
  · simp [h16, hj, show ¬ 16 ≤ j by omega, BitVec.getLsbD]
  · simp [h16, hj, show 16 ≤ j by omega, BitVec.getLsbD]

/-! ### Angles (R157, R192) -/

theorem State.cycle_eq (s : State) : s.cycle = 0x5A0000 ∨ s.cycle = 0xB40000 := by
  unfold State.cycle
  split
  · exact .inl rfl
  · exact .inr rfl

/-- ANG_NOW does not depend on the cores. -/
theorem State.spend_angNow {s : State} {c : Fin 9} {r : Run} (h : s.clu[c].run = some r) (n : Nat) :
    (s.spend c n).angNow = (s.atEnd r n).angNow := by
  rw [State.spend_eq h]
  rfl

/-- The difference of DIFA: the two angles' remainders, brought to within half a cycle (R157). -/
def halfDiff (m x y : Nat) : Int :=
  let t := (((x % m : Nat) : Int) - (y % m : Nat)) % m
  if (m : Int) ≤ 2 * t then t - m else t

theorem halfDiff_range {m : Nat} (hm : 0 < m) (x y : Nat) : -(m : Int) ≤ 2 * halfDiff m x y ∧ 2 * halfDiff m x y < m := by
  have h0 := Int.emod_nonneg (((x % m : Nat) : Int) - (y % m : Nat)) (b := m) (by omega)
  have h1 := Int.emod_lt_of_pos (((x % m : Nat) : Int) - (y % m : Nat)) (b := m) (by omega)
  unfold halfDiff
  dsimp only
  split <;> omega

/-- It differs from the difference of the angles by whole cycles. -/
theorem halfDiff_congr (m x y : Nat) : ∃ e : Int, halfDiff m x y = x - y + e * m := by
  have hx : ((x % m : Nat) : Int) = x + -(x / m) * m := by rw [Int.natCast_mod, Int.emod_def]; ring
  have hy : ((y % m : Nat) : Int) = y + -(y / m) * m := by rw [Int.natCast_mod, Int.emod_def]; ring
  have ht := Int.emod_def (((x % m : Nat) : Int) - (y % m : Nat)) m
  unfold halfDiff
  dsimp only
  rw [ht]
  generalize (((x % m : Nat) : Int) - (y % m : Nat)) / (m : Int) = q
  split
  · exact ⟨-(x / m) + y / m - q - 1, by rw [hx, hy]; ring⟩
  · exact ⟨-(x / m) + y / m - q, by rw [hx, hy]; ring⟩

theorem State.angDif_eq (s : State) (k : Cluster) (d x y : Fin 16) :
    s.angDif k d x y = (k.put d (BitVec.ofInt 32 (halfDiff s.cycle (k.ar x) (k.ar y)))).wf
      (decide (s.cycle ≤ k.ar x) || decide (s.cycle ≤ k.ar y) || decide (halfDiff s.cycle (k.ar x) (k.ar y)
        ≠ ((k.ar x % s.cycle : Nat) : Int) - (k.ar y % s.cycle : Nat))) := rfl

theorem aBad_of_lt {i : Fin 16} (h : i.val < 8) : aBad i = false := decide_eq_false (Nat.not_le.mpr h)

theorem aBad_of_ge {i : Fin 16} (h : 8 ≤ i.val) : aBad i = true := decide_eq_true h

end Sys2Proof.Machine
end

section
/-! PROOFS. Arithmetic, logic, shifts and moves (R185, R187, R188, R190): the statements O7 and O9. -/

open Sys2Proof Sys2Proof.Machine

namespace Sys2Proof.Proofs

/-- Settles O7: each instruction puts the core that its operation gives. -/
theorem arithmeticLogicAndShifts : Obligations.ArithmeticLogicAndShifts := by
  refine ⟨fun s c r d x y i h => ?_, fun s c r d x y i h => ?_⟩
  · refine ⟨State.two_ran h fun _ => Cluster.addTo_eq .., State.imm_ran h fun _ => Cluster.addTo_eq ..,
      State.two_ran h fun _ => ?_, State.two_ran h fun _ => Cluster.cmpFlags_eq .., State.imm_ran h fun _ => Cluster.cmpFlags_eq ..,
      State.two_ran h fun _ => Cluster.logic_eq .., State.two_ran h fun _ => Cluster.logic_eq ..,
      State.two_ran h fun _ => Cluster.logic_eq .., State.imm_ran h fun _ => Cluster.logic_eq ..,
      State.imm_ran h fun _ => Cluster.logic_eq .., State.imm_ran h fun _ => Cluster.logic_eq ..,
      State.two_ran h fun _ => Cluster.put_eq .., State.two_ran h fun _ => Cluster.put_eq ..,
      State.imm_ran h fun _ => Cluster.put_eq .., State.imm_ran h fun _ => Cluster.put_eq ..,
      State.two_ran h fun _ => ?_, State.two_ran h fun _ => Cluster.logic_eq ..⟩
    · rw [Cluster.subTo, Cluster.cmpFlags_eq]; rfl
    · rw [Cluster.put_vf, mulOver_eq]; rfl
  · exact ⟨State.two_ran h fun _ => Cluster.logic_cf_eq .., State.two_ran h fun _ => Cluster.logic_cf_eq ..,
      State.two_ran h fun _ => Cluster.logic_cf_eq .., fun hi =>
      ⟨State.shift_imm_ran h hi fun _ => Cluster.logic_cf_eq .., State.shift_imm_ran h hi fun _ => Cluster.logic_cf_eq ..,
        State.shift_imm_ran h hi fun _ => Cluster.logic_cf_eq ..⟩⟩

/-- Settles O9: NOP goes on, and the others only set a general register. -/
theorem movesAndFlagRead : Obligations.MovesAndFlagRead := by
  intro s c r d x i h k old put
  have go {f : Cluster → Cluster} {w : Word} (hf : ∀ q, f { k with run := q } = { put w with run := q }) :
      finish (s.plain c 1 false f) = .next (s.ran c r 1 (put w)).settle := congrArg finish (State.plain_ran h hf)
  refine ⟨?_, go fun _ => rfl, go fun _ => ?_, go fun _ => rfl, go fun _ => rfl⟩
  · exact congrArg finish ((State.insn_regs h 1 false _ false).trans (State.insn_next_ran h rfl))
  · rw [setFld_high]; rfl

/-- Settles O14: each instruction puts its angle with W; the difference of DIFA is the representative within half a cycle. -/
theorem angleArithmetic : Obligations.AngleArithmetic := by
  intro s c r d x y i h k m ang putA moved gy gx
  have go {f : Cluster → Cluster} {k' : Cluster} (hf : ∀ q, f { k with run := q } = { k' with pc := k.pc, run := q }) :
      finish (s.plain c 2 false f) = .next (s.ran c r 2 k').settle := congrArg finish (State.plain_ran h hf)
  have add {d x : Fin 16} (hd : d.val < 8) (hx : x.val < 8) {y : Int} {f : Cluster → Int} (hf : ∀ q, f { k with run := q } = y) :
      finish (s.plain c 2 (aBad d || aBad x) fun k => s.angAdd k d x (f k)) = .next (s.ran c r 2 (moved d x y)).settle := by
    rw [aBad_of_lt hd, aBad_of_lt hx]
    refine go fun q => ?_
    simp only [hf, moved, Bool.decide_or, ← Bool.or_assoc]
    rfl
  refine ⟨fun hd => ?_, fun hd hx => ?_, fun hd hx => ?_, fun hd hx => ?_, fun hd => ?_, fun hx => ?_,
    fun hx hy => ⟨halfDiff m (ang x) (ang y), ?_, ?_, ?_, ?_⟩⟩
  · rw [exec, execWMova, aBad_of_lt hd]
    exact go fun _ => rfl
  · exact add hd hx (f := fun k => (k.gr y).toInt) fun _ => rfl
  · exact add hd hx (f := fun k => -(k.gr y).toInt) fun _ => rfl
  · exact add hd hx (f := fun _ => i.toInt) fun _ => rfl
  · rw [exec, execWGeta, aBad_of_lt hd, ← State.spend_angNow h.2.1]
    exact congrArg finish (State.insn_setClu_ran h rfl fun _ => rfl)
  · rw [exec, execWMovg, aBad_of_lt hx]
    exact go fun _ => rfl
  · exact (halfDiff_range (by rcases s.cycle_eq with e | e <;> omega) _ _).1
  · exact (halfDiff_range (by rcases s.cycle_eq with e | e <;> omega) _ _).2
  · exact halfDiff_congr m _ _
  · rw [exec, execWDifa, aBad_of_lt hx, aBad_of_lt hy]
    refine go fun q => ?_
    rw [State.angDif_eq, Cluster.put_eq]
    simp only [Bool.decide_or, ← Bool.or_assoc]
    rfl

end Sys2Proof.Proofs
end

section
/-! PROOFS. Illegal encodings (R180, R182): the statement O16. -/

open Sys2Proof Sys2Proof.Machine

namespace Sys2Proof.Proofs

/-- Settles O16: each encoding sets the flag with which an instruction raises ILLEGAL. -/
theorem illegalEncodings : Obligations.IllegalEncodings := by
  intro s c r d x y i n p q b j h k ill
  have raise {n : Nat} {bad : Bool} {f : State → State × Flow} (hb : bad = true) : finish (s.insn c n bad f) = ill n := by
    rw [hb, State.insn_illegal_ranTo h]
    rfl
  have raisePlain {n : Nat} {bad : Bool} {f : Cluster → Cluster} (hb : bad = true) : finish (s.plain c n bad f) = ill n := raise hb
  have bad_or {d x : Fin 16} (hdx : 8 ≤ d.val ∨ 8 ≤ x.val) : (aBad d || aBad x) = true := by simpa [aBad] using hdx
  refine ⟨fun hi => ?_, fun hd => ?_, fun hdx => ?_, fun hxy => raisePlain (bad_or hxy), fun hx => ?_, fun hx => ?_, ?_, fun hd => ?_,
    fun hx => ?_, raise rfl, fun hy => ?_, raise rfl, raise rfl, fun hy => ?_, fun hx => ?_⟩
  · exact ⟨raisePlain (decide_eq_true hi), raisePlain (decide_eq_true hi), raisePlain (decide_eq_true hi)⟩
  · exact ⟨raisePlain (aBad_of_ge hd), raise (aBad_of_ge hd)⟩
  · exact ⟨raisePlain (bad_or hdx), raisePlain (bad_or hdx), raisePlain (bad_or hdx)⟩
  · exact ⟨raisePlain (aBad_of_ge hx), raise (aBad_of_ge hx)⟩
  · exact ⟨raise (by simpa using hx), raise (by simpa using hx)⟩
  · exact ⟨raise rfl, raise rfl⟩
  · exact raise (by simpa [Nat.lt_iff_add_one_le] using hd)
  · exact raise (by simpa [Nat.lt_iff_add_one_le] using hx)
  · exact raise (by simpa using aBad_of_ge hy)
  · exact raise (by simpa using hy)
  · exact raise (by simpa using aBad_of_ge hx)

end Sys2Proof.Proofs
end

section
/-! SUPPORT. Time, memory words, checked words and cues: what later proofs need of the shared operations (R10, R31, R32, R162, R163). -/

namespace Sys2Proof.Machine

/-! ### Time passes alike in states that agree on the clock, the always-on domain and the registers -/

/-- Two states agree on what the passing of time reads and changes. -/
def State.SameTime (s t : State) : Prop := t.now = s.now ∧ t.ao = s.ao ∧ t.regs = s.regs

theorem State.SameTime.commitOne {s t : State} (h : s.SameTime t) (a : Nat) (v : Word) : (s.commitOne a v).SameTime (t.commitOne a v) := by
  obtain ⟨hn, ha, hr⟩ := h
  unfold State.commitOne
  split
  · exact ⟨hn, by simp [ha], hr⟩
  · split
    · exact ⟨hn, ha, by simp [State.setRg, ha, hr]⟩
    · split
      · exact ⟨hn, ha, hr⟩
      · split
        · exact ⟨hn, ha, by simp [State.setRg, hr]⟩
        · exact ⟨hn, ha, hr⟩

theorem State.SameTime.foldl_commitOne {s t : State} (h : s.SameTime t) (l : List (Nat × Word)) :
    (l.foldl (fun (t : State) (x : Nat × Word) => t.commitOne x.1 x.2) s).SameTime
      (l.foldl (fun (t : State) (x : Nat × Word) => t.commitOne x.1 x.2) t) := by
  induction l generalizing s t with
  | nil => exact h
  | cons x l ih => exact ih (h.commitOne x.1 x.2)

theorem State.SameTime.commitStaged {s t : State} (h : s.SameTime t) : s.commitStaged.SameTime t.commitStaged := by
  have hl := h.foldl_commitOne s.ao.staged
  rw [State.commitStaged, State.commitStaged, h.2.1]
  obtain ⟨hn, ha, hr⟩ := hl
  exact ⟨hn, by simp only [ha], hr⟩

theorem State.SameTime.sclkEdges {s t : State} (h : s.SameTime t) (n : Nat) : (s.sclkEdges n).SameTime (t.sclkEdges n) := by
  unfold State.sclkEdges
  split
  · exact h
  · obtain ⟨hn, ha, hr⟩ := h.commitStaged
    exact ⟨hn, by simp only [ha], hr⟩

theorem State.SameTime.advanceTo {s t : State} (h : s.SameTime t) (n : Nat) : (s.advanceTo n).SameTime (t.advanceTo n) := by
  have he (m : Nat) := h.sclkEdges m
  unfold State.advanceTo
  obtain ⟨hn, ha, hr⟩ := h
  rw [hn, ha]
  split
  · exact ⟨hn, ha, hr⟩
  · obtain ⟨-, ha', hr'⟩ := he ((s.ao.acc + 2048 * (n - s.now)) / 15625000)
    exact ⟨rfl, by simp only [ha'], hr'⟩

/-- Time does not depend on the works. -/
theorem State.advanceTo_set_work (s : State) (v : Vector Work 9) (n : Nat) :
    ({ s with work := v } : State).advanceTo n = { s.advanceTo n with work := v } := by
  obtain ⟨hn, ha, hr⟩ := State.SameTime.advanceTo (s := s) (t := { s with work := v }) ⟨rfl, rfl, rfl⟩ n
  rw [State.advanceTo_frame s, State.advanceTo_frame { s with work := v }, hn, ha, hr]

/-- What an instruction does to its work is seen in the state after it as if it had been done before it. -/
theorem State.ran_set_work (s : State) (v : Vector Work 9) (c : Fin 9) (r : Run) (n : Nat) (k : Cluster) :
    ({ s with work := v } : State).ran c r n k = { s.ran c r n k with work := v } := by
  simp only [State.ran, State.ranTo, State.atEnd, State.advanceTo_set_work]

/-! ### Words of memory (R10) -/

@[simp] theorem State.unflip_word (s : State) (k a : Nat) : (s.unflip k).word a = s.word a := rfl
@[simp] theorem State.settle_word (s : State) (a : Nat) : s.settle.word a = s.word a := rfl

/-- The four bytes of a word make the word. -/
theorem word_of_bytes (w : Word) : wordN ((BitVec.ofNat 8 w.toNat).toNat + 256 * (BitVec.ofNat 8 (w.toNat / 256)).toNat
    + 65536 * (BitVec.ofNat 8 (w.toNat / 65536)).toNat + 16777216 * (BitVec.ofNat 8 (w.toNat / 16777216)).toNat) = w := by
  apply BitVec.eq_of_toNat_eq
  have := w.isLt
  simp only [wordN, BitVec.toNat_ofNat]
  omega

/-- A word reads back. -/
@[simp] theorem State.setWord_word (s : State) (a : Nat) (w : Word) : (s.setWord a w).word a = w := by
  have h0 : (s.setWord a w).byte a = BitVec.ofNat 8 w.toNat := by
    rw [State.setWord, State.setByte_byte_ne _ _ (by omega), State.setByte_byte_ne _ _ (by omega), State.setByte_byte_ne _ _ (by omega),
      State.setByte_byte]
  have h1 : (s.setWord a w).byte (a + 1) = BitVec.ofNat 8 (w.toNat / 256) := by
    rw [State.setWord, State.setByte_byte_ne _ _ (by omega), State.setByte_byte_ne _ _ (by omega), State.setByte_byte]
  have h2 : (s.setWord a w).byte (a + 2) = BitVec.ofNat 8 (w.toNat / 65536) := by
    rw [State.setWord, State.setByte_byte_ne _ _ (by omega), State.setByte_byte]
  have h3 : (s.setWord a w).byte (a + 3) = BitVec.ofNat 8 (w.toNat / 16777216) := by
    rw [State.setWord, State.setByte_byte]
  rw [State.word, h0, h1, h2, h3, word_of_bytes]

theorem State.word_congr {s t : State} (h : t.mem = s.mem) (a : Nat) : t.word a = s.word a := by
  simp only [State.word, State.byte, h]

/-! ### Checked words (R31, R32, R439) -/

theorem State.eccOf_whole {s : State} {key : Nat} (h : ∀ f ∈ s.inj.flips, f.1 ≠ key) (found : Fin 3) : s.eccOf key found = found.val := by
  have hf : s.inj.flips.find? (·.1 = key) = none := List.find?_eq_none.mpr (by simpa using h)
  simp [State.eccOf, hf]

theorem State.eccOf_flip {s : State} {key n : Nat} (h : s.inj.flips.find? (·.1 = key) = some (key, n)) : s.eccOf key 0 = n := by
  simp [State.eccOf, h]

/-- The key under which the check of a data word stands. -/
theorem dataBase_word {x : Word} (hx : x.toNat % 4 = 0) (w : Fin 9) : dataBase w + 4 * (x.toNat / 4) = dataBase w + x.toNat := by omega

theorem State.dataRead_good {s : State} {w : Fin 9} {x : Word} (hx : x.toNat % 4 = 0) {found : Fin 3}
    (he : s.eccOf (dataBase w + x.toNat) found = 0) : s.dataRead w (x.toNat / 4) found = (s, some (s.word (dataBase w + x.toNat))) := by
  simp [State.dataRead, State.sramWord, dataBase_word hx, he]

theorem State.dataRead_corrected {s : State} {w : Fin 9} {x : Word} (hx : x.toNat % 4 = 0) {found : Fin 3}
    (he : s.eccOf (dataBase w + x.toNat) found = 1) : s.dataRead w (x.toNat / 4) found
      = (s.emit 0 Kind.eccCe (srcC 0 w.val 0xF) (x.toNat / 4), some (s.word (dataBase w + x.toNat))) := by
  simp [State.dataRead, State.sramWord, State.sramCe, dataBase_word hx, he]

/-! ### Cues (R162, R163) -/

/-- A count-up and a message leave the works alone. -/
@[simp] theorem State.bump_work (s : State) (r : RegRow) (i hi lo : Nat) : (s.bump r i hi lo).work = s.work := by rw [State.bump_frame]
@[simp] theorem State.emit_work (s : State) (cls kind src ctx : Nat) : (s.emit cls kind src ctx).work = s.work := by rw [State.emit_frame]
@[simp] theorem State.emit_clu (s : State) (cls kind src ctx : Nat) : (s.emit cls kind src ctx).clu = s.clu := by rw [State.emit_frame]

/-- A cue changes its work and what a lost cue counts and reports, and nothing else. -/
theorem State.raiseCue_frame (s : State) (w : Fin 9) (q : CueOcc) :
    s.raiseCue w q = { s with
      work := (s.raiseCue w q).work, regs := (s.raiseCue w q).regs, hwSet := (s.raiseCue w q).hwSet
      coll := (s.raiseCue w q).coll, links := (s.raiseCue w q).links } := by
  unfold State.raiseCue
  dsimp only
  split
  · split
    · rw [State.bump_frame]; rfl
    · rfl
  · split
    · rfl
    · rw [State.emit_frame, State.bump_frame]

/-- The queue of a latched cue after an occurrence: the newest stands for those before (R163). -/
def latchCue (cs : List CueOcc) (q : CueOcc) : List CueOcc :=
  if cs.any (·.cue = q.cue) then cs.map fun x => if x.cue = q.cue then q else x else cs ++ [q]

theorem mem_latchCue (cs : List CueOcc) (q : CueOcc) : q ∈ latchCue cs q := by
  unfold latchCue
  split
  · next h =>
    obtain ⟨x, hx, hq⟩ := List.any_eq_true.mp h
    exact List.mem_map.mpr ⟨x, hx, by simp [of_decide_eq_true hq]⟩
  · simp

theorem State.raiseCue_latched {s : State} {w : Fin 9} {q : CueOcc} (h : cueDepth q.cue = none) :
    (s.raiseCue w q).work = s.work.set w.val { s.work[w] with cues := latchCue s.work[w].cues q } w.isLt := by
  unfold State.raiseCue latchCue
  simp only [h]
  split
  · simp [State.setWork, upd]
  · simp [State.setWork, upd]

/-- The angle cues are latched. -/
theorem cueDepth_angle (m : Fin 16) : cueDepth (2 + m.val) = none := by
  fin_cases m <;> rfl

/-- A comparator's cue stands in its work's queue; nothing else of the work changes. -/
theorem State.cue_angle_work (s : State) (w : Fin 9) (m : Fin 16) (stamp : Nat) :
    (s.cue w (2 + m.val) m.val 0 stamp).work = s.work.set w.val { s.work[w] with
      cues := latchCue s.work[w].cues ⟨2 + m.val, wordN m.val, wordN 0, stamp, s.now + cueCross (2 + m.val), []⟩ } w.isLt :=
  State.raiseCue_latched (cueDepth_angle m)

theorem State.cue_frame (s : State) (w : Fin 9) (n g14 g12 stamp : Nat) :
    s.cue w n g14 g12 stamp = { s with
      work := (s.cue w n g14 g12 stamp).work, regs := (s.cue w n g14 g12 stamp).regs, hwSet := (s.cue w n g14 g12 stamp).hwSet
      coll := (s.cue w n g14 g12 stamp).coll, links := (s.cue w n g14 g12 stamp).links } := State.raiseCue_frame s w _

end Sys2Proof.Machine
end

section
/-! SUPPORT. LD and ST of a running core (R158, R188), and the cue enables and comparators (R166, R178, R193). -/

namespace Sys2Proof.Machine

/-! ### The state in which an instruction acts -/

theorem State.spend_clu {s : State} {c : Fin 9} {r : Run} (h : s.clu[c].run = some r) (n : Nat) :
    (s.spend c n).clu[c] = { s.clu[c] with run := some { r with spent := r.spent + n } } := by
  simp [State.spend_eq h]

@[simp] theorem State.spend_mem (s : State) (c : Fin 9) (n : Nat) : (s.spend c n).mem = s.mem := by
  unfold State.spend
  split <;> simp

@[simp] theorem State.spend_inj (s : State) (c : Fin 9) (n : Nat) : (s.spend c n).inj = s.inj := by
  unfold State.spend
  split <;> simp

@[simp] theorem State.spend_work (s : State) (c : Fin 9) (n : Nat) : (s.spend c n).work = s.work := by
  unfold State.spend
  split <;> simp

@[simp] theorem State.spend_eccOf (s : State) (c : Fin 9) (n key : Nat) (found : Fin 3) :
    (s.spend c n).eccOf key found = s.eccOf key found := by
  simp [State.eccOf]

@[simp] theorem State.spend_word (s : State) (c : Fin 9) (n a : Nat) : (s.spend c n).word a = s.word a :=
  State.word_congr (s.spend_mem c n) a

theorem State.spend_hwNow {s : State} {c : Fin 9} {r : Run} (h : s.clu[c].run = some r) (n a : Nat) :
    (s.spend c n).hwNow a = (s.atEnd r n).hwNow a := by
  rw [State.spend_eq h]
  rfl

/-- An exception abandons an instruction at its last TCLK. -/
theorem State.insn_abandon {s : State} {c : Fin 9} {r : Run} (h : s.Running c r) {n cause : Nat} {addr : Option Word}
    {f : State → State × Flow} (hf : f (s.spend c n) = (s.spend c n).abandon c cause addr) :
    s.insn c n false f = (s.ranTo c r n s.clu[c].pc s.clu[c]).coreExc c cause s.clu[c].pc addr := by
  rw [State.insn_left h hf, State.spend_clu h.2.1, State.spend_eq_ranTo h.2.1]

/-! ### LD (R188) -/

theorem dataOk_iff (x : Word) : dataOk x = true ↔ x.toNat % 4 = 0 ∧ x.toNat ≤ 0x1FFF := by simp [dataOk]

section
variable {t : State} {c w : Fin 9} {d : Fin 16} {x : Word} {found : Fin 3}

theorem State.dataLoad_good (hw : t.clu[c].work = some w) (hx : dataOk x = true) (he : t.eccOf (dataBase w + x.toNat) found = 0) :
    t.dataLoad c d x found = (t.setClu c fun k => k.setG d (t.word (dataBase w + x.toNat)), .next) := by
  have hw' : t.clu[c.val].work = some w := hw
  simp [State.dataLoad, hx, hw', State.dataRead_good ((dataOk_iff x).mp hx).1 he]

theorem State.dataLoad_corrected (hw : t.clu[c].work = some w) (hx : dataOk x = true)
    (he : t.eccOf (dataBase w + x.toNat) found = 1) : t.dataLoad c d x found
      = ((t.emit 0 Kind.eccCe (srcC 0 w.val 0xF) (x.toNat / 4)).setClu c fun k => k.setG d (t.word (dataBase w + x.toNat)), .next) := by
  have hw' : t.clu[c.val].work = some w := hw
  simp [State.dataLoad, hx, hw', State.dataRead_corrected ((dataOk_iff x).mp hx).1 he]

theorem State.dataLoad_wrong (hx : dataOk x = false) : t.dataLoad c d x found = t.abandon c 2 (some x) := by
  simp [State.dataLoad, hx]

/-! ### ST (R35, R158, R188) -/

theorem State.dataStore_mine (hw : t.clu[c].work = some w) (hx : x.toNat % 4 = 0) (hx' : x.toNat < 0x1F80)
    (hh : t.hwNow (dataBase w + x.toNat) = 0) :
    t.dataStore c d x = ((t.setWord (dataBase w + x.toNat) (t.clu[c].gr d)).unflip (dataBase w + x.toNat), .next) := by
  have hw' : t.clu[c.val].work = some w := hw
  have hok : dataOk x = true := (dataOk_iff x).mpr ⟨hx, by omega⟩
  simp [State.dataStore, hok, hw', hh, hx']

theorem State.dataStore_overridden (hw : t.clu[c].work = some w) (hx : x.toNat % 4 = 0) (hx' : x.toNat < 0x1F80)
    (hh : t.hwNow (dataBase w + x.toNat) ≠ 0) : t.dataStore c d x = (t, .next) := by
  have hw' : t.clu[c.val].work = some w := hw
  have hok : dataOk x = true := (dataOk_iff x).mpr ⟨hx, by omega⟩
  simp [State.dataStore, hok, hw', hh, hx']

theorem State.dataStore_wrong (hx : x.toNat % 4 ≠ 0 ∨ 0x1F80 ≤ x.toNat) : t.dataStore c d x = t.abandon c 2 (some x) := by
  have : (!dataOk x || decide (0x1F80 ≤ x.toNat)) = true := by
    simp only [Bool.or_eq_true, decide_eq_true_eq, Bool.not_eq_true', dataOk, Bool.and_eq_false_iff, decide_eq_false_iff_not]
    omega
  simp [State.dataStore, this]

end

section
variable {s : State} {c w : Fin 9} {r : Run} {d b : Fin 16} {a : Bool} {i : BitVec 16} {found : Fin 3}

/-- The address of LD and ST does not change in the course of the instruction. -/
theorem State.spend_dataAddr (h : s.clu[c].run = some r) (n : Nat) (b : Fin 16) (a : Bool) (i : BitVec 16) :
    (s.spend c n).clu[c].dataAddr b a i = s.clu[c].dataAddr b a i := by
  rw [State.spend_clu h]
  rfl

theorem execWLd_good (h : s.Running c r) (hw : s.clu[c].work = some w) (hab : (a && decide (b ≠ 0)) = false)
    (hx : dataOk (s.clu[c].dataAddr b a i) = true) (he : s.eccOf (dataBase w + (s.clu[c].dataAddr b a i).toNat) found = 0) :
    exec (.wLd c d b a i found) s
      = .next (s.ran c r 2 (s.clu[c].setG d (s.word (dataBase w + (s.clu[c].dataAddr b a i).toNat)))).settle := by
  rw [exec, execWLd, hab]
  refine congrArg finish (State.insn_setClu_ran h (g := fun k => k.setG d (s.word (dataBase w + (s.clu[c].dataAddr b a i).toNat)))
    ?_ fun _ => rfl)
  rw [State.spend_dataAddr h.2.1, State.dataLoad_good (by rw [State.spend_clu h.2.1]; exact hw) hx (by rw [State.spend_eccOf]; exact he),
    State.spend_word]

theorem execWLd_corrected (h : s.Running c r) (hw : s.clu[c].work = some w) (hab : (a && decide (b ≠ 0)) = false)
    (hx : dataOk (s.clu[c].dataAddr b a i) = true) (he : s.eccOf (dataBase w + (s.clu[c].dataAddr b a i).toNat) found = 1) :
    exec (.wLd c d b a i found) s = .next (((s.ranTo c r 2 s.clu[c].pc s.clu[c]).emit 0 Kind.eccCe (srcC 0 w.val 0xF)
      ((s.clu[c].dataAddr b a i).toNat / 4)).setClu c fun q => { q with
        g := s.clu[c].g.set d.val (s.word (dataBase w + (s.clu[c].dataAddr b a i).toNat)) d.isLt, pc := s.clu[c].pc + 1 }).settle := by
  rw [exec, execWLd, hab, State.insn_next h (by
    rw [State.spend_dataAddr h.2.1, State.dataLoad_corrected (by rw [State.spend_clu h.2.1]; exact hw) hx
      (by rw [State.spend_eccOf]; exact he), State.spend_word]), ← State.spend_eq_ranTo h.2.1, finish]
  simp [State.setClu, upd, State.spend_eq h.2.1, Cluster.setG]

theorem execWLd_wrong (h : s.Running c r) (hab : (a && decide (b ≠ 0)) = false) (hx : dataOk (s.clu[c].dataAddr b a i) = false) :
    exec (.wLd c d b a i found) s
      = .next ((s.ranTo c r 2 s.clu[c].pc s.clu[c]).coreExc c 2 s.clu[c].pc (some (s.clu[c].dataAddr b a i))).settle := by
  rw [exec, execWLd, hab, State.insn_abandon h (by rw [State.spend_dataAddr h.2.1, State.dataLoad_wrong hx]), finish]

theorem execWSt_mine (h : s.Running c r) (hw : s.clu[c].work = some w) (hab : (a && decide (b ≠ 0)) = false)
    (hx : (s.clu[c].dataAddr b a i).toNat % 4 = 0) (hx' : (s.clu[c].dataAddr b a i).toNat < 0x1F80)
    (hh : (s.atEnd r 1).hwNow (dataBase w + (s.clu[c].dataAddr b a i).toNat) = 0) :
    exec (.wSt c d b a i) s = .next (((s.ran c r 1 s.clu[c]).setWord (dataBase w + (s.clu[c].dataAddr b a i).toNat)
      (s.clu[c].gr d)).unflip (dataBase w + (s.clu[c].dataAddr b a i).toNat)).settle := by
  rw [exec, execWSt, hab, State.insn_next h (by
    rw [State.spend_dataAddr h.2.1, State.dataStore_mine (by rw [State.spend_clu h.2.1]; exact hw) hx hx'
      (by rw [State.spend_hwNow h.2.1]; exact hh)]), State.spend_clu h.2.1, State.spend_eq h.2.1, finish]
  simp only [State.setClu, upd, State.unflip, State.setWord, State.setByte, Fin.getElem_fin, Vector.getElem_set_self, Vector.set_set]
  rfl

theorem execWSt_overridden (h : s.Running c r) (hw : s.clu[c].work = some w) (hab : (a && decide (b ≠ 0)) = false)
    (hx : (s.clu[c].dataAddr b a i).toNat % 4 = 0) (hx' : (s.clu[c].dataAddr b a i).toNat < 0x1F80)
    (hh : (s.atEnd r 1).hwNow (dataBase w + (s.clu[c].dataAddr b a i).toNat) ≠ 0) :
    exec (.wSt c d b a i) s = .next (s.ran c r 1 s.clu[c]).settle := by
  rw [exec, execWSt, hab, State.insn_next_ran h (by
    rw [State.spend_dataAddr h.2.1, State.dataStore_overridden (by rw [State.spend_clu h.2.1]; exact hw) hx hx'
      (by rw [State.spend_hwNow h.2.1]; exact hh)]), finish]

theorem execWSt_wrong (h : s.Running c r) (hab : (a && decide (b ≠ 0)) = false)
    (hx : (s.clu[c].dataAddr b a i).toNat % 4 ≠ 0 ∨ 0x1F80 ≤ (s.clu[c].dataAddr b a i).toNat) :
    exec (.wSt c d b a i) s
      = .next ((s.ranTo c r 1 s.clu[c].pc s.clu[c]).coreExc c 2 s.clu[c].pc (some (s.clu[c].dataAddr b a i))).settle := by
  rw [exec, execWSt, hab, State.insn_abandon h (by rw [State.spend_dataAddr h.2.1, State.dataStore_wrong hx]), finish]

end

/-! ### Memory after a store -/

section
variable (s : State) (c : Fin 9) (r : Run) (n a : Nat) (k : Cluster) (v : Word)

theorem State.stored_word : ((((s.ran c r n k).setWord a v).unflip a).settle).word a = v := by
  rw [State.settle_word, State.unflip_word, State.setWord_word]

theorem State.stored_wf (h : Memory.wf s.mem = true) : Memory.wf (((s.ran c r n k).setWord a v).unflip a).settle.mem = true := by
  have hmem : (s.ran c r n k).mem = s.mem := s.advanceTo_mem _
  exact State.setWord_wf (s.ran c r n k) a v (by rw [hmem]; exact h)

theorem State.stored_byte {b : Nat} (h : b < a ∨ a + 4 ≤ b) : (((s.ran c r n k).setWord a v).unflip a).settle.byte b = s.byte b := by
  have hmem : (s.ran c r n k).mem = s.mem := s.advanceTo_mem _
  have hbyte := State.setWord_byte (s.ran c r n k) a v h
  simp only [State.byte, hmem] at hbyte
  exact hbyte

end

end Sys2Proof.Machine
end

section
/-! PROOFS. LD and ST of the data SRAM (R158, R188): the statement O10. -/

open Sys2Proof Sys2Proof.Machine

namespace Sys2Proof.Proofs

/-- Settles O10: the loads by what the word's check finds, the stores by who wrote the word last, the exceptions by the address. -/
theorem dataMemory : Obligations.DataMemory := by
  intro s c w r d b i h hw k ofReg abs cell load store mine addr whole mended wrong
  have ok {x : Word} (h4 : x.toNat % 4 = 0) (hx : x.toNat ≤ 0x1FFF) : dataOk x = true := (dataOk_iff x).mpr ⟨h4, hx⟩
  have bad {x : Word} (hx : wrong x 0x2000) : dataOk x = false := by
    simp only [dataOk, Bool.and_eq_false_iff, decide_eq_false_iff_not]
    simp only [wrong] at hx
    omega
  refine ⟨fun h4 hx hf => ?_, fun h4 hx hf => ?_, fun h4 hx hm => ?_, fun h4 hx hm => ?_, fun h4 hx hm => ?_, fun h4 hx hm => ?_,
    fun h4 hx => ⟨fun hf => ?_, fun hf => ?_⟩, fun h4 hx => ⟨fun hf => ?_, fun hf => ?_⟩, fun hx => ?_, fun hx => ?_, fun hx => ?_,
    fun hx => ?_, fun h4 hx hm => ?_⟩
  · exact execWLd_good h hw rfl (ok h4 hx) (State.eccOf_whole hf 0)
  · exact execWLd_good h hw rfl (ok h4 hx) (State.eccOf_whole hf 0)
  · exact execWSt_mine h hw rfl h4 hx hm
  · exact execWSt_mine h hw rfl h4 hx hm
  · exact execWSt_overridden h hw rfl h4 hx hm
  · exact execWSt_overridden h hw rfl h4 hx hm
  · exact execWLd_corrected h hw rfl (ok h4 hx) (State.eccOf_whole hf 1)
  · exact execWLd_corrected h hw rfl (ok h4 hx) (State.eccOf_flip hf)
  · exact execWLd_corrected h hw rfl (ok h4 hx) (State.eccOf_whole hf 1)
  · exact execWLd_corrected h hw rfl (ok h4 hx) (State.eccOf_flip hf)
  · exact execWLd_wrong h rfl (bad hx)
  · exact execWLd_wrong h rfl (bad hx)
  · exact execWSt_wrong h rfl hx
  · exact execWSt_wrong h rfl hx
  · exact ⟨_, execWSt_mine h hw rfl h4 hx hm, State.stored_word .., State.stored_wf _ _ _ _ _ _ _, fun a ha => State.stored_byte _ _ _ _ _ _ _ ha⟩

end Sys2Proof.Proofs
end

section
/-! SUPPORT. The cue enables and the angle cue comparators (R166, R178, R193). -/

namespace Sys2Proof.Machine

/-- An instruction that goes on and only changes its work. -/
theorem State.insn_setWork_ran {s : State} {c w : Fin 9} {r : Run} (h : s.Running c r) {n : Nat} {f : State → State × Flow}
    {g : Work → Work} (hf : f (s.spend c n) = ((s.spend c n).setWork w g, .next)) :
    s.insn c n false f = ({ s with work := s.work.set w.val (g s.work[w]) w.isLt } : State).ran c r n s.clu[c] := by
  rw [State.ran_set_work, State.insn_next h hf, State.spend_eq h.2.1]
  simp [State.setWork, State.setClu, upd, State.atEnd, State.ran, State.ranTo]

/-! ### CUE_EN (R178, R193) -/

/-- The enables that a number gives: START is never masked. -/
def enables (n : Nat) : BitVec 27 := BitVec.ofNat 27 (n ||| 1)

theorem enables_eq (n : Nat) : enables n = BitVec.ofNat 27 n ||| 1 := by
  apply BitVec.eq_of_getLsbD_eq
  intro i hi
  simp [enables, hi]

theorem ofNat_toNat_setWidth (g : Word) : BitVec.ofNat 27 g.toNat = g.setWidth 27 := BitVec.eq_of_toNat_eq (by simp)

theorem enables_write (g : Word) : enables g.toNat = g.setWidth 27 ||| 1 := by rw [enables_eq, ofNat_toNat_setWidth]

theorem enables_set (e : BitVec 27) (g : Word) : enables (e.toNat ||| g.toNat) = e ||| g.setWidth 27 ||| 1 := by
  rw [enables_eq]
  congr 1
  apply BitVec.eq_of_getLsbD_eq
  intro i hi
  simp [hi]

theorem enables_clear (e : BitVec 27) (g : Word) : enables (e.toNat &&& (~~~g).toNat) = e &&& ~~~(g.setWidth 27) ||| 1 := by
  rw [enables_eq]
  congr 1
  apply BitVec.eq_of_getLsbD_eq
  intro i hi
  rw [BitVec.getLsbD_ofNat, Nat.testBit_and, BitVec.testBit_toNat, BitVec.testBit_toNat]
  simp [hi, show i < 32 by omega]

section
variable {s : State} {c w : Fin 9} {r : Run} {n : Nat}

/-- A core's change of CUE_EN, where the host does not write it in the same TCLK. -/
theorem State.insn_cueEnable (h : s.Running c r) (hw : s.clu[c].work = some w) {g : State → Nat → Nat} {e : BitVec 27}
    (hh : (s.atEnd r n).hwNow (Reg.cluCueEn.addr c.val 0) = 0) (he : enables (g (s.spend c n) s.work[w].cueEn.toNat) = e) :
    finish (s.insn c n false fun t => (t.cueEnable c (g t), .next))
      = .next (({ s with work := s.work.set w.val { s.work[w] with cueEn := e } w.isLt } : State).ran c r n s.clu[c]).settle := by
  have hwork : (s.spend c n).clu[c].work = some w := by rw [State.spend_clu h.2.1]; exact hw
  have hwork' : (s.spend c n).clu[c.val].work = some w := hwork
  rw [← he]
  refine congrArg finish (State.insn_setWork_ran h
    (g := fun x => { x with cueEn := enables (g (s.spend c n) x.cueEn.toNat) }) ?_)
  simp [State.cueEnable, State.spend_hwNow h.2.1, hh, State.setCueEn, hwork', enables]

/-- A host write of CUE_EN in the same TCLK stands over the core's. -/
theorem State.insn_cueEnable_overridden (h : s.Running c r) {g : State → Nat → Nat}
    (hh : (s.atEnd r n).hwNow (Reg.cluCueEn.addr c.val 0) ≠ 0) :
    finish (s.insn c n false fun t => (t.cueEnable c (g t), .next)) = .next (s.ran c r n s.clu[c]).settle := by
  refine congrArg finish (State.insn_next_ran h ?_)
  simp [State.cueEnable, State.spend_hwNow h.2.1, hh]

/-! ### SETAC and CLRAC (R166, R193) -/

theorem State.insn_compOf (h : s.Running c r) (hw : s.clu[c].work = some w) {m : Fin 16} {g : State → Comp → Comp} {x : Comp}
    (hx : g (s.spend c n) s.work[w].comps[m] = x) : finish (s.insn c n false fun t => (t.compOf c m (g t), .next))
      = .next (({ s with work := s.work.set w.val { s.work[w] with comps := s.work[w].comps.set m.val x m.isLt } w.isLt } : State).ran
        c r n s.clu[c]).settle := by
  have hwork : (s.spend c n).clu[c.val].work = some w := (congrArg Cluster.work (State.spend_clu h.2.1 n)).trans hw
  rw [← hx]
  refine congrArg finish (State.insn_setWork_ran h
    (g := fun k => { k with comps := k.comps.set m.val (g (s.spend c n) s.work[w].comps[m]) m.isLt }) ?_)
  simp [State.compOf, hwork, State.compSet]

end

/-! ### A crossing in the TCLK of a SETAC or CLRAC (R166) -/

theorem State.angleCue_replaced {s : State} {w : Fin 9} {m : Fin 16} {a : Nat} {p : Bool} (hc : (s.carrier w).isSome = true)
    (hwas : s.work[w].comps[m].was = some (a, p)) (hsince : s.work[w].comps[m].since = s.now) (hl : s.compLive p = true)
    (hx : s.crossedAt a s.now = true) :
    s.angleCue w m = (s.setWork w fun k => { k with comps := upd k.comps m fun y => { y with was := none } }).cue w (2 + m.val) m.val 0
      s.now := by
  have hwas' : s.work[w.val].comps[m.val].was = some (a, p) := hwas
  have hsince' : s.work[w.val].comps[m.val].since = s.now := hsince
  simp [State.angleCue, Option.isSome_iff_ne_none.mp hc, hwas', hsince', hl, hx]

end Sys2Proof.Machine
end

section
/-! PROOFS. The cue enables and the comparators (R166, R178, R193): the statement O15. -/

open Sys2Proof Sys2Proof.Machine

namespace Sys2Proof.Proofs

/-- Settles O15: the enables by who writes CUE_EN last, the comparators by the setting that they leave, a crossing by the setting
replaced. -/
theorem cueEnablesAndComparators : Obligations.CueEnablesAndComparators := by
  refine ⟨fun s c w r m x p q h hw => ?_, fun s w m a p hclk hc hwas hsince hl hx => ?_⟩
  · intro k e v with_ comp old was
    have hgr (n : Nat) : (s.spend c n).clu[c].gr x = k.gr x := by rw [State.spend_clu h.2.1]; rfl
    have har (n : Nat) : (s.spend c n).clu[c].ar x = k.ar x := by rw [State.spend_clu h.2.1]; rfl
    have hnow (n : Nat) : (s.spend c n).now = (s.atEnd r n).now := by rw [State.spend_eq h.2.1]
    refine ⟨fun hh => ⟨?_, ?_, ?_⟩, fun hh => ⟨?_, ?_, ?_⟩, fun hx => ?_, ?_⟩
    · exact State.insn_cueEnable h hw hh (by rw [hgr]; exact enables_set e _)
    · exact State.insn_cueEnable h hw hh (by rw [hgr]; exact enables_clear e _)
    · exact State.insn_cueEnable h hw hh (by rw [hgr]; exact enables_write _)
    · exact (State.insn_cueEnable_overridden h hh).trans (by simp [with_, k])
    · exact (State.insn_cueEnable_overridden h hh).trans (by simp [with_, k])
    · exact (State.insn_cueEnable_overridden h hh).trans (by simp [with_, k])
    · rw [exec, execWSetac, aBad_of_lt hx]
      exact State.insn_compOf h hw (by rw [har, hnow]; rfl)
    · rw [exec, execWClrac, State.insn_regs h]
      exact State.insn_compOf h hw (by rw [hnow]; rfl)
  · refine ⟨_, by rw [exec, execAngleCueFire, if_pos hclk, State.angleCue_replaced hc hwas hsince hl hx, finish], ?_, ?_, ?_⟩
    · rw [State.settle_work, State.cue_angle_work]
      simp [State.setWork, upd]
    · rw [State.settle_work, State.cue_angle_work]
      exact ⟨_, by simpa using mem_latchCue _ _, rfl, rfl, rfl⟩
    · rw [State.settle_now, State.cue_frame]
      rfl

end Sys2Proof.Proofs
end

section
/-! PROOFS. The end of a handler (R168, R187): the statement O12 leaves the armed list of the run as it was, which the model clears. -/

open Sys2Proof Sys2Proof.Machine

namespace Sys2Proof.Proofs

/-- A handler run of cue 7 that has just begun. -/
def sampleRun : Run := ⟨⟨7, 0, 0, 0, 0, []⟩, false, false, 0, 0⟩

/-- Cluster 3 carries work 3 and runs a handler at word 40, in RUN. -/
def coreRuns : State :=
  ({ State.reset with sys := { State.reset.sys with st := .run } } : State).setClu 3 fun k =>
    { k with role := .active, run := some sampleRun, pc := 40 }

theorem coreRuns_running : coreRuns.Running 3 sampleRun := by decide +kernel

/-- The same, with a peg of SEQ 5 armed in this run. -/
def coreArmed : State := coreRuns.setWork 3 fun x => { x with armed := [5] }

theorem coreArmed_running : coreArmed.Running 3 sampleRun := by decide +kernel

/-- The armed list of work 3 after a command. -/
def armedAfter : Out → List Nat
  | .next t => t.work[(3 : Fin 9)].armed
  | _ => []

/-- Refutes O12: DONE clears the list of the pegs armed in the run that it ends (R175), and the statement has the work otherwise as it
was; of a run that has armed the peg with SEQ 5, the list [5] is gone after DONE. -/
theorem not_handlerEnds : ¬ Obligations.HandlerEnds := by
  intro h
  have hdone := congrArg armedAfter (h coreArmed 3 3 sampleRun 0 coreArmed_running rfl rfl).1
  have hmodel : armedAfter (exec (.wDone 3) coreArmed) = [] := by decide +kernel
  rw [hmodel] at hdone
  exact absurd hdone (by decide +kernel)

end Sys2Proof.Proofs
end

section
/-! SUPPORT. LDX and STX of a running core (R159, R160, R189). -/

namespace Sys2Proof.Machine

section
variable {s u : State} {c : Fin 9} {r : Run} {d b : Fin 16} {i : BitVec 16} {stall : Nat} {link : Bool} {v x : Word} {st : Status}

theorem State.spaceLoad_refused {t : State} {n : Nat} (hr : t.accRead (coreReader c) x.toNat 0 link = (u, v, st))
    (hn : accCause st = some n) : t.spaceLoad c d x link = u.abandon c n (some x) := by
  simp only [State.spaceLoad, hr, hn]

theorem State.spaceLoad_taken {t : State} (hr : t.accRead (coreReader c) x.toNat 0 link = (u, v, st)) (hn : accCause st = none) :
    t.spaceLoad c d x link
      = if st = .dataerr then (u.useFree.setClu c fun k => k.setG d u.freeW, .next) else (u.setClu c fun k => k.setG d v, .next) := by
  simp only [State.spaceLoad, hr, hn]

theorem State.spaceStore_refused {t : State} {n : Nat} (hr : t.accWrite (coreReader c) x.toNat (t.clu[c].gr d) 0 link = (u, st))
    (hn : accCause st = some n) : t.spaceStore c d x link = u.abandon c n (some x) := by
  simp only [State.spaceStore, hr, hn]

theorem State.spaceStore_taken {t : State} (hr : t.accWrite (coreReader c) x.toNat (t.clu[c].gr d) 0 link = (u, st))
    (hn : accCause st = none) : t.spaceStore c d x link = (u, .next) := by
  simp only [State.spaceStore, hr, hn]

/-- A refused access raises its exception in the state that the access leaves. -/
theorem execWLdx_refused {n : Nat} (h : s.Running c r)
    (hr : (s.ranTo c r (2 + stall) s.clu[c].pc s.clu[c]).accRead (coreReader c) (s.clu[c].dataAddr b false i).toNat 0 link = (u, v, st))
    (hn : accCause st = some n) : exec (.wLdx c d b false i stall link) s
      = .next (u.coreExc c n u.clu[c].pc (some (s.clu[c].dataAddr b false i))).settle := by
  rw [← State.spend_eq_ranTo h.2.1] at hr
  rw [exec, execWLdx, State.insn_left h (by rw [State.spend_dataAddr h.2.1, State.spaceLoad_refused hr hn]; rfl), finish]

theorem execWLdx_loads (h : s.Running c r)
    (hr : (s.ranTo c r (2 + stall) s.clu[c].pc s.clu[c]).accRead (coreReader c) (s.clu[c].dataAddr b false i).toNat 0 link = (u, v, st))
    (hg : u.clu[c].g = s.clu[c].g) (hn : accCause st = none) (hst : st ≠ .dataerr) : exec (.wLdx c d b false i stall link) s
      = .next (u.setClu c fun k => { k with g := s.clu[c].g.set d.val v d.isLt, pc := k.pc + 1 }).settle := by
  rw [← State.spend_eq_ranTo h.2.1] at hr
  rw [exec, execWLdx, State.insn_next h (by rw [State.spend_dataAddr h.2.1, State.spaceLoad_taken hr hn, if_neg hst]), finish, ← hg]
  simp [State.setClu, upd, Cluster.setG]

theorem execWLdx_dataerr (h : s.Running c r)
    (hr : (s.ranTo c r (2 + stall) s.clu[c].pc s.clu[c]).accRead (coreReader c) (s.clu[c].dataAddr b false i).toNat 0 link
      = (u, v, .dataerr))
    (hg : u.clu[c].g = s.clu[c].g) (hpc : u.clu[c].pc = s.clu[c].pc) : exec (.wLdx c d b false i stall link) s
      = .next (u.useFree.setClu c fun q => { q with g := s.clu[c].g.set d.val u.freeW d.isLt, pc := s.clu[c].pc + 1 }).settle := by
  rw [← State.spend_eq_ranTo h.2.1] at hr
  rw [exec, execWLdx, State.insn_next h (by rw [State.spend_dataAddr h.2.1, State.spaceLoad_taken hr rfl, if_pos rfl]), finish, ← hg, ← hpc]
  simp [State.setClu, upd, Cluster.setG, State.useFree]

theorem execWStx_refused {n : Nat} (h : s.Running c r)
    (hr : (s.ranTo c r (2 + stall) s.clu[c].pc s.clu[c]).accWrite (coreReader c) (s.clu[c].dataAddr b false i).toNat (s.clu[c].gr d) 0 link
      = (u, st))
    (hn : accCause st = some n) : exec (.wStx c d b false i stall link) s
      = .next (u.coreExc c n u.clu[c].pc (some (s.clu[c].dataAddr b false i))).settle := by
  have hgr : (s.spend c (2 + stall)).clu[c].gr d = s.clu[c].gr d := by rw [State.spend_clu h.2.1]; rfl
  rw [← State.spend_eq_ranTo h.2.1, ← hgr] at hr
  rw [exec, execWStx, State.insn_left h (by rw [State.spend_dataAddr h.2.1, State.spaceStore_refused hr hn]; rfl), finish]

theorem execWStx_stores (h : s.Running c r)
    (hr : (s.ranTo c r (2 + stall) s.clu[c].pc s.clu[c]).accWrite (coreReader c) (s.clu[c].dataAddr b false i).toNat (s.clu[c].gr d) 0 link
      = (u, st))
    (hg : u.clu[c].g = s.clu[c].g) (hn : accCause st = none) : exec (.wStx c d b false i stall link) s
      = .next (u.setClu c fun k => { k with g := s.clu[c].g, pc := k.pc + 1 }).settle := by
  have hgr : (s.spend c (2 + stall)).clu[c].gr d = s.clu[c].gr d := by rw [State.spend_clu h.2.1]; rfl
  rw [← State.spend_eq_ranTo h.2.1, ← hgr] at hr
  rw [exec, execWStx, State.insn_next h (by rw [State.spend_dataAddr h.2.1, State.spaceStore_taken hr hn]), finish, ← hg]
  simp [State.setClu, upd]

end

end Sys2Proof.Machine
end

section
/-! PROOFS. LDX and STX (R159, R160, R189): the statement O21. -/

open Sys2Proof Sys2Proof.Machine

namespace Sys2Proof.Proofs

/-- Settles O21: the access is made in the instruction's last TCLK, and its status says how the instruction leaves. -/
theorem registerSpaceFromCore : Obligations.RegisterSpaceFromCore := by
  intro s u c r d b i stall link v st h k x me mid on exc hpc hg
  refine ⟨fun hr => ⟨?_, ?_, ?_, ?_⟩, fun hr => ⟨?_, ?_, ?_, ?_⟩⟩
  · rintro rfl
    exact execWLdx_refused h hr rfl
  · rintro rfl
    exact execWLdx_refused h hr rfl
  · rintro (rfl | rfl)
    · exact execWLdx_loads h hr hg rfl nofun
    · exact execWLdx_loads h hr hg rfl nofun
  · rintro rfl
    exact ⟨u.freeW, execWLdx_dataerr h hr hg hpc⟩
  · rintro rfl
    exact execWStx_refused h hr rfl
  · rintro rfl
    exact execWStx_refused h hr rfl
  · rintro rfl
    exact execWStx_refused h hr rfl
  · rintro (rfl | rfl)
    · exact execWStx_stores h hr hg rfl
    · exact execWStx_stores h hr hg rfl

end Sys2Proof.Proofs
end

section
/-! SUPPORT. Instructions that reach beyond their core: the readers' memory, the send queues, a work's overflow bit (R201 to R207). -/

namespace Sys2Proof.Machine

/-! ### An instruction on a state that differs only where time does not look -/

theorem State.SameTime.advanceTo_eq {s t : State} (h : s.SameTime t) (n : Nat) : t.advanceTo n
    = { t with now := (s.advanceTo n).now, ao := (s.advanceTo n).ao, regs := (s.advanceTo n).regs } := by
  obtain ⟨hn, ha, hr⟩ := h.advanceTo n
  rw [← hn, ← ha, ← hr]
  exact t.advanceTo_frame n

theorem State.spend_frame (s : State) (c : Fin 9) (n : Nat) : s.spend c n
    = { s with now := (s.spend c n).now, ao := (s.spend c n).ao, regs := (s.spend c n).regs, clu := (s.spend c n).clu } := by
  unfold State.spend
  split
  · rw [State.advanceTo_frame]; rfl
  · rfl

/-- An instruction comes to its last TCLK in a state that differs in the clock, the always-on domain, its registers and the cores. -/
theorem State.spend_parts (s : State) (c : Fin 9) (n : Nat) :
    ∃ m a g k, s.spend c n = { s with now := m, ao := a, regs := g, clu := k } := ⟨_, _, _, _, s.spend_frame c n⟩

theorem State.spend_idle {s : State} {c : Fin 9} (h : s.clu[c].run = none) (n : Nat) : s.spend c n = s := by
  have h' : s.clu[c.val].run = none := h
  simp [State.spend, h']

theorem State.SameTime.spend_eq {s t : State} (h : s.SameTime t) (hc : t.clu = s.clu) (c : Fin 9) (n : Nat) : t.spend c n
    = { t with now := (s.spend c n).now, ao := (s.spend c n).ao, regs := (s.spend c n).regs, clu := (s.spend c n).clu } := by
  have hrun : t.clu[c].run = s.clu[c].run := by rw [hc]
  cases hs : s.clu[c].run with
  | none =>
    obtain ⟨hn, ha, hr⟩ := h
    rw [State.spend_idle hs, State.spend_idle (hrun.trans hs), ← hn, ← ha, ← hr, ← hc]
  | some r =>
    rw [State.spend_eq hs, State.spend_eq (hrun.trans hs), State.atEnd, State.atEnd, h.advanceTo_eq, hc]

theorem State.ran_of_spend {s : State} {c : Fin 9} {r : Run} (h : s.clu[c].run = some r) {n : Nat} {g : Cluster → Cluster} {k : Cluster}
    (hg : ∀ q, g { s.clu[c] with run := q } = { k with pc := s.clu[c].pc, run := q }) :
    ((s.spend c n).setClu c g).setClu c (fun x => { x with pc := x.pc + 1 }) = s.ran c r n k := by
  rw [State.spend_setClu h, hg]
  simp only [State.setClu, upd, Fin.getElem_fin, Vector.getElem_set_self, Vector.set_set]
  rfl

/-- An instruction that changes its core by g, and otherwise makes of s the state s'. -/
theorem State.insn_ran_of {s s' : State} {c : Fin 9} {r : Run} (h : s.Running c r) (hs : s.SameTime s') (hc : s'.clu = s.clu) {n : Nat}
    {f : State → State × Flow} {g : Cluster → Cluster} {k : Cluster}
    (hf : f (s.spend c n) = (({ s' with
      now := (s.spend c n).now, ao := (s.spend c n).ao, regs := (s.spend c n).regs, clu := (s.spend c n).clu } : State).setClu c g, .next))
    (hg : ∀ q, g { s.clu[c] with run := q } = { k with pc := s.clu[c].pc, run := q }) : s.insn c n false f = s'.ran c r n k := by
  rw [← hs.spend_eq hc c n] at hf
  rw [State.insn_next h hf, State.ran_of_spend (s := s') (r := r) (by rw [hc]; exact h.2.1) (by rw [hc]; exact hg)]

@[simp] theorem State.spend_ms (s : State) (c : Fin 9) (n : Nat) : (s.spend c n).ms = s.ms := by rw [State.spend_frame]
@[simp] theorem State.spend_sys (s : State) (c : Fin 9) (n : Nat) : (s.spend c n).sys = s.sys := by rw [State.spend_frame]
@[simp] theorem State.spend_fab (s : State) (c : Fin 9) (n : Nat) : (s.spend c n).fab = s.fab := by rw [State.spend_frame]
@[simp] theorem State.spend_readers (s : State) (c : Fin 9) (n : Nat) : (s.spend c n).readers = s.readers := by rw [State.spend_frame]

theorem State.spend_rg (s : State) (c : Fin 9) (n : Nat) (r : RegRow) (i j : Nat) (h : alwaysOnSys (r.addr i j) = false) :
    (s.spend c n).rg r i j = s.rg r i j := by
  unfold State.spend
  split
  · exact State.advanceTo_rg s _ r i j h
  · rfl

/-! ### RDFIG and RDRES (R202 to R204) -/

section
variable {s : State} {c : Fin 9} {r : Run} {d m : Fin 16}

theorem Cluster.put_cf_vf_eq (k : Cluster) (d : Fin 16) (v : Word) (fr o : Bool) : ((k.put d v).cf fr).vf o
    = { k with g := k.g.set d.val v d.isLt, z := decide (v = 0), n := v.msb, c := fr, v := o } := by
  rw [Cluster.put_eq]
  rfl

theorem State.rdfig_gated (h : s.Running c r) (hm : s.measRuns = false) (f : Fin 32) (w : State → Fin 16) :
    s.insn c 4 false (fun t => (t.rdfig c d (w t) f, .next)) = s.ran c r 4 { s.clu[c] with
      g := s.clu[c].g.set d.val 0 d.isLt, z := true, n := false, c := false, v := true } := by
  have hm' : s.sys.measRdy = false := hm
  refine State.insn_setClu_ran h (g := fun k => ((k.put d 0).cf false).vf true) ?_ fun _ => Cluster.put_cf_vf_eq ..
  simp [State.rdfig, State.measRuns, hm']

theorem State.rdfig_running (h : s.Running c r) (hm : s.measRuns = true) (f : Fin 32) {w : State → Fin 16} {v : Fin 16}
    (hv : w (s.spend c 4) = v) :
    s.insn c 4 false (fun t => (t.rdfig c d (w t) f, .next))
      = (s.fresh (coreReader c) (8 + 32 * v.val + f.val) s.ms.win[v].fseq[f]).1.ran c r 4 { s.clu[c] with
        g := s.clu[c].g.set d.val s.ms.win[v].figs[f] d.isLt, z := decide (s.ms.win[v].figs[f] = 0), n := s.ms.win[v].figs[f].msb,
        c := (s.fresh (coreReader c) (8 + 32 * v.val + f.val) s.ms.win[v].fseq[f]).2, v := false } := by
  have hm' : s.sys.measRdy = true := hm
  refine State.insn_ran_of (s' := (s.fresh (coreReader c) (8 + 32 * v.val + f.val) s.ms.win[v].fseq[f]).1) h ⟨rfl, rfl, rfl⟩ rfl (g := fun k => ((k.put d s.ms.win[v].figs[f]).cf
    (s.fresh (coreReader c) (8 + 32 * v.val + f.val) s.ms.win[v].fseq[f]).2).vf false) ?_ fun _ => Cluster.put_cf_vf_eq ..
  rw [hv]
  obtain ⟨m, a, g, k, ht⟩ := s.spend_parts c 4
  rw [ht, State.rdfig, if_neg (by simpa [State.measRuns] using hm)]
  rfl

theorem State.rdres_running (h : s.Running c r) (hm : s.measRuns = true) (hd : d.val % 2 = 0) {w : State → Fin 8} {v : Fin 8}
    (hv : w (s.spend c 4) = v) :
    s.insn c 4 false (fun t => (t.rdres c d (w t), .next))
      = (s.fresh (coreReader c) v.val s.ms.mod[v].rsq).1.ran c r 4 { s.clu[c] with
        g := (s.clu[c].g.set ((d.val + 1) % 16) (BitVec.ofNat 32 (s.ms.mod[v].rsq % 65536
          + if (s.fresh (coreReader c) v.val s.ms.mod[v].rsq).2 then 65536 else 0)) (by omega)).set d.val
            (BitVec.ofInt 32 s.ms.mod[v].res) d.isLt
        z := decide (BitVec.ofInt 32 s.ms.mod[v].res = 0), n := (BitVec.ofInt 32 s.ms.mod[v].res).msb
        c := (s.fresh (coreReader c) v.val s.ms.mod[v].rsq).2, v := false } := by
  refine State.insn_ran_of (s' := (s.fresh (coreReader c) v.val s.ms.mod[v].rsq).1) h ⟨rfl, rfl, rfl⟩ rfl (g := fun k =>
    (((k.setG ⟨(d.val + 1) % 16, by omega⟩ (wordN (s.ms.mod[v].rsq % 65536 + bitAt (s.fresh (coreReader c) v.val s.ms.mod[v].rsq).2 16))).put d
      (wordI s.ms.mod[v].res)).cf (s.fresh (coreReader c) v.val s.ms.mod[v].rsq).2).vf false) ?_ fun _ => Cluster.put_cf_vf_eq ..
  rw [hv]
  obtain ⟨m, a, g, k, ht⟩ := s.spend_parts c 4
  rw [ht, State.rdres, if_neg (by simpa [State.measRuns] using hm)]
  rfl

theorem State.rdres_gated (h : s.Running c r) (hm : s.measRuns = false) (w : State → Fin 8) :
    s.insn c 4 false (fun t => (t.rdres c d (w t), .next)) = s.useFree.ran c r 4 { s.clu[c] with
      g := (s.clu[c].g.set ((d.val + 1) % 16) (s.freeW &&& 0xFFFF) (by omega)).set d.val 0 d.isLt
      z := true, n := false, c := false, v := true } := by
  refine State.insn_ran_of (s' := s.useFree) h ⟨rfl, rfl, rfl⟩ rfl (g := fun k =>
    (((k.setG ⟨(d.val + 1) % 16, by omega⟩ (s.freeW &&& 0xFFFF)).put d 0).cf false).vf true) ?_ fun _ => Cluster.put_cf_vf_eq ..
  obtain ⟨m, a, g, k, ht⟩ := s.spend_parts c 4
  rw [ht, State.rdres, if_pos (by simpa [State.measRuns] using hm)]
  rfl

end

/-- A pair of registers set after the first of them holds its word already. -/
theorem Vector.set_set_ne {α : Type} {n : Nat} (g : Vector α n) {i j : Nat} (hi : i < n) (hj : j < n) (hij : i ≠ j) (v w : α) :
    ((g.set i v hi).set j w hj).set i v hi = (g.set j w hj).set i v hi := by
  rw [Vector.set_comm v w hij, Vector.set_set]

/-! ### SEND (R205, R206) -/

theorem fabCfg_fixed : alwaysOnSys (Reg.fabCfg.addr 0 0) = false := by decide

/-- The node's ID is read from registers that time leaves alone. -/
theorem State.spend_nodeId (s : State) (c : Fin 9) (n : Nat) : (s.spend c n).nodeId = s.nodeId := by
  unfold State.nodeId State.rb State.rf
  rw [State.spend_rg s c n Reg.fabCfg 0 0 fabCfg_fixed, State.spend_sys]

section
variable {s : State} {c w : Fin 9} {dst : Word} {pay : List Word}

theorem State.sendMsg_bad (h : fld dst 15 10 ≠ 0 ∨ 8 < fld dst 8 5 ∨ bit dst 31 = true) :
    s.sendMsg c w dst pay = s.setClu c fun k => k.status stBadDesc := by
  simp only [State.sendMsg, if_pos h]

theorem State.sendMsg_unknown (h : ¬(fld dst 15 10 ≠ 0 ∨ 8 < fld dst 8 5 ∨ bit dst 31 = true))
    (hk : fld dst 4 0 ≠ s.nodeId ∧ fld dst 4 0 ∉ s.fab.members) : s.sendMsg c w dst pay = s.setClu c fun k => k.status stNoBase := by
  simp only [State.sendMsg, if_neg h, if_pos hk]

theorem State.sendMsg_full (h : ¬(fld dst 15 10 ≠ 0 ∨ 8 < fld dst 8 5 ∨ bit dst 31 = true))
    (hk : ¬(fld dst 4 0 ≠ s.nodeId ∧ fld dst 4 0 ∉ s.fab.members)) (hq : 4 ≤ s.fab.sendQ[sendIdx w (bit dst 9)].length) :
    s.sendMsg c w dst pay = s.setClu c fun k => k.status stFull := by
  simp only [State.sendMsg, if_neg h, if_neg hk, if_pos hq]

theorem State.sendMsg_queued (h : ¬(fld dst 15 10 ≠ 0 ∨ 8 < fld dst 8 5 ∨ bit dst 31 = true))
    (hk : ¬(fld dst 4 0 ≠ s.nodeId ∧ fld dst 4 0 ∉ s.fab.members)) (hq : ¬ 4 ≤ s.fab.sendQ[sendIdx w (bit dst 9)].length) :
    s.sendMsg c w dst pay = ({ s with fab := { s.fab with sendQ := upd s.fab.sendQ (sendIdx w (bit dst 9)) fun l =>
      l ++ [⟨0, bit dst 9, fld dst 4 0, s.nodeId, fld dst 8 5, w.val, fld dst 31 16, s.fab.lun, pay, [], 0⟩] } } : State).setClu c
        fun k => k.status stOk := by
  simp only [State.sendMsg, if_neg h, if_neg hk, if_neg hq]

end

section
variable {s : State} {c w : Fin 9} {r : Run} {x g : Fin 16} {n : Fin 4}

/-- SEND is the send of the destination word and the payload that its registers hold. -/
theorem execWSend_eq (h : s.Running c r) (hw : s.clu[c].work = some w) (hn : g.val + n.val ≤ 15) :
    exec (.wSend c x g n) s = finish (s.insn c (3 + n.val) false fun t => (t.sendMsg c w (s.clu[c].gr x)
      ((s.clu[c].g.toList.drop g.val).take (n.val + 1)), .next)) := by
  have hclu := State.spend_clu h.2.1 (3 + n.val)
  have hwork : (s.spend c (3 + n.val)).clu[c].work = some w := by rw [hclu]; exact hw
  have hgr : (s.spend c (3 + n.val)).clu[c].gr x = s.clu[c].gr x := by rw [hclu]; rfl
  have hg : (s.spend c (3 + n.val)).clu[c].g = s.clu[c].g := by rw [hclu]
  rw [exec, execWSend, decide_eq_false (Nat.not_lt.mpr hn), State.insn_running h, State.insn_running h]
  simp only [hwork, hgr, hg]

/-- A status as the core's flags. -/
theorem State.insn_status (h : s.Running c r) {n : Nat} {f : State → State × Flow} {m : Nat}
    (hf : f (s.spend c n) = ((s.spend c n).setClu c fun k => k.status m, .next)) :
    s.insn c n false f = s.ran c r n (s.clu[c].status m) := State.insn_setClu_ran h hf fun _ => rfl

end

/-! ### FABRD (R207) -/

/-- The payload words that FABRD reads: those of the FAB cue whose handler runs. -/
def Run.fabPay (r : Run) : List Word := if r.cue.cue = 24 ∧ !r.exc then r.cue.pay else []

theorem Run.fabPay_of {r : Run} (hc : r.cue.cue = 24) (he : r.exc = false) : r.fabPay = r.cue.pay := if_pos (by simp [hc, he])

theorem Run.fabPay_other {r : Run} (hc : r.cue.cue ≠ 24 ∨ r.exc = true) : r.fabPay = [] :=
  if_neg (by rcases hc with hc | hc <;> simp [hc])

theorem execWFabrd_running {s : State} {c : Fin 9} {r : Run} (h : s.Running c r) (d : Fin 16) (n : Fin 4) :
    exec (.wFabrd c d n) s = .next (s.ran c r 1 { s.clu[c] with
      g := s.clu[c].g.set d.val (r.fabPay.getD n.val 0) d.isLt, c := decide (n.val < r.fabPay.length) }).settle := by
  have hclu := State.spend_clu h.2.1 1
  refine congrArg finish (State.insn_setClu_ran h (g := fun k => (k.setG d (r.fabPay.getD n.val 0)).cf (decide (n.val < r.fabPay.length)))
    ?_ fun _ => rfl)
  simp only [State.fabrd, hclu]
  rfl

end Sys2Proof.Machine
end

section
/-! PROOFS. Measurement reads and fabric messages of a core (R202 to R207): the statement O20. -/

open Sys2Proof Sys2Proof.Machine

namespace Sys2Proof.Proofs

/-- Settles O20: the reads by the region's gate, SEND by its checks in order, FABRD by the cue whose handler runs. -/
theorem measurementReadsAndMessages : Obligations.MeasurementReadsAndMessages := by
  intro s c w r d x g f n h hw k put me low figured resulted dst wk vc q pay st good known n3
  have hlow : (s.spend c 4).clu[c].low4 x = ⟨low % 16, by omega⟩ := by
    rw [State.spend_clu h.2.1]
    simp [Cluster.low4, fld, Cluster.gr, low, k]
  have hsend (hn : g.val + n.val ≤ 15) {t : State} (ht : s.insn c (3 + n.val) false (fun t => (t.sendMsg c w dst pay, .next)) = t) :
      exec (.wSend c x g n) s = .next t.settle := (execWSend_eq h hw hn).trans (congrArg finish ht)
  have hgood : good ↔ ¬(fld dst 15 10 ≠ 0 ∨ 8 < fld dst 8 5 ∨ bit dst 31 = true) := by
    simp only [good, wk, fld, bit_31_eq_msb, not_or, not_not, not_lt, Bool.not_eq_true]
    rfl
  have hknown : known ↔ ¬(fld dst 4 0 ≠ s.nodeId ∧ fld dst 4 0 ∉ s.fab.members) := by
    simp [known, fld, or_iff_not_imp_left]
  have hres {rg : Bool} {m : Fin 8} (hd : d.val % 2 = 0) (hx : (!rg && decide (7 < x.val)) = false)
      (hv : mod3 (if rg then (s.spend c 4).clu[c].low4 x else x) = m) : resulted rg m := by
    have hbad : (decide (d.val % 2 = 1) || (!rg && decide (7 < x.val))) = false := by rw [hx, hd]; rfl
    refine ⟨fun hm => ?_, fun hm => ⟨s.freeW &&& 0xFFFF, ?_, ?_⟩⟩
    · rw [exec, execWRdres, hbad, State.rdres_running h hm hd (w := fun t => mod3 (if rg then t.clu[c].low4 x else x)) hv, finish]
      simp only [put, Vector.set_set_ne _ _ _ (show d.val ≠ (d.val + 1) % 16 by omega), Vector.getElem_set_self, Fin.getElem_fin]
      rfl
    · exact Nat.lt_of_le_of_lt (Nat.and_le_right) (by decide)
    · rw [exec, execWRdres, hbad, State.rdres_gated h hm fun t => mod3 (if rg then t.clu[c].low4 x else x), finish]
      simp only [put, Vector.set_set_ne _ _ _ (show d.val ≠ (d.val + 1) % 16 by omega), Vector.getElem_set_self, Fin.getElem_fin]
      rfl
  have hnode : known ↔ ¬(fld dst 4 0 ≠ (s.spend c (3 + n.val)).nodeId ∧ fld dst 4 0 ∉ (s.spend c (3 + n.val)).fab.members) := by
    rw [State.spend_nodeId, State.spend_fab, hknown]
  refine ⟨⟨fun hm => ?_, fun hm => ?_⟩, ⟨fun hm => ?_, fun hm => ?_⟩, fun hd m => ⟨fun hx => ?_, fun hx => ?_⟩,
    fun hn => ⟨fun hg hk hq => ?_, fun hg hk hq => ?_, fun hg hk => ?_, fun hg => ?_⟩, fun hc he => ?_, fun hc => ?_⟩
  · exact congrArg finish (State.rdfig_running h hm f (w := fun t => if false then t.clu[c].low4 x else x) rfl)
  · exact congrArg finish (State.rdfig_gated h hm f fun t => if false then t.clu[c].low4 x else x)
  · exact congrArg finish (State.rdfig_running h hm f (w := fun t => if true then t.clu[c].low4 x else x) hlow)
  · exact congrArg finish (State.rdfig_gated h hm f fun t => if true then t.clu[c].low4 x else x)
  · exact hres hd (by simp; omega) (Fin.ext (by simp [mod3, hx]))
  · exact hres hd rfl (Fin.ext (by rw [if_pos rfl, hlow]; simp only [mod3]; omega))
  · have htype : dst.toNat / 2 ^ 16 = fld dst 31 16 := (Nat.mod_eq_of_lt (by have := dst.isLt; omega)).symm
    have hdst : dst.toNat % 32 = fld dst 4 0 := by simp [fld]
    rw [htype, hdst]
    refine hsend hn (State.insn_ran_of (g := fun k => k.status stOk) h (by exact ⟨rfl, rfl, rfl⟩) (by rfl) ?_ fun _ => rfl)
    rw [State.sendMsg_queued (hgood.mp hg) (hnode.mp hk) (by rw [State.spend_fab]; exact Nat.not_le.mpr hq), State.spend_nodeId]
    obtain ⟨m, a, g, k, ht⟩ := s.spend_parts c (3 + n.val)
    rw [ht]
    rfl
  · refine hsend hn (State.insn_status (m := stFull) h (congrArg (·, Flow.next) (State.sendMsg_full (hgood.mp hg) (hnode.mp hk) ?_)))
    rw [State.spend_fab]
    exact hq
  · exact hsend hn (State.insn_status (m := stNoBase) h (congrArg (·, Flow.next)
      (State.sendMsg_unknown (hgood.mp hg) (not_not.mp fun hb => hk (hnode.mpr hb)))))
  · exact hsend hn (State.insn_status (m := stBadDesc) h (congrArg (·, Flow.next)
      (State.sendMsg_bad (not_not.mp fun hb => hg (hgood.mpr hb)))))
  · rw [execWFabrd_running h, Run.fabPay_of hc he]
  · rw [execWFabrd_running h, Run.fabPay_other hc]
    rfl

end Sys2Proof.Proofs
end

section
/-! SUPPORT. Dispatch of a cue and the crossing of an armed comparator (R164 to R167). -/

namespace Sys2Proof.Machine

/-- The vector of a cue whose word is whole is fetched without a finding. -/
theorem State.sramWord_whole {s : State} {w : Fin 9} {i : Nat} (h : ∀ f ∈ s.inj.flips, f.1 ≠ w.val * 0x10000 + 4 * i) :
    s.sramWord w false i 0 = (s, true) := by
  have he : s.eccOf (instrBase w + 4 * i) 0 = 0 := State.eccOf_whole h 0
  simp [State.sramWord, he]

/-- An idle core dispatches its first cue. -/
theorem State.cueDispatch_next {s : State} {c w : Fin 9} {q : CueOcc} (hw : s.clu[c].work = some w) (hr : s.clu[c].runs = true)
    (hh : s.clu[c].halt = false) (hrun : s.clu[c].run = none) (hl : s.schedLive w = true) (hredo : s.clu[c].redoCue = none)
    (hq : s.work[w].nextCue (s.advanceTo (s.cueTick s.work[w])).now = some q)
    (hf : ∀ f ∈ s.inj.flips, f.1 ≠ w.val * 0x10000 + 4 * q.cue) :
    s.cueDispatch c 0 = (((s.advanceTo (s.cueTick s.work[w])).setWork w fun x => { x with cues := x.cues.erase q, armed := [] }).setClu c
      fun k => { k with
        run := some ⟨q, false, false, max (max (s.advanceTo (s.cueTick s.work[w])).now (s.clu[c].idleAt + 2)) (q.ready + 3), 0⟩,
        redoCue := none }).handlerEntry c (max (s.advanceTo (s.cueTick s.work[w])).now (s.clu[c].idleAt + 2)) q.cue q.g12
          (wordN q.cue) q.g14 (wordN q.stamp) := by
  have hw' : s.clu[c.val].work = some w := hw
  have hr' : s.clu[c.val].runs = true := hr
  have hh' : s.clu[c.val].halt = false := hh
  have hrun' : s.clu[c.val].run = none := hrun
  have hredo' : s.clu[c.val].redoCue = none := hredo
  have hf' : ∀ f ∈ (s.advanceTo (s.cueTick s.work[w])).inj.flips, f.1 ≠ w.val * 0x10000 + 4 * q.cue := by simpa using hf
  simp only [State.cueDispatch, Fin.getElem_fin, hw', hr', hh', hrun', hl, hredo', Option.isSome_none, Bool.not_true, Bool.or_self,
    Bool.false_eq_true, if_false, State.advanceTo_work]
  simp only [Fin.getElem_fin] at hq hf'
  simp only [hq, Option.map_some, State.sramWord_whole hf', if_false, Bool.false_eq_true]
  rfl

/-- An armed comparator that is crossed raises its cue and is disarmed. -/
theorem State.angleCue_fire {s : State} {w : Fin 9} {m : Fin 16} {n : Nat} (hc : (s.carrier w).isSome = true)
    (harm : s.work[w].comps[m].arm = true) (hwas : s.work[w].comps[m].was = none)
    (hl : s.compLive s.work[w].comps[m].prov = true) (hx : s.crossTick s.work[w].comps[m].angle = some n)
    (hn : s.work[w].comps[m].since < n) :
    s.angleCue w m = ((s.advanceTo n).setWork w fun k => { k with comps := upd k.comps m fun y =>
      { y with arm := false, waiting := y.rpt, fired := (s.advanceTo n).travel, was := none } }).cue w (2 + m.val) m.val 0
        (s.advanceTo n).now := by
  simp only [Fin.getElem_fin] at harm hwas hl hx hn
  simp [State.angleCue, Option.isSome_iff_ne_none.mp hc, harm, hwas, hl, hx, Nat.not_le.mpr hn]

theorem State.compRearm_behind {s : State} {w : Fin 9} {m : Fin 16} {a : Nat} (ha : s.angNow = some a)
    (h : 2 * s.pastFire s.work[w].comps[m] a ≤ s.cyc256) : s.compRearm w m = s := by
  simp only [Fin.getElem_fin] at h
  simp [State.compRearm, ha, Int.not_lt.mpr h]

theorem State.compRearm_past {s : State} {w : Fin 9} {m : Fin 16} {a : Nat} (ha : s.angNow = some a)
    (hw : s.work[w].comps[m].waiting = true) (h : s.cyc256 < 2 * s.pastFire s.work[w].comps[m] a) :
    s.compRearm w m = s.setWork w fun k => { k with comps := upd k.comps m fun y => { y with arm := true, waiting := false } } := by
  simp only [Fin.getElem_fin] at h hw
  simp [State.compRearm, ha, h, hw]

end Sys2Proof.Machine
end

section
/-! PROOFS. Cues, dispatch and crank comparators (R164 to R167): the statement O22. -/

open Sys2Proof Sys2Proof.Machine

namespace Sys2Proof.Proofs

/-- Settles O22: the dispatch as the state that it leaves, the crossing and the re-arming as what they change. -/
theorem cuesAndDispatch : Obligations.CuesAndDispatch := by
  intro s c w q m a n k x u at_
  refine ⟨fun hw hclk hr hh hrun hl hredo hq hf => ?_, fun hclk hc harm hwas hl hx hn => ?_, fun hclk ha h => ?_, fun hclk ha hw h => ?_⟩
  · rw [exec, execCueDispatch, if_pos hclk, State.cueDispatch_next hw hr hh hrun hl hredo hq hf, finish]
    have hredo' : s.clu[c.val].redoCue = none := hredo
    simp only [State.handlerEntry, State.setWork, State.setClu, upd, Vector.getElem_set_self, Vector.set_set, State.advanceTo_clu,
      State.advanceTo_work, Fin.getElem_fin]
    simp only [u, at_, k, Fin.getElem_fin, hredo']
    rfl
  · refine ⟨_, by rw [exec, execAngleCueFire, if_pos hclk, State.angleCue_fire hc harm hwas hl hx hn, finish], ?_, ?_, ?_, ?_, ?_, ?_, ?_⟩
    · rw [State.settle_work, State.cue_angle_work]
      simp only [State.setWork, upd, Vector.getElem_set_self, Fin.getElem_fin, State.advanceTo_work]
      simp only [x, Fin.getElem_fin] at hwas ⊢
      rw [hwas]
    · rw [State.settle_now, State.cue_frame]
      exact State.advanceTo_now s n
    · rw [State.settle_work, State.cue_angle_work, State.settle_now, State.cue_frame]
      exact ⟨_, by rw [Fin.getElem_fin, Vector.getElem_set_self]; exact mem_latchCue _ _, rfl, rfl, rfl⟩
    · rw [State.settle_clu, State.cue_frame]
      exact State.advanceTo_clu s n
    · rw [State.settle_mem, State.cue_frame]
      exact State.advanceTo_mem s n
    · rw [State.settle_drv, State.cue_frame]
      exact State.advanceTo_drv s n
    · rw [State.settle_edg, State.cue_frame]
      exact State.advanceTo_edg s n
  · rw [exec, execComparatorRearm, if_pos hclk, State.compRearm_behind ha h, finish]
  · rw [exec, execComparatorRearm, if_pos hclk, State.compRearm_past ha hw h, finish]
    rfl

end Sys2Proof.Proofs
end

section
/-! PROOFS. The peg instructions on a handle (R194 to R201): the statement O19 has OVFC answer the bit as it stands, where the model
answers a bit that a host write of the same TCLK has cleared as it was before that write (R201). -/

open Sys2Proof Sys2Proof.Machine

namespace Sys2Proof.Proofs

/-- A core runs, and in its present TCLK the host has cleared a set OVF of its work. -/
def coreOvfCleared : State := coreRuns.setWork 3 fun x => { x with ovfClr := some 0 }

theorem coreOvfCleared_running : coreOvfCleared.Running 3 sampleRun := by decide +kernel

/-- C of cluster 3 after a command. -/
def carryAfter : Out → Bool
  | .next t => t.clu[(3 : Fin 9)].c
  | _ => false

/-- Refutes O19: of a set OVF that the host clears in the TCLK of OVFC the instruction still answers 1 in C, and the statement has 0. -/
theorem not_pegHandles : ¬ Obligations.PegHandles := by
  intro h
  have hall := h coreOvfCleared 3 3 sampleRun 0 0 0 0 1 true coreOvfCleared_running rfl (by decide +kernel) (by decide +kernel)
    nofun nofun nofun
  have hovfc := congrArg carryAfter hall.2.2
  have hmodel : carryAfter (exec (.wOvfc 3 0) coreOvfCleared) = true := by decide +kernel
  rw [hmodel] at hovfc
  exact absurd hovfc (by decide +kernel)

end Sys2Proof.Proofs
end

section
/-! SUPPORT. ARM: its descriptor, its checks in their order, and what becomes of the peg (R119, R120, R197). -/

namespace Sys2Proof.Machine

/-! ### The descriptor (R197) -/

/-- Word n of the descriptor at an address of a work's data SRAM. -/
def State.descWord (s : State) (w : Fin 9) (a n : Nat) : Word := s.word (dataBase w + a + 4 * n)

/-- The peg that a descriptor gives, with the angle that overrides its own (R197). -/
def State.descPeg (s : State) (w : Fin 9) (a : Nat) (ang : Nat → Nat) : Peg :=
  let q := Peg.ofWords (s.descWord w a 0) (s.descWord w a 1) (s.descWord w a 2)
  { q with angle := ang q.angle }

/-- The angle that ARM takes: the descriptor's, or a register's. -/
def Cluster.armAng (k : Cluster) (src : Fin 4) (x : Fin 16) (own : Nat) : Nat :=
  if src.val = 1 then fld (k.gr x) 23 0 else if src.val = 2 then k.ar x else own

theorem State.dataRead_word {s : State} {w : Fin 9} {a n : Nat} (h4 : a % 4 = 0) (hf : ∀ f ∈ s.inj.flips, f.1 ≠ dataBase w + a + 4 * n) :
    s.dataRead w (a / 4 + n) 0 = (s, some (s.descWord w a n)) := by
  have ha : dataBase w + 4 * (a / 4 + n) = dataBase w + a + 4 * n := by omega
  have he : s.eccOf (dataBase w + a + 4 * n) 0 = 0 := State.eccOf_whole hf 0
  simp [State.dataRead, State.sramWord, ha, he, State.descWord]

/-- A descriptor without an error is read whole. -/
theorem State.descRead_whole {s : State} {w : Fin 9} {a : Nat} (h4 : a % 4 = 0)
    (hf : ∀ n < 4, ∀ f ∈ s.inj.flips, f.1 ≠ dataBase w + a + 4 * n) : s.descRead w a
      = (s, some (s.descWord w a 0, s.descWord w a 1, s.descWord w a 2, s.descWord w a 3)) := by
  have h0 := State.dataRead_word h4 (hf 0 (by decide))
  have h1 := State.dataRead_word h4 (hf 1 (by decide))
  have h2 := State.dataRead_word h4 (hf 2 (by decide))
  have h3 := State.dataRead_word h4 (hf 3 (by decide))
  rw [Nat.add_zero] at h0
  simp only [State.descRead, h0, h1, h2, h3]

section
variable {s : State} {c w : Fin 9} {r : Run} {d b x : Fin 16} {src : Fin 4} {a : Nat}

/-- An ARM on a whole descriptor judges it in its last TCLK. -/
theorem execWArm_whole (h : s.Running c r) (hw : s.clu[c].work = some w) (hsrc : (decide (src.val = 3) || (decide (src.val = 2) && aBad x)) = false)
    (ha : (s.clu[c].gr b).toNat = a) (h4 : a % 4 = 0) (hmax : a ≤ 0x1FF0)
    (hf : ∀ n < 4, ∀ f ∈ s.inj.flips, f.1 ≠ dataBase w + a + 4 * n)
    (hc : (s.ranTo c r 8 s.clu[c].pc s.clu[c]).caughtUp = s.ranTo c r 8 s.clu[c].pc s.clu[c]) :
    exec (.wArm c d b x src) s = finish (s.insn c 8 false fun t =>
      t.armPeg c w d (s.descPeg w a (s.clu[c].armAng src x)) (s.descWord w a 2) (s.descWord w a 3)) := by
  have hclu := State.spend_clu h.2.1 8
  have hwork : (s.spend c 8).clu[c].work = some w := by rw [hclu]; exact hw
  have hgr (i : Fin 16) : (s.spend c 8).clu[c].gr i = s.clu[c].gr i := by rw [hclu]; rfl
  have har (i : Fin 16) : (s.spend c 8).clu[c].ar i = s.clu[c].ar i := by rw [hclu]; rfl
  have hword (n : Nat) : (s.spend c 8).descWord w a n = s.descWord w a n := State.word_congr (State.spend_mem s c 8) _
  have hread := State.descRead_whole (s := s.spend c 8) (w := w) h4 (by rwa [State.spend_inj])
  rw [← State.spend_eq_ranTo h.2.1] at hc
  rw [exec, execWArm, hsrc, State.insn_running h, State.insn_running h]
  simp only [State.armFrom, hwork, hgr, har, ha, h4, hmax, decide_true, Bool.and_self, Bool.not_true, Bool.false_eq_true, if_false, hread,
    hc, hword]
  rfl

end

/-! ### The checks in their order (R119) -/

/-- A message changes the collector, the driver-die link and the registers. -/
theorem State.emit_parts (s : State) (cls kind src ctx : Nat) :
    ∃ co l g h, s.emit cls kind src ctx = { s with coll := co, links := l, regs := g, hwSet := h } :=
  ⟨_, _, _, _, s.emit_frame cls kind src ctx⟩

/-- What a refused ARM leaves of its core: all ones in gd and the status. -/
def Cluster.armFail (d : Fin 16) (m : Nat) (k : Cluster) : Cluster := ((k.setG d 0xFFFFFFFF).status m).wf false

section
variable {t : State} {c w : Fin 9} {d : Fin 16} {p : Peg} {d2 d3 : Word}

theorem State.armFail_eq (t : State) (c : Fin 9) (d : Fin 16) (m : Nat) :
    (t.setClu c fun k => k.setG d 0xFFFFFFFF).pegStatus c m false = t.setClu c (Cluster.armFail d m) := by
  simp [State.pegStatus, State.setClu, upd, Cluster.armFail]

theorem State.armPeg_badDesc (hb : t.badDesc p d2 d3 = true) :
    t.armPeg c w d p d2 d3 = (t.setClu c (Cluster.armFail d stBadDesc), .next) := by
  simp only [State.armPeg, hb, if_true, State.armFail_eq]

theorem State.armPeg_notOwner (hb : t.badDesc p d2 d3 = false) (ho : t.notOwner c p = true) :
    t.armPeg c w d p d2 d3 = t.abandon c 3 none := by
  simp only [State.armPeg, hb, ho, if_true, Bool.false_eq_true, if_false]

/-- The same with a run that may repeat pegs of the handler it redoes (R175). -/
theorem State.armPeg_fired {r : Run} (hr : t.clu[c].run = some r) (hb : t.badDesc p d2 d3 = false) (ho : t.notOwner c p = false)
    (hredo : r.redo = true) (hl : p.owner ∈ t.work[w].runLog) :
    t.armPeg c w d p d2 d3 = (t.setClu c (Cluster.armFail d stFiredBefore), .next) := by
  simp only [State.armPeg, hb, ho, hr, hredo, hl, if_true, Bool.false_eq_true, if_false, State.armFail_eq, decide_true, Bool.and_self]

theorem State.armPeg_noBase {r : Run} (hr : t.clu[c].run = some r) (hb : t.badDesc p d2 d3 = false) (ho : t.notOwner c p = false)
    (hredo : r.redo = false) (hrel : p.rel = true) (hbase : t.runningBase p = none) (hnext : t.nextBase w p = none) :
    t.armPeg c w d p d2 d3 = (t.setClu c (Cluster.armFail d stNoBase), .next) := by
  simp only [State.armPeg, hb, ho, hr, hredo, hrel, hbase, hnext, if_true, Bool.false_eq_true, if_false, State.armFail_eq,
    Bool.false_and, Option.isNone_none, Bool.and_self]

/-- A work without a free slot counts an overflow and says so (R121). -/
def State.slotsFull (t : State) (w : Fin 9) (p : Peg) : State :=
  ((t.setWork w fun x => { x with ovf := true }).hw (Reg.schedStat.addr (t.counterOf w) 0) 1).emit 1 Kind.slotFull
    (srcC 0 (t.counterOf w).val 0xF) (p.owner % 4096)

theorem State.armPeg_full {r : Run} (hr : t.clu[c].run = some r) (hb : t.badDesc p d2 d3 = false) (ho : t.notOwner c p = false)
    (hredo : r.redo = false) (hrel : (p.rel && (t.runningBase p).isNone && (t.nextBase w p).isNone) = false) (hfree : t.freeSlot w = none) :
    t.armPeg c w d p d2 d3 = ((t.slotsFull w p).setClu c (Cluster.armFail d stFull), .next) := by
  simp only [State.armPeg, hb, ho, hr, hredo, hrel, hfree, Bool.false_eq_true, if_false, State.armFail_eq, Bool.false_and]
  rfl

theorem State.slotsFull_parts (t : State) (w : Fin 9) (p : Peg) : ∃ co l g h, t.slotsFull w p = { t with
    work := t.work.set w.val { t.work[w] with ovf := true } w.isLt, coll := co, links := l, regs := g, hwSet := h } := by
  obtain ⟨co, l, g, h, he⟩ := State.emit_parts ((t.setWork w fun x => { x with ovf := true }).hw (Reg.schedStat.addr (t.counterOf w) 0) 1)
    1 Kind.slotFull (srcC 0 (t.counterOf w).val 0xF) (p.owner % 4096)
  exact ⟨co, l, g, h, by rw [State.slotsFull, he]; rfl⟩

end

end Sys2Proof.Machine
end

section
/-! PROOFS. The refusals of ARM (R119): the statement O18. -/

open Sys2Proof Sys2Proof.Machine

namespace Sys2Proof.Proofs

/-- Settles O18: the checks in their order on the descriptor that ARM reads. -/
theorem armRefusals : Obligations.ArmRefusals := by
  intro s c w r d b h hw k a word p failed t h4 hmax hf hc
  have hgo := execWArm_whole (src := 0) (x := 0) (d := d) h hw rfl rfl h4 hmax hf hc
  have hspend : s.spend c 8 = t := State.spend_eq_ranTo h.2.1 8
  have hrun : t.clu[c].run = some { r with spent := r.spent + 8 } := by simp [t, State.ranTo]
  have hwork : t.work = s.work := by simp [t, State.ranTo, State.atEnd]
  have refused {m : Nat} {k' : Cluster} (hr : t.armPeg c w d p (word 2) (word 3) = (t.setClu c (Cluster.armFail d m), .next))
      (hk : ∀ q, Cluster.armFail d m { k with run := q } = { k' with pc := k.pc, run := q }) :
      exec (.wArm c d b 0 0) s = .next (s.ran c r 8 k').settle :=
    hgo.trans (congrArg finish (State.insn_setClu_ran h (by rw [hspend]; exact hr) hk))
  refine ⟨fun hb => refused (State.armPeg_badDesc hb) fun _ => rfl, fun hb => ⟨fun ho => ?_, fun ho hredo hl => ?_,
    fun ho hredo hrel hbase hnext => ?_, fun ho hredo hrel hfree => ?_⟩⟩
  · exact hgo.trans (congrArg finish (State.insn_abandon h (by rw [hspend]; exact State.armPeg_notOwner hb ho)))
  · exact refused (State.armPeg_fired hrun hb ho hredo (by rw [hwork]; exact hl)) fun _ => rfl
  · exact refused (State.armPeg_noBase hrun hb ho hredo hrel hbase hnext) fun _ => rfl
  · have hfull := State.armPeg_full (w := w) (d := d) hrun hb ho hredo (by rw [hrel]; rfl) hfree
    obtain ⟨co, l, g, hs, hparts⟩ := t.slotsFull_parts w p
    rw [hparts] at hfull
    refine ⟨_, hgo.trans (congrArg finish (State.insn_next h (by rw [hspend]; exact hfull))), ?_, ?_, ?_, ?_, ?_⟩
    · simp [State.setClu]
    · simp [State.setClu, hwork]
    · simp [State.setClu, upd, t, State.ranTo, State.ran, State.atEnd]
      rfl
    · simp [State.setClu, t, State.ranTo, State.atEnd]
    · simp [State.setClu, t, State.ranTo, State.atEnd]

end Sys2Proof.Proofs
end

section
/-! SUPPORT. What the operations on pegs change, and what becomes of a slot (R118, R122, R132, R136, R224). -/

namespace Sys2Proof.Machine

/-! ### The frame of a peg's operations -/

/-- The second state differs from the first only in the works, the registers, the collector, the links, the trace rings and the edge
generator. -/
def State.PegFrame (s t : State) : Prop :=
  ∃ v g h co l tr e, t = { s with work := v, regs := g, hwSet := h, coll := co, links := l, trc := tr, edg := e }

theorem State.PegFrame.refl (s : State) : s.PegFrame s := ⟨_, _, _, _, _, _, _, rfl⟩

theorem State.PegFrame.trans {s t u : State} (h : s.PegFrame t) (h' : t.PegFrame u) : s.PegFrame u := by
  obtain ⟨v, g, hs, co, l, tr, e, rfl⟩ := h
  obtain ⟨v', g', hs', co', l', tr', e', rfl⟩ := h'
  exact ⟨v', g', hs', co', l', tr', e', rfl⟩

section
variable {s t : State} (h : s.PegFrame t)
include h
theorem State.PegFrame.now : t.now = s.now := by obtain ⟨v, g, hs, co, l, tr, e, rfl⟩ := h; rfl
theorem State.PegFrame.clu : t.clu = s.clu := by obtain ⟨v, g, hs, co, l, tr, e, rfl⟩ := h; rfl
theorem State.PegFrame.mem : t.mem = s.mem := by obtain ⟨v, g, hs, co, l, tr, e, rfl⟩ := h; rfl
theorem State.PegFrame.drv : t.drv = s.drv := by obtain ⟨v, g, hs, co, l, tr, e, rfl⟩ := h; rfl
theorem State.PegFrame.inj : t.inj = s.inj := by obtain ⟨v, g, hs, co, l, tr, e, rfl⟩ := h; rfl
end

/-- A step that may be left out. -/
theorem State.PegFrame.ite {s t u : State} {p : Prop} [Decidable p] (ht : s.PegFrame t) (hu : s.PegFrame u) :
    s.PegFrame (if p then t else u) := by
  split
  · exact ht
  · exact hu

theorem State.PegFrame.foldl {α : Type} {f : State → α → State} (hf : ∀ (t : State) (x : α), t.PegFrame (f t x)) (l : List α) (s : State) :
    s.PegFrame (l.foldl f s) := by
  induction l generalizing s with
  | nil => exact .refl s
  | cons x l ih => exact (hf s x).trans (ih _)

theorem State.pegFrame_setWork (s : State) (w : Fin 9) (f : Work → Work) : s.PegFrame (s.setWork w f) := ⟨_, _, _, _, _, _, _, rfl⟩

theorem State.pegFrame_setRf (s : State) (r : RegRow) (i hi lo v : Nat) : s.PegFrame (s.setRf r i hi lo v) := ⟨_, _, _, _, _, _, _, rfl⟩

theorem State.pegFrame_setPeg (s : State) (w : Fin 9) (k : Fin 32) (f : Peg → Peg) : s.PegFrame (s.setPeg w k f) :=
  s.pegFrame_setWork ..

theorem State.pegFrame_bump (s : State) (r : RegRow) (i hi lo : Nat) : s.PegFrame (s.bump r i hi lo) :=
  ⟨_, _, _, _, _, _, _, s.bump_frame r i hi lo⟩

theorem State.pegFrame_emit (s : State) (cls kind src ctx : Nat) : s.PegFrame (s.emit cls kind src ctx) :=
  ⟨_, _, _, _, _, _, _, s.emit_frame cls kind src ctx⟩

theorem State.pegFrame_raiseCue (s : State) (w : Fin 9) (q : CueOcc) : s.PegFrame (s.raiseCue w q) :=
  ⟨_, _, _, _, _, _, _, s.raiseCue_frame w q⟩

theorem State.pegFrame_ddlSend (s : State) (x : Xfer) : s.PegFrame (s.ddlSend x) := ⟨_, _, _, _, _, _, _, rfl⟩
theorem State.pegFrame_setECh (s : State) (c : Fin 32) (f : EdgeCh → EdgeCh) : s.PegFrame (s.setECh c f) := ⟨_, _, _, _, _, _, _, rfl⟩
theorem State.pegFrame_setEIgn (s : State) (n : Fin 24) (f : EdgeIgn → EdgeIgn) : s.PegFrame (s.setEIgn n f) := ⟨_, _, _, _, _, _, _, rfl⟩
theorem State.pegFrame_setRing (s : State) (r : Fin 3) (f : Ring → Ring) : s.PegFrame (s.setRing r f) := ⟨_, _, _, _, _, _, _, rfl⟩

theorem State.pegFrame_ringDrop (s : State) (r : Fin 3) : s.PegFrame (s.ringDrop r) :=
  (State.PegFrame.ite (s.pegFrame_emit ..) (.refl s)).trans ((State.pegFrame_bump ..).trans (State.pegFrame_setRing ..))

theorem State.pegFrame_ringStage (s : State) (r : Fin 3) (slot : List Nat) : s.PegFrame (s.ringStage r slot) :=
  .ite (.refl s) (.ite (s.pegFrame_ringDrop r) (s.pegFrame_setRing ..))

theorem State.pegFrame_pegLog (s : State) (w : Fin 9) (k : Fin 32) (p : Peg) (o l r : Nat) : s.PegFrame (s.pegLog w k p o l r) :=
  .ite (.refl s) (s.pegFrame_ringStage ..)

theorem State.pegFrame_pegCue (s : State) (w : Fin 9) (k : Fin 32) (p : Peg) (o l : Nat) : s.PegFrame (s.pegCue w k p o l) :=
  .ite (s.pegFrame_raiseCue ..) (.refl s)

theorem State.pegFrame_selSend (s : State) (c : Fin 32) : s.PegFrame (s.selSend c) := by
  unfold State.selSend
  dsimp only
  split
  · exact (s.pegFrame_setECh ..).trans (State.pegFrame_ddlSend ..)
  · exact s.pegFrame_setECh ..

theorem State.pegFrame_selOf (s : State) (p : Peg) : s.PegFrame (s.selOf p) := by
  unfold State.selOf
  split
  · exact .ite (.ite (.refl s) (s.pegFrame_selSend _)) (.refl s)
  · exact .refl s

/-- A peg whose slot is released with an outcome at a TCLK (R122, R196). -/
def Peg.ended (p : Peg) (outcome late now : Nat) : Peg := { p with
  st := .free, inst := none, ideal := 0, late := none, base := none, tD := none, spark := false, mute := 0
  early := false, reason := 0, last := outcome, lateAmt := if outcome = 2 then min late 65535 else p.lateAmt
  freedAt := some now, mirBad := false }

/-- The counts of a released peg (R151, R152). -/
def State.countEnd (s : State) (p : Peg) (c : Fin 9) (outcome : Nat) : State :=
  let fired := if p.issues then s.bumpWrap Reg.schedFired c 31 0 else s
  match outcome with
  | 1 => fired
  | 2 => fired.bump Reg.schedCnt c 15 0
  | 3 => s.bump Reg.schedCnt c 31 16
  | _ => s

theorem State.pegFrame_countEnd (s : State) (p : Peg) (c : Fin 9) (o : Nat) : s.PegFrame (s.countEnd p c o) := by
  have hfired : s.PegFrame (if p.issues then s.bumpWrap Reg.schedFired c 31 0 else s) := .ite (s.pegFrame_setRf ..) (.refl s)
  unfold State.countEnd
  dsimp only
  generalize (if p.issues then s.bumpWrap Reg.schedFired c 31 0 else s) = fired at hfired
  split
  · exact hfired
  · exact hfired.trans (State.pegFrame_bump ..)
  · exact s.pegFrame_bump ..
  · exact .refl s

theorem State.countEnd_work (s : State) (p : Peg) (c : Fin 9) (o : Nat) : (s.countEnd p c o).work = s.work := by
  have hfired : (if p.issues then s.bumpWrap Reg.schedFired c 31 0 else s).work = s.work := by split <;> rfl
  unfold State.countEnd
  dsimp only
  generalize (if p.issues then s.bumpWrap Reg.schedFired c 31 0 else s) = fired at hfired
  split
  · exact hfired
  · exact (State.bump_work ..).trans hfired
  · exact State.bump_work ..
  · rfl

/-- A release is the end of the slot's peg, its counts, and the log and cue of its outcome. -/
theorem State.release_eq (s : State) (w : Fin 9) (k : Fin 32) (o l r : Nat) (quiet : Bool) : s.release w k o l r quiet
    = (if quiet then (s.setPeg w k fun _ => s.work[w].slots[k].ended o l s.now).countEnd s.work[w].slots[k] (s.counterOf w) o
      else (((s.setPeg w k fun _ => s.work[w].slots[k].ended o l s.now).countEnd s.work[w].slots[k] (s.counterOf w) o).pegLog w k
        s.work[w].slots[k] o l r).pegCue w k s.work[w].slots[k] o l).selOf s.work[w].slots[k] := rfl

theorem State.pegFrame_release (s : State) (w : Fin 9) (k : Fin 32) (o l r : Nat) (quiet : Bool) :
    s.PegFrame (s.release w k o l r quiet) := by
  rw [State.release_eq]
  have hend := (s.pegFrame_setPeg w k fun _ => s.work[w].slots[k].ended o l s.now).trans
    (State.pegFrame_countEnd _ s.work[w].slots[k] (s.counterOf w) o)
  exact (State.PegFrame.ite hend (hend.trans ((State.pegFrame_pegLog ..).trans (State.pegFrame_pegCue ..)))).trans (State.pegFrame_selOf ..)

theorem State.pegFrame_baseLost (s : State) (w : Fin 9) (was : Option Peg) (o : Nat) : s.PegFrame (s.baseLost w was o) :=
  .foldl (fun _ _ => .ite ((State.pegFrame_emit ..).trans (State.pegFrame_release ..)) (.refl _)) _ s

theorem State.pegFrame_skip (s : State) (w : Fin 9) (k : Fin 32) (kind reason : Nat) : s.PegFrame (s.skip w k kind reason) :=
  (s.pegFrame_emit ..).trans ((State.pegFrame_release ..).trans (State.pegFrame_baseLost ..))

theorem State.pegFrame_cancelPeg (s : State) (w : Fin 9) (k : Fin 32) (o : Nat) (quiet : Bool) : s.PegFrame (s.cancelPeg w k o quiet) :=
  (s.pegFrame_release ..).trans (State.pegFrame_baseLost ..)

theorem State.pegFrame_softOff (s : State) (w : Fin 9) (k : Fin 32) (reason : Nat) : s.PegFrame (s.softOff w k reason) := by
  unfold State.softOff
  dsimp only
  split
  · exact .refl s
  · exact (s.pegFrame_setPeg ..).trans ((State.pegFrame_setEIgn ..).trans (State.pegFrame_ddlSend ..))

theorem State.pegFrame_peakSlots (s : State) (w : Fin 9) : s.PegFrame (s.peakSlots w) := .ite (s.pegFrame_setRf ..) (.refl s)

/-! ### What becomes of the works -/

/-- A cue of a work stands in its queue or is lost. -/
theorem State.raiseCue_cues (s : State) (w : Fin 9) (q : CueOcc) :
    ∃ cs, (s.raiseCue w q).work = s.work.set w.val { s.work[w] with cues := cs } w.isLt := by
  unfold State.raiseCue
  dsimp only
  split
  · split
    · exact ⟨_, by rw [State.bump_work]; rfl⟩
    · exact ⟨_, rfl⟩
  · split
    · exact ⟨_, rfl⟩
    · exact ⟨s.work[w].cues, by rw [State.emit_work, State.bump_work]; exact (Vector.set_getElem_self w.isLt).symm⟩

theorem State.pegCue_cues (s : State) (w : Fin 9) (k : Fin 32) (p : Peg) (o l : Nat) :
    ∃ cs, (s.pegCue w k p o l).work = s.work.set w.val { s.work[w] with cues := cs } w.isLt := by
  unfold State.pegCue
  dsimp only
  split
  · exact s.raiseCue_cues ..
  · exact ⟨s.work[w].cues, (Vector.set_getElem_self w.isLt).symm⟩

theorem State.ringStage_work (s : State) (r : Fin 3) (slot : List Nat) : (s.ringStage r slot).work = s.work := by
  unfold State.ringStage State.ringDrop
  split
  · rfl
  · split
    · dsimp only
      split
      · exact (State.bump_work ..).trans (State.emit_work ..)
      · exact State.bump_work ..
    · rfl

theorem State.pegLog_work (s : State) (w : Fin 9) (k : Fin 32) (p : Peg) (o l r : Nat) : (s.pegLog w k p o l r).work = s.work := by
  unfold State.pegLog
  split
  · rfl
  · exact State.ringStage_work ..

theorem State.selOf_work (s : State) (p : Peg) : (s.selOf p).work = s.work := by
  unfold State.selOf State.selUpdate State.selSend
  dsimp only
  split
  · split
    · split
      · rfl
      · split <;> rfl
    · rfl
  · rfl

/-- A released peg's slot is free with its outcome, and its work may have a cue of it. -/
theorem State.release_work (s : State) (w : Fin 9) (k : Fin 32) (o l r : Nat) (quiet : Bool) :
    ∃ cs, (s.release w k o l r quiet).work = s.work.set w.val { s.work[w] with
      slots := s.work[w].slots.set k.val (s.work[w].slots[k].ended o l s.now) k.isLt, cues := cs } w.isLt := by
  rw [State.release_eq, State.selOf_work]
  split
  · exact ⟨s.work[w].cues, State.countEnd_work ..⟩
  · obtain ⟨cs, hcs⟩ := (((s.setPeg w k fun _ => s.work[w].slots[k].ended o l s.now).countEnd s.work[w].slots[k] (s.counterOf w) o).pegLog
      w k s.work[w].slots[k] o l r).pegCue_cues w k s.work[w].slots[k] o l
    refine ⟨cs, ?_⟩
    rw [hcs, State.pegLog_work, State.countEnd_work]
    simp [State.setPeg, State.setWork, upd, Peg.ended]

/-- The second state has a work's sequence counter and one of its slots as the first. -/
def State.KeepsSlot (w : Fin 9) (j : Fin 32) (s t : State) : Prop :=
  t.work[w].seq = s.work[w].seq ∧ t.work[w].slots[j] = s.work[w].slots[j]

theorem State.KeepsSlot.trans {w : Fin 9} {j : Fin 32} {s t u : State} (h : s.KeepsSlot w j t) (h' : t.KeepsSlot w j u) :
    s.KeepsSlot w j u := ⟨h'.1.trans h.1, h'.2.trans h.2⟩

theorem State.keepsSlot_of_work {w : Fin 9} {j : Fin 32} {s t : State} (h : t.work = s.work) : s.KeepsSlot w j t :=
  ⟨by rw [h], by rw [h]⟩

theorem State.keepsSlot_release (s : State) (w : Fin 9) {j k : Fin 32} (h : k ≠ j) (o l r : Nat) (quiet : Bool) :
    s.KeepsSlot w j (s.release w k o l r quiet) := by
  obtain ⟨cs, hcs⟩ := s.release_work w k o l r quiet
  constructor
  · simp [hcs]
  · simp [hcs, Vector.getElem_set_ne _ _ (Fin.val_ne_of_ne h)]

/-- A lost base releases waiting pegs only. -/
theorem State.keepsSlot_baseLost (s : State) (w : Fin 9) (was : Option Peg) (o : Nat) {j : Fin 32} (h : s.work[w].slots[j].st ≠ .waiting) :
    s.KeepsSlot w j (s.baseLost w was o) := by
  unfold State.baseLost
  generalize List.finRange 32 = l
  induction l generalizing s with
  | nil => exact State.keepsSlot_of_work rfl
  | cons k l ih =>
    have hstep : s.KeepsSlot w j (if s.work[w].slots[k].st = .waiting ∧ was.any fun p => decide (s.work[w].slots[k].ach = p.ach) then
        (s.pegNote 0 Kind.pegSkip w k s.work[w].slots[k] 2).release w k (if o = 3 then 3 else 5) 0 2 false else s) := by
      split
      · next hw =>
        have hkj : k ≠ j := fun e => h (e ▸ hw.1)
        exact (State.keepsSlot_of_work (State.emit_work ..)).trans (State.keepsSlot_release _ w hkj ..)
      · exact State.keepsSlot_of_work rfl
    exact hstep.trans (ih _ (by rw [hstep.2]; exact h))

/-- A skipped peg's slot is free with outcome 3. -/
theorem State.skip_slot (s : State) (w : Fin 9) (k : Fin 32) (kind reason : Nat) :
    (s.skip w k kind reason).work[w].seq = s.work[w].seq
      ∧ ∃ l, (s.skip w k kind reason).work[w].slots[k] = s.work[w].slots[k].ended 3 l s.now := by
  have hnote : (s.pegNote 0 kind w k s.work[w].slots[k] reason).work = s.work := State.emit_work ..
  have hnow : (s.pegNote 0 kind w k s.work[w].slots[k] reason).now = s.now := (State.pegFrame_emit ..).now
  obtain ⟨cs, hcs⟩ := (s.pegNote 0 kind w k s.work[w].slots[k] reason).release_work w k 3
    (if kind = Kind.pegSkip ∧ reason = 1 then s.work[w].slots[k].late.getD 0 else 0) reason false
  rw [hnote, hnow] at hcs
  have hk := State.keepsSlot_baseLost ((s.pegNote 0 kind w k s.work[w].slots[k] reason).release w k 3
    (if kind = Kind.pegSkip ∧ reason = 1 then s.work[w].slots[k].late.getD 0 else 0) reason false) w (s.asBase w k) 3 (j := k)
    (by rw [hcs]; simp [Peg.ended])
  obtain ⟨hseq, hslot⟩ := hk
  refine ⟨hseq.trans (by rw [hcs]; simp), _, hslot.trans (by rw [hcs]; simp; rfl)⟩

/-! ### The judgement of a peg that is no coil (R126, R130, R131, R141) -/

/-- The free TCLK of a line do not depend on what a slot holds beyond the line of its peg and its dwell. -/
theorem State.lineFree_congr {s t : State} {w : Fin 9} {k : Fin 32} (he : t.edg = s.edg) (hd : t.drv = s.drv) (hn : t.now = s.now)
    (hach : t.work[w].slots[k].ach = s.work[w].slots[k].ach) (hign : t.work[w].slots[k].ign = s.work[w].slots[k].ign)
    (htd : t.work[w].slots[k].tD = s.work[w].slots[k].tD)
    (hother : ∀ v : Fin 9, ∀ j : Fin 32, ¬(v = w ∧ j = k) → t.work[v].slots[j] = s.work[v].slots[j]) (f : Nat) :
    t.lineFree w k f = s.lineFree w k f := by
  have hline : t.work[w].slots[k].line = s.work[w].slots[k].line := by simp only [Peg.line, hach, hign]
  have hbar (n : Fin 24) (x : Nat) : t.dwellBar n x = s.dwellBar n x := by simp only [State.dwellBar, he, hd, hn]
  unfold State.lineFree
  simp only [hach, hign, htd, hline, he, hbar]
  generalize s.work[w].slots[k].line = l
  cases l with
  | none => rfl
  | some l =>
    refine List.foldl_ext _ _ _ fun a v _ => List.foldl_ext _ _ _ fun a j _ => ?_
    by_cases hvj : v = w ∧ j = k
    · simp [hvj]
    · rw [hother v j hvj]

end Sys2Proof.Machine
end

section
/-! SUPPORT. The judgement of a peg that is no coil, and the placement of a peg by ARM (R120, R130, R131, R136, R141). -/

namespace Sys2Proof.Machine

/-! ### The judgement (R130) -/

/-- A peg's lateness for an ideal and a fire instant, in the unit of its kind. -/
def Peg.lateness (p : Peg) (g : Seg) (ideal fire : Nat) : Nat := if p.rel then lateDclk ideal fire else lateAt g ideal fire

/-- A state after the judgement of a peg with its ideal and its fire instant: the peg is aimed, or skipped as late. -/
structure State.Judged (w : Fin 9) (k : Fin 32) (g : Seg) (ideal fire : Nat) (s t : State) : Prop where
  frame : s.PegFrame t
  seq : t.work[w].seq = s.work[w].seq
  onTime : fire ≤ ideal → t.work[w].slots[k] = { s.work[w].slots[k] with
    st := .aimed, inst := some fire, ideal := ideal, late := none, mirBad := false }
  late : ideal < fire → s.work[w].slots[k].lateness g ideal fire ≤ s.work[w].slots[k].latetol →
    t.work[w].slots[k] = { s.work[w].slots[k] with
      st := .aimed, inst := some fire, ideal := ideal, late := some (s.work[w].slots[k].lateness g ideal fire), mirBad := false }
  skipped : ideal < fire → s.work[w].slots[k].latetol < s.work[w].slots[k].lateness g ideal fire →
    t.work[w].slots[k].st = .free ∧ t.work[w].slots[k].last = 3 ∧ t.work[w].slots[k].freedAt = some s.now

theorem State.setPeg_slot (s : State) (w : Fin 9) (k : Fin 32) (f : Peg → Peg) :
    (s.setPeg w k f).work[w].slots[k] = { f s.work[w].slots[k] with mirBad := false } := by
  simp [State.setPeg, State.setWork, upd]

theorem State.setPeg_seq (s : State) (w : Fin 9) (k : Fin 32) (f : Peg → Peg) : (s.setPeg w k f).work[w].seq = s.work[w].seq := by
  simp [State.setPeg, State.setWork, upd]

section
variable {s : State} {w : Fin 9} {k : Fin 32} (g : Seg) {ideal e fire : Nat}

/-- The lateness that a peg keeps: none where it is on time. -/
def Peg.lateOf (p : Peg) (g : Seg) (ideal fire : Nat) : Option Nat := if fire ≤ ideal then none else some (p.lateness g ideal fire)

theorem State.settlePeg_edge (hcoil : s.work[w].slots[k].isCoil = false)
    (hf : max (max ideal e) (s.lineFree w k (max ideal e)) = fire) : s.settlePeg g w k ideal e
      = if (s.work[w].slots[k].lateOf g ideal fire).getD 0 ≤ s.work[w].slots[k].latetol then
          (s.setPeg w k fun p => { p with
            st := .aimed, inst := some fire, ideal := ideal, late := s.work[w].slots[k].lateOf g ideal fire }).selOf s.work[w].slots[k]
        else (s.setPeg w k fun p => { p with late := s.work[w].slots[k].lateOf g ideal fire }).skip w k Kind.pegSkip 1 := by
  simp only [Fin.getElem_fin] at hcoil
  unfold State.settlePeg Peg.lateOf Peg.lateness
  cases htd : s.work[w.val].slots[k.val].tD <;>
    simp only [Fin.getElem_fin, htd, hcoil, hf, Bool.false_and, Bool.false_eq_true, if_false]

theorem State.settlePeg_judged (hcoil : s.work[w].slots[k].isCoil = false)
    (hf : max (max ideal e) (s.lineFree w k (max ideal e)) = fire) : s.Judged w k g ideal fire (s.settlePeg g w k ideal e) := by
  have aimed {late : Option Nat} (hl : (if fire ≤ ideal then none else some (s.work[w].slots[k].lateness g ideal fire)) = late)
      (ht : late.getD 0 ≤ s.work[w].slots[k].latetol) : s.PegFrame (s.settlePeg g w k ideal e)
        ∧ (s.settlePeg g w k ideal e).work[w].seq = s.work[w].seq ∧ (s.settlePeg g w k ideal e).work[w].slots[k]
          = { s.work[w].slots[k] with st := .aimed, inst := some fire, ideal := ideal, late := late, mirBad := false } := by
    rw [State.settlePeg_edge g hcoil hf, show s.work[w].slots[k].lateOf g ideal fire = late from hl, if_pos ht]
    exact ⟨(s.pegFrame_setPeg ..).trans (State.pegFrame_selOf ..), by rw [State.selOf_work, State.setPeg_seq],
      by rw [State.selOf_work, State.setPeg_slot]⟩
  rcases Nat.lt_or_ge ideal fire with hl | hl
  · rcases Nat.lt_or_ge s.work[w].slots[k].latetol (s.work[w].slots[k].lateness g ideal fire) with ht | ht
    · have hskip := (s.setPeg w k fun p => { p with late := some (s.work[w].slots[k].lateness g ideal fire) }).skip_slot w k Kind.pegSkip 1
      obtain ⟨hseq, l, hslot⟩ := hskip
      have hlate : s.work[w].slots[k].lateOf g ideal fire = some (s.work[w].slots[k].lateness g ideal fire) := if_neg (Nat.not_le.mpr hl)
      have heq := State.settlePeg_edge g hcoil hf
      rw [hlate, if_neg (by simpa using ht)] at heq
      rw [← heq] at hseq hslot
      refine ⟨?_, hseq.trans (State.setPeg_seq ..), fun h => absurd h (by omega), fun _ h => absurd h (by omega), fun _ _ => ?_⟩
      · rw [heq]
        exact (s.pegFrame_setPeg ..).trans (State.pegFrame_skip ..)
      · rw [hslot]
        exact ⟨rfl, rfl, rfl⟩
    · obtain ⟨hframe, hseq, hslot⟩ := aimed (if_neg (Nat.not_le.mpr hl)) ht
      exact ⟨hframe, hseq, fun h => absurd h (by omega), fun _ _ => hslot, fun _ h => absurd h (by omega)⟩
  · obtain ⟨hframe, hseq, hslot⟩ := aimed (if_pos hl) (Nat.zero_le _)
    exact ⟨hframe, hseq, fun _ => hslot, fun h => absurd h (by omega), fun h => absurd h (by omega)⟩

end

/-! ### The judgement of ARM and REAIM (R131) -/

section
variable {s : State} {w : Fin 9} {k : Fin 32} {he : Int} {g : Seg}

/-- How far an angle lies ahead of the model's present angle, in 1/256 at. -/
def State.farOf (s : State) (g : Seg) (x : Int) : Int := wrapHalf s.cyc256 (x - s.segAng g (16 * s.now))

/-- A peg kept by ARM or REAIM with its angle outside the horizon. -/
def Peg.asAhead (p : Peg) : Peg := { p with st := .armed, inst := none }

theorem State.judge_closed (hh : s.edg.heOld = none) (arm : Bool) :
    s.judge w k arm = (if arm then s.setPeg w k Peg.asAhead else s, false) := by
  simp only [State.judge, hh]
  rfl

theorem State.judge_edge (hh : s.edg.heOld = some he) (hg : s.segAt s.now = some g) (hk : s.keptOut s.work[w].slots[k] = false)
    (hcoil : s.work[w].slots[k].isCoil = false) (arm : Bool) : s.judge w k arm =
      (let far := s.farOf g (256 * (s.work[w].slots[k].angle : Int))
      let passed := decide (far ≤ 0) && (!arm || decide (-far ≤ 256 * (s.work[w].slots[k].latetol : Int)))
      let inside := decide (0 < far) && decide (far ≤ s.farOf g he)
      if passed || inside then
        (s.settlePeg g w k (s.aim g s.work[w].slots[k].angle s.work[w].slots[k].tofs) (16 * (s.now + 16)), passed)
      else (s.setPeg w k Peg.asAhead, false)) := by
  simp only [Fin.getElem_fin] at hk hcoil
  simp only [State.judge, hh, hg, Fin.getElem_fin, hk, hcoil, Bool.false_eq_true, if_false]
  rfl

end

section
variable {s t : State} (h : t.cyc256 = s.cyc256)
include h

/-- Distances depend on the cycle alone. -/
theorem State.aim_congr (g : Seg) (angle : Nat) (tofs : Int) : t.aim g angle tofs = s.aim g angle tofs := by
  have hd : t.distOf g angle = s.distOf g angle := by rw [State.distOf, State.distOf, h]
  unfold State.aim
  rw [hd]

theorem State.farOf_congr (hn : t.now = s.now) (g : Seg) (x : Int) : t.farOf g x = s.farOf g x := by
  simp only [State.farOf, State.segAng, h, hn]

end

/-! ### SCHED_STAT.PEAK (R152) -/

theorem State.peakSlots_eq (s : State) (w : Fin 9) : s.peakSlots w = { s with regs := (s.peakSlots w).regs } := by
  unfold State.peakSlots
  dsimp only
  split <;> rfl

/-- The peak depends on the registers, the carriers and the count of occupied slots alone. -/
theorem State.peakSlots_regs_congr {s t : State} {w : Fin 9} (hr : t.regs = s.regs) (hc : t.clu = s.clu)
    (ho : t.occupied w = s.occupied w) : (t.peakSlots w).regs = (s.peakSlots w).regs := by
  have hcount : t.counterOf w = s.counterOf w := by simp only [State.counterOf, State.home, hc]
  have hrf : t.rf Reg.schedStat (s.counterOf w).val 21 16 = s.rf Reg.schedStat (s.counterOf w).val 21 16 := by
    simp only [State.rf, State.rg, hr]
  unfold State.peakSlots
  dsimp only
  rw [hcount, hrf, ho]
  split
  · simp only [State.setRf, State.setRg, State.rg, hr]
  · exact hr

theorem schedStat_apart : ∀ c : Fin 9, Reg.whlSyncCfg.addr 0 0 ≠ Reg.schedStat.addr c.val 0
    ∧ Reg.fabCfg.addr 0 0 ≠ Reg.schedStat.addr c.val 0 := by decide

theorem State.peakSlots_rg (s : State) (w : Fin 9) {q : RegRow} (h : ∀ c : Fin 9, q.addr 0 0 ≠ Reg.schedStat.addr c.val 0) :
    (s.peakSlots w).rg q 0 0 = s.rg q 0 0 := by
  unfold State.peakSlots
  dsimp only
  split
  · exact State.setRg_rg_ne s _ q _ _ _ _ _ (h _)
  · rfl

theorem State.peakSlots_cycle (s : State) (w : Fin 9) : (s.peakSlots w).cycle = s.cycle := by
  unfold State.cycle State.rb
  rw [State.peakSlots_rg s w fun c => (schedStat_apart c).1]

theorem State.peakSlots_sync (s : State) (w : Fin 9) : (s.peakSlots w).sync = s.sync := by
  unfold State.sync State.rb
  rw [State.peakSlots_rg s w fun c => (schedStat_apart c).2, State.peakSlots_eq]

/-! ### The placement (R120, R136) -/

/-- The peg that ARM puts into a slot, in its first state. -/
def State.fullPeg (s : State) (w : Fin 9) (j : Fin 32) (p : Peg) (st : PegState) : Peg := { p with
  seq := s.work[w].seq, last := s.work[w].slots[j].last, lateAmt := s.work[w].slots[j].lateAmt, st := st
  dws := s.dwellSet p.profile, resBad := s.pegInj w j, armAngle := p.angle, armTofs := p.tofs }

/-- A peg stands in a slot and its work has counted it. -/
def State.putPeg (s : State) (w : Fin 9) (j : Fin 32) (q : Peg) : State := { s with
  work := s.work.set w.val { s.work[w] with
    slots := s.work[w].slots.set j.val q j.isLt, seq := (s.work[w].seq + 1) % 4096, armed := s.work[w].armed ++ [s.work[w].seq] } w.isLt
  inj := { s.inj with residue :=
    (s.inj.residue.erase (srcC 0 (s.counterOf w).val (j.val % 16))).erase (srcC 0 0xB w.val) } }

/-- An injected residue of the mirror spoils the entry of the peg, where it still stands. -/
def State.spoilPeg (s : State) (w : Fin 9) (j : Fin 32) (bad : Bool) : State := s.setWork w fun x => { x with
  slots := upd x.slots j fun q => { q with mirBad := bad && decide (q.st ≠ .free) } }

section
variable {t : State} {w : Fin 9} {j : Fin 32} {p : Peg}

theorem State.placePeg_angle (hrel : p.rel = false) : t.placePeg w j p
    = (((((t.putPeg w j (t.fullPeg w j p .armed)).peakSlots w).judge w j true).1.spoilPeg w j (t.mirInj w)).selOf p,
      (((t.putPeg w j (t.fullPeg w j p .armed)).peakSlots w).judge w j true).2) := by
  simp only [State.placePeg, hrel, Bool.false_and, Bool.false_eq_true, if_false]
  rfl

theorem State.placePeg_base (hrel : p.rel = true) {b : Nat} (hb : t.runningBase p = some b) : t.placePeg w j p
    = ((((t.putPeg w j (t.fullPeg w j p .armed)).peakSlots w).settleRel w j b).spoilPeg w j (t.mirInj w), false) := by
  simp only [State.placePeg, hrel, hb, Option.isNone_some, Bool.and_false, Bool.false_eq_true, if_false, if_true]
  rfl

theorem State.placePeg_waiting (hrel : p.rel = true) (hb : t.runningBase p = none) : t.placePeg w j p
    = (((t.putPeg w j (t.fullPeg w j p .waiting)).peakSlots w).spoilPeg w j (t.mirInj w), false) := by
  simp only [State.placePeg, hrel, hb, Option.isNone_none, Bool.and_self, if_true]
  rfl

/-- The count of occupied slots depends on the peg's state alone. -/
theorem State.occupied_putPeg {q q' : Peg} (h : q'.st = q.st) : (t.putPeg w j q').occupied w = (t.putPeg w j q).occupied w := by
  unfold State.occupied
  congr 1
  refine List.filter_congr fun k _ => ?_
  by_cases hk : j.val = k.val
  · simp [State.putPeg, hk, h]
  · simp [State.putPeg, hk]

/-- Spoiling the entry after its placement is placing it spoiled. -/
theorem State.spoilPeg_put {q q' : Peg} (bad : Bool) (hst : q.st ≠ .free) (hq : q' = { q with mirBad := bad }) :
    ((t.putPeg w j q).peakSlots w).spoilPeg w j bad = (t.putPeg w j q').peakSlots w := by
  subst hq
  rw [State.peakSlots_eq, State.peakSlots_eq (t.putPeg w j { q with mirBad := bad }),
    State.peakSlots_regs_congr (t := t.putPeg w j { q with mirBad := bad }) (s := t.putPeg w j q) rfl rfl (State.occupied_putPeg rfl)]
  simp [State.spoilPeg, State.putPeg, State.setWork, upd, hst]

theorem State.setPeg_put {q : Peg} {f : Peg → Peg} (h : { f q with mirBad := false } = q) :
    ((t.putPeg w j q).peakSlots w).setPeg w j f = (t.putPeg w j q).peakSlots w := by
  rw [State.peakSlots_eq]
  simp [State.setPeg, State.putPeg, State.setWork, upd, h]

end

theorem State.spoilPeg_slot (s : State) (w : Fin 9) (j : Fin 32) (bad : Bool) : (s.spoilPeg w j bad).work[w].slots[j]
    = { s.work[w].slots[j] with mirBad := bad && decide (s.work[w].slots[j].st ≠ .free) } := by
  simp [State.spoilPeg, State.setWork, upd]

theorem State.spoilPeg_seq (s : State) (w : Fin 9) (j : Fin 32) (bad : Bool) : (s.spoilPeg w j bad).work[w].seq = s.work[w].seq := by
  simp [State.spoilPeg, State.setWork, upd]

/-- A state after the placement of a peg q and its judgement. -/
structure State.Placed (w : Fin 9) (j : Fin 32) (q : Peg) (g : Seg) (ideal fire : Nat) (t v : State) : Prop where
  clu : v.clu = t.clu
  mem : v.mem = t.mem
  seq : v.work[w].seq = (t.work[w].seq + 1) % 4096
  onTime : fire ≤ ideal → v.work[w].slots[j] = { q with
    st := .aimed, inst := some fire, ideal := ideal, late := none, mirBad := t.mirInj w }
  late : ideal < fire → q.lateness g ideal fire ≤ q.latetol → v.work[w].slots[j] = { q with
    st := .aimed, inst := some fire, ideal := ideal, late := some (q.lateness g ideal fire), mirBad := t.mirInj w }
  skipped : ideal < fire → q.latetol < q.lateness g ideal fire →
    v.work[w].slots[j].st = .free ∧ v.work[w].slots[j].last = 3 ∧ v.work[w].slots[j].freedAt = some t.now

section
variable {t : State} {w : Fin 9} {j : Fin 32} {p q : Peg} {g : Seg} {ideal fire : Nat}

/-- The placed peg in the state in which it is judged. -/
theorem State.peakSlots_put (t : State) (w : Fin 9) (j : Fin 32) (q : Peg) :
    ∃ g, (t.putPeg w j q).peakSlots w = { t.putPeg w j q with regs := g } := ⟨_, State.peakSlots_eq ..⟩

theorem State.putPeg_slot (t : State) (w : Fin 9) (j : Fin 32) (q : Peg) : (t.putPeg w j q).work[w].slots[j] = q := by simp [State.putPeg]

theorem State.putPeg_seq (t : State) (w : Fin 9) (j : Fin 32) (q : Peg) :
    (t.putPeg w j q).work[w].seq = (t.work[w].seq + 1) % 4096 := by simp [State.putPeg]

/-- The judgement of a placed peg, with its entry spoiled where an injection says so. -/
theorem State.Judged.placed {z y v : State} (hJ : z.Judged w j g ideal fire y) (hz : z.work[w].slots[j] = q) (hzs : z.work[w].seq = (t.work[w].seq + 1) % 4096)
    (hzc : z.clu = t.clu) (hzm : z.mem = t.mem) (hzn : z.now = t.now) (hvw : v.work = (y.spoilPeg w j (t.mirInj w)).work)
    (hvc : v.clu = y.clu) (hvm : v.mem = y.mem) : State.Placed w j q g ideal fire t v := by
  obtain ⟨hframe, hseq, hon, hlt, hsk⟩ := hJ
  have hslot : v.work[w].slots[j] = { y.work[w].slots[j] with mirBad := t.mirInj w && decide (y.work[w].slots[j].st ≠ .free) } := by
    rw [hvw, State.spoilPeg_slot]
  rw [hz] at hon hlt hsk
  refine ⟨hvc.trans (hframe.clu.trans hzc), hvm.trans (hframe.mem.trans hzm), ?_, fun hle => ?_, fun h1 h2 => ?_, fun h1 h2 => ?_⟩
  · rw [hvw, State.spoilPeg_seq, hseq, hzs]
  · rw [hslot, hon hle]
    simp
  · rw [hslot, hlt h1 h2]
    simp
  · rw [hslot, ← hzn]
    exact hsk h1 h2

/-- The segment that stands for none where a peg is held by a base. -/
def Seg.none : Seg := ⟨0, 0, 0, 0, 0, false, 0, false⟩

/-- A peg with its base. -/
def Peg.withBase (b : Nat) (p : Peg) : Peg := { p with base := some b }

theorem State.lineFree_base {s : State} {b f : Nat} : (s.setPeg w j (Peg.withBase b)).lineFree w j f = s.lineFree w j f := by
  refine State.lineFree_congr (s := s) (t := s.setPeg w j (Peg.withBase b)) rfl rfl rfl ?_ ?_ ?_ (fun v i h => ?_) f
  · rw [State.setPeg_slot]; rfl
  · rw [State.setPeg_slot]; rfl
  · rw [State.setPeg_slot]; rfl
  · by_cases hv : v = w
    · subst hv
      have hi : j.val ≠ i.val := fun e => h ⟨rfl, (Fin.ext e).symm⟩
      simp [State.setPeg, State.setWork, upd, Vector.getElem_set_ne _ _ hi]
    · simp [State.setPeg, State.setWork, upd, Vector.getElem_set_ne _ _ (fun e => hv (Fin.ext e).symm)]

theorem State.settleRel_judged {s : State} {b : Nat} (hcoil : s.work[w].slots[j].isCoil = false)
    (hi : ((b : Int) + 64 * (s.work[w].slots[j].angle : Int) + s.work[w].slots[j].tofs).toNat = ideal)
    (hf : max (max ideal (16 * (s.now + 16))) (s.lineFree w j (max ideal (16 * (s.now + 16)))) = fire) :
    (s.setPeg w j (Peg.withBase b)).Judged w j Seg.none ideal fire (s.settleRel w j b) := by
  have hslot := s.setPeg_slot w j (Peg.withBase b)
  have hrel : s.settleRel w j b = (s.setPeg w j (Peg.withBase b)).settlePeg Seg.none w j ((b : Int)
      + 64 * ((s.setPeg w j (Peg.withBase b)).work[w].slots[j].angle : Int) + (s.setPeg w j (Peg.withBase b)).work[w].slots[j].tofs).toNat
      (16 * ((s.setPeg w j (Peg.withBase b)).now + 16)) := rfl
  have hideal : ((b : Int) + 64 * ((s.setPeg w j (Peg.withBase b)).work[w].slots[j].angle : Int)
      + (s.setPeg w j (Peg.withBase b)).work[w].slots[j].tofs).toNat = ideal := by rw [hslot]; exact hi
  rw [hrel, hideal]
  exact State.settlePeg_judged _ (by rw [hslot]; exact hcoil) (by rw [State.lineFree_base]; exact hf)

theorem State.placePeg_rel (hrel : p.rel = true) (hcoil : p.isCoil = false) {b : Nat} (hb : t.runningBase p = some b)
    (hi : ((b : Int) + 64 * (p.angle : Int) + p.tofs).toNat = ideal)
    (hf : max (max ideal (16 * (t.now + 16))) ((t.putPeg w j (t.fullPeg w j p .armed)).lineFree w j (max ideal (16 * (t.now + 16)))) = fire) :
    ∃ v, t.placePeg w j p = (v, false)
      ∧ State.Placed w j { t.fullPeg w j p .armed with base := some b, mirBad := false } Seg.none ideal fire t v := by
  refine ⟨_, State.placePeg_base hrel hb, ?_⟩
  obtain ⟨rg, hpeak⟩ := t.peakSlots_put w j (t.fullPeg w j p .armed)
  have hput := State.putPeg_slot t w j (t.fullPeg w j p .armed)
  rw [hpeak]
  generalize hz : ({ t.putPeg w j (t.fullPeg w j p .armed) with regs := rg } : State) = z
  have hzp : z.work[w].slots[j] = t.fullPeg w j p .armed := by rw [← hz]; exact hput
  have hzn : z.now = t.now := by rw [← hz]; rfl
  have hJ := State.settleRel_judged (s := z) (w := w) (j := j) (b := b) (ideal := ideal) (fire := fire) (by rw [hzp]; exact hcoil)
    (by rw [hzp]; exact hi) (by rw [← hz]; exact hf)
  refine hJ.placed ?_ ?_ ?_ ?_ hzn rfl rfl rfl
  · rw [State.setPeg_slot, hzp]; rfl
  · rw [State.setPeg_seq, ← hz]; exact State.putPeg_seq ..
  · rw [← hz]; rfl
  · rw [← hz]; rfl

/-- The spoiled entry of a peg that stands as it was placed. -/
def Peg.spoiled (q : Peg) (bad : Bool) : Peg := { q with mirBad := bad }

/-- The peg's angle is kept out of the horizon: it stays ARMED. -/
theorem State.placePeg_outside (hrel : p.rel = false) (hi : p.inst = none) (hm : p.mirBad = false)
    (hj : ((t.putPeg w j (t.fullPeg w j p .armed)).peakSlots w).judge w j true
      = (((t.putPeg w j (t.fullPeg w j p .armed)).peakSlots w).setPeg w j Peg.asAhead, false)) : t.placePeg w j p
    = (((t.putPeg w j ((t.fullPeg w j p .armed).spoiled (t.mirInj w))).peakSlots w).selOf p, false) := by
  have hahead : { Peg.asAhead (t.fullPeg w j p .armed) with mirBad := false } = t.fullPeg w j p .armed := by
    simp only [Peg.asAhead, State.fullPeg, hi, hm]
  rw [State.placePeg_angle hrel, hj, State.setPeg_put hahead, State.spoilPeg_put (t.mirInj w) (show PegState.armed ≠ .free from nofun) rfl]
  rfl

theorem State.placePeg_closed (hrel : p.rel = false) (hi : p.inst = none) (hm : p.mirBad = false) (hh : t.edg.heOld = none) :
    t.placePeg w j p = (((t.putPeg w j ((t.fullPeg w j p .armed).spoiled (t.mirInj w))).peakSlots w).selOf p, false) :=
  State.placePeg_outside hrel hi hm (State.judge_closed (by rw [State.peakSlots_eq]; exact hh) true)

theorem State.placePeg_based (hrel : p.rel = true) (hb : t.runningBase p = none) : t.placePeg w j p
    = ((t.putPeg w j ((t.fullPeg w j p .waiting).spoiled (t.mirInj w))).peakSlots w, false) := by
  rw [State.placePeg_waiting hrel hb, State.spoilPeg_put (t.mirInj w) (show PegState.waiting ≠ .free from nofun) rfl]
  rfl

section
variable {he : Int} (hcoil : p.isCoil = false) (hk : t.keptOut p = false) (hh : t.edg.heOld = some he) (hg : t.segAt t.now = some g)
include hcoil hk hh hg

/-- The judgement of a placed peg by where its angle lies in the horizon. -/
theorem State.judge_put : ((t.putPeg w j (t.fullPeg w j p .armed)).peakSlots w).judge w j true =
    (let far := t.farOf g (256 * (p.angle : Int))
    let passed := decide (far ≤ 0) && decide (-far ≤ 256 * (p.latetol : Int))
    let inside := decide (0 < far) && decide (far ≤ t.farOf g he)
    if passed || inside then (((t.putPeg w j (t.fullPeg w j p .armed)).peakSlots w).settlePeg g w j (t.aim g p.angle p.tofs)
      (16 * (t.now + 16)), passed)
    else (((t.putPeg w j (t.fullPeg w j p .armed)).peakSlots w).setPeg w j Peg.asAhead, false)) := by
  have hcyc : ((t.putPeg w j (t.fullPeg w j p .armed)).peakSlots w).cyc256 = t.cyc256 :=
    congrArg (fun n : Nat => 256 * (n : Int)) (State.peakSlots_cycle ..)
  have hsync : ((t.putPeg w j (t.fullPeg w j p .armed)).peakSlots w).sync = t.sync := State.peakSlots_sync ..
  obtain ⟨rg, hpeak⟩ := t.peakSlots_put w j (t.fullPeg w j p .armed)
  have hput := State.putPeg_slot t w j (t.fullPeg w j p .armed)
  rw [hpeak] at hcyc hsync ⊢
  generalize hz : ({ t.putPeg w j (t.fullPeg w j p .armed) with regs := rg } : State) = z at hcyc hsync ⊢
  have hzp : z.work[w].slots[j] = t.fullPeg w j p .armed := by rw [← hz]; exact hput
  have hzn : z.now = t.now := by rw [← hz]; rfl
  have hkept : z.keptOut z.work[w].slots[j] = false := by
    rw [hzp, State.keptOut, hsync]; exact hk
  rw [State.judge_edge (by rw [← hz]; exact hh) (by rw [← hz]; exact hg) hkept (by rw [hzp]; exact hcoil) true,
    State.farOf_congr hcyc hzn, State.farOf_congr hcyc hzn, State.aim_congr hcyc, hzp, hzn]
  rfl

theorem State.placePeg_far (hrel : p.rel = false) (hi : p.inst = none) (hm : p.mirBad = false)
    (h1 : ¬(t.farOf g (256 * (p.angle : Int)) ≤ 0 ∧ -t.farOf g (256 * (p.angle : Int)) ≤ 256 * (p.latetol : Int)))
    (h2 : ¬(0 < t.farOf g (256 * (p.angle : Int)) ∧ t.farOf g (256 * (p.angle : Int)) ≤ t.farOf g he)) : t.placePeg w j p
    = (((t.putPeg w j ((t.fullPeg w j p .armed).spoiled (t.mirInj w))).peakSlots w).selOf p, false) :=
  State.placePeg_outside hrel hi hm ((State.judge_put hcoil hk hh hg).trans (if_neg (by simp; omega)))

theorem State.placePeg_near (hrel : p.rel = false) {passed : Bool}
    (hp : (decide (t.farOf g (256 * (p.angle : Int)) ≤ 0) && decide (-t.farOf g (256 * (p.angle : Int)) ≤ 256 * (p.latetol : Int))) = passed)
    (hin : passed = true ∨ (0 < t.farOf g (256 * (p.angle : Int)) ∧ t.farOf g (256 * (p.angle : Int)) ≤ t.farOf g he))
    (hi : t.aim g p.angle p.tofs = ideal)
    (hf : max (max ideal (16 * (t.now + 16))) ((t.putPeg w j (t.fullPeg w j p .armed)).lineFree w j (max ideal (16 * (t.now + 16)))) = fire) :
    ∃ v, t.placePeg w j p = (v, passed) ∧ State.Placed w j (t.fullPeg w j p .armed) g ideal fire t v := by
  have hj := State.judge_put (w := w) (j := j) hcoil hk hh hg
  dsimp only at hj
  rw [hp, if_pos (by simpa using hin), hi] at hj
  refine ⟨_, by rw [State.placePeg_angle hrel, hj], ?_⟩
  obtain ⟨rg, hpeak⟩ := t.peakSlots_put w j (t.fullPeg w j p .armed)
  have hput := State.putPeg_slot t w j (t.fullPeg w j p .armed)
  rw [hpeak]
  generalize hz : ({ t.putPeg w j (t.fullPeg w j p .armed) with regs := rg } : State) = z
  have hzp : z.work[w].slots[j] = t.fullPeg w j p .armed := by rw [← hz]; exact hput
  have hJ := State.settlePeg_judged (s := z) (w := w) (k := j) g (ideal := ideal) (e := 16 * (t.now + 16)) (fire := fire)
    (by rw [hzp]; exact hcoil) (by rw [← hz]; exact hf)
  refine hJ.placed hzp ?_ ?_ ?_ ?_ (State.selOf_work ..) (State.pegFrame_selOf ..).clu (State.pegFrame_selOf ..).mem
  · rw [← hz]; exact State.putPeg_seq ..
  · rw [← hz]; rfl
  · rw [← hz]; rfl
  · rw [← hz]; rfl

end

end

/-- A relative peg that ARM accepts is an OFF peg (R117). -/
theorem isCoil_of_rel {t : State} {p : Peg} {d2 d3 : Word} (hb : t.badDesc p d2 d3 = false) (hrel : p.rel = true) : p.isCoil = false := by
  simp only [State.badDesc, hrel, Bool.or_eq_false_iff, Bool.true_and, Bool.not_eq_false'] at hb
  obtain ⟨⟨-, hoff⟩, -⟩ := hb
  simp only [Peg.isOff, Bool.or_eq_true, decide_eq_true_eq] at hoff
  simp only [Peg.isCoil, decide_eq_false_iff_not]
  omega

/-- The core that an ARM with status OK leaves: the handle in gd and W. -/
def Cluster.armTold (k : Cluster) (d : Fin 16) (h : Word) (passed : Bool) (x : Cluster) : Cluster := { x with
  pc := k.pc + 1, g := k.g.set d.val h d.isLt, z := false, n := false, c := true, v := false, w := passed }

section
variable {s : State} {c w : Fin 9} {r : Run} {d b x : Fin 16} {src : Fin 4} {a : Nat} {j : Fin 32} {p : Peg}

theorem State.armPeg_placed {t : State} {d2 d3 : Word} {r : Run} (hr : t.clu[c].run = some r) (hb : t.badDesc p d2 d3 = false)
    (ho : t.notOwner c p = false) (hredo : r.redo = false)
    (hbase : (p.rel && (t.runningBase p).isNone && (t.nextBase w p).isNone) = false) (hfree : t.freeSlot w = some j) :
    t.armPeg c w d p d2 d3 = (((t.placePeg w j p).1.setClu c fun x => x.setG d (handleOf j t.work[w].seq)).pegStatus c stOk
      (t.placePeg w j p).2, .next) := by
  simp only [State.armPeg, hb, ho, hr, hredo, hbase, hfree, Bool.false_eq_true, if_false, Bool.false_and]

/-- An ARM that passes its checks leaves the placement of its peg, and tells its core. -/
theorem execWArm_placed (h : s.Running c r)
    (hgo : exec (.wArm c d b x src) s = finish (s.insn c 8 false fun t => t.armPeg c w d p (s.descWord w a 2) (s.descWord w a 3)))
    (hb : (s.ranTo c r 8 s.clu[c].pc s.clu[c]).badDesc p (s.descWord w a 2) (s.descWord w a 3) = false)
    (ho : (s.ranTo c r 8 s.clu[c].pc s.clu[c]).notOwner c p = false) (hredo : r.redo = false)
    (hbase : (p.rel && ((s.ranTo c r 8 s.clu[c].pc s.clu[c]).runningBase p).isNone
      && ((s.ranTo c r 8 s.clu[c].pc s.clu[c]).nextBase w p).isNone) = false)
    (hfree : (s.ranTo c r 8 s.clu[c].pc s.clu[c]).freeSlot w = some j) {u : State} {passed : Bool}
    (hu : (s.ranTo c r 8 s.clu[c].pc s.clu[c]).placePeg w j p = (u, passed))
    (hclu : u.clu = (s.ranTo c r 8 s.clu[c].pc s.clu[c]).clu) :
    exec (.wArm c d b x src) s = .next (u.setClu c (s.clu[c].armTold d (handleOf j s.work[w].seq) passed)).settle := by
  have hrun : (s.ranTo c r 8 s.clu[c].pc s.clu[c]).clu[c] = { s.clu[c] with run := some { r with spent := r.spent + 8 } } := by
    simp [State.ranTo]
  have hseq : (s.ranTo c r 8 s.clu[c].pc s.clu[c]).work[w].seq = s.work[w].seq := by simp [State.ranTo, State.atEnd]
  have harm := State.armPeg_placed (d := d) (r := { r with spent := r.spent + 8 }) (by rw [hrun]) hb ho hredo hbase hfree
  rw [hu, hseq] at harm
  rw [hgo, State.insn_next h (by rw [State.spend_eq_ranTo h.2.1]; exact harm), finish]
  have huc : u.clu[c.val] = { s.clu[c] with run := some { r with spent := r.spent + 8 } } := by rw [← hrun, hclu]; rfl
  simp [State.pegStatus, State.setClu, upd, huc, Cluster.armTold, Cluster.setG, Cluster.status, Cluster.wf, stOk]
  rfl

end

end Sys2Proof.Machine
end

section
/-! PROOFS. ARM of a peg that passes its checks (R119, R120, R131, R136, R197): the statement O17. -/

open Sys2Proof Sys2Proof.Machine

namespace Sys2Proof.Proofs

/-- Settles O17: the placement by whether the peg is held by angle or by a base, and by where its angle lies in the horizon. -/
theorem armPlacesPeg : Obligations.ArmPlacesPeg := by
  intro s c w r d b x j src h hw k a word q p t h4 hmax hf hc hsrc hb ho hredo hfree full u told go armed judged
  have hbad : (decide (src.val = 3) || (decide (src.val = 2) && aBad x)) = false := by
    have h3 : src.val ≠ 3 := by omega
    by_cases h2 : src = 2
    · simp [aBad_of_lt (hsrc h2), h3]
    · simp [h3, show src.val ≠ 2 from fun e => h2 (Fin.ext e)]
  have hp : s.descPeg w a (k.armAng ⟨src.val, by omega⟩ x) = p := by
    have hang : k.armAng ⟨src.val, by omega⟩ x q.angle
        = if src = 1 then (k.g[x] : Word).toNat % 2 ^ 24 else if src = 2 then k.a[x.val % 8].toNat else q.angle := by
      fin_cases src
      · rfl
      · simp [Cluster.armAng, fld, Cluster.gr]
      · rfl
    simp only [p]
    rw [← hang]
    rfl
  have hgo := execWArm_whole (src := ⟨src.val, by omega⟩) (x := x) (d := d) (a := a) h hw hbad rfl h4 hmax hf hc
  rw [hp] at hgo
  have hwork : t.work = s.work := by simp [t, State.ranTo, State.atEnd]
  have hmem : t.mem = s.mem := by simp [t, State.ranTo, State.atEnd]
  have hinj : t.inj = s.inj := by simp [t, State.ranTo, State.atEnd]
  have hedg : t.edg = s.edg := by simp [t, State.ranTo, State.atEnd]
  have hfull (st : PegState) : t.fullPeg w j p st = full st false := by simp only [State.fullPeg, hwork]; rfl
  have hput (st : PegState) (bad : Bool) : t.putPeg w j (full st bad) = u st bad := by simp only [State.putPeg, hwork, hinj]; rfl
  have placed {v : State} {passed : Bool} (hbase : (p.rel && (t.runningBase p).isNone && (t.nextBase w p).isNone) = false)
      (hv : t.placePeg w j p = (v, passed)) (hclu : v.clu = t.clu) : go = .next (v.setClu c fun k' => told k' passed).settle :=
    execWArm_placed h hgo hb ho hredo hbase hfree hv hclu
  have hbad0 (st : PegState) : full st (t.mirInj w) = (t.fullPeg w j p st).spoiled (t.mirInj w) := by rw [hfull]; rfl
  have angled (hrel : p.rel = false) : (p.rel && (t.runningBase p).isNone && (t.nextBase w p).isNone) = false := by rw [hrel]; rfl
  have isArmed (hrel : p.rel = false) (hpl : t.placePeg w j p
      = (((t.putPeg w j ((t.fullPeg w j p .armed).spoiled (t.mirInj w))).peakSlots w).selOf p, false)) : go = armed := by
    rw [← hbad0, hput] at hpl
    exact placed (angled hrel) hpl ((State.pegFrame_selOf ..).clu.trans (State.pegFrame_peakSlots ..).clu)
  have isJudged {v : State} {g : Seg} {ideal : Nat} {late : Nat → Nat} {passed : Bool}
      (hbase : (p.rel && (t.runningBase p).isNone && (t.nextBase w p).isNone) = false) (hv : t.placePeg w j p = (v, passed))
      (hJ : State.Placed w j { full .armed false with base := if p.rel then t.runningBase p else none } g ideal
        (max (max ideal (16 * (t.now + 16))) ((u .armed false).lineFree w j (max ideal (16 * (t.now + 16))))) t v)
      (hlate : ∀ f, p.lateness g ideal f = late f) : judged ideal late passed := by
    obtain ⟨hclu, hm, hseq, hon, hlt, hsk⟩ := hJ
    refine ⟨_, placed hbase hv hclu, ?_, hm.trans hmem, hseq.trans (by rw [hwork]), hon, fun h1 h2 => ?_, fun h1 h2 => ?_⟩
    · simp [State.setClu, upd, hclu]
    · rw [← hlate] at h2 ⊢
      exact hlt h1 h2
    · rw [← hlate] at h2
      exact hsk h1 h2
  refine ⟨fun hrel hh => isArmed hrel (State.placePeg_closed hrel rfl rfl (hedg ▸ hh)),
    fun hrel hcoil hk he hhe g hg => ?_, fun hrel n hn => ?_, fun hrel hn hnext => ?_⟩
  · intro now far edge ideal
    have hh : t.edg.heOld = some he := by rw [hedg]; exact hhe
    have hlate (f : Nat) : p.lateness g ideal f = lateAt g ideal f := by rw [Peg.lateness, hrel]; rfl
    have outside (h1 : ¬(far ≤ 0 ∧ -far ≤ 256 * (p.latetol : Int))) (h2 : ¬(0 < far ∧ far ≤ edge)) : go = armed :=
      isArmed hrel (State.placePeg_far hcoil hk hh hg hrel rfl rfl h1 h2)
    have within {passed : Bool} (hp : (decide (far ≤ 0) && decide (-far ≤ 256 * (p.latetol : Int))) = passed)
        (hin : passed = true ∨ (0 < far ∧ far ≤ edge)) : judged ideal (lateAt g ideal) passed := by
      obtain ⟨v, hv, hJ⟩ := State.placePeg_near (w := w) (j := j) hcoil hk hh hg hrel hp hin rfl rfl
      rw [hfull, hput] at hJ
      refine isJudged (angled hrel) hv ?_ hlate
      rw [hrel]
      exact hJ
    refine ⟨fun h1 h2 => outside (by omega) (by omega), fun h1 => outside (by omega) (by omega),
      fun h1 h2 => within (by simp; omega) (.inr ⟨h1, h2⟩), fun h1 h2 => within ?_ (.inl rfl)⟩
    simp
    omega
  · intro ideal
    have hcoil : p.isCoil = false := isCoil_of_rel hb hrel
    obtain ⟨v, hv, hJ⟩ := State.placePeg_rel (t := t) (w := w) (j := j) (ideal := ideal) hrel hcoil hn rfl rfl
    rw [hfull, hput] at hJ
    refine isJudged (g := Seg.none) (by rw [hn]; simp) hv ?_ fun f => by rw [Peg.lateness, hrel]; rfl
    rw [hrel, if_pos rfl, show t.runningBase p = some n from hn]
    exact hJ
  · have hpl := State.placePeg_based (t := t) (w := w) (j := j) hrel hn
    rw [← hbad0, hput] at hpl
    refine placed ?_ hpl (State.pegFrame_peakSlots ..).clu
    rw [Option.isNone_eq_false_iff.mpr hnext, Bool.and_false]

end Sys2Proof.Proofs
end

section
/-! SUPPORT. The fields of an instruction word, and the words that R180 makes illegal (R179, R180, R184). -/

namespace Sys2Proof.Machine

/-- The word with an opcode, the fields d and s and the 18 bits below them (R179). -/
def wordOf (op : Nat) (d s : Fin 16) (rest : Nat) : Word := BitVec.ofNat 32 (op * 2 ^ 26 + d.val * 2 ^ 22 + s.val * 2 ^ 18 + rest)

/-! ### The fields -/

section
variable {op rest : Nat} {d s : Fin 16} (ho : op < 64) (hr : rest < 2 ^ 18)
include ho hr

theorem wordOf_toNat : (wordOf op d s rest).toNat = op * 2 ^ 26 + d.val * 2 ^ 22 + s.val * 2 ^ 18 + rest := by
  rw [wordOf, BitVec.toNat_ofNat, Nat.mod_eq_of_lt (by omega)]

theorem wordOf_opcode : fld (wordOf op d s rest) 31 26 = op := by
  rw [fld, wordOf_toNat ho hr]
  omega

theorem wordOf_d : nibble (wordOf op d s rest) 22 = d := by
  apply Fin.ext
  simp only [nibble, fld, wordOf_toNat ho hr]
  omega

theorem wordOf_s : nibble (wordOf op d s rest) 18 = s := by
  apply Fin.ext
  simp only [nibble, fld, wordOf_toNat ho hr]
  omega

/-- A field below the two register fields. -/
theorem wordOf_low {hi lo : Nat} (h : hi < 18) (hl : lo ≤ hi) : fld (wordOf op d s rest) hi lo = fld (BitVec.ofNat 32 rest) hi lo := by
  have hsplit : op * 2 ^ 26 + d.val * 2 ^ 22 + s.val * 2 ^ 18 + rest
      = rest + (op * 2 ^ 8 + d.val * 2 ^ 4 + s.val) * 2 ^ (17 - hi) * 2 ^ (hi + 1 - lo) * 2 ^ lo := by
    rw [mul_assoc, mul_assoc, ← pow_add, ← pow_add, show 17 - hi + (hi + 1 - lo + lo) = 18 by omega]
    ring
  rw [fld, fld, wordOf_toNat ho hr, BitVec.toNat_ofNat, Nat.mod_eq_of_lt (show rest < 2 ^ 32 by omega), hsplit,
    Nat.add_mul_div_right _ _ (Nat.two_pow_pos lo), Nat.add_mul_mod_self_right]

theorem wordOf_t {t : Fin 16} (h : rest / 2 ^ 14 % 16 = t.val) : nibble (wordOf op d s rest) 14 = t := by
  apply Fin.ext
  have hf := wordOf_low (d := d) (s := s) ho hr (show 17 < 18 by decide) (show 14 ≤ 17 by decide)
  rw [fld, fld, BitVec.toNat_ofNat, Nat.mod_eq_of_lt (show rest < 2 ^ 32 by omega)] at hf
  simp only [nibble, fld]
  omega

theorem wordOf_crumb {lo : Nat} {k : Fin 4} (hl : lo ≤ 16) (h : rest / 2 ^ lo % 4 = k.val) : crumb (wordOf op d s rest) lo = k := by
  apply Fin.ext
  have hf := wordOf_low (d := d) (s := s) ho hr (show lo + 1 < 18 by omega) (show lo ≤ lo + 1 by omega)
  rw [fld, fld, BitVec.toNat_ofNat, Nat.mod_eq_of_lt (show rest < 2 ^ 32 by omega), show lo + 1 + 1 - lo = 2 by omega] at hf
  simp only [crumb, fld, show lo + 1 + 1 - lo = 2 by omega]
  omega

theorem wordOf_fig {f : Fin 32} (h : rest / 2 ^ 13 % 32 = f.val) : figField (wordOf op d s rest) = f := by
  apply Fin.ext
  have hf := wordOf_low (d := d) (s := s) ho hr (show 17 < 18 by decide) (show 13 ≤ 17 by decide)
  rw [fld, fld, BitVec.toNat_ofNat, Nat.mod_eq_of_lt (show rest < 2 ^ 32 by omega)] at hf
  simp only [figField, fld]
  omega

theorem wordOf_bit {n : Nat} (h : n < 18) : bit (wordOf op d s rest) n = rest.testBit n := by
  have hf := wordOf_low (d := d) (s := s) ho hr h (le_refl n)
  rw [fld, fld, BitVec.toNat_ofNat, Nat.mod_eq_of_lt (show rest < 2 ^ 32 by omega), show n + 1 - n = 1 by omega, pow_one] at hf
  rw [bit, Nat.testBit_eq_decide_div_mod_eq, Nat.testBit_eq_decide_div_mod_eq, hf]

theorem wordOf_imm : immField (wordOf op d s rest) = BitVec.ofNat 16 rest := by
  apply BitVec.eq_of_toNat_eq
  rw [immField, BitVec.toNat_setWidth, wordOf_toNat ho hr, BitVec.toNat_ofNat]
  omega

theorem wordOf_target : targetField (wordOf op d s rest) = BitVec.ofNat 12 rest := by
  apply BitVec.eq_of_toNat_eq
  rw [targetField, BitVec.toNat_setWidth, wordOf_toNat ho hr, BitVec.toNat_ofNat]
  omega

end

/-! ### Bits that are marked 0 -/

/-- Two numbers in fields of k bits have no common bit where their fields have none. -/
theorem land_fields {a b x y k : Nat} (hb : b < 2 ^ k) (hy : y < 2 ^ k) :
    (a * 2 ^ k + b) &&& (x * 2 ^ k + y) = (a &&& x) * 2 ^ k + (b &&& y) := by
  apply Nat.eq_of_testBit_eq
  intro i
  rw [Nat.testBit_and, mul_comm a, mul_comm x, mul_comm (a &&& x), Nat.testBit_two_pow_mul_add _ hb, Nat.testBit_two_pow_mul_add _ hy,
    Nat.testBit_two_pow_mul_add _ (lt_of_le_of_lt Nat.and_le_left hb)]
  split <;> simp

/-- The bits of a mask are clear in the fields d and s and in the 18 bits below them. -/
def Clear (mask : Nat) (d s : Fin 16) (rest : Nat) : Prop :=
  d.val &&& mask / 2 ^ 22 = 0 ∧ s.val &&& mask / 2 ^ 18 % 16 = 0 ∧ rest &&& mask % 2 ^ 18 = 0

theorem wordOf_clear {op rest mask : Nat} {d s : Fin 16} (ho : op < 64) (hr : rest < 2 ^ 18) (hm : mask < 2 ^ 26) :
    (wordOf op d s rest).toNat &&& mask = 0 ↔ Clear mask d s rest := by
  have hword : op * 2 ^ 26 + d.val * 2 ^ 22 + s.val * 2 ^ 18 + rest
      = ((op * 2 ^ 4 + d.val) * 2 ^ 4 + s.val) * 2 ^ 18 + rest := by ring
  have hmask : mask = ((0 * 2 ^ 4 + mask / 2 ^ 22) * 2 ^ 4 + mask / 2 ^ 18 % 16) * 2 ^ 18 + mask % 2 ^ 18 := by omega
  rw [wordOf_toNat ho hr, hword, hmask, land_fields hr (by omega), land_fields (by omega) (by omega), land_fields (by omega) (by omega),
    ← hmask, Nat.and_zero]
  unfold Clear
  omega

/-! ### The reserved words -/

theorem reservedMask_lt (op : Nat) : reservedMask op < 2 ^ 26 := by
  unfold reservedMask
  split <;> decide

/-- The opcodes that R184 reserves. -/
def reservedOp (op : Nat) : Bool := op ∈ [0x0F, 0x1F, 0x2F, 0x3E, 0x3F]

/-- The encodings that an instruction's description reserves (R188, R193, R197, R198). -/
def reservedUse (op : Nat) (s : Fin 16) (rest : Nat) : Bool :=
  (decide (op = 0x2E) && decide (rest / 2 ^ 16 % 4 = 3))
    || ((decide (op = 0x39) || decide (op = 0x3A)) && decide (rest / 2 ^ 12 % 4 = 3))
    || (decide (op = 0x3A) && decide (rest / 2 ^ 11 % 8 = 0))
    || ((decide (op = 0x0B) || decide (op = 0x0C)) && rest.testBit 17 && decide (s.val ≠ 0))
    || (decide (op = 0x39) && decide (rest / 2 ^ 12 % 4 = 2) && rest.testBit 17)
    || (decide (op = 0x3A) && ((decide (rest / 2 ^ 12 % 4 = 2) && s.val.testBit 3) || (!rest.testBit 11 && decide (rest / 2 ^ 14 % 16 ≠ 0))))

theorem fld_rest {rest hi lo : Nat} (hr : rest < 2 ^ 18) : fld (BitVec.ofNat 32 rest) hi lo = rest / 2 ^ lo % 2 ^ (hi + 1 - lo) := by
  rw [fld, BitVec.toNat_ofNat, Nat.mod_eq_of_lt (show rest < 2 ^ 32 by omega)]

theorem reservedWord_wordOf {op rest : Nat} {d s : Fin 16} (ho : op < 64) (hr : rest < 2 ^ 18) : reservedWord (wordOf op d s rest)
    = (reservedOp op || decide ((wordOf op d s rest).toNat &&& reservedMask op ≠ 0) || reservedUse op s rest) := by
  have hs : fld (wordOf op d s rest) 21 18 = s.val := by
    have := congrArg Fin.val (wordOf_s (d := d) (s := s) ho hr)
    simp only [nibble, Nat.reduceAdd] at this
    rw [fld] at this ⊢
    omega
  have hs3 : bit (wordOf op d s rest) 21 = s.val.testBit 3 := by
    rw [bit, wordOf_toNat ho hr, Nat.testBit_eq_decide_div_mod_eq, Nat.testBit_eq_decide_div_mod_eq, decide_eq_decide]
    omega
  simp only [reservedWord, wordOf_opcode ho hr, hs, hs3, wordOf_bit ho hr (show 17 < 18 by decide), wordOf_bit ho hr (show 11 < 18 by decide),
    wordOf_low ho hr (show 17 < 18 by decide) (show 16 ≤ 17 by decide), wordOf_low ho hr (show 13 < 18 by decide) (show 12 ≤ 13 by decide),
    wordOf_low ho hr (show 13 < 18 by decide) (show 11 ≤ 13 by decide), wordOf_low ho hr (show 17 < 18 by decide) (show 14 ≤ 17 by decide),
    fld_rest hr, reservedOp, reservedUse, Bool.or_assoc]
  rfl

/-! ### What a word spells -/

section
variable {c : Fin 9} {x : Meets} {op rest : Nat} {d s : Fin 16} (ho : op < 64) (hr : rest < 2 ^ 18)
include ho hr

theorem walendCommand_sound (hop : reservedOp op = false) (hc : Clear (reservedMask op) d s rest) (hu : reservedUse op s rest = false) :
    walendCommand c (wordOf op d s rest) x = opcodeCommand c (wordOf op d s rest) x := by
  have hm := (wordOf_clear ho hr (reservedMask_lt op)).mpr hc
  rw [walendCommand, reservedWord_wordOf ho hr, hop, hu, hm, if_neg (by decide)]

theorem walendCommand_unclear (hc : ¬Clear (reservedMask op) d s rest) : walendCommand c (wordOf op d s rest) x = none := by
  have hm := mt (wordOf_clear ho hr (reservedMask_lt op)).mp hc
  rw [walendCommand, reservedWord_wordOf ho hr, decide_eq_true hm, Bool.or_true, Bool.true_or, if_pos rfl]

theorem walendCommand_use (hu : reservedUse op s rest = true) : walendCommand c (wordOf op d s rest) x = none := by
  rw [walendCommand, reservedWord_wordOf ho hr, hu, Bool.or_true, if_pos rfl]

theorem walendCommand_reservedOp (hop : reservedOp op = true) : walendCommand c (wordOf op d s rest) x = none := by
  rw [walendCommand, reservedWord_wordOf ho hr, hop, Bool.true_or, Bool.true_or, if_pos rfl]

end

/-- The low field of k bits is clear. -/
theorem land_low {n k : Nat} (h : n % 2 ^ k = 0) : n &&& (2 ^ k - 1) = 0 := by rw [Nat.and_two_pow_sub_one_eq_mod, h]

/-- Clear are the bits from k on of a number below 2^k, and only of such a one. -/
theorem land_high {n k m : Nat} (h : n < 2 ^ (k + m)) : n &&& (2 ^ m - 1) * 2 ^ k = n / 2 ^ k * 2 ^ k := by
  have hn : n = n / 2 ^ k * 2 ^ k + n % 2 ^ k := (Nat.div_add_mod' n _).symm
  have hq : n / 2 ^ k < 2 ^ m := Nat.div_lt_of_lt_mul (by rwa [← pow_add])
  have hl := land_fields (a := n / 2 ^ k) (x := 2 ^ m - 1) (Nat.mod_lt n (Nat.two_pow_pos k)) (Nat.two_pow_pos k)
  rw [← hn, Nat.add_zero, Nat.and_zero, Nat.add_zero, Nat.and_two_pow_sub_one_eq_mod, Nat.mod_eq_of_lt hq] at hl
  exact hl

end Sys2Proof.Machine
end

section
/-! SUPPORT. The words of the instruction formats (R179, R180). -/

namespace Sys2Proof.Machine

section
variable {c : Fin 9} {x : Meets} {d s : Fin 16} {op rest : Nat} {i : Instr}

/-- A sound word spells the command of its opcode on its fields. -/
theorem spells (ho : op < 64) (hr : rest < 2 ^ 18) (hop : reservedOp op = false) (hc : Clear (reservedMask op) d s rest)
    (hu : reservedUse op s rest = false) (hi : ∀ w : Word, fld w 31 26 = op → nibble w 22 = d → nibble w 18 = s →
      (∀ t : Fin 16, rest / 2 ^ 14 % 16 = t.val → nibble w 14 = t) → immField w = BitVec.ofNat 16 rest →
      (∀ n < 18, bit w n = rest.testBit n) → opcodeCommand c w x = some i) : walendCommand c (wordOf op d s rest) x = some i := by
  rw [walendCommand_sound ho hr hop hc hu]
  exact hi _ (wordOf_opcode ho hr) (wordOf_d ho hr) (wordOf_s ho hr) (fun t ht => wordOf_t ho hr ht) (wordOf_imm ho hr)
    fun n hn => wordOf_bit ho hr hn

/-- The opcodes of the format that names three registers. -/
def opsR : List Nat := [0x10, 0x11, 0x12, 0x13, 0x14, 0x15, 0x16, 0x17, 0x18, 0x19, 0x1B, 0x1C, 0x1D, 0x1E]

/-- A word of the format that names three registers. -/
theorem spells_r {t : Fin 16} (h : op ∈ opsR) (hi : ∀ w : Word, fld w 31 26 = op → nibble w 22 = d → nibble w 18 = s → nibble w 14 = t →
    opcodeCommand c w x = some i) : walendCommand c (wordOf op d s (t.val * 2 ^ 14)) x = some i := by
  have hops : ∀ op ∈ opsR, op < 64 ∧ reservedOp op = false ∧ reservedMask op = 0x3FFF ∧ reservedUse op s (t.val * 2 ^ 14) = false := by
    simp [opsR, reservedOp, reservedUse, reservedMask]
  obtain ⟨h1, h2, h3, h4⟩ := hops op h
  refine spells h1 (by omega) h2 ?_ h4 fun w e1 e2 e3 e4 _ _ => hi w e1 e2 e3 (e4 t (by omega))
  rw [h3]
  exact ⟨by simp, by simp, land_low (k := 14) (by omega)⟩

/-- The opcodes of the format that names two registers and an immediate. -/
def opsI : List Nat := [0x20, 0x22, 0x23, 0x24, 0x28, 0x29, 0x0D, 0x0E, 0x08, 0x09, 0x02, 0x03, 0x21, 0x36]

theorem land_imm (imm : BitVec 16) : imm.toNat &&& 0x30000 = 0 := by
  have h := land_fields (a := 0) (b := imm.toNat) (x := 3) (y := 0) (k := 16) imm.isLt (by decide)
  simpa using h

/-- A word of the format that names two registers and an immediate. -/
theorem spells_i {imm : BitVec 16} (h : op ∈ opsI) (hd : d.val &&& reservedMask op / 2 ^ 22 = 0)
    (hs : s.val &&& reservedMask op / 2 ^ 18 % 16 = 0) (hi : ∀ w : Word, fld w 31 26 = op → nibble w 22 = d → nibble w 18 = s →
      immField w = imm → bit w 17 = false → opcodeCommand c w x = some i) : walendCommand c (wordOf op d s imm.toNat) x = some i := by
  have hops : ∀ op ∈ opsI, op < 64 ∧ reservedOp op = false ∧ reservedMask op % 2 ^ 18 = 0x30000 ∧ reservedUse op s imm.toNat = false := by
    simp [opsI, reservedOp, reservedUse, reservedMask]
  obtain ⟨h1, h2, h3, h4⟩ := hops op h
  refine spells h1 (by omega) h2 ⟨hd, hs, by rw [h3]; exact land_imm imm⟩ h4 fun w e1 e2 e3 _ e5 e6 =>
    hi w e1 e2 e3 (e5.trans (by simp)) ?_
  rw [e6 17 (by decide)]
  exact Nat.testBit_lt_two_pow (by omega)

/-- The opcodes whose words have nothing below their two register fields. -/
def opsZ : List Nat := [0x01, 0x06, 0x07, 0x0A, 0x30, 0x34, 0x35, 0x38, 0x3B, 0x3C, 0x3D]

/-- A word with nothing below its two register fields. -/
theorem spells_z (h : op ∈ opsZ) (hd : d.val &&& reservedMask op / 2 ^ 22 = 0) (hs : s.val &&& reservedMask op / 2 ^ 18 % 16 = 0)
    (hi : ∀ w : Word, fld w 31 26 = op → nibble w 22 = d → nibble w 18 = s → opcodeCommand c w x = some i) :
    walendCommand c (BitVec.ofNat 32 (op * 2 ^ 26 + d.val * 2 ^ 22 + s.val * 2 ^ 18)) x = some i := by
  have hops : ∀ op ∈ opsZ, op < 64 ∧ reservedOp op = false ∧ reservedUse op s 0 = false := by
    simp [opsZ, reservedOp, reservedUse]
  obtain ⟨h1, h2, h3⟩ := hops op h
  have hw := spells (rest := 0) h1 (by decide) h2 ⟨hd, hs, Nat.zero_and _⟩ h3 fun w e1 e2 e3 _ _ _ => hi w e1 e2 e3
  rwa [wordOf, Nat.add_zero] at hw

/-- An angle-register field with bit 3 set, or without. -/
theorem land_angle {d : Fin 16} (h : d.val < 8) : d.val &&& 8 = 0 := by
  revert h
  revert d
  decide

theorem land_angle_ne {d : Fin 16} (h : 8 ≤ d.val) : d.val &&& 8 ≠ 0 := by
  revert h
  revert d
  decide

/-- A jump's target lies in the low 12 bits. -/
theorem spells_target {tgt : BitVec 12} (h : op = 0x04 ∨ op = 0x05) (hd : d.val &&& reservedMask op / 2 ^ 22 = 0) (hs : s = 0)
    (hi : ∀ w : Word, fld w 31 26 = op → nibble w 22 = d → targetField w = tgt → opcodeCommand c w x = some i) :
    walendCommand c (wordOf op d s tgt.toNat) x = some i := by
  have hr : tgt.toNat < 2 ^ 18 := by omega
  have hops : op < 64 ∧ reservedOp op = false ∧ reservedMask op % 2 ^ 18 = (2 ^ 6 - 1) * 2 ^ 12 ∧ reservedUse op s tgt.toNat = false := by
    rcases h with rfl | rfl <;> exact ⟨by decide, rfl, rfl, rfl⟩
  obtain ⟨h1, h2, h3, h4⟩ := hops
  rw [walendCommand_sound h1 hr h2 ⟨hd, by rw [hs]; exact Nat.zero_and _, ?_⟩ h4]
  · exact hi _ (wordOf_opcode h1 hr) (wordOf_d h1 hr) ((wordOf_target h1 hr).trans (by simp))
  · rw [h3, land_high (by omega)]
    omega

/-- A bit above an immediate. -/
def onWord (n : Nat) (b : Bool) : Nat := if b then 2 ^ n else 0

/-- The bits below the register fields, in two parts. -/
theorem wordOf_sum {m n : Nat} : BitVec.ofNat 32 (op * 2 ^ 26 + d.val * 2 ^ 22 + s.val * 2 ^ 18 + m + n) = wordOf op d s (m + n) := by
  rw [wordOf, ← Nat.add_assoc]

/-- LD and ST by a register or by an absolute address, whose register field is then 0 (R188). -/
theorem spells_memory {u : Bool} {imm : BitVec 16} (h : op = 0x0B ∨ op = 0x0C) (hi : ∀ w : Word, fld w 31 26 = op → nibble w 22 = d →
      nibble w 18 = s → immField w = imm → bit w 17 = u → opcodeCommand c w x = some i) :
    walendCommand c (BitVec.ofNat 32 (op * 2 ^ 26 + d.val * 2 ^ 22 + s.val * 2 ^ 18 + onWord 17 u + imm.toNat)) x
      = if u = true ∧ s ≠ 0 then none else some i := by
  rw [wordOf_sum]
  have hr : onWord 17 u + imm.toNat < 2 ^ 18 := by unfold onWord; split <;> omega
  have hbit : (onWord 17 u + imm.toNat).testBit 17 = u := by
    rw [Nat.testBit_eq_decide_div_mod_eq]
    cases u <;> simp [onWord] <;> omega
  have huse : reservedUse op s (onWord 17 u + imm.toNat) = (u && decide (s.val ≠ 0)) := by
    rcases h with rfl | rfl <;> simp [reservedUse, hbit]
  have ho : op < 64 := by omega
  by_cases hus : u = true ∧ s ≠ 0
  · rw [if_pos hus]
    exact walendCommand_use ho hr (by rw [huse, hus.1, decide_eq_true (show s.val ≠ 0 from fun e => hus.2 (Fin.ext e))]; rfl)
  · rw [if_neg hus]
    refine spells ho hr (by rcases h with rfl | rfl <;> rfl) ?_ ?_ fun w e1 e2 e3 _ e5 e6 => hi w e1 e2 e3 (e5.trans ?_) ?_
    · have hm : reservedMask op = 0x10000 := by rcases h with rfl | rfl <;> rfl
      rw [hm]
      refine ⟨Nat.and_zero _, Nat.and_zero _, ?_⟩
      have hl := land_fields (a := (onWord 17 u) / 2 ^ 16) (x := 1) (k := 16) imm.isLt (show 0 < 2 ^ 16 by decide)
      cases u <;> simpa [onWord] using hl
    · rw [huse]
      cases u
      · rfl
      · simp only [true_and, not_not] at hus
        rw [hus]
        rfl
    · apply BitVec.eq_of_toNat_eq
      cases u
      · simp [onWord]
      · simp [onWord]
        omega
    · rw [e6 17 (by decide), hbit]

/-- The shifts by an immediate (R190). -/
def opsShift : List Nat := [0x25, 0x26, 0x27]

theorem land_shift (imm : BitVec 16) : imm.toNat &&& 0x3FFE0 = imm.toNat / 32 * 32 := by
  have h := land_high (n := imm.toNat) (k := 5) (m := 13) (by omega)
  simpa using h

theorem spells_shift {imm : BitVec 16} (h : op ∈ opsShift) (hl : imm.toNat < 32) (hi : ∀ w : Word, fld w 31 26 = op → nibble w 22 = d →
      nibble w 18 = s → immField w = imm → opcodeCommand c w x = some i) : walendCommand c (wordOf op d s imm.toNat) x = some i := by
  have hops : ∀ op ∈ opsShift, op < 64 ∧ reservedOp op = false ∧ reservedMask op = 0x3FFE0 ∧ reservedUse op s imm.toNat = false := by
    simp [opsShift, reservedOp, reservedUse, reservedMask]
  obtain ⟨h1, h2, h3, h4⟩ := hops op h
  refine spells h1 (by omega) h2 ?_ h4 fun w e1 e2 e3 _ e5 _ => hi w e1 e2 e3 (e5.trans (by simp))
  rw [h3]
  exact ⟨Nat.and_zero _, Nat.and_zero _, (land_shift imm).trans (by omega)⟩

theorem shift_unspelt {imm : BitVec 16} (h : op ∈ opsShift) (hl : 32 ≤ imm.toNat) : walendCommand c (wordOf op d s imm.toNat) x = none := by
  have hops : ∀ op ∈ opsShift, op < 64 ∧ reservedMask op = 0x3FFE0 := by simp [opsShift, reservedMask]
  obtain ⟨h1, h3⟩ := hops op h
  refine walendCommand_unclear h1 (by omega) ?_
  rw [h3]
  rintro ⟨-, -, h⟩
  rw [show 0x3FFE0 % 2 ^ 18 = 0x3FFE0 from rfl, land_shift] at h
  omega

/-- A word whose bits below the register fields are a small number, of which every fact is decided. -/
theorem spells_small (ho : op < 64) (hop : reservedOp op = false)
    (h : rest < 2 ^ 18 ∧ rest &&& reservedMask op % 2 ^ 18 = 0 ∧ reservedUse op s rest = false)
    (hd : d.val &&& reservedMask op / 2 ^ 22 = 0) (hs : s.val &&& reservedMask op / 2 ^ 18 % 16 = 0)
    (hi : opcodeCommand c (wordOf op d s rest) x = some i) : walendCommand c (wordOf op d s rest) x = some i := by
  obtain ⟨hr, hm, hu⟩ := h
  rw [walendCommand_sound ho hr hop ⟨hd, hs, hm⟩ hu, hi]

theorem rdfig_rest : ∀ (f : Fin 32) (u : Bool), f.val * 2 ^ 13 + onWord 12 u < 2 ^ 18 ∧ (f.val * 2 ^ 13 + onWord 12 u) &&& 0xFFF = 0
    ∧ (f.val * 2 ^ 13 + onWord 12 u).testBit 12 = u := by decide

theorem armWord_rest : ∀ (t : Fin 16) (k : Fin 4), t.val * 2 ^ 14 + k.val * 2 ^ 12 < 2 ^ 18
    ∧ (t.val * 2 ^ 14 + k.val * 2 ^ 12) &&& 0xFFF = 0
    ∧ ((t.val * 2 ^ 14 + k.val * 2 ^ 12).testBit 17 = true ↔ 8 ≤ t.val) := by decide

theorem reaimWord_rest : ∀ (t : Fin 16) (k : Fin 4) (u : Bool), t.val * 2 ^ 14 + k.val * 2 ^ 12 + onWord 11 u < 2 ^ 18
    ∧ (t.val * 2 ^ 14 + k.val * 2 ^ 12 + onWord 11 u) &&& 0x7FF = 0
    ∧ (t.val * 2 ^ 14 + k.val * 2 ^ 12 + onWord 11 u).testBit 11 = u := by decide

theorem setacWord_rest : ∀ u v : Bool, onWord 17 u + onWord 16 v < 2 ^ 18 ∧ (onWord 17 u + onWord 16 v) &&& 0xFFFF = 0
    ∧ (onWord 17 u + onWord 16 v).testBit 17 = u ∧ (onWord 17 u + onWord 16 v).testBit 16 = v := by decide

theorem angle_bit {s : Fin 16} : s.val.testBit 3 = true ↔ 8 ≤ s.val := by
  revert s
  decide

theorem spells_rdfig {f : Fin 32} {u : Bool} :
    walendCommand c (BitVec.ofNat 32 (0x2A * 2 ^ 26 + d.val * 2 ^ 22 + s.val * 2 ^ 18 + f.val * 2 ^ 13 + onWord 12 u)) x
      = some (.wRdfig c d s f u) := by
  rw [wordOf_sum]
  obtain ⟨hr, hm, hb⟩ := rdfig_rest f u
  have hf : (f.val * 2 ^ 13 + onWord 12 u) / 2 ^ 13 % 32 = f.val := by
    have hu : onWord 12 u < 2 ^ 13 := by cases u <;> decide
    omega
  refine spells_small (by decide) rfl ⟨hr, hm, rfl⟩ (Nat.and_zero _) (Nat.and_zero _) ?_
  have ho : 0x2A < 64 := by decide
  simp only [opcodeCommand, wordOf_opcode ho hr, wordOf_d ho hr, wordOf_s ho hr, wordOf_fig ho hr hf, wordOf_bit ho hr (show 12 < 18 by decide),
    hb]

theorem rdres_rest : ∀ u : Bool, onWord 12 u < 2 ^ 18 ∧ onWord 12 u &&& 0x3EFFF = 0 ∧ (onWord 12 u).testBit 12 = u := by decide

theorem spells_rdres {u : Bool} : walendCommand c (wordOf 0x2B d s (onWord 12 u)) x = some (.wRdres c d s u) := by
  obtain ⟨hr, hm, hb⟩ := rdres_rest u
  refine spells (by decide) hr rfl ⟨Nat.and_zero _, Nat.and_zero _, hm⟩ rfl fun w h1 h2 h3 _ _ h6 => ?_
  simp only [opcodeCommand, h1, h2, h3, h6 12 (by decide), hb]

theorem crumb_rest : ∀ k : Fin 4, k.val * 2 ^ 16 < 2 ^ 18 ∧ k.val * 2 ^ 16 &&& 0xFFFF = 0 ∧ k.val * 2 ^ 16 / 2 ^ 16 % 4 = k.val := by decide

/-- SEND, FABRD and the cue enables have a number in the two bits below their register fields. -/
theorem spells_crumb {k : Fin 4} (h : op = 0x2C ∨ op = 0x2D ∨ op = 0x2E) (hd : d.val &&& reservedMask op / 2 ^ 22 = 0)
    (hs : s.val &&& reservedMask op / 2 ^ 18 % 16 = 0) (hk : op = 0x2E → k ≠ 3) (hi : ∀ w : Word, fld w 31 26 = op → nibble w 22 = d →
      nibble w 18 = s → crumb w 16 = k → opcodeCommand c w x = some i) : walendCommand c (wordOf op d s (k.val * 2 ^ 16)) x = some i := by
  obtain ⟨hr, hm, hv⟩ := crumb_rest k
  have hops : op < 64 ∧ reservedOp op = false ∧ reservedMask op % 2 ^ 18 = 0xFFFF ∧ reservedUse op s (k.val * 2 ^ 16) = false := by
    rcases h with rfl | rfl | rfl
    · exact ⟨by decide, rfl, rfl, rfl⟩
    · exact ⟨by decide, rfl, rfl, rfl⟩
    · refine ⟨by decide, rfl, rfl, ?_⟩
      have h3 : k.val ≠ 3 := fun e => hk rfl (Fin.ext e)
      simp only [reservedUse, hv, decide_eq_false h3]
      rfl
  obtain ⟨h1, h2, h3, h4⟩ := hops
  rw [walendCommand_sound h1 hr h2 ⟨hd, hs, by rw [h3]; exact hm⟩ h4]
  exact hi _ (wordOf_opcode h1 hr) (wordOf_d h1 hr) (wordOf_s h1 hr) (wordOf_crumb h1 hr (le_refl 16) hv)

theorem spells_setac {u v : Bool} (hs : s.val &&& 8 = 0) :
    walendCommand c (BitVec.ofNat 32 (0x37 * 2 ^ 26 + d.val * 2 ^ 22 + s.val * 2 ^ 18 + onWord 17 u + onWord 16 v)) x
      = some (.wSetac c d s u v) := by
  rw [wordOf_sum]
  obtain ⟨hr, hm, hb, hb'⟩ := setacWord_rest u v
  refine spells (by decide) hr rfl ⟨Nat.and_zero _, hs, hm⟩ rfl fun w h1 h2 h3 _ _ h6 => ?_
  simp only [opcodeCommand, h1, h2, h3, h6 17 (by decide), h6 16 (by decide), hb, hb']

/-- ADDA and SUBA name two angle registers. -/
theorem spells_angles {t : Fin 16} (h : op = 0x31 ∨ op = 0x32) (hd : d.val &&& 8 = 0) (hs : s.val &&& 8 = 0)
    (hi : ∀ w : Word, fld w 31 26 = op → nibble w 22 = d → nibble w 18 = s → nibble w 14 = t → opcodeCommand c w x = some i) :
    walendCommand c (wordOf op d s (t.val * 2 ^ 14)) x = some i := by
  have hops : op < 64 ∧ reservedOp op = false ∧ reservedMask op = 0x2203FFF ∧ reservedUse op s (t.val * 2 ^ 14) = false := by
    rcases h with rfl | rfl <;> exact ⟨by decide, rfl, rfl, rfl⟩
  obtain ⟨h1, h2, h3, h4⟩ := hops
  refine spells h1 (by omega) h2 ?_ h4 fun w e1 e2 e3 e4 _ _ => hi w e1 e2 e3 (e4 t (by omega))
  rw [h3]
  exact ⟨hd, hs, land_low (k := 14) (by omega)⟩

theorem difa_rest : ∀ t : Fin 16, t.val < 8 → t.val * 2 ^ 14 &&& 0x23FFF = 0 := by decide

theorem spells_difa {t : Fin 16} (hs : s.val &&& 8 = 0) (ht : t.val < 8) :
    walendCommand c (wordOf 0x33 d s (t.val * 2 ^ 14)) x = some (.wDifa c d s t) := by
  refine spells (by decide) (by omega) rfl ⟨Nat.and_zero _, hs, difa_rest t ht⟩ rfl fun w h1 h2 h3 h4 _ _ => ?_
  simp only [opcodeCommand, h1, h2, h3, h4 t (by omega)]

/-- ARM: the register that names the angle is an angle register for SRC 2, and SRC 3 is reserved (R197). -/
theorem spells_arm {t : Fin 16} {k : Fin 4} :
    walendCommand c (BitVec.ofNat 32 (0x39 * 2 ^ 26 + d.val * 2 ^ 22 + s.val * 2 ^ 18 + t.val * 2 ^ 14 + k.val * 2 ^ 12)) x
      = if k = 3 ∨ (k = 2 ∧ 8 ≤ t.val) then none else some (.wArm c d s t k) := by
  rw [wordOf_sum]
  obtain ⟨hr, hm, hb⟩ := armWord_rest t k
  have ho : 0x39 < 64 := by decide
  have hk : (t.val * 2 ^ 14 + k.val * 2 ^ 12) / 2 ^ 12 % 4 = k.val := by omega
  have ht : (t.val * 2 ^ 14 + k.val * 2 ^ 12) / 2 ^ 14 % 16 = t.val := by omega
  have hu : reservedUse 0x39 s (t.val * 2 ^ 14 + k.val * 2 ^ 12) = true ↔ k = 3 ∨ (k = 2 ∧ 8 ≤ t.val) := by
    rw [← hb, Fin.ext_iff, Fin.ext_iff]
    simp only [reservedUse, hk]
    simp
  split
  · next h => exact walendCommand_use ho hr (hu.mpr h)
  · next h =>
    refine spells_small ho rfl ⟨hr, hm, Bool.eq_false_iff.mpr (mt hu.mp h)⟩ (Nat.and_zero _) (Nat.and_zero _) ?_
    simp only [opcodeCommand, wordOf_opcode ho hr, wordOf_d ho hr, wordOf_s ho hr, wordOf_t ho hr ht, wordOf_crumb ho hr (show 12 ≤ 16 by decide) hk]

/-- REAIM: SRC 3, SRC 0 without a new offset, and an offset's register without a new offset are reserved (R198). -/
theorem spells_reaim {t : Fin 16} {k : Fin 4} {u : Bool} :
    walendCommand c (BitVec.ofNat 32 (0x3A * 2 ^ 26 + d.val * 2 ^ 22 + s.val * 2 ^ 18 + t.val * 2 ^ 14 + k.val * 2 ^ 12 + onWord 11 u)) x
      = if k = 3 ∨ (k = 2 ∧ 8 ≤ s.val) ∨ (u = false ∧ (k = 0 ∨ t ≠ 0)) then none else some (.wReaim c d s t k u) := by
  rw [Nat.add_assoc (0x3A * 2 ^ 26 + d.val * 2 ^ 22 + s.val * 2 ^ 18 + t.val * 2 ^ 14), wordOf_sum, ← Nat.add_assoc]
  obtain ⟨hr, hm, hb⟩ := reaimWord_rest t k u
  have ho : 0x3A < 64 := by decide
  have hu12 : onWord 11 u < 2 ^ 12 := by cases u <;> decide
  have hk : (t.val * 2 ^ 14 + k.val * 2 ^ 12 + onWord 11 u) / 2 ^ 12 % 4 = k.val := by omega
  have ht : (t.val * 2 ^ 14 + k.val * 2 ^ 12 + onWord 11 u) / 2 ^ 14 % 16 = t.val := by omega
  have h3 : (t.val * 2 ^ 14 + k.val * 2 ^ 12 + onWord 11 u) / 2 ^ 11 % 8 = 0 ↔ k = 0 ∧ u = false := by
    rw [Fin.ext_iff]
    cases u <;> simp [onWord] <;> omega
  have hu : reservedUse 0x3A s (t.val * 2 ^ 14 + k.val * 2 ^ 12 + onWord 11 u) = true
      ↔ k = 3 ∨ (k = 2 ∧ 8 ≤ s.val) ∨ (u = false ∧ (k = 0 ∨ t ≠ 0)) := by
    simp only [reservedUse, hk, ht, h3, hb, ← angle_bit (s := s), Fin.ext_iff]
    simp
    tauto
  split
  · next h => exact walendCommand_use ho hr (hu.mpr h)
  · next h =>
    refine spells_small ho rfl ⟨hr, hm, Bool.eq_false_iff.mpr (mt hu.mp h)⟩ (Nat.and_zero _) (Nat.and_zero _) ?_
    simp only [opcodeCommand, wordOf_opcode ho hr, wordOf_d ho hr, wordOf_s ho hr, wordOf_t ho hr ht,
      wordOf_crumb ho hr (show 12 ≤ 16 by decide) hk, wordOf_bit ho hr (show 11 < 18 by decide), hb]

/-! ### The words whose fields take a case of their own -/

theorem spells_donew : walendCommand c (wordOf 0 0 s 1) x = some (.wDonew c s) :=
  spells (by decide) (by decide) rfl ⟨Nat.zero_and _, Nat.and_zero _, rfl⟩ rfl fun w h1 h2 h3 _ _ h6 => by
    simp only [opcodeCommand, h1, h3, h6 0 (by decide)]; rfl

theorem spells_cmp {t : Fin 16} : walendCommand c (wordOf 0x1A 0 s (t.val * 2 ^ 14)) x = some (.wCmp c s t) :=
  spells (by decide) (by omega) rfl ⟨Nat.zero_and _, Nat.and_zero _, land_low (k := 14) (by omega)⟩ rfl fun w h1 _ h3 h4 _ _ => by
    simp only [opcodeCommand, h1, h3, h4 t (by omega)]

theorem spells_send {k : Fin 4} : walendCommand c (wordOf 0x2C d s (k.val * 2 ^ 16)) x = some (.wSend c d s k) :=
  spells_crumb (.inl rfl) (Nat.and_zero _) (Nat.and_zero _) nofun fun w h1 h2 h3 h4 => by simp only [opcodeCommand, h1, h2, h3, h4]

theorem spells_fabrd {k : Fin 4} : walendCommand c (wordOf 0x2D d 0 (k.val * 2 ^ 16)) x = some (.wFabrd c d k) :=
  spells_crumb (.inr (.inl rfl)) (Nat.and_zero _) (Nat.zero_and _) nofun fun w h1 h2 h3 h4 => by simp only [opcodeCommand, h1, h2, h4]

theorem spells_cueset : walendCommand c (wordOf 0x2E 0 s ((0 : Fin 4).val * 2 ^ 16)) x = some (.wCueset c s) :=
  spells_crumb (.inr (.inr rfl)) (Nat.zero_and _) (Nat.and_zero _) nofun fun w h1 _ h3 h4 => by
    simp only [opcodeCommand, h1, h3, h4]; rfl

theorem spells_cueclr : walendCommand c (wordOf 0x2E 0 s ((1 : Fin 4).val * 2 ^ 16)) x = some (.wCueclr c s) :=
  spells_crumb (.inr (.inr rfl)) (Nat.zero_and _) (Nat.and_zero _) nofun fun w h1 _ h3 h4 => by
    simp only [opcodeCommand, h1, h3, h4]; rfl

theorem spells_cuewr : walendCommand c (wordOf 0x2E 0 s ((2 : Fin 4).val * 2 ^ 16)) x = some (.wCuewr c s) :=
  spells_crumb (.inr (.inr rfl)) (Nat.zero_and _) (Nat.and_zero _) nofun fun w h1 _ h3 h4 => by
    simp only [opcodeCommand, h1, h3, h4]

/-- The operations on two registers. -/
theorem spells_registers {t : Fin 16} :
    walendCommand c (wordOf 0x10 d s (t.val * 2 ^ 14)) x = some (.wAdd c d s t) ∧
    walendCommand c (wordOf 0x11 d s (t.val * 2 ^ 14)) x = some (.wSub c d s t) ∧
    walendCommand c (wordOf 0x12 d s (t.val * 2 ^ 14)) x = some (.wAnd c d s t) ∧
    walendCommand c (wordOf 0x13 d s (t.val * 2 ^ 14)) x = some (.wOr c d s t) ∧
    walendCommand c (wordOf 0x14 d s (t.val * 2 ^ 14)) x = some (.wXor c d s t) ∧
    walendCommand c (wordOf 0x15 d s (t.val * 2 ^ 14)) x = some (.wShl c d s t) ∧
    walendCommand c (wordOf 0x16 d s (t.val * 2 ^ 14)) x = some (.wShr c d s t) ∧
    walendCommand c (wordOf 0x17 d s (t.val * 2 ^ 14)) x = some (.wAsr c d s t) ∧
    walendCommand c (wordOf 0x18 d s (t.val * 2 ^ 14)) x = some (.wMin c d s t) ∧
    walendCommand c (wordOf 0x19 d s (t.val * 2 ^ 14)) x = some (.wMax c d s t) ∧
    walendCommand c (wordOf 0x1B d s (t.val * 2 ^ 14)) x = some (.wMul c d s t) ∧
    walendCommand c (wordOf 0x1C d s (t.val * 2 ^ 14)) x = some (.wMulh c d s t) ∧
    walendCommand c (wordOf 0x1D d s (t.val * 2 ^ 14)) x = some (.wDivu c d s t) ∧
    walendCommand c (wordOf 0x1E d s (t.val * 2 ^ 14)) x = some (.wDivs c d s t) :=
  ⟨spells_r (by decide) fun w h1 h2 h3 h4 => by simp only [opcodeCommand, h1, h2, h3, h4],
    spells_r (by decide) fun w h1 h2 h3 h4 => by simp only [opcodeCommand, h1, h2, h3, h4],
    spells_r (by decide) fun w h1 h2 h3 h4 => by simp only [opcodeCommand, h1, h2, h3, h4],
    spells_r (by decide) fun w h1 h2 h3 h4 => by simp only [opcodeCommand, h1, h2, h3, h4],
    spells_r (by decide) fun w h1 h2 h3 h4 => by simp only [opcodeCommand, h1, h2, h3, h4],
    spells_r (by decide) fun w h1 h2 h3 h4 => by simp only [opcodeCommand, h1, h2, h3, h4],
    spells_r (by decide) fun w h1 h2 h3 h4 => by simp only [opcodeCommand, h1, h2, h3, h4],
    spells_r (by decide) fun w h1 h2 h3 h4 => by simp only [opcodeCommand, h1, h2, h3, h4],
    spells_r (by decide) fun w h1 h2 h3 h4 => by simp only [opcodeCommand, h1, h2, h3, h4],
    spells_r (by decide) fun w h1 h2 h3 h4 => by simp only [opcodeCommand, h1, h2, h3, h4],
    spells_r (by decide) fun w h1 h2 h3 h4 => by simp only [opcodeCommand, h1, h2, h3, h4],
    spells_r (by decide) fun w h1 h2 h3 h4 => by simp only [opcodeCommand, h1, h2, h3, h4],
    spells_r (by decide) fun w h1 h2 h3 h4 => by simp only [opcodeCommand, h1, h2, h3, h4],
    spells_r (by decide) fun w h1 h2 h3 h4 => by simp only [opcodeCommand, h1, h2, h3, h4]⟩

theorem spells_adda {t : Fin 16} (hd : d.val &&& 8 = 0) (hs : s.val &&& 8 = 0) :
    walendCommand c (wordOf 0x31 d s (t.val * 2 ^ 14)) x = some (.wAdda c d s t) :=
  spells_angles (.inl rfl) hd hs fun w h1 h2 h3 h4 => by simp only [opcodeCommand, h1, h2, h3, h4]

theorem spells_suba {t : Fin 16} (hd : d.val &&& 8 = 0) (hs : s.val &&& 8 = 0) :
    walendCommand c (wordOf 0x32 d s (t.val * 2 ^ 14)) x = some (.wSuba c d s t) :=
  spells_angles (.inr rfl) hd hs fun w h1 h2 h3 h4 => by simp only [opcodeCommand, h1, h2, h3, h4]

end

end Sys2Proof.Machine
end

section
/-! PROOFS. The words of the instructions (R179, R180, R184, R302): the statement O60. -/

open Sys2Proof Sys2Proof.Machine

namespace Sys2Proof.Proofs

/-- Every bit that an opcode's format marks 0 is in its reserved mask. -/
theorem unspelt_of_mask {c : Fin 9} {w : Word} {x : Meets} {op mask : Nat} (hm : reservedMask op = mask) (ho : op < 64)
    (hw : w.toNat / 2 ^ 26 = op) (h : w.toNat &&& mask ≠ 0) : walendCommand c w x = none := by
  have hf : fld w 31 26 = op := by rw [fld, hw]; exact Nat.mod_eq_of_lt ho
  have hres : reservedWord w = true := by simp [reservedWord, hf, hm, h]
  rw [walendCommand, if_pos hres]

/-- Each opcode with the bits of its format that are marked 0, and the bit 3 of each angle-register field. -/
def fixedBits : List (Nat × Nat) :=
  [(0x00, 0x3C3FFFE), (0x01, 0x3FFFFFF), (0x02, 0x3FF0000), (0x03, 0x3F0000),
    (0x04, 0x3FFF000), (0x05, 0x3FF000), (0x06, 0x3C3FFFF), (0x07, 0x3FFFFF), (0x08, 0x3F0000), (0x09, 0x3F0000), (0x0A, 0x3FFFF),
    (0x0B, 0x10000), (0x0C, 0x10000), (0x0D, 0x30000), (0x0E, 0x30000), (0x10, 0x3FFF), (0x11, 0x3FFF), (0x12, 0x3FFF), (0x13, 0x3FFF),
    (0x14, 0x3FFF), (0x15, 0x3FFF), (0x16, 0x3FFF), (0x17, 0x3FFF), (0x18, 0x3FFF), (0x19, 0x3FFF), (0x1A, 0x3C03FFF), (0x1B, 0x3FFF),
    (0x1C, 0x3FFF), (0x1D, 0x3FFF), (0x1E, 0x3FFF), (0x20, 0x30000), (0x21, 0x3C30000), (0x22, 0x30000), (0x23, 0x30000),
    (0x24, 0x30000), (0x25, 0x3FFE0), (0x26, 0x3FFE0), (0x27, 0x3FFE0), (0x28, 0x30000), (0x29, 0x30000), (0x2A, 0xFFF),
    (0x2B, 0x3EFFF), (0x2C, 0xFFFF), (0x2D, 0x3CFFFF), (0x2E, 0x3C0FFFF), (0x30, 0x203FFFF), (0x31, 0x2203FFF), (0x32, 0x2203FFF),
    (0x33, 0x223FFF), (0x34, 0x23FFFFF), (0x35, 0x23FFFF), (0x36, 0x2230000), (0x37, 0x20FFFF), (0x38, 0x3FFFFF), (0x39, 0xFFF),
    (0x3A, 0x7FF), (0x3B, 0x3FFFFF), (0x3C, 0x3FFFF), (0x3D, 0x3FFFFF)]

/-- A word with a bit that is marked 0 spells no instruction. -/
theorem unspelt_of_fixedBits {c : Fin 9} {w : Word} {x : Meets} {e : Nat × Nat} (he : e ∈ fixedBits) (hw : w.toNat / 2 ^ 26 = e.1)
    (h : w.toNat &&& e.2 ≠ 0) : walendCommand c w x = none := by
  have hall : ∀ e ∈ fixedBits, reservedMask e.1 = e.2 ∧ e.1 < 64 := by decide
  exact unspelt_of_mask (hall e he).1 (hall e he).2 hw h

/-- A jig word's fields. -/
theorem jigWord_fields (op : Fin 64) (a : BitVec 10) (imm : BitVec 16) :
    fld (BitVec.ofNat 32 (op.val * 2 ^ 26 + a.toNat * 2 ^ 16 + imm.toNat)) 31 26 = op.val
    ∧ (BitVec.ofNat 32 (op.val * 2 ^ 26 + a.toNat * 2 ^ 16 + imm.toNat) >>> 16).setWidth 10 = a
    ∧ immField (BitVec.ofNat 32 (op.val * 2 ^ 26 + a.toNat * 2 ^ 16 + imm.toNat)) = imm := by
  have hn : (BitVec.ofNat 32 (op.val * 2 ^ 26 + a.toNat * 2 ^ 16 + imm.toNat)).toNat = op.val * 2 ^ 26 + a.toNat * 2 ^ 16 + imm.toNat := by
    rw [BitVec.toNat_ofNat, Nat.mod_eq_of_lt (by omega)]
  refine ⟨?_, BitVec.eq_of_toNat_eq ?_, BitVec.eq_of_toNat_eq ?_⟩
  · rw [fld, hn]
    omega
  · rw [BitVec.toNat_setWidth, BitVec.toNat_ushiftRight, hn, Nat.shiftRight_eq_div_pow]
    omega
  · rw [immField, BitVec.toNat_setWidth, hn]
    omega

/-- A jig word spells the instruction of its OP with its A and IMM. -/
theorem jigCommand_spells (e : Fin 8) (op : Fin 64) (a : BitVec 10) (imm : BitVec 16) (x : Meets) :
    let n := jigCommand e (BitVec.ofNat 32 (op.val * 2 ^ 26 + a.toNat * 2 ^ 16 + imm.toNat)) x
    (op.val < 0x16 → some n = [some (.jigNop e a imm), some (.jigIdle e a imm), some (.jigPins e a imm), some (.jigDirs e a imm),
      some (.jigWaitl e a imm x.pins), some (.jigWaite e a imm), some (.jigWaitg e a imm), some (.jigShin e a imm x.bits),
      some (.jigShout e a imm), some (.jigPush e a imm), some (.jigPull e a imm), some (.jigMov e a imm x.pins),
      some (.jigMovi e a imm), some (.jigAddi e a imm), some (.jigSub e a imm x.pins), some (.jigTest e a imm),
      some (.jigBr e a imm x.pins), some (.jigLoop e a imm), some (.jigRecip e a imm), some (.jigMulq e a imm),
      some (.jigSig e a imm), some (.jigYield e a imm)][op.val]?)
    ∧ (0x16 ≤ op.val → n = none) := by
  intro n
  obtain ⟨hop, ha, himm⟩ := jigWord_fields op a imm
  simp only [n, jigCommand, hop, ha, himm]
  obtain ⟨m, hm⟩ := op
  refine ⟨fun h => ?_, fun h => ?_⟩
  · simp only at h ⊢
    interval_cases m <;> rfl
  · simp only at h ⊢
    interval_cases m <;> rfl

/-- Settles O60: the words by their formats; a word with a bit that is marked 0, or of a reserved opcode, by its mask. -/
theorem wordsSpellCommands : Obligations.WordsSpellCommands := by
  refine ⟨fun c d s t imm tgt k fig u v x => ?_, fun c w x e he hw h => ?_, fun e op a imm x => ?_⟩
  · intro top cmd r i onWord
    have hreg : t.val * 2 ^ 14 < 2 ^ 18 := by omega
    have himm : imm.toNat < 2 ^ 18 := by omega
    obtain ⟨h10, h11, h12, h13, h14, h15, h16, h17, h18, h19, h1B, h1C, h1D, h1E⟩ :=
      spells_registers (c := c) (d := d) (s := s) (x := x) (t := t)
    have badD {op rest : Nat} (hm : reservedMask op / 2 ^ 22 = 8) (hr : rest < 2 ^ 18) (hd : 8 ≤ d.val) (ho : op < 64 := by decide) :
        walendCommand c (wordOf op d s rest) x = none :=
      walendCommand_unclear ho hr fun h => land_angle_ne hd (by rw [← hm]; exact h.1)
    have badS {op rest : Nat} (hm : reservedMask op / 2 ^ 18 % 16 = 8) (hr : rest < 2 ^ 18) (hs : 8 ≤ s.val) (ho : op < 64 := by decide) :
        walendCommand c (wordOf op d s rest) x = none :=
      walendCommand_unclear ho hr fun h => land_angle_ne hs (by rw [← hm]; exact h.2.1)
    refine ⟨?_,
      ?_,
      spells_z (by decide) (Nat.zero_and _) (Nat.zero_and _) fun w h1 h2 h3 => by simp only [opcodeCommand, h1],
      spells_i (by decide) (Nat.zero_and _) (Nat.zero_and _) fun w h1 h2 h3 h4 h5 => by simp only [opcodeCommand, h1, h4],
      spells_i (by decide) (Nat.and_zero _) (Nat.zero_and _) fun w h1 h2 h3 h4 h5 => by simp only [opcodeCommand, h1, h2, h4],
      spells_target (.inl rfl) (Nat.zero_and _) rfl fun w h1 h2 h3 => by simp only [opcodeCommand, h1, h3],
      spells_target (.inr rfl) (Nat.and_zero _) rfl fun w h1 h2 h3 => by simp only [opcodeCommand, h1, h2, h3],
      spells_z (by decide) (Nat.zero_and _) (Nat.and_zero _) fun w h1 h2 h3 => by simp only [opcodeCommand, h1, h3],
      spells_z (by decide) (Nat.and_zero _) (Nat.zero_and _) fun w h1 h2 h3 => by simp only [opcodeCommand, h1, h2],
      spells_i (by decide) (Nat.and_zero _) (Nat.zero_and _) fun w h1 h2 h3 h4 h5 => by simp only [opcodeCommand, h1, h2, h4],
      spells_i (by decide) (Nat.and_zero _) (Nat.zero_and _) fun w h1 h2 h3 h4 h5 => by simp only [opcodeCommand, h1, h2, h4],
      spells_z (by decide) (Nat.and_zero _) (Nat.and_zero _) fun w h1 h2 h3 => by simp only [opcodeCommand, h1, h2, h3],
      spells_memory (.inl rfl) fun w h1 h2 h3 h4 h5 => by simp only [opcodeCommand, h1, h2, h3, h4, h5],
      spells_memory (.inr rfl) fun w h1 h2 h3 h4 h5 => by simp only [opcodeCommand, h1, h2, h3, h4, h5],
      spells_i (by decide) (Nat.and_zero _) (Nat.and_zero _) fun w h1 h2 h3 h4 h5 => by simp only [opcodeCommand, h1, h2, h3, h4, h5],
      spells_i (by decide) (Nat.and_zero _) (Nat.and_zero _) fun w h1 h2 h3 h4 h5 => by simp only [opcodeCommand, h1, h2, h3, h4, h5],
      h10, h11, h12, h13, h14, h15, h16, h17, h18, h19, h1B, h1C, h1D, h1E,
      ?_,
      spells_i (by decide) (Nat.zero_and _) (Nat.and_zero _) fun w h1 h2 h3 h4 h5 => by simp only [opcodeCommand, h1, h3, h4],
      spells_i (by decide) (Nat.and_zero _) (Nat.and_zero _) fun w h1 h2 h3 h4 h5 => by simp only [opcodeCommand, h1, h2, h3, h4],
      spells_i (by decide) (Nat.and_zero _) (Nat.and_zero _) fun w h1 h2 h3 h4 h5 => by simp only [opcodeCommand, h1, h2, h3, h4],
      spells_i (by decide) (Nat.and_zero _) (Nat.and_zero _) fun w h1 h2 h3 h4 h5 => by simp only [opcodeCommand, h1, h2, h3, h4],
      spells_i (by decide) (Nat.and_zero _) (Nat.and_zero _) fun w h1 h2 h3 h4 h5 => by simp only [opcodeCommand, h1, h2, h3, h4],
      spells_i (by decide) (Nat.and_zero _) (Nat.and_zero _) fun w h1 h2 h3 h4 h5 => by simp only [opcodeCommand, h1, h2, h3, h4],
      spells_i (by decide) (Nat.and_zero _) (Nat.and_zero _) fun w h1 h2 h3 h4 h5 => by simp only [opcodeCommand, h1, h2, h3, h4],
      fun hl => ⟨spells_shift (by decide) hl fun w h1 h2 h3 h4 => by simp only [opcodeCommand, h1, h2, h3, h4],
      spells_shift (by decide) hl fun w h1 h2 h3 h4 => by simp only [opcodeCommand, h1, h2, h3, h4],
      spells_shift (by decide) hl fun w h1 h2 h3 h4 => by simp only [opcodeCommand, h1, h2, h3, h4]⟩,
      fun hl => ⟨shift_unspelt (by decide) hl, shift_unspelt (by decide) hl, shift_unspelt (by decide) hl⟩,
      spells_rdfig,
      ?_,
      ?_,
      ?_,
      ?_,
      ?_,
      ?_,
      walendCommand_use (by decide) (by decide) rfl,
      spells_z (by decide) (Nat.and_zero _) (Nat.zero_and _) fun w h1 h2 h3 => by simp only [opcodeCommand, h1, h2],
      spells_z (by decide) (Nat.and_zero _) (Nat.zero_and _) fun w h1 h2 h3 => by simp only [opcodeCommand, h1, h2],
      spells_z (by decide) (Nat.and_zero _) (Nat.and_zero _) fun w h1 h2 h3 => by simp only [opcodeCommand, h1, h2, h3],
      spells_z (by decide) (Nat.and_zero _) (Nat.zero_and _) fun w h1 h2 h3 => by simp only [opcodeCommand, h1, h2],
      spells_arm,
      spells_reaim,
      fun hd => ⟨spells_z (by decide) (land_angle hd) (Nat.and_zero _) fun w h1 h2 h3 => by simp only [opcodeCommand, h1, h2, h3],
      spells_z (by decide) (land_angle hd) (Nat.zero_and _) fun w h1 h2 h3 => by simp only [opcodeCommand, h1, h2]⟩,
      fun hd => ⟨badD rfl hreg hd, badD rfl hreg hd, badD rfl hreg hd, badD rfl hreg hd, badD rfl himm hd⟩,
      fun hd hs => ⟨?_, ?_, spells_i (by decide) (land_angle hd) (land_angle hs) fun w h1 h2 h3 h4 h5 => by simp only [opcodeCommand, h1, h2, h3, h4]⟩,
      fun hs ht => ?_,
      fun hs => ⟨spells_z (by decide) (Nat.and_zero _) (land_angle hs) fun w h1 h2 h3 => by simp only [opcodeCommand, h1, h2, h3], ?_⟩,
      fun hs => ⟨badS rfl hreg hs, badS rfl hreg hs, badS rfl hreg hs, badS rfl hreg hs, badS rfl himm hs, badS rfl himm hs⟩,
      walendCommand_reservedOp (by decide) hreg rfl,
      walendCommand_reservedOp (by decide) hreg rfl,
      walendCommand_reservedOp (by decide) hreg rfl,
      walendCommand_reservedOp (by decide) hreg rfl,
      walendCommand_reservedOp (by decide) hreg rfl⟩
    · rfl
    · exact spells_donew
    · exact spells_cmp
    · exact spells_rdres
    · exact spells_send
    · exact spells_fabrd
    · have hw := spells_cueset (c := c) (s := s) (x := x)
      rw [wordOf, Fin.val_zero, Fin.val_zero, Nat.zero_mul, Nat.zero_mul, Nat.add_zero] at hw
      exact hw
    · exact spells_cueclr
    · exact spells_cuewr
    · exact spells_adda (land_angle hd) (land_angle hs)
    · exact spells_suba (land_angle hd) (land_angle hs)
    · exact spells_difa (land_angle hs) ht
    · exact spells_setac (land_angle hs)
  · exact unspelt_of_fixedBits he hw h
  · exact jigCommand_spells e op a imm x

end Sys2Proof.Proofs
end

section
/-! SUPPORT. Fields of register words, counts, and messages that wait for acceptance (R10 to R13, R411 to R415). -/

namespace Sys2Proof.Machine

/-! ### Fields of a word (R10) -/

/-- The bits of a word of which a field has been replaced. -/
theorem setFld_testBit (w : Word) {hi lo : Nat} (v : Nat) {i : Nat} (hl : lo ≤ hi) (hi32 : hi < 32) : (setFld w hi lo v).toNat.testBit i
    = if lo ≤ i ∧ i ≤ hi then v.testBit (i - lo) else w.toNat.testBit i := by
  have hw : 32 ≤ i → w.toNat.testBit i = false := fun h => Nat.testBit_lt_two_pow (lt_of_lt_of_le w.isLt (Nat.pow_le_pow_right (by decide) h))
  have hones : (0xFFFFFFFF : Nat) = 2 ^ 32 - 1 := by decide
  rw [setFld, BitVec.toNat_ofNat, Nat.testBit_mod_two_pow, Nat.testBit_or, Nat.testBit_and, Nat.testBit_xor, hones,
    Nat.testBit_two_pow_sub_one, Nat.testBit_mul_two_pow, Nat.testBit_mul_two_pow, Nat.testBit_two_pow_sub_one, Nat.testBit_mod_two_pow]
  by_cases h32 : i < 32
  · by_cases hlo : lo ≤ i
    · by_cases hhi : i ≤ hi
      · simp [h32, hlo, hhi, show i - lo < hi + 1 - lo by omega]
      · simp [h32, hlo, hhi, show ¬ i - lo < hi + 1 - lo by omega]
    · simp [h32, hlo]
  · have hhi : ¬ i ≤ hi := by omega
    simp [h32, hhi, hw (by omega)]

theorem fld_testBit (w : Word) (hi lo i : Nat) : (fld w hi lo).testBit i = (decide (i < hi + 1 - lo) && w.toNat.testBit (i + lo)) := by
  rw [fld, Nat.testBit_mod_two_pow, Nat.testBit_div_two_pow]

/-- A replaced field holds its new value. -/
theorem fld_setFld (w : Word) {hi lo : Nat} (v : Nat) (hl : lo ≤ hi) (hi32 : hi < 32) :
    fld (setFld w hi lo v) hi lo = v % 2 ^ (hi + 1 - lo) := by
  apply Nat.eq_of_testBit_eq
  intro i
  rw [fld_testBit, setFld_testBit w v hl hi32, Nat.testBit_mod_two_pow]
  by_cases h : i < hi + 1 - lo
  · simp [h, show i + lo ≤ hi by omega]
  · simp [h]

theorem bit_setFld (w : Word) {n : Nat} (v : Nat) (hn : n < 32) : bit (setFld w n n v) n = v.testBit 0 := by
  rw [bit, setFld_testBit w v (le_refl n) hn, if_pos ⟨le_refl n, le_refl n⟩, Nat.sub_self]

/-- A field replaced by what it holds. -/
theorem setFld_self (w : Word) {hi lo : Nat} (hl : lo ≤ hi) (hi32 : hi < 32) : setFld w hi lo (fld w hi lo) = w := by
  apply BitVec.eq_of_toNat_eq
  apply Nat.eq_of_testBit_eq
  intro i
  rw [setFld_testBit w _ hl hi32]
  split
  · next h => rw [fld_testBit, decide_eq_true (show i - lo < hi + 1 - lo by omega), Bool.true_and, Nat.sub_add_cancel h.1]
  · rfl

/-! ### The operations as the records that they leave -/

theorem State.hw_eq (s : State) (a m : Nat) :
    s.hw a m = { s with hwSet := (s.hwSet.filter fun x => decide (x.1 = s.now)) ++ [(s.now, a, m)] } := rfl

theorem State.setRg_eq (s : State) (r : RegRow) (i j : Nat) (w : Word) :
    s.setRg r i j w = { s with regs := sparseSet (resetWord r i) (r.addr i j) w s.regs } := rfl

theorem State.settle_parts (s : State) : ∃ q, s.settle = { s with pins := q } := ⟨_, rfl⟩

/-! ### Fields of registers -/

section
variable {s t : State} (h : t.regs = s.regs) (r : RegRow) (i : Nat)
include h
theorem State.rg_congr (j : Nat) : t.rg r i j = s.rg r i j := by rw [State.rg, State.rg, h]
theorem State.rb_congr (n : Nat) : t.rb r i n = s.rb r i n := by rw [State.rb, State.rb, State.rg_congr h]
theorem State.rf_congr (hi lo : Nat) : t.rf r i hi lo = s.rf r i hi lo := by rw [State.rf, State.rf, State.rg_congr h]
end

section
variable (s : State) (r : RegRow) (i : Nat)

theorem State.setRf_rg (hi lo v : Nat) : (s.setRf r i hi lo v).rg r i 0 = setFld (s.rg r i) hi lo v := State.setRg_rg ..

theorem State.setRf_rf {hi lo : Nat} (v : Nat) (hl : lo ≤ hi) (hi32 : hi < 32) :
    (s.setRf r i hi lo v).rf r i hi lo = v % 2 ^ (hi + 1 - lo) := by
  rw [State.rf, State.setRf_rg, fld_setFld _ _ hl hi32]

theorem State.setRf_rb {n : Nat} (v : Nat) (hn : n < 32) : (s.setRf r i n n v).rb r i n = v.testBit 0 := by
  rw [State.rb, State.setRf_rg, bit_setFld _ _ hn]

/-- A count goes up by one and stays at its greatest value. -/
theorem State.bump_rf {hi lo : Nat} (hl : lo ≤ hi) (hi32 : hi < 32) :
    (s.bump r i hi lo).rf r i hi lo = min (2 ^ (hi + 1 - lo) - 1) (s.rf r i hi lo + 1) := by
  have hlt : s.rf r i hi lo < 2 ^ (hi + 1 - lo) := Nat.mod_lt _ (Nat.two_pow_pos _)
  unfold State.bump
  dsimp only
  split
  · next h =>
    have hset : (s.setRf r i hi lo (s.rf r i hi lo + 1)).rf r i hi lo = s.rf r i hi lo + 1 := by
      rw [State.setRf_rf s r i _ hl hi32, Nat.mod_eq_of_lt h]
    rw [Nat.min_eq_right (by omega)]
    split
    · exact hset
    · exact hset
  · rw [Nat.min_eq_left (by omega)]
    omega

/-- A count does not change the words of other registers. -/
theorem State.bump_rg_ne {hi lo : Nat} {q : RegRow} {k l : Nat} (h : q.addr k l ≠ r.addr i 0) : (s.bump r i hi lo).rg q k l = s.rg q k l := by
  have hset : (s.setRf r i hi lo (s.rf r i hi lo + 1)).rg q k l = s.rg q k l := State.setRg_rg_ne s r q i 0 k l _ h
  unfold State.bump
  dsimp only
  split
  · split
    · exact hset
    · exact hset
  · rfl

end

/-! ### Messages (R411, R415) -/

/-- The message that an event leaves in its source's places. -/
def State.msg (s : State) (cls kind src ctx : Nat) : Msg :=
  ⟨cls, kind, src, wordN ctx, s.now, s.msgReady kind src, decide (src / 1024 = 1) && decide (kind ≠ Kind.linkFault)⟩

/-- A message of a source with an ordinary place free waits behind the others. -/
theorem State.emit_coll (s : State) (cls kind : Nat) {src : Nat} (ctx : Nat) (h : (s.coll.outbox.filter (·.src = src)).length < 4) :
    (s.emit cls kind src ctx).coll = { s.coll with outbox := s.coll.outbox ++ [s.msg cls kind src ctx] } := by
  have hput : outboxPut (s.msg cls kind src ctx) s.coll
      = ({ s.coll with outbox := s.coll.outbox ++ [s.msg cls kind src ctx] }, false) := by
    simp only [outboxPut]
    rw [if_pos]
    exact h
  unfold State.emit
  simp only [State.msg] at hput
  dsimp only
  rw [hput]
  dsimp only
  rw [if_neg Bool.false_ne_true]
  split
  · rfl
  · rfl

theorem State.emits_emit {s u t : State} {cls kind src ctx : Nat} (hu : u.coll.outbox = s.coll.outbox) (hn : s.now ≤ u.now)
    (ht : (u.emit cls kind src ctx).coll.outbox ⊆ t.coll.outbox) (hnt : u.now ≤ t.now) : s.Emits t cls kind src ctx := by
  intro h
  rw [← hu] at h
  refine ⟨u.msg cls kind src ctx, ht ?_, rfl, rfl, rfl, rfl, hn, hnt⟩
  rw [State.emit_coll u cls kind ctx h]
  exact List.mem_append_right _ (List.mem_singleton.mpr rfl)

end Sys2Proof.Machine
end

section
/-! SUPPORT. A port's write of a register outside the driver die, the measurement region and the trace registers (R384, R392). -/

namespace Sys2Proof.Machine

/-- The host's writes of registers that belong to no owned unit are permitted outside LOCKOUT. -/
theorem State.hostMay_unowned {s : State} {r : RegRow} {i : Nat} (hj : r.base ≠ Reg.jigCmd.base) (ho : s.unitOwner r i = none) (v : Word) :
    s.hostMay r i v = .ok := by
  simp only [State.hostMay, if_neg hj, ho, ite_self]

/-- A port's write of a register of no owned unit reaches the register. -/
theorem State.portWrite_row {s : State} {p : Fin 2} {r : RegRow} {i j : Nat} (hw : s.Writable p) (hc : addrCheck (r.addr i j) r i j = true)
    (hreg : r.addr i j < 0x20000000 ∨ (0x40000000 ≤ r.addr i j ∧ r.addr i j < 0x70004000) ∨ 0x70005000 ≤ r.addr i j)
    (hj : r.base ≠ Reg.jigCmd.base) (ho : s.unitOwner r i = none) (v : Word) (f : Fin 3) :
    s.portWrite p (r.addr i j) v f false = (s.regWrite (portOf2 p) r i j v).1.answered p (s.regWrite (portOf2 p) r i j v).2 :=
  State.portWrite_reg hw (State.regAddr_of hc (by omega)) (State.hostMay_unowned hj ho v) f (State.reach_here hreg false) rfl

theorem addrCheck_sysGate : addrCheck (Reg.sysGate.addr 0 0) Reg.sysGate 0 0 = true := by decide +kernel

section
variable {s : State} {p : Fin 2} {g : Bool}

theorem State.measGate_rb (s : State) : s.measGate.rb Reg.sysGate 0 0 = true := State.setRf_rb _ Reg.sysGate 0 1 (by decide)

theorem State.measGate_eq (s : State) : s.measGate = { s with
    sys := { s.sys with measRdy := false }
    ms := { s.ms with win := s.ms.win.map fun w => { w with isOpen := false, runs := [] }, ends := [] }
    regs := (s.setRf Reg.sysGate 0 0 0 1).regs } := rfl

theorem State.measUngate_eq (s : State) : s.measUngate = { s with
    ms := { s.ms with ready := s.now + 10000 }, regs := (s.setRf Reg.sysGate 0 0 0 0).regs } := rfl

/-- Gating after the write of DROPPED as it stands, and ungating. -/
theorem State.gated_eq (s : State) (a m : Nat) : ((s.setRg Reg.sysGate 0 0 (s.rg Reg.sysGate 0 0)).measGate).hw a m = { s with
    sys := { s.sys with measRdy := false }
    ms := { s.ms with win := s.ms.win.map fun w => { w with isOpen := false, runs := [] }, ends := [] }
    regs := (s.setRg Reg.sysGate 0 0 (s.rg Reg.sysGate 0 0)).measGate.regs, hwSet := (s.hw a m).hwSet } := by
  rw [State.measGate_eq, State.setRg_eq, State.hw_eq, State.hw_eq]

theorem State.ungated_eq (s : State) (a m : Nat) : ((s.setRg Reg.sysGate 0 0 (s.rg Reg.sysGate 0 0)).measUngate).hw a m = { s with
    ms := { s.ms with ready := s.now + 10000 }
    regs := (s.setRg Reg.sysGate 0 0 (s.rg Reg.sysGate 0 0)).measUngate.regs, hwSet := (s.hw a m).hwSet } := by
  rw [State.measUngate_eq, State.setRg_eq, State.hw_eq, State.hw_eq]

theorem State.measUngate_rb (s : State) : s.measUngate.rb Reg.sysGate 0 0 = false := State.setRf_rb s Reg.sysGate 0 0 (by decide)

/-- MEAS_GATE_WRITE: the word that the row writes keeps DROPPED. -/
def State.gateWord (s : State) (g : Bool) : Word := wordN (s.rf Reg.sysGate 0 31 16 * 65536 + bitAt g 0)

theorem State.gateWord_dropped (s : State) (g : Bool) : fld (s.gateWord g) 31 16 = s.rf Reg.sysGate 0 31 16 := by
  have hlt : s.rf Reg.sysGate 0 31 16 < 65536 := Nat.mod_lt _ (by decide)
  have hb : bitAt g 0 < 65536 := by cases g <;> decide
  rw [State.gateWord, fld, wordN, BitVec.toNat_ofNat, Nat.mod_eq_of_lt (by omega)]
  omega

theorem State.gateWord_meas (s : State) (g : Bool) : bit (s.gateWord g) 0 = g := by
  have hlt : s.rf Reg.sysGate 0 31 16 < 65536 := Nat.mod_lt _ (by decide)
  have hb : bitAt g 0 < 65536 := by cases g <;> decide
  rw [State.gateWord, bit, wordN, BitVec.toNat_ofNat, Nat.mod_eq_of_lt (by omega), Nat.testBit_eq_decide_div_mod_eq]
  cases g <;> simp [bitAt] <;> omega

/-- What a write of SYS_GATE does to MEAS, where DROPPED keeps its value (R448). -/
theorem State.gateWrite_gateWord (s : State) (g : Bool) : s.gateWrite (s.gateWord g)
    = if !s.live then (s, .busy)
      else (let t := s.setRg Reg.sysGate 0 0 (s.rg Reg.sysGate 0 0)
        if g && !s.rb Reg.sysGate 0 0 then t.measGate else if !g && s.rb Reg.sysGate 0 0 then t.measUngate else t, .ok) := by
  have hset : s.setRf Reg.sysGate 0 31 16 (s.rf Reg.sysGate 0 31 16) = s.setRg Reg.sysGate 0 0 (s.rg Reg.sysGate 0 0) := by
    rw [State.setRf, State.rf, setFld_self _ (by decide) (by decide)]
  unfold State.gateWrite
  rw [State.gateWord_dropped, State.gateWord_meas, hset]
  split
  · rfl
  · dsimp only
    split
    · rfl
    · split <;> rfl

theorem execMeasGateWrite_eq (hw : s.Writable p) : exec (.measGateWrite p g) s
    = .next (if s.outranked (portOf2 p) Reg.sysGate.base then s.answered p .ok
      else if !s.live then s.answered p .busy
      else ((let t := s.setRg Reg.sysGate 0 0 (s.rg Reg.sysGate 0 0)
        if g && !s.rb Reg.sysGate 0 0 then t.measGate else if !g && s.rb Reg.sysGate 0 0 then t.measUngate else t).hw
          (wroteKey Reg.sysGate.base) (portRank (portOf2 p))).answered p .ok).settle := by
  have hrow := State.portWrite_row hw addrCheck_sysGate (by decide) (by decide) (show s.unitOwner Reg.sysGate 0 = none from rfl)
    (s.gateWord g) 0
  have hreg : s.regWrite (portOf2 p) Reg.sysGate 0 0 (s.gateWord g) = if s.outranked (portOf2 p) Reg.sysGate.base then (s, .ok)
      else if !s.live then (s, .busy) else ((let t := s.setRg Reg.sysGate 0 0 (s.rg Reg.sysGate 0 0)
        if g && !s.rb Reg.sysGate 0 0 then t.measGate else if !g && s.rb Reg.sysGate 0 0 then t.measUngate else t).hw
          (wroteKey Reg.sysGate.base) (portRank (portOf2 p)), .ok) := by
    have h := s.gateWrite_gateWord g
    change (if s.outranked (portOf2 p) Reg.sysGate.base then ((s, .ok) : State × Status)
      else (if (s.gateWrite (s.gateWord g)).2 = .ok then (s.gateWrite (s.gateWord g)).1.hw (wroteKey Reg.sysGate.base) (portRank (portOf2 p))
        else (s.gateWrite (s.gateWord g)).1, (s.gateWrite (s.gateWord g)).2)) = _
    rw [h]
    split
    · rfl
    · split <;> rfl
  rw [hreg] at hrow
  refine congrArg finish (hrow.trans ?_)
  split
  · rfl
  · split <;> rfl

end

end Sys2Proof.Machine
end

section
/-! PROOFS. The gate of the measurement region (R20, R36, R266, R448): the statement O27. -/

open Sys2Proof Sys2Proof.Machine

namespace Sys2Proof.Proofs

/-- What the answer to a port's write leaves alone. -/
theorem answered_parts (s : State) (p : Fin 2) (st : Status) : ∃ h m, s.answered p st = { s with host := h, mnt := m } := by
  unfold State.answered
  split
  · exact ⟨_, _, rfl⟩
  · split <;> exact ⟨_, _, rfl⟩

theorem answered_answer (s : State) (p : Fin 2) {st : Status} (h : st ≠ .waiting) : (s.answered p st).settle.answer p = st := by
  by_cases hp : p = 0
  · simp only [State.answered, State.answer, if_pos hp]; rfl
  · simp only [State.answered, State.answer, if_neg hp, if_neg h]; rfl

/-- Settles O27: the write by the register's present MEAS, the end of ungating by the state that it leaves. -/
theorem measurementGate : Obligations.MeasurementGate := by
  intro s p g hw port late wrote
  have hport : port = portOf2 p := rfl
  have hlast : late = s.outranked (portOf2 p) Reg.sysGate.base := by rw [← hport]
  have hgate (g : Bool) := execMeasGateWrite_eq (g := g) hw
  rw [← hlast, ← hport] at hgate
  refine ⟨fun hl hlate hb => ?_, fun hl hlate hb => ?_, fun hl hlate hb => ?_, fun hl hlate => ?_, fun hlate => ?_, fun hm hb => ?_⟩
  · have h := hgate true
    simp only [hlate, hl, hb, Bool.false_eq_true, if_false, Bool.not_true, Bool.not_false, Bool.and_self, if_true] at h
    refine ⟨_, h, answered_answer _ p nofun, ?_⟩
    rw [State.gated_eq]
    obtain ⟨x, m, hx⟩ := answered_parts _ p .ok
    obtain ⟨q, hq⟩ := State.settle_parts _
    rw [hq, hx]
    exact ⟨rfl, rfl, (State.rb_congr rfl ..).trans (State.measGate_rb _), fun w => Vector.getElem_map _ _, rfl, rfl⟩
  · have h := hgate false
    simp only [hlate, hl, hb, Bool.false_eq_true, if_false, Bool.not_true, Bool.not_false, Bool.and_self, if_true] at h
    refine ⟨_, h, answered_answer _ p nofun, ?_⟩
    rw [State.ungated_eq]
    obtain ⟨x, m, hx⟩ := answered_parts _ p .ok
    obtain ⟨q, hq⟩ := State.settle_parts _
    rw [hq, hx]
    exact ⟨rfl, rfl, (State.rb_congr rfl ..).trans (State.measUngate_rb _), rfl⟩
  · rw [hgate g, hlate, hl, hb]
    simp only [Bool.false_eq_true, if_false, Bool.not_true, Bool.and_not_self, Bool.not_and_self]
    rfl
  · rw [hgate g, hlate, hl]
    simp only [Bool.false_eq_true, if_false, Bool.not_false, if_true]
  · rw [hgate g, hlate, if_pos rfl]
  · have hcond : ¬(s.sys.measRdy = true ∨ s.rb Reg.sysGate 0 0 = true ∨ (!s.clocked) = true) := by simp [hm, hb, hw.1]
    refine ⟨s.ungateDone.settle, rfl, ?_⟩
    rw [State.ungateDone, if_neg hcond]
    have hadv := s.advanceTo_frame s.ms.ready
    have hnow : s.ms.ready ≤ (s.advanceTo s.ms.ready).now := by rw [State.advanceTo_now]; exact le_max_right ..
    generalize s.advanceTo s.ms.ready = u at hadv hnow
    obtain ⟨q, hq⟩ := State.settle_parts { u with
      sys := { u.sys with measRdy := true }
      ms := { u.ms with
        ready := u.now
        mod := u.ms.mod.map fun x => { x with
          hist := [], kept := [], stream := x.stream + 1, skip := discardOf x.dec + fld x.word 9 5 }
        pair := u.ms.pair.map fun p => { p with last := none } } }
    dsimp only
    rw [hq, hadv]
    exact ⟨rfl, hnow, rfl, rfl, fun m => by simp, rfl, rfl, rfl⟩

end Sys2Proof.Proofs
end

section
/-! SUPPORT. What the driver die's operations change (R219 to R241, R246), and messages that later ones leave in their places. -/

namespace Sys2Proof.Machine

/-! ### The frame of the driver die's operations on shots -/

/-- The second state differs from the first only in the driver die's channels, banks and ignition outputs, and by transfers that the
driver die sends. -/
def State.DrvFrame (s t : State) : Prop :=
  ∃ ch bank ign q, t = { s with
    drv := { s.drv with ch := ch, bank := bank, ign := ign }, links := { s.links with ddl := s.links.ddl ++ q } }

theorem State.DrvFrame.refl (s : State) : s.DrvFrame s := ⟨s.drv.ch, s.drv.bank, s.drv.ign, [], by rw [List.append_nil]⟩

theorem State.DrvFrame.trans {s t u : State} (h : s.DrvFrame t) (h' : t.DrvFrame u) : s.DrvFrame u := by
  obtain ⟨ch, bank, ign, q, rfl⟩ := h
  obtain ⟨ch', bank', ign', q', rfl⟩ := h'
  exact ⟨ch', bank', ign', q ++ q', by rw [← List.append_assoc]⟩

theorem State.DrvFrame.ite {s t u : State} {p : Prop} [Decidable p] (ht : s.DrvFrame t) (hu : s.DrvFrame u) :
    s.DrvFrame (if p then t else u) := by
  split
  · exact ht
  · exact hu

theorem State.DrvFrame.foldl {α : Type} {f : State → α → State} (hf : ∀ (t : State) (x : α), t.DrvFrame (f t x)) (l : List α) (s : State) :
    s.DrvFrame (l.foldl f s) := by
  induction l generalizing s with
  | nil => exact .refl s
  | cons x l ih => exact (hf s x).trans (ih _)

section
variable (s : State) (c : Fin 32)

theorem State.drvFrame_setCh (f : DrvCh → DrvCh) : s.DrvFrame (s.setCh c f) :=
  ⟨_, s.drv.bank, s.drv.ign, [], by rw [List.append_nil]; rfl⟩

theorem State.drvFrame_setBank (b : Fin 8) (f : Bank → Bank) : s.DrvFrame (s.setBank b f) :=
  ⟨s.drv.ch, _, s.drv.ign, [], by rw [List.append_nil]; rfl⟩

theorem State.drvFrame_setDIgn (n : Fin 24) (f : DrvIgn → DrvIgn) : s.DrvFrame (s.setDIgn n f) :=
  ⟨s.drv.ch, s.drv.bank, _, [], by rw [List.append_nil]; rfl⟩

theorem State.drvFrame_ddlSend (x : Xfer) : s.DrvFrame (s.ddlSend x) := ⟨s.drv.ch, s.drv.bank, s.drv.ign, [x], rfl⟩

theorem State.drvFrame_setShot (f : Shot → Shot) : s.DrvFrame (s.setShot c f) := s.drvFrame_setCh c _

theorem State.drvFrame_sigFlush (b : Fin 8) : s.DrvFrame (s.sigFlush b) := by
  unfold State.sigFlush
  dsimp only
  split
  · exact .refl s
  · exact .refl s
  · split
    · exact .refl s
    · exact ((s.drvFrame_ddlSend _).trans (State.drvFrame_setShot _ _ _)).trans (State.drvFrame_setBank _ _ _)

theorem State.drvFrame_shend (time : Nat) (det : Bool) : s.DrvFrame (s.shend c time det) := by
  unfold State.shend
  split
  · exact .refl s
  · exact .ite (.refl s) (s.drvFrame_ddlSend _)

theorem State.drvFrame_convFree : s.DrvFrame (s.convFree c) :=
  .ite ((s.drvFrame_sigFlush _).trans (State.drvFrame_setBank _ _ _)) (.refl s)

theorem State.drvFrame_captureEnd (time : Nat) (det : Bool) : s.DrvFrame (s.captureEnd c time det) :=
  (s.drvFrame_convFree c).trans (State.drvFrame_shend _ _ _ _)

theorem State.drvFrame_account : s.DrvFrame (s.account c) := by
  unfold State.account
  split
  · exact .refl s
  · exact .ite (.refl s) ((s.drvFrame_setCh c _).trans (State.drvFrame_setShot _ _ _))

theorem State.drvFrame_sealSend (src inc : Nat) : s.DrvFrame (s.sealSend src inc c) :=
  .foldl (fun t n => .ite (t.drvFrame_ddlSend (.sealInc n inc)) (.refl t)) _ s

theorem State.drvFrame_sealOntime : s.DrvFrame (s.sealOntime c) := by
  unfold State.sealOntime
  split
  · exact .ite (.refl s) (s.drvFrame_sealSend _ _ _)
  · exact .refl s

theorem State.drvFrame_releaseLead : s.DrvFrame (s.releaseLead c) := .ite (s.drvFrame_setBank _ _) (.refl s)

theorem State.drvFrame_dropWait : s.DrvFrame (s.dropWait c) := s.drvFrame_setBank _ _

/-- A channel held safe ends its drive without a message. -/
theorem State.drvFrame_toRecovery : s.DrvFrame (s.toRecovery c true) := by
  unfold State.toRecovery
  split
  · exact .refl s
  · split
    · exact .ite ((s.drvFrame_captureEnd c _ _).trans (State.drvFrame_setShot _ _ _)) (.refl s)
    · dsimp only
      rw [if_pos rfl]
      exact ((((s.drvFrame_account c).trans (State.drvFrame_sealOntime _ _)).trans (State.drvFrame_setShot _ _ _)).trans
        (.ite (.refl _) (State.drvFrame_releaseLead _ _))).trans
        ((State.drvFrame_captureEnd _ _ _ _).trans (State.drvFrame_setShot _ _ _))

theorem State.drvFrame_driverHold : s.DrvFrame (s.driverHold c) :=
  ((s.drvFrame_dropWait c).trans (State.drvFrame_toRecovery _ _)).trans (State.drvFrame_releaseLead _ _)

theorem State.drvFrame_rampDown (n : Fin 24) : s.DrvFrame (s.rampDown n) := .ite (s.drvFrame_setDIgn _ _) (.refl s)

end

/-- The driver die's part in the safe actuation state changes the driver die alone and may send transfers; no drive is left on. -/
theorem State.drvSafe_parts (s : State) : ∃ d q, d.safe = true ∧
    s.drvSafe = { s with drv := d, links := { s.links with ddl := s.links.ddl ++ q } } := by
  unfold State.drvSafe
  split
  · next h => exact ⟨s.drv, [], h, by rw [List.append_nil]⟩
  · obtain ⟨ch, bank, ign, q, hq⟩ := State.DrvFrame.trans
      (State.DrvFrame.foldl (fun (t : State) (c : Fin 32) => (t.drvFrame_driverHold c).trans
        (State.drvFrame_setCh _ c fun d => { d with startPend := false, offPend := false })) (List.finRange 32)
        { s with drv := { s.drv with safe := true, bst := s.drv.bst.map fun b => { b with on := false, toff := none } } })
      (State.DrvFrame.foldl (fun (t : State) (n : Fin 24) => t.drvFrame_rampDown n) (List.finRange 24) _)
    exact ⟨_, _, rfl, hq⟩

/-! ### Messages (R411, R415) -/

/-- A message changes its source's places, and goes out over the DDL where the driver die sends it. -/
theorem State.emit_places (s : State) (cls kind src ctx : Nat) : ∃ ob kp q g h, s.emit cls kind src ctx = { s with
    coll := { s.coll with outbox := ob, kept := kp }, links := { s.links with ddl := s.links.ddl ++ q }, regs := g, hwSet := h } := by
  have hput : ∀ m : Msg, ∃ ob kp b, outboxPut m s.coll = ({ s.coll with outbox := ob, kept := kp }, b) := by
    intro m
    unfold outboxPut
    dsimp only
    split
    · exact ⟨_, _, _, rfl⟩
    · split
      · exact ⟨_, _, _, rfl⟩
      · split
        · exact ⟨_, _, _, rfl⟩
        · split
          · exact ⟨_, _, _, rfl⟩
          · exact ⟨_, _, _, rfl⟩
  obtain ⟨ob, kp, b, hb⟩ := hput (s.msg cls kind src ctx)
  unfold State.msg at hb
  unfold State.emit
  dsimp only
  rw [hb]
  dsimp only
  have hsend : ∃ q, (if (decide (src / 1024 = 1) && decide (kind ≠ Kind.linkFault)) = true then
      ({ s with coll := { s.coll with outbox := ob, kept := kp } } : State).ddlSend (.message (s.msg cls kind src ctx))
      else { s with coll := { s.coll with outbox := ob, kept := kp } })
      = { s with coll := { s.coll with outbox := ob, kept := kp }, links := { s.links with ddl := s.links.ddl ++ q } } := by
    split
    · exact ⟨[_], rfl⟩
    · exact ⟨[], by rw [List.append_nil]⟩
  obtain ⟨q, hq⟩ := hsend
  unfold State.msg at hq
  rw [hq]
  split
  · rw [State.bump_frame]
    exact ⟨_, _, q, _, _, rfl⟩
  · exact ⟨_, _, q, _, _, rfl⟩

/-- A message of no higher class displaces none that waits. -/
theorem State.emit_mem {s : State} {m : Msg} (hm : m ∈ s.coll.outbox) {cls : Nat} (hc : cls ≤ m.cls) (kind src ctx : Nat) :
    m ∈ (s.emit cls kind src ctx).coll.outbox := by
  have hput : ∀ x : Msg, x.cls ≤ m.cls → m ∈ (outboxPut x s.coll).1.outbox := by
    intro x hx
    unfold outboxPut
    dsimp only
    split
    · exact List.mem_append_left _ hm
    · split
      · next old hold =>
        have hlt : old.cls < x.cls := by simpa using List.find?_some hold
        have hne : m ≠ old := by
          rintro rfl
          omega
        exact List.mem_append_left _ ((List.mem_erase_of_ne hne).mpr hm)
      · split
        · exact hm
        · split
          · exact hm
          · exact hm
  have hcoll : (s.emit cls kind src ctx).coll = (outboxPut (s.msg cls kind src ctx) s.coll).1 := by
    unfold State.emit State.msg
    dsimp only
    split
    · rw [State.bump_frame]
      split
      · rfl
      · rfl
    · split
      · rfl
      · rfl
  rw [hcoll]
  exact hput _ hc

/-- What was emitted still waits where nothing but a message of no higher class came since. -/
theorem State.Emits.of_mem {s t u : State} {cls kind src ctx : Nat} (h : s.Emits t cls kind src ctx) (hn : t.now ≤ u.now)
    (hk : ∀ m ∈ t.coll.outbox, m.cls = cls → m ∈ u.coll.outbox) : s.Emits u cls kind src ctx := by
  intro hlt
  obtain ⟨m, hm, hcls, hkind, hsrc, hctx, h1, h2⟩ := h hlt
  exact ⟨m, hk m hm hcls, hcls, hkind, hsrc, hctx, h1, by omega⟩

end Sys2Proof.Machine
end

section
/-! SUPPORT. The driver die link: what a transfer that is given up, a silence and the answer to a release leave (R18, R37, R423). -/

namespace Sys2Proof.Machine

/-- The driver die enters the safe actuation state: its drives end, and what it reports waits in its places. -/
theorem State.drvEnter_parts (s : State) (cause : Nat) : ∃ d ob kp q g h, d.safe = true ∧ s.drvEnter cause = { s with
    drv := d, coll := { s.coll with outbox := ob, kept := kp }, links := { s.links with ddl := s.links.ddl ++ q }, regs := g, hwSet := h } := by
  unfold State.drvEnter
  split
  · next h => exact ⟨s.drv, s.coll.outbox, s.coll.kept, [], s.regs, s.hwSet, h, by rw [List.append_nil]⟩
  · obtain ⟨d, q, hd, heq⟩ := s.drvSafe_parts
    obtain ⟨ob, kp, q', g, h, hem⟩ := s.drvSafe.emit_places 2 Kind.drvSafe srcDrv cause
    refine ⟨d, ob, kp, q ++ q', g, h, hd, ?_⟩
    rw [hem, heq, List.append_assoc]

theorem State.drvEnter_mem {s : State} {m : Msg} (hm : m ∈ s.coll.outbox) (hc : m.cls = 2) (cause : Nat) :
    m ∈ (s.drvEnter cause).coll.outbox := by
  unfold State.drvEnter
  split
  · exact hm
  · obtain ⟨d, q, -, heq⟩ := s.drvSafe_parts
    exact State.emit_mem (by rw [heq]; exact hm) (by omega) _ _ _

theorem State.drvEnter_emits {s : State} (h : s.drv.safe = false) (cause : Nat) : s.Emits (s.drvEnter cause) 2 Kind.drvSafe srcDrv cause := by
  have henter : s.drvEnter cause = s.drvSafe.emit 2 Kind.drvSafe srcDrv cause := by
    rw [State.drvEnter, if_neg (by rw [h]; exact Bool.false_ne_true)]
  obtain ⟨d, q, -, heq⟩ := s.drvSafe_parts
  refine State.emits_emit (u := s.drvSafe) (by rw [heq]) (by rw [heq]) (by rw [henter]; exact fun x hx => hx) ?_
  rw [henter]
  obtain ⟨ob, kp, q', g, hw, hem⟩ := s.drvSafe.emit_places 2 Kind.drvSafe srcDrv cause
  rw [hem]

/-- With the driver die in the safe actuation state no ball drives. -/
theorem State.settle_quiet {s : State} (h : s.drv.safe = true) : s.settle.pins.quiet = true :=
  State.pinsOf_quiet (by simp [State.drvOff, h])

/-- DDL_SILENCE. -/
theorem State.ddlSilence_clocked {s : State} (h : s.clocked = true) :
    s.ddlSilence = (s.advanceTo (s.links.lastGood.getD 0 + 16000)).drvEnter 2 := by
  rw [State.ddlSilence, if_neg (by rw [h]; decide)]

/-- The write that waits for the driver die's answer stays where no answer has come. -/
theorem State.relResume_none {s : State} (h : s.coll.relDone = none) : s.relResume = s := by
  unfold State.relResume
  rw [h]

/-- A write that waits ends where its release failed. -/
theorem State.relResume_failed {s : State} {st : Status} {w : RelWait} (hd : s.coll.relDone = some st) (hw : s.coll.relWait = some w)
    (hs : st ≠ .ok) : s.relResume = { s with
      coll := { s.coll with relDone := none, relWait := none }
      host := if w.port then s.host else ⟨st, [], w.k⟩
      mnt := if w.port then { s.mnt with pend := none, istat := st } else s.mnt } := by
  unfold State.relResume
  rw [hd, hw]
  dsimp only
  split
  · simp [State.setMnt, hs]
  · simp [State.hostAnswer]

/-- The port's access of one word that waits ends once the driver die has left the state. -/
theorem State.relResume_left {s : State} {w : RelWait} (hd : s.coll.relDone = some .ok) (hw : s.coll.relWait = some w) (hr : w.rest = []) :
    s.relResume = { s with
      coll := { s.coll with relDone := none, relWait := none }
      host := if w.port then s.host else ⟨.ok, [], 0⟩
      mnt := if w.port then { s.mnt with
          pend := none, istat := .ok, iaddr := if s.mnt.pend.any (·.2) then (s.mnt.iaddr + 4) % 2 ^ 40 else s.mnt.iaddr }
        else s.mnt } := by
  unfold State.relResume
  rw [hd, hw]
  dsimp only
  split
  · simp [State.setMnt, addr40]
  · simp [hr, State.burstWrite, State.hostAnswer]

/-! ### Transfers at the head of the DDL -/

section
variable {s : State} {x : Xfer} {rest : List Xfer} (hc : s.clocked = true) (hd : s.links.ddl = x :: rest)
  (hq : s.links.quietUntil ≤ s.now) (hcrc : s.inj.ddlCrc = false)
include hc hd hq hcrc

theorem State.ddlTransfer_head (ok : Bool) : s.ddlTransfer ok =
    if ok = true then ({ s with links := { s.links with ddl := rest, ddlTries := 0 } } : State).ddlArrive x
    else if s.links.ddlTries < 4 then
      ({ s with links := { s.links with ddlTries := s.links.ddlTries + 1 } } : State).bump Reg.linkRetry 0 15 0
    else (({ s with links := { s.links with ddl := rest, ddlTries := 0 } } : State).linkFault 1).ddlLost x := by
  have hinj : ({ s.inj with ddlCrc := false } : Inject) = s.inj := by
    rw [← hcrc]
  unfold State.ddlTransfer
  rw [hd]
  dsimp only
  rw [if_neg (by simp [hc, hq]), hinj, hcrc]
  cases ok with
  | true => rfl
  | false => rfl

theorem execDdlTransfer_arrives (ht : x.toDriver = true) (hv : ∀ n us q, x ≠ .softval n us q) (hrel : s.coll.relDone = none) :
    exec (.ddlTransfer true) s = .next ({ s with links := { s.links with
      ddl := rest, ddlTries := 0, lastGood := some s.now
      arrived := if x = .heartbeat then s.links.arrived else s.links.arrived ++ [x] } } : State).settle := by
  have harrive : s.ddlTransfer true = { s with links := { s.links with
      ddl := rest, ddlTries := 0, lastGood := some s.now
      arrived := if x = .heartbeat then s.links.arrived else s.links.arrived ++ [x] } } := by
    rw [State.ddlTransfer_head hc hd hq hcrc, if_pos rfl]
    cases x with
    | heartbeat => rfl
    | select => rfl
    | softoff => rfl
    | release => rfl
    | softval n us q => exact absurd rfl (hv n us q)
    | _ => exact absurd ht Bool.false_ne_true
  show finish (s.ddlTransfer true).relResume = _
  rw [State.relResume_none (by rw [harrive]; exact hrel), harrive]
  rfl

theorem execDdlTransfer_retried (h4 : s.links.ddlTries < 4) (hrel : s.coll.relDone = none) :
    exec (.ddlTransfer false) s = .next (({ s with links := { s.links with ddlTries := s.links.ddlTries + 1 } } : State).bump
      Reg.linkRetry 0 15 0).settle := by
  have hretry := State.ddlTransfer_head hc hd hq hcrc false
  rw [if_neg Bool.false_ne_true, if_pos h4] at hretry
  show finish (s.ddlTransfer false).relResume = _
  rw [hretry, State.relResume_none (by rw [State.bump_frame]; exact hrel)]
  rfl

/-- A transfer given up: LINK_FAULT, and what its loss leaves. -/
theorem execDdlTransfer_lost (h4 : 4 ≤ s.links.ddlTries) : exec (.ddlTransfer false) s
    = .next ((({ s with links := { s.links with ddl := rest, ddlTries := 0 } } : State).linkFault 1).ddlLost x).relResume.settle := by
  have hlost := State.ddlTransfer_head hc hd hq hcrc false
  rw [if_neg Bool.false_ne_true, if_neg (by omega)] at hlost
  show finish (s.ddlTransfer false).relResume = _
  rw [hlost]
  rfl

end

/-- What the loss of a transfer leaves as it was, and what waited. -/
structure State.LinkLost (x : Xfer) (s t : State) : Prop where
  clu : t.clu = s.clu
  mem : t.mem = s.mem
  prd : t.prd = s.prd
  now : t.now = s.now
  tries : t.links.ddlTries = s.links.ddlTries
  waits : ∀ m ∈ s.coll.outbox, m.cls = 2 → m ∈ t.coll.outbox
  again : ∀ m, x = .message m → x ∈ t.links.ddl

theorem State.releaseFailed_pending {s : State} (h : s.coll.relPend = true) (st : Status) : s.releaseFailed st
    = ({ s with coll := { s.coll with
      lineA := true, lineB := true, relPend := false, relDone := if s.coll.relWait.isSome then some st else none } } : State).drvEnter 1 := by
  unfold State.releaseFailed
  rw [h]
  rfl

theorem State.releaseFailed_idle {s : State} (h : s.coll.relPend = false) (st : Status) : s.releaseFailed st = s := by
  unfold State.releaseFailed
  rw [h]
  rfl

theorem State.releaseFailed_lost (s : State) (st : Status) (hst : st ≠ .ok) (hrel : s.coll.relDone = none) {x : Xfer} (hx : ∀ m, x ≠ .message m) :
    s.LinkLost x (s.releaseFailed st).relResume := by
  cases hp : s.coll.relPend with
  | false =>
    rw [State.releaseFailed_idle hp, State.relResume_none hrel]
    exact ⟨rfl, rfl, rfl, rfl, rfl, fun _ h _ => h, fun m h => absurd h (hx m)⟩
  | true =>
    rw [State.releaseFailed_pending hp]
    generalize hu : ({ s with coll := { s.coll with
      lineA := true, lineB := true, relPend := false, relDone := if s.coll.relWait.isSome then some st else none } } : State) = u
    have hmem : ∀ m ∈ s.coll.outbox, m.cls = 2 → m ∈ (u.drvEnter 1).coll.outbox := fun m hm hcls =>
      State.drvEnter_mem (by rw [← hu]; exact hm) hcls 1
    obtain ⟨d, ob, kp, q, g, h, -, heq⟩ := u.drvEnter_parts 1
    rw [heq] at hmem ⊢
    subst hu
    cases hw : s.coll.relWait with
    | none =>
      rw [State.relResume_none (by rfl)]
      exact ⟨rfl, rfl, rfl, rfl, rfl, hmem, fun m h => absurd h (hx m)⟩
    | some w =>
      rw [State.relResume_failed (st := st) (w := w) (by rfl) (by exact hw) hst]
      exact ⟨rfl, rfl, rfl, rfl, rfl, hmem, fun m h => absurd h (hx m)⟩

theorem State.ddlLost_lost (s : State) (x : Xfer) (hrel : s.coll.relDone = none) : s.LinkLost x (s.ddlLost x).relResume := by
  cases x with
  | release => exact s.releaseFailed_lost .linkerr (by decide) hrel (fun _ => Xfer.noConfusion)
  | relAnswer b => exact s.releaseFailed_lost .linkerr (by decide) hrel (fun _ => Xfer.noConfusion)
  | sealInc n inc =>
    rw [State.relResume_none (by exact hrel)]
    exact ⟨rfl, rfl, rfl, rfl, rfl, fun _ h _ => h, fun m h => nomatch h⟩
  | message m =>
    rw [State.relResume_none (by exact hrel)]
    exact ⟨rfl, rfl, rfl, rfl, rfl, fun _ h _ => h, fun _ _ => List.mem_append_right _ (List.mem_singleton.mpr rfl)⟩
  | _ =>
    rw [State.relResume_none (by exact hrel)]
    exact ⟨rfl, rfl, rfl, rfl, rfl, fun _ h _ => h, fun m h => nomatch h⟩

/-! ### A release and its answer (R423) -/

theorem State.takeArrived_release {s : State} (h : Xfer.release ∈ s.links.arrived) : s.takeArrived (fun x => decide (x = .release))
    = some (.release, { s with links := { s.links with arrived := s.links.arrived.erase .release } }) := by
  have hfind : s.links.arrived.find? (fun x => decide (x = .release)) = some .release := by
    cases hf : s.links.arrived.find? (fun x => decide (x = .release)) with
    | none => exact absurd (List.find?_eq_none.mp hf _ h) (by simp)
    | some y => rw [show y = .release by simpa using List.find?_some hf]
  rw [State.takeArrived, hfind]
  rfl

theorem execDdlRelease_taken {s : State} (hc : s.clocked = true) (h : Xfer.release ∈ s.links.arrived) :
    exec .ddlRelease s = .next ({ s with
      links := { s.links with
        ddl := s.links.ddl ++ [.relAnswer (!s.coll.lineA && !s.coll.lineB && s.sys.vbat)], arrived := s.links.arrived.erase .release }
      drv := { s.drv with safe := s.drv.safe && !(!s.coll.lineA && !s.coll.lineB && s.sys.vbat) } } : State).settle := by
  have hgo : s.awake State.ddlRelease = s.ddlRelease := by rw [State.awake, if_pos hc]
  show finish (s.awake State.ddlRelease) = _
  rw [hgo]
  unfold State.ddlRelease
  rw [State.takeArrived_release h]
  dsimp only
  split
  · next hbad =>
    have hoff : (!s.coll.lineA && !s.coll.lineB && s.sys.vbat) = false := by
      cases ha : s.coll.lineA <;> cases hb : s.coll.lineB <;> cases hv : s.sys.vbat <;> simp_all
    rw [hoff]
    simp only [Bool.not_false, Bool.and_true]
    rfl
  · next hgood =>
    have hoff : (!s.coll.lineA && !s.coll.lineB && s.sys.vbat) = true := by
      cases ha : s.coll.lineA <;> cases hb : s.coll.lineB <;> cases hv : s.sys.vbat <;> simp_all
    rw [hoff]
    simp only [Bool.not_true, Bool.and_false]
    rfl

theorem State.takeArrived_answer {s : State} {b : Bool} (h : s.links.arrived = [.relAnswer b]) {pick : Xfer → Bool}
    (hp : pick (.relAnswer b) = true) : s.takeArrived pick = some (.relAnswer b, { s with links := { s.links with arrived := [] } }) := by
  rw [State.takeArrived, h]
  simp [hp]

theorem State.releaseAnswer_left {s : State} (h : s.links.arrived = [.relAnswer true]) (hp : s.coll.relPend = true) (ha : s.coll.lineA = false)
    (hb : s.coll.lineB = false) : s.releaseAnswer = { s with
      links := { s.links with arrived := [] }
      coll := { s.coll with
        safe := false, cSC := false, cHost := false, cDrv := false, cGrave := false, cState := false, relPend := false,
        relDone := if s.coll.relWait.isSome then some .ok else none } } := by
  unfold State.releaseAnswer
  dsimp only
  rw [State.takeArrived_answer h rfl]
  dsimp only
  rw [if_neg (by simp [hp]), if_pos (by simp [ha, hb])]
  rfl

theorem State.releaseAnswer_refused {s : State} (h : s.links.arrived = [.relAnswer false]) (hp : s.coll.relPend = true) :
    s.releaseAnswer = ({ s with
      links := { s.links with arrived := [] }
      coll := { s.coll with
        lineA := true, lineB := true, relPend := false,
        relDone := if s.coll.relWait.isSome then some .busy else none } } : State).drvEnter 1 := by
  unfold State.releaseAnswer
  dsimp only
  rw [State.takeArrived_answer h rfl]
  dsimp only
  rw [hp]
  exact State.releaseFailed_pending (s := { s with links := { s.links with arrived := [] } }) hp .busy

end Sys2Proof.Machine
end

section
/-! PROOFS. The driver die link: heartbeats, transfers, silence and the release of the safe state. -/

open Sys2Proof Sys2Proof.Machine

namespace Sys2Proof.Proofs

/-- Settles O28: the head of the DDL is delivered, retried or given up, and an answer ends the write that waits for it. -/
theorem driverDieLink : Obligations.DriverDieLink := by
  unfold Obligations.DriverDieLink
  intro s x rest hc
  refine ⟨fun hidle => ?_, ?_, fun hd hq hcrc hrel => ⟨fun ht hv => ?_, fun h4 => ?_, fun h4 => ?_⟩, ?_, ?_, ?_⟩
  · show finish s.heartbeatSend = _
    rw [State.heartbeatSend, if_pos (by simp [hc, hidle]), State.ddlSend, hidle]
    rfl
  · show ∃ t, finish s.ddlSilence = .next t ∧ _
    rw [State.ddlSilence_clocked hc]
    set u := s.advanceTo (s.links.lastGood.getD 0 + 16000) with hu
    have hnow : u.now = max s.now (s.links.lastGood.getD 0 + 16000) := State.advanceTo_now _ _
    have hemit : s.drv.safe = false → s.Emits (u.drvEnter 2) 2 0x13 0x4FF 2 := fun hs hlt => by
      obtain ⟨m, hm, h1, h2, h3, h4, h5, h6⟩ := State.drvEnter_emits (s := u) (by rw [hu, State.advanceTo_drv, hs]) 2
        (by rw [hu, State.advanceTo_coll]; exact hlt)
      exact ⟨m, hm, h1, h2, h3, h4, by omega, h6⟩
    obtain ⟨d, ob, kp, q, g, h, hsafe, heq⟩ := u.drvEnter_parts 2
    rw [heq] at hemit ⊢
    exact ⟨_, rfl, hsafe, by show s.now ≤ u.now; omega, by show _ ≤ u.now; omega, hemit, State.settle_quiet hsafe,
      State.advanceTo_clu _ _, State.advanceTo_mem _ _⟩
  · rw [execDdlTransfer_arrives hc hd hq hcrc ht hv hrel]
    exact ⟨_, rfl, rfl, rfl⟩
  · rw [execDdlTransfer_retried hc hd hq hcrc h4 hrel]
    refine ⟨_, rfl, ?_, (State.rf_congr rfl ..).trans ((State.bump_rf _ _ _ (by decide) (by decide)).trans ?_), ?_⟩
    · rw [State.bump_frame]; rfl
    · rfl
    · rw [State.bump_frame]; rfl
  · rw [execDdlTransfer_lost hc hd hq hcrc h4]
    set u : State := { s with links := { s.links with ddl := rest, ddlTries := 0 } } with hu
    have hemit : s.Emits (u.linkFault 1) 2 5 0x4FF 0 :=
      State.emits_emit (u := u) rfl (Nat.le_refl _) (fun _ h => h) (by
        obtain ⟨ob, kp, q, g, h, heq⟩ := u.emit_places 2 Kind.linkFault (1 * 1024 + 0xFF) 0
        rw [State.linkFault, heq])
    obtain ⟨ob, kp, q, g, h, heq⟩ := u.emit_places 2 Kind.linkFault (1 * 1024 + 0xFF) 0
    have hf : u.linkFault 1 = _ := heq
    have hlost := (u.linkFault 1).ddlLost_lost x (by rw [hf]; exact hrel)
    refine ⟨_, rfl, hlost.tries.trans (by rw [hf]), hemit.of_mem (Nat.le_of_eq hlost.now.symm) hlost.waits, hlost.again,
      hlost.clu.trans (by rw [hf]), hlost.mem.trans (by rw [hf]), hlost.prd.trans (by rw [hf])⟩
  · exact fun h => execDdlRelease_taken hc h
  · intro harr hp ha hb hrest hrel
    show finish (s.awake State.releaseAnswer).relResume = _
    rw [State.awake, if_pos hc, State.releaseAnswer_left harr hp ha hb]
    cases hw : s.coll.relWait with
    | none =>
      have hcoll : s.coll = { s.coll with relWait := none } := by rw [← hw]
      rw [State.relResume_none (by rfl)]
      conv_lhs => rw [hcoll]
      rfl
    | some w =>
      rw [State.relResume_left (w := w) (by rfl) (by exact hw) (hrest w (by rw [hw]; rfl))]
      obtain ⟨port, a, step, link, whole, ws, k⟩ := w
      cases port with
      | true => rfl
      | false => rfl
  · intro harr hp
    show ∃ t, finish (s.awake State.releaseAnswer).relResume = .next t ∧ _
    rw [State.awake, if_pos hc, State.releaseAnswer_refused harr hp]
    set u : State := { s with
      links := { s.links with arrived := [] }
      coll := { s.coll with
        lineA := true, lineB := true, relPend := false, relDone := if s.coll.relWait.isSome then some .busy else none } } with hu
    obtain ⟨d, ob, kp, q, g, h, hsafe, heq⟩ := u.drvEnter_parts 1
    rw [heq]
    cases hw : s.coll.relWait with
    | none =>
      rw [State.relResume_none (by simp [hu, hw])]
      exact ⟨_, rfl, rfl, rfl, rfl, rfl, hsafe, (fun w h => absurd h (by simp)), State.settle_quiet hsafe⟩
    | some w =>
      rw [State.relResume_failed (st := .busy) (w := w) (by simp [hu, hw]) (by simpa [hu] using hw) (by decide)]
      refine ⟨_, rfl, rfl, rfl, rfl, rfl, hsafe, fun x hx => ?_, State.settle_quiet hsafe⟩
      obtain rfl : w = x := by simpa using hx
      exact ⟨fun hport => by show (if w.port then _ else _ : Mnt).istat = _; rw [if_pos hport],
        fun hport => by show (if w.port then _ else _ : HostPort) = _; rw [hport]; rfl⟩

end Sys2Proof.Proofs
end

section
/-! SUPPORT. What a read of a register answers, and what it leaves of every reader's shadows (R113, R161). -/

namespace Sys2Proof.Machine

section
variable {s u : State} {p : Fin 11} {a : Nat} {link : Bool} {r : RegRow} {i j : Nat}

/-- A read of a register by a reader, once its address is known and the word has been checked. -/
theorem State.accRead_reg (h4 : a % 4 = 0) (hs : sramAt a = none) (ht : traceAt a = none) (hp : s.pegAt a = none)
    (hg : s.gatedAt a = false) (hr : s.regAt a = some (r, i, j)) (hu : s.reach a link = (u, true))
    (hc : u.portChecked r i j 0 = (u, true)) : s.accRead p a 0 link = ((u.regRead p r i j).1, (u.regRead p r i j).2, .ok) := by
  simp [State.accRead, h4, hs, ht, hp, hg, hr, hu, hc]

/-- What the read of a reader answers, and to whom. -/
theorem State.anyRead_reg (hck : s.clocked = true) (hm : p = 10 → s.mntMay false = true) (hw : 9 ≤ p.val → s.coll.relWait = none) {v : Word}
    {t : State} (h : s.accRead p a 0 link = (t, v, .ok)) : s.anyRead p a link = { t with
      host := if p = 9 then ⟨.ok, [v], 0⟩ else t.host
      mnt := if p = 10 then { t.mnt with istat := .ok, idata := v } else t.mnt } := by
  unfold State.anyRead
  by_cases h9 : p.val < 9
  · have hne9 : p ≠ 9 := by
      rintro rfl
      exact absurd h9 (by decide)
    have hne10 : p ≠ 10 := by
      rintro rfl
      exact absurd h9 (by decide)
    have hcore : coreOf p = some ⟨p.val, h9⟩ := dif_pos h9
    rw [hcore]
    dsimp only
    rw [if_pos hck, h, if_neg hne9, if_neg hne10]
  · have hcore : coreOf p = none := dif_neg h9
    rw [hcore]
    have hidle := hw (by omega)
    have hport : p = 9 ∨ p = 10 := by
      rcases Nat.lt_or_ge p.val 10 with h10 | h10
      · exact .inl (Fin.ext (by show p.val = 9; omega))
      · exact .inr (Fin.ext (by show p.val = 10; omega))
    dsimp only
    rcases hport with rfl | rfl
    · have hr9 : s.accRead hostP a 0 link = (t, v, .ok) := h
      rw [if_pos (show (9 : Fin 11) = hostP from rfl)]
      unfold State.portRead
      rw [if_neg (by rw [hck]; decide), if_pos rfl, State.hostWait_idle hidle, hr9]
      rfl
    · have hr10 : s.accRead mntP a 0 link = (t, v, .ok) := h
      rw [if_neg (show (10 : Fin 11) ≠ hostP by decide)]
      unfold State.portRead
      rw [if_neg (by rw [hck]; decide), if_neg (by decide), if_pos (hm rfl), State.mntRelWait_idle hidle, hr10]
      dsimp only
      rw [if_pos (.inl rfl)]
      rfl

theorem State.setReader_readers (s : State) (p : Fin 11) (f : Reader → Reader) :
    (s.setReader p f).readers[p] = f s.readers[p] := by
  simp [State.setReader, upd]

theorem State.setReader_readers_ne (s : State) {p q : Fin 11} (f : Reader → Reader) (h : q ≠ p) : (s.setReader p f).readers[q] = s.readers[q] := by
  have hne : p.val ≠ q.val := fun e => h (Fin.ext e.symm)
  simp [State.setReader, upd, Vector.getElem_set_ne _ _ hne]

/-- The readers that a register read leaves before its effect on the unit. -/
def State.readShadows (u : State) (p : Fin 11) (r : RegRow) (i j : Nat) : State :=
  let s1 := u.setReader p fun x => x.fill ((u.companions p r i j).map fun y => (y.1.addr y.2.1 y.2.2, u.regValue p y.1 y.2.1 y.2.2))
  if onceShadow r i then s1.setReader p fun x => x.drop (r.addr i j) else s1

theorem State.readShadows_eq (u : State) (p : Fin 11) (r : RegRow) (i j : Nat) :
    u.readShadows p r i j = { u with readers := (u.readShadows p r i j).readers } := by
  unfold State.readShadows
  dsimp only
  split
  · rfl
  · rfl

theorem State.readShadows_readers_ne (u : State) {p q : Fin 11} (r : RegRow) (i j : Nat) (h : q ≠ p) :
    (u.readShadows p r i j).readers[q] = u.readers[q] := by
  unfold State.readShadows
  dsimp only
  split
  · rw [State.setReader_readers_ne _ _ h, State.setReader_readers_ne _ _ h]
  · rw [State.setReader_readers_ne _ _ h]

theorem State.regRead_fst (u : State) (p : Fin 11) (r : RegRow) (i j : Nat) :
    (u.regRead p r i j).1 = (u.readShadows p r i j).readEffect p r i j := rfl

/-- A register whose read has no effect beside its shadows. -/
theorem State.readEffect_none (u : State) (p : Fin 11) {r : RegRow} (i j : Nat)
    (h : r.base ∉ [Reg.modRes.base, Reg.fig.base, Reg.jigRxf.base]) : u.readEffect p r i j = u := by
  simp only [List.mem_cons, List.not_mem_nil, or_false, not_or] at h
  obtain ⟨h1, h2, h3⟩ := h
  unfold State.readEffect
  rw [if_neg h1, if_neg h2, if_neg h3]

end

/-! ### The effects of a read leave other readers' shadows -/

theorem State.fresh_readers_ne (s : State) {p q : Fin 11} (id seq : Nat) (h : q ≠ p) : (s.fresh p id seq).1.readers[q] = s.readers[q] := by
  exact State.setReader_readers_ne _ _ h

/-- A port's or a core's read of the RXF of an engine changes nothing but the engine. -/
theorem State.jigRetry_readers (s : State) (e : Fin 8) (pull : Bool) : (s.jigRetry e pull).readers = s.readers := by
  unfold State.jigRetry
  dsimp only
  split
  · split
    · split
      · rfl
      · rfl
    · rfl
  · rfl

theorem State.readEffect_readers_ne (s : State) {p q : Fin 11} (r : RegRow) (i j : Nat) (h : q ≠ p) :
    (s.readEffect p r i j).readers[q] = s.readers[q] := by
  unfold State.readEffect
  split
  · exact s.fresh_readers_ne _ _ h
  · split
    · exact s.fresh_readers_ne _ _ h
    · split
      · dsimp only
        split
        · rfl
        · refine congrArg (·[q]) (?_ : State.readers (if _ then _ else _) = s.readers)
          rw [apply_ite State.readers, State.jigRetry_readers]
          exact ite_self _
      · rfl

/-! ### Shadows that a group's leader fills -/

theorem Reader.shadowOf_fill (x : Reader) {l : List (Nat × Word)} {a : Nat} (h : a ∈ l.map (·.1)) :
    (x.fill l).shadowOf a = (l.find? fun y => decide (y.1 = a)).map (·.2) := by
  have hnone : (x.shadow.filter fun y => decide (y.1 ∉ l.map (·.1))).find? (fun y => decide (y.1 = a)) = none := by
    rw [List.find?_eq_none]
    intro y hy
    have hmem := of_decide_eq_true (List.mem_filter.mp hy).2
    rw [decide_eq_true_eq]
    rintro rfl
    exact hmem h
  rw [Reader.shadowOf, Reader.fill, List.find?_append, hnone, Option.none_or]

theorem Reader.fill_nil (x : Reader) : x.fill [] = x := by
  simp [Reader.fill]

theorem State.setReader_id (s : State) (p : Fin 11) {f : Reader → Reader} (h : ∀ x, f x = x) : s.setReader p f = s := by
  have hset : upd s.readers p f = s.readers := by
    simp [upd, h]
  rw [State.setReader, hset]

/-- A register whose read needs no check of its word and crosses nothing. -/
def readsPlain (r : RegRow) : Bool :=
  addrCheck (r.addr 0 0) r 0 0 && decide (r.addr 0 0 < 0x20000000) && decide (secdedAt (r.addr 0 0) = none)
    && decide (r.base ∉ [Reg.scribe.base, Reg.fltHeadLo.base, Reg.sealxLo.base, Reg.sealxHi.base, Reg.jigProg.base, Reg.modRes.base,
      Reg.fig.base, Reg.jigRxf.base])

/-- The host's read of such a register. -/
theorem State.hostRead_plain {s : State} {r : RegRow} (hr : readsPlain r = true) (hc : s.clocked = true) (hw : s.coll.relWait = none)
    (ha : (BitVec.ofNat 40 r.base).toNat = r.addr 0 0) : exec (.shadowRead 9 (BitVec.ofNat 40 r.base) false) s
      = .next ({ s.readShadows 9 r 0 0 with host := ⟨.ok, [(s.regRead 9 r 0 0).2], 0⟩ } : State).settle := by
  simp only [readsPlain, Bool.and_eq_true, decide_eq_true_eq, List.mem_cons, List.not_mem_nil, or_false, not_or] at hr
  obtain ⟨⟨⟨hck, hlow⟩, hsec⟩, h1, h2, h3, h4, h5, h6, h7, h8⟩ := hr
  have haddr : s.RegAddr (r.addr 0 0) r 0 0 := State.regAddr_of hck (.inl (by omega))
  have hchk : s.portChecked r 0 0 0 = (s, true) := by
    unfold State.portChecked
    rw [if_neg h1, if_neg h2, if_neg (by rintro (h | h) <;> contradiction), State.keyOf, if_neg h5, State.checkedAt, hsec]
  have hacc := State.accRead_reg (p := 9) haddr.aligned haddr.sram haddr.trace haddr.peg haddr.live
    (by simp [State.regAt, haddr.test, haddr.row]) (State.reach_here (.inl hlow) false) hchk
  have hany := State.anyRead_reg (p := 9) hc nofun (fun _ => hw) hacc
  have heff : (s.regRead 9 r 0 0).1 = s.readShadows 9 r 0 0 := by
    rw [State.regRead_fst, State.readEffect_none _ _ _ _ (by simp [h6, h7, h8])]
  show finish (s.anyRead 9 (BitVec.ofNat 40 r.base).toNat false) = _
  rw [ha, hany, heff]
  rfl

end Sys2Proof.Machine
end

section
/-! PROOFS. Reads of groups and their shadows: the statement O31. -/

open Sys2Proof Sys2Proof.Machine

namespace Sys2Proof.Proofs

/-- The registers that a read of PRD_ANG fixes. -/
def angleGroup : List RegRow := [Reg.prdRate, Reg.prdAcc, Reg.prdTsLo, Reg.prdTsHi, Reg.prdQ, Reg.prdQfr]

/-- The shadows that a read of PRD_ANG leaves its reader. -/
theorem angle_shadows (s : State) (x : Reader) : ∀ r ∈ angleGroup,
    (x.fill ((s.companions 9 Reg.prdAng 0 0).map fun y => (y.1.addr y.2.1 y.2.2, s.regValue 9 y.1 y.2.1 y.2.2))).shadowOf r.base
      = some (s.regValue 9 r 0 0) := by
  have hlist : (s.companions 9 Reg.prdAng 0 0).map (fun y => (y.1.addr y.2.1 y.2.2, s.regValue 9 y.1 y.2.1 y.2.2))
      = angleGroup.map fun r => (r.base, s.regValue 9 r 0 0) := rfl
  rw [hlist]
  intro r hr
  rw [Reader.shadowOf_fill x (List.mem_map.mpr ⟨_, List.mem_map.mpr ⟨r, hr, rfl⟩, rfl⟩)]
  simp only [angleGroup, List.mem_cons, List.not_mem_nil, or_false] at hr
  rcases hr with rfl | rfl | rfl | rfl | rfl | rfl
  · rfl
  · rfl
  · rfl
  · rfl
  · rfl
  · rfl

/-- A follower answers what its shadow holds and leaves every shadow. -/
theorem follower_read {u : State} {r : RegRow} (hr : r ∈ angleGroup) {w : Word} (hw : u.readers[(9 : Fin 11)].shadowOf r.base = some w) :
    u.readShadows 9 r 0 0 = u ∧ (u.regRead 9 r 0 0).2 = w := by
  have hkeep : ∀ r ∈ angleGroup, keepsShadow 9 r 0 = true ∧ onceShadow r 0 = false ∧ r.addr 0 0 = r.base := by decide
  obtain ⟨hk, ho, ha⟩ := hkeep r hr
  have hnone : u.companions 9 r 0 0 = [] := by
    simp only [angleGroup, List.mem_cons, List.not_mem_nil, or_false] at hr
    rcases hr with rfl | rfl | rfl | rfl | rfl | rfl
    · rfl
    · rfl
    · rfl
    · rfl
    · rfl
    · rfl
  constructor
  · unfold State.readShadows
    rw [hnone, ho]
    exact State.setReader_id _ _ fun x => x.fill_nil
  · show (if keepsShadow 9 r 0 then (u.readers[(9 : Fin 11)].shadowOf (r.addr 0 0)).getD (shadowReset r) else _) = w
    rw [if_pos hk, ha, hw]
    rfl

/-- Settles O31: the leader's read fills the shadows of its reader, and a follower's read answers them. -/
theorem shadowReads : Obligations.ShadowReads := by
  unfold Obligations.ShadowReads
  refine ⟨fun s u hs hu => ?_, ?_⟩
  · intro group hws hwu
    have hplain : readsPlain Reg.prdAng = true := by decide +kernel
    have hgroup : ∀ r ∈ angleGroup, readsPlain r = true ∧ (BitVec.ofNat 40 r.base).toNat = r.addr 0 0 := by decide +kernel
    have hval : (s.regRead 9 Reg.prdAng 0 0).2 = s.regValue 9 Reg.prdAng 0 0 := rfl
    rw [State.hostRead_plain hplain hs hws (by decide), hval, State.readShadows_eq]
    have hmine : (s.readShadows 9 Reg.prdAng 0 0).readers[(9 : Fin 11)] = (s.readers[(9 : Fin 11)]).fill
        ((s.companions 9 Reg.prdAng 0 0).map fun y => (y.1.addr y.2.1 y.2.2, s.regValue 9 y.1 y.2.1 y.2.2)) :=
      s.setReader_readers 9 _
    refine ⟨_, rfl, rfl, fun q hq => State.readShadows_readers_ne s Reg.prdAng 0 0 hq, ?_, fun r hr => ?_⟩
    · show (s.readShadows 9 Reg.prdAng 0 0).readers[(9 : Fin 11)].seen = _
      rw [hmine]
      rfl
    · have hsh : (s.readShadows 9 Reg.prdAng 0 0).readers[(9 : Fin 11)].shadowOf r.base = some (s.regValue 9 r 0 0) := by
        rw [hmine]
        exact angle_shadows s _ r hr
      refine ⟨hsh, ?_⟩
      obtain ⟨hrp, hra⟩ := hgroup r hr
      obtain ⟨heq, hv⟩ := follower_read (u := { u with readers := (s.readShadows 9 Reg.prdAng 0 0).readers }) hr hsh
      refine (State.hostRead_plain (s := { u with readers := (s.readShadows 9 Reg.prdAng 0 0).readers }) hrp hu hwu hra).trans ?_
      rw [heq, hv]
      rfl
  · intro s u p a link r i j hc hm hw h4 hs ht hp hg hr hu hchk
    have hacc := State.accRead_reg (p := p) h4 hs ht hp hg hr hu hchk
    have hany := State.anyRead_reg hc hm hw hacc
    show ∃ t w, finish (s.anyRead p a.toNat link) = .next t ∧ _
    rw [hany]
    refine ⟨_, (u.regRead p r i j).2, rfl, fun h => if_pos h, fun h => ?_, fun hk ho => ?_, fun hk => if_pos hk, fun q hq => ?_, fun hne => ?_⟩
    · subst h
      exact ⟨rfl, rfl⟩
    · show (if keepsShadow p r j then _ else if onceShadow r i then _ else _) = _
      rw [hk, ho]
      rfl
    · show (u.regRead p r i j).1.readers[q] = _
      rw [State.regRead_fst, State.readEffect_readers_ne _ _ _ _ hq, State.readShadows_readers_ne _ _ _ _ hq]
    · rw [State.regRead_fst, State.readEffect_none _ _ _ _ hne, State.readShadows_eq]
      rfl

end Sys2Proof.Proofs
end

section
/-! SUPPORT. Writes of owner registers: the claim on the unit, the claim that gives way, and the refusal (R28, R29, R392). -/

namespace Sys2Proof.Machine

/-! ### A port's write, whatever changed on its way -/

/-- A port's write of a register goes to the unit in the state in which the access arrives there. -/
theorem State.portWrite_arrived {s u : State} {p : Fin 2} {a : Nat} {r : RegRow} {i j : Nat} (hw : s.Writable p)
    (ha : s.RegAddr a r i j) {v : Word} (hm : s.hostMay r i v = .ok) (f : Fin 3) (hr : s.reach a false = (u, true)) :
    s.portWrite p a v f false = (u.regWrite (portOf2 p) r i j v).1.answered p (u.regWrite (portOf2 p) r i j v).2 := by
  obtain ⟨hc, hl, hp, hq⟩ := hw
  obtain ⟨h1, h2, h3, h4, h5, h6, h7⟩ := ha
  have hcore : coreOf (portOf2 p) = none := by fin_cases p <;> rfl
  have h8 : s.regAt a = some (r, i, j) := by simp [State.regAt, h6, h7]
  have key : s.accWrite (portOf2 p) a v f false = u.regWrite (portOf2 p) r i j v := by
    simp [State.accWrite, h1, h2, h3, h4, h5, h8, hcore, hm, hr, hl]
  fin_cases p
  · have key' : s.accWrite hostP a v f false = _ := key
    simp [State.portWrite, hc, key', State.answered, State.hostAnswer, State.hostWait_idle hq]
  · have key' : s.accWrite mntP a v f false = _ := key
    simp [State.portWrite, hc, key', State.answered, hp rfl, State.mntRelWait_idle hq]

/-- A write of an unlocked row that keeps no bits leaves the registers and forgets the word's flipped bits. -/
theorem State.store_bare (s : State) (p : Fin 11) {r : RegRow} (i j : Nat) (v : Word) (hrw : r.rw ||| r.rwl = 0) (hlock : r.lock = 0)
    (hbase : r.base < 0x41000900) : ∃ g k, s.store p r i j v = { s with regs := g, inj := k } := by
  have hseal : s.sealFixed r i = false := by
    have h1 : r.base ≠ Reg.sealxCfg.base := fun h => absurd (h ▸ hbase) (by decide)
    have h2 : r.base ≠ Reg.sealxMask.base := fun h => absurd (h ▸ hbase) (by decide)
    simp [State.sealFixed, h1, h2]
  have hrow : s.rowLocked r i = false := by simp [State.rowLocked, hlock]
  have hfix : s.fixedBits r i = 0 := by simp [State.fixedBits, hseal, hrow]
  have hnote : s.lockNote p r i j v = s := by
    unfold State.lockNote
    rw [hfix, if_pos (by simp [wordN])]
  unfold State.store State.storeAs
  dsimp only
  rw [hnote, if_pos hrw, if_neg (by omega), if_neg (by simp [State.allLocked, hrow])]
  exact ⟨_, _, rfl⟩

/-! ### Claims (R29) -/

/-- The state in which a claim on a unit is made: an earlier claim that gives way has been refused. -/
def State.claimTaken (s : State) (reg owner rank : Nat) : State :=
  { s.overtaken reg rank with claims :=
    (s.claims.filter fun x => decide (x.at_ = s.now) && decide (x.reg ≠ reg)) ++ [⟨s.now, reg, s.ownerBefore reg owner rank, rank⟩] }

section
variable {s : State} {reg rank : Nat}

theorem State.claim_taken (h : s.mayClaim reg rank = true) (owner : Nat) (f : State → State) :
    s.claim reg owner rank f = f (s.claimTaken reg owner rank) := if_pos h

theorem State.overtaken_parts (s : State) (reg rank : Nat) : ∃ co l g h ho m, s.overtaken reg rank = { s with
    coll := co, links := l, regs := g, hwSet := h, host := ho, mnt := m } := by
  have hnote : ∀ kind src ctx, ∃ co l g h, s.emit 0 kind src ctx = { s with coll := co, links := l, regs := g, hwSet := h } :=
    fun kind src ctx => s.emit_parts 0 kind src ctx
  unfold State.overtaken State.note
  split
  · exact ⟨_, _, _, _, _, _, rfl⟩
  · split
    · exact ⟨_, _, _, _, _, _, rfl⟩
    · split
      · obtain ⟨co, l, g, h, hq⟩ := hnote Kind.ownerBusy (portSrc hostP) (reg % 2 ^ 32)
        rw [hq]
        exact ⟨_, _, _, _, _, _, rfl⟩
      · split
        · obtain ⟨co, l, g, h, hq⟩ := hnote Kind.ownerBusy (portSrc mntP) (reg % 2 ^ 32)
          rw [hq]
          exact ⟨_, _, _, _, _, _, rfl⟩
        · exact ⟨_, _, _, _, _, _, rfl⟩

theorem State.claimTaken_parts (s : State) (reg owner rank : Nat) : ∃ co l g h ho m cl, s.claimTaken reg owner rank = { s with
    coll := co, links := l, regs := g, hwSet := h, host := ho, mnt := m, claims := cl } := by
  obtain ⟨co, l, g, h, ho, m, hq⟩ := s.overtaken_parts reg rank
  unfold State.claimTaken
  rw [hq]
  exact ⟨_, _, _, _, _, _, _, rfl⟩

/-- A claim of a TCLK bars a further one of no lower rank on its unit. -/
theorem State.mayClaim_claimed {t : State} (owner : Nat) (hr : rank ≠ 0) (ht : t.claims = (s.claimTaken reg owner rank).claims)
    (hn : t.now = s.now) : t.mayClaim reg rank = false := by
  have hfind : t.claimed reg = some ⟨s.now, reg, s.ownerBefore reg owner rank, rank⟩ := by
    unfold State.claimed
    rw [ht, hn]
    unfold State.claimTaken
    dsimp only
    rw [List.find?_append]
    have hnone : (s.claims.filter fun x => decide (x.at_ = s.now) && decide (x.reg ≠ reg)).find?
        (fun x => decide (x.at_ = s.now) && decide (x.reg = reg)) = none := by
      rw [List.find?_eq_none]
      intro x hx
      have hmem := (List.mem_filter.mp hx).2
      simp only [Bool.and_eq_true, decide_eq_true_eq] at hmem ⊢
      exact fun h => hmem.2 h.2
    rw [hnone]
    simp
  unfold State.mayClaim
  rw [hfind]
  simp [hr]

/-- A host's claim that comes before one of the maintenance port refuses that one. -/
theorem State.claimTaken_refuses {x : Claim} (hx : s.claimed reg = some x) (hr : x.rank = 4) (owner : Nat) :
    (s.claimTaken reg owner 3).mnt.istat = .busy
    ∧ ∀ t : State, t.coll = (s.claimTaken reg owner 3).coll → t.now = s.now → s.Emits t 0 Kind.ownerBusy (portSrc mntP) (reg % 2 ^ 32) := by
  have hover : s.overtaken reg 3 = { s.note Kind.ownerBusy mntP reg with mnt := { s.mnt with istat := .busy } } := by
    unfold State.overtaken
    rw [hx]
    dsimp only
    rw [if_neg (by omega), if_neg (by omega), if_pos hr]
  have hcoll : (s.claimTaken reg owner 3).coll = (s.emit 0 Kind.ownerBusy (portSrc mntP) (reg % 2 ^ 32)).coll := by
    show (s.overtaken reg 3).coll = _
    rw [hover]
    rfl
  constructor
  · show (s.overtaken reg 3).mnt.istat = _
    rw [hover]
  · intro t ht hn
    exact State.emits_emit rfl (Nat.le_refl _) (by rw [ht, hcoll]; exact fun _ h => h) (Nat.le_of_eq hn.symm)

end

/-! ### The owner that a port names -/

theorem ownerValue_legal {v : Word} (h : v.toNat % 16 ≤ 8 ∨ v.toNat % 16 = 12) : ownerValue v = some (v.toNat % 16) := by
  have hf : fld v 3 0 = v.toNat % 16 := by simp [fld]
  unfold ownerValue
  dsimp only
  rw [hf]
  exact if_pos h

theorem ownerValue_other {v : Word} (h : ¬(v.toNat % 16 ≤ 8 ∨ v.toNat % 16 = 12)) : ownerValue v = none := by
  have hf : fld v 3 0 = v.toNat % 16 := by simp [fld]
  unfold ownerValue
  dsimp only
  rw [hf]
  exact if_neg h

section
variable {s : State} {p : Fin 11} {addr : Nat} {v : Word} {free : Bool} {move : Nat → State}

theorem State.ownerWrite_moves (hv : v.toNat % 16 ≤ 8 ∨ v.toNat % 16 = 12) (hf : free = true) (hc : s.mayClaim addr (claimRank p) = true) :
    s.ownerWrite p addr v free move = (move (v.toNat % 16), .ok) := by
  unfold State.ownerWrite
  rw [ownerValue_legal hv]
  dsimp only
  rw [if_pos (by rw [hf, hc]; rfl)]

theorem State.ownerWrite_refused (h : ¬((v.toNat % 16 ≤ 8 ∨ v.toNat % 16 = 12) ∧ free = true ∧ s.mayClaim addr (claimRank p) = true)) :
    s.ownerWrite p addr v free move = (s.note Kind.ownerBusy p addr, .busy) := by
  unfold State.ownerWrite
  by_cases hv : v.toNat % 16 ≤ 8 ∨ v.toNat % 16 = 12
  · rw [ownerValue_legal hv]
    dsimp only
    rw [if_neg]
    rintro hboth
    rw [Bool.and_eq_true] at hboth
    exact h ⟨hv, hboth.1, hboth.2⟩
  · rw [ownerValue_other hv]

end

/-! ### Units that move to a cluster or to the host -/

theorem State.ownCh_moves {s : State} {c : Fin 32} {o rank : Nat} (h : s.mayClaim (Reg.chanOwner.addr c 0) rank = true) (ho : o ≠ 15) :
    s.ownCh c o rank = (s.claimTaken (Reg.chanOwner.addr c 0) s.edg.ch[c].owner rank).setECh c fun e => { e with owner := o } := by
  unfold State.ownCh
  rw [State.claim_taken h]
  exact if_neg ho

theorem State.ownIgn_moves {s : State} {n : Fin 24} {o rank : Nat} (h : s.mayClaim (Reg.ignOwner.addr n 0) rank = true) (ho : o ≠ 15) :
    s.ownIgn n o rank = (s.claimTaken (Reg.ignOwner.addr n 0) s.edg.ign[n].owner rank).setEIgn n fun e => { e with owner := o } := by
  unfold State.ownIgn
  rw [State.claim_taken h]
  exact if_neg ho

/-- A measurement unit that moves to a cluster or to the host. -/
theorem State.ownMeas_moves {s : State} {m : Fin 40} {o rank : Nat} (h : s.mayClaim (Reg.measOwner.addr m 0) rank = true) (ho : o ≠ 15) :
    ∃ w, s.ownMeas m o rank = { s.claimTaken (Reg.measOwner.addr m 0) w rank with
      ms := { s.ms with owner := s.ms.owner.set m.val o m.isLt } } := by
  unfold State.ownMeas
  split
  · next h24 =>
    have hidx : (24 + (idx 16 (by decide) (m.val - 24)).val) = m.val := by
      have := m.isLt
      simp only [idx]
      omega
    unfold State.ownWin
    simp only [hidx]
    rw [State.claim_taken h]
    obtain ⟨co, l, g, hs, ho', mm, cl, hq⟩ := s.claimTaken_parts (Reg.measOwner.addr m 0) (s.winOwner (idx 16 (by decide) (m.val - 24))) rank
    refine ⟨s.winOwner (idx 16 (by decide) (m.val - 24)), (if_neg ho).trans ?_⟩
    rw [hq]
  · rw [State.claim_taken h]
    obtain ⟨co, l, g, hs, ho', mm, cl, hq⟩ := s.claimTaken_parts (Reg.measOwner.addr m 0) s.ms.owner[m] rank
    refine ⟨s.ms.owner[m], ?_⟩
    rw [hq]

/-- Engines that stop keep their owners. -/
theorem State.jigHolds_parts (s : State) : ∃ j, s.jigHolds = { s with jig := j } ∧ ∀ e : Fin 8, j[e].owner = s.jig[e].owner := by
  unfold State.jigHolds
  induction List.finRange 8 generalizing s with
  | nil => exact ⟨s.jig, rfl, fun _ => rfl⟩
  | cons x l ih =>
    rw [List.foldl_cons]
    split
    · obtain ⟨j, hj, ho⟩ := ih (s.setJig x Jig.stopped)
      refine ⟨j, hj, fun e => (ho e).trans ?_⟩
      show (upd s.jig x Jig.stopped)[e].owner = _
      by_cases hx : x.val = e.val
      · obtain rfl : x = e := Fin.ext hx
        simp [upd, Jig.stopped]
      · simp [upd, Vector.getElem_set_ne _ _ hx]
    · exact ih s

end Sys2Proof.Machine
end

section
/-! PROOFS. Writes of owner registers: the statement O32. -/

open Sys2Proof Sys2Proof.Machine

namespace Sys2Proof.Proofs

theorem answered_settle_parts (s : State) (p : Fin 2) (st : Status) :
    ∃ h m q, (s.answered p st).settle = { s with host := h, mnt := m, pins := q } := by
  obtain ⟨h, m, hq⟩ := answered_parts s p st
  obtain ⟨q, hs⟩ := State.settle_parts (s.answered p st)
  exact ⟨h, m, q, by rw [hs, hq]⟩

theorem claimRank_port (p : Fin 2) : claimRank (portOf2 p) = if p = 0 then 3 else 4 := by
  fin_cases p
  · rfl
  · rfl

theorem portSrc_port (p : Fin 2) : portSrc (portOf2 p) = if p = 0 then 0x20F else 0x21F := by
  fin_cases p
  · rfl
  · rfl

theorem idx_fin {n : Nat} (h : 0 < n) (i : Fin n) : idx n h i.val = i := Fin.ext (Nat.mod_eq_of_lt i.isLt)

section
variable {u y : State} {g : List (Nat × Word)} {k : Inject} {addr owner : Nat} {p : Fin 2}

/-- A claim that a port has made, in the words of O32. -/
theorem claim_answered (hcoll : y.coll = (State.claimTaken { u with regs := g, inj := k } addr owner (if p = 0 then 3 else 4)).coll)
    (hcl : y.claims = (State.claimTaken { u with regs := g, inj := k } addr owner (if p = 0 then 3 else 4)).claims)
    (hmnt : y.mnt = (State.claimTaken { u with regs := g, inj := k } addr owner (if p = 0 then 3 else 4)).mnt)
    (hnow : y.now = u.now) (hdrv : y.drv = u.drv) (hwork : y.work = u.work) (hmem : y.mem = u.mem) (ha : addr < 2 ^ 32) :
    let t := (y.answered p .ok).settle
    t.answer p = .ok ∧ t.drv = u.drv ∧ t.work = u.work ∧ t.mem = u.mem ∧ t.mayClaim addr (if p = 0 then 3 else 4) = false
      ∧ (p = 0 → ∀ x ∈ u.claimed addr, x.rank = 4 → t.answer 1 = .busy ∧ u.Emits t 0 3 0x21F addr) := by
  intro t
  obtain ⟨ho, m, q, ht⟩ : ∃ h m q, t = { y with host := h, mnt := m, pins := q } := answered_settle_parts y p .ok
  have hans : t.answer p = .ok := answered_answer y p (by decide)
  refine ⟨hans, by rw [ht]; exact hdrv, by rw [ht]; exact hwork, by rw [ht]; exact hmem, ?_, ?_⟩
  · refine State.mayClaim_claimed (s := { u with regs := g, inj := k }) owner (by split <;> decide) ?_ (by rw [ht]; exact hnow)
    rw [ht]
    exact hcl
  · rintro rfl x hx hr
    obtain ⟨hbusy, hemit⟩ := State.claimTaken_refuses (s := { u with regs := g, inj := k }) hx hr owner
    refine ⟨?_, ?_⟩
    · show y.mnt.istat = .busy
      rw [hmnt]
      exact hbusy
    · have hmod : addr % 2 ^ 32 = addr := Nat.mod_eq_of_lt ha
      rw [hmod] at hemit
      exact hemit t (by rw [ht]; exact hcoll) (by rw [ht]; exact hnow)

/-- A refusal of a port's claim, in the words of O32. -/
theorem refusal_answered (u : State) (p : Fin 2) {addr : Nat} (ha : addr < 2 ^ 32) :
    let t := ((u.note Kind.ownerBusy (portOf2 p) addr).answered p .busy).settle
    t.answer p = .busy ∧ t.edg = u.edg ∧ t.ms = u.ms ∧ t.jig = u.jig ∧ t.tmr = u.tmr ∧ t.claims = u.claims
      ∧ u.Emits t 0 3 (if p = 0 then 0x20F else 0x21F) addr := by
  intro t
  have hmod : addr % 2 ^ 32 = addr := Nat.mod_eq_of_lt ha
  have hnote : u.note Kind.ownerBusy (portOf2 p) addr = u.emit 0 3 (if p = 0 then 0x20F else 0x21F) addr := by
    rw [State.note, portSrc_port, hmod]
    rfl
  have hans : t.answer p = .busy := answered_answer _ p (by decide)
  obtain ⟨ho, m, q, ht⟩ : ∃ h m q, t = { u.emit 0 3 (if p = 0 then 0x20F else 0x21F) addr with host := h, mnt := m, pins := q } := by
    rw [← hnote]
    exact answered_settle_parts _ p .busy
  obtain ⟨co, l, g, h, he⟩ := u.emit_parts 0 3 (if p = 0 then 0x20F else 0x21F) addr
  refine ⟨hans, ?_, ?_, ?_, ?_, ?_, State.emits_emit rfl (Nat.le_refl _) (by rw [ht]; exact fun _ h => h) ?_⟩
  · rw [ht, he]
  · rw [ht, he]
  · rw [ht, he]
  · rw [ht, he]
  · rw [ht, he]
  · rw [ht, he]

end

/-- What a port's write of an owner register comes to. -/
theorem ownerWrite_port {s u : State} {p : Fin 2} {r : RegRow} {i : Nat} {v : Word} {free : Bool} {move : Nat → State} (hw : s.Writable p)
    (ha : s.RegAddr (r.addr i 0) r i 0) (hm : s.hostMay r i v = .ok) (hr : s.reach (r.addr i 0) false = (u, true))
    (hreg : u.regWrite (portOf2 p) r i 0 v = u.ownerWrite (portOf2 p) (r.addr i 0) v free move) :
    let may : Prop := (v.toNat % 16 ≤ 8 ∨ v.toNat % 16 = 12) ∧ free = true ∧ u.mayClaim (r.addr i 0) (if p = 0 then 3 else 4) = true
    (may → s.portWrite p (r.addr i 0) v 0 false = (move (v.toNat % 16)).answered p .ok)
    ∧ (¬may → s.portWrite p (r.addr i 0) v 0 false = (u.note Kind.ownerBusy (portOf2 p) (r.addr i 0)).answered p .busy) := by
  intro may
  rw [State.portWrite_arrived hw ha hm 0 hr, hreg]
  refine ⟨fun ⟨hv, hf, hc⟩ => ?_, fun h => ?_⟩
  · rw [State.ownerWrite_moves hv hf (by rw [claimRank_port]; exact hc)]
  · rw [State.ownerWrite_refused (by rw [claimRank_port]; exact h)]

/-- A channel's owner. -/
theorem chanOwner_written {s u : State} {p : Fin 2} {v : Word} {c : Fin 32} (hw : s.Writable p)
    (hr : s.reach (Reg.chanOwner.addr c.val 0) false = (u, true)) :
    let may : Prop := (v.toNat % 16 ≤ 8 ∨ v.toNat % 16 = 12) ∧ u.chIdle c = true ∧ u.mayClaim (Reg.chanOwner.addr c.val 0) (if p = 0 then 3 else 4) = true
    (may → ∃ g k, exec (.chanOwnerWrite p c v false) s = .next (((State.claimTaken { u with regs := g, inj := k } (Reg.chanOwner.addr c.val 0)
      u.edg.ch[c].owner (if p = 0 then 3 else 4)).setECh c fun e => { e with owner := v.toNat % 16 }).answered p .ok).settle)
    ∧ (¬may → exec (.chanOwnerWrite p c v false) s
      = .next ((u.note Kind.ownerBusy (portOf2 p) (Reg.chanOwner.addr c.val 0)).answered p .busy).settle) := by
  intro may
  have hwrite := ownerWrite_port (v := v) (free := u.chIdle (idx 32 (by decide) c.val))
    (move := fun o => (u.store (portOf2 p) Reg.chanOwner c.val 0 v).ownCh (idx 32 (by decide) c.val) o (claimRank (portOf2 p))) hw
    (State.regAddr_of (addrCheck_chanOwner c) (.inl (by have := c.isLt; simp only [RegRow.addr, Reg.chanOwner]; omega)))
    (State.hostMay_unowned (by decide) rfl v) hr rfl
  rw [idx_fin] at hwrite
  refine ⟨fun h => ?_, fun h => ?_⟩
  · obtain ⟨g, k, hst⟩ := u.store_bare (portOf2 p) (r := Reg.chanOwner) c.val 0 v rfl rfl (by decide)
    refine ⟨g, k, ?_⟩
    show finish (s.portWrite p (Reg.chanOwner.addr c.val 0) v 0 false) = _
    obtain ⟨hv, hf, hc⟩ := h
    rw [hwrite.1 ⟨hv, hf, hc⟩]
    simp only [hst, claimRank_port]
    rw [State.ownCh_moves (by exact hc) (by omega)]
    rfl
  · show finish (s.portWrite p (Reg.chanOwner.addr c.val 0) v 0 false) = _
    rw [hwrite.2 h]
    rfl

/-- An ignition output's owner. -/
theorem ignOwner_written {s u : State} {p : Fin 2} {v : Word} {n : Fin 24} (hw : s.Writable p)
    (hr : s.reach (Reg.ignOwner.addr n.val 0) false = (u, true)) :
    let may : Prop := (v.toNat % 16 ≤ 8 ∨ v.toNat % 16 = 12) ∧ u.ignIdle n = true ∧ u.mayClaim (Reg.ignOwner.addr n.val 0) (if p = 0 then 3 else 4) = true
    (may → ∃ g k, exec (.ignOwnerWrite p n v false) s = .next (((State.claimTaken { u with regs := g, inj := k } (Reg.ignOwner.addr n.val 0)
      u.edg.ign[n].owner (if p = 0 then 3 else 4)).setEIgn n fun e => { e with owner := v.toNat % 16 }).answered p .ok).settle)
    ∧ (¬may → exec (.ignOwnerWrite p n v false) s
      = .next ((u.note Kind.ownerBusy (portOf2 p) (Reg.ignOwner.addr n.val 0)).answered p .busy).settle) := by
  intro may
  have haddr : ∀ n : Fin 24, addrCheck (Reg.ignOwner.addr n.val 0) Reg.ignOwner n.val 0 = true := by decide +kernel
  have hwrite := ownerWrite_port (v := v) (free := u.ignIdle (idx 24 (by decide) n.val))
    (move := fun o => (u.store (portOf2 p) Reg.ignOwner n.val 0 v).ownIgn (idx 24 (by decide) n.val) o (claimRank (portOf2 p))) hw
    (State.regAddr_of (haddr n) (.inl (by have := n.isLt; simp only [RegRow.addr, Reg.ignOwner]; omega)))
    (State.hostMay_unowned (by decide) rfl v) hr rfl
  rw [idx_fin] at hwrite
  refine ⟨fun h => ?_, fun h => ?_⟩
  · obtain ⟨g, k, hst⟩ := u.store_bare (portOf2 p) (r := Reg.ignOwner) n.val 0 v rfl rfl (by decide)
    refine ⟨g, k, ?_⟩
    show finish (s.portWrite p (Reg.ignOwner.addr n.val 0) v 0 false) = _
    obtain ⟨hv, hf, hc⟩ := h
    rw [hwrite.1 ⟨hv, hf, hc⟩]
    simp only [hst, claimRank_port]
    rw [State.ownIgn_moves (by exact hc) (by omega)]
    rfl
  · show finish (s.portWrite p (Reg.ignOwner.addr n.val 0) v 0 false) = _
    rw [hwrite.2 h]
    rfl

/-- The owner of a modulator, a goalpost or a window. -/
theorem measOwner_written {s : State} {p : Fin 2} {v : Word} {m : Fin 40} (hw : s.Writable p) (hrun : s.measRuns = true) :
    let u := s.windowsNow
    let may : Prop := (v.toNat % 16 ≤ 8 ∨ v.toNat % 16 = 12) ∧ u.measIdle m = true ∧ u.mayClaim (Reg.measOwner.addr m.val 0) (if p = 0 then 3 else 4) = true
    (may → ∃ g k w, exec (.measOwnerWrite p m v) s = .next (({ State.claimTaken { u with regs := g, inj := k } (Reg.measOwner.addr m.val 0)
      w (if p = 0 then 3 else 4) with ms := { u.ms with owner := u.ms.owner.set m.val (v.toNat % 16) m.isLt } } : State).answered p .ok).settle)
    ∧ (¬may → exec (.measOwnerWrite p m v) s
      = .next ((u.note Kind.ownerBusy (portOf2 p) (Reg.measOwner.addr m.val 0)).answered p .busy).settle) := by
  intro u may
  have haddr : ∀ m : Fin 40, addrCheck (Reg.measOwner.addr m.val 0) Reg.measOwner m.val 0 = true := by decide +kernel
  have hrange : ∀ m : Fin 40, driverAt (Reg.measOwner.addr m.val 0) = false ∧ 0x30000000 ≤ Reg.measOwner.addr m.val 0
      ∧ Reg.measOwner.addr m.val 0 < 0x40000000 := by decide +kernel
  obtain ⟨hd, hlo, hhi⟩ := hrange m
  have hreach : s.reach (Reg.measOwner.addr m.val 0) false = (u, true) := by
    rw [State.reach, hd, if_neg Bool.false_ne_true, if_pos ⟨hlo, hhi⟩]
  have hwrite := ownerWrite_port (v := v) (free := u.measIdle (idx 40 (by decide) m.val))
    (move := fun o => (u.store (portOf2 p) Reg.measOwner m.val 0 v).ownMeas (idx 40 (by decide) m.val) o (claimRank (portOf2 p))) hw
    (State.regAddr_of (haddr m) (.inr (.inr hrun))) (State.hostMay_unowned (by decide) rfl v) hreach rfl
  rw [idx_fin] at hwrite
  refine ⟨fun h => ?_, fun h => ?_⟩
  · obtain ⟨g, k, hst⟩ := u.store_bare (portOf2 p) (r := Reg.measOwner) m.val 0 v rfl rfl (by decide)
    obtain ⟨hv, hf, hc⟩ := h
    obtain ⟨w, hown⟩ := State.ownMeas_moves (s := { u with regs := g, inj := k }) (m := m) (o := v.toNat % 16)
      (rank := if p = 0 then 3 else 4) hc (by omega)
    refine ⟨g, k, w, ?_⟩
    show finish (s.portWrite p (Reg.measOwner.addr m.val 0) v 0 false) = _
    rw [hwrite.1 ⟨hv, hf, hc⟩]
    simp only [hst, claimRank_port]
    rw [hown]
    rfl
  · show finish (s.portWrite p (Reg.measOwner.addr m.val 0) v 0 false) = _
    rw [hwrite.2 h]
    rfl

/-- A jig engine's owner. -/
theorem jigOwner_written {s : State} {p : Fin 2} {v : Word} {e : Fin 8} (hw : s.Writable p) :
    let may : Prop := (v.toNat % 16 ≤ 8 ∨ v.toNat % 16 = 12) ∧ s.rb Reg.jigCfg e.val 0 = false
      ∧ s.mayClaim (Reg.jigOwner.addr e.val 0) (if p = 0 then 3 else 4) = true
    (may → ∃ g k j, j[e].owner = v.toNat % 16 ∧ exec (.jigOwnerWrite p e v) s = .next (({ State.claimTaken { s with regs := g, inj := k }
      (Reg.jigOwner.addr e.val 0) s.jig[e].owner (if p = 0 then 3 else 4) with jig := j } : State).answered p .ok).settle)
    ∧ (¬may → exec (.jigOwnerWrite p e v) s
      = .next ((s.note Kind.ownerBusy (portOf2 p) (Reg.jigOwner.addr e.val 0)).answered p .busy).settle) := by
  intro may
  have haddr : ∀ e : Fin 8, addrCheck (Reg.jigOwner.addr e.val 0) Reg.jigOwner e.val 0 = true
      ∧ 0x40000000 ≤ Reg.jigOwner.addr e.val 0 ∧ Reg.jigOwner.addr e.val 0 < 0x70004000 := by decide +kernel
  obtain ⟨hchk, hlo, hhi⟩ := haddr e
  have hwrite := ownerWrite_port (v := v) (free := !s.rb Reg.jigCfg e.val 0)
    (move := fun o => (s.store (portOf2 p) Reg.jigOwner e.val 0 v).ownJig (idx 8 (by decide) e.val) o (claimRank (portOf2 p))) hw
    (State.regAddr_of hchk (.inr (.inl hlo))) (State.hostMay_unowned (by decide) rfl v)
    (State.reach_here (.inr (.inl ⟨hlo, hhi⟩)) false) rfl
  rw [idx_fin, Bool.not_eq_true'] at hwrite
  refine ⟨fun h => ?_, fun h => ?_⟩
  · obtain ⟨g, k, hst⟩ := s.store_bare (portOf2 p) (r := Reg.jigOwner) e.val 0 v rfl rfl (by decide)
    obtain ⟨hv, hf, hc⟩ := h
    obtain ⟨co, l, g', hs, ho, mm, cl, hq⟩ := State.claimTaken_parts { s with regs := g, inj := k } (Reg.jigOwner.addr e.val 0)
      s.jig[e].owner (if p = 0 then 3 else 4)
    obtain ⟨j, hj, hown⟩ := ((State.claimTaken { s with regs := g, inj := k } (Reg.jigOwner.addr e.val 0)
      s.jig[e].owner (if p = 0 then 3 else 4)).setJig e fun x => { x with owner := v.toNat % 16 }).jigHolds_parts
    refine ⟨g, k, j, (hown e).trans (by simp [State.setJig, upd]), ?_⟩
    show finish (s.portWrite p (Reg.jigOwner.addr e.val 0) v 0 false) = _
    rw [hwrite.1 ⟨hv, hf, hc⟩]
    simp only [hst, claimRank_port]
    have hmove : State.ownJig { s with regs := g, inj := k } e (v.toNat % 16) (if p = 0 then 3 else 4)
        = ((State.claimTaken { s with regs := g, inj := k } (Reg.jigOwner.addr e.val 0)
          s.jig[e].owner (if p = 0 then 3 else 4)).setJig e fun x => { x with owner := v.toNat % 16 }).jigHolds := by
      unfold State.ownJig
      rw [State.claim_taken (by exact hc)]
      exact if_neg (show v.toNat % 16 ≠ ownFault by simp only [ownFault]; omega)
    rw [hmove, hj]
    rfl
  · show finish (s.portWrite p (Reg.jigOwner.addr e.val 0) v 0 false) = _
    rw [hwrite.2 h]
    rfl

/-- A timer's owner. -/
theorem tmrOwner_written {s : State} {p : Fin 2} {v : Word} {n : Fin 16} (hw : s.Writable p) :
    let may : Prop := (v.toNat % 16 ≤ 8 ∨ v.toNat % 16 = 12) ∧ s.rb Reg.tmrCfg n.val 0 = false
      ∧ s.mayClaim (Reg.tmrOwner.addr n.val 0) (if p = 0 then 3 else 4) = true
    (may → ∃ g k, exec (.tmrOwnerWrite p n v) s = .next (((State.claimTaken { s with regs := g, inj := k } (Reg.tmrOwner.addr n.val 0)
      s.tmr[n].owner (if p = 0 then 3 else 4)).setTmr n fun x => { x with owner := v.toNat % 16 }).answered p .ok).settle)
    ∧ (¬may → exec (.tmrOwnerWrite p n v) s
      = .next ((s.note Kind.ownerBusy (portOf2 p) (Reg.tmrOwner.addr n.val 0)).answered p .busy).settle) := by
  intro may
  have haddr : ∀ n : Fin 16, addrCheck (Reg.tmrOwner.addr n.val 0) Reg.tmrOwner n.val 0 = true
      ∧ 0x40000000 ≤ Reg.tmrOwner.addr n.val 0 ∧ Reg.tmrOwner.addr n.val 0 < 0x70004000 := by decide +kernel
  obtain ⟨hchk, hlo, hhi⟩ := haddr n
  have hreg : s.regWrite (portOf2 p) Reg.tmrOwner n.val 0 v = s.ownerWrite (portOf2 p) (Reg.tmrOwner.addr n.val 0) v (!s.rb Reg.tmrCfg n.val 0)
      fun o => (s.store (portOf2 p) Reg.tmrOwner n.val 0 v).claim (Reg.tmrOwner.addr n.val 0)
        (s.store (portOf2 p) Reg.tmrOwner n.val 0 v).tmr[n].owner (claimRank (portOf2 p)) fun u => u.setTmr n fun x => { x with owner := o } := by
    have hrow : s.regWrite (portOf2 p) Reg.tmrOwner n.val 0 v = s.tmrWrite (portOf2 p) Reg.tmrOwner n.val 0 v := rfl
    rw [hrow]
    unfold State.tmrWrite
    simp only [idx_fin]
    rfl
  have hwrite := ownerWrite_port hw (State.regAddr_of hchk (.inr (.inl hlo))) (State.hostMay_unowned (by decide) rfl v)
    (State.reach_here (.inr (.inl ⟨hlo, hhi⟩)) false) hreg
  rw [Bool.not_eq_true'] at hwrite
  refine ⟨fun h => ?_, fun h => ?_⟩
  · obtain ⟨g, k, hst⟩ := s.store_bare (portOf2 p) (r := Reg.tmrOwner) n.val 0 v rfl rfl (by decide)
    refine ⟨g, k, ?_⟩
    show finish (s.portWrite p (Reg.tmrOwner.addr n.val 0) v 0 false) = _
    obtain ⟨hv, hf, hc⟩ := h
    rw [hwrite.1 ⟨hv, hf, hc⟩]
    simp only [hst, claimRank_port]
    rw [State.claim_taken (by exact hc)]
    rfl
  · show finish (s.portWrite p (Reg.tmrOwner.addr n.val 0) v 0 false) = _
    rw [hwrite.2 h]
    rfl

/-- Settles O32: unit by unit, the claim that a legal value makes on an idle unit, and the refusal of every other write. -/
theorem ownerWrites : Obligations.OwnerWrites := by
  unfold Obligations.OwnerWrites
  intro s u p v c n m e k hw o legal src rank busy claims
  have haddr : (∀ c : Fin 32, Reg.chanOwner.addr c.val 0 < 2 ^ 32) ∧ (∀ n : Fin 24, Reg.ignOwner.addr n.val 0 < 2 ^ 32)
      ∧ (∀ m : Fin 40, Reg.measOwner.addr m.val 0 < 2 ^ 32) ∧ (∀ e : Fin 8, Reg.jigOwner.addr e.val 0 < 2 ^ 32)
      ∧ ∀ k : Fin 16, Reg.tmrOwner.addr k.val 0 < 2 ^ 32 := by decide +kernel
  obtain ⟨hc, hn, hm, he, hk⟩ := haddr
  refine ⟨fun hr => ⟨fun h => ?_, fun h => ?_⟩, fun hr => ⟨fun h => ?_, fun h => ?_⟩, fun hrun hu => ⟨fun h => ?_, fun h => ?_⟩,
    ⟨fun h => ?_, fun h => ?_⟩, ⟨fun h => ?_, fun h => ?_⟩⟩
  · obtain ⟨g, i, hx⟩ := (chanOwner_written hw hr).1 h
    obtain ⟨co, l, g', hs, ho, mm, cl, hq⟩ := State.claimTaken_parts { u with regs := g, inj := i } (Reg.chanOwner.addr c.val 0)
      u.edg.ch[c].owner (if p = 0 then 3 else 4)
    obtain ⟨h1, h2, h3, hset⟩ := answered_settle_parts ((State.claimTaken { u with regs := g, inj := i } (Reg.chanOwner.addr c.val 0)
      u.edg.ch[c].owner (if p = 0 then 3 else 4)).setECh c fun e => { e with owner := v.toNat % 16 }) p .ok
    refine ⟨_, hx, claim_answered rfl rfl rfl ?_ ?_ ?_ ?_ (hc c), ?_⟩
    · rw [hq]; rfl
    · rw [hq]; rfl
    · rw [hq]; rfl
    · rw [hq]; rfl
    · rw [hset, hq]; rfl
  · exact ⟨_, (chanOwner_written hw hr).2 h, refusal_answered u p (hc c)⟩
  · obtain ⟨g, i, hx⟩ := (ignOwner_written hw hr).1 h
    obtain ⟨co, l, g', hs, ho, mm, cl, hq⟩ := State.claimTaken_parts { u with regs := g, inj := i } (Reg.ignOwner.addr n.val 0)
      u.edg.ign[n].owner (if p = 0 then 3 else 4)
    obtain ⟨h1, h2, h3, hset⟩ := answered_settle_parts ((State.claimTaken { u with regs := g, inj := i } (Reg.ignOwner.addr n.val 0)
      u.edg.ign[n].owner (if p = 0 then 3 else 4)).setEIgn n fun e => { e with owner := v.toNat % 16 }) p .ok
    refine ⟨_, hx, claim_answered rfl rfl rfl ?_ ?_ ?_ ?_ (hn n), ?_⟩
    · rw [hq]; rfl
    · rw [hq]; rfl
    · rw [hq]; rfl
    · rw [hq]; rfl
    · rw [hset, hq]; rfl
  · exact ⟨_, (ignOwner_written hw hr).2 h, refusal_answered u p (hn n)⟩
  · subst hu
    obtain ⟨g, i, w, hx⟩ := (measOwner_written hw hrun).1 h
    obtain ⟨co, l, g', hs, ho, mm, cl, hq⟩ := State.claimTaken_parts { s.windowsNow with regs := g, inj := i } (Reg.measOwner.addr m.val 0)
      w (if p = 0 then 3 else 4)
    refine ⟨_, hx, claim_answered rfl rfl rfl ?_ ?_ ?_ ?_ (hm m), ?_⟩
    · rw [hq]
    · rw [hq]
    · rw [hq]
    · rw [hq]
    · obtain ⟨h1, h2, h3, hset⟩ := answered_settle_parts { State.claimTaken { s.windowsNow with regs := g, inj := i } (Reg.measOwner.addr m.val 0)
        w (if p = 0 then 3 else 4) with ms := { s.windowsNow.ms with owner := s.windowsNow.ms.owner.set m.val (v.toNat % 16) m.isLt } } p .ok
      rw [hset]
  · subst hu
    exact ⟨_, (measOwner_written hw hrun).2 h, refusal_answered _ p (hm m)⟩
  · obtain ⟨g, i, j, hj, hx⟩ := (jigOwner_written hw).1 h
    obtain ⟨co, l, g', hs, ho, mm, cl, hq⟩ := State.claimTaken_parts { s with regs := g, inj := i } (Reg.jigOwner.addr e.val 0)
      s.jig[e].owner (if p = 0 then 3 else 4)
    obtain ⟨h1, h2, h3, hset⟩ := answered_settle_parts { State.claimTaken { s with regs := g, inj := i } (Reg.jigOwner.addr e.val 0)
      s.jig[e].owner (if p = 0 then 3 else 4) with jig := j } p .ok
    refine ⟨_, hx, claim_answered rfl rfl rfl ?_ ?_ ?_ ?_ (he e), ?_, ?_, ?_⟩
    · rw [hq]
    · rw [hq]
    · rw [hq]
    · rw [hq]
    · rw [hset]; exact hj
    · rw [hset, hq]
    · rw [hset, hq]
  · exact ⟨_, (jigOwner_written hw).2 h, refusal_answered s p (he e)⟩
  · obtain ⟨g, i, hx⟩ := (tmrOwner_written hw).1 h
    obtain ⟨co, l, g', hs, ho, mm, cl, hq⟩ := State.claimTaken_parts { s with regs := g, inj := i } (Reg.tmrOwner.addr k.val 0)
      s.tmr[k].owner (if p = 0 then 3 else 4)
    obtain ⟨h1, h2, h3, hset⟩ := answered_settle_parts ((State.claimTaken { s with regs := g, inj := i } (Reg.tmrOwner.addr k.val 0)
      s.tmr[k].owner (if p = 0 then 3 else 4)).setTmr k fun x => { x with owner := v.toNat % 16 }) p .ok
    refine ⟨_, hx, claim_answered rfl rfl rfl ?_ ?_ ?_ ?_ (hk k), ?_, ?_, ?_⟩
    · rw [hq]; rfl
    · rw [hq]; rfl
    · rw [hq]; rfl
    · rw [hq]; rfl
    · rw [hset, hq]; rfl
    · rw [hset, hq]; rfl
    · rw [hset, hq]; rfl
  · exact ⟨_, (tmrOwner_written hw).2 h, refusal_answered s p (hk k)⟩

end Sys2Proof.Proofs
end

section
/-! SUPPORT. Writes of registers without an action of their own, by the access codes and the locks (R12, R13, R392, R495). -/

namespace Sys2Proof.Machine

/-! ### Registers without an action of their own -/

/-- The registers whose write does more than store their word. -/
def actionRegs : List RegRow := [Reg.whlxCfg, Reg.whlCmd, Reg.prdMapCtl, Reg.toothmap, Reg.ripGain, Reg.prdStat, Reg.cluRole, Reg.cluCueEn,
  Reg.cluDoorbell, Reg.schedStat, Reg.chanOwner, Reg.ignOwner, Reg.chDiag, Reg.measOwner, Reg.modCmd, Reg.gpCfg, Reg.gpLo, Reg.gpHi,
  Reg.gpHys, Reg.jigCfg, Reg.jigCtl, Reg.jigTxf, Reg.jigCmd, Reg.jigOwner, Reg.jigProg, Reg.tmrCfg, Reg.tmrCmpv, Reg.tmrCnt, Reg.tmrCapall,
  Reg.tmrOwner, Reg.sealCtl, Reg.sealStat, Reg.sealKeyw, Reg.sealBurn, Reg.sealxAdd, Reg.sealxLo, Reg.sealxHi, Reg.sealxCfg, Reg.sealxMask,
  Reg.fabCfg, Reg.fabCmd, Reg.fltCtl, Reg.fltAck, Reg.fiCtl, Reg.bistCmd, Reg.sysCmd, Reg.sysGate, Reg.ringBase, Reg.ringCfg, Reg.ringCmd,
  Reg.ringRp, Reg.acCfg]

/-- A register without an action, of no owned unit and outside the always-on domain. -/
def plainRow (r : RegRow) : Bool :=
  decide (∀ x ∈ actionRegs, r.base ≠ x.base)
    && !decide (0x20001000 ≤ r.base ∧ r.base < 0x20002000) && !decide (0x20004000 ≤ r.base ∧ r.base < 0x20005000)
    && !decide (0x30001000 ≤ r.base ∧ r.base < 0x30002000) && !decide (0x3000A000 ≤ r.base ∧ r.base < 0x3000B000)
    && !decide (0x30004000 ≤ r.base ∧ r.base < 0x30008000) && !decide (0x40000000 ≤ r.base ∧ r.base < 0x40000E00)
    && !decide (0x40001000 ≤ r.base ∧ r.base < 0x40002000) && !decide (0x41000000 ≤ r.base ∧ r.base < 0x41000400)
    && !decide (0x70000100 ≤ r.base ∧ r.base < 0x70000200)

/-- What the unit keeps of a word before a write changes it: the model's words until the next tooth, a profile's for its DCLK. -/
def State.before (s : State) (r : RegRow) (i : Nat) : State :=
  if modelWord r then s.holdWord r i
  else if decide (Reg.psCur0.base ≤ r.base) && decide (r.base ≤ Reg.psCls2.base) then s.profileWritten r i else s

theorem State.before_parts (s : State) (r : RegRow) (i : Nat) : ∃ hr fr, s.before r i = { s with
    prd := { s.prd with heldRegs := hr }, drv := { s.drv with fresh := fr } } := by
  unfold State.before
  split
  · unfold State.holdWord
    split
    · exact ⟨s.prd.heldRegs, s.drv.fresh, rfl⟩
    · exact ⟨_, s.drv.fresh, rfl⟩
  · split
    · unfold State.profileWritten
      dsimp only
      split
      · exact ⟨s.prd.heldRegs, s.drv.fresh, rfl⟩
      · exact ⟨s.prd.heldRegs, _, rfl⟩
    · exact ⟨s.prd.heldRegs, s.drv.fresh, rfl⟩

theorem modelWord_range {r : RegRow} (h : modelWord r = true) : 0x10000000 ≤ r.base ∧ r.base < 0x20000000 := by
  simp only [modelWord, decide_eq_true_eq] at h
  revert h
  generalize r.base = b
  revert b
  decide

theorem State.before_timing {r : RegRow} (h : r.base < 0x20000000) (s : State) (i : Nat) :
    s.before r i = if modelWord r then s.holdWord r i else s := by
  have hp : (decide (Reg.psCur0.base ≤ r.base) && decide (r.base ≤ Reg.psCls2.base)) = false := Bool.and_eq_false_iff.mpr
    (.inl (decide_eq_false (show ¬0x20002000 ≤ r.base by omega)))
  unfold State.before
  rw [hp]
  rfl

theorem State.before_driver {r : RegRow} (h : 0x20000000 ≤ r.base) (s : State) (i : Nat) :
    s.before r i = if decide (Reg.psCur0.base ≤ r.base) && decide (r.base ≤ Reg.psCls2.base) then s.profileWritten r i else s := by
  have hm : modelWord r = false := Bool.eq_false_iff.mpr fun hm => by have := modelWord_range hm; omega
  unfold State.before
  rw [hm]
  rfl

theorem State.before_other {r : RegRow} (h : r.base < 0x10000000 ∨ 0x30000000 ≤ r.base) (s : State) (i : Nat) : s.before r i = s := by
  have hm : modelWord r = false := Bool.eq_false_iff.mpr fun hm => by have := modelWord_range hm; omega
  have hp : (decide (Reg.psCur0.base ≤ r.base) && decide (r.base ≤ Reg.psCls2.base)) = false := by
    rw [Bool.and_eq_false_iff]
    rcases h with h | h
    · exact .inl (decide_eq_false (show ¬0x20002000 ≤ r.base by omega))
    · exact .inr (decide_eq_false (show ¬r.base ≤ 0x20002028 by omega))
  unfold State.before
  rw [hm, hp]
  rfl

section
variable {r : RegRow} (h : plainRow r = true)
include h

theorem plainRow_ne {x : RegRow} (hx : x ∈ actionRegs) : r.base ≠ x.base := by
  simp only [plainRow, Bool.and_eq_true, decide_eq_true_eq] at h
  exact h.1.1.1.1.1.1.1.1.1 x hx

theorem plainRow_ranges : ¬(0x20001000 ≤ r.base ∧ r.base < 0x20002000) ∧ ¬(0x20004000 ≤ r.base ∧ r.base < 0x20005000)
    ∧ ¬(0x30001000 ≤ r.base ∧ r.base < 0x30002000) ∧ ¬(0x3000A000 ≤ r.base ∧ r.base < 0x3000B000)
    ∧ ¬(0x30004000 ≤ r.base ∧ r.base < 0x30008000) ∧ ¬(0x40000000 ≤ r.base ∧ r.base < 0x40000E00)
    ∧ ¬(0x40001000 ≤ r.base ∧ r.base < 0x40002000) ∧ ¬(0x41000000 ≤ r.base ∧ r.base < 0x41000400)
    ∧ ¬(0x70000100 ≤ r.base ∧ r.base < 0x70000200) := by
  simp only [plainRow, Bool.and_eq_true, Bool.not_eq_true', decide_eq_false_iff_not] at h
  obtain ⟨⟨⟨⟨⟨⟨⟨⟨⟨-, h1⟩, h2⟩, h3⟩, h4⟩, h5⟩, h6⟩, h7⟩, h8⟩, h9⟩ := h
  exact ⟨h1, h2, h3, h4, h5, h6, h7, h8, h9⟩

theorem State.unitOwner_plain (s : State) (i : Nat) : s.unitOwner r i = none := by
  obtain ⟨h1, h2, h3, h4, h5, h6, h7, h8, -⟩ := plainRow_ranges h
  unfold State.unitOwner
  dsimp only
  rw [if_neg h1, if_neg h2, if_neg h3, if_neg h4, if_neg h5, if_neg (not_or.mpr ⟨h6, h7⟩), if_neg h8]

theorem State.hostMay_plain (s : State) (i : Nat) (v : Word) : s.hostMay r i v = .ok :=
  State.hostMay_unowned (plainRow_ne h (by decide)) (State.unitOwner_plain h s i) v

/-- A core may not write a register of no owned unit. -/
theorem State.coreMay_plain (s : State) (c : Fin 9) (i : Nat) (v : Word) : s.coreMay c r i v = .addrerr := by
  unfold State.coreMay
  rw [if_neg (plainRow_ne h (by decide)), if_neg (plainRow_ne h (by decide)), if_neg (plainRow_ne h (by decide)),
    if_neg (plainRow_ne h (by decide)), State.unitOwner_plain h]

/-- A permitted write of such a register stores it, in each of the ranges of the address map. -/
theorem State.regWrite_plain (s : State) (p : Fin 11) (i : Nat) (v : Word) :
    s.regWrite p r i 0 v = ((s.before r i).store p r i 0 v, .ok) := by
  have hne : ∀ x ∈ actionRegs, r.base ≠ x.base := fun x hx => plainRow_ne h hx
  simp only [actionRegs, List.forall_mem_cons, List.not_mem_nil, false_imp_iff, implies_true, and_true] at hne
  unfold State.regWrite
  split
  · next hb =>
    rw [State.before_timing (by omega)]
    simp [State.timingWrite, hne]
  · next hb =>
    rw [State.before_driver (by omega)]
    simp [State.driverWrite, hne]
  · next hb =>
    rw [State.before_other (by omega)]
    simp [State.measWrite, hne]
  · next hb =>
    rw [State.before_other (by omega)]
    split
    · simp [State.jigWrite, hne]
    · split
      · simp [State.tmrWrite, hne]
      · simp [State.sealWrite, hne]
  · next hb =>
    rw [State.before_other (by omega)]
    simp [State.fabWrite, hne]
  · next hb =>
    rw [State.before_other (by omega)]
    simp [State.faultWrite, hne]
  · next h1 h2 h3 h4 h5 h6 =>
    have hb : r.base < 0x10000000 ∨ 0x30000000 ≤ r.base := by
      have h1' : r.base / 0x10000000 ≠ 1 := h1
      have h2' : r.base / 0x10000000 ≠ 2 := h2
      clear hne
      omega
    rw [State.before_other hb]
    simp [State.sysWrite, hne]

end

/-- The parts of RegAddr that no state decides, the words beside the peg tables among them. -/
def addrBeside (a : Nat) (r : RegRow) (i : Nat) : Bool :=
  decide (a % 4 = 0) && (sramAt a).isNone && (traceAt a).isNone
    && (decide (a < 0x11000000) || (decide (0x11009000 ≤ a) && decide (a < 0x11800000)) || decide (0x11809000 ≤ a)
      || decide (0x400 ≤ a % 0x1000))
    && !testReg a && decide (findReg a = some (r, i, 0)) && decide (a < 2 ^ 32)

theorem State.regAddr_beside {s : State} {a : Nat} {r : RegRow} {i : Nat} (h : addrBeside a r i = true)
    (hg : a < 0x30000000 ∨ 0x40000000 ≤ a ∨ s.measRuns = true) : s.RegAddr a r i 0 ∧ a < 2 ^ 32 := by
  simp only [addrBeside, Bool.and_eq_true, Bool.or_eq_true, decide_eq_true_eq, Bool.not_eq_true', Option.isNone_iff_eq_none] at h
  obtain ⟨⟨⟨⟨⟨⟨h1, h2⟩, h3⟩, h4⟩, h5⟩, h6⟩, h7⟩ := h
  refine ⟨⟨h1, h2, h3, ?_, ?_, h5, h6⟩, h7⟩
  · unfold State.pegAt
    split
    · next hr => exact if_neg (by omega)
    · split
      · next hr =>
        have hnone : ∀ x : Option (Peg × Nat), ¬((a - 0x11800000) % 0x1000 < 0x400 ∧ (a - 0x11800000) % 0x1000 % 32 < 28) := by omega
        dsimp only
        rw [if_neg (hnone none)]
        rfl
      · rfl
  · unfold State.gatedAt
    simp only [Bool.and_eq_false_iff, decide_eq_false_iff_not, Bool.not_eq_false']
    rcases hg with h | h | h
    · exact .inl (.inl (by omega))
    · exact .inl (.inr (by omega))
    · exact .inr h

/-! ### What a store leaves (R12, R13, R392, R495) -/

/-- The bits that a write may change. -/
def RegRow.openBits (r : RegRow) (locked : Bool) : Word := BitVec.ofNat 32 (if locked then r.rw else r.rw ||| r.rwl)

/-- The word that a write leaves, by the access codes. -/
def State.codedWord (s : State) (r : RegRow) (i : Nat) (v : Word) : Word :=
  (((s.rg r i 0 &&& ~~~r.openBits (s.rowLocked r i)) ||| (v &&& r.openBits (s.rowLocked r i)))
    &&& ~~~BitVec.ofNat 32 (s.w1cOpen (r.addr i 0) (v.toNat &&& r.w1c))) ||| (v &&& BitVec.ofNat 32 r.w1s)

section
variable {r : RegRow} (hseal : r.base ≠ Reg.sealxCfg.base ∧ r.base ≠ Reg.sealxMask.base)
  (hmask : (r.rw ||| r.rwl) - ((r.rw ||| r.rwl) &&& r.rwl) = r.rw)
include hseal

theorem State.fixedBits_unsealed (s : State) (i : Nat) : s.fixedBits r i = if s.rowLocked r i then r.rwl else 0 := by
  have hs : s.sealFixed r i = false := by simp [State.sealFixed, hseal.1, hseal.2]
  rw [State.fixedBits, hs]
  rfl

include hmask

theorem State.merged_coded (s : State) (i : Nat) (v : Word) : s.merged r i 0 v = s.codedWord r i v := by
  have hopen : wordN ((r.rw ||| r.rwl) - ((r.rw ||| r.rwl) &&& s.fixedBits r i)) = r.openBits (s.rowLocked r i) := by
    rw [State.fixedBits_unsealed hseal]
    cases s.rowLocked r i with
    | true => exact congrArg wordN hmask
    | false =>
      rw [if_neg Bool.false_ne_true, Nat.and_zero]
      rfl
  unfold State.merged
  dsimp only
  rw [hopen]
  rfl

/-- A write in time of an unsealed row outside the always-on domain, with the note of a locked field that would change. -/
theorem State.store_coded (hao : ¬(0x70000100 ≤ r.base ∧ r.base < 0x70000200)) (s : State) (p : Fin 11) (i : Nat) (v : Word)
    (hout : s.outranked p (r.addr i 0) = false) : ∃ hs, s.store p r i 0 v = { s.lockNote p r i 0 v with
      regs := ((s.lockNote p r i 0 v).setRg r i 0 (s.codedWord r i v)).regs, hwSet := hs
      inj := if s.rowLocked r i && decide (r.rw ||| r.w1c ||| r.w1s = 0) then (s.lockNote p r i 0 v).inj
        else ((s.lockNote p r i 0 v).unflip (r.addr i 0)).inj } := by
  have hstand : s.standing p r i 0 v = s.codedWord r i v := by
    unfold State.standing
    dsimp only
    rw [hout, if_neg Bool.false_ne_true, State.merged_coded hseal hmask]
  unfold State.store State.storeAs
  dsimp only
  rw [hstand, if_neg hao]
  generalize s.lockNote p r i 0 v = t
  have hhw : ∃ hs, (if r.rw ||| r.rwl = 0 then t else t.hw (wroteKey (r.addr i 0)) (portRank p)) = { t with hwSet := hs } := by
    split
    · exact ⟨t.hwSet, rfl⟩
    · exact ⟨_, rfl⟩
  obtain ⟨hs, hh⟩ := hhw
  refine ⟨hs, ?_⟩
  rw [hh]
  unfold State.allLocked
  split
  · rfl
  · rfl

end

/-- A locked row keeps its locked fields. -/
theorem State.codedWord_locked {r : RegRow} (hdis : (r.rw ||| r.w1c ||| r.w1s) &&& r.rwl = 0) (s : State) (i : Nat) (v : Word)
    (hl : s.rowLocked r i = true) : s.codedWord r i v &&& BitVec.ofNat 32 r.rwl = s.rg r i 0 &&& BitVec.ofNat 32 r.rwl := by
  refine BitVec.eq_of_getLsbD_eq fun k hk => ?_
  have hbit := congrArg (Nat.testBit · k) hdis
  simp only [Nat.testBit_and, Nat.testBit_or, Nat.zero_testBit] at hbit
  have hof : ∀ n, (BitVec.ofNat 32 n)[k] = n.testBit k := fun n => by
    rw [BitVec.getElem_eq_testBit_toNat, BitVec.toNat_ofNat, Nat.testBit_mod_two_pow, decide_eq_true hk, Bool.true_and]
  cases hb : r.rwl.testBit k with
  | false => simp [hof, hk, hb]
  | true =>
    simp only [hb, Bool.and_true, Bool.or_eq_false_iff] at hbit
    obtain ⟨⟨hrw, hc⟩, hs⟩ := hbit
    simp [State.codedWord, RegRow.openBits, State.w1cOpen, hl, hof, hrw, hc, hs, hb, hk]

/-- The same where the row has no bits that a write takes as they come: nothing records the write's source. -/
theorem State.store_unranked {r : RegRow} (hrw : r.rw ||| r.rwl = 0) (hseal : r.base ≠ Reg.sealxCfg.base ∧ r.base ≠ Reg.sealxMask.base)
    (hlock : r.lock = 0) (hao : ¬(0x70000100 ≤ r.base ∧ r.base < 0x70000200)) (s : State) (p : Fin 11) (i : Nat) (v : Word) :
    s.store p r i 0 v = (s.setRg r i 0 (s.standing p r i 0 v)).unflip (r.addr i 0) := by
  have hrow : s.rowLocked r i = false := by simp [State.rowLocked, hlock]
  have hnote : s.lockNote p r i 0 v = s := by
    unfold State.lockNote
    rw [State.fixedBits_unsealed hseal, hrow, if_pos (by simp [wordN])]
  unfold State.store State.storeAs
  dsimp only
  rw [hnote, if_pos hrw, if_neg hao, if_neg (by simp [State.allLocked, hrow])]

end Sys2Proof.Machine
end

section
/-! PROOFS. Port writes of plain registers and of locks: the statement O30. -/

open Sys2Proof Sys2Proof.Machine

namespace Sys2Proof.Proofs

/-- The registers of O30 that a port may write and a core may not. -/
def portRows : List RegRow := [Reg.whlxPatcfg, Reg.whlxDir, Reg.auxCfg, Reg.whlSyncCfg, Reg.whlThr, Reg.whl0Zero, Reg.whlStop,
  Reg.whlLock, Reg.whlEvt, Reg.whlCnt, Reg.prdCfg, Reg.prdLrn, Reg.prdMass, Reg.prdLock, Reg.ripCfg, Reg.shape, Reg.cluBudget,
  Reg.cluLock, Reg.dwsetTime, Reg.dwsetLim, Reg.dwsetCtl, Reg.psCur0, Reg.psMode, Reg.bnkKerf, Reg.bstCfg, Reg.pairCfg,
  Reg.atrgCfg, Reg.jpCfg, Reg.fabTime, Reg.fabAngcfg, Reg.fltShot, Reg.fltCnt01, Reg.bistCfg, Reg.linkRetry, Reg.trcScrub,
  Reg.hostCfg, Reg.hostStat, Reg.hint0En, Reg.hint1En, Reg.hintJig, Reg.mntCfg]

/-- The registers of O30 whose locks a port sets. -/
def lockedRows : List RegRow := [Reg.whlxCfg, Reg.prdCfg, Reg.ripCfg, Reg.cluBudget, Reg.dwsetTime, Reg.chCfg, Reg.psCur0, Reg.jigCfg,
  Reg.tmrCfg, Reg.fabTime, Reg.fltShot, Reg.bistCfg, Reg.trcScrub, Reg.ringCfg, Reg.hostCfg, Reg.mntCfg, Reg.wakeCfg]

/-- The lock registers. -/
def lockRegs : List RegRow := [Reg.whlLock, Reg.prdLock, Reg.cluLock, Reg.dwsetLock, Reg.drvLock, Reg.jigLock, Reg.tmrLock, Reg.fabLock,
  Reg.fltLock, Reg.sysLock, Reg.trcLock, Reg.hostLock]

theorem portRows_plain : ∀ r ∈ portRows, plainRow r = true ∧ (r.rw ||| r.rwl) - ((r.rw ||| r.rwl) &&& r.rwl) = r.rw := by decide +kernel

theorem portRows_disjoint : ∀ r ∈ portRows, (r.rw ||| r.w1c ||| r.w1s) &&& r.rwl = 0 := by decide +kernel

theorem portRows_addr : ∀ r ∈ portRows, ∀ i < r.n1, addrBeside (r.addr i 0) r i = true
    ∧ (r.base < 0x30000000 → r.addr i 0 < 0x30000000) ∧ (0x40000000 ≤ r.base → 0x40000000 ≤ r.addr i 0) := by decide +kernel

theorem lockRegs_plain : ∀ q ∈ lockRegs, plainRow q = true ∧ q.rw ||| q.rwl = 0 ∧ q.lock = 0 ∧ q.w1c = 0 ∧ q.w1s = 1 ∧ modelWord q = false
    ∧ (decide (Reg.psCur0.base ≤ q.base) && decide (q.base ≤ Reg.psCls2.base)) = false := by decide +kernel

theorem resetWord_plain {q : RegRow} (h1 : q.base ≠ Reg.ringBase.base) (h2 : q.base ≠ Reg.ringCfg.base) (k : Nat) :
    resetWord q k = wordN q.rst := by
  unfold resetWord
  rw [if_neg h1, if_neg h2]

theorem lockRegs_reset : ∀ q ∈ lockRegs, ∀ k, resetWord q k = 0 := by
  have hrst : ∀ q ∈ lockRegs, q.base ≠ Reg.ringBase.base ∧ q.base ≠ Reg.ringCfg.base ∧ q.rst = 0 := by decide +kernel
  intro q hq k
  obtain ⟨h1, h2, h3⟩ := hrst q hq
  rw [resetWord_plain h1 h2, h3]
  rfl

theorem lockedRows_lock : ∀ r ∈ lockedRows, r.lock ≠ 0 ∧ ∀ i < r.n1, ∃ q ∈ lockRegs, ∃ k < q.n1, lockAddr r i = q.addr k 0
    ∧ addrBeside (q.addr k 0) q k = true ∧ (q.addr k 0 < 0x30000000 ∨ 0x40000000 ≤ q.addr k 0) := by decide +kernel

theorem portSrc_lit (p : Fin 2) : portOf2 p = if p = 0 then 9 else 10 := by
  fin_cases p
  · rfl
  · rfl

theorem anyWrite_port (s : State) (p : Fin 2) (a : Nat) (v : Word) : s.anyWrite (portOf2 p) a v false = s.portWrite p a v 0 false := by
  fin_cases p
  · rfl
  · rfl

section
variable {s u : State} {p : Fin 2} {r : RegRow} {i : Nat} {v : Word}

/-- A port's write where no register stands, and of an address that is no word's. -/
theorem portWrite_bad {a : Nat} (hw : s.Writable p) (h4 : a % 4 = 0) (hs : sramAt a = none) (ht : traceAt a = none) (hp : s.pegAt a = none)
    (hg : s.regAt a = none) : s.portWrite p a v 0 false = (s.badAddr (portOf2 p) a).answered p .addrerr := by
  obtain ⟨hc, hl, hm, hq⟩ := hw
  have key : s.accWrite (portOf2 p) a v 0 false = (s.badAddr (portOf2 p) a, .addrerr) := by
    simp [State.accWrite, h4, hs, ht, hp, hg]
  fin_cases p
  · have key' : s.accWrite hostP a v 0 false = _ := key
    simp [State.portWrite, hc, key', State.answered, State.hostAnswer, State.hostWait_idle hq]
  · have key' : s.accWrite mntP a v 0 false = _ := key
    simp [State.portWrite, hc, key', State.answered, hm rfl, State.mntRelWait_idle hq]

theorem portWrite_misaligned {a : Nat} (hw : s.Writable p) (h4 : a % 4 ≠ 0) : s.portWrite p a v 0 false = s.answered p .addrerr := by
  obtain ⟨hc, hl, hm, hq⟩ := hw
  fin_cases p
  · simp [State.portWrite, hc, State.accWrite, h4, State.answered, State.hostAnswer, State.hostWait_idle hq]
  · simp [State.portWrite, hc, State.accWrite, h4, State.answered, hm rfl, State.mntRelWait_idle hq]

/-- A core's write of a plain register is refused without a trace. -/
theorem coreWrite_plain (hc : s.clocked = true) (hr : r ∈ portRows) (ha : s.RegAddr (r.addr i 0) r i 0) (hlt : r.addr i 0 < 2 ^ 32) (c : Fin 9) :
    exec (.registerWrite ⟨c.val, by omega⟩ (BitVec.ofNat 40 (r.addr i 0)) v false) s = .next s.settle := by
  have hplain := (portRows_plain r hr).1
  have hcore : coreOf (⟨c.val, by omega⟩ : Fin 11) = some c := dif_pos c.isLt
  have haddr : (BitVec.ofNat 40 (r.addr i 0)).toNat = r.addr i 0 := by
    rw [BitVec.toNat_ofNat, Nat.mod_eq_of_lt (by omega)]
  have hreg : s.regAt (r.addr i 0) = some (r, i, 0) := by simp [State.regAt, ha.test, ha.row]
  show finish (s.anyWrite _ (BitVec.ofNat 40 (r.addr i 0)).toNat v false) = _
  rw [haddr]
  unfold State.anyWrite
  rw [hcore]
  dsimp only
  rw [if_pos hc]
  simp [State.accWrite, ha.aligned, ha.sram, ha.trace, ha.peg, ha.live, hreg, hcore, State.coreMay_plain hplain]
  rfl

/-- A port's write of a plain register. -/
theorem portWrite_plain (hw : s.Writable p) (hr : plainRow r = true) (ha : s.RegAddr (r.addr i 0) r i 0)
    (hreach : s.reach (r.addr i 0) false = (u, true)) :
    s.portWrite p (r.addr i 0) v 0 false = ((u.before r i).store (portOf2 p) r i 0 v).answered p .ok := by
  rw [State.portWrite_arrived hw ha (State.hostMay_plain hr s i v) 0 hreach, State.regWrite_plain hr]

end

/-- What a port's write of a plain register leaves, in the words of O30. -/
theorem plain_written {s u : State} {p : Fin 2} {r : RegRow} {i : Nat} {v : Word} (hw : s.Writable p) (hr : r ∈ portRows)
    (ha : s.RegAddr (r.addr i 0) r i 0) (hlt : r.addr i 0 < 2 ^ 32) (hreach : s.reach (r.addr i 0) false = (u, true))
    (hrank : u.hwNow (wroteKey (r.addr i 0)) < 2 * portRank (portOf2 p)) :
    let locked : Bool := u.rowLocked r i
    let w : Word := u.codedWord r i v
    let differs : Prop := locked = true ∧ (u.rg r i 0 ^^^ v) &&& BitVec.ofNat 32 r.rwl ≠ 0
    ∃ t, exec (.registerWrite (portOf2 p) (BitVec.ofNat 40 (r.addr i 0)) v false) s = .next t ∧ t.answer p = .ok ∧ t.rg r i 0 = w
      ∧ (differs → t.rg r i 0 &&& BitVec.ofNat 32 r.rwl = u.rg r i 0 &&& BitVec.ofNat 32 r.rwl
        ∧ u.Emits t 0 2 (portSrc (portOf2 p)) (r.addr i 0))
      ∧ (¬differs → t = { u with
          regs := (u.setRg r i 0 w).regs, hwSet := t.hwSet, prd := { u.prd with heldRegs := t.prd.heldRegs }
          inj := if locked && decide (r.rw ||| r.w1c ||| r.w1s = 0) then u.inj else (u.unflip (r.addr i 0)).inj
          drv := { u.drv with fresh := t.drv.fresh }, host := t.host, mnt := t.mnt, pins := t.pins }) := by
  intro locked w differs
  obtain ⟨hplain, hmask⟩ := portRows_plain r hr
  have hseal : r.base ≠ Reg.sealxCfg.base ∧ r.base ≠ Reg.sealxMask.base :=
    ⟨plainRow_ne hplain (by decide), plainRow_ne hplain (by decide)⟩
  have haddr : (BitVec.ofNat 40 (r.addr i 0)).toNat = r.addr i 0 := by
    rw [BitVec.toNat_ofNat, Nat.mod_eq_of_lt (by omega)]
  have hexec : exec (.registerWrite (portOf2 p) (BitVec.ofNat 40 (r.addr i 0)) v false) s
      = .next (((u.before r i).store (portOf2 p) r i 0 v).answered p .ok).settle := by
    show finish (s.anyWrite (portOf2 p) (BitVec.ofNat 40 (r.addr i 0)).toNat v false) = _
    rw [haddr, anyWrite_port, portWrite_plain hw hplain ha hreach]
    rfl
  have hans := answered_answer ((u.before r i).store (portOf2 p) r i 0 v) p (st := .ok) (by decide)
  rw [hexec]
  refine ⟨_, rfl, hans, ?_⟩
  obtain ⟨ho, m, q, hset⟩ := answered_settle_parts ((u.before r i).store (portOf2 p) r i 0 v) p .ok
  rw [hset]
  obtain ⟨hr', fr, hb⟩ := u.before_parts r i
  obtain ⟨hs, hst⟩ := State.store_coded hseal hmask (plainRow_ranges hplain).2.2.2.2.2.2.2.2 (u.before r i) (portOf2 p) i v
    (by rw [hb]; exact decide_eq_false (by exact Nat.not_le.mpr hrank))
  rw [hst]
  have hnote : (u.before r i).lockNote (portOf2 p) r i 0 v
      = if (u.rg r i 0 ^^^ v) &&& BitVec.ofNat 32 (if u.rowLocked r i then r.rwl else 0) = 0 then u.before r i
        else (u.before r i).note Kind.writeLocked (portOf2 p) (r.addr i 0) := by
    unfold State.lockNote
    rw [State.fixedBits_unsealed hseal, hb]
    rfl
  have hcoded : (u.before r i).codedWord r i v = w := by rw [hb]; rfl
  have hrl : (u.before r i).rowLocked r i = u.rowLocked r i := by rw [hb]; rfl
  rw [hcoded, hrl]
  by_cases hd : differs
  · obtain ⟨hlock, hdiff⟩ := hd
    have hrow : u.rowLocked r i = true := hlock
    rw [hrow, if_pos rfl, if_neg hdiff] at hnote
    have hrg : ∀ x : State, (x.setRg r i 0 w).rg r i 0 = w := fun x => State.setRg_rg x r i 0 w
    refine ⟨hrg _, fun _ => ⟨?_, ?_⟩, fun hn => absurd ⟨hlock, hdiff⟩ hn⟩
    · have hkept : w &&& BitVec.ofNat 32 r.rwl = u.rg r i 0 &&& BitVec.ofNat 32 r.rwl :=
        State.codedWord_locked (portRows_disjoint r hr) u i v hrow
      exact (congrArg (· &&& BitVec.ofNat 32 r.rwl) (hrg _)).trans hkept
    · have hmod : r.addr i 0 % 2 ^ 32 = r.addr i 0 := Nat.mod_eq_of_lt hlt
      have hmsg : (u.before r i).lockNote (portOf2 p) r i 0 v = (u.before r i).emit 0 2 (portSrc (portOf2 p)) (r.addr i 0) := by
        rw [hnote, State.note, hmod]
        rfl
      rw [hmsg]
      refine State.emits_emit (u := u.before r i) (by rw [hb]) (by rw [hb]) (fun _ hx => hx) ?_
      obtain ⟨co, l, g, h, he⟩ := (u.before r i).emit_parts 0 2 (portSrc (portOf2 p)) (r.addr i 0)
      rw [he]
  · have hkeep : (u.before r i).lockNote (portOf2 p) r i 0 v = u.before r i := by
      rw [hnote, if_pos]
      by_cases hl : u.rowLocked r i = true
      · rw [if_pos hl]
        exact Classical.not_not.mp fun hne => hd ⟨hl, hne⟩
      · rw [if_neg hl]
        simp
    rw [hkeep, hb]
    exact ⟨State.setRg_rg _ r i 0 w, fun h => absurd h hd, fun _ => rfl⟩

/-- What a port's write of a lock leaves. -/
theorem lock_written {s u : State} {p : Fin 2} {r : RegRow} {i : Nat} {b : Bool} (hw : s.Writable p) (hr : r ∈ lockedRows) (hi : i < r.n1)
    (hreach : s.reach (lockAddr r i) false = (u, true)) (hset : b = true ∨ u.rowLocked r i = true) :
    ∃ t, exec (.lockSet p (BitVec.ofNat 40 (lockAddr r i)) (if b then 1 else 0) false) s = .next t ∧ t.answer p = .ok ∧ t.rowLocked r i = true
      ∧ t = { u with regs := t.regs, inj := (u.unflip (lockAddr r i)).inj, host := t.host, mnt := t.mnt, pins := t.pins } := by
  obtain ⟨hlock, hrows⟩ := lockedRows_lock r hr
  obtain ⟨q, hq, k, hk, hx, hchk, hrange⟩ := hrows i hi
  obtain ⟨hplain, hrw, hql, hc, hs, hmodel, hprof⟩ := lockRegs_plain q hq
  have hseal : q.base ≠ Reg.sealxCfg.base ∧ q.base ≠ Reg.sealxMask.base :=
    ⟨plainRow_ne hplain (by decide), plainRow_ne hplain (by decide)⟩
  rw [hx] at hreach ⊢
  obtain ⟨ha, hlt⟩ := State.regAddr_beside (s := s) hchk (by tauto)
  have haddr : (BitVec.ofNat 40 (q.addr k 0)).toNat = q.addr k 0 := by
    rw [BitVec.toNat_ofNat, Nat.mod_eq_of_lt (by omega)]
  generalize hv : (if b then 1 else 0 : BitVec 32) = v
  have hmask : (q.rw ||| q.rwl) - ((q.rw ||| q.rwl) &&& q.rwl) = q.rw := by
    obtain ⟨h1, h2⟩ := Nat.or_eq_zero_iff.mp hrw
    rw [h1, h2]
    rfl
  have hstand : u.standing (portOf2 p) q k 0 v = u.rg q k 0 ||| (v &&& 1) := by
    have hones : ∀ x : Word, x &&& 4294967295#32 = x := fun x => BitVec.and_allOnes (x := x)
    have hw0 : (v &&& ~~~wordN (q.rw ||| q.rwl)) ||| (u.rg q k 0 &&& wordN (q.rw ||| q.rwl)) = v := by
      rw [hrw]
      simp [wordN, hones]
    have hcoded : u.codedWord q k v = u.rg q k 0 ||| (v &&& 1) := by
      have hopen : q.openBits (u.rowLocked q k) = 0 := by
        obtain ⟨h1, h2⟩ := Nat.or_eq_zero_iff.mp hrw
        simp [RegRow.openBits, h1, h2]
      simp [State.codedWord, hopen, hc, hs, State.w1cOpen, hones]
    unfold State.standing
    dsimp only
    rw [hw0, ite_self, State.merged_coded hseal hmask, hcoded]
  have hbefore : u.before q k = u := by
    unfold State.before
    rw [hmodel, hprof]
    rfl
  have hexec : exec (.lockSet p (BitVec.ofNat 40 (q.addr k 0)) v false) s
      = .next (((u.setRg q k 0 (u.rg q k 0 ||| (v &&& 1))).unflip (q.addr k 0)).answered p .ok).settle := by
    show finish (s.portWrite p (BitVec.ofNat 40 (q.addr k 0)).toNat v 0 false) = _
    rw [haddr, portWrite_plain hw hplain ha hreach, hbefore,
      State.store_unranked hrw hseal hql (plainRow_ranges hplain).2.2.2.2.2.2.2.2, hstand]
    rfl
  rw [hexec]
  refine ⟨_, rfl, answered_answer _ p (by decide), ?_, ?_⟩
  · obtain ⟨ho, m, pq, hst⟩ := answered_settle_parts ((u.setRg q k 0 (u.rg q k 0 ||| (v &&& 1))).unflip (q.addr k 0)) p .ok
    rw [hst]
    have hreset := lockRegs_reset q hq k
    have hget : sparseGet 0 ((u.setRg q k 0 (u.rg q k 0 ||| (v &&& 1))).unflip (q.addr k 0)).regs (q.addr k 0) = u.rg q k 0 ||| (v &&& 1) := by
      show sparseGet 0 (sparseSet (resetWord q k) (q.addr k 0) _ u.regs) (q.addr k 0) = _
      rw [hreset]
      exact sparseGet_set 0 _ _ _
    have hold : u.rowLocked r i = bit (u.rg q k 0) 0 := by
      rw [State.rowLocked, decide_eq_true hlock, Bool.true_and, hx]
      show _ = bit (sparseGet (resetWord q k) u.regs (q.addr k 0)) 0
      rw [hreset]
    show (decide (r.lock ≠ 0) && bit (sparseGet 0 _ (lockAddr r i)) 0) = true
    rw [decide_eq_true hlock, Bool.true_and, hx]
    refine (congrArg (bit · 0) hget).trans ?_
    rw [hold] at hset
    rcases hset with hb | hb
    · rw [if_pos hb] at hv
      subst hv
      simp [bit]
    · show Nat.testBit (u.rg q k 0 ||| (v &&& 1)).toNat 0 = true
      rw [BitVec.toNat_or, Nat.testBit_or]
      exact Bool.or_eq_true_iff.mpr (.inl hb)
  · obtain ⟨ho, m, pq, hst⟩ := answered_settle_parts ((u.setRg q k 0 (u.rg q k 0 ||| (v &&& 1))).unflip (q.addr k 0)) p .ok
    rw [hst]
    rfl

/-- Settles O30: plain registers by their access codes, reserved and misaligned addresses, and the locks. -/
theorem registerWritesAndLocks : Obligations.RegisterWritesAndLocks := by
  unfold Obligations.RegisterWritesAndLocks
  refine ⟨fun s p c a v i hw => ?_, fun s p i b hw => ?_⟩
  · intro rows port
    have hport : port = portOf2 p := (portSrc_lit p).symm
    rw [hport]
    refine ⟨fun r hr hi hrange => ?_, ?_, ?_⟩
    · intro x u
      obtain ⟨hchk, hlo, hhi⟩ := portRows_addr r hr i hi
      obtain ⟨ha, hlt⟩ := State.regAddr_beside (s := s) hchk (by tauto)
      exact ⟨coreWrite_plain hw.1 hr ha hlt c, fun hreach hrank => plain_written hw hr ha hlt (Prod.ext rfl hreach) hrank⟩
    · intro h4 hs ht hp hg
      show ∃ t, finish (s.anyWrite (portOf2 p) a.toNat v false) = .next t ∧ _
      rw [anyWrite_port, portWrite_bad hw h4 hs ht hp hg]
      have hans := answered_answer (s.badAddr (portOf2 p) a.toNat) p (st := .addrerr) (by decide)
      refine ⟨_, rfl, hans, ?_⟩
      obtain ⟨ho, m, q, hset⟩ := answered_settle_parts (s.badAddr (portOf2 p) a.toNat) p .addrerr
      rw [hset]
      obtain ⟨co, l, g, h, he⟩ := s.emit_parts 0 Kind.badAddress (portSrc (portOf2 p)) (a.toNat % 2 ^ 32)
      have hbad : s.badAddr (portOf2 p) a.toNat = _ := he
      refine ⟨State.emits_emit (u := s) rfl (Nat.le_refl _) (fun _ hx => hx) ?_, ?_, ?_, ?_⟩
      · rw [hbad]
      · rw [hbad]
      · rw [hbad]
      · rw [hbad]
    · intro h4
      show finish (s.anyWrite (portOf2 p) a.toNat v false) = _
      rw [anyWrite_port, portWrite_misaligned hw h4]
      rfl
  · intro rows r hr hi x u hreach hset
    exact lock_written hw hr hi (Prod.ext rfl hreach) hset

end Sys2Proof.Proofs
end

section
/-! PROOFS. Host access to trace memory (R282, R283): the statement O33 has a host access count its transfer and change nothing else,
where the model first makes the transfer that the MDL controller is retrying. -/

open Sys2Proof Sys2Proof.Machine

-- A kernel evaluation waits for every declaration before it: in turn, the theorems here do not pile up.
set_option Elab.async false

namespace Sys2Proof.Proofs

/-- The reset state while the MDL controller retries a scrub read. -/
def mdlRetrying : State := { State.reset with links := { State.reset.links with mdlHead := some none } }

/-- Refutes O33: the host's access makes the transfer that is being retried first, after which none is at the head; the statement has
everything but SINCESCRUB as it was. -/
theorem not_hostMemory : ¬ Obligations.HostMemory := by
  intro h
  have haccess := ((h mdlRetrying 0 (BitVec.ofNat 40 0x100000000) 0 0).2.2 0 (by decide) (by decide) (by decide)).1 rfl (.inl rfl)
  have hhead := congrArg (fun t : State => t.links.mdlHead) haccess
  have hmodel : ((mdlRetrying.mdlAccess false).1).links.mdlHead = none := by decide +kernel
  rw [hmodel] at hhead
  exact absurd hhead (by decide)

end Sys2Proof.Proofs
end

section
/-! PROOFS. Crank edges and teeth (R54 to R82): the statement O34 has the scribe record of a coast that ended in reverse take the tracked
position itself as NEXTPOS, where the model writes the position after it. -/

open Sys2Proof Sys2Proof.Machine

-- A kernel evaluation waits for every declaration before it: in turn, the theorems here do not pile up.
set_option Elab.async false

namespace Sys2Proof.Proofs

/-- A package in READY and in NOSYNC whose WHL0 has two teeth: it coasts after a reverse edge, with its position at the first one. -/
def coastsReverse : State := (({ State.reset with
  sys := { State.reset.sys with st := .ready, pll := true }
  whl := { State.reset.whl with
    coast := true, coastRev := true, coastPos := 0,
    whl := State.reset.whl.whl.set 0 { State.reset.whl.whl[0] with last := some 0 } } } : State).setRg Reg.whlxPatcfg 0 0 1).setRg
    Reg.whlxPat 0 1 0x1000000

/-- NEXTPOS of the record that waits for the always-on domain after a command. -/
def nextposAfter : Out → Option Nat
  | .next t => t.ao.scribeNext.map (·.nextpos)
  | _ => none

/-- Refutes O34: of a coast that stands at the first of two teeth after a reverse edge, the record written at STOPMS names the second
one; the statement has the first. -/
theorem not_crankEdgesAndTeeth : ¬ Obligations.CrankEdgesAndTeeth := by
  intro h
  have hcoast : coastsReverse.whl.coast = true := by decide +kernel
  obtain ⟨t, ht, -, -, -, hrecord⟩ :=
    (h.2.2 coastsReverse (by decide +kernel) (by decide +kernel)).2 0 (by decide +kernel) (.inr hcoast)
  obtain ⟨r, hr, -, -, -, hpos⟩ := (hrecord hcoast).2
  have hmodel : nextposAfter (exec .stopTimeout coastsReverse) = some 1 := by decide +kernel
  rw [ht, nextposAfter, hr, Option.map_some, hpos] at hmodel
  exact absurd hmodel (by decide +kernel)

end Sys2Proof.Proofs
end

section
/-! PROOFS. What a peg does at its instant (R132, R415): the statement O38 has the note of a suppressed peg wait for its acceptance where
its source has an ordinary place free, but the PEG cue of the same peg may be lost, and its message of class 1 takes the note's place. -/

open Sys2Proof Sys2Proof.Machine

-- A kernel evaluation waits for every declaration before it: in turn, the theorems here do not pile up.
set_option Elab.async false

namespace Sys2Proof.Proofs

/-- A message of cluster 0 that waits for its acceptance. -/
def coreMsg : Msg := ⟨1, Kind.cueLost, srcC 0 0 0xF, 18, 0, 0, false⟩

/-- In RUN, work 0 holds in slot 15 a peg that reverse has suppressed, its PEG cues fill their queue, and its cluster has three messages
waiting. -/
def notesFull : State := ({ State.reset with
  sys := { State.reset.sys with st := .run, pll := true }
  coll := { State.reset.coll with outbox := [coreMsg, coreMsg, coreMsg] } } : State).setWork 0 fun x => { x with
    cues := List.replicate 32 ⟨18, 0, 0, 0, 0, []⟩
    slots := x.slots.set 15 { Peg.empty with st := .committed, inst := some 0, mute := 1, kind := 9, flags := 4 } }

/-- Whether a note of class 0 waits for its acceptance after a command. -/
def noteAfter : Out → Bool
  | .next t => t.coll.outbox.any fun m => decide (m.cls = 0)
  | _ => false

/-- Refutes O38: the note of the suppressed peg takes the fourth place of its source, and the CUE_LOST of its own PEG cue displaces it;
the statement has the note wait there. -/
theorem not_pegsFire : ¬ Obligations.PegsFire := by
  intro h
  obtain ⟨-, -, hmute, -⟩ := h notesFull 0 15 (by decide +kernel) 0 (by decide +kernel)
  obtain ⟨t, ht, -, -, -, hnote⟩ := hmute (.inl (by decide +kernel)) (by decide +kernel)
  obtain ⟨m, hm, hcls, -⟩ := hnote (by decide +kernel)
  have hmodel : noteAfter (exec (.pegFire 0 15) notesFull) = false := by decide +kernel
  rw [ht, noteAfter, List.any_eq_false] at hmodel
  exact hmodel m hm (by simp [hcls])

end Sys2Proof.Proofs
end

section
/-! PROOFS. Cluster roles and enables (R178, R392): the statement O40 has every host write of CLU_CUE_EN taken, where the model lets the
maintenance port's write of the same TCLK stand over the host port's. -/

open Sys2Proof Sys2Proof.Machine

-- A kernel evaluation waits for every declaration before it: in turn, the theorems here do not pile up.
set_option Elab.async false

namespace Sys2Proof.Proofs

/-- In RUN, the maintenance port has written CLU_CUE_EN of cluster 0 in the present TCLK. -/
def cueEnWritten : State := ({ State.reset with
  sys := { State.reset.sys with st := .run, pll := true } } : State).hw (wroteKey (Reg.cluCueEn.addr 0 0)) (portRank mntP)

/-- The cue enables of work 0 after a command. -/
def enablesAfter : Out → BitVec 27
  | .next t => t.work[(0 : Fin 9)].cueEn
  | _ => 0

/-- Refutes O40: the host port's write behind the maintenance port's leaves the enables as they are; the statement has them take the
written value. -/
theorem not_clusterRoles : ¬ Obligations.ClusterRoles := by
  intro h
  have hall := h cueEnWritten 0 0 0 0 (by decide +kernel) (by decide +kernel)
  obtain ⟨-, -, -, -, -, -, -, -, -, -, hwrite, -⟩ := hall
  obtain ⟨t, ht, -, hwork, -⟩ := (hwrite (by decide +kernel)).1
  have hmodel : enablesAfter (exec (.cueEnWrite 0 0 0) cueEnWritten) = BitVec.allOnes 27 := by decide +kernel
  rw [ht, enablesAfter, hwork] at hmodel
  exact absurd hmodel (by decide +kernel)

end Sys2Proof.Proofs
end

section
/-! PROOFS. The planned handover (R150, R428): the statement O41 has the switch leave every work as it was, where the receiver loads
each entry of the section with a residue that fits. -/

open Sys2Proof Sys2Proof.Machine

-- A kernel evaluation waits for every declaration before it: in turn, the theorems here do not pile up.
set_option Elab.async false

namespace Sys2Proof.Proofs

/-- The handover of work 0 from cluster 0 to cluster 8, which its over waits for. -/
def handsOver : Over := ⟨0, 0, .prepare, some 8, some 0, .active, false, 0⟩

/-- In RUN, work 0 is being handed over for an over on cluster 0, and its slot 0 has a residue that no longer fits. -/
def handoverReady : State := (({ State.reset with
  sys := { State.reset.sys with st := .run, pll := true }
  bist := { State.reset.bist with ov := some handsOver } } : State).setClu 0 fun k => { k with role := .active }).setWork 0 fun x =>
    { x with slots := x.slots.set 0 { Peg.empty with resBad := true } }

/-- Whether slot 0 of work 0 has a residue that does not fit, after a command. -/
def residueBadAfter : Out → Bool
  | .next t => (t.work[(0 : Fin 9)].slots[(0 : Fin 32)]).resBad
  | _ => false

/-- Refutes O41: the switch leaves the slot with a residue that fits; the statement has the work as it was. -/
theorem not_failuresTakeoversAndHandovers : ¬ Obligations.FailuresTakeoversAndHandovers := by
  intro h
  obtain ⟨hthere, -⟩ := h.2 handoverReady handsOver 0 8 0 (by decide +kernel) rfl rfl rfl rfl (by decide) (by decide +kernel)
    (by decide +kernel)
  obtain ⟨t, ht, -, -, -, -, hwork, -⟩ :=
    hthere rfl (by decide +kernel) (by decide +kernel) (by decide +kernel) (by decide +kernel)
  have hmodel : residueBadAfter (exec .handoverSwitch handoverReady) = false := by decide +kernel
  rw [ht, residueBadAfter, hwork] at hmodel
  exact absurd hmodel (by decide +kernel)

end Sys2Proof.Proofs
end

section
/-! PROOFS. Start edges (R226, R235): at the end of BST_WAIT the statement O42 judges BATFB by the set as it stands, where the model asks
the set as a start of that DCLK copies it, which a write of the same DCLK does not reach. -/

open Sys2Proof Sys2Proof.Machine

-- A kernel evaluation waits for every declaration before it: in turn, the theorems here do not pile up.
set_option Elab.async false

namespace Sys2Proof.Proofs

/-- A granted start of channel 0 with profile set 0 that waits for its rail. -/
def railWaiter : WaitStart := ⟨0, false, 0, ⟨0, 0, 0⟩, true, 0⟩

/-- In RUN, channel 0 waits for its rail, and BATFB of its set was 1 until a write of the present DCLK, the end of BST_WAIT, cleared it. -/
def batfbCleared : State := ({ State.reset with
  now := 12500
  sys := { State.reset.sys with st := .run, pll := true }
  drv := { State.reset.drv with fresh := [(3125, Reg.psMode.addr 0 0, 2)] } } : State).setBank 0 fun y => { y with waits := [railWaiter] }

/-- Whether channel 0 has a shot after a command. -/
def shotAfter : Out → Bool
  | .next t => t.drv.ch[(0 : Fin 32)].shot.isSome
  | _ => false

/-- Refutes O42: the start copies the set of before the write and boosts from the battery; the statement has it skipped. -/
theorem not_shotStarts : ¬ Obligations.ShotStarts := by
  intro h
  obtain ⟨-, -, -, -, -, -, -, -, hwait⟩ := h batfbCleared 0 ⟨0, 0, 0⟩ railWaiter [] (by decide +kernel)
  obtain ⟨-, -, -, -, hexpire⟩ := hwait (by decide +kernel) (by decide +kernel)
  obtain ⟨t, ht, hshot, -⟩ := (hexpire rfl (by decide +kernel)).2 (by decide +kernel)
  have hmodel : shotAfter (exec (.boostWaitExpire 0) batfbCleared) = true := by decide +kernel
  rw [ht, shotAfter, hshot] at hmodel
  exact absurd hmodel (by decide +kernel)

end Sys2Proof.Proofs
end

section
/-! PROOFS. The diagnostics of the driver die (R37, R247): the statement O46 has a failed access to BNKb_DIAG leave the driver die as it
was, where the transfers that wait on the DDL arrive before it. -/

open Sys2Proof Sys2Proof.Machine

-- A kernel evaluation waits for every declaration before it: in turn, the theorems here do not pile up.
set_option Elab.async false

namespace Sys2Proof.Proofs

/-- In RUN, a SOFT value for ignition output 0 waits on the DDL. -/
def softWaits : State := { State.reset with
  sys := { State.reset.sys with st := .run, pll := true }
  links := { State.reset.links with ddl := [.softval 0 500 1] } }

/-- The SOFT values that ignition output 0 holds for a later dwell, after a command. -/
def softNextAfter : Out → List (Nat × Nat)
  | .next t => t.drv.ign[(0 : Fin 24)].softNext
  | _ => []

/-- Refutes O46: the waiting SOFT value reaches its output before the write of BNKb_DIAG fails on the link; the statement has the driver
die as it was. -/
theorem not_driverDiagnostics : ¬ Obligations.DriverDiagnostics := by
  intro h
  obtain ⟨-, -, -, -, -, -, -, -, -, hport⟩ := h softWaits softWaits 0 0 0 0 0 0 (by decide +kernel)
  obtain ⟨-, -, -, t, ht, -, -, hdrv⟩ := hport (by decide +kernel)
  have hmodel : softNextAfter (exec (.bankFaultClear 0 0 true) softWaits) = [(500, 1)] := by decide +kernel
  rw [ht, softNextAfter, hdrv] at hmodel
  exact absurd hmodel (by decide +kernel)

end Sys2Proof.Proofs
end

section
/-! PROOFS. Modulator commands (R255, R258): the statement O47 has an urgent entry in simultaneous mode begin on the odd modulator with its
own DEC, where the model gives it the DEC of the even one. -/

open Sys2Proof Sys2Proof.Machine

-- A kernel evaluation waits for every declaration before it: in turn, the theorems here do not pile up.
set_option Elab.async false

namespace Sys2Proof.Proofs

/-- In RUN, pair 0 is in simultaneous mode and DEC of its two modulators differs. -/
def pairDiffers : State := (({ State.reset with
  sys := { State.reset.sys with st := .run, pll := true } } : State).setRg Reg.pairCfg 0 0 1).setMod 0 fun x => { x with dec := 1 }

/-- DEC of the modulators of pair 0 after a command. -/
def decsAfter : Out → Nat × Nat
  | .next t => ((t.ms.mod[(0 : Fin 8)]).dec, (t.ms.mod[(1 : Fin 8)]).dec)
  | _ => (0, 0)

/-- Refutes O47: the odd modulator takes the DEC of the even one with the urgent entry; the statement has it keep its own. -/
theorem not_modulatorCommands : ¬ Obligations.ModulatorCommands := by
  intro h
  obtain ⟨hcmd, -⟩ := h pairDiffers 9 0 0 (by decide +kernel) (by decide +kernel)
  obtain ⟨-, -, hsim⟩ := hcmd (by decide +kernel) nofun (by decide +kernel)
  obtain ⟨t, ht, -, hodd⟩ :=
    (hsim (by decide +kernel) (by decide) 1 (by decide)).1 (.inl (by decide +kernel)) (by decide +kernel) (by decide +kernel)
      (by decide +kernel)
  have hmodel : decsAfter (exec (.modUrg 9 0) pairDiffers) = (1, 1) := by decide +kernel
  rw [ht, decsAfter, hodd] at hmodel
  exact absurd (Prod.mk.inj hmodel).2 (by decide +kernel)

end Sys2Proof.Proofs
end

section
/-! PROOFS. Samples (R254, R258, R264): the statement O48 has the sample that takes a waiting one's place leave the partner as it was, where
the stream may bring a window of the pair to its end, which ends the stay entries of both. -/

open Sys2Proof Sys2Proof.Machine

-- A kernel evaluation waits for every declaration before it: in turn, the theorems here do not pile up.
set_option Elab.async false

namespace Sys2Proof.Proofs

/-- An opening of a window on modulator 0 whose last grid angle is placed and resolved. -/
def runOver : WinRun := ⟨0, 0, 0, 0, 0, 0, 0, 0, 0, 1, some 0, [], none, [], 0, false, false, false, 0, 0, 0⟩

/-- In RUN, pair 0 is in simultaneous mode with both modulators in an entry of two samples that feed the stream; a sample of modulator 0
waits for its partner's, and window 0 has come to its end. -/
def windowEnding : State := (((({ State.reset with
  sys := { State.reset.sys with st := .run, pll := true } } : State).setRg Reg.pairCfg 0 0 1).setMod 0 fun x =>
    { x with run := true, word := 0x40800, skip := 0 }).setMod 1 fun x => { x with run := true }).setPair 0 (fun q =>
    { q with last := some (false, ⟨0, 0, true, true, 0⟩) }) |>.setWin 0 fun v => { v with runs := [runOver] }

/-- Whether the stay entry of modulator 1 has seen the end of its window, after a command. -/
def stayDoneAfter : Out → Bool
  | .next t => (t.ms.mod[(1 : Fin 8)]).stayDone
  | _ => false

/-- Refutes O48: the waiting sample enters the stream, window 0 ends and so does the partner's stay entry; the statement has the partner as
it was. -/
theorem not_samplesFiguresAndResults : ¬ Obligations.SamplesFiguresAndResults := by
  intro h
  obtain ⟨-, hsim, -⟩ := h windowEnding 0 5 160 false false 0 0 0 (by decide +kernel) (by decide +kernel)
  obtain ⟨-, hwaits⟩ := hsim (by decide +kernel) (by decide +kernel) (by decide +kernel) (by decide +kernel) (by decide +kernel)
    (by decide +kernel) (by decide +kernel) 1 (by decide) (by decide) (by decide +kernel)
  obtain ⟨t, ht, -, hsame, -⟩ := (hwaits (false, ⟨0, 0, true, true, 0⟩) (by decide +kernel)).2 (.inl (by decide))
  obtain ⟨-, hpartner⟩ := hsame (by decide)
  have hmodel : stayDoneAfter (exec (.sampleReady 0 5 160 false false) windowEnding) = true := by decide +kernel
  rw [ht, stayDoneAfter, hpartner] at hmodel
  exact absurd hmodel (by decide +kernel)

end Sys2Proof.Proofs
end

section
/-! PROOFS. Trace memory (R37, R282, R285): the statement O49 has a scrub read made at once where no ring write waits, but a transfer that
is being retried goes before it. -/

open Sys2Proof Sys2Proof.Machine

-- A kernel evaluation waits for every declaration before it: in turn, the theorems here do not pile up.
set_option Elab.async false

namespace Sys2Proof.Proofs

/-- In RUN, while the MDL controller retries a scrub read. -/
def scrubRetrying : State := { State.reset with
  sys := { State.reset.sys with st := .run, pll := true }
  links := { State.reset.links with mdlHead := some none } }

/-- Whether a scrub read waits after a command. -/
def scrubWaitsAfter : Out → Bool
  | .next t => t.trc.scrubWait.isSome
  | _ => false

/-- Refutes O49: the scrub read waits behind the transfer that is being retried; the statement has it done. -/
theorem not_traceMemoryCommands : ¬ Obligations.TraceMemoryCommands := by
  intro h
  obtain ⟨-, -, -, -, -, -, -, hscrub, -⟩ := h scrubRetrying 0 0 0 [] (by decide +kernel)
  have hdone := congrArg scrubWaitsAfter (hscrub (.inr (by decide +kernel)) (.inr (by decide +kernel)))
  have hmodel : scrubWaitsAfter (exec (.scrubRead []) scrubRetrying) = true := by decide +kernel
  rw [hmodel] at hdone
  exact absurd hdone (by decide +kernel)

end Sys2Proof.Proofs
end

section
/-! PROOFS. Jig instructions (R302, R304): the statement O50 reads the angle 4 TCLK ago from the angle that the wheel holds now, but what
the wheel held in that TCLK stands in the angles gone by. -/

open Sys2Proof Sys2Proof.Machine

-- A kernel evaluation waits for every declaration before it: in turn, the theorems here do not pile up.
set_option Elab.async false

namespace Sys2Proof.Proofs

/-- Engine 0 running at its first instruction, with the angle 5 gone by in the TCLK that a read of the angle takes. -/
def angleGoneBy : State := { State.reset with
  sys := { State.reset.sys with st := .run, pll := true }
  jig := State.reset.jig.set 0 { State.reset.jig[0] with run := true }
  whl := { State.reset.whl with gone := [((((State.reset.jigTick 0).jigFetch 0).1.now - 4), 5)] } }

/-- Register X of engine 0 after a command. -/
def jigX : Out → Option Word
  | .next t => some t.jig[0].x
  | _ => none

/-- Refutes O50: MOV X, ANG takes the angle gone by, 5; the statement has it take 0. -/
theorem not_jigInstructions : ¬ Obligations.JigInstructions := by
  intro h
  obtain ⟨hrun, -⟩ := h angleGoneBy 0 0 0 0 0 6 0 (by decide +kernel)
  obtain ⟨-, -, -, -, hmov, -⟩ := hrun (by decide +kernel) (by decide +kernel)
  have hx := congrArg jigX (hmov (by decide) (by decide))
  have hmodel : jigX (exec (.jigMov 0 48 0 0) angleGoneBy) = some 5 := by decide +kernel
  rw [show BitVec.ofNat 10 ((0 : Fin 8).val + 8 * (6 : Fin 8).val) = 48 from by decide, hmodel] at hx
  exact absurd hx (by decide +kernel)

end Sys2Proof.Proofs
end

section
/-! PROOFS. Timers (R322, R392): the statement O53 has every write of a compare value by the timer's owner take effect, but one of the
host port behind one of the maintenance port in the same TCLK gives way. -/

open Sys2Proof Sys2Proof.Machine

-- A kernel evaluation waits for every declaration before it: in turn, the theorems here do not pile up.
set_option Elab.async false

namespace Sys2Proof.Proofs

/-- In RUN, the maintenance port has written the compare value of timer 0 in this TCLK. -/
def compareTaken : State := ({ State.reset with
  sys := { State.reset.sys with st := .run, pll := true } } : State).hw (wroteKey (Reg.tmrCmpv.addr 0 0)) (portRank mntP)

/-- The compare value of timer 0 after a command. -/
def compareAfter : Out → Option Word
  | .next t => some t.tmr[(0 : Fin 16)].cmpv
  | _ => none

/-- Refutes O53: the compare value of the host gives way to the one that stands, 0; the statement has it written. -/
theorem not_timers : ¬ Obligations.Timers := by
  intro h
  obtain ⟨-, -, -, -, -, -, -, -, -, -, -, hwrite⟩ := h compareTaken 9 0 0 7 0 (by decide +kernel)
  obtain ⟨hcmpv, -⟩ := hwrite (fun _ => by decide +kernel) nofun (by decide +kernel)
  obtain ⟨t, ht, -, htmr, -⟩ := hcmpv (by decide +kernel)
  have hmodel : compareAfter (exec (.timerCmpvWrite 9 0 7) compareTaken) = some 0 := by decide +kernel
  rw [ht, compareAfter, htmr] at hmodel
  exact absurd (show (7 : Word) = 0 from Option.some.inj hmodel) (by decide)

end Sys2Proof.Proofs
end

section
/-! PROOFS. Sealed counters (R336, R415): the statement O54 has the note of a corrected low half wait for its acceptance whatever the
high half holds, but where the source's places are full the messages of an uncorrectable high half displace it. -/

open Sys2Proof Sys2Proof.Machine

-- A kernel evaluation waits for every declaration before it: in turn, the theorems here do not pile up.
set_option Elab.async false

namespace Sys2Proof.Proofs

/-- A class-1 message of sealed counter 0. -/
def sealMessage : Msg := ⟨1, Kind.eccUe, 0x300, 0, 0, 0, false⟩

/-- Three messages of counter 0 wait, and the high half of its count holds two flipped bits. -/
def highHalfBroken : State := { State.reset with
  coll := { State.reset.coll with outbox := [sealMessage, sealMessage, sealMessage] }
  inj := { State.reset.inj with flips := [(sealKey 0 1, 2)] } }

/-- The classes of the messages that wait after a command. -/
def classesAfter : Out → List Nat
  | .next t => t.coll.outbox.map (·.cls)
  | _ => []

/-- Refutes O54: no class-0 note is left after an edge at which the low half is corrected and the high half fails. -/
theorem not_sealedCounters : ¬ Obligations.SealedCounters := by
  intro h
  obtain ⟨-, hedge, -⟩ := h highHalfBroken 0 0 0 0
  obtain ⟨-, ⟨t, ht, -, hnote, -⟩, -⟩ := hedge (by decide +kernel)
  obtain ⟨m, hm, hcls, -⟩ := hnote (by decide +kernel) (by decide +kernel) (by decide +kernel)
  have hmodel : ∀ n ∈ classesAfter (exec (.sealIncrementAdd ⟨BitVec.ofNat 16 (2 ^ (0 : Fin 16).val), 0⟩) highHalfBroken), n = 1 := by
    decide +kernel
  rw [ht] at hmodel
  exact absurd (hcls.symm.trans (hmodel _ (List.mem_map_of_mem hm))) (by decide)

end Sys2Proof.Proofs
end

section
/-! PROOFS. The alert latch (R407): the statement O57 has a write of ASTAT never set the latch, but an event of the same TCLK on a bit that
it clears sets it again. -/

open Sys2Proof Sys2Proof.Machine

-- A kernel evaluation waits for every declaration before it: in turn, the theorems here do not pile up.
set_option Elab.async false

namespace Sys2Proof.Proofs

/-- In RUN, an event of this TCLK has set bit 0 of ASTAT, which is enabled, and the latch has been cleared since. -/
def alertTaken : State := ({ State.reset with
  sys := { State.reset.sys with st := .run, pll := true }
  mnt := { State.reset.mnt with astat := 1, aen := 1, latch := false } } : State).hw astatKey 1

/-- The alert latch after a command. -/
def latchAfter : Out → Option Bool
  | .next t => some t.mnt.latch
  | _ => none

/-- Refutes O57: the latch is set behind the write that clears bit 0; the statement has it stay clear. -/
theorem not_portTransactions : ¬ Obligations.PortTransactions := by
  intro h
  obtain ⟨-, -, -, -, -, -, -, -, -, -, -, -, -, -, -, -, -, -, -, -, -, -, -, -, -, -, -, -, -, -, -, -, -, -, -, hclear, -⟩ :=
    h alertTaken 0 0 0 [] 0 0 false 0 none false [] 1 0 (by decide +kernel)
  have hlatch := congrArg latchAfter hclear
  have hmodel : latchAfter (exec (.astatClear 1) alertTaken) = some true := by decide +kernel
  rw [hmodel] at hlatch
  exact absurd hlatch (by decide +kernel)

end Sys2Proof.Proofs
end

section
/-! PROOFS. Fault injection (R415, R440): the statement O59 has the note of an injected message wait for its acceptance whatever the
message is, but where the message has the note's own source and that source's places are full it displaces the note. -/

open Sys2Proof Sys2Proof.Machine

-- A kernel evaluation waits for every declaration before it: in turn, the theorems here do not pile up.
set_option Elab.async false

namespace Sys2Proof.Proofs

/-- A class-3 message of the source of FI_INJECT. -/
def injectMessage : Msg := ⟨3, Kind.bistFail, 0x26F, 0, 0, 0, false⟩

/-- In RUN with factory test mode open, three messages of the source of FI_INJECT wait and a class-2 message of it is to be injected. -/
def injectsOwnSource : State := ({ State.reset with
  sys := { State.reset.sys with st := .run, pll := true }
  mnt := { State.reset.mnt with testOpen := true }
  coll := { State.reset.coll with outbox := [injectMessage, injectMessage, injectMessage] } } : State).setRg Reg.fiMsgHi 0 0 0x8026F000

/-- Whether a class-0 message waits after a command. -/
def noteWaitsAfter : Out → Bool
  | .next t => t.coll.outbox.any fun m => decide (m.cls = 0)
  | _ => false

/-- Refutes O59: no class-0 note is left after a class-2 message of the note's source is injected. -/
theorem not_bistAndFaultInjection : ¬ Obligations.BistAndFaultInjection := by
  intro h
  obtain ⟨-, -, -, -, -, -, -, -, -, hopen⟩ := h injectsOwnSource 0 0 0 0 false (by decide +kernel)
  obtain ⟨-, -, -, -, -, -, -, -, -, -, -, -, -, -, t, ht, ⟨-, hnote, -⟩, -⟩ := hopen (by decide +kernel) (by decide +kernel)
  obtain ⟨m, hm, hcls, -⟩ := hnote (by decide +kernel)
  have hmodel : noteWaitsAfter (exec (.fiMessage 0) injectsOwnSource) = false := by decide +kernel
  rw [ht, noteWaitsAfter, List.any_eq_false] at hmodel
  exact hmodel m hm (by simp [hcls])

end Sys2Proof.Proofs
end

section
/-! SUPPORT. The running shot of a channel: what a turn of its switch sets, and what the driver die's other parts keep (R219, R221). -/

namespace Sys2Proof.Machine

/-- Nothing of the driver die but channel c and the banks changes, nothing of the edge generator, the works and the memory. -/
def State.OneChannel (s : State) (c : Fin 32) (t : State) : Prop :=
  (∀ e : Fin 32, e ≠ c → t.drv.ch[e] = s.drv.ch[e]) ∧ t.drv.ign = s.drv.ign ∧ t.drv.bst = s.drv.bst
    ∧ t.edg = s.edg ∧ t.work = s.work ∧ t.mem = s.mem

section
variable (s : State) (c : Fin 32)

theorem State.OneChannel.trans {s t u : State} {c : Fin 32} (h : s.OneChannel c t) (h' : t.OneChannel c u) : s.OneChannel c u :=
  let ⟨hch, hign, hbst, hedg, hwork, hmem⟩ := h
  let ⟨hch', hign', hbst', hedg', hwork', hmem'⟩ := h'
  ⟨fun e he => (hch' e he).trans (hch e he), hign'.trans hign, hbst'.trans hbst, hedg'.trans hedg, hwork'.trans hwork, hmem'.trans hmem⟩

theorem State.setCh_ch_self (f : DrvCh → DrvCh) : (s.setCh c f).drv.ch[c] = f s.drv.ch[c] := by
  simp [State.setCh, upd]

theorem State.setCh_ch_ne (f : DrvCh → DrvCh) {e : Fin 32} (h : e ≠ c) : (s.setCh c f).drv.ch[e] = s.drv.ch[e] := by
  have hv : c.val ≠ e.val := fun hv => h (Fin.ext hv.symm)
  simp [State.setCh, upd, hv]

theorem State.oneChannel_setCh (f : DrvCh → DrvCh) : s.OneChannel c (s.setCh c f) :=
  ⟨fun _ he => s.setCh_ch_ne c f he, rfl, rfl, rfl, rfl, rfl⟩

theorem State.oneChannel_releaseLead : s.OneChannel c (s.releaseLead c) := by
  unfold State.releaseLead
  dsimp only
  split
  · exact ⟨fun _ _ => rfl, rfl, rfl, rfl, rfl, rfl⟩
  · exact ⟨fun _ _ => rfl, rfl, rfl, rfl, rfl, rfl⟩

/-- A state with the same driver die, edge generator, works and memory. -/
theorem State.oneChannel_of_eq {s t : State} (hdrv : t.drv = s.drv) (hedg : t.edg = s.edg) (hwork : t.work = s.work) (hmem : t.mem = s.mem) :
    s.OneChannel c t := ⟨fun _ _ => by rw [hdrv], by rw [hdrv], by rw [hdrv], hedg, hwork, hmem⟩

theorem State.oneChannel_advanceTo (n : Nat) : s.OneChannel c (s.advanceTo n) :=
  State.oneChannel_of_eq c (by simp) (by simp) (by simp) (by simp)

end

theorem State.awake_clocked {s : State} (hc : s.clocked = true) (f : State → State) : s.awake f = f s := if_pos hc

/-! ### Messages of a channel (R245) -/

section
variable (s : State) (cls kind src ctx : Nat)

theorem State.emit_drv : (s.emit cls kind src ctx).drv = s.drv := by rw [State.emit_frame]
theorem State.emit_edg : (s.emit cls kind src ctx).edg = s.edg := by rw [State.emit_frame]
theorem State.emit_memory : (s.emit cls kind src ctx).mem = s.mem := by rw [State.emit_frame]
theorem State.emit_now : (s.emit cls kind src ctx).now = s.now := by rw [State.emit_frame]

end

/-- SOURCE of a channel's messages. -/
theorem srcD_channel (c : Fin 32) : srcD (c.val / 4) (c.val % 4) = 0x400 + c.val / 4 * 16 + c.val % 4 := by
  unfold srcD
  omega

/-! ### The regulating switch (R221) -/

/-- The shot in phase p with its switch on or off from now on. -/
def State.turned (s : State) (h : Shot) (p : Phase) (on : Bool) : Shot :=
  { h with phase := p, swOn := on, blank := s.dclk + h.set.tblank, minEnd := s.dclk + h.set.tchopmin, deferred := none }

/-- What a turn sets goes by the time alone. -/
theorem State.turned_congr {s t : State} (hn : t.now = s.now) (h : Shot) (p : Phase) (on : Bool) : t.turned h p on = s.turned h p on := by
  rw [State.turned, State.turned, State.dclk, State.dclk, hn]

section
variable {s : State} {c : Fin 32} {h : Shot} (hs : s.drv.ch[c].shot = some h)
include hs

theorem State.setShot_running (f : Shot → Shot) : s.setShot c f = s.setCh c fun d => { d with shot := some (f h) } := by
  rw [Fin.getElem_fin] at hs
  simp [State.setShot, State.setCh, upd, hs]

theorem State.switchTo_running (on : Bool) : s.switchTo c on = s.setCh c fun d => { d with shot := some (s.turned h h.phase on) } :=
  State.setShot_running hs _

theorem State.enterPhase (p : Phase) (on : Bool) : (s.setShot c fun x => { x with phase := p }).switchTo c on
    = s.setCh c fun d => { d with shot := some (s.turned h p on) } := by
  have hs' : (s.setShot c fun x => { x with phase := p }).drv.ch[c].shot = some { h with phase := p } := by
    rw [State.setShot_running hs, State.setCh_ch_self]
  rw [State.switchTo_running hs', State.setShot_running hs]
  simp only [State.setCh, upd, Vector.getElem_set_self, Vector.set_set]
  rfl

end

/-- BYPASS begins: the switch is off and the lead is free, unless a granted restart waits for its rail (R219, R231). -/
def State.bypassed (s : State) (c : Fin 32) (h : Shot) : State :=
  let t := s.setCh c fun d => { d with shot := some { h with phase := .bypass, peakEnd := s.dclk, swOn := false, deferred := none } }
  if t.railWait c then t else t.releaseLead c

section
variable (s : State) (c : Fin 32) (h : Shot)

theorem State.releaseLead_ch (e : Fin 32) : (s.releaseLead c).drv.ch[e] = s.drv.ch[e] := by
  unfold State.releaseLead
  dsimp only
  split
  · rfl
  · rfl

theorem State.releaseLead_free (hl : s.drv.bank[bankOf c].lead = some (chIn c)) :
    (s.releaseLead c).drv.bank[bankOf c].lead = none ∧ (s.releaseLead c).drv.bank[bankOf c].released = some s.dclk := by
  rw [State.releaseLead, if_pos hl]
  simp [State.setBank, upd]

theorem State.releaseLead_now : (s.releaseLead c).now = s.now := by
  unfold State.releaseLead
  dsimp only
  split
  · rfl
  · rfl

theorem State.bypassed_now : (s.bypassed c h).now = s.now := by
  unfold State.bypassed
  dsimp only
  split
  · rfl
  · rw [State.releaseLead_now, State.setCh_now]

theorem State.bypassed_ch : (s.bypassed c h).drv.ch[c]
    = { s.drv.ch[c] with shot := some { h with phase := .bypass, peakEnd := s.dclk, swOn := false, deferred := none } } := by
  unfold State.bypassed
  dsimp only
  split
  · rw [State.setCh_ch_self]
  · rw [State.releaseLead_ch, State.setCh_ch_self]

theorem State.oneChannel_bypassed : s.OneChannel c (s.bypassed c h) := by
  unfold State.bypassed
  dsimp only
  split
  · exact s.oneChannel_setCh c _
  · exact (s.oneChannel_setCh c _).trans (State.oneChannel_releaseLead _ c)

theorem State.bypassed_bank (hw : s.railWait c = false) (hl : s.drv.bank[bankOf c].lead = some (chIn c)) :
    (s.bypassed c h).drv.bank[bankOf c].lead = none ∧ (s.bypassed c h).drv.bank[bankOf c].released = some s.dclk := by
  have hrun : s.bypassed c h = (s.setCh c fun d => { d with
      shot := some { h with phase := .bypass, peakEnd := s.dclk, swOn := false, deferred := none } }).releaseLead c :=
    if_neg (by rw [State.railWait] at hw ⊢; exact Bool.eq_false_iff.1 hw)
  rw [hrun]
  exact State.releaseLead_free _ c hl

end

end Sys2Proof.Machine
end

section
/-! PROOFS. The phases of a shot (R219, R221, R223). -/

open Sys2Proof Sys2Proof.Machine

namespace Sys2Proof.Proofs

/-- The channel of a command that leaves the shot x on it, at TCLK n at the earliest. -/
theorem shot_settle (s : State) (c : Fin 32) (n : Nat) (x : Shot) {t : State}
    (ht : t = ((s.advanceTo n).setCh c fun d => { d with shot := some x }).settle) :
    t.drv.ch[c] = { s.drv.ch[c] with shot := some x } ∧ s.OneChannel c t ∧ t.drv.bank = s.drv.bank ∧ n ≤ t.now := by
  subst ht
  refine ⟨?_, (s.oneChannel_advanceTo c n).trans ((s.advanceTo n).oneChannel_setCh c _), ?_, ?_⟩
  · exact ((s.advanceTo n).setCh_ch_self c _).trans (by rw [State.advanceTo_drv])
  · exact congrArg (·.bank) (s.advanceTo_drv n)
  · exact (Nat.le_max_right ..).trans_eq (s.advanceTo_now n).symm

/-- A diagnostic bit and a message of the channel leave the driver die's parts as they are, and the message waits. -/
theorem report_settle (s : State) (c : Fin 32) (n b cls kind q o k : Nat) (x : Shot) {t : State}
    (ht : t = ((((s.advanceTo n).setCh c fun d => { d with shot := some x }).setBit Reg.chDiag c b).chMsg cls kind c q o k).settle) :
    t.drv.ch[c] = { s.drv.ch[c] with shot := some x } ∧ s.OneChannel c t ∧ t.drv.bank = s.drv.bank ∧ t.now = max s.now n
      ∧ s.Emits t cls kind (0x400 + c.val / 4 * 16 + c.val % 4) (c.val + q % 4096 * 32 + o % 4096 * 2 ^ 17 + k * 2 ^ 29) := by
  obtain ⟨hch, hone, hbank, -⟩ := shot_settle s c n x rfl
  have hdrv : t.drv = ((s.advanceTo n).setCh c fun d => { d with shot := some x }).settle.drv := by
    rw [ht, State.settle_drv, State.chMsg, State.emit_drv, State.setBit_drv, State.settle_drv]
  have hedg : t.edg = s.edg := by rw [ht, State.settle_edg, State.chMsg, State.emit_edg]; simp
  have hwork : t.work = s.work := by rw [ht, State.settle_work, State.chMsg, State.emit_work]; simp
  have hmem : t.mem = s.mem := by rw [ht, State.settle_mem, State.chMsg, State.emit_memory]; simp
  have hnow : t.now = max s.now n := by rw [ht, State.settle_now, State.chMsg, State.emit_now]; simp
  obtain ⟨hoth, hign, hbst, -⟩ := hone
  refine ⟨by rw [hdrv, hch], ⟨fun e he => by rw [hdrv, hoth e he], by rw [hdrv, hign], by rw [hdrv, hbst], hedg, hwork, hmem⟩,
    by rw [hdrv, hbank], hnow, ?_⟩
  rw [← srcD_channel]
  refine State.emits_emit (u := ((s.advanceTo n).setCh c fun d => { d with shot := some x }).setBit Reg.chDiag c b) (by simp) (by simp) ?_
    (Nat.le_of_eq ?_)
  · rw [ht]
    exact List.Subset.refl _
  · rw [hnow]
    simp

section
variable {s : State} {c : Fin 32} {h : Shot} (hc : s.clocked = true) (hs : s.drv.ch[c].shot = some h)

include hs

theorem phase_running : s.phase c = some h.phase := by rw [State.phase, hs, Option.map_some]

theorem advanced_running (n : Nat) : (s.advanceTo n).drv.ch[c].shot = some h := by rw [State.advanceTo_drv, hs]

/-- TBOOST ends BOOST in PEAK, with a note of the current that it finds. -/
theorem tboostExpire_running (hp : h.phase = .boost) (cur : Nat) : s.tboostExpire c cur
    = (((s.advanceTo (4 * (h.start + h.set.tboost))).setCh c fun d => { d with
        shot := some ((s.advanceTo (4 * (h.start + h.set.tboost))).turned h .peak (decide (cur < h.set.ipeak))) }).setBit Reg.chDiag c
          (if 8 * cur < h.set.iboost then 1 else 2)).chMsg 1 (if 8 * cur < h.set.iboost then 8 else 9) c h.seq h.owner 0 := by
  unfold State.tboostExpire
  rw [hs]
  dsimp only
  rw [if_neg (not_not_intro hp), State.enterPhase (advanced_running hs _)]
  split
  · rfl
  · rfl

include hc

theorem iboostReached_peak (hp : h.phase = .boost) : ∃ t, exec (.iboostReached c) s = .next t
    ∧ t.drv.ch[c] = { s.drv.ch[c] with shot := some (t.turned h .peak false) } ∧ s.OneChannel c t ∧ t.drv.bank = s.drv.bank
    ∧ t.now = s.now := by
  refine ⟨_, rfl, ?_⟩
  rw [State.awake, if_pos hc, State.iboostReached, if_pos ((phase_running hs).trans (congrArg some hp)), State.enterPhase hs]
  obtain ⟨hch, hone, hbank, -⟩ := shot_settle s c 0 (s.turned h .peak false) rfl
  exact ⟨hch, hone, hbank, rfl⟩

theorem tboostExpire_peak (hp : h.phase = .boost) (cur : Nat) : ∃ t, exec (.tboostExpire c cur) s = .next t
    ∧ t.drv.ch[c] = { s.drv.ch[c] with shot := some (t.turned h .peak (decide (cur < h.set.ipeak))) } ∧ s.OneChannel c t
    ∧ t.drv.bank = s.drv.bank ∧ 4 * (h.start + h.set.tboost) ≤ t.now
    ∧ s.Emits t 1 (if 8 * cur < h.set.iboost then 8 else 9) (0x400 + c.val / 4 * 16 + c.val % 4)
      (c.val + h.seq % 4096 * 32 + h.owner % 4096 * 2 ^ 17) := by
  have hexec : exec (.tboostExpire c cur) s = finish (s.tboostExpire c cur) :=
    congrArg finish (State.awake_clocked hc fun t => t.tboostExpire c cur)
  generalize ht : (s.tboostExpire c cur).settle = t
  have hsettle := ht.symm.trans (congrArg State.settle (tboostExpire_running hs hp cur))
  obtain ⟨hch, hone, hbank, hnow, hemits⟩ := report_settle s c (4 * (h.start + h.set.tboost))
    (if 8 * cur < h.set.iboost then 1 else 2) 1 (if 8 * cur < h.set.iboost then 8 else 9) h.seq h.owner 0
    ((s.advanceTo (4 * (h.start + h.set.tboost))).turned h .peak (decide (cur < h.set.ipeak))) hsettle
  rw [Nat.zero_mul, Nat.add_zero] at hemits
  have hturn := State.turned_congr (hnow.trans (s.advanceTo_now _).symm) h .peak (decide (cur < h.set.ipeak))
  exact ⟨t, by rw [hexec, ← ht]; rfl, by rw [hch, hturn], hone, hbank, (Nat.le_max_right ..).trans_eq hnow.symm, hemits⟩

end

/-- A turn of the switch in phase p, at TCLK n at the earliest. -/
theorem turn_settle (s : State) (c : Fin 32) (h : Shot) (n : Nat) (p : Phase) (on : Bool) {t : State}
    (ht : t = ((s.advanceTo n).setCh c fun d => { d with shot := some ((s.advanceTo n).turned h p on) }).settle) :
    t.drv.ch[c] = { s.drv.ch[c] with shot := some (t.turned h p on) } ∧ s.OneChannel c t ∧ t.drv.bank = s.drv.bank ∧ n ≤ t.now := by
  obtain ⟨hch, hone, hbank, hnow⟩ := shot_settle s c n _ ht
  have hturn := State.turned_congr (s := s.advanceTo n) (t := t) (by rw [ht, State.settle_now, State.setCh_now]) h p on
  exact ⟨by rw [hch, hturn], hone, hbank, hnow⟩

section
variable {s : State} {c : Fin 32} {h : Shot} (hc : s.clocked = true) (hs : s.drv.ch[c].shot = some h)
include hc hs

theorem tpeakExpire_bypass (hp : h.phase = .peak) : ∃ t, exec (.tpeakExpire c) s = .next t ∧ s.OneChannel c t
    ∧ 4 * (h.start + h.set.tpeak) ≤ t.now
    ∧ t.drv.ch[c] = { s.drv.ch[c] with shot := some { h with phase := .bypass, peakEnd := t.dclk, swOn := false, deferred := none } }
    ∧ (s.railWait c = false → s.drv.bank[bankOf c].lead = some (chIn c) → t.drv.bank[bankOf c].lead = none
      ∧ t.drv.bank[bankOf c].released = some t.dclk) := by
  have hexec : exec (.tpeakExpire c) s = finish (s.tpeakExpire c) :=
    congrArg finish (State.awake_clocked hc fun t => t.tpeakExpire c)
  have hrun : s.tpeakExpire c = (s.advanceTo (4 * (h.start + h.set.tpeak))).bypassed c h := by
    unfold State.tpeakExpire
    rw [hs]
    dsimp only
    rw [if_neg (not_not_intro hp), State.setShot_running (advanced_running hs _)]
    rfl
  rw [hrun] at hexec
  refine ⟨_, hexec, (s.oneChannel_advanceTo c _).trans (State.oneChannel_bypassed _ c h), ?_, ?_, fun hw hl => ?_⟩
  · rw [State.settle_now, State.bypassed_now, State.advanceTo_now]
    exact Nat.le_max_right ..
  · rw [State.settle_drv, State.bypassed_ch, State.advanceTo_drv, State.dclk, State.dclk, State.settle_now, State.bypassed_now]
  · rw [State.settle_drv]
    obtain ⟨hlead, hrel⟩ := State.bypassed_bank (s.advanceTo (4 * (h.start + h.set.tpeak))) c h
      (by rw [State.railWait, State.advanceTo_drv]; exact hw) (by rw [State.advanceTo_drv]; exact hl)
    exact ⟨hlead, by rw [hrel, State.dclk, State.dclk, State.settle_now, State.bypassed_now]⟩

omit hc in
/-- HOLD begins at TCLK n at the earliest. -/
theorem toHold_settle (n : Nat) {t : State} (ht : t = ((s.advanceTo n).toHold c).settle) :
    t.drv.ch[c] = { s.drv.ch[c] with shot := some (t.turned h .hold false) } ∧ s.OneChannel c t ∧ t.drv.bank = s.drv.bank ∧ n ≤ t.now :=
  turn_settle s c h n .hold false (by rw [ht, State.toHold, State.enterPhase (advanced_running hs n)])

theorem iholdReached_hold (hp : h.phase = .bypass) : ∃ t, exec (.iholdReached c) s = .next t
    ∧ t.drv.ch[c] = { s.drv.ch[c] with shot := some (t.turned h .hold false) } ∧ s.OneChannel c t ∧ t.drv.bank = s.drv.bank := by
  have hexec : exec (.iholdReached c) s = finish (s.iholdReached c) :=
    congrArg finish (State.awake_clocked hc fun t => t.iholdReached c)
  rw [State.iholdReached, if_pos ((phase_running hs).trans (congrArg some hp))] at hexec
  obtain ⟨hch, hone, hbank, -⟩ := toHold_settle hs 0 rfl
  exact ⟨_, hexec, hch, hone, hbank⟩

theorem tbypExpire_hold (hp : h.phase = .bypass) : ∃ t, exec (.tbypExpire c) s = .next t
    ∧ t.drv.ch[c] = { s.drv.ch[c] with shot := some (t.turned h .hold false) } ∧ s.OneChannel c t ∧ t.drv.bank = s.drv.bank
    ∧ 4 * (h.peakEnd + h.set.tbyp) ≤ t.now := by
  have hexec : exec (.tbypExpire c) s = finish (s.tbypExpire c) :=
    congrArg finish (State.awake_clocked hc fun t => t.tbypExpire c)
  have hrun : s.tbypExpire c = (s.advanceTo (4 * (h.peakEnd + h.set.tbyp))).toHold c := by
    unfold State.tbypExpire
    rw [hs]
    exact if_neg (not_not_intro hp)
  rw [hrun] at hexec
  exact ⟨_, hexec, toHold_settle hs _ rfl⟩

section
variable (hp : h.phase = .peak ∨ h.phase = .hold) (up : Bool)
include hp

omit hc in
/-- The comparator in PEAK and HOLD. -/
theorem chop_running : s.chop c up = if s.dclk < h.blank ∨ h.swOn = !up then s
    else if s.dclk < h.minEnd then s.setShot c fun x => { x with deferred := some (!up) } else s.switchTo c (!up) := by
  unfold State.chop
  rw [hs]
  dsimp only
  have hphase : ¬(h.phase ≠ .peak ∧ h.phase ≠ .hold) := fun hn => hp.elim hn.1 hn.2
  simp only [hphase, false_or]

omit hs hp in
theorem exec_chop : exec (.chopComparator c up) s = finish (s.chop c up) := congrArg finish (State.awake_clocked hc fun t => t.chop c up)

theorem chop_turns (hb : h.blank ≤ s.dclk) (hm : h.minEnd ≤ s.dclk) (hon : h.swOn = up) : ∃ t, exec (.chopComparator c up) s = .next t
    ∧ t.drv.ch[c] = { s.drv.ch[c] with shot := some (t.turned h h.phase (!up)) } ∧ s.OneChannel c t ∧ t.now = s.now := by
  have hignored : ¬(s.dclk < h.blank ∨ h.swOn = !up) := by simp [hon, hb]
  have hexec := exec_chop (c := c) hc up
  rw [chop_running hs hp, if_neg hignored, if_neg (Nat.not_lt.2 hm), State.switchTo_running hs] at hexec
  obtain ⟨hch, hone, -⟩ := turn_settle s c h 0 h.phase (!up) rfl
  exact ⟨_, hexec, hch, hone, rfl⟩

theorem chop_defers (hb : h.blank ≤ s.dclk) (hm : s.dclk < h.minEnd) (hon : h.swOn = up) : ∃ t, exec (.chopComparator c up) s = .next t
    ∧ s.OneChannel c t ∧ t.drv.ch[c] = { s.drv.ch[c] with shot := some { h with deferred := some (!up) } } := by
  have hignored : ¬(s.dclk < h.blank ∨ h.swOn = !up) := by simp [hon, hb]
  have hexec := exec_chop (c := c) hc up
  rw [chop_running hs hp, if_neg hignored, if_pos hm, State.setShot_running hs] at hexec
  obtain ⟨hch, hone, -⟩ := shot_settle s c 0 { h with deferred := some (!up) } rfl
  exact ⟨_, hexec, hone, hch⟩

theorem chop_ignored (hi : s.dclk < h.blank ∨ h.swOn = !up) : exec (.chopComparator c up) s = .next s.settle := by
  rw [exec_chop hc, chop_running hs hp, if_pos hi]
  rfl

theorem tchopminExpire_turns {v : Bool} (hv : h.deferred = some v) : ∃ t, exec (.tchopminExpire c) s = .next t
    ∧ t.drv.ch[c] = { s.drv.ch[c] with shot := some (t.turned h h.phase v) } ∧ s.OneChannel c t ∧ 4 * h.minEnd ≤ t.now := by
  have hexec : exec (.tchopminExpire c) s = finish (s.tchopminExpire c) :=
    congrArg finish (State.awake_clocked hc fun t => t.tchopminExpire c)
  have hrun : s.tchopminExpire c = (s.advanceTo (4 * h.minEnd)).switchTo c v := by
    unfold State.tchopminExpire
    rw [hs]
    dsimp only
    rw [hv]
    exact if_neg fun hn => hp.elim hn.1 hn.2
  rw [hrun, State.switchTo_running (advanced_running hs _)] at hexec
  obtain ⟨hch, hone, -, hnow⟩ := turn_settle s c h (4 * h.minEnd) h.phase v rfl
  exact ⟨_, hexec, hch, hone, hnow⟩

end

end

/-- Settles O43: each phase by its own end, with what a turn of the switch sets. -/
theorem shotPhases : Obligations.ShotPhases := by
  intro s c h cur up v hc hs
  refine ⟨fun hp => ⟨iboostReached_peak hc hs hp, tboostExpire_peak hc hs hp cur⟩, tpeakExpire_bypass hc hs,
    fun hp => ⟨iholdReached_hold hc hs hp, tbypExpire_hold hc hs hp⟩, fun hp => ⟨?_, ?_, ?_, ?_⟩⟩
  · exact chop_turns hc hs hp up
  · exact chop_defers hc hs hp up
  · exact chop_ignored hc hs hp up
  · exact tchopminExpire_turns hc hs hp

end Sys2Proof.Proofs
end

section
/-! PROOFS. The boost rails, the on-time buckets and the capture converter (R229, R230, R236, R238, R239). -/

open Sys2Proof Sys2Proof.Machine

namespace Sys2Proof.Proofs

/-- Values outside a range act as its nearer end. -/
theorem nearer_eq_max_min {lo hi : Nat} (h : lo ≤ hi) (v : Nat) : nearer lo hi v = max lo (min hi v) := by
  unfold nearer
  split
  · omega
  · split
    · omega
    · omega

section
variable (s : State) (k : Fin 2)

theorem vset_eq : s.vset k = max 48 (min 144 (s.rf Reg.bstCfg k.val 8 1)) := nearer_eq_max_min (by decide) _
theorem vovp_eq : s.vovp k = max 2 (min 40 (s.rf Reg.bstCfg k.val 24 17)) := nearer_eq_max_min (by decide) _
theorem toffOf_eq : s.toffOf k = max 8 (min 255 (s.rf Reg.bstCtl k.val 17 10)) := nearer_eq_max_min (by decide) _

/-- A rail has passed its overvoltage threshold, or has not yet fallen to its set value after it. -/
def ovpAt (v : Nat) : Bool :=
  if s.drv.bst[k].ovp then decide (5 * s.vset k ≤ v) else decide (5 * (s.vset k + s.vovp k) ≤ v)

/-- The controller as a measurement of v leaves it. -/
def measured (v : Nat) : Boost :=
  { s.drv.bst[k] with
    vrail := v % 1024, rdy := decide (s.vready k * 5 * s.vset k ≤ 256 * v), ovp := ovpAt s k v
    on := (s.rb Reg.bstCfg k.val 0 && !s.drvOff) && !ovpAt s k v && decide (v < 5 * s.vset k) && s.drv.bst[k].toff.isNone }

theorem railMeasure_eq (hc : s.clocked = true) (v : Nat) : s.railMeasure k v
    = (let t := s.setBst k fun _ => measured s k v
      if ovpAt s k v && !s.drv.bst[k].ovp then t.emit 1 0xD (0x4B0 + k.val) 0 else t) := by
  have hmay (a b c d : Bool) : (a && !c && !b && d) = (a && !b && !c && d) := by cases b <;> simp
  have hsrc : srcD 0xB k.val = 0x4B0 + k.val := by unfold srcD; omega
  have hset : ((s.setBst k fun y => { y with
        vrail := v % 1024, rdy := decide (s.vready k * 5 * s.vset k ≤ 256 * v), ovp := ovpAt s k v }).setBst k fun y => { y with
        on := (s.setBst k fun y => { y with
          vrail := v % 1024, rdy := decide (s.vready k * 5 * s.vset k ≤ 256 * v), ovp := ovpAt s k v }).bstMay k
          && decide (v < 5 * s.vset k) && y.toff.isNone }) = s.setBst k fun _ => measured s k v := by
    simp only [State.bstMay, State.setBst, upd, Vector.getElem_set_self, Vector.set_set, Fin.getElem_fin, measured]
    rw [← hmay]
    rfl
  unfold State.railMeasure
  rw [if_neg (by simp [hc]), ← hsrc]
  dsimp only
  rw [← hset]
  rfl

theorem setBst_bst_self (f : Boost → Boost) : (s.setBst k f).drv.bst[k] = f s.drv.bst[k] := by simp [State.setBst, upd]

theorem setBst_bst_ne (f : Boost → Boost) {j : Fin 2} (h : j ≠ k) : (s.setBst k f).drv.bst[j] = s.drv.bst[j] := by
  have hv : k.val ≠ j.val := fun hv => h (Fin.ext hv.symm)
  simp [State.setBst, upd, hv]

theorem boostRailMeasure_rail (hc : s.clocked = true) (v : Nat) : ∃ t, exec (.boostRailMeasure k v) s = .next t
    ∧ t.drv.bst[k] = measured s k v
    ∧ (ovpAt s k v = true → s.drv.bst[k].ovp = false → s.Emits t 1 0xD (0x4B0 + k.val) 0) ∧ (ovpAt s k v = false → t.coll = s.coll)
    ∧ t.drv.ch = s.drv.ch ∧ t.drv.bank = s.drv.bank ∧ (∀ j : Fin 2, j ≠ k → t.drv.bst[j] = s.drv.bst[j]) := by
  have hexec : exec (.boostRailMeasure k v) s = finish (s.railMeasure k v) :=
    congrArg finish (State.awake_clocked hc fun t => t.railMeasure k v)
  have hdrv : (s.railMeasure k v).drv = (s.setBst k fun _ => measured s k v).drv := by
    rw [railMeasure_eq s k hc]
    dsimp only
    split
    · rw [State.emit_drv]
    · rfl
  refine ⟨_, hexec, ?_, fun ho hx => ?_, fun ho => ?_, ?_, ?_, fun j hj => ?_⟩
  · rw [State.settle_drv, hdrv, setBst_bst_self]
  · rw [railMeasure_eq s k hc]
    dsimp only
    rw [if_pos (by rw [ho, hx]; rfl)]
    exact State.emits_emit (u := s.setBst k fun _ => measured s k v) rfl (Nat.le_refl _) (List.Subset.refl _) (Nat.le_of_eq (by rw [State.settle_now, State.emit_now]))
  · rw [State.settle_coll, railMeasure_eq s k hc]
    dsimp only
    rw [if_neg (by simp [ho])]
    rfl
  · rw [State.settle_drv, hdrv]
    rfl
  · rw [State.settle_drv, hdrv]
    rfl
  · rw [State.settle_drv, hdrv, setBst_bst_ne s k _ hj]

/-- Where an update of a controller's record and a settling differ from the state before. -/
theorem settle_setBst (f : Boost → Boost) : (s.setBst k f).settle
    = { s with drv := { s.drv with bst := (s.setBst k f).settle.drv.bst }, pins := (s.setBst k f).settle.pins } := rfl

theorem boostIlimReached_rests (hc : s.clocked = true) (hon : s.drv.bst[k].on = true) : ∃ t, exec (.boostIlimReached k) s = .next t
    ∧ t.drv.bst[k] = { s.drv.bst[k] with on := false, toff := some (s.dclk + max 8 (min 255 (s.rf Reg.bstCtl k.val 17 10))) }
    ∧ t.pins.bst.getLsbD k.val = false ∧ t = { s with drv := { s.drv with bst := t.drv.bst }, pins := t.pins } := by
  have hexec : exec (.boostIlimReached k) s = finish (s.ilimReached k) :=
    congrArg finish (State.awake_clocked hc fun t => t.ilimReached k)
  rw [State.ilimReached, if_pos hon] at hexec
  rw [← toffOf_eq]
  refine ⟨_, hexec, setBst_bst_self s k _, (bitsOf_getLsbD (State.bstOn _) k).trans ?_, settle_setBst s k _⟩
  rw [State.bstOn, setBst_bst_self]
  exact Bool.and_false _

theorem boostIlimReached_off (hc : s.clocked = true) (hon : s.drv.bst[k].on = false) : exec (.boostIlimReached k) s = .next s.settle := by
  have hexec : exec (.boostIlimReached k) s = finish (s.ilimReached k) :=
    congrArg finish (State.awake_clocked hc fun t => t.ilimReached k)
  rw [State.ilimReached, if_neg (Bool.eq_false_iff.1 hon)] at hexec
  exact hexec

theorem boostToffExpire_resumes (hc : s.clocked = true) {z : Nat} (hz : s.drv.bst[k].toff = some z) :
    ∃ t, exec (.boostToffExpire k) s = .next t
      ∧ t.drv.bst[k] = { s.drv.bst[k] with
          toff := none
          on := (s.rb Reg.bstCfg k.val 0 && !s.drvOff) && !s.drv.bst[k].ovp
            && decide (s.drv.bst[k].vrail < 5 * max 48 (min 144 (s.rf Reg.bstCfg k.val 8 1))) }
      ∧ t = { s.advanceTo (4 * z) with drv := { s.drv with bst := t.drv.bst }, pins := t.pins } := by
  have hexec : exec (.boostToffExpire k) s = finish (s.toffExpire k) :=
    congrArg finish (State.awake_clocked hc fun t => t.toffExpire k)
  unfold State.toffExpire at hexec
  rw [hz] at hexec
  refine ⟨_, hexec, ?_, (settle_setBst _ k _).trans ?_⟩
  · rw [State.settle_drv, setBst_bst_self, ← vset_eq]
    have hoff : (s.advanceTo (4 * z)).drvOff = s.drvOff := by simp [State.drvOff, State.clocked]
    have hrg : (s.advanceTo (4 * z)).rg Reg.bstCfg k.val = s.rg Reg.bstCfg k.val :=
      State.advanceTo_rg s _ _ _ _ ((by decide : ∀ k : Fin 2, alwaysOnSys (Reg.bstCfg.addr k.val 0) = false) k)
    have hrb : (s.advanceTo (4 * z)).rb Reg.bstCfg k.val 0 = s.rb Reg.bstCfg k.val 0 := by rw [State.rb, State.rb, hrg]
    have hvset : (s.advanceTo (4 * z)).vset k = s.vset k := by
      rw [State.vset, State.vset, State.rf, State.rf, hrg]
    have horder (a b c d : Bool) : (a && !b && !c && d) = (a && !c && !b && d) := by rw [Bool.and_right_comm a]
    rw [State.bstMay, hoff, hrb, hvset, State.advanceTo_drv, horder]
  · rw [State.advanceTo_drv]

theorem boostToffExpire_none (hc : s.clocked = true) (hz : s.drv.bst[k].toff = none) : exec (.boostToffExpire k) s = .next s.settle := by
  have hexec : exec (.boostToffExpire k) s = finish (s.toffExpire k) :=
    congrArg finish (State.awake_clocked hc fun t => t.toffExpire k)
  unfold State.toffExpire at hexec
  rw [hz] at hexec
  exact hexec

end

section
variable (s : State) (c : Fin 32)

theorem setCh_setCh (f g : DrvCh → DrvCh) : (s.setCh c f).setCh c g = s.setCh c (g ∘ f) := by
  simp only [State.setCh, upd, Vector.getElem_set_self, Vector.set_set]
  rfl

/-- The on-time account is an update of its channel's record, which keeps the closed buckets. -/
theorem account_parts : ∃ f : DrvCh → DrvCh, s.account c = s.setCh c f ∧ ∀ d, (f d).buckets = d.buckets := by
  have hnone : s = s.setCh c id := by simp [State.setCh, upd]
  unfold State.account
  cases s.drv.ch[c].shot with
  | none => exact ⟨id, hnone, fun _ => rfl⟩
  | some h =>
    dsimp only
    split
    · exact ⟨id, hnone, fun _ => rfl⟩
    · exact ⟨_, setCh_setCh .., fun _ => rfl⟩

theorem dutyBucketClose_closes (hc : s.clocked = true) (end_ : Nat)
    (hend : end_ = s.drv.ch[c].bucketAt + max 1 (s.rf Reg.chDuty c.val 23 16) * 15625) : ∃ t, exec (.dutyBucketClose c) s = .next t
      ∧ t.now = max s.now end_ ∧ t.drv.ch[c].open_ = 0 ∧ t.drv.ch[c].bucketAt = end_
      ∧ t.drv.ch[c].buckets = (((s.advanceTo end_).account c).drv.ch[c].open_ :: s.drv.ch[c].buckets).take 15
      ∧ t = { s.advanceTo end_ with drv := { s.drv with ch := t.drv.ch }, pins := t.pins } ∧ ∀ e : Fin 32, e ≠ c → t.drv.ch[e] = s.drv.ch[e] := by
  have hexec : exec (.dutyBucketClose c) s = finish (s.bucketClose c) :=
    congrArg finish (State.awake_clocked hc fun t => t.bucketClose c)
  obtain ⟨f, hf, hbuckets⟩ := account_parts (s.advanceTo end_) c
  have hrun : s.bucketClose c = (s.advanceTo end_).setCh c
      ((fun d => { d with buckets := (d.open_ :: d.buckets).take 15, open_ := 0, bucketAt := end_ }) ∘ f) := by
    rw [← setCh_setCh, ← hf, hend]
    rfl
  rw [hrun] at hexec
  have hch := State.setCh_ch_self (s.advanceTo end_) c ((fun d : DrvCh =>
    { d with buckets := (d.open_ :: d.buckets).take 15, open_ := 0, bucketAt := end_ }) ∘ f)
  rw [hf, State.setCh_ch_self]
  refine ⟨_, hexec, ?_, ?_, ?_, ?_, ?_, fun e he => ?_⟩
  · rw [State.settle_now, State.setCh_now, State.advanceTo_now]
  · rw [State.settle_drv, hch]
    rfl
  · rw [State.settle_drv, hch]
    rfl
  · rw [State.settle_drv, hch, Function.comp_apply, hbuckets, State.advanceTo_drv]
  · rw [← State.advanceTo_drv s end_]
    rfl
  · rw [State.settle_drv, State.setCh_ch_ne _ _ _ he, State.advanceTo_drv]

end

section
variable (s : State) (b : Fin 8) (u : Int)

/-- The word of a sample: its code, and whether it is a voltage, and one of RECOVERY (R291). -/
def sampleWord : Nat :=
  unsx 12 u + (if s.drv.bank[b].conv.recovery || s.drv.bank[b].conv.nextV then 4096 else 0) + (if s.drv.bank[b].conv.recovery then 8192 else 0)

/-- The bank's converter with the sample in it. -/
def sampled (keep : Bool) : Conv :=
  { s.drv.bank[b].conv with
    nextV := !s.drv.bank[b].conv.nextV
    volt := if s.drv.bank[b].conv.recovery then s.drv.bank[b].conv.volt ++ [u] else s.drv.bank[b].conv.volt
    held := if keep then s.drv.bank[b].conv.held ++ [sampleWord s b u] else s.drv.bank[b].conv.held }

section
variable {m : Fin 4} (hm : s.drv.bank[b].conv.ch = some m)
include hm

theorem captureSample_eq : s.captureSample b u = (let t := s.setBank b fun z => { z with conv := sampled s b u (s.capEn (chOf b m)) }
    if (sampled s b u (s.capEn (chOf b m))).held.length < 28 then t else t.sigFlush b) := by
  unfold State.captureSample
  dsimp only
  split
  case h_1 hn => exact absurd (hn.symm.trans hm) (by simp)
  case h_2 k hk =>
    obtain rfl : k = m := Option.some.inj (hk.symm.trans hm)
    rfl

theorem captureSample_holds (hc : s.clocked = true) (hlen : s.drv.bank[b].conv.held.length < 27) :
    ∃ t, exec (.captureSample b u) s = .next t ∧ t.drv.bank[b].conv = sampled s b u (s.capEn (chOf b m))
      ∧ t = { s with drv := { s.drv with bank := t.drv.bank }, pins := t.pins } := by
  have hexec : exec (.captureSample b u) s = finish (s.captureSample b u) :=
    congrArg finish (State.awake_clocked hc fun t => t.captureSample b u)
  have hroom : (sampled s b u (s.capEn (chOf b m))).held.length < 28 := by
    unfold sampled
    dsimp only
    split
    · rw [List.length_append, List.length_singleton]
      omega
    · omega
  rw [captureSample_eq s b u hm] at hexec
  dsimp only at hexec
  rw [if_pos hroom] at hexec
  exact ⟨_, hexec, by simp [State.setBank, upd], rfl⟩

omit hm in
/-- The samples that a converter holds go out as one slot of its channel's shot. -/
theorem sigFlush_full {m : Fin 4} {h : Shot} (hm : s.drv.bank[b].conv.ch = some m) (hheld : s.drv.bank[b].conv.held ≠ [])
    (hs : s.drv.ch[chOf b m].shot = some h) : s.sigFlush b = ((s.sigSend (slotOf (slotHead 5 b.val s.drv.bank[b].conv.held.length
        (h.seq % 4096 + h.sigs % 4096 * 4096) :: sigWords s.drv.bank[b].conv.held))).setShot (chOf b m)
      fun h => { h with sigs := h.sigs + 1 }).setBank b fun x => { x with conv := { x.conv with held := [] } } := by
  obtain ⟨x, l, hl⟩ := List.exists_cons_of_ne_nil hheld
  unfold State.sigFlush
  dsimp only
  rw [hm, hl]
  dsimp only
  rw [hs]

/-- The slot that a full converter sends. -/
def fullSlot (h : Shot) : List Nat :=
  slotOf (slotHead 5 b.val 28 (h.seq % 4096 + h.sigs % 4096 * 4096) :: sigWords (s.drv.bank[b].conv.held ++ [sampleWord s b u]))

theorem captureSample_sends (hc : s.clocked = true) {h : Shot} (hs : s.drv.ch[chOf b m].shot = some h) (hcap : s.capEn (chOf b m) = true)
    (hlen : s.drv.bank[b].conv.held.length = 27) : ∃ t, exec (.captureSample b u) s = .next t
      ∧ t.drv.bank[b].conv = { sampled s b u true with held := [] } ∧ t.drv.ch[chOf b m].shot = some { h with sigs := h.sigs + 1 }
      ∧ t.links = { s.links with ddl := s.links.ddl ++ [.signature (fullSlot s b u h)] } ∧ t.edg = s.edg ∧ t.work = s.work
      ∧ t.mem = s.mem := by
  have hexec : exec (.captureSample b u) s = finish (s.captureSample b u) :=
    congrArg finish (State.awake_clocked hc fun t => t.captureSample b u)
  rw [captureSample_eq s b u hm, hcap] at hexec
  have hfull : (sampled s b u true).held = s.drv.bank[b].conv.held ++ [sampleWord s b u] := rfl
  have hlen' : (s.drv.bank[b].conv.held ++ [sampleWord s b u]).length = 28 := by rw [List.length_append, hlen]; rfl
  dsimp only at hexec
  rw [if_neg (by rw [hfull, hlen']; decide)] at hexec
  have hconv : (s.setBank b fun z => { z with conv := sampled s b u true }).drv.bank[b].conv = sampled s b u true := by
    simp [State.setBank, upd]
  rw [sigFlush_full (s.setBank b fun z => { z with conv := sampled s b u true }) b (by rw [hconv]; exact hm) (by rw [hconv, hfull]; simp) hs, hconv] at hexec
  refine ⟨_, hexec, ?_, ?_, ?_, ?_, ?_, ?_⟩
  · simp [State.setBank, State.setShot, State.setCh, State.sigSend, State.ddlSend, upd]
  · rw [Fin.getElem_fin] at hs
    simp [State.setBank, State.setShot, State.setCh, State.sigSend, State.ddlSend, upd, hs, -Option.map_eq_some_iff]
  · rw [hfull, hlen']
    rfl
  · simp [State.sigSend]
  · simp [State.sigSend]
  · simp [State.sigSend]

end

end

/-- Settles O45: the rails, the buckets and the converter, each command for itself. -/
theorem railsBucketsAndCapture : Obligations.RailsBucketsAndCapture := by
  intro s k v c b u hc
  refine ⟨?_, boostIlimReached_rests s k hc, boostIlimReached_off s k hc, fun z hz => boostToffExpire_resumes s k hc hz,
    boostToffExpire_none s k hc, dutyBucketClose_closes s c hc _ rfl, ?_, ?_⟩
  · have hmeasured := boostRailMeasure_rail s k hc v
    rw [measured, ovpAt, vset_eq, vovp_eq] at hmeasured
    exact hmeasured
  · intro m hm h hs hcap hlen
    exact captureSample_sends s b u hm hc hs hcap hlen
  · intro m hm hlen
    exact captureSample_holds s b u hm hc hlen

end Sys2Proof.Proofs
end

section
/-! SUPPORT. The end of a drive: what of the shot its steps keep, and what else they change (R219, R228, R239). -/

namespace Sys2Proof.Machine

/-- What of a shot the capture and the on-time account leave alone. -/
def Shot.drive (h : Shot) : Phase × Nat × Nat × Nat × Nat × Bool := (h.phase, h.seq, h.owner, h.start, h.driveEnd, h.swOn)

/-- A channel's shot is driven as before, and the fall of its line waits as before. -/
def State.SameDrive (c : Fin 32) (s t : State) : Prop :=
  t.drv.ch[c].shot.map Shot.drive = s.drv.ch[c].shot.map Shot.drive ∧ t.drv.ch[c].offPend = s.drv.ch[c].offPend

section
variable {c : Fin 32}

theorem State.SameDrive.refl (s : State) : State.SameDrive c s s := ⟨rfl, rfl⟩

theorem State.SameDrive.trans {s t u : State} (h : State.SameDrive c s t) (h' : State.SameDrive c t u) : State.SameDrive c s u :=
  ⟨h'.1.trans h.1, h'.2.trans h.2⟩

theorem State.SameDrive.ite {s t u : State} {p : Prop} [Decidable p] (ht : State.SameDrive c s t) (hu : State.SameDrive c s u) :
    State.SameDrive c s (if p then t else u) := by
  split
  · exact ht
  · exact hu

theorem State.SameDrive.of_ch {s t : State} (h : t.drv.ch = s.drv.ch) : State.SameDrive c s t := by
  unfold State.SameDrive
  rw [h]
  exact ⟨rfl, rfl⟩

variable (s : State)

theorem State.sameDrive_setCh (d : Fin 32) {f : DrvCh → DrvCh}
    (hf : ∀ x, (f x).shot.map Shot.drive = x.shot.map Shot.drive ∧ (f x).offPend = x.offPend) : State.SameDrive c s (s.setCh d f) := by
  unfold State.SameDrive
  by_cases h : c = d
  · subst h
    rw [State.setCh_ch_self]
    exact hf _
  · rw [State.setCh_ch_ne _ _ _ h]
    exact ⟨rfl, rfl⟩

theorem State.sameDrive_setShot (d : Fin 32) {f : Shot → Shot} (hf : ∀ x, (f x).drive = x.drive) : State.SameDrive c s (s.setShot d f) :=
  s.sameDrive_setCh d fun x => ⟨by rw [Option.map_map]; exact congrArg (x.shot.map ·) (funext hf), rfl⟩

theorem State.sameDrive_setBank (b : Fin 8) (f : Bank → Bank) : State.SameDrive c s (s.setBank b f) := .of_ch rfl

theorem State.sameDrive_sigFlush (b : Fin 8) : State.SameDrive c s (s.sigFlush b) := by
  unfold State.sigFlush
  dsimp only
  split
  · exact .refl s
  · exact .refl s
  · split
    · exact .refl s
    · exact ((State.SameDrive.of_ch rfl).trans (State.sameDrive_setShot _ _ (by intro; rfl))).trans (State.sameDrive_setBank _ _ _)

theorem State.sameDrive_convFree (d : Fin 32) : State.SameDrive c s (s.convFree d) :=
  .ite ((s.sameDrive_sigFlush _).trans (State.sameDrive_setBank _ _ _)) (.refl s)

theorem State.sameDrive_releaseLead (d : Fin 32) : State.SameDrive c s (s.releaseLead d) := .ite (s.sameDrive_setBank _ _) (.refl s)

theorem State.sameDrive_account (d : Fin 32) : State.SameDrive c s (s.account d) := by
  unfold State.account
  split
  · exact .refl s
  · exact .ite (.refl s) ((s.sameDrive_setCh _ (by intro; exact ⟨rfl, rfl⟩)).trans (State.sameDrive_setShot _ _ (by intro; rfl)))

theorem State.sealSend_drv (src inc : Nat) (d : Fin 32) : (s.sealSend src inc d).drv = s.drv := by
  refine List.foldlRecOn (motive := fun t : State => t.drv = s.drv) _ _ rfl fun t ht n _ => ?_
  split
  · exact ht
  · exact ht

theorem State.sealOntime_drv (d : Fin 32) : (s.sealOntime d).drv = s.drv := by
  unfold State.sealOntime
  split
  · split
    · rfl
    · rw [State.sealSend_drv]
  · rfl

end

section
variable (s : State) (c : Fin 32)

/-- The drive ends: RECOVERY begins, and the lead is free unless a granted restart waits for its rail. -/
def State.driveEnded : State :=
  let t := ((s.account c).sealOntime c).setShot c fun h =>
    { h with phase := .recovery, driveEnd := s.dclk, watch := false, swOn := false, deferred := none }
  if t.railWait c then t else t.releaseLead c

/-- The closing search of a shot begins if its channel's records ask for it and the converter is free (R239). -/
def State.searching (h : Shot) : State :=
  if !(s.clsEn c || s.capEn c) then s.convFree c
  else
    let v := s.drv.bank[bankOf c].conv
    if v.recovery then (s.setShot c fun h => { h with noRec := true }).chMsg 0 Kind.captureBusy c h.seq h.owner 0
    else
      let t := match v.ch with
        | some k => if k = chIn c then s else (s.sigFlush (bankOf c)).setShot (chOf (bankOf c) k) fun x => { x with trunc := true }
        | none => s
      let held := if v.ch = some (chIn c) then v.held else []
      (t.setBank (bankOf c) fun x => { x with conv := ⟨some (chIn c), true, false, [], held⟩ }).setShot c fun h => { h with claim := true }

theorem State.toRecovery_running {h : Shot} (hs : s.drv.ch[c].shot = some h) (hp : h.phase ≠ .recovery) :
    s.toRecovery c false = (s.driveEnded c).searching c h := by
  unfold State.toRecovery
  rw [hs]
  dsimp only
  rw [if_neg hp]
  rfl

theorem State.drvFrame_driveEnded : s.DrvFrame (s.driveEnded c) :=
  (((s.drvFrame_account c).trans (State.drvFrame_sealOntime _ _)).trans (State.drvFrame_setShot _ _ _)).trans
    (.ite (.refl _) (State.drvFrame_releaseLead _ _))

theorem State.driveEnded_drive {h : Shot} (hs : s.drv.ch[c].shot = some h) :
    (s.driveEnded c).drv.ch[c].shot.map Shot.drive = some (.recovery, h.seq, h.owner, h.start, s.dclk, false)
      ∧ (s.driveEnded c).drv.ch[c].offPend = s.drv.ch[c].offPend := by
  obtain ⟨hdrive, hoff⟩ := s.sameDrive_account (c := c) c
  rw [hs, Option.map_some] at hdrive
  obtain ⟨g, hg, hgd⟩ := Option.map_eq_some_iff.1 hdrive
  simp only [Shot.drive, Prod.mk.injEq] at hgd
  obtain ⟨-, hq, ho, hst, -, -⟩ := hgd
  have hg' : ((s.account c).sealOntime c).drv.ch[c].shot = some g := by rw [State.sealOntime_drv, hg]
  obtain ⟨hd, hp⟩ : State.SameDrive c (((s.account c).sealOntime c).setCh c fun d => { d with
      shot := some { g with phase := .recovery, driveEnd := s.dclk, watch := false, swOn := false, deferred := none } }) (s.driveEnded c) := by
    rw [← State.setShot_running hg' fun h =>
      { h with phase := .recovery, driveEnd := s.dclk, watch := false, swOn := false, deferred := none }]
    exact .ite (.refl _) (State.sameDrive_releaseLead _ _)
  rw [State.setCh_ch_self] at hd hp
  refine ⟨hd.trans ?_, hp.trans ?_⟩
  · rw [Option.map_some, Shot.drive, hq, ho, hst]
  · rw [State.sealOntime_drv, hoff]

/-- What the driver die's converters do when a search begins, and whether it is refused with a note. -/
theorem State.searching_parts (h : Shot) : ∃ u, s.DrvFrame u ∧ State.SameDrive c s u
    ∧ (s.searching c h = u ∨ s.drv.bank[bankOf c].conv.recovery = true ∧ s.searching c h = u.chMsg 0 Kind.captureBusy c h.seq h.owner 0) := by
  unfold State.searching
  split
  · exact ⟨_, s.drvFrame_convFree c, s.sameDrive_convFree c, .inl rfl⟩
  · dsimp only
    split
    · next hrec => exact ⟨s.setShot c fun h => { h with noRec := true }, s.drvFrame_setShot c _, s.sameDrive_setShot c (by intro; rfl), .inr ⟨hrec, rfl⟩⟩
    · split
      · refine ⟨_, .trans (.trans (.ite (.refl s) ((s.drvFrame_sigFlush _).trans (State.drvFrame_setShot _ _ _)))
          (State.drvFrame_setBank _ _ _)) (State.drvFrame_setShot _ _ _), ?_, .inl rfl⟩
        exact .trans (.trans (.ite (.refl s) ((s.sameDrive_sigFlush _).trans (State.sameDrive_setShot _ _ (by intro; rfl))))
          (State.sameDrive_setBank _ _ _)) (State.sameDrive_setShot _ _ (by intro; rfl))
      · exact ⟨_, (s.drvFrame_setBank _ _).trans (State.drvFrame_setShot _ _ _),
          (s.sameDrive_setBank _ _).trans (State.sameDrive_setShot _ _ (by intro; rfl)), .inl rfl⟩

theorem State.account_bank : (s.account c).drv.bank = s.drv.bank := by
  unfold State.account
  split
  · rfl
  · split
    · rfl
    · rfl

theorem State.releaseLead_conv (b : Fin 8) : (s.releaseLead c).drv.bank[b].conv = s.drv.bank[b].conv := by
  unfold State.releaseLead
  dsimp only
  split
  · by_cases hb : (bankOf c).val = b.val
    · simp [State.setBank, upd, hb]
    · simp [State.setBank, upd, hb]
  · rfl

theorem State.driveEnded_conv (b : Fin 8) : (s.driveEnded c).drv.bank[b].conv = s.drv.bank[b].conv := by
  have hbank : (((s.account c).sealOntime c).setShot c fun h => { h with
      phase := .recovery, driveEnd := s.dclk, watch := false, swOn := false, deferred := none }).drv.bank = s.drv.bank :=
    (congrArg Driver.bank ((s.account c).sealOntime_drv c)).trans (s.account_bank c)
  unfold State.driveEnded
  dsimp only
  split
  · simp only [hbank]
  · rw [State.releaseLead_conv]
    simp only [hbank]

/-- A running drive ends in RECOVERY, and only a converter that is in use brings a note. -/
theorem State.toRecovery_ends {h : Shot} (hs : s.drv.ch[c].shot = some h) (hp : h.phase ≠ .recovery) : ∃ u, s.DrvFrame u
    ∧ u.drv.ch[c].shot.map Shot.drive = some (.recovery, h.seq, h.owner, h.start, s.dclk, false)
    ∧ u.drv.ch[c].offPend = s.drv.ch[c].offPend
    ∧ (s.toRecovery c false = u
      ∨ s.drv.bank[bankOf c].conv.recovery = true ∧ s.toRecovery c false = u.chMsg 0 Kind.captureBusy c h.seq h.owner 0) := by
  obtain ⟨u, hframe, ⟨hdrive, hoff⟩, hu⟩ := (s.driveEnded c).searching_parts c h
  obtain ⟨hended, hoff'⟩ := s.driveEnded_drive c hs
  rw [s.driveEnded_conv c, ← s.toRecovery_running c hs hp] at hu
  exact ⟨u, (s.drvFrame_driveEnded c).trans hframe, hdrive.trans hended, hoff.trans hoff', hu⟩

end

theorem State.drvFrame_closeRec (s : State) (c : Fin 32) (q o tm : Nat) (det : Bool) : s.DrvFrame (s.closeRec c q o tm det) :=
  .ite (.refl s) ((s.drvFrame_setCh c _).trans (State.drvFrame_ddlSend _ _))

/-- Registers stand over the driver die's operations on shots. -/
theorem State.DrvFrame.rg {s t : State} (h : s.DrvFrame t) (r : RegRow) (i j : Nat) : t.rg r i j = s.rg r i j := by
  obtain ⟨ch, bank, ign, q, rfl⟩ := h
  rfl

/-- A channel message without a cause. -/
theorem State.chMsg_no_cause (s : State) (cls kind : Nat) (c : Fin 32) (q o : Nat) : s.chMsg cls kind c q o 0
    = s.emit cls kind (0x400 + c.val / 4 * 16 + c.val % 4) (c.val + q % 4096 * 32 + o % 4096 * 2 ^ 17) := by
  rw [State.chMsg, srcD_channel, Nat.zero_mul, Nat.add_zero]

end Sys2Proof.Machine
end

section
/-! PROOFS. The ends of a shot and its record (R219, R222, R228, R241). -/

open Sys2Proof Sys2Proof.Machine

namespace Sys2Proof.Proofs

/-- What a running drive's end leaves of its channel, and what else stands. -/
theorem toRecovery_leaves (s : State) (c : Fin 32) {h : Shot} (hs : s.drv.ch[c].shot = some h) (hp : h.phase ≠ .recovery) :
    (∃ g ∈ (s.toRecovery c false).drv.ch[c].shot, g.phase = .recovery ∧ g.seq = h.seq ∧ g.owner = h.owner ∧ g.start = h.start
      ∧ g.driveEnd = s.dclk ∧ g.swOn = false)
    ∧ (s.toRecovery c false).drv.ch[c].offPend = s.drv.ch[c].offPend ∧ (s.toRecovery c false).edg = s.edg
    ∧ (s.toRecovery c false).work = s.work ∧ (s.toRecovery c false).mem = s.mem ∧ (s.toRecovery c false).now = s.now := by
  obtain ⟨u, ⟨ch, bank, ign, q, hframe⟩, hdrive, hoff, hu⟩ := s.toRecovery_ends c hs hp
  have hsame : (s.toRecovery c false).drv = u.drv ∧ (s.toRecovery c false).edg = s.edg ∧ (s.toRecovery c false).work = s.work
      ∧ (s.toRecovery c false).mem = s.mem ∧ (s.toRecovery c false).now = s.now := by
    obtain hu | ⟨-, hu⟩ := hu
    · rw [hu, hframe]
      exact ⟨rfl, rfl, rfl, rfl, rfl⟩
    · rw [hu, State.chMsg, State.emit_drv, State.emit_edg, State.emit_work, State.emit_memory, State.emit_now, hframe]
      exact ⟨rfl, rfl, rfl, rfl, rfl⟩
  obtain ⟨hdrv, hedg, hwork, hmem, hnow⟩ := hsame
  obtain ⟨g, hg, hgd⟩ := Option.map_eq_some_iff.1 hdrive
  simp only [Shot.drive, Prod.mk.injEq] at hgd
  rw [hdrv]
  exact ⟨⟨g, hg, hgd⟩, hoff, hedg, hwork, hmem, hnow⟩

/-- The drive of channel c with the shot h has ended at t, where nothing of the edge generator, the works and the memory has changed. -/
def Ended (s : State) (c : Fin 32) (h : Shot) (t : State) : Prop :=
  (∃ g ∈ t.drv.ch[c].shot, g.phase = .recovery ∧ g.seq = h.seq ∧ g.owner = h.owner ∧ g.start = h.start ∧ g.driveEnd = t.dclk
    ∧ g.swOn = false) ∧ t.edg = s.edg ∧ t.work = s.work ∧ t.mem = s.mem

section
variable {s : State} {c : Fin 32} {h : Shot} (hc : s.clocked = true) (hs : s.drv.ch[c].shot = some h)

section
variable (hp : h.phase ≠ .recovery)
include hc hs hp

theorem offCommand_ends (hoff : s.drv.ch[c].offPend = true) (hst : s.drv.ch[c].startPend = false) (hdrv : s.drvOff = false)
    (hheld : s.chHeld c = false) (hw : s.waitOf c = none) : ∃ t, exec (.offCommand c) s = .next t ∧ Ended s c h t
      ∧ t.drv.ch[c].offPend = false ∧ ((s.edg.ch[c].lastCmd.getD 0) + 15) / 16 ≤ t.now := by
  have hexec : exec (.offCommand c) s = finish (s.offCommand c) := congrArg finish (State.awake_clocked hc fun t => t.offCommand c)
  generalize hn : ((s.edg.ch[c].lastCmd.getD 0) + 15) / 16 = n at hexec ⊢
  generalize hv : (s.advanceTo n).setCh c (fun d => { d with offPend := false }) = v
  have hvch : v.drv.ch[c] = { s.drv.ch[c] with offPend := false } := by rw [← hv, State.setCh_ch_self, State.advanceTo_drv]
  have hvd : v.drv = { s.drv with ch := v.drv.ch } := by
    rw [← hv, ← State.advanceTo_drv s n]
    rfl
  have hvon : ¬(v.drvOff || v.chHeld c) = true := by
    have h1 : v.drvOff = s.drvOff := by
      rw [State.drvOff, hvd, State.drvOff, ← hv]
      simp [State.clocked]
    have h2 : v.chHeld c = s.chHeld c := by rw [← hv]; simp [State.chHeld, State.workHeld, State.ownerWork, State.workOf]
    rw [h1, h2, hdrv, hheld]
    decide
  have hvw : v.waitOf c = none := by
    rw [State.waitOf, hvd]
    exact hw
  have hrun : s.offCommand c = v.toRecovery c false := by
    unfold State.offCommand
    rw [hoff, hst, hn, if_neg (by decide), if_neg Bool.false_ne_true]
    dsimp only
    rw [hv, if_neg hvon, State.driverOff, hvw]
  obtain ⟨hg, hoffp, hedg, hwork, hmem, hnow⟩ := toRecovery_leaves v c (h := h) (by rw [hvch]; exact hs) hp
  rw [hrun] at hexec
  have hvnow : n ≤ v.now := by rw [← hv, State.setCh_now, State.advanceTo_now]; exact Nat.le_max_right ..
  refine ⟨_, hexec, ⟨?_, ?_, ?_, ?_⟩, ?_, ?_⟩
  · rw [State.dclk, State.settle_now, hnow]
    exact hg
  · rw [State.settle_edg, hedg, ← hv]; simp
  · rw [State.settle_work, hwork, ← hv]; simp
  · rw [State.settle_mem, hmem, ← hv]; simp
  · rw [State.settle_drv, hoffp, hvch]
  · rw [State.settle_now, hnow]
    exact hvnow

theorem tmaxExpire_ends : ∃ t, exec (.tmaxExpire c) s = .next t ∧ Ended s c h t ∧ 4 * (h.start + h.set.tmax) ≤ t.now
    ∧ Xfer.holdend c ∈ t.links.ddl ∧ (s.drv.bank[bankOf c].conv.recovery = false →
      s.Emits t 0 0x10 (0x400 + c.val / 4 * 16 + c.val % 4) (c.val + h.seq % 4096 * 32 + h.owner % 4096 * 2 ^ 17)) := by
  have hexec : exec (.tmaxExpire c) s = finish (s.tmaxExpire c) := congrArg finish (State.awake_clocked hc fun t => t.tmaxExpire c)
  generalize hv : s.advanceTo (4 * (h.start + h.set.tmax)) = v
  have hrun : s.tmaxExpire c = ((v.toRecovery c false).ddlSend (.holdend c)).emit 0 Kind.holdLimit
      (0x400 + c.val / 4 * 16 + c.val % 4) (c.val + h.seq % 4096 * 32 + h.owner % 4096 * 2 ^ 17) := by
    rw [← State.chMsg_no_cause]
    unfold State.tmaxExpire
    rw [hs]
    dsimp only
    rw [if_neg hp, hv]
  have hvs : v.drv.ch[c].shot = some h := by rw [← hv, State.advanceTo_drv, hs]
  obtain ⟨hg, -, hedg, hwork, hmem, hnow⟩ := toRecovery_leaves v c hvs hp
  rw [hrun] at hexec
  refine ⟨_, hexec, ⟨?_, ?_, ?_, ?_⟩, ?_, ?_, fun hconv => ?_⟩
  · rw [State.dclk, State.settle_now, State.settle_drv, State.emit_drv, State.emit_now, State.ddlSend_drv, State.ddlSend_now,
      hnow]
    exact hg
  · rw [State.settle_edg, State.emit_edg, State.ddlSend_edg, hedg, ← hv, State.advanceTo_edg]
  · rw [State.settle_work, State.emit_work, State.ddlSend_work, hwork, ← hv, State.advanceTo_work]
  · rw [State.settle_mem, State.emit_memory, State.ddlSend_mem, hmem, ← hv, State.advanceTo_mem]
  · rw [State.settle_now, State.emit_now, State.ddlSend_now, hnow, ← hv, State.advanceTo_now]
    exact Nat.le_max_right ..
  · obtain ⟨_, _, q, _, _, hq⟩ := State.emit_places ((v.toRecovery c false).ddlSend (.holdend c)) 0 Kind.holdLimit
      (0x400 + c.val / 4 * 16 + c.val % 4) (c.val + h.seq % 4096 * 32 + h.owner % 4096 * 2 ^ 17)
    rw [State.settle_links, hq]
    exact List.mem_append_left _ (List.mem_append_right _ (List.mem_singleton_self _))
  · obtain ⟨u, ⟨ch, bank, ign, q, hframe⟩, -, -, hu⟩ := v.toRecovery_ends c hvs hp
    obtain hu | ⟨hrec, -⟩ := hu
    · refine State.emits_emit (u := (v.toRecovery c false).ddlSend (.holdend c)) ?_ ?_ ?_ (Nat.le_of_eq ?_)
      · rw [State.ddlSend_coll, hu, hframe, ← hv]
        simp
      · rw [State.ddlSend_now, hnow, ← hv, State.advanceTo_now]
        exact Nat.le_max_left ..
      · exact List.Subset.refl _
      · rw [State.settle_now, State.emit_now]
    · rw [← hv, State.advanceTo_drv, hconv] at hrec
      cases hrec

end

section
variable (hp : h.phase = .recovery)
include hc hs hp

theorem fastDecayEnd_watches : exec (.fastDecayEnd c) s = .next ({ s with drv := { s.drv with
    ch := s.drv.ch.set c.val { s.drv.ch[c] with shot := some { h with watch := true } } c.isLt } } : State).settle := by
  have hexec : exec (.fastDecayEnd c) s = finish (s.fastDecayEnd c) := congrArg finish (State.awake_clocked hc fun t => t.fastDecayEnd c)
  rw [hexec, State.fastDecayEnd, if_pos ((phase_running hs).trans (congrArg some hp)), State.setShot_running hs]
  rfl

theorem recoveryEnd_records : ∃ t, exec (.recoveryEnd c) s = .next t ∧ t.drv.ch[c].shot = none ∧ 4 * (h.driveEnd + h.set.trcv) ≤ t.now
    ∧ t.edg = s.edg ∧ t.work = s.work ∧ (h.cut = false → s.clsEn c = true → h.claim = false →
      Xfer.closerec ⟨c, h.seq, h.owner, 0, false⟩ ∈ t.links.ddl ∧ t.drv.ch[c].clsDet = false) := by
  have hexec : exec (.recoveryEnd c) s = finish (s.recoveryEnd c) := congrArg finish (State.awake_clocked hc fun t => t.recoveryEnd c)
  generalize hv : s.advanceTo (4 * (h.driveEnd + h.set.trcv)) = v
  generalize hf : (if h.claim && s.clsEn c then closeSearch h.set s.drv.bank[bankOf c].conv.volt (h.driveEnd - h.start) else none) = f
  generalize hu : (if h.cut then v else (v.captureEnd c (f.getD 0) f.isSome).closeRec c h.seq h.owner (f.getD 0) f.isSome) = u
  have hrun : s.recoveryEnd c = u.setCh c fun d => { d with shot := none } := by
    unfold State.recoveryEnd
    rw [hs]
    dsimp only
    rw [if_neg (not_not_intro hp), hv, hf, hu]
  have huv : v.DrvFrame u := by
    rw [← hu]
    exact .ite (.refl v) ((v.drvFrame_captureEnd c _ _).trans (State.drvFrame_closeRec _ _ _ _ _ _))
  obtain ⟨ch, bank, ign, q, hframe⟩ := huv
  rw [hrun] at hexec
  refine ⟨_, hexec, ?_, ?_, ?_, ?_, fun hcut hcls hclaim => ?_⟩
  · rw [State.settle_drv, State.setCh_ch_self]
  · rw [State.settle_now, State.setCh_now, hframe, ← hv]
    exact (Nat.le_max_right ..).trans_eq (s.advanceTo_now _).symm
  · rw [State.settle_edg, State.setCh_edg, hframe, ← hv]
    exact s.advanceTo_edg _
  · rw [State.settle_work, State.setCh_work, hframe, ← hv]
    exact s.advanceTo_work _
  · have hnone : f = none := by rw [← hf, hclaim]; rfl
    generalize hw : v.captureEnd c 0 false = w
    have hwcls : w.clsEn c = true := by
      have hrg : w.rg Reg.chCfg c.val = s.rg Reg.chCfg c.val := by
        rw [← hw, (v.drvFrame_captureEnd c 0 false).rg, ← hv]
        exact State.advanceTo_rg s _ _ _ _ ((by decide : ∀ c : Fin 32, alwaysOnSys (Reg.chCfg.addr c.val 0) = false) c)
      rw [State.clsEn, State.rb, hrg]
      exact hcls
    have hrec : u = (w.setCh c fun d => { d with clsTime := 0, clsDet := false }).ddlSend (.closerec ⟨c, h.seq, h.owner, 0, false⟩) := by
      rw [← hu, hcut, hnone, if_neg Bool.false_ne_true]
      dsimp only [Option.getD_none, Option.isSome_none]
      rw [hw, State.closeRec, hwcls]
      rfl
    rw [hrec]
    refine ⟨?_, ?_⟩
    · rw [State.settle_links, State.setCh_links]
      exact List.mem_append_right _ (List.mem_singleton_self _)
    · rw [State.settle_drv, State.setCh_ch_self, State.ddlSend_drv, State.setCh_ch_self]

end

end

/-! ### Records and line commands at the edge generator (R140, R222, R232, R241) -/

/-- The transfer that arrived first, where it is the one looked for. -/
theorem takeArrived_first {s : State} {x : Xfer} {rest : List Xfer} (h : s.links.arrived = x :: rest) {pick : Xfer → Bool}
    (hp : pick x = true) : s.takeArrived pick = some (x, { s with links := { s.links with arrived := rest } }) := by
  rw [State.takeArrived, h]
  simp [hp]

section
variable {s : State} {c : Fin 32} {rest : List Xfer} (hc : s.clocked = true)

/-- The line of channel c has been dropped at t: it is inactive, and its fall waits at the driver die if it was active. -/
def LineDropped (s : State) (c : Fin 32) (rest : List Xfer) (t : State) : Prop :=
  t.edg.ch[c].line = false ∧ (∀ n : Fin 32, n ≠ c → t.edg.ch[n] = s.edg.ch[n]) ∧ t.edg.ign = s.edg.ign
    ∧ t.drv.ch[c] = { s.drv.ch[c] with offPend := s.drv.ch[c].offPend || s.edg.ch[c].line }
    ∧ t.links = { s.links with arrived := rest } ∧ t.work = s.work ∧ t.mem = s.mem

theorem lineOff_dropped {u : State} (hu : u = { s with links := { s.links with arrived := rest } }) :
    LineDropped s c rest (u.lineOff c).settle := by
  have hedg : u.edg = s.edg := by rw [hu]
  have hdrv : u.drv = s.drv := by rw [hu]
  unfold State.lineOff
  split
  · next hl =>
    rw [hedg] at hl
    refine ⟨?_, fun n hn => ?_, ?_, ?_, by rw [hu]; rfl, by rw [hu]; rfl, by rw [hu]; rfl⟩
    · simp [State.setECh, upd]
    · have hv : c.val ≠ n.val := fun hv => hn (Fin.ext hv.symm)
      simp [State.setECh, upd, hv, hedg]
    · rw [← hedg]
      rfl
    · rw [State.settle_drv, State.setCh_ch_self, State.setECh_drv, hdrv, hl, Bool.or_true]
  · next hl =>
    rw [hedg] at hl
    refine ⟨?_, fun n hn => ?_, ?_, ?_, by rw [hu]; rfl, by rw [hu]; rfl, by rw [hu]; rfl⟩
    · rw [State.settle_edg, hedg, Bool.eq_false_iff.2 hl]
    · rw [State.settle_edg, hedg]
    · rw [State.settle_edg, hedg]
    · rw [State.settle_drv, hdrv, Bool.eq_false_iff.2 hl, Bool.or_false]

include hc

theorem refuseReceive_drops {q o : Nat} (h : s.links.arrived = .refuse c q o :: rest) :
    ∃ t, exec .refuseReceive s = .next t ∧ LineDropped s c rest t := by
  have hexec : exec .refuseReceive s = finish s.refuseReceive := congrArg finish (State.awake_clocked hc State.refuseReceive)
  unfold State.refuseReceive at hexec
  dsimp only at hexec
  rw [takeArrived_first h rfl] at hexec
  exact ⟨_, hexec, lineOff_dropped rfl⟩

theorem holdendReceive_drops (h : s.links.arrived = .holdend c :: rest) :
    ∃ t, exec .holdendReceive s = .next t ∧ LineDropped s c rest t := by
  have hexec : exec .holdendReceive s = finish s.holdendReceive := congrArg finish (State.awake_clocked hc State.holdendReceive)
  unfold State.holdendReceive at hexec
  dsimp only at hexec
  rw [takeArrived_first h rfl] at hexec
  exact ⟨_, hexec, lineOff_dropped rfl⟩

section
variable {q o tm : Nat} {det : Bool} (h : s.links.arrived = .closerec ⟨c, q, o, tm, det⟩ :: rest)
include h

theorem closeRecord_first : exec .closeRecord s = finish (match s.edg.ch[c].due.find? fun d => decide (d.seq = q) with
    | some d => (({ s with links := { s.links with arrived := rest } } : State).setECh c fun e => { e with due := e.due.erase d }).closeCue
        c q o d.work tm det
    | none => { s with links := { s.links with arrived := rest } }) := by
  have hexec : exec .closeRecord s = finish s.closeRecord := congrArg finish (State.awake_clocked hc State.closeRecord)
  unfold State.closeRecord at hexec
  dsimp only at hexec
  rw [takeArrived_first h rfl] at hexec
  exact hexec

theorem closeRecord_cues {z : Due} (hz : (s.edg.ch[c].due.find? fun x => decide (x.seq = q)) = some z)
    (hw : (s.carrier z.work).isSome = true) (hroom : (s.work[z.work].cues.filter (·.cue = 19)).length < 8) :
    ∃ t, exec .closeRecord s = .next t
      ∧ t.work[z.work].cues = s.work[z.work].cues ++ [⟨19, BitVec.ofNat 32 (q % 4096 + o % 4096 * 4096 + c.val * 2 ^ 24),
        BitVec.ofNat 32 (tm % 2 ^ 24 + (if det then 2 ^ 31 else 0)), s.now, s.now, []⟩]
      ∧ t.edg.ch[c] = { s.edg.ch[c] with due := s.edg.ch[c].due.erase z } ∧ t.drv = s.drv
      ∧ t.links = { s.links with arrived := rest } := by
  have hexec := closeRecord_first hc h
  rw [hz] at hexec
  generalize hu : ({ s with links := { s.links with arrived := rest } } : State).setECh c
    (fun e => { e with due := e.due.erase z }) = u
  have hraise : u.closeCue c q o z.work tm det = u.setWork z.work fun k => { k with cues := k.cues ++ [⟨19,
      BitVec.ofNat 32 (q % 4096 + o % 4096 * 4096 + c.val * 2 ^ 24), BitVec.ofNat 32 (tm % 2 ^ 24 + bitAt det 31), s.now, s.now, []⟩] } := by
    have hcar : (u.carrier z.work).isSome = true := by rw [← hu]; exact hw
    have hcues : ((u.work[z.work].cues.filter (·.cue = 19)).length < 8) := by rw [← hu]; exact hroom
    have hnow : u.now = s.now := by rw [← hu]; rfl
    rw [State.closeCue, if_pos hcar, State.cue, State.raiseCue]
    dsimp only
    rw [show cueDepth 19 = some 8 from rfl]
    dsimp only
    rw [if_pos hcues, hnow]
    rfl
  refine ⟨_, hexec.trans (congrArg finish ((congrArg (fun v : State => v.closeCue c q o z.work tm det) hu).trans hraise)), ?_, ?_, ?_, ?_⟩
  · rw [← hu]
    simp [State.setWork, upd, bitAt]
  · rw [← hu]
    simp [State.setECh, upd]
  · rw [← hu]
    rfl
  · rw [← hu]
    rfl

theorem closeRecord_stale (hz : ∀ x ∈ s.edg.ch[c].due, x.seq ≠ q) :
    exec .closeRecord s = .next ({ s with links := { s.links with arrived := rest } } : State).settle := by
  have hnone : (s.edg.ch[c].due.find? fun x => decide (x.seq = q)) = none := by simpa [List.find?_eq_none] using hz
  rw [closeRecord_first hc h, hnone]
  rfl

end

end

/-- Settles O44: the ends of a drive, its record, and the lines that the driver die's answers drop. -/
theorem shotEnds : Obligations.ShotEnds := by
  intro s c h q o tm det z rest hc
  refine ⟨fun hs hp => ⟨offCommand_ends hc hs hp, tmaxExpire_ends hc hs hp⟩,
    fun hs hp => ⟨fastDecayEnd_watches hc hs hp, recoveryEnd_records hc hs hp⟩,
    fun harr => ⟨closeRecord_cues hc harr, closeRecord_stale hc harr⟩, refuseReceive_drops hc, holdendReceive_drops hc⟩

end Sys2Proof.Proofs
end

section
/-! SUPPORT. The jig engines' operations: a tick, an instruction that runs at it, and the shifts (R298, R301, R302, R307). -/

namespace Sys2Proof.Machine

/-! ### An engine's record -/

section
variable (s : State) (e : Fin 8)

theorem State.setJig_self (f : Jig → Jig) : (s.setJig e f).jig[e] = f s.jig[e] := by simp [State.setJig, upd]

theorem State.setJig_id : (s.setJig e fun g => g) = s := by
  rw [State.setJig, upd, Vector.set_getElem_self]

theorem State.setJig_setJig (f g : Jig → Jig) : (s.setJig e f).setJig e g = s.setJig e (g ∘ f) := by
  simp only [State.setJig, upd, Vector.getElem_set_self, Vector.set_set]
  rfl

theorem State.jigCommit_none {s : State} (h : s.jig[e].swpend = false) : s.jigCommit e = s := if_neg (by rw [h]; decide)

theorem State.jigSpan_zero : s.jigSpan e 0 = s := if_pos rfl

theorem State.jigSpan_parts (n : Nat) : s.jigSpan e n
    = (s.advanceTo (if n = 0 then s.now else 2 * s.jig[e].tickAt (s.jig[e].tick + n - 1))).setJig e fun g => { g with tick := g.tick + n } := by
  unfold State.jigSpan
  split
  · next hn =>
    subst hn
    have hnow : s.advanceTo s.now = s := if_pos (Nat.le_refl _)
    have hid : (fun g : Jig => { g with tick := g.tick + 0 }) = fun g => g := rfl
    rw [hid, hnow, s.setJig_id e]
  · rfl

theorem State.jigSpan_self (n : Nat) : (s.jigSpan e n).jig[e] = { s.jig[e] with tick := s.jig[e].tick + n } := by
  rw [State.jigSpan_parts, State.setJig_self, State.advanceTo_jig]

theorem State.jigSpan_inj (n : Nat) : (s.jigSpan e n).inj = s.inj := by rw [State.jigSpan_parts]; simp

theorem State.jigSpan_now (n : Nat) (h : n ≠ 0) : (s.jigSpan e n).now = max s.now (2 * s.jig[e].tickAt (s.jig[e].tick + n - 1)) := by
  rw [State.jigSpan_parts, State.setJig_now, State.advanceTo_now, if_neg h]

theorem State.jigSpan_rg (n : Nat) (r : RegRow) (i j : Nat) (h : alwaysOnSys (r.addr i j) = false) : (s.jigSpan e n).rg r i j = s.rg r i j := by
  rw [State.jigSpan_parts]
  exact State.advanceTo_rg s _ _ _ _ h

end

/-! ### The tick of an instruction (R301, R311) -/

section
variable (s : State) (e : Fin 8)

theorem State.jigTick_self : (s.jigTick e).jig[e]
    = { s.jig[e] with tick := max s.jig[e].tick (s.jig[e].tickFrom s.svclk) + 1 } := by
  rw [State.jigTick, State.jigSpan_self, State.setJig_self]

theorem State.jigTick_inj : (s.jigTick e).inj = s.inj := by rw [State.jigTick, State.jigSpan_inj, State.setJig_inj]

theorem State.jigFetch_state : ∃ co l g h, (s.jigFetch e).1 = { s with coll := co, links := l, regs := g, hwSet := h } := by
  unfold State.jigFetch
  dsimp only
  split
  · exact ⟨_, _, _, _, rfl⟩
  · exact s.emit_parts ..
  · exact s.emit_parts ..

theorem State.jigFetch_usable (h : s.eccOf (jigKey e s.jig[e].bank s.jig[e].pc) 0 ≤ 1) : (s.jigFetch e).2 = true := by
  unfold State.jigFetch
  dsimp only
  split
  · rfl
  · rfl
  · next h0 h1 =>
    generalize s.eccOf (jigKey e s.jig[e].bank s.jig[e].pc) 0 = x at h h0 h1
    obtain rfl | rfl : x = 0 ∨ x = 1 := by omega
    · exact absurd rfl h0
    · exact absurd rfl h1

theorem State.jigFetch_jig : (s.jigFetch e).1.jig = s.jig := by
  obtain ⟨_, _, _, _, hparts⟩ := s.jigFetch_state e
  rw [hparts]

theorem State.jigFetch_inj : (s.jigFetch e).1.inj = s.inj := by
  obtain ⟨_, _, _, _, hparts⟩ := s.jigFetch_state e
  rw [hparts]

/-- An engine that stands at an instruction whose word it can use and whose check does not fail. -/
def State.JigSound : Prop :=
  s.jig[e].ready = true ∧ s.jig[e].fswap = false ∧ s.eccOf (jigKey e s.jig[e].bank s.jig[e].pc) 0 ≤ 1 ∧ srcJig e ∉ s.inj.residue

theorem State.jigDo_sound {s : State} {e : Fin 8} (h : s.JigSound e) {legal : Bool} (hl : legal = true) (f : State → State) :
    s.jigDo e legal f = f ((s.jigTick e).jigFetch e).1 := by
  obtain ⟨hready, hfswap, hecc, hres⟩ := h
  have hecc' : (s.jigTick e).eccOf (jigKey e (s.jigTick e).jig[e].bank (s.jigTick e).jig[e].pc) 0 ≤ 1 := by
    rw [State.jigTick_self, State.eccOf, State.jigTick_inj]
    exact hecc
  have hok := State.jigFetch_usable (s.jigTick e) e hecc'
  have hres' : srcJig e ∉ ((s.jigTick e).jigFetch e).1.inj.residue := by
    rw [State.jigFetch_inj, State.jigTick_inj]
    exact hres
  have hf : ((s.jigTick e).jigFetch e).1.jig[e].fswap = false := by
    simp only [State.jigFetch_jig]
    rw [State.jigTick_self]
    exact hfswap
  unfold State.jigDo
  rw [hready, hl]
  generalize (s.jigTick e).jigFetch e = x at hok hres' hf ⊢
  obtain ⟨u, ok⟩ := x
  dsimp only at hok hres' hf ⊢
  rw [hok, hf, if_neg (by decide), if_neg (by decide), if_neg (by decide), if_neg hres', if_neg Bool.false_ne_true]

end

end Sys2Proof.Machine
end

section
/-! SUPPORT. The bits that a jig engine shifts in and out (R307). -/

namespace Sys2Proof.Machine

/-! ### SHIN -/

theorem shinBit_right (b : Bool) {v : Nat} (hv : v < 2 ^ 32) (j : Nat) (hj : j < 32) :
    (shinBit true b v).testBit j = if j < 31 then v.testBit (j + 1) else b := by
  have hsum : shinBit true b v = 2 ^ 31 * b.toNat + v / 2 := by
    unfold shinBit bitAt
    cases b
    · simp
    · simp [Nat.add_comm]
  rw [hsum, Nat.testBit_two_pow_mul_add _ (by omega)]
  split
  · rw [Nat.testBit_succ]
  · obtain rfl : j = 31 := by omega
    cases b <;> rfl

theorem shinBit_left (b : Bool) (v j : Nat) (hj : j < 32) : (shinBit false b v).testBit j = if j = 0 then b else v.testBit (j - 1) := by
  have hsum : shinBit false b v = (2 ^ 1 * v + b.toNat) % 2 ^ 32 := by
    unfold shinBit bitAt
    cases b <;> simp [Nat.mul_comm]
  rw [hsum, Nat.testBit_mod_two_pow, Nat.testBit_two_pow_mul_add _ (by cases b <;> decide)]
  by_cases h0 : j = 0
  · subst h0
    cases b <;> rfl
  · rw [if_neg (by omega), if_neg h0, decide_eq_true hj, Bool.true_and]

theorem shinBit_lt (ord b : Bool) {v : Nat} (hv : v < 2 ^ 32) : shinBit ord b v < 2 ^ 32 := by
  unfold shinBit bitAt
  cases ord
  · exact Nat.mod_lt _ (by decide)
  · cases b
    · simp
      omega
    · simp
      omega

/-- Shifted right, the first bits taken end lowest of those that come from the pin. -/
theorem shinBits_right (bits n : Nat) : ∀ i v, i ≤ n → i ≤ 32 → v < 2 ^ 32 → ∀ j < 32, (shinBits true true bits n i v).testBit j
    = if j < 32 - i then v.testBit (j + i) else bits.testBit (n - i + (j + i - 32))
  | 0, v, _, _, _, j, hj => by rw [shinBits, if_pos (by omega), Nat.add_zero]
  | i + 1, v, hin, hi, hv, j, hj => by
    rw [shinBits, if_pos rfl, shinBits_right bits n i _ (by omega) (by omega) (shinBit_lt _ _ hv) j hj]
    by_cases hlow : j < 32 - i
    · rw [if_pos hlow, shinBit_right _ hv _ (by omega)]
      by_cases hlow' : j < 32 - (i + 1)
      · rw [if_pos hlow', if_pos (by omega), Nat.add_assoc]
      · rw [if_neg hlow', if_neg (by omega)]
        congr 1
        omega
    · rw [if_neg hlow, if_neg (by omega)]
      congr 1
      omega

/-- Shifted left, the first bits taken end highest of those that come from the pin. -/
theorem shinBits_left (bits n : Nat) : ∀ i v, i ≤ n → ∀ j < 32, (shinBits false true bits n i v).testBit j
    = if j < i then bits.testBit (n - i + (i - 1 - j)) else v.testBit (j - i)
  | 0, v, _, j, _ => by rw [shinBits, if_neg (by omega), Nat.sub_zero]
  | i + 1, v, hin, j, hj => by
    rw [shinBits, if_pos rfl, shinBits_left bits n i _ (by omega) j hj]
    by_cases hlow : j < i
    · rw [if_pos hlow, if_pos (by omega)]
      congr 1
      omega
    · rw [if_neg hlow, shinBit_left _ _ _ (by omega)]
      by_cases heq : j = i
      · rw [if_pos (by omega), if_pos (by omega)]
        congr 1
        omega
      · rw [if_neg (by omega), if_neg (by omega)]
        congr 1

/-! ### SHOUT -/

/-- The bit that leaves S at step j of a shift, S having sc bits. -/
def shoutBit (ord : Bool) (w sc j : Nat) : Bool := decide (j < sc) && if ord then w.testBit j else w.testBit (31 - j)

/-- S once n bits have left it. -/
def shoutRest (ord : Bool) (w n : Nat) : Nat := if ord then w / 2 ^ n else w * 2 ^ n % 2 ^ 32

/-- The number that the n bits make on top of what earlier ones made. -/
def shoutAcc (ord : Bool) (total w sc acc n : Nat) : Nat :=
  if ord then acc + 2 ^ (total - n) * (w % 2 ^ min n sc) else acc * 2 ^ n + w / 2 ^ (32 - min n sc) * 2 ^ (n - min n sc)

theorem shoutRest_succ (ord : Bool) (w n : Nat) : shoutRest ord (shoutRest ord w 1) n = shoutRest ord w (n + 1) := by
  cases ord
  · simp only [shoutRest, Bool.false_eq_true, if_false, Nat.mod_mul_mod]
    rw [Nat.mul_assoc, ← Nat.pow_add, Nat.add_comm 1 n]
  · simp only [shoutRest, if_true]
    rw [Nat.div_div_eq_div_mul, Nat.pow_one, Nat.pow_succ']

theorem shoutRest_lt (ord : Bool) {w : Nat} (hw : w < 2 ^ 32) (n : Nat) : shoutRest ord w n < 2 ^ 32 := by
  cases ord
  · exact Nat.mod_lt _ (by decide)
  · exact lt_of_le_of_lt (Nat.div_le_self _ _) hw

theorem shoutBit_succ (ord : Bool) (w sc j : Nat) (hj : j < 31) :
    shoutBit ord (shoutRest ord w 1) (sc - 1) j = shoutBit ord w sc (j + 1) := by
  have hsc : decide (j < sc - 1) = decide (j + 1 < sc) := decide_eq_decide.2 (by omega)
  unfold shoutBit shoutRest
  rw [hsc]
  cases ord
  · have hj' : 31 - j = 31 - (j + 1) + 1 := by omega
    simp only [Bool.false_eq_true, if_false]
    rw [Nat.testBit_mod_two_pow, hj', Nat.pow_one, Nat.testBit_succ, Nat.mul_div_cancel _ (by decide),
      decide_eq_true (show 31 - (j + 1) + 1 < 32 by omega), Bool.true_and]
  · simp only [if_true]
    rw [Nat.pow_one, Nat.testBit_succ]

/-- The step of shoutAcc where the bits leave S at its top. -/
theorem shoutAcc_succ_left {total w k acc n : Nat} (hw : w < 2 ^ 32) (hle : min n k ≤ n) (hmin : min (n + 1) (k + 1) = min n k + 1)
    (hn32 : n + 1 ≤ 32) :
    shoutAcc false total (shoutRest false w 1) k (if false then acc + bitAt (shoutBit false w (k + 1) 0) (total - (n + 1))
      else acc * 2 + bitAt (shoutBit false w (k + 1) 0) 0) n = shoutAcc false total w (k + 1) acc (n + 1) := by
  simp only [shoutAcc, shoutRest, shoutBit, Bool.false_eq_true, if_false, hmin, decide_eq_true (Nat.succ_pos k), Bool.true_and]
  generalize min n k = m at hle ⊢
  have hbit : bitAt (w.testBit 31) 0 = w / 2 ^ 31 := by
    rw [bitAt, Nat.testBit_eq_decide_div_mod_eq]
    obtain h | h : w / 2 ^ 31 = 0 ∨ w / 2 ^ 31 = 1 := by omega
    · rw [h]
      rfl
    · rw [h]
      rfl
  have htwice : w * 2 ^ 1 % 2 ^ 32 = 2 * (w % 2 ^ 31) := by omega
  have hhalf : 2 ^ (32 - m) = 2 * 2 ^ (32 - (m + 1)) := by rw [← Nat.pow_succ']; congr 1; omega
  have htop : w / 2 ^ (32 - (m + 1)) = 2 ^ m * (w / 2 ^ 31) + w % 2 ^ 31 / 2 ^ (32 - (m + 1)) := by
    have hw31 : w = 2 ^ (32 - (m + 1)) * (2 ^ m * (w / 2 ^ 31)) + w % 2 ^ 31 := by
      rw [← Nat.mul_assoc, ← Nat.pow_add, show 32 - (m + 1) + m = 31 by omega, Nat.div_add_mod]
    conv_lhs => rw [hw31]
    exact Nat.mul_add_div (Nat.two_pow_pos _) _ _
  have hpow : 2 ^ n = 2 ^ m * 2 ^ (n - m) := by rw [← Nat.pow_add]; congr 1; omega
  rw [hbit, htwice, hhalf, Nat.mul_div_mul_left _ _ (by decide), htop, Nat.add_sub_add_right, Nat.pow_succ' (n := n), hpow]
  ring

theorem shoutAcc_succ (ord : Bool) {total w sc acc n : Nat} (hw : w < 2 ^ 32) (hn : n + 1 ≤ total) (hn32 : n + 1 ≤ 32) :
    shoutAcc ord total (shoutRest ord w 1) (sc - 1)
      (if ord then acc + bitAt (shoutBit ord w sc 0) (total - (n + 1)) else acc * 2 + bitAt (shoutBit ord w sc 0) 0) n
    = shoutAcc ord total w sc acc (n + 1) := by
  obtain rfl | hsc := Nat.eq_zero_or_pos sc
  · have hbit : shoutBit ord w 0 0 = false := rfl
    rw [hbit]
    cases ord
    · have hw0 : w / 2 ^ 32 = 0 := Nat.div_eq_of_lt hw
      have hr0 : shoutRest false w 1 / 2 ^ 32 = 0 := Nat.div_eq_of_lt (shoutRest_lt false hw 1)
      simp only [shoutAcc, bitAt, Bool.false_eq_true, if_false, Nat.min_zero, Nat.zero_sub, Nat.sub_zero, hw0, hr0, Nat.zero_mul,
        Nat.add_zero]
      rw [Nat.pow_succ' (n := n), Nat.mul_assoc]
    · simp [shoutAcc, bitAt, Nat.mod_one]
  · obtain ⟨k, rfl⟩ : ∃ k, sc = k + 1 := ⟨sc - 1, by omega⟩
    have hmin : min (n + 1) (k + 1) = min n k + 1 := by omega
    have hle : min n k ≤ n := Nat.min_le_left ..
    rw [Nat.add_sub_cancel]
    cases ord
    · exact shoutAcc_succ_left hw hle hmin hn32
    · simp only [shoutAcc, shoutRest, shoutBit, if_true, hmin]
      have hpow : 2 ^ (total - n) = 2 ^ (total - (n + 1)) * 2 := by rw [← Nat.pow_succ]; congr 1; omega
      have hbit : bitAt (decide (0 < k + 1) && w.testBit 0) (total - (n + 1)) = 2 ^ (total - (n + 1)) * (w % 2) := by
        rw [decide_eq_true (Nat.succ_pos k), Bool.true_and, bitAt, Nat.testBit_zero]
        obtain h | h := Nat.mod_two_eq_zero_or_one w
        · rw [h]
          rfl
        · rw [h, Nat.mul_one]
          rfl
      have hmod : w % 2 ^ (min n k + 1) = w % 2 + 2 * (w / 2 % 2 ^ min n k) := by rw [Nat.pow_succ' (n := min n k), Nat.mod_mul]
      rw [hpow, hbit, hmod, Nat.pow_one, Nat.add_assoc, Nat.mul_assoc, ← Nat.mul_add]

theorem List.range_map_succ_cons {α : Type} (f g : Nat → α) (n : Nat) (h : ∀ j < n, g j = f (j + 1)) :
    (List.range (n + 1)).map f = f 0 :: (List.range n).map g := by
  rw [List.range_succ_eq_map, List.map_cons, List.map_map]
  refine congrArg (f 0 :: ·) (List.map_congr_left fun j hj => ?_)
  exact (h j (List.mem_range.1 hj)).symm

/-- A shift out of S alone. -/
theorem shoutLoop_alone (ord : Bool) (total : Nat) : ∀ n g acc last, n ≤ total → n ≤ 32 → shoutLoop ord false total n g acc last
    = ({ g with s := wordN (shoutRest ord g.s.toNat n), sc := g.sc - n }, 0, shoutAcc ord total g.s.toNat g.sc acc n,
      ((List.range n).map (shoutBit ord g.s.toNat g.sc)).reverse ++ last)
  | 0, g, acc, last, _, _ => by
    have hrest : wordN (shoutRest ord g.s.toNat 0) = g.s := by
      apply BitVec.eq_of_toNat_eq
      cases ord <;> simp [shoutRest, wordN, Nat.mod_eq_of_lt g.s.isLt]
    have hacc : shoutAcc ord total g.s.toNat g.sc acc 0 = acc := by
      cases ord <;> simp [shoutAcc, Nat.mod_one, Nat.div_eq_of_lt g.s.isLt]
    rw [shoutLoop, hrest, hacc]
    rfl
  | n + 1, g, acc, last, hn, hn32 => by
    have hs : (wordN (shoutRest ord g.s.toNat 1)).toNat = shoutRest ord g.s.toNat 1 :=
      Nat.mod_eq_of_lt (shoutRest_lt ord g.s.isLt 1)
    have hstep : shoutLoop ord false total (n + 1) g acc last = shoutLoop ord false total n
        { g with s := wordN (shoutRest ord g.s.toNat 1), sc := g.sc - 1 }
        (if ord then acc + bitAt (shoutBit ord g.s.toNat g.sc 0) (total - (n + 1)) else acc * 2 + bitAt (shoutBit ord g.s.toNat g.sc 0) 0)
        (shoutBit ord g.s.toNat g.sc 0 :: last) := by
      have hbit : (if g.sc = 0 then false else if ord then g.s.toNat.testBit 0 else g.s.toNat.testBit 31)
          = shoutBit ord g.s.toNat g.sc 0 := by
        unfold shoutBit
        by_cases h : g.sc = 0
        · simp [h]
        · simp [h, Nat.pos_of_ne_zero h]
      rw [shoutLoop]
      simp only [Bool.and_false, Bool.false_eq_true, if_false, Bool.false_and]
      rw [hbit]
      rfl
    rw [hstep, shoutLoop_alone ord total n _ _ _ (by omega) (by omega)]
    dsimp only
    rw [hs, shoutRest_succ, shoutAcc_succ ord g.s.isLt hn hn32, Nat.sub_sub, Nat.add_comm 1 n,
      List.range_map_succ_cons _ _ n fun j hj => shoutBit_succ ord g.s.toNat g.sc j (by omega), List.reverse_cons, List.append_assoc]
    rfl

/-- A shift that finds enough bits in S loads none. -/
theorem shoutLoop_enough (ord : Bool) (total : Nat) : ∀ n g acc last, n ≤ g.sc →
    shoutLoop ord true total n g acc last = shoutLoop ord false total n g acc last
  | 0, g, acc, last, _ => rfl
  | n + 1, g, acc, last, hn => by
    have hsc : g.sc ≠ 0 := by omega
    rw [shoutLoop, shoutLoop]
    simp only [hsc, decide_false, Bool.and_false, Bool.false_and, Bool.false_eq_true, if_false]
    exact shoutLoop_enough ord total n _ _ _ (by dsimp only; omega)

/-- An empty S loads the oldest word of TXF first. -/
theorem shoutLoop_load (ord : Bool) (total n : Nat) (g : Jig) (acc : Nat) (last : List Bool) {w : Word} {tl : List Word} (hsc : g.sc = 0)
    (htxf : g.txf = w :: tl) : shoutLoop ord true total (n + 1) g acc last
    = shoutLoop ord true total (n + 1) { g with txf := tl, s := w, sc := 32 } acc last := by
  have hpull : g.pullS = some { g with txf := tl, s := w, sc := 32 } := by rw [Jig.pullS, htxf]
  rw [shoutLoop, shoutLoop]
  simp [hsc, hpull]

/-- An empty S finds TXF empty. -/
theorem shoutLoop_empty (ord : Bool) (total n : Nat) (g : Jig) (acc : Nat) (last : List Bool) (hsc : g.sc = 0) (htxf : g.txf = []) :
    shoutLoop ord true total (n + 1) g acc last = (g, n + 1, acc, last) := by
  have hpull : g.pullS = none := by rw [Jig.pullS, htxf]
  rw [shoutLoop]
  simp [hsc, hpull]

end Sys2Proof.Machine
end

section
/-! PROOFS. Jig waits and FIFO instructions (R305, R306, R308). -/

open Sys2Proof Sys2Proof.Machine

namespace Sys2Proof.Proofs

/-- The state with an engine's record replaced. -/
def putJig (u : State) (e : Fin 8) (h : Jig) : State := { u with jig := u.jig.set e.val h e.isLt }

section
variable (u : State) (e : Fin 8)

theorem setJig_putJig (f : Jig → Jig) : u.setJig e f = putJig u e (f u.jig[e]) := rfl

theorem setJig_next (f : Jig → Jig) : (u.setJig e f).jigNext e = putJig u e { f u.jig[e] with pc := ((f u.jig[e]).pc + 1) % 64 } := by
  rw [State.jigNext, State.setJig_setJig]
  rfl

theorem putJig_self (h : Jig) : (putJig u e h).jig[e] = h := by simp [putJig]

theorem putJig_putJig (h h' : Jig) : putJig (putJig u e h) e h' = putJig u e h' := by simp [putJig]

end

/-- What a fresh start of the rate generator sets. -/
theorem jigRealign1_self (u : State) (e : Fin 8) : ∃ st i tm, (u.jigRealign1 e).jig[e]
    = { u.jig[e] with align := u.svclk, tick := 0, step := st, idle := i, tmo := tm } :=
  ⟨_, _, _, State.setJig_self u e _⟩

/-- Room in TXF is no use to a write that missed it in another SVCLK. -/
theorem jigFreed_missed (u : State) (e : Fin 8) (v : Nat) (hm : ∀ m ∈ u.jig[e].txMiss, m.1 ≠ v) : u.jigFreed e v = u := by
  unfold State.jigFreed
  split
  · next x w ovf hx => exact if_neg fun hv => hm _ hx hv.1
  · rfl

/-- A write that found TXF full in the SVCLK that makes room goes in. -/
theorem jigFreed_filled (u : State) (e : Fin 8) (v : Nat) {m : Nat × Word × Bool} (hm : m ∈ u.jig[e].txMiss) (hv : m.1 = v)
    (hroom : u.jig[e].txf.length < 8) : u.jigFreed e v
    = (u.setJig e fun g => { g with txf := g.txf ++ [m.2.1], txMiss := none }).setRf Reg.jigEvt e 2 2 (bitAt m.2.2 0) := by
  unfold State.jigFreed
  split
  · next x w ovf hx =>
    obtain rfl := Option.some.inj (hx.symm.trans hm)
    exact if_pos ⟨hv, hroom⟩
  · next hx =>
    rw [Option.mem_def.1 hm] at hx
    cases hx

/-- The fields of A that a pin, its order or level, and the two flags above them make. -/
theorem pinCode_fields : ∀ (i : Fin 8) (ord : Bool), ∀ x ∈ [0, 16, 32, 48],
    (BitVec.ofNat 10 (i.val + (if ord then 8 else 0) + x)).toNat < 64
      ∧ (BitVec.ofNat 10 (i.val + (if ord then 8 else 0) + x)).toNat % 8 = i.val
      ∧ (BitVec.ofNat 10 (i.val + (if ord then 8 else 0) + x)).toNat.testBit 3 = ord
      ∧ (BitVec.ofNat 10 (i.val + (if ord then 8 else 0) + x)).toNat.testBit 4 = decide (x % 32 = 16)
      ∧ (BitVec.ofNat 10 (i.val + (if ord then 8 else 0) + x)).toNat.testBit 5 = decide (32 ≤ x)
      ∧ (x = 0 → (BitVec.ofNat 10 (i.val + (if ord then 8 else 0) + x)).toNat < 16) := by decide

theorem edgeCode_fields : ∀ (i : Fin 8) (k : Fin 4) (cap : Bool),
    (BitVec.ofNat 10 (i.val + 8 * k.val + if cap then 32 else 0)).toNat < 64
      ∧ (BitVec.ofNat 10 (i.val + 8 * k.val + if cap then 32 else 0)).toNat % 8 = i.val
      ∧ (BitVec.ofNat 10 (i.val + 8 * k.val + if cap then 32 else 0)).toNat / 8 % 4 = k.val
      ∧ (BitVec.ofNat 10 (i.val + 8 * k.val + if cap then 32 else 0)).toNat.testBit 5 = cap := by decide

section
variable {s u : State} {e : Fin 8} (hc : s.clocked = true) (h : s.JigSound e) (hu : ((s.jigTick e).jigFetch e).1 = u) (imm : BitVec 16)
include hc h hu

theorem jigWaitl_waits (i : Fin 8) (ord : Bool) (pins : BitVec 8) :
    exec (.jigWaitl e (BitVec.ofNat 10 (i.val + (if ord then 8 else 0) + 0)) imm pins) s
    = .next (if (if s.sys.vio[2] then pins else 0).getLsbD i.val = ord then
        putJig u e { u.jig[e] with f := false, pc := (u.jig[e].pc + 1) % 64 }
      else putJig u e { u.jig[e] with wait := some (.level i ord), tmo := imm.toNat, began := u.svclk }).settle := by
  obtain ⟨-, hpin, hlv, -, -, hlegal⟩ := pinCode_fields i ord 0 (by simp)
  generalize BitVec.ofNat 10 (i.val + (if ord then 8 else 0) + 0) = a at hpin hlv hlegal ⊢
  have hexec : exec (.jigWaitl e a imm pins) s = finish (s.jigWaitl e a.toNat imm.toNat (s.jigPinsIn pins)) :=
    congrArg finish (State.awake_clocked hc fun t => t.jigWaitl e a.toNat imm.toNat (t.jigPinsIn pins))
  have hfin : (⟨a.toNat % 8, by omega⟩ : Fin 8) = i := Fin.ext hpin
  rw [hexec, State.jigWaitl, State.jigDo_sound h (decide_eq_true (hlegal rfl)), hu, hfin, hlv, setJig_next, State.jigPinsIn]
  rfl

theorem jigWaite_waits (i : Fin 8) (k : Fin 4) (hk : k ≠ 0) (cap : Bool) :
    exec (.jigWaite e (BitVec.ofNat 10 (i.val + 8 * k.val + if cap then 32 else 0)) imm) s
    = .next (putJig u e { u.jig[e] with wait := some (.edge i k.val cap), tmo := imm.toNat, began := u.svclk }).settle := by
  obtain ⟨hlt, hpin, hkind, hcap⟩ := edgeCode_fields i k cap
  generalize BitVec.ofNat 10 (i.val + 8 * k.val + if cap then 32 else 0) = a at hlt hpin hkind hcap ⊢
  have hexec : exec (.jigWaite e a imm) s = finish (s.jigWaite e a.toNat imm.toNat) :=
    congrArg finish (State.awake_clocked hc fun t => t.jigWaite e a.toNat imm.toNat)
  have hfin : (⟨a.toNat % 8, by omega⟩ : Fin 8) = i := Fin.ext hpin
  have hlegal : (decide (a.toNat < 64) && decide (a.toNat / 8 % 4 ≠ 0)) = true := by
    rw [hkind, decide_eq_true hlt, Bool.true_and]
    exact decide_eq_true fun h0 => hk (Fin.ext h0)
  rw [hexec, State.jigWaite, State.jigDo_sound h hlegal, hu, hfin, hkind, hcap]
  rfl

theorem jigWaitg_exec (rln : Bool) : exec (.jigWaitg e (if rln then 1 else 0) imm) s = finish
    (if (u.jig[e].trgAt.filter fun x => decide (x.1 = u.svclk)).isSome && u.jig[e].trgl then
      let t0 := if (u.jig[e].trgAt.filter fun x => decide (x.1 = u.svclk)).any (·.2) then u.jigTrgUncount e else u
      let t1 := (t0.setJig e fun g => { g with trgl := false, f := false, trgAt := none }).jigNext e
      if rln then t1.jigRealign1 e else t1
    else if u.jig[e].trgl then putJig u e { u.jig[e] with
      trgl := false, f := false, wgAt := some (u.svclk, rln), pc := (u.jig[e].pc + 1) % 64 }
    else putJig u e { u.jig[e] with wait := some (.trigger rln), tmo := imm.toNat, began := u.svclk }) := by
  have hlt : (if rln then 1 else 0 : BitVec 10).toNat < 2 := by cases rln <;> decide
  have hbit : (if rln then 1 else 0 : BitVec 10).toNat.testBit 0 = rln := by cases rln <;> rfl
  generalize (if rln then 1 else 0 : BitVec 10) = a at hlt hbit ⊢
  have hexec : exec (.jigWaitg e a imm) s = finish (s.jigWaitg e a.toNat imm.toNat) :=
    congrArg finish (State.awake_clocked hc fun t => t.jigWaitg e a.toNat imm.toNat)
  rw [hexec, State.jigWaitg, State.jigDo_sound h (decide_eq_true hlt), hu, hbit]
  dsimp only
  rw [setJig_next u e fun g => { g with trgl := false, f := false, wgAt := some (u.svclk, rln) }]
  rfl

theorem jigWaitg_waits (rln : Bool) (htrg : (∀ y ∈ u.jig[e].trgAt, y.1 ≠ u.svclk) ∨ u.jig[e].trgl = false) :
    exec (.jigWaitg e (if rln then 1 else 0) imm) s = .next (if u.jig[e].trgl then putJig u e { u.jig[e] with
        trgl := false, f := false, wgAt := some (u.svclk, rln), pc := (u.jig[e].pc + 1) % 64 }
      else putJig u e { u.jig[e] with wait := some (.trigger rln), tmo := imm.toNat, began := u.svclk }).settle := by
  have hno : ¬((u.jig[e].trgAt.filter fun x => decide (x.1 = u.svclk)).isSome && u.jig[e].trgl) = true := by
    obtain hne | hoff := htrg
    · have hnone : (u.jig[e].trgAt.filter fun x => decide (x.1 = u.svclk)) = none := by
        rw [Option.filter_eq_none_iff]
        exact fun y hy hd => hne y hy (of_decide_eq_true hd)
      rw [hnone]
      simp
    · rw [hoff]
      simp
  rw [jigWaitg_exec hc h hu, if_neg hno]
  rfl

omit hc h hu in
/-- Taking back the count of a trigger leaves the engines and the time as they are. -/
theorem jigTrgUncount_leaves : (u.jigTrgUncount e).jig = u.jig ∧ (u.jigTrgUncount e).now = u.now
    ∧ (u.jigTrgUncount e).rf Reg.jigCnt e.val 15 0 = u.rf Reg.jigCnt e.val 15 0 - 1 := by
  have hlt : u.rf Reg.jigCnt e.val 15 0 - 1 < 2 ^ 16 := by
    have : u.rf Reg.jigCnt e.val 15 0 < 2 ^ 16 := Nat.mod_lt _ (by decide)
    omega
  have hrf := State.setRf_rf u Reg.jigCnt e.val (hi := 15) (lo := 0) (u.rf Reg.jigCnt e.val 15 0 - 1) (by decide) (by decide)
  rw [Nat.mod_eq_of_lt hlt] at hrf
  unfold State.jigTrgUncount
  dsimp only
  split
  · exact ⟨by simp, by simp, hrf⟩
  · exact ⟨by simp, by simp, hrf⟩

omit hc in
/-- An engine at an instruction waits for nothing. -/
theorem sound_wait : u.jig[e].wait = none := by
  obtain ⟨hready, -⟩ := h
  have hjig : u.jig = (s.jigTick e).jig := by rw [← hu, State.jigFetch_jig]
  simp only [hjig]
  rw [State.jigTick_self]
  simp only [Jig.ready, Bool.and_eq_true, Option.isNone_iff_eq_none] at hready
  exact hready.1.1.2

theorem jigWaitg_takes_back (rln : Bool) (htrgl : u.jig[e].trgl = true) (y : Nat × Bool) (hy : y ∈ u.jig[e].trgAt) (hnow : y.1 = u.svclk) :
    ∃ t, exec (.jigWaitg e (if rln then 1 else 0) imm) s = .next t
      ∧ t.jig[e].trgl = false ∧ t.jig[e].f = false ∧ t.jig[e].wait = none ∧ t.jig[e].pc = (u.jig[e].pc + 1) % 64
      ∧ (if rln then t.jig[e].align = u.svclk ∧ t.jig[e].tick = 0 else t.jig[e].align = u.jig[e].align ∧ t.jig[e].tick = u.jig[e].tick)
      ∧ t.rf Reg.jigCnt e.val 15 0 = u.rf Reg.jigCnt e.val 15 0 - if y.2 then 1 else 0 := by
  have hhere : (u.jig[e].trgAt.filter fun x => decide (x.1 = u.svclk)) = some y := by
    rw [Option.mem_def.1 hy]
    exact Option.filter_some_pos (decide_eq_true hnow)
  have hexec := jigWaitg_exec hc h hu imm rln
  rw [hhere, htrgl] at hexec
  obtain ⟨u0, hu0, hjig, hnow0, hcnt⟩ : ∃ u0, (if (some y).any (·.2) then u.jigTrgUncount e else u) = u0 ∧ u0.jig = u.jig ∧ u0.now = u.now
      ∧ u0.rf Reg.jigCnt e.val 15 0 = u.rf Reg.jigCnt e.val 15 0 - if y.2 then 1 else 0 := by
    refine ⟨_, rfl, ?_⟩
    rw [Option.any_some]
    split
    · exact jigTrgUncount_leaves
    · exact ⟨rfl, rfl, rfl⟩
  have hwait := sound_wait h hu
  rw [hu0, if_pos (show ((some y).isSome && true) = true from rfl)] at hexec
  dsimp only at hexec
  rw [setJig_next] at hexec
  have hsv : u0.svclk = u.svclk := congrArg (fun n => (n + 1) / 2) hnow0
  simp only [hjig] at hexec
  cases rln with
  | false =>
    refine ⟨_, hexec, ?_⟩
    simp only [Bool.false_eq_true, if_false, State.settle_jig, putJig_self]
    exact ⟨trivial, trivial, hwait, trivial, ⟨trivial, trivial⟩, hcnt⟩
  | true =>
    obtain ⟨st, i, tm, hre⟩ := jigRealign1_self (putJig u0 e { u.jig[e] with
      trgl := false, f := false, trgAt := none, pc := (u.jig[e].pc + 1) % 64 }) e
    refine ⟨_, hexec, ?_⟩
    simp only [if_true, State.settle_jig, hre, putJig_self]
    exact ⟨trivial, trivial, hwait, trivial, ⟨hsv, trivial⟩, hcnt⟩

/-! ### PUSH and PULL (R308) -/

omit hc h hu in
theorem nbCode_fields : ∀ nb : Bool, (if nb then 1 else 0 : BitVec 10).toNat < 2 ∧ (if nb then 1 else 0 : BitVec 10).toNat.testBit 0 = nb
    ∧ (if nb then 1 else 0 : BitVec 10).toNat.testBit 1 = false := by decide

theorem jigPush_pushes (nb : Bool) : exec (.jigPush e (if nb then 1 else 0) 0) s = .next (if u.jig[e].rxf.length < 8 then
      putJig u e { u.jig[e] with
        rxf := u.jig[e].rxf ++ [u.jig[e].s], s := 0, sc := 0, pushAt := some u.svclk, pc := (u.jig[e].pc + 1) % 64 }
    else if nb then putJig u e { u.jig[e] with f := true, nbMiss := some (u.svclk, false, u.jig[e].f), pc := (u.jig[e].pc + 1) % 64 }
    else putJig u e { u.jig[e] with stall := some .push }).settle := by
  obtain ⟨hlt, hbit, hclear⟩ := nbCode_fields nb
  generalize (if nb then 1 else 0 : BitVec 10) = a at hlt hbit hclear ⊢
  have hexec : exec (.jigPush e a 0) s = finish (s.jigPush e a.toNat 0) :=
    congrArg finish (State.awake_clocked hc fun t => t.jigPush e a.toNat 0)
  have hlegal : (decide (a.toNat < 4) && decide (0 = 0)) = true := by rw [decide_eq_true (show a.toNat < 4 by omega)]; rfl
  rw [hexec, State.jigPush, State.jigDo_sound h hlegal, hu, hbit, hclear, if_neg Bool.false_ne_true, Jig.pushS]
  by_cases hroom : u.jig[e].rxf.length < 8
  · rw [if_pos hroom, if_pos hroom]
    dsimp only
    rw [setJig_next]
    rfl
  · rw [if_neg hroom, if_neg hroom]
    dsimp only
    rw [setJig_next]
    rfl

theorem jigPush_clears : exec (.jigPush e 2 0) s = .next (putJig u e { u.jig[e] with s := 0, sc := 0, pc := (u.jig[e].pc + 1) % 64 }).settle := by
  have hexec : exec (.jigPush e 2 0) s = finish (s.jigPush e 2 0) := congrArg finish (State.awake_clocked hc fun t => t.jigPush e 2 0)
  rw [hexec, State.jigPush, State.jigDo_sound h (show (decide (2 < 4) && decide (0 = 0)) = true from rfl), hu,
    if_pos (show Nat.testBit 2 1 = true from rfl), setJig_next]
  rfl

theorem jigPull_exec (nb : Bool) : exec (.jigPull e (if nb then 1 else 0) 0) s = finish (match u.jig[e].pullS with
    | some g => ((u.setJig e fun _ => g).jigFreed e u.svclk).jigNext e
    | none =>
      if nb then (u.setJig e fun g => { g with f := true, nbMiss := some (u.svclk, true, g.f) }).jigNext e
      else u.setJig e fun g => { g with stall := some .pull }) := by
  obtain ⟨hlt, hbit, -⟩ := nbCode_fields nb
  generalize (if nb then 1 else 0 : BitVec 10) = a at hlt hbit ⊢
  have hexec : exec (.jigPull e a 0) s = finish (s.jigPull e a.toNat 0) :=
    congrArg finish (State.awake_clocked hc fun t => t.jigPull e a.toNat 0)
  have hlegal : (decide (a.toNat < 2) && decide (0 = 0)) = true := by rw [decide_eq_true hlt]; rfl
  rw [hexec, State.jigPull, State.jigDo_sound h hlegal, hu, hbit] <;>
    rfl

theorem jigPull_empty (nb : Bool) (htxf : u.jig[e].txf = []) : exec (.jigPull e (if nb then 1 else 0) 0) s = .next
    (if nb then putJig u e { u.jig[e] with f := true, nbMiss := some (u.svclk, true, u.jig[e].f), pc := (u.jig[e].pc + 1) % 64 }
    else putJig u e { u.jig[e] with stall := some .pull }).settle := by
  rw [jigPull_exec hc h hu, Jig.pullS, htxf]
  dsimp only
  rw [setJig_next]
  rfl

section
variable {w : Word} (hw : w ∈ u.jig[e].txf.head?)
include hw

omit hc h hu in
theorem pullS_some : u.jig[e].pullS = some { u.jig[e] with txf := u.jig[e].txf.tail, s := w, sc := 32 } := by
  obtain ⟨tl, htl⟩ : ∃ tl, u.jig[e].txf = w :: tl := by
    cases htxf : u.jig[e].txf with
    | nil => rw [htxf] at hw; cases hw
    | cons x tl => rw [htxf] at hw; exact ⟨tl, by rw [Option.some.inj hw]⟩
  rw [Jig.pullS, htl]
  rfl

theorem jigPull_takes (nb : Bool) (hmiss : ∀ m ∈ u.jig[e].txMiss, m.1 ≠ u.svclk) : exec (.jigPull e (if nb then 1 else 0) 0) s
    = .next (putJig u e { u.jig[e] with txf := u.jig[e].txf.tail, s := w, sc := 32, pc := (u.jig[e].pc + 1) % 64 }).settle := by
  rw [jigPull_exec hc h hu, pullS_some hw]
  dsimp only
  rw [jigFreed_missed _ e _ (by rw [State.setJig_self]; exact hmiss), setJig_next]
  rfl

theorem jigPull_fills (nb : Bool) (hlen : u.jig[e].txf.length ≤ 8) (m : Nat × Word × Bool) (hm : m ∈ u.jig[e].txMiss) (hnow : m.1 = u.svclk) :
    ∃ t, exec (.jigPull e (if nb then 1 else 0) 0) s = .next t
      ∧ t.jig[e] = { u.jig[e] with
          txf := u.jig[e].txf.tail ++ [m.2.1], s := w, sc := 32, txMiss := none, pc := (u.jig[e].pc + 1) % 64 }
      ∧ t.rb Reg.jigEvt e.val 2 = m.2.2 := by
  have hroom : u.jig[e].txf.tail.length < 8 := by
    rw [List.length_tail]
    omega
  have hexec := jigPull_exec hc h hu nb
  rw [pullS_some hw] at hexec
  dsimp only at hexec
  rw [jigFreed_filled (m := m) _ e _ (by rw [State.setJig_self]; exact hm) hnow (by rw [State.setJig_self]; exact hroom)] at hexec
  refine ⟨_, hexec, ?_, ?_⟩
  · rw [State.settle_jig, State.jigNext, State.setJig_self]
    simp only [State.setRf_jig, State.setJig_setJig, State.setJig_self]
    rfl
  · have hbit := State.setRf_rb ((u.setJig e fun _ => { u.jig[e] with txf := u.jig[e].txf.tail, s := w, sc := 32 }).setJig e
      fun g => { g with txf := g.txf ++ [m.2.1], txMiss := none }) Reg.jigEvt e.val (n := 2) (bitAt m.2.2 0) (by decide)
    exact hbit.trans (by cases m.2.2 <;> rfl)

end

end

end Sys2Proof.Proofs
end

section
/-! PROOFS. Jig shifts (R307, R313, R316). -/

open Sys2Proof Sys2Proof.Machine

namespace Sys2Proof.Proofs

/-! ### SHIN -/

/-- S once n bits of X have gone in. -/
def shinX (g : Jig) (ord : Bool) (n : Nat) : Nat :=
  if ord then g.s.toNat / 2 ^ n + g.x.toNat % 2 ^ n * 2 ^ (32 - n) else (g.s.toNat * 2 ^ n + g.x.toNat % 2 ^ n) % 2 ^ 32

/-- An engine that has taken n bits, with the number v in S. -/
def shinTook (n v : Nat) (g : Jig) : Jig := { g with s := wordN v, sc := min 32 (g.sc + n) }

/-- How a SHIN ends, on the engine that has taken its bits. -/
def shinEnds (u : State) (e : Fin 8) (last : Bool) : State :=
  if last || u.jigAutoPush e then
    match u.jig[e].pushS u.svclk with
    | some g2 => (u.setJig e fun _ => g2).jigShifted e
    | none => u.setJig e fun g => { g with stall := some .shinEnd }
  else u.jigShifted e

theorem shinEnds_moves {u : State} {e : Fin 8} (ha : u.jigAutoPush e = false) : shinEnds u e false = u.jigShifted e := by
  rw [shinEnds, ha]
  rfl

/-- APUSH brings the END write at this count of bits. -/
def autoPushed (u : State) (e : Fin 8) (sc : Nat) : Bool :=
  u.rb Reg.jigCfg e.val 7 && decide ((if u.rf Reg.jigCfg e.val 12 8 = 0 then 32 else u.rf Reg.jigCfg e.val 12 8) ≤ sc)

section
variable (u : State) (e : Fin 8)

theorem jigCfg_span (n : Nat) : (u.jigSpan e n).rg Reg.jigCfg e.val = u.rg Reg.jigCfg e.val :=
  State.jigSpan_rg _ _ _ _ _ _ ((by decide : ∀ e : Fin 8, alwaysOnSys (Reg.jigCfg.addr e.val 0) = false) e)

theorem jigAutoPush_took (m n v : Nat) : ((u.jigSpan e m).setJig e (shinTook n v)).jigAutoPush e = autoPushed u e (min 32 (u.jig[e].sc + n)) := by
  have hrg : ((u.jigSpan e m).setJig e (shinTook n v)).rg Reg.jigCfg e.val = u.rg Reg.jigCfg e.val := jigCfg_span u e m
  have hsc : (((u.jigSpan e m).setJig e (shinTook n v)).jig[e]).sc = min 32 (u.jig[e].sc + n) := by
    rw [State.setJig_self, State.jigSpan_self]
    rfl
  unfold State.jigAutoPush autoPushed State.rb State.rf
  rw [hrg, hsc]

theorem jigShifted_next (hsw : u.jig[e].swpend = false) : u.jigShifted e = putJig u e { u.jig[e] with pc := (u.jig[e].pc + 1) % 64 } := by
  have hsw' : (u.jigNext e).jig[e].swpend = false := by
    rw [State.jigNext, State.setJig_self]
    exact hsw
  rw [State.jigShifted, State.jigCommit_none e hsw']
  rfl

theorem jigShifted_swaps (hsw : u.jig[e].swpend = true) : u.jigShifted e
    = (putJig u e { u.jig[e] with bank := !u.jig[e].bank, pc := u.rf Reg.jigCfg e.val 21 16, swpend := false }).setBit Reg.jigEvt e 4 := by
  have hsw' : (u.jigNext e).jig[e].swpend = true := by
    rw [State.jigNext, State.setJig_self]
    exact hsw
  rw [State.jigShifted, State.jigCommit, if_pos hsw', State.jigSwap, State.jigNext, State.setJig_setJig]
  rfl

end

section
variable {s u : State} {e : Fin 8} (hc : s.clocked = true) (h : s.JigSound e) (hu : ((s.jigTick e).jigFetch e).1 = u)
variable (i : Fin 8) (n : Fin 33) (hn : n ≠ 0) (ord : Bool) (bits : BitVec 32)

/-- The field A of a shift by pin i in order ord, with the flags x. -/
def shiftCode (i : Fin 8) (ord : Bool) (x : Nat) : BitVec 10 := BitVec.ofNat 10 (i.val + (if ord then 8 else 0) + x)

include hn in
theorem shiftLen : (BitVec.ofNat 16 n.val).toNat = n.val ∧ 1 ≤ n.val ∧ n.val ≤ 32 := by
  have hpos : n.val ≠ 0 := fun h0 => hn (Fin.ext h0)
  refine ⟨?_, by omega, by omega⟩
  rw [BitVec.toNat_ofNat]
  omega

section
include hc h hu hn

/-- A SHIN of X. -/
theorem jigShin_x (last : Bool) : exec (.jigShin e (shiftCode i ord (if last then 48 else 16)) (BitVec.ofNat 16 n.val) bits) s
    = finish (shinEnds (u.setJig e (shinTook n.val (shinX u.jig[e] ord n.val))) e last) := by
  obtain ⟨hlen, hpos, hle⟩ := shiftLen n hn
  obtain ⟨hlt, -, hord, hx, hlast, -⟩ := pinCode_fields i ord (if last then 48 else 16) (by cases last <;> simp)
  have hx' : decide ((if last then 48 else 16) % 32 = 16) = true := by cases last <;> rfl
  have hlast' : decide (32 ≤ if last then 48 else 16) = last := by cases last <;> rfl
  rw [hx'] at hx
  rw [hlast'] at hlast
  unfold shiftCode
  generalize BitVec.ofNat 10 (i.val + (if ord then 8 else 0) + if last then 48 else 16) = a at hlt hord hx hlast ⊢
  generalize BitVec.ofNat 16 n.val = len at hlen ⊢
  have hexec : exec (.jigShin e a len bits) s = finish (s.jigShin e a.toNat len.toNat (if s.sys.vio[2] then bits.toNat else 0)) :=
    congrArg finish (State.awake_clocked hc fun t => t.jigShin e a.toNat len.toNat (if t.sys.vio[2] then bits.toNat else 0))
  have hlegal : (decide (a.toNat < 64) && decide (1 ≤ n.val) && decide (n.val ≤ 32)) = true := by
    rw [decide_eq_true hlt, decide_eq_true hpos, decide_eq_true hle]
    rfl
  rw [hexec, hlen, State.jigShin, State.jigDo_sound h hlegal, hu, hord, hx, hlast]
  dsimp only
  rw [if_pos rfl, if_pos rfl, State.jigSpan_zero]
  rfl

/-- A SHIN of a pin. -/
theorem jigShin_pin (last : Bool) : exec (.jigShin e (shiftCode i ord (if last then 32 else 0)) (BitVec.ofNat 16 n.val) bits) s
    = finish (shinEnds ((u.jigSpan e (n.val - 1)).setJig e (shinTook n.val
      (shinBits ord true (if s.sys.vio[2] then bits.toNat else 0) n.val n.val u.jig[e].s.toNat))) e last) := by
  obtain ⟨hlen, hpos, hle⟩ := shiftLen n hn
  obtain ⟨hlt, -, hord, hx, hlast, -⟩ := pinCode_fields i ord (if last then 32 else 0) (by cases last <;> simp)
  have hx' : decide ((if last then 32 else 0) % 32 = 16) = false := by cases last <;> rfl
  have hlast' : decide (32 ≤ if last then 32 else 0) = last := by cases last <;> rfl
  rw [hx'] at hx
  rw [hlast'] at hlast
  unfold shiftCode
  generalize BitVec.ofNat 10 (i.val + (if ord then 8 else 0) + if last then 32 else 0) = a at hlt hord hx hlast ⊢
  generalize BitVec.ofNat 16 n.val = len at hlen ⊢
  have hexec : exec (.jigShin e a len bits) s = finish (s.jigShin e a.toNat len.toNat (if s.sys.vio[2] then bits.toNat else 0)) :=
    congrArg finish (State.awake_clocked hc fun t => t.jigShin e a.toNat len.toNat (if t.sys.vio[2] then bits.toNat else 0))
  have hlegal : (decide (a.toNat < 64) && decide (1 ≤ n.val) && decide (n.val ≤ 32)) = true := by
    rw [decide_eq_true hlt, decide_eq_true hpos, decide_eq_true hle]
    rfl
  rw [hexec, hlen, State.jigShin, State.jigDo_sound h hlegal, hu, hord, hx, hlast]
  rfl

/-- Without its END write, a SHIN moves on. -/
theorem jigShin_x_moves (hsw : u.jig[e].swpend = false) (ha : autoPushed u e (min 32 (u.jig[e].sc + n.val)) = false) :
    exec (.jigShin e (shiftCode i ord 16) (BitVec.ofNat 16 n.val) bits) s = .next (putJig u e { u.jig[e] with
      s := BitVec.ofNat 32 (shinX u.jig[e] ord n.val), sc := min 32 (u.jig[e].sc + n.val), pc := (u.jig[e].pc + 1) % 64 }).settle := by
  have hauto := jigAutoPush_took u e 0 n.val (shinX u.jig[e] ord n.val)
  rw [State.jigSpan_zero, ha] at hauto
  rw [show shiftCode i ord 16 = shiftCode i ord (if false then 48 else 16) from rfl, jigShin_x hc h hu i n hn ord bits false,
    shinEnds_moves hauto, jigShifted_next _ _ (by rw [State.setJig_self]; exact hsw), State.setJig_self, setJig_putJig, putJig_putJig]
  rfl

/-- A SHIN that ends with a swap pending makes it. -/
theorem jigShin_x_swaps (hsw : u.jig[e].swpend = true) (ha : autoPushed u e (min 32 (u.jig[e].sc + n.val)) = false) :
    ∃ t, exec (.jigShin e (shiftCode i ord 16) (BitVec.ofNat 16 n.val) bits) s = .next t ∧ t.rb Reg.jigEvt e.val 4 = true
      ∧ t.jig[e] = { u.jig[e] with
          s := BitVec.ofNat 32 (shinX u.jig[e] ord n.val), sc := min 32 (u.jig[e].sc + n.val), bank := !u.jig[e].bank
          pc := u.rf Reg.jigCfg e.val 21 16, swpend := false } := by
  have hauto := jigAutoPush_took u e 0 n.val (shinX u.jig[e] ord n.val)
  rw [State.jigSpan_zero, ha] at hauto
  have hexec := jigShin_x hc h hu i n hn ord bits false
  rw [shinEnds_moves hauto, jigShifted_swaps _ _ (by rw [State.setJig_self]; exact hsw)] at hexec
  refine ⟨_, hexec, State.setRf_rb _ _ _ _ (by decide), ?_⟩
  rw [State.settle_jig, State.setBit_jig, putJig_self, State.setJig_self]
  rfl

section
variable (last : Bool)

/-- With room in RXF the END write goes in. -/
theorem jigShin_x_pushes (hsw : u.jig[e].swpend = false) (hroom : u.jig[e].rxf.length < 8) :
    exec (.jigShin e (shiftCode i ord 48) (BitVec.ofNat 16 n.val) bits) s = .next (putJig u e { u.jig[e] with
      rxf := u.jig[e].rxf ++ [BitVec.ofNat 32 (shinX u.jig[e] ord n.val)], s := 0, sc := 0, pushAt := some u.svclk
      pc := (u.jig[e].pc + 1) % 64 }).settle := by
  have hpush : ((u.setJig e (shinTook n.val (shinX u.jig[e] ord n.val))).jig[e]).pushS u.svclk = some { u.jig[e] with
      rxf := u.jig[e].rxf ++ [BitVec.ofNat 32 (shinX u.jig[e] ord n.val)], s := 0, sc := 0, pushAt := some u.svclk } := by
    rw [State.setJig_self, Jig.pushS]
    exact if_pos hroom
  have hsv : (u.setJig e (shinTook n.val (shinX u.jig[e] ord n.val))).svclk = u.svclk := rfl
  rw [show shiftCode i ord 48 = shiftCode i ord (if true then 48 else 16) from rfl, jigShin_x hc h hu i n hn ord bits true, shinEnds,
    Bool.true_or, if_pos rfl, hsv, hpush]
  dsimp only
  rw [jigShifted_next _ _ (by rw [State.setJig_self]; exact hsw), State.setJig_self, State.setJig_setJig, setJig_putJig, putJig_putJig]
  rfl

/-- The END write stalls on a full RXF. -/
theorem jigShin_x_stalls (hfull : 8 ≤ u.jig[e].rxf.length) :
    exec (.jigShin e (shiftCode i ord 48) (BitVec.ofNat 16 n.val) bits) s = .next (putJig u e { u.jig[e] with
      s := BitVec.ofNat 32 (shinX u.jig[e] ord n.val), sc := min 32 (u.jig[e].sc + n.val), stall := some .shinEnd }).settle := by
  have hpush : ((u.setJig e (shinTook n.val (shinX u.jig[e] ord n.val))).jig[e]).pushS u.svclk = none := by
    rw [State.setJig_self, Jig.pushS]
    exact if_neg (Nat.not_lt.2 hfull)
  have hsv : (u.setJig e (shinTook n.val (shinX u.jig[e] ord n.val))).svclk = u.svclk := rfl
  rw [show shiftCode i ord 48 = shiftCode i ord (if true then 48 else 16) from rfl, jigShin_x hc h hu i n hn ord bits true, shinEnds,
    Bool.true_or, if_pos rfl, hsv, hpush]
  dsimp only
  rw [State.setJig_setJig]
  rfl

end

/-- APUSH acts as END. -/
theorem jigShin_auto (ha : autoPushed u e (min 32 (u.jig[e].sc + n.val)) = true) (y : Nat) (hy : y ∈ [0, 16]) :
    exec (.jigShin e (shiftCode i ord y) (BitVec.ofNat 16 n.val) bits) s
      = exec (.jigShin e (shiftCode i ord (y + 32)) (BitVec.ofNat 16 n.val) bits) s := by
  have hends (m v : Nat) (last : Bool) : shinEnds ((u.jigSpan e m).setJig e (shinTook n.val v)) e last
      = shinEnds ((u.jigSpan e m).setJig e (shinTook n.val v)) e true := by
    unfold shinEnds
    rw [jigAutoPush_took, ha, Bool.or_true, Bool.or_true]
  obtain rfl | rfl : y = 0 ∨ y = 16 := by simpa using hy
  · rw [show shiftCode i ord 0 = shiftCode i ord (if false then 32 else 0) from rfl, jigShin_pin hc h hu i n hn ord bits false, hends,
      ← jigShin_pin hc h hu i n hn ord bits true]
    rfl
  · have hends' := hends 0 (shinX u.jig[e] ord n.val) false
    rw [State.jigSpan_zero] at hends'
    rw [show shiftCode i ord 16 = shiftCode i ord (if false then 48 else 16) from rfl, jigShin_x hc h hu i n hn ord bits false, hends',
      ← jigShin_x hc h hu i n hn ord bits true]
    rfl

/-- A SHIN of a pin takes one level at each tick. -/
theorem jigShin_pin_moves (hsw : u.jig[e].swpend = false) (ha : autoPushed u e (min 32 (u.jig[e].sc + n.val)) = false) :
    ∃ t, exec (.jigShin e (shiftCode i ord 0) (BitVec.ofNat 16 n.val) bits) s = .next t
      ∧ t.jig[e] = { (u.jigSpan e (n.val - 1)).jig[e] with
          s := t.jig[e].s, sc := min 32 (u.jig[e].sc + n.val), pc := (u.jig[e].pc + 1) % 64 }
      ∧ t.now = (u.jigSpan e (n.val - 1)).now
      ∧ ∀ j : Fin 32, t.jig[e].s.getLsbD j.val = (if ord then
          (if j.val < 32 - n.val then u.jig[e].s.getLsbD (j.val + n.val)
            else (if s.sys.vio[2] then bits else 0).getLsbD (j.val + n.val - 32))
        else if j.val < n.val then (if s.sys.vio[2] then bits else 0).getLsbD (n.val - 1 - j.val) else u.jig[e].s.getLsbD (j.val - n.val)) := by
  obtain ⟨-, -, hle⟩ := shiftLen n hn
  have hbits : (if s.sys.vio[2] then bits.toNat else 0) = (if s.sys.vio[2] then bits else 0).toNat := by
    split
    · rfl
    · rfl
  have hexec := jigShin_pin hc h hu i n hn ord bits false
  rw [hbits] at hexec
  generalize (if s.sys.vio[2] then bits else 0) = got at hexec ⊢
  generalize hv : shinBits ord true got.toNat n.val n.val u.jig[e].s.toNat = v at hexec
  rw [shinEnds_moves (by rw [jigAutoPush_took, ha]), jigShifted_next _ _ (by rw [State.setJig_self, State.jigSpan_self]; exact hsw),
    State.setJig_self] at hexec
  refine ⟨_, hexec, ?_, ?_, fun j => ?_⟩
  · rw [State.settle_jig, putJig_self, State.jigSpan_self]
    rfl
  · rfl
  · rw [State.settle_jig, putJig_self]
    have hbit : (wordN v).getLsbD j.val = v.testBit j.val := by
      rw [wordN, BitVec.getLsbD_ofNat, decide_eq_true j.isLt, Bool.true_and]
    refine hbit.trans ?_
    rw [← hv]
    cases ord
    · exact (shinBits_left _ _ _ _ (le_refl _) _ j.isLt).trans (by rw [Nat.sub_self, Nat.zero_add]; rfl)
    · exact (shinBits_right _ _ _ _ (le_refl _) hle u.jig[e].s.isLt _ j.isLt).trans (by rw [Nat.sub_self, Nat.zero_add]; rfl)

end

end

end Sys2Proof.Proofs
end

section
/-! PROOFS. Jig shifts out (R307, R308, R316). -/

open Sys2Proof Sys2Proof.Machine

namespace Sys2Proof.Proofs

section
variable {u : State} {e : Fin 8} {ord fetch : Bool} {left total acc : Nat} {g : Jig} {acc' : Nat} {bits : List Bool} (pin : Fin 8) (had : Nat)

/-- The end of a SHOUT to X. -/
theorem jigShoutGo_x (hloop : shoutLoop ord fetch total left u.jig[e] acc [] = (g, 0, acc', bits)) (hsw : u.jig[e].swpend = false)
    (hfree : ¬ g.txf.length < u.jig[e].txf.length ∨ u.jig[e].txMiss = none) :
    u.jigShoutGo e pin ord true fetch left total acc had = putJig u e { u.jig[e] with
      s := g.s, sc := g.sc, txf := g.txf, stall := none, x := wordN acc', pc := (u.jig[e].pc + 1) % 64 } := by
  generalize hw : u.setJig e (fun h => { h with s := g.s, sc := g.sc, txf := g.txf, stall := none, wave := h.wave }) = w
  have hwjig : w.jig[e] = { u.jig[e] with s := g.s, sc := g.sc, txf := g.txf, stall := none } := by rw [← hw, State.setJig_self]
  have hfreed : (if g.txf.length < u.jig[e].txf.length then w.jigFreed e u.svclk else w) = w := by
    obtain hlen | hmiss := hfree
    · exact if_neg hlen
    · rw [jigFreed_missed w e _ (by rw [hwjig]; dsimp only; rw [hmiss]; intro m hm; cases hm), ite_self]
  have hend : (w.setJig e fun g => { g with x := wordN acc' }).jigShifted e = putJig u e { u.jig[e] with
      s := g.s, sc := g.sc, txf := g.txf, stall := none, x := wordN acc', pc := (u.jig[e].pc + 1) % 64 } := by
    rw [jigShifted_next _ _ (by rw [State.setJig_self, hwjig]; exact hsw), State.setJig_self, hwjig, setJig_putJig, putJig_putJig, ← hw,
      setJig_putJig, putJig_putJig]
  unfold State.jigShoutGo
  dsimp only
  rw [hloop]
  dsimp only
  cases bits with
  | nil => simp only [eq_self, if_true, State.jigSpan_zero, hw, hfreed, hend]
  | cons b bs => simp only [eq_self, if_true, State.jigSpan_zero, hw, hfreed, hend]

end

/-- The number of all bits of a word that a shift makes. -/
theorem shoutAcc_word (ord : Bool) (w n : Nat) (hn : n ≤ 32) :
    shoutAcc ord n w 32 0 n = if ord then w % 2 ^ n else w / 2 ^ (32 - n) := by
  unfold shoutAcc
  rw [Nat.min_eq_left hn, Nat.sub_self, Nat.zero_mul, Nat.pow_zero, Nat.zero_add, Nat.zero_add, Nat.one_mul, Nat.mul_one]

/-- A SHOUT to X of an empty S loads the oldest word of TXF. -/
theorem jigShoutGo_loads (u : State) (e pin : Fin 8) (ord : Bool) (had : Nat) {n : Nat} (hpos : 1 ≤ n) (hle : n ≤ 32) (hsw : u.jig[e].swpend = false)
    (hsc : u.jig[e].sc = 0) (hmiss : u.jig[e].txMiss = none) {w : Word} (hw : w ∈ u.jig[e].txf.head?) :
    u.jigShoutGo e pin ord true true n n 0 had = putJig u e { u.jig[e] with
      s := wordN (shoutRest ord w.toNat n), sc := 32 - n, txf := u.jig[e].txf.tail, stall := none
      x := wordN (if ord then w.toNat % 2 ^ n else w.toNat / 2 ^ (32 - n)), pc := (u.jig[e].pc + 1) % 64 } := by
  obtain ⟨m, rfl⟩ : ∃ m, n = m + 1 := ⟨n - 1, by omega⟩
  obtain ⟨tl, htl⟩ : ∃ tl, u.jig[e].txf = w :: tl := by
    cases htxf : u.jig[e].txf with
    | nil => rw [htxf] at hw; cases hw
    | cons x tl => rw [htxf] at hw; exact ⟨tl, by rw [Option.some.inj hw]⟩
  have hloop := (shoutLoop_load ord (m + 1) m u.jig[e] 0 [] hsc htl).trans ((shoutLoop_enough ord (m + 1) (m + 1) _ 0 [] hle).trans
    (shoutLoop_alone ord (m + 1) (m + 1) _ 0 [] (le_refl _) hle))
  rw [jigShoutGo_x pin had hloop hsw (.inr hmiss), shoutAcc_word _ _ _ hle, htl]
  rfl

/-- The number that X takes from a word has its value. -/
theorem wordN_shout (ord : Bool) (w : Word) (n : Nat) :
    (wordN (if ord then w.toNat % 2 ^ n else w.toNat / 2 ^ (32 - n))).toNat = if ord then w.toNat % 2 ^ n else w.toNat / 2 ^ (32 - n) := by
  refine Nat.mod_eq_of_lt (lt_of_le_of_lt ?_ w.isLt)
  split
  · exact Nat.mod_le _ _
  · exact Nat.div_le_self _ _

section
variable {s u : State} {e : Fin 8} (hc : s.clocked = true) (h : s.JigSound e) (hu : ((s.jigTick e).jigFetch e).1 = u)
variable (i : Fin 8) (n : Fin 33) (hn : n ≠ 0) (ord : Bool)
include hc h hu hn

theorem jigShout_exec (x : Nat) (hx : x ∈ [0, 16, 32, 48]) : exec (.jigShout e (shiftCode i ord x) (BitVec.ofNat 16 n.val)) s
    = finish (u.jigShoutGo e i ord (decide (x % 32 = 16)) (decide (32 ≤ x) || u.rb Reg.jigCfg e.val 13) n.val n.val 0 1) := by
  obtain ⟨hlen, hpos, hle⟩ := shiftLen n hn
  obtain ⟨hlt, hpin, hord, hdst, hlast, -⟩ := pinCode_fields i ord x hx
  unfold shiftCode
  generalize BitVec.ofNat 10 (i.val + (if ord then 8 else 0) + x) = a at hlt hpin hord hdst hlast ⊢
  generalize BitVec.ofNat 16 n.val = len at hlen ⊢
  have hexec : exec (.jigShout e a len) s = finish (s.jigShout e a.toNat len.toNat) :=
    congrArg finish (State.awake_clocked hc fun t => t.jigShout e a.toNat len.toNat)
  have hlegal : (decide (a.toNat < 64) && decide (1 ≤ n.val) && decide (n.val ≤ 32)) = true := by
    rw [decide_eq_true hlt, decide_eq_true hpos, decide_eq_true hle]
    rfl
  have hfin : (⟨a.toNat % 8, by omega⟩ : Fin 8) = i := Fin.ext hpin
  rw [hexec, hlen, State.jigShout, State.jigDo_sound h hlegal, hu, hfin, hord, hdst, hlast]

/-- APULL acts as FETCH. -/
theorem jigShout_auto (hp : u.rb Reg.jigCfg e.val 13 = true) (y : Nat) (hy : y ∈ [0, 16]) :
    exec (.jigShout e (shiftCode i ord y) (BitVec.ofNat 16 n.val)) s
      = exec (.jigShout e (shiftCode i ord (y + 32)) (BitVec.ofNat 16 n.val)) s := by
  have hy' : y = 0 ∨ y = 16 := by simpa using hy
  rw [jigShout_exec hc h hu i n hn ord y (by obtain rfl | rfl := hy' <;> simp),
    jigShout_exec hc h hu i n hn ord (y + 32) (by obtain rfl | rfl := hy' <;> simp), hp, Bool.or_true, Bool.or_true, Nat.add_mod_right]

/-- A SHOUT to X of the bits in S. -/
theorem jigShout_x_moves (hsw : u.jig[e].swpend = false) (hp : u.rb Reg.jigCfg e.val 13 = false) (hst : u.jig[e].stall = none) :
    exec (.jigShout e (shiftCode i ord 16) (BitVec.ofNat 16 n.val)) s = .next (putJig u e { u.jig[e] with
      x := BitVec.ofNat 32 (shoutAcc ord n.val u.jig[e].s.toNat u.jig[e].sc 0 n.val)
      s := BitVec.ofNat 32 (shoutRest ord u.jig[e].s.toNat n.val), sc := u.jig[e].sc - n.val, pc := (u.jig[e].pc + 1) % 64 }).settle := by
  obtain ⟨-, -, hle⟩ := shiftLen n hn
  have hloop := shoutLoop_alone ord n.val n.val u.jig[e] 0 [] (le_refl _) hle
  rw [jigShout_exec hc h hu i n hn ord 16 (by simp), hp]
  refine (congrArg finish (jigShoutGo_x i 1 hloop hsw (.inl (Nat.lt_irrefl _)))).trans ?_
  dsimp only
  rw [← hst]
  rfl

theorem jigShout_fetches (hsw : u.jig[e].swpend = false) (hsc : u.jig[e].sc = 0) (hmiss : u.jig[e].txMiss = none) {w : Word}
    (hw : w ∈ u.jig[e].txf.head?) : ∃ t, exec (.jigShout e (shiftCode i ord 48) (BitVec.ofNat 16 n.val)) s = .next t
      ∧ t.jig[e].x.toNat = (if ord then w.toNat % 2 ^ n.val else w.toNat / 2 ^ (32 - n.val)) ∧ t.jig[e].txf = u.jig[e].txf.tail
      ∧ t.jig[e].sc = 32 - n.val ∧ t.jig[e].stall = none ∧ t.jig[e].pc = (u.jig[e].pc + 1) % 64 := by
  obtain ⟨-, hpos, hle⟩ := shiftLen n hn
  have hexec := jigShout_exec hc h hu i n hn ord 48 (by simp)
  refine ⟨_, hexec.trans (congrArg finish (jigShoutGo_loads u e i ord 1 hpos hle hsw hsc hmiss hw)), ?_⟩
  simp only [State.settle_jig, putJig_self]
  exact ⟨wordN_shout ord w n.val, trivial, trivial, trivial, trivial⟩

omit hc hn in
/-- An engine at an instruction has stalled at none. -/
theorem sound_stall : u.jig[e].stall = none := by
  obtain ⟨hready, -⟩ := h
  have hjig : u.jig = (s.jigTick e).jig := by rw [← hu, State.jigFetch_jig]
  simp only [hjig]
  rw [State.jigTick_self]
  simp only [Jig.ready, Bool.and_eq_true, Option.isNone_iff_eq_none] at hready
  exact hready.1.2

theorem jigShout_stalls (hsc : u.jig[e].sc = 0) (htxf : u.jig[e].txf = []) :
    exec (.jigShout e (shiftCode i ord 48) (BitVec.ofNat 16 n.val)) s
      = .next (putJig u e { u.jig[e] with stall := some (.shout i ord true n.val n.val 0) }).settle := by
  obtain ⟨-, hpos, hle⟩ := shiftLen n hn
  have hloop : shoutLoop ord true n.val n.val u.jig[e] 0 [] = (u.jig[e], n.val, 0, []) := by
    obtain ⟨m, hm⟩ : ∃ m, n.val = m + 1 := ⟨n.val - 1, by omega⟩
    rw [hm]
    exact shoutLoop_empty ord (m + 1) m _ 0 [] hsc htxf
  have hsame : (u.setJig e fun h => { h with s := u.jig[e].s, sc := u.jig[e].sc, txf := u.jig[e].txf, stall := none }) = u := by
    rw [← sound_stall h hu]
    exact u.setJig_id e
  rw [jigShout_exec hc h hu i n hn ord 48 (by simp)]
  refine congrArg finish ?_
  show u.jigShoutGo e i ord true true n.val n.val 0 1 = _
  unfold State.jigShoutGo
  dsimp only
  rw [hloop]
  dsimp only
  rw [if_neg (show ¬ n.val = 0 by omega)]
  simp only [eq_self, if_true, State.jigSpan_zero, hsame, Nat.lt_irrefl, if_false]
  rfl

end

/-! ### A pin as the target -/

section
variable (u : State) (e i : Fin 8) (ord : Bool) (n : Nat)

/-- The levels that a shift to a pin shows. -/
def shownWave (g : Jig) : List (Nat × Fin 8 × Bool) :=
  (List.range n).map fun j => (g.tickAt (g.tick - 1 + j), i, shoutBit ord g.s.toNat g.sc j)

/-- The engine once n bits have gone to a pin, but for the level that it keeps. -/
def shoutShown (h : Jig) : Jig :=
  { h with
    s := wordN (shoutRest ord u.jig[e].s.toNat n), sc := u.jig[e].sc - n, txf := u.jig[e].txf, stall := none
    wave := if u.jigDrives e i then shownWave i ord n u.jig[e] else [] }

theorem zipIdx_map_range {α β : Type} (f : Nat → α) (g : α × Nat → β) (n : Nat) :
    ((List.range n).map f).zipIdx.map g = (List.range n).map fun j => g (f j, j) := by
  apply List.ext_getElem
  · simp
  · intro j h1 h2
    simp

theorem jigShoutGo_pin (hpos : 1 ≤ n) (hle : n ≤ 32) : u.jigShoutGo e i ord false false n n 0 1
    = (((u.jigSpan e (n - 1)).setJig e (shoutShown u e i ord n)).jigOuts e (2 ^ i.val)
      (bitAt (shoutBit ord u.jig[e].s.toNat u.jig[e].sc (n - 1)) i.val)).jigShifted e := by
  have hloop := shoutLoop_alone ord n n u.jig[e] 0 [] (le_refl _) hle
  obtain ⟨m, rfl⟩ : ∃ m, n = m + 1 := ⟨n - 1, by omega⟩
  have hbits : ((List.range (m + 1)).map (shoutBit ord u.jig[e].s.toNat u.jig[e].sc)).reverse ++ []
      = shoutBit ord u.jig[e].s.toNat u.jig[e].sc m :: ((List.range m).map (shoutBit ord u.jig[e].s.toNat u.jig[e].sc)).reverse := by
    rw [List.append_nil, List.range_succ, List.map_append, List.reverse_append]
    rfl
  have hshown : (((List.range (m + 1)).map (shoutBit ord u.jig[e].s.toNat u.jig[e].sc)).reverse ++ []).reverse.zipIdx.map
      (fun x : Bool × Nat => (u.jig[e].tickAt (u.jig[e].tick - 1 + x.2), i, x.1)) = shownWave i ord (m + 1) u.jig[e] := by
    rw [List.append_nil, List.reverse_reverse, zipIdx_map_range]
    rfl
  have hwave : (if (false || !u.jigDrives e.val i.val) = true then [] else shownWave i ord (m + 1) u.jig[e])
      = if u.jigDrives e i then shownWave i ord (m + 1) u.jig[e] else [] := by
    cases u.jigDrives e.val i.val <;> rfl
  unfold State.jigShoutGo
  dsimp only
  rw [hloop]
  dsimp only
  rw [hshown, hwave, hbits]
  simp only [Bool.false_eq_true, if_false, Nat.lt_irrefl, eq_self, if_true, Nat.one_ne_zero, Nat.sub_zero, Nat.add_sub_cancel]
  rfl

end

section
variable (u : State) (e i : Fin 8)

/-- PBASE of an engine, 24 and above acting as 0 (R316). -/
theorem pbase_eq : u.pbase e.val = if u.rf Reg.jigCfg e.val 5 1 < 24 then u.rf Reg.jigCfg e.val 5 1 else 0 := rfl

theorem jigDrives_span (m : Nat) (f : Jig → Jig) : ((u.jigSpan e m).setJig e f).jigDrives e.val i.val = u.jigDrives e.val i.val := by
  have hcfg : ((u.jigSpan e m).setJig e f).rg Reg.jigCfg e.val = u.rg Reg.jigCfg e.val := jigCfg_span u e m
  have hjp : ∀ k : Fin 24, ((u.jigSpan e m).setJig e f).rg Reg.jpCfg k.val = u.rg Reg.jpCfg k.val := fun k =>
    State.jigSpan_rg _ _ _ _ _ _ ((by decide : ∀ k : Fin 24, alwaysOnSys (Reg.jpCfg.addr k.val 0) = false) k)
  have hpin : ((u.jigSpan e m).setJig e f).jigPin e.val i.val = u.jigPin e.val i.val := by
    rw [State.jigPin, State.jigPin, pbase_eq, pbase_eq, State.rf, State.rf, hcfg]
  rw [State.jigDrives, State.jigDrives, hpin, State.rf, State.rf,
    hjp ⟨u.jigPin e.val i.val, Nat.mod_lt _ (by decide)⟩]

/-- One output level is set, where the engine drives its pin. -/
theorem jigOuts_one (b : Bool) (j : Fin 8) : ((u.jigOuts e (2 ^ i.val) (bitAt b i.val)).jig[e].outs).getLsbD j.val
    = if j = i ∧ u.jigDrives e.val i.val = true then b else u.jig[e].outs.getLsbD j.val := by
  have hmask : (u.jigMask e (2 ^ i.val)).getLsbD j.val = (decide (i.val = j.val) && u.jigDrives e.val j.val) := by
    rw [State.jigMask, bitsOf_getLsbD, Nat.testBit_two_pow]
  have hlevel : (BitVec.ofNat 8 (bitAt b i.val)).getLsbD j.val = (b && decide (i.val = j.val)) := by
    rw [BitVec.getLsbD_ofNat, decide_eq_true j.isLt, Bool.true_and, bitAt]
    cases b
    · simp
    · rw [if_pos rfl, Nat.testBit_two_pow, Bool.true_and]
  rw [State.jigOuts, State.setJig_self]
  dsimp only
  rw [BitVec.getLsbD_or, BitVec.getLsbD_and, BitVec.getLsbD_and, BitVec.getLsbD_not, decide_eq_true j.isLt, Bool.true_and, hmask, hlevel]
  by_cases hj : j = i
  · subst hj
    cases u.jigDrives e.val j.val <;> simp
  · have hne : i.val ≠ j.val := fun hv => hj (Fin.ext hv.symm)
    simp [hj, hne]

end

section
variable {s u : State} {e : Fin 8} (hc : s.clocked = true) (h : s.JigSound e) (hu : ((s.jigTick e).jigFetch e).1 = u)
variable (i : Fin 8) (n : Fin 33) (hn : n ≠ 0) (ord : Bool)
include hc h hu hn

/-- A SHOUT to a pin of the bits in S. -/
theorem jigShout_pin_moves (hsw : u.jig[e].swpend = false) (hp : u.rb Reg.jigCfg e.val 13 = false) :
    ∃ t, exec (.jigShout e (shiftCode i ord 0) (BitVec.ofNat 16 n.val)) s = .next t ∧ t.now = (u.jigSpan e (n.val - 1)).now
      ∧ t.jig[e] = { (u.jigSpan e (n.val - 1)).jig[e] with
          s := BitVec.ofNat 32 (shoutRest ord u.jig[e].s.toNat n.val), sc := u.jig[e].sc - n.val, pc := (u.jig[e].pc + 1) % 64
          outs := t.jig[e].outs, wave := t.jig[e].wave }
      ∧ t.jig[e].wave = (if u.jigDrives e i then shownWave i ord n.val u.jig[e] else [])
      ∧ ∀ j : Fin 8, t.jig[e].outs.getLsbD j.val = if j = i ∧ u.jigDrives e i = true then
          shoutBit ord u.jig[e].s.toNat u.jig[e].sc (n.val - 1) else u.jig[e].outs.getLsbD j.val := by
  obtain ⟨-, hpos, hle⟩ := shiftLen n hn
  have hexec := jigShout_exec hc h hu i n hn ord 0 (by simp)
  rw [hp] at hexec
  have hrun := hexec.trans (congrArg finish (jigShoutGo_pin u e i ord n.val hpos hle))
  generalize hw : (u.jigSpan e (n.val - 1)).setJig e (shoutShown u e i ord n.val) = w at hrun
  have hwjig : w.jig[e] = shoutShown u e i ord n.val (u.jigSpan e (n.val - 1)).jig[e] := by rw [← hw, State.setJig_self]
  have houts := jigOuts_one w e i (shoutBit ord u.jig[e].s.toNat u.jig[e].sc (n.val - 1))
  have hdrives : w.jigDrives e.val i.val = u.jigDrives e.val i.val := by rw [← hw, jigDrives_span]
  rw [hdrives] at houts
  have hwouts : w.jig[e].outs = u.jig[e].outs := by rw [hwjig, State.jigSpan_self]; rfl
  obtain ⟨o, ho⟩ : ∃ o, (w.jigOuts e (2 ^ i.val) (bitAt (shoutBit ord u.jig[e].s.toNat u.jig[e].sc (n.val - 1)) i.val)).jig[e]
      = { w.jig[e] with outs := o } := ⟨_, by rw [State.jigOuts, State.setJig_self]⟩
  rw [jigShifted_next _ _ (by rw [ho, hwjig, State.jigSpan_self]; exact hsw), ho] at hrun
  rw [ho] at houts
  refine ⟨_, hrun, ?_, ?_, ?_, fun j => ?_⟩
  · show w.now = _
    rw [← hw, State.setJig_now]
  · rw [State.settle_jig, putJig_self, hwjig, State.jigSpan_self]
    dsimp only [shoutShown]
    rw [sound_stall h hu]
    rfl
  · rw [State.settle_jig, putJig_self, hwjig]
    rfl
  · rw [State.settle_jig, putJig_self, ← hwouts]
    exact houts j

end

end Sys2Proof.Proofs
end

section
/-! PROOFS. The ends of jig waits and stalls (R305, R307, R308). -/

open Sys2Proof Sys2Proof.Machine

namespace Sys2Proof.Proofs

theorem tickFrom_congr {g g' : Jig} (ha : g'.align = g.align) (hs : g'.step = g.step) (v : Nat) : g'.tickFrom v = g.tickFrom v := by
  rw [Jig.tickFrom, Jig.tickFrom, ha, hs]

/-- What held the engine completes: it runs on at the first tick after this SVCLK. -/
theorem jigAfter_putJig (u : State) (e : Fin 8) (h : Jig) : (putJig u e h).jigAfter e
    = putJig u e { h with tick := max h.tick (h.tickFrom (u.svclk + 1)) } := by
  have hput : (putJig u e h).jigAfter e = putJig (putJig u e h) e
      { (putJig u e h).jig[e] with tick := max (putJig u e h).jig[e].tick ((putJig u e h).jig[e].tickFrom (u.svclk + 1)) } := rfl
  rw [hput, putJig_self, putJig_putJig]

theorem jigAfter_next (u : State) (e : Fin 8) (f : Jig → Jig) : ((u.setJig e f).jigNext e).jigAfter e
    = putJig u e { f u.jig[e] with
      pc := ((f u.jig[e]).pc + 1) % 64, tick := max (f u.jig[e]).tick ((f u.jig[e]).tickFrom (u.svclk + 1)) } := by
  rw [setJig_next, jigAfter_putJig, tickFrom_congr (g := f u.jig[e]) rfl rfl]
  rfl

section
variable {s : State} {e : Fin 8} (hc : s.clocked = true)

/-- An engine whose wait has ended by time t. -/
def waitEnded (s : State) (e : Fin 8) (t : State) : Jig :=
  { s.jig[e] with
    wait := none, tmo := 0, f := false, pc := (s.jig[e].pc + 1) % 64
    tick := max s.jig[e].tick (s.jig[e].tickFrom ((t.now + 1) / 2 + 1)) }

section
variable (stamp : Nat)
include hc

theorem exec_jigWaitEnd : exec (.jigWaitEnd e stamp) s = finish (if s.jigDeaf e then s else s.jigWaitEnd e stamp) :=
  congrArg finish (State.awake_clocked hc fun t => if t.jigDeaf e then t else t.jigWaitEnd e stamp)

section
variable (hv : s.sys.vio[2] = true)
include hv

omit hc in
theorem jigDeaf_supplied : s.jigDeaf e = false := by
  rw [State.jigDeaf, hv]
  rfl

theorem jigWaitEnd_level {i : Fin 8} {lv : Bool} (hw : s.jig[e].wait = some (.level i lv)) : ∃ t, exec (.jigWaitEnd e stamp) s = .next t
    ∧ t.now = max s.now (2 * s.jigSeen e i stamp) ∧ t.jig[e] = waitEnded s e t := by
  have hexec := exec_jigWaitEnd (e := e) hc stamp
  rw [jigDeaf_supplied hv, if_neg Bool.false_ne_true] at hexec
  unfold State.jigWaitEnd at hexec
  rw [hw] at hexec
  dsimp only at hexec
  rw [jigAfter_next] at hexec
  refine ⟨_, hexec, s.advanceTo_now _, ?_⟩
  rw [State.settle_jig, putJig_self, State.advanceTo_jig]
  rfl

/-- The engine that the end of an edge wait leaves, but for its tick and its PC. -/
def edgeTaken (g : Jig) (cap : Bool) (stamp : Nat) : Jig :=
  if cap then { g with
    x := BitVec.ofNat 32 (match g.lastCap with
      | some y => min (stamp - y) 0xFFFFFFFF
      | none => 0xFFFFFFFF)
    lastCap := some stamp }
  else g

theorem jigWaitEnd_edge {i : Fin 8} {k : Nat} {cap : Bool} (hw : s.jig[e].wait = some (.edge i k cap)) (hst : s.jig[e].began < stamp) :
    ∃ t, exec (.jigWaitEnd e stamp) s = .next t ∧ t.now = max s.now (2 * s.jigSeen e i stamp)
      ∧ t.jig[e] = edgeTaken (waitEnded s e t) cap stamp := by
  have hexec := exec_jigWaitEnd (e := e) hc stamp
  rw [jigDeaf_supplied hv, if_neg Bool.false_ne_true] at hexec
  unfold State.jigWaitEnd at hexec
  rw [hw] at hexec
  dsimp only at hexec
  rw [if_neg (Nat.not_le.2 hst), jigAfter_next] at hexec
  refine ⟨_, hexec, s.advanceTo_now _, ?_⟩
  rw [State.settle_jig, putJig_self, State.advanceTo_jig]
  cases cap
  · rfl
  · rfl

end

theorem jigWaitEnd_early {i : Fin 8} {k : Nat} {cap : Bool} (hw : s.jig[e].wait = some (.edge i k cap)) (hst : stamp ≤ s.jig[e].began) :
    exec (.jigWaitEnd e stamp) s = .next s.settle := by
  have hsame : s.jigWaitEnd e stamp = s := by
    unfold State.jigWaitEnd
    rw [hw]
    exact if_pos hst
  rw [exec_jigWaitEnd hc, hsame, ite_self]
  rfl

theorem jigWaitEnd_deaf {i : Fin 8} {k : Nat} {cap : Bool} (hv : s.sys.vio[2] = false) (hw : s.jig[e].wait = some (.edge i k cap)) :
    exec (.jigWaitEnd e stamp) s = .next s.settle := by
  have hdeaf : s.jigDeaf e = true := by
    rw [State.jigDeaf, hv, hw]
    rfl
  rw [exec_jigWaitEnd hc, hdeaf]
  rfl

theorem jigWaitEnd_none (hw : s.jig[e].wait = none) : exec (.jigWaitEnd e stamp) s = .next s.settle := by
  have hsame : s.jigWaitEnd e stamp = s := by
    unfold State.jigWaitEnd
    rw [hw]
  rw [exec_jigWaitEnd hc, hsame, ite_self]
  rfl

end

include hc

/-! ### Timeouts (R305) -/

theorem exec_jigWaitTimeout : exec (.jigWaitTimeout e) s = finish (s.jigWaitTimeout e) :=
  congrArg finish (State.awake_clocked hc fun t => t.jigWaitTimeout e)

theorem jigWaitTimeout_idle (hw : s.jig[e].wait = none ∨ s.jig[e].tmo = 0) : exec (.jigWaitTimeout e) s = .next s.settle := by
  rw [exec_jigWaitTimeout hc, State.jigWaitTimeout, if_neg]
  · rfl
  · obtain hw | hw := hw
    · rw [hw]
      simp
    · rw [hw]
      simp

theorem jigWaitTimeout_ends (hw : s.jig[e].wait.isSome = true) (htmo : s.jig[e].tmo ≠ 0) : ∃ t, exec (.jigWaitTimeout e) s = .next t
    ∧ t.now = max s.now (2 * s.jig[e].tickAt (s.jig[e].tick + s.jig[e].tmo - 1))
    ∧ t.jig[e] = { s.jig[e] with wait := none, tmo := 0, f := true, tick := s.jig[e].tick + s.jig[e].tmo, pc := (s.jig[e].pc + 1) % 64 }
    ∧ t = { s.jigSpan e s.jig[e].tmo with jig := t.jig, pins := t.pins } := by
  have hexec := exec_jigWaitTimeout (e := e) hc
  have hcond : (s.jig[e].wait.isSome && decide (s.jig[e].tmo ≠ 0)) = true := by rw [hw, decide_eq_true htmo]; rfl
  rw [State.jigWaitTimeout, if_pos hcond, setJig_next] at hexec
  refine ⟨_, hexec, s.jigSpan_now e _ htmo, ?_, rfl⟩
  rw [State.settle_jig, putJig_self, State.jigSpan_self]

/-! ### Stalls (R307, R308) -/

theorem exec_jigStallEnd : exec (.jigStallEnd e) s = finish (s.jigStallEnd e) :=
  congrArg finish (State.awake_clocked hc fun t => t.jigStallEnd e)

theorem jigStallEnd_none (hst : s.jig[e].stall = none) : exec (.jigStallEnd e) s = .next s.settle := by
  have hsame : s.jigStallEnd e = s := by
    unfold State.jigStallEnd
    dsimp only
    rw [hst]
  rw [exec_jigStallEnd hc, hsame]
  rfl

theorem jigStallEnd_full (hst : s.jig[e].stall = some .push ∨ s.jig[e].stall = some .shinEnd) (hfull : 8 ≤ s.jig[e].rxf.length) :
    exec (.jigStallEnd e) s = .next s.settle := by
  have hpush : s.jig[e].pushS s.svclk = none := if_neg (Nat.not_lt.2 hfull)
  have hsame : s.jigStallEnd e = s := by
    unfold State.jigStallEnd
    dsimp only
    obtain hst | hst := hst
    · rw [hst]
      dsimp only
      rw [hpush]
    · rw [hst]
      dsimp only
      rw [hpush]
  rw [exec_jigStallEnd hc, hsame]
  rfl

theorem jigStallEnd_pushes (hst : s.jig[e].stall = some .push ∨ s.jig[e].stall = some .shinEnd ∧ s.jig[e].swpend = false)
    (hroom : s.jig[e].rxf.length < 8) : ∃ t, exec (.jigStallEnd e) s = .next t
      ∧ t.jig[e] = { s.jig[e] with
          rxf := s.jig[e].rxf ++ [s.jig[e].s], s := 0, sc := 0, pushAt := some s.svclk, stall := none, pc := (s.jig[e].pc + 1) % 64
          tick := max s.jig[e].tick (s.jig[e].tickFrom ((s.now + 1) / 2 + 1)) }
      ∧ t = { s with jig := t.jig, pins := t.pins } := by
  have hpush : s.jig[e].pushS s.svclk = some { s.jig[e] with
      rxf := s.jig[e].rxf ++ [s.jig[e].s], s := 0, sc := 0, pushAt := some s.svclk } := if_pos hroom
  have hrun : s.jigStallEnd e = ((s.setJig e fun _ => { s.jig[e] with
      rxf := s.jig[e].rxf ++ [s.jig[e].s], s := 0, sc := 0, pushAt := some s.svclk, stall := none }).jigNext e).jigAfter e := by
    unfold State.jigStallEnd
    dsimp only
    obtain hst | ⟨hst, hsw⟩ := hst
    · rw [hst]
      dsimp only
      rw [hpush]
    · rw [hst]
      dsimp only
      rw [hpush]
      dsimp only
      rw [jigShifted_next _ _ (by rw [State.setJig_self]; exact hsw)]
      rfl
  have hexec := exec_jigStallEnd (e := e) hc
  rw [hrun, jigAfter_next] at hexec
  refine ⟨_, hexec, ?_, rfl⟩
  rw [State.settle_jig, putJig_self]
  rfl

theorem jigStallEnd_empty (hst : s.jig[e].stall = some .pull) (htxf : s.jig[e].txf = []) : exec (.jigStallEnd e) s = .next s.settle := by
  have hpull : s.jig[e].pullS = none := by rw [Jig.pullS, htxf]
  have hsame : s.jigStallEnd e = s := by
    unfold State.jigStallEnd
    dsimp only
    rw [hst]
    dsimp only
    rw [hpull]
  rw [exec_jigStallEnd hc, hsame]
  rfl

theorem jigStallEnd_pulls (hst : s.jig[e].stall = some .pull) {w : Word} (hw : w ∈ s.jig[e].txf.head?) : ∃ t, exec (.jigStallEnd e) s = .next t
      ∧ t.jig[e] = { s.jig[e] with
          txf := s.jig[e].txf.tail, s := w, sc := 32, stall := none, pc := (s.jig[e].pc + 1) % 64
          tick := max s.jig[e].tick (s.jig[e].tickFrom ((s.now + 1) / 2 + 1)) }
      ∧ t = { s with jig := t.jig, pins := t.pins } := by
  have hrun : s.jigStallEnd e = ((s.setJig e fun _ => { s.jig[e] with
      txf := s.jig[e].txf.tail, s := w, sc := 32, stall := none }).jigNext e).jigAfter e := by
    unfold State.jigStallEnd
    dsimp only
    rw [hst]
    dsimp only
    rw [pullS_some hw]
  have hexec := exec_jigStallEnd (e := e) hc
  rw [hrun, jigAfter_next] at hexec
  refine ⟨_, hexec, ?_, rfl⟩
  rw [State.settle_jig, putJig_self]
  rfl

theorem jigStallEnd_shouts {i : Fin 8} {ord : Bool} {n : Nat} (hpos : 1 ≤ n) (hle : n ≤ 32)
    (hst : s.jig[e].stall = some (.shout i ord true n n 0)) (hsc : s.jig[e].sc = 0) (hsw : s.jig[e].swpend = false) {w : Word}
    (hw : w ∈ s.jig[e].txf.head?) (hmiss : s.jig[e].txMiss = none) : ∃ t, exec (.jigStallEnd e) s = .next t
      ∧ t.jig[e].txf = s.jig[e].txf.tail ∧ t.jig[e].sc = 32 - n ∧ t.jig[e].stall = none
      ∧ t.jig[e].x.toNat = (if ord then w.toNat % 2 ^ n else w.toNat / 2 ^ (32 - n)) ∧ t.jig[e].pc = (s.jig[e].pc + 1) % 64 := by
  have hne : s.jig[e].txf ≠ [] := fun h0 => by rw [h0] at hw; cases hw
  have hrun : s.jigStallEnd e = (s.jigAfter e).jigShoutGo e i ord true true n n 0 0 := by
    unfold State.jigStallEnd
    dsimp only
    rw [hst]
    dsimp only
    rw [if_neg hne, if_pos rfl]
  have hself : (s.jigAfter e).jig[e] = { s.jig[e] with tick := max s.jig[e].tick (s.jig[e].tickFrom (s.svclk + 1)) } := s.setJig_self e _
  have hexec := exec_jigStallEnd (e := e) hc
  rw [hrun, jigShoutGo_loads (s.jigAfter e) e i ord 0 hpos hle (by rw [hself]; exact hsw) (by rw [hself]; exact hsc)
    (by rw [hself]; exact hmiss) (by rw [hself]; exact hw), hself] at hexec
  refine ⟨_, hexec, ?_⟩
  simp only [State.settle_jig, putJig_self]
  exact ⟨trivial, trivial, trivial, wordN_shout ord w n, trivial⟩

end

/-- The number that a whole shift makes. -/
theorem shoutAcc_start (ord : Bool) (w sc n : Nat) : shoutAcc ord n w sc 0 n
    = if ord then w % 2 ^ min n sc else w / 2 ^ (32 - min n sc) * 2 ^ (n - min n sc) := by
  unfold shoutAcc
  rw [Nat.sub_self, Nat.pow_zero, Nat.one_mul, Nat.zero_add, Nat.zero_mul, Nat.zero_add]

/-- The last bit of a shift, which the pin keeps. -/
theorem shoutBit_last (ord : Bool) (w : Word) (sc : Nat) {n : Nat} (hpos : 1 ≤ n) (hle : n ≤ 32) : shoutBit ord w.toNat sc (n - 1)
    = (decide (n ≤ sc) && if ord then w.getLsbD (n - 1) else w.getLsbD (32 - n)) := by
  have hsc : decide (n - 1 < sc) = decide (n ≤ sc) := decide_eq_decide.2 (by omega)
  rw [shoutBit, hsc, show 31 - (n - 1) = 32 - n by omega]
  rfl

/-- Settles O51: each instruction on the engine at its tick, then the ends of waits and stalls. -/
theorem jigWaitsShiftsAndFifos : Obligations.JigWaitsShiftsAndFifos := by
  intro s e imm pins bits i n ord stamp hc hn
  obtain ⟨-, hpos, hle⟩ := shiftLen n hn
  generalize hx : (s.jigTick e).jigFetch e = x
  obtain ⟨u, ok⟩ := x
  have hu : ((s.jigTick e).jigFetch e).1 = u := by rw [hx]
  dsimp only
  refine ⟨fun hready hfswap hecc hres => ?_, fun hv => ⟨?_, ?_, ?_, ?_⟩, ?_, ?_, ?_, ?_, ?_, ?_, ?_, ?_, ?_, ?_⟩
  · have h : s.JigSound e := ⟨hready, hfswap, hecc, hres⟩
    refine ⟨?_, ?_, ?_, fun hsw => ⟨?_, ?_, ?_, ?_, ?_, ?_⟩, ?_, ?_, ?_, ?_, ?_, fun nb => ⟨?_, ?_, ?_, ?_⟩, ?_⟩
    · exact jigWaitl_waits hc h hu imm i ord pins
    · exact fun k hk cap => jigWaite_waits hc h hu imm i k hk cap
    · exact fun rln => ⟨jigWaitg_waits hc h hu imm rln, jigWaitg_takes_back hc h hu imm rln⟩
    · exact jigShin_x_moves hc h hu i n hn ord bits hsw
    · exact jigShin_x_pushes hc h hu i n hn ord bits hsw
    · exact jigShin_pin_moves hc h hu i n hn ord bits hsw
    · have hmoves (hp) := jigShout_x_moves hc h hu i n hn ord hsw hp (sound_stall h hu)
      rw [shoutAcc_start] at hmoves
      exact hmoves
    · have hmoves := jigShout_pin_moves hc h hu i n hn ord hsw
      rw [shoutBit_last _ _ _ hpos hle] at hmoves
      exact hmoves
    · exact fun hsc hmiss w hw => jigShout_fetches hc h hu i n hn ord hsw hsc hmiss hw
    · exact jigShin_auto hc h hu i n hn ord bits
    · exact jigShout_auto hc h hu i n hn ord
    · exact jigShin_x_stalls hc h hu i n hn ord bits
    · exact jigShout_stalls hc h hu i n hn ord
    · exact jigShin_x_swaps hc h hu i n hn ord bits
    · exact jigPush_pushes hc h hu nb
    · exact fun w hw hmiss => jigPull_takes hc h hu hw nb hmiss
    · exact fun w hw hlen m hm hnow => jigPull_fills hc h hu hw nb hlen m hm hnow
    · exact jigPull_empty hc h hu nb
    · exact jigPush_clears hc h hu
  · exact fun lv hw => jigWaitEnd_level hc stamp hv hw
  · exact fun k cap hw hst => jigWaitEnd_early hc stamp hw hst
  · exact fun k hw hst => jigWaitEnd_edge hc stamp hv hw hst
  · exact fun k hw hst => jigWaitEnd_edge hc stamp hv hw hst
  · exact fun k cap hv hw => jigWaitEnd_deaf hc stamp hv hw
  · exact fun hw => ⟨jigWaitEnd_none hc stamp hw, jigWaitTimeout_idle hc (.inl hw)⟩
  · exact jigWaitTimeout_ends hc
  · exact fun htmo => jigWaitTimeout_idle hc (.inr htmo)
  · exact jigStallEnd_none hc
  · exact jigStallEnd_pushes hc
  · exact fun hst w hw => jigStallEnd_pulls hc hst hw
  · exact fun hst hsc hsw w hw hmiss => jigStallEnd_shouts hc hpos hle hst hsc hsw hw hmiss
  · exact jigStallEnd_full hc
  · exact jigStallEnd_empty hc

end Sys2Proof.Proofs
end

section
/-! SUPPORT. What the passing of time leaves of a peg that no longer waits for the horizon (R86, R262, R361), and the lines of the edge
generator. -/

namespace Sys2Proof.Machine

/-! ### What the passing of time brings -/

/-- The second state stands at the same TCLK with the same memory, and keeps a slot whose peg is neither armed nor waiting. -/
def State.LetsStand (w : Fin 9) (k : Fin 32) (s t : State) : Prop :=
  t.now = s.now ∧ t.mem = s.mem
    ∧ (s.work[w].slots[k].st ≠ .armed → s.work[w].slots[k].st ≠ .waiting → t.work[w].slots[k] = s.work[w].slots[k])

section
variable {w : Fin 9} {k : Fin 32}

theorem State.LetsStand.of_eq {s t : State} (hn : t.now = s.now) (hm : t.mem = s.mem) (hw : t.work = s.work) : s.LetsStand w k t :=
  ⟨hn, hm, fun _ _ => by rw [hw]⟩

theorem State.LetsStand.refl (s : State) : s.LetsStand w k s := .of_eq rfl rfl rfl

theorem State.LetsStand.trans {s t u : State} (h : s.LetsStand w k t) (h' : t.LetsStand w k u) : s.LetsStand w k u := by
  obtain ⟨hn, hm, hk⟩ := h
  obtain ⟨hn', hm', hk'⟩ := h'
  refine ⟨hn'.trans hn, hm'.trans hm, fun ha hw => ?_⟩
  have ht := hk ha hw
  exact (hk' (by rwa [ht]) (by rwa [ht])).trans ht

theorem State.LetsStand.foldl {α : Type} {f : State → α → State} (hf : ∀ (t : State) (x : α), t.LetsStand w k (f t x)) (l : List α)
    (s : State) : s.LetsStand w k (l.foldl f s) := by
  induction l generalizing s with
  | nil => exact .refl s
  | cons x l ih => exact (hf s x).trans (ih _)

end

/-- A release touches its own work alone. -/
theorem State.release_other (s : State) (v : Fin 9) (j : Fin 32) (o l r : Nat) (quiet : Bool) {w : Fin 9} (h : v ≠ w) :
    (s.release v j o l r quiet).work[w] = s.work[w] := by
  obtain ⟨cs, hcs⟩ := s.release_work v j o l r quiet
  simp [hcs, Vector.getElem_set_ne _ _ (Fin.val_ne_of_ne h)]

theorem State.baseLost_other (s : State) (v : Fin 9) (was : Option Peg) (o : Nat) {w : Fin 9} (h : v ≠ w) :
    (s.baseLost v was o).work[w] = s.work[w] := by
  unfold State.baseLost
  generalize List.finRange 32 = l
  induction l generalizing s with
  | nil => rfl
  | cons j l ih =>
    refine (ih _).trans ?_
    dsimp only
    split
    · exact (State.release_other _ v j _ _ _ _ h).trans (congrArg (·[w]) (State.emit_work ..))
    · rfl

theorem State.skip_other (s : State) (v : Fin 9) (j : Fin 32) (kind reason : Nat) {w : Fin 9} (h : v ≠ w) :
    (s.skip v j kind reason).work[w] = s.work[w] :=
  (State.baseLost_other _ v _ _ h).trans ((State.release_other _ v j _ _ _ _ h).trans (congrArg (·[w]) (State.emit_work ..)))

section
variable {w : Fin 9} {k : Fin 32}

/-- A skip of an armed peg leaves every other peg that does not wait. -/
theorem State.letsStand_skip (s : State) (v : Fin 9) (j : Fin 32) (kind reason : Nat) (h : s.work[v].slots[j].st = .armed) :
    s.LetsStand w k (s.skip v j kind reason) := by
  have hf := s.pegFrame_skip v j kind reason
  refine ⟨hf.now, hf.mem, fun ha hw => ?_⟩
  by_cases hv : v = w
  · subst hv
    have hjk : j ≠ k := fun e => ha (e ▸ h)
    have hnote : s.KeepsSlot v k (s.pegNote 0 kind v j s.work[v].slots[j] reason) := State.keepsSlot_of_work (State.emit_work ..)
    have hend := hnote.trans (State.keepsSlot_release _ v hjk 3
      (if kind = Kind.pegSkip ∧ reason = 1 then s.work[v].slots[j].late.getD 0 else 0) reason false)
    exact (hend.trans (State.keepsSlot_baseLost _ v (s.asBase v j) 3 (by rwa [hend.2]))).2
  · have hne : v.val ≠ w.val := fun e => hv (Fin.ext e)
    exact congrArg (fun x : Work => x.slots[k]) (s.skip_other v j kind reason hv)

theorem State.letsStand_provPass (s : State) : s.LetsStand w k s.provPass := by
  have hskips (lo hi : Int) : s.LetsStand w k (s.provSkips lo hi) :=
    .foldl (fun _ _ => .foldl (fun t j => by
      dsimp only
      split
      · next h => exact t.letsStand_skip _ j _ _ h.1
      · exact .refl t) _ _) _ s
  unfold State.provPass State.provTo
  split
  · split
    · exact .of_eq rfl rfl rfl
    · split
      · exact .of_eq rfl rfl rfl
      · split
        · exact .refl s
        · exact (hskips ..).trans (.of_eq rfl rfl rfl)
  · exact .of_eq rfl rfl rfl

theorem State.letsStand_broadcast (s : State) (inp : Nat) (f : Frame) : s.LetsStand w k (s.broadcast inp f) :=
  .foldl (fun t r => by
    dsimp only
    split
    · exact .of_eq rfl rfl rfl
    · exact .refl t) _ s

theorem State.letsStand_asegFlush (s : State) : s.LetsStand w k s.asegFlush := by
  have hsend (t : State) : t.LetsStand w k t.asegSend := by
    have hcast (f : Frame) (x : List (Nat × Nat)) (y : Nat) : t.LetsStand w k { t.broadcast 3 f with
        fab := { (t.broadcast 3 f).fab with seenS := x, sseq := y } } := (t.letsStand_broadcast 3 f).trans (.of_eq rfl rfl rfl)
    unfold State.asegSend
    split
    · exact .refl t
    · split
      · exact .refl t
      · exact hcast ..
  unfold State.asegFlush
  split
  · split
    · exact .refl s
    · dsimp only
      split
      · exact .of_eq rfl rfl rfl
      · refine State.LetsStand.trans ?_ (hsend _)
        exact .of_eq rfl rfl rfl
  · exact .refl s

theorem State.letsStand_windowsNow (s : State) : s.LetsStand w k s.windowsNow := by
  have hlong (t : State) (v : Fin 16) : t.LetsStand w k (t.winLong v) := by
    have hnote : t.LetsStand w k (t.winNote v Kind.winLong) := .of_eq (State.emit_now ..) (State.emit_memory ..) (State.emit_work ..)
    have hite {p : Prop} [Decidable p] (f : Window → Window) :
        t.LetsStand w k (if p then (t.winNote v Kind.winLong).setWin v f else t) := by
      split
      · exact hnote.trans (.of_eq rfl rfl rfl)
      · exact .refl t
    exact hite _
  have hplace : s.LetsStand w k s.placeAll := by
    unfold State.placeAll
    split
    · exact .refl s
    · exact .of_eq rfl rfl rfl
  unfold State.windowsNow
  split
  · exact hplace.trans (.foldl hlong _ _)
  · exact .refl s

/-- What the passing of time brings leaves the TCLK, the memory, and every peg that the horizon has let in. -/
theorem State.letsStand_caughtUp (s : State) : s.LetsStand w k s.caughtUp :=
  s.letsStand_provPass.trans ((State.letsStand_asegFlush _).trans (State.letsStand_windowsNow _))

end

/-! ### The end of a peg and the ignition lines -/

/-- A cancelled peg's slot is free with its outcome. -/
theorem State.cancelPeg_slot (s : State) (w : Fin 9) (k : Fin 32) (o : Nat) (quiet : Bool) :
    (s.cancelPeg w k o quiet).work[w].slots[k] = s.work[w].slots[k].ended o 0 s.now := by
  obtain ⟨cs, hcs⟩ := s.release_work w k o 0 0 quiet
  have hslot : (s.release w k o 0 0 quiet).work[w].slots[k] = s.work[w].slots[k].ended o 0 s.now := by rw [hcs]; simp
  exact (State.keepsSlot_baseLost _ w (s.asBase w k) o (by rw [hslot]; simp [Peg.ended])).2.trans hslot

theorem State.selUpdate_ign (s : State) (c : Fin 32) : (s.selUpdate c).edg.ign = s.edg.ign := by
  unfold State.selUpdate State.selSend
  dsimp only
  split
  · rfl
  · split <;> rfl

theorem State.ringStage_edg (s : State) (r : Fin 3) (slot : List Nat) : (s.ringStage r slot).edg = s.edg := by
  unfold State.ringStage State.ringDrop
  dsimp only
  split
  · rfl
  · split
    · show (State.bump _ _ _ _ _).edg = _
      rw [State.bump_frame]
      split
      · exact State.emit_edg ..
      · rfl
    · rfl

theorem State.pegCue_edg (s : State) (w : Fin 9) (k : Fin 32) (p : Peg) (o l : Nat) : (s.pegCue w k p o l).edg = s.edg := by
  unfold State.pegCue
  dsimp only
  split
  · rw [State.cue, State.raiseCue_frame]
  · rfl

theorem State.countEnd_edg (s : State) (p : Peg) (c : Fin 9) (o : Nat) : (s.countEnd p c o).edg = s.edg := by
  have hfired : (if p.issues then s.bumpWrap Reg.schedFired c 31 0 else s).edg = s.edg := by split <;> rfl
  unfold State.countEnd
  dsimp only
  generalize (if p.issues then s.bumpWrap Reg.schedFired c 31 0 else s) = fired at hfired
  split
  · exact hfired
  · rw [State.bump_frame]; exact hfired
  · rw [State.bump_frame]
  · rfl

/-- The end of a peg touches the channels of the edge generator alone. -/
theorem State.release_ign (s : State) (w : Fin 9) (k : Fin 32) (o l r : Nat) (quiet : Bool) :
    (s.release w k o l r quiet).edg.ign = s.edg.ign := by
  have hsel (t : State) (p : Peg) : (t.selOf p).edg.ign = t.edg.ign := by
    unfold State.selOf
    split
    · split
      · exact t.selUpdate_ign _
      · rfl
    · rfl
  rw [State.release_eq, hsel]
  split
  · rw [State.countEnd_edg]; rfl
  · rw [State.pegCue_edg, State.pegLog, apply_ite State.edg, State.ringStage_edg, ite_self, State.countEnd_edg]; rfl

theorem State.baseLost_ign (s : State) (w : Fin 9) (was : Option Peg) (o : Nat) : (s.baseLost w was o).edg.ign = s.edg.ign := by
  unfold State.baseLost
  generalize List.finRange 32 = l
  induction l generalizing s with
  | nil => rfl
  | cons j l ih =>
    refine (ih _).trans ?_
    dsimp only
    split
    · exact (State.release_ign ..).trans (congrArg EdgeGen.ign (State.emit_edg ..))
    · rfl

theorem State.skip_ign (s : State) (w : Fin 9) (k : Fin 32) (kind reason : Nat) : (s.skip w k kind reason).edg.ign = s.edg.ign := by
  unfold State.skip
  rw [State.baseLost_ign, State.release_ign, State.pegNote, State.emit_edg]

end Sys2Proof.Machine
end

section
/-! PROOFS. Commitment of pegs 16 TCLK ahead, and the drive of their lines at their lead (R123, R134, R138, R140, R225). -/

open Sys2Proof Sys2Proof.Machine

namespace Sys2Proof.Proofs

/-! ### Commitment -/

/-- A slot changed, with the run log where that is due, changes its own work alone. -/
theorem setPeg_logged (c : State) (w : Fin 9) (k : Fin 32) (f : Peg → Peg) (q : Prop) [Decidable q] (o : Nat) :
    ∃ u : State, (if q then (c.setPeg w k f).setWork w fun x => { x with runLog := x.runLog ++ [o] } else c.setPeg w k f) = u
      ∧ u = { c with work := u.work } ∧ u.work[w].slots = c.work[w].slots.set k.val { f c.work[w].slots[k] with mirBad := false } k.isLt
      ∧ ∀ v : Fin 9, v ≠ w → u.work[v] = c.work[v] := by
  have hne (v : Fin 9) (hv : v ≠ w) : w.val ≠ v.val := Fin.val_ne_of_ne hv.symm
  split
  · exact ⟨_, rfl, rfl, by simp [State.setPeg, State.setWork, upd],
      fun v hv => by simp [State.setPeg, State.setWork, upd, Vector.getElem_set_ne _ _ (hne v hv)]⟩
  · exact ⟨_, rfl, rfl, by simp [State.setPeg, State.setWork, upd],
      fun v hv => by simp [State.setPeg, State.setWork, upd, Vector.getElem_set_ne _ _ (hne v hv)]⟩

theorem ended_free {p q : Peg} {o l n : Nat} (h : q = p.ended o l n) : q.st = .free := by rw [h]; rfl
theorem ended_last {p q : Peg} {o l n : Nat} (h : q = p.ended o l n) : q.last = o := by rw [h]; rfl

section
variable {s c : State} {w : Fin 9} {k : Fin 32} {p : Peg} {i : Nat} (hclk : s.clocked = true) (hlive : s.schedLive w = true)
  (hp : s.work[w].slots[k] = p) (hst : p.st = .aimed ∨ p.st = .dwelling) (hres : p.resBad = false) (hi : p.inst = some i)
  (hc : (s.advanceTo (i / 16 - 16)).caughtUp = c) (hfree : c.lineFree w k i ≤ i)

include hp hc in
/-- A peg past its horizon stands as it stood, at the TCLK of its commit point. -/
theorem atCommit (ha : p.st ≠ .armed) (hw : p.st ≠ .waiting) :
    c.now = max s.now (i / 16 - 16) ∧ c.mem = s.mem ∧ c.work[w].slots[k] = p := by
  obtain ⟨hn, hm, hslot⟩ := State.letsStand_caughtUp (w := w) (k := k) (s.advanceTo (i / 16 - 16))
  have hs : (s.advanceTo (i / 16 - 16)).work[w].slots[k] = p := by rw [State.advanceTo_work]; exact hp
  rw [hc, hs] at hslot
  rw [hc] at hn hm
  exact ⟨hn.trans (State.advanceTo_now ..), hm.trans (State.advanceTo_mem ..), hslot ha hw⟩

include hclk hlive hp hst hres hi hc hfree in
/-- The commit point of a peg whose line is free. -/
theorem execPegCommit_free : exec (.pegCommit w k) s = finish
    (if c.pegHeld p then (if p.st = .dwelling then c.softOff w k 6 else c.skip w k Kind.pegSkip 4)
    else if !c.whl.rev && !c.mayFire p then
      (if p.st = .dwelling then c.softOff w k 4
      else if c.sync = .provisional then c.skip w k Kind.provSkip 0 else c.cancelPeg w k 5 false)
    else
      let s1 := c.setPeg w k fun q => { q with
        st := .committed, spark := decide (q.st = .dwelling), mute := if c.whl.rev || (c.whl.fuelSup && p.isFuel) then 1 else 0 }
      if p.seq ∈ s1.work[w].armed then s1.setWork w fun x => { x with runLog := x.runLog ++ [p.owner] } else s1) := by
  have hexec : exec (.pegCommit w k) s = finish (s.pegCommit w k) := congrArg finish (State.awake_clocked hclk fun t => t.pegCommit w k)
  have hgo : ¬((!(decide (p.st = .aimed) || decide (p.st = .dwelling)) || !s.schedLive w) = true) := by
    rw [hlive]
    rcases hst with h | h <;> simp [h]
  rw [hexec]
  unfold State.pegCommit
  dsimp only
  rw [hp, hi]
  dsimp only
  rw [if_neg hgo, hres, if_neg Bool.false_ne_true, hc, if_neg (Nat.not_lt.2 hfree)]

include hst in
theorem notWaiting : p.st ≠ .armed ∧ p.st ≠ .waiting := by
  rcases hst with h | h <;> simp [h]

include hclk hlive hp hst hres hi hc hfree in
theorem pegCommit_commits (hheld : c.pegHeld p = false) (hmay : c.whl.rev = true ∨ c.mayFire p = true) :
    ∃ t, exec (.pegCommit w k) s = .next t ∧ i / 16 - 16 ≤ t.now ∧ s.now ≤ t.now
      ∧ t.work[w].slots = c.work[w].slots.set k.val { p with
          st := .committed, spark := decide (p.st = .dwelling), mirBad := false
          mute := if c.whl.rev || (c.whl.fuelSup && (decide (p.kind = 1) || decide (p.kind = 2))) then 1 else 0 } k.isLt
      ∧ t = { c with work := t.work, pins := t.pins }
      ∧ ∀ v : Fin 9, v ≠ w → t.work[v] = c.work[v] := by
  have hexec := execPegCommit_free hclk hlive hp hst hres hi hc hfree
  obtain ⟨hn, -, hslot⟩ := atCommit hp hc (notWaiting hst).1 (notWaiting hst).2
  have hmay' : ¬((!c.whl.rev && !c.mayFire p) = true) := by rcases hmay with h | h <;> simp [h]
  rw [hheld, if_neg Bool.false_ne_true, if_neg hmay'] at hexec
  have hnow : i / 16 - 16 ≤ c.now ∧ s.now ≤ c.now := by omega
  obtain ⟨u, hu, hsame, hslots, hother⟩ := setPeg_logged c w k (fun q => { q with
    st := .committed, spark := decide (q.st = .dwelling), mute := if c.whl.rev || (c.whl.fuelSup && p.isFuel) then 1 else 0 })
    (p.seq ∈ (c.setPeg w k fun q => { q with
      st := .committed, spark := decide (q.st = .dwelling)
      mute := if c.whl.rev || (c.whl.fuelSup && p.isFuel) then 1 else 0 }).work[w].armed) p.owner
  rw [hslot] at hslots
  dsimp only at hexec
  rw [hu] at hexec
  have hnow : u.now = c.now := by rw [hsame]
  refine ⟨u.settle, hexec, ?_, ?_, hslots, ?_, hother⟩
  · show _ ≤ u.now
    omega
  · show _ ≤ u.now
    omega
  · rw [hsame]
    rfl

include hclk hlive hp hst hres hi hc hfree in
theorem pegCommit_barred (hheld : c.pegHeld p = false) (hmay : ¬(c.whl.rev = true ∨ c.mayFire p = true)) (ha : p.st = .aimed) :
    ∃ t, exec (.pegCommit w k) s = .next t ∧ t.work[w].slots[k].st = .free
      ∧ t.work[w].slots[k].last = (if c.sync = .provisional then 3 else 5) ∧ t.drv = c.drv ∧ t.mem = s.mem := by
  have hexec := execPegCommit_free hclk hlive hp hst hres hi hc hfree
  obtain ⟨-, hm, hslot⟩ := atCommit hp hc (notWaiting hst).1 (notWaiting hst).2
  have hmay' : (!c.whl.rev && !c.mayFire p) = true := by simpa using hmay
  rw [hheld, if_neg Bool.false_ne_true, if_pos hmay', if_neg (by rw [ha]; decide)] at hexec
  by_cases hprov : c.sync = .provisional
  · rw [if_pos hprov] at hexec
    obtain ⟨-, l, hend⟩ := c.skip_slot w k Kind.provSkip 0
    have hf := c.pegFrame_skip w k Kind.provSkip 0
    generalize c.skip w k Kind.provSkip 0 = u at hexec hend hf
    rw [if_pos hprov]
    exact ⟨_, hexec, ended_free hend, ended_last hend, hf.drv, hf.mem.trans hm⟩
  · rw [if_neg hprov] at hexec
    have hend := c.cancelPeg_slot w k 5 false
    have hf := c.pegFrame_cancelPeg w k 5 false
    generalize c.cancelPeg w k 5 false = u at hexec hend hf
    rw [if_neg hprov]
    exact ⟨_, hexec, ended_free hend, ended_last hend, hf.drv, hf.mem.trans hm⟩

include hclk hlive hp hst hres hi hc hfree in
theorem pegCommit_held (hheld : c.pegHeld p = true) (ha : p.st = .aimed) :
    ∃ t, exec (.pegCommit w k) s = .next t ∧ t.work[w].slots[k].st = .free
      ∧ t.work[w].slots[k].last = 3 ∧ t.edg.ign = c.edg.ign ∧ t.drv = c.drv ∧ t.mem = s.mem := by
  have hexec := execPegCommit_free hclk hlive hp hst hres hi hc hfree
  obtain ⟨-, hm, hslot⟩ := atCommit hp hc (notWaiting hst).1 (notWaiting hst).2
  rw [if_pos hheld, if_neg (by rw [ha]; decide)] at hexec
  obtain ⟨-, l, hend⟩ := c.skip_slot w k Kind.pegSkip 4
  have hf := c.pegFrame_skip w k Kind.pegSkip 4
  have hign := c.skip_ign w k Kind.pegSkip 4
  generalize c.skip w k Kind.pegSkip 4 = u at hexec hend hf hign
  exact ⟨_, hexec, ended_free hend, ended_last hend, hign, hf.drv, hf.mem.trans hm⟩

include hp hst hc in
/-- A coil in dwell comes down for a reason. -/
theorem softOff_comesDown {n : Fin 24} (hn : p.ign = some n) (reason : Nat) :
    (c.softOff w k reason).work[w].slots[k] = { p with st := .softoff, reason := reason, spark := false, inst := none, mirBad := false }
      ∧ (c.softOff w k reason).links.ddl = c.links.ddl ++ [.softoff n] ∧ (c.softOff w k reason).drv = c.drv
      ∧ (c.softOff w k reason).mem = s.mem := by
  obtain ⟨-, hm, hslot⟩ := atCommit hp hc (notWaiting hst).1 (notWaiting hst).2
  have hf := c.pegFrame_softOff w k reason
  refine ⟨?_, ?_, hf.drv, hf.mem.trans hm⟩
  · unfold State.softOff
    dsimp only
    rw [hslot, hn]
    exact (c.setPeg_slot w k _).trans (by rw [hslot])
  · unfold State.softOff
    dsimp only
    rw [hslot, hn]
    rfl

include hclk hlive hp hst hres hi hc hfree in
theorem pegCommit_coilBarred (hheld : c.pegHeld p = false) (hmay : ¬(c.whl.rev = true ∨ c.mayFire p = true)) (hd : p.st = .dwelling)
    {n : Fin 24} (hn : p.ign = some n) :
    ∃ t, exec (.pegCommit w k) s = .next t
      ∧ t.work[w].slots[k] = { p with st := .softoff, reason := 4, spark := false, inst := none, mirBad := false }
      ∧ t.links.ddl = c.links.ddl ++ [.softoff n] ∧ t.drv = c.drv ∧ t.mem = s.mem := by
  have hexec := execPegCommit_free hclk hlive hp hst hres hi hc hfree
  have hmay' : (!c.whl.rev && !c.mayFire p) = true := by simpa using hmay
  rw [hheld, if_neg Bool.false_ne_true, if_pos hmay', if_pos hd] at hexec
  exact ⟨_, hexec, softOff_comesDown hp hst hc hn 4⟩

include hclk hlive hp hst hres hi hc hfree in
theorem pegCommit_coilHeld (hheld : c.pegHeld p = true) (hd : p.st = .dwelling) {n : Fin 24} (hn : p.ign = some n) :
    ∃ t, exec (.pegCommit w k) s = .next t
      ∧ t.work[w].slots[k] = { p with st := .softoff, reason := 6, spark := false, inst := none, mirBad := false }
      ∧ t.links.ddl = c.links.ddl ++ [.softoff n] ∧ t.drv = c.drv ∧ t.mem = s.mem := by
  have hexec := execPegCommit_free hclk hlive hp hst hres hi hc hfree
  rw [if_pos hheld, if_pos hd] at hexec
  exact ⟨_, hexec, softOff_comesDown hp hst hc hn 6⟩

end

end Sys2Proof.Proofs
end

section
/-! PROOFS. The drive of a peg's line at its lead (R138, R140, R225), and the two halves together. -/

open Sys2Proof Sys2Proof.Machine

namespace Sys2Proof.Proofs

/-- A SELECT marks its channel and goes out on the link to the driver die. -/
theorem selUpdate_parts (s : State) (c : Fin 32) :
    ∃ x l, s.selUpdate c = { s.setECh c fun e => { e with sel := x } with links := l } := by
  have hself : s.setECh c (fun e => { e with sel := s.edg.ch[c].sel }) = s := by
    have hv : s.edg.ch.set c.val s.edg.ch[c] c.isLt = s.edg.ch := Vector.set_getElem_self c.isLt
    show { s with edg := { s.edg with ch := s.edg.ch.set c.val s.edg.ch[c] c.isLt } } = s
    rw [hv]
  unfold State.selUpdate State.selSend
  dsimp only
  split
  · exact ⟨s.edg.ch[c].sel, s.links, by rw [hself]⟩
  · split
    · exact ⟨_, _, rfl⟩
    · exact ⟨_, _, rfl⟩

/-- The first line action of a peg with instant i: a channel's, an ignition output's, or none (R138, R140, R225). -/
def lineAct (u : State) (w : Fin 9) (k : Fin 32) (p : Peg) (i : Nat) : State :=
  let s1 := u.setPeg w k fun q => { q with st := .driven }
  match p.ach, p.ign with
  | some c, _ =>
    if p.isOn then
      (if u.edg.ch[c].ack = .ok p.seq then s1.setECh c fun e => { e with
          line := true, dip := if e.line then some u.now else none, lastCmd := some i }
        else s1.selFail w k c).selUpdate c
    else if u.edgeLevel c then
      (s1.setECh c fun e => { e with line := false, lastCmd := some i }).setCh c fun d => { d with offPend := true }
    else s1.setPeg w k fun q => { q with mute := 4 }
  | none, some n =>
    let s2 := s1.setEIgn n fun e => { e with line := !p.spark, lastCmd := some i }
    if p.spark then s2 else s2.setDIgn n fun d => d.takeSoft p.seq
  | none, none => s1

/-- A line driven at TCLK n is high at once, or where it was high before, after 4 TCLK low. -/
theorem edgeLevel_risen {v : State} {c : Fin 32} {l : Bool} {n : Nat} (hline : v.edg.ch[c].line = true)
    (hdip : v.edg.ch[c].dip = if l then some n else none) (hn : n ≤ v.now) : v.edgeLevel c = (!l || decide (n + 4 ≤ v.now)) := by
  rw [State.edgeLevel, hline, hdip]
  cases l
  · rfl
  · simp only [if_pos, Bool.true_and, Bool.not_true, Bool.false_or, decide_eq_true hn, ← decide_not, Nat.not_lt]

/-- The slot of a peg that acts on its line. -/
theorem setPeg_driven {u : State} {w : Fin 9} {k : Fin 32} {p : Peg} (hslot : u.work[w].slots[k] = p) :
    (u.setPeg w k fun q => { q with st := .driven }).work[w].slots[k] = { p with st := .driven, mirBad := false } := by
  rw [State.setPeg_slot, hslot]

/-- An ON command without its SELECT is reported, and its peg acts no more. -/
theorem selFail_parts (v : State) {w : Fin 9} {k : Fin 32} {c : Fin 32} {p : Peg}
    (hslot : v.work[w].slots[k] = { p with st := .driven, mirBad := false }) :
    v.selFail w k c = (v.emit 1 (if v.edg.ch[c].ack = .bad p.seq then 0x17 else 0x16) (srcLine ⟨c.val, by omega⟩)
      (k.val + p.seq % 4096 * 32 + p.owner % 4096 * 2 ^ 17)).setPeg w k fun q => { q with mute := 3 } := by
  unfold State.selFail
  dsimp only
  rw [hslot]
  dsimp only
  congr 2
  generalize v.edg.ch[c].ack = a
  cases a with
  | none => rfl
  | ok q => rfl
  | bad q =>
    by_cases hq : q = p.seq
    · simp [hq]; rfl
    · simp [hq]; rfl

section
variable {s u : State} {w : Fin 9} {k : Fin 32} {p : Peg} {i : Nat} (hclk : s.clocked = true)
  (hp : s.work[w].slots[k] = p) (hst : p.st = .committed) (hmute : p.mute = 0) (hi : p.inst = some i)
  (hu : (s.advanceTo (i / 16 - s.leadOf p)).caughtUp = u)

include hp hst hu in
/-- A committed peg stands at its lead as it stood. -/
theorem atLead : u.work[w].slots[k] = p := by
  obtain ⟨-, -, hslot⟩ := State.letsStand_caughtUp (w := w) (k := k) (s.advanceTo (i / 16 - s.leadOf p))
  have hs : (s.advanceTo (i / 16 - s.leadOf p)).work[w].slots[k] = p := by rw [State.advanceTo_work]; exact hp
  rw [hu, hs] at hslot
  exact hslot (by rw [hst]; decide) (by rw [hst]; decide)

include hclk hp hst hmute hi hu in
/-- The action of a committed peg on its line. -/
theorem execPegDrive_acts (hkind : p.kind ≠ 9) : exec (.pegDrive w k) s = finish (lineAct u w k p i) := by
  have hexec : exec (.pegDrive w k) s = finish (s.pegDrive w k) := congrArg finish (State.awake_clocked hclk fun t => t.pegDrive w k)
  rw [hexec]
  unfold State.pegDrive
  dsimp only
  rw [hp, hi]
  dsimp only
  rw [if_neg (by simp [hst, hmute, hkind]), hu]
  rfl

theorem Peg.kind_of_ach {c : Fin 32} (h : p.ach = some c) : p.kind ≠ 9 := by
  intro h9
  simp [Peg.ach, Peg.isOn, Peg.isOff, h9] at h

include hclk hp hst hmute hi hu in
theorem pegDrive_on {c : Fin 32} (hc : p.ach = some c) (hon : p.kind = 1 ∨ p.kind = 3) (hack : u.edg.ch[c].ack = .ok p.seq) :
    ∃ t, exec (.pegDrive w k) s = .next t ∧ t.edg.ch[c].line = true
      ∧ (∀ x, t.now ≤ x → ({ t with now := x } : State).edgeLevel c = (!u.edg.ch[c].line || decide (t.now + 4 ≤ x)))
      ∧ t.edg.ch[c].lastCmd = some i ∧ t.work[w].slots[k] = { p with st := .driven, mirBad := false }
      ∧ (∀ d : Fin 32, d ≠ c → t.edg.ch[d] = u.edg.ch[d]) ∧ t.edg.ign = u.edg.ign ∧ t.drv = u.drv ∧ t.coll = u.coll := by
  have hexec := execPegDrive_acts hclk hp hst hmute hi hu (Peg.kind_of_ach hc)
  have hon' : p.isOn = true := by rcases hon with h | h <;> simp [Peg.isOn, h]
  have hslot := setPeg_driven (atLead hp hst hu)
  unfold lineAct at hexec
  dsimp only at hexec
  rw [hc] at hexec
  dsimp only at hexec
  rw [if_pos hon', if_pos hack] at hexec
  obtain ⟨x, l, hsel⟩ := selUpdate_parts ((u.setPeg w k fun q => { q with st := .driven }).setECh c fun e => { e with
    line := true, dip := if e.line then some u.now else none, lastCmd := some i }) c
  rw [hsel] at hexec
  refine ⟨_, hexec, ?_, fun y hy => ?_, ?_, hslot, fun d hd => ?_, rfl, rfl, rfl⟩
  · simp [State.settle, State.setECh, upd]
  · have hy : u.now ≤ y := hy
    refine edgeLevel_risen (n := u.now) ?_ ?_ hy
    · simp [State.settle, State.setECh, upd]
    · simp [State.settle, State.setECh, upd]
      rfl
  · simp [State.settle, State.setECh, upd]
  · simp [State.settle, State.setECh, upd, Vector.getElem_set_ne _ _ (Fin.val_ne_of_ne hd.symm)]

include hclk hp hst hmute hi hu in
theorem pegDrive_unselected {c : Fin 32} (hc : p.ach = some c) (hon : p.kind = 1 ∨ p.kind = 3) (hack : u.edg.ch[c].ack ≠ .ok p.seq) :
    ∃ t, exec (.pegDrive w k) s = .next t ∧ t.edg.ch[c].line = u.edg.ch[c].line
      ∧ t.work[w].slots[k] = { p with st := .driven, mute := 3, mirBad := false }
      ∧ u.Emits t 1 (if u.edg.ch[c].ack = .bad p.seq then 0x17 else 0x16) (srcLine ⟨c.val, by omega⟩)
        (k.val + p.seq % 4096 * 32 + p.owner % 4096 * 2 ^ 17) := by
  have hexec := execPegDrive_acts hclk hp hst hmute hi hu (Peg.kind_of_ach hc)
  have hon' : p.isOn = true := by rcases hon with h | h <;> simp [Peg.isOn, h]
  have hslot := setPeg_driven (atLead hp hst hu)
  have hedg : (u.setPeg w k fun q => { q with st := .driven }).edg = u.edg := rfl
  have hcoll : (u.setPeg w k fun q => { q with st := .driven }).coll = u.coll := rfl
  have hnow : (u.setPeg w k fun q => { q with st := .driven }).now = u.now := rfl
  unfold lineAct at hexec
  dsimp only at hexec
  rw [hc] at hexec
  dsimp only at hexec
  rw [if_pos hon', if_neg hack] at hexec
  generalize (u.setPeg w k fun q => { q with st := .driven }) = s1 at hexec hslot hedg hcoll hnow
  have hfail := selFail_parts s1 (c := c) hslot
  rw [hedg] at hfail
  rw [hfail] at hexec
  generalize (if u.edg.ch[c].ack = .bad p.seq then 0x17 else 0x16) = kind at hexec
  generalize k.val + p.seq % 4096 * 32 + p.owner % 4096 * 2 ^ 17 = ctx at hexec
  generalize srcLine ⟨c.val, by omega⟩ = src at hexec
  have hwork := s1.emit_work 1 kind src ctx
  have hedg' := (s1.emit_edg 1 kind src ctx).trans hedg
  have hnow' := (s1.emit_now 1 kind src ctx).trans hnow
  have hemits (t : State) (hco : t.coll = (s1.emit 1 kind src ctx).coll) (htn : t.now = u.now) : u.Emits t 1 kind src ctx :=
    State.emits_emit (u := s1) (by rw [hcoll]) hnow.ge (by rw [hco]; exact List.Subset.refl _) (hnow.trans htn.symm).le
  generalize s1.emit 1 kind src ctx = e at hexec hwork hedg' hnow' hemits
  obtain ⟨x, l, hsel⟩ := selUpdate_parts (e.setPeg w k fun q => { q with mute := 3 }) c
  rw [hsel] at hexec
  refine ⟨_, hexec, ?_, ?_, hemits _ rfl hnow'⟩
  · simp [State.settle, State.setECh, upd, hedg']
  · refine (e.setPeg_slot w k _).trans ?_
    rw [hwork, hslot]

include hclk hp hst hmute hi hu in
theorem pegDrive_off {c : Fin 32} (hc : p.ach = some c) (hoff : p.kind = 2 ∨ p.kind = 4) (hl : u.edgeLevel c = true) :
    ∃ t, exec (.pegDrive w k) s = .next t
      ∧ t.edg = { u.edg with ch := u.edg.ch.set c.val { u.edg.ch[c] with line := false, lastCmd := some i } c.isLt }
      ∧ t.drv = { u.drv with ch := u.drv.ch.set c.val { u.drv.ch[c] with offPend := true } c.isLt }
      ∧ t.work[w].slots[k] = { p with st := .driven, mirBad := false } ∧ t.links = u.links ∧ t.coll = u.coll := by
  have hexec := execPegDrive_acts hclk hp hst hmute hi hu (Peg.kind_of_ach hc)
  have hon' : ¬(p.isOn = true) := by rcases hoff with h | h <;> simp [Peg.isOn, h]
  have hslot := setPeg_driven (atLead hp hst hu)
  unfold lineAct at hexec
  dsimp only at hexec
  rw [hc] at hexec
  dsimp only at hexec
  rw [if_neg hon', if_pos hl] at hexec
  exact ⟨_, hexec, rfl, rfl, hslot, rfl, rfl⟩

include hclk hp hst hmute hi hu in
theorem pegDrive_idle {c : Fin 32} (hc : p.ach = some c) (hoff : p.kind = 2 ∨ p.kind = 4) (hl : u.edgeLevel c = false) :
    ∃ t, exec (.pegDrive w k) s = .next t ∧ t.edg = u.edg ∧ t.drv = u.drv
      ∧ t.work[w].slots[k] = { p with st := .driven, mute := 4, mirBad := false } := by
  have hexec := execPegDrive_acts hclk hp hst hmute hi hu (Peg.kind_of_ach hc)
  have hon' : ¬(p.isOn = true) := by rcases hoff with h | h <;> simp [Peg.isOn, h]
  have hslot := setPeg_driven (atLead hp hst hu)
  unfold lineAct at hexec
  dsimp only at hexec
  rw [hc] at hexec
  dsimp only at hexec
  rw [if_neg hon', hl, if_neg Bool.false_ne_true] at hexec
  exact ⟨_, hexec, rfl, rfl, (State.setPeg_slot ..).trans (by rw [hslot])⟩

theorem ach_none (h : ¬(p.kind = 1 ∨ p.kind = 2 ∨ p.kind = 3 ∨ p.kind = 4)) : p.ach = none := by
  refine if_neg fun hach => h ?_
  simp only [Peg.isOn, Peg.isOff, Bool.or_eq_true, decide_eq_true_eq] at hach
  tauto

include hclk hp hst hmute hi hu in
theorem pegDrive_coil {n : Fin 24} (hn : p.ign = some n) :
    ∃ t, exec (.pegDrive w k) s = .next t
      ∧ t.edg = { u.edg with ign := u.edg.ign.set n.val { u.edg.ign[n] with line := !p.spark, lastCmd := some i } n.isLt }
      ∧ t.work[w].slots[k] = { p with st := .driven, mirBad := false } ∧ t.links = u.links ∧ t.coll = u.coll
      ∧ t.drv = if p.spark then u.drv
        else { u.drv with ign := u.drv.ign.set n.val (u.drv.ign[n].takeSoft p.seq) n.isLt } := by
  have hkind : p.kind = 5 := by
    by_contra h
    rw [Peg.ign, if_neg h] at hn
    exact nomatch hn
  have hexec := execPegDrive_acts hclk hp hst hmute hi hu (by omega)
  have hslot := setPeg_driven (atLead hp hst hu)
  unfold lineAct at hexec
  dsimp only at hexec
  rw [ach_none (by omega), hn] at hexec
  dsimp only at hexec
  split at hexec
  · next hsp => exact ⟨_, hexec, rfl, hslot, rfl, rfl, (if_pos hsp).symm⟩
  · next hsp => exact ⟨_, hexec, rfl, hslot, rfl, rfl, (if_neg hsp).symm⟩

include hclk hp hst hmute hi hu in
theorem pegDrive_other (hkind : p.kind = 6 ∨ p.kind = 7 ∨ p.kind = 8) :
    ∃ t, exec (.pegDrive w k) s = .next t
      ∧ t.work[w].slots[k] = { p with st := .driven, mirBad := false } ∧ t.edg = u.edg ∧ t.ms = u.ms ∧ t.jig = u.jig := by
  have hexec := execPegDrive_acts hclk hp hst hmute hi hu (by omega)
  have hslot := setPeg_driven (atLead hp hst hu)
  have hign : p.ign = none := if_neg (by omega)
  unfold lineAct at hexec
  dsimp only at hexec
  rw [ach_none (by omega), hign] at hexec
  exact ⟨_, hexec, hslot, rfl, rfl, rfl⟩

end

/-- Settles O37: what a peg does at its commit point, then what it does at its lead, by its kind. -/
theorem pegCommitsAndDrives : Obligations.PegCommitsAndDrives := by
  constructor
  · intro s w k hclk hlive p hst hres i hi c may hfree
    have hi : p.inst = some i := hi
    exact ⟨pegCommit_commits hclk hlive rfl hst hres hi rfl hfree, pegCommit_barred hclk hlive rfl hst hres hi rfl hfree,
      fun hheld hmay hd n hn => pegCommit_coilBarred hclk hlive rfl hst hres hi rfl hfree hheld hmay hd hn,
      pegCommit_held hclk hlive rfl hst hres hi rfl hfree,
      fun hheld hd n hn => pegCommit_coilHeld hclk hlive rfl hst hres hi rfl hfree hheld hd hn⟩
  · intro s w k hclk p hst hmute i hi u
    have hi : p.inst = some i := hi
    exact ⟨fun c hc hon => ⟨pegDrive_on hclk rfl hst hmute hi rfl hc hon, pegDrive_unselected hclk rfl hst hmute hi rfl hc hon⟩,
      fun c hc hoff => ⟨pegDrive_off hclk rfl hst hmute hi rfl hc hoff, pegDrive_idle hclk rfl hst hmute hi rfl hc hoff⟩,
      fun n hn => pegDrive_coil hclk rfl hst hmute hi rfl hn, pegDrive_other hclk rfl hst hmute hi rfl⟩

end Sys2Proof.Proofs
end

section
/-! SUPPORT. What the sealed bank, the always-on writes and a change of the device state leave (R335, R395, R463). -/

namespace Sys2Proof.Machine

/-! ### A message and the registers -/

/-- A message changes no register but FLT_STAT. -/
theorem State.emit_rg_ne (s : State) (cls kind src ctx : Nat) {q : RegRow} {i j : Nat} (h : q.addr i j ≠ Reg.fltStat.addr 0 0) :
    (s.emit cls kind src ctx).rg q i j = s.rg q i j := by
  unfold State.emit
  dsimp only
  generalize outboxPut _ s.coll = x
  obtain ⟨co, lost⟩ := x
  dsimp only
  have hsend (c : Bool) (x : Xfer) : (if c = true then ({ s with coll := co } : State).ddlSend x else { s with coll := co }).rg q i j
      = s.rg q i j := by
    split <;> rfl
  split
  · exact (State.bump_rg_ne _ _ _ h).trans (hsend ..)
  · exact hsend ..

theorem State.emit_rb_ne (s : State) (cls kind src ctx : Nat) {q : RegRow} {i n : Nat} (h : q.addr i 0 ≠ Reg.fltStat.addr 0 0) :
    (s.emit cls kind src ctx).rb q i n = s.rb q i n := by
  rw [State.rb, State.rb, State.emit_rg_ne s _ _ _ _ h]

/-! ### The sealed bank (R335, R336) -/

/-- The second state differs from the first in nothing that the always-on domain keeps over STANDBY but the sealed counters. -/
def State.BankFrame (s t : State) : Prop :=
  t.pending = s.pending ∧ t.otp = s.otp ∧ t.free = s.free ∧ t.ao = { s.ao with seals := t.ao.seals }

theorem State.BankFrame.of_eq {s t : State} (hp : t.pending = s.pending) (ho : t.otp = s.otp) (hf : t.free = s.free) (ha : t.ao = s.ao) :
    s.BankFrame t := ⟨hp, ho, hf, by rw [ha]⟩

theorem State.BankFrame.refl (s : State) : s.BankFrame s := .of_eq rfl rfl rfl rfl

theorem State.BankFrame.trans {s t u : State} (h : s.BankFrame t) (h' : t.BankFrame u) : s.BankFrame u := by
  obtain ⟨hp, ho, hf, ha⟩ := h
  obtain ⟨hp', ho', hf', ha'⟩ := h'
  exact ⟨hp'.trans hp, ho'.trans ho, hf'.trans hf, by rw [ha', ha]⟩

theorem State.BankFrame.foldl {α : Type} {f : State → α → State} (hf : ∀ (t : State) (x : α), t.BankFrame (f t x)) (l : List α)
    (s : State) : s.BankFrame (l.foldl f s) := by
  induction l generalizing s with
  | nil => exact .refl s
  | cons x l ih => exact (hf s x).trans (ih _)

theorem State.bankFrame_setSeal (s : State) (n : Fin 16) (f : SealCnt → SealCnt) : s.BankFrame (s.setSeal n f) := ⟨rfl, rfl, rfl, rfl⟩

theorem State.bankFrame_emit (s : State) (cls kind src ctx : Nat) : s.BankFrame (s.emit cls kind src ctx) := by
  rw [State.emit_frame]
  exact .of_eq rfl rfl rfl rfl

theorem State.bankFrame_sealHalf (s : State) (n : Fin 16) (i : Nat) (found : Fin 3) : s.BankFrame (s.sealHalf n i found) := by
  have hbreak (t : State) : t.BankFrame (t.sealBreak n) := by
    unfold State.sealBreak
    split
    · exact .refl t
    · exact (t.bankFrame_setSeal ..).trans (State.bankFrame_emit ..)
  unfold State.sealHalf
  split
  · exact .refl s
  · split
    · exact .refl s
    · exact s.bankFrame_emit ..
    · exact (s.bankFrame_emit ..).trans (hbreak _)

theorem State.bankFrame_sealSum (s : State) : s.BankFrame s.sealSum := by
  have hone (t : State) (n : Fin 16) : t.BankFrame (if t.ao.seals[n].gathered = 0 then t else t.sealCheck n 0) := by
    split
    · exact .refl t
    · exact (t.bankFrame_sealHalf n 0 0).trans (State.bankFrame_sealHalf ..)
  have hflush (t : State) : t.BankFrame t.sealFlush := ⟨rfl, rfl, rfl, rfl⟩
  exact (State.BankFrame.foldl hone _ s).trans (hflush _)

theorem State.bankFrame_ddlArrive (s : State) (x : Xfer) : s.BankFrame (s.ddlArrive x) := by
  have hgood : s.BankFrame (if x.toDriver then { s with links := { s.links with lastGood := some s.now } } else s) := by
    split
    · exact .of_eq rfl rfl rfl rfl
    · exact .refl s
  have hring (t : State) (r : Fin 3) (slot : List Nat) : t.BankFrame (t.ringStage r slot) := by
    obtain ⟨v, g, h, co, l, tr, e, ht⟩ := t.pegFrame_ringStage r slot
    rw [ht]
    exact .of_eq rfl rfl rfl rfl
  unfold State.ddlArrive
  dsimp only
  generalize (if x.toDriver then { s with links := { s.links with lastGood := some s.now } } else s : State) = u at hgood
  split
  · exact hgood
  · exact hgood.trans (.of_eq rfl rfl rfl rfl)
  · exact hgood.trans (.of_eq rfl rfl rfl rfl)
  · exact hgood.trans (u.bankFrame_setSeal ..)
  · exact hgood.trans (hring ..)
  · exact hgood.trans (.of_eq rfl rfl rfl rfl)

/-- The increments of the driver die and their addition change nothing but counters. -/
theorem State.bankFrame_drained (s : State) : s.BankFrame s.sealDrain.sealSum := by
  have hdrain : s.BankFrame s.sealDrain :=
    State.BankFrame.trans (.of_eq rfl rfl rfl rfl) (.foldl (fun t x => t.bankFrame_ddlArrive x) _ _)
  exact hdrain.trans (State.bankFrame_sealSum _)

/-! ### The always-on domain at an SCLK edge (R21, R463) -/

/-- The record that waits, or the present one. -/
def State.scribeDue (s : State) : Scribe := s.ao.scribeNext.getD s.ao.scribe

/-- Staged writes change of the always-on domain the alarm's low word and the scribe record's copies alone. -/
theorem State.commitStaged_ao (s : State) : ∃ lo, s.commitStaged.ao = { s.ao with
    alarmLo := lo, staged := [], scribe := s.scribeDue, scribeNext := none, scribeSeen := s.scribeDue, scribePrev := s.ao.scribeSeen } := by
  have hone (t : State) (a : Nat) (v : Word) : ∃ lo, (t.commitOne a v).ao = { t.ao with alarmLo := lo } := by
    unfold State.commitOne
    split
    · exact ⟨v, rfl⟩
    · split
      · exact ⟨_, rfl⟩
      · split
        · exact ⟨_, rfl⟩
        · split
          · exact ⟨_, rfl⟩
          · exact ⟨_, rfl⟩
  have hfold (l : List (Nat × Word)) (t : State) :
      ∃ lo, (l.foldl (fun (t : State) (x : Nat × Word) => t.commitOne x.1 x.2) t).ao = { t.ao with alarmLo := lo } := by
    induction l generalizing t with
    | nil => exact ⟨_, rfl⟩
    | cons x l ih =>
      obtain ⟨lo, hlo⟩ := ih (t.commitOne x.1 x.2)
      obtain ⟨lo', hlo'⟩ := hone t x.1 x.2
      exact ⟨lo, by rw [List.foldl_cons, hlo, hlo']⟩
  obtain ⟨lo, hlo⟩ := hfold s.ao.staged s
  unfold State.commitStaged
  dsimp only
  rw [hlo]
  exact ⟨lo, rfl⟩

theorem State.sclkEdges_ao (s : State) {n : Nat} (hn : n ≠ 0) : ∃ lo p, (s.sclkEdges n).ao = { s.ao with
    alarmLo := lo, staged := [], scribe := s.scribeDue, scribeNext := none, scribeSeen := s.scribeDue, scribePrev := p
    slow := (s.ao.slow + n) % 2 ^ 48, slowPrev := (s.ao.slow + n - 1) % 2 ^ 48 } := by
  obtain ⟨lo, hlo⟩ := s.commitStaged_ao
  unfold State.sclkEdges
  rw [if_neg hn]
  dsimp only
  rw [hlo]
  exact ⟨lo, _, rfl⟩

/-! ### The device state (R395, R450) -/

/-- An event of the host port sets its bit of HOST_STAT. -/
theorem State.hostEvent_parts (s : State) (b n : Nat) : s.hostEvent b n = { s with
    regs := (s.hostEvent b n).regs, hwSet := (s.hostEvent b n).hwSet, mnt := (s.hostEvent b n).mnt } := rfl

theorem State.hostEvent_rb (s : State) {b : Nat} (hb : b < 32) (n : Nat) : (s.hostEvent b n).rb Reg.hostStat 0 b = true := by
  have h : (s.hostEvent b n).rb Reg.hostStat 0 b = (s.setRf Reg.hostStat 0 b b 1).rb Reg.hostStat 0 b := rfl
  rw [h, State.setRf_rb _ _ _ _ hb]
  rfl

/-- A change of the device state is an event of the host port. -/
theorem State.toState_parts (s : State) (d : DState) : s.toState d = { s with
    sys := { s.sys with st := d }, regs := (s.toState d).regs, hwSet := (s.toState d).hwSet, mnt := (s.toState d).mnt } := by
  unfold State.toState
  split
  · next h => rw [← h]
  · rfl

theorem State.toState_stchg (s : State) {d : DState} (h : s.sys.st ≠ d) : (s.toState d).rb Reg.hostStat 0 0 = true := by
  rw [State.toState, if_neg h]
  exact State.hostEvent_rb _ (by decide) 1

end Sys2Proof.Machine
end

section
/-! PROOFS. STANDBY, its wake sources, the scribe record and the wake (R455 to R461). -/

open Sys2Proof Sys2Proof.Machine

namespace Sys2Proof.Proofs

/-! ### The scribe record -/

/-- The scribe record after an edge of WHL0: phase is known, rev says that it was a reverse one (R460). -/
def edgeCounted (phase rev : Bool) (r : Scribe) : Scribe := { r with
  edges := min 255 (r.edges + 1), dirk := r.dirk && phase, valid := r.valid && decide (r.edges < 255) && !(phase && rev) }

/-- The same where the word of the record could not be used. -/
def edgePut (b phase rev : Bool) (r : Scribe) : Scribe :=
  if b then edgeCounted phase rev r else { edgeCounted phase rev r with valid := false }

theorem edgeCounted_eq (phase rev : Bool) (r : Scribe) : edgeCounted phase rev r = { r with
    edges := if decide (255 ≤ r.edges) = true then 255 else r.edges + 1
    dirk := r.dirk && phase, valid := r.valid && !decide (255 ≤ r.edges) && !(phase && rev) } := by
  unfold edgeCounted
  by_cases h : 255 ≤ r.edges
  · rw [if_pos (decide_eq_true h), Nat.min_eq_left (by omega), decide_eq_true h, decide_eq_false (by omega)]
    rfl
  · rw [if_neg (by simpa using h), Nat.min_eq_right (by omega), decide_eq_false h, decide_eq_true (by omega)]
    rfl

theorem edgePut_lost (phase rev : Bool) (r : Scribe) :
    edgeCounted phase rev { r with valid := false } = edgePut false phase rev r := by
  simp [edgeCounted, edgePut]

section
variable (s : State)

/-- The scribe record is changed and nothing else of the device but what a message takes. -/
def Scribed (f : Scribe → Scribe) (t : State) : Prop :=
  t = { s with
    ao := { s.ao with scribe := f s.ao.scribe, scribeNext := s.ao.scribeNext.map f }
    coll := t.coll, links := t.links, regs := t.regs, hwSet := t.hwSet
    inj := { s.inj with flips := s.inj.flips.filter fun f => f.1 ≠ Reg.scribe.base } }
  ∧ t.rb Reg.wakeCfg 0 2 = s.rb Reg.wakeCfg 0 2

theorem scribed_setScribe (f : Scribe → Scribe) : Scribed s f (s.setScribe f) := ⟨rfl, rfl⟩

theorem wakeCfg_emit (cls kind src ctx : Nat) : (s.emit cls kind src ctx).rb Reg.wakeCfg 0 2 = s.rb Reg.wakeCfg 0 2 :=
  s.emit_rb_ne _ _ _ _ (by decide)

theorem scribed_emit (cls kind src ctx : Nat) (f : Scribe → Scribe) : Scribed s f ((s.emit cls kind src ctx).setScribe f) := by
  refine ⟨?_, wakeCfg_emit s cls kind src ctx⟩
  rw [State.emit_frame]
  rfl

theorem scribed_twice {f g h : Scribe → Scribe} (hfg : ∀ r, g (f r) = h r) (cls kind src ctx : Nat) :
    Scribed s h (((s.emit cls kind src ctx).setScribe f).setScribe g) := by
  obtain rfl : h = g ∘ f := funext fun r => (hfg r).symm
  refine ⟨?_, wakeCfg_emit s cls kind src ctx⟩
  rw [State.emit_frame]
  simp [State.setScribe, State.unflip]

variable {s} {n : Nat}

theorem scribe_ecc (hflip : (s.inj.flips.find? (·.1 = Reg.scribe.base)).map (·.2) = if n = 0 then none else some n) :
    s.eccOf Reg.scribe.base 0 = n := by
  unfold State.eccOf
  generalize s.inj.flips.find? (·.1 = Reg.scribe.base) = o at hflip
  by_cases hn : n = 0
  · rw [if_pos hn] at hflip
    obtain rfl := Option.map_eq_none_iff.1 hflip
    exact hn.symm
  · rw [if_neg hn] at hflip
    obtain ⟨f, rfl, hf⟩ := Option.map_eq_some_iff.1 hflip
    exact (Nat.zero_max _).trans hf

/-- The edge of WHL0 at the wake logic: the record read under its check, then counted (R459, R460). -/
theorem scribeCheck_counted (hn : n < 3)
    (hflip : (s.inj.flips.find? (·.1 = Reg.scribe.base)).map (·.2) = if n = 0 then none else some n) (phase rev : Bool) :
    let t := s.scribeCheck.setScribe (edgeCounted phase rev)
    Scribed s (edgePut (decide (n ≠ 2)) phase rev) t
      ∧ (n = 1 → t.coll = (s.emit 0 Kind.eccCe 0x3FF 0).coll) ∧ (n = 2 → t.coll = (s.emit 1 Kind.eccUe 0x3FF 0).coll) := by
  have hecc := scribe_ecc hflip
  have hcoll (v : State) (f : Scribe → Scribe) : (v.setScribe f).coll = v.coll := rfl
  have hcheck : s.scribeCheck = if n = 0 then s else if n = 1 then s.emit 0 Kind.eccCe 0x3FF 0
      else (s.emit 1 Kind.eccUe 0x3FF 0).setScribe fun r => { r with valid := false } := by
    unfold State.scribeCheck
    dsimp only
    rw [hecc, show srcC 3 0xF 0xF = 0x3FF from rfl]
    rcases n with _ | _ | _ <;> rfl
  dsimp only
  rw [hcheck]
  obtain rfl | rfl | rfl : n = 0 ∨ n = 1 ∨ n = 2 := by omega
  · exact ⟨scribed_setScribe s _, fun h => absurd h (by decide), fun h => absurd h (by decide)⟩
  · exact ⟨scribed_emit s _ _ _ _ _, fun _ => by simp [hcoll], fun h => absurd h (by decide)⟩
  · exact ⟨scribed_twice s (edgePut_lost phase rev) _ _ _ _, fun h => absurd h (by decide), fun _ => by simp [hcoll]⟩

end

/-! ### The latch of wake events (R457) -/

/-- The latched wake events with one more. -/
def latched (s : State) (n : Nat) : List Nat := if n ∈ s.sys.wakeLatch then s.sys.wakeLatch else s.sys.wakeLatch ++ [n]

section
variable {s : State} (hst : s.sys.st = .standby)
include hst

theorem standbyEdge_counts (aux0 : Bool) (hcount : s.ao.counting = true) (hvio : s.sys.vio[1] = true) {n : Nat} (hn : n < 3)
    (hflip : (s.inj.flips.find? (·.1 = Reg.scribe.base)).map (·.2) = if n = 0 then none else some n) :
    let put := edgePut (decide (n ≠ 2)) (s.rb Reg.scribeCfg 0 2) (aux0 != s.rb Reg.scribeCfg 0 3)
    ∃ t, exec (.standbyEdge aux0) s = .next t ∧ exec (.wakeWhl aux0) s = .next t
      ∧ (t = { s with
          sys := t.sys, ao := { s.ao with scribe := put s.ao.scribe, scribeNext := s.ao.scribeNext.map put }
          coll := t.coll, trc := t.trc, links := t.links, mnt := t.mnt, regs := t.regs, hwSet := t.hwSet
          inj := { s.inj with flips := s.inj.flips.filter fun f => f.1 ≠ Reg.scribe.base }, pins := t.pins }
        ∧ t.sys = { s.sys with wakeLatch := if s.rb Reg.wakeCfg 0 2 then latched s 2 else s.sys.wakeLatch })
      ∧ (n = 1 → s.Emits t 0 Kind.eccCe 0x3FF 0) ∧ (n = 2 → s.Emits t 1 Kind.eccUe 0x3FF 0) := by
  have hexec : exec (.standbyEdge aux0) s = finish (s.standbyEdge aux0) := rfl
  have hwhl : exec (.wakeWhl aux0) s = finish (s.standbyEdge aux0) := congrArg finish (if_pos hst)
  obtain ⟨⟨hsame, hcfg⟩, hce, hue⟩ := scribeCheck_counted hn hflip (s.rb Reg.scribeCfg 0 2) (aux0 != s.rb Reg.scribeCfg 0 3)
  have hedge : s.standbyEdge aux0 = (fun u : State => if u.sys.st = .standby ∧ u.rb Reg.wakeCfg 0 2 = true then u.latchWake 2 else u)
      (s.scribeCheck.setScribe (edgeCounted (s.rb Reg.scribeCfg 0 2) (aux0 != s.rb Reg.scribeCfg 0 3))) := by
    have hrun : ¬((!s.ao.counting || !s.sys.vio[1]) = true) := by rw [hcount, hvio]; decide
    unfold State.standbyEdge
    dsimp only
    rw [if_neg hrun, show edgeCounted _ _ = _ from funext fun r => edgeCounted_eq _ _ r]
  generalize s.scribeCheck.setScribe (edgeCounted (s.rb Reg.scribeCfg 0 2) (aux0 != s.rb Reg.scribeCfg 0 3)) = u at *
  rw [hedge] at hexec hwhl
  have hust : u.sys.st = .standby := by rw [hsame]; exact hst
  have hsys : u.sys = s.sys := by rw [hsame]
  have hnow : u.now = s.now := by rw [hsame]
  have hemits (t : State) (htc : t.coll = u.coll) (htn : t.now = u.now) {cls kind src : Nat} (h : u.coll = (s.emit cls kind src 0).coll) :
      s.Emits t cls kind src 0 :=
    State.emits_emit rfl (le_refl _) (by rw [htc, h]; exact List.Subset.refl _) (by omega)
  dsimp only at hexec hwhl
  rw [hcfg] at hexec hwhl
  by_cases hw : s.rb Reg.wakeCfg 0 2 = true
  · rw [if_pos ⟨hust, hw⟩] at hexec hwhl
    refine ⟨_, hexec, hwhl, ⟨?_, ?_⟩, fun h => hemits _ rfl rfl (hce h), fun h => hemits _ rfl rfl (hue h)⟩
    · unfold State.latchWake State.settle
      dsimp only
      rw [hsame]
    · rw [if_pos hw, latched, ← hsys]
      rfl
  · rw [if_neg fun h => hw h.2] at hexec hwhl
    refine ⟨_, hexec, hwhl, ⟨?_, ?_⟩, fun h => hemits _ rfl rfl (hce h), fun h => hemits _ rfl rfl (hue h)⟩
    · unfold State.settle
      dsimp only
      rw [hsame]
    · rw [if_neg hw]
      exact hsys

theorem wakePin_latches (hen : s.rb Reg.wakeCfg 0 0 = true) (hvio : s.sys.vio[3] = true) :
    exec .wakePin s = .next ({ s with sys := { s.sys with wakeLatch := latched s 1 } } : State).settle :=
  congrArg finish (if_pos ⟨hst, hen, hvio⟩)

theorem wakeMnt_latches {addr : BitVec 7} (hen : s.rb Reg.wakeCfg 0 4 = true) (haddr : addr.toNat = 0x58 + s.sys.ma % 8) :
    exec (.wakeMnt addr) s = .next ({ s with sys := { s.sys with wakeLatch := latched s 4 } } : State).settle :=
  congrArg finish (if_pos ⟨hst, hen, haddr⟩)

omit hst in
/-- The latch of a wake event after SCLK edges. -/
theorem latchWake_parts {u : State} (hu : u = { s with ao := u.ao, regs := u.regs }) (n : Nat) : ∃ t, finish (u.latchWake n) = .next t
    ∧ t = { s with sys := t.sys, ao := t.ao, regs := t.regs, pins := t.pins }
    ∧ t.sys = { s.sys with wakeLatch := latched s n } ∧ t.ao = u.ao ∧ t.regs = u.regs := by
  have hsys : u.sys = s.sys := by rw [hu]
  refine ⟨_, rfl, ?_, ?_, rfl, rfl⟩
  · unfold State.latchWake State.settle
    dsimp only
    rw [hu]
  · rw [latched, ← hsys]
    rfl

/-- The slow counter at WAKE_ALARM: the SCLK edges up to it have passed (R457). -/
theorem wakeAlarm_latches (hen : s.rb Reg.wakeCfg 0 3 = true) :
    ∃ t, exec .wakeAlarm s = .next t ∧ t = { s with sys := t.sys, ao := t.ao, regs := t.regs, pins := t.pins }
      ∧ t.sys = { s.sys with wakeLatch := latched s 3 }
      ∧ (s.alarm < 2 ^ 48 → s.ao.slow < 2 ^ 48 → t.ao.slow = s.alarm) ∧ (s.ao.slow = s.alarm → t.ao = s.ao ∧ t.regs = s.regs) := by
  have hexec : exec .wakeAlarm s = finish ((s.sclkEdges ((s.alarm + 2 ^ 48 - s.ao.slow) % 2 ^ 48)).latchWake 3) :=
    congrArg finish (if_pos ⟨hst, hen⟩)
  generalize hn : (s.alarm + 2 ^ 48 - s.ao.slow) % 2 ^ 48 = n at hexec
  obtain ⟨t, ht, hparts, hsys, hao, hregs⟩ := latchWake_parts (s.sclkEdges_frame n) 3
  refine ⟨t, hexec.trans ht, hparts, hsys, fun ha hs => ?_, fun he => ?_⟩
  · rw [hao]
    by_cases h0 : n = 0
    · rw [State.sclkEdges, if_pos h0]
      omega
    · obtain ⟨lo, q, hedges⟩ := s.sclkEdges_ao h0
      rw [hedges]
      show (s.ao.slow + n) % 2 ^ 48 = _
      omega
  · have h0 : n = 0 := by rw [← hn, he, Nat.add_sub_cancel_left, Nat.mod_self]
    rw [hao, hregs, State.sclkEdges, if_pos h0]
    exact ⟨rfl, rfl⟩

/-- The wake: the lowest source is recorded at the next SCLK edge, and SELFTEST begins (R458). -/
theorem wakeBegin_selftest (hdone : s.sys.stbyDone = true) {c : Nat} (hc : c ∈ s.sys.wakeLatch) : ∃ t, exec .wakeBegin s = .next t
    ∧ t.sys = { s.sys with st := .selftest, stbyDone := false, wakeLatch := [], wakeRun := true }
    ∧ t.ao.src ∈ s.sys.wakeLatch ∧ t.ao.src ≤ c ∧ t.ao.slow = (s.ao.slow + 1) % 2 ^ 48 ∧ t.ao.scribe = s.scribeDue
    ∧ t.whl = Wheels.reset true ∧ t.rb Reg.hostStat 0 0 = true
    ∧ t = { s with sys := t.sys, ao := t.ao, whl := t.whl, regs := t.regs, mnt := t.mnt, hwSet := t.hwSet, pins := t.pins } := by
  obtain ⟨d, l, hl⟩ : ∃ d l, s.sys.wakeLatch = d :: l := List.exists_cons_of_ne_nil (List.ne_nil_of_mem hc)
  obtain ⟨hmem, hle⟩ : l.foldl min d ∈ d :: l ∧ ∀ e ∈ d :: l, l.foldl min d ≤ e := List.min?_eq_some_iff.1 List.min?_cons'
  rw [← hl] at hmem hle
  have hrun : ¬(s.sys.st ≠ .standby ∨ (!s.sys.stbyDone) = true) := by simp [hst, hdone]
  obtain ⟨lo, q, hao⟩ := s.sclkEdges_ao (n := 1) (by decide)
  obtain ⟨a, g, hx⟩ : ∃ a g, s.sclkEdges 1 = { s with ao := a, regs := g } := ⟨_, _, s.sclkEdges_frame 1⟩
  have hexec : exec .wakeBegin s = finish (({ s with
      ao := { a with src := l.foldl min d }, regs := g, whl := Wheels.reset true
      sys := { s.sys with stbyDone := false, wakeLatch := [], wakeRun := true } } : State).toState .selftest) := by
    show finish s.wakeBegin = _
    unfold State.wakeBegin
    rw [hl]
    dsimp only
    rw [if_neg hrun, hx]
  have hstchg := State.toState_stchg ({ s with
      ao := { a with src := l.foldl min d }, regs := g, whl := Wheels.reset true
      sys := { s.sys with stbyDone := false, wakeLatch := [], wakeRun := true } } : State) (d := .selftest)
    (by show s.sys.st ≠ _; rw [hst]; decide)
  have hparts := State.toState_parts ({ s with
      ao := { a with src := l.foldl min d }, regs := g, whl := Wheels.reset true
      sys := { s.sys with stbyDone := false, wakeLatch := [], wakeRun := true } } : State) .selftest
  rw [hx] at hao
  obtain rfl : a = _ := hao
  generalize (State.toState _ .selftest) = t at *
  refine ⟨_, hexec, ?_, ?_, ?_, ?_, ?_, ?_, hstchg, ?_⟩
  · show t.sys = _
    rw [hparts]
  · show t.ao.src ∈ _
    rw [hparts]
    exact hmem
  · show t.ao.src ≤ _
    rw [hparts]
    exact hle c hc
  · show t.ao.slow = _
    rw [hparts]
  · show t.ao.scribe = _
    rw [hparts]
  · show t.whl = _
    rw [hparts]
  · unfold State.settle
    dsimp only
    rw [hparts]

/-- STANDBY complete: everything but the always-on domain is at its reset state (R455, R456). -/
theorem standbyComplete_resets (hdone : s.sys.stbyDone = false) : ∃ t, exec .standbyComplete s = .next t
    ∧ t = { State.reset with
        pending := s.pending, sys := t.sys, ao := t.ao, otp := s.otp, regs := t.regs, inj := t.inj, free := s.free, pins := t.pins }
    ∧ t.sys.st = .standby ∧ t.sys.stbyDone = true ∧ t.sys.wakeLatch = s.sys.wakeLatch ∧ t.ao.staged = []
    ∧ t.ao.slow = s.ao.slow ∧ t.ao.scribe = s.scribeDue ∧ t.ao.kept = s.ao.kept ∧ t.pins.quiet = true := by
  have hrun : ¬(s.sys.st ≠ .standby ∨ s.sys.stbyDone = true) := by simp [hst, hdone]
  have hexec : exec .standbyComplete s = finish ((fun u : State => { u with sys := { u.sys with
      stbyDone := true, wakeLatch := s.sys.wakeLatch } }) (s.sealDrain.sealSum.commitStaged.regionsReset.setDState .standby)) := by
    show finish s.standbyComplete = _
    unfold State.standbyComplete
    rw [if_neg hrun]
  obtain ⟨hp, ho, hf, ha⟩ := s.bankFrame_drained
  generalize s.sealDrain.sealSum = u at *
  have hcommit := u.commitStaged_frame
  obtain ⟨lo, hao⟩ := u.commitStaged_ao
  have hdue : u.scribeDue = s.scribeDue := by rw [State.scribeDue, State.scribeDue, ha]
  refine ⟨_, hexec, ?_, rfl, rfl, rfl, ?_, ?_, ?_, ?_, State.pinsOf_quiet ?_⟩
  · show State.settle _ = _
    rw [hcommit]
    simp only [State.settle, State.setDState, State.regionsReset, hp, ho, hf]
  · show u.commitStaged.ao.staged = _
    rw [hao]
  · show u.commitStaged.ao.slow = _
    rw [hao, ha]
  · show u.commitStaged.ao.scribe = _
    rw [hao, ← hdue]
  · show u.commitStaged.ao.kept = _
    rw [hao, ha]
  · simp [State.drvOff, State.clocked, State.setDState]

end

/-- Settles O26: STANDBY complete, the wake sources one by one, and the wake. -/
theorem standbyAndWake : Obligations.StandbyAndWake := by
  intro s aux0 addr hst
  dsimp only
  exact ⟨standbyComplete_resets hst, wakePin_latches hst, wakeMnt_latches hst,
    fun hcount hvio n hn hflip => standbyEdge_counts hst aux0 hcount hvio hn hflip, wakeAlarm_latches hst,
    fun hdone c hc => wakeBegin_selftest hst hdone hc⟩

end Sys2Proof.Proofs
end

section
/-! PROOFS. Lost supplies and the clock monitor (R443 to R447). -/

open Sys2Proof Sys2Proof.Machine

namespace Sys2Proof.Proofs

/-! ### The registers of the always-on domain -/

/-- A change at an address that a filter takes none of is not seen behind the filter. -/
theorem sparseSet_filter {α : Type} [DecidableEq α] (d : α) (a : Nat) (v : α) (l : List (Nat × α)) {p : Nat → Bool} (h : p a = false) :
    (sparseSet d a v l).filter (fun x => p x.1) = l.filter fun x => p x.1 := by
  have hins (m : List (Nat × α)) : (sparseIns a v m).filter (fun x => p x.1) = m.filter fun x => p x.1 := by
    induction m with
    | nil => simp [sparseIns, h]
    | cons x m ih =>
      unfold sparseIns
      split
      · simp [h]
      · simp [List.filter_cons, ih]
  have hfilter : (l.filter fun x => decide (x.1 ≠ a)).filter (fun x => p x.1) = l.filter fun x => p x.1 := by
    rw [List.filter_filter]
    refine List.filter_congr fun x _ => ?_
    by_cases hx : x.1 = a
    · simp [hx, h]
    · simp [hx]
  unfold sparseSet
  dsimp only
  split
  · exact hfilter
  · exact (hins _).trans hfilter

/-- The registers that the always-on domain keeps. -/
def keptRegs (s : State) : List (Nat × Word) := s.regs.filter fun x => alwaysOnReg x.1

theorem keptRegs_congr {s t : State} (h : t.regs = s.regs) : keptRegs t = keptRegs s :=
  congrArg (List.filter fun x : Nat × Word => alwaysOnReg x.1) h

theorem keptRegs_setRg (s : State) (r : RegRow) (i j : Nat) (w : Word) (h : alwaysOnReg (r.addr i j) = false) :
    keptRegs (s.setRg r i j w) = keptRegs s := sparseSet_filter _ _ _ _ h

theorem keptRegs_emit (s : State) (cls kind src ctx : Nat) : keptRegs (s.emit cls kind src ctx) = keptRegs s := by
  have hbump (t : State) : keptRegs (t.bump Reg.fltStat 0 15 8) = keptRegs t := by
    unfold State.bump
    dsimp only
    split
    · exact keptRegs_setRg t Reg.fltStat 0 0 _ (by decide)
    · rfl
  unfold State.emit
  dsimp only
  generalize outboxPut _ s.coll = x
  obtain ⟨co, lost⟩ := x
  dsimp only
  have hsend (c : Bool) (x : Xfer) : keptRegs (if c = true then ({ s with coll := co } : State).ddlSend x else { s with coll := co })
      = keptRegs s := by
    split <;> rfl
  split
  · exact (hbump _).trans (hsend ..)
  · exact hsend ..

theorem keptRegs_sealCheck (s : State) (n : Fin 16) : keptRegs (s.sealCheck n 0) = keptRegs s := by
  have hhalf (t : State) (i : Nat) : keptRegs (t.sealHalf n i 0) = keptRegs t := by
    unfold State.sealHalf State.sealBreak
    split
    · rfl
    · split
      · rfl
      · exact keptRegs_emit ..
      · split
        · exact keptRegs_emit ..
        · exact (keptRegs_emit ..).trans (keptRegs_emit t ..)
  exact (hhalf _ 1).trans (hhalf s 0)

theorem keptRegs_foldl {α : Type} {f : State → α → State} {l : List α} (hf : ∀ (t : State), ∀ x ∈ l, keptRegs (f t x) = keptRegs t) (s : State) :
    keptRegs (l.foldl f s) = keptRegs s := by
  induction l generalizing s with
  | nil => rfl
  | cons x l ih => exact (ih (fun t y hy => hf t y (List.mem_cons_of_mem _ hy)) _).trans (hf s x (List.mem_cons_self ..))

/-- The increments of the driver die and their addition touch no register of the always-on domain. -/
theorem keptRegs_drained (s : State) : keptRegs s.sealDrain.sealSum = keptRegs s := by
  have hone (t : State) (n : Fin 16) : keptRegs (if t.ao.seals[n].gathered = 0 then t else t.sealCheck n 0) = keptRegs t := by
    split
    · rfl
    · exact keptRegs_sealCheck t n
  have hflush (t : State) : keptRegs t.sealFlush = keptRegs t := rfl
  have hsum (t : State) : keptRegs t.sealSum = keptRegs t := (hflush _).trans (keptRegs_foldl (fun u n _ => hone u n) t)
  refine (hsum _).trans ?_
  unfold State.sealDrain
  dsimp only
  refine (keptRegs_foldl (fun t x hx => ?_) _).trans rfl
  have hinc := (List.mem_filter.1 hx).2
  split at hinc
  · exact keptRegs_congr rfl
  · exact nomatch hinc

/-! ### A message of the always-on region (R21, R447) -/

/-- A message of the control die changes the collector's places and the overflow count. -/
theorem emit_control (s : State) (cls kind : Nat) {src : Nat} (ctx : Nat) (h : src / 1024 ≠ 1) :
    s.emit cls kind src ctx = { s with coll := (s.emit cls kind src ctx).coll, regs := (s.emit cls kind src ctx).regs } := by
  have hbump (t : State) : t.bump Reg.fltStat 0 15 8 = { t with regs := (t.bump Reg.fltStat 0 15 8).regs } := by
    unfold State.bump
    dsimp only
    split <;> rfl
  unfold State.emit
  dsimp only
  rw [decide_eq_false h, Bool.false_and]
  generalize outboxPut _ s.coll = x
  obtain ⟨co, lost⟩ := x
  cases lost
  · rfl
  · have hb := hbump { s with coll := co }
    show State.bump { s with coll := co } Reg.fltStat 0 15 8 = { s with
      coll := (State.bump { s with coll := co } Reg.fltStat 0 15 8).coll
      regs := (State.bump { s with coll := co } Reg.fltStat 0 15 8).regs }
    generalize State.bump { s with coll := co } Reg.fltStat 0 15 8 = v at hb ⊢
    rw [hb]

/-- CLOCK_FAIL of the clock monitor, which sets its own status first. -/
theorem clockFail_reports {s u : State} {y : Sys} (hu : u = { s with sys := y }) (ctx : Nat) :
    ∃ t, finish (u.clockFail ctx) = .next t ∧ t.sys = y ∧ t = { s with sys := t.sys, coll := t.coll, regs := t.regs, pins := t.pins }
      ∧ ((s.coll.outbox.filter (·.src = 0x31F)).length < 4 →
        t.coll.outbox = s.coll.outbox ++ [⟨3, 6, 0x31F, wordN ctx, s.now, s.now + s.toSclk + 3, false⟩]) := by
  have hsrc : u.clockFail ctx = u.emit 3 Kind.clockFail 0x31F ctx := rfl
  have hemit := emit_control u 3 Kind.clockFail (src := 0x31F) ctx (by decide)
  have hroom := State.emit_coll u 3 Kind.clockFail (src := 0x31F) ctx
  rw [hsrc]
  generalize u.emit 3 Kind.clockFail 0x31F ctx = v at *
  subst hu
  refine ⟨v.settle, rfl, ?_, ?_, fun h => ?_⟩
  · show v.sys = y
    rw [hemit]
  · unfold State.settle
    dsimp only
    rw [hemit]
  · show v.coll.outbox = _
    rw [hroom h]
    rfl

/-! ### The supplies (R443 to R445) -/

/-- The loss of a main supply: the regions at their reset state, the scribe record invalid and no longer counting (R444). -/
theorem supplyLost_off (s : State) (which : Fin 3) : ∃ t, exec (.supplyLost which) s = .next t
    ∧ t = { State.reset with
        pending := s.pending, sys := t.sys, ao := t.ao, otp := s.otp, inj := t.inj, free := s.free, mnt := t.mnt, hwSet := t.hwSet
        pins := t.pins, regs := t.regs }
    ∧ t.sys.st = .off ∧ t.clocked = false ∧ t.pins.quiet = true ∧ t.ao.scribe.valid = false ∧ t.ao.counting = false
    ∧ (which = 0 → t.sys.vmain = false) ∧ (which = 1 → t.sys.vbkup = false ∧ t.ao.lost = true ∧ t.ao.slow = 0 ∧ t.regs = [])
    ∧ (which = 2 → t.sys.vio[0] = false) ∧ (which ≠ 1 → t.ao.slow = s.ao.slow ∧ keptRegs t = keptRegs s) := by
  obtain ⟨hp, ho, hf, ha⟩ := s.bankFrame_drained
  have hk := keptRegs_drained s
  generalize hu : s.sealDrain.sealSum = u at *
  generalize hr : ({ u.setScribe fun r => { r with valid := false } with
    ao := { (u.setScribe fun r => { r with valid := false }).ao with counting := false } } : State).regionsReset = r
  have hoff := r.toState_parts .off
  have hregs : keptRegs (r.toState .off) = keptRegs s := by
    have hevent : keptRegs (r.toState .off) = keptRegs r := by
      unfold State.toState
      split
      · rfl
      · exact keptRegs_setRg _ Reg.hostStat 0 0 _ (by decide)
    have hreset : keptRegs r = keptRegs u := by
      rw [← hr]
      exact List.filter_filter.trans (List.filter_congr fun x _ => Bool.and_self _)
    exact hevent.trans (hreset.trans hk)
  have hexec : exec (.supplyLost which) s = finish (s.supplyLost which) := rfl
  unfold State.supplyLost at hexec
  dsimp only at hexec
  rw [hu, hr] at hexec
  have hframe : r.toState .off = { State.reset with
      pending := s.pending, sys := (r.toState .off).sys, ao := (r.toState .off).ao, otp := s.otp, inj := (r.toState .off).inj
      free := s.free, mnt := (r.toState .off).mnt, hwSet := (r.toState .off).hwSet, regs := (r.toState .off).regs } := by
    rw [hoff, ← hr, ← hp, ← ho, ← hf]
    rfl
  have hst : (r.toState .off).sys.st = .off := by rw [hoff]
  have hao : (r.toState .off).ao = r.ao := by rw [hoff]
  have hvalid : (r.toState .off).ao.scribe.valid = false := by rw [hao, ← hr]; rfl
  have hcount : (r.toState .off).ao.counting = false := by rw [hao, ← hr]; rfl
  have hslow : (r.toState .off).ao.slow = s.ao.slow := by
    rw [hao, ← hr]
    show u.ao.slow = _
    rw [ha]
  generalize r.toState .off = v at *
  have hdark (t : State) (h : t.sys.st = .off) : t.clocked = false ∧ t.pinsOf.quiet = true := by
    have hc : t.clocked = false := by simp [State.clocked, h]
    exact ⟨hc, State.pinsOf_quiet (by simp [State.drvOff, hc])⟩
  have hsettle (t : State) (h : t.sys.st = .off) : t.settle.clocked = false ∧ t.settle.pins.quiet = true := hdark t h
  split at hexec
  case h_1 =>
    refine ⟨_, hexec, ?_, hst, (hsettle _ (by exact hst)).1, (hsettle _ (by exact hst)).2, hvalid, hcount, fun _ => rfl, fun h => absurd h (by decide), fun h => absurd h (by decide),
      fun _ => ⟨hslow, hregs⟩⟩
    unfold State.settle
    dsimp only
    rw [hframe]
  case h_2 =>
    refine ⟨_, hexec, ?_, hst, (hsettle _ (by exact hst)).1, (hsettle _ (by exact hst)).2, rfl, rfl, fun h => absurd h (by decide), fun _ => ⟨rfl, rfl, rfl, rfl⟩,
      fun h => absurd h (by decide), fun h => absurd rfl h⟩
    unfold State.settle
    dsimp only
    rw [hframe]
  case h_3 h0 h1 =>
    have hne0 : which.val ≠ 0 := fun h => h0 (Fin.ext h)
    have hne1 : which.val ≠ 1 := fun h => h1 (Fin.ext h)
    obtain rfl : which = 2 := Fin.ext (by omega)
    refine ⟨_, hexec, ?_, hst, (hsettle _ (by exact hst)).1, (hsettle _ (by exact hst)).2, hvalid, hcount, fun h => absurd h (by decide), fun h => absurd h (by decide),
      fun _ => Vector.getElem_set_self _, fun _ => ⟨hslow, hregs⟩⟩
    unfold State.settle
    dsimp only
    rw [hframe]

theorem igsoftz_floats {t : State} (h : t.sys.vio[3] = false) : t.settle.pins.igsoftz = BitVec.allOnes 3 := by
  have hfloats : t.igsoftFloats = true := by rw [State.igsoftFloats, h]; rfl
  show bitsOf 3 (fun _ => t.igsoftFloats) = _
  rw [hfloats]
  decide

/-- VBAT lost: the driver die in the safe actuation state, and reported but in OFF (R18, R445). -/
theorem vbatLost_safe (s : State) : ∃ t, exec .vbatLost s = .next t ∧ t.sys = { s.sys with vbat := false } ∧ t.pins.quiet = true
    ∧ (s.sys.vbat = true → s.sys.st ≠ .off → t.drv.safe = true ∧ s.Emits t 2 0x13 0x4FF 4)
    ∧ t.mem = s.mem ∧ t.clu = s.clu ∧ t.prd = s.prd := by
  have hquiet (t : State) (h : t.sys.vbat = false) : t.settle.pins.quiet = true :=
    State.pinsOf_quiet (by simp [State.drvOff, h])
  have hexec : exec .vbatLost s = finish s.vbatLost := rfl
  by_cases hv : s.sys.vbat = true
  · by_cases hst : s.sys.st = .off
    · have hlost : s.vbatLost = { s with sys := { s.sys with vbat := false } } := by simp [State.vbatLost, hv, hst]
      rw [hlost] at hexec
      exact ⟨_, hexec, rfl, hquiet _ rfl, fun _ h => absurd hst h, rfl, rfl, rfl⟩
    · have hlost : s.vbatLost = ({ s with sys := { s.sys with vbat := false } } : State).drvSafe.emit 2 Kind.drvSafe 0x4FF 4 := by
        unfold State.vbatLost
        dsimp only
        rw [if_neg (by simp [hv]), if_neg hst]
        rfl
      obtain ⟨d, q, hd, hsafe⟩ := State.drvSafe_parts { s with sys := { s.sys with vbat := false } }
      rw [hlost, hsafe] at hexec
      generalize hw : ({ s with
        sys := { s.sys with vbat := false }, drv := d, links := { s.links with ddl := s.links.ddl ++ q } } : State) = w at hexec
      have hemits (t : State) (htc : t.coll = (w.emit 2 Kind.drvSafe 0x4FF 4).coll) (htn : t.now = w.now) : s.Emits t 2 0x13 0x4FF 4 :=
        State.emits_emit (u := w) (by rw [← hw]) (by rw [← hw]) (by rw [htc]; exact List.Subset.refl _) htn.ge
      have hframe := w.emit_frame 2 Kind.drvSafe 0x4FF 4
      generalize w.emit 2 Kind.drvSafe 0x4FF 4 = v at *
      have hsys : v.sys = { s.sys with vbat := false } := by rw [hframe, ← hw]
      refine ⟨v.settle, hexec, hsys, hquiet v (by rw [hsys]), fun _ _ => ⟨?_, hemits _ rfl ?_⟩, ?_, ?_, ?_⟩
      · show v.drv.safe = true
        rw [hframe, ← hw]
        exact hd
      · show v.now = w.now
        rw [hframe]
      · show v.mem = s.mem
        rw [hframe, ← hw]
      · show v.clu = s.clu
        rw [hframe, ← hw]
      · show v.prd = s.prd
        rw [hframe, ← hw]
  · have hoff : s.sys.vbat = false := by simpa using hv
    have hlost : s.vbatLost = s := by simp [State.vbatLost, hoff]
    rw [hlost] at hexec
    refine ⟨_, hexec, ?_, hquiet s hoff, fun h => absurd h hv, rfl, rfl, rfl⟩
    rw [← hoff]
    rfl

/-! ### The clock monitor (R447) -/

section
variable {s : State} (hc : s.clocked = true)
include hc

theorem pllUnlock_reports : ∃ t, exec .pllUnlockTimeout s = .next t ∧ t.sys = { s.sys with lockd := false }
    ∧ t = { s with sys := t.sys, coll := t.coll, regs := t.regs, pins := t.pins }
    ∧ ((s.coll.outbox.filter (·.src = 0x31F)).length < 4 →
      t.coll.outbox = s.coll.outbox ++ [⟨3, 6, 0x31F, 1, s.now, s.now + s.toSclk + 3, false⟩]) := by
  have hexec : exec .pllUnlockTimeout s = finish (({ s with sys := { s.sys with lockd := false } } : State).clockFail 1) :=
    congrArg finish (if_neg (by rw [hc]; decide))
  rw [hexec]
  exact clockFail_reports rfl 1

theorem sclkSilence_reports : ∃ t, exec .sclkSilence s = .next t ∧ t.sys = { s.sys with refok := false }
    ∧ t = { s with sys := t.sys, coll := t.coll, regs := t.regs, pins := t.pins }
    ∧ ((s.coll.outbox.filter (·.src = 0x31F)).length < 4 →
      t.coll.outbox = s.coll.outbox ++ [⟨3, 6, 0x31F, 2, s.now, s.now + s.toSclk + 3, false⟩]) := by
  have hexec : exec .sclkSilence s = finish (({ s with sys := { s.sys with refok := false } } : State).clockFail 2) :=
    congrArg finish (if_neg (by rw [hc]; decide))
  rw [hexec]
  exact clockFail_reports rfl 2

theorem refWindow_judged (n : Nat) : ∃ t, exec (.referenceWindowEnd n) s = .next t
    ∧ t.sys = { s.sys with referr := (n : Int) - 48828, refok := decide (48731 ≤ n ∧ n ≤ 48926) }
    ∧ t = { s with sys := t.sys, coll := t.coll, regs := t.regs, pins := t.pins }
    ∧ (48731 ≤ n → n ≤ 48926 → t.coll = s.coll ∧ t.regs = s.regs)
    ∧ ((s.coll.outbox.filter (·.src = 0x31F)).length < 4 → n < 48731 ∨ 48926 < n →
      t.coll.outbox = s.coll.outbox ++ [⟨3, 6, 0x31F, 2, s.now, s.now + s.toSclk + 3, false⟩]) := by
  have hbad : (decide ((98 : Rat) < (n : Rat) - 390625 / 8) || decide ((n : Rat) - 390625 / 8 < -98))
      = !decide (48731 ≤ n ∧ n ≤ 48926) := by
    have hhigh : (98 : Rat) < (n : Rat) - 390625 / 8 ↔ 48926 < n := by
      constructor
      · intro h
        by_contra hn
        have : (n : Rat) ≤ 48926 := by exact_mod_cast Nat.le_of_not_lt hn
        linarith
      · intro h
        have : (48927 : Rat) ≤ n := by exact_mod_cast h
        linarith
    have hlow : (n : Rat) - 390625 / 8 < -98 ↔ n < 48731 := by
      constructor
      · intro h
        by_contra hn
        have : (48731 : Rat) ≤ n := by exact_mod_cast Nat.le_of_not_lt hn
        linarith
      · intro h
        have : (n : Rat) ≤ 48730 := by exact_mod_cast Nat.le_of_lt_succ h
        linarith
    rw [decide_eq_decide.2 hhigh, decide_eq_decide.2 hlow, ← Bool.decide_or, ← decide_not]
    exact decide_eq_decide.2 (by omega)
  have hexec : exec (.referenceWindowEnd n) s = finish (s.refWindow n) := rfl
  unfold State.refWindow at hexec
  rw [if_neg (by rw [hc]; decide)] at hexec
  dsimp only at hexec
  rw [hbad, Bool.not_not] at hexec
  by_cases hn : 48731 ≤ n ∧ n ≤ 48926
  · rw [decide_eq_true hn] at hexec ⊢
    exact ⟨_, hexec, rfl, rfl, fun _ _ => ⟨rfl, rfl⟩, fun _ h => by omega⟩
  · rw [decide_eq_false hn] at hexec ⊢
    obtain ⟨t, ht, hsys, hframe, hroom⟩ := clockFail_reports (s := s) (y := { s.sys with referr := (n : Int) - 48828, refok := false }) rfl 2
    exact ⟨t, hexec.trans ht, hsys, hframe, fun h h' => absurd ⟨h, h'⟩ hn, fun h _ => hroom h⟩

end

/-- Settles O24: the main supplies, the I/O banks, VBAT, and the three findings of the clock monitor. -/
theorem suppliesAndClocks : Obligations.SuppliesAndClocks := by
  intro s which b n
  exact ⟨supplyLost_off s which, rfl, ⟨_, rfl, igsoftz_floats (Vector.getElem_set_self _)⟩, rfl, vbatLost_safe s, rfl,
    fun hc => ⟨pllUnlock_reports hc, sclkSilence_reports hc, refWindow_judged hc n⟩⟩

end Sys2Proof.Proofs
end

section
/-! SUPPORT. What a hold of a target changes: works, the edge generator, the driver die and what they send (R134, R145, R246, R422). -/

namespace Sys2Proof.Machine

/-! ### Messages of other sources (R415) -/

/-- The places of a source are as they were. -/
def State.KeepsBox (src : Nat) (s t : State) : Prop :=
  (t.coll.outbox.filter (·.src = src), t.coll.kept.filter (·.src = src)) = (s.coll.outbox.filter (·.src = src), s.coll.kept.filter (·.src = src))

theorem State.KeepsBox.outbox {src : Nat} {s t : State} (h : s.KeepsBox src t) :
    t.coll.outbox.filter (·.src = src) = s.coll.outbox.filter (·.src = src) := (Prod.mk.inj h).1

theorem State.KeepsBox.kept {src : Nat} {s t : State} (h : s.KeepsBox src t) :
    t.coll.kept.filter (·.src = src) = s.coll.kept.filter (·.src = src) := (Prod.mk.inj h).2

theorem State.KeepsBox.of_coll {src : Nat} {s t : State} (h : t.coll = s.coll) : s.KeepsBox src t := by rw [State.KeepsBox, h]

theorem filter_erase_other {α : Type} [DecidableEq α] {p : α → Bool} {x : α} (h : p x = false) (l : List α) :
    (l.erase x).filter p = l.filter p := by
  induction l with
  | nil => rfl
  | cons y l ih =>
    by_cases hy : y = x
    · subst hy
      simp [h]
    · rw [List.erase_cons_tail (by simpa using hy), List.filter_cons, List.filter_cons, ih]

/-- A change of the messages of other sources, each of which keeps its source. -/
theorem filter_map_other {src : Nat} {f : Msg → Msg} (hs : ∀ x, (f x).src = x.src) (hf : ∀ x, x.src = src → f x = x) (l : List Msg) :
    (l.map f).filter (·.src = src) = l.filter (·.src = src) := by
  induction l with
  | nil => rfl
  | cons y l ih =>
    rw [List.map_cons, List.filter_cons, List.filter_cons, ih, hs]
    by_cases hy : y.src = src
    · rw [hf y hy]
    · simp [hy]

/-- A message takes a place of its own source alone. -/
theorem State.keepsBox_emit (s : State) (cls kind : Nat) {src src' : Nat} (ctx : Nat) (h : src ≠ src') :
    s.KeepsBox src' (s.emit cls kind src ctx) := by
  have hput (m : Msg) (hm : m.src = src) : (outboxPut m s.coll).1.outbox.filter (·.src = src') = s.coll.outbox.filter (·.src = src')
      ∧ (outboxPut m s.coll).1.kept.filter (·.src = src') = s.coll.kept.filter (·.src = src') := by
    have hone : [m].filter (fun x => decide (x.src = src')) = [] := by simp [hm, h]
    unfold outboxPut
    dsimp only
    split
    · exact ⟨by rw [List.filter_append, hone, List.append_nil], rfl⟩
    · split
      · next old hold =>
        have hmine : old.src = src := by
          have hmem := List.mem_filter.1 (List.mem_of_find?_eq_some hold)
          rw [← hm]
          simpa using hmem.2
        refine ⟨?_, rfl⟩
        rw [List.filter_append, hone, List.append_nil]
        exact filter_erase_other (by simp [hmine, h]) _
      · split
        · exact ⟨rfl, rfl⟩
        · split
          · exact ⟨rfl, by rw [List.filter_append, hone, List.append_nil]⟩
          · next k hk =>
            have hmine : k.src = src := by
              have hsrc := List.find?_some hk
              rw [← hm]
              simpa using hsrc
            refine ⟨rfl, filter_map_other (fun x => ?_) (fun x hx => if_neg fun he => h ?_) _⟩
            · split <;> rfl
            · rw [← hmine, ← he, hx]
  have hcoll : (s.emit cls kind src ctx).coll = (outboxPut (s.msg cls kind src ctx) s.coll).1 := by
    unfold State.emit State.msg
    dsimp only
    generalize outboxPut _ s.coll = x
    obtain ⟨co, lost⟩ := x
    dsimp only
    have hsend (b : Bool) (y : Xfer) : (if b = true then ({ s with coll := co } : State).ddlSend y else { s with coll := co }).coll = co := by
      split <;> rfl
    split
    · rw [State.bump_frame]
      exact hsend ..
    · exact hsend ..
  obtain ⟨hout, hkept⟩ := hput (s.msg cls kind src ctx) rfl
  rw [State.KeepsBox, hcoll, hout, hkept]

/-- A message is emitted where its source has an ordinary place free now. -/
theorem State.emits_later {s u t : State} {cls kind src ctx : Nat} (hb : s.KeepsBox src u) (hn : s.now ≤ u.now)
    (ht : (u.emit cls kind src ctx).coll.outbox ⊆ t.coll.outbox) (hnt : u.now ≤ t.now) : s.Emits t cls kind src ctx := by
  intro h
  obtain ⟨m, hm, h1, h2, h3, h4, h5, h6⟩ := State.emits_emit (s := u) rfl (Nat.le_refl _) ht hnt (by rw [hb.outbox]; exact h)
  exact ⟨m, hm, h1, h2, h3, h4, hn.trans h5, h6⟩

/-! ### The frame of a hold -/

/-- The second state differs from the first only in the works, the registers, the collector, the links, the trace rings, the edge generator
and the driver die; every target has its owner, and a source's places are as they were. -/
def State.HoldFrame (src : Nat) (s t : State) : Prop :=
  (∃ v g h co l tr e d, t = { s with work := v, regs := g, hwSet := h, coll := co, links := l, trc := tr, edg := e, drv := d })
    ∧ (∀ c : Fin 32, t.edg.ch[c].owner = s.edg.ch[c].owner) ∧ (∀ n : Fin 24, t.edg.ign[n].owner = s.edg.ign[n].owner) ∧ s.KeepsBox src t

section
variable {src : Nat}

theorem State.HoldFrame.refl (s : State) : s.HoldFrame src s := ⟨⟨_, _, _, _, _, _, _, _, rfl⟩, fun _ => rfl, fun _ => rfl, rfl⟩

theorem State.HoldFrame.trans {s t u : State} (h : s.HoldFrame src t) (h' : t.HoldFrame src u) : s.HoldFrame src u := by
  obtain ⟨⟨v, g, hs, co, l, tr, e, d, ht⟩, hc, hn, hb⟩ := h
  obtain ⟨⟨v', g', hs', co', l', tr', e', d', hu⟩, hc', hn', hb'⟩ := h'
  exact ⟨⟨v', g', hs', co', l', tr', e', d', by rw [hu, ht]⟩, fun c => (hc' c).trans (hc c), fun n => (hn' n).trans (hn n), hb'.trans hb⟩

theorem State.HoldFrame.ite {s t u : State} {p : Prop} [Decidable p] (ht : s.HoldFrame src t) (hu : s.HoldFrame src u) :
    s.HoldFrame src (if p then t else u) := by
  split
  · exact ht
  · exact hu

theorem State.HoldFrame.foldl {α : Type} {f : State → α → State} (hf : ∀ (t : State) (x : α), t.HoldFrame src (f t x)) (l : List α)
    (s : State) : s.HoldFrame src (l.foldl f s) := by
  induction l generalizing s with
  | nil => exact .refl s
  | cons x l ih => exact (hf s x).trans (ih _)

/-- What works, edges and their messages change, where owners and a source's places stand. -/
theorem State.PegFrame.hold {s t : State} (h : s.PegFrame t) (he : t.edg = s.edg) (hb : s.KeepsBox src t) : s.HoldFrame src t := by
  obtain ⟨v, g, hs, co, l, tr, e, ht⟩ := h
  exact ⟨⟨v, g, hs, co, l, tr, e, s.drv, by rw [ht]⟩, fun _ => by rw [he], fun _ => by rw [he], hb⟩

theorem State.DrvFrame.hold {s t : State} (h : s.DrvFrame t) : s.HoldFrame src t := by
  obtain ⟨ch, bank, ign, q, ht⟩ := h
  rw [ht]
  exact ⟨⟨_, _, _, _, _, _, _, _, rfl⟩, fun _ => rfl, fun _ => rfl, rfl⟩

theorem State.holdFrame_setECh (s : State) (c : Fin 32) {f : EdgeCh → EdgeCh} (hf : ∀ e, (f e).owner = e.owner) :
    s.HoldFrame src (s.setECh c f) := by
  refine ⟨⟨_, _, _, _, _, _, _, _, rfl⟩, fun d => ?_, fun _ => rfl, rfl⟩
  simp only [State.setECh, upd, Fin.getElem_fin, Vector.getElem_set]
  split
  · next h => simp [hf, h]
  · rfl

theorem State.holdFrame_setEIgn (s : State) (n : Fin 24) {f : EdgeIgn → EdgeIgn} (hf : ∀ e, (f e).owner = e.owner) :
    s.HoldFrame src (s.setEIgn n f) := by
  refine ⟨⟨_, _, _, _, _, _, _, _, rfl⟩, fun _ => rfl, fun d => ?_, rfl⟩
  simp only [State.setEIgn, upd, Fin.getElem_fin, Vector.getElem_set]
  split
  · next h => simp [hf, h]
  · rfl

theorem State.holdFrame_setPeg (s : State) (w : Fin 9) (k : Fin 32) (f : Peg → Peg) : s.HoldFrame src (s.setPeg w k f) :=
  (s.pegFrame_setPeg w k f).hold rfl rfl

theorem State.holdFrame_ddlSend (s : State) (x : Xfer) : s.HoldFrame src (s.ddlSend x) := (s.pegFrame_ddlSend x).hold rfl rfl

theorem State.holdFrame_softCmd (s : State) (n : Fin 24) : s.HoldFrame src (s.softCmd n) :=
  (s.holdFrame_setEIgn n (by intro; rfl)).trans (State.holdFrame_ddlSend ..)

theorem State.holdFrame_softOff (s : State) (w : Fin 9) (k : Fin 32) (reason : Nat) : s.HoldFrame src (s.softOff w k reason) := by
  unfold State.softOff
  dsimp only
  split
  · exact .refl s
  · exact (s.holdFrame_setPeg ..).trans (State.holdFrame_softCmd ..)

theorem State.holdFrame_holdPegs (s : State) (on : Peg → Bool) : s.HoldFrame src (s.holdPegs on) :=
  .foldl (fun _ w => .foldl (fun t k => by
    dsimp only
    split
    · exact .refl t
    · split
      · exact t.holdFrame_softOff ..
      · split
        · split
          · split
            · exact (t.holdFrame_setPeg ..).trans (State.holdFrame_softCmd ..)
            · exact t.holdFrame_setPeg ..
          · exact t.holdFrame_setPeg ..
        · exact .refl t) _ _) _ s

/-- Messages of a source other than the works'. -/
def OffCores (src : Nat) : Prop := ∀ c : Fin 9, srcC 0 c.val 0xF ≠ src

theorem State.keepsBox_raiseCue (s : State) (w : Fin 9) (q : CueOcc) (hsrc : OffCores src) : s.KeepsBox src (s.raiseCue w q) := by
  unfold State.raiseCue
  dsimp only
  split
  · split
    · exact .of_coll (by rw [State.bump_frame]; rfl)
    · rfl
  · split
    · rfl
    · exact (State.keepsBox_emit _ _ _ _ (hsrc _)).trans (State.KeepsBox.of_coll (by rw [State.bump_frame]))

theorem State.raiseCue_edg (s : State) (w : Fin 9) (q : CueOcc) : (s.raiseCue w q).edg = s.edg := by rw [State.raiseCue_frame]

theorem State.holdFrame_cue (s : State) (w : Fin 9) (n g14 g12 stamp : Nat) (hsrc : OffCores src) :
    s.HoldFrame src (s.cue w n g14 g12 stamp) :=
  (s.pegFrame_raiseCue ..).hold (State.raiseCue_edg ..) (s.keepsBox_raiseCue w _ hsrc)

theorem State.holdFrame_closeDue (s : State) (cs : List (Fin 32)) (hsrc : OffCores src) : s.HoldFrame src (s.closeDue cs) := by
  have hclose (t : State) (x : Fin 32 × Due) : t.HoldFrame src (t.closeCue x.1 x.2.seq x.2.owner x.2.work 0 false) :=
    .ite (t.holdFrame_cue _ _ _ _ _ hsrc) (.refl t)
  exact (State.HoldFrame.foldl hclose _ s).trans (.foldl (fun t c => t.holdFrame_setECh c (by intro; rfl)) _ _)

theorem State.holdFrame_chSafe (s : State) (c : Fin 32) (hsrc : OffCores src) : s.HoldFrame src (s.chSafe c) :=
  (State.DrvFrame.hold (s.drvFrame_driverHold c)).trans ((State.holdFrame_closeDue _ _ hsrc).trans
    ((State.holdFrame_setECh _ c (by intro; rfl)).trans (State.DrvFrame.hold (State.drvFrame_setCh _ c _))))

theorem State.holdFrame_holdCh (s : State) (c : Fin 32) (hsrc : OffCores src) : s.HoldFrame src (s.holdCh c) :=
  (s.holdFrame_chSafe c hsrc).trans (State.holdFrame_holdPegs ..)

theorem State.holdFrame_holdIgn (s : State) (n : Fin 24) : s.HoldFrame src (s.holdIgn n) := by
  have hpegs := s.holdFrame_holdPegs (src := src) fun p => decide (p.ign = some n)
  unfold State.holdIgn
  dsimp only
  generalize (s.holdPegs fun p => decide (p.ign = some n)) = t at hpegs
  exact hpegs.trans ((State.DrvFrame.hold (t.drvFrame_rampDown n)).trans (.ite (.refl _) (State.holdFrame_setEIgn _ n (by intro; rfl))))

end

/-! ### A hold of channels leaves the ignition lines -/

theorem ign_of_ach {p : Peg} {c : Fin 32} (h : p.ach = some c) : p.ign = none := by
  refine if_neg fun h5 => ?_
  simp [Peg.ach, Peg.isOn, Peg.isOff, h5] at h

theorem State.holdPegs_ch_edg (s : State) (c : Fin 32) : (s.holdPegs fun p => decide (p.ach = some c)).edg = s.edg := by
  have hfold {α : Type} {f : State → α → State} (hf : ∀ (t : State) (x : α), (f t x).edg = t.edg) (l : List α) (t : State) :
      (l.foldl f t).edg = t.edg := by
    induction l generalizing t with
    | nil => rfl
    | cons x l ih => exact (ih _).trans (hf t x)
  refine hfold (fun t w => hfold (fun t k => ?_) _ t) _ s
  dsimp only
  by_cases ha : t.work[w].slots[k].ach = some c
  · have hi := ign_of_ach ha
    rw [if_neg (by simpa using ha)]
    split
    · simp only [State.softOff, hi]
    · split
      · rw [hi]; rfl
      · rfl
  · rw [if_pos (by simpa using ha)]

end Sys2Proof.Machine
end

section
/-! SUPPORT. The MDL controller's transfers: 64-bit words in trace memory and the write of a staged record (R282, R286 to R290). -/

namespace Sys2Proof.Machine

/-! ### Words of trace memory -/

theorem State.setWord_word_ne (s : State) {a b : Nat} (w : Word) (h : b + 4 ≤ a ∨ a + 4 ≤ b) : (s.setWord a w).word b = s.word b := by
  have hb (i : Nat) (hi : i < 4) : (s.setWord a w).byte (b + i) = s.byte (b + i) := s.setWord_byte a w (by omega)
  unfold State.word
  rw [hb 1 (by decide), hb 2 (by decide), hb 3 (by decide), show (s.setWord a w).byte b = s.byte b from hb 0 (by decide)]

theorem State.word_of_byte {s t : State} {b : Nat} (h : ∀ j < 4, t.byte (b + j) = s.byte (b + j)) : t.word b = s.word b := by
  unfold State.word
  rw [h 1 (by decide), h 2 (by decide), h 3 (by decide), show t.byte b = s.byte b from h 0 (by decide)]

theorem State.traceWords64_cons (s : State) (off v : Nat) (l : List Nat) :
    s.traceWords64 off (v :: l) = (s.traceWord64 off v).traceWords64 (off + 8) l := by
  conv_lhs => unfold State.traceWords64

theorem State.setWord_mem (s : State) (a : Nat) (w : Word) : ∃ m, s.setWord a w = { s with mem := m } :=
  ⟨(s.setWord a w).mem, by simp only [State.setWord, State.setByte]⟩

theorem State.traceWord64_mem (s : State) (off v : Nat) : ∃ m, s.traceWord64 off v = { s with mem := m } := by
  obtain ⟨m, hm⟩ := s.setWord_mem (traceBase + off) (wordN v)
  obtain ⟨m', hm'⟩ := State.setWord_mem { s with mem := m } (traceBase + off + 4) (wordN (v / 2 ^ 32))
  exact ⟨m', by rw [State.traceWord64, hm, hm']⟩

theorem State.traceWords64_frame (s : State) (off : Nat) (l : List Nat) : ∃ m, s.traceWords64 off l = { s with mem := m } := by
  induction l generalizing s off with
  | nil => exact ⟨s.mem, rfl⟩
  | cons v l ih =>
    obtain ⟨m, hm⟩ := s.traceWord64_mem off v
    obtain ⟨m', hm'⟩ := ih { s with mem := m } (off + 8)
    exact ⟨m', by rw [State.traceWords64_cons, hm, hm']⟩

theorem State.traceWord64_byte (s : State) {off b : Nat} (v : Nat) (h : b < traceBase + off ∨ traceBase + off + 8 ≤ b) :
    (s.traceWord64 off v).byte b = s.byte b := by
  unfold State.traceWord64
  rw [State.setWord_byte _ _ _ (by omega), State.setWord_byte _ _ _ (by omega)]

/-- Bytes outside the words written stand. -/
theorem State.traceWords64_byte (s : State) {off b : Nat} {l : List Nat} (h : b < traceBase + off ∨ traceBase + off + 8 * l.length ≤ b) :
    (s.traceWords64 off l).byte b = s.byte b := by
  induction l generalizing s off with
  | nil => rfl
  | cons v l ih =>
    rw [List.length_cons] at h
    rw [State.traceWords64_cons, ih (s.traceWord64 off v) (by omega), s.traceWord64_byte v (by omega)]

theorem State.traceWord64_word (s : State) (off v : Nat) : (s.traceWord64 off v).word (traceBase + off) = wordN v
    ∧ (s.traceWord64 off v).word (traceBase + off + 4) = wordN (v / 2 ^ 32) := by
  unfold State.traceWord64
  exact ⟨by rw [State.setWord_word_ne _ _ (by omega), State.setWord_word], State.setWord_word ..⟩

/-- Each word written reads back, its low half first. -/
theorem State.traceWords64_word (s : State) {off i : Nat} {l : List Nat} (h : i < l.length) :
    (s.traceWords64 off l).word (traceBase + off + 8 * i) = wordN (l.getD i 0)
      ∧ (s.traceWords64 off l).word (traceBase + off + 8 * i + 4) = wordN (l.getD i 0 / 2 ^ 32) := by
  induction l generalizing s off i with
  | nil => exact absurd h (Nat.not_lt_zero i)
  | cons v l ih =>
    rw [List.length_cons] at h
    rw [State.traceWords64_cons]
    cases i with
    | zero =>
      have hkeep (b : Nat) (hb : b + 4 ≤ traceBase + (off + 8)) :
          ((s.traceWord64 off v).traceWords64 (off + 8) l).word b = (s.traceWord64 off v).word b :=
        State.word_of_byte fun j hj => State.traceWords64_byte _ (.inl (by omega))
      obtain ⟨hlo, hhi⟩ := s.traceWord64_word off v
      rw [hkeep _ (by omega), hkeep _ (by omega), Nat.mul_zero, Nat.add_zero, hlo, hhi, List.getD_cons_zero]
      exact ⟨rfl, rfl⟩
    | succ i =>
      have hi := ih (s.traceWord64 off v) (off := off + 8) (i := i) (by omega)
      rw [show traceBase + (off + 8) + 8 * i = traceBase + off + 8 * (i + 1) by omega] at hi
      rw [List.getD_cons_succ]
      exact hi

/-! ### The write of a staged record -/

/-- The first word of a record as the ring writes it (R290). -/
def ringHead (g : Ring) (slot : List Nat) : Nat := slot.headD 0 + bitAt g.loss 13 + g.seq % 2 ^ 24 * 2 ^ 40

/-- The ring after a write of its oldest record, in a ring of n slots (R286, R288, R289). -/
def ringMoved (g : Ring) (rest : List (List Nat)) (n : Nat) : Ring :=
  let wp := (g.wp + 1) % n
  let post := g.post.map (· - 1)
  { g with
    q := rest, wp := wp, seq := (g.seq + 1) % 2 ^ 24, wrap := g.wrap || decide (wp = 0), loss := false
    post := if post = some 0 then none else post, frozen := decide (post = some 0) }

theorem State.setRing_ring (s : State) (r : Fin 3) (f : Ring → Ring) :
    (s.setRing r f).trc = { s.trc with ring := s.trc.ring.set r.val (f s.trc.ring[r]) r.isLt } := rfl

/-- The freeze at the end of the POST count (R289). -/
theorem State.ringPostDone_parts {s : State} {r : Fin 3} {g : Ring} (hg : s.trc.ring[r] = g) (hfrozen : g.frozen = false) :
    ∃ co rg, s.ringPostDone r = { s with
      coll := co, regs := rg
      trc := { s.trc with ring := s.trc.ring.set r.val { g with
        post := if g.post = some 0 then none else g.post, frozen := decide (g.post = some 0) } r.isLt } } := by
  unfold State.ringPostDone
  rw [hg]
  by_cases h : g.post = some 0
  · rw [if_pos h, if_pos h, decide_eq_true h]
    have hsrc : srcC 2 4 r.val / 1024 ≠ 1 := by unfold srcC; omega
    have hset : (s.setRing r fun g => { g with post := none, frozen := true }) = { s with trc := { s.trc with
        ring := s.trc.ring.set r.val { g with post := none, frozen := true } r.isLt } } := by rw [← hg]; rfl
    rw [hset]
    exact ⟨_, _, Sys2Proof.Proofs.emit_control _ 0 Kind.trcFrozen 0 hsrc⟩
  · rw [if_neg h, if_neg h, decide_eq_false h, ← hfrozen, ← hg]
    exact ⟨s.coll, s.regs, by rw [show s.trc.ring.set r.val s.trc.ring[r] r.isLt = s.trc.ring from Vector.set_getElem_self r.isLt]⟩

theorem State.unflips_frame (s : State) (a : Nat) (l : List Nat) :
    ∃ i, l.foldl (fun (t : State) n => t.unflip (a + 8 * n)) s = { s with inj := i } := by
  induction l generalizing s with
  | nil => exact ⟨s.inj, rfl⟩
  | cons n l ih =>
    obtain ⟨i, hi⟩ := ih (s.unflip (a + 8 * n))
    exact ⟨i, hi.trans rfl⟩

/-- Eight 64-bit words stand at a byte offset of trace memory, and every other byte is as in s. -/
def State.Stored (s : State) (off : Nat) (l : List Nat) (t : State) : Prop :=
  (∀ i < l.length, t.word (traceBase + off + 8 * i) = wordN (l.getD i 0)
    ∧ t.word (traceBase + off + 8 * i + 4) = wordN (l.getD i 0 / 2 ^ 32))
  ∧ ∀ b, b < traceBase + off ∨ traceBase + off + 8 * l.length ≤ b → t.byte b = s.byte b

theorem State.stored_traceWords64 {s u t : State} (hu : u.mem = s.mem) (off : Nat) (l : List Nat) (ht : t.mem = (u.traceWords64 off l).mem) :
    s.Stored off l t := by
  have hbyte (b : Nat) : t.byte b = (u.traceWords64 off l).byte b := by rw [State.byte, State.byte, ht]
  have hs (b : Nat) : u.byte b = s.byte b := by rw [State.byte, State.byte, hu]
  refine ⟨fun i hi => ?_, fun b hb => ?_⟩
  · obtain ⟨hlo, hhi⟩ := u.traceWords64_word (off := off) hi
    exact ⟨(State.word_of_byte fun j _ => hbyte _).trans hlo, (State.word_of_byte fun j _ => hbyte _).trans hhi⟩
  · rw [hbyte, u.traceWords64_byte hb, hs]

/-- A record that its ring takes is written at WP, and the ring moves on. -/
theorem State.ringWrite_parts {s : State} {r : Fin 3} {slot : List Nat} {rest : List (List Nat)} (hq : s.trc.ring[r].q = slot :: rest)
    (hfrozen : s.trc.ring[r].frozen = false) (hfull : s.ringFull r = false) :
    ∃ m i co g, s.ringWrite r = { s with
        mem := m, inj := i, coll := co, regs := g
        trc := { s.trc with ring := s.trc.ring.set r.val (ringMoved s.trc.ring[r] rest (s.ringSlots r)) r.isLt } }
      ∧ ∀ t : State, t.mem = m →
        s.Stored (s.ringLo r * 2 ^ 20 + s.trc.ring[r].wp * 64) (ringHead s.trc.ring[r] slot :: slot.tail) t := by
  generalize hg : s.trc.ring[r] = g at *
  obtain ⟨y, hy, hs1⟩ : ∃ y, y = { s.trc with ring := s.trc.ring.set r.val { g with q := rest } r.isLt }
      ∧ (s.setRing r fun g => { g with q := rest }) = { s with trc := y } := ⟨_, rfl, by rw [← hg]; rfl⟩
  obtain ⟨u, hu⟩ : ∃ u : State, u = { s with trc := y } := ⟨_, rfl⟩
  have hmem : u.mem = s.mem := by rw [hu]
  have hring : u.trc.ring[r] = { g with q := rest } := by rw [hu, hy]; simp
  have hfull1 : u.ringFull r = false := by
    rw [← hfull]
    unfold State.ringFull
    rw [hring, hg, hu]
    rfl
  have hlo : u.ringLo r = s.ringLo r := by rw [hu]; rfl
  have hslots (m : List Host.Cell) (i : Inject) : ({ u with mem := m, inj := i } : State).ringSlots r = s.ringSlots r := by rw [hu]; rfl
  obtain ⟨m, hm⟩ := u.traceWords64_frame (s.ringLo r * 2 ^ 20 + g.wp * 64) (ringHead g slot :: slot.tail)
  have hstored (t : State) (ht : t.mem = m) : s.Stored (s.ringLo r * 2 ^ 20 + g.wp * 64) (ringHead g slot :: slot.tail) t :=
    State.stored_traceWords64 hmem _ _ (by rw [hm]; exact ht)
  obtain ⟨i, hi⟩ := State.unflips_frame { u with mem := m } (traceBase + (s.ringLo r * 2 ^ 20 + g.wp * 64)) (List.range 8)
  unfold State.ringWrite
  rw [hg, hq]
  dsimp only
  rw [hs1, ← hu, hring]
  dsimp only
  rw [hfrozen, if_neg Bool.false_ne_true, hfull1, if_neg Bool.false_ne_true, hlo]
  unfold ringHead at hm
  rw [hm, hi, hslots]
  generalize hv : State.setRing _ r _ = v
  have hvring : v.trc.ring[r] = { g with
      q := rest, wp := (g.wp + 1) % s.ringSlots r, seq := (g.seq + 1) % 2 ^ 24
      wrap := g.wrap || decide ((g.wp + 1) % s.ringSlots r = 0), loss := false, post := g.post.map (· - 1) } := by
    rw [← hv, State.setRing_ring]
    simp only [Fin.getElem_fin, Vector.getElem_set_self]
    rw [Fin.getElem_fin] at hring
    rw [hring]
  obtain ⟨co, rg, hpost⟩ := State.ringPostDone_parts hvring hfrozen
  refine ⟨m, i, co, rg, ?_, hstored⟩
  rw [hpost, ← hv, hu, State.setRing_ring, hy]
  dsimp only [State.setRing]
  rw [Vector.set_set, Vector.set_set]
  rfl

end Sys2Proof.Machine
end

section
/-! PROOFS. The memory die link, and the echoes of the edge lines (R17, R37, R282, R422). -/

open Sys2Proof Sys2Proof.Machine

namespace Sys2Proof.Proofs

/-! ### The memory die link -/

section
variable {s : State} (hc : s.clocked = true) (hcrc : s.inj.mdlCrc = false) (hcoming : s.trc.coming = [])
include hc hcrc hcoming

/-- An MDL transfer with nothing on its way from the measurement region and no injected error. -/
theorem execMdlTransfer_plain (ok : Bool) : exec (.mdlTransfer ok) s = finish (if ok = true then s.mdlServe else s.mdlFail) := by
  have htrace : s.traceNow = s := by
    have hself : ({ s with trc := { s.trc with coming := [] } } : State) = s := by rw [← hcoming]
    unfold State.traceNow State.traceBy
    rw [hcoming]
    exact hself
  have hinj : ({ s with inj := { s.inj with mdlCrc := false } } : State) = s := by rw [← hcrc]
  have hrun : s.mdlTransfer ok = s.traceNow.mdlAttempt ok := if_neg (by rw [hc]; decide)
  have hexec : exec (.mdlTransfer ok) s = finish (s.mdlTransfer ok) := rfl
  rw [hexec, hrun, htrace]
  unfold State.mdlAttempt
  dsimp only
  rw [hinj, hcrc, Bool.not_false, Bool.and_true]

theorem mdlTransfer_idle (hnext : s.mdlNext = none) :
    exec (.mdlTransfer true) s = .next ({ s with links := { s.links with mdlTries := 0, mdlHead := none } } : State).settle := by
  rw [execMdlTransfer_plain hc hcrc hcoming, if_pos rfl, State.mdlServe, hnext]
  rfl

/-- A retry stands for the transfer that failed (R37, R38). -/
theorem mdlTransfer_retried (hnext : s.mdlNext ≠ none) (h4 : s.links.mdlTries < 4) : ∃ t, exec (.mdlTransfer false) s = .next t
    ∧ t.links = { s.links with mdlTries := s.links.mdlTries + 1, mdlHead := s.mdlNext } ∧ t.mdlNext = s.mdlNext
    ∧ t.rf Reg.linkRetry 0 31 16 = min 65535 (s.rf Reg.linkRetry 0 31 16 + 1)
    ∧ t = { s with links := t.links, regs := t.regs, hwSet := t.hwSet, pins := t.pins } := by
  obtain ⟨k, hk⟩ := Option.ne_none_iff_exists'.1 hnext
  have hfail : s.mdlFail = ({ s with links := { s.links with mdlTries := s.links.mdlTries + 1, mdlHead := some k } } : State).bump
      Reg.linkRetry 0 31 16 := by
    rw [State.mdlFail, hk]
    exact if_pos h4
  have hcount := State.bump_rf ({ s with links := { s.links with mdlTries := s.links.mdlTries + 1, mdlHead := some k } } : State)
    Reg.linkRetry 0 (hi := 31) (lo := 16) (by decide) (by decide)
  have hframe := State.bump_frame ({ s with links := { s.links with mdlTries := s.links.mdlTries + 1, mdlHead := some k } } : State)
    Reg.linkRetry 0 31 16
  have hexec := execMdlTransfer_plain hc hcrc hcoming false
  rw [if_neg Bool.false_ne_true, hfail] at hexec
  generalize State.bump _ Reg.linkRetry 0 31 16 = v at *
  have hlinks : v.links = { s.links with mdlTries := s.links.mdlTries + 1, mdlHead := some k } := by rw [hframe]
  refine ⟨v.settle, hexec, ?_, ?_, ?_, ?_⟩
  · rw [hk]
    exact hlinks
  · have hhead : v.settle.links.mdlHead = some k := by show v.links.mdlHead = _; rw [hlinks]
    rw [hk, State.mdlNext, hhead]
    rfl
  · exact (State.rf_congr rfl ..).trans hcount
  · unfold State.settle
    dsimp only
    rw [hframe]

/-- A transfer that failed five times is given up, with LINK_FAULT (R37). -/
theorem mdlTransfer_lost (hnext : s.mdlNext ≠ none) (h4 : 4 ≤ s.links.mdlTries) : ∃ t, exec (.mdlTransfer false) s = .next t
    ∧ t.links.mdlTries = 0 ∧ s.Emits t 2 5 0x8FF 0 ∧ t.mem = s.mem ∧ t.clu = s.clu ∧ t.drv = s.drv
    ∧ (∀ r : Fin 3, t.trc.ring[r] = if s.mdlNext = some (some r) then { s.trc.ring[r] with q := s.trc.ring[r].q.tail }
        else s.trc.ring[r])
    ∧ t.trc.scrubWait = if s.mdlNext = some none then none else s.trc.scrubWait := by
  obtain ⟨k, hk⟩ := Option.ne_none_iff_exists'.1 hnext
  obtain ⟨y, hy, hfail⟩ : ∃ y : Trace, ((∀ r : Fin 3, y.ring[r] = if k = some r then { s.trc.ring[r] with q := s.trc.ring[r].q.tail }
      else s.trc.ring[r]) ∧ y.scrubWait = if k = none then none else s.trc.scrubWait)
      ∧ s.mdlFail = ({ s with links := { s.links with mdlTries := 0, mdlHead := none }, trc := y } : State).emit 2 5 0x8FF 0 := by
    rw [State.mdlFail, hk]
    dsimp only
    rw [if_neg (Nat.not_lt.2 h4)]
    cases k with
    | none => exact ⟨{ s.trc with scrubWait := none }, ⟨fun r => (if_neg (by simp)).symm, (if_pos rfl).symm⟩, rfl⟩
    | some r =>
      refine ⟨{ s.trc with ring := s.trc.ring.set r.val { s.trc.ring[r] with q := s.trc.ring[r].q.tail } r.isLt },
        ⟨fun q => ?_, (if_neg (by simp)).symm⟩, rfl⟩
      by_cases hqr : r = q
      · subst hqr
        simp
      · rw [if_neg (by simpa using hqr)]
        simp [Vector.getElem_set_ne _ _ (Fin.val_ne_of_ne hqr)]
  obtain ⟨hring, hscrub⟩ := hy
  have hexec := execMdlTransfer_plain hc hcrc hcoming false
  rw [if_neg Bool.false_ne_true, hfail] at hexec
  generalize hu : ({ s with links := { s.links with mdlTries := 0, mdlHead := none }, trc := y } : State) = u at *
  have hemits (t : State) (htc : t.coll = (u.emit 2 5 0x8FF 0).coll) (htn : t.now = u.now) : s.Emits t 2 5 0x8FF 0 :=
    State.emits_emit (u := u) (by rw [← hu]) (by rw [← hu]) (by rw [htc]; exact List.Subset.refl _) htn.ge
  have hframe := emit_control u 2 5 (src := 0x8FF) 0 (by decide)
  generalize u.emit 2 5 0x8FF 0 = v at *
  have htrc : v.trc = y := by rw [hframe, ← hu]
  refine ⟨v.settle, hexec, ?_, hemits _ rfl ?_, ?_, ?_, ?_, fun r => ?_, ?_⟩
  · show v.links.mdlTries = 0
    rw [hframe, ← hu]
  · show v.now = u.now
    rw [hframe]
  · show v.mem = s.mem
    rw [hframe, ← hu]
  · show v.clu = s.clu
    rw [hframe, ← hu]
  · show v.drv = s.drv
    rw [hframe, ← hu]
  · show v.trc.ring[r] = _
    rw [htrc, hring, hk]
    simp only [Option.some.injEq]
  · show v.trc.scrubWait = _
    rw [htrc, hscrub, hk]
    simp only [Option.some.injEq]

/-- The oldest record of the ring that is served goes to its WP (R282, R286, R287). -/
theorem mdlTransfer_writes {r : Fin 3} {slot : List Nat} {rest : List (List Nat)} (hnext : s.mdlNext = some (some r))
    (hq : s.trc.ring[r].q = slot :: rest) (hlen : slot.length = 8) (hfrozen : s.trc.ring[r].frozen = false)
    (hfull : s.ringFull r = false) :
    let g := s.trc.ring[r]
    let base := traceBase + s.ringLo r * 2 ^ 20 + g.wp * 64
    let word (i : Nat) : Nat := slot.getD i 0 + (if i = 0 then bitAt g.loss 13 + g.seq % 2 ^ 24 * 2 ^ 40 else 0)
    ∃ t, exec (.mdlTransfer true) s = .next t ∧ t.links = { s.links with mdlTries := 0, mdlHead := none }
      ∧ (∀ i < 8, t.word (base + 8 * i) = BitVec.ofNat 32 (word i) ∧ t.word (base + 8 * i + 4) = BitVec.ofNat 32 (word i / 2 ^ 32))
      ∧ (∀ b, b < base ∨ base + 64 ≤ b → t.byte b = s.byte b)
      ∧ t.trc = { s.trc with
          sinceScrub := s.trc.sinceScrub + 1, served := r.val
          ring := s.trc.ring.set r.val (ringMoved g rest (s.ringSlots r)) r.isLt }
      ∧ t.clu = s.clu ∧ t.drv = s.drv ∧ t.work = s.work := by
  dsimp only
  have hexec := execMdlTransfer_plain hc hcrc hcoming true
  obtain ⟨u, hu⟩ : ∃ u : State, u = { s with
      links := { s.links with mdlTries := 0, mdlHead := none }, trc := { s.trc with sinceScrub := s.trc.sinceScrub + 1 } } := ⟨_, rfl⟩
  have hserve : s.mdlServe = { u.ringWrite r with trc := { (u.ringWrite r).trc with served := r.val } } := by
    rw [State.mdlServe, hnext, hu]
  have huring : u.trc.ring[r] = s.trc.ring[r] := by rw [hu]
  have hufull : u.ringFull r = false := by rw [← hfull, hu]; rfl
  obtain ⟨m, i, co, g, hwrite, hstored⟩ := State.ringWrite_parts (s := u) (r := r) (by rw [huring]; exact hq)
    (by rw [huring]; exact hfrozen) hufull
  have hlo : u.ringLo r = s.ringLo r := by rw [hu]; rfl
  have hslots : u.ringSlots r = s.ringSlots r := by rw [hu]; rfl
  rw [huring, hlo] at hstored
  rw [hslots, huring] at hwrite
  rw [if_pos rfl, hserve, hwrite] at hexec
  have hlist (n : Nat) : (ringHead s.trc.ring[r] slot :: slot.tail).getD n 0 = slot.getD n 0
      + (if n = 0 then bitAt s.trc.ring[r].loss 13 + s.trc.ring[r].seq % 2 ^ 24 * 2 ^ 40 else 0) := by
    cases slot with
    | nil => exact absurd hlen (by decide)
    | cons x l =>
      cases n with
      | zero => rw [List.getD_cons_zero, List.getD_cons_zero, if_pos rfl, ringHead, List.headD_cons, Nat.add_assoc]
      | succ n => rw [List.getD_cons_succ, List.getD_cons_succ, if_neg (Nat.succ_ne_zero n), Nat.add_zero, List.tail_cons]
  have hlength : (ringHead s.trc.ring[r] slot :: slot.tail).length = 8 := by rw [List.length_cons, List.length_tail, hlen]
  refine ⟨_, hexec, by rw [hu]; rfl, fun n hn => ?_, fun b hb => ?_, by rw [hu]; rfl, by rw [hu]; rfl, by rw [hu]; rfl, by rw [hu]; rfl⟩
  · obtain ⟨hword, -⟩ := hstored (State.settle { u with mem := m }) rfl
    have hn := hword n (by rw [hlength]; exact hn)
    rw [hlist, ← Nat.add_assoc traceBase] at hn
    exact hn
  · obtain ⟨-, hbyte⟩ := hstored (State.settle { u with mem := m }) rfl
    have hb := hbyte b (by rw [hlength]; omega)
    rw [hu] at hb
    exact hb

end

/-! ### The echoes of the edge lines -/

/-- A drive of a channel that the fault collector owns is off (R422). -/
theorem ls_of_collector {z : State} {c : Fin 32} (h : z.edg.ch[c].owner = 15) : z.settle.pins.ls.getLsbD c.val = false := by
  have hheld : z.chHeld c = true := by unfold State.chHeld; rw [h]; simp
  have hoff : z.lsOn c = false := by simp [State.lsOn, hheld]
  exact (bitsOf_getLsbD z.lsOn c).trans hoff

theorem ign_of_collector {z : State} {n : Fin 24} (h : z.edg.ign[n].owner = 15) : z.settle.pins.ign.getLsbD n.val = false := by
  have hheld : z.ignHeld n = true := by unfold State.ignHeld; rw [h]; simp
  have hoff : z.ignOn n = false := by simp [State.ignOn, hheld]
  exact (bitsOf_getLsbD z.ignOn n).trans hoff

theorem closeDue_ign (s : State) (cs : List (Fin 32)) : (s.closeDue cs).edg.ign = s.edg.ign := by
  have hcue (t : State) (x : Fin 32 × Due) : (t.closeCue x.1 x.2.seq x.2.owner x.2.work 0 false).edg.ign = t.edg.ign := by
    unfold State.closeCue
    split
    · exact congrArg EdgeGen.ign (State.raiseCue_edg ..)
    · rfl
  have hfold {α : Type} {f : State → α → State} (hf : ∀ (t : State) (x : α), (f t x).edg.ign = t.edg.ign) (l : List α) (t : State) :
      (l.foldl f t).edg.ign = t.edg.ign := by
    induction l generalizing t with
    | nil => rfl
    | cons x l ih => exact (ih _).trans (hf t x)
  unfold State.closeDue
  dsimp only
  refine (hfold (fun t c => ?_) ..).trans (hfold hcue ..)
  rfl

/-- A hold of a channel leaves the ignition lines. -/
theorem holdCh_ign (s : State) (c : Fin 32) : (s.holdCh c).edg.ign = s.edg.ign := by
  have hdrv : (s.driverHold c).edg = s.edg := by
    obtain ⟨ch, bank, ign, q, ht⟩ := s.drvFrame_driverHold c
    rw [ht]
  have hset (t : State) (f : EdgeCh → EdgeCh) (g : DrvCh → DrvCh) : ((t.setECh c f).setCh c g).edg.ign = t.edg.ign := rfl
  have hsafe : (s.chSafe c).edg.ign = ((s.driverHold c).closeDue [c]).edg.ign := hset ..
  rw [closeDue_ign, hdrv] at hsafe
  rw [State.holdCh, State.holdPegs_ch_edg]
  exact hsafe

/-- A claim of the fault collector is always taken (R29). -/
theorem mayClaim_collector (s : State) (reg : Nat) : s.mayClaim reg 0 = true := by
  unfold State.mayClaim
  split
  · rfl
  · rfl

/-- The message of the edge generator's line l has another source than the cores and the ports. -/
theorem srcLine_off (l : Fin 56) : OffCores (srcLine l) ∧ ∀ p : Fin 11, portSrc p ≠ srcLine l := by
  revert l
  unfold OffCores
  decide

theorem keepsBox_claimTaken (s : State) (reg owner rank : Nat) {src : Nat} (h : ∀ p : Fin 11, portSrc p ≠ src) :
    s.KeepsBox src (s.claimTaken reg owner rank) := by
  have hover : s.KeepsBox src (s.overtaken reg rank) := by
    unfold State.overtaken State.note
    split
    · rfl
    · split
      · rfl
      · split
        · exact s.keepsBox_emit _ _ _ (h hostP)
        · split
          · exact s.keepsBox_emit _ _ _ (h mntP)
          · rfl
  exact hover

section
variable {s : State} (hc : s.clocked = true) {l : Fin 56} (hl : l.val ∉ s.inj.echo)
include hc hl

theorem echoCheck_judged (same : Bool) : s.echoCheck l same = if same = true then s else s.echoBad l := by
  have hrun : ¬((!s.clocked) = true) := by rw [hc]; decide
  rw [State.echoCheck, if_neg hrun, if_neg hl]

theorem execEcho_same : exec (.edgeEchoCheck l true) s = .next s.settle :=
  congrArg finish ((State.awake_clocked hc fun t => t.echoCheck l true).trans (echoCheck_judged hc hl true))

theorem execEcho_bad : exec (.edgeEchoCheck l false) s = finish (s.echoBad l) :=
  congrArg finish ((State.awake_clocked hc fun t => t.echoCheck l false).trans (echoCheck_judged hc hl false))

end

/-- What a hold and its message leave: the frame, the places of other sources, and the message (R422). -/
theorem hold_emits {s x y : State} {src : Nat} (hbox : s.KeepsBox src x) (hnow : x.now = s.now) (hhold : x.HoldFrame src y) :
    s.Emits (y.emit 2 0x14 src 0).settle 2 0x14 src 0 ∧ (y.emit 2 0x14 src 0).settle.mem = x.mem
      ∧ (y.emit 2 0x14 src 0).settle.clu = x.clu ∧ (y.emit 2 0x14 src 0).edg = y.edg := by
  obtain ⟨⟨v, g, hs, co, l, tr, e, d, hframe⟩, -, -, hbox'⟩ := hhold
  have hynow : y.now = s.now := by rw [hframe]; exact hnow
  have hemits (t : State) (htc : t.coll = (y.emit 2 0x14 src 0).coll) (htn : t.now = y.now) : s.Emits t 2 0x14 src 0 :=
    State.emits_later (u := y) (hbox'.trans hbox) hynow.ge (by rw [htc]; exact List.Subset.refl _) htn.ge
  have hemit := y.emit_frame 2 0x14 src 0
  generalize y.emit 2 0x14 src 0 = z at *
  have hmem : z.mem = x.mem := by rw [hemit, hframe]
  have hclu : z.clu = x.clu := by rw [hemit, hframe]
  have hnow' : z.now = y.now := by rw [hemit]
  have hedg : z.edg = y.edg := by rw [hemit]
  exact ⟨hemits _ rfl hnow', hmem, hclu, hedg⟩

section
variable {s : State} (hc : s.clocked = true)
include hc

/-- The channel of a line whose echo differs goes to the fault collector, and its drive goes off (R17, R422). -/
theorem echo_channel {c : Fin 32} {l : Fin 56} (hlc : l.val = c.val) (hl : l.val ∉ s.inj.echo) :
    ∃ t, exec (.edgeEchoCheck l false) s = .next t ∧ t.edg.ch[c].owner = 0xF
      ∧ t.pins.ls.getLsbD c.val = false ∧ s.Emits t 2 0x14 (srcLine l) 0
      ∧ t.edg.ign = s.edg.ign ∧ t.mem = s.mem ∧ t.clu = s.clu := by
  have hexec := execEcho_bad hc hl
  obtain ⟨hcores, hports⟩ := srcLine_off l
  have hcl : (⟨l.val, hlc ▸ c.isLt⟩ : Fin 32) = c := Fin.ext hlc
  have hbad : s.echoBad l = (((s.claimTaken (Reg.chanOwner.addr c 0) s.edg.ch[c].owner 0).setECh c fun e => { e with
      owner := 15 }).holdCh c).emit 2 0x14 (srcLine l) 0 := by
    unfold State.echoBad
    rw [dif_pos (hlc ▸ c.isLt), hcl, State.ownCh, State.claim_taken (mayClaim_collector s _)]
    rfl
  rw [hbad] at hexec
  generalize srcLine l = src at *
  have hbox := keepsBox_claimTaken s (Reg.chanOwner.addr c 0) s.edg.ch[c].owner 0 hports
  obtain ⟨co, li, g, h, ho, m, cl, htaken⟩ := s.claimTaken_parts (Reg.chanOwner.addr c 0) s.edg.ch[c].owner 0
  generalize s.claimTaken (Reg.chanOwner.addr c 0) s.edg.ch[c].owner 0 = u at *
  obtain ⟨x, hx⟩ : ∃ x : State, x = u.setECh c fun e => { e with owner := 15 } := ⟨_, rfl⟩
  rw [← hx] at hexec
  have hhold := x.holdFrame_holdCh c hcores
  have hign := holdCh_ign x c
  generalize x.holdCh c = y at *
  have howner : y.edg.ch[c].owner = 15 := by
    rw [hhold.2.1, hx]
    simp [State.setECh, upd]
  have hxign : x.edg.ign = s.edg.ign := by rw [hx, htaken]; rfl
  have hxmem : x.mem = s.mem := by rw [hx, htaken]; rfl
  have hxclu : x.clu = s.clu := by rw [hx, htaken]; rfl
  have hxnow : x.now = s.now := by rw [hx, htaken]; rfl
  have hxbox : s.KeepsBox src x := (State.KeepsBox.of_coll (by rw [hx]; rfl)).trans hbox
  obtain ⟨hemits, hmem, hclu, hedg⟩ := hold_emits hxbox hxnow hhold
  generalize y.emit 2 0x14 src 0 = z at *
  refine ⟨z.settle, hexec, ?_, ls_of_collector ?_, hemits, ?_, hmem.trans hxmem, hclu.trans hxclu⟩
  · rw [State.settle_edg, hedg]
    exact howner
  · rw [hedg]
    exact howner
  · rw [State.settle_edg, hedg, hign, hxign]

/-- The ignition output of a line whose echo differs goes to the fault collector, and its drive goes off (R17, R422). -/
theorem echo_ignition {n : Fin 24} {l : Fin 56} (hln : l.val = n.val + 32) (hl : l.val ∉ s.inj.echo) :
    ∃ t, exec (.edgeEchoCheck l false) s = .next t ∧ t.edg.ign[n].owner = 0xF
      ∧ t.pins.ign.getLsbD n.val = false ∧ s.Emits t 2 0x14 (srcLine l) 0 ∧ t.mem = s.mem ∧ t.clu = s.clu := by
  have hexec := execEcho_bad hc hl
  obtain ⟨-, hports⟩ := srcLine_off l
  have hnot : ¬ l.val < 32 := by omega
  have hbad : s.echoBad l = (((s.claimTaken (Reg.ignOwner.addr n 0) s.edg.ign[n].owner 0).setEIgn n fun e => { e with
      owner := 15 }).holdIgn n).emit 2 0x14 (srcLine l) 0 := by
    have hlt : l.val - 32 < 24 := by omega
    have hnl : (⟨l.val - 32, hlt⟩ : Fin 24) = n := Fin.ext (by simp [hln])
    unfold State.echoBad
    rw [dif_neg hnot, hnl, State.ownIgn, State.claim_taken (mayClaim_collector s _)]
    dsimp only
    rw [if_pos rfl]
    rfl
  rw [hbad] at hexec
  generalize srcLine l = src at *
  have hbox := keepsBox_claimTaken s (Reg.ignOwner.addr n 0) s.edg.ign[n].owner 0 hports
  obtain ⟨co, li, g, h, ho, m, cl, htaken⟩ := s.claimTaken_parts (Reg.ignOwner.addr n 0) s.edg.ign[n].owner 0
  generalize s.claimTaken (Reg.ignOwner.addr n 0) s.edg.ign[n].owner 0 = u at *
  obtain ⟨x, hx⟩ : ∃ x : State, x = u.setEIgn n fun e => { e with owner := 15 } := ⟨_, rfl⟩
  rw [← hx] at hexec
  have hhold := x.holdFrame_holdIgn (src := src) n
  generalize x.holdIgn n = y at *
  have howner : y.edg.ign[n].owner = 15 := by
    rw [hhold.2.2.1, hx]
    simp [State.setEIgn, upd]
  have hxmem : x.mem = s.mem := by rw [hx, htaken]; rfl
  have hxclu : x.clu = s.clu := by rw [hx, htaken]; rfl
  have hxnow : x.now = s.now := by rw [hx, htaken]; rfl
  have hxbox : s.KeepsBox src x := (State.KeepsBox.of_coll (by rw [hx]; rfl)).trans hbox
  obtain ⟨hemits, hmem, hclu, hedg⟩ := hold_emits hxbox hxnow hhold
  generalize y.emit 2 0x14 src 0 = z at *
  refine ⟨z.settle, hexec, ?_, ign_of_collector ?_, hemits, hmem.trans hxmem, hclu.trans hxclu⟩
  · rw [State.settle_edg, hedg]
    exact howner
  · rw [hedg]
    exact howner

end

/-- Settles O29: what the MDL serves, retries and gives up, and what an echo that differs does to its line. -/
theorem memoryDieLinkAndEchoes : Obligations.MemoryDieLinkAndEchoes := by
  unfold Obligations.MemoryDieLinkAndEchoes
  intro s c n hc
  refine ⟨fun hcrc hcoming => ⟨mdlTransfer_idle hc hcrc hcoming, ?_, mdlTransfer_retried hc hcrc hcoming,
    mdlTransfer_lost hc hcrc hcoming⟩, fun hl => ⟨execEcho_same hc hl, echo_channel hc rfl hl⟩,
    fun hl => ⟨execEcho_same hc hl, echo_ignition hc rfl hl⟩⟩
  intro r slot rest hnext g base wp post word hq hlen _ hfrozen hfull
  exact mdlTransfer_writes hc hcrc hcoming hnext hq hlen hfrozen hfull

end Sys2Proof.Proofs
end

section
/-! SUPPORT. What a drop, a hold, a stop and the fabric leave alone: the state's other parts, the collector but for its places, the driver
die's safe state, and the registers that later proofs read (R75, R174, R348, R422). -/

namespace Sys2Proof.Machine

/-- Registers that no drop, hold or stop writes. -/
def quietRegs : List Nat :=
  [Reg.fltCnt01.addr 0 0, Reg.fltCnt23.addr 0 0, Reg.hostStat.addr 0 0, Reg.sysGate.addr 0 0, Reg.fabCfg.addr 0 0, Reg.whlSyncCfg.addr 0 0,
    Reg.whlxCfg.addr 0 0, Reg.whlxCfg.addr 1 0, Reg.whlxCfg.addr 2 0]

/-- Sources that no drop, hold or stop sends from: the wheels, the predictor, the collector and the clock monitor. -/
def quietSrcs : List Nat := [0x090, 0x091, 0x092, 0x0A0, 0x0A1, 0x25F, 0x31F]

/-- A drop, a hold or a stop of works: what it may change, and what it leaves. -/
def State.Stir (s t : State) : Prop :=
  (∃ wk g hs ob kp li tr ed ch bk ig ms go va fb jg, t = { s with
      work := wk, regs := g, hwSet := hs, coll := { s.coll with outbox := ob, kept := kp }, links := li, trc := tr, edg := ed
      drv := { s.drv with ch := ch, bank := bk, ign := ig }, ms := ms, whl := { s.whl with gone := go, validAt := va }, fab := fb, jig := jg })
    ∧ (∀ r i j, r.addr i j ∈ quietRegs → t.rg r i j = s.rg r i j)
    ∧ ∀ src ∈ quietSrcs, s.KeepsBox src t

theorem State.Stir.refl (s : State) : s.Stir s :=
  ⟨⟨_, _, _, _, _, _, _, _, _, _, _, _, _, _, _, _, rfl⟩, fun _ _ _ _ => rfl, fun _ _ => rfl⟩

theorem State.Stir.trans {s t u : State} (h : s.Stir t) (h' : t.Stir u) : s.Stir u := by
  obtain ⟨⟨wk, g, hs, ob, kp, li, tr, ed, ch, bk, ig, ms, go, va, fb, jg, ht⟩, hr, hb⟩ := h
  obtain ⟨⟨wk', g', hs', ob', kp', li', tr', ed', ch', bk', ig', ms', go', va', fb', jg', hu⟩, hr', hb'⟩ := h'
  exact ⟨⟨wk', g', hs', ob', kp', li', tr', ed', ch', bk', ig', ms', go', va', fb', jg', by rw [hu, ht]⟩,
    fun r i j hn => (hr' r i j hn).trans (hr r i j hn), fun src hs => (hb' src hs).trans (hb src hs)⟩

theorem State.Stir.ite {s t u : State} {p : Prop} [Decidable p] (ht : s.Stir t) (hu : s.Stir u) : s.Stir (if p then t else u) := by
  split
  · exact ht
  · exact hu

theorem State.Stir.foldl {α : Type} {f : State → α → State} (hf : ∀ (t : State) (x : α), t.Stir (f t x)) (l : List α) (s : State) :
    s.Stir (l.foldl f s) := by
  induction l generalizing s with
  | nil => exact .refl s
  | cons x l ih => exact (hf s x).trans (ih _)

section
variable {s t : State} (h : s.Stir t)
include h

theorem State.Stir.sys : t.sys = s.sys := by obtain ⟨⟨_, _, _, _, _, _, _, _, _, _, _, _, _, _, _, _, ht⟩, -⟩ := h; rw [ht]
theorem State.Stir.now : t.now = s.now := by obtain ⟨⟨_, _, _, _, _, _, _, _, _, _, _, _, _, _, _, _, ht⟩, -⟩ := h; rw [ht]
theorem State.Stir.mem : t.mem = s.mem := by obtain ⟨⟨_, _, _, _, _, _, _, _, _, _, _, _, _, _, _, _, ht⟩, -⟩ := h; rw [ht]
theorem State.Stir.clu : t.clu = s.clu := by obtain ⟨⟨_, _, _, _, _, _, _, _, _, _, _, _, _, _, _, _, ht⟩, -⟩ := h; rw [ht]
theorem State.Stir.ao : t.ao = s.ao := by obtain ⟨⟨_, _, _, _, _, _, _, _, _, _, _, _, _, _, _, _, ht⟩, -⟩ := h; rw [ht]
theorem State.Stir.prd : t.prd = s.prd := by obtain ⟨⟨_, _, _, _, _, _, _, _, _, _, _, _, _, _, _, _, ht⟩, -⟩ := h; rw [ht]
theorem State.Stir.mnt : t.mnt = s.mnt := by obtain ⟨⟨_, _, _, _, _, _, _, _, _, _, _, _, _, _, _, _, ht⟩, -⟩ := h; rw [ht]
theorem State.Stir.bist : t.bist = s.bist := by obtain ⟨⟨_, _, _, _, _, _, _, _, _, _, _, _, _, _, _, _, ht⟩, -⟩ := h; rw [ht]
theorem State.Stir.inj : t.inj = s.inj := by obtain ⟨⟨_, _, _, _, _, _, _, _, _, _, _, _, _, _, _, _, ht⟩, -⟩ := h; rw [ht]

theorem State.Stir.whl : ∃ go va, t.whl = { s.whl with gone := go, validAt := va } := by
  obtain ⟨⟨_, _, _, _, _, _, _, _, _, _, _, _, go, va, _, _, ht⟩, -⟩ := h
  exact ⟨go, va, by rw [ht]⟩

theorem State.Stir.coll : ∃ ob kp, t.coll = { s.coll with outbox := ob, kept := kp } := by
  obtain ⟨⟨_, _, _, ob, kp, _, _, _, _, _, _, _, _, _, _, _, ht⟩, -⟩ := h
  exact ⟨ob, kp, by rw [ht]⟩

theorem State.Stir.drv_safe : t.drv.safe = s.drv.safe := by
  obtain ⟨⟨_, _, _, _, _, _, _, _, _, _, _, _, _, _, _, _, ht⟩, -⟩ := h
  rw [ht]

theorem State.Stir.rg {r : RegRow} {i j : Nat} (hr : r.addr i j ∈ quietRegs) : t.rg r i j = s.rg r i j := h.2.1 r i j hr

theorem State.Stir.fabEn : t.fabEn = s.fabEn := by rw [State.fabEn, State.fabEn, State.rb, State.rb, h.rg (by decide)]

end

/-! ### Changes of one part -/

/-- A change of parts that holds neither registers nor places. -/
theorem State.Stir.of_parts {s t : State} (wk : Vector Work 9) (li : Links) (tr : Trace) (ed : EdgeGen) (ch : Vector DrvCh 32)
    (bk : Vector Bank 8) (ig : Vector DrvIgn 24) (ms : Meas) (go : List (Nat × Nat)) (va : Nat) (fb : Fabric) (jg : Vector Jig 8)
    (h : t = { s with
      work := wk, links := li, trc := tr, edg := ed, drv := { s.drv with ch := ch, bank := bk, ign := ig }, ms := ms
      whl := { s.whl with gone := go, validAt := va }, fab := fb, jig := jg }) : s.Stir t := by
  subst h
  exact ⟨⟨_, _, _, s.coll.outbox, s.coll.kept, _, _, _, _, _, _, _, _, _, _, _, rfl⟩, fun _ _ _ _ => rfl, fun _ _ => rfl⟩

section
variable (s : State)

theorem State.stir_setWork (w : Fin 9) (f : Work → Work) : s.Stir (s.setWork w f) :=
  .of_parts _ s.links s.trc s.edg s.drv.ch s.drv.bank s.drv.ign s.ms s.whl.gone s.whl.validAt s.fab s.jig rfl
theorem State.stir_ddlSend (x : Xfer) : s.Stir (s.ddlSend x) :=
  .of_parts s.work _ s.trc s.edg s.drv.ch s.drv.bank s.drv.ign s.ms s.whl.gone s.whl.validAt s.fab s.jig rfl
theorem State.stir_trc (x : Trace) : s.Stir { s with trc := x } :=
  .of_parts s.work s.links _ s.edg s.drv.ch s.drv.bank s.drv.ign s.ms s.whl.gone s.whl.validAt s.fab s.jig rfl
theorem State.stir_edg (x : EdgeGen) : s.Stir { s with edg := x } :=
  .of_parts s.work s.links s.trc _ s.drv.ch s.drv.bank s.drv.ign s.ms s.whl.gone s.whl.validAt s.fab s.jig rfl
theorem State.stir_ms (x : Meas) : s.Stir { s with ms := x } :=
  .of_parts s.work s.links s.trc s.edg s.drv.ch s.drv.bank s.drv.ign _ s.whl.gone s.whl.validAt s.fab s.jig rfl
theorem State.stir_gone (x : List (Nat × Nat)) : s.Stir { s with whl := { s.whl with gone := x } } :=
  .of_parts s.work s.links s.trc s.edg s.drv.ch s.drv.bank s.drv.ign s.ms _ s.whl.validAt s.fab s.jig rfl
theorem State.stir_validAt (n : Nat) : s.Stir { s with whl := { s.whl with validAt := n } } :=
  .of_parts s.work s.links s.trc s.edg s.drv.ch s.drv.bank s.drv.ign s.ms s.whl.gone _ s.fab s.jig rfl
theorem State.stir_fab (x : Fabric) : s.Stir { s with fab := x } :=
  .of_parts s.work s.links s.trc s.edg s.drv.ch s.drv.bank s.drv.ign s.ms s.whl.gone s.whl.validAt _ s.jig rfl
theorem State.stir_jig (x : Vector Jig 8) : s.Stir { s with jig := x } :=
  .of_parts s.work s.links s.trc s.edg s.drv.ch s.drv.bank s.drv.ign s.ms s.whl.gone s.whl.validAt s.fab _ rfl

/-- A change of the driver die that leaves its safe state. -/
theorem State.DrvFrame.stir {s t : State} (h : s.DrvFrame t) : s.Stir t := by
  obtain ⟨ch, bank, ign, q, ht⟩ := h
  exact .of_parts s.work _ s.trc s.edg ch bank ign s.ms s.whl.gone s.whl.validAt s.fab s.jig ht

theorem State.stir_setECh (c : Fin 32) (f : EdgeCh → EdgeCh) : s.Stir (s.setECh c f) := s.stir_edg _
theorem State.stir_setEIgn (n : Fin 24) (f : EdgeIgn → EdgeIgn) : s.Stir (s.setEIgn n f) := s.stir_edg _

variable {s}

/-- A change of registers that no one of the kept ones is. -/
theorem State.stir_regs {t : State} {g : List (Nat × Word)} {hs : List (Nat × Nat × Nat)} (h : t = { s with regs := g, hwSet := hs })
    (hr : ∀ r i j, r.addr i j ∈ quietRegs → t.rg r i j = s.rg r i j) : s.Stir t := by
  subst h
  exact ⟨⟨s.work, g, hs, s.coll.outbox, s.coll.kept, s.links, s.trc, s.edg, s.drv.ch, s.drv.bank, s.drv.ign, s.ms, s.whl.gone, s.whl.validAt,
    s.fab, s.jig, rfl⟩, hr, fun _ _ => rfl⟩

variable (s)

theorem State.stir_setRf {r : RegRow} {i : Nat} (hi lo v : Nat) (h : r.addr i 0 ∉ quietRegs) : s.Stir (s.setRf r i hi lo v) :=
  State.stir_regs (hs := s.hwSet) rfl fun _ _ _ hn => State.setRg_rg_ne s r _ i 0 _ _ _ fun heq => h (heq ▸ hn)

theorem State.stir_hw (a m : Nat) : s.Stir (s.hw a m) := State.stir_regs (g := s.regs) rfl fun _ _ _ _ => rfl

theorem State.stir_setBit {r : RegRow} {i : Nat} (n : Nat) (h : r.addr i 0 ∉ quietRegs) : s.Stir (s.setBit r i n) :=
  (s.stir_setRf n n 1 h).trans (State.stir_hw ..)

theorem State.stir_bump {r : RegRow} {i : Nat} (hi lo : Nat) (h : r.addr i 0 ∉ quietRegs) : s.Stir (s.bump r i hi lo) :=
  State.stir_regs (s.bump_frame r i hi lo) fun _ _ _ hn => State.bump_rg_ne s r i fun heq => h (heq ▸ hn)

/-- The collector after a message differs in its places alone. -/
theorem outboxPut_places (m : Msg) (c : Collector) : (outboxPut m c).1 = { c with
    outbox := (outboxPut m c).1.outbox, kept := (outboxPut m c).1.kept } := by
  unfold outboxPut
  dsimp only
  split
  · rfl
  · split
    · rfl
    · split
      · rfl
      · split <;> rfl

/-- The collector takes the message's place, and a message that goes to the DDL or is lost leaves the places as they are. -/
theorem State.emit_outboxPut (cls kind src ctx : Nat) : (s.emit cls kind src ctx).coll = (outboxPut (s.msg cls kind src ctx) s.coll).1 := by
  unfold State.emit State.msg
  dsimp only
  generalize outboxPut _ s.coll = x
  obtain ⟨co, lost⟩ := x
  dsimp only
  have hsend (b : Bool) (y : Xfer) : (if b = true then ({ s with coll := co } : State).ddlSend y else { s with coll := co }).coll = co := by
    split <;> rfl
  split
  · rw [State.bump_frame]
    exact hsend ..
  · exact hsend ..

theorem State.stir_emit (cls kind : Nat) {src : Nat} (ctx : Nat) (h : src ∉ quietSrcs) : s.Stir (s.emit cls kind src ctx) := by
  have hcoll : (s.emit cls kind src ctx).coll = (outboxPut (s.msg cls kind src ctx) s.coll).1 := s.emit_outboxPut ..
  have hplaces := outboxPut_places (s.msg cls kind src ctx) s.coll
  rw [← hcoll] at hplaces
  refine ⟨⟨s.work, (s.emit cls kind src ctx).regs, (s.emit cls kind src ctx).hwSet, (s.emit cls kind src ctx).coll.outbox,
    (s.emit cls kind src ctx).coll.kept, (s.emit cls kind src ctx).links, s.trc, s.edg, s.drv.ch, s.drv.bank, s.drv.ign, s.ms,
    s.whl.gone, s.whl.validAt, s.fab, s.jig, (s.emit_frame cls kind src ctx).trans ?_⟩,
    fun r i j hn => s.emit_rg_ne cls kind src ctx fun heq => ?_, fun src' hs' => s.keepsBox_emit cls kind ctx fun heq => h (heq ▸ hs')⟩
  · rw [← hplaces]
  · rw [heq] at hn
    exact absurd hn (by decide)

end

end Sys2Proof.Machine
end

section
/-! SUPPORT. What a change of the device state or of FAB_CFG does in the fabric (R347, R348, R351, R352, R357). -/

namespace Sys2Proof.Machine

/-- The counts that the fabric's ports keep, and the count of lost messages. -/
def fabCounts : List Nat :=
  [Reg.fabPortErr.addr 0 0, Reg.fabPortErr.addr 1 0, Reg.fabPortErr.addr 2 0, Reg.fabCnt.addr 0 0, Reg.fltStat.addr 0 0]

/-- The second state differs from the first only in the fabric, the places of its messages and the counts of the fabric. -/
def State.FabFrame (s t : State) : Prop :=
  (∃ f ob kp g h, t = { s with fab := f, coll := { s.coll with outbox := ob, kept := kp }, regs := g, hwSet := h })
    ∧ (∀ r i j, r.addr i j ∉ fabCounts → t.rg r i j = s.rg r i j) ∧ ∀ src ∈ quietSrcs, s.KeepsBox src t

theorem State.FabFrame.refl (s : State) : s.FabFrame s := ⟨⟨s.fab, s.coll.outbox, s.coll.kept, s.regs, s.hwSet, rfl⟩, fun _ _ _ _ => rfl, fun _ _ => rfl⟩

theorem State.FabFrame.trans {s t u : State} (h : s.FabFrame t) (h' : t.FabFrame u) : s.FabFrame u := by
  obtain ⟨⟨f, ob, kp, g, hs, ht⟩, hr, hb⟩ := h
  obtain ⟨⟨f', ob', kp', g', hs', hu⟩, hr', hb'⟩ := h'
  exact ⟨⟨f', ob', kp', g', hs', by rw [hu, ht]⟩, fun r i j hn => (hr' r i j hn).trans (hr r i j hn),
    fun src hs => (hb' src hs).trans (hb src hs)⟩

theorem State.FabFrame.ite {s t u : State} {p : Prop} [Decidable p] (ht : s.FabFrame t) (hu : s.FabFrame u) :
    s.FabFrame (if p then t else u) := by
  split
  · exact ht
  · exact hu

theorem State.FabFrame.foldl {α : Type} {f : State → α → State} (hf : ∀ (t : State) (x : α), t.FabFrame (f t x)) (l : List α)
    (s : State) : s.FabFrame (l.foldl f s) := by
  induction l generalizing s with
  | nil => exact .refl s
  | cons x l ih => exact (hf s x).trans (ih _)

/-- A change of the fabric's own state. -/
theorem State.fabFrame_fab (s : State) (f : Fabric) : s.FabFrame { s with fab := f } :=
  ⟨⟨f, s.coll.outbox, s.coll.kept, s.regs, s.hwSet, rfl⟩, fun _ _ _ _ => rfl, fun _ _ => rfl⟩

theorem State.fabFrame_setPort (s : State) (r : Fin 3) (f : FPort → FPort) : s.FabFrame (s.setPort r f) := s.fabFrame_fab _

theorem State.fabFrame_emit (s : State) (cls kind : Nat) {src : Nat} (ctx : Nat) (h : src / 1024 ≠ 1) (hq : src ∉ quietSrcs) :
    s.FabFrame (s.emit cls kind src ctx) := by
  have hplaces := outboxPut_places (s.msg cls kind src ctx) s.coll
  rw [← s.emit_outboxPut cls kind src ctx] at hplaces
  refine ⟨⟨s.fab, (s.emit cls kind src ctx).coll.outbox, (s.emit cls kind src ctx).coll.kept, (s.emit cls kind src ctx).regs, s.hwSet,
    (Proofs.emit_control s cls kind ctx h).trans ?_⟩, fun r i j hn => s.emit_rg_ne cls kind src ctx fun heq => hn ?_,
    fun src' hs' => s.keepsBox_emit cls kind ctx fun heq => hq (heq ▸ hs')⟩
  · rw [← hplaces]
  · rw [heq]
    simp [fabCounts]

theorem State.fabFrame_bump (s : State) {r : RegRow} {i hi lo : Nat} (h : r.addr i 0 ∈ fabCounts) : s.FabFrame (s.bump r i hi lo) :=
  ⟨⟨s.fab, s.coll.outbox, s.coll.kept, _, _, s.bump_frame r i hi lo⟩,
    fun q k l hn => State.bump_rg_ne s r i fun heq => hn (by rw [heq]; exact h), fun _ _ => State.KeepsBox.of_coll (by rw [State.bump_frame])⟩

/-! ### What the frame says of accessors -/

section
variable {s t : State} (h : s.FabFrame t)
include h

theorem State.FabFrame.rg {r : RegRow} {i j : Nat} (hr : r.addr i j ∉ fabCounts) : t.rg r i j = s.rg r i j := h.2.1 r i j hr

theorem State.FabFrame.rb_fabCfg (n : Nat) : t.rb Reg.fabCfg 0 n = s.rb Reg.fabCfg 0 n := by
  rw [State.rb, State.rb, h.rg (by decide)]

theorem State.FabFrame.sys : t.sys = s.sys := by
  obtain ⟨⟨f, ob, kp, g, hs, ht⟩, -⟩ := h
  rw [ht]

theorem State.FabFrame.whl : t.whl = s.whl := by
  obtain ⟨⟨f, ob, kp, g, hs, ht⟩, -⟩ := h
  rw [ht]

theorem State.FabFrame.fabEn : t.fabEn = s.fabEn := h.rb_fabCfg 0

theorem State.FabFrame.fabRuns : t.fabRuns = s.fabRuns := by rw [State.fabRuns, State.fabRuns, h.fabEn, State.live, State.live, h.sys]

theorem State.FabFrame.nodeId : t.nodeId = s.nodeId := by
  rw [State.nodeId, State.nodeId, h.rb_fabCfg, State.rf, State.rf, h.rg (r := Reg.fabCfg) (by decide), h.sys]

end

/-- The fabric stirs no more than a drop does. -/
theorem State.FabFrame.stir {s t : State} (h : s.FabFrame t) : s.Stir t := by
  obtain ⟨⟨f, ob, kp, g, hs, ht⟩, hr, hb⟩ := h
  refine ⟨⟨s.work, g, hs, ob, kp, s.links, s.trc, s.edg, s.drv.ch, s.drv.bank, s.drv.ign, s.ms, s.whl.gone, s.whl.validAt, f, s.jig, ht⟩,
    fun r i j hq => hr r i j fun hn => ?_, hb⟩
  have hapart : ∀ a ∈ quietRegs, a ∉ fabCounts := by decide
  exact hapart _ hq hn

/-! ### Records, discarded frames and ports -/

theorem State.fabFrame_portPut (s : State) (r : Fin 3) (inp : Nat) (f : Frame) : s.FabFrame (s.portPut r inp f) := s.fabFrame_setPort ..

theorem State.fabFrame_flood (s : State) (inp : Nat) (f : Frame) : s.FabFrame (s.flood inp f) :=
  .foldl (fun t _ => .ite (t.fabFrame_portPut ..) (.refl t)) _ s

theorem State.fabFrame_newRecord (s : State) : s.FabFrame s.newRecord :=
  (s.fabFrame_fab _).trans ((State.fabFrame_fab _ _).trans (State.fabFrame_flood ..))

theorem State.fabFrame_recheck (s : State) : s.FabFrame s.recheck := .ite s.fabFrame_newRecord (.refl s)

/-- SOURCE of a fabric message names the control die, and no part that a drop leaves alone. -/
theorem srcF_control (p : Nat) : srcF p / 1024 ≠ 1 ∧ srcF p ∉ quietSrcs := by
  have hlt : srcF p % 1024 = 512 + 224 + p % 16 ∧ srcF p < 1024 := by
    unfold srcF srcC
    omega
  refine ⟨by omega, fun h => ?_⟩
  simp only [quietSrcs, List.mem_cons, List.not_mem_nil, or_false] at h
  omega

theorem State.fabFrame_fabDiscard (s : State) (reason dst dwork : Nat) : s.FabFrame (s.fabDiscard reason dst dwork) := by
  have hbump : s.FabFrame (s.bump Reg.fabCnt 0 15 0) := s.fabFrame_bump (by simp [fabCounts])
  unfold State.fabDiscard
  dsimp only
  split
  · exact hbump.trans (State.fabFrame_emit _ _ _ _ (srcF_control _).1 (srcF_control _).2)
  · exact hbump

theorem State.fabFrame_freeBuffer (s : State) (inp : Nat) (f : Frame) : s.FabFrame (s.freeBuffer inp f) := by
  unfold State.freeBuffer
  split
  · dsimp only
    split
    · exact .refl s
    · exact s.fabFrame_setPort ..
  · exact .refl s

theorem State.fabFrame_dropFrame (s : State) (reason inp : Nat) (f : Frame) : s.FabFrame (s.dropFrame reason inp f) := by
  unfold State.dropFrame
  dsimp only
  split
  · exact (s.fabFrame_fabDiscard ..).trans (State.fabFrame_freeBuffer ..)
  · exact s.fabFrame_freeBuffer ..

theorem State.fabFrame_portDown (s : State) (r : Fin 3) (cause : Nat) : s.FabFrame (s.portDown r cause) := by
  have hcount (t : State) : t.FabFrame (t.bump Reg.fabPortErr r.val 31 16) := t.fabFrame_bump (by fin_cases r <;> simp [fabCounts])
  unfold State.portDown
  dsimp only
  split
  · exact .refl s
  · refine State.FabFrame.trans ?_ (State.fabFrame_newRecord _)
    refine State.FabFrame.trans ?_ (.foldl (fun t e => t.fabFrame_dropFrame ..) _ _)
    refine State.FabFrame.trans ?_ (.foldl (fun t e => t.fabFrame_dropFrame ..) _ _)
    exact ((s.fabFrame_setPort ..).trans (hcount _)).trans (State.fabFrame_emit _ _ _ _ (srcF_control _).1 (srcF_control _).2)
  · exact s.fabFrame_setPort ..

theorem State.fabFrame_portsCheck (s : State) : s.FabFrame s.portsCheck := .foldl (fun t _ => .ite (.refl t) (t.fabFrame_portDown ..)) _ s

/-! ### A node on its own line-up place -/

/-- No bench is left, and the last record issued names the node's ID. -/
def State.Seated (s : State) : Prop := s.fab.bench = false ∧ s.fab.issued % 32 = s.nodeId % 32

/-- A step of the fabric keeps the node in its place. -/
def State.KeepsPlace (s t : State) : Prop := s.FabFrame t ∧ (s.Seated → t.Seated)

section

theorem State.KeepsPlace.refl (s : State) : s.KeepsPlace s := ⟨.refl s, id⟩

theorem State.KeepsPlace.trans {s t u : State} (h : s.KeepsPlace t) (h' : t.KeepsPlace u) : s.KeepsPlace u :=
  ⟨h.1.trans h'.1, h'.2 ∘ h.2⟩

theorem State.KeepsPlace.ite {s t u : State} {p : Prop} [Decidable p] (ht : s.KeepsPlace t) (hu : s.KeepsPlace u) :
    s.KeepsPlace (if p then t else u) := by
  split
  · exact ht
  · exact hu

theorem State.KeepsPlace.foldl {α : Type} {f : State → α → State} (hf : ∀ (t : State) (x : α), t.KeepsPlace (f t x)) (l : List α)
    (s : State) : s.KeepsPlace (l.foldl f s) := by
  induction l generalizing s with
  | nil => exact .refl s
  | cons x l ih => exact (hf s x).trans (ih _)

/-- A step that leaves the bench and the last record as they are. -/
theorem State.FabFrame.place {s t : State} (h : s.FabFrame t) (hb : t.fab.bench = s.fab.bench) (hi : t.fab.issued = s.fab.issued) :
    s.KeepsPlace t :=
  ⟨h, fun hp => ⟨hb.trans hp.1, by rw [hi, h.nodeId]; exact hp.2⟩⟩

theorem State.keepsPlace_setPort (s : State) (r : Fin 3) (f : FPort → FPort) : s.KeepsPlace (s.setPort r f) :=
  (s.fabFrame_setPort r f).place rfl rfl

theorem State.keepsPlace_emit (s : State) (cls kind : Nat) {src : Nat} (ctx : Nat) (h : src / 1024 ≠ 1 ∧ src ∉ quietSrcs) :
    s.KeepsPlace (s.emit cls kind src ctx) :=
  (s.fabFrame_emit cls kind ctx h.1 h.2).place (by rw [Proofs.emit_control s cls kind ctx h.1]) (by rw [Proofs.emit_control s cls kind ctx h.1])

theorem State.keepsPlace_bump (s : State) {r : RegRow} {i hi lo : Nat} (h : r.addr i 0 ∈ fabCounts) :
    s.KeepsPlace (s.bump r i hi lo) :=
  (s.fabFrame_bump h).place (by rw [State.bump_frame]) (by rw [State.bump_frame])

theorem State.flood_place (s : State) (inp : Nat) (f : Frame) :
    (s.flood inp f).fab.bench = s.fab.bench ∧ (s.flood inp f).fab.issued = s.fab.issued := by
  unfold State.flood
  induction List.finRange 3 generalizing s with
  | nil => exact ⟨rfl, rfl⟩
  | cons r l ih =>
    rw [List.foldl_cons]
    have hone : (if s.fab.port[r].st = .up ∧ r.val ≠ inp then s.portPut r inp f else s).fab.bench = s.fab.bench
        ∧ (if s.fab.port[r].st = .up ∧ r.val ≠ inp then s.portPut r inp f else s).fab.issued = s.fab.issued := by
      split <;> exact ⟨rfl, rfl⟩
    exact ⟨(ih _).1.trans hone.1, (ih _).2.trans hone.2⟩

/-- A new record names the node's ID. -/
theorem State.keepsPlace_newRecord (s : State) : s.KeepsPlace s.newRecord := by
  have hgist (r : LinkRec) : r.gist % 32 = r.id % 32 := by
    have h7 : bitAt r.bench 7 % 32 = 0 := by cases r.bench <;> rfl
    have h8 : bitAt r.elig 8 % 32 = 0 := by cases r.elig <;> rfl
    unfold LinkRec.gist
    omega
  refine ⟨s.fabFrame_newRecord, fun hp => ?_⟩
  unfold State.Seated
  rw [s.fabFrame_newRecord.nodeId]
  unfold State.newRecord
  rw [(State.flood_place ..).1, (State.flood_place ..).2]
  exact ⟨hp.1, hgist _⟩

theorem State.keepsPlace_dropFrame (s : State) (reason inp : Nat) (f : Frame) : s.KeepsPlace (s.dropFrame reason inp f) := by
  have hfree (t : State) : t.KeepsPlace (t.freeBuffer inp f) := by
    unfold State.freeBuffer
    split
    · dsimp only
      split
      · exact .refl t
      · exact t.keepsPlace_setPort ..
    · exact .refl t
  have hcount : s.KeepsPlace (s.fabDiscard reason f.dst f.dwork) := by
    have hbump : s.KeepsPlace (s.bump Reg.fabCnt 0 15 0) := s.keepsPlace_bump (by simp [fabCounts])
    unfold State.fabDiscard
    dsimp only
    split
    · exact hbump.trans (State.keepsPlace_emit _ _ _ _ (srcF_control _))
    · exact hbump
  unfold State.dropFrame
  dsimp only
  split
  · exact hcount.trans (hfree _)
  · exact hfree s

theorem State.keepsPlace_portDown (s : State) (r : Fin 3) (cause : Nat) : s.KeepsPlace (s.portDown r cause) := by
  have hcount (t : State) : t.KeepsPlace (t.bump Reg.fabPortErr r.val 31 16) := t.keepsPlace_bump (by fin_cases r <;> simp [fabCounts])
  unfold State.portDown
  dsimp only
  split
  · exact .refl s
  · refine State.KeepsPlace.trans ?_ (State.keepsPlace_newRecord _)
    refine State.KeepsPlace.trans ?_ (.foldl (fun t e => t.keepsPlace_dropFrame ..) _ _)
    refine State.KeepsPlace.trans ?_ (.foldl (fun t e => t.keepsPlace_dropFrame ..) _ _)
    exact ((s.keepsPlace_setPort ..).trans (hcount _)).trans (State.keepsPlace_emit _ _ _ _ (srcF_control _))
  · exact s.keepsPlace_setPort ..

theorem State.keepsPlace_portsCheck (s : State) : s.KeepsPlace s.portsCheck :=
  .foldl (fun t _ => .ite (.refl t) (t.keepsPlace_portDown ..)) _ s

end

/-! ### The fabric follows a change -/

/-- With the fabric disabled the followed state is the local one, and nothing moves. -/
theorem State.refollow_off {s : State} {old : Sync} (he : s.fabEn = false) (ho : s.whl.sync = old) (reason : Nat) : s.refollow old reason = s := by
  have hcombine : s.combine = s := if_pos (by rw [he]; rfl)
  have hsync : s.sync = old := by
    rw [State.sync, if_pos (by rw [show s.rb Reg.fabCfg 0 0 = false from he]; rfl), ho]
  rw [State.refollow, hcombine]
  rw [State.syncMoved]
  exact if_pos hsync

theorem State.fabFrame_refollow {s t : State} (he : s.fabEn = false) (h : s.FabFrame t) (reason : Nat) :
    s.FabFrame (t.refollow s.sync reason) := by
  have hold : s.sync = s.whl.sync := by
    rw [State.sync, if_pos (by rw [show s.rb Reg.fabCfg 0 0 = false from he]; rfl)]
  rw [State.refollow_off (h.fabEn.trans he) (by rw [h.whl, hold])]
  exact h

theorem State.fabFrame_benchPorts (s : State) : s.FabFrame s.benchPorts := by
  unfold State.benchPorts
  exact .foldl (fun t r => (t.fabFrame_setPort ..).trans (.foldl (fun u e => u.fabFrame_freeBuffer ..) _ _)) _ s

theorem State.fabFrame_dupCheck {s : State} (he : s.fabEn = false) (news : Bool) : s.FabFrame (s.dupCheck news) := by
  unfold State.dupCheck
  dsimp only
  split
  · exact .refl s
  · split
    · refine State.fabFrame_refollow he ?_ 0
      refine State.FabFrame.trans ?_ (State.fabFrame_emit _ _ _ _ (srcF_control _).1 (srcF_control _).2)
      refine State.FabFrame.trans ?_ (State.fabFrame_emit _ _ _ _ (srcF_control _).1 (srcF_control _).2)
      exact ((s.fabFrame_fab _).trans (State.fabFrame_benchPorts _)).trans (State.fabFrame_newRecord _)
    · exact .ite (s.fabFrame_emit _ _ _ (srcF_control _).1 (srcF_control _).2) (.refl s)

/-- Where the fabric follows without a comparison of records, it changes nothing else (R351, R352). -/
theorem State.fabFrame_fabFollow {s : State} (h : s.fabEn = false ∨ s.Seated) : s.FabFrame s.fabFollow := by
  have hports := s.keepsPlace_portsCheck
  unfold State.fabFollow
  dsimp only
  generalize s.portsCheck = t at hports
  obtain ⟨hframe, hplace⟩ := hports
  refine State.FabFrame.trans ?_ (State.fabFrame_recheck _)
  obtain he | hp := h
  · have het : t.fabEn = false := hframe.fabEn.trans he
    refine hframe.trans (.ite (State.fabFrame_dupCheck het true) ?_)
    have hrec (f : Fabric) : t.FabFrame (State.newRecord { t with fab := f }) := (t.fabFrame_fab f).trans (State.fabFrame_newRecord _)
    unfold State.leaveBench
    exact .ite (.refl t) ((hrec _).trans (State.fabFrame_dupCheck ((hrec _).fabEn.trans het) true))
  · obtain ⟨hb, hi⟩ := hplace hp
    have hleave : t.leaveBench = t := by
      unfold State.leaveBench
      rw [hb]
      rfl
    rw [if_neg (by simp [hi]), hleave]
    exact hframe

end Sys2Proof.Machine
end

section
/-! SUPPORT. A change in the course of a drop, a hold or a stop that leaves the fabric and the node's messages alone (R75, R365, R422). -/

namespace Sys2Proof.Machine

/-- The sources of the quiet ones, and the node. -/
def stillSrcs : List Nat := srcF 0xF :: quietSrcs

/-- The second state comes of a drop, a hold or a stop that leaves the fabric and the messages of the node as they were. -/
def State.Jolt (s t : State) : Prop := s.Stir t ∧ t.fab = s.fab ∧ s.KeepsBox (srcF 0xF) t

theorem State.Jolt.refl (s : State) : s.Jolt s := ⟨.refl s, rfl, rfl⟩

theorem State.Jolt.trans {s t u : State} (h : s.Jolt t) (h' : t.Jolt u) : s.Jolt u :=
  ⟨h.1.trans h'.1, h'.2.1.trans h.2.1, h'.2.2.trans h.2.2⟩

theorem State.Jolt.ite {s t u : State} {p : Prop} [Decidable p] (ht : s.Jolt t) (hu : s.Jolt u) : s.Jolt (if p then t else u) := by
  split
  · exact ht
  · exact hu

theorem State.Jolt.foldl {α : Type} {f : State → α → State} (hf : ∀ (t : State) (x : α), t.Jolt (f t x)) (l : List α) (s : State) :
    s.Jolt (l.foldl f s) := by
  induction l generalizing s with
  | nil => exact .refl s
  | cons x l ih => exact (hf s x).trans (ih _)

section
variable {s t : State} (h : s.Jolt t)
include h

theorem State.Jolt.stir : s.Stir t := h.1
theorem State.Jolt.fab : t.fab = s.fab := h.2.1
theorem State.Jolt.box : s.KeepsBox (srcF 0xF) t := h.2.2

end

/-! ### Changes of one part -/

section
variable (s : State)

theorem State.jolt_setWork (w : Fin 9) (f : Work → Work) : s.Jolt (s.setWork w f) := ⟨s.stir_setWork .., rfl, rfl⟩
theorem State.jolt_works (v : Vector Work 9) : s.Jolt { s with work := v } :=
  ⟨.of_parts _ s.links s.trc s.edg s.drv.ch s.drv.bank s.drv.ign s.ms s.whl.gone s.whl.validAt s.fab s.jig rfl, rfl, rfl⟩
theorem State.jolt_ddlSend (x : Xfer) : s.Jolt (s.ddlSend x) := ⟨s.stir_ddlSend x, rfl, rfl⟩
theorem State.jolt_trc (x : Trace) : s.Jolt { s with trc := x } := ⟨s.stir_trc x, rfl, rfl⟩
theorem State.jolt_edg (x : EdgeGen) : s.Jolt { s with edg := x } := ⟨s.stir_edg x, rfl, rfl⟩
theorem State.jolt_ms (x : Meas) : s.Jolt { s with ms := x } := ⟨s.stir_ms x, rfl, rfl⟩
theorem State.jolt_gone (x : List (Nat × Nat)) : s.Jolt { s with whl := { s.whl with gone := x } } := ⟨s.stir_gone x, rfl, rfl⟩
theorem State.jolt_validAt (n : Nat) : s.Jolt { s with whl := { s.whl with validAt := n } } := ⟨s.stir_validAt n, rfl, rfl⟩
theorem State.jolt_jig (x : Vector Jig 8) : s.Jolt { s with jig := x } := ⟨s.stir_jig x, rfl, rfl⟩

/-- A change of the driver die that leaves its safe state. -/
theorem State.DrvFrame.jolt {s t : State} (h : s.DrvFrame t) : s.Jolt t := by
  refine ⟨h.stir, ?_, ?_⟩ <;> obtain ⟨ch, bank, ign, q, ht⟩ := h <;> rw [ht] <;> rfl

theorem State.jolt_setECh (c : Fin 32) (f : EdgeCh → EdgeCh) : s.Jolt (s.setECh c f) := s.jolt_edg _
theorem State.jolt_setEIgn (n : Fin 24) (f : EdgeIgn → EdgeIgn) : s.Jolt (s.setEIgn n f) := s.jolt_edg _
theorem State.jolt_setCh (c : Fin 32) (f : DrvCh → DrvCh) : s.Jolt (s.setCh c f) := (s.drvFrame_setCh c f).jolt
theorem State.jolt_setRing (r : Fin 3) (f : Ring → Ring) : s.Jolt (s.setRing r f) := s.jolt_trc _
theorem State.jolt_setMod (m : Fin 8) (f : Modulator → Modulator) : s.Jolt (s.setMod m f) := s.jolt_ms _
theorem State.jolt_setWin (w : Fin 16) (f : Window → Window) : s.Jolt (s.setWin w f) := s.jolt_ms _
theorem State.jolt_setGoal (g : Fin 16) (f : Goal → Goal) : s.Jolt (s.setGoal g f) := s.jolt_ms _
theorem State.jolt_setPeg (w : Fin 9) (k : Fin 32) (f : Peg → Peg) : s.Jolt (s.setPeg w k f) := s.jolt_setWork ..

theorem State.jolt_setRf {r : RegRow} {i : Nat} (hi lo v : Nat) (h : r.addr i 0 ∉ quietRegs) : s.Jolt (s.setRf r i hi lo v) :=
  ⟨s.stir_setRf hi lo v h, rfl, rfl⟩

theorem State.jolt_setBit {r : RegRow} {i : Nat} (n : Nat) (h : r.addr i 0 ∉ quietRegs) : s.Jolt (s.setBit r i n) :=
  ⟨s.stir_setBit n h, rfl, rfl⟩

theorem State.jolt_bump {r : RegRow} {i : Nat} (hi lo : Nat) (h : r.addr i 0 ∉ quietRegs) : s.Jolt (s.bump r i hi lo) := by
  refine ⟨s.stir_bump hi lo h, ?_, .of_coll ?_⟩ <;> rw [State.bump_frame]

theorem State.jolt_emit (cls kind : Nat) {src : Nat} (ctx : Nat) (h : src ∉ stillSrcs) : s.Jolt (s.emit cls kind src ctx) := by
  simp only [stillSrcs, List.mem_cons, not_or] at h
  refine ⟨s.stir_emit cls kind ctx h.2, ?_, s.keepsBox_emit cls kind ctx h.1⟩
  rw [State.emit_frame]

end

end Sys2Proof.Machine
end

section
/-! SUPPORT. What pegs, windows and cues stir at a drop, a hold and a stop (R75, R79, R85, R174, R264, R422). -/

namespace Sys2Proof.Machine

/-! ### Sources and registers that these use -/

theorem core_notQuiet : ∀ c : Fin 9, srcC 0 c.val 0xF ∉ stillSrcs := by decide
theorem slot_notQuiet : ∀ (c : Fin 9) (k : Fin 32), srcC 0 c.val (k.val % 16) ∉ stillSrcs := by decide
theorem ring_notQuiet : ∀ r : Fin 3, srcC 2 4 r.val ∉ stillSrcs := by decide
theorem meas_notQuiet (a b : Nat) : srcM1 a b ∉ stillSrcs := by
  have hlt : 256 ≤ srcM1 a b ∧ srcM1 a b < 512 := by
    unfold srcM1 srcC
    omega
  intro h
  simp only [stillSrcs, quietSrcs, srcF, srcC, List.mem_cons, List.not_mem_nil, or_false] at h
  omega
theorem cueCnt_notQuiet : ∀ c : Fin 9, Reg.cluCueCnt.addr c.val 0 ∉ quietRegs := by decide
theorem schedFired_notQuiet : ∀ c : Fin 9, Reg.schedFired.addr c.val 0 ∉ quietRegs := by decide
theorem schedCnt_notQuiet : ∀ c : Fin 9, Reg.schedCnt.addr c.val 0 ∉ quietRegs := by decide
theorem ringStat_notQuiet : ∀ r : Fin 3, Reg.ringStat.addr r.val 0 ∉ quietRegs := by decide
theorem gpStat_notQuiet : ∀ g : Fin 16, Reg.gpStat.addr g.val 0 ∉ quietRegs := by decide

section
variable (s : State)

/-! ### Cues -/

theorem State.jolt_raiseCue (w : Fin 9) (q : CueOcc) : s.Jolt (s.raiseCue w q) := by
  unfold State.raiseCue
  dsimp only
  split
  · split
    · exact (s.jolt_setWork ..).trans (State.jolt_bump _ _ _ (cueCnt_notQuiet _))
    · exact s.jolt_setWork ..
  · split
    · exact s.jolt_setWork ..
    · exact (s.jolt_bump _ _ (cueCnt_notQuiet _)).trans (State.jolt_emit _ _ _ _ (core_notQuiet _))

theorem State.jolt_cue (w : Fin 9) (n g14 g12 stamp : Nat) : s.Jolt (s.cue w n g14 g12 stamp) := s.jolt_raiseCue ..

theorem State.jolt_cueOwner (owner n g14 g12 stamp : Nat) : s.Jolt (s.cueOwner owner n g14 g12 stamp) := by
  unfold State.cueOwner
  split
  · exact s.jolt_cue ..
  · exact .refl s

theorem State.jolt_cueAll (n g14 g12 stamp : Nat) : s.Jolt (s.cueAll n g14 g12 stamp) := .foldl (fun t _ => t.jolt_cue ..) _ s

/-! ### Pegs -/

theorem State.jolt_ringStage (r : Fin 3) (slot : List Nat) : s.Jolt (s.ringStage r slot) := by
  have hdrop : s.Jolt (s.ringDrop r) :=
    (State.Jolt.ite (s.jolt_emit _ _ _ (ring_notQuiet r)) (.refl s)).trans
      ((State.jolt_bump _ _ _ (ringStat_notQuiet r)).trans (State.jolt_setRing ..))
  exact .ite (.refl s) (.ite hdrop (s.jolt_setRing ..))

theorem State.jolt_pegNote (cls kind : Nat) (w : Fin 9) (k : Fin 32) (p : Peg) (reason : Nat) :
    s.Jolt (s.pegNote cls kind w k p reason) := s.jolt_emit _ _ _ (slot_notQuiet _ _)

theorem State.jolt_selOf (p : Peg) : s.Jolt (s.selOf p) := by
  have hsend (c : Fin 32) : s.Jolt (s.selSend c) := by
    unfold State.selSend
    dsimp only
    split
    · exact (s.jolt_setECh ..).trans (State.jolt_ddlSend ..)
    · exact s.jolt_setECh ..
  unfold State.selOf
  split
  · exact .ite (.ite (.refl s) (hsend _)) (.refl s)
  · exact .refl s

theorem State.jolt_countEnd (p : Peg) (c : Fin 9) (o : Nat) : s.Jolt (s.countEnd p c o) := by
  have hfired : s.Jolt (if p.issues then s.bumpWrap Reg.schedFired c 31 0 else s) :=
    .ite (s.jolt_setRf _ _ _ (schedFired_notQuiet c)) (.refl s)
  unfold State.countEnd
  dsimp only
  generalize (if p.issues then s.bumpWrap Reg.schedFired c 31 0 else s) = fired at hfired
  split
  · exact hfired
  · exact hfired.trans (State.jolt_bump _ _ _ (schedCnt_notQuiet c))
  · exact s.jolt_bump _ _ (schedCnt_notQuiet c)
  · exact .refl s

theorem State.jolt_release (w : Fin 9) (k : Fin 32) (o l r : Nat) (quiet : Bool) : s.Jolt (s.release w k o l r quiet) := by
  have hlog (t : State) (p : Peg) : t.Jolt ((t.pegLog w k p o l r).pegCue w k p o l) :=
    (State.Jolt.ite (.refl t) (t.jolt_ringStage ..)).trans (.ite (State.jolt_cue ..) (.refl _))
  rw [State.release_eq]
  have hend := (s.jolt_setPeg w k fun _ => s.work[w].slots[k].ended o l s.now).trans
    (State.jolt_countEnd _ s.work[w].slots[k] (s.counterOf w) o)
  exact (State.Jolt.ite hend (hend.trans (hlog _ _))).trans (State.jolt_selOf ..)

theorem State.jolt_baseLost (w : Fin 9) (was : Option Peg) (o : Nat) : s.Jolt (s.baseLost w was o) :=
  .foldl (fun t _ => .ite ((t.jolt_pegNote ..).trans (State.jolt_release ..)) (.refl t)) _ s

theorem State.jolt_cancelPeg (w : Fin 9) (k : Fin 32) (o : Nat) (quiet : Bool) : s.Jolt (s.cancelPeg w k o quiet) :=
  (s.jolt_release ..).trans (State.jolt_baseLost ..)

theorem State.jolt_softCmd (n : Fin 24) : s.Jolt (s.softCmd n) := (s.jolt_setEIgn ..).trans (State.jolt_ddlSend ..)

theorem State.jolt_softOff (w : Fin 9) (k : Fin 32) (reason : Nat) : s.Jolt (s.softOff w k reason) := by
  unfold State.softOff
  dsimp only
  split
  · exact .refl s
  · exact (s.jolt_setPeg ..).trans (State.jolt_softCmd ..)

theorem State.jolt_unitCancel (w : Fin 9) (k : Fin 32) (reason : Nat) : s.Jolt (s.unitCancel w k reason) := by
  unfold State.unitCancel
  dsimp only
  refine .ite (s.jolt_softOff ..) ?_
  split
  · exact s.jolt_cancelPeg ..
  · exact s.jolt_cancelPeg ..
  · exact s.jolt_cancelPeg ..
  · exact s.jolt_cancelPeg ..
  · exact .ite (s.jolt_setPeg ..) (.refl s)
  · exact .refl s

variable {s}

theorem State.jolt_eachLive {f : State → Fin 9 → Fin 32 → State} (hf : ∀ (t : State) (w : Fin 9) (k : Fin 32), t.Jolt (f t w k)) :
    s.Jolt (s.eachLive f) :=
  .foldl (fun _ w => .foldl (fun t k => hf t w k) _ _) _ s

variable (s)

theorem State.jolt_dropPegs : s.Jolt s.dropPegs := State.jolt_eachLive fun t w k => t.jolt_unitCancel w k 4

theorem State.jolt_lineOff (c : Fin 32) : s.Jolt (s.lineOff c) := .ite ((s.jolt_setECh ..).trans (State.jolt_setCh ..)) (.refl s)

theorem State.jolt_dropProv : s.Jolt s.dropProv :=
  (State.jolt_eachLive fun t w k => .ite (t.jolt_setPeg w k _) (.refl t)).trans
    (.foldl (fun t c => .ite (t.jolt_lineOff c) (.refl t)) _ _)

theorem State.jolt_holdPegs (on : Peg → Bool) : s.Jolt (s.holdPegs on) :=
  .foldl (fun _ w => .foldl (fun t k => by
    dsimp only
    refine .ite (.refl t) (.ite (t.jolt_softOff ..) (.ite ?_ (.refl t)))
    split
    · exact .ite ((t.jolt_setPeg ..).trans (State.jolt_softCmd ..)) (t.jolt_setPeg ..)
    · exact t.jolt_setPeg ..) _ _) _ s

theorem State.jolt_stopPegs (w : Fin 9) : s.Jolt (s.stopPegs w) :=
  .foldl (fun t k => by
    dsimp only
    split
    · exact t.jolt_cancelPeg ..
    · exact t.jolt_cancelPeg ..
    · exact t.jolt_cancelPeg ..
    · exact t.jolt_softOff ..
    · exact .refl t) _ s

theorem State.jolt_stopWork (w : Fin 9) : s.Jolt (s.stopWork w) := (s.jolt_stopPegs w).trans (State.jolt_setWork ..)

/-! ### Channels -/

theorem State.jolt_closeDue (cs : List (Fin 32)) : s.Jolt (s.closeDue cs) := by
  have hclose (t : State) (x : Fin 32 × Due) : t.Jolt (t.closeCue x.1 x.2.seq x.2.owner x.2.work 0 false) :=
    .ite (t.jolt_cue ..) (.refl t)
  exact (State.Jolt.foldl hclose _ s).trans (.foldl (fun t c => t.jolt_setECh c _) _ _)

theorem State.jolt_chSafe (c : Fin 32) : s.Jolt (s.chSafe c) :=
  (State.DrvFrame.jolt (s.drvFrame_driverHold c)).trans ((State.jolt_closeDue _ _).trans
    ((State.jolt_setECh _ c _).trans (State.jolt_setCh _ c _)))

theorem State.jolt_jigHolds : s.Jolt s.jigHolds := .foldl (fun t _ => .ite (t.jolt_jig _) (.refl t)) _ s

/-! ### Windows (R264) -/

theorem State.jolt_winNote (w : Fin 16) (kind : Nat) : s.Jolt (s.winNote w kind) := s.jolt_emit _ _ _ (meas_notQuiet _ _)

theorem State.jolt_goalEvent (g : Fin 16) (z : Zone) : s.Jolt (s.goalEvent g z) := by
  unfold State.goalEvent
  dsimp only
  have hcount : s.Jolt ((s.setGoal g fun x => { x with zone := z, cand := z, cnt := 0 }).bump Reg.gpStat g 31 16) :=
    (s.jolt_setGoal ..).trans (State.jolt_bump _ _ _ (gpStat_notQuiet g))
  generalize State.bump _ Reg.gpStat g 31 16 = s1 at hcount
  have hcue := hcount.trans (s1.jolt_cueOwner (s1.goalOwner g) 22 (g.val + z.event * 16) 0 s.now)
  generalize s1.cueOwner (s1.goalOwner g) 22 (g.val + z.event * 16) 0 s.now = s2 at hcue
  exact .ite (hcue.trans (State.jolt_emit _ _ _ _ (meas_notQuiet _ _))) hcue

theorem State.jolt_goalsLost (types : List Nat) (unit : Nat) : s.Jolt (s.goalsLost types unit) :=
  .foldl (fun _ _ => .foldl (fun t _ => .ite (.refl t) (t.jolt_goalEvent ..)) _ _) _ s

theorem State.jolt_goalsValue (type unit : Nat) (v : Int) : s.Jolt (s.goalsValue type unit v) := by
  have hone (t : State) (g : Fin 16) : t.Jolt (t.goalValue g v) := by
    unfold State.goalValue
    dsimp only
    split
    · exact t.jolt_setGoal ..
    · exact .ite (t.jolt_setGoal ..) (.ite (t.jolt_goalEvent ..) (t.jolt_setGoal ..))
  exact .foldl hone _ s

theorem State.jolt_windowsNow : s.Jolt s.windowsNow := by
  have hplace : s.Jolt s.placeAll := .ite (.refl s) (s.jolt_ms _)
  exact .ite (hplace.trans (.foldl (fun t w => .ite ((t.jolt_winNote ..).trans (State.jolt_setWin ..)) (.refl t)) _ _)) (.refl s)

theorem State.jolt_gridSlots (w : Fin 16) (last : Bool) (n : Nat) (r : WinRun) : s.Jolt (s.gridSlots w last n r).1 := by
  induction n generalizing s r with
  | zero => exact .refl s
  | succ n ih =>
    unfold State.gridSlots
    dsimp only
    split
    · exact .refl s
    · exact (s.jolt_trc _).trans (ih _ _)

theorem State.jolt_winEnd (w : Fin 16) (r : WinRun) : s.Jolt (s.winEnd w r) := by
  unfold State.winEnd
  dsimp only
  generalize (⟨fld r.cfg 2 0, _⟩ : Fin 8) = m
  have hend := (s.jolt_ms { s.ms with ends := s.ms.ends ++ [(w, r)] }).trans (State.jolt_setMod _ m fun x => { x with stayDone := true })
  generalize State.setMod _ m _ = s1 at hend
  exact .ite (hend.trans (s1.jolt_setMod _ _)) hend

/-- An opening after its slots: ended, or kept. -/
theorem State.jolt_resolved {x : State × WinRun} (h : s.Jolt x.1) (w : Fin 16) (ended : Bool) :
    s.Jolt (let (s3, r4) := x
      if ended = true then (s3.winEnd w r4, (none : Option WinRun)) else (s3, some r4)).1 := by
  obtain ⟨s3, r4⟩ := x
  dsimp only
  split
  · exact h.trans (s3.jolt_winEnd w r4)
  · exact h

theorem State.jolt_runResolve (w : Fin 16) (hist : List Sample) (r : WinRun) : s.Jolt (s.runResolve w hist r).1 := by
  unfold State.runResolve
  generalize (300 : Nat) = n
  generalize resolveRun hist r.placed r = x
  obtain ⟨r1, ps⟩ := x
  dsimp only
  have hgoals : s.Jolt (ps.foldl (fun (t : State) (p : Point) => if p.valid then t.goalsValue 1 w.val p.v else t) s) :=
    .foldl (fun t p => .ite (t.jolt_goalsValue ..) (.refl t)) _ s
  generalize ps.foldl (fun (t : State) (p : Point) => if p.valid then t.goalsValue 1 w.val p.v else t) s = s1 at hgoals
  refine s.jolt_resolved ?_ w _
  exact hgoals.trans (s1.jolt_gridSlots ..)

theorem State.jolt_winResolve (w : Fin 16) : s.Jolt (s.winResolve w) := by
  unfold State.winResolve
  refine (s.jolt_setWin w _).trans (.foldl (fun t r => ?_) _ _)
  dsimp only
  exact (t.jolt_runResolve ..).trans (State.jolt_setWin ..)

theorem State.jolt_resample : s.Jolt s.resample := by
  unfold State.resample
  exact .ite (s.jolt_windowsNow.trans (.foldl (fun t w => t.jolt_winResolve w) _ _)) (.refl s)

theorem State.jolt_winAbortIf (w : Fin 16) (p : Bool → WinRun → Bool) : s.Jolt (s.winAbortIf w p) := by
  have habort (t : State) (r : WinRun) : t.Jolt (t.runAbort w r) := by
    unfold State.runAbort
    dsimp only
    generalize (300 : Nat) = n
    generalize ({ r with aborted := true, placed := [], pref := t.rg Reg.winPref w } : WinRun) = r1
    have hnote := t.jolt_winNote w Kind.winAbort
    generalize t.winNote w Kind.winAbort = u at hnote
    have hslots := hnote.trans (u.jolt_gridSlots w true n r1)
    generalize u.gridSlots w true n r1 = x at hslots
    exact (hslots.trans (State.jolt_winEnd ..)).trans (State.jolt_goalsLost ..)
  unfold State.winAbortIf
  dsimp only
  refine (s.jolt_setWin w _).trans (.foldl (fun t x => ?_) _ _)
  exact .ite ((habort t x.1).trans (State.jolt_setWin _ w _)) (t.jolt_setWin w _)

theorem State.jolt_winAbortAll : s.Jolt s.winAbortAll :=
  .ite (.refl s) (s.jolt_resample.trans (.foldl (fun t w => t.jolt_winAbortIf w _) _ _))

/-! ### The followed state (R64, R75, R365) -/

theorem State.jolt_dropActions (prov rollback : Bool) (reason : Nat) : s.Jolt (s.dropActions prov rollback reason) := by
  have hprov : s.Jolt (if prov then s.dropProv else s) := .ite s.jolt_dropProv (.refl s)
  have hevt (t : State) (n : Nat) : t.Jolt (t.setBit Reg.whlEvt 0 n) := t.jolt_setBit n (by decide)
  unfold State.dropActions
  dsimp only
  generalize (if prov = true then s.dropProv else s) = s1 at hprov
  have hpegs := (hprov.trans s1.jolt_dropPegs).trans (State.jolt_winAbortAll _)
  generalize s1.dropPegs.winAbortAll = s2 at hpegs
  have hedg := hpegs.trans (s2.jolt_edg { s2.edg with heOld := none, reopen := false })
  generalize ({ s2 with edg := { s2.edg with heOld := none, reopen := false } } : State) = s3 at hedg
  exact (hedg.trans (hevt s3 _)).trans (State.jolt_emit _ _ _ _ (by decide))

theorem State.jolt_rearmAll : s.Jolt s.rearmAll :=
  s.jolt_works _

theorem State.jolt_syncMoved (old : Sync) (reason : Nat) : s.Jolt (s.syncMoved old reason) := by
  unfold State.syncMoved
  dsimp only
  refine .ite (.refl s) ?_
  have hgone : s.Jolt (if (old.valid && !s.sync.valid) = true then { s with whl := { s.whl with gone := s.lastAngles } } else s) :=
    .ite (s.jolt_gone _) (.refl s)
  generalize (if (old.valid && !s.sync.valid) = true then ({ s with whl := { s.whl with gone := s.lastAngles } } : State) else s) = s0 at hgone
  have hdrop (b : Bool) : s.Jolt (if old.dropsTo s.sync = true then s0.dropActions (decide (old = .provisional)) b reason
      else if s.sync = .full then { s0 with edg := { s0.edg with reopen := true } } else s0) :=
    .ite (hgone.trans (s0.jolt_dropActions _ _ _)) (.ite (hgone.trans (s0.jolt_edg _)) hgone)
  replace hdrop := hdrop (decide (old = .provisional) && decide (s.sync = .nosync) && (!s.fabEn || s.fab.capt))
  generalize (if old.dropsTo s.sync = true then _ else _ : State) = s1 at hdrop
  have hrearm : s.Jolt (if s.sync = .nosync ∨ s.sync = .tooth then s1.rearmAll else s1) := .ite (hdrop.trans s1.jolt_rearmAll) hdrop
  generalize (if s.sync = .nosync ∨ s.sync = .tooth then s1.rearmAll else s1) = s2 at hrearm
  have hvalid : s.Jolt (if (s.sync.valid && !old.valid) = true then { s2 with whl := { s2.whl with validAt := s2.now } } else s2) :=
    .ite (hrearm.trans (s2.jolt_validAt _)) hrearm
  generalize (if (s.sync.valid && !old.valid) = true then ({ s2 with whl := { s2.whl with validAt := s2.now } } : State) else s2) = s3 at hvalid
  exact hvalid.trans (s3.jolt_cueAll _ _ _ _)

theorem State.stir_combine : s.Stir s.combine := by
  unfold State.combine
  dsimp only
  refine .ite (.refl s) (.ite (.ite (s.stir_fab _) (.refl s)) ?_)
  exact .ite ((s.stir_fab _).trans (State.stir_emit _ _ _ _ (srcF_control _).2)) (s.stir_fab _)

theorem State.stir_refollow (old : Sync) (reason : Nat) : s.Stir (s.refollow old reason) := s.stir_combine.trans (State.jolt_syncMoved ..).stir

/-! ### The same for what the stops and holds use -/

theorem State.stir_cueOwner (owner n g14 g12 stamp : Nat) : s.Stir (s.cueOwner owner n g14 g12 stamp) := (s.jolt_cueOwner ..).stir
theorem State.stir_holdPegs (on : Peg → Bool) : s.Stir (s.holdPegs on) := (s.jolt_holdPegs on).stir
theorem State.stir_stopPegs (w : Fin 9) : s.Stir (s.stopPegs w) := (s.jolt_stopPegs w).stir
theorem State.stir_stopWork (w : Fin 9) : s.Stir (s.stopWork w) := (s.jolt_stopWork w).stir
theorem State.stir_closeDue (cs : List (Fin 32)) : s.Stir (s.closeDue cs) := (s.jolt_closeDue cs).stir
theorem State.stir_chSafe (c : Fin 32) : s.Stir (s.chSafe c) := (s.jolt_chSafe c).stir
theorem State.stir_jigHolds : s.Stir s.jigHolds := s.jolt_jigHolds.stir

/-! ### The fabric follows a change of the device state -/

theorem State.stir_dupCheck (news : Bool) : s.Stir (s.dupCheck news) := by
  unfold State.dupCheck
  dsimp only
  split
  · exact .refl s
  · split
    · refine State.Stir.trans ?_ (State.stir_refollow ..)
      refine State.Stir.trans ?_ (State.stir_emit _ _ _ _ (srcF_control _).2)
      refine State.Stir.trans ?_ (State.stir_emit _ _ _ _ (srcF_control _).2)
      exact (((s.fabFrame_fab _).trans (State.fabFrame_benchPorts _)).trans (State.fabFrame_newRecord _)).stir
    · exact .ite (s.stir_emit _ _ _ (srcF_control _).2) (.refl s)

theorem State.stir_fabFollow : s.Stir s.fabFollow := by
  have hleave (t : State) : t.Stir t.leaveBench :=
    .ite (.refl t) (((t.fabFrame_fab _).trans (State.fabFrame_newRecord _)).stir.trans (State.stir_dupCheck ..))
  exact (s.fabFrame_portsCheck.stir.trans (.ite (State.stir_dupCheck ..) (hleave _))).trans (State.fabFrame_recheck _).stir

end

end Sys2Proof.Machine
end

section
/-! SUPPORT. The safe actuation state of the package, stops of clusters, and the loss of the sync (R75, R174, R422, R427, R455). -/

namespace Sys2Proof.Machine

/-! ### A stir beside other parts -/

/-- What stirs a state stirs it with another driver die alike. -/
theorem State.Stir.drv {s t : State} (h : s.Stir t) (d : Driver) : ({ s with drv := d } : State).Stir { t with drv := d } := by
  obtain ⟨⟨wk, g, hs, ob, kp, li, tr, ed, ch, bk, ig, ms, go, va, fb, jg, ht⟩, hr, hb⟩ := h
  exact ⟨⟨wk, g, hs, ob, kp, li, tr, ed, d.ch, d.bank, d.ign, ms, go, va, fb, jg, by rw [ht]⟩, fun r i j hn => hr r i j hn, hb⟩

/-- What stirs a state stirs it with other clusters alike. -/
theorem State.Stir.cores {s t : State} (h : s.Stir t) (c : Vector Cluster 9) (k : List Takeover) (b : Bist) :
    ({ s with clu := c, take := k, bist := b } : State).Stir { t with clu := c, take := k, bist := b } := by
  obtain ⟨⟨wk, g, hs, ob, kp, li, tr, ed, ch, bk, ig, ms, go, va, fb, jg, ht⟩, hr, hb⟩ := h
  exact ⟨⟨wk, g, hs, ob, kp, li, tr, ed, ch, bk, ig, ms, go, va, fb, jg, by rw [ht]⟩, fun r i j hn => hr r i j hn, hb⟩

/-! ### The driver die in its safe state (R246) -/

/-- The driver die ends in its safe state; else its report alone stirs. -/
theorem State.drvEnter_stirs (s : State) (cause : Nat) : ∃ d, d.safe = true ∧ ({ s with drv := d } : State).Stir (s.drvEnter cause) := by
  unfold State.drvEnter
  split
  · next h => exact ⟨s.drv, h, .refl s⟩
  · obtain ⟨d, q, hd, hsafe⟩ := s.drvSafe_parts
    have hlinks : ({ s with drv := d } : State).Stir s.drvSafe :=
      .of_parts s.work { s.links with ddl := s.links.ddl ++ q } s.trc s.edg d.ch d.bank d.ign s.ms s.whl.gone s.whl.validAt s.fab s.jig hsafe
    exact ⟨d, hd, hlinks.trans (State.stir_emit _ _ _ _ (by decide))⟩

/-! ### The safe actuation state of the package (R420, R422, R423) -/

/-- Whether the package was safe before the causes of this SVCLK. -/
def State.wasSafe (s : State) : Bool :=
  match s.coll.entered with
  | some (k, b) => if k = s.svclk then b else s.coll.safe
  | none => s.coll.safe

/-- The collector of a package that enters the safe actuation state. -/
def State.safeColl (s : State) (cause : Collector → Collector) : Collector :=
  { cause s.coll with safe := true, lineA := true, lineB := true, shot := none, entered := some (s.svclk, s.wasSafe) }

/-- The entry makes the collector and the driver die safe; the rest that it does is a stir. -/
theorem State.pkgSafe_stirs (s : State) (cause : Collector → Collector) :
    ∃ d, d.safe = true ∧ ({ s with coll := s.safeColl cause, drv := d } : State).Stir (s.pkgSafe cause) := by
  obtain ⟨s1, hs1⟩ : ∃ s1 : State, s1 = { s with coll := s.safeColl cause } := ⟨_, rfl⟩
  have hpkg : s.pkgSafe cause = if s.coll.safe then s1.drvEnter 1 else (((List.finRange 24).foldl (fun (t : State) (n : Fin 24) =>
      if t.drv.ign[n].gate then t else t.setEIgn n fun e => { e with line := false }) (((List.finRange 32).foldl (fun (t : State) (c : Fin 32) =>
        t.chSafe c) ((s1.holdPegs fun p => p.ach.isSome || p.ign.isSome).closeDue (List.finRange 32))).drvEnter 1)).jigHolds) := by
    rw [hs1]
    rfl
  rw [hpkg]
  have hparts (d : Driver) : ({ s with coll := s.safeColl cause, drv := d } : State) = { s1 with drv := d } := by rw [hs1]
  simp only [hparts]
  clear hs1 hpkg hparts
  split
  · exact s1.drvEnter_stirs 1
  · have hheld := (s1.stir_holdPegs fun p => p.ach.isSome || p.ign.isSome).trans (State.stir_closeDue _ (List.finRange 32))
    generalize (s1.holdPegs fun p => p.ach.isSome || p.ign.isSome).closeDue (List.finRange 32) = s2 at hheld
    have hchs : s1.Stir ((List.finRange 32).foldl (fun (t : State) (c : Fin 32) => t.chSafe c) s2) :=
      hheld.trans (.foldl (fun t c => t.stir_chSafe c) _ _)
    generalize (List.finRange 32).foldl (fun (t : State) (c : Fin 32) => t.chSafe c) s2 = s3 at hchs
    obtain ⟨d, hd, henter⟩ := s3.drvEnter_stirs 1
    refine ⟨d, hd, (State.Stir.trans ?_ henter).trans (State.Stir.trans (.foldl (fun t n => ?_) _ _) (State.stir_jigHolds _))⟩
    · exact hchs.drv d
    · exact .ite (.refl t) (t.stir_setEIgn n _)

/-! ### Stops of clusters (R174, R427, R455) -/

/-- Clusters stop: what else changes is a stir. -/
def State.Stops (s t : State) : Prop := ∃ c k b, ({ s with clu := c, take := k, bist := b } : State).Stir t

theorem State.Stops.refl (s : State) : s.Stops s := ⟨s.clu, s.take, s.bist, .refl s⟩

theorem State.Stops.trans {s t u : State} (h : s.Stops t) (h' : t.Stops u) : s.Stops u := by
  obtain ⟨c, k, b, hs⟩ := h
  obtain ⟨c', k', b', ht⟩ := h'
  exact ⟨c', k', b', (hs.cores c' k' b').trans ht⟩

theorem State.Stops.ite {s t u : State} {p : Prop} [Decidable p] (ht : s.Stops t) (hu : s.Stops u) : s.Stops (if p then t else u) := by
  split
  · exact ht
  · exact hu

theorem State.Stops.foldl {α : Type} {f : State → α → State} (hf : ∀ (t : State) (x : α), t.Stops (f t x)) (l : List α) (s : State) :
    s.Stops (l.foldl f s) := by
  induction l generalizing s with
  | nil => exact .refl s
  | cons x l ih => exact (hf s x).trans (ih _)

theorem State.Stir.stops {s t : State} (h : s.Stir t) : s.Stops t := ⟨s.clu, s.take, s.bist, h⟩

theorem State.stops_setClu (s : State) (c : Fin 9) (f : Cluster → Cluster) : s.Stops (s.setClu c f) := ⟨(s.setClu c f).clu, s.take, s.bist, .refl _⟩

theorem State.stops_bist (s : State) (b : Bist) : s.Stops { s with bist := b } := ⟨s.clu, s.take, b, .refl _⟩

theorem State.stops_take (s : State) (k : List Takeover) : s.Stops { s with take := k } := ⟨s.clu, k, s.bist, .refl _⟩

/-- The work that the cluster carries stops. -/
def State.carriedStop (s : State) (c : Fin 9) : State :=
  match s.clu[c].work with
  | some w => s.stopWork w
  | none => s

theorem State.stir_carriedStop (s : State) (c : Fin 9) : s.Stir (s.carriedStop c) := by
  unfold State.carriedStop
  split
  · exact s.stir_stopWork _
  · exact .refl s

/-- A cluster that stops: its work stops, and it stands STOPPED or SPARE. -/
theorem State.clusterStop_eq (s : State) (c : Fin 9) (spare : Bool) : ∃ own en,
    s.clusterStop c spare = { (s.carriedStop c).setClu c fun x => { x with
        role := if spare then .spare else .stopped, work := own, run := none, halt := false, stopReq := false, redoCue := none, cueEn := en } with
      take := (s.carriedStop c).take.filter (·.taker ≠ c) } := ⟨_, _, rfl⟩

theorem State.stops_clusterStop (s : State) (c : Fin 9) (spare : Bool) : s.Stops (s.clusterStop c spare) := by
  obtain ⟨own, en, heq⟩ := s.clusterStop_eq c spare
  rw [heq]
  exact ((s.stir_carriedStop c).stops.trans (State.stops_setClu _ c _)).trans (State.stops_take _ _)

/-- The stopping cluster takes its new role, and the others keep theirs. -/
theorem State.clusterStop_role (s : State) (c d : Fin 9) (spare : Bool) : (s.clusterStop c spare).clu[d].role
    = if c = d then (if spare then .spare else .stopped) else s.clu[d].role := by
  obtain ⟨own, en, heq⟩ := s.clusterStop_eq c spare
  have hclu : (s.carriedStop c).clu = s.clu := (s.stir_carriedStop c).clu
  rw [heq]
  show (upd (s.carriedStop c).clu c _)[d].role = _
  rw [hclu]
  simp only [upd, Fin.getElem_fin, Vector.getElem_set, Fin.ext_iff]
  split <;> rfl

theorem State.stops_takeNumber (s : State) (c : Fin 9) : s.Stops (s.takeNumber c) := by
  unfold State.takeNumber
  split
  · exact (s.stops_setClu c _).trans (State.stir_setWork _ _ _).stops
  · exact .refl s

theorem State.takeNumber_role (s : State) (c d : Fin 9) : (s.takeNumber c).clu[d].role = s.clu[d].role := by
  unfold State.takeNumber
  split
  · show (upd s.clu c _)[d].role = _
    simp only [upd, Fin.getElem_fin, Vector.getElem_set]
    split
    · next h => rw [show c = d from Fin.ext h]
    · rfl
  · rfl

theorem State.stops_stopAll (s : State) : s.Stops s.stopAll :=
  (State.Stops.foldl (fun t c => .ite (t.stops_clusterStop c false) (.refl t)) _ s).trans
    (.foldl (fun t c => .ite (t.stops_takeNumber c) (.refl t)) _ _)

/-- The stops of a list of clusters leave every running one of it STOPPED, and the roles of the others. -/
theorem State.stopping_role (l : List (Fin 9)) (s : State) (d : Fin 9) :
    (l.foldl (fun (t : State) (c : Fin 9) => if t.clu[c].runs then t.clusterStop c false else t) s).clu[d].role
      = if s.clu[d].runs = true ∧ d ∈ l then .stopped else s.clu[d].role := by
  induction l generalizing s with
  | nil => rw [if_neg (by simp), List.foldl_nil]
  | cons c l ih =>
    rw [List.foldl_cons, ih]
    by_cases hc : s.clu[c].runs = true
    · rw [if_pos hc]
      by_cases hcd : c = d
      · subst hcd
        have hstopped : (s.clusterStop c false).clu[c].role = .stopped := by rw [State.clusterStop_role, if_pos rfl]; rfl
        rw [if_neg (fun h => by rw [Cluster.runs, hstopped] at h; exact absurd h.1 (by decide)), hstopped, if_pos ⟨hc, List.mem_cons_self⟩]
      · have hrole : (s.clusterStop c false).clu[d].role = s.clu[d].role := by rw [State.clusterStop_role, if_neg hcd]
        have hruns : (s.clusterStop c false).clu[d].runs = s.clu[d].runs := by rw [Cluster.runs, Cluster.runs, hrole]
        rw [hrole, hruns]
        simp [Ne.symm hcd]
    · rw [if_neg hc]
      by_cases hcd : c = d
      · subst hcd
        rw [if_neg fun h => hc h.1, if_neg fun h => hc h.1]
      · simp [Ne.symm hcd]

theorem State.stopAll_role (s : State) (d : Fin 9) : s.stopAll.clu[d].role = if s.clu[d].runs = true then .stopped else s.clu[d].role := by
  have htaken (l : List (Fin 9)) (t : State) : (l.foldl (fun (t : State) (c : Fin 9) =>
      if t.clu[c].role = .stopped ∧ t.clu[c].work = none then t.takeNumber c else t) t).clu[d].role = t.clu[d].role := by
    induction l generalizing t with
    | nil => rfl
    | cons c l ih =>
      rw [List.foldl_cons, ih]
      split
      · exact t.takeNumber_role c d
      · rfl
  unfold State.stopAll
  rw [htaken, State.stopping_role]
  simp [List.mem_finRange]

theorem State.stops_bistStop (s : State) : s.Stops s.bistStop := by
  unfold State.bistStop
  split
  · exact .refl s
  · next o _ =>
    have hover := s.stops_bist { s.bist with ov := none }
    generalize ({ s with bist := { s.bist with ov := none } } : State) = s1 at hover
    dsimp only
    split
    · split
      · exact hover
      · next sp w _ _ _ =>
        have hspare := hover.trans (s1.stops_clusterStop sp true)
        generalize s1.clusterStop sp true = s2 at hspare
        exact .ite ((hspare.trans (s2.stir_stopPegs w).stops).trans (State.stops_setClu _ _ _)) hspare
      · exact .ite (hover.trans (s1.stops_setClu _ _)) hover
    · exact hover

theorem role_congr {s t : State} (h : t.clu = s.clu) (d : Fin 9) : t.clu[d].role = s.clu[d].role := by rw [h]

theorem State.setClu_role_ne (s : State) {x d : Fin 9} (f : Cluster → Cluster) (h : x ≠ d) : (s.setClu x f).clu[d].role = s.clu[d].role := by
  show (upd s.clu x f)[d].role = _
  simp only [upd, Fin.getElem_fin]
  rw [Vector.getElem_set_ne _ _ (by omega)]

/-- A cluster under test that stops leaves the role of one that is not. -/
theorem State.testedStop_role {t v : State} {d : Fin 9} (hv : v.clu = t.clu) (ht : t.clu[d].role ≠ .testing) (x : Fin 9)
    (f : Cluster → Cluster) : (if t.clu[x].role = .testing then v.setClu x f else t).clu[d].role = t.clu[d].role := by
  split
  · next htest =>
    have hxd : x ≠ d := fun h => ht (h ▸ htest)
    rw [State.setClu_role_ne _ _ hxd, role_congr hv]
  · rfl

/-- The end of an over leaves the role of a cluster that is neither its spare nor under test. -/
theorem State.bistStop_role {s : State} {d : Fin 9} (hsp : ∀ o, s.bist.ov = some o → o.spare ≠ some d) (ht : s.clu[d].role ≠ .testing) :
    s.bistStop.clu[d].role = s.clu[d].role := by
  unfold State.bistStop
  split
  · rfl
  · next o ho =>
    obtain ⟨s1, hs1⟩ : ∃ s1 : State, s1 = { s with bist := { s.bist with ov := none } } := ⟨_, rfl⟩
    have hrole1 : s1.clu[d].role = s.clu[d].role := role_congr (by rw [hs1]) d
    rw [← hs1]
    clear hs1
    dsimp only
    by_cases hu : o.unit < 9
    · rw [dif_pos hu]
      split
      · exact hrole1
      · next sp w hspare _ _ =>
        have hne : sp ≠ d := fun h => hsp o ho (by rw [hspare, h])
        have hrole : (s1.clusterStop sp true).clu[d].role = s.clu[d].role := by rw [State.clusterStop_role, if_neg hne, hrole1]
        exact (State.testedStop_role (State.stir_stopPegs _ w).clu (by rw [hrole]; exact ht) _ _).trans hrole
      · exact (State.testedStop_role rfl (by rw [hrole1]; exact ht) _ _).trans hrole1
    · rw [dif_neg hu, hrole1]

/-! ### The loss of the sync (R64, R75, R77) -/

/-- The wheels of a node whose local state drops to NOSYNC. -/
def State.lostWheels (s : State) (reason : Nat) : Wheels :=
  { s.whl with
    sync := .nosync, bad := none, susp := none, phscr := false, camMis := 0
    ratev := s.whl.m.per.isSome && s.whl.m.prev.isSome && !s.prd.noInst
    coast := s.whl.coast || (decide (s.whl.sync = .full) && true && decide (reason = 2)), tooth := 0, dprev := 0 }

/-- A local state that drops to NOSYNC stirs; the predictor forgets its model, and a gated region counts its angle. -/
theorem State.syncLose_parts {s : State} (hs : s.whl.sync ≠ .nosync) (reason : Nat) : ∃ f u, ({ s with fab := f, whl := s.lostWheels reason } : State).Stir u
    ∧ s.syncLose .nosync reason = u.prdDrop.prdNosync (16 * (s.whl.whl[0].last.getD 0)) s.whl.m.per s.whl.m.prev := by
  refine ⟨(s.captainDrops .nosync).fab, ({ s with fab := (s.captainDrops .nosync).fab, whl := s.lostWheels reason } : State).refollow s.sync
    reason, State.stir_refollow _ s.sync reason, ?_⟩
  have hnot : ¬(s.whl.sync = .nosync ∨ s.whl.sync = .nosync) := by simpa using hs
  unfold State.syncLose
  rw [if_neg hnot]
  rfl

/-- What prdNosync changes beside the predictor: a gated region counts the angle (R36). -/
theorem State.prdNosync_parts (s : State) (n : Nat) (p1 p2 : Option Nat) : ∃ p g hs, s.prdNosync n p1 p2 = { s with prd := p, regs := g, hwSet := hs }
    ∧ (∀ r i j, r.addr i j ≠ Reg.sysGate.addr 0 0 → (s.prdNosync n p1 p2).rg r i j = s.rg r i j) := by
  obtain ⟨v, hv⟩ : ∃ v : State, v = if p1.isSome && p2.isSome && !s.prd.noInst then s.intoMeas id else s := ⟨_, rfl⟩
  have hmeas : (∃ g hs, v = { s with regs := g, hwSet := hs })
      ∧ ∀ r i j, r.addr i j ≠ Reg.sysGate.addr 0 0 → v.rg r i j = s.rg r i j := by
    rw [hv]
    split
    · unfold State.intoMeas
      split
      · exact ⟨⟨s.regs, s.hwSet, rfl⟩, fun _ _ _ _ => rfl⟩
      · exact ⟨⟨_, _, s.bump_frame ..⟩, fun r i j hn => State.bump_rg_ne s _ _ hn⟩
    · exact ⟨⟨s.regs, s.hwSet, rfl⟩, fun _ _ _ _ => rfl⟩
  obtain ⟨⟨g, hs, heq⟩, hr⟩ := hmeas
  unfold State.prdNosync
  dsimp only
  rw [← hv]
  clear hv
  subst heq
  exact ⟨_, g, hs, rfl, fun r i j hn => hr r i j hn⟩

end Sys2Proof.Machine
end

section
/-! SUPPORT. Moves of the device state: SYS_CMD, its two ports, and the entry to STANDBY (R450, R451, R454, R455). -/

namespace Sys2Proof.Machine

/-! ### A safe package stays safe -/

/-- The package is in the safe actuation state as this collector says, its places aside. -/
def State.SafeAs (c : Collector) (t : State) : Prop := (∃ ob kp, t.coll = { c with outbox := ob, kept := kp }) ∧ t.drv.safe = true

theorem State.SafeAs.of_eq {c : Collector} {s t : State} (h : s.SafeAs c) (hc : t.coll = s.coll) (hd : t.drv = s.drv) : t.SafeAs c :=
  ⟨by rw [hc]; exact h.1, by rw [hd]; exact h.2⟩

theorem State.SafeAs.stir {c : Collector} {s t : State} (h : s.SafeAs c) (hs : s.Stir t) : t.SafeAs c := by
  obtain ⟨⟨ob, kp, hc⟩, hd⟩ := h
  obtain ⟨ob', kp', hc'⟩ := hs.coll
  exact ⟨⟨ob', kp', by rw [hc', hc]⟩, hs.drv_safe.trans hd⟩

theorem State.SafeAs.stops {c : Collector} {s t : State} (h : s.SafeAs c) (hs : s.Stops t) : t.SafeAs c := by
  obtain ⟨cl, k, b, hst⟩ := hs
  exact State.SafeAs.stir (s := { s with clu := cl, take := k, bist := b }) h hst

theorem State.pkgSafe_safeAs (s : State) (cause : Collector → Collector) : (s.pkgSafe cause).SafeAs (s.safeColl cause) := by
  obtain ⟨d, hd, hstir⟩ := s.pkgSafe_stirs cause
  exact State.SafeAs.stir (s := { s with coll := s.safeColl cause, drv := d }) ⟨⟨_, _, rfl⟩, hd⟩ hstir

/-- Of a safe package every drive is off. -/
theorem State.SafeAs.quiet {c : Collector} {s : State} (h : s.SafeAs c) : s.settle.pins.quiet = true :=
  State.settle_quiet h.2

/-! ### A host action drops the sync (R76) -/

theorem State.hostDrop_parts (s : State) : ∃ f w u p g hs, ({ s with fab := f, whl := w } : State).Stir u
    ∧ s.hostDrop = { u with prd := p, regs := g, hwSet := hs } ∧ w.sync = .nosync ∧ w.m = s.whl.m
    ∧ ∀ r i j, r.addr i j ≠ Reg.sysGate.addr 0 0 → s.hostDrop.rg r i j = u.rg r i j := by
  by_cases hs : s.whl.sync = .nosync
  · have heq : s.hostDrop = s := if_pos (.inl hs)
    exact ⟨s.fab, s.whl, s, s.prd, s.regs, s.hwSet, .refl s, heq, hs, rfl, fun _ _ _ _ => by rw [heq]⟩
  · obtain ⟨f, u, hstir, hlose⟩ := State.syncLose_parts hs (if s.whl.sync = .provisional then 0xB else 5)
    obtain ⟨p, g, h, hprd, hr⟩ := u.prdDrop.prdNosync_parts (16 * (s.whl.whl[0].last.getD 0)) s.whl.m.per s.whl.m.prev
    have hdrop : s.hostDrop = u.prdDrop.prdNosync (16 * (s.whl.whl[0].last.getD 0)) s.whl.m.per s.whl.m.prev := hlose
    refine ⟨f, s.lostWheels (if s.whl.sync = .provisional then 0xB else 5), u, p, g, h, hstir, ?_, rfl, rfl, fun r i j hn => ?_⟩
    · rw [hdrop, hprd]
      rfl
    · rw [hdrop, hr r i j hn]
      rfl

theorem State.SafeAs.hostDrop {c : Collector} {s : State} (h : s.SafeAs c) : s.hostDrop.SafeAs c := by
  obtain ⟨f, w, u, p, g, hs, hstir, heq, -, -, -⟩ := s.hostDrop_parts
  have hu : u.SafeAs c := State.SafeAs.stir (s := { s with fab := f, whl := w }) h hstir
  exact hu.of_eq (by rw [heq]) (by rw [heq])

theorem State.hostDrop_role (s : State) (d : Fin 9) : s.hostDrop.clu[d].role = s.clu[d].role := by
  obtain ⟨f, w, u, p, g, hs, hstir, heq, -, -, -⟩ := s.hostDrop_parts
  exact role_congr ((congrArg State.clu heq).trans hstir.clu) d

theorem State.hostDrop_ao (s : State) : s.hostDrop.ao = s.ao := by
  obtain ⟨f, w, u, p, g, hs, hstir, heq, -, -, -⟩ := s.hostDrop_parts
  exact (congrArg State.ao heq).trans hstir.ao

/-! ### The entry to STANDBY (R455) -/

/-- The outputs are off, the clusters stopped and the wake logic counts, in the last state but one of the entry. -/
theorem State.standby_stopped (s : State) : ∃ t : State, s.standby = (let s6 := (t.toState .standby).jigHolds.portsCheck
      { s6 with sys := { s6.sys with stbyDone := false, wakeLatch := [] } })
    ∧ t.SafeAs (s.safeColl fun c => { c with cState := true }) ∧ t.ao.counting = true ∧ t.whl.coast = false
    ∧ ∀ c : Fin 9, s.clu[c].role = .active → (∀ o, s.bist.ov = some o → o.spare ≠ some c) → t.clu[c].role = .stopped := by
  refine ⟨_, rfl, ?_⟩
  obtain ⟨d, hd, hstir⟩ := s.pkgSafe_stirs fun c => { c with cState := true }
  have hsafe1 := s.pkgSafe_safeAs fun c => { c with cState := true }
  generalize s.pkgSafe (fun c => { c with cState := true }) = s1 at *
  have hput : ∃ s2 : State, s2 = (if s1.whl.coast = true then s1.scribePut fun r => { r with valid := false } else s1)
      ∧ s2.coll = s1.coll ∧ s2.drv = s1.drv ∧ s2.clu = s1.clu ∧ s2.bist = s1.bist := by
    refine ⟨_, rfl, ?_⟩
    split <;> exact ⟨rfl, rfl, rfl, rfl⟩
  obtain ⟨s2, hs2, hc2, hd2, hcl2, hb2⟩ := hput
  rw [← hs2]
  have hsafe3 : s2.bistStop.stopAll.SafeAs (s.safeColl fun c => { c with cState := true }) :=
    (hsafe1.of_eq hc2 hd2).stops (s2.stops_bistStop.trans (State.stops_stopAll _))
  have hrole3 (c : Fin 9) (ha : s.clu[c].role = .active) (ho : ∀ o, s.bist.ov = some o → o.spare ≠ some c) :
      s2.bistStop.stopAll.clu[c].role = .stopped := by
    have hrole2 : s2.clu[c].role = .active := (role_congr (hcl2.trans hstir.clu) c).trans ha
    have hbist : s2.bistStop.clu[c].role = .active := (State.bistStop_role (fun o h => ho o (by rw [← h, hb2, hstir.bist]))
      (by rw [hrole2]; decide)).trans hrole2
    rw [State.stopAll_role, if_pos (by rw [Cluster.runs, hbist]; rfl)]
  generalize s2.bistStop.stopAll = s3 at hsafe3 hrole3
  obtain ⟨s4, hs4⟩ : ∃ s4 : State, s4 = (let s3' := s3.tmrRetain.setScribe fun r => { r with edges := 0 }
    { s3' with ao := { s3'.ao with counting := true } }) := ⟨_, rfl⟩
  have hsafe4 : s4.SafeAs (s.safeColl fun c => { c with cState := true }) := hsafe3.of_eq (by rw [hs4]; rfl) (by rw [hs4]; rfl)
  have hcount : s4.ao.counting = true := by rw [hs4]
  have hclu : s4.clu = s3.clu := by rw [hs4]; rfl
  dsimp only at hs4 ⊢
  rw [← hs4]
  refine ⟨hsafe4.hostDrop.of_eq rfl rfl, ?_, rfl, fun c ha ho => ?_⟩
  · exact (congrArg AlwaysOn.counting s4.hostDrop_ao).trans hcount
  · exact (s4.hostDrop_role c).trans ((role_congr hclu c).trans (hrole3 c ha ho))

/-- What the entry to STANDBY leaves (R455). -/
theorem State.standby_leaves (s : State) : s.standby.SafeAs (s.safeColl fun c => { c with cState := true })
    ∧ s.standby.sys.st = .standby ∧ s.standby.sys.stbyDone = false ∧ s.standby.ao.counting = true ∧ s.standby.whl.coast = false
    ∧ ∀ c : Fin 9, s.clu[c].role = .active → (∀ o, s.bist.ov = some o → o.spare ≠ some c) → s.standby.clu[c].role = .stopped := by
  obtain ⟨t, heq, hsafe, hcount, hcoast, hrole⟩ := s.standby_stopped
  have hparts := t.toState_parts .standby
  generalize t.toState .standby = t1 at hparts heq
  have hstir : t1.Stir t1.jigHolds.portsCheck := (t1.stir_jigHolds).trans (State.fabFrame_portsCheck _).stir
  generalize t1.jigHolds.portsCheck = u at hstir heq
  obtain ⟨go, va, hwhl⟩ := hstir.whl
  dsimp only at heq
  rw [heq]
  refine ⟨State.SafeAs.of_eq (s := u) ((hsafe.of_eq ?_ ?_).stir hstir) rfl rfl, ?_, rfl, ?_, ?_, fun c ha ho => ?_⟩
  · rw [hparts]
  · rw [hparts]
  · show u.sys.st = _
    rw [hstir.sys, hparts]
  · show u.ao.counting = true
    rw [hstir.ao, hparts]
    exact hcount
  · show u.whl.coast = false
    rw [hwhl, hparts]
    exact hcoast
  · show u.clu[c].role = _
    rw [role_congr hstir.clu, role_congr (congrArg State.clu hparts)]
    exact hrole c ha ho

/-! ### A move that the fabric follows (R450, R355) -/

/-- The fabric of a steady node follows a move of the device state with no comparison of records. -/
theorem State.moved_parts {s : State} {d : DState} (hne : s.sys.st ≠ d) (hfab : s.FabSteady) :
    ∃ f ob kp g hs m, (s.toState d).fabFollow = { s with
        sys := { s.sys with st := d }, fab := f, coll := { s.coll with outbox := ob, kept := kp }, regs := g, hwSet := hs, mnt := m }
      ∧ m.istat = s.mnt.istat ∧ (s.toState d).fabFollow.rb Reg.hostStat 0 0 = true := by
  have hparts := s.toState_parts d
  have hbit := s.toState_stchg hne
  have hcfg : (s.toState d).rg Reg.fabCfg 0 0 = s.rg Reg.fabCfg 0 0 := by
    rw [State.toState, if_neg hne]
    exact State.setRg_rg_ne _ Reg.hostStat Reg.fabCfg 0 0 0 0 _ (by decide)
  have histat : (s.toState d).mnt.istat = s.mnt.istat := by
    rw [State.toState, if_neg hne]
    rfl
  have hsteady : (s.toState d).fabEn = false ∨ (s.toState d).Seated := by
    have hen : (s.toState d).fabEn = s.fabEn := by rw [State.fabEn, State.fabEn, State.rb, State.rb, hcfg]
    have hnode : (s.toState d).nodeId = s.nodeId := by
      rw [State.nodeId, State.nodeId, State.rb, State.rb, State.rf, State.rf, hcfg, congrArg State.sys hparts]
    have hfabric : (s.toState d).fab = s.fab := by rw [hparts]
    rw [hen, State.Seated, hfabric, hnode]
    exact hfab
  have hfollow := State.fabFrame_fabFollow hsteady
  have hstat : (s.toState d).fabFollow.rb Reg.hostStat 0 0 = (s.toState d).rb Reg.hostStat 0 0 := by
    rw [State.rb, State.rb, hfollow.rg (by decide)]
  obtain ⟨⟨f, ob, kp, g, hs, heq⟩, -, -⟩ := hfollow
  refine ⟨f, ob, kp, g, hs, (s.toState d).mnt, ?_, histat, hstat.trans hbit⟩
  rw [heq, hparts]

/-! ### The command (R451) -/

theorem sysCmdWord_toNat (w : BitVec 16) {k : Nat} (h : k < 16) : (sysCmdWord w k).toNat = w.toNat * 65536 + k := by
  have hw := w.isLt
  rw [sysCmdWord, wordN, BitVec.toNat_ofNat]
  omega

theorem sysCmdWord_confirm (w : BitVec 16) {k : Nat} (h : k < 16) : fld (sysCmdWord w k) 31 16 = w.toNat := by
  have hw := w.isLt
  rw [fld, sysCmdWord_toNat w h]
  omega

theorem sysCmdWord_cmd (w : BitVec 16) {k : Nat} (h : k < 16) : fld (sysCmdWord w k) 3 0 = k := by
  rw [fld, sysCmdWord_toNat w h]
  omega

theorem State.sysCmd_unconfirmed (s : State) {w : BitVec 16} (hw : w ≠ 0x5AFE) {k : Nat} (h : k < 16) :
    s.sysCmd (sysCmdWord w k) = (s, .busy) := by
  have hne : w.toNat ≠ 0x5AFE := fun h => hw (BitVec.eq_of_toNat_eq h)
  rw [State.sysCmd, sysCmdWord_confirm w h, if_pos hne]

section
variable {s : State}

/-- RUN from READY, READY from RUN, STANDBY in NOSYNC and RETEST. -/
theorem State.sysCmd_run (h : s.sys.st = .ready) : s.sysCmd (sysCmdWord 0x5AFE 1) = ((s.toState .run).fabFollow, .ok) := by
  rw [State.sysCmd, sysCmdWord_confirm _ (by decide), sysCmdWord_cmd _ (by decide), if_neg (by decide), h]
  rfl

theorem State.sysCmd_ready (h : s.sys.st = .run) : s.sysCmd (sysCmdWord 0x5AFE 2) = ((s.toState .ready).fabFollow.readyMeas, .ok) := by
  rw [State.sysCmd, sysCmdWord_confirm _ (by decide), sysCmdWord_cmd _ (by decide), if_neg (by decide), h]
  rfl

theorem State.sysCmd_standby (h : s.sys.st = .ready ∨ s.sys.st = .sidelines) (hs : s.sync = .nosync) :
    s.sysCmd (sysCmdWord 0x5AFE 3) = (s.standby, .ok) := by
  rw [State.sysCmd, sysCmdWord_confirm _ (by decide), sysCmdWord_cmd _ (by decide), if_neg (by decide)]
  obtain h | h := h
  · rw [h]
    exact if_pos hs
  · rw [h]
    exact if_pos hs

theorem State.sysCmd_retest (h : s.sys.st = .sidelines) : s.sysCmd (sysCmdWord 0x5AFE 4) = (s.retest, .ok) := by
  rw [State.sysCmd, sysCmdWord_confirm _ (by decide), sysCmdWord_cmd _ (by decide), if_neg (by decide), h]
  rfl

/-- The same commands in every other state. -/
theorem State.sysCmd_run_busy (h : s.sys.st ≠ .ready) : s.sysCmd (sysCmdWord 0x5AFE 1) = (s, .busy) := by
  rw [State.sysCmd, sysCmdWord_confirm _ (by decide), sysCmdWord_cmd _ (by decide), if_neg (by decide)]
  cases hst : s.sys.st with
  | ready => exact absurd hst h
  | _ => rfl

theorem State.sysCmd_ready_busy (h : s.sys.st ≠ .run) : s.sysCmd (sysCmdWord 0x5AFE 2) = (s, .busy) := by
  rw [State.sysCmd, sysCmdWord_confirm _ (by decide), sysCmdWord_cmd _ (by decide), if_neg (by decide)]
  cases hst : s.sys.st with
  | run => exact absurd hst h
  | _ => rfl

theorem State.sysCmd_standby_busy (h : (s.sys.st ≠ .ready ∧ s.sys.st ≠ .sidelines) ∨ s.sync ≠ .nosync) :
    s.sysCmd (sysCmdWord 0x5AFE 3) = (s, .busy) := by
  rw [State.sysCmd, sysCmdWord_confirm _ (by decide), sysCmdWord_cmd _ (by decide), if_neg (by decide)]
  obtain ⟨hr, hsl⟩ | hs := h
  · cases hst : s.sys.st with
    | ready => exact absurd hst hr
    | sidelines => exact absurd hst hsl
    | _ => rfl
  · cases s.sys.st with
    | ready => exact if_neg hs
    | sidelines => exact if_neg hs
    | _ => rfl

theorem State.sysCmd_retest_busy (h : s.sys.st ≠ .sidelines) : s.sysCmd (sysCmdWord 0x5AFE 4) = (s, .busy) := by
  rw [State.sysCmd, sysCmdWord_confirm _ (by decide), sysCmdWord_cmd _ (by decide), if_neg (by decide)]
  cases hst : s.sys.st with
  | sidelines => exact absurd hst h
  | _ => rfl

end

/-- The state in which a port's command acts: a STANDBY or RETEST of the maintenance port at the end of its SVCLK (log entry 87). -/
def State.cmdBase (s : State) (p : Fin 2) (v : Word) : State :=
  if p = 1 ∧ (fld v 3 0 = 3 ∨ fld v 3 0 = 4) then s.advanceTo (2 * s.svclk + 1) else s

/-- A command is the first of its SVCLK. -/
def State.CmdFirst (s : State) (p : Fin 2) : Prop :=
  s.cmdBarred = false ∧ (p = 1 → s.sys.cmdAt ≠ some s.svclk) ∧ ∀ x ∈ s.sys.cmdMnt, x.1 ≠ s.svclk

/-- The record of a command that was taken (R451). -/
def State.cmdNoted (s : State) (p : Fin 2) (t : State) : State :=
  if p = 0 then { t with sys := { t.sys with cmdAt := some s.svclk, cmdMnt := none } }
  else { t with sys := { t.sys with cmdMnt := some (s.svclk, s.sys.st) } }

theorem State.sysCommand_first {s : State} {p : Fin 2} (h : s.CmdFirst p) (v : Word) : s.sysCommand (portOf2 p) v
    = if ((s.cmdBase p v).sysCmd v).2 = .ok then (s.cmdNoted p ((s.cmdBase p v).sysCmd v).1, .ok) else (s, ((s.cmdBase p v).sysCmd v).2) := by
  obtain ⟨hbar, hat, hmnt⟩ := h
  have hnot : ¬(s.cmdBarred = true) := by rw [hbar]; decide
  rw [State.sysCommand, if_neg hnot]
  match p, hat with
  | 0, _ =>
    have hport : portOf2 0 ≠ mntP := by decide
    have hbase : s.cmdBase 0 v = s := if_neg fun h => absurd h.1 (by decide)
    rw [if_neg hport, hbase]
    cases hm : s.sys.cmdMnt with
    | none =>
      dsimp only
      rcases s.sysCmd v with ⟨t, st⟩
      cases st <;> rfl
    | some x =>
      have hgives : ((some x).any fun x => decide (x.1 = s.svclk) && s.live) = false := by simp [hmnt x hm]
      rw [hgives]
      dsimp only
      rw [if_neg Bool.false_ne_true]
      rcases s.sysCmd v with ⟨t, st⟩
      cases st <;> rfl
  | 1, hat =>
    have hport : portOf2 1 = mntP := rfl
    rw [if_pos hport, if_neg (hat rfl)]
    have hbase : s.cmdBase 1 v = if fld v 3 0 = 3 ∨ fld v 3 0 = 4 then s.advanceTo (2 * s.svclk + 1) else s := by
      simp [State.cmdBase]
    rw [hbase]
    dsimp only
    generalize (if fld v 3 0 = 3 ∨ fld v 3 0 = 4 then s.advanceTo (2 * s.svclk + 1) else s) = a
    rcases a.sysCmd v with ⟨t, st⟩
    cases st <;> rfl

/-- A command that comes with a barrier, or of the maintenance port behind one of the host, is refused. -/
theorem State.sysCommand_barred {s : State} {p : Fin 2} (h : s.cmdBarred = true ∨ (p = 1 ∧ s.sys.cmdAt = some s.svclk)) (v : Word) :
    s.sysCommand (portOf2 p) v = (s, .busy) := by
  by_cases hbar : s.cmdBarred = true
  · rw [State.sysCommand, if_pos hbar]
  · obtain ⟨rfl, hat⟩ := h.resolve_left hbar
    rw [State.sysCommand, if_neg hbar, if_pos (show portOf2 1 = mntP from rfl), if_pos hat]

/-- A word that no state takes is refused. -/
theorem State.sysCommand_refused {s : State} {p : Fin 2} {v : Word} (h : ∀ t : State, t.sysCmd v = (t, .busy)) :
    s.sysCommand (portOf2 p) v = (s, .busy) := by
  unfold State.sysCommand
  simp only [h]
  split
  · rfl
  · split
    · split <;> rfl
    · rfl

end Sys2Proof.Machine
end

section
/-! PROOFS. The commands of SYS_CMD (R174, R422, R450, R451, R454, R455): the statement O25. -/

open Sys2Proof Sys2Proof.Machine

namespace Sys2Proof.Proofs

theorem addrCheck_sysCmd : addrCheck (Reg.sysCmd.addr 0 0) Reg.sysCmd 0 0 = true := by decide +kernel

section
variable {s : State} {p : Fin 2} (hw : s.Writable p)
include hw

/-- A write of SYS_CMD is the command, answered at its port. -/
theorem sysCmd_written (v : Word) : finish (s.portWrite p Reg.sysCmd.base v 0 false)
    = .next ((s.sysCommand (portOf2 p) v).1.answered p (s.sysCommand (portOf2 p) v).2).settle := by
  have hrow := State.portWrite_row hw addrCheck_sysCmd (by decide) (by decide) (show s.unitOwner Reg.sysCmd 0 = none from rfl) v 0
  have hreg : s.regWrite (portOf2 p) Reg.sysCmd 0 0 v = s.sysCommand (portOf2 p) v := rfl
  rw [hreg] at hrow
  exact congrArg finish hrow

/-- A refused command only answers busy. -/
theorem sysCmd_refused {v : Word} (h : s.sysCommand (portOf2 p) v = (s, .busy)) :
    finish (s.portWrite p Reg.sysCmd.base v 0 false) = .next (s.answered p .busy).settle := by
  rw [sysCmd_written hw, h]

/-- A command that its state takes is noted. -/
theorem sysCmd_taken (hfirst : s.CmdFirst p) {v : Word} {t : State} (h : (s.cmdBase p v).sysCmd v = (t, .ok)) :
    finish (s.portWrite p Reg.sysCmd.base v 0 false) = .next ((s.cmdNoted p t).answered p .ok).settle := by
  rw [sysCmd_written hw, State.sysCommand_first hfirst, h]
  rfl

end

/-- What a command's note leaves, where the command keeps its records. -/
theorem cmdNoted_sys {s t : State} {p : Fin 2} {st : DState} (h : t.sys = { s.sys with st := st }) : (s.cmdNoted p t).sys = { s.sys with
    st := st, cmdAt := if p = 0 then some s.svclk else s.sys.cmdAt, cmdMnt := if p = 0 then none else some (s.svclk, s.sys.st) } := by
  unfold State.cmdNoted
  split
  · rw [h]
  · rw [h]

theorem cmdNoted_parts (s t : State) (p : Fin 2) : s.cmdNoted p t = { t with sys := (s.cmdNoted p t).sys } := by
  unfold State.cmdNoted
  split <;> rfl

/-- A port's answer beside a noted command. -/
theorem noted_answered (s t : State) (p : Fin 2) : ∃ h m q, ((s.cmdNoted p t).answered p .ok).settle
      = { t with sys := (s.cmdNoted p t).sys, host := h, mnt := m, pins := q }
    ∧ ((s.cmdNoted p t).answered p .ok).settle.answer p = .ok := by
  have hnoted := cmdNoted_parts s t p
  have hans := answered_answer (s.cmdNoted p t) p (st := .ok) (by decide)
  generalize s.cmdNoted p t = u at *
  obtain ⟨h, m, heq⟩ := answered_parts u p .ok
  obtain ⟨q, hq⟩ := (u.answered p .ok).settle_parts
  refine ⟨h, m, q, ?_, hans⟩
  rw [hq, heq]
  conv_lhs => rw [hnoted]

section
variable {s : State} {p : Fin 2}

/-- A move between READY and RUN that is taken (R451). -/
theorem taken_moves {d : DState} {u : State} (hst : s.sys.st ≠ d) (hfab : s.FabSteady)
    (hu : u = (s.toState d).fabFollow ∨ u = (s.toState d).fabFollow.readyMeas) :
    ((s.cmdNoted p u).answered p .ok).settle.answer p = .ok
      ∧ ((s.cmdNoted p u).answered p .ok).settle.sys = { s.sys with
          st := d, cmdAt := if p = 0 then some s.svclk else s.sys.cmdAt, cmdMnt := if p = 0 then none else some (s.svclk, s.sys.st) }
      ∧ ((s.cmdNoted p u).answered p .ok).settle.rb Reg.hostStat 0 0 = true
      ∧ ((s.cmdNoted p u).answered p .ok).settle.rb Reg.sysGate 0 0 = u.rb Reg.sysGate 0 0
      ∧ ((s.cmdNoted p u).answered p .ok).settle.clu = s.clu ∧ ((s.cmdNoted p u).answered p .ok).settle.drv = s.drv
      ∧ ((s.cmdNoted p u).answered p .ok).settle.edg = s.edg ∧ ((s.cmdNoted p u).answered p .ok).settle.work = s.work
      ∧ ((s.cmdNoted p u).answered p .ok).settle.mem = s.mem := by
  obtain ⟨f, ob, kp, g, hs, m, heq, -, hstat⟩ := State.moved_parts hst hfab
  generalize (s.toState d).fabFollow = v at *
  have hparts : ∃ ms rg, u = { v with ms := ms, regs := rg } ∧ u.rb Reg.hostStat 0 0 = true := by
    obtain rfl | rfl := hu
    · exact ⟨u.ms, u.regs, rfl, hstat⟩
    · unfold State.readyMeas
      split
      · refine ⟨_, _, v.measUngate_eq, ?_⟩
        have hother : v.measUngate.rg Reg.hostStat 0 0 = v.rg Reg.hostStat 0 0 :=
          State.setRg_rg_ne v Reg.sysGate Reg.hostStat 0 0 0 0 _ (by decide)
        rw [State.rb, hother]
        exact hstat
      · exact ⟨v.ms, v.regs, rfl, hstat⟩
  obtain ⟨ms, rg, hu', hbit⟩ := hparts
  have hsys : u.sys = { s.sys with st := d } := by rw [hu', heq]
  have hnoted := cmdNoted_sys (p := p) hsys
  obtain ⟨h, m', q, hans, hok⟩ := noted_answered s u p
  refine ⟨hok, ?_, ?_, ?_, ?_, ?_, ?_, ?_, ?_⟩
  · rw [hans]
    exact hnoted
  · rw [hans]
    exact hbit
  · rw [hans]
    rfl
  all_goals rw [hans, hu', heq]

end

end Sys2Proof.Proofs
end

section
/-! PROOFS. The statement O25, from the moves of the device state and the entry to STANDBY. -/

open Sys2Proof Sys2Proof.Machine

namespace Sys2Proof.Proofs

section
variable {s : State} {p : Fin 2}

/-- The state in which a command acts differs from the present one in its time alone. -/
theorem cmdBase_parts (s : State) (p : Fin 2) (v : Word) : (s.cmdBase p v).sys = s.sys ∧ (s.cmdBase p v).clu = s.clu ∧ (s.cmdBase p v).bist = s.bist
    ∧ (s.cmdBase p v).mem = s.mem ∧ (s.cmdBase p v).drv = s.drv ∧ (s.cmdBase p v).whl = s.whl ∧ (s.cmdBase p v).fab = s.fab
    ∧ (s.cmdBase p v).rg Reg.fabCfg 0 0 = s.rg Reg.fabCfg 0 0 := by
  unfold State.cmdBase
  split
  · exact ⟨State.advanceTo_sys .., State.advanceTo_clu .., State.advanceTo_bist .., State.advanceTo_mem .., State.advanceTo_drv ..,
      State.advanceTo_whl .., State.advanceTo_fab .., State.advanceTo_rg _ _ _ _ _ (by decide)⟩
  · exact ⟨rfl, rfl, rfl, rfl, rfl, rfl, rfl, rfl⟩

theorem cmdBase_now {v : Word} (h : fld v 3 0 ≠ 3 ∧ fld v 3 0 ≠ 4) : s.cmdBase p v = s :=
  if_neg fun hc => hc.2.elim h.1 h.2

theorem cmdBase_sync (s : State) (p : Fin 2) (v : Word) : (s.cmdBase p v).sync = s.sync := by
  obtain ⟨-, -, -, -, -, hwhl, hfab, hcfg⟩ := cmdBase_parts s p v
  unfold State.sync State.rb
  rw [hwhl, hfab, hcfg]

theorem cmdBase_steady (v : Word) (h : s.FabSteady) : (s.cmdBase p v).FabSteady := by
  obtain ⟨hsys, -, -, -, -, -, hfab, hcfg⟩ := cmdBase_parts s p v
  have hen : (s.cmdBase p v).fabEn = s.fabEn := by rw [State.fabEn, State.fabEn, State.rb, State.rb, hcfg]
  have hnode : (s.cmdBase p v).nodeId = s.nodeId := by
    rw [State.nodeId, State.nodeId, State.rb, State.rb, State.rf, State.rf, hcfg, hsys]
  unfold State.FabSteady
  rw [hen, hfab, hnode]
  exact h

variable (hw : s.Writable p)
include hw

theorem sysRun_moves (hfab : s.FabSteady) (hst : s.sys.st = .ready) (hfirst : s.CmdFirst p) : ∃ t, exec (.sysRun p 0x5AFE) s = .next t
    ∧ t.answer p = .ok
    ∧ t.sys = { s.sys with
        st := .run, cmdAt := if p = 0 then some s.svclk else s.sys.cmdAt, cmdMnt := if p = 0 then none else some (s.svclk, s.sys.st) }
    ∧ t.rb Reg.hostStat 0 0 = true ∧ t.clu = s.clu ∧ t.drv = s.drv ∧ t.edg = s.edg ∧ t.work = s.work ∧ t.mem = s.mem := by
  have hbase : s.cmdBase p (sysCmdWord 0x5AFE 1) = s := cmdBase_now (by rw [sysCmdWord_cmd _ (by decide)]; decide)
  have hexec := sysCmd_taken hw hfirst (v := sysCmdWord 0x5AFE 1) (by rw [hbase]; exact State.sysCmd_run hst)
  obtain ⟨hok, hsys, hbit, -, hrest⟩ := taken_moves (p := p) (d := .run) (by rw [hst]; decide) hfab (.inl rfl)
  exact ⟨_, hexec, hok, hsys, hbit, hrest⟩

theorem sysReady_moves (hfab : s.FabSteady) (hst : s.sys.st = .run) (hfirst : s.CmdFirst p) : ∃ t, exec (.sysReady p 0x5AFE) s = .next t
    ∧ t.answer p = .ok
    ∧ t.sys = { s.sys with
        st := .ready, cmdAt := if p = 0 then some s.svclk else s.sys.cmdAt, cmdMnt := if p = 0 then none else some (s.svclk, s.sys.st) }
    ∧ t.rb Reg.sysGate 0 0 = false
    ∧ t.rb Reg.hostStat 0 0 = true ∧ t.clu = s.clu ∧ t.drv = s.drv ∧ t.edg = s.edg ∧ t.work = s.work ∧ t.mem = s.mem := by
  have hbase : s.cmdBase p (sysCmdWord 0x5AFE 2) = s := cmdBase_now (by rw [sysCmdWord_cmd _ (by decide)]; decide)
  have hexec := sysCmd_taken hw hfirst (v := sysCmdWord 0x5AFE 2) (by rw [hbase]; exact State.sysCmd_ready hst)
  obtain ⟨hok, hsys, hbit, hgate, hrest⟩ := taken_moves (p := p) (d := .ready) (by rw [hst]; decide) hfab (.inr rfl)
  have hungated (t : State) : t.readyMeas.rb Reg.sysGate 0 0 = false := by
    unfold State.readyMeas
    split
    · exact t.measUngate_rb
    · next h => simpa using h
  exact ⟨_, hexec, hok, hsys, hgate.trans (hungated _), hbit, hrest⟩

theorem sysRetest_begins (hfab : s.FabSteady) (hst : s.sys.st = .sidelines) (hfirst : s.CmdFirst p) :
    ∃ t, exec (.sysRetest p 0x5AFE) s = .next t ∧ t.answer p = .ok ∧ t.sys.st = .selftest
      ∧ t.sys.stDone = false ∧ t.trc.init = false ∧ t.trc.initMb = 0 ∧ t.mem = s.mem ∧ t.drv = s.drv := by
  obtain ⟨hsys, -, -, hmem, hdrv, -, -, -⟩ := cmdBase_parts s p (sysCmdWord 0x5AFE 4)
  have hsteady := cmdBase_steady (p := p) (sysCmdWord 0x5AFE 4) hfab
  have hexec := sysCmd_taken hw hfirst (v := sysCmdWord 0x5AFE 4) (State.sysCmd_retest (by rw [hsys]; exact hst))
  generalize s.cmdBase p (sysCmdWord 0x5AFE 4) = a at *
  obtain ⟨f, ob, kp, g, hs, m, heq, -, -⟩ := State.moved_parts (s := a) (d := .selftest) (by rw [hsys, hst]; decide) hsteady
  have hretest : a.retest = { (a.toState .selftest).fabFollow with
      sys := { (a.toState .selftest).fabFollow.sys with stBits := 0, stDone := false, stWake := false, wakeRun := false }
      trc := { (a.toState .selftest).fabFollow.trc with init := false, initMb := 0, memOk := true } } := rfl
  rw [heq] at hretest
  obtain ⟨h, m', q, hans, hok⟩ := noted_answered s a.retest p
  have hnoted : (s.cmdNoted p a.retest).sys.st = .selftest ∧ (s.cmdNoted p a.retest).sys.stDone = false := by
    rw [hretest]
    unfold State.cmdNoted
    split <;> exact ⟨rfl, rfl⟩
  refine ⟨_, hexec, hok, ?_⟩
  rw [hans]
  refine ⟨hnoted.1, hnoted.2, ?_⟩
  rw [hretest]
  exact ⟨rfl, rfl, hmem, hdrv⟩

theorem sysStandby_begins (hst : s.sys.st = .ready ∨ s.sys.st = .sidelines) (hsync : s.sync = .nosync) (hfirst : s.CmdFirst p) :
    ∃ t, exec (.sysStandby p 0x5AFE) s = .next t
      ∧ t.answer p = .ok ∧ t.sys.st = .standby ∧ t.sys.stbyDone = false ∧ t.coll.safe = true ∧ t.coll.cState = true
      ∧ t.drv.safe = true ∧ t.pins.quiet = true ∧ t.pins.safeA = true ∧ t.pins.safeB = true ∧ t.ao.counting = true
      ∧ t.whl.coast = false
      ∧ ∀ c : Fin 9, s.clu[c].role = .active → (∀ o, s.bist.ov = some o → o.spare ≠ some c) → t.clu[c].role = .stopped := by
  obtain ⟨hsys, hclu, hbist, -, -, -, -, -⟩ := cmdBase_parts s p (sysCmdWord 0x5AFE 3)
  have hexec := sysCmd_taken hw hfirst (v := sysCmdWord 0x5AFE 3) (State.sysCmd_standby (by rw [hsys]; exact hst)
    (by rw [cmdBase_sync]; exact hsync))
  generalize s.cmdBase p (sysCmdWord 0x5AFE 3) = a at *
  obtain ⟨hsafe, hstate, hdone, hcount, hcoast, hrole⟩ := a.standby_leaves
  have hcollector : (a.safeColl fun c => { c with cState := true }).safe = true ∧ (a.safeColl fun c => { c with cState := true }).cState = true
      ∧ (a.safeColl fun c => { c with cState := true }).lineA = true ∧ (a.safeColl fun c => { c with cState := true }).lineB = true :=
    ⟨rfl, rfl, rfl, rfl⟩
  generalize (a.safeColl fun c => { c with cState := true }) = co at *
  generalize a.standby = b at *
  have hnoted : (s.cmdNoted p b).sys.st = .standby ∧ (s.cmdNoted p b).sys.stbyDone = false := by
    unfold State.cmdNoted
    split <;> exact ⟨hstate, hdone⟩
  obtain ⟨h, m, q, hans, hok⟩ := noted_answered s b p
  generalize hu : (s.cmdNoted p b).answered p .ok = u at *
  have hset : u.settle = { u with pins := u.pinsOf } := rfl
  have hucoll : u.coll = b.coll := by rw [← State.settle_coll u, hans]
  have hudrv : u.drv = b.drv := by rw [← State.settle_drv u, hans]
  have husafe : u.SafeAs co := hsafe.of_eq hucoll hudrv
  obtain ⟨⟨ob, kp, hco⟩, hdrv⟩ := hsafe
  refine ⟨_, hexec, hok, ?_, ?_, ?_, ?_, ?_, husafe.quiet, ?_, ?_, ?_, ?_, fun c ha ho => ?_⟩
  · rw [hans]
    exact hnoted.1
  · rw [hans]
    exact hnoted.2
  · show u.coll.safe = true
    rw [hucoll, hco]
    exact hcollector.1
  · show u.coll.cState = true
    rw [hucoll, hco]
    exact hcollector.2.1
  · rw [hans]
    exact hdrv
  · show u.coll.lineA = true
    rw [hucoll, hco]
    exact hcollector.2.2.1
  · show u.coll.lineB = true
    rw [hucoll, hco]
    exact hcollector.2.2.2
  · rw [hans]
    exact hcount
  · rw [hans]
    exact hcoast
  · rw [hans]
    exact hrole c (by rw [hclu]; exact ha) fun o h => ho o (by rw [← hbist]; exact h)

end

/-- A RUN of the maintenance port gives way to the host's of its SVCLK (log entry 87). -/
theorem sysRun_overtakes {s : State} (hw : s.Writable 0) (hfab : s.FabSteady) (hbar : s.cmdBarred = false) (hst : s.sys.st = .run)
    (hmnt : s.sys.cmdMnt = some (s.svclk, .ready)) : ∃ t, exec (.sysRun 0 0x5AFE) s = .next t ∧ t.answer 0 = .ok ∧ t.answer 1 = .busy
      ∧ t.sys = { s.sys with st := .run, cmdAt := some s.svclk, cmdMnt := none } := by
  obtain ⟨b, hb⟩ : ∃ b : State, b = { s.setDState .ready with mnt := { s.mnt with istat := .busy } } := ⟨_, rfl⟩
  have hready : b.sys.st = .ready := by rw [hb]; rfl
  have hcommand : s.sysCommand (portOf2 0) (sysCmdWord 0x5AFE 1) = ({ (b.toState .run).fabFollow with
      sys := { (b.toState .run).fabFollow.sys with cmdAt := some s.svclk, cmdMnt := none } }, .ok) := by
    have hnot : ¬(s.cmdBarred = true) := by rw [hbar]; decide
    have hport : portOf2 0 ≠ mntP := by decide
    have hgives : ((some (s.svclk, DState.ready)).any fun x => decide (x.1 = s.svclk) && s.live) = true := by
      simp [State.live, hst]
    rw [State.sysCommand, if_neg hnot, if_neg hport, hmnt, hgives]
    dsimp only
    rw [if_pos rfl, ← hb, State.sysCmd_run hready]
  have hexec : exec (.sysRun 0 0x5AFE) s = _ := sysCmd_written hw (sysCmdWord 0x5AFE 1)
  rw [hcommand] at hexec
  obtain ⟨f, ob, kp, g, hs, m, heq, histat, -⟩ := State.moved_parts (s := b) (d := .run) (by rw [hready]; decide) (by rw [hb]; exact hfab)
  refine ⟨_, hexec, answered_answer _ 0 (st := .ok) (by decide), ?_, ?_⟩
  · have hm : (b.toState .run).fabFollow.mnt = m := by rw [heq]
    show (b.toState .run).fabFollow.mnt.istat = .busy
    rw [hm, histat, hb]
  · show ({ (b.toState .run).fabFollow.sys with cmdAt := some s.svclk, cmdMnt := none } : Sys) = _
    rw [heq, hb]
    rfl

/-- Settles O25: the command by the state it finds, its barriers, and what each move leaves. -/
theorem systemCommands : Obligations.SystemCommands := by
  unfold Obligations.SystemCommands
  intro s p w hw hfab
  dsimp only
  have hrefused {k : Nat} (hk : k < 16) (hne : w ≠ 0x5AFE) :=
    sysCmd_refused hw (State.sysCommand_refused (s := s) (p := p) fun t => t.sysCmd_unconfirmed hne hk)
  have hbusy {v : Word} (hfirst : s.CmdFirst p) (h : (s.cmdBase p v).sysCmd v = (s.cmdBase p v, .busy)) :
      finish (s.portWrite p Reg.sysCmd.base v 0 false) = .next (s.answered p .busy).settle :=
    sysCmd_refused hw (by rw [State.sysCommand_first hfirst, h]; rfl)
  have hsame (v : Word) : (s.cmdBase p v).sys.st = s.sys.st := by rw [(cmdBase_parts s p v).1]
  refine ⟨fun hst hfirst => sysRun_moves hw hfab hst hfirst, fun hst hfirst => sysReady_moves hw hfab hst hfirst,
    fun hst hfirst => sysRetest_begins hw hfab hst hfirst, fun hst hsync hfirst => sysStandby_begins hw hst hsync hfirst,
    fun h => ?_, fun h => ?_, fun h => ?_, fun h => ?_, fun h => ?_, fun hp hbar hst hmnt => ?_⟩
  · by_cases hword : w = 0x5AFE
    · obtain ⟨hst, hfirst⟩ := h.resolve_left (not_not.2 hword)
      rw [hword]
      exact hbusy hfirst (State.sysCmd_run_busy (by rw [hsame]; exact hst))
    · exact hrefused (by decide) hword
  · by_cases hword : w = 0x5AFE
    · obtain ⟨hst, hfirst⟩ := h.resolve_left (not_not.2 hword)
      rw [hword]
      exact hbusy hfirst (State.sysCmd_ready_busy (by rw [hsame]; exact hst))
    · exact hrefused (by decide) hword
  · by_cases hword : w = 0x5AFE
    · obtain ⟨hst, hfirst⟩ := h.resolve_left (not_not.2 hword)
      rw [hword]
      exact hbusy hfirst (State.sysCmd_retest_busy (by rw [hsame]; exact hst))
    · exact hrefused (by decide) hword
  · by_cases hword : w = 0x5AFE
    · obtain ⟨hst, hfirst⟩ := h.resolve_left (not_not.2 hword)
      rw [hword]
      exact hbusy hfirst (State.sysCmd_standby_busy (by rw [hsame, cmdBase_sync]; exact hst))
    · exact hrefused (by decide) hword
  · have hbarred (v : Word) := sysCmd_refused hw (State.sysCommand_barred h v)
    exact ⟨hbarred _, hbarred _, hbarred _, hbarred _⟩
  · subst hp
    exact sysRun_overtakes hw hfab hbar hst hmnt

end Sys2Proof.Proofs
end

section
/-! SUPPORT. Edges of the cam wheels and the phase they decide: the words read, the wheels' parts that stand, the drop to TOOTH, and the
messages that outlast it (R57, R66, R67). -/

namespace Sys2Proof.Machine

/-! ### Messages and checked words -/

/-- A message that waits goes on waiting while its source's places stand. -/
theorem State.Emits.kept {s u t : State} {cls kind src ctx : Nat} (h : s.Emits u cls kind src ctx) (hb : u.KeepsBox src t)
    (hn : u.now ≤ t.now) : s.Emits t cls kind src ctx := by
  intro hfree
  obtain ⟨m, hm, hcls, hkind, hsrc, hctx, hat, hto⟩ := h hfree
  have hmem : m ∈ t.coll.outbox.filter (·.src = src) := by
    rw [hb.outbox]
    exact List.mem_filter.2 ⟨hm, by simpa using hsrc⟩
  exact ⟨m, (List.mem_filter.1 hmem).1, hcls, hkind, hsrc, hctx, hat, hto.trans hn⟩

/-- The second state differs from the first by emitted messages only. -/
def State.MsgFrame (s t : State) : Prop :=
  (∃ co l g h, t = { s with coll := co, links := l, regs := g, hwSet := h })
    ∧ ∀ r i j, r.addr i j ≠ Reg.fltStat.addr 0 0 → t.rg r i j = s.rg r i j

theorem State.MsgFrame.refl (s : State) : s.MsgFrame s := ⟨⟨_, _, _, _, rfl⟩, fun _ _ _ _ => rfl⟩

theorem State.MsgFrame.trans {s t u : State} (h : s.MsgFrame t) (h' : t.MsgFrame u) : s.MsgFrame u := by
  obtain ⟨⟨co, l, g, hs, ht⟩, hr⟩ := h
  obtain ⟨⟨co', l', g', hs', hu⟩, hr'⟩ := h'
  exact ⟨⟨co', l', g', hs', by rw [hu, ht]⟩, fun r i j hn => (hr' r i j hn).trans (hr r i j hn)⟩

theorem State.msgFrame_emit (s : State) (cls kind src ctx : Nat) : s.MsgFrame (s.emit cls kind src ctx) :=
  ⟨s.emit_parts cls kind src ctx, fun _ _ _ hn => s.emit_rg_ne cls kind src ctx hn⟩

theorem State.msgFrame_checkedAt (s : State) (a : Nat) (found : Fin 3) : s.MsgFrame (s.checkedAt a found).1 := by
  unfold State.checkedAt
  split
  · unfold State.checkWord
    split
    · exact .refl s
    · exact s.msgFrame_emit ..
    · exact s.msgFrame_emit ..
  · exact .refl s

/-- The reading of a wheel's pattern words brings their messages alone. -/
theorem State.msgFrame_patWords (s : State) (n : Fin 3) : s.MsgFrame (s.patWords n) := by
  unfold State.patWords
  induction List.range (s.patN n) generalizing s with
  | nil => exact .refl s
  | cons p l ih => exact (s.msgFrame_checkedAt _ _).trans (ih _)

section
variable {s t : State} (h : s.MsgFrame t)
include h

theorem State.MsgFrame.whl : t.whl = s.whl := by obtain ⟨⟨_, _, _, _, ht⟩, -⟩ := h; rw [ht]
theorem State.MsgFrame.prd : t.prd = s.prd := by obtain ⟨⟨_, _, _, _, ht⟩, -⟩ := h; rw [ht]
theorem State.MsgFrame.mem : t.mem = s.mem := by obtain ⟨⟨_, _, _, _, ht⟩, -⟩ := h; rw [ht]
theorem State.MsgFrame.now : t.now = s.now := by obtain ⟨⟨_, _, _, _, ht⟩, -⟩ := h; rw [ht]
theorem State.MsgFrame.segAt (n : Nat) : t.segAt n = s.segAt n := by rw [State.segAt, State.segAt, h.prd]

end

/-! ### What a judged edge leaves of the wheels -/

/-- The wheel inputs, the position, the memory and the time stand. -/
def State.KeepsTeeth (s t : State) : Prop := t.whl.whl = s.whl.whl ∧ t.whl.pos = s.whl.pos ∧ t.mem = s.mem ∧ t.now = s.now

theorem State.KeepsTeeth.trans {s t u : State} (h : s.KeepsTeeth t) (h' : t.KeepsTeeth u) : s.KeepsTeeth u :=
  ⟨h'.1.trans h.1, h'.2.1.trans h.2.1, h'.2.2.1.trans h.2.2.1, h'.2.2.2.trans h.2.2.2⟩

theorem State.KeepsTeeth.refl (s : State) : s.KeepsTeeth s := ⟨rfl, rfl, rfl, rfl⟩

theorem State.Stir.keepsTeeth {s t : State} (h : s.Stir t) : s.KeepsTeeth t := by
  obtain ⟨go, va, hw⟩ := h.whl
  exact ⟨by rw [hw], by rw [hw], h.mem, h.now⟩

theorem State.Stir.sync {s t : State} (h : s.Stir t) : t.whl.sync = s.whl.sync := by
  obtain ⟨go, va, hw⟩ := h.whl
  rw [hw]

theorem State.MsgFrame.keepsTeeth {s t : State} (h : s.MsgFrame t) : s.KeepsTeeth t := ⟨by rw [h.whl], by rw [h.whl], h.mem, h.now⟩

/-- A local state that drops from FULL to TOOTH stirs, and its revolution is not learned (R75). -/
theorem State.syncLose_tooth {s : State} (hs : s.whl.sync = .full) (reason : Nat) : ∃ f u,
    ({ s with fab := f, whl := { s.whl with sync := .tooth, phscr := false, camMis := 0 } } : State).Stir u
    ∧ s.syncLose .tooth reason = u.spoilLearn := by
  refine ⟨(s.captainDrops .tooth).fab, ({ s.captainDrops .tooth with
    whl := { s.whl with sync := .tooth, phscr := false, camMis := 0 } } : State).refollow s.sync reason, State.stir_refollow _ _ _, ?_⟩
  unfold State.syncLose
  rw [if_neg (by simp [hs])]
  rfl

theorem State.keepsTeeth_syncLose_tooth {s : State} (hs : s.whl.sync = .full) (reason : Nat) : s.KeepsTeeth (s.syncLose .tooth reason) := by
  obtain ⟨f, u, hst, heq⟩ := State.syncLose_tooth hs reason
  obtain ⟨h1, h2, h3, h4⟩ := hst.keepsTeeth
  rw [heq]
  exact ⟨h1, h2, h3, h4⟩

theorem State.keepsBox_syncLose_tooth {s : State} (hs : s.whl.sync = .full) (reason : Nat) {src : Nat} (hq : src ∈ quietSrcs) :
    s.KeepsBox src (s.syncLose .tooth reason) := by
  obtain ⟨f, u, hst, heq⟩ := State.syncLose_tooth hs reason
  have hu : s.KeepsBox src u := hst.2.2 src hq
  rw [heq]
  exact hu

/-- A local state rises with the wheels' teeth as they are (R64). -/
theorem State.syncGain_full (s : State) : s.KeepsTeeth (s.syncGain .full) ∧ (s.syncGain .full).whl.sync = .full
    ∧ (s.syncGain .full).whl.half = s.whl.half := by
  obtain ⟨v, hv⟩ : ∃ v : State, v = ({ s with whl := { s.whl with sync := .full }, prd := { s.prd with abar := 0 } } : State).setBit Reg.whlEvt 0 8 :=
    ⟨_, rfl⟩
  have hgain : s.syncGain .full = v.refollow s.sync 0 := by rw [hv]; rfl
  rw [hgain]
  have hstir : v.Stir (v.refollow s.sync 0) := v.stir_refollow ..
  obtain ⟨go, va, hw⟩ := hstir.whl
  have hvw : v.whl = { s.whl with sync := .full } := by rw [hv]; rfl
  have hvm : v.mem = s.mem := by rw [hv]; rfl
  have hvn : v.now = s.now := by rw [hv]; rfl
  exact ⟨⟨by rw [hw, hvw], by rw [hw, hvw], hstir.mem.trans hvm, hstir.now.trans hvn⟩, by rw [hw, hvw], by rw [hw, hvw]⟩

/-! ### The comparison of an edge in FULL (R67, R84) -/

section
variable {s : State} {n : Fin 3} {x : Int} {half : Option Bool}

/-- The wheels after an edge that fits the pattern or does not, and its message. -/
def State.camCounted (s : State) (n : Fin 3) (fits : Bool) : State :=
  (if fits then s else (s.setBit Reg.whlEvt 0 6).emit 1 Kind.camMismatch (srcW n.val) 0).setWhl fun w =>
    { w with camMis := if fits then 0 else s.whl.camMis + 1 }

theorem State.camCounted_parts (s : State) (n : Fin 3) (fits : Bool) : s.KeepsTeeth (s.camCounted n fits)
    ∧ (s.camCounted n fits).whl = { s.whl with camMis := if fits then 0 else s.whl.camMis + 1 } := by
  cases fits with
  | true => exact ⟨.refl _, rfl⟩
  | false =>
    have hf := (s.setBit Reg.whlEvt 0 6).msgFrame_emit 1 Kind.camMismatch (srcW n.val) 0
    have hw : (s.camCounted n false).whl = { s.whl with camMis := s.whl.camMis + 1 } :=
      congrArg (fun w : Wheels => { w with camMis := s.whl.camMis + 1 }) hf.whl
    exact ⟨⟨by rw [hw], by rw [hw], hf.mem, hf.now⟩, hw⟩

/-- An edge at a pattern entry: the count of mismatches begins anew. -/
theorem State.camCompare_near (hs : s.whl.sync = .full) (hp : s.whl.phscr = false)
    (hfit : (s.camEntries n).any (fun a => decide (((wrapHalf s.cyc256 (x - 256 * (a : Int))).natAbs : Int) ≤ s.camTol)) = true) :
    (s.camCompare n x half).whl.sync = .full ∧ (s.camCompare n x half).whl.camMis = 0 := by
  have heq : s.camCompare n x half = s.setWhl fun w => { w with camMis := 0, phscr := w.phscr && half.isNone } := by
    unfold State.camCompare
    dsimp only
    rw [hfit]
    simp only [if_true, State.setWhl, hp, Bool.false_and, Bool.false_eq_true, if_false]
    rw [if_neg (by omega)]
  rw [heq]
  exact ⟨hs, rfl⟩

/-- A comparison counts, and then drops the sync, or changes PHSCR alone. -/
theorem State.camCompare_cases {fits : Bool}
    (hfit : (s.camEntries n).any (fun a => decide (((wrapHalf s.cyc256 (x - 256 * (a : Int))).natAbs : Int) ≤ s.camTol)) = fits) :
    s.camCompare n x half = (s.camCounted n fits).syncLose .tooth 7
      ∨ ∃ b, s.camCompare n x half = ((s.camCounted n fits).setWhl fun w => { w with phscr := b }).syncLose .tooth 6
        ∨ s.camCompare n x half = (s.camCounted n fits).setWhl fun w => { w with phscr := b } := by
  unfold State.camCompare
  dsimp only
  rw [hfit]
  by_cases hp : (s.whl.phscr && decide (half = some (!s.whl.half))) = true
  · exact .inl (if_pos hp)
  · refine .inr ⟨(s.camCounted n fits).whl.phscr && half.isNone, ?_⟩
    by_cases hk : max 1 (s.rf Reg.whlSyncCfg 0 19 16) ≤ if fits then 0 else s.whl.camMis + 1
    · exact .inl ((if_neg hp).trans (if_pos hk))
    · exact .inr ((if_neg hp).trans (if_neg hk))

/-- What a comparison leaves of the wheels, and of a message about the wheel. -/
theorem State.camCompare_parts (hs : s.whl.sync = .full) {fits : Bool}
    (hfit : (s.camEntries n).any (fun a => decide (((wrapHalf s.cyc256 (x - 256 * (a : Int))).natAbs : Int) ≤ s.camTol)) = fits) :
    (s.camCounted n fits).KeepsTeeth (s.camCompare n x half)
    ∧ ∀ src ∈ quietSrcs, (s.camCounted n fits).KeepsBox src (s.camCompare n x half) := by
  have hsync : (s.camCounted n fits).whl.sync = .full := by rw [(s.camCounted_parts n fits).2]; exact hs
  have hcases := State.camCompare_cases (half := half) hfit
  generalize s.camCounted n fits = v at hsync hcases
  rcases hcases with h | ⟨b, h | h⟩
  · rw [h]
    exact ⟨State.keepsTeeth_syncLose_tooth hsync 7, fun src hq => State.keepsBox_syncLose_tooth hsync 7 hq⟩
  · rw [h]
    exact ⟨(State.KeepsTeeth.refl v).trans (State.keepsTeeth_syncLose_tooth (s := v.setWhl fun w => { w with phscr := b }) hsync 6),
      fun src hq => State.keepsBox_syncLose_tooth (s := v.setWhl fun w => { w with phscr := b }) hsync 6 hq⟩
  · rw [h]
    exact ⟨.refl v, fun _ _ => rfl⟩

theorem srcW_quiet : ∀ n : Fin 3, srcW n.val ∈ quietSrcs := by decide

/-- An edge at no pattern entry is reported. -/
theorem State.camCompare_far (hs : s.whl.sync = .full)
    (hfit : (s.camEntries n).any (fun a => decide (((wrapHalf s.cyc256 (x - 256 * (a : Int))).natAbs : Int) ≤ s.camTol)) = false) :
    s.Emits (s.camCompare n x half) 1 0x1C (srcC 0 9 n.val) 0 := by
  obtain ⟨⟨-, -, -, hnow⟩, hbox⟩ := State.camCompare_parts (half := half) hs hfit
  have hemit : s.Emits ((s.setBit Reg.whlEvt 0 6).emit 1 Kind.camMismatch (srcW n.val) 0) 1 0x1C (srcC 0 9 n.val) 0 :=
    State.emits_emit (u := s.setBit Reg.whlEvt 0 6) rfl (Nat.le_refl _) (fun _ h => h)
      (Nat.le_of_eq ((s.setBit Reg.whlEvt 0 6).msgFrame_emit ..).now.symm)
  have hfirst : s.Emits (s.camCounted n false) 1 0x1C (srcC 0 9 n.val) 0 := hemit
  exact State.Emits.kept hfirst (hbox _ (srcW_quiet n)) (Nat.le_of_eq hnow.symm)

end

end Sys2Proof.Machine
end

section
/-! SUPPORT. What CAM_EDGE and AUX_EDGE do with an edge that they take (R53, R55, R56, R66, R67, R84). -/

namespace Sys2Proof.Machine

/-- A cam edge has been taken: time stands at it, with its level, its direction and its period. -/
def State.camTaken (s0 : State) (n : Fin 3) (ts : Nat) (lvl : Bool) : State :=
  let s1 := ((s0.advanceTo (ts + s0.fltOf n + 8)).caughtUp).phaseLevel n lvl
  s1.setWhl fun w => { w with whl := upd w.whl n fun y => y.edge ts (s1.edgeRev n) }

/-- The HALF that an edge of the phase source finds, under the segment that holds it. -/
def State.halfFound (s : State) (n : Fin 3) (ts : Nat) (g : Seg) : Option Bool :=
  let x := s.segAng g (16 * ts)
  if s.rb Reg.whlSyncCfg 0 0 then (s.camHalf n x).map fun _ => false
  else (s.camHalf n x).map (s.carryHalf (wrapHalf s.cyc256 (x - ((s.prd.seg).getD g).θ)))

/-- FULL is entered with a HALF, by an edge of the phase source. -/
def State.phaseGain (s : State) (h : Bool) : State :=
  ((if h = s.whl.half then s else s.prdTurn).setWhl fun w => { w with half := h, coastHalf := h, camMis := 0 }).syncGain .full

section
variable {s0 : State} {n : Fin 3} {ts : Nat} (hrun : s0.wheelsRun = true) (hen : s0.rb Reg.whlxCfg n 0 = true)
  (hts : (s0.whl.whl[n]).after ts = true)
include hrun hen hts

/-- An edge of a wheel that is not the phase source is taken, and no more. -/
theorem State.camEdge_other (lvl : Bool) (hp : (s0.camTaken n ts lvl).phaseWheel ≠ some n) : s0.camEdge n ts lvl = s0.camTaken n ts lvl := by
  have hok : ¬(!s0.wheelsRun || !s0.rb Reg.whlxCfg n 0 || !(s0.whl.whl[n]).after ts) = true := by rw [hrun, hen, hts]; decide
  unfold State.camEdge
  exact (if_neg hok).trans (if_pos hp)

/-- An edge of the phase source is judged by the local state and the segment at its stamp. -/
theorem State.camEdge_phase (lvl : Bool) (hp : (s0.camTaken n ts lvl).phaseWheel = some n) :
    (((s0.camTaken n ts lvl).patWords n).segAt ts = none ∨ ((s0.camTaken n ts lvl).patWords n).whl.sync = .nosync
      ∨ ((s0.camTaken n ts lvl).patWords n).whl.sync = .provisional → s0.camEdge n ts lvl = (s0.camTaken n ts lvl).patWords n)
    ∧ ∀ g, ((s0.camTaken n ts lvl).patWords n).segAt ts = some g →
      (((s0.camTaken n ts lvl).patWords n).whl.sync = .tooth →
        (∀ h, ((s0.camTaken n ts lvl).patWords n).halfFound n ts g = some h →
          s0.camEdge n ts lvl = ((s0.camTaken n ts lvl).patWords n).phaseGain h)
        ∧ (((s0.camTaken n ts lvl).patWords n).halfFound n ts g = none → s0.camEdge n ts lvl = (s0.camTaken n ts lvl).patWords n))
      ∧ (((s0.camTaken n ts lvl).patWords n).whl.sync = .full → s0.camEdge n ts lvl = ((s0.camTaken n ts lvl).patWords n).camCompare n
        (((s0.camTaken n ts lvl).patWords n).segAng g (16 * ts)) (((s0.camTaken n ts lvl).patWords n).halfFound n ts g)) := by
  have hok : ¬(!s0.wheelsRun || !s0.rb Reg.whlxCfg n 0 || !(s0.whl.whl[n]).after ts) = true := by rw [hrun, hen, hts]; decide
  unfold State.camEdge
  rw [if_neg hok]
  unfold State.camTaken at hp ⊢
  dsimp only at hp ⊢
  generalize State.setWhl (State.phaseLevel _ _ _) _ = e at hp ⊢
  rw [if_neg (not_not.2 hp)]
  generalize e.patWords n = d
  refine ⟨fun h => ?_, fun g hg => ⟨fun hs => ⟨fun h hh => ?_, fun hh => ?_⟩, fun hs => ?_⟩⟩
  · cases hg : d.segAt ts with
    | none => rfl
    | some g =>
      rcases h with h | h | h
      · rw [hg] at h
        cases h
      · rw [h]
      · rw [h]
  · unfold State.halfFound at hh
    dsimp only at hh
    rw [hg, hs]
    dsimp only
    rw [hh]
    rfl
  · unfold State.halfFound at hh
    dsimp only at hh
    rw [hg, hs]
    dsimp only
    rw [hh]
  · rw [hg, hs]
    rfl

end

/-- A qualified edge gives an input its stamp, its direction and its period. -/
theorem WheelIn.edge_eq (x : WheelIn) (ts : Nat) (rev : Bool) : x.edge ts rev = { x with
    last := some ts, dir := rev, per := x.last.elim x.per fun l => min (ts - l) 0x3FFFFFFF, val := x.val || x.last.isSome } := by
  obtain ⟨last, per, val, dir, cnt, level⟩ := x
  cases last with
  | none => simp [WheelIn.edge]
  | some l => simp [WheelIn.edge]

theorem WheelIn.after_iff (x : WheelIn) (ts : Nat) : x.after ts = true ↔ ∀ l ∈ x.last, l < ts := by
  unfold WheelIn.after
  cases x.last with
  | none => simp
  | some l => simp

/-- The edge has been taken at its time or later, with the memory as it was. -/
theorem State.camTaken_parts (s : State) (n : Fin 3) (ts : Nat) (lvl : Bool) :
    ts + s.fltOf n + 8 ≤ (s.camTaken n ts lvl).now ∧ (s.camTaken n ts lvl).mem = s.mem := by
  obtain ⟨hn, hm, -⟩ := State.letsStand_caughtUp (w := 0) (k := 0) (s.advanceTo (ts + s.fltOf n + 8))
  have hlevel (t : State) : (t.phaseLevel n lvl).now = t.now ∧ (t.phaseLevel n lvl).mem = t.mem := by
    unfold State.phaseLevel
    split <;> exact ⟨rfl, rfl⟩
  have hnow : (s.camTaken n ts lvl).now = (s.advanceTo (ts + s.fltOf n + 8)).now := (hlevel _).1.trans hn
  have hmem : (s.camTaken n ts lvl).mem = (s.advanceTo (ts + s.fltOf n + 8)).mem := (hlevel _).2.trans hm
  rw [hnow, hmem, State.advanceTo_now, State.advanceTo_mem]
  exact ⟨Nat.le_max_right _ _, rfl⟩

/-- FULL is entered with the HALF found, the teeth as they are. -/
theorem State.phaseGain_parts (s : State) (h : Bool) : s.KeepsTeeth (s.phaseGain h) ∧ (s.phaseGain h).whl.sync = .full
    ∧ (s.phaseGain h).whl.half = h := by
  obtain ⟨v, hv⟩ : ∃ v : State, v = (if h = s.whl.half then s else s.prdTurn).setWhl fun w => { w with half := h, coastHalf := h, camMis := 0 } :=
    ⟨_, rfl⟩
  have hkeep : s.KeepsTeeth v ∧ v.whl.half = h := by
    rw [hv]
    split <;> exact ⟨.refl s, rfl⟩
  have heq : s.phaseGain h = v.syncGain .full := by rw [hv]; rfl
  obtain ⟨hk, hsync, hhalf⟩ := v.syncGain_full
  rw [heq]
  exact ⟨hkeep.1.trans hk, hsync, hhalf.trans hkeep.2⟩

end Sys2Proof.Machine
end

section
/-! PROOFS. Edges of the cam wheels and of the AUX inputs, and a cycle without a cam edge: parts of the statement O35. -/

open Sys2Proof Sys2Proof.Machine

namespace Sys2Proof.Proofs

section
variable {s : State} {n : Fin 3} {ts : Nat} {lvl : Bool}

/-- Half a cycle that an edge decides, as the sync's configuration says. -/
theorem halfFound_eq (d : State) (g : Seg) : d.halfFound n ts g = (d.camHalf n (d.segAng g (16 * ts))).map fun h =>
    if d.rb Reg.whlSyncCfg 0 0 then false
    else d.carryHalf (wrapHalf d.cyc256 (d.segAng g (16 * ts) - (d.prd.seg.getD g).θ)) h := by
  unfold State.halfFound
  dsimp only
  cases d.rb Reg.whlSyncCfg 0 0 with
  | true => rfl
  | false => rfl

/-- A judged edge keeps what it has been taken with, and the local state where nothing is decided. -/
theorem camEdge_keeps (hrun : s.wheelsRun = true) (hen : s.rb Reg.whlxCfg n 0 = true) (hts : (s.whl.whl[n]).after ts = true)
    (hp : (s.camTaken n ts lvl).phaseWheel = some n) :
    (s.camTaken n ts lvl).KeepsTeeth (s.camEdge n ts lvl)
    ∧ ((s.camTaken n ts lvl).whl.sync = .nosync ∨ (s.camTaken n ts lvl).whl.sync = .provisional ∨ (s.camTaken n ts lvl).segAt ts = none →
      (s.camEdge n ts lvl).whl.sync = (s.camTaken n ts lvl).whl.sync) := by
  obtain ⟨hstill, hseg⟩ := State.camEdge_phase hrun hen hts lvl hp
  generalize s.camEdge n ts lvl = t at hstill hseg
  have hmsg := (s.camTaken n ts lvl).msgFrame_patWords n
  generalize s.camTaken n ts lvl = e at hstill hseg hmsg
  generalize e.patWords n = d at hstill hseg hmsg
  rw [hmsg.segAt, hmsg.whl] at hstill hseg
  have hteeth := hmsg.keepsTeeth
  refine ⟨?_, fun h => ?_⟩
  · cases hg : e.segAt ts with
    | none => rw [hstill (.inl hg)]; exact hteeth
    | some g =>
      obtain ⟨htooth, hfull⟩ := hseg g hg
      cases hs : e.whl.sync with
      | nosync => rw [hstill (.inr (.inl hs))]; exact hteeth
      | provisional => rw [hstill (.inr (.inr hs))]; exact hteeth
      | tooth =>
        cases hh : d.halfFound n ts g with
        | none => rw [(htooth hs).2 hh]; exact hteeth
        | some h => rw [(htooth hs).1 h hh]; exact hteeth.trans (d.phaseGain_parts h).1
      | full =>
        rw [hfull hs]
        have hds : d.whl.sync = .full := by rw [hmsg.whl]; exact hs
        exact hteeth.trans ((d.camCounted_parts n _).1.trans (State.camCompare_parts hds rfl).1)
  · rw [hstill (by tauto), hmsg.whl]

/-- The phase that a cam edge decides in TOOTH, and its comparison in FULL. -/
theorem camEdge_judges (hrun : s.wheelsRun = true) (hen : s.rb Reg.whlxCfg n 0 = true) (hts : (s.whl.whl[n]).after ts = true)
    (hp : (s.camTaken n ts lvl).phaseWheel = some n) {g : Seg} (hg : (s.camTaken n ts lvl).segAt ts = some g) :
    let e := s.camTaken n ts lvl
    let d := e.patWords n
    let t := s.camEdge n ts lvl
    (e.whl.sync = .tooth → (∀ h ∈ d.halfFound n ts g, t.whl.sync = .full ∧ t.whl.half = h) ∧ (d.halfFound n ts g = none → t.whl.sync = .tooth))
    ∧ (e.whl.sync = .full → (∃ y ∈ d.camEntries n, ((wrapHalf d.cyc256 (d.segAng g (16 * ts) - 256 * (y : Int))).natAbs : Int) ≤ d.camTol) →
      e.whl.phscr = false → t.whl.sync = .full ∧ t.whl.camMis = 0)
    ∧ (e.whl.sync = .full → ¬(∃ y ∈ d.camEntries n, ((wrapHalf d.cyc256 (d.segAng g (16 * ts) - 256 * (y : Int))).natAbs : Int) ≤ d.camTol) →
      d.Emits t 1 0x1C (srcC 0 9 n.val) 0) := by
  dsimp only
  obtain ⟨-, hseg⟩ := State.camEdge_phase hrun hen hts lvl hp
  generalize s.camEdge n ts lvl = t at hseg ⊢
  have hmsg := (s.camTaken n ts lvl).msgFrame_patWords n
  generalize s.camTaken n ts lvl = e at hseg hmsg hg ⊢
  generalize e.patWords n = d at hseg hmsg ⊢
  rw [hmsg.whl] at hseg
  obtain ⟨htooth, hfull⟩ := hseg g ((hmsg.segAt ts).trans hg)
  have hsync (h : e.whl.sync = .full) : d.whl.sync = .full := by rw [hmsg.whl]; exact h
  refine ⟨fun hs => ⟨fun h hh => ?_, fun hh => ?_⟩, fun hs hnear hphscr => ?_, fun hs hfar => ?_⟩
  · rw [(htooth hs).1 h hh]
    exact (d.phaseGain_parts h).2
  · rw [(htooth hs).2 hh, hmsg.whl]
    exact hs
  · rw [hfull hs]
    exact State.camCompare_near (hsync hs) (by rw [hmsg.whl]; exact hphscr) (by simpa using hnear)
  · rw [hfull hs]
    exact State.camCompare_far (hsync hs) (by simpa using hfar)

end

/-- A qualified edge of a cam wheel. -/
theorem cam_edge (s : State) (ts : Nat) (lvl : Bool) (cam : Fin 2) (n : Fin 3) (hc : s.clocked = true) (hl : s.live = true)
    (hv : s.sys.vio[1] = true) (hn : n.val = cam.val + 1) (hen : s.rb Reg.whlxCfg n.val 0 = true) (hts : ∀ l ∈ s.whl.whl[n].last, l < ts) :
    let c := ((s.advanceTo (ts + s.fltOf n + 8)).caughtUp).phaseLevel n lvl
    let x := c.whl.whl[n]
    let e : State := { c with whl := { c.whl with whl := c.whl.whl.set n.val { x with
      last := some ts, dir := c.edgeRev n
      per := (match x.last with | some l => min (ts - l) 0x3FFFFFFF | none => x.per), val := x.val || x.last.isSome } n.isLt } }
    (c.phaseWheel ≠ some n → exec (.camEdge cam ⟨ts, lvl⟩) s = .next e.settle)
    ∧ (c.phaseWheel = some n → ∃ t, exec (.camEdge cam ⟨ts, lvl⟩) s = .next t ∧ t.whl.whl = e.whl.whl
      ∧ ts + s.fltOf n + 8 ≤ t.now ∧ t.whl.pos = e.whl.pos ∧ t.mem = s.mem
      ∧ (e.whl.sync = .nosync ∨ e.whl.sync = .provisional ∨ e.segAt ts = none → t.whl.sync = e.whl.sync)
      ∧ (∀ g ∈ e.segAt ts,
        let d := e.patWords n
        let at_ := d.segAng g (16 * ts)
        let θ := (d.prd.seg.getD g).θ
        let half : Option Bool := (d.camHalf n at_).map fun h =>
          if d.rb Reg.whlSyncCfg 0 0 then false else d.carryHalf (wrapHalf d.cyc256 (at_ - θ)) h
        let near : Prop := ∃ y ∈ d.camEntries n, ((wrapHalf d.cyc256 (at_ - 256 * (y : Int))).natAbs : Int) ≤ d.camTol
        (e.whl.sync = .tooth → (∀ h ∈ half, t.whl.sync = .full ∧ t.whl.half = h) ∧ (half = none → t.whl.sync = .tooth))
        ∧ (e.whl.sync = .full → near → e.whl.phscr = false → t.whl.sync = .full ∧ t.whl.camMis = 0)
        ∧ (e.whl.sync = .full → ¬near → d.Emits t 1 0x1C (srcC 0 9 n.val) 0))) := by
  intro c x e
  have hwheel : (⟨cam.val + 1, by omega⟩ : Fin 3) = n := Fin.ext hn.symm
  have hcond : (s.clocked && s.sys.vio[1]) = true := by rw [hc, hv]; rfl
  have hexec : exec (.camEdge cam ⟨ts, lvl⟩) s = .next (s.camEdge n ts lvl).settle := by
    rw [← hwheel]
    exact congrArg finish (if_pos hcond)
  have he : e = s.camTaken n ts lvl := by
    have hedge : e = c.setWhl fun w => { w with whl := upd w.whl n fun y => { y with
        last := some ts, dir := c.edgeRev n, per := y.last.elim y.per fun l => min (ts - l) 0x3FFFFFFF, val := y.val || y.last.isSome } } := by
      show ({ c with whl := { c.whl with whl := c.whl.whl.set n.val { x with
        last := some ts, dir := c.edgeRev n
        per := (match x.last with | some l => min (ts - l) 0x3FFFFFFF | none => x.per), val := x.val || x.last.isSome } n.isLt } } : State) = _
      have hper : (match x.last with | some l => min (ts - l) 0x3FFFFFFF | none => x.per) = x.last.elim x.per fun l => min (ts - l) 0x3FFFFFFF := by
        cases x.last with
        | none => rfl
        | some l => rfl
      rw [hper]
      rfl
    rw [hedge]
    show _ = c.setWhl fun w => { w with whl := upd w.whl n fun y => y.edge ts (c.edgeRev n) }
    simp only [WheelIn.edge_eq]
  have hrun : s.wheelsRun = true := hl
  have hafter : (s.whl.whl[n]).after ts = true := (WheelIn.after_iff _ _).2 hts
  have hphase : e.phaseWheel = c.phaseWheel := rfl
  obtain ⟨hnow, hmem⟩ := s.camTaken_parts n ts lvl
  rw [hexec, ← hphase, he]
  refine ⟨fun hp => by rw [State.camEdge_other hrun hen hafter lvl hp], fun hp => ⟨_, rfl, ?_⟩⟩
  obtain ⟨⟨hwhl, hpos, hmem', hnow'⟩, hstill⟩ := camEdge_keeps hrun hen hafter hp
  refine ⟨hwhl, hnow'.symm ▸ hnow, hpos, hmem'.trans hmem, hstill, fun g hg => ?_⟩
  have hj := camEdge_judges hrun hen hafter hp hg
  dsimp only at hj
  rw [halfFound_eq] at hj
  exact hj

/-- A qualified edge of an AUX input. -/
theorem aux_edge (s : State) (ts : Nat) (m : Fin 2) (hc : s.clocked = true) (hl : s.live = true)
    (hv : s.sys.vio[1] = true) (hen : s.rb Reg.auxCfg m.val 0 = true) (hts : ∀ l ∈ s.whl.aux[m].last, l < ts) :
    ∃ t, exec (.auxEdge m ts) s = .next t ∧ t.whl.aux[m].last = some ts ∧ t.whl.aux[m].cnt = s.whl.aux[m].cnt + 1
      ∧ t.whl.aux[m].per = (match s.whl.aux[m].last with | some l => min (ts - l) 0x3FFFFFFF | none => s.whl.aux[m].per)
      ∧ t = { s with now := t.now, ao := t.ao, regs := t.regs, whl := { s.whl with aux := t.whl.aux }, pins := t.pins } := by
  have hcond : (s.clocked && s.sys.vio[1]) = true := by rw [hc, hv]; rfl
  have hrun : s.wheelsRun = true := hl
  have hok : ¬(!s.wheelsRun || !s.rb Reg.auxCfg m.val 0 || !(s.whl.aux[m]).after ts) = true := by
    rw [hrun, hen, (WheelIn.after_iff _ _).2 hts]
    decide
  have haux : s.auxEdge m ts = (s.advanceTo (ts + s.rf Reg.auxCfg m.val 17 8 + 8)).setWhl fun w => { w with
      aux := upd w.aux m fun x => { x.edge ts false with cnt := x.cnt + 1 } } := by
    unfold State.auxEdge
    exact if_neg hok
  have hexec : exec (.auxEdge m ts) s = .next ((s.advanceTo (ts + s.rf Reg.auxCfg m.val 17 8 + 8)).setWhl fun w => { w with
      aux := upd w.aux m fun x => { x.edge ts false with cnt := x.cnt + 1 } }).settle := by
    rw [← haux]
    exact congrArg finish (if_pos hcond)
  refine ⟨_, hexec, ?_⟩
  generalize ts + s.rf Reg.auxCfg m.val 17 8 + 8 = k
  rw [State.advanceTo_frame]
  have hget : (upd s.whl.aux m fun x => { x.edge ts false with cnt := x.cnt + 1 })[m] = { s.whl.aux[m].edge ts false with
      cnt := s.whl.aux[m].cnt + 1 } := Vector.getElem_set_self ..
  refine ⟨?_, ?_, ?_, rfl⟩
  · refine (congrArg WheelIn.last hget).trans ?_
    rw [WheelIn.edge_eq]
  · exact congrArg WheelIn.cnt hget
  · refine (congrArg WheelIn.per hget).trans ?_
    rw [WheelIn.edge_eq]
    cases s.whl.aux[m].last with
    | none => rfl
    | some l => rfl

/-- A cycle passes in FULL without an edge of the phase source. -/
theorem cam_missing (s : State) (n : Fin 3) (hc : s.clocked = true) (hl : s.live = true) (hs : s.whl.sync = .full)
    (hp : s.phaseWheel = some n) : ∃ t, exec .camMissing s = .next t ∧ s.Emits t 1 0x1D (srcC 0 9 n.val) 0 ∧ t.whl = s.whl
      ∧ t.prd = s.prd ∧ t.mem = s.mem := by
  have hcond : (s.wheelsRun && decide (s.whl.sync = .full)) = true := by
    rw [show s.wheelsRun = true from hl, decide_eq_true hs]
    rfl
  have hmiss : s.camMissing = s.emit 1 Kind.camMissing (srcW n.val) 0 := by
    unfold State.camMissing
    rw [hp]
    exact if_pos hcond
  have hexec : exec .camMissing s = .next s.camMissing.settle := congrArg finish (State.awake_clocked hc State.camMissing)
  have hmsg := s.msgFrame_emit 1 Kind.camMissing (srcW n.val) 0
  rw [hmiss] at hexec
  exact ⟨_, hexec, State.emits_emit (u := s) rfl (Nat.le_refl _) (fun _ h => h) (Nat.le_of_eq hmsg.now.symm), hmsg.whl, hmsg.prd, hmsg.mem⟩

end Sys2Proof.Proofs
end

section
/-! SUPPORT. Writes of the wheels' configuration: the word that stands, the checks of the patterns, and the loss of the sync (R60, R64,
R76, R88). -/

namespace Sys2Proof.Machine

/-! ### The word of WHLn_CFG -/

/-- What a write of WHLn_CFG leaves in time, its fields unlocked. -/
def State.whlWord (s : State) (n : Fin 3) (v : Word) : Word := (s.rg Reg.whlxCfg n.val 0 &&& ~~~0x1FFF7F) ||| (v &&& 0x1FFF7F)

/-- The word and its source stand in the state. -/
def State.whlStored (s : State) (p : Fin 11) (n : Fin 3) (v : Word) : State :=
  ((s.hw (wroteKey (Reg.whlxCfg.addr n.val 0)) (portRank p)).setRg Reg.whlxCfg n.val 0 (s.whlWord n v)).unflip (Reg.whlxCfg.addr n.val 0)

section
variable {s : State} {p : Fin 11} {n : Fin 3} (hl : s.rowLocked Reg.whlxCfg n.val = false)
include hl

theorem State.codedWord_whlCfg (v : Word) : s.codedWord Reg.whlxCfg n.val v = s.whlWord n v := by
  have hw1c : Reg.whlxCfg.w1c = 0 := rfl
  have hw1s : Reg.whlxCfg.w1s = 0 := rfl
  have hopen : Reg.whlxCfg.openBits false = 0x1FFF7F := rfl
  unfold State.codedWord State.w1cOpen
  rw [hl, hw1c, hw1s, hopen, State.whlWord, Nat.and_zero, Nat.zero_and]
  generalize s.rg Reg.whlxCfg n.val 0 &&& ~~~0x1FFF7F#32 ||| v &&& 0x1FFF7F#32 = x
  have hones : ~~~BitVec.ofNat 32 0 = BitVec.allOnes 32 := rfl
  rw [hones, BitVec.and_allOnes, BitVec.and_zero, BitVec.or_zero]

theorem State.store_whlCfg (hout : s.outranked p (Reg.whlxCfg.addr n.val 0) = false) (v : Word) :
    s.store p Reg.whlxCfg n.val 0 v = s.whlStored p n v := by
  have hseal : Reg.whlxCfg.base ≠ Reg.sealxCfg.base ∧ Reg.whlxCfg.base ≠ Reg.sealxMask.base := by decide
  have hstand : s.standing p Reg.whlxCfg n.val 0 v = s.whlWord n v := by
    unfold State.standing
    dsimp only
    rw [hout, if_neg Bool.false_ne_true, State.merged_coded hseal (by decide), State.codedWord_whlCfg hl]
  have hnote : s.lockNote p Reg.whlxCfg n.val 0 v = s := by
    unfold State.lockNote
    rw [State.fixedBits_unsealed hseal, hl, if_pos (by simp [wordN])]
  unfold State.store State.storeAs
  dsimp only
  rw [hstand, hnote, if_neg (by decide), if_neg (by simp [State.allLocked, hl]), if_neg (by decide)]
  rfl

end

section
variable (s : State) (p : Fin 11) (n : Fin 3) (v : Word)

theorem State.whlStored_rg : (s.whlStored p n v).rg Reg.whlxCfg n.val 0 = s.whlWord n v := State.setRg_rg ..

theorem State.whlStored_rb (h : v.toNat.testBit 0 = b) : (s.whlStored p n v).rb Reg.whlxCfg n.val 0 = b := by
  rw [State.rb, State.whlStored_rg]
  unfold bit State.whlWord
  rw [BitVec.toNat_or, BitVec.toNat_and, BitVec.toNat_and, Nat.testBit_or, Nat.testBit_and, Nat.testBit_and, h]
  simp

theorem whlCfg_apart : ∀ q n : Fin 3, q ≠ n → Reg.whlxCfg.addr q.val 0 ≠ Reg.whlxCfg.addr n.val 0 := by decide

theorem State.whlStored_rb_ne {q : Fin 3} (h : q ≠ n) : (s.whlStored p n v).rb Reg.whlxCfg q.val 0 = s.rb Reg.whlxCfg q.val 0 := by
  unfold State.rb
  exact congrArg (bit · 0) (State.setRg_rg_ne _ Reg.whlxCfg Reg.whlxCfg _ _ _ _ _ (whlCfg_apart q n h))

end

/-! ### The checks of the patterns -/

/-- The check of one wheel leaves the others enabled as they were. -/
theorem State.patternCheck_rb_ne (s : State) {q n : Fin 3} (h : q ≠ n) : (s.patternCheck n).rb Reg.whlxCfg q.val 0 = s.rb Reg.whlxCfg q.val 0 := by
  have hne : ∀ q : Fin 3, Reg.whlxCfg.addr q.val 0 ≠ Reg.fltStat.addr 0 0 := by decide
  unfold State.patternCheck
  split
  · rfl
  · split
    · rfl
    · unfold State.rb
      rw [State.emit_rg_ne _ _ _ _ _ (hne q)]
      exact congrArg (bit · 0) (State.setRg_rg_ne _ Reg.whlxCfg Reg.whlxCfg _ _ _ _ _ (whlCfg_apart q n h))

theorem State.patWords_rb (s : State) (n q : Fin 3) : (s.patWords n).rb Reg.whlxCfg q.val 0 = s.rb Reg.whlxCfg q.val 0 := by
  have hne : ∀ q : Fin 3, Reg.whlxCfg.addr q.val 0 ≠ Reg.fltStat.addr 0 0 := by decide
  unfold State.rb
  rw [(s.msgFrame_patWords n).2 _ _ _ (hne q)]

/-- One wheel's pattern is read and checked where the wheel is enabled. -/
def State.wheelChecked (t : State) (k : Fin 3) : State := if t.rb Reg.whlxCfg k.val 0 then (t.patWords k).patternCheck k else t

/-- Where one wheel alone is enabled, its pattern alone is checked. -/
theorem State.wheelsChecked_one {s : State} {n : Fin 3} (hn : s.rb Reg.whlxCfg n.val 0 = true)
    (ho : ∀ q : Fin 3, q ≠ n → s.rb Reg.whlxCfg q.val 0 = false) :
    (List.finRange 3).foldl State.wheelChecked s = (s.patWords n).patternCheck n := by
  have hthis : s.wheelChecked n = (s.patWords n).patternCheck n := if_pos hn
  have hbefore (q : Fin 3) (h : q ≠ n) : s.wheelChecked q = s := if_neg (by rw [ho q h]; decide)
  have hafter (q : Fin 3) (h : q ≠ n) : ((s.patWords n).patternCheck n).wheelChecked q = (s.patWords n).patternCheck n :=
    if_neg (by rw [State.patternCheck_rb_ne _ h, State.patWords_rb, ho q h]; decide)
  have hlist : List.finRange 3 = [0, 1, 2] := by decide
  rw [hlist]
  simp only [List.foldl_cons, List.foldl_nil]
  match n, hthis, hbefore, hafter with
  | 0, hthis, hbefore, hafter => rw [hthis, hafter 1 (by decide), hafter 2 (by decide)]
  | 1, hthis, hbefore, hafter => rw [hbefore 0 (by decide), hthis, hafter 2 (by decide)]
  | 2, hthis, hbefore, hafter => rw [hbefore 0 (by decide), hbefore 1 (by decide), hthis]

/-- A sound pattern leaves its wheel enabled. -/
theorem State.patternCheck_sound {s : State} {n : Fin 3} (hn : s.rb Reg.whlxCfg n.val 0 = true) (hf : s.patternFault n = none) :
    s.patternCheck n = s := by
  unfold State.patternCheck
  rw [if_neg (by rw [hn]; decide), hf]

/-- A bad pattern disables its wheel, with a message. -/
theorem State.patternCheck_bad {s : State} {n : Fin 3} (hn : s.rb Reg.whlxCfg n.val 0 = true) {k : Nat × Nat} (hf : s.patternFault n = some k) :
    s.patternCheck n = (s.setRf Reg.whlxCfg n.val 0 0 0).emit 1 Kind.patternBad (srcW n.val) (k.2 % 1024 + k.1 * 1024) := by
  unfold State.patternCheck
  rw [if_neg (by rw [hn]; decide), hf]

/-! ### What follows the write -/

/-- A new record changes the fabric alone. -/
theorem State.flood_fab (s : State) (inp : Nat) (f : Frame) : ∃ g, s.flood inp f = { s with fab := g } := by
  unfold State.flood
  induction List.finRange 3 generalizing s with
  | nil => exact ⟨s.fab, rfl⟩
  | cons r l ih =>
    rw [List.foldl_cons]
    obtain ⟨g, hg⟩ : ∃ g, (if s.fab.port[r].st = .up ∧ r.val ≠ inp then s.portPut r inp f else s) = { s with fab := g } := by
      split
      · exact ⟨_, rfl⟩
      · exact ⟨s.fab, rfl⟩
    obtain ⟨g', hg'⟩ := ih (if s.fab.port[r].st = .up ∧ r.val ≠ inp then s.portPut r inp f else s)
    exact ⟨g', by rw [hg', hg]⟩

theorem State.recheck_fab (s : State) : ∃ g, s.recheck = { s with fab := g } := by
  unfold State.recheck
  split
  · unfold State.newRecord
    obtain ⟨g, hg⟩ := State.flood_fab ({ s with fab := { ({ s with fab := { s.fab with
      rseq := (s.fab.rseq + 1) % 256, lubusy := true } } : State).fab with issued := (({ s with fab := { s.fab with
      rseq := (s.fab.rseq + 1) % 256, lubusy := true } } : State).selfRec).gist } } : State) 3 (({ s with fab := { s.fab with
      rseq := (s.fab.rseq + 1) % 256, lubusy := true } } : State).unitFrame 6 (({ s with fab := { s.fab with
      rseq := (s.fab.rseq + 1) % 256, lubusy := true } } : State).selfRec).bytes)
    exact ⟨g, hg⟩
  · exact ⟨s.fab, rfl⟩

/-- The wake logic counts no longer once WHL0 is enabled (R461). -/
def State.uncounted (s : State) : State := if s.rb Reg.whlxCfg 0 0 then { s with ao := { s.ao with counting := false } } else s

theorem State.uncounted_parts (s : State) : ∃ a, s.uncounted = { s with ao := a } := by
  unfold State.uncounted
  split
  · exact ⟨_, rfl⟩
  · exact ⟨s.ao, rfl⟩

/-- A write that enables a wheel while the others are disabled checks its pattern. -/
theorem State.whlCfgWritten_enabled {s : State} {n : Fin 3} (hn : s.rb Reg.whlxCfg n.val 0 = true)
    (ho : ∀ q : Fin 3, q ≠ n → s.rb Reg.whlxCfg q.val 0 = false) : ∃ a,
    s.whlCfgWritten n false false = { (s.patWords n).patternCheck n with ao := a } := by
  unfold State.whlCfgWritten
  dsimp only
  simp only [hn, Bool.not_false, Bool.and_self, Bool.false_and, if_true, Bool.false_eq_true, if_false]
  change ∃ a, ((List.finRange 3).foldl State.wheelChecked s).uncounted = _
  rw [State.wheelsChecked_one hn ho]
  exact State.uncounted_parts _

/-- A write that disables a wheel drops the sync where the wheel is WHL0 and was enabled. -/
theorem State.whlCfgWritten_disabled {s : State} {n : Fin 3} (hn : s.rb Reg.whlxCfg n.val 0 = false) (was was0 : Bool) : ∃ a,
    s.whlCfgWritten n was was0 = { (if was0 && !s.rb Reg.whlxCfg 0 0 then s.hostDrop else s) with ao := a } := by
  unfold State.whlCfgWritten
  dsimp only
  simp only [hn, Bool.false_and, Bool.false_eq_true, if_false]
  exact State.uncounted_parts _

/-- A drop by a host action ends in NOSYNC with the matcher, the memory and WHLn_CFG as they are. -/
theorem State.hostDrop_wheels (s : State) : s.hostDrop.whl.sync = .nosync ∧ s.hostDrop.whl.m = s.whl.m ∧ s.hostDrop.mem = s.mem
    ∧ ∀ n : Fin 3, s.hostDrop.rg Reg.whlxCfg n.val 0 = s.rg Reg.whlxCfg n.val 0 := by
  have hquiet : ∀ n : Fin 3, Reg.whlxCfg.addr n.val 0 ∈ quietRegs ∧ Reg.whlxCfg.addr n.val 0 ≠ Reg.sysGate.addr 0 0 := by decide
  obtain ⟨f, w, u, p, g, hs, hstir, heq, hsync, hm, hr⟩ := s.hostDrop_parts
  obtain ⟨go, va, hw⟩ := hstir.whl
  have hwhl : s.hostDrop.whl = { w with gone := go, validAt := va } := by rw [heq]; exact hw
  refine ⟨by rw [hwhl]; exact hsync, by rw [hwhl]; exact hm, ?_, fun n => (hr _ _ _ (hquiet n).2).trans (hstir.rg (hquiet n).1)⟩
  rw [heq]
  exact hstir.mem

end Sys2Proof.Machine
end

section
/-! PROOFS. Writes of the wheels' configuration and the phase: the statement O35. -/

open Sys2Proof Sys2Proof.Machine

namespace Sys2Proof.Proofs

theorem addrCheck_whlCfg : ∀ n : Fin 3, addrCheck (Reg.whlxCfg.addr n.val 0) Reg.whlxCfg n.val 0 = true := by decide +kernel
theorem addrCheck_whlCmd : addrCheck (Reg.whlCmd.addr 0 0) Reg.whlCmd 0 0 = true := by decide +kernel
theorem whlCfg_low : ∀ n : Fin 3, Reg.whlxCfg.addr n.val 0 < 0x20000000 := by decide

section
variable {s : State} {p : Fin 2} {n : Fin 3}

/-- A write of WHLn_CFG by a port, its fields unlocked and no later source before it. -/
theorem whlCfg_write (hw : s.Writable p) (hl : s.rowLocked Reg.whlxCfg n.val = false)
    (hout : s.outranked (portOf2 p) (Reg.whlxCfg.addr n.val 0) = false) (v : Word) :
    s.portWrite p (Reg.whlxCfg.addr n.val 0) v 0 false = (((s.whlStored (portOf2 p) n v).whlCfgWritten n
      (s.rb Reg.whlxCfg n.val 0) (s.rb Reg.whlxCfg 0 0)).recheck).answered p .ok := by
  have hreply : s.regWrite (portOf2 p) Reg.whlxCfg n.val 0 v = (((s.whlStored (portOf2 p) n v).whlCfgWritten n
      (s.rb Reg.whlxCfg n.val 0) (s.rb Reg.whlxCfg 0 0)).recheck, .ok) := by
    have hidx : idx 3 (by decide) n.val = n := Fin.ext (Nat.mod_eq_of_lt n.isLt)
    rw [← State.store_whlCfg hl hout, ← congrArg (fun k => State.recheck (State.whlCfgWritten _ k _ _)) hidx]
    rfl
  rw [State.portWrite_row hw (addrCheck_whlCfg n) (.inl (whlCfg_low n)) (by decide) rfl, hreply]

/-- The answer to a write, and the parts that it leaves. -/
theorem answered_ok (s : State) (p : Fin 2) : (s.answered p .ok).settle.answer p = .ok
    ∧ (s.answered p .ok).settle.whl = s.whl ∧ (s.answered p .ok).settle.mem = s.mem ∧ (s.answered p .ok).settle.coll = s.coll
    ∧ (s.answered p .ok).settle.regs = s.regs ∧ (s.answered p .ok).settle.now = s.now := by
  obtain ⟨h, m, heq⟩ := answered_parts s p .ok
  refine ⟨answered_answer s p (by decide), ?_⟩
  rw [heq]
  exact ⟨rfl, rfl, rfl, rfl, rfl⟩

theorem setFld_one (v : Word) : setFld v 0 0 1 = v ||| 1 := by
  apply BitVec.eq_of_toNat_eq
  apply Nat.eq_of_testBit_eq
  intro i
  rw [setFld_testBit v 1 (le_refl 0) (by decide), BitVec.toNat_or, Nat.testBit_or]
  by_cases hi : i = 0
  · subst hi
    simp
  · have hone : (1 : Word).toNat.testBit i = false := Nat.testBit_lt_two_pow (Nat.one_lt_two_pow hi)
    rw [if_neg (by omega), hone, Bool.or_false]

theorem setFld_zero (v : Word) : setFld v 0 0 0 = v &&& ~~~1 := by
  apply BitVec.eq_of_toNat_eq
  apply Nat.eq_of_testBit_eq
  intro i
  rw [setFld_testBit v 0 (le_refl 0) (by decide), BitVec.testBit_toNat, BitVec.testBit_toNat, BitVec.getLsbD_and]
  by_cases hi : i = 0
  · subst hi
    simp
  · rw [if_neg (by omega)]
    by_cases h32 : i < 32
    · rw [BitVec.getLsbD_not, show (1 : Word) = 1#32 from rfl, BitVec.getLsbD_one]
      simp [h32, hi]
    · simp [BitVec.getLsbD_of_ge v i (by omega)]

variable (hw : s.Writable p) (hl : s.rowLocked Reg.whlxCfg n.val = false)
  (hout : s.outranked (portOf2 p) (Reg.whlxCfg.addr n.val 0) = false)
include hw hl hout

/-- The enabling of a wheel while the others are disabled. -/
theorem wheel_enable (v : Word) (hn : s.rb Reg.whlxCfg n.val 0 = false) (ho : ∀ q : Fin 3, q ≠ n → s.rb Reg.whlxCfg q.val 0 = false) :
    let u := (s.whlStored (portOf2 p) n (v ||| 1)).patWords n
    ∃ t, exec (.whlEnable p n v) s = .next t ∧ t.answer p = .ok
      ∧ (u.patternFault n = none → t.rg Reg.whlxCfg n.val 0 = s.whlWord n (v ||| 1) ∧ t.coll = u.coll ∧ t.whl = s.whl)
      ∧ (∀ k ∈ u.patternFault n, t.rb Reg.whlxCfg n.val 0 = false ∧ u.Emits t 1 0x18 (srcC 0 9 n.val) (k.2 % 1024 + k.1 * 1024)) := by
  intro u
  have hexec : exec (.whlEnable p n v) s = finish (s.portWrite p (Reg.whlxCfg.addr n.val 0) (setFld v 0 0 1) 0 false) := rfl
  have h0 : s.rb Reg.whlxCfg 0 0 = false := by
    by_cases h : n = 0
    · rw [h] at hn
      exact hn
    · exact ho 0 fun h0 => h h0.symm
  have hbit : (v ||| 1).toNat.testBit 0 = true := by simp [BitVec.toNat_or]
  have hen : (s.whlStored (portOf2 p) n (v ||| 1)).rb Reg.whlxCfg n.val 0 = true := s.whlStored_rb _ n _ hbit
  obtain ⟨a, hwritten⟩ := State.whlCfgWritten_enabled hen fun q hq => by rw [State.whlStored_rb_ne _ _ _ _ hq, ho q hq]
  have huen : u.rb Reg.whlxCfg n.val 0 = true := by rw [State.patWords_rb, hen]
  have hmsg : (s.whlStored (portOf2 p) n (v ||| 1)).MsgFrame u := State.msgFrame_patWords ..
  have huword : u.rg Reg.whlxCfg n.val 0 = s.whlWord n (v ||| 1) := by
    have hne : ∀ q : Fin 3, Reg.whlxCfg.addr q.val 0 ≠ Reg.fltStat.addr 0 0 := by decide
    rw [hmsg.2 _ _ _ (hne n), State.whlStored_rg]
  have huwhl : u.whl = s.whl := hmsg.whl
  rw [hexec, setFld_one, whlCfg_write hw hl hout, hn, h0, hwritten]
  clear hexec hwritten
  change ∃ t, finish ((State.recheck { u.patternCheck n with ao := a }).answered p .ok) = .next t ∧ _
  generalize u = u at huen huword huwhl
  obtain ⟨f, hf⟩ := State.recheck_fab { u.patternCheck n with ao := a }
  rw [hf]
  obtain ⟨hans, hwhl, -, hcoll, hregs, hnow⟩ := answered_ok ({ u.patternCheck n with ao := a, fab := f } : State) p
  refine ⟨_, rfl, hans, fun hnone => ?_, fun k hk => ?_⟩
  · rw [State.patternCheck_sound huen hnone] at hwhl hcoll hregs ⊢
    exact ⟨(State.rg_congr hregs Reg.whlxCfg n.val 0).trans huword, hcoll, hwhl.trans huwhl⟩
  · have hbad := State.patternCheck_bad huen hk
    have hne : ∀ q : Fin 3, Reg.whlxCfg.addr q.val 0 ≠ Reg.fltStat.addr 0 0 := by decide
    rw [hbad] at hcoll hregs hnow ⊢
    refine ⟨?_, ?_⟩
    · refine (State.rb_congr hregs Reg.whlxCfg n.val 0).trans ?_
      refine (State.emit_rb_ne _ _ _ _ _ (hne n)).trans ?_
      rw [State.setRf_rb _ _ _ _ (by decide)]
      rfl
    · refine State.emits_emit (u := u.setRf Reg.whlxCfg n.val 0 0 0) rfl (Nat.le_refl _) (fun m hm => ?_) ?_
      · rw [hcoll]
        exact hm
      · rw [hnow]
        exact Nat.le_of_eq ((u.setRf Reg.whlxCfg n.val 0 0 0).msgFrame_emit ..).now.symm

/-- The disabling of a wheel. -/
theorem wheel_disable (v : Word) : ∃ t, exec (.whlDisable p n v) s = .next t ∧ t.answer p = .ok
    ∧ t.rg Reg.whlxCfg n.val 0 = s.whlWord n (v &&& ~~~1)
    ∧ (n = 0 → s.rb Reg.whlxCfg 0 0 = true → t.whl.sync = .nosync) ∧ (n ≠ 0 → t.whl = s.whl) ∧ t.mem = s.mem := by
  have hexec : exec (.whlDisable p n v) s = finish (s.portWrite p (Reg.whlxCfg.addr n.val 0) (setFld v 0 0 0) 0 false) := rfl
  have hbit : (v &&& ~~~1).toNat.testBit 0 = false := by
    rw [BitVec.testBit_toNat, BitVec.getLsbD_and]
    simp
  have hen : (s.whlStored (portOf2 p) n (v &&& ~~~1)).rb Reg.whlxCfg n.val 0 = false := s.whlStored_rb _ n _ hbit
  have hother (h : n ≠ 0) : (s.whlStored (portOf2 p) n (v &&& ~~~1)).rb Reg.whlxCfg 0 0 = s.rb Reg.whlxCfg 0 0 :=
    s.whlStored_rb_ne (portOf2 p) n (v &&& ~~~1) (q := 0) (Ne.symm h)
  have hword := s.whlStored_rg (portOf2 p) n (v &&& ~~~1)
  obtain ⟨a, hwritten⟩ := State.whlCfgWritten_disabled hen (s.rb Reg.whlxCfg n.val 0) (s.rb Reg.whlxCfg 0 0)
  rw [hexec, setFld_zero, whlCfg_write hw hl hout, hwritten]
  clear hexec hwritten
  have hw0 : (s.whlStored (portOf2 p) n (v &&& ~~~1)).whl = s.whl := rfl
  have hm0 : (s.whlStored (portOf2 p) n (v &&& ~~~1)).mem = s.mem := rfl
  generalize s.whlStored (portOf2 p) n (v &&& ~~~1) = u at hen hother hword hw0 hm0
  have hu : ∃ x : State, (if (s.rb Reg.whlxCfg 0 0 && !u.rb Reg.whlxCfg 0 0) = true then u.hostDrop else u) = x
      ∧ x.rg Reg.whlxCfg n.val 0 = s.whlWord n (v &&& ~~~1) ∧ (n = 0 → s.rb Reg.whlxCfg 0 0 = true → x.whl.sync = .nosync)
      ∧ (n ≠ 0 → x.whl = s.whl) ∧ x.mem = s.mem := by
    obtain ⟨hsync, -, hmem, hrg⟩ := u.hostDrop_wheels
    by_cases hcond : (s.rb Reg.whlxCfg 0 0 && !u.rb Reg.whlxCfg 0 0) = true
    · refine ⟨_, if_pos hcond, (hrg n).trans hword, fun _ _ => hsync, fun h => ?_, hmem.trans hm0⟩
      rw [hother h] at hcond
      simp at hcond
    · refine ⟨_, if_neg hcond, hword, fun h hs => ?_, fun _ => hw0, hm0⟩
      subst h
      exact absurd (by rw [hs, show u.rb Reg.whlxCfg 0 0 = false from hen]; rfl) hcond
  obtain ⟨x, hx, hxword, hxsync, hxwhl, hxmem⟩ := hu
  rw [hx]
  obtain ⟨f, hf⟩ := State.recheck_fab { x with ao := a }
  rw [hf]
  obtain ⟨hans, hwhl, hmem, -, hregs, -⟩ := answered_ok ({ x with ao := a, fab := f } : State) p
  exact ⟨_, rfl, hans, (State.rg_congr hregs Reg.whlxCfg n.val 0).trans hxword, fun h hs => by rw [hwhl]; exact hxsync h hs,
    fun h => hwhl.trans (hxwhl h), hmem.trans hxmem⟩

end

/-- RESYNC drops the sync and keeps the matcher. -/
theorem resync_drops {s : State} {p : Fin 2} (hw : s.Writable p) : ∃ t, exec (.resync p) s = .next t ∧ t.answer p = .ok
    ∧ t.whl.sync = .nosync ∧ t.whl.m = s.whl.m ∧ t.mem = s.mem := by
  obtain ⟨w, hstore⟩ : ∃ w, s.store (portOf2 p) Reg.whlCmd 0 0 1 = (s.setRg Reg.whlCmd 0 0 w).unflip (Reg.whlCmd.addr 0 0) :=
    ⟨_, State.store_unranked (by decide) (by decide) (by decide) (by decide) s (portOf2 p) 0 1⟩
  have hreply : s.regWrite (portOf2 p) Reg.whlCmd 0 0 1 = ((s.store (portOf2 p) Reg.whlCmd 0 0 1).hostDrop, .ok) := rfl
  have hexec : exec (.resync p) s = finish (s.portWrite p (Reg.whlCmd.addr 0 0) 1 0 false) := rfl
  rw [hexec, State.portWrite_row hw addrCheck_whlCmd (by decide) (by decide) rfl, hreply, hstore]
  obtain ⟨hsync, hm, hmem, -⟩ := ((s.setRg Reg.whlCmd 0 0 w).unflip (Reg.whlCmd.addr 0 0)).hostDrop_wheels
  obtain ⟨hans, hwhl, hmem', -⟩ := answered_ok ((s.setRg Reg.whlCmd 0 0 w).unflip (Reg.whlCmd.addr 0 0)).hostDrop p
  exact ⟨_, rfl, hans, by rw [hwhl]; exact hsync, by rw [hwhl]; exact hm, hmem'.trans hmem⟩

/-- Settles O35: an edge is taken with its period, then judged by the local state; a write of WHLn_CFG checks the pattern that it
enables, or drops the sync with WHL0. -/
theorem phaseAuxAndWheelCommands : Obligations.PhaseAuxAndWheelCommands := by
  unfold Obligations.PhaseAuxAndWheelCommands
  intro s ts lvl cam n m p v hc hl
  refine ⟨fun hv hn hen hts => cam_edge s ts lvl cam n hc hl hv hn hen hts, fun hv hen hts => aux_edge s ts m hc hl hv hen hts,
    fun hs hp => cam_missing s n hc hl hs hp, fun hw hlock => ?_, fun hw => resync_drops hw⟩
  intro x old word hlt
  have hout : s.outranked (portOf2 p) (Reg.whlxCfg.addr n.val 0) = false := by
    rw [portSrc_lit]
    exact decide_eq_false (Nat.not_le.2 hlt)
  have hport : portOf2 p = if p = 0 then 9 else 10 := portSrc_lit p
  refine ⟨fun hn ho => ?_, wheel_disable hw hlock hout v⟩
  rw [← hport]
  exact wheel_enable hw hlock hout v hn ho

end Sys2Proof.Proofs
end

section
/-! SUPPORT. A predictor's failure, and the words that the model holds until the next accepted tooth (R100, R105, R107, R108, R115). -/

namespace Sys2Proof.Machine

/-! ### No predictor is left (R108) -/

/-- With no predictor left no rate is published; its retired instances stay retired. -/
theorem State.prdNosync_none {s : State} (h : s.prd.noInst = true) (n : Nat) (p1 p2 : Option Nat) : (s.prdNosync n p1 p2).prd.noInst = true
    ∧ (s.prdNosync n p1 p2).prd.rate = 0 ∧ (s.prdNosync n p1 p2).prd.retA = s.prd.retA ∧ (s.prdNosync n p1 p2).prd.retB = s.prd.retB
    ∧ (s.prdNosync n p1 p2).coll = s.coll ∧ (s.prdNosync n p1 p2).now = s.now ∧ (s.prdNosync n p1 p2).whl = s.whl
    ∧ (s.prdNosync n p1 p2).mem = s.mem := by
  have hcond : ¬(p1.isSome && p2.isSome && !s.prd.noInst) = true := by simp [h]
  unfold State.prdNosync
  dsimp only
  rw [if_neg hcond, if_pos h]
  exact ⟨h, rfl, rfl, rfl, rfl, rfl, rfl, rfl⟩

/-- The loss of the last predictor: the sync drops, and no rate is left. -/
theorem State.prdNone_parts (s : State) : s.prdNone.prd.noInst = true ∧ s.prdNone.prd.rate = 0 ∧ s.prdNone.prd.retA = s.prd.retA
    ∧ s.prdNone.prd.retB = s.prd.retB ∧ s.prdNone.whl.sync = .nosync ∧ s.prdNone.whl.ratev = false ∧ s.prdNone.mem = s.mem
    ∧ s.prdNone.now = s.now ∧ ∀ src ∈ quietSrcs, s.KeepsBox src s.prdNone := by
  obtain ⟨x, hx⟩ : ∃ x : State, x = ({ s with prd := { s.prd with noInst := true, rate := 0 } } : State).setWhl fun w => { w with ratev := false } :=
    ⟨_, rfl⟩
  have hprd : x.prd = { s.prd with noInst := true, rate := 0 } := by rw [hx]; rfl
  have hwhl : x.whl = { s.whl with ratev := false } := by rw [hx]; rfl
  have hmem : x.mem = s.mem := by rw [hx]; rfl
  have hnow : x.now = s.now := by rw [hx]; rfl
  have hcoll : x.coll = s.coll := by rw [hx]; rfl
  have hnone : s.prdNone = x.syncLose .nosync 8 := by rw [hx]; rfl
  rw [hnone]
  by_cases hs : x.whl.sync = .nosync
  · have heq : x.syncLose .nosync 8 = x := if_pos (.inl hs)
    rw [heq, hprd]
    exact ⟨rfl, rfl, rfl, rfl, hs, by rw [hwhl], hmem, hnow, fun _ _ => State.KeepsBox.of_coll hcoll⟩
  · obtain ⟨f, u, hstir, heq⟩ := State.syncLose_parts hs 8
    have huprd : u.prdDrop.prd.noInst = true ∧ u.prdDrop.prd.retA = s.prd.retA ∧ u.prdDrop.prd.retB = s.prd.retB := by
      have h : u.prd = { s.prd with noInst := true, rate := 0 } := hstir.prd.trans hprd
      have hdrop : u.prdDrop.prd.noInst = u.prd.noInst ∧ u.prdDrop.prd.retA = u.prd.retA ∧ u.prdDrop.prd.retB = u.prd.retB :=
        ⟨rfl, rfl, rfl⟩
      rw [h] at hdrop
      exact hdrop
    obtain ⟨go, va, huwhl⟩ := hstir.whl
    obtain ⟨h1, h2, h3, h4, h5, h6, h7, h8⟩ := State.prdNosync_none huprd.1 (16 * (x.whl.whl[0].last.getD 0)) x.whl.m.per x.whl.m.prev
    rw [heq]
    have hfinal : (u.prdDrop.prdNosync (16 * (x.whl.whl[0].last.getD 0)) x.whl.m.per x.whl.m.prev).whl = { x.lostWheels 8 with
        gone := go, validAt := va } := h7.trans huwhl
    refine ⟨h1, h2, h3.trans huprd.2.1, h4.trans huprd.2.2, by rw [hfinal]; rfl, ?_, h8.trans (hstir.mem.trans hmem),
      h6.trans (hstir.now.trans hnow), fun src hq => ?_⟩
    · rw [hfinal]
      simp [State.lostWheels, hprd]
    · have hbox : x.KeepsBox src u := hstir.2.2 src hq
      unfold State.KeepsBox at hbox ⊢
      rw [h5]
      exact hbox.trans (by rw [hcoll])

/-! ### Held words (R105, R115) -/

/-- The model holds the word at an address. -/
def State.holds (s : State) (a : Nat) : Bool := s.prd.heldRegs.any fun x => decide (x.1 = a)

theorem State.holds_find {s : State} {a : Nat} (h : s.holds a = true) : ∃ w, (s.prd.heldRegs.find? fun x => decide (x.1 = a)) = some w := by
  have hsome : (s.prd.heldRegs.find? fun x => decide (x.1 = a)).isSome = true := by
    rw [List.find?_isSome]
    exact List.any_eq_true.1 h
  exact Option.isSome_iff_exists.1 hsome

/-- The word of a held register is the one held, whatever stands in the register. -/
theorem State.pw_of_holds {s t : State} {r : RegRow} {k : Nat} (ht : t.prd.heldRegs = s.prd.heldRegs) (h : s.holds (r.addr k 0) = true) :
    t.pw r k = s.pw r k := by
  obtain ⟨w, hw⟩ := State.holds_find h
  unfold State.pw
  rw [ht, hw]

theorem State.pw_free {s : State} {r : RegRow} {k : Nat} (h : s.holds (r.addr k 0) = false) : s.pw r k = s.rg r k := by
  have hnone : (s.prd.heldRegs.find? fun x => decide (x.1 = r.addr k 0)) = none := by
    rw [List.find?_eq_none]
    exact List.any_eq_false.1 h
  unfold State.pw
  rw [hnone]

theorem State.holdWord_parts (s : State) (r : RegRow) (k : Nat) : ∃ hr, s.holdWord r k = { s with prd := { s.prd with heldRegs := hr } } := by
  unfold State.holdWord
  split
  · exact ⟨_, rfl⟩
  · exact ⟨_, rfl⟩

/-- The word is held, beside those that were. -/
theorem State.holdWord_holds (s : State) (r : RegRow) (k a : Nat) : (s.holdWord r k).holds a = (s.holds a || decide (r.addr k 0 = a)) := by
  unfold State.holdWord
  split
  · next h =>
    by_cases ha : r.addr k 0 = a
    · subst ha
      rw [decide_eq_true rfl, Bool.or_true]
      exact h
    · rw [decide_eq_false ha, Bool.or_false]
  · unfold State.holds
    rw [List.any_append, List.any_cons, List.any_nil, Bool.or_false]

/-- Holding a word of a row changes no word that the model uses of it. -/
theorem State.pw_holdWord {r : RegRow} (hreset : ∀ i j, resetWord r i = resetWord r j) (s : State) (k j : Nat) :
    (s.holdWord r k).pw r j = s.pw r j := by
  unfold State.holdWord
  split
  · rfl
  · next hfree =>
    cases hj : s.holds (r.addr j 0) with
    | true =>
      obtain ⟨w, hw⟩ := State.holds_find hj
      unfold State.pw
      rw [List.find?_append, hw]
      rfl
    | false =>
      have hnone : (s.prd.heldRegs.find? fun x => decide (x.1 = r.addr j 0)) = none := by
        rw [List.find?_eq_none]
        exact List.any_eq_false.1 hj
      rw [State.pw_free hj]
      unfold State.pw
      rw [List.find?_append, hnone]
      by_cases ha : r.addr k 0 = r.addr j 0
      · have hrg : s.rg r k = s.rg r j := by rw [State.rg, State.rg, ha, hreset k j]
        simp [ha, hrg]
      · simp [ha]
        rfl

/-! ### CLEAR (R105) -/

theorem toothmap_reset (i j : Nat) : resetWord Reg.toothmap i = resetWord Reg.toothmap j := rfl

/-- The second state differs from the first in the stored words, the words held and the flipped bits; the model uses the same map. -/
def State.MapFrame (s t : State) : Prop :=
  (∃ g hr fl, t = { s with regs := g, prd := { s.prd with heldRegs := hr }, inj := fl }) ∧ ∀ k, t.pw Reg.toothmap k = s.pw Reg.toothmap k

theorem State.MapFrame.trans {s t u : State} (h : s.MapFrame t) (h' : t.MapFrame u) : s.MapFrame u := by
  obtain ⟨⟨g, hr, fl, ht⟩, hk⟩ := h
  obtain ⟨⟨g', hr', fl', hu⟩, hk'⟩ := h'
  exact ⟨⟨g', hr', fl', by rw [hu, ht]⟩, fun k => (hk' k).trans (hk k)⟩

/-- One word of the map is cleared. -/
def State.wordClear (t : State) (i : Nat) : State :=
  ((if t.rg Reg.toothmap i = 0 then t else t.holdWord Reg.toothmap i).setRg Reg.toothmap i 0 0).unflip (Reg.toothmap.addr i 0)

theorem toothmap_addr (i : Nat) : Reg.toothmap.addr i 0 = 0x10004000 + 4 * i := rfl

/-- A word cleared of a state that holds it, or in which it is 0 already. -/
theorem State.mapFrame_zero {u : State} {i : Nat} (h : u.rg Reg.toothmap i = 0 ∨ u.holds (Reg.toothmap.addr i 0) = true) :
    u.MapFrame ((u.setRg Reg.toothmap i 0 0).unflip (Reg.toothmap.addr i 0)) := by
  refine ⟨⟨_, u.prd.heldRegs, _, rfl⟩, fun k => ?_⟩
  cases hk : u.holds (Reg.toothmap.addr k 0) with
  | true => exact State.pw_of_holds rfl hk
  | false =>
    rw [State.pw_free hk]
    have hfree : ((u.setRg Reg.toothmap i 0 0).unflip (Reg.toothmap.addr i 0)).holds (Reg.toothmap.addr k 0) = false := hk
    rw [State.pw_free hfree]
    by_cases hik : k = i
    · subst hik
      rcases h with h | h
      · exact (State.setRg_rg u Reg.toothmap k 0 0).trans h.symm
      · rw [hk] at h
        cases h
    · exact State.setRg_rg_ne u Reg.toothmap Reg.toothmap i 0 k 0 0 (by rw [toothmap_addr, toothmap_addr]; omega)

theorem State.mapFrame_wordClear (t : State) (i : Nat) : t.MapFrame (t.wordClear i) := by
  unfold State.wordClear
  split
  · next h => exact State.mapFrame_zero (.inl h)
  · have hhold : t.MapFrame (t.holdWord Reg.toothmap i) := by
      obtain ⟨hr, heq⟩ := t.holdWord_parts Reg.toothmap i
      exact ⟨⟨t.regs, hr, t.inj, heq⟩, fun k => t.pw_holdWord toothmap_reset i k⟩
    exact hhold.trans (State.mapFrame_zero (.inr (by rw [State.holdWord_holds, decide_eq_true rfl, Bool.or_true])))

theorem State.wordClear_zero (t : State) (i k : Nat) (h : i = k ∨ t.rg Reg.toothmap k = 0) : (t.wordClear i).rg Reg.toothmap k = 0 := by
  by_cases hik : i = k
  · subst hik
    exact State.setRg_rg _ Reg.toothmap i 0 0
  · have hrg : (if t.rg Reg.toothmap i = 0 then t else t.holdWord Reg.toothmap i).rg Reg.toothmap k = t.rg Reg.toothmap k := by
      split
      · rfl
      · obtain ⟨hr, heq⟩ := t.holdWord_parts Reg.toothmap i
        rw [heq]
        rfl
    have hne : Reg.toothmap.addr k 0 ≠ Reg.toothmap.addr i 0 := by rw [toothmap_addr, toothmap_addr]; omega
    exact (State.setRg_rg_ne _ Reg.toothmap Reg.toothmap i 0 k 0 0 hne).trans (hrg.trans (h.resolve_left hik))

theorem State.wordsClear (l : List Nat) (s : State) : s.MapFrame (l.foldl State.wordClear s)
    ∧ ∀ k, (k ∈ l ∨ s.rg Reg.toothmap k = 0) → (l.foldl State.wordClear s).rg Reg.toothmap k = 0 := by
  induction l generalizing s with
  | nil => exact ⟨⟨⟨s.regs, s.prd.heldRegs, s.inj, rfl⟩, fun _ => rfl⟩, fun k h => h.resolve_left (by simp)⟩
  | cons i l ih =>
    obtain ⟨hframe, hzero⟩ := ih (s.wordClear i)
    refine ⟨(s.mapFrame_wordClear i).trans hframe, fun k h => hzero k ?_⟩
    rw [List.mem_cons] at h
    rcases h with (h | h) | h
    · exact .inr (s.wordClear_zero i k (.inl h.symm))
    · exact .inl h
    · exact .inr (s.wordClear_zero i k (.inr h))

/-- CLEAR leaves every word of the map 0, and the map that the model uses as it was. -/
theorem State.mapClear_parts (s : State) : s.MapFrame s.mapClear ∧ ∀ k < 1024, s.mapClear.rg Reg.toothmap k = 0 := by
  have heq : s.mapClear = (List.range 1024).foldl State.wordClear s := rfl
  rw [heq]
  obtain ⟨h1, h2⟩ := State.wordsClear (List.range 1024) s
  exact ⟨h1, fun k hk => h2 k (.inl (List.mem_range.2 hk))⟩

end Sys2Proof.Machine
end

section
/-! PROOFS. Predictor failures, the gains and the tooth map: the statement O36. -/

open Sys2Proof Sys2Proof.Machine

namespace Sys2Proof.Proofs

/-! ### Failures of the residues (R104, R107, R108) -/

section
variable {s : State} (hc : s.clocked = true)
include hc

theorem map_shadow {l : List (Nat × Word)} (h : s.prd.shadow = some l) :
    exec .mapShadowDone s = .next ({ s with prd := { s.prd with shadowDone := true } } : State).settle := by
  have hdone : s.mapShadowDone = { s with prd := { s.prd with shadowDone := true } } := by
    unfold State.mapShadowDone
    rw [h]
    rfl
  have hexec : exec .mapShadowDone s = .next s.mapShadowDone.settle := congrArg finish (State.awake_clocked hc State.mapShadowDone)
  rw [hexec, hdone]

/-- A check that fails, with the state that it leaves. -/
theorem check_fails (actBad chkBad : Bool) {t : State} (h : s.prdCheckFail actBad chkBad = t) :
    exec (.predictorCheckFail actBad chkBad) s = .next t.settle := by
  rw [← h]
  exact congrArg finish (State.awake_clocked hc fun t => t.prdCheckFail actBad chkBad)

end

/-- A message of a predictor, from a state with the places of another. -/
theorem instance_emits {s u : State} {cls kind : Nat} (b : Bool) (hcoll : ∀ src ∈ quietSrcs, s.KeepsBox src u) (hn : u.now = s.now) :
    s.Emits (u.emit cls kind (srcP b) 0).settle cls kind (if b then 0x0A1 else 0x0A0) 0
    ∧ (u.emit cls kind (srcP b) 0).settle.prd = u.prd ∧ (u.emit cls kind (srcP b) 0).settle.whl = u.whl
    ∧ (u.emit cls kind (srcP b) 0).settle.mem = u.mem := by
  have hmsg := u.msgFrame_emit cls kind (srcP b) 0
  have hq : srcP b ∈ quietSrcs := by
    cases b with
    | true => decide
    | false => decide
  have hsrc : (if b then 0x0A1 else 0x0A0) = srcP b := by
    cases b with
    | true => rfl
    | false => rfl
  rw [hsrc]
  exact ⟨State.emits_later (hcoll _ hq) (Nat.le_of_eq hn.symm) (fun _ h => h) (Nat.le_of_eq hmsg.now.symm), hmsg.prd, hmsg.whl, hmsg.mem⟩

/-- A retirement changes the predictor alone. -/
theorem retired_parts (s : State) (b : Bool) : (s.prdRetire b).coll = s.coll ∧ (s.prdRetire b).now = s.now ∧ (s.prdRetire b).mem = s.mem
    ∧ (s.prdRetire b).prd.retA = (s.prd.retA || !b) ∧ (s.prdRetire b).prd.retB = (s.prd.retB || b) := ⟨rfl, rfl, rfl, rfl, rfl⟩

/-- No predictor is left once these have been retired. -/
theorem none_left {s : State} (hc : s.clocked = true) {chkBad : Bool} {u : State} (hfail : s.prdCheckFail true chkBad = u.prdNone.emit 2 Kind.predFail (srcP s.prd.act) 0)
    (hcoll : u.coll = s.coll) (hnow : u.now = s.now) (hmem : u.mem = s.mem) :
    ∃ t, exec (.predictorCheckFail true chkBad) s = .next t ∧ t.prd.noInst = true ∧ t.prd.retA = u.prd.retA ∧ t.prd.retB = u.prd.retB
      ∧ t.whl.sync = .nosync ∧ t.whl.ratev = false ∧ t.prd.rate = 0 ∧ s.Emits t 2 0x23 (if s.prd.act then 0x0A1 else 0x0A0) 0
      ∧ t.mem = s.mem := by
  obtain ⟨hnone, hrate, hretA, hretB, hsync, hratev, hmem', hnow', hbox⟩ := u.prdNone_parts
  have hkept (src : Nat) (hq : src ∈ quietSrcs) : s.KeepsBox src u.prdNone := by
    have h := hbox src hq
    unfold State.KeepsBox at h ⊢
    rw [h, hcoll]
  obtain ⟨hemits, hprd, hwhl, hm⟩ := instance_emits (s := s) (cls := 2) (kind := Kind.predFail) s.prd.act hkept (hnow'.trans hnow)
  exact ⟨_, check_fails hc true chkBad hfail, by rw [hprd]; exact hnone, by rw [hprd]; exact hretA, by rw [hprd]; exact hretB,
    by rw [hwhl]; exact hsync, by rw [hwhl]; exact hratev, by rw [hprd]; exact hrate, hemits, hm.trans (hmem'.trans hmem)⟩

section
variable {s : State} (hc : s.clocked = true) (hi : s.prd.noInst = false)
include hc hi

/-- The active predictor fails: the checker takes over. -/
theorem active_fails (hk : s.prd.chkon = true) : ∃ t, exec (.predictorCheckFail true false) s = .next t ∧ t.prd.act = !s.prd.act
    ∧ t.prd.retA = (s.prd.retA || !s.prd.act) ∧ t.prd.retB = (s.prd.retB || s.prd.act) ∧ t.prd.chkon = false ∧ t.whl = s.whl
    ∧ t.prd.seg = s.prd.seg ∧ s.Emits t 1 0x20 (if s.prd.act then 0x0A1 else 0x0A0) 0 := by
  have hfail : s.prdCheckFail true false = ({ s.prdRetire s.prd.act with
      prd := { (s.prdRetire s.prd.act).prd with act := !s.prd.act } } : State).emit 1 Kind.predSwap (srcP s.prd.act) 0 := by
    unfold State.prdCheckFail
    simp [hi, hk]
  obtain ⟨hemits, hprd, hwhl, -⟩ := instance_emits (s := s) (cls := 1) (kind := Kind.predSwap) (u := { s.prdRetire s.prd.act with
    prd := { (s.prdRetire s.prd.act).prd with act := !s.prd.act } }) s.prd.act (fun _ _ => rfl) rfl
  exact ⟨_, check_fails hc true false hfail, by rw [hprd], by rw [hprd]; rfl, by rw [hprd]; rfl, by rw [hprd]; rfl, hwhl, by rw [hprd]; rfl, hemits⟩

/-- The checker fails: it is retired. -/
theorem checker_fails (hk : s.prd.chkon = true) : ∃ t, exec (.predictorCheckFail false true) s = .next t ∧ t.prd.act = s.prd.act
    ∧ t.prd.retA = (s.prd.retA || s.prd.act) ∧ t.prd.retB = (s.prd.retB || !s.prd.act) ∧ t.prd.chkon = false ∧ t.whl = s.whl
    ∧ t.prd.seg = s.prd.seg ∧ s.Emits t 1 0x21 (if !s.prd.act then 0x0A1 else 0x0A0) 0 := by
  have hfail : s.prdCheckFail false true = (s.prdRetire (!s.prd.act)).emit 1 Kind.predChkFail (srcP (!s.prd.act)) 0 := by
    unfold State.prdCheckFail
    simp [hi, hk]
  have hret : (s.prd.retA || !(!s.prd.act)) = (s.prd.retA || s.prd.act) := by rw [Bool.not_not]
  obtain ⟨hemits, hprd, hwhl, -⟩ := instance_emits (s := s) (cls := 1) (kind := Kind.predChkFail) (u := s.prdRetire (!s.prd.act)) (!s.prd.act)
    (fun _ _ => rfl) rfl
  refine ⟨_, check_fails hc false true hfail, by rw [hprd]; rfl, ?_, by rw [hprd]; rfl, by rw [hprd]; rfl, hwhl, by rw [hprd]; rfl, hemits⟩
  rw [hprd]
  exact hret

/-- The results disagree: learning stops. -/
theorem results_disagree (hk : s.prd.chkon = true) : ∃ t, exec (.predictorCheckFail false false) s = .next t ∧ t.prd.noLearn = 2
    ∧ t.prd.shadow = none ∧ t.prd.act = s.prd.act ∧ t.prd.chkon = true ∧ t.whl = s.whl
    ∧ s.Emits t 2 0x22 (if s.prd.act then 0x0A1 else 0x0A0) 0 := by
  have hfail : s.prdCheckFail false false = ({ s with prd := { s.prd with
      noLearn := 2, learnOk := false, shadow := none, shadowDone := false } } : State).emit 2 Kind.predDisagree (srcP s.prd.act) 0 := by
    unfold State.prdCheckFail
    simp [hi, hk]
  obtain ⟨hemits, hprd, hwhl, -⟩ := instance_emits (s := s) (cls := 2) (kind := Kind.predDisagree) (u := { s with prd := { s.prd with
      noLearn := 2, learnOk := false, shadow := none, shadowDone := false } }) s.prd.act (fun _ _ => rfl) rfl
  exact ⟨_, check_fails hc false false hfail, by rw [hprd], by rw [hprd], by rw [hprd], by rw [hprd]; exact hk, hwhl, hemits⟩

/-- Both instances fail. -/
theorem both_fail (hk : s.prd.chkon = true) : ∃ t, exec (.predictorCheckFail true true) s = .next t ∧ t.prd.noInst = true
    ∧ t.prd.retA = true ∧ t.prd.retB = true ∧ t.whl.sync = .nosync ∧ t.whl.ratev = false ∧ t.prd.rate = 0
    ∧ s.Emits t 2 0x23 (if s.prd.act then 0x0A1 else 0x0A0) 0 := by
  have hfail : s.prdCheckFail true true = ((s.prdRetire s.prd.act).prdRetire (!s.prd.act)).prdNone.emit 2 Kind.predFail (srcP s.prd.act) 0 := by
    unfold State.prdCheckFail
    simp [hi, hk]
  obtain ⟨hcoll, hnow, hmem, hretA, hretB⟩ := retired_parts s s.prd.act
  obtain ⟨hcoll', hnow', hmem', hretA', hretB'⟩ := retired_parts (s.prdRetire s.prd.act) (!s.prd.act)
  rw [hretA, Bool.not_not] at hretA'
  rw [hretB] at hretB'
  obtain ⟨t, hexec, h1, h2, h3, h4, h5, h6, h7, -⟩ := none_left hc hfail (hcoll'.trans hcoll) (hnow'.trans hnow) (hmem'.trans hmem)
  refine ⟨t, hexec, h1, h2.trans (hretA'.trans ?_), h3.trans (hretB'.trans ?_), h4, h5, h6, h7⟩
  · cases s.prd.act <;> simp
  · cases s.prd.act <;> simp

/-- The only predictor fails. -/
theorem only_fails (hk : s.prd.chkon = false) : ∃ t, exec (.predictorCheckFail true false) s = .next t ∧ t.prd.noInst = true
    ∧ t.whl.sync = .nosync ∧ t.mem = s.mem := by
  have hfail : s.prdCheckFail true false = (s.prdRetire s.prd.act).prdNone.emit 2 Kind.predFail (srcP s.prd.act) 0 := by
    unfold State.prdCheckFail
    simp [hi, hk]
  obtain ⟨t, hexec, h1, -, -, h4, -, -, -, h8⟩ := none_left (u := s.prdRetire s.prd.act) hc hfail rfl rfl rfl
  exact ⟨t, hexec, h1, h4, h8⟩

end

end Sys2Proof.Proofs
end

section
/-! PROOFS. Writes of the gains and of the tooth map: the statement O36. -/

open Sys2Proof Sys2Proof.Machine

namespace Sys2Proof.Proofs

/-- A row whose words have fields of the code RW alone. -/
def rwRow (r : RegRow) : Bool :=
  decide (r.rwl = 0) && decide (r.w1c = 0) && decide (r.w1s = 0) && decide (r.lock = 0) && decide (r.rw ≠ 0)
    && decide (r.base ≠ Reg.sealxCfg.base) && decide (r.base ≠ Reg.sealxMask.base) && !decide (0x70000100 ≤ r.base ∧ r.base < 0x70000200)

section
variable {r : RegRow} (hr : rwRow r = true) (s : State) (p : Fin 11) (i : Nat) (v : Word)
include hr

theorem merged_rw : s.merged r i 0 v = (s.rg r i 0 &&& ~~~BitVec.ofNat 32 r.rw) ||| (v &&& BitVec.ofNat 32 r.rw) := by
  simp only [rwRow, Bool.and_eq_true, decide_eq_true_eq, Bool.not_eq_true', decide_eq_false_iff_not] at hr
  obtain ⟨⟨⟨⟨⟨⟨⟨hrwl, hw1c⟩, hw1s⟩, hlock⟩, -⟩, hseal⟩, hmask⟩, -⟩ := hr
  have hrow : s.rowLocked r i = false := by simp [State.rowLocked, hlock]
  rw [State.merged_coded ⟨hseal, hmask⟩ (by simp [hrwl])]
  unfold State.codedWord State.w1cOpen RegRow.openBits
  rw [hrow, hw1c, hw1s, hrwl, Nat.and_zero, Nat.zero_and, if_neg Bool.false_ne_true, Nat.or_zero]
  generalize (s.rg r i 0 &&& ~~~BitVec.ofNat 32 r.rw) ||| (v &&& BitVec.ofNat 32 r.rw) = x
  have hones : ~~~BitVec.ofNat 32 0 = BitVec.allOnes 32 := rfl
  rw [hones, BitVec.and_allOnes, BitVec.and_zero, BitVec.or_zero]

/-- A write of a word with fields of the code RW alone. -/
theorem store_standing : s.store p r i 0 v
    = ((s.hw (wroteKey (r.addr i 0)) (portRank p)).setRg r i 0 (s.standing p r i 0 v)).unflip (r.addr i 0) := by
  simp only [rwRow, Bool.and_eq_true, decide_eq_true_eq, Bool.not_eq_true', decide_eq_false_iff_not] at hr
  obtain ⟨⟨⟨⟨⟨⟨⟨hrwl, -⟩, -⟩, hlock⟩, hrw⟩, hseal⟩, hmask⟩, hao⟩ := hr
  have hrow : s.rowLocked r i = false := by simp [State.rowLocked, hlock]
  have hnote : s.lockNote p r i 0 v = s := by
    unfold State.lockNote
    rw [State.fixedBits_unsealed ⟨hseal, hmask⟩, hrow, if_pos (by simp [wordN])]
  unfold State.store State.storeAs
  dsimp only
  rw [hnote, if_neg hao, if_neg (by simp [State.allLocked, hrow]), if_neg (by simpa [hrwl] using hrw)]

/-- The same in time. -/
theorem store_rw (hout : s.outranked p (r.addr i 0) = false) : s.store p r i 0 v = (((s.hw (wroteKey (r.addr i 0)) (portRank p)).setRg r i 0
      ((s.rg r i 0 &&& ~~~BitVec.ofNat 32 r.rw) ||| (v &&& BitVec.ofNat 32 r.rw))).unflip (r.addr i 0)) := by
  have hstand : s.standing p r i 0 v = s.merged r i 0 v := by
    unfold State.standing
    dsimp only
    rw [hout, if_neg Bool.false_ne_true]
  rw [store_standing hr, hstand, merged_rw hr]

/-- A bit that a write leaves as it is stands, whichever source wrote last. -/
theorem standing_bit {n : Nat} (hv : v.getLsbD n = (s.rg r i 0).getLsbD n) : (s.standing p r i 0 v).getLsbD n = (s.rg r i 0).getLsbD n := by
  unfold State.standing
  dsimp only
  by_cases hn : n < 32
  · split
    · rw [merged_rw hr]
      simp only [BitVec.getLsbD_or, BitVec.getLsbD_and, BitVec.getLsbD_not, hn, decide_true, Bool.true_and, hv]
      generalize (s.rg r i 0).getLsbD n = a
      generalize (BitVec.ofNat 32 r.rw).getLsbD n = b
      generalize (wordN (r.rw ||| r.rwl)).getLsbD n = c
      revert a b c
      decide
    · rw [merged_rw hr]
      simp only [BitVec.getLsbD_or, BitVec.getLsbD_and, BitVec.getLsbD_not, hn, decide_true, Bool.true_and, hv]
      generalize (s.rg r i 0).getLsbD n = a
      generalize (BitVec.ofNat 32 r.rw).getLsbD n = b
      revert a b
      decide
  · rw [BitVec.getLsbD_of_ge _ _ (by omega), BitVec.getLsbD_of_ge _ _ (by omega)]

end

/-- A write that is refused as busy, with its note. -/
theorem busy_noted (s : State) (p : Fin 2) (kind addr : Nat) (ha : addr < 2 ^ 32) :
    ∃ t, finish ((s.note kind (portOf2 p) addr).answered p .busy) = .next t ∧ t.answer p = .busy ∧ t.prd = s.prd
      ∧ (∀ r i j, r.addr i j ≠ Reg.fltStat.addr 0 0 → t.rg r i j = s.rg r i j)
      ∧ s.Emits t 0 kind (if p = 0 then 0x20F else 0x21F) addr := by
  have hsrc : portSrc (portOf2 p) = if p = 0 then 0x20F else 0x21F := by
    fin_cases p
    · rfl
    · rfl
  have hmsg := s.msgFrame_emit 0 kind (portSrc (portOf2 p)) addr
  have hnote : s.note kind (portOf2 p) addr = s.emit 0 kind (portSrc (portOf2 p)) addr := by
    rw [State.note, Nat.mod_eq_of_lt ha]
  rw [hnote, ← hsrc]
  obtain ⟨h, m, heq⟩ := answered_parts (s.emit 0 kind (portSrc (portOf2 p)) addr) p .busy
  refine ⟨_, rfl, answered_answer _ p (by decide), ?_, fun r i j hn => ?_, ?_⟩
  · rw [heq]
    exact hmsg.prd
  · rw [heq]
    exact hmsg.2 r i j hn
  · rw [heq]
    exact State.emits_emit (u := s) rfl (Nat.le_refl _) (fun _ h => h) (Nat.le_of_eq hmsg.now.symm)

/-- What a taken write of a word of the model leaves: the word, and the one that the model uses until the next tooth. -/
def heldWritten (s : State) (p : Fin 2) (t : State) (r : RegRow) (k : Nat) (w : Word) : Prop :=
  t.answer p = .ok ∧ t.rg r k 0 = w ∧ t.pw r k = s.pw r k
    ∧ t = { s with
        regs := (s.setRg r k 0 w).regs, hwSet := t.hwSet, inj := (s.unflip (r.addr k 0)).inj
        prd := { s.prd with heldRegs := t.prd.heldRegs }, host := t.host, mnt := t.mnt, pins := t.pins }

/-- A write in time of a word that the model holds. -/
theorem held_write {s : State} {p : Fin 2} {r : RegRow} {k : Nat} (hr : rwRow r = true) (hreset : ∀ i j, resetWord r i = resetWord r j)
    (hout : s.outranked (portOf2 p) (r.addr k 0) = false) (v : Word) :
    ∃ t, finish ((((s.holdWord r k).store (portOf2 p) r k 0 v)).answered p .ok) = .next t
      ∧ heldWritten s p t r k ((s.rg r k 0 &&& ~~~BitVec.ofNat 32 r.rw) ||| (v &&& BitVec.ofNat 32 r.rw)) := by
  obtain ⟨hr', hhold⟩ := s.holdWord_parts r k
  have hout' : (s.holdWord r k).outranked (portOf2 p) (r.addr k 0) = false := by rw [hhold]; exact hout
  have hrg : (s.holdWord r k).rg r k 0 = s.rg r k 0 := by rw [hhold]; rfl
  have hholds : (s.holdWord r k).holds (r.addr k 0) = true := by rw [State.holdWord_holds, decide_eq_true rfl, Bool.or_true]
  have hpw := s.pw_holdWord hreset k k
  rw [store_rw hr _ _ _ v hout', hrg]
  generalize (s.rg r k 0 &&& ~~~BitVec.ofNat 32 r.rw) ||| (v &&& BitVec.ofNat 32 r.rw) = w
  obtain ⟨hs, hx⟩ : ∃ hs, (((s.holdWord r k).hw (wroteKey (r.addr k 0)) (portRank (portOf2 p))).setRg r k 0 w).unflip (r.addr k 0)
      = { s with
          regs := (s.setRg r k 0 w).regs, hwSet := hs, inj := (s.unflip (r.addr k 0)).inj
          prd := { s.prd with heldRegs := hr' } } := by
    rw [hhold]
    exact ⟨_, rfl⟩
  have hheld : (s.holdWord r k).prd.heldRegs = hr' := by rw [hhold]
  rw [hx]
  clear hx hout' hrg hhold
  unfold heldWritten
  generalize hq : (s.unflip (r.addr k 0)).inj = fl
  have hreg : ∀ t : State, t.regs = (s.setRg r k 0 w).regs → t.rg r k 0 = w := fun t ht =>
    (State.rg_congr ht r k 0).trans (State.setRg_rg s r k 0 w)
  generalize (s.setRg r k 0 w).regs = g at hreg
  obtain ⟨h, m, heq⟩ := answered_parts ({ s with regs := g, hwSet := hs, inj := fl, prd := { s.prd with heldRegs := hr' } } : State) p .ok
  have hans := answered_answer ({ s with regs := g, hwSet := hs, inj := fl, prd := { s.prd with heldRegs := hr' } } : State) p
    (st := .ok) (by decide)
  rw [heq] at hans ⊢
  exact ⟨_, rfl, hans, hreg _ rfl, (State.pw_of_holds hheld.symm hholds).trans hpw, rfl⟩

/-! ### The addresses of the tooth map -/

/-- A row whose elements all lie outside a range of addresses. -/
def rowApart (lo hi : Nat) (q : RegRow) : Bool :=
  decide (hi < q.base) || decide (q.base + q.s1 * (q.n1 - 1) + q.s2 * (max q.n2 1 - 1) < lo)

theorem find_apart {lo hi a : Nat} {q : RegRow} (h : rowApart lo hi q = true) (hlo : lo ≤ a) (hhi : a ≤ hi) : q.find a = none := by
  simp only [rowApart, Bool.or_eq_true, decide_eq_true_eq] at h
  unfold RegRow.find
  by_cases hb : a < q.base
  · exact if_pos hb
  · rw [if_neg hb]
    dsimp only
    refine if_neg ?_
    rintro ⟨hi', hj', ha⟩
    generalize (if q.n1 ≤ 1 then 0 else if q.n2 ≤ 1 ∨ q.s1 ≥ q.s2 then (a - q.base) / q.s1 else (a - q.base) % q.s2 / q.s1) = i at hi' hj' ha
    generalize (if q.n2 ≤ 1 then 0 else (a - q.base - q.s1 * i) / q.s2) = j at hj' ha
    have h1 : q.s1 * i ≤ q.s1 * (q.n1 - 1) := Nat.mul_le_mul_left _ (by omega)
    have h2 : q.s2 * j ≤ q.s2 * (max q.n2 1 - 1) := Nat.mul_le_mul_left _ (by omega)
    unfold RegRow.addr at ha
    omega

/-- The rows before that of the tooth map lie apart from it. -/
theorem toothmap_first : ∃ l1 l2, regRows = l1 ++ Reg.toothmap :: l2 ∧ ∀ q ∈ l1, rowApart 0x10004000 0x10004FFF q = true :=
  ⟨regRows.takeWhile fun q => decide (q.base ≠ Reg.toothmap.base), (regRows.dropWhile fun q => decide (q.base ≠ Reg.toothmap.base)).tail,
    rfl, by decide +kernel⟩

theorem findReg_toothmap (j : Fin 1024) : findReg (Reg.toothmap.addr j.val 0) = some (Reg.toothmap, j.val, 0) := by
  obtain ⟨l1, l2, hl, hapart⟩ := toothmap_first
  have hfind : Reg.toothmap.find (Reg.toothmap.addr j.val 0) = some (j.val, 0) := by
    have hj := j.isLt
    unfold RegRow.find
    rw [toothmap_addr]
    simp only [Reg.toothmap, RegRow.addr]
    simp
  have hnone : (l1.findSome? fun r => (r.find (Reg.toothmap.addr j.val 0)).map fun ij => (r, ij.1, ij.2)) = none := by
    rw [List.findSome?_eq_none_iff]
    intro q hq
    rw [find_apart (hapart q hq) (by rw [toothmap_addr]; omega) (by rw [toothmap_addr]; omega)]
    rfl
  unfold findReg
  rw [hl, List.findSome?_append, hnone, List.findSome?_cons, hfind]
  rfl

theorem addrCheck_toothmap (j : Fin 1024) : addrCheck (Reg.toothmap.addr j.val 0) Reg.toothmap j.val 0 = true := by
  have hj := j.isLt
  have hf := findReg_toothmap j
  have ha := toothmap_addr j.val
  generalize Reg.toothmap.addr j.val 0 = a at hf ha
  have hs : sramAt a = none := dif_neg (by omega)
  have htb : traceBase = 0x100000000 := rfl
  have ht : traceAt a = none := if_neg (by rw [htb]; omega)
  have htest : testReg a = false := by
    unfold testReg
    rw [Bool.and_eq_false_iff]
    exact .inl (decide_eq_false (by omega))
  unfold addrCheck
  rw [hs, ht, htest, hf, decide_eq_true (show a % 4 = 0 by omega), decide_eq_true (show a < 0x11000000 by omega)]
  simp

/-! ### The two rows and CLEAR (R100, R105) -/

theorem addrCheck_ripGain : ∀ i : Fin 24, addrCheck (Reg.ripGain.addr i.val 0) Reg.ripGain i.val 0 = true := by decide +kernel
theorem addrCheck_mapCtl : addrCheck (Reg.prdMapCtl.addr 0 0) Reg.prdMapCtl 0 0 = true := by decide +kernel
theorem ripGain_low : ∀ i : Fin 24, Reg.ripGain.addr i.val 0 < 0x20000000 ∧ Reg.ripGain.addr i.val 0 ≠ Reg.fltStat.addr 0 0 := by decide

theorem toothmap_low (j : Fin 1024) : Reg.toothmap.addr j.val 0 < 0x20000000 ∧ Reg.toothmap.addr j.val 0 ≠ Reg.fltStat.addr 0 0 := by
  have hf : Reg.fltStat.addr 0 0 = 0x60000000 := rfl
  rw [toothmap_addr, hf]
  omega

section
variable {s : State} {p : Fin 2} (hw : s.Writable p)
include hw

/-- A write of a gain. -/
theorem gain_write (i : Fin 24) (v : Word) : exec (.ripGainWrite p i v) s
    = if s.gainWritable then finish (((s.holdWord Reg.ripGain i.val).store (portOf2 p) Reg.ripGain i.val 0 v).answered p .ok)
      else finish ((s.note Kind.mapBusy (portOf2 p) (Reg.ripGain.addr i.val 0)).answered p .busy) := by
  have hreply : s.regWrite (portOf2 p) Reg.ripGain i.val 0 v = if s.gainWritable then
      ((s.holdWord Reg.ripGain i.val).store (portOf2 p) Reg.ripGain i.val 0 v, Status.ok)
    else s.mapBusy (portOf2 p) (Reg.ripGain.addr i.val 0) := rfl
  have hexec : exec (.ripGainWrite p i v) s = finish (s.portWrite p (Reg.ripGain.addr i.val 0) v 0 false) := rfl
  rw [hexec, State.portWrite_row hw (addrCheck_ripGain i) (.inl (ripGain_low i).1) (by decide) rfl, hreply]
  split
  · rfl
  · rfl

/-- A write of a word of the map; CORR of position 0 ignores writes (R101). -/
theorem map_write (j : Fin 1024) (v : Word) : exec (.toothMapWrite p j v) s
    = if s.mapWritable then finish (((s.holdWord Reg.toothmap j.val).store (portOf2 p) Reg.toothmap j.val 0
        (if j.val = 0 then setFld v 19 0 0 else v)).answered p .ok)
      else finish ((s.note Kind.mapBusy (portOf2 p) (Reg.toothmap.addr j.val 0)).answered p .busy) := by
  have hreply : s.regWrite (portOf2 p) Reg.toothmap j.val 0 v = if s.mapWritable then
      ((s.holdWord Reg.toothmap j.val).store (portOf2 p) Reg.toothmap j.val 0 (if Reg.toothmap.base = Reg.toothmap.base ∧ j.val = 0 then
        setFld v 19 0 0 else v), Status.ok)
    else s.mapBusy (portOf2 p) (Reg.toothmap.addr j.val 0) := rfl
  have hexec : exec (.toothMapWrite p j v) s = finish (s.portWrite p (Reg.toothmap.addr j.val 0) v 0 false) := rfl
  simp only [true_and] at hreply
  rw [hexec, State.portWrite_row hw (addrCheck_toothmap j) (.inl (toothmap_low j).1) (by decide) rfl, hreply]
  split
  · rfl
  · rfl

/-- CLEAR with FREEZE as it stands. -/
theorem clear_write : exec (.mapClear p) s = finish ((s.mapCtlWrite (portOf2 p) (wordN (2 + s.rf Reg.prdMapCtl 0 0 0))).1.answered p
    (s.mapCtlWrite (portOf2 p) (wordN (2 + s.rf Reg.prdMapCtl 0 0 0))).2) := by
  have hexec : exec (.mapClear p) s = finish (s.portWrite p (Reg.prdMapCtl.addr 0 0) (wordN (2 + s.rf Reg.prdMapCtl 0 0 0)) 0 false) := rfl
  have hreply (v : Word) : s.regWrite (portOf2 p) Reg.prdMapCtl 0 0 v = s.mapCtlWrite (portOf2 p) v := rfl
  rw [hexec, State.portWrite_row hw addrCheck_mapCtl (by decide) (by decide) rfl, hreply]

end

end Sys2Proof.Proofs
end

section
/-! PROOFS. CLEAR of the tooth map, and the statement O36. -/

open Sys2Proof Sys2Proof.Machine

namespace Sys2Proof.Proofs

/-! ### CLEAR (R105) -/

/-- PRD_MAP_CTL with CLEAR, and FREEZE as it stands. -/
theorem clearWord_bits (s : State) : bit (wordN (2 + s.rf Reg.prdMapCtl 0 0 0)) 1 = true
    ∧ (wordN (2 + s.rf Reg.prdMapCtl 0 0 0)).getLsbD 0 = (s.rg Reg.prdMapCtl 0 0).getLsbD 0 := by
  have hf : s.rf Reg.prdMapCtl 0 0 0 = bitAt ((s.rg Reg.prdMapCtl 0 0).getLsbD 0) 0 := by
    unfold State.rf fld bitAt
    rw [← BitVec.testBit_toNat]
    generalize (s.rg Reg.prdMapCtl 0 0).toNat = w
    rw [Nat.testBit_zero]
    have hlt : w % 2 < 2 := Nat.mod_lt _ (by decide)
    by_cases h : w % 2 = 1
    · simp [h]
    · have h0 : w % 2 = 0 := by omega
      simp [h0]
  rw [hf]
  generalize (s.rg Reg.prdMapCtl 0 0).getLsbD 0 = b
  revert b
  decide

theorem mapCtl_apart (k : Fin 1024) : Reg.toothmap.addr k.val 0 ≠ Reg.prdMapCtl.addr 0 0 := by
  have hc : Reg.prdMapCtl.addr 0 0 = 0x10000408 := rfl
  rw [toothmap_addr, hc]
  omega

/-- The write of PRD_MAP_CTL leaves FREEZE, the map and the model. -/
theorem clear_stored (s : State) (p : Fin 11) : ∃ u : State, s.store p Reg.prdMapCtl 0 0 (wordN (2 + s.rf Reg.prdMapCtl 0 0 0)) = u
    ∧ (∃ g hs fl, u = { s with regs := g, hwSet := hs, inj := fl }) ∧ u.mapWritable = s.mapWritable
    ∧ ∀ k : Fin 1024, u.pw Reg.toothmap k.val = s.pw Reg.toothmap k.val := by
  have hbit := standing_bit (r := Reg.prdMapCtl) (by decide) s p 0 _ (clearWord_bits s).2
  generalize wordN (2 + s.rf Reg.prdMapCtl 0 0 0) = v at hbit
  rw [store_standing (by decide)]
  generalize s.standing p Reg.prdMapCtl 0 0 v = w at hbit
  refine ⟨_, rfl, ⟨_, _, _, rfl⟩, ?_, fun k => ?_⟩
  · have hrb : (((s.hw (wroteKey (Reg.prdMapCtl.addr 0 0)) (portRank p)).setRg Reg.prdMapCtl 0 0 w).unflip
        (Reg.prdMapCtl.addr 0 0)).rb Reg.prdMapCtl 0 0 = s.rb Reg.prdMapCtl 0 0 := by
      have hrg : (((s.hw (wroteKey (Reg.prdMapCtl.addr 0 0)) (portRank p)).setRg Reg.prdMapCtl 0 0 w).unflip
        (Reg.prdMapCtl.addr 0 0)).rg Reg.prdMapCtl 0 0 = w := State.setRg_rg ..
      unfold State.rb bit
      rw [hrg, BitVec.testBit_toNat, BitVec.testBit_toNat, hbit]
    unfold State.mapWritable
    rw [hrb]
    rfl
  · have hrg : (((s.hw (wroteKey (Reg.prdMapCtl.addr 0 0)) (portRank p)).setRg Reg.prdMapCtl 0 0 w).unflip
        (Reg.prdMapCtl.addr 0 0)).rg Reg.toothmap k.val 0 = s.rg Reg.toothmap k.val 0 :=
      State.setRg_rg_ne _ Reg.prdMapCtl Reg.toothmap _ _ _ _ _ (mapCtl_apart k)
    unfold State.pw
    rw [hrg]
    rfl

/-- The answer to a CLEAR that has been made. -/
theorem cleared_answer {s u x : State} (p : Fin 2) (hu : ∃ g hs fl, u = { s with regs := g, hwSet := hs, inj := fl })
    (hpw : ∀ k : Fin 1024, u.pw Reg.toothmap k.val = s.pw Reg.toothmap k.val) (hx : u.MapFrame x)
    (hzero : ∀ k < 1024, x.rg Reg.toothmap k = 0) : ∃ t, finish (x.answered p .ok) = .next t ∧ t.answer p = .ok
    ∧ t = { s with
        regs := t.regs, hwSet := t.hwSet, inj := t.inj, prd := { s.prd with heldRegs := t.prd.heldRegs }, host := t.host
        mnt := t.mnt, pins := t.pins }
    ∧ ∀ k : Fin 1024, t.rg Reg.toothmap k.val 0 = 0 ∧ t.pw Reg.toothmap k.val = s.pw Reg.toothmap k.val := by
  obtain ⟨g, hs, fl, hu⟩ := hu
  obtain ⟨⟨g', hr, fl', hx⟩, hpw'⟩ := hx
  have hans := answered_answer x p (st := .ok) (by decide)
  obtain ⟨h, m, heq⟩ := answered_parts x p .ok
  have hrg (k : Fin 1024) : (x.answered p .ok).settle.rg Reg.toothmap k.val 0 = 0 := by
    rw [heq]
    exact hzero k.val k.isLt
  have hpws (k : Fin 1024) : (x.answered p .ok).settle.pw Reg.toothmap k.val = s.pw Reg.toothmap k.val := by
    rw [heq]
    exact (hpw' k.val).trans (hpw k)
  refine ⟨_, rfl, hans, ?_, fun k => ⟨hrg k, hpws k⟩⟩
  rw [heq, hx, hu]
  rfl

section
variable {s : State} {p : Fin 2} (hw : s.Writable p)
include hw

/-- CLEAR where the map may be written. -/
theorem clear_taken (hm : s.mapWritable = true) : ∃ t, exec (.mapClear p) s = .next t ∧ t.answer p = .ok
    ∧ t = { s with
        regs := t.regs, hwSet := t.hwSet, inj := t.inj, prd := { s.prd with heldRegs := t.prd.heldRegs }, host := t.host
        mnt := t.mnt, pins := t.pins }
    ∧ ∀ k : Fin 1024, t.rg Reg.toothmap k.val 0 = 0 ∧ t.pw Reg.toothmap k.val = s.pw Reg.toothmap k.val := by
  obtain ⟨u, hstore, hu, hmw, hpw⟩ := clear_stored s (portOf2 p)
  have hreply : s.mapCtlWrite (portOf2 p) (wordN (2 + s.rf Reg.prdMapCtl 0 0 0)) = (u.mapClear, .ok) := by
    unfold State.mapCtlWrite
    dsimp only
    rw [hstore, (clearWord_bits s).1, if_neg (by decide), hmw, if_pos hm]
  obtain ⟨x, hx⟩ : ∃ x, x = u.mapClear := ⟨_, rfl⟩
  obtain ⟨hframe, hzero⟩ := u.mapClear_parts
  rw [← hx] at hframe hzero hreply
  rw [clear_write hw, hreply]
  exact cleared_answer p hu hpw hframe hzero

/-- CLEAR where it may not. -/
theorem clear_refused (hm : s.mapWritable = false) : exec (.mapClear p) s
    = finish ((s.note Kind.mapBusy (portOf2 p) Reg.prdMapCtl.base).answered p .busy) := by
  obtain ⟨u, hstore, -, hmw, -⟩ := clear_stored s (portOf2 p)
  have hreply : s.mapCtlWrite (portOf2 p) (wordN (2 + s.rf Reg.prdMapCtl 0 0 0)) = s.mapBusy (portOf2 p) Reg.prdMapCtl.base := by
    unfold State.mapCtlWrite
    dsimp only
    rw [hstore, (clearWord_bits s).1, if_neg (by decide), hmw, hm, if_neg (by decide)]
  rw [clear_write hw, hreply]
  rfl

end

/-- CORR of position 0 ignores a write. -/
theorem mapZero_word (v : Word) : setFld v 19 0 0 &&& BitVec.ofNat 32 Reg.toothmap.rw = v &&& 0xFF00000 := by
  have hset : setFld v 19 0 0 = BitVec.ofNat 32 (v.toNat &&& 0xFFF00000) := by
    unfold setFld
    dsimp only
    rw [Nat.zero_mod, Nat.zero_mul, Nat.or_zero]
    rfl
  have hlt : v.toNat &&& 0xFFF00000 < 2 ^ 32 := lt_of_le_of_lt Nat.and_le_left v.isLt
  apply BitVec.eq_of_toNat_eq
  rw [hset, BitVec.toNat_and, BitVec.toNat_and, BitVec.toNat_ofNat, Nat.mod_eq_of_lt hlt, Nat.and_assoc]
  rfl

/-- Settles O36: which predictor fails decides what becomes of the two, and a write of a gain or of the map holds the word that the
model uses. -/
theorem predictorsAndMap : Obligations.PredictorsAndMap := by
  unfold Obligations.PredictorsAndMap
  intro s p i j v hc a src port rank
  refine ⟨fun l h => map_shadow hc h, fun hi hk => ⟨active_fails hc hi hk, checker_fails hc hi hk, both_fail hc hi hk,
    results_disagree hc hi hk⟩, fun hi hk => only_fails hc hi hk, fun hw => ?_⟩
  intro written
  have hin {x : Nat} (h : s.hwNow (wroteKey x) < 2 * rank) : s.outranked (portOf2 p) x = false := by
    rw [portSrc_lit]
    exact decide_eq_false (Nat.not_le.2 h)
  refine ⟨fun hg hlt => ?_, fun hg => ?_, fun hm hlt => ?_, fun hm => ?_, fun hm => clear_taken hw hm, fun hm => ?_⟩
  · rw [gain_write hw, if_pos hg]
    exact held_write (r := Reg.ripGain) (by decide) (fun _ _ => rfl) (hin hlt) v
  · rw [gain_write hw, if_neg (by rw [hg]; decide)]
    obtain ⟨t, hx, hans, hprd, hrg, hemits⟩ := busy_noted s p Kind.mapBusy (Reg.ripGain.addr i.val 0) (by have := (ripGain_low i).1; omega)
    exact ⟨t, hx, hans, hprd, hrg _ _ _ (ripGain_low i).2, hemits⟩
  · rw [map_write hw, if_pos hm]
    have h := held_write (r := Reg.toothmap) (p := p) (by decide) toothmap_reset (hin hlt) (if j.val = 0 then setFld v 19 0 0 else v)
    have hword : (if j.val = 0 then setFld v 19 0 0 else v) &&& BitVec.ofNat 32 Reg.toothmap.rw
        = if j = 0 then v &&& 0xFF00000 else v &&& 0xFFFFFFF := by
      by_cases hj : j = 0
      · have hj0 : j.val = 0 := congrArg Fin.val hj
        rw [if_pos hj0, if_pos hj]
        exact mapZero_word v
      · have hne : j.val ≠ 0 := fun h => hj (Fin.ext h)
        rw [if_neg hne, if_neg hj]
        rfl
    rw [hword] at h
    exact h
  · rw [map_write hw, if_neg (by rw [hm]; decide)]
    obtain ⟨t, hx, hans, hprd, hrg, hemits⟩ := busy_noted s p Kind.mapBusy (Reg.toothmap.addr j.val 0) (by have := (toothmap_low j).1; omega)
    exact ⟨t, hx, hans, hprd, hrg _ _ _ (toothmap_low j).2, hemits⟩
  · rw [clear_refused hw hm]
    obtain ⟨t, hx, hans, -, hrg, hemits⟩ := busy_noted s p Kind.mapBusy Reg.prdMapCtl.base (by decide)
    exact ⟨t, hx, hans, hrg _ _ _ (toothmap_low j).2, hemits⟩

end Sys2Proof.Proofs
end

section
/-! PROOFS. RELEASE outside the safe actuation state (R423): the statement O58 has its write end OK at once in every state, but one that finds
an earlier RELEASE still pending waits for the driver die's answer. -/

open Sys2Proof Sys2Proof.Machine

-- A kernel evaluation waits for every declaration before it: in turn, the theorems here do not pile up.
set_option Elab.async false

namespace Sys2Proof.Proofs

/-- In RUN, out of the safe actuation state and with a live driver die link, a RELEASE is pending that no write waits for. -/
def releasePending : State := { State.reset with
  sys := { State.reset.sys with st := .run, pll := true }
  links := { State.reset.links with lastGood := some State.reset.now }
  coll := { State.reset.coll with safe := false, lineA := false, lineB := false, safeLineSeen := false, relPend := true, relWait := none } }

/-- Whether a port's write waits for the answer to a release after a command. -/
def releaseWaitsAfter : Out → Option Bool
  | .next t => some t.coll.relWait.isSome
  | _ => none

/-- Refutes O58: the write of the release waits; the statement has it end with OK and nothing wait. -/
theorem not_collectorAndSafeState : ¬ Obligations.CollectorAndSafeState := by
  intro h
  obtain ⟨hport, -⟩ := h releasePending 0 0 0 (by decide +kernel)
  obtain ⟨-, -, -, -, hrelease, -⟩ := hport (by decide +kernel)
  have hends := congrArg releaseWaitsAfter (hrelease (by decide +kernel) (by decide +kernel))
  have hmodel : releaseWaitsAfter (exec (.fltRelease 0) releasePending) = some true := by decide +kernel
  rw [hmodel] at hends
  exact absurd hends (by decide +kernel)

end Sys2Proof.Proofs
end

section
/-! SUPPORT. The end of a self-test: what the outcomes of its items leave, and the CLOCK_FAIL that waits (R447, R453, R458). -/

namespace Sys2Proof.Machine

/-! ### The frame of a self-test's items -/

/-- The device state, the time, the memory and the collector's safe state stand, and so does what waits from the clock monitor. -/
def State.TestFrame (s t : State) : Prop :=
  t.sys = s.sys ∧ t.now = s.now ∧ t.mem = s.mem ∧ t.pending = s.pending ∧ t.coll.safe = s.coll.safe ∧ s.KeepsBox 0x31F t

/-- The clusters and the predictor stand as well. -/
def State.ItemFrame (s t : State) : Prop := s.TestFrame t ∧ t.clu = s.clu ∧ t.prd = s.prd

theorem State.TestFrame.refl (s : State) : s.TestFrame s := ⟨rfl, rfl, rfl, rfl, rfl, rfl⟩

theorem State.TestFrame.trans {s t u : State} (h : s.TestFrame t) (h' : t.TestFrame u) : s.TestFrame u := by
  obtain ⟨h1, h2, h3, h4, h5, h6⟩ := h
  obtain ⟨g1, g2, g3, g4, g5, g6⟩ := h'
  exact ⟨g1.trans h1, g2.trans h2, g3.trans h3, g4.trans h4, g5.trans h5, Eq.trans g6 h6⟩

/-- A change of parts beside those of the frame. -/
theorem State.TestFrame.of_eq {s t : State} (h1 : t.sys = s.sys) (h2 : t.now = s.now) (h3 : t.mem = s.mem) (h4 : t.pending = s.pending)
    (h5 : t.coll = s.coll) : s.TestFrame t := ⟨h1, h2, h3, h4, by rw [h5], State.KeepsBox.of_coll h5⟩

theorem State.ItemFrame.refl (s : State) : s.ItemFrame s := ⟨.refl s, rfl, rfl⟩

theorem State.ItemFrame.trans {s t u : State} (h : s.ItemFrame t) (h' : t.ItemFrame u) : s.ItemFrame u :=
  ⟨h.1.trans h'.1, h'.2.1.trans h.2.1, h'.2.2.trans h.2.2⟩

theorem State.ItemFrame.ite {s t u : State} {p : Prop} [Decidable p] (ht : s.ItemFrame t) (hu : s.ItemFrame u) :
    s.ItemFrame (if p then t else u) := by
  split
  · exact ht
  · exact hu

theorem State.ItemFrame.foldl {α : Type} {f : State → α → State} (hf : ∀ (t : State) (x : α), t.ItemFrame (f t x)) (l : List α) (s : State) :
    s.ItemFrame (l.foldl f s) := by
  induction l generalizing s with
  | nil => exact .refl s
  | cons x l ih => exact (hf s x).trans (ih _)

/-- A change of parts beside those of the frame, the clusters and the predictor. -/
theorem State.ItemFrame.of_eq {s t : State} (h1 : t.sys = s.sys) (h2 : t.now = s.now) (h3 : t.mem = s.mem) (h4 : t.pending = s.pending)
    (h5 : t.coll = s.coll) (h6 : t.clu = s.clu) (h7 : t.prd = s.prd) : s.ItemFrame t := ⟨.of_eq h1 h2 h3 h4 h5, h6, h7⟩

theorem State.Stir.pending {s t : State} (h : s.Stir t) : t.pending = s.pending := by
  obtain ⟨⟨_, _, _, _, _, _, _, _, _, _, _, _, _, _, _, _, ht⟩, -⟩ := h
  rw [ht]

theorem State.Stir.itemFrame {s t : State} (h : s.Stir t) : s.ItemFrame t := by
  obtain ⟨ob, kp, hc⟩ := h.coll
  exact ⟨⟨h.sys, h.now, h.mem, h.pending, by rw [hc], h.2.2 _ (by decide)⟩, h.clu, h.prd⟩

/-- A message of another source than the clock monitor. -/
theorem State.itemFrame_emit (s : State) (cls kind : Nat) {src : Nat} (ctx : Nat) (h : src ≠ 0x31F) : s.ItemFrame (s.emit cls kind src ctx) := by
  have hsafe : (s.emit cls kind src ctx).coll.safe = s.coll.safe := by rw [State.emit_outboxPut, outboxPut_places]
  obtain ⟨co, l, g, hs, heq⟩ := s.emit_parts cls kind src ctx
  refine ⟨⟨?_, ?_, ?_, ?_, hsafe, s.keepsBox_emit cls kind ctx h⟩, ?_, ?_⟩ <;> rw [heq]

theorem State.itemFrame_hostEvent (s : State) (b n : Nat) : s.ItemFrame (s.hostEvent b n) := by
  rw [State.hostEvent_parts]
  exact .of_eq rfl rfl rfl rfl rfl rfl rfl

theorem State.itemFrame_bump (s : State) (r : RegRow) (i hi lo : Nat) : s.ItemFrame (s.bump r i hi lo) := by
  apply State.ItemFrame.of_eq <;> rw [State.bump_frame]

/-! ### The CLOCK_FAIL that waits (R447) -/

/-- Whether a CLOCK_FAIL waits is a matter of the clock monitor's places. -/
theorem State.TestFrame.clockFailed {s t : State} (h : s.TestFrame t) : t.clockFailed = s.clockFailed := by
  obtain ⟨-, -, -, -, -, hbox⟩ := h
  have hmine (u : State) : u.clockFailed = (u.coll.outbox.filter (·.src = 0x31F) ++ u.coll.kept.filter (·.src = 0x31F)).any fun m =>
      !m.ddl && decide (m.kind = Kind.clockFail) := by
    unfold State.clockFailed Collector.coming
    rw [← List.filter_append, List.any_filter, List.any_filter]
    refine congrArg (List.any _) (funext fun m => ?_)
    have hsrc : srcC 3 1 0xF = 0x31F := rfl
    rw [hsrc]
    generalize decide (m.src = 0x31F) = a
    generalize decide (m.kind = Kind.clockFail) = b
    generalize m.ddl = d
    revert a b d
    decide
  rw [hmine, hmine, hbox.outbox, hbox.kept]

/-! ### Echo lines and calibration (R17, R139) -/

theorem State.itemFrame_claimTaken (s : State) (reg owner rank : Nat) : s.ItemFrame (s.claimTaken reg owner rank) := by
  have hports : ∀ p : Fin 11, portSrc p ≠ 0x31F := by decide
  have hover : s.ItemFrame (s.overtaken reg rank) := by
    unfold State.overtaken State.note
    split
    · exact .refl s
    · split
      · exact .refl s
      · split
        · exact (s.itemFrame_emit 0 Kind.ownerBusy _ (hports hostP)).trans (.of_eq rfl rfl rfl rfl rfl rfl rfl)
        · split
          · exact (s.itemFrame_emit 0 Kind.ownerBusy _ (hports mntP)).trans (.of_eq rfl rfl rfl rfl rfl rfl rfl)
          · exact .refl s
  exact hover.trans (.of_eq rfl rfl rfl rfl rfl rfl rfl)

theorem State.stir_holdCh (s : State) (c : Fin 32) : s.Stir (s.holdCh c) := (s.stir_chSafe c).trans (State.stir_holdPegs _ _)

theorem State.stir_holdIgn (s : State) (n : Fin 24) : s.Stir (s.holdIgn n) := by
  have hpegs := s.stir_holdPegs fun p => decide (p.ign = some n)
  unfold State.holdIgn
  dsimp only
  generalize (s.holdPegs fun p => decide (p.ign = some n)) = t at hpegs
  exact hpegs.trans ((State.DrvFrame.stir (t.drvFrame_rampDown n)).trans (.ite (.refl _) (State.stir_setEIgn _ n _)))

/-- A line goes to the fault collector, which any claim gives way to. -/
theorem State.itemFrame_echoBad (s : State) (l : Fin 56) : s.ItemFrame (s.echoBad l) := by
  have hsrc : ∀ l : Fin 56, srcLine l ≠ 0x31F := by decide
  have hmay (reg : Nat) : s.mayClaim reg 0 = true := by
    unfold State.mayClaim
    split <;> rfl
  have hown : s.ItemFrame (if h : l.val < 32 then s.ownCh ⟨l.val, h⟩ ownFault else s.ownIgn ⟨l.val - 32, by omega⟩ ownFault) := by
    split
    · next h =>
      unfold State.ownCh
      rw [State.claim_taken (hmay _)]
      have hclaim := s.itemFrame_claimTaken (Reg.chanOwner.addr (⟨l.val, h⟩ : Fin 32) 0) s.edg.ch[(⟨l.val, h⟩ : Fin 32)].owner 0
      generalize s.claimTaken _ _ _ = t at hclaim ⊢
      dsimp only
      have howner := (t.stir_setECh ⟨l.val, h⟩ fun e => { e with owner := ownFault }).itemFrame
      generalize t.setECh _ _ = u at howner ⊢
      exact hclaim.trans (howner.trans (.ite (u.stir_holdCh _).itemFrame (.refl u)))
    · next h =>
      have hn : l.val - 32 < 24 := by omega
      unfold State.ownIgn
      rw [State.claim_taken (hmay _)]
      have hclaim := s.itemFrame_claimTaken (Reg.ignOwner.addr (⟨l.val - 32, hn⟩ : Fin 24) 0) s.edg.ign[(⟨l.val - 32, hn⟩ : Fin 24)].owner 0
      generalize s.claimTaken _ _ _ = t at hclaim ⊢
      dsimp only
      have howner := (t.stir_setEIgn ⟨l.val - 32, hn⟩ fun e => { e with owner := ownFault }).itemFrame
      generalize t.setEIgn _ _ = u at howner ⊢
      exact hclaim.trans (howner.trans (.ite (u.stir_holdIgn _).itemFrame (.refl u)))
  exact hown.trans (State.itemFrame_emit _ 2 Kind.edgeEcho 0 (hsrc l))

theorem State.itemFrame_calibrate (s : State) (ok : Bool) : s.ItemFrame (s.calibrate ok) := by
  have hedg : s.ItemFrame { s with edg := { s.edg with calok := ok } } := .of_eq rfl rfl rfl rfl rfl rfl rfl
  unfold State.calibrate
  split
  · exact .refl s
  · dsimp only
    generalize ({ s with edg := { s.edg with calok := ok } } : State) = t at hedg
    have hsrc : srcC 0 0xF 0xF ≠ 0x31F := by decide
    exact .ite hedg (hedg.trans ((t.itemFrame_bump Reg.edgStat 0 15 8).trans
      (State.itemFrame_emit (t.bump Reg.edgStat 0 15 8) 2 Kind.vernierCal 0 hsrc)))

/-! ### The timers get their settings back (R330) -/

theorem State.itemFrame_setTmr (s : State) (n : Fin 16) (f : Timer → Timer) : s.ItemFrame (s.setTmr n f) := .of_eq rfl rfl rfl rfl rfl rfl rfl
theorem State.itemFrame_setBit (s : State) (r : RegRow) (i n : Nat) : s.ItemFrame (s.setBit r i n) := by
  unfold State.setBit State.setRf State.setRg State.hw
  exact .of_eq rfl rfl rfl rfl rfl rfl rfl

theorem State.itemFrame_sealGather (s : State) (src : Nat) (pick : Fin 16 → Bool) (inc : Nat) : s.ItemFrame (s.sealGather src pick inc) := by
  unfold State.sealGather
  dsimp only
  generalize Vector.ofFn _ = v
  exact .of_eq rfl rfl rfl rfl rfl rfl rfl

theorem State.itemFrame_tmrEvent (s : State) (n : Fin 16) (code : Nat) : s.ItemFrame (s.tmrEvent n code) := by
  unfold State.tmrEvent
  dsimp only
  generalize (if code = 2 then 2 else if code = 3 then 3 else 1) = b
  have hbit := s.itemFrame_setBit Reg.tmrStat n.val b
  generalize s.setBit Reg.tmrStat n.val b = s1 at hbit
  have hcue : s1.ItemFrame (if s1.rb Reg.tmrEven n.val (b - 1) then s1.cueOwner s1.tmr[n].owner 25 (n.val + code * 16) 0 s.now else s1) :=
    .ite (State.stir_cueOwner _ _ _ _ _ _).itemFrame (.refl s1)
  generalize (if s1.rb Reg.tmrEven n.val (b - 1) then s1.cueOwner s1.tmr[n].owner 25 (n.val + code * 16) 0 s.now else s1) = s2 at hcue
  exact hbit.trans (hcue.trans (.ite (s2.itemFrame_sealGather _ _ _) (.refl s2)))

theorem State.itemFrame_tmrAdvance (s : State) (n : Fin 16) (k : Nat) : s.ItemFrame (s.tmrAdvance n k) := by
  have hcount (v : Nat) : s.ItemFrame (s.setCount n v) :=
    .ite ((s.itemFrame_setTmr _ _).trans (State.itemFrame_setTmr _ _ _)) (s.itemFrame_setTmr _ _)
  have hfire (t : State) : t.ItemFrame (t.tmrFire n 1) := (t.itemFrame_setTmr _ _).trans (State.itemFrame_tmrEvent _ _ _)
  unfold State.tmrAdvance
  dsimp only
  refine .ite (.refl s) ?_
  have hs1 := hcount ((s.tmrCount n + k) % s.tmrMod n)
  generalize s.setCount n ((s.tmrCount n + k) % s.tmrMod n) = s1 at hs1
  have hs2 : s1.ItemFrame (if s.tmrMod n ≤ s.tmrCount n + k then s1.tmrEvent n 3 else s1) := .ite (s1.itemFrame_tmrEvent _ _) (.refl s1)
  generalize (if s.tmrMod n ≤ s.tmrCount n + k then s1.tmrEvent n 3 else s1) = s2 at hs2
  exact hs1.trans (hs2.trans (.ite (hfire s2) (.refl s2)))

theorem State.itemFrame_tmrRestore (s : State) : s.ItemFrame s.tmrRestore := by
  have hregs (u : State) (r : RegRow) (i : Nat) (w : Word) : u.ItemFrame (u.setRg r i 0 w) := .of_eq rfl rfl rfl rfl rfl rfl rfl
  unfold State.tmrRestore
  refine .trans (.foldl (fun t x => ?_) _ _) (.trans (.foldl (fun t n => t.itemFrame_tmrAdvance _ _) _ _) (.of_eq rfl rfl rfl rfl rfl rfl rfl))
  dsimp only
  split
  · exact (State.ItemFrame.foldl (fun u r => hregs u r _ _) _ t).trans (State.itemFrame_setTmr _ _ _)
  · exact .refl t

end Sys2Proof.Machine
end

section
/-! SUPPORT. The items of a self-test: its failed clusters and predictors, and the device state that it ends in (R453, R458). -/

namespace Sys2Proof.Machine

/-- A cluster is UNUSABLE and has no work. -/
def State.ClusterLost (s : State) (c : Fin 9) : Prop := s.clu[c].role = .unusable ∧ s.clu[c].work = none

theorem State.ClusterLost.of_clu {s t : State} {c : Fin 9} (h : s.ClusterLost c) (hc : t.clu = s.clu) : t.ClusterLost c := by
  unfold State.ClusterLost
  rw [hc]
  exact h

theorem State.itemFrame_stFail (s : State) {unit : Nat} (hu : srcB unit ≠ 0x31F) (ctx : Nat) : s.ItemFrame (s.stFail unit ctx) :=
  s.itemFrame_emit 1 Kind.bistFail ctx hu

theorem srcB_apart (unit : Nat) : srcB unit ≠ 0x31F := by
  unfold srcB srcC
  omega

theorem State.itemFrame_useFree (s : State) : s.ItemFrame s.useFree := .of_eq rfl rfl rfl rfl rfl rfl rfl

/-- A cluster that fails loses its work; the others stay as they are. -/
theorem State.stCluster_parts (s : State) (c : Fin 9) : s.TestFrame (s.stCluster c) ∧ (s.stCluster c).prd = s.prd ∧ (s.stCluster c).ClusterLost c
    ∧ ∀ d, s.ClusterLost d → (s.stCluster c).ClusterLost d := by
  obtain ⟨s1, hs1⟩ : ∃ s1 : State, s1 = s.setClu c fun k => { k with
      role := .unusable, work := none, run := none, halt := false, stopReq := false, redoCue := none } := ⟨_, rfl⟩
  have hframe1 : s.TestFrame s1 := by rw [hs1]; exact .of_eq rfl rfl rfl rfl rfl
  have hprd1 : s1.prd = s.prd := by rw [hs1]; rfl
  have hlost : s1.ClusterLost c := by
    rw [hs1]
    exact ⟨congrArg Cluster.role (Vector.getElem_set_self ..), congrArg Cluster.work (Vector.getElem_set_self ..)⟩
  have hkeep (d : Fin 9) (h : s.ClusterLost d) : s1.ClusterLost d := by
    by_cases hd : c = d
    · subst hd
      exact hlost
    · have hget : s1.clu[d] = s.clu[d] := by
        rw [hs1]
        exact Vector.getElem_set_ne c.isLt d.isLt (Fin.val_ne_of_ne hd)
      unfold State.ClusterLost
      rw [hget]
      exact h
  have htail : s1.ItemFrame (s.stCluster c) := by
    have heq : s.stCluster c = ((s1.stFail c.val (s.freeW.toNat % 16)).useFree).cluChanged := by rw [hs1]; rfl
    rw [heq]
    exact (s1.itemFrame_stFail (srcB_apart _) _).trans ((State.itemFrame_useFree _).trans (State.itemFrame_hostEvent _ _ _))
  exact ⟨hframe1.trans htail.1, htail.2.2.trans hprd1, hlost.of_clu htail.2.1, fun d h => (hkeep d h).of_clu htail.2.1⟩

/-- A list of clusters is gone through, and those that failed are lost. -/
theorem State.stClusters_parts (bits : Nat) (l : List (Fin 9)) (s : State) :
    s.TestFrame (l.foldl (fun (t : State) c => if bits.testBit c.val then t.stCluster c else t) s)
    ∧ (l.foldl (fun (t : State) c => if bits.testBit c.val then t.stCluster c else t) s).prd = s.prd
    ∧ ∀ c, (s.ClusterLost c ∨ (c ∈ l ∧ bits.testBit c.val = true)) →
      (l.foldl (fun (t : State) c => if bits.testBit c.val then t.stCluster c else t) s).ClusterLost c := by
  induction l generalizing s with
  | nil => exact ⟨.refl s, rfl, fun c h => h.resolve_right (by simp)⟩
  | cons x l ih =>
    rw [List.foldl_cons]
    by_cases hx : bits.testBit x.val = true
    · rw [if_pos hx]
      obtain ⟨hf, hp, hl, hk⟩ := s.stCluster_parts x
      obtain ⟨hf', hp', hk'⟩ := ih (s.stCluster x)
      refine ⟨hf.trans hf', hp'.trans hp, fun c h => hk' c ?_⟩
      rcases h with h | ⟨h, hb⟩
      · exact .inl (hk c h)
      · rcases List.mem_cons.1 h with rfl | h
        · exact .inl hl
        · exact .inr ⟨h, hb⟩
    · rw [if_neg hx]
      obtain ⟨hf', hp', hk'⟩ := ih s
      refine ⟨hf', hp', fun c h => hk' c ?_⟩
      rcases h with h | ⟨h, hb⟩
      · exact .inl h
      · rcases List.mem_cons.1 h with rfl | h
        · exact absurd hb hx
        · exact .inr ⟨h, hb⟩

/-- A predictor that fails is retired. -/
theorem State.stPredictor_parts (s : State) (b : Bool) : s.TestFrame (s.stPredictor b) ∧ (s.stPredictor b).clu = s.clu
    ∧ (s.stPredictor b).prd.retA = (s.prd.retA || !b) ∧ (s.stPredictor b).prd.retB = (s.prd.retB || b) := by
  obtain ⟨s1, hs1⟩ : ∃ s1, s1 = s.prdRetire b := ⟨_, rfl⟩
  have hretire : s.TestFrame s1 ∧ s1.clu = s.clu ∧ s1.prd.retA = (s.prd.retA || !b) ∧ s1.prd.retB = (s.prd.retB || b) := by
    rw [hs1]
    exact ⟨.of_eq rfl rfl rfl rfl rfl, rfl, rfl, rfl⟩
  obtain ⟨hf, hc, ha, hb⟩ := hretire
  have htail : s1.ItemFrame (s.stPredictor b) := by
    have heq : s.stPredictor b = (s1.stFail (if b then 0xA else 9) (s.freeW.toNat % 16)).useFree := by rw [hs1]; rfl
    rw [heq]
    exact (s1.itemFrame_stFail (srcB_apart _) _).trans (State.itemFrame_useFree _)
  exact ⟨hf.trans htail.1, htail.2.1.trans hc, by rw [htail.2.2, ha], by rw [htail.2.2, hb]⟩

/-! The items one after another. -/

/-- The clusters' items. -/
def State.clusterItems (s : State) (bits : Nat) : State :=
  (List.finRange 9).foldl (fun (t : State) (c : Fin 9) => if bits.testBit c.val then t.stCluster c else t) s

/-- The predictors' items, of A and of B. -/
def State.predictorItems (s : State) (a b : Bool) : State :=
  let sA := if a then s.stPredictor false else s
  if b then sA.stPredictor true else sA

/-- The predictor that is active after its items. -/
def State.predictorChosen (s : State) : State :=
  { s with prd := { s.prd with act := s.prd.retA && !s.prd.retB, noInst := s.prd.noInst || (s.prd.retA && s.prd.retB) } }

/-- The edge generator's items. -/
def State.edgeItems (s : State) (echo : EchoResult) : State :=
  echo.bad.foldl (fun (t : State) l => t.echoBad l) (s.calibrate echo.cal)

/-- The items of the DDL, of the driver die and of the MDL. -/
def State.linkItems (s : State) (bits : Nat) (link : Bool) : State :=
  let s5 := if bits.testBit 12 then s.linkFault 1 else s
  let s6 := if bits.testBit 13 then (if link then s5.linkFault 1 else s5.stFail 0xF 0) else s5
  if bits.testBit 14 then ({ s6 with trc := { s6.trc with memOk := false } } : State).stFail 0xF 0xF else s6

theorem State.stItems_eq (s : State) (bits : Nat) (a b : Bool) (echo : EchoResult) (link : Bool) : s.stItems bits false a b echo link
    = ((((s.clusterItems bits).predictorItems a b).predictorChosen).edgeItems echo).linkItems bits link := rfl

/-- The predictors' items retire what failed. -/
theorem State.predictorItems_parts (s : State) (a b : Bool) : s.TestFrame (s.predictorItems a b) ∧ (s.predictorItems a b).clu = s.clu
    ∧ (a = true → (s.predictorItems a b).prd.retA = true) ∧ (b = true → (s.predictorItems a b).prd.retB = true) := by
  have hA : ∃ u, (if a then s.stPredictor false else s) = u ∧ s.TestFrame u ∧ u.clu = s.clu ∧ (a = true → u.prd.retA = true) := by
    cases a with
    | true =>
      obtain ⟨hf, hc, ha, -⟩ := s.stPredictor_parts false
      exact ⟨_, if_pos rfl, hf, hc, fun _ => by rw [ha]; simp⟩
    | false => exact ⟨s, rfl, .refl s, rfl, fun h => by cases h⟩
  obtain ⟨u, hu, hf, hc, ha⟩ := hA
  unfold State.predictorItems
  rw [hu]
  cases b with
  | true =>
    obtain ⟨hf', hc', ha', hb'⟩ := u.stPredictor_parts true
    exact ⟨hf.trans hf', hc'.trans hc, fun h => ha'.trans (by rw [ha h]; rfl), fun _ => hb'.trans (by simp)⟩
  | false => exact ⟨hf, hc, ha, fun h => by cases h⟩

theorem State.itemFrame_edgeItems (s : State) (echo : EchoResult) : s.ItemFrame (s.edgeItems echo) :=
  (s.itemFrame_calibrate _).trans (.foldl (fun t l => t.itemFrame_echoBad l) _ _)

theorem State.itemFrame_linkItems (s : State) (bits : Nat) (link : Bool) : s.ItemFrame (s.linkItems bits link) := by
  have hlink (t : State) : t.ItemFrame (t.linkFault 1) := t.itemFrame_emit 2 Kind.linkFault 0 (by decide)
  have hfail (t : State) (ctx : Nat) : t.ItemFrame (t.stFail 0xF ctx) := t.itemFrame_stFail (srcB_apart _) ctx
  unfold State.linkItems
  dsimp only
  have hf5 : s.ItemFrame (if bits.testBit 12 then s.linkFault 1 else s) := .ite (hlink s) (.refl s)
  generalize (if bits.testBit 12 then s.linkFault 1 else s) = s5 at hf5 ⊢
  have hf6 : s5.ItemFrame (if bits.testBit 13 then (if link then s5.linkFault 1 else s5.stFail 0xF 0) else s5) :=
    .ite (.ite (hlink s5) (hfail s5 0)) (.refl s5)
  generalize (if bits.testBit 13 then (if link then s5.linkFault 1 else s5.stFail 0xF 0) else s5) = s6 at hf6 ⊢
  have hmem : s6.ItemFrame { s6 with trc := { s6.trc with memOk := false } } := .of_eq rfl rfl rfl rfl rfl rfl rfl
  generalize ({ s6 with trc := { s6.trc with memOk := false } } : State) = sm at hmem ⊢
  exact hf5.trans (hf6.trans (.ite (hmem.trans (hfail sm 0xF)) (.refl s6)))

/-- The items of a self-test whose stores are sound. -/
theorem State.stItems_parts (s : State) (bits : Nat) (a b : Bool) (echo : EchoResult) (link : Bool) :
    s.TestFrame (s.stItems bits false a b echo link) ∧ (a = true → (s.stItems bits false a b echo link).prd.retA = true)
    ∧ (b = true → (s.stItems bits false a b echo link).prd.retB = true)
    ∧ ∀ c : Fin 9, bits.testBit c.val = true → (s.stItems bits false a b echo link).ClusterLost c := by
  rw [State.stItems_eq]
  obtain ⟨hf1, -, hl1⟩ := State.stClusters_parts bits (List.finRange 9) s
  have hlost (c : Fin 9) (h : bits.testBit c.val = true) : (s.clusterItems bits).ClusterLost c := hl1 c (.inr ⟨List.mem_finRange c, h⟩)
  have hf1' : s.TestFrame (s.clusterItems bits) := hf1
  clear hf1 hl1
  generalize s.clusterItems bits = s1 at hlost hf1'
  obtain ⟨hf2, hc2, ha2, hb2⟩ := s1.predictorItems_parts a b
  generalize s1.predictorItems a b = s2 at hf2 hc2 ha2 hb2
  have hf3 : s2.TestFrame s2.predictorChosen := .of_eq rfl rfl rfl rfl rfl
  have h3 : s2.predictorChosen.clu = s2.clu ∧ s2.predictorChosen.prd.retA = s2.prd.retA ∧ s2.predictorChosen.prd.retB = s2.prd.retB :=
    ⟨rfl, rfl, rfl⟩
  generalize s2.predictorChosen = s3 at hf3 h3
  obtain ⟨hc3, ha3, hb3⟩ := h3
  obtain ⟨htail, hclu, hprd⟩ := (s3.itemFrame_edgeItems echo).trans (State.itemFrame_linkItems (s3.edgeItems echo) bits link)
  refine ⟨hf1'.trans (hf2.trans (hf3.trans htail)), fun h => ?_, fun h => ?_, fun c h => ?_⟩
  · rw [hprd, ha3]
    exact ha2 h
  · rw [hprd, hb3]
    exact hb2 h
  · exact (hlost c h).of_clu (hclu.trans (hc3.trans hc2))

end Sys2Proof.Machine
end

section
/-! PROOFS. Power-on reset, its release, the PLL lock and the end of SELFTEST: the statement O23. -/

open Sys2Proof Sys2Proof.Machine

namespace Sys2Proof.Proofs

/-! ### Power-up (R452) -/

/-- The step of EPOCH changes the OTP where the always-on domain has lost its contents, and takes note of that loss. -/
theorem epochStep_parts (s : State) : ∃ o, s.epochStep = { s with otp := o, ao := { s.ao with lost := false } }
    ∧ (s.ao.lost = false → o = s.otp)
    ∧ (s.ao.lost = true → o.epoch = min 0xFFF (s.otp.epoch + 1)
      ∧ o = { s.otp with epoch := o.epoch, epexh := s.otp.epexh || decide (o.epoch = 0xFFF) }) := by
  unfold State.epochStep
  cases h : s.ao.lost with
  | false =>
    refine ⟨s.otp, ?_, fun _ => rfl, fun hl => by cases hl⟩
    have hself : ({ s with ao := { s.ao with lost := false } } : State) = s := by rw [← h]
    exact (if_pos rfl).trans hself.symm
  | true => exact ⟨_, if_neg (by decide), fun hl => (by cases hl), fun _ => ⟨rfl, rfl⟩⟩

theorem power_on {s : State} (hoff : s.sys.st = .off) (hpor : s.sys.por = false) : ∃ t, exec .powerOnReset s = .next t
    ∧ t = { State.reset with
        pending := s.pending, sys := t.sys, ao := t.ao, otp := t.otp, inj := t.inj, free := s.free, pins := t.pins,
        regs := s.regs.filter (fun x => alwaysOnReg x.1) }
    ∧ t.sys.por = true ∧ t.sys.st = .off ∧ t.sys.pll = false ∧ t.sys.vmain = true ∧ t.sys.vbkup = true ∧ t.sys.vio[0] = true
    ∧ t.sys.vbat = s.sys.vbat ∧ t.clocked = false ∧ t.pins.quiet = true ∧ t.pins.safeA = true ∧ t.pins.safeB = true
    ∧ t.ao = { s.ao with lost := false, kept := [] }
    ∧ (s.ao.lost = false → t.otp = s.otp)
    ∧ (s.ao.lost = true → t.otp.epoch = min 0xFFF (s.otp.epoch + 1)
      ∧ t.otp = { s.otp with epoch := t.otp.epoch, epexh := s.otp.epexh || decide (t.otp.epoch = 0xFFF) }) := by
  have hexec : exec .powerOnReset s = .next s.powerOn.settle := congrArg finish (if_pos ⟨hoff, by rw [hpor]; rfl⟩)
  obtain ⟨o, hstep, hkept, hstepped⟩ := epochStep_parts (s.regionsReset.setDState .off)
  have hpower : s.powerOn = { State.reset with
      pending := s.pending
      sys := { (s.regionsReset.setDState .off).sys with
        vmain := true, vbkup := true, vio := s.sys.vio.set 0 true, por := true, wakeLatch := [], wakeRun := false }
      ao := { s.ao with lost := false, kept := [] }, otp := o
      inj := { State.reset.inj with flips := s.inj.flips.filter fun f => alwaysOnReg f.1 }, free := s.free
      regs := s.regs.filter fun x => alwaysOnReg x.1 } := by
    unfold State.powerOn
    rw [hstep]
    rfl
  have hvio : (s.sys.vio.set 0 true)[0] = true := Vector.getElem_set_self ..
  have hsafe : s.powerOn.drv.safe = true := by rw [hpower]; rfl
  have hquiet := State.settle_quiet hsafe
  have hlines : s.powerOn.coll.lineA = true ∧ s.powerOn.coll.lineB = true := by rw [hpower]; exact ⟨rfl, rfl⟩
  refine ⟨_, hexec, ?_, ?_, ?_, ?_, ?_, ?_, ?_, ?_, ?_, hquiet, hlines.1, hlines.2, ?_, ?_, ?_⟩
  all_goals rw [hpower]
  case refine_1 => rfl
  case refine_7 => exact hvio
  case refine_11 => exact hkept
  case refine_12 => exact hstepped
  all_goals rfl

theorem por_release {s : State} (nid : Fin 32) (ma : Fin 8) (test : Bool) (hpor : s.sys.por = true) (hoff : s.sys.st = .off) :
    ∃ t, exec (.porRelease nid ma test) s = .next t
      ∧ t = { s with sys := t.sys, regs := t.regs, mnt := t.mnt, hwSet := t.hwSet, pins := t.pins }
      ∧ t.sys = { s.sys with por := false, st := .selftest, nid := nid.val, ma := ma.val, testPin := test, wakeRun := false }
      ∧ t.rb Reg.hostStat 0 0 = true := by
  have hrel : s.porRelease nid.val ma.val test = ({ s with sys := { s.sys with
      por := false, nid := nid.val, ma := ma.val, testPin := test, wakeRun := false } } : State).toState .selftest := by
    unfold State.porRelease
    exact if_neg (by rw [hpor]; decide)
  have hexec : exec (.porRelease nid ma test) s = .next (s.porRelease nid.val ma.val test).settle := rfl
  rw [hrel] at hexec
  have hne : s.sys.st ≠ .selftest := by rw [hoff]; decide
  obtain ⟨u, hu⟩ : ∃ u : State, u = { s with sys := { s.sys with
      por := false, nid := nid.val, ma := ma.val, testPin := test, wakeRun := false } } := ⟨_, rfl⟩
  rw [← hu] at hexec
  have hst : u.sys.st ≠ .selftest := by rw [hu]; exact hne
  have hchg := State.toState_stchg u hst
  have hparts := u.toState_parts .selftest
  refine ⟨_, hexec, ?_, ?_, hchg⟩
  · rw [hparts, hu]
    rfl
  · have hsys : (u.toState .selftest).sys = { u.sys with st := .selftest } := by rw [hparts]
    exact hsys.trans (by rw [hu])

theorem pll_lock {s : State} (hst : s.sys.st = .selftest) (hpll : s.sys.pll = false) :
    exec .pllLock s = .next ({ s with sys := { s.sys with pll := true, lockd := true } } : State).settle :=
  congrArg finish (if_pos ⟨hst, by rw [hpll]; rfl⟩)

/-! ### The end of SELFTEST (R453, R458) -/

/-- The failed items of a self-test, as SYS_ST shows them. -/
def testBits (s : State) (fails : BitVec 16) (echo : EchoResult) : Nat :=
  (if s.sys.wakeRun then ((fails.toNat &&& 0xF7FF) ||| (if echo.cal && echo.bad.isEmpty then 0 else 0x800)) &&& 0xF800
    else (fails.toNat &&& 0xF7FF) ||| (if echo.cal && echo.bad.isEmpty then 0 else 0x800)) ||| (if s.sys.vbat then 0 else 0x2000)

/-- An item fails that the device cannot do without. -/
def fatalBits (bits : Nat) : Bool :=
  (bits.testBit 9 && bits.testBit 10) || bits.testBit 11 || bits.testBit 12 || bits.testBit 13 || bits.testBit 15

/-- The outcome of a self-test whose items have been gone through. -/
def testOutcome (s3 : State) (bits : Nat) : State :=
  if s3.clockFailed then s3
  else if fatalBits bits then (s3.toState .sidelines).fabFollow
  else ((({ s3 with prd := { s3.prd with chkon := !(s3.prd.retA || s3.prd.retB) } } : State).setRf Reg.sysGate 0 0 0 0).toState .ready).fabFollow

/-- The state of a self-test whose items have been gone through. -/
def testDone (s : State) (s2 : State) (bits : Nat) : State :=
  { s2 with sys := { s2.sys with
    stBits := bits, stDone := true, stWake := s.sys.wakeRun, wakeRun := false, stEndAt := some s2.svclk } }

theorem selftestEnd_sound {s : State} (hst : s.sys.st = .selftest) (hpll : s.sys.pll = true) (fails : BitVec 16) (echo : EchoResult)
    (link : Bool) : ∃ (s1 : State) (b : Nat), s.ItemFrame s1 ∧ (∀ k, k ≠ 13 → b.testBit k = (testBits s fails echo).testBit k)
      ∧ s.selftestEnd fails false echo link
        = testOutcome (testDone s (s1.stItems (testBits s fails echo) false (b.testBit 9) (b.testBit 10) echo link) (testBits s fails echo))
          (testBits s fails echo) := by
  obtain ⟨b0, hb0⟩ : ∃ b0, b0 = if s.sys.wakeRun then ((fails.toNat &&& 0xF7FF) ||| (if echo.cal && echo.bad.isEmpty then 0 else 0x800)) &&& wakeItems
    else (fails.toNat &&& 0xF7FF) ||| (if echo.cal && echo.bad.isEmpty then 0 else 0x800) := ⟨_, rfl⟩
  have hbits : testBits s fails echo = if s.sys.vbat then b0 else b0 ||| 0x2000 := by
    rw [hb0]
    unfold testBits wakeItems
    cases s.sys.vbat with
    | true => exact Nat.or_zero _
    | false => rfl
  have hrestore : s.ItemFrame (if s.sys.wakeRun then s.tmrRestore else s) := .ite s.itemFrame_tmrRestore (.refl s)
  refine ⟨_, b0, hrestore, fun k hk => ?_, ?_⟩
  · rw [hbits]
    split
    · rfl
    · rw [Nat.testBit_or]
      have hone : (0x2000 : Nat).testBit k = false := by
        have hpow : (0x2000 : Nat) = 2 ^ 13 := by decide
        rw [hpow]
        exact Nat.testBit_two_pow_of_ne (Ne.symm hk)
      rw [hone, Bool.or_false]
  · have hrun : ¬(s.sys.st ≠ .selftest ∨ (!s.sys.pll) = true) := by simp [hst, hpll]
    unfold State.selftestEnd
    rw [if_neg hrun, hbits]
    dsimp only
    rw [Bool.false_and, if_neg Bool.false_ne_true, ← hb0]
    rfl

/-- The outcome leaves what the items left, beside the device state. -/
theorem outcome_leaves (s : State) (bits : Nat) (hst : s.sys.st = .selftest) :
    (s.clockFailed = true → (testOutcome s bits).sys.st = .selftest)
    ∧ (s.clockFailed = false → (fatalBits bits = true → (testOutcome s bits).sys.st = .sidelines)
      ∧ (fatalBits bits = false → (testOutcome s bits).sys.st = .ready ∧ (testOutcome s bits).rb Reg.sysGate 0 0 = false)
      ∧ (testOutcome s bits).rb Reg.hostStat 0 0 = true)
    ∧ (∃ d, (testOutcome s bits).sys = { s.sys with st := d }) ∧ (testOutcome s bits).prd.retA = s.prd.retA
    ∧ (testOutcome s bits).prd.retB = s.prd.retB ∧ (testOutcome s bits).clu = s.clu ∧ (testOutcome s bits).mem = s.mem
    ∧ (testOutcome s bits).pending = s.pending ∧ (testOutcome s bits).coll.safe = s.coll.safe := by
  have hself : s.sys = { s.sys with st := .selftest } := by rw [← hst]
  cases hc : s.clockFailed with
  | true =>
    have heq : testOutcome s bits = s := if_pos hc
    rw [heq]
    exact ⟨fun _ => hst, fun h => (by cases h), ⟨_, hself⟩, rfl, rfl, rfl, rfl, rfl, rfl⟩
  | false =>
    have hnot : ¬s.clockFailed = true := by rw [hc]; decide
    cases hf : fatalBits bits with
    | true =>
      have heq : testOutcome s bits = (s.toState .sidelines).fabFollow := (if_neg hnot).trans (if_pos hf)
      have hchg := s.toState_stchg (d := .sidelines) (by rw [hst]; decide)
      have hparts := s.toState_parts .sidelines
      generalize s.toState .sidelines = u at heq hchg hparts
      have hstir := u.stir_fabFollow
      rw [heq]
      obtain ⟨⟨hsys, -, hmem, hpend, hsafe, -⟩, hclu, hprd⟩ := hstir.itemFrame
      have hu : u.sys = { s.sys with st := .sidelines } ∧ u.prd = s.prd ∧ u.clu = s.clu ∧ u.mem = s.mem ∧ u.pending = s.pending
          ∧ u.coll = s.coll := by
        rw [hparts]
        exact ⟨rfl, rfl, rfl, rfl, rfl, rfl⟩
      obtain ⟨h1, h2, h3, h4, h5, h6⟩ := hu
      have hst' : u.fabFollow.sys = { s.sys with st := .sidelines } := hsys.trans h1
      refine ⟨fun h => (by cases h), fun _ => ⟨fun _ => by rw [hst'], fun h => (by cases h), ?_⟩, ⟨_, hst'⟩, by rw [hprd, h2], by rw [hprd, h2],
        hclu.trans h3, hmem.trans h4, hpend.trans h5, by rw [hsafe, h6]⟩
      rw [State.rb, hstir.rg (by decide)]
      exact hchg
    | false =>
      have hnf : ¬fatalBits bits = true := by rw [hf]; decide
      obtain ⟨v, hv⟩ : ∃ v : State, v = ({ s with prd := { s.prd with chkon := !(s.prd.retA || s.prd.retB) } } : State).setRf Reg.sysGate 0 0 0 0 :=
        ⟨_, rfl⟩
      have heq : testOutcome s bits = (v.toState .ready).fabFollow := by
        rw [hv]
        exact (if_neg hnot).trans (if_neg hnf)
      have hvp : v.sys = s.sys ∧ v.prd.retA = s.prd.retA ∧ v.prd.retB = s.prd.retB ∧ v.clu = s.clu ∧ v.mem = s.mem ∧ v.pending = s.pending
          ∧ v.coll = s.coll ∧ v.rb Reg.sysGate 0 0 = false := by
        rw [hv]
        exact ⟨rfl, rfl, rfl, rfl, rfl, rfl, rfl, State.setRf_rb _ Reg.sysGate 0 0 (by decide)⟩
      clear hv
      obtain ⟨g1, g2, g3, g4, g5, g6, g7, g8⟩ := hvp
      have hchg := v.toState_stchg (d := .ready) (by rw [g1, hst]; decide)
      have hgate : (v.toState .ready).rb Reg.sysGate 0 0 = false := by
        have hne : v.sys.st ≠ .ready := by rw [g1, hst]; decide
        have hrg : (v.toState .ready).rg Reg.sysGate 0 0 = v.rg Reg.sysGate 0 0 := by
          rw [State.toState, if_neg hne]
          exact State.setRg_rg_ne _ Reg.hostStat Reg.sysGate _ _ _ _ _ (by decide)
        rw [State.rb, hrg]
        exact g8
      have hparts := v.toState_parts .ready
      generalize v.toState .ready = u at heq hchg hparts hgate
      have hstir := u.stir_fabFollow
      rw [heq]
      obtain ⟨⟨hsys, -, hmem, hpend, hsafe, -⟩, hclu, hprd⟩ := hstir.itemFrame
      have hu : u.sys = { v.sys with st := .ready } ∧ u.prd = v.prd ∧ u.clu = v.clu ∧ u.mem = v.mem ∧ u.pending = v.pending
          ∧ u.coll = v.coll := by
        rw [hparts]
        exact ⟨rfl, rfl, rfl, rfl, rfl, rfl⟩
      obtain ⟨h1, h2, h3, h4, h5, h6⟩ := hu
      have hst' : u.fabFollow.sys = { s.sys with st := .ready } := hsys.trans (h1.trans (by rw [g1]))
      refine ⟨fun h => (by cases h), fun _ => ⟨fun h => (by cases h), fun _ => ⟨by rw [hst'], ?_⟩, ?_⟩, ⟨_, hst'⟩, by rw [hprd, h2, g2],
        by rw [hprd, h2, g3], hclu.trans (h3.trans g4), hmem.trans (h4.trans g5), hpend.trans (h5.trans g6), by rw [hsafe, h6, g7]⟩
      · rw [State.rb, hstir.rg (by decide)]
        exact hgate
      · rw [State.rb, hstir.rg (by decide)]
        exact hchg

theorem fatalBits_iff (bits : Nat) : fatalBits bits = true ↔ (bits.testBit 9 = true ∧ bits.testBit 10 = true) ∨ bits.testBit 11 = true
    ∨ bits.testBit 12 = true ∨ bits.testBit 13 = true ∨ bits.testBit 15 = true := by
  simp [fatalBits, or_assoc]

/-- The end of a self-test whose stores are sound. -/
theorem selftest_end {s : State} (hst : s.sys.st = .selftest) (hpll : s.sys.pll = true) (fails : BitVec 16) (echo : EchoResult) (link : Bool) :
    let bits := testBits s fails echo
    ∃ t, exec (.selftestEnd fails false echo link) s = .next t
      ∧ (s.clockFailed = true → t.sys.st = .selftest)
      ∧ (s.clockFailed = false → (fatalBits bits = true → t.sys.st = .sidelines)
        ∧ (fatalBits bits = false → t.sys.st = .ready ∧ t.rb Reg.sysGate 0 0 = false) ∧ t.rb Reg.hostStat 0 0 = true)
      ∧ t.sys.stDone = true ∧ t.sys.stBits = bits ∧ t.sys.stWake = s.sys.wakeRun ∧ t.sys.stEndAt = some s.svclk
      ∧ (bits.testBit 9 = true → t.prd.retA = true) ∧ (bits.testBit 10 = true → t.prd.retB = true)
      ∧ (∀ c : Fin 9, bits.testBit c.val = true → t.clu[c].role = .unusable ∧ t.clu[c].work = none)
      ∧ t.mem = s.mem ∧ t.pending = s.pending ∧ t.coll.safe = s.coll.safe := by
  intro bits
  obtain ⟨s1, b, hrestored, hbits, hend⟩ := selftestEnd_sound hst hpll fails echo link
  have hexec : exec (.selftestEnd fails false echo link) s = .next (s.selftestEnd fails false echo link).settle := rfl
  rw [hend] at hexec
  refine ⟨_, hexec, ?_⟩
  clear hexec hend
  obtain ⟨hitems, hretA, hretB, hlost⟩ := s1.stItems_parts bits (b.testBit 9) (b.testBit 10) echo link
  change (s.clockFailed = true → (testOutcome (testDone s (s1.stItems bits false (b.testBit 9) (b.testBit 10) echo link) bits) bits).sys.st = _) ∧ _
  generalize s1.stItems bits false (b.testBit 9) (b.testBit 10) echo link = s2 at hitems hretA hretB hlost ⊢
  have hframe := hrestored.1.trans hitems
  have hclock : (testDone s s2 bits).clockFailed = s.clockFailed := hframe.clockFailed
  obtain ⟨hsys, hnow, hmem, hpend, hsafe, -⟩ := hframe
  have hst2 : (testDone s s2 bits).sys.st = .selftest := (congrArg Sys.st hsys).trans hst
  obtain ⟨h1, h2, ⟨d, h3⟩, h4, h5, h6, h7, h8, h9⟩ := outcome_leaves (testDone s s2 bits) bits hst2
  rw [hclock] at h1 h2
  generalize testOutcome (testDone s s2 bits) bits = u at h1 h2 h3 h4 h5 h6 h7 h8 h9 ⊢
  have hdone : u.sys.stDone = true := by rw [h3]; rfl
  have hbit : u.sys.stBits = bits := by rw [h3]; rfl
  have hwake : u.sys.stWake = s.sys.wakeRun := by rw [h3]; rfl
  refine ⟨h1, h2, hdone, hbit, hwake, ?_, fun h => h4.trans (hretA ?_), fun h => h5.trans (hretB ?_), fun c h => ?_,
    h7.trans hmem, h8.trans hpend, h9.trans hsafe⟩
  · have hat : u.sys.stEndAt = some s2.svclk := by rw [h3]; rfl
    exact hat.trans (by rw [State.svclk, State.svclk, hnow])
  · rw [hbits 9 (by decide)]
    exact h
  · rw [hbits 10 (by decide)]
    exact h
  · exact (hlost c h).of_clu h6

/-- Settles O23: the items of a self-test leave the frame that its outcome needs, and the clock monitor's message stands. -/
theorem powerUpAndSelfTest : Obligations.PowerUpAndSelfTest := by
  unfold Obligations.PowerUpAndSelfTest
  refine ⟨fun s nid ma test => ⟨power_on, por_release nid ma test, pll_lock⟩, fun s fails echo link hst hpll => ?_⟩
  intro edge items bits fatal clock
  obtain ⟨t, hexec, h1, h2, hrest⟩ := selftest_end hst hpll fails echo link
  refine ⟨t, hexec, h1, fun h => ?_, hrest⟩
  obtain ⟨hfatal, hsound, hchg⟩ := h2 h
  exact ⟨fun hf => hfatal ((fatalBits_iff _).2 hf), fun hf => hsound (by
    rw [← Bool.not_eq_true, fatalBits_iff]
    exact hf), hchg⟩

end Sys2Proof.Proofs
end

section
/-! SUPPORT. The ports of the fabric: what a frame put out, a record issued, a frame dropped and a port that goes down leave (R346 to R349,
R351, R357). -/

namespace Sys2Proof.Machine

section
variable (s : State) (r : Fin 3)

theorem State.setPort_same (f : FPort → FPort) : (s.setPort r f).fab.port[r] = f s.fab.port[r] := Vector.getElem_set_self ..

theorem State.setPort_ne {k : Fin 3} (f : FPort → FPort) (h : k ≠ r) : (s.setPort r f).fab.port[k] = s.fab.port[k] :=
  Vector.getElem_set_ne r.isLt k.isLt (Fin.val_ne_of_ne h.symm)

/-- A port that keeps what it is stands. -/
theorem State.setPort_id {f : FPort → FPort} (h : f s.fab.port[r] = s.fab.port[r]) : s.setPort r f = s := by
  have hport : upd s.fab.port r f = s.fab.port := by
    unfold upd
    exact (congrArg (fun x => s.fab.port.set r.val x r.isLt) h).trans (Vector.set_getElem_self r.isLt)
  rw [State.setPort, hport]

theorem State.setPort_setPort (f g : FPort → FPort) : (s.setPort r f).setPort r g = s.setPort r fun p => g (f p) := by
  have hport : upd (upd s.fab.port r f) r g = upd s.fab.port r fun p => g (f p) := by
    unfold upd
    rw [Vector.set_set, Vector.getElem_set_self]
  unfold State.setPort
  dsimp only
  rw [hport]

/-- A port's new value, written out. -/
theorem State.setPort_set (f : FPort → FPort) :
    s.setPort r f = { s with fab := { s.fab with port := s.fab.port.set r.val (f s.fab.port[r]) r.isLt } } := rfl

theorem State.portPut_same (inp : Nat) (f : Frame) :
    (s.portPut r inp f).fab.port[r] = { s.fab.port[r] with out := s.fab.port[r].out ++ [(inp, f)] } := s.setPort_same r _

theorem State.portPut_ne {k : Fin 3} (inp : Nat) (f : Frame) (h : k ≠ r) : (s.portPut r inp f).fab.port[k] = s.fab.port[k] :=
  s.setPort_ne r _ h

end

/-- What is settled of a state that differs only in the fabric differs in the balls besides. -/
theorem State.settle_fabOnly {s t : State} (h : t = { s with fab := t.fab }) :
    t.settle = { s with fab := t.settle.fab, pins := t.settle.pins } :=
  congrArg (fun x : State => ({ x with pins := t.pinsOf } : State)) h

/-! ### A frame on every port of a kind -/

/-- A frame put out in turn on the ports that a test of the port names, the ports of the list once each. -/
theorem State.putEach_port (sel : Fin 3 → FPort → Bool) (inp : Nat) (f : Frame) {l : List (Fin 3)} (hl : l.Nodup) (s : State) (k : Fin 3) :
    (l.foldl (fun (t : State) (r : Fin 3) => if sel r t.fab.port[r] = true then t.portPut r inp f else t) s).fab.port[k]
      = if k ∈ l ∧ sel k s.fab.port[k] = true then { s.fab.port[k] with out := s.fab.port[k].out ++ [(inp, f)] } else s.fab.port[k] := by
  induction l generalizing s with
  | nil => simp
  | cons r l ih =>
    obtain ⟨hr, hl⟩ := List.nodup_cons.1 hl
    rw [List.foldl_cons, ih hl]
    by_cases hk : k = r
    · subst hk
      rw [if_neg fun h => hr h.1]
      by_cases hs : sel k s.fab.port[k] = true
      · rw [if_pos hs, if_pos ⟨List.mem_cons_self, hs⟩]
        exact s.portPut_same ..
      · rw [if_neg hs, if_neg fun h => hs h.2]
    · have hone : (if sel r s.fab.port[r] = true then s.portPut r inp f else s).fab.port[k] = s.fab.port[k] := by
        split
        · exact s.portPut_ne _ _ _ hk
        · rfl
      rw [hone]
      simp [hk]

/-- The frames of a fold leave everything but the ports. -/
theorem State.putEach_fab (sel : Fin 3 → FPort → Bool) (inp : Nat) (f : Frame) (l : List (Fin 3)) (s : State) : ∃ p,
    l.foldl (fun (t : State) (r : Fin 3) => if sel r t.fab.port[r] = true then t.portPut r inp f else t) s
      = { s with fab := { s.fab with port := p } } := by
  induction l generalizing s with
  | nil => exact ⟨s.fab.port, rfl⟩
  | cons r l ih =>
    rw [List.foldl_cons]
    by_cases hs : sel r s.fab.port[r] = true
    · rw [if_pos hs]
      obtain ⟨p, hp⟩ := ih (s.portPut r inp f)
      exact ⟨p, hp.trans rfl⟩
    · rw [if_neg hs]
      exact ih s

section
variable (s : State) (inp : Nat) (f : Frame)

theorem State.flood_eq : s.flood inp f = (List.finRange 3).foldl (fun (t : State) (r : Fin 3) =>
    if (decide (t.fab.port[r].st = .up) && decide (r.val ≠ inp)) = true then t.portPut r inp f else t) s := by
  simp only [State.flood, Bool.and_eq_true, decide_eq_true_eq]

theorem State.flood_port (k : Fin 3) : (s.flood inp f).fab.port[k] = if s.fab.port[k].st = .up ∧ k.val ≠ inp then
    { s.fab.port[k] with out := s.fab.port[k].out ++ [(inp, f)] } else s.fab.port[k] := by
  rw [State.flood_eq]
  refine (State.putEach_port (fun r p => decide (p.st = .up) && decide (r.val ≠ inp)) inp f (List.nodup_finRange 3) s k).trans ?_
  simp [List.mem_finRange]

theorem State.flood_ports : ∃ p, s.flood inp f = { s with fab := { s.fab with port := p } } := by
  rw [State.flood_eq]
  exact State.putEach_fab (fun r p => decide (p.st = .up) && decide (r.val ≠ inp)) inp f _ s

theorem State.broadcast_eq : s.broadcast inp f = (List.finRange 3).foldl (fun (t : State) (r : Fin 3) =>
    if (decide (t.fab.port[r].st = .up) && (decide (t.fab.port[r].tree = 1) || decide (t.fab.port[r].tree = 2)) && decide (r.val ≠ inp)) = true
    then t.portPut r inp f else t) s := by
  simp only [State.broadcast, Bool.and_eq_true, Bool.or_eq_true, decide_eq_true_eq, and_assoc]

/-- A broadcast frame goes out on the tree's ports. -/
theorem State.broadcast_port (k : Fin 3) : (s.broadcast inp f).fab.port[k]
    = if s.fab.port[k].st = .up ∧ (s.fab.port[k].tree = 1 ∨ s.fab.port[k].tree = 2) ∧ k.val ≠ inp then
      { s.fab.port[k] with out := s.fab.port[k].out ++ [(inp, f)] } else s.fab.port[k] := by
  rw [State.broadcast_eq]
  refine (State.putEach_port (fun r p => decide (p.st = .up) && (decide (p.tree = 1) || decide (p.tree = 2)) && decide (r.val ≠ inp)) inp f
    (List.nodup_finRange 3) s k).trans ?_
  simp [List.mem_finRange, and_assoc]

theorem State.broadcast_ports : ∃ p, s.broadcast inp f = { s with fab := { s.fab with port := p } } := by
  rw [State.broadcast_eq]
  exact State.putEach_fab (fun r p => decide (p.st = .up) && (decide (p.tree = 1) || decide (p.tree = 2)) && decide (r.val ≠ inp)) inp f _ s

end

/-! ### A new record (R351) -/

/-- The frame of the record that a node issues. -/
def State.recordFrame (s : State) : Frame :=
  let s1 : State := { s with fab := { s.fab with rseq := (s.fab.rseq + 1) % 256, lubusy := true } }
  s1.unitFrame 6 s1.selfRec.bytes

theorem State.recordFrame_ft (s : State) : s.recordFrame.ft = 6 := rfl

/-- A new record counts, waits for its line-up and goes out on every UP port. -/
theorem State.newRecord_parts (s : State) : ∃ p g, s.newRecord = { s with fab := { s.fab with
      rseq := (s.fab.rseq + 1) % 256, lubusy := true, issued := g, port := p } }
    ∧ ∀ k : Fin 3, p[k] = if s.fab.port[k].st = .up then { s.fab.port[k] with out := s.fab.port[k].out ++ [(3, s.recordFrame)] }
      else s.fab.port[k] := by
  let s1 : State := { s with fab := { s.fab with rseq := (s.fab.rseq + 1) % 256, lubusy := true } }
  let s2 : State := { s1 with fab := { s1.fab with issued := s1.selfRec.gist } }
  have hrec : s.newRecord = s2.flood 3 s.recordFrame := rfl
  obtain ⟨p, hp⟩ := s2.flood_ports 3 s.recordFrame
  refine ⟨p, s1.selfRec.gist, hrec.trans (hp.trans rfl), fun k => ?_⟩
  have hport := s2.flood_port 3 s.recordFrame k
  rw [hp] at hport
  refine hport.trans ?_
  have hk : k.val ≠ 3 := by omega
  by_cases hst : s.fab.port[k].st = .up
  · rw [if_pos hst]
    exact if_pos ⟨hst, hk⟩
  · rw [if_neg hst]
    exact if_neg fun h => hst h.1

end Sys2Proof.Machine
end

section
/-! SUPPORT. Frames dropped, and a port of the fabric that leaves UP (R348, R349, R357). -/

namespace Sys2Proof.Machine

/-! ### Buffers (R346, R349) -/

/-- A receive buffer freed is counted on its channel. -/
def FPort.freed (p : FPort) (vc : Bool) : FPort :=
  if vc then { p with freedA := (p.freedA + 1) % 256 } else { p with freedB := (p.freedB + 1) % 256 }

section
variable (s : State) (f : Frame)

/-- A link frame holds none. -/
theorem State.freeBuffer_link {inp : Nat} (h : 3 ≤ f.ft) : s.freeBuffer inp f = s := by
  unfold State.freeBuffer
  split
  · exact if_pos (by simp [h])
  · rfl

/-- The buffer of a routed frame that no output holds any more is free. -/
theorem State.freeBuffer_last (i : Fin 3) (hft : f.ft < 3) (h : ∀ k : Fin 3, ∀ e ∈ s.fab.port[k].out, e ≠ (i.val, f)) :
    s.freeBuffer i.val f = s.setPort i fun p => p.freed f.vc := by
  have hwaits : ((List.finRange 3).any fun q => s.fab.port[q].out.any fun e => decide (e = (i.val, f))) = false := by
    rw [List.any_eq_false]
    intro q _ hq
    obtain ⟨e, he, heq⟩ := List.any_eq_true.1 hq
    exact h q e he (of_decide_eq_true heq)
  unfold State.freeBuffer
  rw [dif_pos i.isLt]
  dsimp only
  rw [hwaits]
  refine (if_neg (by simp [hft])).trans ?_
  rfl

/-- Of a buffer freed only the counts of a port tell. -/
theorem State.freeBuffer_ports (inp : Nat) : ∃ p, s.freeBuffer inp f = { s with fab := { s.fab with port := p } } := by
  unfold State.freeBuffer
  split
  · dsimp only
    split
    · exact ⟨s.fab.port, rfl⟩
    · exact ⟨_, rfl⟩
  · exact ⟨s.fab.port, rfl⟩

theorem State.freeBuffer_other {inp : Nat} {r : Fin 3} (h : inp ≠ r.val) : (s.freeBuffer inp f).fab.port[r] = s.fab.port[r] := by
  unfold State.freeBuffer
  split
  · next hi =>
    dsimp only
    split
    · rfl
    · exact s.setPort_ne _ _ fun he => h (by rw [he])
  · rfl

end

/-! ### Frames dropped (R357) -/

/-- Drops leave a port, its counts and the places of its messages alone, and issue no record. -/
def State.Discards (r : Fin 3) (s t : State) : Prop :=
  s.FabFrame t ∧ t.fab.port[r] = s.fab.port[r] ∧ t.fab.rseq = s.fab.rseq ∧ t.rg Reg.fabPortErr r.val 0 = s.rg Reg.fabPortErr r.val 0
    ∧ s.KeepsBox (srcF r.val) t

section
variable {r : Fin 3}

theorem State.Discards.refl (s : State) : s.Discards r s := ⟨.refl s, rfl, rfl, rfl, rfl⟩

theorem State.Discards.trans {s t u : State} (h : s.Discards r t) (h' : t.Discards r u) : s.Discards r u := by
  obtain ⟨hf, hp, hq, hg, hb⟩ := h
  obtain ⟨hf', hp', hq', hg', hb'⟩ := h'
  exact ⟨hf.trans hf', hp'.trans hp, hq'.trans hq, hg'.trans hg, hb'.trans hb⟩

theorem srcF_unit_ne (r : Fin 3) : srcF 0xF ≠ srcF r.val := by fin_cases r <;> decide

theorem fabPortErr_apart (r : Fin 3) : Reg.fabPortErr.addr r.val 0 ≠ Reg.fabCnt.addr 0 0 := by fin_cases r <;> decide

theorem fabPortErr_fltStat (r : Fin 3) : Reg.fabPortErr.addr r.val 0 ≠ Reg.fltStat.addr 0 0 := by fin_cases r <;> decide

/-- A fabric message leaves the fabric as it is. -/
theorem State.emit_fab (s : State) (cls kind p ctx : Nat) : (s.emit cls kind (srcF p) ctx).fab = s.fab := by
  rw [Proofs.emit_control s cls kind ctx (srcF_control p).1]

theorem State.discards_fabDiscard (s : State) (reason dst dwork : Nat) : s.Discards r (s.fabDiscard reason dst dwork) := by
  have hbump : s.Discards r (s.bump Reg.fabCnt 0 15 0) := by
    have hfab : (s.bump Reg.fabCnt 0 15 0).fab = s.fab := by rw [State.bump_frame]
    exact ⟨s.fabFrame_bump (by simp [fabCounts]), by rw [hfab], by rw [hfab], State.bump_rg_ne s _ _ (fabPortErr_apart r),
      .of_coll (by rw [State.bump_frame])⟩
  unfold State.fabDiscard
  dsimp only
  split
  · refine hbump.trans ⟨State.fabFrame_emit _ _ _ _ (srcF_control _).1 (srcF_control _).2, by rw [State.emit_fab], by rw [State.emit_fab],
      State.emit_rg_ne _ _ _ _ _ (fabPortErr_fltStat r), State.keepsBox_emit _ _ _ _ (srcF_unit_ne r)⟩
  · exact hbump

theorem State.discards_freeBuffer (s : State) {inp : Nat} (f : Frame) (h : inp ≠ r.val) : s.Discards r (s.freeBuffer inp f) := by
  obtain ⟨p, hp⟩ := s.freeBuffer_ports f inp
  refine ⟨s.fabFrame_freeBuffer inp f, s.freeBuffer_other f h, ?_, ?_, ?_⟩ <;> rw [hp]
  · rfl
  · exact .of_coll rfl

theorem State.discards_dropFrame (s : State) (reason : Nat) {inp : Nat} (f : Frame) (h : inp ≠ r.val) :
    s.Discards r (s.dropFrame reason inp f) := by
  unfold State.dropFrame
  dsimp only
  split
  · exact (s.discards_fabDiscard ..).trans (State.discards_freeBuffer _ _ h)
  · exact s.discards_freeBuffer _ h

/-- Frames dropped one after another. -/
theorem State.discards_all {α : Type} (inp : α → Nat) (f : α → Frame) (reason : Nat) {l : List α} (h : ∀ e ∈ l, inp e ≠ r.val) (s : State) :
    s.Discards r (l.foldl (fun (t : State) (e : α) => t.dropFrame reason (inp e) (f e)) s) := by
  induction l generalizing s with
  | nil => exact .refl s
  | cons e l ih =>
    rw [List.forall_mem_cons] at h
    exact (s.discards_dropFrame reason (f e) h.1).trans (ih h.2 _)

end

/-! ### A port goes down (R348) -/

/-- What is left of a port that went down. -/
def FPort.down (p : FPort) : FPort := { FPort.reset with delay := p.delay, errs := p.errs }

/-- A port that leaves UP, no output of its own frames waiting on it: its counts, its message and a new record. -/
def State.LeavesUp (s t : State) (r : Fin 3) (cause : Nat) : Prop :=
  s.FabFrame t ∧ t.fab.port[r] = s.fab.port[r].down ∧ t.rf Reg.fabPortErr r.val 31 16 = min 65535 (s.rf Reg.fabPortErr r.val 31 16 + 1)
    ∧ s.Emits t 1 Kind.fabLinkDown (srcF r.val) (r.val + s.fab.port[r].peer % 32 * 4 + cause * 128)
    ∧ t.fab.rseq = (s.fab.rseq + 1) % 256 ∧ t.fab.lubusy = true

theorem State.portDown_up {s : State} {r : Fin 3} (hup : s.fab.port[r].st = .up) (hout : ∀ e ∈ s.fab.port[r].out, e.1 ≠ r.val) (cause : Nat) :
    s.LeavesUp (s.portDown r cause) r cause := by
  have hframe := s.fabFrame_portDown r cause
  have heq : s.portDown r cause = (s.fab.port[r].out.foldl (fun (t : State) (e : Nat × Frame) => t.dropFrame 2 e.1 e.2)
      (s.fab.port[r].held.foldl (fun (t : State) (e : Nat × Frame × Nat) => t.dropFrame 2 3 e.2.1)
        (((s.setPort r fun _ => s.fab.port[r].down).bump Reg.fabPortErr r.val 31 16).emit 1 Kind.fabLinkDown (srcF r.val)
          (r.val + s.fab.port[r].peer % 32 * 4 + cause * 128)))).newRecord := by
    unfold State.portDown
    dsimp only
    rw [hup]
    rfl
  rw [heq] at hframe ⊢
  clear heq
  have hset := s.setPort_same r fun _ => s.fab.port[r].down
  have hrf : (s.setPort r fun _ => s.fab.port[r].down).rf Reg.fabPortErr r.val 31 16 = s.rf Reg.fabPortErr r.val 31 16 := rfl
  have hseq : (s.setPort r fun _ => s.fab.port[r].down).fab.rseq = s.fab.rseq := rfl
  have hbox : (s.setPort r fun _ => s.fab.port[r].down).coll = s.coll := rfl
  have hnow : (s.setPort r fun _ => s.fab.port[r].down).now = s.now := rfl
  generalize s.setPort r (fun _ => s.fab.port[r].down) = s0 at hset hrf hseq hbox hnow hframe ⊢
  have hb1 : (s0.bump Reg.fabPortErr r.val 31 16).coll = s.coll := by rw [State.bump_frame]; exact hbox
  have hn1 : (s0.bump Reg.fabPortErr r.val 31 16).now = s.now := by rw [State.bump_frame]; exact hnow
  have hf1 : (s0.bump Reg.fabPortErr r.val 31 16).fab = s0.fab := by rw [State.bump_frame]
  have hr1 : (s0.bump Reg.fabPortErr r.val 31 16).rf Reg.fabPortErr r.val 31 16 = min 65535 (s.rf Reg.fabPortErr r.val 31 16 + 1) := by
    rw [State.bump_rf _ _ _ (by decide) (by decide), hrf]
    rfl
  generalize s0.bump Reg.fabPortErr r.val 31 16 = s1 at hb1 hn1 hf1 hr1 hframe ⊢
  have hd1 := State.discards_all (r := r) (fun _ => 3) (fun (e : Nat × Frame × Nat) => e.2.1) 2 (l := s.fab.port[r].held)
    (fun _ _ => by omega) (s1.emit 1 Kind.fabLinkDown (srcF r.val) (r.val + s.fab.port[r].peer % 32 * 4 + cause * 128))
  have hd2 := hd1.trans (State.discards_all (r := r) (fun (e : Nat × Frame) => e.1) (fun e => e.2) 2 hout _)
  generalize List.foldl (fun (t : State) (e : Nat × Frame) => t.dropFrame 2 e.1 e.2) _ s.fab.port[r].out = u at hd2 hframe ⊢
  obtain ⟨hfr, hport, hrs, hrg, hbx⟩ := hd2
  obtain ⟨p, g, hnew, hports⟩ := u.newRecord_parts
  have hst : u.fab.port[r] = s.fab.port[r].down := by
    rw [hport, State.emit_fab, hf1]
    exact hset
  have hdown : u.fab.port[r].st ≠ .up := by
    rw [hst]
    exact (by decide : PortState.down ≠ PortState.up)
  have hrs' : u.fab.rseq = s.fab.rseq := by rw [hrs, State.emit_fab, hf1, hseq]
  have hrf' : u.rf Reg.fabPortErr r.val 31 16 = min 65535 (s.rf Reg.fabPortErr r.val 31 16 + 1) := by
    rw [State.rf, hrg, State.emit_rg_ne _ _ _ _ _ (fabPortErr_fltStat r)]
    exact hr1
  have hemit : s.Emits u 1 Kind.fabLinkDown (srcF r.val) (r.val + s.fab.port[r].peer % 32 * 4 + cause * 128) := by
    intro hroom
    have hone : s.Emits (s1.emit 1 Kind.fabLinkDown (srcF r.val) (r.val + s.fab.port[r].peer % 32 * 4 + cause * 128)) 1 Kind.fabLinkDown
        (srcF r.val) (r.val + s.fab.port[r].peer % 32 * 4 + cause * 128) :=
      State.emits_emit (by rw [hb1]) (hn1 ▸ Nat.le_refl _) (List.Subset.refl _) (by rw [Proofs.emit_control s1 _ _ _ (srcF_control _).1])
    exact State.Emits.kept hone hbx (Nat.le_of_eq hfr.stir.now.symm) hroom
  rw [hnew] at hframe ⊢
  exact ⟨hframe, ((hports r).trans (if_neg hdown)).trans hst, hrf', hemit, by rw [← hrs'], rfl⟩

end Sys2Proof.Machine
end

section
/-! PROOFS. The ports of the fabric: training, HELLO, UP, and what takes a port down (R345, R347, R348; O55). -/

open Sys2Proof Sys2Proof.Machine

namespace Sys2Proof.Proofs

section
variable {s : State} {r : Fin 3} (hc : s.clocked = true)
include hc

/-! ### The way up (R348) -/

theorem port_train (hst : s.fab.port[r].st = .down) (hruns : s.fabRuns = true) (hen : s.rb Reg.fabCfg 0 (1 + r.val) = true) :
    exec (.portTrain r) s = .next (s.setPort r fun p => { p with st := .train }).settle :=
  (congrArg finish (State.awake_clocked hc fun t => t.portTrain r)).trans (congrArg finish (if_pos ⟨hst, hruns, hen⟩))

theorem port_stays_down (h : s.fab.port[r].st ≠ .down ∨ s.fabRuns = false ∨ s.rb Reg.fabCfg 0 (1 + r.val) = false) :
    exec (.portTrain r) s = .next s.settle :=
  (congrArg finish (State.awake_clocked hc fun t => t.portTrain r)).trans (congrArg finish (if_neg fun ⟨hst, hruns, hen⟩ => by
    rcases h with h | h | h
    · exact h hst
    · rw [h] at hruns
      cases hruns
    · rw [h] at hen
      cases hen))

theorem port_hello (hst : s.fab.port[r].st = .train) :
    exec (.portHello r) s = .next (s.setPort r fun p => { p with st := .hello }).settle :=
  (congrArg finish (State.awake_clocked hc fun t => t.portHello r)).trans (congrArg finish (if_pos hst))

theorem port_no_hello (hst : s.fab.port[r].st ≠ .train) : exec (.portHello r) s = .next s.settle :=
  (congrArg finish (State.awake_clocked hc fun t => t.portHello r)).trans (congrArg finish (if_neg hst))

theorem port_not_up (hst : s.fab.port[r].st ≠ .hello) : exec (.portUp r) s = .next s.settle :=
  (congrArg finish (State.awake_clocked hc fun t => t.portUp r)).trans (congrArg finish (if_neg hst))

/-- A port comes up with its credits, nothing held, and a new record on its way. -/
theorem port_up (hst : s.fab.port[r].st = .hello) : ∃ t, exec (.portUp r) s = .next t
    ∧ t.fab.port[r].st = .up ∧ t.fab.port[r].crA = 4 ∧ t.fab.port[r].crB = 8 ∧ t.fab.port[r].held = [] ∧ t.fab.port[r].lseq = 0
    ∧ t.fab.port[r].expect = 0 ∧ t.fab.port[r].peer = s.fab.port[r].peer ∧ t.fab.rseq = (s.fab.rseq + 1) % 256
    ∧ (∃ e ∈ t.fab.port[r].out, e.2.ft = 6) ∧ t = { s with fab := t.fab, pins := t.pins } := by
  have hexec : exec (.portUp r) s = .next (s.portUp r).settle := congrArg finish (State.awake_clocked hc fun t => t.portUp r)
  refine ⟨_, hexec, ?_⟩
  rw [State.portUp, if_pos hst]
  have hport := s.setPort_same r fun p => { p with
    st := .up, tree := if p.peerBench then 3 else 0, lseq := 0, expect := 0, held := [], crA := 4, crB := 8, freedA := 0,
    freedB := 0, seenA := 0, seenB := 0, nak := false, out := [], angRun := 0 }
  have hset := s.setPort_set r fun p => { p with
    st := .up, tree := if p.peerBench then 3 else 0, lseq := 0, expect := 0, held := [], crA := 4, crB := 8, freedA := 0,
    freedB := 0, seenA := 0, seenB := 0, nak := false, out := [], angRun := 0 }
  generalize (s.setPort r fun p => { p with
    st := .up, tree := if p.peerBench then 3 else 0, lseq := 0, expect := 0, held := [], crA := 4, crB := 8, freedA := 0,
    freedB := 0, seenA := 0, seenB := 0, nak := false, out := [], angRun := 0 }) = u at hport hset ⊢
  obtain ⟨p, g, hnew, hports⟩ := u.newRecord_parts
  have hp := hports r
  rw [if_pos (by rw [hport])] at hp
  have hfab : u.newRecord.fab.port[r] = { u.fab.port[r] with out := u.fab.port[r].out ++ [(3, u.recordFrame)] } := by
    rw [hnew]
    exact hp
  have hq : u.newRecord.fab.rseq = (s.fab.rseq + 1) % 256 := by rw [hnew, hset]
  have heq : u.newRecord = { s with fab := u.newRecord.fab } := by rw [hnew, hset]
  rw [hport] at hfab
  generalize u.newRecord = v at hfab hq heq
  have hout : v.fab.port[r].out = [(3, u.recordFrame)] := by rw [hfab]; rfl
  have hlast : ∃ e ∈ v.fab.port[r].out, e.2.ft = 6 := ⟨_, by rw [hout]; exact List.mem_singleton_self _, u.recordFrame_ft⟩
  have hstv : v.fab.port[r].st = .up := by rw [hfab]
  have hA : v.fab.port[r].crA = 4 := by rw [hfab]
  have hB : v.fab.port[r].crB = 8 := by rw [hfab]
  have hH : v.fab.port[r].held = [] := by rw [hfab]
  have hL : v.fab.port[r].lseq = 0 := by rw [hfab]
  have hE : v.fab.port[r].expect = 0 := by rw [hfab]
  have hP : v.fab.port[r].peer = s.fab.port[r].peer := by rw [hfab]
  exact ⟨hstv, hA, hB, hH, hL, hE, hP, hq, hlast, State.settle_fabOnly heq⟩

end

end Sys2Proof.Proofs
end

section
/-! PROOFS. What takes a port of the fabric down: silence, code errors, bad frames and retries (R347, R348, R382; O55). -/

open Sys2Proof Sys2Proof.Machine

namespace Sys2Proof.Proofs

/-- A port has left UP: it is DOWN with its code errors, the loss is counted and reported, and a new record is on its way. -/
def Down (s : State) (r : Fin 3) (cause : Nat) (errs : List (Nat × Nat)) (t : State) : Prop :=
  t.fab.port[r] = { FPort.reset with delay := s.fab.port[r].delay, errs := errs }
    ∧ t.rf Reg.fabPortErr r.val 31 16 = min 65535 (s.rf Reg.fabPortErr r.val 31 16 + 1)
    ∧ s.Emits t 1 0x12 (0x2E0 + r.val) (r.val + s.fab.port[r].peer % 32 * 4 + cause * 128) ∧ t.fab.rseq = (s.fab.rseq + 1) % 256
    ∧ t.fab.lubusy = true ∧ t.edg = s.edg ∧ t.mem = s.mem

theorem srcF_port (r : Fin 3) : srcF r.val = 0x2E0 + r.val := by fin_cases r <;> rfl

theorem down_of_leavesUp {s u : State} {r : Fin 3} {cause : Nat} (h : s.LeavesUp u r cause) : Down s r cause s.fab.port[r].errs u.settle := by
  obtain ⟨⟨⟨f, ob, kp, g, hs, hu⟩, -, -⟩, hport, hrf, hemit, hseq, hlu⟩ := h
  have hedg : u.edg = s.edg := by rw [hu]
  have hmem : u.mem = s.mem := by rw [hu]
  rw [srcF_port] at hemit
  exact ⟨hport, hrf, hemit, hseq, hlu, hedg, hmem⟩

section
variable {s : State} {r : Fin 3}

/-! ### Code errors (R348, R382) -/

/-- The code errors that a port has met once n more come now. -/
def errsWith (s : State) (r : Fin 3) (n : Nat) : List (Nat × Nat) :=
  (s.fab.port[r].errs.filter fun e => decide (s.now < e.1 + 1600)) ++ [(s.now, n)]

theorem codeErr_parts (s : State) (r : Fin 3) (n : Nat) : ∃ g, s.codeErr r n
    = { s.setPort r fun p => { p with errs := errsWith s r n } with regs := g } := ⟨_, rfl⟩

theorem codeErr_code (s : State) (r : Fin 3) (n : Nat) :
    (s.codeErr r n).rf Reg.fabPortCode r.val 15 0 = min 65535 (s.rf Reg.fabPortCode r.val 15 0 + n) := by
  have h := (s.setPort r fun p => { p with errs := p.fresh s.now ++ [(s.now, n)] }).setRf_rf Reg.fabPortCode r.val (hi := 15) (lo := 0)
    (min 65535 (s.rf Reg.fabPortCode r.val 15 0 + n)) (by decide) (by decide)
  refine h.trans (Nat.mod_eq_of_lt ?_)
  omega

theorem fabPortErr_code (r : Fin 3) : Reg.fabPortErr.addr r.val 0 ≠ Reg.fabPortCode.addr r.val 0 := by fin_cases r <;> decide

theorem fabPortCode_uncounted (r : Fin 3) : Reg.fabPortCode.addr r.val 0 ∉ fabCounts := by fin_cases r <;> decide

theorem codeErr_err (s : State) (r : Fin 3) (n hi lo : Nat) :
    (s.codeErr r n).rf Reg.fabPortErr r.val hi lo = s.rf Reg.fabPortErr r.val hi lo :=
  congrArg (fun w : Word => fld w hi lo) (State.setRg_rg_ne (s.setPort r fun p => { p with errs := p.fresh s.now ++ [(s.now, n)] })
    Reg.fabPortCode Reg.fabPortErr r.val 0 r.val 0 _ (fabPortErr_code r))

/-- A port that leaves UP with n code errors more. -/
theorem down_of_codeErr {v u : State} {n cause : Nat} {fr : Nat} {k : Bool} (hv : v = { (s.codeErr r n).setPort r fun p => { p with nak := k } with free := fr })
    (h : v.LeavesUp u r cause) :
    Down s r cause (errsWith s r n) u.settle ∧ u.rf Reg.fabPortCode r.val 15 0 = min 65535 (s.rf Reg.fabPortCode r.val 15 0 + n) := by
  obtain ⟨g, hg⟩ := codeErr_parts s r n
  have hport : v.fab.port[r] = { s.fab.port[r] with errs := errsWith s r n, nak := k } := by
    rw [hv]
    refine ((s.codeErr r n).setPort_same r _).trans ?_
    have hone : (s.codeErr r n).fab.port[r] = { s.fab.port[r] with errs := errsWith s r n } := by
      rw [hg]
      exact s.setPort_same r _
    rw [hone]
  have hcode : u.rf Reg.fabPortCode r.val 15 0 = v.rf Reg.fabPortCode r.val 15 0 := by
    rw [State.rf, State.rf, h.1.rg (fabPortCode_uncounted r)]
  have herr : v.rf Reg.fabPortErr r.val 31 16 = s.rf Reg.fabPortErr r.val 31 16 := by
    rw [hv]
    exact codeErr_err s r n 31 16
  have hcode' : v.rf Reg.fabPortCode r.val 15 0 = min 65535 (s.rf Reg.fabPortCode r.val 15 0 + n) := by
    rw [hv]
    exact codeErr_code s r n
  refine ⟨?_, hcode.trans hcode'⟩
  obtain ⟨h1, h2, h3, h4, h5, h6, h7⟩ := down_of_leavesUp h
  rw [hport] at h1 h3
  rw [herr] at h2
  have hcoll : v.coll = s.coll := by rw [hv, hg]; rfl
  have hnow : v.now = s.now := by rw [hv, hg]; rfl
  have hseq : v.fab.rseq = s.fab.rseq := by rw [hv, hg]; rfl
  have hedg : v.edg = s.edg := by rw [hv, hg]; rfl
  have hmem : v.mem = s.mem := by rw [hv, hg]; rfl
  rw [hseq] at h4
  rw [hedg] at h6
  rw [hmem] at h7
  refine ⟨h1, h2, ?_, h4, h5, h6, h7⟩
  rw [State.Emits, hcoll, hnow] at h3
  exact h3

section
variable (hc : s.clocked = true)
include hc

/-- Silence on an UP port. -/
theorem port_silent (hup : s.fab.port[r].st = .up) (hout : ∀ e ∈ s.fab.port[r].out, e.1 ≠ r.val) :
    ∃ t, exec (.portSilence r) s = .next t ∧ Down s r 1 s.fab.port[r].errs t := by
  have hexec : exec (.portSilence r) s = .next (s.portSilence r).settle := congrArg finish (State.awake_clocked hc fun t => t.portSilence r)
  have heq : s.portSilence r = s.portDown r 1 := if_neg (by rw [hup]; decide)
  rw [heq] at hexec
  exact ⟨_, hexec, down_of_leavesUp (State.portDown_up hup hout 1)⟩

/-- The eighth code error on an UP port. -/
theorem port_errors (hup : s.fab.port[r].st = .up) (hout : ∀ e ∈ s.fab.port[r].out, e.1 ≠ r.val) :
    ∃ t, exec (.portCodeErrors r) s = .next t ∧ Down s r 2 (errsWith s r (8 - s.fab.port[r].errsAt s.now)) t
      ∧ t.rf Reg.fabPortCode r.val 15 0 = min 65535 (s.rf Reg.fabPortCode r.val 15 0 + (8 - s.fab.port[r].errsAt s.now)) := by
  have hexec : exec (.portCodeErrors r) s = .next (s.portCodeErrors r).settle :=
    congrArg finish (State.awake_clocked hc fun t => t.portCodeErrors r)
  have heq : s.portCodeErrors r = (s.codeErr r (8 - s.fab.port[r].errsAt s.now)).portDown r 2 := by
    rw [State.portCodeErrors, hup]
  rw [heq] at hexec
  generalize 8 - s.fab.port[r].errsAt s.now = n at hexec ⊢
  obtain ⟨g, hg⟩ := codeErr_parts s r n
  have hport : (s.codeErr r n).fab.port[r] = { s.fab.port[r] with errs := errsWith s r n } := by
    rw [hg]
    exact s.setPort_same r _
  have hleave := State.portDown_up (s := s.codeErr r n) (r := r) (by rw [hport]; exact hup) (by rw [hport]; exact hout) 2
  have hsame : s.codeErr r n = { (s.codeErr r n).setPort r fun p => { p with nak := s.fab.port[r].nak } with free := s.free } := by
    rw [State.setPort_id _ _ (by rw [hport])]
    rw [hg]
    rfl
  obtain ⟨hdown, hcode⟩ := down_of_codeErr hsame hleave
  exact ⟨_, hexec, hdown, hcode⟩

end
end

end Sys2Proof.Proofs
end

section
/-! PROOFS. Bad frames, control sets and HELLO at a port of the fabric (R343, R345 to R348, R382; O55). -/

open Sys2Proof Sys2Proof.Machine

namespace Sys2Proof.Proofs

section
variable {s : State} {r : Fin 3}

/-! ### A frame that is not whole (R343, R347) -/

/-- The code errors of the bad frame that comes next. -/
def badErrs (s : State) : Nat := (Config.freeWord s.free).toNat % 8

/-- A bad frame's errors are counted, whatever the port is. -/
def struck (s : State) (r : Fin 3) : State := { s.codeErr r (badErrs s) with free := s.free + 1 }

theorem struck_parts (s : State) (r : Fin 3) : ∃ g, struck s r
    = { s.setPort r fun p => { p with errs := errsWith s r (badErrs s) } with regs := g, free := s.free + 1 } := ⟨_, rfl⟩

theorem struck_code (s : State) (r : Fin 3) :
    (struck s r).rf Reg.fabPortCode r.val 15 0 = min 65535 (s.rf Reg.fabPortCode r.val 15 0 + badErrs s) := codeErr_code ..

theorem badFrame_up (hup : s.fab.port[r].st = .up) : s.badFrame r
    = if 8 ≤ s.fab.port[r].errsAt s.now + badErrs s then ((struck s r).setPort r fun p => { p with nak := true }).portDown r 2
      else (struck s r).setPort r fun p => { p with nak := true } := by
  unfold State.badFrame
  dsimp only
  rw [hup]
  rfl

theorem badFrame_hello (hst : s.fab.port[r].st = .hello) : s.badFrame r
    = if badErrs s = 0 then struck s r else (struck s r).portRetrain r := by
  unfold State.badFrame
  dsimp only
  rw [hst]
  rfl

theorem badFrame_idle (hst : s.fab.port[r].st = .down ∨ s.fab.port[r].st = .train) : s.badFrame r = struck s r := by
  unfold State.badFrame
  dsimp only
  rcases hst with h | h <;> rw [h] <;> rfl

/-- What follows a bad frame: its errors stay counted, and a port that does not leave UP changes in the fabric alone. -/
theorem badFrame_leaves (s : State) (r : Fin 3) :
    (s.badFrame r).rf Reg.fabPortCode r.val 15 0 = min 65535 (s.rf Reg.fabPortCode r.val 15 0 + badErrs s) ∧ (s.badFrame r).free = s.free + 1
    ∧ ((s.fab.port[r].st = .up → s.fab.port[r].errsAt s.now + badErrs s < 8) → ∃ f g, s.badFrame r = { s with fab := f, regs := g, free := s.free + 1 }) := by
  have hcode := struck_code s r
  obtain ⟨g, hg⟩ := struck_parts s r
  have hset (f : FPort → FPort) : ∃ x, (struck s r).setPort r f = { s with fab := x, regs := g, free := s.free + 1 } := by
    rw [hg]
    exact ⟨_, rfl⟩
  have hself : ∃ x, struck s r = { s with fab := x, regs := g, free := s.free + 1 } := by
    rw [hg]
    exact ⟨_, rfl⟩
  have hone {u : State} (hreg : u.rf Reg.fabPortCode r.val 15 0 = (struck s r).rf Reg.fabPortCode r.val 15 0)
      (hu : ∃ x, u = { s with fab := x, regs := g, free := s.free + 1 }) : u.rf Reg.fabPortCode r.val 15 0
        = min 65535 (s.rf Reg.fabPortCode r.val 15 0 + badErrs s) ∧ u.free = s.free + 1
      ∧ ((s.fab.port[r].st = .up → s.fab.port[r].errsAt s.now + badErrs s < 8) → ∃ f g, u = { s with fab := f, regs := g, free := s.free + 1 }) := by
    obtain ⟨x, hx⟩ := hu
    exact ⟨hreg.trans hcode, by rw [hx], fun _ => ⟨x, g, hx⟩⟩
  cases hst : s.fab.port[r].st with
  | down =>
    rw [badFrame_idle (.inl hst)]
    have h := hone (u := struck s r) rfl hself
    simpa only [hst] using h
  | train =>
    rw [badFrame_idle (.inr hst)]
    have h := hone (u := struck s r) rfl hself
    simpa only [hst] using h
  | hello =>
    rw [badFrame_hello hst]
    split
    · have h := hone (u := struck s r) rfl hself
      simpa only [hst] using h
    · have h := hone (u := (struck s r).portRetrain r) rfl (hset _)
      simpa only [hst] using h
  | up =>
    rw [badFrame_up hst]
    split
    · next h8 =>
      have hfr := ((struck s r).setPort r fun p => { p with nak := true }).fabFrame_portDown r 2
      refine ⟨?_, ?_, fun h => absurd (h rfl) (by omega)⟩
      · rw [State.rf, hfr.rg (fabPortCode_uncounted r)]
        exact hcode
      · obtain ⟨⟨f, ob, kp, g', hs, hu⟩, -, -⟩ := hfr
        rw [hu]
        rfl
    · have h := hone (u := (struck s r).setPort r fun p => { p with nak := true }) rfl (hset _)
      simpa only [hst] using h

section
variable (hc : s.clocked = true)
include hc

theorem exec_badFrame : exec (.frameReceiveBad r) s = .next (s.badFrame r).settle := congrArg finish (State.awake_clocked hc fun t => t.badFrame r)

/-- A bad frame with which an UP port has met eight errors. -/
theorem bad_frame_down (hup : s.fab.port[r].st = .up) (hout : ∀ e ∈ s.fab.port[r].out, e.1 ≠ r.val)
    (h8 : 8 ≤ s.fab.port[r].errsAt s.now + badErrs s) :
    ∃ t, exec (.frameReceiveBad r) s = .next t ∧ Down s r 2 (errsWith s r (badErrs s)) t := by
  refine ⟨_, exec_badFrame hc, ?_⟩
  rw [badFrame_up hup, if_pos h8]
  have hport : ((struck s r).setPort r fun p => { p with nak := true }).fab.port[r]
      = { s.fab.port[r] with errs := errsWith s r (badErrs s), nak := true } := by
    refine ((struck s r).setPort_same r _).trans ?_
    obtain ⟨g, hg⟩ := struck_parts s r
    have hone : (struck s r).fab.port[r] = { s.fab.port[r] with errs := errsWith s r (badErrs s) } := by
      rw [hg]
      exact s.setPort_same r _
    rw [hone]
  have hleave := State.portDown_up (s := (struck s r).setPort r fun p => { p with nak := true }) (r := r) (by rw [hport]; exact hup)
    (by rw [hport]; exact hout) 2
  exact (down_of_codeErr (n := badErrs s) (k := true) (fr := s.free + 1) rfl hleave).1

/-- A bad frame in every state of its port. -/
theorem bad_frame : ∃ t, exec (.frameReceiveBad r) s = .next t
    ∧ t.rf Reg.fabPortCode r.val 15 0 = min 65535 (s.rf Reg.fabPortCode r.val 15 0 + badErrs s) ∧ t.free = s.free + 1
    ∧ (s.fab.port[r].st = .up → s.fab.port[r].errsAt s.now + badErrs s < 8 →
      t.fab = (s.setPort r fun p => { p with nak := true, errs := errsWith s r (badErrs s) }).fab)
    ∧ (s.fab.port[r].st = .hello → t.fab = (if badErrs s = 0 then s.setPort r fun p => { p with errs := errsWith s r 0 }
      else s.setPort r fun p => { p with st := .train, out := [], errs := errsWith s r (badErrs s) }).fab)
    ∧ (s.fab.port[r].st = .down ∨ s.fab.port[r].st = .train → t.fab = (s.setPort r fun p => { p with errs := errsWith s r (badErrs s) }).fab)
    ∧ ((s.fab.port[r].st = .up → s.fab.port[r].errsAt s.now + badErrs s < 8) →
      t = { s with fab := t.fab, regs := t.regs, free := s.free + 1, pins := t.pins }) := by
  obtain ⟨hcode, hfree, hframe⟩ := badFrame_leaves s r
  obtain ⟨g, hg⟩ := struck_parts s r
  have hset (f : FPort → FPort) : ((struck s r).setPort r f).fab = (s.setPort r fun p => f { p with errs := errsWith s r (badErrs s) }).fab := by
    have h := congrArg State.fab (s.setPort_setPort r (fun p => { p with errs := errsWith s r (badErrs s) }) f)
    rw [hg]
    exact h
  refine ⟨_, exec_badFrame hc, hcode, hfree, fun hup hlt => ?_, fun hst => ?_, fun hst => ?_, fun h => ?_⟩
  · have heq : (s.badFrame r).fab = (s.setPort r fun p => { p with nak := true, errs := errsWith s r (badErrs s) }).fab := by
      rw [badFrame_up hup, if_neg (Nat.not_le.2 hlt), hset]
    exact heq
  · have heq : (s.badFrame r).fab = (if badErrs s = 0 then s.setPort r fun p => { p with errs := errsWith s r 0 }
        else s.setPort r fun p => { p with st := .train, out := [], errs := errsWith s r (badErrs s) }).fab := by
      rw [badFrame_hello hst]
      by_cases h0 : badErrs s = 0
      · rw [if_pos h0, if_pos h0, hg, h0]
      · rw [if_neg h0, if_neg h0]
        exact hset _
    exact heq
  · have heq : (s.badFrame r).fab = (s.setPort r fun p => { p with errs := errsWith s r (badErrs s) }).fab := by
      rw [badFrame_idle hst, hg]
    exact heq
  · obtain ⟨f, g, heq⟩ := hframe h
    have hst : (s.badFrame r).settle = { s with fab := f, regs := g, free := s.free + 1, pins := (s.badFrame r).pinsOf } := by
      rw [heq]
      rfl
    rw [hst]

end
end

end Sys2Proof.Proofs
end

section
/-! PROOFS. Control sets, HELLO, ACK and NAK at a port of the fabric (R345 to R348, R359; O55). -/

open Sys2Proof Sys2Proof.Machine

namespace Sys2Proof.Proofs

section
variable {s : State} {r : Fin 3} {q : Fin 256} (hc : s.clocked = true)
include hc

/-! ### Control sets (R346) -/

theorem control_sets (hup : s.fab.port[r].st = .up) :
    exec (.controlSetRepeat r) s = .next (s.setPort r fun p => { p with nak := false }).settle :=
  (congrArg finish (State.awake_clocked hc fun t => t.controlSets r)).trans (congrArg finish (if_pos hup))

theorem credit_angle (hup : s.fab.port[r].st = .up) : exec (.creditAngle r q) s
    = .next (s.setPort r fun p => { p with crA := p.crA + (q.val + 256 - p.seenA) % 256, seenA := q.val }).settle :=
  (congrArg finish (State.awake_clocked hc fun t => t.creditA r q)).trans (congrArg finish (if_neg fun h => h hup))

theorem credit_bulk (hup : s.fab.port[r].st = .up) : exec (.creditBulk r q) s
    = .next (s.setPort r fun p => { p with crB := p.crB + (q.val + 256 - p.seenB) % 256, seenB := q.val }).settle :=
  (congrArg finish (State.awake_clocked hc fun t => t.creditB r q)).trans (congrArg finish (if_neg fun h => h hup))

theorem no_control_sets (hup : s.fab.port[r].st ≠ .up) : exec (.controlSetRepeat r) s = .next s.settle :=
  (congrArg finish (State.awake_clocked hc fun t => t.controlSets r)).trans (congrArg finish (if_neg hup))

theorem no_credit_angle (hup : s.fab.port[r].st ≠ .up) : exec (.creditAngle r q) s = .next s.settle :=
  (congrArg finish (State.awake_clocked hc fun t => t.creditA r q)).trans (congrArg finish (if_pos hup))

theorem no_credit_bulk (hup : s.fab.port[r].st ≠ .up) : exec (.creditBulk r q) s = .next s.settle :=
  (congrArg finish (State.awake_clocked hc fun t => t.creditB r q)).trans (congrArg finish (if_pos hup))

/-! ### HELLO (R345, R348) -/

theorem hello_send (h : s.fab.port[r].st = .up ∨ s.fab.port[r].st = .hello) : ∃ t, exec (.helloSend r) s = .next t
    ∧ (∃ e ∈ t.fab.port[r].out.getLast?, e.1 = 3 ∧ e.2.ft = 5 ∧ e.2.bytes.length = 10
      ∧ e.2.bytes.getD 0 0 = s.nodeId % 32 + (if s.fab.bench then 64 else 32) ∧ e.2.bytes.getD 1 0 = s.rf Reg.fabCfg 0 5 4)
    ∧ t.fab.port[r].out.dropLast = s.fab.port[r].out ∧ t = { s with fab := t.fab, pins := t.pins } := by
  have hexec : exec (.helloSend r) s = .next (s.helloOut r).settle := congrArg finish (State.awake_clocked hc fun t => t.helloOut r)
  have heq : s.helloOut r = s.portPut r 3 s.helloFrame := if_pos h
  rw [heq] at hexec
  have hport := s.portPut_same r 3 s.helloFrame
  have hout : (s.portPut r 3 s.helloFrame).fab.port[r].out = s.fab.port[r].out ++ [(3, s.helloFrame)] := by rw [hport]
  have hfirst : s.helloFrame.bytes.getD 0 0 = s.nodeId % 32 + (if s.fab.bench then 64 else 32) := by
    change s.nodeId % 32 + bitAt (!s.fab.bench) 5 + bitAt s.fab.bench 6 = _
    cases s.fab.bench <;> rfl
  have hall : s.portPut r 3 s.helloFrame = { s with fab := (s.portPut r 3 s.helloFrame).fab } := rfl
  generalize s.portPut r 3 s.helloFrame = u at hexec hout hall
  refine ⟨_, hexec, ?_, ?_, State.settle_fabOnly hall⟩
  · have hlast : (3, s.helloFrame) ∈ u.fab.port[r].out.getLast? := by rw [hout, List.getLast?_concat]; rfl
    exact ⟨(3, s.helloFrame), hlast, rfl, rfl, rfl, hfirst, rfl⟩
  · have hdrop : u.fab.port[r].out.dropLast = s.fab.port[r].out := by rw [hout, List.dropLast_concat]
    exact hdrop

theorem no_hello_send (h : s.fab.port[r].st = .down ∨ s.fab.port[r].st = .train) : exec (.helloSend r) s = .next s.settle :=
  (congrArg finish (State.awake_clocked hc fun t => t.helloOut r)).trans (congrArg finish (if_neg fun h' => by
    rcases h with h | h <;> rw [h] at h' <;> simp at h'))

/-- What a port learns of its peer from a HELLO frame. -/
def learnt (p : FPort) (id : Fin 32) (idv bench : Bool) (rank : Fin 4) : FPort :=
  { p with
    peer := id.val, peerIdv := idv, peerBench := bench, peerRank := rank.val, peerV := true,
    tree := if bench then 3 else if p.tree = 3 then 0 else p.tree }

section
variable {id : Fin 32} {idv bench : Bool} {rank : Fin 4} {serial : BitVec 64}

theorem exec_helloReceive : exec (.helloReceive r q id idv bench rank serial) s = .next (s.helloIn r q id idv bench rank).settle :=
  congrArg finish (State.awake_clocked hc fun t => t.helloIn r q id idv bench rank)

theorem hello_learns (hst : s.fab.port[r].st = .hello) : exec (.helloReceive r q id idv bench rank serial) s
    = .next (s.setPort r fun p => learnt p id idv bench rank).settle := by
  have heq : s.helloIn r q id idv bench rank = s.setPort r fun p => learnt p id idv bench rank := by
    unfold State.helloIn
    dsimp only
    rw [hst]
    rfl
  rw [exec_helloReceive hc, heq]

end

/-! ### HELLO and TRAIN at silence and code errors (R348) -/

theorem silent_hello (hst : s.fab.port[r].st = .hello) :
    exec (.portSilence r) s = .next (s.setPort r fun p => { FPort.reset with delay := p.delay, errs := p.errs }).settle := by
  have hexec : exec (.portSilence r) s = .next (s.portSilence r).settle := congrArg finish (State.awake_clocked hc fun t => t.portSilence r)
  have heq : s.portSilence r = s.setPort r fun p => { FPort.reset with delay := p.delay, errs := p.errs } := by
    refine (if_neg (by rw [hst]; decide)).trans ?_
    unfold State.portDown
    dsimp only
    rw [hst]
    rfl
  rw [hexec, heq]

theorem errors_hello (hst : s.fab.port[r].st = .hello) : ∃ t, exec (.portCodeErrors r) s = .next t
    ∧ t.fab.port[r] = { s.fab.port[r] with st := .train, out := [], errs := errsWith s r 1 }
    ∧ t.rf Reg.fabPortCode r.val 15 0 = min 65535 (s.rf Reg.fabPortCode r.val 15 0 + 1) ∧ t.coll = s.coll := by
  have hexec : exec (.portCodeErrors r) s = .next (s.portCodeErrors r).settle :=
    congrArg finish (State.awake_clocked hc fun t => t.portCodeErrors r)
  have heq : s.portCodeErrors r = (s.codeErr r 1).portRetrain r := by rw [State.portCodeErrors, hst]
  rw [heq] at hexec
  have hport : ((s.codeErr r 1).portRetrain r).fab.port[r] = { s.fab.port[r] with st := .train, out := [], errs := errsWith s r 1 } := by
    refine ((s.codeErr r 1).setPort_same r _).trans ?_
    obtain ⟨g, hg⟩ := codeErr_parts s r 1
    have hone : (s.codeErr r 1).fab.port[r] = { s.fab.port[r] with errs := errsWith s r 1 } := by
      rw [hg]
      exact s.setPort_same r _
    rw [hone]
  exact ⟨_, hexec, hport, codeErr_code s r 1, rfl⟩

theorem errors_idle (hst : s.fab.port[r].st = .down ∨ s.fab.port[r].st = .train) : ∃ t, exec (.portCodeErrors r) s = .next t
    ∧ t.fab = (s.setPort r fun p => { p with errs := errsWith s r (8 - s.fab.port[r].errsAt s.now) }).fab ∧ t.coll = s.coll
    ∧ t.rf Reg.fabPortCode r.val 15 0 = min 65535 (s.rf Reg.fabPortCode r.val 15 0 + (8 - s.fab.port[r].errsAt s.now)) := by
  have hexec : exec (.portCodeErrors r) s = .next (s.portCodeErrors r).settle :=
    congrArg finish (State.awake_clocked hc fun t => t.portCodeErrors r)
  have heq : s.portCodeErrors r = s.codeErr r (8 - s.fab.port[r].errsAt s.now) := by
    unfold State.portCodeErrors
    rcases hst with h | h <;> rw [h]
  rw [heq] at hexec
  exact ⟨_, hexec, rfl, rfl, codeErr_code ..⟩

/-! ### ACK, NAK and their timeout (R346, R347) -/

theorem ack_receive : exec (.ackReceive r q) s = .next (s.setPort r fun p => { p with held := p.held.filter (fun e =>
    (decide ((p.lseq + 64 - e.1 % 64) % 64 ≤ (q.val % 64 + 64 - e.1 % 64) % 64) : Bool)) }).settle :=
  congrArg finish (State.awake_clocked hc fun t => t.ackTo r q.val)

theorem exec_nak : exec (.nakReceive r q) s = .next (s.retryFrom r (q.val % 64)).settle :=
  congrArg finish (State.awake_clocked hc fun t => t.retryFrom r (q.val % 64))

theorem exec_ackTimeout : exec (.ackTimeout r) s = .next (s.ackTimeout r).settle := congrArg finish (State.awake_clocked hc fun t => t.ackTimeout r)

end

section
variable {s : State} {r : Fin 3}

theorem retry_none {n : Nat} (h : ∀ e ∈ s.fab.port[r].held, e.1 ≠ n) : s.retryFrom r n = s := by
  have hfind : s.fab.port[r].held.find? (fun e => decide (e.1 = n)) = none := List.find?_eq_none.2 fun e he => by simpa using h e he
  rw [State.retryFrom, hfind]

/-- A frame as its SOF leaves a port in a state. -/
def stampedBy (u : State) (r : Fin 3) (y : Frame) : Frame :=
  if y.ft = 4 then { y with bytes := y.bytes.take 6 ++ leBytes 6 (timeWord (u.sysAt (u.sofStamp r))) } else y

/-- The held frames from the one with LSEQ n onward have left again. -/
def Again (s : State) (r : Fin 3) (n : Nat) (t : State) : Prop :=
  t.fab.port[r] = { s.fab.port[r] with
      held := s.fab.port[r].held.takeWhile (fun x => decide (x.1 ≠ n)) ++ (s.fab.port[r].held.dropWhile fun x => decide (x.1 ≠ n)).map fun x =>
        (x.1, stampedBy s r x.2.1, if x.1 = n then x.2.2 + 1 else x.2.2) }
    ∧ t.fab.t1 = if (s.fab.port[r].held.dropWhile fun x => decide (x.1 ≠ n)).any fun x => decide (x.2.1.ft = 3) then some (s.sofStamp r) else s.fab.t1

theorem resend_again (s : State) (r : Fin 3) (n : Nat) : Again s r n (s.resend r n) := by
  unfold State.resend
  dsimp only
  refine ⟨(State.setPort_same _ r _).trans ?_, ?_⟩
  · by_cases h : ((s.fab.port[r].held.dropWhile fun x => decide (x.1 ≠ n)).any fun x => decide (x.2.1.ft = 3)) = true
    · rw [if_pos h]
      rfl
    · rw [if_neg h]
      rfl
  · by_cases h : ((s.fab.port[r].held.dropWhile fun x => decide (x.1 ≠ n)).any fun x => decide (x.2.1.ft = 3)) = true
    · rw [if_pos h, if_pos h]
      rfl
    · rw [if_neg h, if_neg h]
      rfl

theorem resend_parts (s : State) (r : Fin 3) (n : Nat) : ∃ f, s.resend r n = { s with fab := f } := by
  unfold State.resend
  dsimp only
  split <;> exact ⟨_, rfl⟩

/-- A retry that is not the ninth. -/
theorem retry_again {n : Nat} {e : Nat × Frame × Nat} (h : e ∈ s.fab.port[r].held.find? fun x => decide (x.1 = n)) (h8 : e.2.2 < 8) :
    Again s r e.1 (s.retryFrom r n).settle
    ∧ (s.retryFrom r n).settle.rf Reg.fabPortErr r.val 15 0 = min 65535 (s.rf Reg.fabPortErr r.val 15 0 + 1)
    ∧ (s.retryFrom r n).settle.coll = s.coll := by
  have heq : s.retryFrom r n = (s.resend r e.1).bump Reg.fabPortErr r.val 15 0 := by
    rw [State.retryFrom, h]
    exact if_neg (by omega)
  obtain ⟨f, hf⟩ := resend_parts s r e.1
  have hagain := resend_again s r e.1
  have hcount := (s.resend r e.1).bump_rf Reg.fabPortErr r.val (hi := 15) (lo := 0) (by decide) (by decide)
  have hrf : (s.resend r e.1).rf Reg.fabPortErr r.val 15 0 = s.rf Reg.fabPortErr r.val 15 0 := by rw [hf]; rfl
  have hfab : ((s.resend r e.1).bump Reg.fabPortErr r.val 15 0).fab = (s.resend r e.1).fab := by rw [State.bump_frame]
  have hcoll : ((s.resend r e.1).bump Reg.fabPortErr r.val 15 0).coll = s.coll := by rw [State.bump_frame, hf]
  rw [hrf, ← heq] at hcount
  rw [← heq] at hfab hcoll
  refine ⟨?_, hcount, hcoll⟩
  have hthis : Again s r e.1 (s.retryFrom r n) := by
    rw [Again, hfab]
    exact hagain
  exact hthis

/-- The retry that takes the port down. -/
theorem retry_down {n : Nat} {e : Nat × Frame × Nat} (h : e ∈ s.fab.port[r].held.find? fun x => decide (x.1 = n)) (h8 : 8 ≤ e.2.2) :
    s.retryFrom r n = s.portDown r 3 := by
  rw [State.retryFrom, h]
  exact if_pos h8

section
variable {q : Fin 256} (hc : s.clocked = true)
include hc

theorem nak_unknown (h : ∀ e ∈ s.fab.port[r].held, e.1 ≠ q.val % 64) : exec (.nakReceive r q) s = .next s.settle := by
  rw [exec_nak hc, retry_none h]

theorem nak_retries {e : Nat × Frame × Nat} (h : e ∈ s.fab.port[r].held.find? fun x => decide (x.1 = q.val % 64)) :
    (e.2.2 < 8 → ∃ t, exec (.nakReceive r q) s = .next t ∧ Again s r e.1 t
      ∧ t.rf Reg.fabPortErr r.val 15 0 = min 65535 (s.rf Reg.fabPortErr r.val 15 0 + 1) ∧ t.coll = s.coll)
    ∧ (8 ≤ e.2.2 → s.fab.port[r].st = .up → (∀ o ∈ s.fab.port[r].out, o.1 ≠ r.val) →
      ∃ t, exec (.nakReceive r q) s = .next t ∧ Down s r 3 s.fab.port[r].errs t) := by
  refine ⟨fun h8 => ?_, fun h8 hup hout => ?_⟩
  · obtain ⟨h1, h2, h3⟩ := retry_again h h8
    exact ⟨_, exec_nak hc, h1, h2, h3⟩
  · have hexec := exec_nak hc (r := r) (q := q)
    rw [retry_down h h8] at hexec
    exact ⟨_, hexec, down_of_leavesUp (State.portDown_up hup hout 3)⟩

theorem timeout_idle (h : s.fab.port[r].held = []) : exec (.ackTimeout r) s = .next s.settle := by
  have heq : s.ackTimeout r = s := by rw [State.ackTimeout, h]
  rw [exec_ackTimeout hc, heq]

theorem timeout_retries {e : Nat × Frame × Nat} (h : e ∈ s.fab.port[r].held.head?) (h8 : e.2.2 < 8) :
    ∃ t, exec (.ackTimeout r) s = .next t ∧ Again s r e.1 t
      ∧ t.rf Reg.fabPortErr r.val 15 0 = min 65535 (s.rf Reg.fabPortErr r.val 15 0 + 1) := by
  obtain ⟨l, hl⟩ := List.head?_eq_some_iff.1 h
  have heq : s.ackTimeout r = s.retryFrom r e.1 := by rw [State.ackTimeout, hl]
  have hfind : e ∈ s.fab.port[r].held.find? fun x => decide (x.1 = e.1) := by
    rw [hl]
    exact List.find?_cons_of_pos (by simp)
  have hexec := exec_ackTimeout hc (r := r)
  rw [heq] at hexec
  obtain ⟨h1, h2, -⟩ := retry_again hfind h8
  exact ⟨_, hexec, h1, h2⟩

end
end

end Sys2Proof.Proofs
end

section
/-! PROOFS. Frames that a port of the fabric takes in order, and what becomes of a message (R345 to R347, R356 to R358; O55). -/

open Sys2Proof Sys2Proof.Machine

namespace Sys2Proof.Proofs

/-- A frame is taken in order. -/
def takenAt (s : State) (r : Fin 3) : State :=
  ({ s with fab := { s.fab with rxN := s.fab.rxN + 1 } } : State).setPort r fun p => { p with expect := (p.expect + 1) % 64 }

section
variable {s : State} {r : Fin 3} {q : Fin 256}

theorem inOrder_taken (hup : s.fab.port[r].st = .up) (hq : q.val % 64 = s.fab.port[r].expect) : s.inOrder r q = (takenAt s r, true) := by
  unfold State.inOrder
  dsimp only
  rw [if_neg fun h => h hup, if_pos hq]
  rfl

theorem inOrder_nak (hup : s.fab.port[r].st = .up) (hq : q.val % 64 ≠ s.fab.port[r].expect) :
    s.inOrder r q = (s.setPort r fun p => { p with nak := true }, false) := by
  unfold State.inOrder
  dsimp only
  rw [if_neg fun h => h hup, if_neg hq]

theorem inOrder_off (hup : s.fab.port[r].st ≠ .up) : s.inOrder r q = (s, false) := if_pos hup

theorem taken_port (s : State) (r : Fin 3) : (takenAt s r).fab.port[r] = { s.fab.port[r] with expect := (s.fab.port[r].expect + 1) % 64 } :=
  State.setPort_same _ r _

theorem taken_other (s : State) {r k : Fin 3} (h : k ≠ r) : (takenAt s r).fab.port[k] = s.fab.port[k] := State.setPort_ne _ r _ h

theorem taken_out (s : State) (r k : Fin 3) : (takenAt s r).fab.port[k].out = s.fab.port[k].out := by
  by_cases h : k = r
  · rw [h, taken_port]
  · rw [taken_other s h]

/-! ### HELLO on an UP port -/

section
variable {id : Fin 32} {idv bench : Bool} {rank : Fin 4} {serial : BitVec 64} (hc : s.clocked = true) (hup : s.fab.port[r].st = .up)
include hc hup

theorem hello_taken (hq : q.val % 64 = s.fab.port[r].expect) : exec (.helloReceive r q id idv bench rank serial) s
    = .next ((takenAt s r).setPort r fun p => learnt p id idv bench rank).settle := by
  have heq : s.helloIn r q id idv bench rank = (takenAt s r).setPort r fun p => learnt p id idv bench rank := by
    unfold State.helloIn
    dsimp only
    rw [hup, inOrder_taken hup hq]
    rfl
  rw [exec_helloReceive hc, heq]

theorem hello_nak (hq : q.val % 64 ≠ s.fab.port[r].expect) : exec (.helloReceive r q id idv bench rank serial) s
    = .next (s.setPort r fun p => { p with nak := true }).settle := by
  have heq : s.helloIn r q id idv bench rank = s.setPort r fun p => { p with nak := true } := by
    unfold State.helloIn
    dsimp only
    rw [hup, inOrder_nak hup hq]
  rw [exec_helloReceive hc, heq]

end

/-! ### A message (R356, R357) -/

/-- The frame of a message that comes in. -/
def msgFrame (s : State) (vc : Bool) (dst src : Fin 32) (dwork swork : Fin 16) (type : BitVec 16) (lun : Fin 256) (pay : List Word) : Frame :=
  ⟨0, vc, dst.val, src.val, dwork.val, swork.val, type.toNat, lun.val, pay, [], s.fab.rxN + 1⟩

section
variable {vc : Bool} {dst src : Fin 32} {dwork swork : Fin 16} {type : BitVec 16} {lun : Fin 256} {pay : List Word} (hc : s.clocked = true)
include hc

theorem msg_taken (hup : s.fab.port[r].st = .up) (hq : q.val % 64 = s.fab.port[r].expect) :
    exec (.msgReceive r q vc dst src dwork swork type lun pay) s
      = .next ((takenAt s r).msgArrive r (msgFrame s vc dst src dwork swork type lun pay)).settle := by
  refine (congrArg finish (State.awake_clocked hc _)).trans ?_
  rw [inOrder_taken hup hq]
  rfl

theorem msg_nak (hup : s.fab.port[r].st = .up) (hq : q.val % 64 ≠ s.fab.port[r].expect) :
    exec (.msgReceive r q vc dst src dwork swork type lun pay) s = .next (s.setPort r fun p => { p with nak := true }).settle := by
  refine (congrArg finish (State.awake_clocked hc _)).trans ?_
  rw [inOrder_nak hup hq]
  rfl

theorem msg_off (hup : s.fab.port[r].st ≠ .up) : exec (.msgReceive r q vc dst src dwork swork type lun pay) s = .next s.settle := by
  refine (congrArg finish (State.awake_clocked hc _)).trans ?_
  rw [inOrder_off hup]
  rfl

end

/-! ### Discards (R357) -/

/-- A discard counts, and the first after a clearing is noted. -/
theorem fabDiscard_parts (u : State) (reason dst dwork : Nat) :
    (u.fabDiscard reason dst dwork).fab = u.fab ∧ (u.fabDiscard reason dst dwork).work = u.work
    ∧ (u.fabDiscard reason dst dwork).rf Reg.fabCnt 0 15 0 = min 65535 (u.rf Reg.fabCnt 0 15 0 + 1)
    ∧ (u.rf Reg.fabCnt 0 15 0 = 0 → u.Emits (u.fabDiscard reason dst dwork) 0 Kind.fabDiscard (srcF 0xF) (reason % 8 + dst % 32 * 8 + dwork % 16 * 256)) := by
  have hcount := u.bump_rf Reg.fabCnt 0 (hi := 15) (lo := 0) (by decide) (by decide)
  have hframe := u.bump_frame Reg.fabCnt 0 15 0
  unfold State.fabDiscard
  dsimp only
  generalize u.bump Reg.fabCnt 0 15 0 = v at hcount hframe ⊢
  have hfab : v.fab = u.fab := by rw [hframe]
  have hwork : v.work = u.work := by rw [hframe]
  have hcoll : v.coll = u.coll := by rw [hframe]
  have hnow : v.now = u.now := by rw [hframe]
  by_cases h0 : u.rf Reg.fabCnt 0 15 0 = 0
  · rw [if_pos (by simpa using h0)]
    have hcontrol := emit_control v 0 Kind.fabDiscard (reason % 8 + dst % 32 * 8 + dwork % 16 * 256) (srcF_control 0xF).1
    have hrf : (v.emit 0 Kind.fabDiscard (srcF 0xF) (reason % 8 + dst % 32 * 8 + dwork % 16 * 256)).rf Reg.fabCnt 0 15 0 = v.rf Reg.fabCnt 0 15 0 := by
      rw [State.rf, State.emit_rg_ne _ _ _ _ _ (by decide), State.rf]
    refine ⟨by rw [hcontrol]; exact hfab, by rw [hcontrol]; exact hwork, hrf.trans hcount, fun _ => ?_⟩
    exact State.emits_emit (by rw [hcoll]) (by rw [hnow]) (List.Subset.refl _) (by rw [hcontrol])
  · rw [if_neg (by simpa using h0)]
    exact ⟨hfab, hwork, hcount, fun h => absurd h h0⟩

/-- A message has been discarded: its buffer is free, and the discard is counted and noted. -/
def Dropped (s : State) (r : Fin 3) (vc : Bool) (dst : Fin 32) (dwork : Fin 16) (reason : Nat) (t : State) : Prop :=
  t.fab.port[r] = FPort.freed { s.fab.port[r] with expect := (s.fab.port[r].expect + 1) % 64 } vc ∧ t.work = s.work
    ∧ t.rf Reg.fabCnt 0 15 0 = min 65535 (s.rf Reg.fabCnt 0 15 0 + 1)
    ∧ (s.rf Reg.fabCnt 0 15 0 = 0 → s.Emits t 0 0x17 0x2EF (reason + dst.val * 8 + dwork.val * 256))

section
variable {vc : Bool} {dst src : Fin 32} {dwork swork : Fin 16} {type : BitVec 16} {lun : Fin 256} {pay : List Word}

/-- No output holds the frame that has been taken. -/
theorem taken_free (h : ∀ k : Fin 3, ∀ e ∈ s.fab.port[k].out, e ≠ (r.val, msgFrame s vc dst src dwork swork type lun pay)) {u : State}
    (hu : u.fab = (takenAt s r).fab) : u.freeBuffer r.val (msgFrame s vc dst src dwork swork type lun pay)
      = u.setPort r fun p => p.freed vc :=
  State.freeBuffer_last u _ r (show 0 < 3 by decide) fun k e he => h k e (by rw [hu, taken_out] at he; exact he)

/-- A frame discarded, and its buffer freed. -/
theorem dropped_of_discard (h : ∀ k : Fin 3, ∀ e ∈ s.fab.port[k].out, e ≠ (r.val, msgFrame s vc dst src dwork swork type lun pay)) {reason : Nat}
    (hr : reason < 8) : Dropped s r vc dst dwork reason
      (((takenAt s r).fabDiscard reason dst.val dwork.val).freeBuffer r.val (msgFrame s vc dst src dwork swork type lun pay)).settle := by
  obtain ⟨hfab, hwork, hcount, hemit⟩ := fabDiscard_parts (takenAt s r) reason dst.val dwork.val
  rw [taken_free h hfab]
  have hport := State.setPort_same ((takenAt s r).fabDiscard reason dst.val dwork.val) r fun p => p.freed vc
  rw [hfab, taken_port] at hport
  refine ⟨hport, hwork, hcount, fun h0 => ?_⟩
  have hctx : reason % 8 + dst.val % 32 * 8 + dwork.val % 16 * 256 = reason + dst.val * 8 + dwork.val * 256 := by
    rw [Nat.mod_eq_of_lt hr, Nat.mod_eq_of_lt dst.isLt, Nat.mod_eq_of_lt dwork.isLt]
  have hthis := hemit h0
  rw [hctx] at hthis
  exact hthis

end
end

end Sys2Proof.Proofs
end

section
/-! PROOFS. Messages that reach a node of the fabric: discarded, delivered as a FAB cue, or put out on their way (R205, R206, R345, R356 to
R358; O55). -/

open Sys2Proof Sys2Proof.Machine

namespace Sys2Proof.Proofs

/-- A FAB cue has been raised at a work. -/
def FabCue (s t : State) (v : Fin 9) (from_ sw ty : Nat) (l : List Word) : Prop :=
  t.work[v].cues = s.work[v].cues
    ++ [⟨24, BitVec.ofNat 32 (from_ % 32 + sw % 16 * 32 + ty % 65536 * 65536), l.headD 0, s.now, s.now + 4, l⟩]

/-- The delivery of a message to a work that is carried and has room for its cue. -/
theorem deliver_cue {u : State} {f : Frame} {w : Fin 9} (hlive : u.live = true) (hw : f.dwork = w.val) (hcar : u.carrier w ≠ none)
    (hroom : (u.work[w].cues.filter (·.cue = 24)).length < 8) : u.deliver f = u.setWork w fun k => { k with cues := k.cues
      ++ [⟨24, wordN (f.src % 32 + f.swork % 16 * 32 + f.type % 65536 * 65536), f.pay.headD 0, u.now, u.now + 4, f.pay⟩] } := by
  have hlt : f.dwork < 9 := by rw [hw]; exact w.isLt
  have hidx : (⟨f.dwork, hlt⟩ : Fin 9) = w := Fin.ext hw
  have hsome : ¬ (u.carrier w).isNone = true := by simpa [Option.isNone_iff_eq_none] using hcar
  unfold State.deliver
  rw [dif_pos hlt]
  dsimp only
  rw [hidx, if_neg (by rw [hlive]; decide), if_neg hsome]
  unfold State.raiseCue
  exact if_pos hroom

theorem cues_of_setWork (u : State) (w : Fin 9) (f : Work → Work) : (u.setWork w f).work[w] = f u.work[w] := Vector.getElem_set_self ..

section
variable {s : State} {r : Fin 3} {q : Fin 256} {vc : Bool} {dst src : Fin 32} {dwork swork : Fin 16} {type : BitVec 16} {lun : Fin 256}
  {pay : List Word}

/-- A message whose node the frame has reached, of a type that works exchange. -/
theorem arrive_own (hb : s.fab.bench = false) (hlun : lun.val = s.fab.lun) (hdst : dst.val = s.nodeId) (ht : type.toNat < 0x8000) :
    (takenAt s r).msgArrive r (msgFrame s vc dst src dwork swork type lun pay)
      = ((takenAt s r).deliver (msgFrame s vc dst src dwork swork type lun pay)).freeBuffer r.val (msgFrame s vc dst src dwork swork type lun pay) := by
  have hb' : ¬ (takenAt s r).fab.bench = true := by change ¬ s.fab.bench = true; rw [hb]; decide
  have hl' : ¬ (msgFrame s vc dst src dwork swork type lun pay).lun ≠ (takenAt s r).fab.lun := fun h => h hlun
  have hd' : (msgFrame s vc dst src dwork swork type lun pay).dst = (takenAt s r).nodeId := hdst
  have ht' : (msgFrame s vc dst src dwork swork type lun pay).userType = true := decide_eq_true ht
  rw [State.msgArrive, if_neg hb', if_neg hl', if_pos hd', ht']
  rfl

section
variable (hc : s.clocked = true) (hup : s.fab.port[r].st = .up) (hq : q.val % 64 = s.fab.port[r].expect) (hb : s.fab.bench = false)
include hc hup hq hb

section
variable (hfree : ∀ k : Fin 3, ∀ e ∈ s.fab.port[k].out, e ≠ (r.val, msgFrame s vc dst src dwork swork type lun pay))
include hfree

/-- A message of another line-up. -/
theorem msg_other_lineup (hlun : lun.val ≠ s.fab.lun) :
    ∃ t, exec (.msgReceive r q vc dst src dwork swork type lun pay) s = .next t ∧ Dropped s r vc dst dwork 1 t := by
  refine ⟨_, msg_taken hc hup hq, ?_⟩
  have hb' : ¬ (takenAt s r).fab.bench = true := by change ¬ s.fab.bench = true; rw [hb]; decide
  have hl' : (msgFrame s vc dst src dwork swork type lun pay).lun ≠ (takenAt s r).fab.lun := hlun
  rw [State.msgArrive, if_neg hb', if_pos hl']
  exact dropped_of_discard hfree (by decide)

/-- A message to a node that none leads to. -/
theorem msg_no_route (hlun : lun.val = s.fab.lun) (hdst : dst.val ≠ s.nodeId) (hroute : s.routeTo dst.val = none) :
    ∃ t, exec (.msgReceive r q vc dst src dwork swork type lun pay) s = .next t ∧ Dropped s r vc dst dwork 5 t := by
  refine ⟨_, msg_taken hc hup hq, ?_⟩
  have hb' : ¬ (takenAt s r).fab.bench = true := by change ¬ s.fab.bench = true; rw [hb]; decide
  have hl' : ¬ (msgFrame s vc dst src dwork swork type lun pay).lun ≠ (takenAt s r).fab.lun := fun h => h hlun
  have hd' : ¬ (msgFrame s vc dst src dwork swork type lun pay).dst = (takenAt s r).nodeId := hdst
  have hr' : (takenAt s r).routeTo (msgFrame s vc dst src dwork swork type lun pay).dst = none := hroute
  rw [State.msgArrive, if_neg hb', if_neg hl', if_neg hd', hr']
  exact dropped_of_discard hfree (by decide)

section
variable (hlun : lun.val = s.fab.lun) (hdst : dst.val = s.nodeId) (ht : type.toNat < 0x8000)
include hlun hdst ht

/-- A message to this node that its works do not take. -/
theorem msg_refused {reason : Nat} (hr : reason < 8)
    (h : (takenAt s r).deliver (msgFrame s vc dst src dwork swork type lun pay) = (takenAt s r).fabDiscard reason dst.val dwork.val) :
    ∃ t, exec (.msgReceive r q vc dst src dwork swork type lun pay) s = .next t ∧ Dropped s r vc dst dwork reason t := by
  refine ⟨_, msg_taken hc hup hq, ?_⟩
  rw [arrive_own hb hlun hdst ht, h]
  exact dropped_of_discard hfree hr

theorem msg_not_live (hlive : s.live = false) (hw : dwork.val < 9) :
    ∃ t, exec (.msgReceive r q vc dst src dwork swork type lun pay) s = .next t ∧ Dropped s r vc dst dwork 4 t := by
  refine msg_refused hc hup hq hb hfree hlun hdst ht (by decide) ?_
  have hl : (!(takenAt s r).live) = true := by change (!s.live) = true; rw [hlive]; rfl
  unfold State.deliver
  exact (dif_pos hw).trans (if_pos hl)

theorem msg_no_work (hw : 9 ≤ dwork.val) :
    ∃ t, exec (.msgReceive r q vc dst src dwork swork type lun pay) s = .next t ∧ Dropped s r vc dst dwork 3 t := by
  refine msg_refused hc hup hq hb hfree hlun hdst ht (by decide) ?_
  unfold State.deliver
  exact dif_neg (Nat.not_lt.2 hw)

variable {w : Fin 9} (hlive : s.live = true) (hw : dwork.val = w.val)
include hlive hw

theorem msg_not_carried (hcar : s.carrier w = none) :
    ∃ t, exec (.msgReceive r q vc dst src dwork swork type lun pay) s = .next t ∧ Dropped s r vc dst dwork 3 t := by
  refine msg_refused hc hup hq hb hfree hlun hdst ht (by decide) ?_
  have hl : ¬ (!(takenAt s r).live) = true := by change ¬ (!s.live) = true; rw [hlive]; decide
  have hlt : dwork.val < 9 := by omega
  have hidx : (⟨dwork.val, hlt⟩ : Fin 9) = w := Fin.ext hw
  have hnone : ((takenAt s r).carrier ⟨dwork.val, hlt⟩).isNone = true := by
    change (s.carrier ⟨dwork.val, hlt⟩).isNone = true
    rw [hidx, hcar]
    rfl
  unfold State.deliver
  exact (dif_pos hlt).trans ((if_neg hl).trans (if_pos hnone))

/-- A message that a work takes. -/
theorem msg_delivered (hcar : s.carrier w ≠ none) (hroom : (s.work[w].cues.filter (·.cue = 24)).length < 8) :
    ∃ t, exec (.msgReceive r q vc dst src dwork swork type lun pay) s = .next t
      ∧ FabCue s t w src.val swork.val type.toNat pay
      ∧ t.fab.port[r] = FPort.freed { s.fab.port[r] with expect := (s.fab.port[r].expect + 1) % 64 } vc ∧ t.coll = s.coll ∧ t.edg = s.edg := by
  refine ⟨_, msg_taken hc hup hq, ?_⟩
  rw [arrive_own hb hlun hdst ht, deliver_cue (u := takenAt s r) (f := msgFrame s vc dst src dwork swork type lun pay) (w := w) hlive hw hcar hroom]
  have hwork := cues_of_setWork (takenAt s r) w fun k => { k with cues := k.cues
    ++ [⟨24, wordN ((msgFrame s vc dst src dwork swork type lun pay).src % 32 + (msgFrame s vc dst src dwork swork type lun pay).swork % 16 * 32
        + (msgFrame s vc dst src dwork swork type lun pay).type % 65536 * 65536), (msgFrame s vc dst src dwork swork type lun pay).pay.headD 0,
      (takenAt s r).now, (takenAt s r).now + 4, (msgFrame s vc dst src dwork swork type lun pay).pay⟩] }
  generalize hu : (takenAt s r).setWork w _ = u at hwork ⊢
  have hfab : u.fab = (takenAt s r).fab := by rw [← hu]; rfl
  have hcoll : u.coll = s.coll := by rw [← hu]; rfl
  have hedg : u.edg = s.edg := by rw [← hu]; rfl
  have hport := u.setPort_same r fun p => p.freed vc
  rw [hfab, taken_port] at hport
  rw [taken_free hfree hfab]
  exact ⟨congrArg Work.cues hwork, hport, hcoll, hedg⟩

end
end

/-- A message on its way to another node. -/
theorem msg_passed (hlun : lun.val = s.fab.lun) (hdst : dst.val ≠ s.nodeId) {o : Fin 3} (ho : o ∈ s.routeTo dst.val) :
    ∃ t, exec (.msgReceive r q vc dst src dwork swork type lun pay) s = .next t
      ∧ t.fab.port[o].out = s.fab.port[o].out ++ [(r.val, msgFrame s vc dst src dwork swork type lun pay)]
      ∧ t.fab.port[r].expect = (s.fab.port[r].expect + 1) % 64 ∧ t.work = s.work ∧ t = { s with fab := t.fab, pins := t.pins } := by
  refine ⟨_, msg_taken hc hup hq, ?_⟩
  have hb' : ¬ (takenAt s r).fab.bench = true := by change ¬ s.fab.bench = true; rw [hb]; decide
  have hl' : ¬ (msgFrame s vc dst src dwork swork type lun pay).lun ≠ (takenAt s r).fab.lun := fun h => h hlun
  have hd' : ¬ (msgFrame s vc dst src dwork swork type lun pay).dst = (takenAt s r).nodeId := hdst
  have hr' : (takenAt s r).routeTo (msgFrame s vc dst src dwork swork type lun pay).dst = some o := ho
  rw [State.msgArrive, if_neg hb', if_neg hl', if_neg hd', hr']
  generalize msgFrame s vc dst src dwork swork type lun pay = f
  have hport := (takenAt s r).portPut_same o r.val f
  have hout : ((takenAt s r).portPut o r.val f).fab.port[o].out = s.fab.port[o].out ++ [(r.val, f)] := by
    rw [hport]
    exact congrArg (· ++ [(r.val, f)]) (taken_out s r o)
  have hexp : ((takenAt s r).portPut o r.val f).fab.port[r].expect = (s.fab.port[r].expect + 1) % 64 := by
    by_cases h : r = o
    · rw [← h, State.portPut_same, taken_port]
    · rw [State.portPut_ne _ _ _ _ h, taken_port]
  exact ⟨hout, hexp, rfl, State.settle_fabOnly rfl⟩

end

/-! ### Messages to the own node (R206, R357) -/

theorem own_message {w v : Fin 9} {m : Frame} (hc : s.clocked = true) (hm : m ∈ s.fab.sendQ[sendIdx w vc].head?) (hdst : m.dst = s.nodeId) (hw : m.dwork = v.val)
    (hlive : s.live = true) (hcar : s.carrier v ≠ none) (hroom : (s.work[v].cues.filter (·.cue = 24)).length < 8) :
    ∃ t, exec (.ownNodeMessage w vc) s = .next t ∧ t.fab.sendQ[sendIdx w vc] = s.fab.sendQ[sendIdx w vc].tail
      ∧ FabCue s t v m.src m.swork m.type m.pay ∧ t.fab.port = s.fab.port ∧ t.coll = s.coll := by
  have hexec : exec (.ownNodeMessage w vc) s = .next (s.ownMessage w vc).settle := congrArg finish (State.awake_clocked hc fun t => t.ownMessage w vc)
  obtain ⟨l, hl⟩ := List.head?_eq_some_iff.1 hm
  have heq : s.ownMessage w vc = ({ s with fab := { s.fab with sendQ := upd s.fab.sendQ (sendIdx w vc) fun _ => l } } : State).deliver m := by
    unfold State.ownMessage
    rw [hl]
    exact if_neg fun h => h hdst
  have hcue := deliver_cue (u := ({ s with fab := { s.fab with sendQ := upd s.fab.sendQ (sendIdx w vc) fun _ => l } } : State)) (f := m) (w := v)
    hlive hw hcar hroom
  rw [heq, hcue] at hexec
  refine ⟨_, hexec, ?_, congrArg Work.cues (cues_of_setWork _ v _), rfl, rfl⟩
  rw [hl]
  exact Vector.getElem_set_self ..

theorem no_own_message {w : Fin 9} (hc : s.clocked = true) (hm : s.fab.sendQ[sendIdx w vc] = []) : exec (.ownNodeMessage w vc) s = .next s.settle := by
  have hexec : exec (.ownNodeMessage w vc) s = .next (s.ownMessage w vc).settle := congrArg finish (State.awake_clocked hc fun t => t.ownMessage w vc)
  have heq : s.ownMessage w vc = s := by
    unfold State.ownMessage
    rw [hm]
  rw [hexec, heq]

end

end Sys2Proof.Proofs
end

section
/-! SUPPORT. The choice of an output of the fabric and the frame that it sends (R346, R347, R349, R354, R359). -/

namespace Sys2Proof.Machine

/-! ### Whose turn it is (R349) -/

/-- What input i of an output may send on a channel. -/
def State.turnOf (s : State) (r : Fin 3) (vc : Bool) (i : Nat) : Option Pick :=
  let p := s.fab.port[r]
  let credit := decide (0 < if vc then p.crA else p.crB)
  match p.out.find? fun e => decide (e.1 = i) && (decide (e.2.vc = vc) && (e.2.isLink || credit)) with
  | some e => some (.entry e.1 e.2)
  | none => if i = 3 ∧ credit then (nextWork (if vc then p.wturnA else p.wturnB) (s.sendHeads r vc)).map Pick.msg else none

theorem State.pickVc_eq (s : State) (r : Fin 3) (vc : Bool) : s.pickVc r vc
    = ((List.range 4).map fun i => ((if vc then s.fab.port[r].turnA else s.fab.port[r].turnB) + 1 + i) % 4).findSome? (s.turnOf r vc) := rfl

/-- The four inputs in turn are each of the four. -/
theorem mem_turns (n : Nat) {k : Nat} (h : k < 4) : k ∈ (List.range 4).map fun i => (n + 1 + i) % 4 := by
  refine List.mem_map.2 ⟨(k + 4 - (n + 1) % 4) % 4, List.mem_range.2 (Nat.mod_lt _ (by decide)), ?_⟩
  omega

/-- A search finds what is the only thing to be found. -/
theorem findSome?_only {α β : Type} {f : α → Option β} {x : β} {l : List α} (h : ∀ i ∈ l, f i = none ∨ f i = some x) {k : α} (hk : k ∈ l)
    (hx : f k = some x) : l.findSome? f = some x := by
  induction l with
  | nil => cases hk
  | cons i l ih =>
    rw [List.forall_mem_cons] at h
    obtain ⟨h0, h⟩ := h
    rcases h0 with h0 | h0
    · rw [List.findSome?_cons_of_isNone (by simp [h0])]
      rcases List.mem_cons.1 hk with rfl | hk
      · rw [hx] at h0
        cases h0
      · exact ih h hk
    · rw [List.findSome?_cons, h0]

theorem nextWork_nil (n : Nat) : nextWork n [] = none := by
  unfold nextWork
  exact List.findSome?_eq_none_iff.2 fun _ _ => rfl

theorem nextWork_one (n : Nat) (w : Fin 9) : nextWork n [w] = some w := by
  unfold nextWork
  refine findSome?_only (k := w.val) (fun i _ => ?_) ?_ (List.find?_cons_of_pos (by simp))
  · by_cases h : w.val = i
    · exact .inr (List.find?_cons_of_pos (by simpa using h))
    · exact .inl (by simp [h])
  · refine List.mem_map.2 ⟨(w.val + 9 - (n + 1) % 9) % 9, List.mem_range.2 (Nat.mod_lt _ (by decide)), ?_⟩
    omega

section
variable {s : State} {r : Fin 3} {vc : Bool}

/-- Nothing waits on a channel, or it has no credit. -/
theorem State.pickVc_none (hout : ∀ e ∈ s.fab.port[r].out, ¬ (e.2.vc = vc ∧ (e.2.isLink = true ∨ 0 < if vc then s.fab.port[r].crA else s.fab.port[r].crB)))
    (hq : s.sendHeads r vc = []) : s.pickVc r vc = none := by
  rw [State.pickVc_eq]
  refine List.findSome?_eq_none_iff.2 fun i _ => ?_
  unfold State.turnOf
  dsimp only
  rw [List.find?_eq_none.2 fun e he h => hout e he (by simpa using (Bool.and_eq_true_iff.1 h).2), hq, nextWork_nil]
  exact ite_self _

/-- One entry alone may go on a channel. -/
theorem State.pickVc_entry {e : Nat × Frame} (he : e ∈ s.fab.port[r].out) (h4 : e.1 < 4) (hvc : e.2.vc = vc)
    (hmay : e.2.isLink = true ∨ 0 < if vc then s.fab.port[r].crA else s.fab.port[r].crB)
    (honly : ∀ o ∈ s.fab.port[r].out, o.2.vc = vc → o = e) (hq : s.sendHeads r vc = []) : s.pickVc r vc = some (.entry e.1 e.2) := by
  have hfind (i : Nat) : (s.fab.port[r].out.find? fun o => decide (o.1 = i) && (decide (o.2.vc = vc)
      && (o.2.isLink || decide (0 < if vc then s.fab.port[r].crA else s.fab.port[r].crB)))) = if e.1 = i then some e else none := by
    by_cases hi : e.1 = i
    · rw [if_pos hi]
      cases hf : s.fab.port[r].out.find? _ with
      | none => exact absurd (by
          simp only [hi, hvc, decide_true, Bool.true_and, Bool.or_eq_true, decide_eq_true_eq]
          exact hmay) (List.find?_eq_none.1 hf e he)
      | some o =>
        have ho := List.find?_some hf
        simp only [Bool.and_eq_true, decide_eq_true_eq] at ho
        rw [honly o (List.mem_of_find?_eq_some hf) ho.2.1]
    · rw [if_neg hi]
      refine List.find?_eq_none.2 fun o ho h => hi ?_
      simp only [Bool.and_eq_true, decide_eq_true_eq] at h
      rw [← honly o ho h.2.1]
      exact h.1
  have hturn (i : Nat) : s.turnOf r vc i = if e.1 = i then some (.entry e.1 e.2) else none := by
    unfold State.turnOf
    dsimp only
    rw [hfind, hq, nextWork_nil]
    by_cases hi : e.1 = i
    · rw [if_pos hi, if_pos hi]
    · rw [if_neg hi, if_neg hi]
      exact ite_self _
  rw [State.pickVc_eq]
  refine findSome?_only (k := e.1) (fun i _ => ?_) (mem_turns _ h4) ((hturn _).trans (if_pos rfl))
  rw [hturn]
  split
  · exact .inr rfl
  · exact .inl rfl

/-- One work's message alone may go on a channel. -/
theorem State.pickVc_msg {w : Fin 9} (hout : s.fab.port[r].out = []) (hcr : 0 < if vc then s.fab.port[r].crA else s.fab.port[r].crB)
    (hq : s.sendHeads r vc = [w]) : s.pickVc r vc = some (.msg w) := by
  have hturn (i : Nat) : s.turnOf r vc i = if i = 3 then some (.msg w) else none := by
    unfold State.turnOf
    dsimp only
    rw [hout, hq, nextWork_one]
    simp only [List.find?_nil, hcr, decide_true, and_true]
    rfl
  rw [State.pickVc_eq]
  refine findSome?_only (k := 3) (fun i _ => ?_) (mem_turns _ (by decide)) ((hturn _).trans (if_pos rfl))
  rw [hturn]
  split
  · exact .inr rfl
  · exact .inl rfl

end

/-! ### A frame leaves (R346, R347, R359) -/

/-- An output after its frame f, which came by input inp, has left as y; both: a bulk frame waited. -/
def FPort.sent (q : FPort) (inp : Nat) (f y : Frame) (both : Bool) : FPort :=
  { q with
    held := q.held ++ [(q.lseq, y, 0)], lseq := (q.lseq + 1) % 64,
    turnA := if f.vc then inp else q.turnA, turnB := if f.vc then q.turnB else inp,
    crA := if f.vc && !f.isLink then q.crA - 1 else q.crA, crB := if !f.vc && !f.isLink then q.crB - 1 else q.crB,
    angRun := if f.vc then (if both then q.angRun + 1 else 0) else 0 }

/-- A frame leaves an output; a DREQ marks its instant. -/
def State.sendOut (t : State) (r : Fin 3) (inp : Nat) (f : Frame) (both : Bool) : State :=
  (if f.ft = 3 then { t with fab := { t.fab with t1 := some (t.sofStamp r) } } else t : State).setPort r fun q => q.sent inp f (t.stampT3 r f) both

/-- An entry leaves an output's queue, and its receive buffer may be free. -/
def State.sendEntry (g : State) (r : Fin 3) (inp : Nat) (f : Frame) (both : Bool) : State :=
  ((g.setPort r fun q => { q with out := q.out.erase (inp, f) }).sendOut r inp f both).freeBuffer inp f

/-- A message leaves its work's queue. -/
def State.sendWork (g : State) (r : Fin 3) (w : Fin 9) (vc : Bool) (m : Frame) (l : List Frame) (both : Bool) : State :=
  (({ g with fab := { g.fab with sendQ := upd g.fab.sendQ (sendIdx w vc) fun _ => l } } : State).sendOut r 3
    { m with lun := g.fab.lun } both).setPort r fun q => { q with wturnA := if vc then w.val else q.wturnA, wturnB := if vc then q.wturnB else w.val }

/-- What an output sends of what its angle and its bulk channel would send. -/
def State.sendChoice (g : State) (r : Fin 3) (ang blk : Option Pick) : State :=
  let useAng := ang.isSome && !(decide (3 ≤ g.fab.port[r].angRun) && blk.isSome)
  match if useAng then ang else blk with
  | none => g
  | some (.entry inp f) => g.sendEntry r inp f blk.isSome
  | some (.msg w) =>
    match g.fab.sendQ[sendIdx w useAng] with
    | [] => g
    | m :: l => g.sendWork r w useAng m l blk.isSome

section
variable {s : State} {r : Fin 3}

theorem State.forward_hello (h : s.asegFlush.fab.port[r].st = .hello) :
    s.forward r = s.asegFlush.setPort r fun q => { q with out := q.out.tail } := if_pos h

/-- A port that is not UP, or holds all it may. -/
theorem State.forward_stays (h : s.asegFlush.fab.port[r].st ≠ .hello)
    (h' : s.asegFlush.fab.port[r].st ≠ .up ∨ 8 ≤ s.asegFlush.fab.port[r].held.length) : s.forward r = s.asegFlush :=
  (if_neg h).trans (if_pos h')

/-- A port that may send does so by the choices of its two channels. -/
theorem State.forward_up (hup : s.asegFlush.fab.port[r].st = .up) (hheld : s.asegFlush.fab.port[r].held.length < 8) :
    s.forward r = s.asegFlush.sendChoice r (s.asegFlush.pickVc r true) (s.asegFlush.pickVc r false) :=
  (if_neg (show ¬ s.asegFlush.fab.port[r].st = .hello by rw [hup]; decide)).trans
    ((if_neg (show ¬ (s.asegFlush.fab.port[r].st ≠ .up ∨ 8 ≤ s.asegFlush.fab.port[r].held.length) from fun h =>
      h.elim (fun h => h hup) (Nat.not_le.2 hheld))).trans rfl)

end

section
variable {g : State} {r : Fin 3}

theorem State.sendChoice_none : g.sendChoice r none none = g := rfl

/-- Only one channel has something to send. -/
theorem State.sendChoice_entry {vc : Bool} {inp : Nat} {f : Frame} : g.sendChoice r (if vc then some (.entry inp f) else none)
    (if vc then none else some (.entry inp f)) = g.sendEntry r inp f (!vc) := by
  cases vc with
  | true => simp [State.sendChoice]
  | false => rfl

/-- Both channels have something to send. -/
theorem State.sendChoice_both {inp jnp : Nat} {f k : Frame} : g.sendChoice r (some (.entry inp f)) (some (.entry jnp k))
    = if g.fab.port[r].angRun < 3 then g.sendEntry r inp f true else g.sendEntry r jnp k true := by
  by_cases h3 : g.fab.port[r].angRun < 3
  · rw [if_pos h3]
    have hrun : g.fab.port[r.val].angRun < 3 := h3
    simp [State.sendChoice, hrun]
  · rw [if_neg h3]
    have hrun : ¬ g.fab.port[r.val].angRun < 3 := h3
    simp [State.sendChoice, hrun]

/-- A work's message goes. -/
theorem State.sendChoice_msg {vc : Bool} {w : Fin 9} {m : Frame} {l : List Frame} (hq : g.fab.sendQ[sendIdx w vc] = m :: l) :
    g.sendChoice r (if vc then some (.msg w) else none) (if vc then none else some (.msg w)) = g.sendWork r w vc m l (!vc) := by
  cases vc with
  | true => simp [State.sendChoice, hq]
  | false =>
    simp only [State.sendChoice, Option.isSome_none, Bool.false_and, Bool.false_eq_true, if_false, hq]
    rfl

end

end Sys2Proof.Machine
end

section
/-! PROOFS. FRAME_FORWARD, and the settlement of the statement about the fabric's links (R345 to R349, R355 to R358; O55). -/

open Sys2Proof Sys2Proof.Machine

namespace Sys2Proof.Proofs

section
variable {g : State} {r : Fin 3} {inp : Nat} {f : Frame} {both : Bool}

/-- What a frame leaves of the port it goes out by. -/
theorem sendOut_port (t : State) (r : Fin 3) (inp : Nat) (f : Frame) (both : Bool) :
    (t.sendOut r inp f both).fab.port[r] = t.fab.port[r].sent inp f (stampedBy t r f) both := by
  unfold State.sendOut
  split <;> exact State.setPort_same _ r _

theorem sendOut_other (t : State) {r k : Fin 3} (h : k ≠ r) (inp : Nat) (f : Frame) (both : Bool) :
    (t.sendOut r inp f both).fab.port[k] = t.fab.port[k] := by
  unfold State.sendOut
  split <;> exact State.setPort_ne _ r _ h

theorem sendOut_fab (t : State) (r : Fin 3) (inp : Nat) (f : Frame) (both : Bool) : ∃ x, t.sendOut r inp f both = { t with fab := x } ∧ x.sendQ = t.fab.sendQ := by
  unfold State.sendOut
  split <;> exact ⟨_, rfl, rfl⟩

theorem sendOut_t1 (t : State) (r : Fin 3) (inp : Nat) (both : Bool) (h : f.ft = 3) : (t.sendOut r inp f both).fab.t1 = some (t.sofStamp r) := by
  unfold State.sendOut
  rw [if_pos h]
  rfl

/-- An entry's output: its frame is held, its turn taken, its credit paid. -/
theorem sendEntry_port : ∃ m n, (g.sendEntry r inp f both).fab.port[r]
    = { ({ g.fab.port[r] with out := g.fab.port[r].out.erase (inp, f) } : FPort).sent inp f (stampedBy g r f) both with freedA := m, freedB := n } := by
  have hfreed (u : State) : ∃ m n, (u.freeBuffer inp f).fab.port[r] = { u.fab.port[r] with freedA := m, freedB := n } := by
    unfold State.freeBuffer
    split
    · next hi =>
      dsimp only
      split
      · exact ⟨_, _, rfl⟩
      · by_cases hr : r = ⟨inp, hi⟩
        · rw [hr, State.setPort_same]
          split <;> exact ⟨_, _, rfl⟩
        · rw [State.setPort_ne _ _ _ hr]
          exact ⟨_, _, rfl⟩
    · exact ⟨_, _, rfl⟩
  obtain ⟨m, n, hmn⟩ := hfreed ((g.setPort r fun q => { q with out := q.out.erase (inp, f) }).sendOut r inp f both)
  refine ⟨m, n, hmn.trans ?_⟩
  rw [sendOut_port, State.setPort_same]
  rfl

theorem sendEntry_fab : g.sendEntry r inp f both = { g with fab := (g.sendEntry r inp f both).fab } := by
  obtain ⟨x, hx, -⟩ := sendOut_fab (g.setPort r fun q => { q with out := q.out.erase (inp, f) }) r inp f both
  obtain ⟨p, hp⟩ := ((g.setPort r fun q => { q with out := q.out.erase (inp, f) }).sendOut r inp f both).freeBuffer_ports f inp
  rw [State.sendEntry, hp, hx]
  rfl

theorem sendEntry_t1 (h : f.ft = 3) : (g.sendEntry r inp f both).fab.t1 = some (g.sofStamp r) := by
  rw [State.sendEntry, State.freeBuffer_link _ _ (Nat.le_of_eq h.symm)]
  exact sendOut_t1 _ r inp both h

/-- The buffer of a routed frame that only this output held is free. -/
theorem sendEntry_freed (i : Fin 3) (hft : f.ft < 3) (hr : (i.val, f) ∉ g.fab.port[r].out.erase (i.val, f))
    (hk : ∀ k : Fin 3, k ≠ r → (i.val, f) ∉ g.fab.port[k].out) :
    (g.sendEntry r i.val f both).fab.port[i].freedA = (if f.vc then (g.fab.port[i].freedA + 1) % 256 else g.fab.port[i].freedA)
    ∧ (g.sendEntry r i.val f both).fab.port[i].freedB = (if f.vc then g.fab.port[i].freedB else (g.fab.port[i].freedB + 1) % 256) := by
  have hport := sendOut_port (g.setPort r fun q => { q with out := q.out.erase (i.val, f) }) r i.val f both
  rw [State.setPort_same] at hport
  have hother (k : Fin 3) (h : k ≠ r) : ((g.setPort r fun q => { q with out := q.out.erase (i.val, f) }).sendOut r i.val f both).fab.port[k]
      = g.fab.port[k] := (sendOut_other _ h _ _ _).trans (State.setPort_ne _ r _ h)
  unfold State.sendEntry
  generalize (g.setPort r fun q => { q with out := q.out.erase (i.val, f) }).sendOut r i.val f both = u at hport hother ⊢
  have hlast := u.freeBuffer_last f i hft fun k e he heq => by
    subst heq
    by_cases h : k = r
    · subst h
      rw [hport] at he
      exact hr he
    · rw [hother k h] at he
      exact hk k h he
  have hA : u.fab.port[i].freedA = g.fab.port[i].freedA ∧ u.fab.port[i].freedB = g.fab.port[i].freedB := by
    by_cases h : i = r
    · subst h
      rw [hport]
      exact ⟨rfl, rfl⟩
    · rw [hother i h]
      exact ⟨rfl, rfl⟩
  rw [hlast, State.setPort_same, FPort.freed]
  cases f.vc with
  | true => exact ⟨by rw [← hA.1]; rfl, hA.2⟩
  | false => exact ⟨hA.1, by rw [← hA.2]; rfl⟩

end

section
variable {s : State} {r : Fin 3}

theorem exec_forward (hc : s.clocked = true) : exec (.frameForward r) s = .next (s.forward r).settle :=
  congrArg finish (State.awake_clocked hc fun t => t.forward r)

theorem broadcast_st (u : State) (f : Frame) (r : Fin 3) : (u.broadcast 3 f).fab.port[r].st = u.fab.port[r].st := by
  rw [State.broadcast_port]
  split <;> rfl

theorem asegSend_st (u : State) (r : Fin 3) : u.asegSend.fab.port[r].st = u.fab.port[r].st := by
  unfold State.asegSend
  split
  · rfl
  · split
    · rfl
    · dsimp only
      generalize u.unitFrame 2 _ = f
      exact broadcast_st u f r

/-- A segment that is put out leaves every port in its state. -/
theorem asegFlush_st (s : State) (r : Fin 3) : s.asegFlush.fab.port[r].st = s.fab.port[r].st := by
  unfold State.asegFlush
  split
  · split
    · rfl
    · dsimp only
      split
      · rfl
      · exact asegSend_st _ r
  · rfl

section
variable (hc : s.clocked = true)
include hc

theorem forward_repeats (h : s.asegFlush.fab.port[r].st = .hello) : exec (.frameForward r) s
    = .next (s.asegFlush.setPort r fun q => { q with out := q.out.tail }).settle := by
  rw [exec_forward hc, State.forward_hello h]

theorem forward_idle (h : s.fab.port[r].st = .down ∨ s.fab.port[r].st = .train) : exec (.frameForward r) s = .next s.asegFlush.settle := by
  rw [exec_forward hc, State.forward_stays]
  · rw [asegFlush_st]
    rcases h with h | h <;> rw [h] <;> decide
  · rw [asegFlush_st]
    rcases h with h | h <;> rw [h] <;> exact .inl (by decide)

theorem forward_full (hup : s.asegFlush.fab.port[r].st = .up) (h8 : 8 ≤ s.asegFlush.fab.port[r].held.length) :
    exec (.frameForward r) s = .next s.asegFlush.settle := by
  rw [exec_forward hc, State.forward_stays (by rw [hup]; decide) (.inr h8)]

section
variable (hup : s.asegFlush.fab.port[r].st = .up) (hheld : s.asegFlush.fab.port[r].held.length < 8)
include hup hheld

section
variable (ha : s.asegFlush.sendHeads r true = []) (hb : s.asegFlush.sendHeads r false = [])
include ha hb

section
variable {e : Nat × Frame} (hout : s.asegFlush.fab.port[r].out = [e])
include hout

/-- The only entry of an output has no credit. -/
theorem forward_waits (hft : e.2.ft < 3) (hcr : (if e.2.vc then s.asegFlush.fab.port[r].crA else s.asegFlush.fab.port[r].crB) = 0) :
    exec (.frameForward r) s = .next s.asegFlush.settle := by
  have hnone (vc : Bool) (hq : s.asegFlush.sendHeads r vc = []) : s.asegFlush.pickVc r vc = none := by
    refine State.pickVc_none (fun o ho h => ?_) hq
    rw [hout, List.mem_singleton] at ho
    subst ho
    obtain ⟨hvc, h⟩ := h
    rw [hvc] at hcr
    rcases h with h | h
    · exact absurd (of_decide_eq_true h) (Nat.not_le.2 hft)
    · omega
  rw [exec_forward hc, State.forward_up hup hheld, hnone true ha, hnone false hb, State.sendChoice_none]

variable (h4 : e.1 < 4)
include h4

/-- The only entry of an output goes. -/
theorem forward_only (hmay : 3 ≤ e.2.ft ∨ 0 < (if e.2.vc then s.asegFlush.fab.port[r].crA else s.asegFlush.fab.port[r].crB)) :
    exec (.frameForward r) s = .next (s.asegFlush.sendEntry r e.1 e.2 (!e.2.vc)).settle := by
  have hlink : e.2.isLink = true ∨ 0 < (if e.2.vc then s.asegFlush.fab.port[r].crA else s.asegFlush.fab.port[r].crB) :=
    hmay.imp_left fun h => decide_eq_true h
  have hq (vc : Bool) : s.asegFlush.sendHeads r vc = [] := by cases vc <;> assumption
  have hpick : s.asegFlush.pickVc r e.2.vc = some (.entry e.1 e.2) :=
    State.pickVc_entry (by rw [hout]; exact List.mem_singleton_self e) h4 rfl hlink
      (fun o ho _ => by rwa [hout, List.mem_singleton] at ho) (hq _)
  have hnone : s.asegFlush.pickVc r (!e.2.vc) = none := by
    refine State.pickVc_none (fun o ho h => ?_) (hq _)
    rw [hout, List.mem_singleton] at ho
    subst ho
    exact absurd h.1 (by simp)
  have hchoice := State.sendChoice_entry (g := s.asegFlush) (r := r) (vc := e.2.vc) (inp := e.1) (f := e.2)
  rw [exec_forward hc, State.forward_up hup hheld, ← hchoice]
  cases hvc : e.2.vc with
  | true =>
    rw [hvc] at hpick hnone
    rw [hpick, show s.asegFlush.pickVc r false = none from hnone]
    rfl
  | false =>
    rw [hvc] at hpick hnone
    rw [hpick, show s.asegFlush.pickVc r true = none from hnone]
    rfl

/-- What a frame that carries no time stamp leaves as it goes. -/
theorem forward_entry (hft : e.2.ft < 3 ∨ 5 ≤ e.2.ft)
    (hmay : 3 ≤ e.2.ft ∨ 0 < (if e.2.vc then s.asegFlush.fab.port[r].crA else s.asegFlush.fab.port[r].crB)) :
    ∃ t, exec (.frameForward r) s = .next t
      ∧ t.fab.port[r].held = s.asegFlush.fab.port[r].held ++ [(s.asegFlush.fab.port[r].lseq, e.2, 0)]
      ∧ t.fab.port[r].lseq = (s.asegFlush.fab.port[r].lseq + 1) % 64 ∧ t.fab.port[r].out = []
      ∧ (if e.2.vc then t.fab.port[r].turnA else t.fab.port[r].turnB) = e.1
      ∧ (if e.2.vc then t.fab.port[r].turnB = s.asegFlush.fab.port[r].turnB else t.fab.port[r].turnA = s.asegFlush.fab.port[r].turnA)
      ∧ t.fab.port[r].crA = s.asegFlush.fab.port[r].crA - (if e.2.ft < 3 ∧ e.2.vc = true then 1 else 0)
      ∧ t.fab.port[r].crB = s.asegFlush.fab.port[r].crB - (if e.2.ft < 3 ∧ e.2.vc = false then 1 else 0)
      ∧ (∀ i : Fin 3, e.1 = i.val → e.2.ft < 3 → (∀ k : Fin 3, k ≠ r → e ∉ s.asegFlush.fab.port[k].out) →
        t.fab.port[i].freedA = (if e.2.vc then (s.asegFlush.fab.port[i].freedA + 1) % 256 else s.asegFlush.fab.port[i].freedA)
        ∧ t.fab.port[i].freedB = (if e.2.vc then s.asegFlush.fab.port[i].freedB else (s.asegFlush.fab.port[i].freedB + 1) % 256))
      ∧ t = { s.asegFlush with fab := t.fab, pins := t.pins } := by
  obtain ⟨inp, f⟩ := e
  dsimp only at h4 hft hmay ⊢
  have hexec := forward_only hc hup hheld ha hb hout h4 hmay
  dsimp only at hexec
  obtain ⟨m, n, hport⟩ := sendEntry_port (g := s.asegFlush) (r := r) (inp := inp) (f := f) (both := !f.vc)
  have hstamp : stampedBy s.asegFlush r f = f := if_neg (by omega)
  have hfree (i : Fin 3) := sendEntry_freed (g := s.asegFlush) (r := r) (f := f) (both := !f.vc) i
  have hall := sendEntry_fab (g := s.asegFlush) (r := r) (inp := inp) (f := f) (both := !f.vc)
  have herase : s.asegFlush.fab.port[r].out.erase (inp, f) = [] := by
    rw [hout]
    exact List.erase_cons_head ..
  rw [hstamp, herase] at hport
  have hlt3 : f.ft < 3 ↔ f.isLink = false := by simp [Frame.isLink]
  refine ⟨_, hexec, ?_⟩
  clear hexec
  have hfreed : ∀ i : Fin 3, inp = i.val → f.ft < 3 → (∀ k : Fin 3, k ≠ r → (inp, f) ∉ s.asegFlush.fab.port[k].out) →
      (s.asegFlush.sendEntry r inp f (!f.vc)).fab.port[i].freedA = (if f.vc then (s.asegFlush.fab.port[i].freedA + 1) % 256 else s.asegFlush.fab.port[i].freedA)
      ∧ (s.asegFlush.sendEntry r inp f (!f.vc)).fab.port[i].freedB = (if f.vc then s.asegFlush.fab.port[i].freedB else (s.asegFlush.fab.port[i].freedB + 1) % 256) := by
    intro i hi hlt hk
    subst hi
    exact hfree i hlt (by rw [herase]; exact List.not_mem_nil) hk
  clear hfree
  generalize s.asegFlush.sendEntry r inp f (!f.vc) = u at hport hall hfreed ⊢
  generalize s.asegFlush = g at hport hall hfreed ⊢
  have hheld' : u.fab.port[r].held = g.fab.port[r].held ++ [(g.fab.port[r].lseq, f, 0)] := by rw [hport]; rfl
  have hlseq : u.fab.port[r].lseq = (g.fab.port[r].lseq + 1) % 64 := by rw [hport]; rfl
  have hnil : u.fab.port[r].out = [] := by rw [hport]; rfl
  have hturn : (if f.vc then u.fab.port[r].turnA else u.fab.port[r].turnB) = inp := by
    rw [hport]
    cases h : f.vc <;> simp [FPort.sent, h]
  have hturn' : if f.vc then u.fab.port[r].turnB = g.fab.port[r].turnB else u.fab.port[r].turnA = g.fab.port[r].turnA := by
    rw [hport]
    cases h : f.vc <;> simp [FPort.sent, h]
  have hA : u.fab.port[r].crA = g.fab.port[r].crA - (if f.ft < 3 ∧ f.vc = true then 1 else 0) := by
    rw [hport]
    cases h : f.vc <;> cases h' : f.isLink <;> simp [FPort.sent, h, h', hlt3]
  have hB : u.fab.port[r].crB = g.fab.port[r].crB - (if f.ft < 3 ∧ f.vc = false then 1 else 0) := by
    rw [hport]
    cases h : f.vc <;> cases h' : f.isLink <;> simp [FPort.sent, h, h', hlt3]
  exact ⟨hheld', hlseq, hnil, hturn, hturn', hA, hB, hfreed, State.settle_fabOnly hall⟩

/-- A DREQ marks its instant as it goes. -/
theorem forward_dreq (hft : e.2.ft = 3) : ∃ t, exec (.frameForward r) s = .next t ∧ t.fab.t1 = some (s.asegFlush.sofStamp r) ∧ t.fab.port[r].out = [] := by
  have hexec := forward_only hc hup hheld ha hb hout h4 (.inl (Nat.le_of_eq hft.symm))
  have ht1 := sendEntry_t1 (g := s.asegFlush) (r := r) (inp := e.1) (both := !e.2.vc) hft
  obtain ⟨m, n, hport⟩ := sendEntry_port (g := s.asegFlush) (r := r) (inp := e.1) (f := e.2) (both := !e.2.vc)
  have hnil : (s.asegFlush.sendEntry r e.1 e.2 (!e.2.vc)).fab.port[r].out = [] := by
    rw [hport]
    change s.asegFlush.fab.port[r].out.erase (e.1, e.2) = []
    rw [hout]
    exact List.erase_cons_head ..
  exact ⟨_, hexec, ht1, hnil⟩

/-- A DRSP takes its stamp as it goes. -/
theorem forward_drsp (hft : e.2.ft = 4) : ∃ t, exec (.frameForward r) s = .next t ∧ t.fab.port[r].out = []
    ∧ ∀ h ∈ t.fab.port[r].held.getLast?, h.2.1 = stampedBy s.asegFlush r e.2 := by
  have hexec := forward_only hc hup hheld ha hb hout h4 (.inl (by omega))
  obtain ⟨m, n, hport⟩ := sendEntry_port (g := s.asegFlush) (r := r) (inp := e.1) (f := e.2) (both := !e.2.vc)
  have hnil : (s.asegFlush.sendEntry r e.1 e.2 (!e.2.vc)).fab.port[r].out = [] := by
    rw [hport]
    change s.asegFlush.fab.port[r].out.erase (e.1, e.2) = []
    rw [hout]
    exact List.erase_cons_head ..
  have hlast : ∀ h ∈ (s.asegFlush.sendEntry r e.1 e.2 (!e.2.vc)).fab.port[r].held.getLast?, h.2.1 = stampedBy s.asegFlush r e.2 := by
    rw [hport]
    intro h hh
    rw [FPort.sent, List.getLast?_concat] at hh
    cases hh
    rfl
  exact ⟨_, hexec, hnil, hlast⟩

end

/-- A bulk and an angle entry: three angle frames go while a bulk frame waits. -/
theorem forward_turns {a b : Nat × Frame} (hcA : 0 < s.asegFlush.fab.port[r].crA) (hcB : 0 < s.asegFlush.fab.port[r].crB)
    (hout : s.asegFlush.fab.port[r].out = [a, b]) (ha4 : a.1 < 4) (hb4 : b.1 < 4) (hav : a.2.vc = false) (hbv : b.2.vc = true) :
    ∃ t, exec (.frameForward r) s = .next t ∧ t.fab.port[r].out = (if s.asegFlush.fab.port[r].angRun < 3 then [a] else [b])
      ∧ t.fab.port[r].angRun = (if s.asegFlush.fab.port[r].angRun < 3 then s.asegFlush.fab.port[r].angRun + 1 else 0) := by
  have hne : a ≠ b := fun h => by
    rw [h, hbv] at hav
    cases hav
  have hpa : s.asegFlush.pickVc r false = some (.entry a.1 a.2) :=
    State.pickVc_entry (by rw [hout]; exact List.mem_cons_self) ha4 hav (.inr hcB) (fun o ho hv => by
      rw [hout, List.mem_cons, List.mem_singleton] at ho
      rcases ho with rfl | rfl
      · rfl
      · rw [hbv] at hv
        cases hv) hb
  have hpb : s.asegFlush.pickVc r true = some (.entry b.1 b.2) :=
    State.pickVc_entry (by rw [hout]; exact List.mem_cons_of_mem _ (List.mem_singleton_self b)) hb4 hbv (.inr hcA) (fun o ho hv => by
      rw [hout, List.mem_cons, List.mem_singleton] at ho
      rcases ho with rfl | rfl
      · rw [hav] at hv
        cases hv
      · rfl) ha
  have hexec := exec_forward hc (r := r)
  rw [State.forward_up hup hheld, hpa, hpb, State.sendChoice_both] at hexec
  by_cases h3 : s.asegFlush.fab.port[r].angRun < 3
  · rw [if_pos h3] at hexec
    obtain ⟨m, n, hport⟩ := sendEntry_port (g := s.asegFlush) (r := r) (inp := b.1) (f := b.2) (both := true)
    have hleft : (s.asegFlush.sendEntry r b.1 b.2 true).fab.port[r].out = [a] := by
      rw [hport]
      change s.asegFlush.fab.port[r].out.erase b = [a]
      rw [hout, List.erase_cons_tail (by simpa using hne), List.erase_cons_head]
    have hrun : (s.asegFlush.sendEntry r b.1 b.2 true).fab.port[r].angRun = s.asegFlush.fab.port[r].angRun + 1 := by
      rw [hport]
      simp [FPort.sent, hbv]
    rw [if_pos h3, if_pos h3]
    exact ⟨_, hexec, hleft, hrun⟩
  · rw [if_neg h3] at hexec
    obtain ⟨m, n, hport⟩ := sendEntry_port (g := s.asegFlush) (r := r) (inp := a.1) (f := a.2) (both := true)
    have hleft : (s.asegFlush.sendEntry r a.1 a.2 true).fab.port[r].out = [b] := by
      rw [hport]
      change s.asegFlush.fab.port[r].out.erase a = [b]
      rw [hout, List.erase_cons_head]
    have hrun : (s.asegFlush.sendEntry r a.1 a.2 true).fab.port[r].angRun = 0 := by
      rw [hport]
      simp [FPort.sent, hav]
    rw [if_neg h3, if_neg h3]
    exact ⟨_, hexec, hleft, hrun⟩

end

/-- A work's message goes where no entry waits. -/
theorem forward_message {vc : Bool} {w : Fin 9} {m : Frame} (hout : s.asegFlush.fab.port[r].out = [])
    (hq : ∀ c : Bool, s.asegFlush.sendHeads r c = if c = vc then [w] else [])
    (hcr : 0 < if vc then s.asegFlush.fab.port[r].crA else s.asegFlush.fab.port[r].crB)
    (hm : m ∈ s.asegFlush.fab.sendQ[sendIdx w vc].head?) (hft : m.ft = 0) : ∃ t, exec (.frameForward r) s = .next t
      ∧ t.fab.port[r].held = s.asegFlush.fab.port[r].held ++ [(s.asegFlush.fab.port[r].lseq, { m with lun := s.asegFlush.fab.lun }, 0)]
      ∧ (if vc then t.fab.port[r].wturnA else t.fab.port[r].wturnB) = w.val
      ∧ t.fab.sendQ[sendIdx w vc] = s.asegFlush.fab.sendQ[sendIdx w vc].tail ∧ t = { s.asegFlush with fab := t.fab, pins := t.pins } := by
  obtain ⟨l, hl⟩ := List.head?_eq_some_iff.1 hm
  have hpick : s.asegFlush.pickVc r vc = some (.msg w) := State.pickVc_msg hout hcr ((hq vc).trans (if_pos rfl))
  have hnone : s.asegFlush.pickVc r (!vc) = none :=
    State.pickVc_none (fun o ho => by rw [hout] at ho; cases ho) ((hq _).trans (if_neg (by simp)))
  have hchoice := State.sendChoice_msg (r := r) hl
  have hexec := exec_forward hc (r := r)
  have heq : s.forward r = s.asegFlush.sendWork r w vc m l (!vc) := by
    rw [State.forward_up hup hheld, ← hchoice]
    cases vc with
    | true => rw [hpick, show s.asegFlush.pickVc r false = none from hnone]; rfl
    | false => rw [hpick, show s.asegFlush.pickVc r true = none from hnone]; rfl
  rw [heq] at hexec
  clear heq hchoice hpick hnone
  rw [hl]
  generalize s.asegFlush = g at hexec ⊢
  let v : State := { g with fab := { g.fab with sendQ := upd g.fab.sendQ (sendIdx w vc) fun _ => l } }
  have hport := sendOut_port v r 3 { m with lun := g.fab.lun } (!vc)
  obtain ⟨x, hx, hsq⟩ := sendOut_fab v r 3 { m with lun := g.fab.lun } (!vc)
  have hwork : g.sendWork r w vc m l (!vc) = (v.sendOut r 3 { m with lun := g.fab.lun } (!vc)).setPort r fun q =>
      { q with wturnA := if vc then w.val else q.wturnA, wturnB := if vc then q.wturnB else w.val } := rfl
  have hstamp : stampedBy v r { m with lun := g.fab.lun } = { m with lun := g.fab.lun } := if_neg (by rw [hft]; decide)
  rw [hstamp] at hport
  rw [hwork] at hexec
  generalize v.sendOut r 3 { m with lun := g.fab.lun } (!vc) = u at hport hx hexec
  have hset := u.setPort_same r fun q => { q with wturnA := if vc then w.val else q.wturnA, wturnB := if vc then q.wturnB else w.val }
  rw [hport] at hset
  have hall : (u.setPort r fun q => { q with wturnA := if vc then w.val else q.wturnA, wturnB := if vc then q.wturnB else w.val })
      = { g with fab := (u.setPort r fun q => { q with wturnA := if vc then w.val else q.wturnA, wturnB := if vc then q.wturnB else w.val }).fab } := by
    rw [hx]
    rfl
  have hsend : (u.setPort r fun q => { q with wturnA := if vc then w.val else q.wturnA, wturnB := if vc then q.wturnB else w.val }).fab.sendQ[sendIdx w vc] = l := by
    have hq' : u.fab.sendQ = upd g.fab.sendQ (sendIdx w vc) fun _ => l := by rw [hx]; exact hsq
    change u.fab.sendQ[sendIdx w vc] = l
    rw [hq']
    exact Vector.getElem_set_self ..
  generalize (u.setPort r fun q => { q with wturnA := if vc then w.val else q.wturnA, wturnB := if vc then q.wturnB else w.val }) = z
    at hset hall hsend hexec
  have hheld' : z.fab.port[r].held = g.fab.port[r].held ++ [(g.fab.port[r].lseq, { m with lun := g.fab.lun }, 0)] := by rw [hset]; rfl
  have hturn : (if vc then z.fab.port[r].wturnA else z.fab.port[r].wturnB) = w.val := by
    rw [hset]
    cases vc <;> rfl
  exact ⟨_, hexec, hheld', hturn, hsend, State.settle_fabOnly hall⟩

end
end
end

end Sys2Proof.Proofs
end

section
/-! PROOFS. The settlement of the statement about the fabric's links (R345 to R349, R355 to R358; O55). -/

open Sys2Proof Sys2Proof.Machine

namespace Sys2Proof.Proofs

/-- Settles O55: each command of a fabric port by the state of the port and by what waits at its output. -/
theorem fabricLinks : Obligations.FabricLinks := by
  unfold Obligations.FabricLinks
  intro s r q id idv bench rank serial vc dst src dwork swork type lun pay w hc p put up inOrder g pg took1 f freed took stamped bad sum again met left down dropped cue room
  refine ⟨port_train hc, port_stays_down hc, port_hello hc, port_no_hello hc, port_up hc, port_not_up hc, ?_, bad_frame hc, ?_, hello_send hc,
    forward_repeats hc, ?_, ?_, ?_, ack_receive hc, nak_unknown hc, fun e he => nak_retries hc he, timeout_idle hc,
    fun e he h8 => timeout_retries hc he h8, ?_, ?_, ?_, ?_, no_own_message hc, forward_full hc, ?_, ?_, ?_⟩
  · exact fun hup hout => ⟨port_silent hc hup hout, port_errors hc hup hout, bad_frame_down hc hup hout⟩
  · exact fun hup => ⟨control_sets hc hup, credit_angle hc hup, credit_bulk hc hup⟩
  · exact fun hst => ⟨silent_hello hc hst, errors_hello hc hst, hello_learns hc hst⟩
  · exact fun hup => ⟨no_credit_angle hc hup, no_credit_bulk hc hup, no_control_sets hc hup, msg_off hc hup⟩
  · exact fun hst => ⟨no_hello_send hc hst, forward_idle hc hst, errors_idle hc hst⟩
  · rintro ⟨hup, hq⟩
    refine (hello_taken hc hup hq).trans ?_
    have hset := State.setPort_setPort ({ s with fab := { s.fab with rxN := s.fab.rxN + 1 } } : State) r
      (fun p => { p with expect := (p.expect + 1) % 64 }) fun p => learnt p id idv bench rank
    rw [takenAt, hset]
    rfl
  · exact fun hup hq => ⟨hello_nak hc hup hq, msg_nak hc hup hq⟩
  · rintro ⟨hup, hq⟩ hb hfree
    exact ⟨msg_other_lineup hc hup hq hb hfree, fun h1 h2 h3 h4 h5 => msg_not_live hc hup hq hb hfree h1 h2 h3 h4 h5,
      fun h1 h2 h3 _ h5 => msg_no_work hc hup hq hb hfree h1 h2 h3 h5,
      fun h1 h2 h3 h4 h5 => ⟨msg_not_carried hc hup hq hb hfree h1 h2 h3 h4 h5, msg_delivered hc hup hq hb hfree h1 h2 h3 h4 h5⟩,
      fun h1 h2 o ho => msg_passed hc hup hq hb h1 h2 ho, msg_no_route hc hup hq hb hfree⟩
  · exact fun m hm v => own_message hc hm
  · exact fun hup hheld ha hb e _ hout h4 => ⟨forward_entry hc hup hheld ha hb hout h4, forward_waits hc hup hheld ha hb hout,
      forward_dreq hc hup hheld ha hb hout h4, forward_drsp hc hup hheld ha hb hout h4⟩
  · exact fun hup hheld ha hb hcA hcB a _ b _ hout ha4 hb4 _ _ hav hbv => forward_turns hc hup hheld ha hb hcA hcB hout ha4 hb4 hav hbv
  · exact fun hup hheld hout hq hcr m hm hft => forward_message hc hup hheld hout hq hcr hm hft

end Sys2Proof.Proofs
end

section
/-! SUPPORT. What the hold of a halted core's work changes (R134, R173, R246, R422). -/

namespace Sys2Proof.Machine

/-- The second state differs from the first only where a hold of targets acts; every message of class 1 or above waits on, the counts of
exceptions stand, and a work keeps its comparators, its cue enables, its SEQ and its hold. -/
def State.HeldFrame (s t : State) : Prop :=
  (∃ v g h co l tr e d, t = { s with work := v, regs := g, hwSet := h, coll := co, links := l, trc := tr, edg := e, drv := d })
    ∧ (∀ m ∈ s.coll.outbox, 1 ≤ m.cls → m ∈ t.coll.outbox) ∧ (∀ c : Fin 9, t.rg Reg.cluExc c.val 0 = s.rg Reg.cluExc c.val 0)
    ∧ ∀ x : Fin 9, t.work[x].comps = s.work[x].comps ∧ t.work[x].cueEn = s.work[x].cueEn ∧ t.work[x].seq = s.work[x].seq
      ∧ t.work[x].held = s.work[x].held

theorem State.HeldFrame.refl (s : State) : s.HeldFrame s :=
  ⟨⟨_, _, _, _, _, _, _, _, rfl⟩, fun _ h _ => h, fun _ => rfl, fun _ => ⟨rfl, rfl, rfl, rfl⟩⟩

theorem State.HeldFrame.trans {s t u : State} (h : s.HeldFrame t) (h' : t.HeldFrame u) : s.HeldFrame u := by
  obtain ⟨⟨v, g, hs, co, l, tr, e, d, ht⟩, hm, hc, hw⟩ := h
  obtain ⟨⟨v', g', hs', co', l', tr', e', d', hu⟩, hm', hc', hw'⟩ := h'
  refine ⟨⟨v', g', hs', co', l', tr', e', d', by rw [hu, ht]⟩, fun m h h1 => hm' m (hm m h h1) h1, fun c => (hc' c).trans (hc c), fun x => ?_⟩
  obtain ⟨h1, h2, h3, h4⟩ := hw x
  obtain ⟨h1', h2', h3', h4'⟩ := hw' x
  exact ⟨h1'.trans h1, h2'.trans h2, h3'.trans h3, h4'.trans h4⟩

theorem State.HeldFrame.ite {s t u : State} {p : Prop} [Decidable p] (ht : s.HeldFrame t) (hu : s.HeldFrame u) :
    s.HeldFrame (if p then t else u) := by
  split
  · exact ht
  · exact hu

theorem State.HeldFrame.foldl {α : Type} {f : State → α → State} (hf : ∀ (t : State) (x : α), t.HeldFrame (f t x)) (l : List α) (s : State) :
    s.HeldFrame (l.foldl f s) := by
  induction l generalizing s with
  | nil => exact .refl s
  | cons x l ih => exact (hf s x).trans (ih _)

section
variable (s : State)

/-- A change of a work that keeps what a hold keeps. -/
theorem State.heldFrame_setWork (w : Fin 9) {f : Work → Work} (hc : ∀ x, (f x).comps = x.comps) (he : ∀ x, (f x).cueEn = x.cueEn)
    (hs : ∀ x, (f x).seq = x.seq) (hh : ∀ x, (f x).held = x.held) : s.HeldFrame (s.setWork w f) := by
  refine ⟨⟨_, _, _, _, _, _, _, _, rfl⟩, fun _ h _ => h, fun _ => rfl, fun x => ?_⟩
  simp only [State.setWork, upd, Fin.getElem_fin, Vector.getElem_set]
  split
  · next h => simp [hc, he, hs, hh, h]
  · exact ⟨rfl, rfl, rfl, rfl⟩

theorem State.heldFrame_setPeg (w : Fin 9) (k : Fin 32) (f : Peg → Peg) : s.HeldFrame (s.setPeg w k f) :=
  s.heldFrame_setWork w (fun _ => rfl) (fun _ => rfl) (fun _ => rfl) (fun _ => rfl)

theorem State.heldFrame_ddlSend (x : Xfer) : s.HeldFrame (s.ddlSend x) :=
  ⟨⟨_, _, _, _, _, _, _, _, rfl⟩, fun _ h _ => h, fun _ => rfl, fun _ => ⟨rfl, rfl, rfl, rfl⟩⟩

theorem State.heldFrame_edg (e : EdgeGen) : s.HeldFrame { s with edg := e } :=
  ⟨⟨_, _, _, _, _, _, _, _, rfl⟩, fun _ h _ => h, fun _ => rfl, fun _ => ⟨rfl, rfl, rfl, rfl⟩⟩

theorem State.DrvFrame.held {s t : State} (h : s.DrvFrame t) : s.HeldFrame t := by
  obtain ⟨ch, bank, ign, q, ht⟩ := h
  rw [ht]
  exact ⟨⟨_, _, _, _, _, _, _, _, rfl⟩, fun _ h _ => h, fun _ => rfl, fun _ => ⟨rfl, rfl, rfl, rfl⟩⟩

theorem cluExc_apart (c : Fin 9) : Reg.cluExc.addr c.val 0 ≠ Reg.fltStat.addr 0 0 := by revert c; decide

theorem cluExc_cueCnt (c d : Fin 9) : Reg.cluExc.addr c.val 0 ≠ Reg.cluCueCnt.addr d.val 0 := by revert c d; decide

theorem State.heldFrame_bump (d : Fin 9) (hi lo : Nat) : s.HeldFrame (s.bump Reg.cluCueCnt d.val hi lo) := by
  have hframe := s.bump_frame Reg.cluCueCnt d.val hi lo
  have hreg (c : Fin 9) : (s.bump Reg.cluCueCnt d.val hi lo).rg Reg.cluExc c.val 0 = s.rg Reg.cluExc c.val 0 :=
    State.bump_rg_ne s _ _ (cluExc_cueCnt c d)
  generalize s.bump Reg.cluCueCnt d.val hi lo = t at hframe hreg
  refine ⟨⟨s.work, t.regs, t.hwSet, s.coll, s.links, s.trc, s.edg, s.drv, hframe⟩, fun m hm _ => ?_, hreg, fun x => ?_⟩
  · rw [hframe]
    exact hm
  · rw [hframe]
    exact ⟨rfl, rfl, rfl, rfl⟩

/-- A message of class 1 at most takes no place of another of class 1 or above. -/
theorem outboxPut_keeps {m x : Msg} (h1 : m.cls ≤ 1) {c : Collector} (hx : x ∈ c.outbox) (hc : 1 ≤ x.cls) : x ∈ (outboxPut m c).1.outbox := by
  unfold outboxPut
  dsimp only
  split
  · exact List.mem_append_left _ hx
  · split
    · next old hold =>
      have hlt : old.cls < m.cls := by simpa using List.find?_some hold
      refine List.mem_append_left _ ((List.mem_erase_of_ne fun he => ?_).2 hx)
      rw [he] at hc
      omega
    · split
      · exact hx
      · split <;> exact hx

theorem State.heldFrame_emit {cls : Nat} (kind src ctx : Nat) (h : cls ≤ 1) : s.HeldFrame (s.emit cls kind src ctx) := by
  have hcoll : (s.emit cls kind src ctx).coll = (outboxPut (s.msg cls kind src ctx) s.coll).1 := s.emit_outboxPut ..
  have hframe := s.emit_frame cls kind src ctx
  have hreg (c : Fin 9) : (s.emit cls kind src ctx).rg Reg.cluExc c.val 0 = s.rg Reg.cluExc c.val 0 := s.emit_rg_ne _ _ _ _ (cluExc_apart c)
  generalize s.emit cls kind src ctx = t at hframe hreg hcoll
  refine ⟨⟨s.work, t.regs, t.hwSet, t.coll, t.links, s.trc, s.edg, s.drv, hframe⟩, fun m hm h1 => ?_, hreg, fun x => ?_⟩
  · rw [hcoll]
    exact outboxPut_keeps h hm h1
  · rw [hframe]
    exact ⟨rfl, rfl, rfl, rfl⟩

theorem State.heldFrame_raiseCue (w : Fin 9) (q : CueOcc) : s.HeldFrame (s.raiseCue w q) := by
  have hset (f : List CueOcc → List CueOcc) : s.HeldFrame (s.setWork w fun k => { k with cues := f k.cues }) :=
    s.heldFrame_setWork w (fun _ => rfl) (fun _ => rfl) (fun _ => rfl) (fun _ => rfl)
  unfold State.raiseCue
  dsimp only
  split
  · split
    · exact (hset fun l => l.map fun x => if x.cue = q.cue then q else x).trans (State.heldFrame_bump ..)
    · exact hset fun l => l ++ [q]
  · split
    · exact hset fun l => l ++ [q]
    · exact (s.heldFrame_bump ..).trans (State.heldFrame_emit _ _ _ _ (Nat.le_refl 1))

/-! ### The targets of a work -/

theorem State.heldFrame_softCmd (n : Fin 24) : s.HeldFrame (s.softCmd n) := (s.heldFrame_edg _).trans (State.heldFrame_ddlSend ..)

theorem State.heldFrame_softOff (w : Fin 9) (k : Fin 32) (reason : Nat) : s.HeldFrame (s.softOff w k reason) := by
  unfold State.softOff
  dsimp only
  split
  · exact .refl s
  · exact (s.heldFrame_setPeg ..).trans (State.heldFrame_softCmd ..)

theorem State.heldFrame_holdPegs (on : Peg → Bool) : s.HeldFrame (s.holdPegs on) :=
  .foldl (fun _ w => .foldl (fun t k => by
    dsimp only
    split
    · exact .refl t
    · split
      · exact t.heldFrame_softOff ..
      · split
        · split
          · split
            · exact (t.heldFrame_setPeg ..).trans (State.heldFrame_softCmd ..)
            · exact t.heldFrame_setPeg ..
          · exact t.heldFrame_setPeg ..
        · exact .refl t) _ _) _ s

theorem State.heldFrame_closeDue (cs : List (Fin 32)) : s.HeldFrame (s.closeDue cs) := by
  have hclose (t : State) (x : Fin 32 × Due) : t.HeldFrame (t.closeCue x.1 x.2.seq x.2.owner x.2.work 0 false) :=
    .ite (t.heldFrame_raiseCue ..) (.refl t)
  exact (State.HeldFrame.foldl hclose _ s).trans (.foldl (fun t _ => t.heldFrame_edg _) _ _)

theorem State.heldFrame_holdCh (c : Fin 32) : s.HeldFrame (s.holdCh c) := by
  have hsafe : s.HeldFrame (s.chSafe c) :=
    (State.DrvFrame.held (s.drvFrame_driverHold c)).trans ((State.heldFrame_closeDue _ _).trans
      ((State.heldFrame_edg _ _).trans (State.DrvFrame.held (State.drvFrame_setCh _ c _))))
  exact hsafe.trans (State.heldFrame_holdPegs ..)

theorem State.heldFrame_holdIgn (n : Fin 24) : s.HeldFrame (s.holdIgn n) := by
  have hpegs := s.heldFrame_holdPegs fun p => decide (p.ign = some n)
  unfold State.holdIgn
  dsimp only
  generalize (s.holdPegs fun p => decide (p.ign = some n)) = t at hpegs
  exact hpegs.trans ((State.DrvFrame.held (t.drvFrame_rampDown n)).trans (.ite (.refl _) (State.heldFrame_edg ..)))

/-- The hold of a work marks it, and holds its targets. -/
theorem State.heldFrame_holdWork (w : Fin 9) : (s.setWork w fun x => { x with held := true }).HeldFrame (s.holdWork w) := by
  unfold State.holdWork
  dsimp only
  generalize s.setWork w (fun x => { x with held := true }) = s1
  split
  · exact .refl s1
  · next c _ =>
    refine (State.HeldFrame.foldl (fun t n => ?_) _ s1).trans ((State.HeldFrame.foldl (fun t n => ?_) _ _).trans (.foldl (fun t v => ?_) _ _))
    · exact .ite (t.heldFrame_holdCh n) (.refl t)
    · exact .ite (t.heldFrame_holdIgn n) (.refl t)
    · exact .ite (t.heldFrame_holdPegs _) (.refl t)

end

end Sys2Proof.Machine
end

section
/-! SUPPORT. An exception inside the exception handler (R173). -/

namespace Sys2Proof.Machine

/-- Cluster c, which carries work w, is halted by an exception: cause, PC and address stand, the run is over, both messages are emitted,
the work is held with its comparators, cue enables and SEQ as they were, and nothing else changes (R173). -/
def State.Halts (s : State) (c w : Fin 9) (cause epc : Nat) (addr : Word) (t : State) : Prop :=
  t.clu = s.clu.set c.val { s.clu[c] with
      cause := cause, epc := epc, eaddr := addr, dones := (s.clu[c].dones + 1) % 65536, run := none, halt := true } c.isLt
    ∧ t.rf Reg.cluExc c.val 23 16 = min 255 (s.rf Reg.cluExc c.val 23 16 + 1)
    ∧ ((s.coll.outbox.filter (·.src = srcC 0 c.val 0xF)).length < 3 →
      s.Emits t 1 Kind.coreExc (srcC 0 c.val 0xF) (cause % 16 + epc % 4096 * 16) ∧ s.Emits t 2 Kind.coreHalt (srcC 0 c.val 0xF) 0)
    ∧ t.work[w].held = true
    ∧ (∀ x : Fin 9, t.work[x].comps = s.work[x].comps ∧ t.work[x].cueEn = s.work[x].cueEn ∧ t.work[x].seq = s.work[x].seq)
    ∧ ∃ v g h co l tr e d m k q, t = { s with
        work := v, regs := g, hwSet := h, coll := co, links := l, trc := tr, edg := e, drv := d, mnt := m, clu := k, pins := q }

theorem cluExc_live (c : Fin 9) : alwaysOnSys (Reg.cluExc.addr c.val 0) = false := by revert c; decide

theorem cluExc_hostStat (c : Fin 9) : Reg.cluExc.addr c.val 0 ≠ Reg.hostStat.addr 0 0 := by revert c; decide

section
variable (s : State) (c w : Fin 9)

/-- A host event leaves every register but HOST_STAT. -/
theorem State.cluChanged_rg {r : RegRow} {i : Nat} (h : r.addr i 0 ≠ Reg.hostStat.addr 0 0) : s.cluChanged.rg r i 0 = s.rg r i 0 :=
  State.setRg_rg_ne s _ _ _ _ _ _ _ h

/-- The first half of an exception: the cause is saved, counted and reported. -/
def State.excNoted (cause epc : Nat) (addr : Word) : State :=
  ((s.setClu c fun k => { k with cause := cause, epc := epc, eaddr := addr, dones := (k.dones + 1) % 65536 }).bump Reg.cluExc c 23 16).emit
    1 Kind.coreExc (srcC 0 c.val 0xF) (cause % 16 + epc % 4096 * 16)

/-- The second half, inside the exception handler, without the hold. -/
def State.coreHalted : State :=
  ((s.setClu c fun k => { k with run := none, halt := true }).emit 2 Kind.coreHalt (srcC 0 c.val 0xF) 0).cluChanged

theorem State.excNoted_clu (cause epc : Nat) (addr : Word) : (s.excNoted c cause epc addr).clu = s.clu.set c.val { s.clu[c] with
    cause := cause, epc := epc, eaddr := addr, dones := (s.clu[c].dones + 1) % 65536 } c.isLt := by
  rw [State.excNoted, State.emit_clu, State.bump_frame]
  rfl

theorem State.coreHalted_clu : (s.coreHalted c).clu = s.clu.set c.val { s.clu[c] with run := none, halt := true } c.isLt := by
  have h : ∀ t : State, t.cluChanged.clu = t.clu := fun _ => rfl
  rw [State.coreHalted, h, State.emit_clu]
  rfl

variable {s c w}

/-- An exception of a core in the exception handler, by its parts. -/
theorem State.coreExc_inside {r : Run} (hrun : s.clu[c].run = some r) (hexc : r.exc = true) (hw : s.clu[c].work = some w) (cause epc : Nat)
    (addr : Option Word) : s.coreExc c cause epc addr
      = ((s.excNoted c cause epc (addr.getD s.clu[c].eaddr)).coreHalted c).holdWork w := by
  have hrun' : s.clu[c.val].run = some r := hrun
  have hw' : s.clu[c.val].work = some w := hw
  simp [State.coreExc, hrun', hw', hexc, State.excNoted, State.coreHalted]
  rfl

end

/-- What an exception notes and a halt report, in one: the parts they change. -/
theorem State.excNoted_parts (s : State) (c : Fin 9) (cause epc : Nat) (addr : Word) : s.excNoted c cause epc addr = { s with
    regs := (s.excNoted c cause epc addr).regs, hwSet := (s.excNoted c cause epc addr).hwSet, coll := (s.excNoted c cause epc addr).coll
    links := (s.excNoted c cause epc addr).links, clu := (s.excNoted c cause epc addr).clu } := by
  unfold State.excNoted
  rw [State.emit_frame, State.bump_frame]
  rfl

theorem State.coreHalted_parts (s : State) (c : Fin 9) : s.coreHalted c = { s with
    regs := (s.coreHalted c).regs, hwSet := (s.coreHalted c).hwSet, coll := (s.coreHalted c).coll
    links := (s.coreHalted c).links, clu := (s.coreHalted c).clu, mnt := (s.coreHalted c).mnt } := by
  unfold State.coreHalted
  rw [State.cluChanged, State.hostEvent_parts, State.emit_frame]
  rfl

theorem State.rf_of_rg {s t : State} {r : RegRow} {i : Nat} (h : t.rg r i 0 = s.rg r i 0) (hi lo : Nat) : t.rf r i hi lo = s.rf r i hi lo := by
  rw [State.rf, State.rf, h]

theorem State.excNoted_rf (s : State) (c : Fin 9) (cause epc : Nat) (addr : Word) :
    (s.excNoted c cause epc addr).rf Reg.cluExc c.val 23 16 = min 255 (s.rf Reg.cluExc c.val 23 16 + 1) := by
  unfold State.excNoted
  rw [State.rf_of_rg (State.emit_rg_ne _ _ _ _ _ (cluExc_apart c)), State.bump_rf _ _ _ (by decide) (by decide)]
  rfl

theorem State.coreHalted_rg (s : State) (c : Fin 9) : (s.coreHalted c).rg Reg.cluExc c.val 0 = s.rg Reg.cluExc c.val 0 := by
  unfold State.coreHalted
  rw [State.cluChanged_rg _ (cluExc_hostStat c), State.emit_rg_ne _ _ _ _ _ (cluExc_apart c)]
  rfl

/-- A message of this class, kind, SOURCE and context, made in this TCLK, waits. -/
def State.Waits (s : State) (cls kind src ctx : Nat) (l : List Msg) : Prop :=
  ∃ m ∈ l, m.cls = cls ∧ m.kind = kind ∧ m.src = src ∧ m.ctx = BitVec.ofNat 32 ctx ∧ m.at_ = s.now

theorem State.Waits.emits {s t : State} {cls kind src ctx : Nat} {l : List Msg} (h : s.Waits cls kind src ctx l)
    (hm : ∀ m ∈ l, 1 ≤ m.cls → m ∈ t.coll.outbox) (hn : t.now = s.now) (h1 : 1 ≤ cls) : s.Emits t cls kind src ctx := by
  obtain ⟨m, hl, hcls, hkind, hsrc, hctx, hat⟩ := h
  exact fun _ => ⟨m, hm m hl (hcls ▸ h1), hcls, hkind, hsrc, hctx, hat.ge, (hat.trans hn.symm).le⟩

/-- Both messages of a halt find their places where the core's source has two free. -/
theorem State.halt_messages (s : State) (c : Fin 9) (cause epc : Nat) (addr : Word)
    (h : (s.coll.outbox.filter (·.src = srcC 0 c.val 0xF)).length < 3) :
    s.Waits 1 Kind.coreExc (srcC 0 c.val 0xF) (cause % 16 + epc % 4096 * 16) ((s.excNoted c cause epc addr).coreHalted c).coll.outbox
      ∧ s.Waits 2 Kind.coreHalt (srcC 0 c.val 0xF) 0 ((s.excNoted c cause epc addr).coreHalted c).coll.outbox := by
  have hbox : ∃ m, (s.excNoted c cause epc addr).coll.outbox = s.coll.outbox ++ [m] ∧ m.cls = 1 ∧ m.kind = Kind.coreExc
      ∧ m.src = srcC 0 c.val 0xF ∧ m.ctx = BitVec.ofNat 32 (cause % 16 + epc % 4096 * 16) ∧ m.at_ = s.now := by
    have hcoll (u : State) : (u.bump Reg.cluExc c.val 23 16).coll = u.coll := by rw [State.bump_frame]
    have hnow (u : State) : (u.bump Reg.cluExc c.val 23 16).now = u.now := by rw [State.bump_frame]
    unfold State.excNoted
    rw [State.emit_coll _ _ _ _ (by rw [hcoll]; exact Nat.lt_trans h (by decide)), hcoll]
    exact ⟨_, rfl, rfl, rfl, rfl, rfl, hnow _⟩
  have hnow : (s.excNoted c cause epc addr).now = s.now := by rw [State.excNoted_parts]
  generalize s.excNoted c cause epc addr = t at hbox hnow
  obtain ⟨m, hm, h1, h2, h3, h4, h5⟩ := hbox
  have hroom : (t.coll.outbox.filter (·.src = srcC 0 c.val 0xF)).length < 4 := by
    have hone := List.length_filter_le (fun m : Msg => decide (m.src = srcC 0 c.val 0xF)) [m]
    rw [hm, List.filter_append, List.length_append]
    rw [List.length_singleton] at hone
    omega
  have hlast : ∃ m', (t.coreHalted c).coll.outbox = t.coll.outbox ++ [m'] ∧ m'.cls = 2 ∧ m'.kind = Kind.coreHalt
      ∧ m'.src = srcC 0 c.val 0xF ∧ m'.ctx = BitVec.ofNat 32 0 ∧ m'.at_ = t.now :=
    ⟨_, congrArg Collector.outbox (State.emit_coll (t.setClu c fun k => { k with run := none, halt := true }) 2 Kind.coreHalt 0 hroom),
      rfl, rfl, rfl, rfl, rfl⟩
  obtain ⟨m', hm', h1', h2', h3', h4', h5'⟩ := hlast
  rw [hm', hm]
  exact ⟨⟨m, by simp, h1, h2, h3, h4, h5⟩, ⟨m', by simp, h1', h2', h3', h4', h5'.trans hnow⟩⟩

/-- An exception inside the exception handler halts its core. -/
theorem State.coreExc_halts {s : State} {c w : Fin 9} {r : Run} (hrun : s.clu[c].run = some r) (hexc : r.exc = true)
    (hw : s.clu[c].work = some w) (cause epc : Nat) (addr : Option Word) :
    s.Halts c w cause epc (addr.getD s.clu[c].eaddr) (s.coreExc c cause epc addr) := by
  rw [State.coreExc_inside hrun hexc hw]
  generalize addr.getD s.clu[c].eaddr = x
  have hclu := s.excNoted_clu c cause epc x
  have hclu' := (s.excNoted c cause epc x).coreHalted_clu c
  have hrf : ((s.excNoted c cause epc x).coreHalted c).rf Reg.cluExc c.val 23 16 = min 255 (s.rf Reg.cluExc c.val 23 16 + 1) :=
    (State.rf_of_rg (State.coreHalted_rg _ c) _ _).trans (s.excNoted_rf c cause epc x)
  have hmsgs := s.halt_messages c cause epc x
  have hparts : ∃ g hs co l k m, (s.excNoted c cause epc x).coreHalted c
      = { s with regs := g, hwSet := hs, coll := co, links := l, clu := k, mnt := m } := by
    rw [State.coreHalted_parts]
    have h := State.excNoted_parts s c cause epc x
    generalize s.excNoted c cause epc x = t at h
    exact ⟨_, _, _, _, _, _, by rw [h]⟩
  rw [hclu] at hclu'
  generalize (s.excNoted c cause epc x).coreHalted c = u at hclu' hrf hmsgs hparts
  obtain ⟨g', hs', co', l', k', m', hparts⟩ := hparts
  obtain ⟨⟨v, g, hs, co, l, tr, e, d, ht⟩, hm, hc, hk⟩ := u.heldFrame_holdWork w
  have hwork : (u.setWork w fun y => { y with held := true }).work = s.work.set w.val { s.work[w] with held := true } w.isLt := by
    rw [hparts]
    rfl
  have hnow : (u.holdWork w).now = s.now := by
    rw [ht, hparts]
    rfl
  refine ⟨?_, (State.rf_of_rg (hc c) _ _).trans hrf, fun h3 => ?_, ?_, fun y => ?_, ?_⟩
  · rw [ht]
    exact hclu'.trans (by simp)
  · obtain ⟨h1, h2⟩ := hmsgs h3
    exact ⟨h1.emits hm hnow (by decide), h2.emits hm hnow (by decide)⟩
  · rw [(hk w).2.2.2, hwork]
    simp
  · obtain ⟨h1, h2, h3, -⟩ := hk y
    rw [h1, h2, h3, hwork]
    simp only [Fin.getElem_fin, Vector.getElem_set]
    split
    · next hy => exact ⟨by simp [hy], by simp [hy], by simp [hy]⟩
    · exact ⟨rfl, rfl, rfl⟩
  · refine ⟨v, g, hs, co, l, tr, e, d, u.mnt, u.clu, s.pins, ?_⟩
    rw [ht, hparts]
    rfl

theorem State.Emits.since {s u t : State} {cls kind src ctx : Nat} (h : u.Emits t cls kind src ctx) (hc : u.coll = s.coll)
    (hn : s.now ≤ u.now) : s.Emits t cls kind src ctx := by
  intro hroom
  rw [← hc] at hroom
  obtain ⟨m, hm, h1, h2, h3, h4, h5, h6⟩ := h hroom
  exact ⟨m, hm, h1, h2, h3, h4, hn.trans h5, h6⟩

/-- The halt seen from before the abandoned instruction. -/
theorem State.Halts.ran {s : State} {c w : Fin 9} {r : Run} {n cause epc : Nat} {addr : Word} {t : State}
    (h : (s.ranTo c r n s.clu[c].pc s.clu[c]).Halts c w cause epc addr t) :
    t.clu = s.clu.set c.val { s.clu[c] with
        cause := cause, epc := epc, eaddr := addr, dones := (s.clu[c].dones + 1) % 65536, run := none, halt := true } c.isLt
      ∧ t.rf Reg.cluExc c.val 23 16 = min 255 (s.rf Reg.cluExc c.val 23 16 + 1)
      ∧ ((s.coll.outbox.filter (·.src = srcC 0 c.val 0xF)).length < 3 →
        s.Emits t 1 Kind.coreExc (srcC 0 c.val 0xF) (cause % 16 + epc % 4096 * 16) ∧ s.Emits t 2 Kind.coreHalt (srcC 0 c.val 0xF) 0)
      ∧ t.work[w].held = true
      ∧ (∀ x : Fin 9, t.work[x].comps = s.work[x].comps ∧ t.work[x].cueEn = s.work[x].cueEn ∧ t.work[x].seq = s.work[x].seq)
      ∧ t = { s with
          now := t.now, ao := t.ao, regs := t.regs, coll := t.coll, clu := t.clu, work := t.work, edg := t.edg, drv := t.drv
          trc := t.trc, links := t.links, mnt := t.mnt, hwSet := t.hwSet, pins := t.pins } := by
  obtain ⟨hclu, hrf, hmsg, hheld, hworks, v, g, hs, co, l, tr, e, d, m, k, q, ht⟩ := h
  have hfr : s.ranTo c r n s.clu[c].pc s.clu[c] = { s with
      now := (s.atEnd r n).now, ao := (s.atEnd r n).ao, regs := (s.atEnd r n).regs
      clu := (s.ranTo c r n s.clu[c].pc s.clu[c]).clu } := by
    unfold State.ranTo State.atEnd
    rw [State.advanceTo_frame]
  have hnow : s.now ≤ (s.ranTo c r n s.clu[c].pc s.clu[c]).now := by
    rw [show (s.ranTo c r n s.clu[c].pc s.clu[c]).now = max s.now (r.lastTick n) from s.advanceTo_now _]
    exact Nat.le_max_left ..
  have hcoll : (s.ranTo c r n s.clu[c].pc s.clu[c]).coll = s.coll := s.advanceTo_coll _
  have hwork : (s.ranTo c r n s.clu[c].pc s.clu[c]).work = s.work := s.advanceTo_work _
  have hreg : (s.ranTo c r n s.clu[c].pc s.clu[c]).rf Reg.cluExc c.val 23 16 = s.rf Reg.cluExc c.val 23 16 :=
    State.rf_of_rg (s.advanceTo_rg _ _ _ _ (cluExc_live c)) _ _
  refine ⟨hclu.trans ?_, hrf.trans (by rw [hreg]), fun h3 => ?_, hheld, ?_, ?_⟩
  · simp [State.ranTo]
  · rw [← hcoll] at h3
    obtain ⟨h1, h2⟩ := hmsg h3
    exact ⟨h1.since hcoll hnow, h2.since hcoll hnow⟩
  · rw [← hwork]
    exact hworks
  · rw [ht, hfr]

end Sys2Proof.Machine
end

section
/-! SUPPORT. An exception outside the exception handler (R172, R173). -/

namespace Sys2Proof.Machine

/-- The state b in which cluster c, k as the abandoned instruction leaves it, has entered the exception handler for work w. -/
def State.excEntered (b : State) (c w : Fin 9) (k : Cluster) (q : Vector Cluster 9) (cause epc : Nat) (addr : Word) : State :=
  let u : State := (b.bump Reg.cluExc c 23 16).emit 1 Kind.coreExc (srcC 0 c.val 0xF) (cause % 16 + epc % 4096 * 16)
  { u with
    work := b.work.set w.val { b.work[w] with runLog := [], armed := [] } w.isLt
    clu := q.set c.val { k with
      cause := cause, epc := epc, eaddr := addr, dones := (k.dones + 1) % 65536
      g := ((((((((k.g.set 8 0).set 9 0).set 10 0).set 11 0).set 12 addr).set 13 31).set 14
        (BitVec.ofNat 32 (cause % 16 + epc % 4096 * 16))).set 15 (BitVec.ofNat 32 b.now))
      a := (k.a.set 6 0).set 7 (BitVec.ofNat 24 ((u.angAt (b.now + 1)).getD 0)), z := false, n := false, c := false
      v := (u.angAt (b.now + 1)).isNone, w := false, pc := 31
      run := some ⟨⟨31, 0, 0, b.now, b.now, []⟩, false, true, b.now + 1, 0⟩ } c.isLt }

theorem State.bump_of_clu (s : State) (q : Vector Cluster 9) (r : RegRow) (i hi lo : Nat) :
    ({ s with clu := q } : State).bump r i hi lo = { s.bump r i hi lo with clu := q } := by
  unfold State.bump
  dsimp only [State.rf, State.rg]
  split
  · split <;> rfl
  · rfl

theorem State.emit_of_clu (s : State) (q : Vector Cluster 9) (cls kind src ctx : Nat) :
    ({ s with clu := q } : State).emit cls kind src ctx = { s.emit cls kind src ctx with clu := q } := by
  have hready : ({ s with clu := q } : State).msgReady kind src = s.msgReady kind src := rfl
  unfold State.emit
  dsimp only
  rw [hready]
  generalize outboxPut _ s.coll = x
  obtain ⟨co, lost⟩ := x
  cases lost <;> cases decide (src / 1024 = 1) && decide (kind ≠ Kind.linkFault)
  · rfl
  · rfl
  · exact State.bump_of_clu { s with coll := co } q Reg.fltStat 0 15 8
  · exact State.bump_of_clu (({ s with coll := co } : State).ddlSend _) q Reg.fltStat 0 15 8

theorem State.excNoted_eq (s : State) (c : Fin 9) (cause epc : Nat) (addr : Word) : s.excNoted c cause epc addr
    = { (s.bump Reg.cluExc c 23 16).emit 1 Kind.coreExc (srcC 0 c.val 0xF) (cause % 16 + epc % 4096 * 16) with
      clu := s.clu.set c.val { s.clu[c] with
        cause := cause, epc := epc, eaddr := addr, dones := (s.clu[c].dones + 1) % 65536 } c.isLt } := by
  unfold State.excNoted State.setClu
  rw [State.bump_of_clu, State.emit_of_clu]
  rfl

/-- The run in the exception handler that an exception of TCLK n begins. -/
def excRun (n : Nat) : Run := ⟨⟨31, 0, 0, n, n, []⟩, false, true, n + 1, 0⟩

/-- The entry to the exception handler, once the exception is noted. -/
def State.excDispatched (s : State) (c w : Fin 9) (cause epc : Nat) : State :=
  let s3 := (s.setWork w fun x => { x with runLog := [], armed := [] }).setClu c fun k => { k with run := some (excRun s.now) }
  s3.handlerEntry c (s.now + 1) 31 (s3.clu[c].eaddr) 31 (wordN (cause % 16 + epc % 4096 * 16)) s.tclkLo

/-- An exception of a core outside the exception handler, by its parts. -/
theorem State.coreExc_outside {s : State} {c w : Fin 9} {r : Run} (hrun : s.clu[c].run = some r) (hexc : r.exc = false)
    (hw : s.clu[c].work = some w) (cause epc : Nat) (addr : Option Word) :
    s.coreExc c cause epc addr = (s.excNoted c cause epc (addr.getD s.clu[c].eaddr)).excDispatched c w cause epc := by
  have hrun' : s.clu[c.val].run = some r := hrun
  have hw' : s.clu[c.val].work = some w := hw
  have hnow : (s.excNoted c cause epc (addr.getD s.clu[c].eaddr)).now = s.now := by rw [State.excNoted_parts]
  have hlo : (s.excNoted c cause epc (addr.getD s.clu[c].eaddr)).tclkLo = s.tclkLo := by rw [State.tclkLo, State.tclkLo, hnow]
  unfold State.excDispatched
  rw [hlo, hnow]
  simp [State.coreExc, hrun', hw', hexc, State.excNoted]
  rfl

theorem State.excDispatched_eq (u : State) (q : Vector Cluster 9) (c w : Fin 9) (k : Cluster) (cause epc : Nat) :
    ({ u with clu := q.set c.val k c.isLt } : State).excDispatched c w cause epc = { u with
      work := u.work.set w.val { u.work[w] with runLog := [], armed := [] } w.isLt
      clu := q.set c.val { k with
        g := ((((((((k.g.set 8 0).set 9 0).set 10 0).set 11 0).set 12 k.eaddr).set 13 31).set 14
          (BitVec.ofNat 32 (cause % 16 + epc % 4096 * 16))).set 15 (BitVec.ofNat 32 u.now))
        a := (k.a.set 6 0).set 7 (BitVec.ofNat 24 ((u.angAt (u.now + 1)).getD 0)), z := false, n := false, c := false
        v := (u.angAt (u.now + 1)).isNone, w := false, pc := 31, run := some (excRun u.now) } c.isLt } := by
  have hang (s : State) (v : Vector Work 9) (l : Vector Cluster 9) : ({ s with work := v, clu := l } : State).angAt = s.angAt := rfl
  simp [State.excDispatched, State.handlerEntry, State.setWork, State.setClu, upd, hang, wordN, State.tclkLo]

/-- An exception of a core outside the exception handler, in the state that its instruction comes to. -/
theorem State.coreExc_entered (b : State) (q : Vector Cluster 9) (c w : Fin 9) {k : Cluster} {r : Run} (hrun : k.run = some r)
    (hexc : r.exc = false) (hw : k.work = some w) (cause epc : Nat) (addr : Option Word) :
    ({ b with clu := q.set c.val k c.isLt } : State).coreExc c cause epc addr
      = b.excEntered c w k q cause epc (addr.getD k.eaddr) := by
  have hk : ({ b with clu := q.set c.val k c.isLt } : State).clu[c] = k := by simp
  rw [State.coreExc_outside (by rw [hk]; exact hrun) hexc (by rw [hk]; exact hw), hk, State.excNoted_eq, hk, State.bump_of_clu,
    State.emit_of_clu]
  have hu : ((b.bump Reg.cluExc c 23 16).emit 1 Kind.coreExc (srcC 0 c.val 0xF) (cause % 16 + epc % 4096 * 16)).work = b.work ∧
      ((b.bump Reg.cluExc c 23 16).emit 1 Kind.coreExc (srcC 0 c.val 0xF) (cause % 16 + epc % 4096 * 16)).now = b.now := by
    rw [State.emit_frame, State.bump_frame]
    exact ⟨rfl, rfl⟩
  unfold State.excEntered
  dsimp only
  generalize (b.bump Reg.cluExc c 23 16).emit 1 Kind.coreExc (srcC 0 c.val 0xF) (cause % 16 + epc % 4096 * 16) = u at hu
  obtain ⟨hwork, hnow⟩ := hu
  rw [← hwork, ← hnow, Vector.set_set]
  exact State.excDispatched_eq u q c w _ cause epc

end Sys2Proof.Machine
end

section
/-! SUPPORT. Instructions at the last word of the program, and instructions that raise an exception inside the exception handler (R172,
R173, R183). -/

namespace Sys2Proof.Machine

/-- Cluster c stands at an instruction of run r, whose word is good. -/
def State.AtWord (s : State) (c : Fin 9) (r : Run) : Prop :=
  s.coreOn c = true ∧ s.clu[c].run = some r ∧ r.spent < s.hbudget c ∧ srcC 0 c.val 0xF ∉ s.inj.residue ∧ s.fetch c = (s, true)

section
variable {s : State} {c : Fin 9} {r : Run}

theorem State.AtWord.illegal (h : s.AtWord c r) (n : Nat) (f : State → State × Flow) (regs : Bool) :
    s.insn c n true f regs = (s.spend c n).coreExc c 1 s.clu[c].pc none := by
  obtain ⟨hon, hrun, hspent, -, hfetch⟩ := h
  have hover : ¬ s.hbudget c ≤ r.spent := Nat.not_le.2 hspent
  have hrun' : s.clu[c.val].run = some r := hrun
  simp [State.insn, hon, hrun', hover, hfetch]

theorem State.AtWord.left (h : s.AtWord c r) {n : Nat} {f : State → State × Flow} {t : State} (hf : f (s.spend c n) = (t, .left)) :
    s.insn c n false f false = t := by
  obtain ⟨hon, hrun, hspent, -, hfetch⟩ := h
  have hover : ¬ s.hbudget c ≤ r.spent := Nat.not_le.2 hspent
  have hrun' : s.clu[c.val].run = some r := hrun
  simp [State.insn, hon, hrun', hover, hfetch, hf]

/-- An instruction at word 4095 that goes on to the next word. -/
theorem State.AtWord.overrun (h : s.AtWord c r) (hpc : s.clu[c].pc = 4095) {n : Nat} {f : State → State × Flow} {regs : Bool} {t : State}
    (hf : f (s.spend c n) = (t, .next)) : s.insn c n false f regs = t.coreExc c 1 0xFFF none := by
  obtain ⟨hon, hrun, hspent, hres, hfetch⟩ := h
  have hover : ¬ s.hbudget c ≤ r.spent := Nat.not_le.2 hspent
  have hrun' : s.clu[c.val].run = some r := hrun
  have hpc' : s.clu[c.val].pc = 4095 := hpc
  simp [State.insn, hon, hrun', hover, hfetch, hf, hres, hpc']

theorem State.coreOn_work (h : s.coreOn c = true) : ∃ w, s.clu[c].work = some w := by
  simp only [State.coreOn, Bool.and_eq_true] at h
  exact Option.isSome_iff_exists.1 h.2

/-- The budget is that of the register, whatever a core does. -/
theorem State.hbudget_ranTo (n pc : Nat) (k : Cluster) : (s.ranTo c r n pc k).hbudget c = s.hbudget c := by
  have hlive : alwaysOnSys (Reg.cluBudget.addr c.val 0) = false := by revert c; decide
  have hrg : (s.ranTo c r n pc k).rg Reg.cluBudget c.val 0 = s.rg Reg.cluBudget c.val 0 := s.advanceTo_rg _ _ _ _ hlive
  rw [State.hbudget, State.hbudget, State.rf_of_rg hrg]

/-- A run that has used its budget is abandoned. -/
theorem State.budgetHit_spent (hon : s.coreOn c = true) (hrun : s.clu[c].run = some r) (h : s.hbudget c ≤ r.spent) :
    s.budgetHit c = (s.spend c 1).coreExc c 5 s.clu[c].pc none := by
  unfold State.budgetHit
  rw [hrun]
  dsimp only
  rw [if_pos (by rw [hon, decide_eq_true h]; rfl)]

/-! ### The two accesses that are refused -/

theorem State.accRead_misaligned {p : Fin 11} {a : Nat} (ha : a % 4 ≠ 0) (found : Fin 3) (link : Bool) :
    s.accRead p a found link = (s, 0, .addrerr) := if_pos ha

theorem State.accWrite_misaligned {p : Fin 11} {a : Nat} (ha : a % 4 ≠ 0) (v : Word) (found : Fin 3) (link : Bool) :
    s.accWrite p a v found link = (s, .addrerr) := if_pos ha

theorem addrCheck_tmrCmpv : ∀ n : Fin 16, addrCheck (Reg.tmrCmpv.addr n.val 0) Reg.tmrCmpv n.val 0 = true
    ∧ 0x40000000 ≤ Reg.tmrCmpv.addr n.val 0 := by decide +kernel

/-- A core's write of the compare value of a timer that it does not own. -/
theorem State.accWrite_foreign_timer (n : Fin 16) (c : Fin 9) (h : s.tmr[n].owner ≠ c.val) (v : Word) (found : Fin 3) (link : Bool) :
    s.accWrite (coreReader c) (Reg.tmrCmpv.addr n.val 0) v found link = (s, .owner) := by
  obtain ⟨hcheck, hfar⟩ := addrCheck_tmrCmpv n
  have ha : s.RegAddr (Reg.tmrCmpv.addr n.val 0) Reg.tmrCmpv n.val 0 := State.regAddr_of hcheck (.inr (.inl hfar))
  have hcore : coreOf (coreReader c) = some c := dif_pos c.isLt
  have hreg : s.regAt (Reg.tmrCmpv.addr n.val 0) = some (Reg.tmrCmpv, n.val, 0) := by simp [State.regAt, ha.test, ha.row]
  have howner : s.unitOwner Reg.tmrCmpv n.val = some s.tmr[n].owner := by
    have hidx : idx 16 (by decide) n.val = n := Fin.ext (Nat.mod_eq_of_lt n.isLt)
    exact congrArg (fun m : Fin 16 => some s.tmr[m].owner) hidx
  have hmay : s.coreMay c Reg.tmrCmpv n.val v = .owner := by
    unfold State.coreMay
    rw [if_neg (by decide), if_neg (by decide), if_neg (by decide), if_neg (by decide), howner]
    exact if_neg h
  simp [State.accWrite, ha.aligned, ha.sram, ha.trace, ha.peg, ha.live, hreg, hcore, hmay]

end

end Sys2Proof.Machine
end

section
/-! PROOFS. Program exceptions and the halt inside the exception handler (R172, R173, R183): the statement O13. -/

open Sys2Proof Sys2Proof.Machine

namespace Sys2Proof.Proofs

/-! ### Outside the exception handler -/

section
variable {s : State} {c w : Fin 9} {r : Run}

/-- The exception handler entered from an instruction of n TCLK whose core stands at k. -/
theorem excEntered_ran (hrun : s.clu[c].run = some r) (hexc : r.exc = false) {k : Cluster} (hk : k.work = some w) (n : Nat) (f : Cluster → Cluster)
    (hf : f { s.clu[c] with run := some { r with spent := r.spent + n } } = { k with run := some { r with spent := r.spent + n } })
    (cause epc : Nat) (addr : Option Word) : ((s.spend c n).setClu c f).coreExc c cause epc addr
      = (s.atEnd r n).excEntered c w k s.clu cause epc (addr.getD k.eaddr) := by
  rw [State.spend_setClu hrun, hf]
  exact State.coreExc_entered (s.atEnd r n) s.clu c w (k := { k with run := some { r with spent := r.spent + n } }) rfl hexc hk cause epc addr

/-- The same where the instruction leaves the core as it was. -/
theorem excEntered_spent (hrun : s.clu[c].run = some r) (hexc : r.exc = false) (hw : s.clu[c].work = some w) (n cause epc : Nat)
    (addr : Option Word) : (s.spend c n).coreExc c cause epc addr
      = (s.atEnd r n).excEntered c w s.clu[c] s.clu cause epc (addr.getD s.clu[c].eaddr) := by
  rw [State.spend_eq hrun]
  exact State.coreExc_entered (s.atEnd r n) s.clu c w (k := { s.clu[c] with run := some { r with spent := r.spent + n } }) rfl hexc hw cause epc addr

/-- A run that has used its budget. -/
theorem budget_entered (hon : s.coreOn c = true) (hrun : s.clu[c].run = some r) (hexc : r.exc = false) (hw : s.clu[c].work = some w) {t : State}
    (ht : t = s.ranTo c r (s.hbudget c) s.clu[c].pc s.clu[c]) : exec (.budget c) t
      = .next ((t.atEnd { r with spent := r.spent + s.hbudget c } 1).excEntered c w s.clu[c] t.clu 5 s.clu[c].pc s.clu[c].eaddr).settle := by
  have hclu : t.clu[c] = { s.clu[c] with run := some { r with spent := r.spent + s.hbudget c } } := by rw [ht]; simp [State.ranTo]
  have hrun' : t.clu[c].run = some { r with spent := r.spent + s.hbudget c } := by rw [hclu]
  have hon' : t.coreOn c = true := by
    have hon : (s.clu[c].runs && !s.clu[c].halt && s.clu[c].run.isSome && s.clu[c].work.isSome) = true := hon
    show (t.clu[c].runs && !t.clu[c].halt && t.clu[c].run.isSome && t.clu[c].work.isSome) = true
    rw [hrun, Option.isSome_some] at hon
    rw [hclu]
    exact hon
  have hover : t.hbudget c ≤ ({ r with spent := r.spent + s.hbudget c } : Run).spent := by
    rw [ht, State.hbudget_ranTo]
    exact Nat.le_add_left ..
  show finish (t.budgetHit c) = _
  rw [State.budgetHit_spent hon' hrun' hover, excEntered_spent hrun' hexc (by rw [hclu]; exact hw), hclu]
  rfl

end

/-! ### Inside the exception handler -/

/-- The outcome is the halt of cluster c, which carries work w, by an exception of this cause (R173). -/
def Halted (s : State) (c w : Fin 9) (cause : Nat) (addr : Word) (o : Out) : Prop := ∃ t, o = .next t
  ∧ t.clu = s.clu.set c.val { s.clu[c] with
      cause := cause, epc := s.clu[c].pc, eaddr := addr, dones := (s.clu[c].dones + 1) % 65536, run := none, halt := true } c.isLt
  ∧ t.rf Reg.cluExc c.val 23 16 = min 255 (s.rf Reg.cluExc c.val 23 16 + 1)
  ∧ ((s.coll.outbox.filter (·.src = srcC 0 c.val 0xF)).length < 3 →
    s.Emits t 1 Kind.coreExc (srcC 0 c.val 0xF) (cause + s.clu[c].pc % 4096 * 16) ∧ s.Emits t 2 Kind.coreHalt (srcC 0 c.val 0xF) 0)
  ∧ t.work[w].held = true
  ∧ (∀ x : Fin 9, t.work[x].comps = s.work[x].comps ∧ t.work[x].cueEn = s.work[x].cueEn ∧ t.work[x].seq = s.work[x].seq)
  ∧ t = { s with
      now := t.now, ao := t.ao, regs := t.regs, coll := t.coll, clu := t.clu, work := t.work, edg := t.edg, drv := t.drv
      trc := t.trc, links := t.links, mnt := t.mnt, hwSet := t.hwSet, pins := t.pins }

section
variable {s : State} {c w : Fin 9} {r : Run}

/-- An exception raised in the state that an instruction of n TCLK comes to. -/
theorem halted_ran (hw : s.clu[c].work = some w) (hexc : r.exc = true) (n : Nat) {cause : Nat} (hc : cause % 16 = cause)
    (addr : Option Word) : Halted s c w cause (addr.getD s.clu[c].eaddr)
      (.next ((s.ranTo c r n s.clu[c].pc s.clu[c]).coreExc c cause s.clu[c].pc addr).settle) := by
  have hclu : (s.ranTo c r n s.clu[c].pc s.clu[c]).clu[c] = { s.clu[c] with run := some { r with spent := r.spent + n } } := by
    simp [State.ranTo]
  have hhalt := State.coreExc_halts (s := s.ranTo c r n s.clu[c].pc s.clu[c]) (c := c) (w := w)
    (r := { r with spent := r.spent + n }) (by rw [hclu]) hexc (by rw [hclu]; exact hw)
    cause s.clu[c].pc addr
  rw [hclu] at hhalt
  obtain ⟨h1, h2, h3, h4, h5, h6⟩ := hhalt.ran
  rw [hc] at h3
  generalize (s.ranTo c r n s.clu[c].pc s.clu[c]).coreExc c cause s.clu[c].pc addr = t at h1 h2 h3 h4 h5 h6
  obtain ⟨q, hq⟩ := t.settle_parts
  rw [hq]
  refine ⟨_, rfl, h1, h2, h3, h4, h5, ?_⟩
  rw [h6]

theorem halts_illegal (h : s.Running c r) (hw : s.clu[c].work = some w) (hexc : r.exc = true) (n : Nat) (f : State → State × Flow) :
    Halted s c w 1 s.clu[c].eaddr (finish (s.insn c n true f)) := by
  rw [State.insn_illegal_ranTo h]
  exact halted_ran hw hexc n (by decide) none

theorem halts_trap (h : s.Running c r) (hw : s.clu[c].work = some w) (hexc : r.exc = true) (i : BitVec 16) :
    Halted s c w 6 (i.zeroExtend 32) (exec (.wTrap c i) s) := by
  have heq : exec (.wTrap c i) s = finish (s.insn c 1 false fun t => t.abandon c 6 (some (zextW i))) := by
    rw [exec, execWTrap, State.insn_regs h]
  rw [heq, State.insn_abandon h rfl]
  exact halted_ran hw hexc 1 (by decide) (some (zextW i))

theorem halts_jr (h : s.Running c r) (hw : s.clu[c].work = some w) (hexc : r.exc = true) {b : Fin 16}
    (hb : 4096 ≤ (s.clu[c].g[b] : Word).toNat) : Halted s c w 1 s.clu[c].eaddr (exec (.wJr c b) s) := by
  obtain ⟨-, -, -, -, -, -, hjr⟩ := branchesAndJumps s c r 0 b 0 0 0 h
  rw [hjr hb]
  exact halted_ran hw hexc 2 (by decide) none

/-- A core in the exception handler that has used its budget. -/
theorem halts_budget (hon : s.coreOn c = true) (hrun : s.clu[c].run = some r) (hw : s.clu[c].work = some w) (hexc : r.exc = true) {s' : State}
    (hs : s' = { s with clu := s.clu.set c.val { s.clu[c] with run := some { r with spent := s.hbudget c } } c.isLt }) :
    ∃ t, exec (.budget c) s' = .next t
      ∧ t.clu = s.clu.set c.val { s.clu[c] with
        cause := 5, epc := s.clu[c].pc, dones := (s.clu[c].dones + 1) % 65536, run := none, halt := true } c.isLt
      ∧ t.work[w].held = true := by
  have hclu : s'.clu[c] = { s.clu[c] with run := some { r with spent := s.hbudget c } } := by rw [hs]; simp
  have hrun' : s'.clu[c].run = some { r with spent := s.hbudget c } := by rw [hclu]
  have hbudget : s'.hbudget c = s.hbudget c := by rw [hs]; rfl
  have hon' : s'.coreOn c = true := by
    have hon : (s.clu[c].runs && !s.clu[c].halt && s.clu[c].run.isSome && s.clu[c].work.isSome) = true := hon
    show (s'.clu[c].runs && !s'.clu[c].halt && s'.clu[c].run.isSome && s'.clu[c].work.isSome) = true
    rw [hrun, Option.isSome_some] at hon
    rw [hclu]
    exact hon
  have hspend : (s'.spend c 1).clu = s.clu.set c.val { s.clu[c] with run := some { r with spent := s.hbudget c + 1 } } c.isLt := by
    rw [State.spend_eq hrun', hclu, hs]
    simp
  have hspent : (s'.spend c 1).clu[c] = { s.clu[c] with run := some { r with spent := s.hbudget c + 1 } } := by
    rw [hspend]
    simp
  have hhalt := State.coreExc_halts (s := s'.spend c 1) (c := c) (w := w) (r := { r with spent := s.hbudget c + 1 }) (by rw [hspent]) hexc
    (by rw [hspent]; exact hw) 5 s'.clu[c].pc none
  have heq : exec (.budget c) s' = .next ((s'.spend c 1).coreExc c 5 s'.clu[c].pc none).settle :=
    congrArg finish (State.budgetHit_spent hon' hrun' hbudget.le)
  obtain ⟨h1, -, -, h4, -⟩ := hhalt
  refine ⟨_, heq, ?_, h4⟩
  have hset : ((s'.spend c 1).coreExc c 5 s'.clu[c].pc none).settle.clu = ((s'.spend c 1).coreExc c 5 s'.clu[c].pc none).clu := rfl
  rw [hset, h1, hspend, hclu]
  simp

end

/-- Settles O13: outside the exception handler an exception enters it in the next TCLK; inside it halts the core and holds its work. -/
theorem programExceptionsAndHalts : Obligations.ProgramExceptionsAndHalts := by
  refine ⟨?_, ?_⟩
  · intro s c r i v d hon hrun hspent hres hfetch hexc hpc k taken
    obtain ⟨w, hw⟩ := State.coreOn_work hon
    have hat : s.AtWord c r := ⟨hon, hrun, hspent, hres, hfetch⟩
    have htaken (k' : Cluster) (hk : k'.work = some w) (b : State) (cause : Nat) (hc : cause % 16 = cause) (addr : Word) :
        taken k' b cause addr = b.excEntered c w k' b.clu cause k'.pc addr := by
      show State.mk .. = _
      unfold State.excEntered
      rw [hc]
      dsimp only
      rw [hk]
    have hclu : (s.atEnd r 1).clu = s.clu := s.advanceTo_clu _
    refine ⟨?_, fun hv => ?_, fun s' hs => ?_, fun hend => ⟨?_, ?_⟩⟩
    · rw [htaken k hw _ 6 rfl, hclu]
      exact congrArg finish ((hat.left rfl).trans ((congrArg (fun q : Cluster => (s.spend c 1).coreExc c 6 q.pc (some (zextW i)))
        (State.spend_clu hrun 1)).trans (excEntered_spent hrun hexc hw 1 6 k.pc (some (zextW i)))))
    · rw [htaken k hw _ 1 rfl, hclu]
      have heq : exec (.wReservedOpcode c v) s = finish (s.insn c 1 true fun t => (t, .next)) := congrArg finish (if_pos hv)
      rw [heq, hat.illegal, excEntered_spent hrun hexc hw]
      rfl
    · have hclu' : (s'.atEnd { r with spent := r.spent + s.hbudget c } 1).clu = s'.clu := s'.advanceTo_clu _
      rw [htaken k hw _ 5 rfl, hclu']
      exact budget_entered hon hrun hexc hw hs
    · rw [htaken k hw _ 1 rfl, hclu]
      refine congrArg finish ((hat.overrun hend rfl).trans ((excEntered_spent hrun hexc hw 1 1 0xFFF none).trans ?_))
      rw [show k.pc = 0xFFF from hend]
      rfl
    · rw [htaken { k with g := k.g.set d.val (i.signExtend 32) d.isLt } hw _ 1 rfl, hclu]
      refine congrArg finish ((hat.overrun hend rfl).trans ((excEntered_ran hrun hexc
        (k := { k with g := k.g.set d.val (i.signExtend 32) d.isLt }) hw 1 _ rfl 1 0xFFF none).trans ?_))
      rw [show k.pc = 0xFFF from hend]
      rfl
  · intro s c w r i v d b h hw hexc k src off halts
    have hoff : s.clu[c].dataAddr b false i = off := rfl
    have hpcs (n : Nat) : (s.ranTo c r n s.clu[c].pc s.clu[c]).clu[c].pc = s.clu[c].pc := by simp [State.ranTo]
    refine ⟨halts_trap h hw hexc i, fun hv => ?_, fun hb => halts_jr h hw hexc hb, fun hx => ?_, fun hx => ?_, fun hx => ⟨?_, ?_⟩,
      fun n hx hn => ?_, fun s' hs => halts_budget h.1 h.2.1 hw hexc hs⟩
    · have heq : exec (.wReservedOpcode c v) s = finish (s.insn c 1 true fun t => (t, .next)) := congrArg finish (if_pos hv)
      rw [heq]
      exact halts_illegal h hw hexc 1 _
    · have hbad : dataOk (s.clu[c].dataAddr b false i) = false := by
        rw [hoff, ← Bool.not_eq_true, dataOk_iff]
        omega
      rw [execWLd_wrong h rfl hbad]
      exact halted_ran hw hexc 2 (by decide) (some off)
    · rw [execWSt_wrong (a := false) (b := b) (i := i) h rfl hx]
      exact halted_ran hw hexc 1 (by decide) (some off)
    · rw [execWLdx_refused (n := 2) h (State.accRead_misaligned hx 0 false) rfl, hpcs]
      exact halted_ran hw hexc _ (by decide) (some off)
    · rw [execWStx_refused (n := 2) h (State.accWrite_misaligned hx _ 0 false) rfl, hpcs]
      exact halted_ran hw hexc _ (by decide) (some off)
    · have howner : (s.ranTo c r (2 + 0) s.clu[c].pc s.clu[c]).tmr[n].owner ≠ c.val := by
        rw [show (s.ranTo c r (2 + 0) s.clu[c].pc s.clu[c]).tmr = s.tmr from s.advanceTo_tmr _]
        exact hn
      have hacc := State.accWrite_foreign_timer n c howner (s.clu[c].gr d) 0 false
      rw [← hx] at hacc
      rw [execWStx_refused (n := 3) h hacc rfl, hpcs]
      exact halted_ran hw hexc _ (by decide) (some off)

end Sys2Proof.Proofs
end

section
/-! PROOFS. A read of an empty RXF (R308): the statement O52 has it answer 0 in every state, but the value of a register is its stored bits
together with its typed fields, and a register file that lists a word for JIG0_RXF, which keeps no stored bits, gives that word. -/

open Sys2Proof Sys2Proof.Machine

-- A kernel evaluation waits for every declaration before it: in turn, the theorems here do not pile up.
set_option Elab.async false

namespace Sys2Proof.Proofs

/-- In RUN, RXF of engine 0 is empty, and the register file lists the word 1 at its address. -/
def strayRxf : State := { State.reset with
  sys := { State.reset.sys with st := .run, pll := true }
  regs := [(Reg.jigRxf.addr 0 0, 1)] }

/-- The host port's data after a command. -/
def hostDataAfter : Out → Option (List Word)
  | .next t => some t.host.data
  | _ => none

/-- Refutes O52: the host reads 1 from the empty FIFO; the statement has it read 0. -/
theorem not_jigCommands : ¬ Obligations.JigCommands := by
  intro h
  obtain ⟨-, -, -, hread⟩ := h strayRxf 0 9 0 0 0 0 (by decide +kernel)
  obtain ⟨-, hempty⟩ := hread (fun hp => absurd hp (by decide)) (fun _ => by decide +kernel)
  obtain ⟨t, hnext, hdata, -⟩ := hempty (by decide +kernel)
  have hzero : hostDataAfter (exec (.jigRxfRead 9 0) strayRxf) = some [0] := by
    rw [hnext]
    exact congrArg some (hdata (by decide))
  have hmodel : hostDataAfter (exec (.jigRxfRead 9 0) strayRxf) = some [1] := by decide +kernel
  rw [hmodel] at hzero
  exact absurd hzero (by decide +kernel)

end Sys2Proof.Proofs
end

section
/-! SUPPORT. The messages of a fabric node, and what the followed state and the captaincy change of its fabric (R365, R366, R368, R370). -/

namespace Sys2Proof.Machine

/-! ### The node's messages that wait -/

/-- The messages of the node that wait for acceptance. -/
def State.nodeMsgs (s : State) : List Msg := s.coll.outbox.filter (·.src = srcF 0xF)

/-- Up to n messages of the node more wait in the second state, where that many find their places; none goes. -/
def State.Sends (n : Nat) (s t : State) : Prop := s.nodeMsgs.length + n ≤ 4 → ∃ l, l.length ≤ n ∧ t.nodeMsgs = s.nodeMsgs ++ l

theorem State.Sends.trans {n m : Nat} {s t u : State} (h : s.Sends n t) (h' : t.Sends m u) : s.Sends (n + m) u := by
  intro hroom
  obtain ⟨l, hl, ht⟩ := h (by omega)
  obtain ⟨l', hl', hu⟩ := h' (by rw [ht, List.length_append]; omega)
  exact ⟨l ++ l', by rw [List.length_append]; omega, by rw [hu, ht, List.append_assoc]⟩

theorem State.Sends.mono {n m : Nat} {s t : State} (h : s.Sends n t) (hn : n ≤ m) : s.Sends m t := by
  intro hroom
  obtain ⟨l, hl, ht⟩ := h (by omega)
  exact ⟨l, hl.trans hn, ht⟩

theorem State.sends_none {s t : State} (h : t.nodeMsgs = s.nodeMsgs) : s.Sends 0 t := fun _ => ⟨[], Nat.le_refl _, by rw [h, List.append_nil]⟩

theorem State.sends_coll {s t : State} (h : t.coll = s.coll) : s.Sends 0 t := State.sends_none (by rw [State.nodeMsgs, State.nodeMsgs, h])

theorem State.KeepsBox.sends {s t : State} (h : s.KeepsBox (srcF 0xF) t) : s.Sends 0 t := State.sends_none h.outbox

theorem State.Sends.mem {n : Nat} {s t : State} (h : s.Sends n t) (hroom : s.nodeMsgs.length + n ≤ 4) {m : Msg} (hm : m ∈ s.nodeMsgs) :
    m ∈ t.nodeMsgs := by
  obtain ⟨l, -, ht⟩ := h hroom
  rw [ht]
  exact List.mem_append_left _ hm

theorem State.emit_nodeMsgs (s : State) (cls kind ctx : Nat) (h : s.nodeMsgs.length < 4) :
    (s.emit cls kind (srcF 0xF) ctx).nodeMsgs = s.nodeMsgs ++ [s.msg cls kind (srcF 0xF) ctx] := by
  unfold State.nodeMsgs
  rw [s.emit_coll cls kind ctx h]
  simp [State.msg]

theorem State.sends_emit (s : State) (cls kind ctx : Nat) : s.Sends 1 (s.emit cls kind (srcF 0xF) ctx) := fun hroom =>
  ⟨_, Nat.le_refl _, s.emit_nodeMsgs cls kind ctx (by omega)⟩

theorem State.sends_hostEvent (s : State) (b n : Nat) : s.Sends 0 (s.hostEvent b n) := State.sends_coll rfl

/-! ### What the node is -/

/-- What makes a node what it is stands: the device state, its memory, its time, FAB_CFG and the enable of its crank. -/
def State.NodeKept (s t : State) : Prop :=
  t.sys = s.sys ∧ t.mem = s.mem ∧ t.now = s.now ∧ t.rg Reg.fabCfg 0 0 = s.rg Reg.fabCfg 0 0 ∧ t.rg Reg.whlxCfg 0 0 = s.rg Reg.whlxCfg 0 0

theorem State.NodeKept.refl (s : State) : s.NodeKept s := ⟨rfl, rfl, rfl, rfl, rfl⟩

theorem State.NodeKept.trans {s t u : State} (h : s.NodeKept t) (h' : t.NodeKept u) : s.NodeKept u :=
  ⟨h'.1.trans h.1, h'.2.1.trans h.2.1, h'.2.2.1.trans h.2.2.1, h'.2.2.2.1.trans h.2.2.2.1, h'.2.2.2.2.trans h.2.2.2.2⟩

theorem State.Stir.node {s t : State} (h : s.Stir t) : s.NodeKept t := ⟨h.sys, h.mem, h.now, h.rg (by decide), h.rg (by decide)⟩

section
variable {s t : State} (h : s.NodeKept t)
include h

theorem State.NodeKept.rb_fabCfg (n : Nat) : t.rb Reg.fabCfg 0 n = s.rb Reg.fabCfg 0 n := by rw [State.rb, State.rb, h.2.2.2.1]
theorem State.NodeKept.rf_fabCfg (hi lo : Nat) : t.rf Reg.fabCfg 0 hi lo = s.rf Reg.fabCfg 0 hi lo := by rw [State.rf, State.rf, h.2.2.2.1]
theorem State.NodeKept.live : t.live = s.live := by rw [State.live, State.live, h.1]
theorem State.NodeKept.fabRuns : t.fabRuns = s.fabRuns := by
  rw [State.fabRuns, State.fabRuns, State.fabEn, State.fabEn, h.rb_fabCfg, h.live, h.1]
theorem State.NodeKept.nodeId : t.nodeId = s.nodeId := by rw [State.nodeId, State.nodeId, h.rb_fabCfg, h.rf_fabCfg, h.1]
theorem State.NodeKept.cfgRank : t.cfgRank = s.cfgRank := h.rf_fabCfg 5 4

theorem State.NodeKept.rankDup (hr : t.fab.recs = s.fab.recs) (hm : t.fab.members = s.fab.members) : t.rankDup = s.rankDup := by
  rw [State.rankDup, State.rankDup, h.cfgRank, h.nodeId, hr, hm]

theorem State.NodeKept.effRank (hr : t.fab.recs = s.fab.recs) (hm : t.fab.members = s.fab.members) : t.effRank = s.effRank := by
  rw [State.effRank, State.effRank, h.rankDup hr hm, h.cfgRank]

theorem State.NodeKept.eligible (hr : t.fab.recs = s.fab.recs) (hm : t.fab.members = s.fab.members) (hb : t.fab.bench = s.fab.bench) :
    t.eligible = s.eligible := by
  rw [State.eligible, State.eligible, h.live, h.effRank hr hm, hb, State.rb, State.rb, h.2.2.2.2]

theorem State.NodeKept.capTo : t.capTo = s.capTo := by rw [State.capTo, State.capTo, h.rf_fabCfg]

end

theorem State.nodeKept_fab (s : State) (f : Fabric) : s.NodeKept { s with fab := f } := ⟨rfl, rfl, rfl, rfl, rfl⟩

theorem State.nodeKept_emit (s : State) (cls kind ctx : Nat) : s.NodeKept (s.emit cls kind (srcF 0xF) ctx) :=
  (s.stir_emit cls kind ctx (srcF_control _).2).node

theorem State.nodeKept_hostEvent (s : State) (b n : Nat) : s.NodeKept (s.hostEvent b n) :=
  ⟨rfl, rfl, rfl, State.setRg_rg_ne s _ _ _ _ _ _ _ (by decide), State.setRg_rg_ne s _ _ _ _ _ _ _ (by decide)⟩

/-! ### The followed state (R365, R366) -/

/-- The fabric f with the combined state formed anew. -/
def Fabric.Follows (f g : Fabric) : Prop := ∃ cs h cf dv dn dr, g = { f with csync := cs, hold := h, capFell := cf, dv := dv, dvN := dn, diffRun := dr }

theorem Fabric.Follows.refl (f : Fabric) : f.Follows f := ⟨_, _, _, _, _, _, rfl⟩

theorem State.combine_fab (s : State) : s.fab.Follows s.combine.fab := by
  unfold State.combine
  dsimp only
  split
  · exact .refl _
  · split
    · split
      · exact ⟨_, _, _, _, _, _, rfl⟩
      · exact .refl _
    · split
      · rw [State.emit_fab]
        exact ⟨_, _, _, _, _, _, rfl⟩
      · exact ⟨_, _, _, _, _, _, rfl⟩

theorem State.sends_combine (s : State) : s.Sends 1 s.combine := by
  have hfab (f : Fabric) : s.Sends 0 { s with fab := f } := State.sends_coll rfl
  unfold State.combine
  dsimp only
  split
  · exact (s.sends_coll rfl).mono (Nat.zero_le _)
  · split
    · split
      · exact (hfab _).mono (Nat.zero_le _)
      · exact (s.sends_coll rfl).mono (Nat.zero_le _)
    · split
      · exact (hfab _).trans (State.sends_emit _ _ _ _)
      · exact (hfab _).mono (Nat.zero_le _)

/-- The state that the rules follow is formed anew: what that leaves of the fabric and of the node's messages. -/
theorem State.refollow_fab (s : State) (old : Sync) (reason : Nat) : s.fab.Follows (s.refollow old reason).fab := by
  unfold State.refollow
  dsimp only
  rw [(s.combine.jolt_syncMoved old _).fab]
  exact s.combine_fab

theorem State.sends_refollow (s : State) (old : Sync) (reason : Nat) : s.Sends 1 (s.refollow old reason) :=
  s.sends_combine.trans (s.combine.jolt_syncMoved old _).box.sends

theorem State.nodeKept_refollow (s : State) (old : Sync) (reason : Nat) : s.NodeKept (s.refollow old reason) := (s.stir_refollow ..).node

/-! ### The captaincy (R369, R370, R373) -/

/-- The beacon that a captain sends. -/
theorem State.beaconOut_eq {s : State} (hcapt : s.fab.capt = true) (hruns : s.fabRuns = true) : ∃ p, s.beaconOut = { s with fab := { s.fab with
      port := p, resign := s.fab.resign || !s.live, seenB := notePassed s.fab.seenB (s.fab.cep, s.fab.bseq), bseq := (s.fab.bseq + 1) % 65536 } }
    ∧ ∀ k : Fin 3, p[k] = if s.fab.port[k].st = .up ∧ (s.fab.port[k].tree = 1 ∨ s.fab.port[k].tree = 2) then
        { s.fab.port[k] with out := s.fab.port[k].out ++ [(3, s.unitFrame 1 s.beaconBytes)] } else s.fab.port[k] := by
  obtain ⟨p, hp⟩ := s.broadcast_ports 3 (s.unitFrame 1 s.beaconBytes)
  refine ⟨p, ?_, fun k => ?_⟩
  · unfold State.beaconOut
    rw [hcapt, hruns, if_neg (by decide)]
    dsimp only
    rw [hp]
  · have h := s.broadcast_port 3 (s.unitFrame 1 s.beaconBytes) k
    rw [hp] at h
    refine h.trans ?_
    have hk : k.val ≠ 3 := by omega
    simp [hk]

theorem State.beaconOut_idle {s : State} (h : s.fab.capt = false ∨ s.fabRuns = false) : s.beaconOut = s := by
  unfold State.beaconOut
  rcases h with h | h <;> simp [h]

/-! What a takeover leaves: the beacon that it sends stands at the ports in the tree. -/

/-- The fabric g is that of a takeover at node id from the fabric f, the new CEP from top. -/
def Fabric.Takes (f g : Fabric) (id top : Nat) : Prop :=
  g.capt = true ∧ g.capid = id ∧ g.capv = true ∧ g.cep = (top + 1) % 256 ∧ g.members = f.members ∧ g.lun = f.lun ∧ g.route = f.route
    ∧ g.lubusy = f.lubusy ∧ g.issued = f.issued ∧ g.recs = f.recs ∧ g.bench = f.bench ∧ g.rseq = f.rseq
    ∧ ∀ k : Fin 3, ∃ l, g.port[k] = { f.port[k] with out := f.port[k].out ++ l } ∧ ∀ e ∈ l, e.2.ft = 1

/-- The fabric of a node that takes the captaincy, before it forms the combined state anew. -/
def State.takenFab (s : State) (top cause : Nat) : Fabric := { s.fab with
  capt := true, capid := s.nodeId, capv := true, cep := (top + 1) % 256, hand := none, resign := false, beacon := none, hold := none
  fellAt := none, resignAt := none, capFell := s.fab.capFell || decide (s.sync = .full)
  took := decide (s.whl.sync ≠ .nosync) && (decide (cause ≠ 4) || s.fab.capv) }

/-- The state of a node that takes the captaincy, before it sends its beacon. -/
def State.takenOver (s : State) (top cause : Nat) : State :=
  ((({ s with fab := s.takenFab top cause } : State).emit 1 Kind.fabTakeover (srcF 0xF)
    (s.fab.capid % 32 + (top + 1) % 256 * 32 + cause * 8192)).hostEvent 1 2).refollow s.sync 0

theorem State.takeCaptaincy_eq (s : State) (top cause : Nat) : s.takeCaptaincy top cause = (s.takenOver top cause).beaconOut := rfl

theorem State.nodeKept_takenOver (s : State) (top cause : Nat) : s.NodeKept (s.takenOver top cause) :=
  (((s.nodeKept_fab _).trans (State.nodeKept_emit ..)).trans (State.nodeKept_hostEvent ..)).trans (State.nodeKept_refollow ..)

theorem State.takenOver_fab (s : State) (top cause : Nat) : (s.takenFab top cause).Follows (s.takenOver top cause).fab := by
  have h : ∀ u : State, u.fab = s.takenFab top cause → (s.takenFab top cause).Follows (u.refollow s.sync 0).fab :=
    fun u hu => hu ▸ u.refollow_fab s.sync 0
  refine h _ ?_
  rw [State.hostEvent_parts, State.emit_fab]

theorem State.sends_takenOver (s : State) (top cause : Nat) : s.Sends 2 (s.takenOver top cause) := by
  refine State.Sends.trans (n := 1) (m := 1) ?_ (State.sends_refollow _ _ _)
  have h : s.Sends 0 { s with fab := s.takenFab top cause } := State.sends_coll rfl
  generalize ({ s with fab := s.takenFab top cause } : State) = u at h
  have hemit := h.trans (u.sends_emit 1 Kind.fabTakeover (s.fab.capid % 32 + (top + 1) % 256 * 32 + cause * 8192))
  generalize u.emit 1 Kind.fabTakeover (srcF 0xF) (s.fab.capid % 32 + (top + 1) % 256 * 32 + cause * 8192) = v at hemit
  exact hemit.trans (State.sends_hostEvent v 1 2)

theorem State.takeCaptaincy_node (s : State) (top cause : Nat) : s.NodeKept (s.takeCaptaincy top cause) := by
  have h := s.nodeKept_takenOver top cause
  rw [State.takeCaptaincy_eq]
  generalize s.takenOver top cause = u at h
  by_cases hb : u.fab.capt = true ∧ u.fabRuns = true
  · obtain ⟨p, hp, -⟩ := State.beaconOut_eq hb.1 hb.2
    rw [hp]
    exact h
  · rw [State.beaconOut_idle]
    · exact h
    · simpa [imp_iff_not_or] using hb

/-- A takeover sends its report, at most one message more, and a beacon. -/
theorem State.sends_takeCaptaincy (s : State) (top cause : Nat) : s.Sends 2 (s.takeCaptaincy top cause) := by
  have h := s.sends_takenOver top cause
  rw [State.takeCaptaincy_eq]
  generalize s.takenOver top cause = u at h
  by_cases hb : u.fab.capt = true ∧ u.fabRuns = true
  · obtain ⟨p, hp, -⟩ := State.beaconOut_eq hb.1 hb.2
    rw [hp]
    exact h
  · rw [State.beaconOut_idle]
    · exact h
    · simpa [imp_iff_not_or] using hb

/-- The report of a takeover waits where two places are free. -/
theorem State.takeCaptaincy_report (s : State) (top cause : Nat) (hroom : s.nodeMsgs.length + 2 ≤ 4) : ∃ m ∈ (s.takeCaptaincy top cause).nodeMsgs,
    m.cls = 1 ∧ m.kind = Kind.fabTakeover ∧ m.ctx = BitVec.ofNat 32 (s.fab.capid % 32 + (top + 1) % 256 * 32 + cause * 8192) := by
  have hbeacon (u : State) : u.Sends 0 u.beaconOut := by
    by_cases hb : u.fab.capt = true ∧ u.fabRuns = true
    · obtain ⟨p, hp, -⟩ := State.beaconOut_eq hb.1 hb.2
      rw [hp]
      exact State.sends_coll rfl
    · rw [State.beaconOut_idle]
      · exact State.sends_coll rfl
      · simpa [imp_iff_not_or] using hb
  rw [State.takeCaptaincy_eq, State.takenOver]
  have hfab : ({ s with fab := s.takenFab top cause } : State).nodeMsgs = s.nodeMsgs := rfl
  generalize ({ s with fab := s.takenFab top cause } : State) = u at hfab
  have hemit := u.emit_nodeMsgs 1 Kind.fabTakeover (s.fab.capid % 32 + (top + 1) % 256 * 32 + cause * 8192) (by rw [hfab]; omega)
  have hroom' : (u.emit 1 Kind.fabTakeover (srcF 0xF) (s.fab.capid % 32 + (top + 1) % 256 * 32 + cause * 8192)).nodeMsgs.length + 1 ≤ 4 := by
    rw [hemit, hfab, List.length_append, List.length_singleton]
    omega
  refine ⟨u.msg 1 Kind.fabTakeover (srcF 0xF) (s.fab.capid % 32 + (top + 1) % 256 * 32 + cause * 8192), ?_, rfl, rfl, rfl⟩
  have hmem : u.msg 1 Kind.fabTakeover (srcF 0xF) (s.fab.capid % 32 + (top + 1) % 256 * 32 + cause * 8192)
      ∈ (u.emit 1 Kind.fabTakeover (srcF 0xF) (s.fab.capid % 32 + (top + 1) % 256 * 32 + cause * 8192)).nodeMsgs := by
    rw [hemit]
    simp
  generalize u.emit 1 Kind.fabTakeover (srcF 0xF) (s.fab.capid % 32 + (top + 1) % 256 * 32 + cause * 8192) = v at hroom' hmem
  exact (((State.sends_hostEvent v 1 2).trans (State.sends_refollow _ _ _)).trans (hbeacon _)).mem hroom' hmem

theorem State.takeCaptaincy_fab (s : State) (top cause : Nat) : s.fab.Takes (s.takeCaptaincy top cause).fab s.nodeId top := by
  obtain ⟨cs, h, cf, dv, dn, dr, hf⟩ := s.takenOver_fab top cause
  rw [State.takeCaptaincy_eq]
  generalize s.takenOver top cause = u at hf
  have hcapt : u.fab.capt = true := by rw [hf]; rfl
  by_cases hr : u.fabRuns = true
  · obtain ⟨p, hp, hk⟩ := State.beaconOut_eq hcapt hr
    rw [hp, hf]
    refine ⟨rfl, rfl, rfl, rfl, rfl, rfl, rfl, rfl, rfl, rfl, rfl, rfl, fun k => ?_⟩
    show ∃ l, p[k] = _ ∧ _
    rw [hk k, hf]
    split
    · exact ⟨[(3, u.unitFrame 1 u.beaconBytes)], rfl, by simp [State.unitFrame]⟩
    · exact ⟨[], by rw [List.append_nil]; rfl, by simp⟩
  · rw [State.beaconOut_idle (.inr (by simpa using hr)), hf]
    exact ⟨rfl, rfl, rfl, rfl, rfl, rfl, rfl, rfl, rfl, rfl, rfl, rfl, fun k => ⟨[], by rw [List.append_nil]; rfl, by simp⟩⟩

end Sys2Proof.Machine
end

section
/-! PROOFS. The commands of FAB_CMD, the lapse of a handover, the captain's beacon and the exchange of times (R351, R359, R364, R369,
R374; O56). -/

open Sys2Proof Sys2Proof.Machine

namespace Sys2Proof.Proofs

theorem addrCheck_fabCmd : addrCheck (Reg.fabCmd.addr 0 0) Reg.fabCmd 0 0 = true := by decide +kernel

/-! ### FAB_CMD -/

section
variable {s : State} {p : Fin 2} (hw : s.Writable p)
include hw

/-- A write of FAB_CMD is the command, answered at its port. -/
theorem fabCmd_written (v : Word) : finish (s.portWrite p Reg.fabCmd.base v 0 false) = .next ((s.fabCmdWrite v).answered p .ok).settle := by
  have hrow := State.portWrite_row hw addrCheck_fabCmd (by decide) (by decide) (show s.unitOwner Reg.fabCmd 0 = none from rfl) v 0
  have hreg : s.regWrite (portOf2 p) Reg.fabCmd 0 0 v = (s.fabCmdWrite v, .ok) := rfl
  rw [hreg] at hrow
  exact congrArg finish hrow

theorem lineup_command (hr : s.fabRuns = true) : exec (.fabLineupCmd p) s = .next (s.newRecord.answered p .ok).settle := by
  have h : s.fabCmdWrite 1 = s.newRecord := by
    unfold State.fabCmdWrite
    rw [hr]
    rfl
  exact (fabCmd_written hw 1).trans (by rw [h])

theorem lineup_command_off (hr : s.fabRuns = false) : exec (.fabLineupCmd p) s = .next (s.answered p .ok).settle := by
  have h : s.fabCmdWrite 1 = s := by
    unfold State.fabCmdWrite
    rw [hr]
    rfl
  exact (fabCmd_written hw 1).trans (by rw [h])

theorem handover_command (tgt : Fin 32) : exec (.fabHandover p tgt) s = .next ((s.handoverCmd tgt.val).answered p .ok).settle := by
  have hbits : ∀ x : Fin 32, bit (wordN (2 + x.val * 256)) 0 = false ∧ bit (wordN (2 + x.val * 256)) 1 = true
      ∧ bit (wordN (2 + x.val * 256)) 2 = false ∧ fld (wordN (2 + x.val * 256)) 12 8 = x.val := by decide
  obtain ⟨h0, h1, h2, hf⟩ := hbits tgt
  have h : s.fabCmdWrite (wordN (2 + tgt.val * 256)) = s.handoverCmd tgt.val := by
    unfold State.fabCmdWrite
    rw [h0, h1, h2, hf]
    rfl
  exact (fabCmd_written hw _).trans (by rw [h])

theorem diffclr_command : exec (.fabDiffclr p) s = .next (s.diffClear.answered p .ok).settle := by
  have h : s.fabCmdWrite 4 = s.diffClear := rfl
  exact (fabCmd_written hw 4).trans (by rw [h])

/-- LINEUP: the record goes out on every UP port. -/
theorem lineup_commanded (hr : s.fabRuns = true) : ∃ t, exec (.fabLineupCmd p) s = .next t ∧ t.answer p = .ok
    ∧ t.fab.rseq = (s.fab.rseq + 1) % 256 ∧ t.fab.lubusy = true
    ∧ (∀ k : Fin 3, if s.fab.port[k].st = .up then (∃ e ∈ t.fab.port[k].out, e.1 = 3 ∧ e.2.ft = 6) else t.fab.port[k] = s.fab.port[k])
    ∧ t = { s with fab := t.fab, host := t.host, mnt := t.mnt, pins := t.pins } := by
  refine ⟨_, lineup_command hw hr, answered_answer _ p nofun, ?_⟩
  obtain ⟨q, g, hn, hk⟩ := s.newRecord_parts
  obtain ⟨x, m, hx⟩ := answered_parts s.newRecord p .ok
  obtain ⟨b, hb⟩ := State.settle_parts (s.newRecord.answered p .ok)
  rw [hb, hx, hn]
  refine ⟨rfl, rfl, fun k => ?_, rfl⟩
  show if _ then (∃ e ∈ q[k].out, _) else q[k] = _
  rw [hk k]
  split
  · exact ⟨(3, s.recordFrame), by simp, rfl, s.recordFrame_ft⟩
  · rfl

/-- DIFFCLR. -/
theorem diffclr_commanded : ∃ t, exec (.fabDiffclr p) s = .next t ∧ t.answer p = .ok ∧ t.fab.diffstop = false ∧ t.fab.port = s.fab.port := by
  refine ⟨_, diffclr_command hw, answered_answer _ p nofun, ?_⟩
  obtain ⟨x, m, hx⟩ := answered_parts s.diffClear p .ok
  obtain ⟨b, hb⟩ := State.settle_parts (s.diffClear.answered p .ok)
  obtain ⟨cs, h, cf, dv, dn, dr, hf⟩ := ({ s with fab := { s.fab with diffstop := false } } : State).refollow_fab s.sync 0
  have hfab : s.diffClear.fab = _ := hf
  rw [hb, hx]
  show s.diffClear.fab.diffstop = _ ∧ s.diffClear.fab.port = _
  rw [hfab]
  exact ⟨rfl, rfl⟩

end

/-! ### The lapse of a handover (R374) -/

section
variable {s : State} (hc : s.clocked = true)
include hc

theorem exec_handoverTimeout : exec .handoverTimeout s = .next s.handoverLapse.settle := congrArg finish (State.awake_clocked hc State.handoverLapse)

theorem handover_lapses (hcapt : s.fab.capt = true) (hr : s.fabRuns = true) {h : Nat × Nat} (hh : h ∈ s.fab.hand) :
    ∃ t, exec .handoverTimeout s = .next t ∧ t.fab.hand = none ∧ t.now = max s.now h.2
      ∧ s.Emits t 1 0x19 0x2EF (s.fab.capid % 32 + s.fab.cep * 32 + 7 * 8192) ∧ t.edg = s.edg ∧ t.fab.port = s.fab.port := by
  refine ⟨_, exec_handoverTimeout hc, ?_⟩
  have heq : s.handoverLapse = (({ s.advanceTo h.2 with fab := { (s.advanceTo h.2).fab with hand := none } } : State).emit 1 Kind.fabTakeover
      (srcF 0xF) (s.fab.capid % 32 + s.fab.cep * 32 + 7 * 8192)).hostEvent 1 2 := by
    unfold State.handoverLapse
    rw [show s.fab.hand = some h from hh, hcapt, hr]
    rfl
  have hnow := s.advanceTo_now h.2
  have hcoll := s.advanceTo_coll h.2
  have hedg := s.advanceTo_edg h.2
  have hfab := s.advanceTo_fab h.2
  rw [heq]
  generalize s.advanceTo h.2 = u at hnow hcoll hedg hfab
  have hmsg := State.emits_emit (s := s) (u := { u with fab := { u.fab with hand := none } }) (cls := 1) (kind := Kind.fabTakeover) (src := srcF 0xF)
    (ctx := s.fab.capid % 32 + s.fab.cep * 32 + 7 * 8192) (congrArg Collector.outbox hcoll) ((Nat.le_max_left ..).trans hnow.ge)
    (List.Subset.refl _) (State.emit_now ..).ge
  have hnow' := (State.emit_now { u with fab := { u.fab with hand := none } } 1 Kind.fabTakeover (srcF 0xF)
    (s.fab.capid % 32 + s.fab.cep * 32 + 7 * 8192)).trans hnow
  have hedg' := (State.emit_edg { u with fab := { u.fab with hand := none } } 1 Kind.fabTakeover (srcF 0xF)
    (s.fab.capid % 32 + s.fab.cep * 32 + 7 * 8192)).trans hedg
  have hfab' := State.emit_fab { u with fab := { u.fab with hand := none } } 1 Kind.fabTakeover 0xF (s.fab.capid % 32 + s.fab.cep * 32 + 7 * 8192)
  generalize State.emit { u with fab := { u.fab with hand := none } } 1 Kind.fabTakeover (srcF 0xF)
    (s.fab.capid % 32 + s.fab.cep * 32 + 7 * 8192) = w at hmsg hnow' hedg' hfab'
  obtain ⟨q, hq⟩ := State.settle_parts (w.hostEvent 1 2)
  rw [hq, State.hostEvent_parts]
  dsimp only
  refine ⟨?_, hnow', hmsg, hedg', ?_⟩
  · exact congrArg Fabric.hand hfab'
  · have hport : u.fab.port = s.fab.port := by rw [hfab]
    rw [hfab']
    exact hport

theorem handover_idle (h : s.fab.hand = none ∨ s.fab.capt = false ∨ s.fabRuns = false) : exec .handoverTimeout s = .next s.settle := by
  have heq : s.handoverLapse = s := by
    unfold State.handoverLapse
    split
    · rfl
    · next x hx =>
      rcases h with h | h | h
      · rw [hx] at h
        exact absurd h nofun
      · rw [h]
        rfl
      · rw [h, Bool.not_false, Bool.or_true]
        rfl
  rw [exec_handoverTimeout hc, heq]

/-! ### The captain's beacon (R369) -/

theorem exec_beaconSend : exec .beaconSend s = .next s.beaconOut.settle := congrArg finish (State.awake_clocked hc State.beaconOut)

end

/-- Bytes of a beacon. -/
theorem beaconBytes_head (s : State) : s.beaconBytes.length = 14
    ∧ s.beaconBytes.getD 0 0 = s.nodeId % 32 + s.effRank % 4 * 32 + (if s.fab.resign || !s.live then 128 else 0)
    ∧ s.beaconBytes.getD 1 0 = s.fab.cep % 256 ∧ bytesAt s.beaconBytes 2 2 = s.fab.bseq % 65536 := by
  have hseq (a b : Nat) (l : List Nat) : bytesAt ([a, b] ++ leBytes 2 s.fab.bseq ++ l) 2 2 = s.fab.bseq % 65536 := by
    simp [bytesAt, byteAt, leBytes, leNat, List.range, List.range.loop]
    omega
  refine ⟨rfl, ?_, rfl, ?_⟩
  · unfold State.beaconBytes
    cases s.fab.resign || !s.live <;> rfl
  · unfold State.beaconBytes
    rw [List.append_assoc]
    exact hseq _ _ _

section
variable {s : State} (hc : s.clocked = true)
include hc

theorem beacon_sent (hcapt : s.fab.capt = true) (hr : s.fabRuns = true) : ∃ t, exec .beaconSend s = .next t
    ∧ t.fab.bseq = (s.fab.bseq + 1) % 65536
    ∧ (∀ k : Fin 3, if (decide (s.fab.port[k].st = .up) && decide (k.val ≠ 3) && (decide (s.fab.port[k].tree = 1) || decide (s.fab.port[k].tree = 2)))
        = true then ∃ e ∈ t.fab.port[k].out.getLast?, e.2.ft = 1 ∧ e.2.bytes.length = 14
          ∧ e.2.bytes.getD 0 0 = s.nodeId % 32 + s.effRank % 4 * 32 + (if s.fab.resign || !s.live then 128 else 0)
          ∧ e.2.bytes.getD 1 0 = s.fab.cep % 256 ∧ bytesAt e.2.bytes 2 2 = s.fab.bseq % 65536
        else t.fab.port[k] = s.fab.port[k])
    ∧ t = { s with fab := t.fab, pins := t.pins } := by
  obtain ⟨p, hp, hk⟩ := State.beaconOut_eq hcapt hr
  refine ⟨_, exec_beaconSend hc, ?_⟩
  have hset := State.settle_fabOnly (s := s) (t := s.beaconOut) (by rw [hp])
  refine ⟨congrArg (fun x : State => x.fab.bseq) hp, fun k => ?_, hset⟩
  have hport : s.beaconOut.settle.fab.port[k] = p[k] := congrArg (fun x : State => x.fab.port[k]) hp
  rw [hport, hk k]
  have hk3 : k.val ≠ 3 := by omega
  by_cases h : s.fab.port[k].st = .up ∧ (s.fab.port[k].tree = 1 ∨ s.fab.port[k].tree = 2)
  · rw [if_pos h, if_pos (by simpa [hk3] using h)]
    refine ⟨(3, s.unitFrame 1 s.beaconBytes), by simp, rfl, ?_⟩
    exact beaconBytes_head s
  · rw [if_neg h, if_neg (by simpa [hk3] using h)]

theorem beacon_unsent (h : s.fab.capt = false ∨ s.fabRuns = false) : exec .beaconSend s = .next s.settle := by
  rw [exec_beaconSend hc, State.beaconOut_idle h]

/-! ### The exchange of times (R359) -/

theorem exec_timeExchange : exec .timeExchange s = .next s.timeExchange.settle := congrArg finish (State.awake_clocked hc State.timeExchange)

theorem time_asked {k : Fin 3} (hk : k ∈ s.towardCaptain) (hup : s.fab.port[k].st = .up) : ∃ t, exec .timeExchange s = .next t
    ∧ t.fab.port[k].out = s.fab.port[k].out ++ [(3, ⟨3, true, 0, s.nodeId, 0, 0, 0, s.fab.lun, [], [], 0⟩)]
    ∧ t = { s with fab := t.fab, pins := t.pins } := by
  have heq : s.timeExchange = s.portPut k 3 (s.unitFrame 3 []) := by
    unfold State.timeExchange
    rw [show s.towardCaptain = some k from hk]
    exact if_pos hup
  refine ⟨_, exec_timeExchange hc, ?_⟩
  rw [heq]
  exact ⟨congrArg FPort.out (s.portPut_same k 3 _), State.settle_fabOnly rfl⟩

theorem time_unasked (h : s.towardCaptain = none) : exec .timeExchange s = .next s.settle := by
  have heq : s.timeExchange = s := by
    unfold State.timeExchange
    rw [h]
  rw [exec_timeExchange hc, heq]

end

end Sys2Proof.Proofs
end

section
/-! PROOFS. The exchange of times as its frames arrive (R359; O56). -/

open Sys2Proof Sys2Proof.Machine

namespace Sys2Proof.Proofs

/-! ### Rounding -/

/-- The nearest integer lies within a half. -/
theorem roundQ_bounds (q : Rat) : (roundQ q : Rat) ≤ q + 1 / 2 ∧ q + 1 / 2 < (roundQ q : Rat) + 1 :=
  ⟨Int.floor_le (q + 1 / 2), Int.lt_floor_add_one (q + 1 / 2)⟩

theorem roundQ_half (n : Int) : 2 * roundQ ((n : Rat) / 2) = n ∨ 2 * roundQ ((n : Rat) / 2) = n + 1 := by
  obtain ⟨h1, h2⟩ := roundQ_bounds ((n : Rat) / 2)
  generalize roundQ ((n : Rat) / 2) = r at h1 h2
  have h1' : 2 * r ≤ n + 1 := by
    have : (2 * r : Rat) ≤ n + 1 := by linarith
    exact_mod_cast this
  have h2' : n < 2 * r + 1 := by
    have : (n : Rat) < 2 * r + 1 := by linarith
    exact_mod_cast this
  omega

theorem roundQ_quarter (n : Int) : 4 * roundQ ((n : Rat) / 4) - n ∈ [(-1 : Int), 0, 1, 2] := by
  obtain ⟨h1, h2⟩ := roundQ_bounds ((n : Rat) / 4)
  generalize roundQ ((n : Rat) / 4) = r at h1 h2
  have h1' : 4 * r ≤ n + 2 := by
    have : (4 * r : Rat) ≤ n + 2 := by linarith
    exact_mod_cast this
  have h2' : n < 4 * r + 2 := by
    have : (n : Rat) < 4 * r + 2 := by linarith
    exact_mod_cast this
  simp only [List.mem_cons, List.not_mem_nil, or_false]
  omega

theorem clampI_eq {lo hi : Int} (h : lo ≤ hi) (v : Int) : clampI lo hi v = max lo (min hi v) := by
  unfold clampI
  split
  · omega
  · split <;> omega

/-- The clamped rate. -/
theorem clamp_rate (q : Rat) : (if q < -(250 / 1000000) then -(250 / 1000000) else if 250 / 1000000 < q then 250 / 1000000 else q)
    = max (-250 / 1000000 : Rat) (min (250 / 1000000) q) := by
  have hneg : (-250 / 1000000 : Rat) = -(250 / 1000000) := by norm_num
  rw [hneg]
  split
  · next h => rw [min_eq_right (by linarith), max_eq_left h.le]
  · next h =>
    split
    · next h' => rw [min_eq_left h'.le, max_eq_right (by norm_num)]
    · next h' => rw [min_eq_right (not_lt.1 h'), max_eq_right (not_lt.1 h)]

/-! ### What an exchange measures -/

/-- The delay of a link that an exchange measures: its request left at t1, its answer came at ts with the bytes bs. -/
def linkDelay (t1 ts : Nat) (bs : List Nat) : Int :=
  roundQ (((((ts : Int) - (t1 : Int)) - (((wordTime (bytesAt bs 6 6) : Nat) : Int) - ((wordTime (bytesAt bs 0 6) : Nat) : Int)) % 2 ^ 44 : Int) : Rat) / 2)

/-- The error of the clock map that it measures. -/
def mapError (s : State) (t1 ts : Nat) (bs : List Nat) : Int :=
  wrapHalf (2 ^ 44) (((wordTime (bytesAt bs 6 6) : Nat) : Int) + linkDelay t1 ts bs - (s.sysAt ts : Int))

/-- The clock map corrected (R359). -/
def clockMapped (u : State) (r : Fin 3) (t1 ts : Nat) (bs : List Nat) : State :=
  let rate := u.fab.rate + (mapError u t1 ts bs : Rat) / (64 * (nearer 10 1000 (u.rf Reg.fabTime 0 9 0) * 4000 : Nat))
  let s1 := u.setPort r fun p => { p with delay := linkDelay t1 ts bs }
  { s1 with fab := { s1.fab with
    off := (u.sysAt ts : Int) - (ts : Int) + roundQ ((mapError u t1 ts bs : Rat) / 4)
    rate := if rate < -(250 / 1000000) then -(250 / 1000000) else if 250 / 1000000 < rate then 250 / 1000000 else rate
    base := ts, t1 := none, terr := clampI (-32768) 32767 (mapError u t1 ts bs) } }

theorem clockMapped_delay (u : State) (r : Fin 3) (t1 ts : Nat) (bs : List Nat) : (clockMapped u r t1 ts bs).fab.port[r].delay = linkDelay t1 ts bs :=
  congrArg FPort.delay (u.setPort_same r _)

/-! ### DREQ -/

theorem bytesAt_leBytes (v : Nat) : bytesAt (leBytes 6 v) 0 6 = v % 2 ^ 48 := by
  simp [bytesAt, byteAt, leBytes, leNat, List.range, List.range.loop]
  omega

/-- A time in a frame. -/
theorem timeWord_bytes (x : Nat) : bytesAt (leBytes 6 (timeWord x)) 0 6 % 2 ^ 40 = x / 16 % 2 ^ 40
    ∧ bytesAt (leBytes 6 (timeWord x)) 0 6 / 2 ^ 40 = x % 16 := by
  have hy : x / 16 % 2 ^ 40 < 2 ^ 40 := Nat.mod_lt _ (by decide)
  have hz : x % 16 < 16 := Nat.mod_lt _ (by decide)
  rw [bytesAt_leBytes, timeWord]
  generalize x / 16 % 2 ^ 40 = y at hy
  generalize x % 16 = z at hz
  have h48 : (y + z * 2 ^ 40) % 2 ^ 48 = y + z * 2 ^ 40 := Nat.mod_eq_of_lt (by omega)
  rw [h48]
  omega

section
variable {s : State} {r : Fin 3} {q : Fin 256} (hc : s.clocked = true)
include hc

theorem exec_dreqReceive (ts : Nat) : exec (.dreqReceive r q ts) s = .next (s.dreqIn r q ts).settle :=
  congrArg finish (State.awake_clocked hc fun t => t.dreqIn r q ts)

theorem exec_drspReceive (bs : List Nat) (ts : Nat) : exec (.drspReceive r q bs ts) s = .next (s.drspIn r q bs ts).settle :=
  congrArg finish (State.awake_clocked hc fun t => t.drspIn r q bs ts)

variable (hup : s.fab.port[r].st = .up) (hq : q.val % 64 = s.fab.port[r].expect)
include hup hq

theorem dreq_answered (hb : s.fab.bench = false) (ts : Nat) : ∃ t, exec (.dreqReceive r q ts) s = .next t ∧ t.now = max s.now (ts / 16)
    ∧ (∃ e ∈ t.fab.port[r].out.getLast?, e.1 = 3 ∧ e.2.ft = 4 ∧ e.2.bytes.length = 6
      ∧ bytesAt e.2.bytes 0 6 % 2 ^ 40 = s.sysAt ts / 16 % 2 ^ 40 ∧ bytesAt e.2.bytes 0 6 / 2 ^ 40 = s.sysAt ts % 16)
    ∧ t.fab.port[r].expect = (s.fab.port[r].expect + 1) % 64 ∧ t.edg = s.edg := by
  refine ⟨_, exec_dreqReceive hc ts, ?_⟩
  have hnow : ((takenAt s r).advanceTo (ts / 16)).now = max s.now (ts / 16) := State.advanceTo_now _ _
  have hfab : ((takenAt s r).advanceTo (ts / 16)).fab = (takenAt s r).fab := State.advanceTo_fab _ _
  have hedg : ((takenAt s r).advanceTo (ts / 16)).edg = s.edg := State.advanceTo_edg _ _
  have heq : s.dreqIn r q ts = ((takenAt s r).advanceTo (ts / 16)).portPut r 3 (((takenAt s r).advanceTo (ts / 16)).unitFrame 4
      (leBytes 6 (timeWord (((takenAt s r).advanceTo (ts / 16)).sysAt ts)))) := by
    have hb' : ((takenAt s r).advanceTo (ts / 16)).fab.bench = false := by rw [hfab]; exact hb
    unfold State.dreqIn
    rw [inOrder_taken hup hq]
    dsimp only
    rw [if_neg (by rw [hb']; decide)]
  rw [heq]
  generalize (takenAt s r).advanceTo (ts / 16) = u at hnow hfab hedg
  have hport : u.fab.port[r] = { s.fab.port[r] with expect := (s.fab.port[r].expect + 1) % 64 } := by rw [hfab, taken_port]
  have hput := u.portPut_same r 3 (u.unitFrame 4 (leBytes 6 (timeWord (u.sysAt ts))))
  have hsys : u.sysAt ts = s.sysAt ts := by
    rw [State.sysAt, State.sysAt, hfab]
    rfl
  refine ⟨hnow, ⟨(3, u.unitFrame 4 (leBytes 6 (timeWord (u.sysAt ts)))), ?_, rfl, rfl, rfl, ?_⟩, ?_, hedg⟩
  · have hout := congrArg (fun p : FPort => p.out.getLast?) hput
    exact hout.trans (by simp)
  · rw [← hsys]
    exact timeWord_bytes _
  · exact (congrArg FPort.expect hput).trans (congrArg FPort.expect hport)

/-! ### DRSP -/

/-- What a DRSP leaves of the clock map. -/
theorem drsp_taken (htow : s.towardCaptain = some r) {t1 : Nat} (ht1 : s.fab.t1 = some t1) (bs : List Nat) (ts : Nat) :
    ∃ t, exec (.drspReceive r q bs ts) s = .next t ∧ t.fab.t1 = none
      ∧ (let t2 : Int := (wordTime (bytesAt bs 0 6) : Nat)
        let t3 : Int := (wordTime (bytesAt bs 6 6) : Nat)
        let span : Int := ((ts : Int) - t1) - (t3 - t2) % 2 ^ 44
        let d := t.fab.port[r].delay
        let err := wrapHalf (2 ^ 44) (t3 + d - s.sysAt ts)
        (2 * d = span ∨ 2 * d = span + 1) ∧ t.fab.terr = max (-32768) (min 32767 err)
        ∧ 4 * (t.fab.off - ((s.sysAt ts : Int) - ts)) - err ∈ [(-1 : Int), 0, 1, 2]
        ∧ t.fab.base = ts ∧ t.fab.rate = max (-250 / 1000000 : Rat) (min (250 / 1000000)
          (s.fab.rate + (err : Rat) / (64 * (max 10 (min 1000 (s.rf Reg.fabTime 0 9 0)) * 4000 : Nat))))) := by
  refine ⟨_, exec_drspReceive hc bs ts, ?_⟩
  have hfab : ((takenAt s r).advanceTo (ts / 16)).fab = (takenAt s r).fab := State.advanceTo_fab _ _
  have hrg : ((takenAt s r).advanceTo (ts / 16)).rg Reg.fabTime 0 0 = s.rg Reg.fabTime 0 0 := State.advanceTo_rg _ _ _ _ _ (by decide)
  have htow' : ((takenAt s r).advanceTo (ts / 16)).towardCaptain = some r := by
    unfold State.towardCaptain State.routeTo
    rw [hfab]
    exact htow
  have heq : s.drspIn r q bs ts = clockMapped ((takenAt s r).advanceTo (ts / 16)) r t1 ts bs := by
    have ht1' : ((takenAt s r).advanceTo (ts / 16)).fab.t1 = some t1 := by rw [hfab]; exact ht1
    unfold State.drspIn
    rw [inOrder_taken hup hq]
    dsimp only
    rw [ht1']
    dsimp only
    rw [if_neg (by rw [htow']; simp)]
    rfl
  rw [heq]
  generalize (takenAt s r).advanceTo (ts / 16) = u at hfab hrg
  have hsys : u.sysAt ts = s.sysAt ts := by
    rw [State.sysAt, State.sysAt, hfab]
    rfl
  have herr : mapError u t1 ts bs = mapError s t1 ts bs := by rw [mapError, mapError, hsys]
  have hrate : u.fab.rate = s.fab.rate := by rw [hfab]; rfl
  have hper : nearer 10 1000 (u.rf Reg.fabTime 0 9 0) = max 10 (min 1000 (s.rf Reg.fabTime 0 9 0)) := by
    rw [State.rf_of_rg hrg]
    exact nearer_eq_max_min (by decide) _
  refine ⟨rfl, ?_⟩
  have hdelay : (clockMapped u r t1 ts bs).settle.fab.port[r].delay = linkDelay t1 ts bs := clockMapped_delay u r t1 ts bs
  have hoff : (clockMapped u r t1 ts bs).settle.fab.off = (s.sysAt ts : Int) - ts + roundQ ((mapError s t1 ts bs : Rat) / 4) := by
    rw [← hsys, ← herr]
    rfl
  have hterr : (clockMapped u r t1 ts bs).settle.fab.terr = clampI (-32768) 32767 (mapError s t1 ts bs) := by
    rw [← herr]
    rfl
  have hclock : (clockMapped u r t1 ts bs).settle.fab.rate = max (-250 / 1000000 : Rat) (min (250 / 1000000)
      (s.fab.rate + (mapError s t1 ts bs : Rat) / (64 * (max 10 (min 1000 (s.rf Reg.fabTime 0 9 0)) * 4000 : Nat)))) := by
    rw [← clamp_rate, ← hper, ← herr, ← hrate]
    rfl
  have hbase : (clockMapped u r t1 ts bs).settle.fab.base = ts := rfl
  generalize (clockMapped u r t1 ts bs).settle = t at hdelay hoff hterr hclock hbase
  intro t2 t3 span d err
  have herr' : err = mapError s t1 ts bs := congrArg (fun x => wrapHalf (2 ^ 44) (t3 + x - s.sysAt ts)) hdelay
  refine ⟨?_, ?_, ?_, hbase, ?_⟩
  · rw [show d = linkDelay t1 ts bs from hdelay]
    exact roundQ_half span
  · rw [hterr, herr', clampI_eq (by decide)]
  · rw [hoff, herr']
    have hring : 4 * ((s.sysAt ts : Int) - ts + roundQ ((mapError s t1 ts bs : Rat) / 4) - ((s.sysAt ts : Int) - ts)) - mapError s t1 ts bs
        = 4 * roundQ ((mapError s t1 ts bs : Rat) / 4) - mapError s t1 ts bs := by ring
    rw [hring]
    exact roundQ_quarter _
  · rw [hclock, herr']

end

end Sys2Proof.Proofs
end

section
/-! SUPPORT. What the compare of IDs and a new record leave of the records and of the link frames that wait (R351, R352). -/

namespace Sys2Proof.Machine

/-- The fabric g holds the records of f and is benched where f is; its line-up is busy where that of f is, and every link frame that waits
at an output of f waits there in g. -/
structure Fabric.Relays (f g : Fabric) : Prop where
  recs : g.recs = f.recs
  bench : g.bench = f.bench
  lubusy : f.lubusy = true → g.lubusy = true
  link : ∀ k : Fin 3, ∀ e ∈ f.port[k].out, e.2.isLink = true → e ∈ g.port[k].out

theorem Fabric.Relays.refl (f : Fabric) : f.Relays f := ⟨rfl, rfl, id, fun _ _ h _ => h⟩

theorem Fabric.Relays.trans {f g h : Fabric} (h1 : f.Relays g) (h2 : g.Relays h) : f.Relays h :=
  ⟨h2.recs.trans h1.recs, h2.bench.trans h1.bench, fun hb => h2.lubusy (h1.lubusy hb), fun k e he hl => h2.link k e (h1.link k e he hl) hl⟩

theorem Fabric.Follows.relays {f g : Fabric} (h : f.Follows g) : f.Relays g := by
  obtain ⟨cs, ho, cf, dv, dn, dr, rfl⟩ := h
  exact ⟨rfl, rfl, id, fun _ _ h _ => h⟩

/-- A fold whose every step relays. -/
theorem State.relays_foldl {α : Type} {f : State → α → State} (hf : ∀ (t : State) (x : α), t.fab.Relays (f t x).fab) (l : List α) (s : State) :
    s.fab.Relays (l.foldl f s).fab := by
  induction l generalizing s with
  | nil => exact .refl _
  | cons x l ih => exact (hf s x).trans (ih _)

/-- A change of one port that keeps its link frames. -/
theorem State.relays_setPort (s : State) (r : Fin 3) (f : FPort → FPort)
    (hf : ∀ e ∈ s.fab.port[r].out, e.2.isLink = true → e ∈ (f s.fab.port[r]).out) : s.fab.Relays (s.setPort r f).fab := by
  refine ⟨rfl, rfl, id, fun k e he hl => ?_⟩
  by_cases hk : k = r
  · subst hk
    rw [State.setPort_same]
    exact hf e he hl
  · rw [State.setPort_ne _ _ _ hk]
    exact he

/-- A buffer freed leaves the outputs alone. -/
theorem State.freeBuffer_out (s : State) (inp : Nat) (f : Frame) (k : Fin 3) : (s.freeBuffer inp f).fab.port[k].out = s.fab.port[k].out := by
  unfold State.freeBuffer
  split
  · next h =>
    dsimp only
    split
    · rfl
    · by_cases hk : k = ⟨inp, h⟩
      · rw [hk, State.setPort_same]
        split <;> rfl
      · rw [State.setPort_ne _ _ _ hk]
  · rfl

theorem State.relays_newRecord (s : State) : s.fab.Relays s.newRecord.fab := by
  obtain ⟨p, g, hp, hk⟩ := s.newRecord_parts
  rw [hp]
  refine ⟨rfl, rfl, fun _ => rfl, fun k e he _ => ?_⟩
  show e ∈ p[k].out
  rw [hk k]
  split
  · exact List.mem_append_left _ he
  · exact he

theorem State.relays_freeBuffer (s : State) (inp : Nat) (f : Frame) : s.fab.Relays (s.freeBuffer inp f).fab := by
  have hout := s.freeBuffer_out inp f
  obtain ⟨p, hp⟩ := s.freeBuffer_ports f inp
  refine ⟨by rw [hp], by rw [hp], by rw [hp]; exact id, fun k e he _ => ?_⟩
  rw [hout k]
  exact he

theorem State.relays_recheck (s : State) : s.fab.Relays s.recheck.fab := by
  unfold State.recheck
  split
  · exact s.relays_newRecord
  · exact .refl _

theorem State.relays_benchPorts (s : State) : s.fab.Relays s.benchPorts.fab := by
  refine State.relays_foldl (fun t r => ?_) _ s
  refine Fabric.Relays.trans ?_ (State.relays_foldl (fun u (e : Nat × Frame) => u.relays_freeBuffer e.1 e.2) _ _)
  exact t.relays_setPort r _ fun e he hl => List.mem_filter.2 ⟨he, hl⟩

/-- A record of the node's ID with a lower serial: the node yields to it. -/
def State.yieldsId (s : State) : Bool :=
  s.fab.recs.any fun r => !r.bench && decide (r.id = s.nodeId) && decide (r.serial.toNat < Config.serial.toNat)

theorem State.yieldsId_find (s : State) : (((s.fab.recs.filter fun r => !r.bench && decide (r.id = s.nodeId) && decide (r.serial ≠ Config.serial)).find?
    fun r => decide (r.serial.toNat < Config.serial.toNat))).isSome = s.yieldsId := by
  rw [Bool.eq_iff_iff, List.find?_isSome, State.yieldsId, List.any_eq_true]
  constructor
  · rintro ⟨r, hr, hlt⟩
    obtain ⟨hr, hsame⟩ := List.mem_filter.1 hr
    refine ⟨r, hr, ?_⟩
    simp only [Bool.and_eq_true] at hsame ⊢
    exact ⟨hsame.1, hlt⟩
  · rintro ⟨r, hr, hlt⟩
    simp only [Bool.and_eq_true] at hlt
    have hne : r.serial ≠ Config.serial := fun h => by
      have h2 := of_decide_eq_true hlt.2
      rw [h] at h2
      exact lt_irrefl _ h2
    refine ⟨r, List.mem_filter.2 ⟨hr, ?_⟩, hlt.2⟩
    simp only [Bool.and_eq_true]
    exact ⟨hlt.1, decide_eq_true hne⟩

/-- The compare of IDs benches the node that yields, and else nothing of this changes. -/
theorem State.relays_dupCheck (s : State) (news : Bool) :
    ({ s.fab with bench := s.fab.bench || s.yieldsId } : Fabric).Relays (s.dupCheck news).fab := by
  have hyield := s.yieldsId_find
  unfold State.dupCheck
  dsimp only
  by_cases hb : s.fab.bench = true
  · rw [if_pos hb, hb]
    exact ⟨rfl, hb, id, fun _ _ h _ => h⟩
  · rw [if_neg hb]
    have hb' : s.fab.bench = false := by simpa using hb
    rw [← hyield, hb', Bool.false_or]
    split
    · next x hx =>
      rw [hx, Option.isSome_some]
      refine Fabric.Relays.trans ?_ (State.refollow_fab _ _ _).relays
      rw [State.emit_fab, State.emit_fab]
      refine Fabric.Relays.trans ?_ (State.relays_newRecord _)
      refine Fabric.Relays.trans ?_ (State.relays_benchPorts _)
      exact ⟨rfl, rfl, id, fun _ _ h _ => h⟩
    · next hx =>
      rw [hx, Option.isSome_none]
      have hsame : ({ s.fab with bench := false } : Fabric).Relays s.fab := ⟨rfl, hb', id, fun _ _ h _ => h⟩
      split
      · rw [State.emit_fab]
        exact hsame
      · exact hsame

end Sys2Proof.Machine
end

section
/-! PROOFS. Records, beacons and segments as their frames arrive (R351, R352, R356, R361, R369, R370; O56). -/

open Sys2Proof Sys2Proof.Machine

namespace Sys2Proof.Proofs

/-- A record is news to a node that knows these records (R351). -/
def newsTo (recs : List LinkRec) (c : LinkRec) : Bool :=
  match recs.find? fun y => decide (y.serial = c.serial) with
  | some y => decide (1 ≤ (c.rseq + 256 - y.rseq) % 256) && decide ((c.rseq + 256 - y.rseq) % 256 < 128)
  | none => true

/-- The node keeps the record c. -/
def recordKept (s : State) (c : LinkRec) : State :=
  { s with fab := { s.fab with recs := s.fab.recs.filter (fun y => decide (y.serial ≠ c.serial)) ++ [c], lubusy := true } }

section
variable {s : State} {r : Fin 3} {q : Fin 256} {bs : List Nat} (hc : s.clocked = true)
include hc

theorem exec_lrecReceive : exec (.lrecReceive r q bs) s = .next (s.lrecIn r q bs).settle :=
  congrArg finish (State.awake_clocked hc fun t => t.lrecIn r q bs)

theorem exec_beaconReceive (ts : Nat) : exec (.beaconReceive r q bs ts) s = .next (s.beaconIn r q bs ts).settle :=
  congrArg finish (State.awake_clocked hc fun t => t.beaconIn r q bs ts)

theorem exec_asegReceive : exec (.asegReceive r q bs) s = .next (s.asegIn r q bs).settle :=
  congrArg finish (State.awake_clocked hc fun t => t.asegIn r q bs)

variable (hup : s.fab.port[r].st = .up) (hq : q.val % 64 = s.fab.port[r].expect)
include hup hq

/-! ### LREC -/

/-- A record that is no news, or the node's own, is taken in order and goes no further. -/
theorem record_known (h : (LinkRec.ofBytes bs).serial = Config.serial ∨ newsTo s.fab.recs (LinkRec.ofBytes bs) = false) :
    ∃ t, exec (.lrecReceive r q bs) s = .next t ∧ t.fab.recs = s.fab.recs
    ∧ t.fab.port[r] = { s.fab.port[r] with expect := (s.fab.port[r].expect + 1) % 64 } ∧ t = { s with fab := t.fab, pins := t.pins } := by
  have heq : s.lrecIn r q bs = takenAt s r := by
    unfold State.lrecIn
    rw [inOrder_taken hup hq]
    refine if_pos ?_
    rcases h with h | h
    · exact .inl h
    · refine .inr ?_
      rw [Bool.not_eq_true']
      exact h
  refine ⟨_, exec_lrecReceive hc, ?_⟩
  rw [heq]
  exact ⟨rfl, taken_port s r, State.settle_fabOnly rfl⟩

/-- A newer record is kept, passed on, and compared. -/
theorem record_news (hser : (LinkRec.ofBytes bs).serial ≠ Config.serial) (hnews : newsTo s.fab.recs (LinkRec.ofBytes bs) = true) :
    ∃ u news, exec (.lrecReceive r q bs) s = .next ((u.dupCheck news).recheck).settle
      ∧ u = (recordKept (takenAt s r) (LinkRec.ofBytes bs)).flood r.val ((recordKept (takenAt s r) (LinkRec.ofBytes bs)).unitFrame 6 bs) := by
  have hno : ¬((LinkRec.ofBytes bs).serial = Config.serial ∨ (!newsTo s.fab.recs (LinkRec.ofBytes bs)) = true) := by
    rw [hnews]
    simpa using hser
  have heq : ∃ news, s.lrecIn r q bs = (((recordKept (takenAt s r) (LinkRec.ofBytes bs)).flood r.val
      ((recordKept (takenAt s r) (LinkRec.ofBytes bs)).unitFrame 6 bs)).dupCheck news).recheck := by
    unfold State.lrecIn
    rw [inOrder_taken hup hq]
    exact ⟨_, if_neg hno⟩
  obtain ⟨news, hin⟩ := heq
  exact ⟨_, news, by rw [exec_lrecReceive hc, hin], rfl⟩

theorem record_received (hser : (LinkRec.ofBytes bs).serial ≠ Config.serial) (hnews : newsTo s.fab.recs (LinkRec.ofBytes bs) = true) :
    ∃ t, exec (.lrecReceive r q bs) s = .next t
    ∧ (∃ y ∈ t.fab.recs, y = LinkRec.ofBytes bs)
    ∧ (∀ y ∈ s.fab.recs, y.serial ≠ (LinkRec.ofBytes bs).serial → ∃ z ∈ t.fab.recs, z = y) ∧ t.fab.lubusy = true
    ∧ (∀ k : Fin 3, (decide (s.fab.port[k].st = .up) && decide (k.val ≠ r.val)) = true → ∃ e ∈ t.fab.port[k].out, e.2.ft = 6 ∧ e.2.bytes = bs)
    ∧ (s.fab.bench = false → (LinkRec.ofBytes bs).bench = false → (LinkRec.ofBytes bs).id = s.nodeId → s.fab.recs = [] →
      t.fab.bench = decide ((LinkRec.ofBytes bs).serial.toNat < Config.serial.toNat))
    ∧ t.mem = s.mem := by
  obtain ⟨u, news, hexec, hu⟩ := record_news hc hup hq hser hnews
  refine ⟨_, hexec, ?_⟩
  have hrelay := (u.relays_dupCheck news).trans (State.relays_recheck _)
  have hmem : (u.dupCheck news).recheck.mem = u.mem := ((u.stir_dupCheck news).trans (State.fabFrame_recheck _).stir).mem
  generalize (u.dupCheck news).recheck = v at hrelay hmem
  obtain ⟨p, hp⟩ := (recordKept (takenAt s r) (LinkRec.ofBytes bs)).flood_ports r.val
    ((recordKept (takenAt s r) (LinkRec.ofBytes bs)).unitFrame 6 bs)
  have hport := (recordKept (takenAt s r) (LinkRec.ofBytes bs)).flood_port r.val
    ((recordKept (takenAt s r) (LinkRec.ofBytes bs)).unitFrame 6 bs)
  rw [← hu] at hp hport
  have hufab : u.fab = { (recordKept (takenAt s r) (LinkRec.ofBytes bs)).fab with port := p } := congrArg State.fab hp
  have humem : u.mem = s.mem := (congrArg State.mem hp).trans rfl
  have huid : u.nodeId = s.nodeId := (congrArg State.nodeId hp).trans rfl
  have hrecs : v.settle.fab.recs = s.fab.recs.filter (fun y => decide (y.serial ≠ (LinkRec.ofBytes bs).serial)) ++ [LinkRec.ofBytes bs] :=
    hrelay.recs.trans (congrArg Fabric.recs hufab)
  have hbench : v.settle.fab.bench = (u.fab.bench || u.yieldsId) := hrelay.bench
  have hbusy : v.settle.fab.lubusy = true := hrelay.lubusy (congrArg Fabric.lubusy hufab)
  have hlink : ∀ k : Fin 3, ∀ e ∈ u.fab.port[k].out, e.2.isLink = true → e ∈ v.settle.fab.port[k].out := hrelay.link
  have hmem' : v.settle.mem = s.mem := hmem.trans humem
  generalize v.settle = t at hrecs hbench hbusy hlink hmem'
  refine ⟨?_, fun y hy hne => ?_, hbusy, fun k hk => ?_, fun hb hcb hid hnil => ?_, hmem'⟩
  · rw [hrecs]
    exact ⟨_, List.mem_append_right _ (List.mem_singleton.2 rfl), rfl⟩
  · rw [hrecs]
    exact ⟨y, List.mem_append_left _ (List.mem_filter.2 ⟨hy, decide_eq_true hne⟩), rfl⟩
  · rw [Bool.and_eq_true, decide_eq_true_eq, decide_eq_true_eq] at hk
    have hother : (takenAt s r).fab.port[k] = s.fab.port[k] := taken_other s fun h => hk.2 (congrArg Fin.val h)
    refine ⟨(r.val, (recordKept (takenAt s r) (LinkRec.ofBytes bs)).unitFrame 6 bs), hlink k _ ?_ rfl, rfl, rfl⟩
    have hst : (recordKept (takenAt s r) (LinkRec.ofBytes bs)).fab.port[k].st = .up := (congrArg FPort.st hother).trans hk.1
    rw [hport k, if_pos ⟨hst, hk.2⟩]
    exact List.mem_append_right _ (List.mem_singleton.2 rfl)
  · rw [hbench, State.yieldsId, hufab, huid]
    show (s.fab.bench || (s.fab.recs.filter (fun y => decide (y.serial ≠ (LinkRec.ofBytes bs).serial)) ++ [LinkRec.ofBytes bs]).any
      fun x => !x.bench && decide (x.id = s.nodeId) && decide (x.serial.toNat < Config.serial.toNat)) = _
    rw [hb, hnil]
    generalize LinkRec.ofBytes bs = c at hcb hid
    simp [hcb, hid]

/-! ### BEACON -/

/-- A beacon that a bench or a frame passed before keeps off tells nothing. -/
theorem beacon_ignored {ts : Nat} (h : s.fab.bench = true ∨ ((beaconOf bs (max s.now ts)).cep, (beaconOf bs (max s.now ts)).bseq) ∈ s.fab.seenB) :
    ∃ t, exec (.beaconReceive r q bs ts) s = .next t ∧ t.fab.beacon = s.fab.beacon ∧ t.fab.seenB = s.fab.seenB
    ∧ t.fab.capid = s.fab.capid := by
  have hfab : ((takenAt s r).advanceTo ts).fab = (takenAt s r).fab := State.advanceTo_fab _ _
  have hnow : ((takenAt s r).advanceTo ts).now = max s.now ts := State.advanceTo_now _ _
  refine ⟨_, exec_beaconReceive hc ts, ?_⟩
  have heq : s.beaconIn r q bs ts = ((takenAt s r).advanceTo ts).freeBuffer r.val
      (((takenAt s r).advanceTo ts).castFrame 1 (beaconOf bs ((takenAt s r).advanceTo ts).now).id bs) := by
    unfold State.beaconIn
    rw [inOrder_taken hup hq]
    refine if_pos ?_
    rw [hnow, hfab, Bool.or_eq_true, decide_eq_true_eq]
    exact h
  rw [heq]
  generalize (takenAt s r).advanceTo ts = u at hfab
  generalize u.castFrame 1 (beaconOf bs u.now).id bs = f
  obtain ⟨p, hp⟩ := u.freeBuffer_ports f r.val
  have hfree : (u.freeBuffer r.val f).settle.fab = { (takenAt s r).fab with port := p } := by
    rw [← hfab]
    exact congrArg State.fab hp
  generalize (u.freeBuffer r.val f).settle = t at hfree
  rw [hfree]
  exact ⟨rfl, rfl, rfl⟩

end

end Sys2Proof.Proofs
end

section
/-! PROOFS. What a beacon and a segment of the captain leave (R356, R361, R365, R369; O56). -/

open Sys2Proof Sys2Proof.Machine

namespace Sys2Proof.Proofs

/-- What the beacon b tells of the captain that the node follows; since when the captain is below FULL. -/
def captainTold (s : State) (b : BeaconRec) (fell : Option Nat) : State :=
  { s with fab := { s.fab with capid := b.id, capv := true, cep := b.cep, beacon := some b, fellAt := fell, resignAt := none } }

/-- A beacon of the present captain is followed. -/
theorem beaconFollow_present {s : State} {b : BeaconRec} (hcapt : s.fab.capt = false) (hres : b.resign = false) (hhand : b.hand = none) :
    ∃ fell, s.beaconFollow b = (captainTold s b fell).refollow s.sync 0 := by
  unfold State.beaconFollow
  rw [hcapt, hres, hhand]
  exact ⟨_, rfl⟩

/-- The beacon b is remembered as passed on. -/
def beaconNoted (u : State) (b : BeaconRec) : State := { u with fab := { u.fab with seenB := notePassed u.fab.seenB (b.cep, b.bseq) } }

/-- The beacon b of the bytes bs goes on from port r. -/
def beaconPassed (u : State) (r : Fin 3) (b : BeaconRec) (bs : List Nat) : State :=
  ((beaconNoted u b).broadcast r.val (u.castFrame 1 b.id bs)).freeBuffer r.val (u.castFrame 1 b.id bs)

/-- The beacon b is one of the captain that the node follows. -/
def ofPresent (u : State) (b : BeaconRec) : Bool := u.fab.capv && !u.fab.capt && decide (u.fab.capid = b.id) && !cepHigher u.fab.cep b.cep

theorem beaconIn_present {s u : State} {r : Fin 3} {q : Fin 256} {bs : List Nat} {ts : Nat} {b : BeaconRec} (hup : s.fab.port[r].st = .up)
    (hq : q.val % 64 = s.fab.port[r].expect) (hu : (takenAt s r).advanceTo ts = u) (hb : beaconOf bs u.now = b)
    (hnew : ¬(u.fab.bench || decide ((b.cep, b.bseq) ∈ u.fab.seenB)) = true) (hof : ofPresent (beaconPassed u r b bs) b = true) :
    s.beaconIn r q bs ts = (beaconPassed u r b bs).beaconFollow b := by
  subst hb hu
  unfold State.beaconIn
  rw [inOrder_taken hup hq]
  exact (if_neg hnew).trans (if_pos ((Bool.or_eq_true _ _).mpr (.inl ((Bool.or_eq_true _ _).mpr (.inl hof)))))

/-- The state in which a frame taken in order is told, its broadcast passed on and its buffer free. -/
theorem passed_on (u : State) (f : Frame) (r : Fin 3) : ∃ p, (u.broadcast r.val f).freeBuffer r.val f = { u with fab := { u.fab with port := p } }
    ∧ ∀ k : Fin 3, (decide (u.fab.port[k].st = .up) && decide (k.val ≠ r.val) && (decide (u.fab.port[k].tree = 1) || decide (u.fab.port[k].tree = 2)))
      = true → (r.val, f) ∈ p[k].out := by
  obtain ⟨p, hp⟩ := u.broadcast_ports r.val f
  obtain ⟨p', hp'⟩ := (u.broadcast r.val f).freeBuffer_ports f r.val
  refine ⟨p', by rw [hp', hp], fun k hk => ?_⟩
  have hout : p'[k].out = (u.broadcast r.val f).fab.port[k].out := by
    rw [← State.freeBuffer_out _ r.val f k, hp']
  rw [hout, State.broadcast_port]
  simp only [Bool.and_eq_true, Bool.or_eq_true, decide_eq_true_eq] at hk
  obtain ⟨⟨hup, hne⟩, htree⟩ := hk
  rw [if_pos ⟨hup, htree, hne⟩]
  exact List.mem_append_right _ (List.mem_singleton.2 rfl)

theorem taken_near (s : State) {r k : Fin 3} (h : (decide (s.fab.port[k].st = .up) && decide (k.val ≠ r.val)
    && (decide (s.fab.port[k].tree = 1) || decide (s.fab.port[k].tree = 2))) = true) :
    (decide ((takenAt s r).fab.port[k].st = .up) && decide (k.val ≠ r.val)
      && (decide ((takenAt s r).fab.port[k].tree = 1) || decide ((takenAt s r).fab.port[k].tree = 2))) = true := by
  have hne : k ≠ r := by
    rintro rfl
    simp at h
  rw [taken_other s hne]
  exact h

section
variable {s : State} {r : Fin 3} {q : Fin 256} {bs : List Nat} (hc : s.clocked = true) (hup : s.fab.port[r].st = .up)
  (hq : q.val % 64 = s.fab.port[r].expect)
include hc hup hq

/-- A beacon of the captain is kept and passed on. -/
theorem beacon_followed {ts : Nat} (hbench : s.fab.bench = false)
    (hnew : ((beaconOf bs (max s.now ts)).cep, (beaconOf bs (max s.now ts)).bseq) ∉ s.fab.seenB) (hcapv : s.fab.capv = true)
    (hcapt : s.fab.capt = false) (hid : s.fab.capid = (beaconOf bs (max s.now ts)).id) (hcep : s.fab.cep = (beaconOf bs (max s.now ts)).cep)
    (hres : (beaconOf bs (max s.now ts)).resign = false) (hhand : (beaconOf bs (max s.now ts)).hand = none) :
    ∃ t, exec (.beaconReceive r q bs ts) s = .next t ∧ t.now = max s.now ts ∧ t.fab.beacon = some (beaconOf bs (max s.now ts))
    ∧ t.fab.seenB = (((beaconOf bs (max s.now ts)).cep, (beaconOf bs (max s.now ts)).bseq) :: s.fab.seenB).take 32768
    ∧ t.fab.capid = (beaconOf bs (max s.now ts)).id ∧ t.fab.cep = (beaconOf bs (max s.now ts)).cep
    ∧ (∀ k : Fin 3, (decide (s.fab.port[k].st = .up) && decide (k.val ≠ r.val)
        && (decide (s.fab.port[k].tree = 1) || decide (s.fab.port[k].tree = 2))) = true →
      ∃ e ∈ t.fab.port[k].out, e.1 = r.val ∧ e.2.ft = 1 ∧ e.2.bytes = bs) ∧ t.mem = s.mem := by
  have hfab : ((takenAt s r).advanceTo ts).fab = (takenAt s r).fab := State.advanceTo_fab _ _
  have hnow : ((takenAt s r).advanceTo ts).now = max s.now ts := State.advanceTo_now _ _
  have hmem : ((takenAt s r).advanceTo ts).mem = s.mem := State.advanceTo_mem _ _
  have hexec := exec_beaconReceive (r := r) (q := q) (bs := bs) hc ts
  generalize hu : (takenAt s r).advanceTo ts = u at hfab hnow hmem
  generalize hb : beaconOf bs (max s.now ts) = b at hnew hid hcep hres hhand
  obtain ⟨p, hp, hout⟩ := passed_on (beaconNoted u b) (u.castFrame 1 b.id bs) r
  have hvfab : (beaconPassed u r b bs).fab = { (takenAt s r).fab with seenB := notePassed s.fab.seenB (b.cep, b.bseq), port := p } := by
    rw [beaconPassed, hp, beaconNoted, hfab]
    rfl
  have hvnow : (beaconPassed u r b bs).now = max s.now ts := (congrArg State.now hp).trans hnow
  have hvmem : (beaconPassed u r b bs).mem = s.mem := (congrArg State.mem hp).trans hmem
  have hself : cepHigher b.cep b.cep = false := by simp [cepHigher]
  have hof : ofPresent (beaconPassed u r b bs) b = true := by
    rw [ofPresent, hvfab]
    show (s.fab.capv && !s.fab.capt && decide (s.fab.capid = b.id) && !cepHigher s.fab.cep b.cep) = true
    rw [hcapv, hcapt, hid, hcep, hself]
    simp
  have hunseen : ¬(u.fab.bench || decide ((b.cep, b.bseq) ∈ u.fab.seenB)) = true := by
    rw [hfab, Bool.or_eq_true, decide_eq_true_eq]
    rintro (h | h)
    · exact Bool.noConfusion (hbench.symm.trans h)
    · exact hnew h
  rw [beaconIn_present hup hq hu (by rw [hnow, hb]) hunseen hof] at hexec
  refine ⟨_, hexec, ?_⟩
  generalize beaconPassed u r b bs = v at hvfab hvnow hvmem
  have hvcapt : v.fab.capt = false := by rw [hvfab]; exact hcapt
  obtain ⟨fell, hfollow⟩ := beaconFollow_present hvcapt hres hhand
  rw [hfollow]
  obtain ⟨cs, ho, cf, dv, dn, dr, hw⟩ := (captainTold v b fell).refollow_fab v.sync 0
  have hwstir := (captainTold v b fell).stir_refollow v.sync 0
  have hwnow := hwstir.now.trans hvnow
  have hwmem := hwstir.mem.trans hvmem
  have hsettle : ((captainTold v b fell).refollow v.sync 0).settle.fab = ((captainTold v b fell).refollow v.sync 0).fab := rfl
  generalize (captainTold v b fell).refollow v.sync 0 = w at hwnow hwmem hw hsettle
  refine ⟨hwnow, ?_, ?_, ?_, ?_, fun k hk => ⟨(r.val, u.castFrame 1 b.id bs), ?_, rfl, rfl, rfl⟩, hwmem⟩
  · rw [hsettle, hw]
    rfl
  · rw [hsettle, hw, captainTold, hvfab]
    rfl
  · rw [hsettle, hw]
    rfl
  · rw [hsettle, hw]
    rfl
  · rw [hsettle, hw, captainTold, hvfab]
    refine hout k ?_
    rw [beaconNoted, hfab]
    exact taken_near s hk

/-! ### ASEG -/

/-- The segment that the bytes of an ASEG tell. -/
def toldSeg (bs : List Nat) : CapSeg :=
  ⟨(bytesAt bs 0 4 : Nat), wordTime (bytesAt bs 4 6), bytesAt bs 10 4, sx 32 (bytesAt bs 14 4), bytesAt bs 4 6 / 2 ^ 44 % 4,
    (bytesAt bs 4 6).testBit 46, bytesAt bs 18 2⟩

/-- A segment of the captain is remembered as passed on. -/
def segNoted (u : State) (bs : List Nat) : State := { u with fab := { u.fab with seenS := notePassed u.fab.seenS (u.fab.cep, bytesAt bs 18 2) } }

/-- A node that is not captain keeps the segment. -/
def segKept (v : State) (bs : List Nat) : State := if v.fab.capt then v else { v with fab := { v.fab with seg := some (toldSeg bs) } }

/-- A segment of the captain is kept and passed on. -/
theorem segment_received (hbench : s.fab.bench = false) (hnew : (s.fab.cep, bytesAt bs 18 2) ∉ s.fab.seenS) :
    ∃ t, exec (.asegReceive r q bs) s = .next t
    ∧ (s.fab.capt = false → ∃ g ∈ t.fab.seg, g.θ = (bytesAt bs 0 4 : Nat) ∧ g.t = wordTime (bytesAt bs 4 6) ∧ g.ω = bytesAt bs 10 4
      ∧ g.α = sx 32 (bytesAt bs 14 4) ∧ g.sync = bytesAt bs 4 6 / 2 ^ 44 % 4 ∧ g.rev = (bytesAt bs 4 6).testBit 46)
    ∧ (∀ k : Fin 3, (decide (s.fab.port[k].st = .up) && decide (k.val ≠ r.val)
        && (decide (s.fab.port[k].tree = 1) || decide (s.fab.port[k].tree = 2))) = true →
      ∃ e ∈ t.fab.port[k].out, e.1 = r.val ∧ e.2.ft = 2 ∧ e.2.bytes = bs)
    ∧ t = { s with fab := t.fab, pins := t.pins } := by
  obtain ⟨p, hp, hout⟩ := passed_on (segNoted (takenAt s r) bs) ((takenAt s r).castFrame 2 s.fab.capid bs) r
  have hunseen : ¬((takenAt s r).fab.bench || decide (((takenAt s r).fab.cep, bytesAt bs 18 2) ∈ (takenAt s r).fab.seenS)) = true := by
    show ¬(s.fab.bench || decide ((s.fab.cep, bytesAt bs 18 2) ∈ s.fab.seenS)) = true
    rw [hbench]
    simpa using hnew
  have hin : s.asegIn r q bs = segKept (((segNoted (takenAt s r) bs).broadcast r.val ((takenAt s r).castFrame 2 s.fab.capid bs)).freeBuffer r.val
      ((takenAt s r).castFrame 2 s.fab.capid bs)) bs := by
    unfold State.asegIn
    rw [inOrder_taken hup hq]
    exact if_neg hunseen
  rw [hp] at hin
  have hcapt : ({ segNoted (takenAt s r) bs with fab := { (segNoted (takenAt s r) bs).fab with port := p } } : State).fab.capt = s.fab.capt := rfl
  have hparts : ∃ sg, s.asegIn r q bs = { s with fab := { (segNoted (takenAt s r) bs).fab with port := p, seg := sg } }
      ∧ (s.fab.capt = false → sg = some (toldSeg bs)) := by
    by_cases h : s.fab.capt = true
    · exact ⟨s.fab.seg, hin.trans (if_pos (hcapt.trans h)), fun h' => Bool.noConfusion (h'.symm.trans h)⟩
    · exact ⟨some (toldSeg bs), hin.trans (if_neg fun h' => h (hcapt.symm.trans h')), fun _ => rfl⟩
  obtain ⟨sg, hs, hsg⟩ := hparts
  refine ⟨_, exec_asegReceive hc, ?_⟩
  rw [hs]
  refine ⟨fun h => ⟨toldSeg bs, hsg h, rfl, rfl, rfl, rfl, rfl, rfl⟩, fun k hk => ?_, State.settle_fabOnly rfl⟩
  exact ⟨(r.val, (takenAt s r).castFrame 2 s.fab.capid bs), hout k (taken_near s hk), rfl, rfl, rfl⟩

end

end Sys2Proof.Proofs
end

section
/-! PROOFS. A captain that falls silent, and the end of a holdover (R366, R372; O56). -/

open Sys2Proof Sys2Proof.Machine

namespace Sys2Proof.Proofs

/-- The node stands what it is as time passes. -/
theorem nodeKept_later (s : State) (n : Nat) : State.NodeKept { s with now := max s.now n } (s.advanceTo n) :=
  ⟨s.advanceTo_sys n, s.advanceTo_mem n, s.advanceTo_now n, s.advanceTo_rg n _ _ _ (by decide), s.advanceTo_rg n _ _ _ (by decide)⟩

/-- A reserve stays one while the node, its records, its members and its captain stand. -/
theorem reserveRank_kept {s t : State} (h : s.NodeKept t) (hf : s.fab.Follows t.fab) : t.reserveRank = s.reserveRank := by
  obtain ⟨cs, ho, cf, dv, dn, dr, ht⟩ := hf
  have hrecs : t.fab.recs = s.fab.recs := by rw [ht]
  have hmem : t.fab.members = s.fab.members := by rw [ht]
  have hbench : t.fab.bench = s.fab.bench := by rw [ht]
  have hcapt : t.fab.capt = s.fab.capt := by rw [ht]
  rw [State.reserveRank, State.reserveRank, h.eligible hrecs hmem hbench, h.effRank hrecs hmem, hcapt]

/-- When the captain's last sign came (log entry 58). -/
def captainHeard (f : Fabric) : Nat :=
  match f.beacon with
  | some o => o.ts
  | none => f.capAt

section
variable {s : State} (hc : s.clocked = true)
include hc

/-! ### A silent captain (R372) -/

theorem exec_captainTimeout : exec .captainTimeout s = .next s.captainLate.settle := congrArg finish (State.awake_clocked hc State.captainLate)

theorem captainTimeout_idle (h : s.fab.capt = true ∨ s.fab.capv = false ∨ s.fabRuns = false) : exec .captainTimeout s = .next s.settle := by
  have heq : s.captainLate = s := by
    refine if_pos ?_
    rcases h with h | h | h <;> simp [h]
  rw [exec_captainTimeout hc, heq]

omit hc in
/-- The rank-1 reserve takes over from a captain that falls silent. -/
theorem captainLate_eq {heard : Nat} (hheard : captainHeard s.fab = heard) (hcapt : s.fab.capt = false) (hcapv : s.fab.capv = true)
    (hruns : s.fabRuns = true) (hrank : s.reserveRank = some 1) (hres : s.fab.resignAt = none) (hfell : s.fab.fellAt = none) :
    s.captainLate = ((s.advanceTo (heard + s.capTo)).refollow s.sync 0).takeCaptaincy
      ((s.advanceTo (heard + s.capTo)).refollow s.sync 0).fab.cep 1 := by
  have hrank' : ((s.advanceTo (heard + s.capTo)).refollow s.sync 0).reserveRank = some 1 := by
    rw [reserveRank_kept (State.nodeKept_refollow ..) (State.refollow_fab ..)]
    refine (reserveRank_kept (nodeKept_later s _) ?_).trans hrank
    rw [State.advanceTo_fab]
    exact .refl _
  have hlate : heard + s.capTo ≤ (s.advanceTo (heard + s.capTo)).now := by
    rw [State.advanceTo_now]
    exact Nat.le_max_right _ _
  unfold State.captainLate
  rw [if_neg (by rw [hcapt, hcapv, hruns]; decide)]
  dsimp only
  rw [hres, hfell, hrank]
  cases hb : s.fab.beacon <;>
  · rw [captainHeard, hb] at hheard
    dsimp only at hheard ⊢
    subst hheard
    rw [if_pos rfl, Nat.min_self, ite_self, hrank', if_pos rfl, if_pos hlate]
    rfl

theorem captain_silent {heard : Nat} (hheard : captainHeard s.fab = heard) (hcapt : s.fab.capt = false) (hcapv : s.fab.capv = true)
    (hruns : s.fabRuns = true) (hrank : s.reserveRank = some 1) (hres : s.fab.resignAt = none) (hfell : s.fab.fellAt = none) :
    ∃ t, exec .captainTimeout s = .next t ∧ t.now = max s.now (heard + s.capTo) ∧ t.fab.capt = true ∧ t.fab.capid = s.nodeId
    ∧ t.fab.cep = (s.fab.cep + 1) % 256
    ∧ (s.nodeMsgs = [] → ∃ m ∈ t.coll.outbox, m.cls = 1 ∧ m.kind = 0x19
      ∧ m.ctx = BitVec.ofNat 32 (s.fab.capid % 32 + (s.fab.cep + 1) % 256 * 32 + 8192)) := by
  refine ⟨_, exec_captainTimeout hc, ?_⟩
  rw [captainLate_eq hheard hcapt hcapv hruns hrank hres hfell]
  have hkept := (nodeKept_later s (heard + s.capTo)).trans (State.nodeKept_refollow (s.advanceTo (heard + s.capTo)) s.sync 0)
  have hfab := (s.advanceTo (heard + s.capTo)).refollow_fab s.sync 0
  have hsends : s.Sends (0 + 1) ((s.advanceTo (heard + s.capTo)).refollow s.sync 0) :=
    State.Sends.trans (State.sends_coll (s.advanceTo_coll _)) (State.sends_refollow _ _ _)
  rw [State.advanceTo_fab] at hfab
  generalize (s.advanceTo (heard + s.capTo)).refollow s.sync 0 = u at hkept hfab hsends
  obtain ⟨cs, ho, cf, dv, dn, dr, hu⟩ := hfab
  have hcep : u.fab.cep = s.fab.cep := by rw [hu]
  have hcapid : u.fab.capid = s.fab.capid := by rw [hu]
  rw [hcep]
  have htnow := (u.takeCaptaincy_node s.fab.cep 1).2.2.1.trans hkept.2.2.1
  obtain ⟨htcapt, htcapid, -, htcep, -⟩ := u.takeCaptaincy_fab s.fab.cep 1
  have hreport := u.takeCaptaincy_report s.fab.cep 1
  generalize u.takeCaptaincy s.fab.cep 1 = t at htnow htcapt htcapid htcep hreport
  refine ⟨htnow, htcapt, htcapid.trans hkept.nodeId, htcep, fun hquiet => ?_⟩
  obtain ⟨l, hl, hul⟩ := hsends (by rw [hquiet]; decide)
  rw [hquiet, List.nil_append] at hul
  obtain ⟨m, hm, hcls, hkind, hctx⟩ := hreport (by rw [hul]; omega)
  rw [hcapid] at hctx
  exact ⟨m, (List.mem_filter.1 hm).1, hcls, hkind, hctx⟩

/-! ### The end of a holdover (R366) -/

/-- A holdover has ended. -/
def holdEnded (u : State) : State :=
  { u with fab := { u.fab with hold := none, csync := .nosync, dv := false, dvN := 0, diffRun := 0, capFell := false } }

theorem exec_holdoverExpire : exec .holdoverExpire s = .next s.holdoverEnd.settle := congrArg finish (State.awake_clocked hc State.holdoverEnd)

theorem holdover_none (h : s.fab.hold = none) : exec .holdoverExpire s = .next s.settle := by
  have heq : s.holdoverEnd = s := by
    unfold State.holdoverEnd
    rw [h]
  rw [exec_holdoverExpire hc, heq]

omit hc in
theorem holdEnded_moved (u : State) (old : Sync) : ((holdEnded u).syncMoved old 9).now = u.now
    ∧ ((holdEnded u).syncMoved old 9).fab.hold = none ∧ ((holdEnded u).syncMoved old 9).fab.csync = .nosync
    ∧ ((holdEnded u).syncMoved old 9).fab.dv = false ∧ ((holdEnded u).syncMoved old 9).mem = u.mem := by
  have hjolt := (holdEnded u).jolt_syncMoved old 9
  rw [hjolt.fab, hjolt.stir.now, hjolt.stir.mem]
  exact ⟨rfl, rfl, rfl, rfl, rfl⟩

theorem holdover_expired {h : Nat} (hh : s.fab.hold = some h) : ∃ t, exec .holdoverExpire s = .next t
    ∧ t.now = max s.now (h + min 60000 (s.rf Reg.fabAngcfg 0 31 16) * 250000)
    ∧ t.fab.hold = none ∧ t.fab.csync = .nosync ∧ t.fab.dv = false ∧ t.mem = s.mem := by
  have hmax : s.holdMax = min 60000 (s.rf Reg.fabAngcfg 0 31 16) := rfl
  have heq : s.holdoverEnd = (holdEnded (s.advanceTo (h + s.holdMax * 250000))).syncMoved (s.advanceTo (h + s.holdMax * 250000)).sync 9 := by
    unfold State.holdoverEnd
    rw [hh]
    rfl
  refine ⟨_, exec_holdoverExpire hc, ?_⟩
  rw [← hmax, heq, State.settle_now, State.settle_fab, State.settle_mem, ← s.advanceTo_now, ← s.advanceTo_mem (h + s.holdMax * 250000)]
  exact holdEnded_moved _ _

end

end Sys2Proof.Proofs
end

section
/-! SUPPORT. The steps of a line-up commit, and what each leaves of the line-up and of the frames that wait (R353, R354, R357). -/

namespace Sys2Proof.Machine

/-! ### What stays of a line-up -/

/-- The port q has the tree code of p and the LSEQs that p holds, and no routed frame but those of p. -/
structure FPort.Lined (p q : FPort) : Prop where
  tree : q.tree = p.tree
  lseqs : q.held.map (·.1) = p.held.map (·.1)
  out : ∀ e ∈ q.out, e ∈ p.out ∨ e.2.ft ≠ 0
  held : ∀ e ∈ q.held, (∃ x ∈ p.held, x.2.1 = e.2.1) ∨ e.2.1.ft ≠ 0

theorem FPort.Lined.refl (p : FPort) : p.Lined p := ⟨rfl, rfl, fun _ h => .inl h, fun e h => .inl ⟨e, h, rfl⟩⟩

theorem FPort.Lined.trans {p q r : FPort} (h : p.Lined q) (h' : q.Lined r) : p.Lined r := by
  refine ⟨h'.tree.trans h.tree, h'.lseqs.trans h.lseqs, fun e he => ?_, fun e he => ?_⟩
  · rcases h'.out e he with hq | hft
    · exact h.out e hq
    · exact .inr hft
  · rcases h'.held e he with ⟨x, hx, hxe⟩ | hft
    · rw [← hxe]
      exact h.held x hx
    · exact .inr hft

/-- The port holds no routed frame of another line-up. -/
def FPort.Clean (lun : Nat) (p : FPort) : Prop :=
  (∀ e ∈ p.out, ¬(e.2.ft = 0 ∧ e.2.lun ≠ lun)) ∧ ∀ e ∈ p.held, ¬(e.2.1.ft = 0 ∧ e.2.1.lun ≠ lun)

theorem FPort.Lined.clean {lun : Nat} {p q : FPort} (h : p.Lined q) (hp : p.Clean lun) : q.Clean lun := by
  refine ⟨fun e he => ?_, fun e he => ?_⟩
  · rcases h.out e he with hq | hft
    · exact hp.1 e hq
    · exact fun hx => hft hx.1
  · rcases h.held e he with ⟨x, hx, hxe⟩ | hft
    · rw [← hxe]
      exact hp.2 x hx
    · exact fun hx => hft hx.1

/-- The fabric g is in the line-up of f, with its records, and its ports stay lined up. -/
structure Fabric.Lined (f g : Fabric) : Prop where
  lun : g.lun = f.lun
  members : g.members = f.members
  route : g.route = f.route
  lubusy : g.lubusy = f.lubusy
  issued : g.issued = f.issued
  recs : g.recs = f.recs
  bench : g.bench = f.bench
  port : ∀ k : Fin 3, f.port[k].Lined g.port[k]

theorem Fabric.Lined.refl (f : Fabric) : f.Lined f := ⟨rfl, rfl, rfl, rfl, rfl, rfl, rfl, fun _ => .refl _⟩

theorem Fabric.Lined.trans {f g h : Fabric} (h1 : f.Lined g) (h2 : g.Lined h) : f.Lined h :=
  ⟨h2.lun.trans h1.lun, h2.members.trans h1.members, h2.route.trans h1.route, h2.lubusy.trans h1.lubusy, h2.issued.trans h1.issued,
    h2.recs.trans h1.recs, h2.bench.trans h1.bench, fun k => (h1.port k).trans (h2.port k)⟩

theorem Fabric.Follows.lined {f g : Fabric} (h : f.Follows g) : f.Lined g := by
  obtain ⟨cs, ho, cf, dv, dn, dr, rfl⟩ := h
  exact ⟨rfl, rfl, rfl, rfl, rfl, rfl, rfl, fun _ => .refl _⟩

theorem Fabric.Takes.lined {f g : Fabric} {id top : Nat} (h : f.Takes g id top) : f.Lined g := by
  obtain ⟨-, -, -, -, hmem, hlun, hroute, hbusy, hissued, hrecs, hbench, -, hport⟩ := h
  refine ⟨hlun, hmem, hroute, hbusy, hissued, hrecs, hbench, fun k => ?_⟩
  obtain ⟨l, hk, hl⟩ := hport k
  rw [hk]
  refine ⟨rfl, rfl, fun e he => ?_, fun e he => .inl ⟨e, he, rfl⟩⟩
  rcases List.mem_append.1 he with h | h
  · exact .inl h
  · refine .inr ?_
    rw [hl e h]
    decide

/-! ### Frames thrown away (R357) -/

/-- DISC of FAB_CNT. -/
def State.discs (s : State) : Nat := s.rf Reg.fabCnt 0 15 0

/-- Frames are thrown away: the node, its line-up and its captain stay, at most one message goes out, and that only where DISC was 0. -/
structure State.Purges (s t : State) : Prop where
  node : s.NodeKept t
  lined : s.fab.Lined t.fab
  capt : t.fab.capt = s.fab.capt
  capid : t.fab.capid = s.fab.capid
  once : s.Sends 1 t
  zero : t.discs = 0 → s.Sends 0 t ∧ s.discs = 0
  spent : s.discs ≠ 0 → s.Sends 0 t

theorem State.Purges.refl (s : State) : s.Purges s :=
  ⟨.refl s, .refl _, rfl, rfl, (s.sends_coll rfl).mono (Nat.zero_le _), fun h => ⟨s.sends_coll rfl, h⟩, fun _ => s.sends_coll rfl⟩

theorem State.Purges.trans {s t u : State} (h : s.Purges t) (h' : t.Purges u) : s.Purges u := by
  refine ⟨h.node.trans h'.node, h.lined.trans h'.lined, h'.capt.trans h.capt, h'.capid.trans h.capid, ?_, fun hu => ?_, fun hs => ?_⟩
  · by_cases ht : t.discs = 0
    · exact (h.zero ht).1.trans h'.once
    · exact h.once.trans (h'.spent ht)
  · obtain ⟨htu, ht⟩ := h'.zero hu
    obtain ⟨hst, hs⟩ := h.zero ht
    exact ⟨hst.trans htu, hs⟩
  · have ht : t.discs ≠ 0 := fun ht => hs (h.zero ht).2
    exact (h.spent hs).trans (h'.spent ht)

theorem State.Purges.foldl {α : Type} {f : State → α → State} (hf : ∀ (t : State) (x : α), t.Purges (f t x)) (l : List α) (s : State) :
    s.Purges (l.foldl f s) := by
  induction l generalizing s with
  | nil => exact .refl s
  | cons x l ih => exact (hf s x).trans (ih _)

/-- A change of the fabric that keeps the line-up and the captain. -/
theorem State.purges_fab (s : State) (f : Fabric) (h : s.fab.Lined f) (hcapt : f.capt = s.fab.capt) (hcapid : f.capid = s.fab.capid) :
    s.Purges { s with fab := f } :=
  ⟨s.nodeKept_fab f, h, hcapt, hcapid, (State.sends_coll rfl).mono (Nat.zero_le _), fun hz => ⟨State.sends_coll rfl, hz⟩, fun _ => State.sends_coll rfl⟩

theorem Fabric.lined_ports (f : Fabric) (p : Vector FPort 3) (h : ∀ k : Fin 3, f.port[k].Lined p[k]) : f.Lined { f with port := p } :=
  ⟨rfl, rfl, rfl, rfl, rfl, rfl, rfl, h⟩

theorem State.purges_setPort (s : State) (r : Fin 3) (f : FPort → FPort) (h : s.fab.port[r].Lined (f s.fab.port[r])) : s.Purges (s.setPort r f) := by
  refine s.purges_fab _ (s.fab.lined_ports _ fun k => ?_) rfl rfl
  by_cases hk : k = r
  · subst hk
    have hsame := s.setPort_same k f
    unfold State.setPort at hsame
    rw [hsame]
    exact h
  · have hne := s.setPort_ne r f hk
    unfold State.setPort at hne
    rw [hne]
    exact .refl _

theorem State.purges_freeBuffer (s : State) (inp : Nat) (f : Frame) : s.Purges (s.freeBuffer inp f) := by
  unfold State.freeBuffer
  split
  · dsimp only
    split
    · exact .refl s
    · refine s.purges_setPort _ _ ?_
      split <;> exact ⟨rfl, rfl, fun _ h => .inl h, fun e h => .inl ⟨e, h, rfl⟩⟩
  · exact .refl s

theorem State.purges_fabDiscard (s : State) (reason dst dwork : Nat) : s.Purges (s.fabDiscard reason dst dwork) := by
  have hnode := (s.fabFrame_fabDiscard reason dst dwork).stir.node
  obtain ⟨hfab, -, hcount, -⟩ := Proofs.fabDiscard_parts s reason dst dwork
  have hsome : (s.fabDiscard reason dst dwork).discs ≠ 0 := by
    rw [State.discs, hcount]
    omega
  have hsends : s.Sends 1 (s.fabDiscard reason dst dwork) ∧ (s.discs ≠ 0 → s.Sends 0 (s.fabDiscard reason dst dwork)) := by
    have hbump : s.Sends 0 (s.bump Reg.fabCnt 0 15 0) := State.sends_coll (by rw [State.bump_frame])
    unfold State.fabDiscard
    dsimp only
    by_cases h0 : s.rf Reg.fabCnt 0 15 0 = 0
    · rw [if_pos (by simpa using h0)]
      exact ⟨hbump.trans (State.sends_emit _ _ _ _), fun h => absurd h0 h⟩
    · rw [if_neg (by simpa using h0)]
      exact ⟨hbump.mono (Nat.zero_le _), fun _ => hbump⟩
  exact ⟨hnode, by rw [hfab]; exact .refl _, by rw [hfab], by rw [hfab], hsends.1, fun h => absurd h hsome, hsends.2⟩

theorem State.purges_dropFrame (s : State) (reason inp : Nat) (f : Frame) : s.Purges (s.dropFrame reason inp f) := by
  unfold State.dropFrame
  dsimp only
  split
  · exact (s.purges_fabDiscard ..).trans (State.purges_freeBuffer ..)
  · exact s.purges_freeBuffer ..

/-! ### Routed frames of another line-up -/

/-- A routed frame of another line-up. -/
def Frame.stale (lun : Nat) (f : Frame) : Bool := decide (f.ft = 0) && decide (f.lun ≠ lun)

theorem Frame.stale_iff {lun : Nat} {f : Frame} : f.stale lun = true ↔ f.ft = 0 ∧ f.lun ≠ lun := by
  rw [Frame.stale, Bool.and_eq_true, decide_eq_true_eq, decide_eq_true_eq]

/-- The frames of another line-up leave a port; a HELLO frame takes the place of one not acknowledged. -/
def State.portCleared (t : State) (lun : Nat) (r : Fin 3) : State :=
  t.setPort r fun p => { p with
    out := p.out.filter fun e => !e.2.stale lun, held := p.held.map fun e => if e.2.1.stale lun then (e.1, t.helloFrame, e.2.2) else e }

/-- They are discarded. -/
def State.portPurged (t : State) (lun : Nat) (r : Fin 3) : State :=
  (t.fab.port[r].out.filter (fun (e : Nat × Frame) => e.2.stale lun)
    ++ (t.fab.port[r].held.filter fun (e : Nat × Frame × Nat) => e.2.1.stale lun).map
    fun (e : Nat × Frame × Nat) => (3, e.2.1)).foldl (fun (u : State) (e : Nat × Frame) => u.dropFrame 1 e.1 e.2) (t.portCleared lun r)

theorem State.purges_portCleared (t : State) (lun : Nat) (r : Fin 3) : t.Purges (t.portCleared lun r) := by
  refine t.purges_setPort r _ ⟨rfl, ?_, fun e he => .inl (List.mem_filter.1 he).1, fun e he => ?_⟩
  · dsimp only
    rw [List.map_map]
    refine List.map_congr_left fun e _ => ?_
    dsimp only [Function.comp]
    split <;> rfl
  · obtain ⟨x, hx, rfl⟩ := List.mem_map.1 he
    split
    · refine .inr ?_
      show (5 : Nat) ≠ 0
      decide
    · exact .inl ⟨x, hx, rfl⟩

theorem State.portCleared_clean (t : State) (lun : Nat) (r : Fin 3) : (t.portCleared lun r).fab.port[r].Clean lun := by
  rw [State.portCleared, State.setPort_same]
  refine ⟨fun e he hs => ?_, fun e he hs => ?_⟩
  · have hno := (List.mem_filter.1 he).2
    rw [Frame.stale_iff.2 hs] at hno
    exact Bool.noConfusion hno
  · obtain ⟨x, hx, rfl⟩ := List.mem_map.1 he
    by_cases hxs : x.2.1.stale lun = true
    · rw [if_pos hxs] at hs
      exact absurd hs.1 (by show (5 : Nat) ≠ 0; decide)
    · rw [if_neg hxs] at hs
      exact hxs (Frame.stale_iff.2 hs)

theorem State.purges_drops (l : List (Nat × Frame)) (t : State) :
    t.Purges (l.foldl (fun (u : State) (e : Nat × Frame) => u.dropFrame 1 e.1 e.2) t) := .foldl (fun _ _ => State.purges_dropFrame ..) l t

theorem State.purges_portPurged (t : State) (lun : Nat) (r : Fin 3) : t.Purges (t.portPurged lun r) :=
  (t.purges_portCleared lun r).trans (State.purges_drops _ _)

theorem State.portPurged_clean (t : State) (lun : Nat) (r : Fin 3) : (t.portPurged lun r).fab.port[r].Clean lun :=
  ((State.purges_drops _ _).lined.port r).clean (t.portCleared_clean lun r)

/-- Once the ports of a list have been purged they stay clean. -/
theorem State.purged_clean (lun : Nat) (l : List (Fin 3)) (s : State) {k : Fin 3} (h : k ∈ l ∨ s.fab.port[k].Clean lun) :
    (l.foldl (fun (t : State) (r : Fin 3) => t.portPurged lun r) s).fab.port[k].Clean lun := by
  induction l generalizing s with
  | nil => simpa using h
  | cons r l ih =>
    rw [List.foldl_cons]
    by_cases hk : k = r
    · subst hk
      exact ih _ (.inr (s.portPurged_clean lun k))
    · refine ih _ ?_
      rcases h with h | h
      · rcases List.mem_cons.1 h with h | h
        · exact absurd h hk
        · exact .inl h
      · exact .inr (((s.purges_portPurged lun r).lined.port k).clean h)

/-! ### Messages to nodes that are no members -/

/-- The messages of a send queue to nodes that are no members go. -/
def State.unsent (t : State) (ids : List Nat) (i : Fin 18) : State :=
  (t.fab.sendQ[i].filter fun f => decide (f.dst ∉ ids)).foldl (fun (u : State) (f : Frame) => u.fabDiscard 5 f.dst f.dwork)
    { t with fab := { t.fab with sendQ := upd t.fab.sendQ i fun q => q.filter fun f => !decide (f.dst ∉ ids) } }

theorem State.purges_unsent (t : State) (ids : List Nat) (i : Fin 18) : t.Purges (t.unsent ids i) :=
  (t.purges_fab { t.fab with sendQ := upd t.fab.sendQ i fun q => q.filter fun f => !decide (f.dst ∉ ids) }
    ⟨rfl, rfl, rfl, rfl, rfl, rfl, rfl, fun _ => .refl _⟩ rfl rfl).trans
    (State.Purges.foldl (f := fun (u : State) (f : Frame) => u.fabDiscard 5 f.dst f.dwork) (fun u f => u.purges_fabDiscard 5 f.dst f.dwork) _ _)

end Sys2Proof.Machine
end

section
/-! SUPPORT. A line-up commit step by step: the line-up, the frames thrown away, the captain, the cues and the report (R353, R354, R370). -/

namespace Sys2Proof.Machine

section
variable (s : State)

/-! ### The line-up -/

/-- The records of the nodes that are not on the bench, the node's own first. -/
def State.commitKnown : List LinkRec := s.selfRec :: s.fab.recs.filter fun r => !r.bench

/-- The members. -/
def State.commitIds : List Nat := (treeFrom s.commitKnown s.selfRec.id).map (·.1)

/-- Their records. -/
def State.commitAll : List LinkRec := s.commitKnown.filter fun r => decide (r.id ∈ s.commitIds)

/-- The line-up's number. -/
def State.commitLun : Nat := (s.commitAll.foldl (fun n r => n + r.rseq) 0 + s.commitAll.length) % 256

/-- The root of the tree: the lowest ID. -/
def State.commitRoot : Nat := s.commitAll.foldl (fun m r => min m r.id) s.selfRec.id

def State.commitTree : List (Nat × Nat × Nat) := treeFrom s.commitAll s.commitRoot

/-- The routes to the other members. -/
def State.commitRoute : List (Nat × Nat × Nat) :=
  (s.commitIds.filter fun x => decide (x ≠ s.selfRec.id)).filterMap fun x =>
    (s.portOf (routeIn s.commitTree s.selfRec.id x).1).map fun r => (x, r.val, (routeIn s.commitTree s.selfRec.id x).2)

/-- The place of a port in the tree. -/
def State.commitCode (r : Fin 3) (p : FPort) : Nat :=
  if p.peerBench then 3
  else if p.st ≠ .up ∨ s.portOf p.peer ≠ some r then 0
  else if s.selfRec.id ≠ s.commitRoot ∧ (s.commitTree.find? fun e => decide (e.1 = s.selfRec.id)).map (·.2.2) = some p.peer then 1
  else if s.commitTree.any fun e => decide (e.1 = p.peer) && decide (e.2.2 = s.selfRec.id) && decide (e.1 ≠ s.commitRoot) then 2
  else 0

/-- The line-up taken. -/
def State.commitTaken : State := { s with fab := { s.fab with
  lun := s.commitLun, members := s.commitIds, route := s.commitRoute, lubusy := false
  recs := s.fab.recs.filter fun r => s.commitAll.any fun x => decide (x.serial = r.serial) } }

/-- The ports' places in the tree. -/
def State.commitTreed : State :=
  (List.finRange 3).foldl (fun (t : State) (r : Fin 3) => t.setPort r fun p => { p with tree := s.commitCode r p }) s.commitTaken

/-! ### What goes with the line-up before -/

/-- Routed frames of another line-up go. -/
def State.commitPurged : State := (List.finRange 3).foldl (fun (t : State) (r : Fin 3) => t.portPurged s.commitLun r) s.commitTreed

/-- Messages to nodes that are no members go. -/
def State.commitCleared : State := (List.finRange 18).foldl (fun (t : State) (i : Fin 18) => t.unsent s.commitIds i) s.commitPurged

/-- A rank that the node shares with a lower ID is reported. -/
def State.rankReported : State := if s.rankDup then s.emit 0 Kind.fabRankDup (srcF 0xF) (s.nodeId % 32 + s.cfgRank * 32) else s

/-- The members' records, the node's own as it stands now. -/
def State.commitVoters : List LinkRec := s.commitAll.map fun r => if r.serial = s.selfRec.serial then s.commitCleared.rankReported.selfRec else r

/-- The captain chosen. -/
def State.commitSettled : State := s.commitCleared.rankReported.settleCaptain s.commitVoters

/-! ### What the node tells of its line-up -/

/-- The members as a mask. -/
def memberMask (ids : List Nat) : Nat := ids.foldl (fun m i => m ||| 2 ^ (i % 32)) 0

/-- The works' cue of a line-up. -/
def State.lineCued (ids : List Nat) (lun : Nat) : State :=
  s.liveWorks.foldl (fun (t : State) (w : Fin 9) =>
    if t.work[w].cueEn.getLsbD 24 then
      t.raiseCue w ⟨24, wordN (t.nodeId % 32 + s.freeW.toNat % 16 * 32 + 0x8001 * 65536), wordN (memberMask ids), t.now, t.now + cueCross 24,
        [wordN (memberMask ids), wordN (lun + s.fab.capid % 32 * 256 + bitAt s.fab.capv 13 + s.fab.cep * 2 ^ 14)]⟩
    else t) s.useFree

/-- The report of a line-up. -/
def State.lineReported (ids : List Nat) (lun : Nat) : State :=
  (s.emit 0 Kind.fabLineup (srcF 0xF) (lun + ids.length % 64 * 256 + s.fab.capid % 32 * 2 ^ 14 + bitAt s.fab.capv 19)).hostEvent 1 2

/-- The state in which the commit is over but for a new record. -/
def State.commitDone : State := (s.commitSettled.lineCued s.commitIds s.commitLun).lineReported s.commitIds s.commitLun

end

theorem State.commitLineup_idle {s : State} (h : s.fabRuns = false ∨ s.fab.lubusy = false) : s.commitLineup = s := by
  refine if_pos ?_
  rcases h with h | h <;> simp [h]

theorem State.commitLineup_eq {s : State} (hruns : s.fabRuns = true) (hbusy : s.fab.lubusy = true) (hbench : s.fab.bench = false) :
    s.commitLineup = s.commitDone.recheck := by
  unfold State.commitLineup
  rw [if_neg (by rw [hruns, hbusy]; decide), if_neg (by rw [hbench]; decide)]
  extract_lets self all0 ids all lun root tree route parent code src taken treed stale purged gone cleared dup told settled mask word1 from_ cued done
  have hids : ids = s.commitIds := rfl
  have hlun : lun = s.commitLun := rfl
  have htreed : treed = s.commitTreed := rfl
  have hcleared : cleared = s.commitCleared := rfl
  have hsettled : settled = s.commitSettled := rfl
  have hcued : cued = s.commitSettled.lineCued s.commitIds s.commitLun := rfl
  have hdone : done = State.lineReported (s.commitSettled.lineCued s.commitIds s.commitLun) s.commitIds s.commitLun := by
    rw [← hcued]
    rfl
  exact congrArg State.recheck hdone

/-! ### What the steps leave -/

section
variable (s : State)

theorem State.purges_commitPurged : s.commitTreed.Purges s.commitPurged := by
  unfold State.commitPurged
  exact .foldl (fun t r => t.purges_portPurged _ r) _ _

theorem State.purges_messages : s.commitPurged.Purges s.commitCleared := by
  unfold State.commitCleared
  exact .foldl (fun t i => t.purges_unsent _ i) _ _

theorem State.purges_commitCleared : s.commitTreed.Purges s.commitCleared := s.purges_commitPurged.trans s.purges_messages

theorem State.commitCleared_clean (k : Fin 3) : s.commitCleared.fab.port[k].Clean s.commitLun := by
  refine (s.purges_messages.lined.port k).clean ?_
  unfold State.commitPurged
  exact State.purged_clean _ _ _ (.inl (List.mem_finRange k))

theorem State.nodeKept_rankReported : s.NodeKept s.rankReported := by
  unfold State.rankReported
  split
  · exact s.nodeKept_emit ..
  · exact .refl s

theorem State.rankReported_fab : s.rankReported.fab = s.fab := by
  unfold State.rankReported
  split
  · exact s.emit_fab ..
  · rfl

/-- The node and its line-up stay, and two messages at most go out. -/
def State.Steers (t : State) : Prop := s.NodeKept t ∧ s.fab.Lined t.fab ∧ s.Sends 2 t

theorem State.Steers.refl : s.Steers s := ⟨.refl s, .refl _, (s.sends_coll rfl).mono (Nat.zero_le _)⟩

variable {s} in
theorem State.Steers.ite {t u : State} {p : Prop} [Decidable p] (ht : s.Steers t) (hu : s.Steers u) : s.Steers (if p then t else u) := by
  split
  · exact ht
  · exact hu

variable {s} in
theorem State.Steers.refollow {t : State} (hnode : s.NodeKept t) (hfab : s.fab.Lined t.fab) (hcoll : t.coll = s.coll) (old : Sync) :
    s.Steers (t.refollow old 0) :=
  ⟨hnode.trans (t.nodeKept_refollow old 0), hfab.trans (t.refollow_fab old 0).lined,
    ((State.sends_coll hcoll).trans (t.sends_refollow old 0)).mono (by decide)⟩

theorem State.steers_takeCaptaincy (top cause : Nat) : s.Steers (s.takeCaptaincy top cause) :=
  ⟨s.takeCaptaincy_node top cause, (s.takeCaptaincy_fab top cause).lined, s.sends_takeCaptaincy top cause⟩

/-- The choice of a captain. -/
theorem State.steers_settleCaptain (all : List LinkRec) : s.Steers (s.settleCaptain all) := by
  unfold State.settleCaptain
  dsimp only
  split
  · refine .refollow ?_ ?_ ?_ _
    · exact s.nodeKept_fab _
    · exact ⟨rfl, rfl, rfl, rfl, rfl, rfl, rfl, fun _ => .refl _⟩
    · rfl
  · refine .ite (.ite (s.steers_takeCaptaincy _ _) (.refl s)) (.ite (.refl s) (.refollow ?_ ?_ ?_ _))
    · exact s.nodeKept_fab _
    · exact ⟨rfl, rfl, rfl, rfl, rfl, rfl, rfl, fun _ => .refl _⟩
    · rfl

theorem State.lineCued_kept (ids : List Nat) (lun : Nat) :
    s.NodeKept (s.lineCued ids lun) ∧ (s.lineCued ids lun).fab = s.fab ∧ s.Sends 0 (s.lineCued ids lun) := by
  have hfree : s.useFree.Jolt (s.lineCued ids lun) := .foldl (fun t w => .ite (t.jolt_raiseCue ..) (.refl t)) _ _
  have hnode : s.NodeKept s.useFree := ⟨rfl, rfl, rfl, rfl, rfl⟩
  have hsends : s.Sends 0 s.useFree := State.sends_coll rfl
  exact ⟨hnode.trans hfree.stir.node, hfree.fab, hsends.trans hfree.box.sends⟩

theorem State.lineReported_kept (ids : List Nat) (lun : Nat) :
    s.NodeKept (s.lineReported ids lun) ∧ (s.lineReported ids lun).fab = s.fab ∧ s.Sends 1 (s.lineReported ids lun) := by
  have hnode := s.nodeKept_emit 0 Kind.fabLineup (lun + ids.length % 64 * 256 + s.fab.capid % 32 * 2 ^ 14 + bitAt s.fab.capv 19)
  have hfab := s.emit_fab 0 Kind.fabLineup 0xF (lun + ids.length % 64 * 256 + s.fab.capid % 32 * 2 ^ 14 + bitAt s.fab.capv 19)
  have hsends := s.sends_emit 0 Kind.fabLineup (lun + ids.length % 64 * 256 + s.fab.capid % 32 * 2 ^ 14 + bitAt s.fab.capv 19)
  unfold State.lineReported
  generalize s.emit 0 Kind.fabLineup (srcF 0xF) (lun + ids.length % 64 * 256 + s.fab.capid % 32 * 2 ^ 14 + bitAt s.fab.capv 19) = t
    at hnode hfab hsends
  refine ⟨hnode.trans (t.nodeKept_hostEvent 1 2), ?_, hsends.trans (t.sends_hostEvent 1 2)⟩
  rw [State.hostEvent_parts]
  exact hfab

/-- The report of a line-up waits where a place is free. -/
theorem State.lineReported_report (ids : List Nat) (lun : Nat) (h : s.nodeMsgs.length < 4) :
    ∃ m ∈ (s.lineReported ids lun).nodeMsgs, m.cls = 0 ∧ m.kind = Kind.fabLineup := by
  have hmsgs := s.emit_nodeMsgs 0 Kind.fabLineup (lun + ids.length % 64 * 256 + s.fab.capid % 32 * 2 ^ 14 + bitAt s.fab.capv 19) h
  refine ⟨s.msg 0 Kind.fabLineup (srcF 0xF) (lun + ids.length % 64 * 256 + s.fab.capid % 32 * 2 ^ 14 + bitAt s.fab.capv 19), ?_, rfl, rfl⟩
  have hmem : s.msg 0 Kind.fabLineup (srcF 0xF) (lun + ids.length % 64 * 256 + s.fab.capid % 32 * 2 ^ 14 + bitAt s.fab.capv 19)
      ∈ (s.emit 0 Kind.fabLineup (srcF 0xF) (lun + ids.length % 64 * 256 + s.fab.capid % 32 * 2 ^ 14 + bitAt s.fab.capv 19)).nodeMsgs := by
    rw [hmsgs]
    exact List.mem_append_right _ (List.mem_singleton.2 rfl)
  unfold State.lineReported
  generalize s.emit 0 Kind.fabLineup (srcF 0xF) (lun + ids.length % 64 * 256 + s.fab.capid % 32 * 2 ^ 14 + bitAt s.fab.capv 19) = t at hmsgs hmem
  have hroom : t.nodeMsgs.length + 0 ≤ 4 := by
    rw [hmsgs, List.length_append, List.length_singleton]
    omega
  exact (t.sends_hostEvent 1 2).mem hroom hmem

end

end Sys2Proof.Machine
end

section
/-! SUPPORT. What a line-up commit leaves in the end (R351, R353, R354). -/

namespace Sys2Proof.Machine

/-- A node issues a new record where what it tells of itself has changed, and else nothing. -/
theorem State.recheck_parts (s : State) : ∃ p b g n, s.recheck = { s with fab := { s.fab with port := p, lubusy := b, issued := g, rseq := n } }
    ∧ (∀ k : Fin 3, s.fab.port[k].Lined p[k]) ∧ (s.recheck.selfRec.gist = s.fab.issued → b = s.fab.lubusy) := by
  by_cases hnew : (s.fabRuns && decide (s.selfRec.gist ≠ s.fab.issued)) = true
  · have heq : s.recheck = s.newRecord := if_pos hnew
    obtain ⟨p, g, hp, hk⟩ := s.newRecord_parts
    rw [heq]
    refine ⟨p, true, g, (s.fab.rseq + 1) % 256, hp, fun k => ?_, fun hgist => ?_⟩
    · rw [hk k]
      split
      · refine ⟨rfl, rfl, fun e he => ?_, fun e he => .inl ⟨e, he, rfl⟩⟩
        rcases List.mem_append.1 he with h | h
        · exact .inl h
        · refine .inr ?_
          rw [List.mem_singleton.1 h]
          show (6 : Nat) ≠ 0
          decide
      · exact .refl _
    · have hsame : s.newRecord.selfRec.gist = s.selfRec.gist := by
        rw [hp]
        rfl
      rw [Bool.and_eq_true, decide_eq_true_eq] at hnew
      exact absurd (hsame.symm.trans hgist) hnew.2
  · have heq : s.recheck = s := if_neg hnew
    exact ⟨s.fab.port, s.fab.lubusy, s.fab.issued, s.fab.rseq, heq, fun _ => .refl _, fun _ => rfl⟩

section
variable (s : State)

/-- Places in the tree for the ports of a list. -/
theorem State.placeEach_parts (f : Fin 3 → FPort → Nat) {l : List (Fin 3)} (hl : l.Nodup) (t : State) : ∃ p,
    l.foldl (fun (t : State) (r : Fin 3) => t.setPort r fun p => { p with tree := f r p }) t = { t with fab := { t.fab with port := p } }
    ∧ ∀ k : Fin 3, p[k] = if k ∈ l then { t.fab.port[k] with tree := f k t.fab.port[k] } else t.fab.port[k] := by
  induction l generalizing t with
  | nil => exact ⟨t.fab.port, rfl, fun k => (if_neg (List.not_mem_nil)).symm⟩
  | cons r l ih =>
    obtain ⟨hr, hl⟩ := List.nodup_cons.1 hl
    obtain ⟨p, hp, hk⟩ := ih hl (t.setPort r fun p => { p with tree := f r p })
    refine ⟨p, hp, fun k => ?_⟩
    rw [hk k]
    by_cases h : k = r
    · subst h
      rw [if_neg hr, if_pos List.mem_cons_self, State.setPort_same]
    · rw [State.setPort_ne _ _ _ h]
      simp [h]

/-- The ports' places in the tree, the line-up taken. -/
theorem State.commitTreed_parts : ∃ p, s.commitTreed = { s with fab := { s.commitTaken.fab with port := p } }
    ∧ ∀ k : Fin 3, p[k] = { s.fab.port[k] with tree := s.commitCode k s.fab.port[k] } := by
  obtain ⟨p, hp, hk⟩ := State.placeEach_parts s.commitCode (List.nodup_finRange 3) s.commitTaken
  exact ⟨p, hp, fun k => (hk k).trans (if_pos (List.mem_finRange k))⟩

theorem State.commitTreed_fab : s.commitTreed.fab.members = s.commitIds ∧ s.commitTreed.fab.lun = s.commitLun
    ∧ s.commitTreed.fab.route = s.commitRoute ∧ s.commitTreed.fab.lubusy = false ∧ s.commitTreed.fab.issued = s.fab.issued
    ∧ s.commitTreed.fab.capt = s.fab.capt ∧ s.commitTreed.fab.capid = s.fab.capid ∧ s.commitTreed.fab.bench = s.fab.bench
    ∧ s.commitTreed.coll = s.coll := by
  obtain ⟨p, hp, -⟩ := s.commitTreed_parts
  rw [hp]
  dsimp only [State.commitTaken]
  exact ⟨rfl, rfl, rfl, rfl, rfl, rfl, rfl, rfl, rfl⟩

theorem State.commitTreed_port (k : Fin 3) : s.commitTreed.fab.port[k] = { s.fab.port[k] with tree := s.commitCode k s.fab.port[k] } := by
  obtain ⟨p, hp, hk⟩ := s.commitTreed_parts
  rw [hp]
  exact hk k

theorem State.nodeKept_commitTreed : s.NodeKept s.commitTreed := by
  obtain ⟨p, hp, -⟩ := s.commitTreed_parts
  rw [hp]
  exact s.nodeKept_fab _

theorem State.steers_commitSettled : s.commitCleared.rankReported.Steers s.commitSettled := State.steers_settleCaptain _ _

theorem State.commitDone_kept : s.commitSettled.NodeKept s.commitDone ∧ s.commitDone.fab = s.commitSettled.fab := by
  obtain ⟨hnode, hfab, -⟩ := s.commitSettled.lineCued_kept s.commitIds s.commitLun
  unfold State.commitDone
  generalize s.commitSettled.lineCued s.commitIds s.commitLun = t at hnode hfab
  obtain ⟨hnode', hfab', -⟩ := t.lineReported_kept s.commitIds s.commitLun
  exact ⟨hnode.trans hnode', hfab'.trans hfab⟩

theorem State.lined_commitDone : s.commitTreed.fab.Lined s.commitDone.fab := by
  have hset := s.steers_commitSettled.2.1
  rw [State.rankReported_fab] at hset
  rw [s.commitDone_kept.2]
  exact s.purges_commitCleared.lined.trans hset

theorem State.nodeKept_commitCleared : s.NodeKept s.commitCleared.rankReported :=
  (s.nodeKept_commitTreed.trans s.purges_commitCleared.node).trans (State.nodeKept_rankReported _)

theorem State.nodeKept_commitDone : s.NodeKept s.commitDone :=
  (s.nodeKept_commitCleared.trans s.steers_commitSettled.1).trans s.commitDone_kept.1

theorem State.commitDone_clean (k : Fin 3) : s.commitDone.fab.port[k].Clean s.commitLun := by
  have hset := s.steers_commitSettled.2.1
  rw [State.rankReported_fab] at hset
  rw [s.commitDone_kept.2]
  exact (hset.port k).clean (s.commitCleared_clean k)

end

/-- What a commit leaves of the line-up. -/
theorem State.commitLineup_kept {s : State} (hruns : s.fabRuns = true) (hbusy : s.fab.lubusy = true) (hbench : s.fab.bench = false) :
    s.commitLineup.fab.members = s.commitIds ∧ s.commitLineup.fab.lun = s.commitLun ∧ s.commitLineup.fab.route = s.commitRoute
    ∧ (s.commitLineup.selfRec.gist = s.fab.issued → s.commitLineup.fab.lubusy = false) ∧ s.commitLineup.mem = s.mem
    ∧ (∀ k : Fin 3, s.commitLineup.fab.port[k].tree = s.commitCode k s.fab.port[k] ∧ s.commitLineup.fab.port[k].Clean s.commitLun
      ∧ s.commitLineup.fab.port[k].held.map (·.1) = s.fab.port[k].held.map (·.1))
    ∧ s.commitLineup.fab.capt = s.commitSettled.fab.capt ∧ s.commitLineup.fab.capid = s.commitSettled.fab.capid
    ∧ s.commitLineup.fab.capv = s.commitSettled.fab.capv ∧ s.commitLineup.fab.cep = s.commitSettled.fab.cep
    ∧ s.commitLineup.coll = s.commitDone.coll := by
  rw [State.commitLineup_eq hruns hbusy hbench]
  obtain ⟨q, b, g, n, hrec, hq, hgist⟩ := s.commitDone.recheck_parts
  obtain ⟨hmembers, hlun, hroute, hfree, hissued, -⟩ := s.commitTreed_fab
  have hk := s.commitTreed_port
  have hlined := s.lined_commitDone
  have hmem := s.nodeKept_commitDone.2.1
  have hclean := s.commitDone_clean
  rw [← s.commitDone_kept.2]
  generalize s.commitDone = u at hrec hq hgist hlined hmem hclean
  generalize u.recheck.selfRec.gist = gist at hgist
  rw [hrec]
  refine ⟨hlined.members.trans hmembers, hlined.lun.trans hlun, hlined.route.trans hroute, fun h => ?_, hmem, fun k => ?_, rfl, rfl, rfl, rfl, rfl⟩
  · exact (hgist (h.trans (hlined.issued.trans hissued).symm)).trans (hlined.lubusy.trans hfree)
  · have hport := (hlined.port k).trans (hq k)
    refine ⟨?_, (hq k).clean (hclean k), ?_⟩
    · exact hport.tree.trans (congrArg FPort.tree (hk k))
    · exact hport.lseqs.trans (congrArg (fun x : FPort => x.held.map (·.1)) (hk k))

end Sys2Proof.Machine
end

section
/-! SUPPORT. The tree of a node alone and of two nodes that are linked (R353). -/

namespace Sys2Proof.Machine

theorem growTree_closed {all : List LinkRec} {acc : List (Nat × Nat × Nat)} (d : Nat) (h : ∀ b ∈ all, acc.any (fun e => decide (e.1 = b.id)) = true) :
    growTree all d acc = acc := by
  unfold growTree
  rw [List.filterMap_eq_nil_iff.2 fun b hb => if_pos (h b hb), List.append_nil]

theorem growTrees_closed {all : List LinkRec} {acc : List (Nat × Nat × Nat)} (l : List Nat)
    (h : ∀ b ∈ all, acc.any (fun e => decide (e.1 = b.id)) = true) : l.foldl (fun acc d => growTree all d acc) acc = acc := by
  induction l with
  | nil => rfl
  | cons d l ih => rw [List.foldl_cons, growTree_closed d h, ih]

/-- The tree of a node alone. -/
theorem treeFrom_alone (r : LinkRec) : treeFrom [r] r.id = [(r.id, 0, r.id)] := growTrees_closed _ (by simp)

/-- The tree that one step of the search completes. -/
theorem treeFrom_one {all : List LinkRec} {root : Nat} {acc : List (Nat × Nat × Nat)} (h1 : growTree all 0 [(root, 0, root)] = acc)
    (h : ∀ b ∈ all, acc.any (fun e => decide (e.1 = b.id)) = true) : treeFrom all root = acc := by
  unfold treeFrom
  rw [show (32 : Nat) = 31 + 1 from rfl, List.range_succ_eq_map, List.foldl_cons, h1]
  exact growTrees_closed _ h

theorem linkedRecs_self (a : LinkRec) : linkedRecs a a = false := by simp [linkedRecs]

theorem linkedRecs_symm (a b : LinkRec) : linkedRecs a b = linkedRecs b a := by
  unfold linkedRecs
  rw [Bool.and_comm (!a.bench), show decide (a.id ≠ b.id) = decide (b.id ≠ a.id) from decide_eq_decide.2 ⟨Ne.symm, Ne.symm⟩]
  rw [Bool.and_assoc, Bool.and_assoc, Bool.and_comm (a.ports.any _), ← Bool.and_assoc, ← Bool.and_assoc]

section
variable {a b : LinkRec} (hne : a.id ≠ b.id) (hab : linkedRecs a b = true)
include hne hab

/-- The tree of two linked nodes, from the first and from the second. -/
theorem treeFrom_first : treeFrom [a, b] a.id = [(a.id, 0, a.id), (b.id, 1, a.id)] := by
  refine treeFrom_one ?_ (by simp)
  simp [growTree, hne, hab, linkedRecs_self]

theorem treeFrom_second : treeFrom [a, b] b.id = [(b.id, 0, b.id), (a.id, 1, b.id)] := by
  have hba : linkedRecs b a = true := (linkedRecs_symm b a).trans hab
  refine treeFrom_one ?_ (by simp)
  simp [growTree, hne.symm, hba]

end

/-- The way of two nodes to each other. -/
theorem routeIn_down {a b : Nat} (h : a ≠ b) : routeIn [(a, 0, a), (b, 1, a)] a b = (b, 1) := by
  simp [routeIn, pathUp, h, h.symm]

theorem routeIn_up {a b : Nat} (h : a ≠ b) : routeIn [(b, 0, b), (a, 1, b)] a b = (b, 1) := by
  simp [routeIn, pathUp, h, h.symm]

end Sys2Proof.Machine
end

section
/-! PROOFS. The line-up of a node alone and of two linked nodes (R353, R354, R370; O56). -/

open Sys2Proof Sys2Proof.Machine

namespace Sys2Proof.Proofs

theorem settle_selfRec (u : State) : u.settle.selfRec = u.selfRec := by
  obtain ⟨q, hq⟩ := u.settle_parts
  rw [hq]
  rfl

/-! ### The captain of a node alone (R370) -/

theorem rankDup_alone {u : State} (h : u.fab.recs = []) : u.rankDup = false := by simp [State.rankDup, h]

theorem eligible_alone {u : State} (h : u.fab.recs = []) :
    u.eligible = (u.live && decide (u.cfgRank ≤ 2) && !u.fab.bench && u.rb Reg.whlxCfg 0 0) := by
  rw [State.eligible, State.effRank, rankDup_alone h]
  rfl

theorem electCaptain_alone {r : LinkRec} (h : r.capt = false) :
    electCaptain [r] = if (r.elig && decide (r.rank ≤ 2)) = true then some (r, true) else none := by
  have hrank : rankAmong [r] r = r.rank := by simp [rankAmong]
  unfold electCaptain
  rw [List.filter_singleton, h]
  dsimp only [List.foldl, cond]
  rw [List.filter_singleton, hrank]
  cases r.elig && decide (r.rank ≤ 2) <;> rfl

theorem knownCaptain_alone (u : State) : u.knownCaptain [u.selfRec] = [u.selfRec] := by
  have hid : u.selfRec.id = u.nodeId := rfl
  unfold State.knownCaptain
  split
  · rfl
  · rw [List.map_singleton, if_neg fun h => h.2 hid]

section
variable {u : State} (hrecs : u.fab.recs = []) (hcapt : u.fab.capt = false)
include hrecs hcapt

theorem captain_elected (helig : u.eligible = true) : u.settleCaptain [u.selfRec] = u.takeCaptaincy (topCep [u.selfRec] u.fab.cep) 4 := by
  have hrank : (u.eligible && decide (u.cfgRank ≤ 2)) = true := by
    rw [eligible_alone hrecs] at helig ⊢
    revert helig
    cases u.live <;> cases decide (u.cfgRank ≤ 2) <;> simp
  have helect : electCaptain (u.knownCaptain [u.selfRec]) = some (u.selfRec, true) := by
    rw [knownCaptain_alone, electCaptain_alone hcapt]
    exact if_pos hrank
  unfold State.settleCaptain
  rw [helect]
  exact if_pos rfl

omit hrecs in
theorem captain_missing (helig : u.eligible = false) :
    (u.settleCaptain [u.selfRec]).fab.capt = false ∧ (u.settleCaptain [u.selfRec]).fab.capv = false := by
  have helect : electCaptain (u.knownCaptain [u.selfRec]) = none := by
    rw [knownCaptain_alone, electCaptain_alone hcapt]
    refine if_neg ?_
    show ¬(u.eligible && decide (u.cfgRank ≤ 2)) = true
    rw [helig, Bool.false_and]
    decide
  unfold State.settleCaptain
  rw [helect]
  dsimp only
  obtain ⟨cs, ho, cf, dv, dn, dr, hf⟩ := State.refollow_fab ({ u with fab := { u.fab with
    capt := false, capv := false, took := false, beacon := none, csync := if u.fab.capt then u.sync else u.fab.csync } } : State) u.sync 0
  rw [hf]
  exact ⟨rfl, rfl⟩

end

/-! ### A node alone -/

section
variable {s : State} (hrecs : s.fab.recs = [])
include hrecs

theorem known_alone : s.commitKnown = [s.selfRec] := by
  rw [State.commitKnown, hrecs]
  rfl

theorem ids_alone : s.commitIds = [s.nodeId] := by
  rw [State.commitIds, known_alone hrecs, treeFrom_alone]
  rfl

theorem all_alone : s.commitAll = [s.selfRec] := by
  rw [State.commitAll, known_alone hrecs, ids_alone hrecs]
  exact List.filter_eq_self.2 fun r hr => by
    rw [List.mem_singleton.1 hr]
    exact decide_eq_true (List.mem_singleton.2 rfl)

theorem lun_alone : s.commitLun = (s.fab.rseq + 1) % 256 := by
  have hrseq : s.selfRec.rseq = s.fab.rseq := rfl
  rw [State.commitLun, all_alone hrecs]
  simp [hrseq]

theorem route_alone : s.commitRoute = [] := by
  have hid : s.selfRec.id = s.nodeId := rfl
  rw [State.commitRoute, ids_alone hrecs, hid]
  simp

theorem cleared_recs : s.commitCleared.fab.recs = [] := by
  rw [s.purges_commitCleared.lined.recs]
  obtain ⟨p, hp, -⟩ := s.commitTreed_parts
  rw [hp]
  dsimp only [State.commitTaken]
  rw [hrecs]
  rfl

theorem told_alone : s.commitCleared.rankReported = s.commitCleared := by
  rw [State.rankReported, rankDup_alone (cleared_recs hrecs)]
  exact if_neg (by decide)

theorem settled_alone : s.commitSettled = s.commitCleared.settleCaptain [s.commitCleared.selfRec] := by
  rw [State.commitSettled, State.commitVoters, told_alone hrecs, all_alone hrecs, List.map_singleton, if_pos rfl]

omit hrecs in
theorem cleared_capt : s.commitCleared.fab.capt = s.fab.capt ∧ s.commitCleared.fab.capid = s.fab.capid := by
  obtain ⟨-, -, -, -, -, hcapt, hcapid, -⟩ := s.commitTreed_fab
  exact ⟨s.purges_commitCleared.capt.trans hcapt, s.purges_commitCleared.capid.trans hcapid⟩

omit hrecs in
theorem cleared_node : s.NodeKept s.commitCleared := s.nodeKept_commitTreed.trans s.purges_commitCleared.node

theorem cleared_eligible : s.commitCleared.eligible = s.eligible := by
  have hnode := cleared_node (s := s)
  have hbench : s.commitCleared.fab.bench = s.fab.bench := by
    obtain ⟨-, -, -, -, -, -, -, hbench, -⟩ := s.commitTreed_fab
    exact s.purges_commitCleared.lined.bench.trans hbench
  rw [eligible_alone hrecs, eligible_alone (cleared_recs hrecs), hnode.live, hnode.cfgRank, hbench, State.rb, State.rb, hnode.2.2.2.2]

/-! ### The messages of a node alone -/

section
variable (hquiet : s.nodeMsgs = [])
include hquiet

omit hrecs in
theorem cleared_room : s.commitCleared.nodeMsgs.length ≤ 1 := by
  obtain ⟨-, -, -, -, -, -, -, -, hcoll⟩ := s.commitTreed_fab
  obtain ⟨l, hl, ht⟩ := (State.sends_coll hcoll).trans s.purges_commitCleared.once (by rw [hquiet]; decide)
  rw [ht, hquiet, List.nil_append]
  exact hl

theorem settled_room : s.commitSettled.nodeMsgs.length ≤ 3 := by
  have hroom := cleared_room hquiet
  obtain ⟨l, hl, ht⟩ := s.steers_commitSettled.2.2 (by rw [told_alone hrecs]; omega)
  rw [ht, told_alone hrecs, List.length_append]
  omega

/-- What waits when the captain is chosen waits in the end, and the report of the line-up as well. -/
theorem done_messages : (∃ m ∈ s.commitDone.nodeMsgs, m.cls = 0 ∧ m.kind = Kind.fabLineup)
    ∧ ∀ m ∈ s.commitSettled.nodeMsgs, m ∈ s.commitDone.nodeMsgs := by
  have hroom := settled_room hrecs hquiet
  obtain ⟨-, -, hcue⟩ := s.commitSettled.lineCued_kept s.commitIds s.commitLun
  unfold State.commitDone
  obtain ⟨l, hl, ht⟩ := hcue (by omega)
  have hnil : l = [] := List.length_eq_zero_iff.1 (by omega)
  rw [hnil, List.append_nil] at ht
  rw [← ht] at hroom ⊢
  generalize s.commitSettled.lineCued s.commitIds s.commitLun = t at hroom
  obtain ⟨-, -, hreport⟩ := t.lineReported_kept s.commitIds s.commitLun
  exact ⟨t.lineReported_report _ _ (by omega), fun m hm => hreport.mem (by omega) hm⟩

end

end

end Sys2Proof.Proofs
end

section
/-! PROOFS. LINEUP_COMMIT (R353, R354, R370; O56). -/

open Sys2Proof Sys2Proof.Machine

namespace Sys2Proof.Proofs

section
variable {s : State} (hc : s.clocked = true)
include hc

theorem exec_lineupCommit : exec .lineupCommit s = .next s.commitLineup.settle := congrArg finish (State.awake_clocked hc State.commitLineup)

theorem commit_idle (h : s.fabRuns = false ∨ s.fab.lubusy = false) : exec .lineupCommit s = .next s.settle := by
  rw [exec_lineupCommit hc, State.commitLineup_idle h]

end

/-- No frame of another line-up is left in a list of them. -/
theorem clean_filters {lun : Nat} {p : FPort} (h : p.Clean lun) : (p.out.filter fun e => decide (e.2.ft = 0 ∧ e.2.lun ≠ lun)) = []
    ∧ (p.held.filter fun e => decide (e.2.1.ft = 0 ∧ e.2.1.lun ≠ lun)) = [] :=
  ⟨List.filter_eq_nil_iff.2 fun e he hs => h.1 e he (of_decide_eq_true hs),
    List.filter_eq_nil_iff.2 fun e he hs => h.2 e he (of_decide_eq_true hs)⟩

section
variable {s : State} (hruns : s.fabRuns = true) (hbusy : s.fab.lubusy = true) (hbench : s.fab.bench = false)
include hruns hbusy hbench

/-! ### A node alone -/

section
variable (hrecs : s.fab.recs = [])
include hrecs

/-- A node alone that is eligible becomes captain. -/
theorem alone_captain (hcapt : s.fab.capt = false) (helig : s.eligible = true) :
    s.commitLineup.fab.capt = true ∧ s.commitLineup.fab.capid = s.nodeId ∧ s.commitLineup.fab.capv = true
    ∧ (s.nodeMsgs = [] → ∃ m ∈ s.commitLineup.coll.outbox, m.cls = 1 ∧ m.kind = 0x19
      ∧ m.ctx = BitVec.ofNat 32 (s.fab.capid % 32 + s.commitLineup.fab.cep * 32 + 4 * 8192)) := by
  obtain ⟨-, -, -, -, -, -, htcapt, htcapid, htcapv, htcep, hcoll⟩ := State.commitLineup_kept hruns hbusy hbench
  obtain ⟨hcc, hci⟩ := cleared_capt (s := s)
  have hset : s.commitSettled = s.commitCleared.takeCaptaincy (topCep [s.commitCleared.selfRec] s.commitCleared.fab.cep) 4 :=
    (settled_alone hrecs).trans (captain_elected (cleared_recs hrecs) (hcc.trans hcapt) ((cleared_eligible hrecs).trans helig))
  have hdone := fun h => done_messages hrecs h
  have hroom := fun h => cleared_room (s := s) h
  have hnode := cleared_node (s := s)
  rw [htcapt, htcapid, htcapv, htcep, hcoll]
  rw [hset] at hdone ⊢
  generalize topCep [s.commitCleared.selfRec] s.commitCleared.fab.cep = top at hdone
  obtain ⟨kcapt, kcapid, kcapv, kcep, -⟩ := s.commitCleared.takeCaptaincy_fab top 4
  refine ⟨kcapt, kcapid.trans hnode.nodeId, kcapv, fun hquiet => ?_⟩
  obtain ⟨m, hm, hcls, hkind, hctx⟩ := s.commitCleared.takeCaptaincy_report top 4 (by have := hroom hquiet; omega)
  rw [hci] at hctx
  rw [kcep]
  exact ⟨m, (List.mem_filter.1 ((hdone hquiet).2 m hm)).1, hcls, hkind, hctx⟩

/-- A node alone that is not eligible has no captain. -/
theorem alone_leaderless (hcapt : s.fab.capt = false) (helig : s.eligible = false) :
    s.commitLineup.fab.capt = false ∧ s.commitLineup.fab.capv = false := by
  obtain ⟨-, -, -, -, -, -, htcapt, -, htcapv, -, -⟩ := State.commitLineup_kept hruns hbusy hbench
  obtain ⟨hcc, -⟩ := cleared_capt (s := s)
  rw [htcapt, htcapv, settled_alone hrecs]
  exact captain_missing (hcc.trans hcapt) ((cleared_eligible hrecs).trans helig)

theorem commit_alone (hc : s.clocked = true) : ∃ t, exec .lineupCommit s = .next t
    ∧ (t.selfRec.gist = s.fab.issued → t.fab.lubusy = false) ∧ t.fab.members = [s.nodeId] ∧ t.fab.lun = (s.fab.rseq + 1) % 256 ∧ t.fab.route = []
    ∧ (s.nodeMsgs = [] → ∃ m ∈ t.coll.outbox, m.cls = 0 ∧ m.kind = 0x16 ∧ m.src = 0x2EF)
    ∧ (s.fab.capt = false → s.eligible = true → t.fab.capt = true ∧ t.fab.capid = s.nodeId ∧ t.fab.capv = true
      ∧ (s.nodeMsgs = [] → ∃ m ∈ t.coll.outbox, m.cls = 1 ∧ m.kind = 0x19
        ∧ m.ctx = BitVec.ofNat 32 (s.fab.capid % 32 + t.fab.cep * 32 + 4 * 8192)))
    ∧ (s.fab.capt = false → s.eligible = false → t.fab.capt = false ∧ t.fab.capv = false) ∧ t.mem = s.mem
    ∧ (∀ k : Fin 3, (t.fab.port[k].out.filter fun e => decide (e.2.ft = 0 ∧ e.2.lun ≠ t.fab.lun)) = []
      ∧ (t.fab.port[k].held.filter fun e => decide (e.2.1.ft = 0 ∧ e.2.1.lun ≠ t.fab.lun)) = []
      ∧ t.fab.port[k].held.map (·.1) = s.fab.port[k].held.map (·.1)) := by
  refine ⟨_, exec_lineupCommit hc, ?_⟩
  obtain ⟨hmembers, hlun, hroute, hgist, hmem, hport, -, -, -, -, hcoll⟩ := State.commitLineup_kept hruns hbusy hbench
  have hcaptain := alone_captain hruns hbusy hbench hrecs
  have hleaderless := alone_leaderless hruns hbusy hbench hrecs
  have hdone := fun h => (done_messages hrecs h).1
  rw [settle_selfRec, State.settle_fab, State.settle_coll, State.settle_mem]
  generalize s.commitLineup = t at hmembers hlun hroute hgist hmem hport hcoll hcaptain hleaderless
  refine ⟨hgist, hmembers.trans (ids_alone hrecs), hlun.trans (lun_alone hrecs), hroute.trans (route_alone hrecs), fun hquiet => ?_, hcaptain,
    hleaderless, hmem, fun k => ?_⟩
  · obtain ⟨m, hm, hcls, hkind⟩ := hdone hquiet
    rw [hcoll]
    obtain ⟨hbox, hsrc⟩ := List.mem_filter.1 hm
    exact ⟨m, hbox, hcls, hkind, of_decide_eq_true hsrc⟩
  · obtain ⟨-, hclean, hheld⟩ := hport k
    rw [← hlun] at hclean
    obtain ⟨hout, hback⟩ := clean_filters hclean
    exact ⟨hout, hback, hheld⟩

end

end

end Sys2Proof.Proofs
end

section
/-! PROOFS. LINEUP_COMMIT at one of two linked nodes (R353; O56). -/

open Sys2Proof Sys2Proof.Machine

namespace Sys2Proof.Proofs

section
variable {s : State} {y : LinkRec} {r : Fin 3} (hrecs : s.fab.recs = [y]) (hbench : s.fab.bench = false) (hup : s.fab.port[r].st = .up)
  (hpeerBench : s.fab.port[r].peerBench = false) (hpeer : s.fab.port[r].peer = y.id) (hybench : y.bench = false) (hid : y.id ≠ s.nodeId)
  (hport : s.portOf y.id = some r) (hlink : y.ports.head? = some (s.nodeId, true))
include hrecs hybench

theorem known_pair : s.commitKnown = [s.selfRec, y] := by
  rw [State.commitKnown, hrecs, List.filter_singleton, hybench]
  rfl

include hbench hup hpeerBench hpeer hid hlink

omit hrecs in
/-- The link of the two nodes is reciprocated. -/
theorem pair_linked : linkedRecs s.selfRec y = true := by
  have hself : s.selfRec.bench = false := hbench
  have hown : s.selfRec.id = s.nodeId := rfl
  have hmine : (s.selfRec.ports.any fun p => p.2 && decide (p.1 = y.id)) = true := by
    refine List.any_eq_true.2 ⟨(s.fab.port[r].peer, decide (s.fab.port[r].st = .up) && !s.fab.port[r].peerBench), ?_, ?_⟩
    · exact List.mem_map.2 ⟨r, List.mem_finRange r, rfl⟩
    · rw [hup, hpeerBench, hpeer]
      simp
  have hyours : (y.ports.any fun p => p.2 && decide (p.1 = s.selfRec.id)) = true :=
    List.any_eq_true.2 ⟨(s.nodeId, true), List.mem_of_mem_head? hlink, by rw [hown]; simp⟩
  rw [linkedRecs, hself, hybench, hmine, hyours, hown]
  simpa using hid.symm

theorem ids_pair : s.commitIds = [s.nodeId, y.id] := by
  have hown : s.selfRec.id = s.nodeId := rfl
  rw [State.commitIds, known_pair hrecs hybench, treeFrom_first (by rw [hown]; exact hid.symm)
    (pair_linked hbench hup hpeerBench hpeer hybench hid hlink)]
  rfl

theorem all_pair : s.commitAll = [s.selfRec, y] := by
  rw [State.commitAll, known_pair hrecs hybench, ids_pair hrecs hbench hup hpeerBench hpeer hybench hid hlink]
  have hown : s.selfRec.id = s.nodeId := rfl
  simp [hown]

theorem lun_pair : s.commitLun = (s.fab.rseq + y.rseq + 2) % 256 := by
  have hrseq : s.selfRec.rseq = s.fab.rseq := rfl
  rw [State.commitLun, all_pair hrecs hbench hup hpeerBench hpeer hybench hid hlink]
  simp [hrseq]

/-- The tree of the two nodes grows from the lower ID. -/
theorem tree_pair : s.commitRoot = min s.nodeId y.id ∧ s.commitTree = if s.nodeId < y.id then [(s.nodeId, 0, s.nodeId), (y.id, 1, s.nodeId)]
    else [(y.id, 0, y.id), (s.nodeId, 1, y.id)] := by
  have hown : s.selfRec.id = s.nodeId := rfl
  have hall := all_pair hrecs hbench hup hpeerBench hpeer hybench hid hlink
  have hlinked := pair_linked hbench hup hpeerBench hpeer hybench hid hlink
  have hne : s.selfRec.id ≠ y.id := by rw [hown]; exact hid.symm
  have hroot : s.commitRoot = min s.nodeId y.id := by
    rw [State.commitRoot, hall]
    simp [hown]
  refine ⟨hroot, ?_⟩
  rw [State.commitTree, hall, hroot]
  split
  · next h =>
    rw [Nat.min_eq_left h.le, ← hown]
    exact treeFrom_first hne hlinked
  · next h =>
    rw [Nat.min_eq_right (by omega), ← hown]
    exact treeFrom_second hne hlinked

include hport

theorem route_pair : s.commitRoute = [(y.id, r.val, 1)] := by
  have hown : s.selfRec.id = s.nodeId := rfl
  obtain ⟨-, htree⟩ := tree_pair hrecs hbench hup hpeerBench hpeer hybench hid hlink
  have hway : routeIn s.commitTree s.nodeId y.id = (y.id, 1) := by
    rw [htree]
    split
    · exact routeIn_down hid.symm
    · exact routeIn_up hid.symm
  rw [State.commitRoute, ids_pair hrecs hbench hup hpeerBench hpeer hybench hid hlink, hown]
  simp [hid, hway, hport]

theorem code_pair : s.commitCode r s.fab.port[r] = if s.nodeId < y.id then 2 else 1 := by
  have hown : s.selfRec.id = s.nodeId := rfl
  obtain ⟨hroot, htree⟩ := tree_pair hrecs hbench hup hpeerBench hpeer hybench hid hlink
  rw [State.commitCode, hpeerBench, hup, hpeer, hport, hroot, htree, hown]
  rw [if_neg (by decide), if_neg (by simp)]
  by_cases h : s.nodeId < y.id
  · rw [if_pos h, if_pos h, Nat.min_eq_left h.le, if_neg (by simp)]
    exact if_pos (by simp [hid])
  · rw [if_neg h, if_neg h, Nat.min_eq_right (by omega)]
    exact if_pos (by simp [hid, hid.symm])

theorem commit_pair (hc : s.clocked = true) (hruns : s.fabRuns = true) (hbusy : s.fab.lubusy = true) : ∃ t, exec .lineupCommit s = .next t
    ∧ t.fab.members = [s.nodeId, y.id] ∧ t.fab.lun = (s.fab.rseq + y.rseq + 2) % 256
    ∧ t.fab.route = [(y.id, r.val, 1)] ∧ t.fab.port[r].tree = (if s.nodeId < y.id then 2 else 1)
    ∧ (t.selfRec.gist = s.fab.issued → t.fab.lubusy = false) := by
  refine ⟨_, exec_lineupCommit hc, ?_⟩
  obtain ⟨hmembers, hlun, hroute, hgist, -, hports, -⟩ := State.commitLineup_kept hruns hbusy hbench
  obtain ⟨htree, -, -⟩ := hports r
  rw [settle_selfRec, State.settle_fab, hmembers, hlun, hroute, htree]
  exact ⟨ids_pair hrecs hbench hup hpeerBench hpeer hybench hid hlink, lun_pair hrecs hbench hup hpeerBench hpeer hybench hid hlink,
    route_pair hrecs hbench hup hpeerBench hpeer hybench hid hport hlink, code_pair hrecs hbench hup hpeerBench hpeer hybench hid hport hlink, hgist⟩

end

end Sys2Proof.Proofs
end

section
/-! PROOFS. The settlement of the statement about records, line-up, system time and captaincy (R350 to R354, R359, R361, R364 to R374; O56). -/

open Sys2Proof Sys2Proof.Machine

namespace Sys2Proof.Proofs

/-- HANDOVER at the captain, and at a node that is not. -/
theorem handover_commanded {s : State} {p : Fin 2} (hw : s.Writable p) (tgt : Fin 32) :
    (s.fab.capt = true → exec (.fabHandover p tgt) s
      = .next (({ s with fab := { s.fab with hand := some (tgt.val, s.now + 25000) } } : State).answered p .ok).settle)
    ∧ (s.fab.capt = false → exec (.fabHandover p tgt) s = .next (s.answered p .ok).settle) := by
  have hexec := handover_command hw tgt
  unfold State.handoverCmd at hexec
  refine ⟨fun h => ?_, fun h => ?_⟩
  · rw [if_pos h] at hexec
    exact hexec
  · rw [if_neg (by rw [h]; decide)] at hexec
    exact hexec

/-- Settles O56: each command of the fabric's node by its state, its records and the frame that arrives. -/
theorem fabricLineupTimeAndCaptaincy : Obligations.FabricLineupTimeAndCaptaincy := by
  unfold Obligations.FabricLineupTimeAndCaptaincy
  intro s p r q bs ts tgt hc fb x inOrder quiet b heard c know newer period near steps treeN
  refine ⟨fun hw => ?_, fun hcapt hr h hh => handover_lapses hc hcapt hr hh, handover_idle hc, beacon_sent hc, beacon_unsent hc,
    fun k hk hup => time_asked hc hk hup, time_unasked hc, ?_, ?_, ?_, ?_, commit_idle hc,
    fun hr hb hbench hrecs => commit_alone hr hb hbench hrecs hc, ?_, ?_, ?_, ?_, ?_, captainTimeout_idle hc, fun h hh => holdover_expired hc hh,
    holdover_none hc⟩
  · obtain ⟨hcaptain, hother⟩ := handover_commanded hw tgt
    exact ⟨lineup_commanded hw, lineup_command_off hw, hcaptain, hother, diffclr_commanded hw⟩
  · rintro ⟨hup, hq⟩ hb
    exact dreq_answered hc hup hq hb ts
  · rintro ⟨hup, hq⟩ htow t1 ht1
    exact drsp_taken hc hup hq htow ht1 bs ts
  · rintro ⟨hup, hq⟩ hser hnews
    exact record_received hc hup hq hser hnews
  · rintro ⟨hup, hq⟩ hknown
    exact record_known hc hup hq hknown
  · intro y _ hrecs hr hbusy hbench hup _ hpeerBench hpeer hybench hid hport hlink
    exact commit_pair hrecs hbench hup hpeerBench hpeer hybench hid hport hlink hc hr hbusy
  · rintro ⟨hup, hq⟩ hbench hnew hcapv hcapt hid hcep hres hhand
    exact beacon_followed hc hup hq hbench hnew hcapv hcapt hid hcep hres hhand
  · rintro ⟨hup, hq⟩ h
    exact beacon_ignored hc hup hq h
  · rintro ⟨hup, hq⟩ hbench hnew
    exact segment_received hc hup hq hbench hnew
  · intro hcapt hcapv hr hrank hres hfell _
    exact captain_silent hc rfl hcapt hcapv hr hrank hres hfell

end Sys2Proof.Proofs
end
